-- ==== Sys2Proof/Word.lean ====
section
/-!
DEFINITION. The words of the block: bytes, 32-bit register words, and the two machine
numbers that are not words (a rational rate, a TIME80 instant in 1/65536 ns).
-/

namespace Sys2Proof

/-- One byte. -/
abbrev Byte := BitVec 8

/-- One 32-bit register of BAR0 (R402). -/
abbrev Word32 := BitVec 32

/-- A relative rate (R178) kept as an exact fraction; the denominator is never 0 where the model makes one. -/
structure Rate where
  num : Int := 0
  den : Nat := 1
  deriving DecidableEq, Repr

end Sys2Proof
end

