-- ==== Sys2Proof/Syntax.lean ====
section
/-!
DEFINITION. The commands of the block: one constructor of `Instr` per row of spec/opcode_table.json,
with the row's operands, and the plain data those operands are made of (frames, messages, samples).
A command is one happening the outside world brings to the device: a write or a read over a path, a
frame at a port, a level at a pin, a measured value, or the expiry of one of the device's own timers.
-/

namespace Sys2Proof

/-! ### Who acts, and where -/

/-- The three access paths of the dictionary (R318), and the two writers inside the device that the
spec lets write entries: a bundle (R334) and an RPDO (R375). -/
inductive Path where
  | can | host | mgmt | bundle | rpdo
  deriving DecidableEq, Repr

/-- The originator of an access: its path and, if it speaks in a client session, that session's number (R320). -/
structure Writer where
  path : Path
  session : Option (Fin 8) := none
  deriving DecidableEq, Repr

/-- The coupler ports in the numbering of R168. -/
inductive Cpl where
  | fa | fb | aa | ab
  deriving DecidableEq, Repr

/-- The number of a coupler port (R168). -/
def Cpl.no : Cpl → Nat | .fa => 0 | .fb => 1 | .aa => 2 | .ab => 3

/-- The two backbone channels. -/
inductive Chan where
  | a | b
  deriving DecidableEq, Repr

/-- The two directions along a line (R141). -/
inductive Dir where
  | rearward | leadward
  deriving DecidableEq, Repr

/-- The two sides of a device (R11). -/
inductive Side where
  | fore | aft
  deriving DecidableEq, Repr

/-- The network-time domains (R192). -/
inductive Dom where
  | ta | tb
  deriving DecidableEq, Repr

/-- A value of a dictionary entry (R344): a number (BOOLEAN, the integers, TIME80 in 1/65536 ns) or bytes
(strings, OCTET_STRING, DOMAIN). -/
inductive Val where
  | num (v : Int)
  | bytes (b : List Byte)
  deriving DecidableEq, Repr

/-! ### Access -/

/-- One dictionary access (R343, R345): who, and which entry. -/
structure Access where
  writer : Writer
  index : Nat
  sub : Nat
  deriving DecidableEq, Repr

/-- What a REGISTER_WRITE writes (R347, R348, R399, R401): a whole entry, one segment of a DOMAIN, a BAR0
register over PCIe with its byte enables or over the Quad-SPI target, or a malformed Quad-SPI transaction. -/
inductive WriteTarget where
  | entry (a : Access) (data : List Byte)
  | segment (a : Access) (total offset : Nat) (data : List Byte)
  | bar0 (offset : Nat) (byteEnables : BitVec 4) (value : Word32)
  | qspiMalformed
  deriving DecidableEq, Repr

/-! ### Certificates, as the enclave sees them (R315). The arithmetic of ECDSA and X.509 is the enclave's;
a chain is presented by what its checks read. -/

/-- A role chain as presented: what each check of R315 reads. -/
structure Chain where
  wellFormed : Bool
  role : Fin 5
  /-- Scope entries: `(isVehicle, number)`; empty covers every device of the owner. -/
  scope : List (Bool × Nat)
  /-- Certificates above the role certificate (0 or 1 allowed). -/
  intermediates : Nat
  /-- Hash of the root the chain ends in. -/
  rootHash : List Byte
  signaturesVerify : Bool
  /-- Serials of the role and intermediate certificates. -/
  serials : List (List Byte)
  /-- Validity, in TIME80 units. -/
  notBefore : Nat
  notAfter : Nat
  deriving DecidableEq, Repr

/-- A peer device's certificate as R321 reads it. -/
structure DeviceCert where
  identity : BitVec 64
  chainsToGwynrex : Bool
  serial : List Byte
  ownerHash : List Byte
  claimed : Bool
  deriving DecidableEq, Repr

/-- Who opens a session (R319, R322): a client on a path, by its role chain, or a device, by its certificate. -/
inductive Hello where
  | client (p : Path) (c : Chain)
  | node (c : DeviceCert)
  deriving DecidableEq, Repr

/-- Whose session a message belongs to. -/
inductive Peer where
  | client (p : Path) (n : Fin 8)
  | node (id : BitVec 64)
  deriving DecidableEq, Repr

/-! ### Backbone frames -/

/-- The Limiwyn header (R160). -/
structure Header where
  major : BitVec 4 := 1
  minor : BitVec 4 := 2
  ptype : BitVec 4
  channel : Chan
  dir : Dir
  openWater : Bool := false
  passive : Bool := false
  berth : Nat
  mode : Fin 16
  flight : BitVec 32
  passage : Fin 64
  slotIndex : Nat
  length : Nat
  hash : BitVec 32
  deriving DecidableEq, Repr

/-- One CAN frame (R439, R460): identifier with bit 31 for the extended format. -/
structure CanFrame where
  ident : BitVec 32
  fd : Bool := false
  brs : Bool := false
  esi : Bool := false
  remote : Bool := false
  dlc : Fin 16
  data : List Byte
  deriving DecidableEq, Repr

/-- One record of a CAN_TUNNEL payload (R455). -/
structure TunnelRecord where
  stamp : BitVec 32
  port : Nat
  frame : CanFrame
  deriving DecidableEq, Repr

/-- A slot frame at a coupler ingress (R158): its header, whether FCS and ICV hold, the stream_id of its
sender, and the records where it is a CAN_TUNNEL frame. -/
structure SlotFrame where
  hdr : Header
  sender : BitVec 64
  fcsOk : Bool := true
  icvOk : Bool := true
  protectedFrame : Bool := true
  group : Nat := 0
  tunnel : List TunnelRecord := []
  deriving DecidableEq, Repr

/-- The open-water payload types (R155). -/
inductive OwType where
  | mgmt | lock | logCollect
  deriving DecidableEq, Repr

/-- An open-water frame (R155, R156, R359). -/
structure OwFrame where
  otype : OwType
  hdr : Header
  bytes : Nat
  destination : BitVec 64
  fcsOk : Bool := true
  icvOk : Bool := true
  deriving DecidableEq, Repr

/-- The SYNC payload (R182) with what R186 reads of its frame. -/
structure SyncFrame where
  channel : Chan
  dir : Dir
  slot : Nat
  order : Nat
  senderInSync : Bool
  coldStartNode : Bool
  correction : Int
  hops : Nat
  streamId : BitVec 64
  senderBerth : Nat
  frameOk : Bool
  length : Nat
  deriving DecidableEq, Repr

/-- The STATUS payload (R161, R191, R229, R283). -/
structure Status where
  channel : Chan
  viaTow : Bool := false
  berth : Nat
  accepted : Bool
  membership : BitVec 64
  hash : BitVec 32
  activeMode : Fin 16
  proposedMode : Fin 16
  proposal : Bool
  holds : Bool
  makingUp : Bool
  syncCapable : Bool
  templateHash : BitVec 32
  proposalFlight : BitVec 32
  progress : Nat
  leadDelay : Nat
  rearDelay : Nat
  identity : BitVec 64
  timeState : Nat
  valuesUsed : Nat
  lastCorrection : Int
  rearLoop : Nat
  muState : Nat
  muGeneration : BitVec 16
  muFlight : BitVec 32
  /-- R229, byte 49: fore side complete, aft side complete, agree, joining. -/
  foreComplete : Bool := false
  aftComplete : Bool := false
  agree : Bool := false
  joining : Bool := false
  paired : Bool
  motor : Bool
  /-- R283: unit B, PAIR_XDIS_OUT held, pair state, resynchronisation in %, low 32 bits of the partner's identity. -/
  unitB : Bool := false
  xdisHeld : Bool := false
  pairState : Nat := 0
  resync : Nat := 0
  partner : BitVec 32 := 0
  leadHeardA : Bool
  leadHeardB : Bool
  rearHeardA : Bool
  rearHeardB : Bool
  /-- The port the frame came in on, if it came in on a port. -/
  port : Option Cpl
  /-- The flight number in the frame's header: the flight in which the berth sent it (R164). -/
  sentIn : BitVec 32 := 0
  deriving DecidableEq, Repr

/-- The MAKE_UP payload (R217) but for the authentication fragment, which has rows of its own. -/
structure MakeUp where
  integrated : Bool
  joining : Bool
  cab : Bool
  syncCapable : Bool
  paired : Bool
  conflict : Bool
  generation : BitVec 16
  sender : BitVec 64
  partner : BitVec 64
  vehicle : BitVec 32
  set : BitVec 16
  position : Nat
  rank : Nat
  aftPort : Bool
  berth : Int
  complete : Bool
  agree : Bool
  beyondLimit : Bool
  positions : Nat
  vehicles : Nat
  sets : Nat
  sum : BitVec 32
  endIdentity : BitVec 64
  endCab : Bool
  endWasLead : Bool
  endRank : Nat
  endCabTime : Nat
  hash : BitVec 32
  appFlight : BitVec 32
  appValid : Bool
  timeLead : BitVec 64
  timeLeadRank : Nat
  passageCode : Nat
  mode : Fin 16
  timeState : Nat
  egressCt : Nat
  flight : BitVec 32
  localDiff : Int
  exchange : Nat
  adoptAt : Nat
  adoptStep : Int
  adoptValid : Bool
  asymmetry : Int
  /-- The frame came under MACsec, and its FCS and ICV hold (R219). -/
  protectedFrame : Bool := false
  frameOk : Bool := true
  deriving DecidableEq, Repr

/-- One position of the consist that a making-up agreed, with what R19, R21, R183 and R192 read of it. -/
structure Berthed where
  identity : BitVec 64
  /-- The identity of the pair at this position (R282), 0 for a single device. -/
  pairId : BitVec 64 := 0
  berth : Nat
  /-- Vehicle number, set number and position number. -/
  vehicle : Nat
  set : Nat
  position : Nat
  forward : Bool
  rank : Nat
  syncCapable : Bool
  offersTa : Bool
  offersTb : Bool
  /-- The names of its enabled camera slots, and of its enabled displays. -/
  cameras : List (List Byte)
  displays : List (List Byte) := []
  deriving DecidableEq, Repr

/-- The COLD_START payload (R221). -/
structure ColdStart where
  rank : Nat
  passage : Nat
  sender : BitVec 64
  egress : Nat
  hops : Nat
  pathDelay : Nat
  hash : BitVec 32 := 0
  valid : Bool := true
  deriving DecidableEq, Repr

/-- The CONSENT payload (R262). -/
structure Consent where
  channel : Chan
  dir : Dir
  agreed : Bool
  override : Bool
  token : BitVec 16
  vector : BitVec 64
  flight : BitVec 32
  deriving DecidableEq, Repr

/-- A frame at a star port (R138, R255): a configured camera stream's, a gPTP message, or anything else. -/
inductive StarFrame where
  | stream (streamId : BitVec 64) (bytes : Nat)
  | gptp
  | other
  deriving DecidableEq, Repr

/-! ### Video -/

/-- One CSI long packet (R27, R48): what the receiver reads of it. -/
structure CsiPacket where
  vc : Nat
  dataType : BitVec 6
  extensionBits : Bool := false
  /-- 0 header good, 1 corrected, 2 uncorrectable (R27). -/
  ecc : Fin 3 := 0
  crcOk : Bool := true
  /-- Samples of the line (code values), in order of arrival. -/
  samples : List Nat
  /-- TRUE where the line FIFO has no room for it. -/
  fifoFull : Bool := false
  deriving DecidableEq, Repr

/-- One RVF packet of a network camera (R36, R38). -/
structure RvfPacket where
  sequence : BitVec 8
  timestamp : BitVec 32
  firstLine : Nat
  lines : List (List Nat)
  lastOfFrame : Bool
  deriving DecidableEq, Repr

/-- A view definition a displaying device sends (R76), with the envelope of its stream (R127) and the
instance it asks for. -/
structure ViewDef where
  requester : BitVec 64
  requesterBerth : Nat
  view : Fin 16
  instanceNo : Nat
  slot : Fin 8
  width : Nat
  height : Nat
  mesh : List Byte
  bicubic : Bool
  window : Nat
  fill : BitVec 32
  panMode : Nat
  panPort : Nat
  panIdent : BitVec 32
  panStart : Nat
  panLength : Nat
  panSigned : Bool
  panScale : Int
  panOffset : Int
  panGain : Int
  panLimit : Nat
  panRate : Nat
  panTimeout : Nat
  panFallback : Int
  sliceHeight : Nat
  bitsPerPixel : Nat
  streamNumber : Nat
  lineTime : Nat
  maxExposure : Nat
  readDelay : Nat
  groupHeight : Nat
  rowTolerance : Nat
  anchor : Nat
  period : Nat
  fraction : Nat
  phase : Nat
  /-- The flight at whose start the binding or the changed definition applies (R76, R77). -/
  applies : BitVec 32 := 0
  /-- The instance is local to the display's device. -/
  local_ : Bool
  deriving DecidableEq, Repr

/-- The slice header (R92). -/
structure SliceHeader where
  version : BitVec 4 := 1
  heightCode : BitVec 2
  slicesPerLine : BitVec 2
  damaged : Bool
  checkFailed : Bool
  reserved : BitVec 6 := 0
  /-- Byte 15. -/
  reserved15 : Byte := 0
  bitsPerPixel : Nat
  epoch : BitVec 8
  source : BitVec 64
  stream : Nat
  instanceNo : Nat
  frame : BitVec 32
  index : Nat
  perFrame : Nat
  fragment : Nat
  fragments : Nat
  exposure : BitVec 32
  encode : BitVec 32
  deriving DecidableEq, Repr

/-! ### Field, power and host samples -/

/-- The boot images (R331). -/
structure Image where
  version : BitVec 32
  security : Nat
  bytes : Nat
  signatureOk : Bool
  deriving DecidableEq, Repr

/-- One entry of a bundle (R334). -/
structure BundleEntry where
  index : Nat
  sub : Nat
  data : List Byte
  deriving DecidableEq, Repr

/-- A signed bundle as presented (R334). -/
structure BundleObj where
  sequence : Nat
  /-- `none`: all of the owner's devices; else `(isVehicle, number)`. -/
  scope : Option (Bool × Nat)
  commit : Bool
  entries : List BundleEntry
  chain : Chain
  signatureOk : Bool
  deriving DecidableEq, Repr

/-- A logbook clear token as presented (R335). -/
structure ClearTokenObj where
  wellFormed : Bool
  identity : BitVec 64
  number : Nat
  mask : BitVec 64
  chain : Chain
  signatureOk : Bool
  deriving DecidableEq, Repr

/-- The message types of the lock (R423). -/
inductive LockType where
  | write | read | readData | ack | report | retry | declare | summaryPoll | summary
  deriving DecidableEq, Repr

/-- A lock message header (R422) with its data; `origin` is the sender's identity. -/
structure LockMsg where
  origin : BitVec 64
  originBerth : Nat
  prefetch : Bool := false
  readSensitive : Bool := false
  length : Nat
  tag : Nat
  cause : Nat := 0
  offset : Nat
  destination : BitVec 64
  data : List Byte
  /-- Tags named by an ACK or RETRY. -/
  tags : List Nat := []
  /-- The byte enables of a WRITE (R418), byte by byte; beyond the list every byte is enabled. -/
  enables : List Bool := []
  deriving DecidableEq, Repr

/-- One dictionary operation of a session request (R320) or of a mailbox request of kind 0 (R360). -/
inductive DictOp where
  | read (index sub offset : Nat)
  | write (index sub : Nat) (data : List Byte)
  | segment (index sub total offset : Nat) (data : List Byte)
  deriving DecidableEq, Repr

/-- What a DICT_READ reads (R348, R399): a whole entry, a segment of one from an offset, or a BAR0 register. -/
inductive ReadTarget where
  | entry (index sub : Nat)
  | segment (index sub offset : Nat)
  | bar0 (offset : Nat)
  deriving DecidableEq, Repr

/-- A message of a client session (R319, R320), as the enclave reads it. -/
inductive SessionMsg where
  | hello (c : Chain)
  | finish (n : Fin 8) (seq : Nat) (sigOk : Bool)
  | request (n : Fin 8) (seq : Nat) (tagOk : Bool) (op : DictOp)
  | close (n : Fin 8) (seq : Nat) (tagOk : Bool)
  deriving DecidableEq, Repr

/-- What a management message says, read once it is whole (R322, R359): a node request, a source's answer to a view
definition (R76, R127) with what a displaying device reports of it (R86), a message of a relayed client session, or the
response to one. -/
inductive MgmtContent where
  | request (op : DictOp)
  | viewAnswer (view instanceNo : Nat) (reason breach need : Nat) (pan : Int) (signal : Nat)
  | relayed (data : List Byte)
  | response (status : Nat) (data : List Byte)
  deriving DecidableEq, Repr

/-- An MGMT frame (R358): one chunk of a message. -/
structure MgmtFrame where
  destination : BitVec 64
  origin : BitVec 64
  number : Nat
  total : Nat
  offset : Nat
  length : Nat
  content : MgmtContent
  deriving DecidableEq, Repr

/-- A host request to BAR2 (R418): offset, then the bytes and their enables, or how many bytes are wanted. -/
inductive Bar2Access where
  | write (offset : Nat) (data : List Byte) (enables : List Bool)
  | read (offset n : Nat)
  deriving DecidableEq, Repr

/-- An input that a pair acts on together (R284). -/
inductive PairInput where
  | can (port : Nat) (f : CanFrame) (stamp : Int)
  | field (channel : Nat) (level : Bool) (stamp : Int)
  | mgmt (f : MgmtFrame)
  | lock (t : LockType) (m : LockMsg)
  | host (w : WriteTarget)
  | ibi (port : Nat) (stamp : Int) (payload : List Byte)
  | capture (input : Nat) (rising invalid : Bool) (stamp : Int)
  | bar2 (x : Bar2Access)
  deriving DecidableEq, Repr

/-- The digests of one passage (R288): the whole and the 8 classes. -/
structure Digests where
  flight : BitVec 32
  passage : Fin 64
  whole : BitVec 64
  classes : List (BitVec 64)
  deriving DecidableEq, Repr

/-- What comes over the tow line (R278, R284 to R289, R292): a replicated input with its stamp, digests, the votes of
the partner (R260), the channel commands the motor reports (R479), a verified slice with its data (R285), a SYNC value
(R186), a self-check result (0 passes, else the reason of R304), the own value of R225, the slot chosen for a fragment
(R286), and the start and the size in KiB of a snapshot (R301). -/
inductive TowInput where
  | input (stamp : Int) (x : PairInput)
  | digests (d : Digests)
  | votes (any : Bool)
  | command (channels : BitVec 16)
  | slice (h : SliceHeader) (data : List (List Byte))
  | syncValue (order : Nat) (channel : Chan) (value : Int)
  | selfCheck (reason : Nat)
  | hello (identity : BitVec 64) (vehicle position unit : Nat) (firmware : Nat) (authenticated failed : Bool)
  | ownSum (value : Nat)
  /-- What a unit's ports of a side carry for the making-up (R225): a keyed link that is up, and the summary heard. -/
  | summary (fore link : Bool) (m : Option MakeUp)
  | snapshot (kib : Nat)
  /-- The slots the motor chose for the fragments of a slice (R286): stream, instance, frame, slice index, and for each
  fragment the passage (flight × 64 + passage) and the line-time offset. -/
  | choice (stream inst frame index : Nat) (slots : List (Nat × Nat))
  /-- A line group of a camera slot as it leaves ingest (R285): slot, frame, signalled missing, rows with their samples. -/
  | lines (slot frame : Nat) (missing : Bool) (rows : List (Nat × List Nat))
  /-- A request or a takeover message between the units (R290, R296, R306): 1 resynchronisation, 2 planned exchange,
  3 a takeover begins, 4 a takeover is complete. -/
  | control (what : Nat)
  /-- A collection request addressed to the pair, which the butty passes on (R359, R496, R497). -/
  | collect (origin number mask parts : Nat)
  /-- What the motor decided a position shows (R107, R285): display, region, display frame, slice; the frame counter shown,
  whether it is current, and whether it is shown for the first time. -/
  | decision (display region m j : Nat) (frame : Option Nat) (current first : Bool)
  deriving DecidableEq, Repr

/-- The outcome of a bus transfer (CCI or MDIO). -/
inductive BusResult where
  | ok (value : Nat)
  | nack
  | timeout
  deriving DecidableEq, Repr

/-- What held an uncorrectable SRAM word outside the firmware working memory (R518): nothing of a rule, a slice (stream,
instance, frame counter, slice index), or a lock request of this device by its tag. -/
inductive SramData where
  | other
  | slice (stream inst frame index : Nat)
  | lock (tag : Nat)
  deriving DecidableEq, Repr

/-- Whether an uncorrectable word lay in the firmware working memory, and what the others held (R518). -/
structure ScrubFinding where
  firmware : Bool
  lost : SramData
  deriving DecidableEq, Repr

/-- The domain and sequence number of a gPTP message (R192, R193). -/
structure GptpId where
  domain : Fin 128
  seqNo : Nat
  deriving DecidableEq, Repr

/-- A Pdelay_Req with the fine part of its ingress stamp (R193). -/
structure PdelayReq where
  seqNo : Nat
  fine : Fin 32
  deriving DecidableEq, Repr

/-- An Announce message (R192). -/
structure GptpAnnounce where
  domain : Fin 128
  grandmaster : BitVec 64
  deriving DecidableEq, Repr

/-- A CSI short packet (R27): its virtual channel, and what its header's ECC found: 0 no error, 1 one that it corrected, 2
one that it did not. -/
structure ShortPacket where
  vc : Fin 16
  ecc : Fin 3
  deriving DecidableEq, Repr

/-- An in-band interrupt of a port, with its payload of up to 4 bytes (R30, R31). -/
structure InBandInterrupt where
  port : Fin 4
  payload : List Byte
  deriving DecidableEq, Repr

/-- The collector and the target of a collection request (R497). -/
structure CollectRoute where
  origin : BitVec 64
  destination : BitVec 64
  deriving DecidableEq, Repr

/-! ### The commands -/

/-- The commands, in the order of the table. An operand `w` is who writes, `s`-like times are the block's own counter; an
operand `fine` is a part of a tick of 3.2 ns in 1/32, `ago` a number of ticks back. -/
inductive Instr where
  | flightBoundary (roster : List Berthed) (ended : List (Nat × Nat × Nat))
  | passageStart
  | registerWrite (t : WriteTarget)
  | dictRead (w : Writer) (t : ReadTarget)
  | counterClear (a : Access) (data : List Byte)
  | segmentTimeout (a : Access) (write : Bool)
  | commit (w : Writer)
  | commitStoreDone
  | discard (w : Writer)
  | stagingIdleTimeout
  | operationCancel (w : Writer) (k : Fin 7) (v : Byte)
  | storedEntryWrite
  | activeCabChange (on : Bool)
  | makeUpRequest (w : Writer) (v : Byte)
  | makeUpSend (p : Cpl)
  | makeUpReceived (p : Cpl) (h : Header) (m : MakeUp) (fine : Fin 32)
  | makeUpTimeout
  | listenTimerExpired
  | coldStartReceived (p : Cpl) (dir : Dir) (f : ColdStart) (res : Nat) (fine : Fin 32)
  | attemptComplete
  | integrateTimeout
  | adoptionMeasurementEnd
  | ctAdoption
  | linkUp (p : Cpl) (rate : Fin 4)
  | linkDown (p : Cpl)
  | linkLimitCleared (p : Cpl)
  | starLinkChange (p : Fin 8) (up : Bool)
  | mdioPoll (star : Bool) (p : Fin 8) (r : BusResult)
  | mdioRead (w : Writer)
  | mdioWrite (w : Writer)
  | mdioAccessDone (r : BusResult)
  | slotFrameReceived (p : Cpl) (f : SlotFrame) (fine : Fin 32)
  | slotFrameCut (p : Cpl) (idx : Fin 256)
  | slotForwardRelease (p : Cpl) (idx : Fin 256)
  | slotOriginate (p : Cpl) (idx : Fin 256)
  | openWaterFrameReceived (p : Cpl) (f : OwFrame) (fine : Fin 32)
  | openWaterSend (p : Cpl)
  | statusReceived (x : Status)
  | modeRequest (w : Writer) (v : Byte)
  | passageMarkerFire (i : Fin 8)
  | starFrameReceived (p : Fin 8) (f : StarFrame) (fcsOk : Bool) (fine : Fin 32)
  | filterUnblock (w : Writer) (p : Fin 8) (v : Byte)
  | syncReceived (p : Cpl) (f : SyncFrame) (fine : Fin 32)
  | offsetCorrection
  | holdoverLimitExpired
  | gptpSyncReceived (p : Fin 8) (m : GptpId) (fine : Fin 32)
  | gptpFollowUpReceived (p : Fin 8) (m : GptpId) (origin : Int)
  | gptpPdelayReqReceived (p : Fin 8) (m : PdelayReq)
  | gptpPdelayRespReceived (p : Fin 8) (t2 t3 : Int) (fine : Fin 32)
  | gptpAnnounceReceived (p : Fin 8) (m : GptpAnnounce)
  | gptpSyncTimeout (p : Fin 8)
  | gptpSyncSend (p : Fin 8)
  | gptpAnnounceSend (p : Fin 8)
  | gptpPdelayReqSend (p : Fin 8)
  | domainRelationStale (d : Dom)
  | domainAbsent (d : Dom)
  | relationWrite (d : Dom) (origin : BitVec 64) (ref : Int) (rel : List Byte)
  | selectionRequest (w : Writer) (v : Byte)
  | ntSwitchAnnounce (d : Dom) (tsw : Int) (sigma : Nat)
  | ntSwitchInstant
  | ntSlewEnd
  | ntFallback
  | tmSnap (v : Word32)
  | arm (w : Writer) (i : Fin 12) (data : List Byte)
  | timePulseEdge (i : Fin 12)
  | timePulseEnd (i : Fin 12)
  | timeCaptureEdge (c : Fin 4) (rising : Bool) (fine : Fin 32)
  | removeOldest (w : Writer) (c : Fin 4) (v : Byte)
  | genlockPulse (n : Fin 8)
  | trigger (n : Fin 8)
  | frameStart (p : Fin 4) (x : ShortPacket) (fine : Fin 32)
  | csiLongPacket (p : Fin 4) (k : CsiPacket)
  | frameEnd (p : Fin 4) (x : ShortPacket)
  | csiSotError (p : Fin 4)
  | frameStartWindowExpired (n : Fin 8)
  | rvfPacketReceived (n : Fin 8) (k : RvfPacket)
  | cameraLockTimeout (n : Fin 8)
  | cameraLostTimeout (n : Fin 8)
  | cameraFaultTimeout (n : Fin 8)
  | cciScriptEntryDone (p : Fin 4) (r : BusResult)
  | cciScriptDelayExpired (p : Fin 4)
  | cciScriptWaitTimeout (p : Fin 4)
  | cciIbiReceived (x : InBandInterrupt)
  | cciHotJoin (p : Fin 4)
  | cciAccessRead (w : Writer)
  | cciAccessWrite (w : Writer)
  | cciAccessDone (slot : Option (Fin 8)) (r : BusResult)
  | panTimeout (requester : BitVec 64) (view : Fin 16) (inst : Nat)
  | viewDefinitionReceived (d : ViewDef)
  | warpSliceProduced (requester : BitVec 64) (view : Fin 16) (inst : Nat)
  | sliceEncoded (requester : BitVec 64) (view : Fin 16) (inst : Nat)
  | sliceFragmentReceived (c : Chan) (h : SliceHeader) (data : List Byte) (tagOk : Bool)
  | sliceForward (n : Fin 8)
  | panelScriptEnd (d : Fin 2)
  | displayFrameStart (d : Fin 2) (fine : Fin 32)
  | sliceCutOff (d : Fin 2) (i : Fin 6) (j m : Nat)
  | sliceEmitted (d : Fin 2) (i : Fin 6) (j : Nat) (fine : Fin 32)
  | displayFrameEnd (d : Fin 2)
  | consentReceived (p : Cpl) (t : Consent)
  | voteIdleExpired (v : Fin 7)
  | awakeTimerExpired
  | phySleepComplete
  | wakeInEdge
  | remoteWake (p : Cpl)
  | canWup (c : Fin 4)
  | canWuf (c : Fin 4) (f : CanFrame)
  | fieldWakeRequest (k : Fin 16)
  | wakeDwellEnd
  | wakeAccepted
  | wakeProbe (p : Cpl)
  | towLaneLoss (lanes : Fin 5)
  | towLineLost
  | towLineUp (lanes : Fin 5)
  | towInputReceived (x : TowInput)
  | digestWindowEnd (passage : Fin 64)
  | selfCheckResult (enclaveOk driveOk deadline : Bool)
  | roleInFall
  | xdisInRise
  | mbbOverlapEnd (notOn : BitVec 16)
  | claimDelayExpired
  | pairFormingTimeout
  | resynchronisationRequest (w : Writer) (v : Byte)
  | plannedExchange (w : Writer) (v : Byte)
  | snapshotSent (kib : Nat) (tooLong : Bool)
  | replayLevel
  | claimEnLow
  | claimWindowExpired
  | ownerRootWrite (w : Writer) (cert : List Byte)
  | claimCommand (w : Writer) (v : Byte) (caOk selfSigned : Bool)
  | release (w : Writer) (data : List Byte)
  | hello (h : Hello)
  | finish (h : Peer) (seq : Nat) (sigOk : Bool)
  | sessionRequest (p : Path) (n : Fin 8) (seq : Nat) (tagOk : Bool) (op : DictOp)
  | sessionClose (p : Path) (n : Fin 8) (seq : Nat) (tagOk : Bool)
  | sessionIdleTimeout (n : Fin 8)
  | revocationWrite (w : Writer) (data : List Byte)
  | peerOwnerWrite (w : Writer) (i : Fin 8) (data : List Byte)
  | flushCache (w : Writer) (v : Byte)
  | cacheEntryExpiry (identity : BitVec 64)
  | offer (p : Cpl) (identity : BitVec 64) (exchange : BitVec 32) (cacheFlag : Bool)
  | certs (p : Cpl) (c : DeviceCert)
  | proof (p : Cpl) (sigOk : Bool)
  | resume (p : Cpl) (hmacOk : Bool)
  | confirm (p : Cpl) (hmacOk : Bool)
  | refuse (p : Cpl)
  | authRetryTimer (p : Cpl)
  | rekeyTrigger (p : Cpl)
  | rekeyOffer (p : Cpl) (identity : BitVec 64)
  | rekeyConfirm (p : Cpl) (hmacOk : Bool)
  | streamKeyDelivery (source : BitVec 64) (view : Fin 16) (inst epoch : Nat)
  | streamKeyAck (sink : BitVec 64) (view : Fin 16) (inst epoch : Nat)
  | imageLoad (w : Writer) (img : Image)
  | selectImage (w : Writer) (v : Byte)
  | healthTimeout
  | advanceRollbackFloor (w : Writer) (v : Byte)
  | bundle (w : Writer) (b : BundleObj)
  | closeArm (w : Writer) (data : List Byte)
  | closeConfirm (w : Writer) (c : Chain) (sigOk : Bool)
  | challengeExpired
  | debugUnlock (w : Writer) (v : Byte)
  | lastKnownTimeStore
  | mgmtFrameReceived (f : MgmtFrame)
  | mgmtReassemblyTimeout (origin : BitVec 64) (number : Nat)
  | mgmtResponseTimeout (p : Path)
  | relayRequest (w : Writer) (data : List Byte)
  | sdoTimeout
  | go (cmd : Word32)
  | abort
  | hpMbRack (v : Word32)
  | mailboxIdleTimeout
  | hpErrClear (v : Word32)
  | functionLevelReset
  | pcieLinkChange (up msixEnabled : Bool)
  | egClaim (t : Fin 4)
  | egDone (t : Fin 4) (v : Word32)
  | egPendSet (word : Fin 8) (v : Word32)
  | egPendClr (word : Fin 8) (v : Word32)
  | egMaskSet (word : Fin 8) (v : Word32)
  | egMaskClr (word : Fin 8) (v : Word32)
  | egOvrSet (word : Fin 8) (v : Word32)
  | egOvrClr (word : Fin 8) (v : Word32)
  | egTctrl (t : Fin 4) (v : Word32)
  | bar2Write (offset : Fin 67108864) (data : List Byte) (enables : List Bool)
  | bar2Read (offset : Fin 67108864) (n : Nat)
  | write (m : LockMsg) (free ecc : Bool)
  | read (m : LockMsg) (free ecc : Bool)
  | readData (m : LockMsg)
  | ack (m : LockMsg)
  | report (m : LockMsg)
  | retry (m : LockMsg)
  | declare (m : LockMsg)
  | summaryPoll (m : LockMsg)
  | summary (m : LockMsg)
  | summaryStale (b : Fin 64)
  | lockWriteTimeout (tag : Fin 256)
  | lockReadTimeout (n : Fin 64)
  | prefetchLineExpiry
  | lkFence (v : Word32)
  | lkErrPop (v : Word32)
  | canFrameReceived (c : Fin 4) (f : CanFrame) (ago : Nat)
  | tunnelRelease
  | txRequest (w : Writer) (c : Fin 4) (b : Fin 3)
  | txAbort (w : Writer) (c : Fin 4) (b : Fin 3)
  | canTxComplete (c : Fin 4) (ago : Nat)
  | canBusError (c : Fin 4) (tx : Bool) (kind : Fin 7) (dataPhase : Bool)
  | recoveryRequest (w : Writer) (c : Fin 4) (v : Byte)
  | busOffRecovered (c : Fin 4)
  | rxRelease (w : Writer) (c : Fin 4) (o : Fin 24) (v : Byte)
  | startDetection (w : Writer) (c : Fin 4) (v : Byte)
  | detectionTimeout (c : Fin 4)
  | nmtStart (node : Fin 128)
  | nmtStop (node : Fin 128)
  | nmtEnterPreoperational (node : Fin 128)
  | nmtResetNode (node : Fin 128)
  | nmtResetCommunication (node : Fin 128)
  | sync (data : List Byte)
  | rpdoReceived (k : Fin 8) (data : List Byte)
  | rpdoTimeout (k : Fin 8)
  | tpdoEventTimer (k : Fin 8)
  | timeProduce
  | heartbeatProduce
  | heartbeatReceived (node : Fin 128)
  | heartbeatTimeout (i : Fin 4)
  | emcyInhibitExpired
  | command (w : Writer) (k : Fin 16) (v : Byte)
  | overcurrentTrip (k : Fin 16) (phase : Fin 3)
  | tripRetry (k : Fin 16)
  | groupOverload (g : Fin 2) (currents : List Nat)
  | thermalShutdown (k : Fin 16) (hot : Bool)
  | readbackMismatch (k : Fin 16) (high : Bool)
  | openLoad (k : Fin 16) (isOpen : Bool)
  | externalDrive (k : Fin 16) (present : Bool)
  | reverse (k : Fin 16) (above : Bool)
  | latchedFlagClear (w : Writer) (k : Fin 16) (mask : BitVec 16)
  | fieldInputChange (k : Fin 16) (pin : Bool) (ago : Nat)
  | supplySag (g : Fin 2) (mv : Nat)
  | supplySagEnd (g : Fin 2) (mv : Nat)
  | supplyOff (g : Fin 2) (mv : Nat)
  | supplyRestore (g : Fin 2)
  | restoreRequest (w : Writer) (v : Byte)
  | overvoltage (g : Fin 2) (mv : Nat)
  | dieLinkLoss (up : Bool)
  | reportWrite
  | clearToken (w : Writer) (t : ClearTokenObj)
  | startCollection (w : Writer) (v : Byte)
  | logCollectRequest (route : CollectRoute) (number : BitVec 32) (mask : BitVec 64) (parts : BitVec 8)
  | logCollectData (number offset : BitVec 32) (data : List Byte)
  | logCollectEnd (number : BitVec 32)
  | logCollectRefused (number : BitVec 32) (code : Byte)
  | logCollectCancel (origin : BitVec 64) (number : BitVec 32)
  | collectionTimeout
  | histogramSample (h : Fin 24) (v : Int)
  | histogramStore
  | porRelease (hostSel : BitVec 2) (claimEn : Bool)
  | bootImageVerified (image : Fin 3) (micros : Nat)
  | ready (micros : Nat)
  | railWarning (r : Fin 7) (mv : Nat)
  | railFailure (r : Fin 6) (mv : Nat)
  | vaonLoss
  | quietRequest (w : Writer) (v : Byte)
  | islandRestart (i : Fin 30)
  | referenceFault (lasting : Bool)
  | referenceLossReset
  | warmReset
  | watchdogExpiry
  | safetyMonitorFault (kind : Fin 4) (inst : Nat)
  | resetRequest (w : Writer) (v : Byte)
  | debugReset
  | avsStep (target measured : Nat)
  | sramScrub (corrected uncorrectable : Nat) (x : ScrubFinding)
  | scrubRequest (w : Writer) (v : Byte)
  | mramScrubStart
  | mramScrubChunk (corrected : Nat) (bad : List Nat)
  | temperatureSample (t : Fin 8) (tenths : Int)
  | vaonRise (porN : Bool)
  | porNLow
  | resetRelease (claimEn : Bool)
  | pairRoleInRise
  | pairXdisInFall
  | wakeInInactive
  | couplerPhySleep (p : Cpl)
  | msixVectorUnmask (t : Fin 4)
  | imageHealthy
  | referenceRecovered
  | lockstepError (pair : Fin 8)
  | arbitrationLost (c : Fin 4)
  | deskewSequence (p : Fin 4) (complete : Bool)
  | peerDelayFailure (p : Fin 8)
  | detectionEdge (c : Fin 4) (cycles : Nat)
  deriving DecidableEq, Repr

end Sys2Proof
end

