-- ==== Sys2Proof/Decode.lean ====
section
/-!
DEFINITION. The decoder of the host's interface. The table of commands gives no row any bits: a command is no word (log 5).
-/

namespace Sys2Proof

/-- The command a word of `nbits` bits spells: none, since no row of the table has an encoding. -/
def decodeTableWord (_nbits _w : Nat) : Option Instr := none

end Sys2Proof
end

