-- ==== Sys2Proof/Config.lean ====
section
/-!
DEFINITION. What an implementation fixes and the spec leaves open: constants without a body, so that no proof can see
what they are. A claim that mentions one holds whatever it is (log 2, log 3, log 6).
-/

namespace Sys2Proof.Config

/-- The fused device identity: 63 bits, since bit 63 is always 0 (R282, R365). -/
opaque fusedIdentity : BitVec 63

/-- The device certificate, the device CA certificate and the role extension identifier (R338). -/
opaque deviceCertificate : List Byte
opaque caCertificate : List Byte
opaque roleExtension : List Byte

/-- Free values: the n-th value the spec leaves open in a run, as a number, and as a byte string of a length. -/
opaque freeNat : Nat → Nat
opaque freeBytes : Nat → Nat → List Byte

/-- The Ethernet address of a camera slot's endpoint, which no entry of the dictionary gives (R158). -/
opaque endpointAddress : Nat → List Byte

/-- SHA-256 (R307, R311, R319): the arithmetic is the enclave's. -/
opaque sha256 : List Byte → List Byte

/-- An ECDSA signature of the device key over a text (R311, R319). -/
opaque deviceSign : List Byte → List Byte

/-- The n-th byte one slice encodes to under DSC (R88): source samples, width, height, bits per pixel, n. -/
opaque dscByte : List Nat → Nat → Nat → Nat → Nat → Byte

/-- The n-th byte of the tag of a slice (R94): key, initialisation vector, authenticated data, n. -/
opaque tagByte : List Byte → List Byte → List Byte → Nat → Byte

/-- The picture parameter set of a DSI output's link encoder (R99): active width and height, bits per pixel, slices per
line, slice height. -/
opaque linkParameters : Nat → Nat → Nat → Nat → Nat → List Byte

/-- A stream key, the wrapped form of a key for a display's public key (R328, R330). -/
opaque streamKey : Nat → List Byte
opaque wrapKey : List Byte → List Byte → List Byte

/-- The tone curve built from a luminance histogram (R64), whose rule gives no formula: 64 counts, the linear value, its
output. -/
opaque toneCurve : List Nat → Rat → Rat

/-- x to the power 0.45 (the BT.709 transfer function, R64), a real number. -/
opaque pow045 : Rat → Rat

/-- The rounding of a value to an integer code where a rule states the value and no rounding (R64, R69, R80). -/
opaque roundCode : Rat → Int

/-- The 10-bit Y, Cb, Cr of a pixel of a decoded slice (R88): data, width, rows, bits per pixel, column, row. -/
opaque dscDecode : List Byte → Nat → Nat → Nat → Nat → Nat → Nat × Nat × Nat

/-- The drawings of the burned-in icons (R109, R111): size, column, row; none where transparent. -/
opaque lostIcon : Nat → Nat → Nat → Option (Nat × Nat × Nat)
opaque staleIcon : Nat → Nat → Option (Nat × Nat × Nat)

/-! What the enclave reads from the bytes of an object written to the dictionary: its parts, and whether its signatures
hold (R311, R315, R320, R331, R334 to R336). None: the bytes are no such object. -/

opaque readBundle : List Byte → Option BundleObj
opaque readImage : List Byte → Option Image
opaque readToken : List Byte → Option ClearTokenObj
opaque readClose : List Byte → List Byte → Option (Chain × Bool)

/-- The owner root: a CA certificate as R311 asks, and signed by itself. -/
opaque claimCert : List Byte → Bool × Bool

/-- The number of a node session with a device, and the n-th byte of what a session message says under its keys, its tag at
the end (R319, R320, R322): device, sequence, text, n. -/
opaque sessionNumber : Nat → Byte
opaque sealedByte : Nat → Nat → List Byte → Nat → Byte

/-- A session message; its tag holds or not by the keys of its session, so that the reading is a free value. -/
opaque readMessage : Nat → List Byte → Option SessionMsg

end Sys2Proof.Config
end

