-- ==== Sys2Proof/Machine/OdTable.lean ====
section
/-!
DEFINITION. The object dictionary, entry by entry, as the dictionary tables of spec/ give it (R343 to R345, R368):
index, sub-index, type, access, role, default, persistence, and the range R346 step 6 checks.
One `OdRec` per record; a record of n instances stands at n consecutive indices (R371, R379 to R396).
-/

namespace Sys2Proof.Machine

/-- The types of R344. -/
inductive OdTy where
  | bool | u8 | u16 | u32 | u48 | u64 | i8 | i16 | i32 | i64 | vstr | octet | domain | time80
  deriving DecidableEq, Repr

/-- The accesses of R345. -/
inductive OdAcc where
  | ro | rw | wo | const
  deriving DecidableEq, Repr

/-- The roles of R318, lowest first. -/
inductive Role where
  | observer | operator | maintainer | owner
  deriving DecidableEq, Repr

/-- The persistence classes of R349. -/
inductive Pers where
  | volatile | stored | staged | fixed
  deriving DecidableEq, Repr

/-- A default: a number, n zero bytes, the characters of a string, empty, one number per instance (or `first + step * instance`),
or one the spec derives from the device, the running image or the node-ID. -/
inductive Dflt where
  | num (v : Int)
  | zeros (n : Nat)
  | chars (l : List Byte)
  | empty
  | inst (l : List Int)
  | instFrom (first step : Int)
  | derived
  deriving DecidableEq, Repr

/-- The values R346 step 6 admits. `zeroOnly` is a counter of R49 (and the flags of which only 0 may be written). -/
inductive Rng where
  | any
  | rng (lo hi : Int)
  | codes (l : List Int)
  | rngOr (lo hi : Int) (l : List Int)
  | codesOr (lo hi : Int) (l : List Int)
  | mask (m : Nat)
  | step (lo hi k : Int)
  | zeroOnly
  | name
  deriving DecidableEq, Repr

/-- A row of a dictionary table: the sub-indices `lo` to `hi` of a record. -/
structure OdEnt where
  lo : Nat
  hi : Nat
  ty : OdTy
  acc : OdAcc
  role : Role
  dflt : Dflt
  pers : Pers
  rng : Rng
  /-- The largest length in bytes (R344, R346 step 5); for an OCTET_STRING its fixed length. -/
  len : Nat
  deriving DecidableEq, Repr

/-- A record: `count` instances from index `base` on. -/
structure OdRec where
  base : Nat
  count : Nat
  ents : List OdEnt
  deriving DecidableEq, Repr

namespace Od

/-- 0x1000 (14_od_index.md, R370). -/
def r1000 : OdRec :=
  { base := 0x1000, count := 1, ents := [
    ⟨0x00, 0x00, .u32, .const, .observer, (.num 0), .fixed, .any, 4⟩] }

/-- 0x1001 (14_od_index.md, R370). -/
def r1001 : OdRec :=
  { base := 0x1001, count := 1, ents := [
    ⟨0x00, 0x00, .u8, .ro, .observer, (.num 0), .volatile, .any, 1⟩] }

/-- 0x1003 (14_od_index.md, R370). -/
def r1003 : OdRec :=
  { base := 0x1003, count := 1, ents := [
    ⟨0x00, 0x00, .u8, .rw, .maintainer, (.num 0), .volatile, .zeroOnly, 1⟩,
    ⟨0x01, 0x08, .u32, .ro, .observer, (.num 0), .volatile, .any, 4⟩] }

/-- 0x1005 (14_od_index.md, R370). -/
def r1005 : OdRec :=
  { base := 0x1005, count := 1, ents := [
    ⟨0x00, 0x00, .u32, .rw, .maintainer, (.num 128), .staged, .any, 4⟩] }

/-- 0x1008 (14_od_index.md, R370). -/
def r1008 : OdRec :=
  { base := 0x1008, count := 1, ents := [
    ⟨0x00, 0x00, .vstr, .const, .observer, (.chars [0x47, 0x54, 0x56, 0x2D, 0x39, 0x36, 0x30]), .fixed, .any, 32⟩] }

/-- 0x1009 (14_od_index.md, R370). -/
def r1009 : OdRec :=
  { base := 0x1009, count := 1, ents := [
    ⟨0x00, 0x00, .vstr, .const, .observer, (.chars [0x41, 0x31, 0x20, 0x42, 0x30]), .fixed, .any, 32⟩] }

/-- 0x100A (14_od_index.md, R370). -/
def r100A : OdRec :=
  { base := 0x100A, count := 1, ents := [
    ⟨0x00, 0x00, .vstr, .ro, .observer, .derived, .volatile, .any, 32⟩] }

/-- 0x1012 (14_od_index.md, R370). -/
def r1012 : OdRec :=
  { base := 0x1012, count := 1, ents := [
    ⟨0x00, 0x00, .u32, .rw, .maintainer, (.num 1073742080), .staged, .any, 4⟩] }

/-- 0x1014 (14_od_index.md, R370). -/
def r1014 : OdRec :=
  { base := 0x1014, count := 1, ents := [
    ⟨0x00, 0x00, .u32, .rw, .maintainer, .derived, .staged, .any, 4⟩] }

/-- 0x1015 (14_od_index.md, R370). -/
def r1015 : OdRec :=
  { base := 0x1015, count := 1, ents := [
    ⟨0x00, 0x00, .u16, .rw, .maintainer, (.num 0), .staged, .any, 2⟩] }

/-- 0x1016 (14_od_index.md, R370). -/
def r1016 : OdRec :=
  { base := 0x1016, count := 1, ents := [
    ⟨0x00, 0x00, .u8, .const, .observer, (.num 4), .fixed, .any, 1⟩,
    ⟨0x01, 0x04, .u32, .rw, .maintainer, (.num 0), .staged, (.mask 0xFFFFFF), 4⟩] }

/-- 0x1017 (14_od_index.md, R370). -/
def r1017 : OdRec :=
  { base := 0x1017, count := 1, ents := [
    ⟨0x00, 0x00, .u16, .rw, .maintainer, (.num 1000), .staged, .any, 2⟩] }

/-- 0x1018 (14_od_index.md, R370). -/
def r1018 : OdRec :=
  { base := 0x1018, count := 1, ents := [
    ⟨0x00, 0x00, .u8, .const, .observer, (.num 4), .fixed, .any, 1⟩,
    ⟨0x01, 0x01, .u32, .const, .observer, (.num 50857), .fixed, .any, 4⟩,
    ⟨0x02, 0x02, .u32, .const, .observer, (.num 2400), .fixed, .any, 4⟩,
    ⟨0x03, 0x03, .u32, .const, .observer, (.num 10551472), .fixed, .any, 4⟩,
    ⟨0x04, 0x04, .u32, .const, .observer, .derived, .fixed, .any, 4⟩] }

/-- 0x1019 (14_od_index.md, R370). -/
def r1019 : OdRec :=
  { base := 0x1019, count := 1, ents := [
    ⟨0x00, 0x00, .u8, .rw, .maintainer, (.num 0), .staged, (.codesOr 2 240 [0]), 1⟩] }

/-- 0x1029 (14_od_index.md, R370). -/
def r1029 : OdRec :=
  { base := 0x1029, count := 1, ents := [
    ⟨0x00, 0x00, .u8, .const, .observer, (.num 1), .fixed, .any, 1⟩,
    ⟨0x01, 0x01, .u8, .rw, .maintainer, (.num 0), .staged, (.codes [0, 1, 2]), 1⟩] }

/-- 0x1200 (14_od_index.md, R370). -/
def r1200 : OdRec :=
  { base := 0x1200, count := 1, ents := [
    ⟨0x00, 0x00, .u8, .const, .observer, (.num 2), .fixed, .any, 1⟩,
    ⟨0x01, 0x01, .u32, .ro, .observer, .derived, .volatile, .any, 4⟩,
    ⟨0x02, 0x02, .u32, .ro, .observer, .derived, .volatile, .any, 4⟩] }

/-- 0x1400 + n, n < 8 (14_od_index.md, R371). -/
def r1400 : OdRec :=
  { base := 0x1400, count := 8, ents := [
    ⟨0x00, 0x00, .u8, .const, .observer, (.num 5), .fixed, .any, 1⟩,
    ⟨0x01, 0x01, .u32, .rw, .maintainer, .derived, .staged, .any, 4⟩,
    ⟨0x02, 0x02, .u8, .rw, .maintainer, (.num 255), .staged, (.codesOr 0 240 [254, 255]), 1⟩,
    ⟨0x05, 0x05, .u16, .rw, .maintainer, (.num 0), .staged, .any, 2⟩] }

/-- 0x1600 + n, n < 8 (14_od_index.md, R371). -/
def r1600 : OdRec :=
  { base := 0x1600, count := 8, ents := [
    ⟨0x00, 0x00, .u8, .rw, .maintainer, (.num 0), .staged, (.rng 0 8), 1⟩,
    ⟨0x01, 0x08, .u32, .rw, .maintainer, (.num 0), .staged, .any, 4⟩] }

/-- 0x1800 + n, n < 8 (14_od_index.md, R371). -/
def r1800 : OdRec :=
  { base := 0x1800, count := 8, ents := [
    ⟨0x00, 0x00, .u8, .const, .observer, (.num 6), .fixed, .any, 1⟩,
    ⟨0x01, 0x01, .u32, .rw, .maintainer, .derived, .staged, .any, 4⟩,
    ⟨0x02, 0x02, .u8, .rw, .maintainer, (.num 255), .staged, (.codesOr 0 240 [254, 255]), 1⟩,
    ⟨0x03, 0x03, .u16, .rw, .maintainer, (.num 0), .staged, .any, 2⟩,
    ⟨0x05, 0x05, .u16, .rw, .maintainer, (.num 0), .staged, .any, 2⟩,
    ⟨0x06, 0x06, .u8, .rw, .maintainer, (.num 0), .staged, (.rng 0 240), 1⟩] }

/-- 0x1A00 + n, n < 8 (14_od_index.md, R371). -/
def r1A00 : OdRec :=
  { base := 0x1A00, count := 8, ents := [
    ⟨0x00, 0x00, .u8, .rw, .maintainer, (.num 0), .staged, (.rng 0 8), 1⟩,
    ⟨0x01, 0x08, .u32, .rw, .maintainer, (.num 0), .staged, .any, 4⟩] }

/-- 0x2000 (13_object_dictionary.md, R365). -/
def r2000 : OdRec :=
  { base := 0x2000, count := 1, ents := [
    ⟨0x00, 0x00, .u8, .const, .observer, (.num 8), .fixed, .any, 1⟩,
    ⟨0x01, 0x01, .u64, .const, .observer, .derived, .fixed, .any, 8⟩,
    ⟨0x02, 0x02, .vstr, .const, .observer, (.chars [0x47, 0x54, 0x56, 0x2D, 0x39, 0x36, 0x30]), .fixed, .any, 32⟩,
    ⟨0x03, 0x03, .vstr, .const, .observer, (.chars [0x41, 0x31]), .fixed, .any, 32⟩,
    ⟨0x04, 0x04, .vstr, .const, .observer, (.chars [0x42, 0x30]), .fixed, .any, 32⟩,
    ⟨0x05, 0x05, .u48, .const, .observer, (.num 80073860317184), .fixed, .any, 6⟩,
    ⟨0x06, 0x06, .u32, .ro, .observer, .derived, .volatile, .any, 4⟩,
    ⟨0x07, 0x07, .vstr, .ro, .observer, .derived, .volatile, .any, 32⟩,
    ⟨0x08, 0x08, .u8, .const, .observer, (.num 18), .fixed, .any, 1⟩] }

/-- 0x2001 (13_object_dictionary.md, R365). -/
def r2001 : OdRec :=
  { base := 0x2001, count := 1, ents := [
    ⟨0x00, 0x00, .u8, .const, .observer, (.num 5), .fixed, .any, 1⟩,
    ⟨0x01, 0x01, .u32, .ro, .observer, (.num 0), .stored, .any, 4⟩,
    ⟨0x02, 0x02, .u32, .ro, .observer, (.num 0), .stored, .any, 4⟩,
    ⟨0x03, 0x03, .u16, .ro, .observer, (.num 0), .volatile, .any, 2⟩,
    ⟨0x04, 0x04, .u32, .rw, .maintainer, (.num 0), .volatile, .zeroOnly, 4⟩,
    ⟨0x05, 0x05, .u32, .rw, .maintainer, (.num 0), .volatile, .zeroOnly, 4⟩] }

/-- 0x2010 (13_object_dictionary.md, R366). -/
def r2010 : OdRec :=
  { base := 0x2010, count := 1, ents := [
    ⟨0x00, 0x00, .u8, .const, .observer, (.num 9), .fixed, .any, 1⟩,
    ⟨0x01, 0x01, .u8, .wo, .maintainer, (.num 0), .volatile, (.codes [1, 2]), 1⟩,
    ⟨0x02, 0x02, .u8, .ro, .observer, (.num 0), .volatile, .any, 1⟩,
    ⟨0x03, 0x03, .u32, .rw, .maintainer, (.num 0), .volatile, .zeroOnly, 4⟩,
    ⟨0x04, 0x04, .u32, .ro, .observer, (.num 0), .volatile, .any, 4⟩,
    ⟨0x05, 0x05, .u16, .ro, .maintainer, (.num 0), .volatile, .any, 2⟩,
    ⟨0x06, 0x06, .domain, .ro, .maintainer, .empty, .volatile, .any, 4194304⟩,
    ⟨0x07, 0x07, .u8, .ro, .observer, (.num 0), .volatile, .any, 1⟩,
    ⟨0x08, 0x08, .u32, .ro, .observer, (.num 0), .stored, .any, 4⟩,
    ⟨0x09, 0x09, .u32, .rw, .maintainer, (.num 0), .volatile, .zeroOnly, 4⟩] }

/-- 0x2011 (13_object_dictionary.md, R366). -/
def r2011 : OdRec :=
  { base := 0x2011, count := 1, ents := [
    ⟨0x00, 0x00, .u8, .const, .observer, (.num 6), .fixed, .any, 1⟩,
    ⟨0x01, 0x01, .u8, .ro, .observer, (.num 0), .volatile, .any, 1⟩,
    ⟨0x02, 0x02, .u16, .ro, .observer, (.num 0), .volatile, .any, 2⟩,
    ⟨0x03, 0x03, .u8, .ro, .observer, (.num 0), .volatile, .any, 1⟩,
    ⟨0x04, 0x04, .u32, .ro, .observer, (.num 0), .volatile, .any, 4⟩,
    ⟨0x05, 0x05, .u32, .ro, .observer, (.num 0), .volatile, .any, 4⟩,
    ⟨0x06, 0x06, .u32, .rw, .maintainer, (.num 0), .volatile, .zeroOnly, 4⟩] }

/-- 0x2018 (13_object_dictionary.md, R366). -/
def r2018 : OdRec :=
  { base := 0x2018, count := 1, ents := [
    ⟨0x00, 0x00, .u8, .const, .observer, (.num 3), .fixed, .any, 1⟩,
    ⟨0x01, 0x01, .u64, .rw, .observer, (.num 0), .volatile, .any, 8⟩,
    ⟨0x02, 0x02, .domain, .wo, .observer, .empty, .volatile, .any, 4194368⟩,
    ⟨0x03, 0x03, .domain, .ro, .observer, .empty, .volatile, .any, 4194368⟩] }

/-- 0x2100 (20_power_clocks_reset.md, R521). -/
def r2100 : OdRec :=
  { base := 0x2100, count := 1, ents := [
    ⟨0x00, 0x00, .u8, .const, .observer, (.num 3), .fixed, .any, 1⟩,
    ⟨0x01, 0x01, .u8, .ro, .observer, (.num 0), .volatile, .any, 1⟩,
    ⟨0x02, 0x02, .u8, .ro, .observer, (.num 0), .volatile, .any, 1⟩,
    ⟨0x03, 0x03, .bool, .rw, .operator, (.num 0), .volatile, .any, 1⟩] }

/-- 0x2101 (20_power_clocks_reset.md, R521). -/
def r2101 : OdRec :=
  { base := 0x2101, count := 1, ents := [
    ⟨0x00, 0x00, .u8, .const, .observer, (.num 2), .fixed, .any, 1⟩,
    ⟨0x01, 0x01, .u16, .ro, .observer, (.num 800), .volatile, .any, 2⟩,
    ⟨0x02, 0x02, .u16, .ro, .observer, (.num 0), .volatile, .any, 2⟩] }

/-- 0x2102 (20_power_clocks_reset.md, R521). -/
def r2102 : OdRec :=
  { base := 0x2102, count := 1, ents := [
    ⟨0x00, 0x00, .u8, .const, .observer, (.num 11), .fixed, .any, 1⟩,
    ⟨0x01, 0x01, .u8, .ro, .observer, (.num 0), .stored, .any, 1⟩,
    ⟨0x02, 0x0A, .u32, .rw, .maintainer, (.num 0), .stored, .zeroOnly, 4⟩,
    ⟨0x0B, 0x0B, .u8, .wo, .maintainer, (.num 0), .volatile, (.codes [1]), 1⟩] }

/-- 0x2103 (20_power_clocks_reset.md, R521). -/
def r2103 : OdRec :=
  { base := 0x2103, count := 1, ents := [
    ⟨0x00, 0x00, .u8, .const, .observer, (.num 5), .fixed, .any, 1⟩,
    ⟨0x01, 0x01, .u8, .ro, .observer, (.num 0), .volatile, .any, 1⟩,
    ⟨0x02, 0x05, .u32, .ro, .observer, (.num 0), .volatile, .any, 4⟩] }

/-- 0x2104 (20_power_clocks_reset.md, R522). -/
def r2104 : OdRec :=
  { base := 0x2104, count := 1, ents := [
    ⟨0x00, 0x00, .u8, .const, .observer, (.num 3), .fixed, .any, 1⟩,
    ⟨0x01, 0x01, .u8, .ro, .observer, (.num 0), .volatile, .any, 1⟩,
    ⟨0x02, 0x02, .i32, .ro, .observer, (.num 0), .volatile, .any, 4⟩,
    ⟨0x03, 0x03, .u32, .rw, .maintainer, (.num 0), .stored, .zeroOnly, 4⟩] }

/-- 0x2105 (20_power_clocks_reset.md, R522). -/
def r2105 : OdRec :=
  { base := 0x2105, count := 1, ents := [
    ⟨0x00, 0x00, .u8, .const, .observer, (.num 8), .fixed, .any, 1⟩,
    ⟨0x01, 0x01, .u16, .rw, .maintainer, (.num 720), .staged, (.rng 24 720), 2⟩,
    ⟨0x02, 0x02, .u16, .ro, .observer, (.num 0), .stored, .any, 2⟩,
    ⟨0x03, 0x03, .u32, .rw, .maintainer, (.num 0), .stored, .zeroOnly, 4⟩,
    ⟨0x04, 0x04, .u32, .rw, .maintainer, (.num 0), .stored, .zeroOnly, 4⟩,
    ⟨0x05, 0x05, .u8, .wo, .maintainer, (.num 0), .volatile, (.codes [1]), 1⟩,
    ⟨0x06, 0x06, .u16, .ro, .observer, (.num 0), .stored, .any, 2⟩,
    ⟨0x07, 0x07, .u32, .rw, .maintainer, (.num 0), .volatile, .zeroOnly, 4⟩,
    ⟨0x08, 0x08, .u32, .rw, .maintainer, (.num 0), .volatile, .zeroOnly, 4⟩] }

/-- 0x2108 + n, n < 7 (20_power_clocks_reset.md, R523). -/
def r2108 : OdRec :=
  { base := 0x2108, count := 7, ents := [
    ⟨0x00, 0x00, .u8, .const, .observer, (.num 6), .fixed, .any, 1⟩,
    ⟨0x01, 0x01, .u16, .ro, .observer, (.num 0), .volatile, .any, 2⟩,
    ⟨0x02, 0x02, .u16, .ro, .observer, (.inst [776, 873, 776, 1710, 1710, 3135, 3135]), .volatile, .any, 2⟩,
    ⟨0x03, 0x03, .u16, .ro, .observer, (.inst [824, 927, 824, 1890, 1890, 3465, 3465]), .volatile, .any, 2⟩,
    ⟨0x04, 0x04, .u8, .ro, .observer, (.num 0), .volatile, .any, 1⟩,
    ⟨0x05, 0x05, .u32, .rw, .maintainer, (.num 0), .volatile, .zeroOnly, 4⟩,
    ⟨0x06, 0x06, .u32, .rw, .maintainer, (.num 0), .stored, .zeroOnly, 4⟩] }

/-- 0x2110 + n, n < 8 (21_electrical_life.md, R541). -/
def r2110 : OdRec :=
  { base := 0x2110, count := 8, ents := [
    ⟨0x00, 0x00, .u8, .const, .observer, (.num 7), .fixed, .any, 1⟩,
    ⟨0x01, 0x01, .i16, .ro, .observer, (.num 0), .volatile, .any, 2⟩,
    ⟨0x02, 0x02, .i16, .ro, .observer, (.num 32767), .volatile, .any, 2⟩,
    ⟨0x03, 0x03, .i16, .ro, .observer, (.num (-32768)), .volatile, .any, 2⟩,
    ⟨0x04, 0x04, .i16, .rw, .maintainer, (.num 1400), .staged, (.rng 850 1500), 2⟩,
    ⟨0x05, 0x05, .u8, .ro, .observer, (.num 0), .volatile, .any, 1⟩,
    ⟨0x06, 0x06, .u32, .rw, .maintainer, (.num 0), .volatile, .zeroOnly, 4⟩,
    ⟨0x07, 0x07, .u32, .rw, .maintainer, (.num 0), .stored, .zeroOnly, 4⟩] }

/-- 0x2120 + n, n < 30 (20_power_clocks_reset.md, R524). -/
def r2120 : OdRec :=
  { base := 0x2120, count := 30, ents := [
    ⟨0x00, 0x00, .u8, .const, .observer, (.num 4), .fixed, .any, 1⟩,
    ⟨0x01, 0x01, .u8, .ro, .observer, (.num 0), .volatile, .any, 1⟩,
    ⟨0x02, 0x02, .u32, .ro, .observer, .derived, .volatile, .any, 4⟩,
    ⟨0x03, 0x03, .u32, .ro, .observer, (.num 0), .volatile, .any, 4⟩,
    ⟨0x04, 0x04, .u32, .ro, .observer, (.num 0), .volatile, .any, 4⟩] }

/-- 0x2200 (08_making_up.md, R238). -/
def r2200 : OdRec :=
  { base := 0x2200, count := 1, ents := [
    ⟨0x00, 0x00, .u8, .const, .observer, (.num 4), .fixed, .any, 1⟩,
    ⟨0x01, 0x01, .u32, .rw, .maintainer, .derived, .staged, .any, 4⟩,
    ⟨0x02, 0x02, .u16, .rw, .maintainer, (.num 0), .staged, .any, 2⟩,
    ⟨0x03, 0x03, .u8, .rw, .maintainer, (.num 1), .staged, (.codes [1, 2]), 1⟩,
    ⟨0x04, 0x04, .u8, .rw, .maintainer, (.num 0), .staged, (.rng 0 4), 1⟩] }

/-- 0x2210 (08_making_up.md, R239). -/
def r2210 : OdRec :=
  { base := 0x2210, count := 1, ents := [
    ⟨0x00, 0x00, .u8, .const, .observer, (.num 11), .fixed, .any, 1⟩,
    ⟨0x01, 0x01, .u8, .ro, .observer, (.num 0), .volatile, .any, 1⟩,
    ⟨0x02, 0x02, .u16, .ro, .observer, (.num 0), .volatile, .any, 2⟩,
    ⟨0x03, 0x03, .u16, .ro, .observer, (.num 0), .volatile, .any, 2⟩,
    ⟨0x04, 0x04, .u8, .ro, .observer, (.num 0), .volatile, .any, 1⟩,
    ⟨0x05, 0x05, .u8, .ro, .observer, (.num 0), .volatile, .any, 1⟩,
    ⟨0x06, 0x06, .u8, .ro, .observer, (.num 0), .volatile, .any, 1⟩,
    ⟨0x07, 0x07, .u32, .ro, .observer, (.num 0), .volatile, .any, 4⟩,
    ⟨0x08, 0x08, .u32, .ro, .observer, (.num 0), .volatile, .any, 4⟩,
    ⟨0x09, 0x09, .u8, .ro, .observer, (.num 0), .volatile, .any, 1⟩,
    ⟨0x0A, 0x0A, .u8, .ro, .observer, (.num 0), .volatile, .any, 1⟩,
    ⟨0x0B, 0x0B, .u8, .ro, .observer, (.num 0), .volatile, .any, 1⟩] }

/-- 0x2211 (08_making_up.md, R239). -/
def r2211 : OdRec :=
  { base := 0x2211, count := 1, ents := [
    ⟨0x00, 0x00, .u8, .const, .observer, (.num 1), .fixed, .any, 1⟩,
    ⟨0x01, 0x01, .u8, .wo, .operator, (.num 0), .volatile, (.codes [1]), 1⟩] }

/-- 0x2220 (08_making_up.md, R240). -/
def r2220 : OdRec :=
  { base := 0x2220, count := 1, ents := [
    ⟨0x00, 0x00, .u8, .const, .observer, (.num 13), .fixed, .any, 1⟩,
    ⟨0x01, 0x01, .u32, .ro, .observer, (.num 0), .volatile, .any, 4⟩,
    ⟨0x02, 0x02, .u8, .ro, .observer, (.num 0), .volatile, .any, 1⟩,
    ⟨0x03, 0x03, .u8, .ro, .observer, (.num 0), .volatile, .any, 1⟩,
    ⟨0x04, 0x04, .u8, .ro, .observer, (.num 0), .volatile, .any, 1⟩,
    ⟨0x05, 0x05, .u8, .ro, .observer, (.num 0), .volatile, .any, 1⟩,
    ⟨0x06, 0x06, .u8, .ro, .observer, (.num 0), .volatile, .any, 1⟩,
    ⟨0x07, 0x07, .u64, .ro, .observer, (.num 0), .volatile, .any, 8⟩,
    ⟨0x08, 0x08, .u8, .ro, .observer, (.num 0), .volatile, .any, 1⟩,
    ⟨0x09, 0x09, .u8, .ro, .observer, (.num 0), .volatile, .any, 1⟩,
    ⟨0x0A, 0x0A, .u8, .ro, .observer, (.num 0), .volatile, .any, 1⟩,
    ⟨0x0B, 0x0B, .u8, .ro, .observer, (.num 0), .volatile, .any, 1⟩,
    ⟨0x0C, 0x0C, .u32, .ro, .observer, (.num 0), .volatile, .any, 4⟩,
    ⟨0x0D, 0x0D, .u64, .ro, .observer, (.num 0), .volatile, .any, 8⟩] }

/-- 0x2230 (08_making_up.md, R241). -/
def r2230 : OdRec :=
  { base := 0x2230, count := 1, ents := [
    ⟨0x00, 0x00, .u8, .const, .observer, (.num 1), .fixed, .any, 1⟩,
    ⟨0x01, 0x01, .domain, .ro, .observer, .empty, .volatile, .any, 4194304⟩] }

/-- 0x2240 + n, n < 4 (08_making_up.md, R241). -/
def r2240 : OdRec :=
  { base := 0x2240, count := 4, ents := [
    ⟨0x00, 0x00, .u8, .const, .observer, (.num 5), .fixed, .any, 1⟩,
    ⟨0x01, 0x01, .u64, .ro, .observer, (.num 0), .volatile, .any, 8⟩,
    ⟨0x02, 0x02, .u8, .ro, .observer, (.num 0), .volatile, .any, 1⟩,
    ⟨0x03, 0x03, .u32, .ro, .observer, (.num 0), .volatile, .any, 4⟩,
    ⟨0x04, 0x04, .u8, .ro, .observer, (.num 0), .volatile, .any, 1⟩,
    ⟨0x05, 0x05, .u32, .ro, .observer, (.num 0), .volatile, .any, 4⟩] }

/-- 0x2250 (08_making_up.md, R242). -/
def r2250 : OdRec :=
  { base := 0x2250, count := 1, ents := [
    ⟨0x00, 0x00, .u8, .const, .observer, (.num 10), .fixed, .any, 1⟩,
    ⟨0x01, 0x01, .u32, .rw, .maintainer, (.num 0), .volatile, .zeroOnly, 4⟩,
    ⟨0x02, 0x02, .u32, .rw, .maintainer, (.num 0), .volatile, .zeroOnly, 4⟩,
    ⟨0x03, 0x03, .u32, .rw, .maintainer, (.num 0), .volatile, .zeroOnly, 4⟩,
    ⟨0x04, 0x04, .u32, .rw, .maintainer, (.num 0), .volatile, .zeroOnly, 4⟩,
    ⟨0x05, 0x05, .u32, .rw, .maintainer, (.num 0), .volatile, .zeroOnly, 4⟩,
    ⟨0x06, 0x06, .u32, .rw, .maintainer, (.num 0), .volatile, .zeroOnly, 4⟩,
    ⟨0x07, 0x07, .u32, .rw, .maintainer, (.num 0), .volatile, .zeroOnly, 4⟩,
    ⟨0x08, 0x08, .u32, .rw, .maintainer, (.num 0), .volatile, .zeroOnly, 4⟩,
    ⟨0x09, 0x09, .u32, .rw, .maintainer, (.num 0), .volatile, .zeroOnly, 4⟩,
    ⟨0x0A, 0x0A, .u32, .rw, .maintainer, (.num 0), .volatile, .zeroOnly, 4⟩] }

/-- 0x2400 (06_limiwyn_backbone.md, R167). -/
def r2400 : OdRec :=
  { base := 0x2400, count := 1, ents := [
    ⟨0x00, 0x00, .u8, .const, .observer, (.num 12), .fixed, .any, 1⟩,
    ⟨0x01, 0x01, .u8, .const, .observer, (.num 18), .fixed, .any, 1⟩,
    ⟨0x02, 0x02, .u8, .ro, .observer, (.num 0), .volatile, .any, 1⟩,
    ⟨0x03, 0x03, .u32, .ro, .observer, (.num 0), .volatile, .any, 4⟩,
    ⟨0x04, 0x04, .u8, .ro, .observer, (.num 0), .volatile, .any, 1⟩,
    ⟨0x05, 0x05, .u32, .ro, .observer, (.num 250000), .volatile, .any, 4⟩,
    ⟨0x06, 0x06, .u8, .rw, .maintainer, (.num 30), .staged, (.rng 20 200), 1⟩,
    ⟨0x07, 0x07, .u32, .ro, .observer, (.num 1040), .volatile, .any, 4⟩,
    ⟨0x08, 0x08, .u32, .ro, .observer, (.num 0), .volatile, .any, 4⟩,
    ⟨0x09, 0x09, .u16, .ro, .observer, (.num 0), .volatile, .any, 2⟩,
    ⟨0x0A, 0x0A, .u16, .ro, .observer, (.num 10000), .volatile, .any, 2⟩,
    ⟨0x0B, 0x0B, .u32, .rw, .maintainer, (.num 0), .volatile, .zeroOnly, 4⟩,
    ⟨0x0C, 0x0C, .u32, .rw, .maintainer, (.num 0), .volatile, .zeroOnly, 4⟩] }

/-- 0x2410 + n, n < 4 (06_limiwyn_backbone.md, R168). -/
def r2410 : OdRec :=
  { base := 0x2410, count := 4, ents := [
    ⟨0x00, 0x00, .u8, .const, .observer, (.num 13), .fixed, .any, 1⟩,
    ⟨0x01, 0x01, .bool, .rw, .maintainer, (.num 1), .staged, .any, 1⟩,
    ⟨0x02, 0x02, .u8, .rw, .maintainer, (.inst [0, 1, 2, 3]), .staged, (.rng 0 31), 1⟩,
    ⟨0x03, 0x03, .u8, .rw, .maintainer, (.num 3), .staged, (.codes [0, 1, 2, 3]), 1⟩,
    ⟨0x04, 0x04, .u8, .ro, .observer, (.num 0), .volatile, .any, 1⟩,
    ⟨0x05, 0x05, .u8, .ro, .observer, (.num 0), .volatile, .any, 1⟩,
    ⟨0x06, 0x06, .u32, .ro, .observer, (.num 0), .volatile, .any, 4⟩,
    ⟨0x07, 0x07, .u32, .rw, .maintainer, (.num 0), .volatile, .zeroOnly, 4⟩,
    ⟨0x08, 0x08, .u32, .rw, .maintainer, (.num 0), .volatile, .zeroOnly, 4⟩,
    ⟨0x09, 0x09, .u32, .rw, .maintainer, (.num 0), .volatile, .zeroOnly, 4⟩,
    ⟨0x0A, 0x0A, .u32, .rw, .maintainer, (.num 0), .volatile, .zeroOnly, 4⟩,
    ⟨0x0B, 0x0B, .u32, .rw, .maintainer, (.num 0), .volatile, .zeroOnly, 4⟩,
    ⟨0x0C, 0x0C, .u32, .rw, .maintainer, (.num 0), .volatile, .zeroOnly, 4⟩,
    ⟨0x0D, 0x0D, .u32, .rw, .maintainer, (.num 0), .volatile, .zeroOnly, 4⟩] }

/-- 0x2418 + n, n < 8 (06_limiwyn_backbone.md, R169). -/
def r2418 : OdRec :=
  { base := 0x2418, count := 8, ents := [
    ⟨0x00, 0x00, .u8, .const, .observer, (.num 10), .fixed, .any, 1⟩,
    ⟨0x01, 0x01, .bool, .rw, .maintainer, (.num 0), .staged, .any, 1⟩,
    ⟨0x02, 0x02, .u8, .rw, .maintainer, (.num 1), .staged, (.codes [0, 1, 2]), 1⟩,
    ⟨0x03, 0x03, .u8, .rw, .maintainer, (.inst [0, 1, 2, 3, 4, 5, 6, 7]), .staged, (.rng 0 31), 1⟩,
    ⟨0x04, 0x04, .u8, .ro, .observer, (.num 0), .volatile, .any, 1⟩,
    ⟨0x05, 0x05, .u32, .rw, .maintainer, (.num 0), .staged, .any, 4⟩,
    ⟨0x06, 0x06, .u32, .rw, .maintainer, (.num 0), .staged, .any, 4⟩,
    ⟨0x07, 0x07, .u32, .rw, .maintainer, (.num 0), .volatile, .zeroOnly, 4⟩,
    ⟨0x08, 0x08, .u32, .rw, .maintainer, (.num 0), .volatile, .zeroOnly, 4⟩,
    ⟨0x09, 0x09, .u32, .rw, .maintainer, (.num 0), .volatile, .zeroOnly, 4⟩,
    ⟨0x0A, 0x0A, .u32, .rw, .maintainer, (.num 0), .volatile, .zeroOnly, 4⟩] }

/-- 0x2420 (06_limiwyn_backbone.md, R170). -/
def r2420 : OdRec :=
  { base := 0x2420, count := 1, ents := [
    ⟨0x00, 0x00, .u8, .const, .observer, (.num 2), .fixed, .any, 1⟩,
    ⟨0x01, 0x01, .u16, .rw, .maintainer, (.num 2500), .staged, (.rng 1000 12500), 2⟩,
    ⟨0x02, 0x02, .u16, .rw, .maintainer, (.num 2500), .staged, (.rng 1000 12500), 2⟩] }

/-- 0x2428 (06_limiwyn_backbone.md, R170). -/
def r2428 : OdRec :=
  { base := 0x2428, count := 1, ents := [
    ⟨0x00, 0x00, .u8, .const, .observer, (.num 7), .fixed, .any, 1⟩,
    ⟨0x01, 0x01, .u8, .rw, .maintainer, (.num 0), .volatile, (.codes [0, 1]), 1⟩,
    ⟨0x02, 0x02, .u8, .rw, .maintainer, (.num 0), .volatile, (.rng 0 31), 1⟩,
    ⟨0x03, 0x03, .u8, .rw, .maintainer, (.num 1), .volatile, (.rng 1 31), 1⟩,
    ⟨0x04, 0x04, .u16, .rw, .maintainer, (.num 0), .volatile, .any, 2⟩,
    ⟨0x05, 0x05, .u16, .rw, .maintainer, (.num 0), .volatile, .any, 2⟩,
    ⟨0x06, 0x06, .u8, .wo, .maintainer, (.num 0), .volatile, (.codes [1, 2]), 1⟩,
    ⟨0x07, 0x07, .u8, .ro, .maintainer, (.num 0), .volatile, .any, 1⟩] }

/-- 0x2430 (06_limiwyn_backbone.md, R171). -/
def r2430 : OdRec :=
  { base := 0x2430, count := 1, ents := [
    ⟨0x00, 0x00, .u8, .const, .observer, (.num 10), .fixed, .any, 1⟩,
    ⟨0x01, 0x01, .u8, .rw, .maintainer, (.num 1), .staged, (.rng 1 15), 1⟩,
    ⟨0x02, 0x02, .bool, .rw, .maintainer, (.num 0), .staged, .any, 1⟩,
    ⟨0x03, 0x03, .u8, .wo, .operator, (.num 0), .volatile, (.rng 1 15), 1⟩,
    ⟨0x04, 0x04, .u8, .ro, .observer, (.num 0), .volatile, .any, 1⟩,
    ⟨0x05, 0x05, .u8, .ro, .observer, (.num 0), .volatile, .any, 1⟩,
    ⟨0x06, 0x06, .u32, .ro, .observer, (.num 0), .volatile, .any, 4⟩,
    ⟨0x07, 0x07, .u32, .rw, .maintainer, (.num 0), .volatile, .zeroOnly, 4⟩,
    ⟨0x08, 0x08, .u32, .rw, .maintainer, (.num 0), .volatile, .zeroOnly, 4⟩,
    ⟨0x09, 0x09, .u8, .ro, .observer, (.num 0), .volatile, .any, 1⟩,
    ⟨0x0A, 0x0A, .u64, .ro, .observer, (.num 0), .volatile, .any, 8⟩] }

/-- 0x2440 (06_limiwyn_backbone.md, R172). -/
def r2440 : OdRec :=
  { base := 0x2440, count := 1, ents := [
    ⟨0x00, 0x00, .u8, .const, .observer, (.num 4), .fixed, .any, 1⟩,
    ⟨0x01, 0x01, .domain, .const, .maintainer, .empty, .fixed, .any, 1568⟩,
    ⟨0x02, 0x02, .u32, .ro, .observer, (.num 0), .volatile, .any, 4⟩,
    ⟨0x03, 0x03, .u16, .ro, .observer, (.num 0), .volatile, .any, 2⟩,
    ⟨0x04, 0x04, .u16, .ro, .observer, (.num 10000), .volatile, .any, 2⟩] }

/-- 0x2441 + n, n < 15 (06_limiwyn_backbone.md, R172). -/
def r2441 : OdRec :=
  { base := 0x2441, count := 15, ents := [
    ⟨0x00, 0x00, .u8, .const, .observer, (.num 4), .fixed, .any, 1⟩,
    ⟨0x01, 0x01, .domain, .rw, .maintainer, .empty, .staged, .any, 1568⟩,
    ⟨0x02, 0x02, .u32, .ro, .observer, (.num 0), .volatile, .any, 4⟩,
    ⟨0x03, 0x03, .u16, .ro, .observer, (.num 0), .volatile, .any, 2⟩,
    ⟨0x04, 0x04, .u16, .ro, .observer, (.num 10000), .volatile, .any, 2⟩] }

/-- 0x2460 (06_limiwyn_backbone.md, R173). -/
def r2460 : OdRec :=
  { base := 0x2460, count := 1, ents := [
    ⟨0x00, 0x00, .u8, .const, .observer, (.num 4), .fixed, .any, 1⟩,
    ⟨0x01, 0x01, .domain, .ro, .observer, .empty, .volatile, .any, 4194304⟩,
    ⟨0x02, 0x02, .domain, .ro, .observer, .empty, .volatile, .any, 4194304⟩,
    ⟨0x03, 0x03, .domain, .ro, .observer, .empty, .volatile, .any, 4194304⟩,
    ⟨0x04, 0x04, .domain, .ro, .observer, .empty, .volatile, .any, 4194304⟩] }

/-- 0x2468 + n, n < 8 (06_limiwyn_backbone.md, R174). -/
def r2468 : OdRec :=
  { base := 0x2468, count := 8, ents := [
    ⟨0x00, 0x00, .u8, .const, .observer, (.num 6), .fixed, .any, 1⟩,
    ⟨0x01, 0x01, .bool, .rw, .maintainer, (.num 0), .staged, .any, 1⟩,
    ⟨0x02, 0x02, .u32, .rw, .maintainer, (.num 0), .staged, (.rng 0 499999), 4⟩,
    ⟨0x03, 0x03, .u8, .rw, .maintainer, (.num 255), .staged, (.rngOr 0 63 [255]), 1⟩,
    ⟨0x04, 0x04, .u8, .rw, .maintainer, (.num 255), .staged, (.rngOr 0 11 [255]), 1⟩,
    ⟨0x05, 0x05, .u16, .rw, .maintainer, (.num 1000), .staged, (.rng 32 65535), 2⟩,
    ⟨0x06, 0x06, .u32, .rw, .maintainer, (.num 0), .volatile, .zeroOnly, 4⟩] }

/-- 0x2480 (09_lock_keepers.md, R256). -/
def r2480 : OdRec :=
  { base := 0x2480, count := 1, ents := [
    ⟨0x00, 0x00, .u8, .const, .observer, (.num 2), .fixed, .any, 1⟩,
    ⟨0x01, 0x01, .u8, .rw, .maintainer, (.num 4), .staged, (.rng 1 64), 1⟩,
    ⟨0x02, 0x02, .u8, .rw, .maintainer, (.num 3), .staged, (.rng 2 8), 1⟩] }

/-- 0x2481 (09_lock_keepers.md, R256). -/
def r2481 : OdRec :=
  { base := 0x2481, count := 1, ents := [
    ⟨0x00, 0x00, .u8, .const, .observer, (.num 9), .fixed, .any, 1⟩,
    ⟨0x01, 0x01, .u64, .ro, .observer, (.num 0), .volatile, .any, 8⟩,
    ⟨0x02, 0x02, .u64, .ro, .observer, (.num 0), .volatile, .any, 8⟩,
    ⟨0x03, 0x03, .u64, .ro, .observer, (.num 0), .volatile, .any, 8⟩,
    ⟨0x04, 0x04, .u8, .ro, .observer, (.num 0), .volatile, .any, 1⟩,
    ⟨0x05, 0x05, .u32, .rw, .maintainer, (.num 0), .volatile, .zeroOnly, 4⟩,
    ⟨0x06, 0x06, .u32, .rw, .maintainer, (.num 0), .volatile, .zeroOnly, 4⟩,
    ⟨0x07, 0x07, .u32, .rw, .maintainer, (.num 0), .volatile, .zeroOnly, 4⟩,
    ⟨0x08, 0x08, .u64, .ro, .observer, (.num 0), .volatile, .any, 8⟩,
    ⟨0x09, 0x09, .u32, .rw, .maintainer, (.num 0), .volatile, .zeroOnly, 4⟩] }

/-- 0x2484 + n, n < 4 (09_lock_keepers.md, R257). -/
def r2484 : OdRec :=
  { base := 0x2484, count := 4, ents := [
    ⟨0x00, 0x00, .u8, .const, .observer, (.num 15), .fixed, .any, 1⟩,
    ⟨0x01, 0x01, .u8, .ro, .observer, (.num 0), .volatile, .any, 1⟩,
    ⟨0x02, 0x02, .u8, .ro, .observer, (.num 0), .volatile, .any, 1⟩,
    ⟨0x03, 0x03, .u32, .rw, .maintainer, (.num 0), .volatile, .zeroOnly, 4⟩,
    ⟨0x04, 0x04, .u32, .rw, .maintainer, (.num 0), .volatile, .zeroOnly, 4⟩,
    ⟨0x05, 0x05, .u32, .rw, .maintainer, (.num 0), .volatile, .zeroOnly, 4⟩,
    ⟨0x06, 0x06, .u32, .rw, .maintainer, (.num 0), .volatile, .zeroOnly, 4⟩,
    ⟨0x07, 0x07, .u32, .rw, .maintainer, (.num 0), .volatile, .zeroOnly, 4⟩,
    ⟨0x08, 0x08, .u32, .rw, .maintainer, (.num 0), .volatile, .zeroOnly, 4⟩,
    ⟨0x09, 0x09, .u32, .rw, .maintainer, (.num 0), .volatile, .zeroOnly, 4⟩,
    ⟨0x0A, 0x0A, .u32, .rw, .maintainer, (.num 0), .volatile, .zeroOnly, 4⟩,
    ⟨0x0B, 0x0B, .u32, .rw, .maintainer, (.num 0), .volatile, .zeroOnly, 4⟩,
    ⟨0x0C, 0x0C, .u32, .rw, .maintainer, (.num 0), .volatile, .zeroOnly, 4⟩,
    ⟨0x0D, 0x0D, .u32, .rw, .maintainer, (.num 0), .volatile, .zeroOnly, 4⟩,
    ⟨0x0E, 0x0E, .u8, .ro, .observer, (.num 0), .volatile, .any, 1⟩,
    ⟨0x0F, 0x0F, .i32, .ro, .observer, (.num 0), .volatile, .any, 4⟩] }

/-- 0x2498 + n, n < 8 (09_lock_keepers.md, R258). -/
def r2498 : OdRec :=
  { base := 0x2498, count := 8, ents := [
    ⟨0x00, 0x00, .u8, .const, .observer, (.num 8), .fixed, .any, 1⟩,
    ⟨0x01, 0x01, .u32, .rw, .maintainer, (.num 0), .staged, .any, 4⟩,
    ⟨0x02, 0x02, .u32, .rw, .maintainer, (.num 0), .staged, .any, 4⟩,
    ⟨0x03, 0x03, .u16, .rw, .maintainer, (.num 9306), .staged, (.rng 64 9306), 2⟩,
    ⟨0x04, 0x04, .bool, .rw, .maintainer, (.num 1), .staged, .any, 1⟩,
    ⟨0x05, 0x05, .u8, .rw, .maintainer, (.num 0), .volatile, .zeroOnly, 1⟩,
    ⟨0x06, 0x06, .u32, .rw, .maintainer, (.num 0), .volatile, .zeroOnly, 4⟩,
    ⟨0x07, 0x07, .u32, .rw, .maintainer, (.num 0), .volatile, .zeroOnly, 4⟩,
    ⟨0x08, 0x08, .u32, .rw, .maintainer, (.num 0), .volatile, .zeroOnly, 4⟩] }

/-- 0x2600 (07_cluster_time.md, R207). -/
def r2600 : OdRec :=
  { base := 0x2600, count := 1, ents := [
    ⟨0x00, 0x00, .u8, .const, .observer, (.num 13), .fixed, .any, 1⟩,
    ⟨0x01, 0x01, .u8, .ro, .observer, (.num 0), .volatile, .any, 1⟩,
    ⟨0x02, 0x02, .u8, .ro, .observer, (.num 0), .volatile, .any, 1⟩,
    ⟨0x03, 0x03, .i32, .ro, .observer, (.num 0), .volatile, .any, 4⟩,
    ⟨0x04, 0x04, .i32, .ro, .observer, (.num 0), .volatile, .any, 4⟩,
    ⟨0x05, 0x05, .i32, .ro, .observer, (.num 0), .volatile, .any, 4⟩,
    ⟨0x06, 0x06, .u32, .ro, .observer, (.num 0), .volatile, .any, 4⟩,
    ⟨0x07, 0x07, .u8, .ro, .observer, (.num 0), .volatile, .any, 1⟩,
    ⟨0x08, 0x08, .u32, .rw, .maintainer, (.num 0), .volatile, .zeroOnly, 4⟩,
    ⟨0x09, 0x09, .u32, .rw, .maintainer, (.num 0), .volatile, .zeroOnly, 4⟩,
    ⟨0x0A, 0x0A, .u32, .rw, .maintainer, (.num 0), .volatile, .zeroOnly, 4⟩,
    ⟨0x0B, 0x0B, .u32, .rw, .maintainer, (.num 0), .volatile, .zeroOnly, 4⟩,
    ⟨0x0C, 0x0C, .u32, .rw, .maintainer, (.num 0), .volatile, .zeroOnly, 4⟩,
    ⟨0x0D, 0x0D, .bool, .ro, .observer, (.num 0), .volatile, .any, 1⟩] }

/-- 0x2601 (07_cluster_time.md, R208). -/
def r2601 : OdRec :=
  { base := 0x2601, count := 1, ents := [
    ⟨0x00, 0x00, .u8, .const, .observer, (.num 8), .fixed, .any, 1⟩,
    ⟨0x01, 0x01, .bool, .rw, .maintainer, (.num 1), .staged, .any, 1⟩,
    ⟨0x02, 0x02, .u32, .rw, .maintainer, (.num 1000), .staged, (.rng 50 10000), 4⟩,
    ⟨0x03, 0x03, .u16, .rw, .maintainer, (.num 200), .staged, (.rng 10 500), 2⟩,
    ⟨0x04, 0x04, .u16, .rw, .maintainer, (.num 64), .staged, (.rng 1 65535), 2⟩,
    ⟨0x05, 0x08, .i32, .rw, .maintainer, (.num 0), .staged, (.rng (-100000) 100000), 4⟩] }

/-- 0x2602 (07_cluster_time.md, R208). -/
def r2602 : OdRec :=
  { base := 0x2602, count := 1, ents := [
    ⟨0x00, 0x00, .u8, .const, .observer, (.num 4), .fixed, .any, 1⟩,
    ⟨0x01, 0x04, .u32, .ro, .observer, (.num 0), .volatile, .any, 4⟩] }

/-- 0x2608 (07_cluster_time.md, R208). -/
def r2608 : OdRec :=
  { base := 0x2608, count := 1, ents := [
    ⟨0x00, 0x00, .u8, .const, .observer, (.num 1), .fixed, .any, 1⟩,
    ⟨0x01, 0x01, .domain, .ro, .observer, .empty, .volatile, .any, 4194304⟩] }

/-- 0x2610 + n, n < 2 (07_cluster_time.md, R209). -/
def r2610 : OdRec :=
  { base := 0x2610, count := 2, ents := [
    ⟨0x00, 0x00, .u8, .const, .observer, (.num 4), .fixed, .any, 1⟩,
    ⟨0x01, 0x01, .bool, .rw, .maintainer, (.num 1), .staged, .any, 1⟩,
    ⟨0x02, 0x02, .u8, .rw, .maintainer, (.inst [0, 1]), .staged, (.rng 0 127), 1⟩,
    ⟨0x03, 0x03, .u8, .rw, .maintainer, (.num 255), .staged, (.codes [16, 17, 18, 19, 20, 21, 22, 23, 255]), 1⟩,
    ⟨0x04, 0x04, .u8, .rw, .maintainer, (.num 3), .staged, (.rng 2 255), 1⟩] }

/-- 0x2612 + n, n < 2 (07_cluster_time.md, R209). -/
def r2612 : OdRec :=
  { base := 0x2612, count := 2, ents := [
    ⟨0x00, 0x00, .u8, .const, .observer, (.num 8), .fixed, .any, 1⟩,
    ⟨0x01, 0x01, .u8, .ro, .observer, (.num 0), .volatile, .any, 1⟩,
    ⟨0x02, 0x02, .u8, .ro, .observer, (.num 0), .volatile, .any, 1⟩,
    ⟨0x03, 0x03, .u64, .ro, .observer, (.num 0), .volatile, .any, 8⟩,
    ⟨0x04, 0x04, .u64, .ro, .observer, (.num 0), .volatile, .any, 8⟩,
    ⟨0x05, 0x05, .time80, .rw, .maintainer, (.num 0), .volatile, .any, 10⟩,
    ⟨0x06, 0x06, .octet, .rw, .maintainer, (.zeros 14), .volatile, .any, 14⟩,
    ⟨0x07, 0x07, .u32, .ro, .observer, (.num 0), .volatile, .any, 4⟩,
    ⟨0x08, 0x08, .u32, .rw, .maintainer, (.num 0), .volatile, .zeroOnly, 4⟩] }

/-- 0x2618 (07_cluster_time.md, R210). -/
def r2618 : OdRec :=
  { base := 0x2618, count := 1, ents := [
    ⟨0x00, 0x00, .u8, .const, .observer, (.num 5), .fixed, .any, 1⟩,
    ⟨0x01, 0x01, .u8, .rw, .maintainer, (.num 1), .staged, (.codes [1, 2]), 1⟩,
    ⟨0x02, 0x02, .u16, .rw, .maintainer, (.num 100), .staged, (.rng 1 1000), 2⟩,
    ⟨0x03, 0x03, .bool, .rw, .maintainer, (.num 1), .staged, .any, 1⟩,
    ⟨0x04, 0x04, .u16, .rw, .maintainer, (.num 64), .staged, (.rng 1 65535), 2⟩,
    ⟨0x05, 0x05, .u8, .wo, .operator, (.num 0), .volatile, (.codes [1, 2]), 1⟩] }

/-- 0x2619 (07_cluster_time.md, R210). -/
def r2619 : OdRec :=
  { base := 0x2619, count := 1, ents := [
    ⟨0x00, 0x00, .u8, .const, .observer, (.num 4), .fixed, .any, 1⟩,
    ⟨0x01, 0x01, .u8, .ro, .observer, (.num 0), .volatile, .any, 1⟩,
    ⟨0x02, 0x02, .i64, .ro, .observer, (.num 0), .volatile, .any, 8⟩,
    ⟨0x03, 0x03, .time80, .ro, .observer, (.num 0), .volatile, .any, 10⟩,
    ⟨0x04, 0x04, .u32, .rw, .maintainer, (.num 0), .volatile, .zeroOnly, 4⟩] }

/-- 0x2620 + n, n < 8 (07_cluster_time.md, R211). -/
def r2620 : OdRec :=
  { base := 0x2620, count := 8, ents := [
    ⟨0x00, 0x00, .u8, .const, .observer, (.num 10), .fixed, .any, 1⟩,
    ⟨0x01, 0x01, .u8, .rw, .maintainer, (.num 2), .staged, (.codes [0, 1, 2]), 1⟩,
    ⟨0x02, 0x02, .u8, .rw, .maintainer, (.num 0), .staged, (.rng 0 127), 1⟩,
    ⟨0x03, 0x03, .i8, .rw, .maintainer, (.num (-3)), .staged, (.rng (-5) 0), 1⟩,
    ⟨0x04, 0x04, .i8, .rw, .maintainer, (.num 0), .staged, (.rng (-3) 3), 1⟩,
    ⟨0x05, 0x05, .i32, .rw, .maintainer, (.num 0), .staged, (.rng (-100000) 100000), 4⟩,
    ⟨0x06, 0x06, .u8, .ro, .observer, (.num 0), .volatile, .any, 1⟩,
    ⟨0x07, 0x07, .u32, .ro, .observer, (.num 0), .volatile, .any, 4⟩,
    ⟨0x08, 0x08, .i32, .ro, .observer, (.num 0), .volatile, .any, 4⟩,
    ⟨0x09, 0x09, .u32, .rw, .maintainer, (.num 0), .volatile, .zeroOnly, 4⟩,
    ⟨0x0A, 0x0A, .u32, .rw, .maintainer, (.num 0), .volatile, .zeroOnly, 4⟩] }

/-- 0x2630 + n, n < 12 (07_cluster_time.md, R212). -/
def r2630 : OdRec :=
  { base := 0x2630, count := 12, ents := [
    ⟨0x00, 0x00, .u8, .const, .observer, (.num 19), .fixed, .any, 1⟩,
    ⟨0x01, 0x01, .bool, .rw, .maintainer, (.num 0), .staged, .any, 1⟩,
    ⟨0x02, 0x02, .u8, .rw, .maintainer, (.num 1), .staged, (.codes [0, 1]), 1⟩,
    ⟨0x03, 0x03, .u8, .rw, .maintainer, (.num 0), .staged, (.codes [0, 1]), 1⟩,
    ⟨0x04, 0x04, .time80, .rw, .maintainer, (.num 0), .staged, .any, 10⟩,
    ⟨0x05, 0x05, .u64, .rw, .maintainer, (.num 1000000), .staged, (.rng 1000 4294967296), 8⟩,
    ⟨0x06, 0x06, .u16, .rw, .maintainer, (.num 0), .staged, .any, 2⟩,
    ⟨0x07, 0x07, .u32, .rw, .maintainer, (.num 1000), .staged, .any, 4⟩,
    ⟨0x08, 0x08, .bool, .rw, .maintainer, (.num 0), .staged, .any, 1⟩,
    ⟨0x09, 0x09, .i16, .rw, .maintainer, (.num 0), .staged, (.rng (-32000) 32000), 2⟩,
    ⟨0x0A, 0x0A, .time80, .wo, .operator, (.num 0), .volatile, .any, 10⟩,
    ⟨0x10, 0x10, .u8, .ro, .observer, (.num 0), .volatile, .any, 1⟩,
    ⟨0x11, 0x11, .u32, .rw, .maintainer, (.num 0), .volatile, .zeroOnly, 4⟩,
    ⟨0x12, 0x12, .u32, .rw, .maintainer, (.num 0), .volatile, .zeroOnly, 4⟩,
    ⟨0x13, 0x13, .u8, .ro, .observer, (.num 0), .volatile, .any, 1⟩] }

/-- 0x2650 + n, n < 4 (07_cluster_time.md, R213). -/
def r2650 : OdRec :=
  { base := 0x2650, count := 4, ents := [
    ⟨0x00, 0x00, .u8, .const, .observer, (.num 21), .fixed, .any, 1⟩,
    ⟨0x01, 0x01, .bool, .rw, .maintainer, (.num 0), .staged, .any, 1⟩,
    ⟨0x02, 0x02, .u8, .rw, .maintainer, (.num 1), .staged, (.codes [1, 2, 3]), 1⟩,
    ⟨0x03, 0x03, .u8, .rw, .maintainer, (.num 0), .staged, (.codes [0, 1]), 1⟩,
    ⟨0x04, 0x04, .i16, .rw, .maintainer, (.num 0), .staged, (.rng (-32000) 32000), 2⟩,
    ⟨0x10, 0x10, .u8, .ro, .observer, (.num 0), .volatile, .any, 1⟩,
    ⟨0x11, 0x11, .time80, .ro, .observer, (.num 0), .volatile, .any, 10⟩,
    ⟨0x12, 0x12, .u8, .ro, .observer, (.num 0), .volatile, .any, 1⟩,
    ⟨0x13, 0x13, .u8, .wo, .operator, (.num 0), .volatile, (.codes [1]), 1⟩,
    ⟨0x14, 0x14, .u32, .rw, .maintainer, (.num 0), .volatile, .zeroOnly, 4⟩,
    ⟨0x15, 0x15, .u32, .rw, .maintainer, (.num 0), .volatile, .zeroOnly, 4⟩] }

/-- 0x2800 (02_cameras_exposure.md, R52). -/
def r2800 : OdRec :=
  { base := 0x2800, count := 1, ents := [
    ⟨0x00, 0x00, .u8, .const, .observer, (.num 4), .fixed, .any, 1⟩,
    ⟨0x01, 0x01, .u8, .ro, .observer, (.num 0), .volatile, .any, 1⟩,
    ⟨0x02, 0x02, .u32, .ro, .observer, (.num 0), .volatile, .any, 4⟩,
    ⟨0x03, 0x03, .u32, .const, .observer, (.num 1000000), .fixed, .any, 4⟩,
    ⟨0x04, 0x04, .u32, .rw, .maintainer, (.num 0), .volatile, .zeroOnly, 4⟩] }

/-- 0x2810 + n, n < 8 (02_cameras_exposure.md, R53). -/
def r2810 : OdRec :=
  { base := 0x2810, count := 8, ents := [
    ⟨0x00, 0x00, .u8, .const, .observer, (.num 42), .fixed, .any, 1⟩,
    ⟨0x01, 0x01, .bool, .rw, .maintainer, (.num 0), .staged, .any, 1⟩,
    ⟨0x02, 0x02, .vstr, .rw, .maintainer, .empty, .staged, .name, 12⟩,
    ⟨0x03, 0x03, .u8, .rw, .maintainer, (.num 0), .staged, (.codes [0, 1, 2, 3, 4, 16, 17, 18, 19, 20, 21, 22, 23]), 1⟩,
    ⟨0x04, 0x04, .u8, .rw, .maintainer, (.num 0), .staged, (.rng 0 3), 1⟩,
    ⟨0x05, 0x05, .u8, .rw, .maintainer, (.num 2), .staged, (.rng 1 7), 1⟩,
    ⟨0x06, 0x06, .u16, .rw, .maintainer, (.num 1920), .staged, .any, 2⟩,
    ⟨0x07, 0x07, .u16, .rw, .maintainer, (.num 1080), .staged, .any, 2⟩,
    ⟨0x08, 0x08, .u8, .rw, .maintainer, (.num 1), .staged, (.rng 1 3), 1⟩,
    ⟨0x09, 0x09, .u32, .rw, .maintainer, (.num 16666666), .staged, (.rng 8333333 100000000), 4⟩,
    ⟨0x0A, 0x0A, .u16, .rw, .maintainer, (.num 43691), .staged, .any, 2⟩,
    ⟨0x0B, 0x0B, .u32, .rw, .maintainer, (.num 0), .staged, .any, 4⟩,
    ⟨0x0C, 0x0C, .u8, .rw, .maintainer, (.num 16), .staged, (.codes [8, 16, 32]), 1⟩,
    ⟨0x10, 0x10, .u8, .rw, .maintainer, (.num 1), .staged, (.codes [1, 2]), 1⟩,
    ⟨0x11, 0x11, .u8, .rw, .maintainer, (.num 255), .staged, (.rngOr 0 11 [255]), 1⟩,
    ⟨0x12, 0x12, .u16, .rw, .maintainer, (.num 1000), .staged, (.rng 32 65535), 2⟩,
    ⟨0x13, 0x13, .bool, .rw, .maintainer, (.num 0), .staged, .any, 1⟩,
    ⟨0x14, 0x14, .u8, .rw, .maintainer, (.num 0), .staged, (.codes [0, 1]), 1⟩,
    ⟨0x15, 0x15, .u32, .rw, .maintainer, (.num 0), .staged, (.rng 0 1000000), 4⟩,
    ⟨0x16, 0x16, .u32, .rw, .maintainer, (.num 14800000), .staged, .any, 4⟩,
    ⟨0x17, 0x17, .u8, .rw, .maintainer, (.num 0), .staged, (.codes [0, 1]), 1⟩,
    ⟨0x18, 0x18, .u32, .rw, .maintainer, (.num 4000000), .staged, .any, 4⟩,
    ⟨0x19, 0x19, .u8, .rw, .maintainer, (.num 2), .staged, (.rng 1 3), 1⟩,
    ⟨0x1A, 0x1A, .u16, .rw, .maintainer, (.num 0), .staged, .any, 2⟩,
    ⟨0x1B, 0x1B, .u8, .rw, .maintainer, (.num 2), .staged, (.rng 1 4), 1⟩,
    ⟨0x1C, 0x1C, .u8, .rw, .maintainer, (.num 0), .staged, (.rng 0 127), 1⟩,
    ⟨0x1D, 0x1D, .u32, .rw, .maintainer, (.num 0), .staged, .any, 4⟩,
    ⟨0x1E, 0x1E, .u32, .rw, .maintainer, (.num 5000000), .staged, .any, 4⟩,
    ⟨0x20, 0x20, .u8, .rw, .maintainer, (.num 0), .staged, (.codes [0, 1, 2]), 1⟩,
    ⟨0x21, 0x21, .u16, .rw, .maintainer, (.num 0), .staged, .any, 2⟩,
    ⟨0x22, 0x22, .u16, .rw, .maintainer, (.num 0), .staged, .any, 2⟩,
    ⟨0x23, 0x23, .u8, .rw, .maintainer, (.num 0), .staged, (.rng 0 19), 1⟩,
    ⟨0x24, 0x24, .bool, .rw, .maintainer, (.num 0), .staged, .any, 1⟩,
    ⟨0x25, 0x25, .u16, .rw, .maintainer, (.num 0), .staged, .any, 2⟩,
    ⟨0x26, 0x26, .u8, .rw, .maintainer, (.num 8), .staged, (.codes [8, 16, 32]), 1⟩,
    ⟨0x28, 0x28, .u64, .rw, .maintainer, (.num 0), .staged, .any, 8⟩,
    ⟨0x29, 0x29, .u32, .rw, .maintainer, (.num 20000), .staged, (.rng 1000 1000000), 4⟩,
    ⟨0x2A, 0x2A, .u32, .rw, .maintainer, (.num 2000000), .staged, (.rng 500000 10000000), 4⟩] }

/-- 0x2820 + n, n < 8 (02_cameras_exposure.md, R54). -/
def r2820 : OdRec :=
  { base := 0x2820, count := 8, ents := [
    ⟨0x00, 0x00, .u8, .const, .observer, (.num 6), .fixed, .any, 1⟩,
    ⟨0x01, 0x01, .u8, .ro, .observer, (.num 0), .volatile, .any, 1⟩,
    ⟨0x02, 0x02, .u32, .ro, .observer, (.num 0), .volatile, .any, 4⟩,
    ⟨0x03, 0x03, .time80, .ro, .observer, (.num 0), .volatile, .any, 10⟩,
    ⟨0x04, 0x04, .i32, .ro, .observer, (.num 0), .volatile, .any, 4⟩,
    ⟨0x05, 0x05, .u32, .ro, .observer, (.num 0), .volatile, .any, 4⟩,
    ⟨0x06, 0x06, .u32, .ro, .observer, (.num 0), .volatile, .any, 4⟩] }

/-- 0x2830 + n, n < 8 (02_cameras_exposure.md, R54). -/
def r2830 : OdRec :=
  { base := 0x2830, count := 8, ents := [
    ⟨0x00, 0x00, .u8, .const, .observer, (.num 14), .fixed, .any, 1⟩,
    ⟨0x01, 0x01, .u32, .rw, .maintainer, (.num 0), .volatile, .zeroOnly, 4⟩,
    ⟨0x02, 0x02, .u32, .rw, .maintainer, (.num 0), .volatile, .zeroOnly, 4⟩,
    ⟨0x03, 0x03, .u32, .rw, .maintainer, (.num 0), .volatile, .zeroOnly, 4⟩,
    ⟨0x04, 0x04, .u32, .rw, .maintainer, (.num 0), .volatile, .zeroOnly, 4⟩,
    ⟨0x05, 0x05, .u32, .rw, .maintainer, (.num 0), .volatile, .zeroOnly, 4⟩,
    ⟨0x06, 0x06, .u32, .rw, .maintainer, (.num 0), .volatile, .zeroOnly, 4⟩,
    ⟨0x07, 0x07, .u32, .rw, .maintainer, (.num 0), .volatile, .zeroOnly, 4⟩,
    ⟨0x08, 0x08, .u32, .rw, .maintainer, (.num 0), .volatile, .zeroOnly, 4⟩,
    ⟨0x09, 0x09, .u32, .rw, .maintainer, (.num 0), .volatile, .zeroOnly, 4⟩,
    ⟨0x0A, 0x0A, .u32, .rw, .maintainer, (.num 0), .volatile, .zeroOnly, 4⟩,
    ⟨0x0B, 0x0B, .u32, .rw, .maintainer, (.num 0), .volatile, .zeroOnly, 4⟩,
    ⟨0x0C, 0x0C, .u32, .rw, .maintainer, (.num 0), .volatile, .zeroOnly, 4⟩,
    ⟨0x0D, 0x0D, .u32, .rw, .maintainer, (.num 0), .volatile, .zeroOnly, 4⟩,
    ⟨0x0E, 0x0E, .u32, .rw, .maintainer, (.num 0), .volatile, .zeroOnly, 4⟩] }

/-- 0x2840 + n, n < 4 (02_cameras_exposure.md, R55). -/
def r2840 : OdRec :=
  { base := 0x2840, count := 4, ents := [
    ⟨0x00, 0x00, .u8, .const, .observer, (.num 16), .fixed, .any, 1⟩,
    ⟨0x01, 0x01, .u8, .rw, .maintainer, (.num 4), .staged, (.rng 1 4), 1⟩,
    ⟨0x02, 0x02, .u16, .rw, .maintainer, (.num 1500), .staged, (.rng 80 2500), 2⟩,
    ⟨0x03, 0x03, .bool, .rw, .maintainer, (.num 0), .staged, .any, 1⟩,
    ⟨0x04, 0x04, .u16, .rw, .maintainer, (.num 12816), .staged, .any, 2⟩,
    ⟨0x05, 0x05, .u8, .rw, .maintainer, (.num 0), .staged, (.mask 0xF), 1⟩,
    ⟨0x10, 0x10, .u8, .ro, .observer, (.num 0), .volatile, .any, 1⟩] }

/-- 0x2848 + n, n < 4 (02_cameras_exposure.md, R55). -/
def r2848 : OdRec :=
  { base := 0x2848, count := 4, ents := [
    ⟨0x00, 0x00, .u8, .const, .observer, (.num 4), .fixed, .any, 1⟩,
    ⟨0x01, 0x01, .u32, .rw, .maintainer, (.num 0), .volatile, .zeroOnly, 4⟩,
    ⟨0x02, 0x02, .u32, .rw, .maintainer, (.num 0), .volatile, .zeroOnly, 4⟩,
    ⟨0x03, 0x03, .u32, .rw, .maintainer, (.num 0), .volatile, .zeroOnly, 4⟩,
    ⟨0x04, 0x04, .u32, .rw, .maintainer, (.num 0), .volatile, .zeroOnly, 4⟩] }

/-- 0x2858 + n, n < 4 (02_cameras_exposure.md, R56). -/
def r2858 : OdRec :=
  { base := 0x2858, count := 4, ents := [
    ⟨0x00, 0x00, .u8, .const, .observer, (.num 18), .fixed, .any, 1⟩,
    ⟨0x01, 0x01, .u8, .rw, .maintainer, (.num 1), .staged, (.codes [0, 1]), 1⟩,
    ⟨0x02, 0x02, .u16, .rw, .maintainer, (.num 400), .staged, (.rng 0 12500), 2⟩,
    ⟨0x03, 0x03, .u8, .rw, .maintainer, (.num 2), .staged, (.codes [1, 2]), 1⟩,
    ⟨0x04, 0x04, .domain, .rw, .maintainer, .empty, .staged, .any, 4096⟩,
    ⟨0x05, 0x05, .domain, .rw, .maintainer, .empty, .staged, .any, 4096⟩,
    ⟨0x10, 0x10, .u32, .ro, .observer, (.num 0), .volatile, .any, 4⟩,
    ⟨0x11, 0x11, .u32, .ro, .observer, (.num 0), .volatile, .any, 4⟩,
    ⟨0x12, 0x12, .u32, .ro, .observer, (.num 0), .volatile, .any, 4⟩] }

/-- 0x2860 (02_cameras_exposure.md, R57). -/
def r2860 : OdRec :=
  { base := 0x2860, count := 1, ents := [
    ⟨0x00, 0x00, .u8, .const, .observer, (.num 7), .fixed, .any, 1⟩,
    ⟨0x01, 0x01, .u8, .rw, .maintainer, (.num 0), .volatile, (.rng 0 3), 1⟩,
    ⟨0x02, 0x02, .u8, .rw, .maintainer, (.num 0), .volatile, (.rng 0 127), 1⟩,
    ⟨0x03, 0x03, .u16, .rw, .maintainer, (.num 0), .volatile, .any, 2⟩,
    ⟨0x04, 0x04, .u8, .rw, .maintainer, (.num 1), .volatile, (.rng 1 4), 1⟩,
    ⟨0x05, 0x05, .u32, .rw, .maintainer, (.num 0), .volatile, .any, 4⟩,
    ⟨0x06, 0x06, .u8, .wo, .maintainer, (.num 0), .volatile, (.codes [1, 2]), 1⟩,
    ⟨0x07, 0x07, .u8, .ro, .maintainer, (.num 0), .volatile, .any, 1⟩] }

/-- 0x2880 + n, n < 8 (03_pixel_pipeline.md, R82). -/
def r2880 : OdRec :=
  { base := 0x2880, count := 8, ents := [
    ⟨0x00, 0x00, .u8, .const, .observer, (.num 50), .fixed, .any, 1⟩,
    ⟨0x01, 0x01, .u8, .rw, .maintainer, (.num 0), .staged, (.codes [0, 1, 2, 3, 4]), 1⟩,
    ⟨0x02, 0x04, .u32, .rw, .maintainer, (.num 0), .staged, .any, 4⟩,
    ⟨0x05, 0x05, .domain, .rw, .maintainer, .empty, .staged, .any, 256⟩,
    ⟨0x06, 0x06, .u16, .rw, .maintainer, (.num 4096), .staged, (.rng 256 65535), 2⟩,
    ⟨0x07, 0x07, .u16, .rw, .maintainer, (.num 4096), .staged, .any, 2⟩,
    ⟨0x08, 0x08, .u8, .rw, .maintainer, (.num 0), .staged, (.codes [0, 1, 2]), 1⟩,
    ⟨0x09, 0x09, .u8, .rw, .maintainer, (.num 80), .staged, (.rng 50 98), 1⟩,
    ⟨0x0A, 0x0A, .u8, .rw, .maintainer, (.num 95), .staged, (.rng 0 99), 1⟩,
    ⟨0x0B, 0x0B, .bool, .rw, .maintainer, (.num 0), .staged, .any, 1⟩,
    ⟨0x0C, 0x0C, .u32, .rw, .maintainer, (.num 10000000), .staged, (.rng 1000000 20000000), 4⟩,
    ⟨0x0D, 0x0D, .u8, .rw, .maintainer, (.num 1), .staged, (.rng 1 3), 1⟩,
    ⟨0x0E, 0x0E, .u8, .rw, .maintainer, (.num 25), .staged, (.rng 5 75), 1⟩,
    ⟨0x10, 0x10, .u8, .rw, .maintainer, (.num 1), .staged, (.codes [0, 1]), 1⟩,
    ⟨0x11, 0x13, .u16, .rw, .maintainer, (.num 4096), .staged, .any, 2⟩,
    ⟨0x20, 0x20, .i16, .rw, .maintainer, (.num 4096), .staged, .any, 2⟩,
    ⟨0x21, 0x23, .i16, .rw, .maintainer, (.num 0), .staged, .any, 2⟩,
    ⟨0x24, 0x24, .i16, .rw, .maintainer, (.num 4096), .staged, .any, 2⟩,
    ⟨0x25, 0x27, .i16, .rw, .maintainer, (.num 0), .staged, .any, 2⟩,
    ⟨0x28, 0x28, .i16, .rw, .maintainer, (.num 4096), .staged, .any, 2⟩,
    ⟨0x2C, 0x2C, .u8, .rw, .maintainer, (.num 50), .staged, (.rng 0 100), 1⟩,
    ⟨0x2D, 0x2D, .u8, .rw, .maintainer, (.num 1), .staged, (.codes [0, 1]), 1⟩,
    ⟨0x30, 0x30, .u16, .rw, .maintainer, (.num 1920), .staged, (.rng 64 4096), 2⟩,
    ⟨0x31, 0x31, .u16, .rw, .maintainer, (.num 1080), .staged, (.rng 64 4096), 2⟩,
    ⟨0x32, 0x32, .domain, .rw, .maintainer, .empty, .staged, .any, 66580⟩] }

/-- 0x2890 + n, n < 8 (03_pixel_pipeline.md, R83). -/
def r2890 : OdRec :=
  { base := 0x2890, count := 8, ents := [
    ⟨0x00, 0x00, .u8, .const, .observer, (.num 5), .fixed, .any, 1⟩,
    ⟨0x01, 0x01, .u16, .rw, .maintainer, (.num 3000), .staged, (.rng 100 60000), 2⟩,
    ⟨0x02, 0x02, .u32, .rw, .maintainer, (.num 20000), .staged, .any, 4⟩,
    ⟨0x03, 0x03, .u32, .rw, .maintainer, (.num 8000000), .staged, .any, 4⟩,
    ⟨0x04, 0x04, .u8, .rw, .maintainer, (.num 25), .staged, (.rng 1 100), 1⟩,
    ⟨0x05, 0x05, .u64, .rw, .maintainer, (.num 18446744069414584320), .staged, .any, 8⟩] }

/-- 0x28A0 + n, n < 8 (03_pixel_pipeline.md, R83). -/
def r28A0 : OdRec :=
  { base := 0x28A0, count := 8, ents := [
    ⟨0x00, 0x00, .u8, .const, .observer, (.num 5), .fixed, .any, 1⟩,
    ⟨0x01, 0x01, .u32, .rw, .maintainer, (.num 0), .volatile, .zeroOnly, 4⟩,
    ⟨0x02, 0x02, .u32, .ro, .observer, (.num 0), .volatile, .any, 4⟩,
    ⟨0x03, 0x03, .u32, .rw, .maintainer, (.num 0), .volatile, .zeroOnly, 4⟩,
    ⟨0x04, 0x04, .u16, .ro, .observer, (.num 0), .volatile, .any, 2⟩,
    ⟨0x05, 0x05, .u8, .ro, .observer, (.num 0), .volatile, .any, 1⟩] }

/-- 0x28B0 (03_pixel_pipeline.md, R84). -/
def r28B0 : OdRec :=
  { base := 0x28B0, count := 1, ents := [
    ⟨0x00, 0x00, .u8, .const, .observer, (.num 5), .fixed, .any, 1⟩,
    ⟨0x01, 0x01, .u32, .ro, .observer, (.num 0), .volatile, .any, 4⟩,
    ⟨0x02, 0x02, .u32, .ro, .observer, (.num 0), .volatile, .any, 4⟩,
    ⟨0x03, 0x03, .u8, .ro, .observer, (.num 0), .volatile, .any, 1⟩,
    ⟨0x04, 0x04, .u32, .ro, .observer, (.num 0), .volatile, .any, 4⟩,
    ⟨0x05, 0x05, .u32, .rw, .maintainer, (.num 0), .volatile, .zeroOnly, 4⟩] }

/-- 0x2C00 (04_slices_display.md, R114). -/
def r2C00 : OdRec :=
  { base := 0x2C00, count := 1, ents := [
    ⟨0x00, 0x00, .u8, .const, .observer, (.num 13), .fixed, .any, 1⟩,
    ⟨0x01, 0x01, .u8, .const, .observer, (.num 8), .fixed, .any, 1⟩,
    ⟨0x02, 0x02, .u8, .const, .observer, (.num 6), .fixed, .any, 1⟩,
    ⟨0x03, 0x03, .u16, .const, .observer, (.num 512), .fixed, .any, 2⟩,
    ⟨0x04, 0x04, .u16, .ro, .observer, (.num 0), .volatile, .any, 2⟩,
    ⟨0x05, 0x05, .u16, .rw, .maintainer, (.num 0), .volatile, .zeroOnly, 2⟩,
    ⟨0x06, 0x06, .u32, .rw, .maintainer, (.num 0), .volatile, .zeroOnly, 4⟩,
    ⟨0x07, 0x07, .u32, .rw, .maintainer, (.num 0), .volatile, .zeroOnly, 4⟩,
    ⟨0x08, 0x08, .u32, .rw, .maintainer, (.num 0), .volatile, .zeroOnly, 4⟩,
    ⟨0x09, 0x09, .u32, .rw, .maintainer, (.num 0), .volatile, .zeroOnly, 4⟩,
    ⟨0x0A, 0x0A, .u32, .rw, .maintainer, (.num 0), .volatile, .zeroOnly, 4⟩,
    ⟨0x0B, 0x0B, .u32, .rw, .maintainer, (.num 0), .volatile, .zeroOnly, 4⟩,
    ⟨0x0C, 0x0C, .u32, .rw, .maintainer, (.num 0), .volatile, .zeroOnly, 4⟩,
    ⟨0x0D, 0x0D, .u32, .rw, .maintainer, (.num 0), .volatile, .zeroOnly, 4⟩] }

/-- 0x2C10 + n, n < 16 (03_pixel_pipeline.md, R85). -/
def r2C10 : OdRec :=
  { base := 0x2C10, count := 16, ents := [
    ⟨0x00, 0x00, .u8, .const, .observer, (.num 28), .fixed, .any, 1⟩,
    ⟨0x01, 0x01, .bool, .rw, .maintainer, (.num 0), .staged, .any, 1⟩,
    ⟨0x02, 0x02, .vstr, .rw, .maintainer, .empty, .staged, .name, 12⟩,
    ⟨0x03, 0x03, .vstr, .rw, .maintainer, .empty, .staged, .any, 48⟩,
    ⟨0x04, 0x04, .u16, .rw, .maintainer, (.num 960), .staged, .any, 2⟩,
    ⟨0x05, 0x05, .u16, .rw, .maintainer, (.num 544), .staged, .any, 2⟩,
    ⟨0x06, 0x06, .domain, .rw, .maintainer, .empty, .staged, .any, 66580⟩,
    ⟨0x07, 0x07, .u8, .rw, .maintainer, (.num 0), .staged, (.codes [0, 1]), 1⟩,
    ⟨0x08, 0x08, .u8, .rw, .maintainer, (.num 96), .staged, .any, 1⟩,
    ⟨0x09, 0x09, .u32, .rw, .maintainer, (.num 67633664), .staged, (.mask 0x3FFFFFFF), 4⟩,
    ⟨0x10, 0x10, .u8, .rw, .maintainer, (.num 0), .staged, (.codes [0, 1]), 1⟩,
    ⟨0x11, 0x11, .u8, .rw, .maintainer, (.num 1), .staged, (.rng 0 3), 1⟩,
    ⟨0x12, 0x12, .u32, .rw, .maintainer, (.num 0), .staged, .any, 4⟩,
    ⟨0x13, 0x13, .u16, .rw, .maintainer, (.num 0), .staged, (.rng 0 511), 2⟩,
    ⟨0x14, 0x14, .u8, .rw, .maintainer, (.num 16), .staged, (.rng 1 32), 1⟩,
    ⟨0x15, 0x15, .bool, .rw, .maintainer, (.num 1), .staged, .any, 1⟩,
    ⟨0x16, 0x16, .i16, .rw, .maintainer, (.num 10), .staged, .any, 2⟩,
    ⟨0x17, 0x17, .i32, .rw, .maintainer, (.num 0), .staged, .any, 4⟩,
    ⟨0x18, 0x18, .i32, .rw, .maintainer, (.num 0), .staged, .any, 4⟩,
    ⟨0x19, 0x19, .u16, .rw, .maintainer, (.num 0), .staged, .any, 2⟩,
    ⟨0x1A, 0x1A, .u16, .rw, .maintainer, (.num 32), .staged, (.rng 1 4095), 2⟩,
    ⟨0x1B, 0x1B, .u16, .rw, .maintainer, (.num 200), .staged, (.rng 20 5000), 2⟩,
    ⟨0x1C, 0x1C, .i16, .rw, .maintainer, (.num 0), .staged, .any, 2⟩] }

/-- 0x2C20 + n, n < 16 (03_pixel_pipeline.md, R86). -/
def r2C20 : OdRec :=
  { base := 0x2C20, count := 16, ents := [
    ⟨0x00, 0x00, .u8, .const, .observer, (.num 9), .fixed, .any, 1⟩,
    ⟨0x01, 0x01, .u8, .ro, .observer, (.num 0), .volatile, .any, 1⟩,
    ⟨0x02, 0x02, .u8, .ro, .observer, (.num 0), .volatile, .any, 1⟩,
    ⟨0x03, 0x03, .u64, .ro, .observer, (.num 0), .volatile, .any, 8⟩,
    ⟨0x04, 0x04, .u8, .ro, .observer, (.num 0), .volatile, .any, 1⟩,
    ⟨0x05, 0x05, .i16, .ro, .observer, (.num 0), .volatile, .any, 2⟩,
    ⟨0x06, 0x06, .u8, .ro, .observer, (.num 0), .volatile, .any, 1⟩,
    ⟨0x07, 0x07, .u16, .ro, .observer, (.num 0), .volatile, .any, 2⟩,
    ⟨0x08, 0x08, .u32, .rw, .maintainer, (.num 0), .volatile, .zeroOnly, 4⟩,
    ⟨0x09, 0x09, .u32, .rw, .maintainer, (.num 0), .volatile, .zeroOnly, 4⟩] }

/-- 0x2C30 + n, n < 2 (03_pixel_pipeline.md, R87). -/
def r2C30 : OdRec :=
  { base := 0x2C30, count := 2, ents := [
    ⟨0x00, 0x00, .u8, .const, .observer, (.num 54), .fixed, .any, 1⟩,
    ⟨0x01, 0x01, .u32, .rw, .maintainer, (.num 67633664), .staged, (.mask 0x3FFFFFFF), 4⟩,
    ⟨0x11, 0x16, .vstr, .rw, .maintainer, .empty, .staged, .name, 12⟩,
    ⟨0x21, 0x26, .u32, .rw, .maintainer, (.num 0), .staged, .any, 4⟩,
    ⟨0x31, 0x36, .u8, .rw, .maintainer, (.num 1), .staged, (.rng 1 32), 1⟩] }

/-- 0x2C40 + n, n < 4 (03_pixel_pipeline.md, R87). -/
def r2C40 : OdRec :=
  { base := 0x2C40, count := 4, ents := [
    ⟨0x00, 0x00, .u8, .const, .observer, (.num 5), .fixed, .any, 1⟩,
    ⟨0x01, 0x01, .bool, .rw, .maintainer, (.num 0), .staged, .any, 1⟩,
    ⟨0x02, 0x02, .domain, .rw, .maintainer, (.zeros 1024), .staged, .any, 1024⟩,
    ⟨0x03, 0x03, .domain, .rw, .maintainer, .empty, .staged, .any, 2097152⟩,
    ⟨0x04, 0x04, .u8, .rw, .maintainer, (.num 0), .staged, (.rng 0 6), 1⟩,
    ⟨0x05, 0x05, .u32, .rw, .maintainer, (.num 0), .staged, .any, 4⟩] }

/-- 0x2C50 + n, n < 2 (04_slices_display.md, R115). -/
def r2C50 : OdRec :=
  { base := 0x2C50, count := 2, ents := [
    ⟨0x00, 0x00, .u8, .const, .observer, (.num 28), .fixed, .any, 1⟩,
    ⟨0x01, 0x01, .bool, .rw, .maintainer, (.num 0), .staged, .any, 1⟩,
    ⟨0x02, 0x02, .vstr, .rw, .maintainer, .empty, .staged, .name, 12⟩,
    ⟨0x03, 0x03, .u8, .rw, .maintainer, (.num 4), .staged, (.codes [2, 4]), 1⟩,
    ⟨0x04, 0x04, .u16, .rw, .maintainer, (.num 1200), .staged, (.rng 80 2500), 2⟩,
    ⟨0x05, 0x05, .u16, .rw, .maintainer, (.num 12816), .staged, .any, 2⟩,
    ⟨0x06, 0x06, .u8, .rw, .maintainer, (.num 1), .staged, (.codes [0, 1, 2]), 1⟩,
    ⟨0x07, 0x07, .u8, .rw, .maintainer, (.num 0), .staged, (.codes [0, 1]), 1⟩,
    ⟨0x08, 0x08, .u8, .rw, .maintainer, (.num 128), .staged, (.codes [128, 160, 192]), 1⟩,
    ⟨0x09, 0x09, .u8, .rw, .maintainer, (.num 2), .staged, (.codes [1, 2, 4]), 1⟩,
    ⟨0x0A, 0x0A, .u16, .rw, .maintainer, (.num 16), .staged, .any, 2⟩,
    ⟨0x0B, 0x0B, .u32, .rw, .maintainer, (.num 154128000), .staged, .any, 4⟩,
    ⟨0x0C, 0x0C, .u16, .rw, .maintainer, (.num 1920), .staged, (.rng 64 2560), 2⟩,
    ⟨0x0D, 0x0D, .u16, .rw, .maintainer, (.num 48), .staged, .any, 2⟩,
    ⟨0x0E, 0x0E, .u16, .rw, .maintainer, (.num 32), .staged, .any, 2⟩,
    ⟨0x0F, 0x0F, .u16, .rw, .maintainer, (.num 80), .staged, .any, 2⟩,
    ⟨0x10, 0x10, .u16, .rw, .maintainer, (.num 1200), .staged, (.rng 64 1600), 2⟩,
    ⟨0x11, 0x11, .u16, .rw, .maintainer, (.num 3), .staged, .any, 2⟩,
    ⟨0x12, 0x12, .u16, .rw, .maintainer, (.num 6), .staged, .any, 2⟩,
    ⟨0x13, 0x13, .u16, .rw, .maintainer, (.num 26), .staged, .any, 2⟩,
    ⟨0x14, 0x14, .u32, .rw, .maintainer, (.num 16666666), .staged, .any, 4⟩,
    ⟨0x15, 0x15, .u16, .rw, .maintainer, (.num 43691), .staged, .any, 2⟩,
    ⟨0x16, 0x16, .u32, .rw, .maintainer, (.num 0), .staged, .any, 4⟩,
    ⟨0x17, 0x17, .domain, .rw, .maintainer, .empty, .staged, .any, 2048⟩,
    ⟨0x18, 0x18, .u16, .rw, .maintainer, (.num 100), .staged, (.rng 40 200), 2⟩,
    ⟨0x19, 0x19, .u8, .rw, .maintainer, (.num 1), .staged, (.codes [0, 1]), 1⟩,
    ⟨0x1A, 0x1A, .u32, .rw, .maintainer, (.num 67633664), .staged, (.mask 0x3FFFFFFF), 4⟩,
    ⟨0x1B, 0x1B, .bool, .rw, .maintainer, (.num 1), .staged, .any, 1⟩,
    ⟨0x1C, 0x1C, .u8, .ro, .observer, (.num 0), .fixed, .any, 1⟩] }

/-- 0x2C58 + n, n < 2 (04_slices_display.md, R116). -/
def r2C58 : OdRec :=
  { base := 0x2C58, count := 2, ents := [
    ⟨0x00, 0x00, .u8, .const, .observer, (.num 7), .fixed, .any, 1⟩,
    ⟨0x01, 0x01, .u8, .ro, .observer, (.num 0), .volatile, .any, 1⟩,
    ⟨0x02, 0x02, .u32, .ro, .observer, (.num 0), .volatile, .any, 4⟩,
    ⟨0x03, 0x03, .i32, .ro, .observer, (.num 0), .volatile, .any, 4⟩,
    ⟨0x04, 0x04, .i16, .ro, .observer, (.num 0), .volatile, .any, 2⟩,
    ⟨0x05, 0x05, .u32, .rw, .maintainer, (.num 0), .volatile, .zeroOnly, 4⟩,
    ⟨0x06, 0x06, .u32, .ro, .observer, (.num 0), .volatile, .any, 4⟩,
    ⟨0x07, 0x07, .u8, .ro, .observer, (.num 0), .volatile, .any, 1⟩] }

/-- 0x2C60 + n, n < 12 (04_slices_display.md, R117). -/
def r2C60 : OdRec :=
  { base := 0x2C60, count := 12, ents := [
    ⟨0x00, 0x00, .u8, .const, .observer, (.num 14), .fixed, .any, 1⟩,
    ⟨0x01, 0x01, .u8, .ro, .observer, (.num 0), .volatile, .any, 1⟩,
    ⟨0x02, 0x02, .u32, .ro, .observer, (.num 0), .volatile, .any, 4⟩,
    ⟨0x03, 0x03, .u32, .ro, .observer, (.num 0), .volatile, .any, 4⟩,
    ⟨0x04, 0x04, .u32, .ro, .observer, (.num 4294967295), .volatile, .any, 4⟩,
    ⟨0x05, 0x05, .u32, .ro, .observer, (.num 0), .volatile, .any, 4⟩,
    ⟨0x06, 0x06, .u32, .ro, .observer, (.num 0), .volatile, .any, 4⟩,
    ⟨0x07, 0x07, .u32, .rw, .maintainer, (.num 0), .volatile, .zeroOnly, 4⟩,
    ⟨0x08, 0x08, .u32, .rw, .maintainer, (.num 0), .volatile, .zeroOnly, 4⟩,
    ⟨0x09, 0x09, .u32, .rw, .maintainer, (.num 0), .volatile, .zeroOnly, 4⟩,
    ⟨0x0A, 0x0A, .u32, .rw, .maintainer, (.num 0), .volatile, .zeroOnly, 4⟩,
    ⟨0x0B, 0x0B, .u32, .rw, .maintainer, (.num 0), .volatile, .zeroOnly, 4⟩,
    ⟨0x0C, 0x0C, .u32, .rw, .maintainer, (.num 0), .volatile, .zeroOnly, 4⟩,
    ⟨0x0D, 0x0D, .u16, .ro, .observer, (.num 0), .volatile, .any, 2⟩,
    ⟨0x0E, 0x0E, .u32, .rw, .maintainer, (.num 0), .volatile, .zeroOnly, 4⟩] }

/-- 0x2C78 + n, n < 8 (04_slices_display.md, R118). -/
def r2C78 : OdRec :=
  { base := 0x2C78, count := 8, ents := [
    ⟨0x00, 0x00, .u8, .const, .observer, (.num 17), .fixed, .any, 1⟩,
    ⟨0x01, 0x01, .bool, .rw, .maintainer, (.num 0), .staged, .any, 1⟩,
    ⟨0x02, 0x02, .vstr, .rw, .maintainer, .empty, .staged, .name, 12⟩,
    ⟨0x03, 0x03, .u8, .rw, .maintainer, (.num 16), .staged, (.codes [16, 17, 18, 19, 20, 21, 22, 23]), 1⟩,
    ⟨0x04, 0x04, .u48, .rw, .maintainer, (.num 0), .staged, .any, 6⟩,
    ⟨0x05, 0x05, .u64, .rw, .maintainer, (.num 0), .staged, .any, 8⟩,
    ⟨0x06, 0x0B, .vstr, .rw, .maintainer, .empty, .staged, .name, 12⟩,
    ⟨0x10, 0x10, .u32, .rw, .maintainer, (.num 0), .volatile, .zeroOnly, 4⟩,
    ⟨0x11, 0x11, .u32, .rw, .maintainer, (.num 0), .volatile, .zeroOnly, 4⟩] }

/-- 0x2E00 (05_latency_admission.md, R132). -/
def r2E00 : OdRec :=
  { base := 0x2E00, count := 1, ents := [
    ⟨0x00, 0x00, .u8, .const, .observer, (.num 11), .fixed, .any, 1⟩,
    ⟨0x01, 0x01, .u8, .rw, .maintainer, (.num 32), .staged, (.rng 1 32), 1⟩,
    ⟨0x02, 0x02, .u8, .rw, .maintainer, (.num 64), .staged, (.rng 2 64), 1⟩,
    ⟨0x03, 0x03, .u16, .rw, .maintainer, (.num 400), .staged, (.rng 0 5000), 2⟩,
    ⟨0x04, 0x04, .u8, .rw, .maintainer, (.num 3), .staged, (.codes [0, 1, 2, 3]), 1⟩,
    ⟨0x05, 0x05, .u8, .rw, .maintainer, (.num 1), .staged, (.codes [0, 1]), 1⟩,
    ⟨0x06, 0x06, .u8, .rw, .maintainer, (.num 1), .staged, (.codes [0, 1]), 1⟩,
    ⟨0x07, 0x07, .u8, .ro, .observer, (.num 255), .volatile, .any, 1⟩,
    ⟨0x08, 0x08, .u8, .ro, .observer, (.num 0), .volatile, .any, 1⟩,
    ⟨0x09, 0x09, .u8, .ro, .observer, (.num 0), .volatile, .any, 1⟩,
    ⟨0x0A, 0x0A, .u32, .ro, .observer, (.num 0), .volatile, .any, 4⟩,
    ⟨0x0B, 0x0B, .u32, .ro, .observer, (.num 0), .volatile, .any, 4⟩] }

/-- 0x2E10 + n, n < 16 (05_latency_admission.md, R133). -/
def r2E10 : OdRec :=
  { base := 0x2E10, count := 16, ents := [
    ⟨0x00, 0x00, .u8, .const, .observer, (.num 24), .fixed, .any, 1⟩,
    ⟨0x01, 0x01, .u8, .rw, .maintainer, (.num 255), .staged, (.rngOr 0 254 [255]), 1⟩,
    ⟨0x02, 0x02, .u8, .rw, .maintainer, (.num 16), .staged, (.codes [8, 16, 32]), 1⟩,
    ⟨0x03, 0x03, .u8, .rw, .maintainer, (.num 128), .staged, (.rng 96 192), 1⟩,
    ⟨0x04, 0x04, .u32, .rw, .maintainer, (.num 3000000), .staged, (.rng 500000 50000000), 4⟩,
    ⟨0x05, 0x05, .u8, .rw, .maintainer, (.num 3), .staged, (.mask 0x3), 1⟩,
    ⟨0x06, 0x06, .u16, .rw, .maintainer, (.num 32766), .staged, .any, 2⟩,
    ⟨0x10, 0x10, .u32, .rw, .maintainer, (.num 14800000), .staged, .any, 4⟩,
    ⟨0x11, 0x11, .u32, .rw, .maintainer, (.num 4000000), .staged, .any, 4⟩,
    ⟨0x12, 0x12, .u32, .rw, .maintainer, (.num 20000), .staged, .any, 4⟩,
    ⟨0x13, 0x13, .u8, .rw, .maintainer, (.num 16), .staged, (.codes [8, 16, 32]), 1⟩,
    ⟨0x14, 0x14, .u8, .rw, .maintainer, (.num 8), .staged, (.rng 0 64), 1⟩,
    ⟨0x15, 0x15, .u8, .rw, .maintainer, (.num 0), .staged, (.codes [0, 1]), 1⟩,
    ⟨0x16, 0x16, .u32, .rw, .maintainer, (.num 16666666), .staged, .any, 4⟩,
    ⟨0x17, 0x17, .u16, .rw, .maintainer, (.num 43691), .staged, .any, 2⟩,
    ⟨0x18, 0x18, .u32, .rw, .maintainer, (.num 0), .staged, .any, 4⟩] }

/-- 0x2E30 + n, n < 16 (05_latency_admission.md, R134). -/
def r2E30 : OdRec :=
  { base := 0x2E30, count := 16, ents := [
    ⟨0x00, 0x00, .u8, .const, .observer, (.num 11), .fixed, .any, 1⟩,
    ⟨0x01, 0x01, .u8, .ro, .observer, (.num 0), .volatile, .any, 1⟩,
    ⟨0x02, 0x02, .u32, .ro, .observer, (.num 0), .volatile, .any, 4⟩,
    ⟨0x03, 0x03, .u8, .ro, .observer, (.num 0), .volatile, .any, 1⟩,
    ⟨0x04, 0x04, .u8, .ro, .observer, (.num 0), .volatile, .any, 1⟩,
    ⟨0x05, 0x05, .u16, .ro, .observer, (.num 0), .volatile, .any, 2⟩,
    ⟨0x06, 0x06, .u8, .ro, .observer, (.num 0), .volatile, .any, 1⟩,
    ⟨0x07, 0x07, .domain, .ro, .observer, .empty, .volatile, .any, 4194304⟩,
    ⟨0x08, 0x08, .u8, .ro, .observer, (.num 0), .volatile, .any, 1⟩,
    ⟨0x09, 0x09, .u8, .ro, .observer, (.num 0), .volatile, .any, 1⟩,
    ⟨0x0A, 0x0A, .u8, .ro, .observer, (.num 0), .volatile, .any, 1⟩,
    ⟨0x0B, 0x0B, .u32, .rw, .maintainer, (.num 0), .volatile, .zeroOnly, 4⟩] }

/-- 0x3000 (11_motor_butty.md, R303). -/
def r3000 : OdRec :=
  { base := 0x3000, count := 1, ents := [
    ⟨0x00, 0x00, .u8, .const, .observer, (.num 9), .fixed, .any, 1⟩,
    ⟨0x01, 0x01, .bool, .rw, .maintainer, (.num 0), .staged, .any, 1⟩,
    ⟨0x02, 0x02, .u8, .rw, .maintainer, (.num 1), .staged, (.codes [1, 2]), 1⟩,
    ⟨0x03, 0x03, .u8, .rw, .maintainer, (.num 2), .staged, (.rng 1 4), 1⟩,
    ⟨0x04, 0x04, .bool, .rw, .maintainer, (.num 1), .staged, .any, 1⟩,
    ⟨0x05, 0x05, .u16, .rw, .maintainer, (.num 60), .staged, (.rng 1 1440), 2⟩,
    ⟨0x06, 0x06, .u8, .rw, .maintainer, (.num 3), .staged, (.rng 1 10), 1⟩,
    ⟨0x07, 0x07, .u16, .rw, .maintainer, (.num 100), .staged, (.rng 20 1000), 2⟩,
    ⟨0x08, 0x08, .u16, .rw, .maintainer, (.num 60), .staged, (.rng 20 400), 2⟩,
    ⟨0x09, 0x09, .u16, .rw, .maintainer, (.num 0), .staged, .any, 2⟩] }

/-- 0x3001 (11_motor_butty.md, R304). -/
def r3001 : OdRec :=
  { base := 0x3001, count := 1, ents := [
    ⟨0x00, 0x00, .u8, .const, .observer, (.num 13), .fixed, .any, 1⟩,
    ⟨0x01, 0x01, .u8, .ro, .observer, (.num 0), .volatile, .any, 1⟩,
    ⟨0x02, 0x02, .u8, .ro, .observer, (.num 0), .volatile, .any, 1⟩,
    ⟨0x03, 0x03, .u8, .ro, .observer, (.num 0), .volatile, .any, 1⟩,
    ⟨0x04, 0x04, .u64, .ro, .observer, (.num 0), .volatile, .any, 8⟩,
    ⟨0x05, 0x05, .u64, .ro, .observer, (.num 0), .volatile, .any, 8⟩,
    ⟨0x06, 0x06, .u8, .ro, .observer, (.num 0), .volatile, .any, 1⟩,
    ⟨0x07, 0x07, .u8, .ro, .observer, (.num 0), .volatile, .any, 1⟩,
    ⟨0x08, 0x08, .u8, .ro, .observer, (.num 0), .volatile, .any, 1⟩,
    ⟨0x09, 0x09, .u8, .ro, .observer, (.num 0), .volatile, .any, 1⟩,
    ⟨0x0A, 0x0A, .time80, .ro, .observer, (.num 0), .volatile, .any, 10⟩,
    ⟨0x0B, 0x0B, .u32, .ro, .observer, (.num 0), .volatile, .any, 4⟩,
    ⟨0x0C, 0x0C, .u8, .ro, .observer, (.num 0), .stored, .any, 1⟩,
    ⟨0x0D, 0x0D, .u8, .ro, .observer, (.num 0), .stored, .any, 1⟩] }

/-- 0x3002 (11_motor_butty.md, R305). -/
def r3002 : OdRec :=
  { base := 0x3002, count := 1, ents := [
    ⟨0x00, 0x00, .u8, .const, .observer, (.num 11), .fixed, .any, 1⟩,
    ⟨0x01, 0x01, .u32, .rw, .maintainer, (.num 0), .volatile, .zeroOnly, 4⟩,
    ⟨0x02, 0x02, .u32, .rw, .maintainer, (.num 0), .volatile, .zeroOnly, 4⟩,
    ⟨0x03, 0x03, .u32, .rw, .maintainer, (.num 0), .volatile, .zeroOnly, 4⟩,
    ⟨0x04, 0x04, .u32, .rw, .maintainer, (.num 0), .stored, .zeroOnly, 4⟩,
    ⟨0x05, 0x05, .u32, .rw, .maintainer, (.num 0), .stored, .zeroOnly, 4⟩,
    ⟨0x06, 0x06, .u32, .rw, .maintainer, (.num 0), .stored, .zeroOnly, 4⟩,
    ⟨0x07, 0x07, .u32, .rw, .maintainer, (.num 0), .volatile, .zeroOnly, 4⟩,
    ⟨0x08, 0x08, .u32, .rw, .maintainer, (.num 0), .volatile, .zeroOnly, 4⟩,
    ⟨0x09, 0x09, .u32, .rw, .maintainer, (.num 0), .volatile, .zeroOnly, 4⟩,
    ⟨0x0A, 0x0A, .u32, .rw, .maintainer, (.num 0), .volatile, .zeroOnly, 4⟩,
    ⟨0x0B, 0x0B, .u32, .rw, .maintainer, (.num 0), .volatile, .zeroOnly, 4⟩] }

/-- 0x3003 (11_motor_butty.md, R306). -/
def r3003 : OdRec :=
  { base := 0x3003, count := 1, ents := [
    ⟨0x00, 0x00, .u8, .const, .observer, (.num 1), .fixed, .any, 1⟩,
    ⟨0x01, 0x01, .domain, .ro, .observer, .empty, .volatile, .any, 4194304⟩] }

/-- 0x3004 (11_motor_butty.md, R306). -/
def r3004 : OdRec :=
  { base := 0x3004, count := 1, ents := [
    ⟨0x00, 0x00, .u8, .const, .observer, (.num 4), .fixed, .any, 1⟩,
    ⟨0x01, 0x01, .u16, .ro, .observer, (.num 0), .volatile, .any, 2⟩,
    ⟨0x02, 0x02, .u32, .ro, .observer, (.num 0), .volatile, .any, 4⟩,
    ⟨0x03, 0x03, .u32, .ro, .observer, (.num 0), .volatile, .any, 4⟩,
    ⟨0x04, 0x04, .u8, .ro, .observer, (.num 0), .volatile, .any, 1⟩] }

/-- 0x3005 (11_motor_butty.md, R306). -/
def r3005 : OdRec :=
  { base := 0x3005, count := 1, ents := [
    ⟨0x00, 0x00, .u8, .const, .observer, (.num 3), .fixed, .any, 1⟩,
    ⟨0x01, 0x01, .u8, .wo, .maintainer, (.num 0), .volatile, (.codes [1]), 1⟩,
    ⟨0x02, 0x02, .u8, .wo, .maintainer, (.num 0), .volatile, (.codes [1]), 1⟩,
    ⟨0x03, 0x03, .u8, .ro, .observer, (.num 0), .volatile, .any, 1⟩] }

/-- 0x3100 (12_trust.md, R338). -/
def r3100 : OdRec :=
  { base := 0x3100, count := 1, ents := [
    ⟨0x00, 0x00, .u8, .const, .observer, (.num 11), .fixed, .any, 1⟩,
    ⟨0x01, 0x01, .u8, .ro, .observer, (.num 0), .stored, .any, 1⟩,
    ⟨0x02, 0x02, .octet, .ro, .observer, (.zeros 32), .stored, .any, 32⟩,
    ⟨0x03, 0x03, .u8, .ro, .observer, (.num 0), .stored, .any, 1⟩,
    ⟨0x04, 0x04, .u8, .ro, .observer, (.num 0), .stored, .any, 1⟩,
    ⟨0x05, 0x05, .u8, .ro, .observer, (.num 0), .stored, .any, 1⟩,
    ⟨0x06, 0x06, .u8, .ro, .observer, (.num 0), .volatile, .any, 1⟩,
    ⟨0x07, 0x07, .u32, .rw, .maintainer, (.num 0), .volatile, .zeroOnly, 4⟩,
    ⟨0x08, 0x08, .time80, .ro, .observer, (.num 0), .stored, .any, 10⟩,
    ⟨0x09, 0x09, .u8, .ro, .observer, (.num 0), .volatile, .any, 1⟩,
    ⟨0x0A, 0x0A, .u8, .ro, .observer, (.num 0), .volatile, .any, 1⟩,
    ⟨0x0B, 0x0B, .u32, .rw, .maintainer, (.num 0), .volatile, .zeroOnly, 4⟩] }

/-- 0x3101 (12_trust.md, R338). -/
def r3101 : OdRec :=
  { base := 0x3101, count := 1, ents := [
    ⟨0x00, 0x00, .u8, .const, .observer, (.num 3), .fixed, .any, 1⟩,
    ⟨0x01, 0x01, .domain, .const, .observer, .derived, .fixed, .any, 4194304⟩,
    ⟨0x02, 0x02, .domain, .const, .observer, .derived, .fixed, .any, 4194304⟩,
    ⟨0x03, 0x03, .octet, .const, .observer, .derived, .fixed, .any, 4194304⟩] }

/-- 0x3110 (12_trust.md, R339). -/
def r3110 : OdRec :=
  { base := 0x3110, count := 1, ents := [
    ⟨0x00, 0x00, .u8, .const, .observer, (.num 4), .fixed, .any, 1⟩,
    ⟨0x01, 0x01, .domain, .rw, .observer, .empty, .stored, .any, 1024⟩,
    ⟨0x02, 0x02, .u8, .wo, .observer, (.num 0), .volatile, (.codes [1]), 1⟩,
    ⟨0x03, 0x03, .domain, .ro, .observer, .empty, .stored, .any, 4194304⟩,
    ⟨0x04, 0x04, .u64, .wo, .owner, (.num 0), .volatile, .any, 8⟩] }

/-- 0x3111 (12_trust.md, R339). -/
def r3111 : OdRec :=
  { base := 0x3111, count := 1, ents := [
    ⟨0x00, 0x00, .u8, .const, .observer, (.num 8), .fixed, .any, 1⟩,
    ⟨0x01, 0x08, .octet, .rw, .owner, (.zeros 32), .stored, .any, 32⟩] }

/-- 0x3112 (12_trust.md, R339). -/
def r3112 : OdRec :=
  { base := 0x3112, count := 1, ents := [
    ⟨0x00, 0x00, .u8, .const, .observer, (.num 1), .fixed, .any, 1⟩,
    ⟨0x01, 0x01, .domain, .rw, .owner, .empty, .stored, .any, 1408⟩] }

/-- 0x3120 (12_trust.md, R340). -/
def r3120 : OdRec :=
  { base := 0x3120, count := 1, ents := [
    ⟨0x00, 0x00, .u8, .const, .observer, (.num 3), .fixed, .any, 1⟩,
    ⟨0x01, 0x01, .domain, .wo, .observer, .empty, .volatile, .any, 4194368⟩,
    ⟨0x02, 0x02, .domain, .ro, .observer, .empty, .volatile, .any, 4194368⟩,
    ⟨0x03, 0x03, .u16, .rw, .owner, (.num 300), .stored, (.rng 30 3600), 2⟩] }

/-- 0x3121 (12_trust.md, R340). -/
def r3121 : OdRec :=
  { base := 0x3121, count := 1, ents := [
    ⟨0x00, 0x00, .u8, .const, .observer, (.num 1), .fixed, .any, 1⟩,
    ⟨0x01, 0x01, .domain, .ro, .observer, .empty, .volatile, .any, 4194304⟩] }

/-- 0x3122 (12_trust.md, R340). -/
def r3122 : OdRec :=
  { base := 0x3122, count := 1, ents := [
    ⟨0x00, 0x00, .u8, .const, .observer, (.num 2), .fixed, .any, 1⟩,
    ⟨0x01, 0x01, .domain, .ro, .observer, .empty, .stored, .any, 4194304⟩,
    ⟨0x02, 0x02, .u8, .wo, .owner, (.num 0), .volatile, (.codes [1]), 1⟩] }

/-- 0x3124 + n, n < 4 (12_trust.md, R341). -/
def r3124 : OdRec :=
  { base := 0x3124, count := 4, ents := [
    ⟨0x00, 0x00, .u8, .const, .observer, (.num 6), .fixed, .any, 1⟩,
    ⟨0x01, 0x01, .u8, .ro, .observer, (.num 0), .volatile, .any, 1⟩,
    ⟨0x02, 0x02, .u8, .ro, .observer, (.num 0), .volatile, .any, 1⟩,
    ⟨0x03, 0x03, .u64, .ro, .observer, (.num 0), .volatile, .any, 8⟩,
    ⟨0x04, 0x04, .u32, .ro, .observer, (.num 0), .volatile, .any, 4⟩,
    ⟨0x05, 0x05, .u32, .rw, .maintainer, (.num 0), .volatile, .zeroOnly, 4⟩,
    ⟨0x06, 0x06, .u32, .rw, .maintainer, (.num 0), .volatile, .zeroOnly, 4⟩] }

/-- 0x3130 + n, n < 8 (12_trust.md, R342). -/
def r3130 : OdRec :=
  { base := 0x3130, count := 8, ents := [
    ⟨0x00, 0x00, .u8, .const, .observer, (.num 2), .fixed, .any, 1⟩,
    ⟨0x01, 0x01, .octet, .rw, .maintainer, (.zeros 65), .staged, .any, 65⟩,
    ⟨0x02, 0x02, .domain, .ro, .observer, .empty, .volatile, .any, 4194304⟩] }

/-- 0x3140 (12_trust.md, R342). -/
def r3140 : OdRec :=
  { base := 0x3140, count := 1, ents := [
    ⟨0x00, 0x00, .u8, .const, .observer, (.num 9), .fixed, .any, 1⟩,
    ⟨0x01, 0x01, .domain, .wo, .maintainer, .empty, .volatile, .any, 4194304⟩,
    ⟨0x02, 0x03, .u32, .ro, .observer, (.num 0), .stored, .any, 4⟩,
    ⟨0x04, 0x05, .u8, .ro, .observer, (.num 0), .stored, .any, 1⟩,
    ⟨0x06, 0x06, .u8, .ro, .observer, (.num 1), .volatile, .any, 1⟩,
    ⟨0x07, 0x07, .u8, .wo, .maintainer, (.num 0), .volatile, (.codes [1, 2]), 1⟩,
    ⟨0x08, 0x08, .u8, .wo, .owner, (.num 0), .volatile, (.rng 0 64), 1⟩,
    ⟨0x09, 0x09, .u8, .ro, .observer, (.num 17), .stored, .any, 1⟩] }

/-- 0x3150 (12_trust.md, R342). -/
def r3150 : OdRec :=
  { base := 0x3150, count := 1, ents := [
    ⟨0x00, 0x00, .u8, .const, .observer, (.num 3), .fixed, .any, 1⟩,
    ⟨0x01, 0x01, .domain, .wo, .observer, .empty, .volatile, .any, 4194304⟩,
    ⟨0x02, 0x02, .u32, .ro, .observer, (.num 0), .stored, .any, 4⟩,
    ⟨0x03, 0x03, .u8, .ro, .observer, (.num 0), .volatile, .any, 1⟩] }

/-- 0x3160 (12_trust.md, R342). -/
def r3160 : OdRec :=
  { base := 0x3160, count := 1, ents := [
    ⟨0x00, 0x00, .u8, .const, .observer, (.num 4), .fixed, .any, 1⟩,
    ⟨0x01, 0x01, .u64, .wo, .owner, (.num 0), .volatile, .any, 8⟩,
    ⟨0x02, 0x02, .octet, .ro, .owner, (.zeros 16), .volatile, .any, 16⟩,
    ⟨0x03, 0x03, .domain, .wo, .owner, .empty, .volatile, .any, 4194304⟩,
    ⟨0x04, 0x04, .u8, .wo, .owner, (.num 0), .volatile, (.codes [1]), 1⟩] }

/-- 0x3200 (18_field_io.md, R481). -/
def r3200 : OdRec :=
  { base := 0x3200, count := 1, ents := [
    ⟨0x00, 0x00, .u8, .const, .observer, (.num 6), .fixed, .any, 1⟩,
    ⟨0x01, 0x01, .u16, .ro, .observer, (.num 0), .volatile, .any, 2⟩,
    ⟨0x02, 0x02, .u16, .ro, .observer, (.num 0), .volatile, .any, 2⟩,
    ⟨0x03, 0x03, .u16, .ro, .observer, (.num 0), .volatile, .any, 2⟩,
    ⟨0x04, 0x04, .u8, .ro, .observer, (.num 0), .volatile, .any, 1⟩,
    ⟨0x05, 0x06, .u16, .ro, .observer, (.num 0), .volatile, .any, 2⟩] }

/-- 0x3201 (18_field_io.md, R481). -/
def r3201 : OdRec :=
  { base := 0x3201, count := 1, ents := [
    ⟨0x00, 0x00, .u8, .const, .observer, (.num 4), .fixed, .any, 1⟩,
    ⟨0x01, 0x01, .u16, .rw, .maintainer, (.num 16000), .staged, (.rng 9000 20000), 2⟩,
    ⟨0x02, 0x02, .u8, .rw, .maintainer, (.num 0), .staged, (.codes [0, 1]), 1⟩,
    ⟨0x03, 0x03, .u16, .rw, .maintainer, (.num 10), .staged, (.rng 1 1000), 2⟩,
    ⟨0x04, 0x04, .u8, .wo, .operator, (.num 0), .volatile, (.mask 0x3), 1⟩] }

/-- 0x3202 (18_field_io.md, R481). -/
def r3202 : OdRec :=
  { base := 0x3202, count := 1, ents := [
    ⟨0x00, 0x00, .u8, .const, .observer, (.num 7), .fixed, .any, 1⟩,
    ⟨0x01, 0x02, .u16, .ro, .observer, (.num 0), .volatile, .any, 2⟩,
    ⟨0x03, 0x04, .u32, .rw, .maintainer, (.num 0), .volatile, .zeroOnly, 4⟩,
    ⟨0x05, 0x06, .u32, .rw, .maintainer, (.num 0), .volatile, .zeroOnly, 4⟩,
    ⟨0x07, 0x07, .u32, .rw, .maintainer, (.num 0), .volatile, .zeroOnly, 4⟩] }

/-- 0x3210 + n, n < 16 (18_field_io.md, R482). -/
def r3210 : OdRec :=
  { base := 0x3210, count := 16, ents := [
    ⟨0x00, 0x00, .u8, .const, .observer, (.num 13), .fixed, .any, 1⟩,
    ⟨0x01, 0x01, .u8, .rw, .maintainer, (.num 0), .staged, (.codes [0, 1, 2]), 1⟩,
    ⟨0x02, 0x02, .u8, .rw, .maintainer, (.num 1), .staged, (.codes [1, 3]), 1⟩,
    ⟨0x03, 0x03, .u32, .rw, .maintainer, (.num 1000), .staged, (.step 0 100000 10), 4⟩,
    ⟨0x04, 0x04, .bool, .rw, .maintainer, (.num 0), .staged, .any, 1⟩,
    ⟨0x05, 0x05, .u8, .rw, .maintainer, (.num 0), .staged, (.codes [0, 1, 2, 3]), 1⟩,
    ⟨0x06, 0x06, .u16, .rw, .maintainer, (.num 500), .staged, (.rng 100 10000), 2⟩,
    ⟨0x07, 0x07, .u16, .rw, .maintainer, (.num 1000), .staged, (.rng 100 10000), 2⟩,
    ⟨0x08, 0x08, .u8, .rw, .maintainer, (.num 0), .staged, (.codes [0, 1]), 1⟩,
    ⟨0x09, 0x09, .u16, .rw, .maintainer, (.num 100), .staged, (.rng 10 10000), 2⟩,
    ⟨0x0A, 0x0A, .u8, .rw, .maintainer, (.num 3), .staged, (.rng 1 20), 1⟩,
    ⟨0x0B, 0x0B, .bool, .rw, .maintainer, (.num 0), .staged, .any, 1⟩,
    ⟨0x0C, 0x0C, .u8, .rw, .maintainer, (.num 0), .staged, (.codes [0, 1]), 1⟩,
    ⟨0x0D, 0x0D, .u8, .rw, .maintainer, (.num 0), .staged, (.codes [0, 1]), 1⟩] }

/-- 0x3220 + n, n < 16 (18_field_io.md, R482). -/
def r3220 : OdRec :=
  { base := 0x3220, count := 16, ents := [
    ⟨0x00, 0x00, .u8, .const, .observer, (.num 2), .fixed, .any, 1⟩,
    ⟨0x01, 0x01, .u8, .rw, .maintainer, (.num 0), .staged, (.codes [0, 1, 2, 3, 4, 5, 6]), 1⟩,
    ⟨0x02, 0x02, .u8, .rw, .maintainer, (.num 0), .staged, (.codes [0, 1]), 1⟩] }

/-- 0x3230 + n, n < 16 (18_field_io.md, R483). -/
def r3230 : OdRec :=
  { base := 0x3230, count := 16, ents := [
    ⟨0x00, 0x00, .u8, .const, .observer, (.num 6), .fixed, .any, 1⟩,
    ⟨0x01, 0x01, .bool, .rw, .operator, (.num 0), .volatile, .any, 1⟩,
    ⟨0x02, 0x02, .u8, .ro, .observer, (.num 0), .volatile, .any, 1⟩,
    ⟨0x03, 0x03, .bool, .ro, .observer, (.num 0), .volatile, .any, 1⟩,
    ⟨0x04, 0x04, .bool, .ro, .observer, (.num 0), .volatile, .any, 1⟩,
    ⟨0x05, 0x05, .u32, .ro, .observer, (.num 0), .volatile, .any, 4⟩,
    ⟨0x06, 0x06, .u16, .ro, .observer, (.num 0), .volatile, .any, 2⟩] }

/-- 0x3240 + n, n < 16 (18_field_io.md, R483). -/
def r3240 : OdRec :=
  { base := 0x3240, count := 16, ents := [
    ⟨0x00, 0x00, .u8, .const, .observer, (.num 3), .fixed, .any, 1⟩,
    ⟨0x01, 0x01, .u16, .ro, .observer, (.num 0), .volatile, .any, 2⟩,
    ⟨0x02, 0x02, .u16, .rw, .maintainer, (.num 0), .volatile, .any, 2⟩,
    ⟨0x03, 0x03, .u8, .ro, .observer, (.num 0), .volatile, .any, 1⟩] }

/-- 0x3250 + n, n < 16 (18_field_io.md, R483). -/
def r3250 : OdRec :=
  { base := 0x3250, count := 16, ents := [
    ⟨0x00, 0x00, .u8, .const, .observer, (.num 8), .fixed, .any, 1⟩,
    ⟨0x01, 0x01, .u32, .rw, .maintainer, (.num 0), .volatile, .zeroOnly, 4⟩,
    ⟨0x02, 0x02, .u32, .rw, .maintainer, (.num 0), .volatile, .zeroOnly, 4⟩,
    ⟨0x03, 0x03, .u32, .rw, .maintainer, (.num 0), .volatile, .zeroOnly, 4⟩,
    ⟨0x04, 0x04, .u32, .rw, .maintainer, (.num 0), .volatile, .zeroOnly, 4⟩,
    ⟨0x05, 0x05, .u32, .rw, .maintainer, (.num 0), .volatile, .zeroOnly, 4⟩,
    ⟨0x06, 0x06, .u32, .rw, .maintainer, (.num 0), .volatile, .zeroOnly, 4⟩,
    ⟨0x07, 0x07, .u32, .rw, .maintainer, (.num 0), .volatile, .zeroOnly, 4⟩,
    ⟨0x08, 0x08, .u32, .rw, .maintainer, (.num 0), .volatile, .zeroOnly, 4⟩] }

/-- 0x3300 (17_can_fd.md, R458). -/
def r3300 : OdRec :=
  { base := 0x3300, count := 1, ents := [
    ⟨0x00, 0x00, .u8, .const, .observer, (.num 3), .fixed, .any, 1⟩,
    ⟨0x01, 0x01, .u32, .ro, .observer, (.num 0), .volatile, .any, 4⟩,
    ⟨0x02, 0x02, .u32, .ro, .observer, (.num 0), .volatile, .any, 4⟩,
    ⟨0x03, 0x03, .u32, .ro, .observer, (.num 0), .volatile, .any, 4⟩] }

/-- 0x3301 (17_can_fd.md, R458). -/
def r3301 : OdRec :=
  { base := 0x3301, count := 1, ents := [
    ⟨0x00, 0x00, .u8, .const, .observer, (.num 8), .fixed, .any, 1⟩,
    ⟨0x01, 0x01, .u8, .rw, .maintainer, (.num 127), .staged, (.rng 1 127), 1⟩,
    ⟨0x02, 0x02, .u8, .rw, .maintainer, (.num 0), .staged, (.codes [0, 1]), 1⟩,
    ⟨0x03, 0x03, .u8, .ro, .observer, (.num 0), .volatile, .any, 1⟩,
    ⟨0x04, 0x04, .u32, .rw, .maintainer, (.num 0), .volatile, .zeroOnly, 4⟩,
    ⟨0x05, 0x05, .u32, .rw, .maintainer, (.num 0), .volatile, .zeroOnly, 4⟩,
    ⟨0x06, 0x06, .u32, .rw, .maintainer, (.num 0), .volatile, .zeroOnly, 4⟩,
    ⟨0x07, 0x07, .u32, .rw, .maintainer, (.num 0), .volatile, .zeroOnly, 4⟩,
    ⟨0x08, 0x08, .u32, .rw, .maintainer, (.num 0), .volatile, .zeroOnly, 4⟩] }

/-- 0x3302 (17_can_fd.md, R458). -/
def r3302 : OdRec :=
  { base := 0x3302, count := 1, ents := [
    ⟨0x00, 0x00, .u8, .const, .observer, (.num 5), .fixed, .any, 1⟩,
    ⟨0x01, 0x04, .u8, .ro, .observer, (.num 0), .volatile, .any, 1⟩,
    ⟨0x05, 0x05, .u32, .rw, .maintainer, (.num 0), .volatile, .zeroOnly, 4⟩] }

/-- 0x3310 + n, n < 4 (17_can_fd.md, R459). -/
def r3310 : OdRec :=
  { base := 0x3310, count := 4, ents := [
    ⟨0x00, 0x00, .u8, .const, .observer, (.num 13), .fixed, .any, 1⟩,
    ⟨0x01, 0x01, .u8, .rw, .maintainer, (.num 1), .staged, (.codes [0, 1, 2, 3, 4]), 1⟩,
    ⟨0x02, 0x02, .bool, .rw, .maintainer, (.num 1), .staged, .any, 1⟩,
    ⟨0x03, 0x03, .u16, .rw, .maintainer, (.num 1), .staged, (.rng 1 32), 2⟩,
    ⟨0x04, 0x04, .u16, .rw, .maintainer, (.num 127), .staged, (.rng 2 256), 2⟩,
    ⟨0x05, 0x06, .u16, .rw, .maintainer, (.num 32), .staged, (.rng 1 128), 2⟩,
    ⟨0x07, 0x07, .u8, .rw, .maintainer, (.num 1), .staged, (.rng 1 32), 1⟩,
    ⟨0x08, 0x08, .u8, .rw, .maintainer, (.num 29), .staged, (.rng 1 32), 1⟩,
    ⟨0x09, 0x0A, .u8, .rw, .maintainer, (.num 10), .staged, (.rng 1 16), 1⟩,
    ⟨0x0B, 0x0B, .u8, .rw, .maintainer, (.num 30), .staged, (.rng 0 127), 1⟩,
    ⟨0x0C, 0x0C, .u8, .rw, .maintainer, (.num 0), .staged, (.codes [0, 1]), 1⟩,
    ⟨0x0D, 0x0D, .bool, .rw, .maintainer, (.num 1), .staged, .any, 1⟩] }

/-- 0x3314 + n, n < 4 (17_can_fd.md, R459). -/
def r3314 : OdRec :=
  { base := 0x3314, count := 4, ents := [
    ⟨0x00, 0x00, .u8, .const, .observer, (.num 7), .fixed, .any, 1⟩,
    ⟨0x01, 0x01, .u8, .ro, .observer, (.num 0), .volatile, .any, 1⟩,
    ⟨0x02, 0x03, .u8, .ro, .observer, (.num 0), .volatile, .any, 1⟩,
    ⟨0x04, 0x05, .u8, .ro, .observer, (.num 0), .volatile, .any, 1⟩,
    ⟨0x06, 0x06, .u8, .wo, .operator, (.num 0), .volatile, (.codes [1]), 1⟩,
    ⟨0x07, 0x07, .u8, .ro, .observer, (.num 0), .volatile, .any, 1⟩] }

/-- 0x3318 + n, n < 4 (17_can_fd.md, R459). -/
def r3318 : OdRec :=
  { base := 0x3318, count := 4, ents := [
    ⟨0x00, 0x00, .u8, .const, .observer, (.num 9), .fixed, .any, 1⟩,
    ⟨0x01, 0x09, .u32, .rw, .maintainer, (.num 0), .volatile, .zeroOnly, 4⟩] }

/-- 0x331C + n, n < 4 (17_can_fd.md, R459). -/
def r331C : OdRec :=
  { base := 0x331C, count := 4, ents := [
    ⟨0x00, 0x00, .u8, .const, .observer, (.num 7), .fixed, .any, 1⟩,
    ⟨0x01, 0x01, .domain, .rw, .maintainer, .empty, .staged, .any, 64⟩,
    ⟨0x02, 0x02, .u16, .rw, .maintainer, (.num 5000), .staged, (.rng 100 60000), 2⟩,
    ⟨0x03, 0x03, .u8, .ro, .observer, (.num 0), .volatile, .any, 1⟩,
    ⟨0x04, 0x04, .u8, .ro, .observer, (.num 255), .volatile, .any, 1⟩,
    ⟨0x05, 0x06, .u32, .ro, .observer, (.num 0), .volatile, .any, 4⟩,
    ⟨0x07, 0x07, .u8, .wo, .operator, (.num 0), .volatile, (.codes [1]), 1⟩] }

/-- 0x3320 + n, n < 12 (17_can_fd.md, R460). -/
def r3320 : OdRec :=
  { base := 0x3320, count := 12, ents := [
    ⟨0x00, 0x00, .u8, .const, .observer, (.num 8), .fixed, .any, 1⟩,
    ⟨0x01, 0x01, .u32, .rw, .operator, (.num 0), .volatile, .any, 4⟩,
    ⟨0x02, 0x02, .u8, .rw, .operator, (.num 0), .volatile, (.mask 0x3), 1⟩,
    ⟨0x03, 0x03, .u8, .rw, .operator, (.num 0), .volatile, (.rng 0 15), 1⟩,
    ⟨0x04, 0x04, .octet, .rw, .operator, (.zeros 64), .volatile, .any, 64⟩,
    ⟨0x05, 0x05, .u8, .wo, .operator, (.num 0), .volatile, (.codes [1, 2]), 1⟩,
    ⟨0x06, 0x06, .u8, .ro, .observer, (.num 0), .volatile, .any, 1⟩,
    ⟨0x07, 0x07, .u32, .ro, .observer, (.num 0), .volatile, .any, 4⟩,
    ⟨0x08, 0x08, .bool, .rw, .operator, (.num 0), .volatile, .any, 1⟩] }

/-- 0x3340 + n, n < 96 (17_can_fd.md, R460). -/
def r3340 : OdRec :=
  { base := 0x3340, count := 96, ents := [
    ⟨0x00, 0x00, .u8, .const, .observer, (.num 12), .fixed, .any, 1⟩,
    ⟨0x01, 0x02, .u32, .rw, .maintainer, (.num 0), .staged, .any, 4⟩,
    ⟨0x03, 0x03, .u8, .rw, .maintainer, (.num 0), .staged, (.mask 0xF), 1⟩,
    ⟨0x04, 0x04, .bool, .rw, .maintainer, (.num 0), .staged, .any, 1⟩,
    ⟨0x05, 0x05, .u8, .ro, .observer, (.num 0), .volatile, .any, 1⟩,
    ⟨0x06, 0x06, .u32, .ro, .observer, (.num 0), .volatile, .any, 4⟩,
    ⟨0x07, 0x07, .u8, .ro, .observer, (.num 0), .volatile, .any, 1⟩,
    ⟨0x08, 0x08, .u8, .ro, .observer, (.num 0), .volatile, .any, 1⟩,
    ⟨0x09, 0x09, .octet, .ro, .observer, (.zeros 64), .volatile, .any, 64⟩,
    ⟨0x0A, 0x0A, .u32, .ro, .observer, (.num 0), .volatile, .any, 4⟩,
    ⟨0x0B, 0x0B, .u8, .wo, .operator, (.num 0), .volatile, (.codes [1]), 1⟩,
    ⟨0x0C, 0x0C, .u32, .rw, .maintainer, (.num 0), .volatile, .zeroOnly, 4⟩] }

/-- 0x33A0 + n, n < 64 (17_can_fd.md, R460). -/
def r33A0 : OdRec :=
  { base := 0x33A0, count := 64, ents := [
    ⟨0x00, 0x00, .u8, .const, .observer, (.num 13), .fixed, .any, 1⟩,
    ⟨0x01, 0x01, .bool, .rw, .maintainer, (.num 0), .staged, .any, 1⟩,
    ⟨0x02, 0x02, .u8, .rw, .maintainer, (.num 1), .staged, (.codes [1, 2]), 1⟩,
    ⟨0x03, 0x03, .u8, .rw, .maintainer, (.num 1), .staged, (.rng 1 3), 1⟩,
    ⟨0x04, 0x05, .u32, .rw, .maintainer, (.num 0), .staged, .any, 4⟩,
    ⟨0x06, 0x06, .u8, .rw, .maintainer, (.num 0), .staged, (.rng 0 254), 1⟩,
    ⟨0x07, 0x07, .vstr, .rw, .maintainer, .empty, .staged, .any, 48⟩,
    ⟨0x08, 0x08, .u8, .rw, .maintainer, (.num 0), .staged, (.codes [0, 1]), 1⟩,
    ⟨0x09, 0x09, .u32, .rw, .maintainer, (.num 0), .staged, (.rng 0 100000), 4⟩,
    ⟨0x0A, 0x0A, .u32, .rw, .maintainer, (.num 0), .volatile, .zeroOnly, 4⟩,
    ⟨0x0B, 0x0B, .u32, .rw, .maintainer, (.num 0), .volatile, .zeroOnly, 4⟩,
    ⟨0x0C, 0x0C, .u32, .rw, .maintainer, (.num 0), .volatile, .zeroOnly, 4⟩,
    ⟨0x0D, 0x0D, .u8, .rw, .maintainer, (.num 1), .staged, (.rng 1 3), 1⟩] }

/-- 0x3400 (10_mooring.md, R273). -/
def r3400 : OdRec :=
  { base := 0x3400, count := 1, ents := [
    ⟨0x00, 0x00, .u8, .const, .observer, (.num 8), .fixed, .any, 1⟩,
    ⟨0x01, 0x01, .bool, .rw, .maintainer, (.num 1), .staged, .any, 1⟩,
    ⟨0x02, 0x02, .u16, .rw, .maintainer, (.num 30), .staged, (.rng 1 3600), 2⟩,
    ⟨0x03, 0x03, .u32, .rw, .maintainer, (.num 14400), .staged, (.rng 60 259200), 4⟩,
    ⟨0x04, 0x04, .u8, .rw, .maintainer, (.num 30), .staged, .any, 1⟩,
    ⟨0x05, 0x05, .u8, .rw, .maintainer, (.num 15), .staged, (.mask 0xF), 1⟩,
    ⟨0x06, 0x06, .u8, .rw, .maintainer, (.num 1), .staged, (.codes [0, 1]), 1⟩,
    ⟨0x07, 0x07, .bool, .rw, .maintainer, (.num 1), .staged, .any, 1⟩,
    ⟨0x08, 0x08, .u16, .rw, .maintainer, (.num 1000), .staged, (.rng 100 10000), 2⟩] }

/-- 0x3401 (10_mooring.md, R274). -/
def r3401 : OdRec :=
  { base := 0x3401, count := 1, ents := [
    ⟨0x00, 0x00, .u8, .const, .observer, (.num 11), .fixed, .any, 1⟩,
    ⟨0x01, 0x01, .u8, .ro, .observer, (.num 0), .volatile, .any, 1⟩,
    ⟨0x02, 0x02, .u8, .ro, .observer, (.num 0), .volatile, .any, 1⟩,
    ⟨0x03, 0x03, .u64, .ro, .observer, (.num 0), .volatile, .any, 8⟩,
    ⟨0x04, 0x04, .u32, .ro, .observer, (.num 0), .volatile, .any, 4⟩,
    ⟨0x05, 0x05, .u32, .ro, .observer, (.num 0), .volatile, .any, 4⟩,
    ⟨0x06, 0x06, .u8, .ro, .observer, (.num 0), .stored, .any, 1⟩,
    ⟨0x07, 0x07, .u8, .ro, .observer, (.num 0), .stored, .any, 1⟩,
    ⟨0x08, 0x08, .u32, .rw, .maintainer, (.num 0), .stored, .zeroOnly, 4⟩,
    ⟨0x09, 0x09, .u32, .rw, .maintainer, (.num 0), .stored, .zeroOnly, 4⟩,
    ⟨0x0A, 0x0A, .u32, .rw, .maintainer, (.num 0), .stored, .zeroOnly, 4⟩,
    ⟨0x0B, 0x0B, .u32, .rw, .maintainer, (.num 0), .stored, .zeroOnly, 4⟩] }

/-- 0x3402 (10_mooring.md, R274). -/
def r3402 : OdRec :=
  { base := 0x3402, count := 1, ents := [
    ⟨0x00, 0x00, .u8, .const, .observer, (.num 1), .fixed, .any, 1⟩,
    ⟨0x01, 0x01, .bool, .rw, .operator, (.num 0), .volatile, .any, 1⟩] }

/-- 0x3410 + n, n < 4 (10_mooring.md, R275). -/
def r3410 : OdRec :=
  { base := 0x3410, count := 4, ents := [
    ⟨0x00, 0x00, .u8, .const, .observer, (.num 6), .fixed, .any, 1⟩,
    ⟨0x01, 0x01, .u8, .rw, .maintainer, (.num 1), .staged, (.codes [0, 1, 2]), 1⟩,
    ⟨0x02, 0x02, .u32, .rw, .maintainer, (.num 0), .staged, .any, 4⟩,
    ⟨0x03, 0x03, .u32, .rw, .maintainer, (.num 536870911), .staged, .any, 4⟩,
    ⟨0x04, 0x04, .u8, .rw, .maintainer, (.num 0), .staged, (.rng 0 8), 1⟩,
    ⟨0x05, 0x05, .u64, .rw, .maintainer, (.num 0), .staged, .any, 8⟩,
    ⟨0x06, 0x06, .bool, .rw, .maintainer, (.num 1), .staged, .any, 1⟩] }

/-- 0x3500 (19_logbook.md, R498). -/
def r3500 : OdRec :=
  { base := 0x3500, count := 1, ents := [
    ⟨0x00, 0x00, .u8, .const, .observer, (.num 6), .fixed, .any, 1⟩,
    ⟨0x01, 0x01, .u32, .ro, .observer, (.num 0), .volatile, .any, 4⟩,
    ⟨0x02, 0x02, .u16, .const, .observer, (.num 24576), .fixed, .any, 2⟩,
    ⟨0x03, 0x03, .u16, .ro, .observer, (.num 10240), .volatile, .any, 2⟩,
    ⟨0x04, 0x04, .u16, .ro, .observer, (.num 0), .volatile, .any, 2⟩,
    ⟨0x05, 0x05, .u64, .ro, .observer, (.num 0), .volatile, .any, 8⟩,
    ⟨0x06, 0x06, .u32, .rw, .maintainer, (.num 0), .volatile, .zeroOnly, 4⟩] }

/-- 0x3501 (19_logbook.md, R498). -/
def r3501 : OdRec :=
  { base := 0x3501, count := 1, ents := [
    ⟨0x00, 0x00, .u8, .const, .observer, (.num 5), .fixed, .any, 1⟩,
    ⟨0x01, 0x01, .u8, .ro, .observer, (.num 0), .volatile, .any, 1⟩,
    ⟨0x02, 0x02, .u8, .rw, .maintainer, (.num 0), .volatile, .zeroOnly, 1⟩,
    ⟨0x03, 0x03, .u32, .rw, .maintainer, (.num 0), .volatile, .zeroOnly, 4⟩,
    ⟨0x04, 0x04, .u32, .rw, .maintainer, (.num 0), .volatile, .zeroOnly, 4⟩,
    ⟨0x05, 0x05, .u32, .rw, .maintainer, (.num 0), .volatile, .zeroOnly, 4⟩] }

/-- 0x3502 (19_logbook.md, R499). -/
def r3502 : OdRec :=
  { base := 0x3502, count := 1, ents := [
    ⟨0x00, 0x00, .u8, .const, .observer, (.num 4), .fixed, .any, 1⟩,
    ⟨0x01, 0x01, .domain, .wo, .observer, .empty, .volatile, .any, 4194304⟩,
    ⟨0x02, 0x02, .u8, .ro, .observer, (.num 0), .stored, .any, 1⟩,
    ⟨0x03, 0x03, .u8, .ro, .observer, (.num 0), .volatile, .any, 1⟩,
    ⟨0x04, 0x04, .domain, .ro, .observer, .empty, .stored, .any, 4194304⟩] }

/-- 0x3503 (19_logbook.md, R499). -/
def r3503 : OdRec :=
  { base := 0x3503, count := 1, ents := [
    ⟨0x00, 0x00, .u8, .const, .observer, (.num 8), .fixed, .any, 1⟩,
    ⟨0x01, 0x01, .u64, .rw, .maintainer, (.num 0), .volatile, .any, 8⟩,
    ⟨0x02, 0x02, .u64, .rw, .maintainer, (.num 18446744073709551615), .volatile, .any, 8⟩,
    ⟨0x03, 0x03, .u8, .rw, .maintainer, (.num 15), .volatile, (.mask 0xF), 1⟩,
    ⟨0x04, 0x04, .u8, .wo, .maintainer, (.num 0), .volatile, (.codes [1]), 1⟩,
    ⟨0x05, 0x05, .domain, .ro, .observer, .empty, .volatile, .any, 4194304⟩,
    ⟨0x06, 0x06, .u32, .ro, .observer, (.num 0), .volatile, .any, 4⟩,
    ⟨0x07, 0x07, .u32, .rw, .maintainer, (.num 0), .volatile, .zeroOnly, 4⟩,
    ⟨0x08, 0x08, .u32, .rw, .maintainer, (.num 0), .volatile, .zeroOnly, 4⟩] }

/-- 0x3510 + n, n < 64 (19_logbook.md, R500). -/
def r3510 : OdRec :=
  { base := 0x3510, count := 64, ents := [
    ⟨0x00, 0x00, .u8, .const, .observer, (.num 5), .fixed, .any, 1⟩,
    ⟨0x01, 0x01, .u16, .rw, .maintainer, (.num 32), .staged, (.rng 0 1024), 2⟩,
    ⟨0x02, 0x02, .u16, .rw, .maintainer, (.num 128), .staged, (.rng 0 4096), 2⟩,
    ⟨0x03, 0x03, .u16, .rw, .maintainer, (.num 10), .staged, (.rng 0 3600), 2⟩,
    ⟨0x04, 0x04, .u16, .ro, .observer, (.num 0), .volatile, .any, 2⟩,
    ⟨0x05, 0x05, .u32, .ro, .observer, (.num 0), .stored, .any, 4⟩] }

/-- 0x3550 + n, n < 64 (19_logbook.md, R500). -/
def r3550 : OdRec :=
  { base := 0x3550, count := 64, ents := [
    ⟨0x00, 0x00, .u8, .const, .observer, (.num 1), .fixed, .any, 1⟩,
    ⟨0x01, 0x01, .domain, .ro, .observer, .empty, .stored, .any, 4194304⟩] }

/-- 0x3590 + n, n < 64 (19_logbook.md, R500). -/
def r3590 : OdRec :=
  { base := 0x3590, count := 64, ents := [
    ⟨0x00, 0x00, .u8, .const, .observer, (.num 1), .fixed, .any, 1⟩,
    ⟨0x01, 0x01, .domain, .ro, .observer, .empty, .stored, .any, 4194304⟩] }

/-- 0x35D0 + n, n < 24 (19_logbook.md, R501). -/
def r35D0 : OdRec :=
  { base := 0x35D0, count := 24, ents := [
    ⟨0x00, 0x00, .u8, .const, .observer, (.num 3), .fixed, .any, 1⟩,
    ⟨0x01, 0x01, .domain, .ro, .observer, (.zeros 128), .stored, .any, 4194304⟩,
    ⟨0x02, 0x02, .i32, .ro, .observer, .derived, .volatile, .any, 4⟩,
    ⟨0x03, 0x03, .u32, .ro, .observer, .derived, .volatile, .any, 4⟩] }

/-- 0x35E8 + n, n < 24 (19_logbook.md, R501). -/
def r35E8 : OdRec :=
  { base := 0x35E8, count := 24, ents := [
    ⟨0x00, 0x00, .u8, .const, .observer, (.num 6), .fixed, .any, 1⟩,
    ⟨0x01, 0x01, .i32, .ro, .observer, (.num 2147483647), .stored, .any, 4⟩,
    ⟨0x02, 0x03, .u32, .ro, .observer, (.num 0), .stored, .any, 4⟩,
    ⟨0x04, 0x04, .i32, .ro, .observer, (.num (-2147483648)), .stored, .any, 4⟩,
    ⟨0x05, 0x06, .u32, .ro, .observer, (.num 0), .stored, .any, 4⟩] }

/-- 0x3600 (15_host_port_event_gate.md, R415). -/
def r3600 : OdRec :=
  { base := 0x3600, count := 1, ents := [
    ⟨0x00, 0x00, .u8, .const, .observer, (.num 254), .fixed, .any, 1⟩,
    ⟨0x01, 0x01, .u8, .ro, .observer, .derived, .volatile, .any, 1⟩,
    ⟨0x02, 0x02, .u32, .rw, .maintainer, (.num 0), .volatile, .zeroOnly, 4⟩,
    ⟨0x03, 0x03, .u32, .rw, .maintainer, (.num 0), .volatile, .zeroOnly, 4⟩,
    ⟨0x04, 0x04, .u32, .rw, .maintainer, (.num 0), .volatile, .zeroOnly, 4⟩,
    ⟨0x10, 0x13, .u8, .rw, .maintainer, (.num 48), .staged, (.rng 0 63), 1⟩,
    ⟨0x14, 0x17, .u32, .rw, .maintainer, (.num 0), .volatile, .zeroOnly, 4⟩,
    ⟨0x18, 0x18, .u32, .rw, .maintainer, (.num 0), .volatile, .zeroOnly, 4⟩,
    ⟨0x80, 0x80, .bool, .rw, .maintainer, (.num 1), .staged, .any, 1⟩,
    ⟨0x81, 0x81, .u16, .rw, .maintainer, (.num 2000), .staged, (.rng 500 50000), 2⟩,
    ⟨0x82, 0x82, .u16, .rw, .maintainer, (.num 4000), .staged, (.rng 1000 50000), 2⟩,
    ⟨0x83, 0x83, .u8, .rw, .maintainer, (.num 16), .staged, (.rng 1 64), 1⟩,
    ⟨0x84, 0x84, .bool, .rw, .maintainer, (.num 0), .staged, .any, 1⟩,
    ⟨0x85, 0x85, .octet, .rw, .maintainer, (.zeros 32), .staged, .any, 32⟩,
    ⟨0x86, 0x86, .bool, .rw, .maintainer, (.num 1), .staged, .any, 1⟩,
    ⟨0x88, 0x88, .u64, .rw, .maintainer, (.num 7971459301376), .staged, .any, 8⟩,
    ⟨0x89, 0x8F, .u64, .rw, .maintainer, (.num 0), .staged, .any, 8⟩,
    ⟨0x90, 0x90, .domain, .ro, .observer, .empty, .volatile, .any, 4194304⟩,
    ⟨0x91, 0x91, .u16, .ro, .observer, (.num 0), .volatile, .any, 2⟩,
    ⟨0x92, 0x92, .u8, .ro, .observer, (.num 0), .volatile, .any, 1⟩,
    ⟨0x93, 0x93, .u32, .rw, .maintainer, (.num 0), .volatile, .zeroOnly, 4⟩,
    ⟨0x94, 0x94, .u32, .rw, .maintainer, (.num 0), .volatile, .zeroOnly, 4⟩,
    ⟨0x95, 0x95, .u32, .rw, .maintainer, (.num 0), .volatile, .zeroOnly, 4⟩,
    ⟨0x96, 0x96, .u32, .rw, .maintainer, (.num 0), .volatile, .zeroOnly, 4⟩,
    ⟨0x97, 0x97, .u32, .rw, .maintainer, (.num 0), .volatile, .zeroOnly, 4⟩,
    ⟨0x98, 0x98, .u32, .rw, .maintainer, (.num 0), .volatile, .zeroOnly, 4⟩,
    ⟨0x99, 0x99, .u32, .rw, .maintainer, (.num 0), .volatile, .zeroOnly, 4⟩,
    ⟨0x9A, 0x9A, .u32, .rw, .maintainer, (.num 0), .volatile, .zeroOnly, 4⟩,
    ⟨0x9B, 0x9B, .u32, .rw, .maintainer, (.num 0), .volatile, .zeroOnly, 4⟩,
    ⟨0x9C, 0x9C, .domain, .ro, .observer, .empty, .volatile, .any, 4194304⟩,
    ⟨0x9D, 0x9D, .u64, .ro, .observer, (.num 0), .volatile, .any, 8⟩] }

/-- 0x3601 + n, n < 255 (15_host_port_event_gate.md, R416). -/
def r3601 : OdRec :=
  { base := 0x3601, count := 255, ents := [
    ⟨0x00, 0x00, .u8, .const, .observer, (.num 6), .fixed, .any, 1⟩,
    ⟨0x01, 0x01, .u8, .rw, .maintainer, (.num 0), .staged, (.rng 0 3), 1⟩,
    ⟨0x02, 0x02, .bool, .rw, .maintainer, (.instFrom 247 1), .staged, .any, 1⟩,
    ⟨0x03, 0x03, .u32, .rw, .maintainer, (.num 0), .volatile, .zeroOnly, 4⟩,
    ⟨0x04, 0x04, .u32, .rw, .maintainer, (.num 0), .volatile, .zeroOnly, 4⟩,
    ⟨0x05, 0x05, .u32, .ro, .observer, (.num 0), .volatile, .any, 4⟩,
    ⟨0x06, 0x06, .bool, .rw, .maintainer, (.num 0), .volatile, .zeroOnly, 1⟩] }

/-- 0x3F00 (13_object_dictionary.md, R367). -/
def r3F00 : OdRec :=
  { base := 0x3F00, count := 1, ents := [
    ⟨0x00, 0x00, .u8, .const, .observer, (.num 2), .fixed, .any, 1⟩,
    ⟨0x01, 0x01, .u8, .ro, .observer, (.num 0), .volatile, .any, 1⟩,
    ⟨0x02, 0x02, .u16, .ro, .observer, (.num 0), .volatile, .any, 2⟩] }

/-- 0x3F01 + n, n < 7 (13_object_dictionary.md, R367). -/
def r3F01 : OdRec :=
  { base := 0x3F01, count := 7, ents := [
    ⟨0x00, 0x00, .u8, .const, .observer, (.num 10), .fixed, .any, 1⟩,
    ⟨0x01, 0x01, .u8, .ro, .observer, (.num 0), .volatile, .any, 1⟩,
    ⟨0x02, 0x02, .u16, .ro, .observer, (.num 0), .volatile, .any, 2⟩,
    ⟨0x03, 0x03, .u32, .ro, .observer, (.num 0), .volatile, .any, 4⟩,
    ⟨0x04, 0x04, .u32, .ro, .observer, (.num 0), .volatile, .any, 4⟩,
    ⟨0x05, 0x05, .u8, .const, .observer, (.inst [0, 1, 2, 3, 4, 5, 2]), .fixed, .any, 1⟩,
    ⟨0x06, 0x06, .u8, .ro, .observer, (.num 0), .volatile, .any, 1⟩,
    ⟨0x07, 0x07, .time80, .ro, .observer, (.num 0), .volatile, .any, 10⟩,
    ⟨0x08, 0x08, .u32, .rw, .maintainer, (.num 0), .volatile, .zeroOnly, 4⟩,
    ⟨0x09, 0x09, .octet, .ro, .observer, (.zeros 10), .volatile, .any, 10⟩,
    ⟨0x0A, 0x0A, .u8, .wo, .maintainer, (.num 0), .volatile, (.codes [1]), 1⟩] }

/-- Part 0 of the dictionary. -/
def part0 : List OdRec := [r1000, r1001, r1003, r1005, r1008, r1009, r100A, r1012, r1014, r1015, r1016, r1017, r1018, r1019, r1029, r1200, r1400, r1600, r1800, r1A00, r2000, r2001, r2010, r2011]

/-- Part 1 of the dictionary. -/
def part1 : List OdRec := [r2018, r2100, r2101, r2102, r2103, r2104, r2105, r2108, r2110, r2120, r2200, r2210, r2211, r2220, r2230, r2240, r2250, r2400, r2410, r2418, r2420, r2428, r2430, r2440]

/-- Part 2 of the dictionary. -/
def part2 : List OdRec := [r2441, r2460, r2468, r2480, r2481, r2484, r2498, r2600, r2601, r2602, r2608, r2610, r2612, r2618, r2619, r2620, r2630, r2650, r2800, r2810, r2820, r2830, r2840, r2848]

/-- Part 3 of the dictionary. -/
def part3 : List OdRec := [r2858, r2860, r2880, r2890, r28A0, r28B0, r2C00, r2C10, r2C20, r2C30, r2C40, r2C50, r2C58, r2C60, r2C78, r2E00, r2E10, r2E30, r3000, r3001, r3002, r3003, r3004, r3005]

/-- Part 4 of the dictionary. -/
def part4 : List OdRec := [r3100, r3101, r3110, r3111, r3112, r3120, r3121, r3122, r3124, r3130, r3140, r3150, r3160, r3200, r3201, r3202, r3210, r3220, r3230, r3240, r3250, r3300, r3301, r3302]

/-- Part 5 of the dictionary. -/
def part5 : List OdRec := [r3310, r3314, r3318, r331C, r3320, r3340, r33A0, r3400, r3401, r3402, r3410, r3500, r3501, r3502, r3503, r3510, r3550, r3590, r35D0, r35E8, r3600, r3601, r3F00, r3F01]

/-- Every record of the dictionary, by index (R368). -/
def table : List OdRec := part0 ++ part1 ++ part2 ++ part3 ++ part4 ++ part5

end Od

end Sys2Proof.Machine
end

