-- ==== Sys2Proof/Machine/State.lean ====
section
/-!
DEFINITION. The state of the block: every register, FIFO, buffer, counter, mode and pin the spec gives it, as plain
data, and the queue of the commands that are waiting. An entry of the object dictionary has its one home in `State.od`
(a sparse store in canonical form: an entry at its default is not listed); what stands below beside it is the state
that the rules name but no dictionary entry shows.
-/

namespace Sys2Proof.Machine

/-- Why the machine stops with a fault. No command of the table faults in this model: the spec gives every one of them
an effect. The type has one constructor, so that the interface is complete. -/
inductive Fault where
  /-- Raised by nothing. Safe. -/
  | none
  deriving DecidableEq, Repr

/-- Why a command has no meaning. -/
inductive Refusal where
  /-- The arm of a command whose meaning is not written. Safe: the machine stops. -/
  | notModelled (mnemonic : String)
  deriving DecidableEq, Repr

/-- The dictionary store: `(index * 256 + sub-index, value)`, keys rising, no value equal to its static default. -/
abbrev Store := List (Nat × Val)

/-- A sparse table of like things by number; a number not listed stands for the thing's reset value. -/
abbrev Tab (α : Type) := List (Nat × α)

/-! ### What leaves the block -/

/-- A gPTP message this device sends (R193, R198): domain number, sequence number, times in 1/65536 ns. -/
inductive GptpMsg where
  | sync (domain sequence : Nat)
  | followUp (domain sequence : Nat) (origin : Int)
  | announce (domain sequence : Nat)
  | pdelayReq (sequence : Nat)
  | pdelayResp (sequence : Nat) (received : Int)
  | pdelayRespFollowUp (sequence : Nat) (sent : Int)
  deriving DecidableEq, Repr

/-- What a DSI output sends or does (R99 to R103, R80): the lanes leave LP-11 or go to it; an entry of the panel script in
low-power escape mode, as virtual channel, data type and data, or its delay in ms; the compression-mode command and the
picture parameter set before a frame with link compression; a frame with the lines of its front porch; composed 24-bit
pixels from a row and a column on. -/
inductive DsiItem where
  | leave
  | stop
  | packet (channel type : Nat) (data : List Byte)
  | delay (ms : Nat)
  | frame (m porch : Nat)
  | pixels (row column : Nat) (rgb : List (Nat × Nat × Nat))
  deriving DecidableEq, Repr

/-- What a command sends out of the block: frames, messages and pulses. The model's own record of its outputs (log 4). -/
inductive Out where
  /-- A forwarded slot frame at a coupler egress; `fcsGood` FALSE when it ends with an inverted FCS. -/
  | slot (port : Nat) (h : Header) (fcsGood : Bool)
  /-- An own frame on a coupler port: its Limiwyn header, the sender's identity, sequence number and CT32 of its egress
  instant (R159), and its bytes up to the end of what the model lays out of its payload (R158, log 75). -/
  | own (port : Nat) (h : Header) (sender sequence : Nat) (stamp : Int) (frame : List Byte)
  /-- PHY low power over MDIO, set or released (R136). -/
  | phyPower (port : Nat) (low : Bool)
  /-- A frame that was leaving a port as its link went down ends with an inverted FCS (R136). -/
  | truncated (port : Nat)
  /-- A SYNC frame forwarded with its correction in 1/256 ns and hop count (R184); an own one (R182): sync order, the
  flags, correction, hop count, scheduled egress. -/
  | sync (port : Nat) (slot : Nat) (correction : Int) (hops : Nat)
  | syncOwn (port order : Nat) (inSync cold : Bool) (correction : Int) (hops : Nat) (egress : Int)
  /-- The records of an own CAN_TUNNEL frame (R455), and an own fragment of a slice with its data bytes (R93). -/
  | tunnel (port : Nat) (records : List TunnelRecord)
  | fragment (port : Nat) (h : SliceHeader) (data : List Byte)
  | makeUp (port : Nat) (m : MakeUp)
  | status (port : Nat) (x : Status)
  | coldStart (port : Nat) (f : ColdStart)
  | openWater (port : Nat) (t : OwType) (bytes : Nat) (h : Option Header)
  /-- A Limiwyn frame on a star port (R139, R158): kind 1 TRIGGER, 2 slice; its bytes. -/
  | star (port : Nat) (kind : Nat) (frame : List Byte)
  /-- A gPTP message on a star port, with the clock identity it carries (R198). -/
  | gptp (port : Nat) (identity : Nat) (m : GptpMsg)
  /-- A management message to a device: destination identity, index, sub-index, data. -/
  | mgmt (dest : Nat) (index sub : Nat) (data : List Byte)
  /-- A response to an access: path, status, data. -/
  | response (path : Path) (status : Nat) (data : List Byte)
  | can (port : Nat) (f : CanFrame)
  | msix (vector : Nat)
  | mdio (write : Bool) (master phy dev reg value : Nat)
  /-- A register transfer on a CCI bus: register address in `regBytes` bytes, data in `width` bytes (R32, R34, R57). -/
  | cci (port : Nat) (write : Bool) (addr regBytes reg width value : Nat)
  /-- A common command on a CCI bus in I3C mode (R30): its code, the address it names (0x7E: all), a byte where it has one. -/
  | ccc (port code addr : Nat) (value : Option Nat)
  | genlock (slot : Nat) (at_ : Int)
  /-- What a DSI output does (R99 to R103). -/
  | dsi (display : Nat) (x : DsiItem)
  /-- A view definition sent to the source of a binding (R76): its identity, the camera name, the definition, in which the
  slot is the source's to fill in. -/
  | viewDefinition (dest : Nat) (camera : List Byte) (d : ViewDef)
  /-- The answer of a source to a definition, and its later reports of pan and signal (R76, R86, R127). -/
  | viewAnswer (dest : Nat) (view inst reason breach need : Nat) (pan : Int) (signal : Nat)
  /-- A lock message with its destination identity and berth, 0 for every berth (R422). -/
  | lock (t : LockType) (dest berth : Nat) (m : LockMsg)
  /-- The completion of a host read of BAR2 (R418, R427). -/
  | bar2 (offset : Nat) (data : List Byte)
  | log (kind : Nat) (dest : Nat) (number : Nat) (bytes : Nat)
  | consent (token : Consent)
  /-- A message to the partner over the tow line (R278). -/
  | tow (x : TowInput)
  /-- An applied field output state (R462), a pulse on the coupler wake lines (R270, R271; bit p for port p). -/
  | field (channel : Nat) (on : Bool)
  | wakePulse (ports : Nat)
  /-- The TC10 sleep request to a coupler PHY, or low power to a star PHY (R268). -/
  | phySleep (star : Bool) (port : Nat)
  /-- Pair pins as driven: PAIR_ROLE_OUT and PAIR_XDIS_OUT (R280). -/
  | pairPins (role xdis : Bool)
  /-- A neighbour-authentication or session message: kind, port or session, code. -/
  | auth (kind : Nat) (a b : Nat)
  deriving DecidableEq, Repr

/-! ### The dictionary -/

/-- A segmented write in progress (R348). -/
structure SegWrite where
  writer : Writer
  key : Nat
  total : Nat
  data : List Byte
  deriving DecidableEq, Repr

/-- The snapshot of a segmented read (R348). -/
structure Snapshot where
  writer : Writer
  key : Nat
  data : List Byte
  pos : Nat
  deriving DecidableEq, Repr

/-- A message being put together from MGMT chunks (R359). -/
structure Reassembly where
  origin : Nat
  number : Nat
  kind : Nat
  total : Nat
  got : List (Nat × Nat)
  deriving DecidableEq, Repr

/-- Staging, segments and messages of the dictionary service (R347, R348, R353, R359, R360). -/
structure Dict where
  /-- The staged changes: the entries in which the staging copy differs from the applied configuration. -/
  staging : Store := []
  holder : Option Writer := none
  segWrites : List SegWrite := []
  snapshots : List Snapshot := []
  reassembly : List Reassembly := []
  /-- Message number of the next MGMT message of this device. -/
  mgmtNext : Nat := 0
  /-- Requests sent and not yet answered, oldest first: destination and path (R359). -/
  awaiting : List (Nat × Path) := []
  /-- MGMT chunks already taken: origin, message number, offset. -/
  seen : List (Nat × Nat × Nat) := []
  /-- 0x2018:01 and :03 of each path (R366: held separately for each access path). -/
  relayDest : Tab Nat := []
  relayReply : Tab (List Byte) := []
  deriving DecidableEq, Repr

/-- One copy of an MRAM area (R350): its commit word and CRC stand in `valid`. -/
structure Copy where
  generation : Nat := 0
  valid : Bool := false
  data : Store := []
  deriving DecidableEq, Repr

/-- The two areas of R350, each in two copies. -/
structure Mram where
  config0 : Copy := {}
  config1 : Copy := {}
  stored0 : Copy := {}
  stored1 : Copy := {}
  /-- TRUE while the MRAM takes no store (R355, reason 0x13): a condition of the part, which no command of the table sets (log 60). -/
  storeFails : Bool := false
  deriving DecidableEq, Repr

/-- Fuses (R307, R333, R336). -/
structure Fuses where
  identity : Nat
  rollback : Nat := 0
  debugClosed : Bool := false
  deriving DecidableEq, Repr

/-! ### Power, clocks and reset -/

/-- Where the device stands between supply and READY (R506, R516). -/
inductive Phase where
  /-- VAON absent. -/
  | off
  | moored
  /-- The logic die is held in reset. -/
  | reset
  /-- Step 1 of the boot: POR released or reset ended. -/
  | booting
  /-- Steps 2 and 3: an image verified, the cores run. -/
  | verified
  /-- No image verified (R331). -/
  | noImage
  /-- Step 4 reached: READY. -/
  | ready
  deriving DecidableEq, Repr

/-- Supplies, straps, resets, clock islands (R502 to R519). -/
structure Power where
  phase : Phase := .reset
  /-- Cause of the reset in force, or of the last one (R514). -/
  cause : Nat := 1
  /-- HOST_SEL as sampled at POR release (R397). -/
  hostSel : BitVec 2 := 0
  /-- The pins POR_N, CLAIM_EN, INH and WAKE_OUT as driven. -/
  porN : Bool := true
  claimEn : Bool := false
  inh : Bool := true
  wakeOut : Bool := false
  /-- Islands whose clock runs (R508), bit i for island i. -/
  islands : BitVec 30 := 0
  /-- AON latches of inputs that saw an edge while their island stood: bit s for source s (R411, R509). -/
  latched : BitVec 256 := 0
  /-- AON latches of the time captures (R206). -/
  captureLatch : BitVec 4 := 0
  /-- The reference is in fault, and for 100 us (R513). -/
  refFault : Bool := false
  /-- TRUE while the pending image of R332 has not yet reported healthy. -/
  pendingImage : Bool := false
  selectedImage : Nat := 0
  /-- Counter values of the last lockstep error of each core pair (R515). -/
  lockstep : Tab Nat := []
  /-- A reset that falls due after a response or a delay, by cause (R514, R515). -/
  resetDue : Option Nat := none
  scrubbing : Bool := false
  /-- A power-up from OFF waits for POR release (R506). -/
  powerUp : Bool := false
  deriving DecidableEq, Repr

/-! ### Time -/

/-- A time view (R178): anchor (a counter value), base in 1/65536 ns, and rate. -/
structure View where
  anchor : Nat := 0
  base : Int := 0
  rate : Rate := {}
  deriving DecidableEq, Repr

/-- A deviation d[i][c] in 1/65536 ns (R184, R186). -/
structure DevVal where
  order : Nat
  chan : Chan
  d : Int
  used : Bool := true
  deriving DecidableEq, Repr

/-- The relation of a domain as taken (R193, R194). -/
structure Domain where
  view : View := {}
  rate : Rate := {}
  /-- A relation is written and waits for the next passage start. -/
  fresh : Bool := false
  /-- A relation was ever received. -/
  known : Bool := false
  /-- The gateway is another than the one whose relation was last taken: its first relation is taken with a step (R179). -/
  moved : Bool := true
  /-- The rate beside the relation's own that brings the view to a later relation, and the passages it still runs (log 76). -/
  slew : Rate := {}
  left : Nat := 0
  /-- Flights without a gateway in the consist. -/
  orphan : Nat := 0
  /-- This node offers the domain (R192). -/
  offers : Bool := false
  deriving DecidableEq, Repr

/-- The gPTP ports (R193, R198). -/
structure Gptp where
  /-- Sync received: sequence number and ingress stamp, waiting for its Follow_Up. -/
  sync : Option (Nat × Int) := none
  /-- Last (CT, domain time) of a completed Sync, and the rates of the last 8 intervals in 10^-12. -/
  last : Option (Int × Int) := none
  rates : List Int := []
  /-- The reference instant and domain time of the newest relation. -/
  ctRef : Int := 0
  domRef : Int := 0
  /-- Egress stamp of the Pdelay_Req that waits for its answer. -/
  reqAt : Option Int := none
  /-- The last answer: the peer's egress time and the own ingress stamp, in 1/65536 ns. -/
  lastResp : Option (Int × Int) := none
  seqNo : Nat := 0
  /-- Sequence number of the last own Pdelay_Req and Announce; the last exchange got no valid answer (R211). -/
  reqNo : Nat := 0
  announceNo : Nat := 0
  failed : Bool := false
  deriving DecidableEq, Repr

/-- What waits at a star port's egress beside slices (R139): a gPTP message, or a TRIGGER message of a camera slot. -/
inductive StarItem where
  | gptp (m : GptpMsg)
  | trigger (slot : Nat) (payload : List Byte)
  deriving DecidableEq, Repr

/-- A star port's egress (R139): what waits, in order of service, and the counter value until which a frame leaves. -/
structure StarLine where
  queue : List StarItem := []
  busyUntil : Nat := 0
  deriving DecidableEq, Repr

/-- A time pulse output (R202 to R204). -/
structure Pulse where
  /-- The next edge instant, in the pulse's time base. -/
  next : Option Int := none
  /-- The first index of a periodic pulse that has not been emitted. -/
  k : Nat := 0
  /-- The output is asserted, for this width; TRUE in `low` where its owner asserts it low. -/
  high : Bool := false
  width : Nat := 0
  low : Bool := false
  /-- Where the last edge was placed: counter value and fine delay in 100 ps (R203). -/
  tick : Nat := 0
  fine : Nat := 0
  deriving DecidableEq, Repr

/-- An entry of a capture FIFO (R205, R213). -/
structure CapEntry where
  stamp : Int
  rising : Bool
  invalid : Bool
  deriving DecidableEq, Repr

/-- The local counter, cluster time, the domains and NT. -/
structure Clock where
  running : Bool := false
  counter : Nat := 0
  ct : View := {}
  /-- CT of the start of the flight in progress. -/
  flightStart : Int := 0
  /-- Passage 0 of the flight has not been announced by a PASSAGE_START yet. -/
  fresh : Bool := false
  rho : Rate := {}
  /-- δ of the passage now measured, in 1/256 ns, and the δ being slewed in. -/
  delta : Int := 0
  slewing : Int := 0
  /-- Sum of the δ applied since passage 0 (R188). -/
  applied : Int := 0
  vals : List DevVal := []
  at0 : List DevVal := []
  at63 : List DevVal := []
  /-- The values of the last averaging (0x2608). -/
  lastVals : List DevVal := []
  rejects : Nat := 0
  holdPassages : Nat := 0
  ta : Domain := {}
  tb : Domain := {}
  /-- NT as a view (R178): the domain followed, s_0 and T_sw of the slew, σ in ppm (R195). -/
  nt : View := {}
  ntDom : Option Dom := none
  /-- The selection of the consist as the last switch or the lead's word left it (R195). -/
  ntSel : Option Dom := none
  ntS0 : Int := 0
  ntTsw : Int := 0
  ntSigma : Nat := 100
  ntSlewing : Bool := false
  ntCounted : Bool := true
  /-- The switch announced and not yet applied: domain and T_sw. -/
  ntNext : Option (Dom × Int) := none
  gptp : Tab Gptp := []
  star : Tab StarLine := []
  /-- A domain view has stepped in this passage start (R194, R204). -/
  stepped : Bool := false
  pulses : Tab Pulse := []
  captures : Tab (List CapEntry) := []
  /-- The TM_ snapshot (R201): CT, NT, counter. -/
  snapCt : Int := 0
  snapNt : Int := 0
  snapCounter : Nat := 0
  deriving DecidableEq, Repr

/-! ### The line, making-up and the lock-keepers -/

/-- A slot of an expanded table (R148, R152, R154), with the fragment size of its group. -/
structure Slot where
  start : Nat
  length : Nat
  ptype : Nat
  mask : Nat
  group : Nat
  copy : Nat
  size : Nat
  owner : Nat := 0
  repl : Nat := 0
  stream : Nat := 0
  deriving DecidableEq, Repr

/-- A slot frame held for its egress instant (R146). -/
structure Held where
  inPort : Nat
  outPort : Nat
  hdr : Header
  egress : Int
  /-- Deviation at ingress and correction in, of a SYNC frame (R184). -/
  sync : Option (Int × Int × Nat) := none
  fcsGood : Bool := true
  deriving DecidableEq, Repr

/-- A frame of an open-water queue (R155, R156). -/
structure OwItem where
  otype : OwType
  bytes : Nat
  /-- The payload of an own frame, or the header of one that is forwarded. -/
  own : Option (List Byte) := none
  header : Option Header := none
  deriving DecidableEq, Repr

/-- One coupler port beyond its dictionary records: link delay values, loop and turnaround stamps (R185, R218). -/
structure PortLine where
  /-- The last 16 values of the link delay, ps (R185). -/
  delays : List Int := []
  /-- A value from STATUS has been received. -/
  measured : Bool := false
  /-- The last 16 provisional values, ps (R218). -/
  provisional : List Int := []
  /-- The MAKE_UP exchange (R218): the own egress stamp and the neighbour's ingress stamp with its number, both in 100 ps and
  gone once used; the last local differences by exchange number, newest first; the last exchange that gave a value. -/
  muSent : Option Int := none
  muHeardAt : Option (Nat × Int) := none
  diffs : List (Nat × Int) := []
  exchange : Option Nat := none
  /-- Egress and ingress stamps of SYNC slot 0 with their passage, in 100 ps: outward and inward. -/
  syncOut : Option (Nat × Int) := none
  syncIn : Option (Nat × Int) := none
  /-- The loop Λ and the turnaround τ of a passage, in 100 ps (R185). -/
  loop : Option Int := none
  turn : Option Int := none
  /-- Authentication fragments that wait for a MAKE_UP each (R217, R323). -/
  authOut : List (List Byte) := []
  /-- Counter value until which a slot frame is leaving the port. -/
  txUntil : Nat := 0
  owQueue : List OwItem := []
  /-- A making-up frame of the neighbour, the newest. -/
  heard : Option MakeUp := none
  /-- That frame counts as the port's summary: it has been received since the making-up in progress began (R223). -/
  summary : Bool := false
  /-- That frame travelled rearward: the neighbour stands on the lead side. -/
  heardRear : Bool := false
  /-- The link carries the applied consist: it was keyed and UP at the last application (R234). -/
  joined : Bool := false
  /-- Lock-keeper: flights of quarantine entry among the last 16, the flight of the entry in force, generation at isolation. -/
  history : List Nat := []
  entered : Nat := 0
  isoGen : Nat := 0
  /-- The largest residence of a slot frame that arrived in this flight, ps (0x2602). -/
  residence : Nat := 0
  deriving DecidableEq, Repr

/-- An MDIO access queued (R140, R170). -/
structure MdioJob where
  write : Bool
  master : Nat
  phy : Nat
  dev : Nat
  reg : Nat
  value : Nat
  deriving DecidableEq, Repr

/-- The consist as a making-up computes it (R226, R227). -/
structure Consist where
  lead : Nat := 0
  leadRank : Nat := 0
  /-- 0 self, 1 fore, 2 aft. -/
  leadSide : Nat := 0
  orientation : Nat := 0
  berth : Nat := 0
  vehicle : Nat := 0
  set : Nat := 0
  positions : Nat := 0
  vehicles : Nat := 0
  sets : Nat := 0
  hash : Nat := 0
  leftOut : Bool := false
  deriving DecidableEq, Repr

/-- What the last STATUS of a berth and channel said of the fields R254 compares, in which flight and passage. -/
structure Told where
  flight : Nat
  passage : Nat
  hash : Nat
  mode : Nat
  generation : Nat
  deriving DecidableEq, Repr

/-- Membership and reach (R250 to R254) of the flight in progress. -/
structure Members where
  formed : Bool := false
  heardA : Nat := 0
  heardB : Nat := 0
  heardTow : Nat := 0
  /-- The most recent vector received this flight, by berth. -/
  vectors : Tab Nat := []
  ids : Tab Nat := []
  toldA : Tab Told := []
  toldB : Tab Told := []
  /-- Berths that disagreed in this flight, and in the last. -/
  disagree : Nat := 0
  disagreePrev : Nat := 0
  differ : Bool := false
  /-- Sync-capability, motor heard: members by berth whose STATUS named sync-capable. -/
  capable : Nat := 0
  deriving DecidableEq, Repr

/-- A mode switch in progress (R163, R164). -/
structure Switch where
  mode : Nat := 0
  hash : Nat := 0
  f0 : Nat := 0
  /-- Berths that sent the holds bit. -/
  holds : Nat := 0
  /-- The active mode is M15 by the limp rule. -/
  byLimp : Bool := false
  /-- The mode that the limp rule has proposed (R163). -/
  wanted : Option Nat := none
  /-- This device holds the proposed mode with an equal hash; the latest flight of a berth's first STATUS with the holds
  bit (R164). -/
  own : Bool := false
  fa : Nat := 0
  deriving DecidableEq, Repr

/-- Making-up, start-up and adoption (R214 to R237). -/
structure MakingUp where
  /-- Installation entries of an applied commit that wait for F (R214). -/
  newInst : Store := []
  /-- Those of a commit stored in SCHEDULED, which wait for the making-up of the held generation. -/
  heldInst : Store := []
  held : Option Nat := none
  f : Option Nat := none
  consist : Option Consist := none
  /-- Generation and lead of the applied consist; TRUE once one applied since CT was set. -/
  applied : Bool := false
  wasLead : Bool := false
  trigAt : Nat := 0
  /-- CT of the last assertion of the own active-cab input, and its level. -/
  cabAt : Int := 0
  cab : Bool := false
  integrated : Bool := false
  passive : Bool := false
  /-- The template of the active mode is not the lead's (R162): the device stays passive. -/
  mismatch : Bool := false
  conflict : Bool := false
  /-- Working berth, and the berth and side of the neighbour it was formed from (R222). -/
  working : Option Int := none
  neighbourBerth : Int := 0
  /-- That neighbour stands on the aft side. -/
  neighbourAft : Bool := false
  /-- Side of this device on which the lead lies, as the neighbour integrated from shows: 0 unknown, 1 fore, 2 aft. -/
  neighbourSide : Nat := 0
  /-- The time taken is that of a consist already made up, whose application has not yet included this device. -/
  adopted : Bool := false
  /-- The partner's own value of R225, and what its side's ports carry: a counted link, and the summary heard, fore and
  aft; as they came over the tow line. -/
  partnerOwn : Nat := 0
  partnerFore : Bool × Option MakeUp := (false, none)
  partnerAft : Bool × Option MakeUp := (false, none)
  /-- SYNC of the own order was received in the listen flight (R183). -/
  orderHeard : Bool := false
  /-- The positions of the applied consist, and of the one being made up as far as they have been told (log 13). -/
  roster : List Berthed := []
  directory : List Berthed := []
  /-- Agree has been sent toward the lead in this generation. -/
  agreeSent : Bool := false
  /-- The CT view is set and the listen flight is due (1) or running (2). -/
  listen : Nat := 0
  /-- COLD_START passages sent in the attempt. -/
  attempt : Nat := 0
  /-- Passages without a usable frame while integrating. -/
  silent : Nat := 0
  /-- SYNC of the own order heard from a lower identity (R183): to be left at the next passage, and left. -/
  yielding : Bool := false
  yielded : Bool := false
  timeLeadRank : Nat := 0
  /-- Adoption: values measured (first and last difference in 1/65536 ns and the counter), passages, T_a and Δ. -/
  measuring : Nat := 0
  firstDiff : Int := 0
  firstAt : Nat := 0
  lastDiff : Int := 0
  lastAt : Nat := 0
  adoptAt : Option Int := none
  adoptStep : Int := 0
  adoptRate : Rate := {}
  joining : Bool := false
  deriving DecidableEq, Repr

/-- The backbone beyond its dictionary records. -/
structure Line where
  ports : Tab PortLine := []
  /-- Expanded tables: 0 A rearward, 1 A leadward, 2 B rearward, 3 B leadward. -/
  tables : Tab (List Slot) := []
  heldFrames : List Held := []
  mdio : Option MdioJob := none
  /-- AVTP sequence numbers by channel and payload type (R159). -/
  seqNos : Tab Nat := []
  switch : Switch := {}
  members : Members := {}
  gateRefusedIn : Option Nat := none
  deriving DecidableEq, Repr

/-! ### Host port and the event gate -/

/-- A request message coming in over the mailbox (R405). -/
structure MbRequest where
  length : Nat
  kind : Nat
  data : List Byte
  deriving DecidableEq, Repr

/-- HP_ registers and the mailbox (R402 to R406). -/
structure HostPort where
  linkUp : Bool := false
  msixEnabled : Bool := false
  scratch : Nat := 0
  err : Nat := 0
  mbLen : Nat := 0
  mbOff : Nat := 0
  busy : Bool := false
  next : Bool := false
  resp : Bool := false
  proto : Bool := false
  status : Nat := 0
  rlen : Nat := 0
  roff : Nat := 0
  rchk : Nat := 0
  /-- The buffer at 0x100 to 0x4FF: address and byte, rising, no byte 0 listed. -/
  buf : List Host.Cell := []
  request : Option MbRequest := none
  /-- What is still to be delivered of the response, from `roff` on. -/
  response : List Byte := []
  /-- A complete message: 0 none, 1 it executes, 2 it executes and ABORT has discarded its response. -/
  exec : Nat := 0
  deriving DecidableEq, Repr

/-- The event gate (R407, R408). Bit s stands for source s; the route of a source is the pair of its bits in `routeHi`
and `routeLo`. -/
structure Gate where
  pend : BitVec 256 := 0
  ovr : BitVec 256 := 0
  mask : BitVec 256 := BitVec.allOnes 256
  inServ : BitVec 256 := 0
  routeLo : BitVec 256 := 0
  routeHi : BitVec 256 := 0
  server : Tab Nat := []
  /-- EG_TCTRL of each target; reset 0x30 (R409). -/
  ctrl : Tab Nat := []
  /-- The mask bits and the pending bits of the MSI-X table (R398). -/
  vecMask : BitVec 4 := 0xF
  vecPend : BitVec 4 := 0
  deriving DecidableEq, Repr

/-! ### The logbook -/

/-- A report or record (R486). -/
structure Record where
  cls : Nat
  ctInvalid : Bool
  repeats : Nat := 0
  opSec : Nat
  cycles : Nat
  stamp : Nat
  code : Nat
  last : Nat := 0
  detail : Nat := 0
  inst : Nat := 0
  value : Nat := 0
  deriving DecidableEq, Repr

/-- A clear-history entry (R495). -/
structure ClearEntry where
  number : Nat
  mask : Nat
  opSec : Nat
  cycles : Nat
  serial : List Byte
  deriving DecidableEq, Repr

/-- A collection this device serves as target (R497). -/
structure Served where
  collector : Nat
  number : Nat
  image : List Byte
  offset : Nat := 0
  deriving DecidableEq, Repr

/-- The logbook beyond its dictionary records (R484 to R497). -/
structure Logbook where
  queue : List Record := []
  perm : Tab (List Record) := []
  circ : Tab (List Record) := []
  /-- Classes whose newest record stands in the permanent area though the circular one holds records: a larger permanent
  size has come into force (R489). -/
  newestPerm : Tab Nat := []
  /-- Sizes in force (R489), where not the defaults 32 and 128. -/
  permSize : Tab Nat := []
  circSize : Tab Nat := []
  /-- Histogram counts collected in SRAM and not yet stored (R492), by 32 * h + bin. -/
  counts : Tab Nat := []
  history : List ClearEntry := []
  served : List Served := []
  /-- As collector: the collection number in use, and the image so far. -/
  collecting : Option Nat := none
  collected : List Byte := []
  collections : Nat := 0
  deriving DecidableEq, Repr

/-! ### Trust -/

/-- A client session, from its HELLO on (R318 to R320). -/
structure Session where
  path : Path
  role : Nat
  /-- FINISH was accepted, and the session keys are derived. -/
  established : Bool := false
  seqIn : Nat := 0
  seqOut : Nat := 0
  chain : Chain
  openedAt : Nat := 0
  lastAt : Nat := 0
  deriving DecidableEq, Repr

/-- A node session (R322). -/
structure NodeSession where
  peer : Nat
  serial : List Byte
  established : Bool := false
  seqIn : Nat := 0
  seqOut : Nat := 0
  deriving DecidableEq, Repr

/-- A neighbour-cache entry (R325): expiry as operating seconds. -/
structure CacheEntry where
  identity : Nat
  ownerHash : List Byte
  expiry : Nat
  deriving DecidableEq, Repr

/-- Neighbour authentication and rekeying on one coupler port (R323 to R327). -/
structure Auth where
  /-- OFFER sent and received, the neighbour's cache flag and own cache flag. -/
  offered : Bool := false
  gotOffer : Bool := false
  resume : Bool := false
  /-- Exchange numbers, own and the neighbour's. -/
  own : Nat := 0
  peer : Nat := 0
  /-- CERTS received: the certificate as R321 reads it. -/
  certs : Option DeviceCert := none
  /-- The neighbour accepted: by PROOF or by RESUME. -/
  accepted : Bool := false
  sentConfirm : Bool := false
  gotConfirm : Bool := false
  /-- Rekeying: offer sent, offer received, REKEY_CONFIRM sent and received, switch due, old association still held. -/
  rekeySent : Bool := false
  rekeyGot : Bool := false
  rkConfirmSent : Bool := false
  rkConfirmGot : Bool := false
  oldHeldUntil : Option Nat := none
  installedAt : Nat := 0
  fresh : Bool := false
  deriving DecidableEq, Repr

/-- The epochs of a stream instance at its source, or its keys at a sink (R95, R328, R329). -/
structure Epochs where
  view : Nat
  instanceNo : Nat
  /-- Identity of the source, 0 for the own streams; of the sink of an own stream, else 0. -/
  source : Nat := 0
  sink : Nat := 0
  /-- Source: epoch in use, and the sinks that have acknowledged the following one. Sink: current epoch. -/
  epoch : Nat := 0
  delivered : Nat := 0
  acked : Bool := false
  waiting : Bool := false
  /-- The key of the epoch and of the one delivered, each fresh (R328): numbers of free values. -/
  key : Nat := 0
  next : Nat := 0
  /-- The turn of the frame counter last sent under (R95): k / 2^32. -/
  turn : Option Nat := none
  deriving DecidableEq, Repr

/-- Keys, roles, images and debug (R307 to R337) beyond their dictionary records. -/
structure Trust where
  sessions : Tab Session := []
  nodes : List NodeSession := []
  windowPin : Bool := false
  windowRole : Bool := false
  /-- The window start of R310 has not expired, and the claim-role channel has not been judged since step 4. -/
  windowLive : Bool := false
  roleJudged : Bool := false
  debugUnlocked : Bool := false
  challenge : Option (List Byte) := none
  auth : Tab Auth := []
  cache : List CacheEntry := []
  streams : List Epochs := []
  /-- Sequence of a bundle whose commit is running (R334). -/
  bundleSeq : Option Nat := none
  /-- Reset of cause 7 after a release is a window start (R310). -/
  released : Bool := false
  deriving DecidableEq, Repr

/-! ### Cameras (R25 to R57) -/

/-- A sensor row held for the pipeline: merged linear values of 20 bits, or YUV samples (R59, R61). -/
structure Row where
  k : Nat
  row : Nat
  missing : Bool := false
  px : List Nat := []
  deriving DecidableEq, Repr

/-- A line of the group in progress: exposure number from 0, sensor row, samples. -/
structure RawLine where
  exposure : Nat
  row : Nat
  samples : List Nat
  deriving DecidableEq, Repr

/-- A frame being received (R44, R48). -/
structure FrameIn where
  k : Nat
  /-- Effective exposure of this frame, ps. -/
  exposure : Nat
  /-- The entries of the slot's records under which the frame started (R26), and of them width, height, group height,
  format, exposures. -/
  cfg : Store := []
  width : Nat
  height : Nat
  group : Nat
  format : Nat
  exposures : Nat
  lines : List RawLine := []
  /-- Rows received of each exposure. -/
  rows : Tab Nat := []
  /-- The group in progress is discarded. -/
  groupBad : Bool := false
  missing : List Nat := []
  /-- Groups passed to the pipeline, or signalled missing. -/
  passed : Nat := 0
  embedded : List (List Nat) := []
  testBit : Option Bool := none
  replaced : Nat := 0
  sum : Nat := 0
  count : Nat := 0
  /-- Luminance histograms of the 16 x 9 tiles (R64), by 64 * tile + bin. -/
  tiles : Tab Nat := []
  discard : Bool := false
  deriving DecidableEq, Repr

/-- A frame whose pulse was placed or trigger sent: counter, pulse instant (a trigger's exposure start), effective
exposure in ps, and the slot's entries in force (R26). -/
structure Expected where
  k : Nat
  at_ : Int
  exposure : Nat
  cfg : Store
  deriving DecidableEq, Repr

/-- What the pipeline needs of a frame beyond its rows, until these have left the window: the entries it started with
(R26), its effective exposure in ps, the histograms of the previous accepted frame (R64; none: the BT.709 transfer
function alone), and whether its check failed (R93). -/
structure Shot where
  k : Nat
  cfg : Store
  exposure : Nat
  stats : Option (Tab Nat) := none
  failed : Bool := false
  deriving DecidableEq, Repr

/-- An exposure write not acknowledged (R34): the frame it is for, the effective exposure in ps, and whether it has gone
on the bus. -/
structure ExposureWrite where
  frame : Nat
  eff : Nat
  sent : Bool := false
  deriving DecidableEq, Repr

/-- One camera slot beyond its records. -/
structure Camera where
  /-- Frame counter of the next pulse or trigger. -/
  nextK : Nat := 0
  /-- The frame whose pulse was placed and whose Frame Start has not come; the one whose window ended without it. -/
  expect : Option Expected := none
  overdue : Bool := false
  frame : Option FrameIn := none
  good : Nat := 0
  bad : Nat := 0
  /-- Last accepted frame, its test bit and its sensor counter (R46, R47). -/
  lastK : Option Nat := none
  lastBit : Option Bool := none
  lastCounter : Option Nat := none
  /-- Commanded exposure, ps, the frame it is for where automatic (R65), and effective exposures in ps by the frame from
  which each holds (R34). -/
  command : Nat := 0
  commandFor : Nat := 0
  schedule : List (Nat × Nat) := []
  write : Option ExposureWrite := none
  /-- Exposure of the last TRIGGER message, ns (R37). -/
  lastSent : Option Nat := none
  /-- End of the period after an adoption in which a Frame Start is a re-phase (R45). -/
  rephaseUntil : Option Int := none
  rows : List Row := []
  shots : List Shot := []
  /-- The histograms of the last accepted frame; none: the BT.709 transfer function alone (R64). -/
  stats : Option (Tab Nat) := none
  /-- Next AVTP sequence number of a network camera. -/
  sequence : Option Nat := none
  deriving DecidableEq, Repr

/-- A script that runs on a CCI port (R32, R33). -/
structure Script where
  slot : Nat
  stop : Bool
  pos : Nat := 0
  tries : Nat := 0
  /-- 0 a transfer runs or waits for the bus, 1 a delay, 2 a wait for an in-band interrupt. -/
  waiting : Nat := 0
  deriving DecidableEq, Repr

/-- A queued sensor-register access (R57). -/
structure CciJob where
  write : Bool
  port : Nat
  addr : Nat
  reg : Nat
  width : Nat
  value : Nat
  tries : Nat := 0
  deriving DecidableEq, Repr

/-- What a CCI bus carries now (R34, R35): an exposure write of a slot for a frame, a script entry, the access of 0x2860. -/
inductive BusUse where
  | exposure (slot frame : Nat)
  | script
  | access
  deriving DecidableEq, Repr

/-- One CCI port (R30): the transfer on its bus, the dynamic addresses assigned by static address (0: by ENTDAA), the
payload of the last in-band interrupt. -/
structure CciPort where
  use : Option BusUse := none
  dynamic : List (Nat × Nat) := []
  payload : List Byte := []
  deriving DecidableEq, Repr

/-- CCI ports and the cameras. -/
structure Video where
  ports : Tab CciPort := []
  cameras : Tab Camera := []
  scripts : Tab Script := []
  /-- Slots whose initialisation script waits for the port. -/
  waiting : List Nat := []
  access : Option CciJob := none
  deriving DecidableEq, Repr

/-! ### View instances, slices and displays (R67 to R118) -/

/-- A warped slice that waits for its encoder. -/
structure Warped where
  k : Nat
  j : Nat
  rows : Nat
  damaged : Bool
  stamp : Int
  px : List Nat
  deriving DecidableEq, Repr

/-- A step of an instance's pan (R73): from frame `k` on it goes from `base` toward `target`. -/
structure PanStep where
  k : Nat
  base : Int
  target : Int
  deriving DecidableEq, Repr

/-- An instance at its source (R70 to R77). -/
structure Instance where
  d : ViewDef
  engine : Nat
  encoder : Nat
  need : Nat
  /-- The pan steps, oldest first; what was last reported of the pan and the signal state (R86). -/
  pans : List PanStep := []
  told : Int × Nat := (0, 0)
  /-- 0 none, 1 valid, 3 fallback (R74). -/
  signal : Nat := 0
  /-- CT from which frames are produced (R77). -/
  from_ : Int := 0
  active : Bool := false
  /-- The flight boundary from which a newer definition holds: frames at or after it are not produced (R77). -/
  until_ : Option Int := none
  /-- The frame in production and its next slice. -/
  k : Nat := 0
  j : Nat := 0
  warped : List Warped := []
  deriving DecidableEq, Repr

/-- A slice that waits for its slots (R93). -/
structure OutSlice where
  h : SliceHeader
  view : Nat
  sink : Nat
  data : List Byte
  tag : List Byte
  /-- The key of its tag (R94). -/
  key : Nat := 0
  /-- Fragments sent in each slot table. -/
  sent : Tab Nat := []
  /-- In a motor with its tow line up: the slots chosen for the fragments (R286), as passage and line-time offset. -/
  slots : List (Nat × Nat) := []
  deriving DecidableEq, Repr

/-- A slice being put together at the sink (R96, R98). -/
structure InSlice where
  chan : Chan
  h : SliceHeader
  got : List (Nat × List Byte)
  /-- Its buffer (R96): header, data and tag. -/
  bytes : Nat := 0
  deriving DecidableEq, Repr

/-- A verified slice that waits for a network display (R112): its fragments behind their headers, as received; `going` from
the SLICE_FORWARD that starts it. -/
structure Forward where
  display : Nat
  h : SliceHeader
  left : List (List Byte)
  /-- Fragments sent, and its buffer. -/
  sent : Nat := 0
  bytes : Nat := 0
  going : Bool := false
  deriving DecidableEq, Repr

/-- A cell of the frame store (R104, R105). -/
structure Cell where
  h : SliceHeader
  /-- Exposure and encode stamps extended to full CT (R98), and the CT of storage, in 1/65536 ns. -/
  exposed : Int
  encoded : Int := 0
  stored : Int
  /-- Stored before the last adoption of this device. -/
  old : Bool := false
  data : List Byte
  deriving DecidableEq, Repr

/-- What a cut-off decided of a position (R107): the display frame, current or stale, and the first showing of its frame. -/
structure Mark where
  m : Nat
  j : Nat
  current : Bool
  first : Bool
  /-- The frame counter shown (R288); none for the fill colour. -/
  frame : Option Nat := none
  deriving DecidableEq, Repr

/-- One composition region (R107 to R110). -/
structure Region where
  incoming : Tab Cell := []
  held : Tab Cell := []
  /-- Completion time t_c (R108). -/
  tc : Int := 0
  shown : Bool := false
  marks : List Mark := []
  /-- Current display frames in a row, while view lost is raised. -/
  currentFrames : Nat := 0
  lost : Bool := false
  /-- Frame counters flagged check-failed (R93). -/
  checkFailed : List Nat := []
  /-- Largest latency of the frame in progress, ns; the flight of the extremes. -/
  latency : Option Nat := none
  flight : Nat := 0
  deriving DecidableEq, Repr

/-- One DSI output (R101 to R103). -/
structure Display where
  m : Nat := 0
  /-- Frames within 10 ns in ALIGN. -/
  aligned : Nat := 0
  /-- The next frame's front porch is lengthened. -/
  lengthen : Bool := false
  /-- Frames that still show their held cells as stale after a takeover (R296, step 6). -/
  hold : Nat := 0
  regions : Tab Region := []
  /-- A commit that changes the region set waits for the first display frame at or after its flight boundary (R107): the
  entries that compose the display until then, the boundary, and the changed regions. -/
  keep : Option Store := none
  since : Int := 0
  changed : List Nat := []
  deriving DecidableEq, Repr

/-- A view's binding at the displaying device (R76, R77). -/
structure Bound where
  view : Nat
  inst : Nat
  source : Nat
  berth : Nat := 0
  /-- 2 bound, 3 refused, 4 awaiting definition; the breached sub-index of R127. -/
  state : Nat := 4
  breach : Nat := 0
  held : Bool := false
  /-- The definition last sent to the source (R76). -/
  sent : Option ViewDef := none
  deriving DecidableEq, Repr

/-- What a source answered to a view definition (R76, R127): reason of R86, breached sub-index, need and pan state. -/
structure Answer where
  view : Nat
  inst : Nat
  source : Nat
  reason : Nat
  breach : Nat
  need : Nat
  pan : Int := 0
  signal : Nat := 0
  deriving DecidableEq, Repr

/-- A view definition received since the last flight boundary, and the answer given to it (R76). -/
structure Request where
  d : ViewDef
  answer : Option Answer := none
  deriving DecidableEq, Repr

/-- Slices in flight, view instances and displays. -/
structure Slices where
  instances : List Instance := []
  out : List OutSlice := []
  /-- Definitions that wait for the flight boundary, by requester berth and view (R76). -/
  requests : List Request := []
  incoming : List InSlice := []
  /-- Slices discarded as malformed, whose further fragments are ignored (R98). -/
  bad : List (Chan × SliceHeader) := []
  /-- Verified headers kept to tell a duplicate (R97): as received, fragment fields 0. -/
  seen : List SliceHeader := []
  forward : List Forward := []
  bound : List Bound := []
  /-- The bindings of the boundary ahead whose definitions have been sent (R76). -/
  announced : List Bound := []
  /-- Answers of sources to view definitions that wait for a flight boundary (R76). -/
  answers : List Answer := []
  displays : Tab Display := []
  deriving DecidableEq, Repr

/-! ### Mooring (R259 to R272) -/

/-- The wake logic of the always-on die, which resets of the logic die and MOORED keep. -/
structure Wake where
  /-- WAKE_IN stands at its active level. -/
  wakeIn : Bool := false
  /-- The 2 ms after entry to MOORED have not ended (R269). -/
  dwell : Bool := false
  /-- A late wake: its detail (R265). -/
  late : Option Nat := none
  /-- A wake source that waits for the end of the dwell: cause and detail. -/
  waiting : Option (Nat × Nat) := none
  /-- A wake accepted and not yet passed on: cause and detail. -/
  accepted : Option (Nat × Nat) := none
  deriving DecidableEq, Repr

/-- Votes, consent tokens and the way to MOORED, in the logic die. -/
structure Mooring where
  /-- Votes whose idle delay has not expired (R259), by bit. -/
  held : BitVec 8 := 0
  /-- R261 is in force until the next wake. -/
  override : Bool := false
  /-- The partner of a pair votes (R260). -/
  partner : Bool := false
  /-- Flight and passage of the bit taken, and its value (R263). -/
  taken : Option (Nat × Nat × Bool) := none
  /-- The newest token that passed rearward carried the own bit (R265). -/
  sentBit : Bool := false
  /-- A wake source that became active after that token: its detail. -/
  late : Option Nat := none
  /-- The lead's leadward vectors of the newest token number: number, vector of A, of B. -/
  returned : Nat × Nat × Nat := (0, 0, 0)
  /-- The rear end's tokens that return in the next passage: 0 A, 1 B. -/
  turn : Tab Consent := []
  /-- The tokens received that this berth sends on rearward in their slot: 0 A, 1 B. -/
  pass : Tab Consent := []
  /-- Coupler PHYs that have reported sleep (R266), bit p for port p. -/
  slept : BitVec 4 := 0
  /-- Sleep was agreed by token (R264), or the device was told so. -/
  agreed : Bool := false
  /-- Steps of R268 done: 1 preparation, 3 the entry record, 4 entry. -/
  stage : Nat := 0
  deriving DecidableEq, Repr

/-! ### CAN and CANopen (R439 to R456) -/

/-- A frame as a receive object holds it (R444). -/
structure RxFrame where
  frame : CanFrame
  stamp : Nat
  tunnelled : Bool := false
  deriving DecidableEq, Repr

/-- Bit-rate detection in progress (R446). -/
structure Detect where
  /-- Candidates that survive, rising. -/
  alive : List Nat := []
  /-- Consistent edges seen by the survivors. -/
  edges : Nat := 0
  trial : Option Nat := none
  /-- Frames without error in a row on trial. -/
  good : Nat := 0
  deriving DecidableEq, Repr

/-- The timing of one phase: prescaler, segments and jump width in cycles of 80 MHz (R439). -/
structure BitTiming where
  prescaler : Nat := 0
  tseg1 : Nat := 0
  tseg2 : Nat := 0
  sjw : Nat := 0
  deriving DecidableEq, Repr

/-- The timing of a controller's two phases. -/
structure CanTiming where
  nominal : BitTiming := {}
  data : BitTiming := {}
  deriving DecidableEq, Repr

/-- One controller beyond its records. -/
structure CanPort where
  service : List CanFrame := []
  /-- What the controller sends now: buffer 0 to 2, or 3 for the head of the service queue. -/
  onBus : Option Nat := none
  /-- Buffers whose abort waits for a loss or an error (R442). -/
  abort : BitVec 3 := 0
  shadow : Tab RxFrame := []
  detect : Detect := {}
  /-- 1 was written to 0x3314 + c:06 in bus-off (R447). -/
  recovering : Bool := false
  /-- Rates in force, bit/s, where detection set them (R446). -/
  rates : Option (Nat × Nat) := none
  /-- The bit timing in force, and the one a commit set while a frame is on the bus (R457). -/
  timing : CanTiming := {}
  timingNext : Option CanTiming := none
  deriving DecidableEq, Repr

/-- An ingress record that waits for a slot of its group (R455). -/
structure Ingress where
  route : Nat
  group : Nat
  what : TunnelRecord
  /-- CT of the frame's start of frame. -/
  at_ : Int
  deriving DecidableEq, Repr

/-- An egress record that waits for its release instant (R456). -/
structure Egress where
  route : Nat
  sender : Nat
  at_ : Int
  what : TunnelRecord
  deriving DecidableEq, Repr

/-- A TPDO (R374): the last sample, the last sending and its counter value. -/
structure Tpdo where
  sample : List Byte := []
  sent : List Byte := []
  changed : Bool := false
  sentAt : Option Nat := none
  /-- SYNCs since the last sending; the start value was met. -/
  syncs : Nat := 0
  started : Bool := false
  deriving DecidableEq, Repr

/-- CAN ports, tunnels and the CANopen node. -/
structure Canopen where
  /-- The node-ID in force (R448). -/
  nodeId : Nat := 127
  ports : Tab CanPort := []
  ingress : List Ingress := []
  egress : List Egress := []
  /-- The conditions of R453 that hold: code and source. -/
  conditions : List (Nat × Nat) := []
  /-- EMCY frames held back, and the inhibit time runs (R453). -/
  waiting : List CanFrame := []
  inhibited : Bool := false
  /-- Data of RPDOs that wait for the next SYNC (R374); RPDOs whose event timer runs. -/
  rpdo : Tab (List Byte) := []
  timing : BitVec 8 := 0
  tpdo : Tab Tpdo := []
  /-- What the newest own CAN_TUNNEL slot carries on each of its tables: passage (flight × 64 + passage), line-time offset,
  records, payload bytes. -/
  packed : Option (Nat × Nat × List TunnelRecord × Nat) := none
  /-- The SYNC counter of the newest SYNC (0x1019). -/
  syncCounter : Nat := 0
  deriving DecidableEq, Repr

/-! ### Field inputs and outputs (R461 to R479), on the field die -/

/-- One channel. -/
structure Channel where
  /-- In current limit. -/
  limit : Bool := false
  /-- 0 not tripped, 1 latched off, 2 waiting for its retry (R463). -/
  trip : Nat := 0
  retries : Nat := 0
  thermal : Bool := false
  /-- The reverse block is open (R471). -/
  reverse : Bool := false
  /-- Live flags other than those that follow from the above: bits 0, 3 to 5, 7 to 9, 12 (R472). -/
  flags : BitVec 16 := 0
  /-- Counter values of the last switch-on and of the last switch-off. -/
  onAt : Option Nat := none
  offAt : Option Nat := none
  deriving DecidableEq, Repr

/-- The supply of a group (R474, R475). -/
structure Supply where
  sag : Bool := false
  off : Bool := false
  /-- The sag has ended and the restore delay runs. -/
  restoring : Bool := false
  overload : Bool := false
  deriving DecidableEq, Repr

/-- The field die. -/
structure Field where
  chans : Tab Channel := []
  vf1 : Supply := {}
  vf2 : Supply := {}
  /-- Command frames come over the die link (R467): READY was reached and no loss followed. -/
  link : Bool := false
  /-- Channels that keep driving in MOORED, and from step 1 of R268. -/
  moored : BitVec 16 := 0
  preparing : Bool := false
  /-- Outputs applied on: bit k for channel k + 1 (0x3200:01). -/
  drive : BitVec 16 := 0
  /-- Outputs commanded on, as the last action records of class 0 had them (R288). -/
  ordered : BitVec 16 := 0
  deriving DecidableEq, Repr

/-! ### Motor and butty (R276 to R302) -/

/-- An input that waits for its passage start (R284): stamp, unit A, what. -/
structure PairWait where
  stamp : Int
  unitA : Bool
  what : PairInput
  deriving DecidableEq, Repr

/-- The slots the motor chose for a slice (R286). -/
structure Choice where
  stream : Nat
  inst : Nat
  frame : Nat
  index : Nat
  slots : List (Nat × Nat)
  deriving DecidableEq, Repr

/-- The pair beyond its dictionary records. -/
structure Pair where
  roleOut : Bool := false
  roleIn : Bool := false
  xdisOut : Bool := false
  xdisIn : Bool := false
  /-- The role has been requested (R280, R281). -/
  request : Bool := false
  /-- Counter values of the last rise of PAIR_ROLE_OUT and PAIR_ROLE_IN. -/
  outAt : Nat := 0
  /-- Counter value from which both inputs have been low, if they are. -/
  lowAt : Nat := 0
  /-- The tow line is up (R278). -/
  up : Bool := false
  /-- The partner as its hello said. -/
  partnerFailed : Bool := false
  partnerFirmware : Nat := 0
  /-- The hello was authenticated and of the own vehicle and position (R276). -/
  known : Bool := false
  missing : Nat := 0
  run : Nat := 0
  /-- The digests of the passage that ended last: this unit's, and the partner's once they are here (R288, R289). -/
  mine : Option Digests := none
  theirs : Option Digests := none
  /-- Arbitration (R291): own and partner result. -/
  arbitrating : Bool := false
  own : Option Nat := none
  other : Option Nat := none
  /-- Resynchronisation (R301): clean flights, a mismatch in this flight, restarts in a row. -/
  clean : Nat := 0
  dirty : Bool := false
  restarts : Nat := 0
  /-- A takeover runs: cause, and the counter value of the decision. -/
  takeover : Option (Nat × Nat) := none
  /-- A lockstep error, an uncorrectable ECC error since the last arbitration (R291). -/
  lockstep : Bool := false
  ecc : Bool := false
  /-- Counter value of the last rise of PAIR_XDIS_OUT. -/
  xdisAt : Nat := 0
  /-- The make-before-break window is open (R280, R296). -/
  overlap : Bool := false
  /-- Counter value at which the last window closed. -/
  overlapAt : Option Nat := none
  /-- The inputs of a passage start are being acted on (R284). -/
  acting : Bool := false
  /-- Operating minutes of the last doubt (R290). -/
  doubtAt : Option Nat := none
  /-- A planned exchange (R300): 1 due at the next flight boundary, 2 done and its check due at the end of the flight
  named beside it, 3 the check runs. -/
  exchange : Nat := 0
  exchangeFlight : Nat := 0
  /-- Operating seconds of the failures of the last 24 h. -/
  failures : List Nat := []
  inputs : List PairWait := []
  /-- In the butty: the motor's choices of slots, oldest first (R286). -/
  choices : List Choice := []
  /-- The channel commands the motor reported (R479). -/
  reported : BitVec 16 := 0
  /-- Flights in a row without a STATUS that shows this berth heard on the motor's channel (R293). -/
  unheard : Nat := 0
  heard : Bool := false
  deriving DecidableEq, Repr

/-! ### The lock (R417 to R436) -/

/-- A lock request that holds a tag (R425, R427). -/
structure LockTx where
  tag : Nat
  read : Bool
  prefetch : Bool := false
  dest : Nat
  berth : Nat
  offset : Nat
  length : Nat
  data : List Byte := []
  enables : List Bool := []
  retries : Nat := 0
  /-- Counter value of acceptance; covered by the pending fence; refused and waiting for the next passage. -/
  at_ : Nat
  fence : Bool := false
  refused : Bool := false
  /-- The host read that waits for it: BAR2 offset and length. -/
  host : Option (Nat × Nat) := none
  deriving DecidableEq, Repr

/-- A prefetched line (R428, R429). -/
structure LockLine where
  berth : Nat
  dest : Nat
  base : Nat
  data : List Byte
  sensitive : Bool
  /-- Flight and passage of arrival. -/
  flight : Nat
  passage : Nat
  used : Bool := false
  /-- Offsets served to a host read. -/
  served : List (Nat × Nat) := []
  tag : Nat
  deriving DecidableEq, Repr

/-- An entry of the error FIFO (R432). -/
structure LockErr where
  tag : Nat
  read : Bool
  prefetch : Bool
  berth : Nat
  offset : Nat
  cause : Nat
  retries : Nat
  dw : Nat := 0
  deriving DecidableEq, Repr

/-- A lock message that waits for a slot or open water (R424). -/
structure LockOut where
  kind : LockType
  dest : Nat
  berth : Nat
  m : LockMsg
  /-- The slot tables in which it is still to be sent (0 A rearward, 1 A leadward, 2 B rearward, 3 B leadward). -/
  left : List Nat
  deriving DecidableEq, Repr

/-- The lock. -/
structure Lock where
  /-- The exchange memory (R419), a byte at 0 not listed. -/
  exchange : List Host.Cell := []
  tx : List LockTx := []
  lines : List LockLine := []
  errs : List LockErr := []
  overflow : Bool := false
  /-- Host requests that wait for a tag, oldest first (R425, R427). -/
  held : List (Bool × Bar2Access) := []
  fencePending : Bool := false
  fenceBad : Bool := false
  fenceFailed : Bool := false
  /-- The descriptors each berth declared under the current consist hash (R421). -/
  declared : Tab (List Nat) := []
  /-- The tags refused to each origin, oldest first (R430). -/
  refused : Tab (List Nat) := []
  /-- First copies kept: origin, kind and tag of this passage (R424). -/
  seen : List (Nat × LockType × Nat) := []
  outbox : List LockOut := []
  /-- Summary bits in force, those received in this passage, berths that answered, silent passages by berth (R434). -/
  summary : Nat := 0
  got : Nat := 0
  answered : Nat := 0
  silent : Tab Nat := []
  deriving DecidableEq, Repr

/-! ### The machine -/

/-- The whole state of the block. -/
structure State where
  pending : List Instr := []
  out : List Out := []
  /-- The action records of the passage in progress (R288): class and bytes, in the order the actions occur. -/
  acts : List (Nat × List Byte) := []
  free : Nat := 0
  od : Store := []
  dict : Dict := {}
  mram : Mram := {}
  fuses : Fuses
  power : Power := {}
  clock : Clock := {}
  mu : MakingUp := {}
  line : Line := {}
  host : HostPort := {}
  gate : Gate := {}
  log : Logbook := {}
  trust : Trust := {}
  video : Video := {}
  slices : Slices := {}
  canopen : Canopen := {}
  wake : Wake := {}
  mooring : Mooring := {}
  fio : Field := {}
  pair : Pair := {}
  lock : Lock := {}
  /-- Pairing enabled and unit A, as taken at the last reset (R303). -/
  pairing : Bool := false
  unitA : Bool := true
  deriving DecidableEq, Repr

/-- The machine right after reset: power-on, the logic die held in reset until POR release (R506, R514). The islands of
the reset controller and of the AON run (R508); nothing is stored, staged or fused but the identity; the two areas of the
MRAM hold the factory state, every entry at its default (log 7). -/
def State.reset : State where
  fuses := { identity := Config.fusedIdentity.toNat }
  power := { islands := 1 + BitVec.ofNat 30 (2 ^ 29) }
  mram := { config0 := { valid := true }, stored0 := { valid := true } }

end Sys2Proof.Machine
end

