-- ==== Sys2Proof/Machine/Ops.lean ====
section
/-!
DEFINITION. The named operations over the state: sparse tables and the dictionary store, entries and their defaults,
time views, the event gate, the logbook's report queue, trust refusals and long operations.
-/

namespace Sys2Proof.Machine

/-- The outcome of a command. -/
abbrev Res := Host.Outcome State Fault Refusal

/-! ### Sparse tables -/

/-- The listed value of a number. -/
def Tab.find? {α : Type} : Tab α → Nat → Option α
  | [], _ => none
  | (k, v) :: t, i => if k = i then some v else Tab.find? t i

/-- The value of number `i`: the listed one, or `d`. -/
def Tab.get {α : Type} (d : α) (t : Tab α) (i : Nat) : α := (Tab.find? t i).getD d

/-- Every entry of number `i` taken out. -/
def Tab.erase {α : Type} (t : Tab α) (i : Nat) : Tab α := t.filter (fun p => p.1 ≠ i)

/-- `v` at number `i`, in rising order. -/
def Tab.insert {α : Type} : Tab α → Nat → α → Tab α
  | [], i, v => [(i, v)]
  | (k, w) :: t, i, v =>
    if i < k then (i, v) :: (k, w) :: t
    else if i = k then (i, v) :: t
    else (k, w) :: Tab.insert t i v

/-- `v` at number `i`; the default `d` is not listed. -/
def Tab.set {α : Type} [DecidableEq α] (d : α) (t : Tab α) (i : Nat) (v : α) : Tab α :=
  if v = d then Tab.erase t i else Tab.insert t i v

/-- `f` applied to the value of number `i`. -/
def Tab.mod {α : Type} [DecidableEq α] (d : α) (t : Tab α) (i : Nat) (f : α → α) : Tab α :=
  Tab.set d t i (f (Tab.get d t i))

/-- The keys rise strictly. -/
def Tab.rising {α : Type} : Tab α → Bool
  | [] => true
  | [_] => true
  | (i, _) :: (j, v) :: t => decide (i < j) && Tab.rising ((j, v) :: t)

/-- The canonical form: keys rising, and no entry at the default. -/
def Tab.wf {α : Type} [DecidableEq α] (d : α) (t : Tab α) : Bool := Tab.rising t && t.all (fun p => decide (p.2 ≠ d))

/-! ### Dictionary entries -/

namespace Od

/-- Index and sub-index of a key. -/
def indexOf (k : Nat) : Nat := k / 256
def subOf (k : Nat) : Nat := k % 256

/-- The key of an index and a sub-index (R343). -/
def key (index sub : Nat) : Nat := index * 256 + sub

/-- The record an index belongs to. -/
def record? (index : Nat) : Option OdRec :=
  table.find? (fun r => decide (r.base ≤ index ∧ index < r.base + r.count))

/-- The row of a sub-index in a record. -/
def row? (r : OdRec) (sub : Nat) : Option OdEnt := r.ents.find? (fun e => decide (e.lo ≤ sub ∧ sub ≤ e.hi))

/-- The row of a key. -/
def find? (k : Nat) : Option (OdRec × OdEnt) :=
  match record? (indexOf k) with
  | none => none
  | some r => (row? r (subOf k)).map (fun e => (r, e))

/-- The default the dictionary tables give an entry; `none` where it is derived (`State.derived`). -/
def default? (k : Nat) : Option Val :=
  match find? k with
  | none => some (.num 0)
  | some (r, e) =>
    match e.dflt with
    | .num v => some (.num v)
    | .zeros n => some (.bytes (List.replicate n 0))
    | .chars l => some (.bytes l)
    | .empty => some (.bytes [])
    | .inst l => some (.num (l.getD (indexOf k - r.base) 0))
    | .instFrom first step => some (.num (if (first : Int) ≤ (indexOf k - r.base : Nat) then step else 0))
    | .derived => none

/-- The persistence class of an entry (R349). -/
def pers (k : Nat) : Pers := match find? k with | none => .fixed | some (_, e) => e.pers

end Od

/-- `v` at key `k`, an entry at its static default not listed. -/
def Store.set (t : Store) (k : Nat) (v : Val) : Store :=
  if Od.default? k = some v then Tab.erase t k else Tab.insert t k v

/-- The canonical form of the dictionary store. -/
def Store.wf (t : Store) : Bool := Tab.rising t && t.all (fun p => decide (Od.default? p.1 ≠ some p.2))

/-- The clock of each island (R508), Hz; a clock the rule gives as a range reads its reset choice 0 until it runs. -/
def islandHz : List Int :=
  [32768, 312500000, 800000000, 1000000000, 600000000, 600000000, 450000000, 0, 0, 161132812, 161132812, 161132812,
   161132812, 125000000, 125000000, 125000000, 125000000, 125000000, 125000000, 125000000, 125000000, 161132812,
   0, 0, 0, 0, 250000000, 80000000, 200000000, 40000000]

/-- Lower limit and width of the histograms whose limits do not follow a stream (R491). -/
def histLimits (h : Nat) : Int × Int :=
  if h = 0 ∨ h = 1 then (-400, 60) else if h = 2 then (700, 8) else if h = 3 ∨ h = 4 then (8000, 1000)
  else if h = 21 then (0, 2000) else if h = 22 then (1, 1) else if h = 23 then (0, 10000) else (0, 0)

/-- The characters of a decimal number. -/
def decimal : Nat → Nat → List Byte
  | 0, n => [BitVec.ofNat 8 (48 + n % 10)]
  | f + 1, n => if n < 10 then [BitVec.ofNat 8 (48 + n)] else decimal f (n / 10) ++ [BitVec.ofNat 8 (48 + n % 10)]

namespace State

/-- The listed value of a key, or its static default. -/
def raw (s : State) (k : Nat) : Val := ((Tab.find? s.od k).orElse (fun _ => Od.default? k)).getD (.num 0)

/-- The number held by an entry. -/
def rawInt (s : State) (k : Nat) : Int := match s.raw k with | .num v => v | .bytes _ => 0

/-- The default of the entries that the dictionary tables derive: from the identity (R238, R365, R370), the running
image (R365), the node-ID in force (R370, R371, R373), the straps (R397), the certificates (R338), the island (R524)
and the stream bound (R491, R501). -/
def derived (s : State) (k : Nat) : Val :=
  let i := Od.indexOf k
  let n : Int := s.canopen.nodeId
  let image := if s.rawInt 0x314006 = 2 then s.rawInt 0x314003 else s.rawInt 0x314002
  let v := image.toNat
  let text := decimal 3 (v / 2 ^ 24) ++ [0x2E] ++ decimal 3 (v / 2 ^ 16 % 256) ++ [0x2E] ++ decimal 5 (v % 2 ^ 16)
  if k = 0x200001 then .num s.fuses.identity
  else if k = 0x101804 ∨ k = 0x220001 then .num ((s.fuses.identity % 2 ^ 32 : Nat) : Int)
  else if k = 0x200006 then .num image
  else if k = 0x200007 ∨ k = 0x100A00 then .bytes text
  else if k = 0x120001 then .num (0x600 + n)
  else if k = 0x120002 then .num (0x580 + n)
  else if k = 0x101400 then .num (0x80 + n)
  else if i < 0x1408 ∧ 0x1400 ≤ i then
    .num (if i < 0x1404 then 0x80000200 + 0x100 * (i - 0x1400 : Nat) + n else 0x80000000)
  else if i < 0x1808 ∧ 0x1800 ≤ i then
    .num (if i < 0x1804 then 0xC0000180 + 0x100 * (i - 0x1800 : Nat) + n else 0xC0000000)
  else if k = 0x360001 then .num s.power.hostSel.toNat
  else if k = 0x310101 then .bytes Config.deviceCertificate
  else if k = 0x310102 then .bytes Config.caCertificate
  else if k = 0x310103 then .bytes Config.roleExtension
  else if 0x2120 ≤ i ∧ i < 0x2120 + 30 then .num (if s.power.islands.getLsbD (i - 0x2120) then islandHz.getD (i - 0x2120) 0 else 0)
  else if 0x35D0 ≤ i ∧ i < 0x35D0 + 24 then
    let h := i - 0x35D0
    let b := s.rawInt (Od.key (0x2E30 + (h - 5)) 2)
    if 5 ≤ h ∧ h ≤ 20 then .num (if Od.subOf k = 2 then b / 2 else b / 50)
    else .num (if Od.subOf k = 2 then (histLimits h).1 else (histLimits h).2)
  else .num 0

/-- The value of a dictionary entry. -/
def get (s : State) (k : Nat) : Val :=
  match Tab.find? s.od k with
  | some v => v
  | none => match Od.default? k with | some v => v | none => s.derived k

/-- The number an entry holds (0 for bytes). -/
def int (s : State) (k : Nat) : Int := match s.get k with | .num v => v | .bytes _ => 0

/-- The unsigned number an entry holds. -/
def nat (s : State) (k : Nat) : Nat := (s.int k).toNat

/-- The BOOLEAN an entry holds. -/
def flag (s : State) (k : Nat) : Bool := decide (s.int k ≠ 0)

/-- The bytes an entry holds. -/
def bytes (s : State) (k : Nat) : List Byte := match s.get k with | .num _ => [] | .bytes b => b

/-- `v` into an entry. -/
def setVal (s : State) (k : Nat) (v : Val) : State := { s with od := Store.set s.od k v }

/-- A number into an entry. -/
def put (s : State) (k : Nat) (v : Int) : State := s.setVal k (.num v)

/-- A BOOLEAN into an entry. -/
def putFlag (s : State) (k : Nat) (b : Bool) : State := s.put k (if b then 1 else 0)

/-- Bytes into an entry. -/
def putBytes (s : State) (k : Nat) (b : List Byte) : State := s.setVal k (.bytes b)

/-- A counter of R49 up by `n`, saturating at 0xFFFFFFFF. -/
def bumpBy (s : State) (k : Nat) (n : Nat) : State := s.put k (min (s.int k + n) 0xFFFFFFFF)

/-- A counter of R49 up by 1. -/
def bump (s : State) (k : Nat) : State := s.bumpBy k 1

/-- What the block sends. -/
def emit (s : State) (o : Out) : State := { s with out := s.out ++ [o] }

/-- An action of a pair's outputs is recorded in its class (R288). -/
def act (s : State) (c : Nat) (record : List Byte) : State := if s.pairing then { s with acts := s.acts ++ [(c, record)] } else s

/-- The next free value (log 3), and the state whose counter stands one further. -/
def freeNat (s : State) : Nat := Config.freeNat s.free
def tookFree (s : State) : State := { s with free := s.free + 1 }

/-- TRUE once the boot has reached step 4 (R516). -/
def isReady (s : State) : Bool := decide (s.power.phase = .ready)

/-- The start state RUNNING (R220). -/
def isRunning (s : State) : Bool := decide (s.int 0x22100B = 3)

/-- TRUE in power state RUN or QUIET (R506). -/
def isQuiet (s : State) : Bool := decide (s.int 0x210001 = 1)

end State

/-! ### Rates and time views -/

/-- A fraction in lowest terms. -/
def Rate.norm (n : Int) (d : Nat) : Rate :=
  let g := Nat.gcd n.natAbs d
  if g = 0 then { num := 0, den := 1 } else { num := n / g, den := d / g }

/-- Sum and difference of two rates. -/
def Rate.add (a b : Rate) : Rate := Rate.norm (a.num * b.den + b.num * a.den) (a.den * b.den)
def Rate.neg (a : Rate) : Rate := { num := -a.num, den := a.den }

/-- (1 + a) * (1 + b) - 1. -/
def Rate.compose (a b : Rate) : Rate :=
  Rate.norm ((a.den + a.num) * (b.den + b.num) - (a.den * b.den : Nat)) (a.den * b.den)

/-- A rate in 10^-12, rounded toward zero. -/
def Rate.ppt (a : Rate) : Int := Int.tdiv (a.num * 1000000000000) a.den

/-- A rate given in 10^-12. -/
def Rate.ofPpt (v : Int) : Rate := Rate.norm v 1000000000000

/-- A view at counter `c` and fine part `f`, in 1/65536 ns, truncated toward zero (R178). -/
def View.read (v : View) (c f : Nat) : Int :=
  Int.tdiv (v.base * (10 * v.rate.den : Nat) +
    (((c : Int) - v.anchor) * 32 + f) * 65536 * (v.rate.den + v.rate.num)) (10 * v.rate.den : Nat)

/-- The inverse of a view (R203): the number of 100 ps steps of the counter, to the nearest, at which it reads `t`. -/
def View.steps (v : View) (t : Int) : Int :=
  let d : Int := 65536 * (v.rate.den + v.rate.num)
  if d ≤ 0 then v.anchor * 32 else (v.anchor : Int) * 32 + (2 * (t - v.base) * (10 * v.rate.den : Nat) + d) / (2 * d)

/-- The view re-anchored at counter `c` with a new rate (R179). -/
def View.reanchor (v : View) (c : Nat) (r : Rate) : View := { anchor := c, base := v.read c 0, rate := r }

namespace State

/-- The time state (R189): 0 NONE, 1 INTEGRATING, 2 SYNC, 3 HOLDOVER, 4 OUT. -/
def timeState (s : State) : Int := s.int 0x260001

/-- CT of a stamp. -/
def ctAt (s : State) (c f : Nat) : Int := s.clock.ct.read c f

/-- CT now. -/
def ctNow (s : State) : Int := s.ctAt s.clock.counter 0

/-- CT is valid (R552). -/
def ctValid (s : State) : Bool := decide (s.timeState ≠ 0)

/-- CT32 of a stamp, 0 while CT is invalid (R199, R552). -/
def ct32At (s : State) (c f : Nat) : Int := if s.ctValid then s.ctAt c f / 65536 % 2 ^ 32 else 0

/-- CT32 now. -/
def ct32 (s : State) : Int := s.ct32At s.clock.counter 0

/-- The relation of a domain, and the number of its records: 0 TA, 1 TB. -/
def domain (s : State) : Dom → Domain | .ta => s.clock.ta | .tb => s.clock.tb
def setDomain (s : State) (d : Dom) (x : Domain) : State :=
  match d with | .ta => { s with clock := { s.clock with ta := x } } | .tb => { s with clock := { s.clock with tb := x } }

/-- A domain view of a stamp, and whether the view is valid: valid or in holdover (R194, R552). -/
def domAt (s : State) (d : Dom) (c f : Nat) : Int := (s.domain d).view.read c f
def domValid (s : State) (d : Dom) : Bool := decide (s.int (match d with | .ta => 0x261201 | .tb => 0x261301) ≠ 0)

/-- s(t) of a slew (R195, step 2) at an instant of CT, in 1/65536 ns. -/
def slewAt (s : State) (ct : Int) : Int :=
  if s.clock.ntSlewing then
    let run := (s.clock.ntSigma : Int) * (max (ct - s.clock.ntTsw) 0) / 1000000
    let left := max ((s.clock.ntS0.natAbs : Int) - run) 0
    if s.clock.ntS0 < 0 then -left else left
  else 0

/-- NT is valid while 0x2619:01 does not read 0 (R552). -/
def ntValid (s : State) : Bool := decide (s.int 0x261901 ≠ 0)

/-- NT of a stamp: its view, one evaluation (R178); past the end of a slew that no NT_SLEW_END has closed yet, the
domain's. -/
def ntAt (s : State) (c f : Nat) : Int :=
  match s.clock.ntDom with
  | none => 0
  | some d => if s.clock.ntSlewing && decide (s.slewAt (s.ctAt c f) = 0) then s.domAt d c f else s.clock.nt.read c f

/-- NT now. -/
def ntNow (s : State) : Int := s.ntAt s.clock.counter 0

/-- A stamp in a time base, 0 CT and 1 NT: its value, 0 while the base is invalid (R177, R552). -/
def baseValid (s : State) (base : Int) : Bool := if base = 0 then s.ctValid else s.ntValid
def baseAt (s : State) (base : Int) (c f : Nat) : Int :=
  if s.baseValid base then (if base = 0 then s.ctAt c f else s.ntAt c f) else 0

/-- The active passage length, ns (R142). -/
def passageLen (s : State) : Int := s.int 0x240005

/-- The flight and the passage in progress (R142). -/
def flight (s : State) : Nat := s.nat 0x240003
def passage (s : State) : Nat := s.nat 0x240004

/-- T_n of the passage in progress (R142), in 1/65536 ns. -/
def passageStart (s : State) : Int := s.clock.flightStart + s.passage * s.passageLen * 65536

/-! ### The event gate (R407 to R410) -/

end State

namespace Gate

/-- EG_TCTRL of a target (R409). -/
def tctrl (g : Gate) (t : Nat) : Nat := Tab.get 0x30 g.ctrl t
def asleep (g : Gate) (t : Nat) : Bool := (g.tctrl t).testBit 0
def fbEn (g : Gate) (t : Nat) : Bool := (g.tctrl t).testBit 1
def fb (g : Gate) (t : Nat) : Nat := g.tctrl t / 4 % 4
def lineEn (g : Gate) (t : Nat) : Bool := (g.tctrl t).testBit 4
def msixEn (g : Gate) (t : Nat) : Bool := (g.tctrl t).testBit 5

/-- The sources routed to a target. -/
def routed (g : Gate) (t : Nat) : BitVec 256 :=
  (if t % 2 = 1 then g.routeLo else ~~~ g.routeLo) &&& (if t / 2 % 2 = 1 then g.routeHi else ~~~ g.routeHi)

/-- The sources that are pending, not masked and not in service. -/
def available (g : Gate) : BitVec 256 := g.pend &&& ~~~ g.mask &&& ~~~ g.inServ

/-- The sources of an asleep target `u` whose fallback names the awake target `t`. -/
def fallen (g : Gate) (t u : Nat) : BitVec 256 :=
  if u ≠ t ∧ g.asleep u ∧ g.fbEn u ∧ g.fb u = t then g.routed u else 0

/-- The claimable set of a target (R407). -/
def claimable (g : Gate) (t : Nat) : BitVec 256 :=
  if g.asleep t then 0
  else g.available &&& (g.routed t ||| g.fallen t 0 ||| g.fallen t 1 ||| g.fallen t 2 ||| g.fallen t 3)

/-- The highest source number of a set, or 0. -/
def highest (x : BitVec 256) : Nat := if x = 0 then 0 else Nat.log2 x.toNat

/-- HIRQt (R407). -/
def line (g : Gate) (t : Nat) : Bool := decide (g.claimable t ≠ 0) && g.lineEn t

/-- The single-bit set of a source. -/
def one (src : Nat) : BitVec 256 := BitVec.ofNat 256 (2 ^ (src % 256))

/-- Whether a source is in a set. -/
def has (x : BitVec 256) (src : Nat) : Bool := x.getLsbD src

/-- The number of sources in a set. -/
def count (x : BitVec 256) : Nat := (List.range 256).foldl (fun n i => if x.getLsbD i then n + 1 else n) 0

/-- The route of a source (R408). -/
def routeOf (g : Gate) (src : Nat) : Nat := (if has g.routeHi src then 2 else 0) + (if has g.routeLo src then 1 else 0)
def setRoute (g : Gate) (src t : Nat) : Gate :=
  { g with
    routeLo := if t % 2 = 1 then g.routeLo ||| one src else g.routeLo &&& ~~~ one src
    routeHi := if t / 2 % 2 = 1 then g.routeHi ||| one src else g.routeHi &&& ~~~ one src }

/-- A source set pending by an event or by EG_PEND_SET: overrun if it is in service (R410). -/
def setPending (g : Gate) (src : Nat) : Gate :=
  if has g.inServ src then { g with ovr := g.ovr ||| one src } else { g with pend := g.pend ||| one src }

end Gate

namespace State

/-- The host interface is PCI Express (R397) and its messages are enabled. -/
def pcie (s : State) : Bool := decide (s.power.hostSel = 0) && s.host.msixEnabled

/-- MSI-X of one target (R407): a message on vector `t` where `t` is due, or its pending bit while the vector is masked. -/
def msixOne (s : State) (t : Nat) (due : Bool) : State :=
  if due && s.pcie && s.gate.msixEn t then
    if s.gate.vecMask.getLsbD t then { s with gate := { s.gate with vecPend := s.gate.vecPend ||| BitVec.ofNat 4 (2 ^ t) } }
    else s.emit (.msix t)
  else s

/-- A change of the pending sources is an action of class 7 (R288): the set they now are. -/
def pendAct (s : State) (before : BitVec 256) : State :=
  if s.gate.pend = before then s else s.act 7 ((List.range 32).map (fun i => BitVec.ofNat 8 (s.gate.pend.toNat / 256 ^ i)))

/-- The gate becomes `g`; each target whose claimable set turns non-empty sends its message (R407). -/
def setGate (s : State) (g : Gate) : State :=
  let due (t : Nat) : Bool := decide (s.gate.claimable t = 0) && decide (g.claimable t ≠ 0)
  let s' := ({ s with gate := g } : State).pendAct s.gate.pend
  (((s'.msixOne 0 (due 0)).msixOne 1 (due 1)).msixOne 2 (due 2)).msixOne 3 (due 3)

/-- An event of a source as the device raises it (R410, R415, R416): counted, stamped, and pending or lost. -/
def gateEvent (s : State) (src : Nat) : State :=
  let k := Od.key (0x3600 + src) 3
  let s1 := (s.bump k).put (k + 2) s.ct32
  let s2 := if Gate.has s.gate.inServ src then s1.bump (k + 1) else s1
  s2.setGate (s.gate.setPending src)

end State

/-! ### The logbook's report queue (R484 to R488) -/

/-- The class of a source's report (R485); 64 where the source makes none. -/
def classOf (src : Nat) : Nat :=
  if (9 ≤ src ∧ src ≤ 12) ∨ src = 14 ∨ src = 16 ∨ src = 253 then 0
  else if 1 ≤ src ∧ src ≤ 8 then 1
  else if src = 13 ∨ src = 254 then 2
  else if src = 15 ∨ src = 233 ∨ src = 234 ∨ src = 255 then 3
  else if 32 ≤ src ∧ src ≤ 39 then 4 + (src - 32)
  else if 40 ≤ src ∧ src ≤ 47 then 4 + (src - 40)
  else if 48 ≤ src ∧ src ≤ 63 then 12 + (src - 48)
  else if 64 ≤ src ∧ src ≤ 79 then 12 + (src - 64)
  else if (80 ≤ src ∧ src ≤ 87) ∨ src = 248 ∨ src = 249 then 28
  else if (108 ≤ src ∧ src ≤ 112) ∨ src = 135 then 29
  else if 113 ≤ src ∧ src ≤ 125 then 30
  else if (126 ≤ src ∧ src ≤ 128) ∨ src = 133 ∨ src = 134 then 31
  else if 129 ≤ src ∧ src ≤ 132 then 32
  else if (160 ≤ src ∧ src ≤ 167) ∨ (176 ≤ src ∧ src ≤ 179) then 33
  else if src = 180 ∨ src = 181 then 34
  else if (184 ≤ src ∧ src ≤ 187) ∨ src = 251 ∨ src = 252 then 35
  else if src = 194 ∨ src = 200 then 36
  else if (224 ≤ src ∧ src ≤ 232) ∨ src = 250 then 38
  else 64

/-- The class of a report code without a source (R484, R485). -/
def classOfCode (code : Nat) : Nat := if code = 0x0105 then 37 else 0

/-- Two reports of one class and merge key (R486). -/
def Record.sameKey (a b : Record) : Bool :=
  decide (a.cls = b.cls ∧ a.code = b.code ∧ a.detail = b.detail ∧ a.inst = b.inst)

/-- A further report merged into a queued one (R486, R487). -/
def Record.merge (a b : Record) : Record := { a with repeats := min (a.repeats + b.repeats + 1) 65535, last := b.opSec }

/-- The first queued report with the same key takes the merge. -/
def mergeInto : List Record → Record → Option (List Record)
  | [], _ => none
  | a :: t, r => if a.sameKey r then some (a.merge r :: t) else (mergeInto t r).map (a :: ·)

namespace State

/-- A report as it arises now. -/
def mkReport (s : State) (cls code detail inst value : Nat) : Record :=
  { cls := cls, ctInvalid := !s.ctValid, opSec := s.nat 0x200101, cycles := s.nat 0x200102, stamp := s.ct32.toNat,
    code := code, detail := detail, inst := inst, value := value }

/-- The report queue takes a report: merged, queued, or lost to the weir counter; the flag says lost (R487, R488). -/
def queueReport (s : State) (r : Record) : State × Bool :=
  let s := s.bump 0x350103
  match mergeInto s.log.queue r with
  | some q => ({ s.bump 0x350104 with log := { s.log with queue := q } }, false)
  | none =>
    if s.log.queue.length < 64 then
      let s := { s with log := { s.log with queue := s.log.queue ++ [r] } }
      (s.put 0x350102 (max (s.int 0x350102) s.log.queue.length), false)
    else
      let s := (s.bump 0x350105).bump (Od.key (0x3510 + r.cls) 5)
      (s.put 0x350001 ((s.int 0x350001 + 2) % 2 ^ 32), true)

/-- A report of a code without a source, or of a source whose event the caller raises (R484). A loss raises source 12,
unless it is the report of source 12 that is lost (R488). -/
def report (s : State) (cls code detail inst value : Nat) : State :=
  let p := s.queueReport (s.mkReport cls code detail inst value)
  if p.2 && decide (code ≠ 12) then
    let s := p.1.gateEvent 12
    (s.queueReport (s.mkReport 0 12 0 cls 0)).1
  else p.1

/-- A happening that raises a source: the event, and its one report if the source is not routine (R484). -/
def raise (s : State) (src : Nat) (detail inst value : Nat) : State :=
  let s := s.gateEvent src
  if classOf src < 64 then s.report (classOf src) src detail inst value else s

/-- A trust refusal (R337): recorded, counted, logged and raised. -/
def trustRefuse (s : State) (code : Nat) : State := ((s.put 0x310006 code).bump 0x310007).raise 8 code 0 0

/-! ### Long operations (R363, R364): record 0x3F00 + k -/

/-- Bytes of a number, least significant first (R344). -/
def le (n : Nat) (v : Int) : List Byte := (List.range n).map (fun i => BitVec.ofInt 8 (v / 256 ^ i))

/-- Progress, done and total change together, and the snapshot with them. Within a run progress never decreases. -/
def opProgress (s : State) (k : Nat) (progress done total : Int) : State :=
  let b := Od.key (0x3F00 + k) 0
  let p := max progress (s.int (b + 2))
  (((s.put (b + 2) p).put (b + 3) done).put (b + 4) total).putBytes (b + 9) (le 2 p ++ le 4 done ++ le 4 total)

/-- A run begins. -/
def opStart (s : State) (k : Nat) (total : Int) : State :=
  let b := Od.key (0x3F00 + k) 0
  let s := (((s.put (b + 1) 1).put (b + 2) 0).put (b + 6) 0).put (b + 7) (if s.ctValid then s.ctNow else 0)
  (s.bump (b + 8)).opProgress k 0 0 total

/-- A run ends in a state (2 done, 3 failed, 4 cancelled) with a result; the operation-completion event is raised. -/
def opEnd (s : State) (k : Nat) (state result : Nat) : State :=
  let b := Od.key (0x3F00 + k) 0
  ((s.put (b + 1) state).put (b + 6) result).raise k result 0 0

/-- A long operation runs. -/
def opRunning (s : State) (k : Nat) : Bool := decide (s.int (Od.key (0x3F00 + k) 1) = 1)

/-! ### Sessions and roles -/

/-- The claim state is CLAIMED (R309). -/
def claimed (s : State) : Bool := decide (s.int 0x310001 = 1)

/-- The identity this device names itself by as a source and a sink of slices: its pair's while it is formed, else its own
(R282). -/
def sliceSource (s : State) : Nat := if s.pairing ∧ s.int 0x300105 ≠ 0 then s.nat 0x300105 else s.fuses.identity

/-- The identity by which the roster lists this device: its pair's motor, or itself. -/
def listedAs (s : State) : Nat :=
  match s.mu.roster.find? (fun b => decide (b.pairId.toNat = s.sliceSource ∧ b.pairId ≠ 0)) with
  | some b => b.identity.toNat
  | none => s.fuses.identity

/-- One coupler port's line state, and its update. -/
def pl (s : State) (p : Nat) : PortLine := Tab.get {} s.line.ports p
def setPl (s : State) (p : Nat) (x : PortLine) : State :=
  { s with line := { s.line with ports := Tab.set {} s.line.ports p x } }

end State

/-! ### CRC-32 (IEEE 802.3) -/

/-- One bit of the reflected CRC-32. -/
def crcBit (c : Nat) : Nat := if c % 2 = 1 then Nat.xor (c / 2) 0xEDB88320 else c / 2

/-- One byte. -/
def crcByte (c : Nat) (b : Byte) : Nat :=
  crcBit (crcBit (crcBit (crcBit (crcBit (crcBit (crcBit (crcBit (Nat.xor c b.toNat))))))))

/-- CRC-32 with the IEEE 802.3 polynomial (R225, R227, R350). -/
def crc32 (l : List Byte) : Nat := Nat.xor (l.foldl crcByte 0xFFFFFFFF) 0xFFFFFFFF

/-- CRC-64 with the polynomial of ECMA-182 (R288): from 0, the most significant bit first (log 33). -/
def crc64Bit (c : BitVec 64) : BitVec 64 := if c.getLsbD 63 then (c <<< 1) ^^^ 0x42F0E1EBA9EA3693 else c <<< 1
def crc64Byte (c : BitVec 64) (b : Byte) : BitVec 64 :=
  let x := c ^^^ (b.setWidth 64 <<< 56)
  crc64Bit (crc64Bit (crc64Bit (crc64Bit (crc64Bit (crc64Bit (crc64Bit (crc64Bit x)))))))
def crc64 (l : List Byte) : BitVec 64 := l.foldl crc64Byte 0

/-- Bytes of a number, most significant first (R5). -/
def be (n : Nat) (v : Nat) : List Byte := (List.range n).map (fun i => BitVec.ofNat 8 (v / 256 ^ (n - 1 - i)))

/-- The number of a little-endian byte string. -/
def leNat (l : List Byte) : Nat := l.foldr (fun b n => b.toNat + 256 * n) 0

/-- A two's complement number of w bits. -/
def signed (w : Nat) (n : Nat) : Int := if 2 ^ (w - 1) ≤ n % 2 ^ w then (n % 2 ^ w : Nat) - (2 ^ w : Nat) else (n % 2 ^ w : Nat)

/-- `n` bytes of `l` from offset `o`. -/
def slice (l : List Byte) (o n : Nat) : List Byte := (l.drop o).take n

/-- A little-endian field of a byte string. -/
def field (l : List Byte) (o n : Nat) : Nat := leNat (slice l o n)

/-! ### The sparse byte memories -/

/-- The byte at an address; an address not listed reads 0 (R402). -/
def memRead (m : List Host.Cell) (a : Nat) : Byte := Tab.get (0 : Byte) m a

/-- A byte written. -/
def memWrite (m : List Host.Cell) (a : Nat) (b : Byte) : List Host.Cell := Tab.set (0 : Byte) m a b

/-- Bytes written from an address up. -/
def memWriteAll : List Host.Cell → Nat → List Byte → List Host.Cell
  | m, _, [] => m
  | m, a, b :: t => memWriteAll (memWrite m a b) (a + 1) t

/-- `n` bytes from an address up. -/
def memReadAll (m : List Host.Cell) (a n : Nat) : List Byte := (List.range n).map (fun i => memRead m (a + i))

/-- The canonical form. -/
def Memory.wf (m : List Host.Cell) : Bool := Tab.wf (0 : Byte) m

end Sys2Proof.Machine
end

