-- ==== Sys2Proof/Machine/CanQueue.lean ====
section
/-!
DEFINITION. What a CAN controller sends next (R440 to R442), and the EMCY service with the error register (R377, R453):
shared by every command that queues a frame or begins or ends an error condition.
-/

namespace Sys2Proof.Machine

/-- The identifier of a frame, and whether it is a 29-bit one. -/
def CanFrame.ext (f : Sys2Proof.CanFrame) : Bool := f.ident.getLsbD 31
def CanFrame.id (f : Sys2Proof.CanFrame) : Nat := if f.ident.getLsbD 31 then f.ident.toNat % 2 ^ 29 else f.ident.toNat % 2 ^ 11

/-- The arbitration value (R441): the base identifier, base format before extended, the rest of the identifier. -/
def CanFrame.arb (f : Sys2Proof.CanFrame) : Nat :=
  if f.ident.getLsbD 31 then (f.ident.toNat % 2 ^ 29 / 2 ^ 18 * 2 + 1) * 2 ^ 18 + f.ident.toNat % 2 ^ 18
  else f.ident.toNat % 2 ^ 11 * 2 * 2 ^ 18

/-- The data bytes of a DLC (R439). -/
def dlcLen (dlc : Nat) : Nat :=
  if dlc ≤ 8 then dlc else ([12, 16, 20, 24, 32, 48, 64] : List Nat).getD (dlc - 9) 64

namespace State

/-- A controller, and its update. -/
def canPort (s : State) (c : Nat) : CanPort := Tab.get {} s.canopen.ports c
def setCan (s : State) (c : Nat) (x : CanPort) : State :=
  { s with canopen := { s.canopen with ports := Tab.set {} s.canopen.ports c x } }

/-- A unit that is cross-disabled or FAILED is silent on every output (R280, R290). -/
def silenced (s : State) : Bool := s.pairing && (s.pair.xdisIn || decide (s.int 0x300101 = 7))

/-- The outputs of this unit are parked: its pair role is not the motor's, or it is silent (R280). -/
def parked (s : State) : Bool := s.pairing && (!s.pair.roleOut || s.silenced)

/-- The device is MOORED or on its way past F_m: the transceivers are in standby (R268). -/
def canAsleep (s : State) : Bool := decide (4 ≤ s.mooring.stage)

/-- A controller may send: error active or passive, its transmit not held recessive (R280, R440, R447). -/
def maySend (s : State) (c : Nat) : Bool :=
  let x := s.int (Od.key (0x3314 + c) 1)
  decide (x = 1 ∨ x = 2) && !s.parked && !s.canAsleep

/-- The frame of a transmit buffer (R460). -/
def bufFrame (s : State) (c b : Nat) : Sys2Proof.CanFrame :=
  let k := Od.key (0x3320 + 3 * c + b) 0
  let dlc := s.nat (k + 3) % 16
  { ident := BitVec.ofNat 32 (s.nat (k + 1)), fd := (s.nat (k + 2)).testBit 0, brs := (s.nat (k + 2)).testBit 1,
    dlc := ⟨dlc, Nat.mod_lt _ (by decide)⟩, data := (s.bytes (k + 4)).take (dlcLen dlc) }

/-- A buffer is requested (R442). -/
def requested (s : State) (c b : Nat) : Bool := decide (s.int (Od.key (0x3320 + 3 * c + b) 6) = 1)

/-- The requested buffers that compete (R441): all in transmit order 0, the lowest-numbered in transmit order 1. -/
def competing (s : State) (c : Nat) : List Nat :=
  let l := [0, 1, 2].filter (s.requested c)
  if s.int (Od.key (0x3310 + c) 0x0C) = 1 then l.take 1 else l

/-- The better of a candidate and a further one: the lower arbitration value, the earlier at equal ones. -/
def better (x : Option (Nat × Nat)) (n v : Nat) : Option (Nat × Nat) :=
  match x with
  | none => some (n, v)
  | some (m, w) => if v < w then some (n, v) else some (m, w)

/-- The candidate with the lowest arbitration value (R441): 3 for the head of the service queue. At equal identifiers
the service queue goes before a buffer (DESIGN CHOICE, log 40). -/
def candidate (s : State) (c : Nat) : Option Nat :=
  let first := match (s.canPort c).service with | [] => none | f :: _ => some (3, CanFrame.arb f)
  ((s.competing c).foldl (fun x b => better x b (CanFrame.arb (s.bufFrame c b))) first).map (·.1)

/-- The frame the controller sends. -/
def busFrame (s : State) (c n : Nat) : Option Sys2Proof.CanFrame :=
  if n < 3 then some (s.bufFrame c n) else (s.canPort c).service.head?

/-- The next arbitration: an idle controller that may send takes its candidate (R441). -/
def canPump (s : State) (c : Nat) : State :=
  let x := s.canPort c
  if x.onBus = none ∧ s.maySend c = true then s.setCan c { x with onBus := s.candidate c } else s

/-- A frame queued for transmission is an action of class 1 (R288). -/
def canAct (s : State) (c : Nat) (f : Sys2Proof.CanFrame) : State :=
  s.act 1 ([BitVec.ofNat 8 c] ++ be 4 f.ident.toNat ++
    [BitVec.ofNat 8 ((if f.fd then 1 else 0) + (if f.brs then 2 else 0) + (if f.remote then 4 else 0)), BitVec.ofNat 8 f.dlc.val] ++ f.data)

/-- A frame into the service queue of 16 (R441); a full queue drops it, counted. The flag says dropped. -/
def queueFrame (s : State) (c : Nat) (f : Sys2Proof.CanFrame) : State × Bool :=
  let x := s.canPort c
  if x.service.length < 16 then (((s.canAct c f).setCan c { x with service := x.service ++ [f] }).canPump c, false)
  else (s.bump (Od.key (0x3318 + c) 9), true)

/-- CAN0 runs services that send: its mode is not a listen-only one, nor off (R440). -/
def canOpenSends (s : State) : Bool :=
  let m := s.int 0x331001
  decide (m = 1 ∨ m = 3)

/-- A Classical frame of the communication profile under a COB-ID (R372). -/
def profileFrame (cob : Nat) (data : List Byte) : Sys2Proof.CanFrame :=
  let ident := if cob.testBit 29 then 2 ^ 31 + cob % 2 ^ 29 else cob % 2 ^ 11
  { ident := BitVec.ofNat 32 ident, dlc := ⟨data.length % 16, Nat.mod_lt _ (by decide)⟩, data := data }

/-! ### The error register and EMCY -/

/-- A region of the device is in view lost (R109). -/
def regionLost (s : State) : Bool := s.slices.displays.any (fun d => d.2.regions.any (fun r => r.2.lost))

/-- A rail monitor reports a limit crossed; a sensor is above its warning threshold; a heartbeat has timed out. -/
def railCrossed (s : State) : Bool := (List.range 7).any (fun r => decide (s.int (Od.key (0x2108 + r) 4) ≠ 0))
def tempWarned (s : State) : Bool := (List.range 8).any (fun t => (s.nat (Od.key (0x2110 + t) 5)).testBit 0)
def heartLost (s : State) : Bool := (List.range 4).any (fun i => decide (s.int (Od.key 0x3302 (1 + i)) = 3))

/-- A channel is in current limit or switched off for overcurrent. -/
def overcurrent (s : State) : Bool := s.fio.chans.any (fun c => c.2.limit || decide (c.2.trip ≠ 0))

/-- Pairing is enabled and the pair is not IN_STEP (R304). -/
def notInStep (s : State) : Bool := s.pairing && decide (s.int 0x300101 ≠ 3)

/-- The error register 0x1001 (R377). -/
def errorRegister (s : State) : Nat :=
  let bits := (if s.overcurrent then 2 else 0) + (if s.fio.vf1.sag ∨ s.fio.vf2.sag ∨ s.railCrossed = true then 4 else 0) +
    (if s.tempWarned then 8 else 0) +
    (if s.int 0x331401 = 2 ∨ s.int 0x331401 = 3 ∨ s.heartLost = true then 16 else 0) +
    (if s.regionLost ∨ s.notInStep = true then 128 else 0)
  if bits = 0 then 0 else bits + 1

/-- The conditions of R453 that hold now: code and source of the cause. -/
def emcyNow (s : State) : List (Nat × Nat) :=
  (if s.overcurrent then [(0x2310, 184)] else []) ++
  (if s.fio.vf1.sag then [(0x3100, 186)] else if s.fio.vf2.sag then [(0x3100, 187)] else []) ++
  (if s.railCrossed then [(0x3200, 14)] else []) ++ (if s.tempWarned then [(0x4200, 13)] else []) ++
  (if s.int 0x331401 = 2 then [(0x8120, 160)] else []) ++ (if s.heartLost then [(0x8130, 180)] else []) ++
  (if s.regionLost then [(0xFF00, if s.slices.displays.any (fun d => decide (d.1 = 0) && d.2.regions.any (fun r => r.2.lost))
    then 248 else 249)] else []) ++
  (if s.notInStep then [(0xFF01, 0)] else [])

/-- An entry of 0x1003: the newest first, at most 8 (R370). -/
def errorField (s : State) (v : Int) : State :=
  let s := (List.range 7).foldl (fun s i => s.put (Od.key 0x1003 (8 - i)) (s.int (Od.key 0x1003 (7 - i)))) s
  (s.put 0x100301 v).put 0x100300 (min 8 (s.int 0x100300 + 1))

/-- A counter of 16 bits in a half of an entry, saturating. -/
def halfBump (v : Int) (high : Bool) : Int :=
  if high then (if v / 65536 < 65535 then v + 65536 else v) else (if v % 65536 < 65535 then v + 1 else v)

/-- An EMCY frame leaves: queued, entered at 0x1003, counted, and the inhibit time begins. -/
def emcyOut (s : State) (f : Sys2Proof.CanFrame) : State :=
  let s := (s.errorField (field f.data 0 2 + field f.data 3 1 * 65536)).put 0x330105 (halfBump (s.int 0x330105) false)
  let s := (s.queueFrame 0 f).1
  { s with canopen := { s.canopen with inhibited := decide (s.int 0x101500 ≠ 0) } }

/-- EMCY runs: its COB-ID is valid, the NMT state allows it, and CAN0 may send (R372, R449). -/
def emcyRuns (s : State) : Bool :=
  !(s.nat 0x101400).testBit 31 && decide (s.int 0x330103 = 5 ∨ s.int 0x330103 = 127) && s.canOpenSends

/-- An EMCY of a code and the source of its cause (R453): at once, held back by the inhibit time, or dropped as ninth. -/
def emcy (s : State) (code src : Nat) : State :=
  if s.emcyRuns then
    let data := le 2 code ++ le 1 s.errorRegister ++ le 1 src ++ le 4 s.ct32
    let f := profileFrame (s.nat 0x101400) data
    if s.canopen.inhibited then
      if s.canopen.waiting.length < 8 then { s with canopen := { s.canopen with waiting := s.canopen.waiting ++ [f] } }
      else s.put 0x330105 (halfBump (s.int 0x330105) true)
    else s.emcyOut f
  else s

/-- The conditions are judged anew: one that has begun sends its code, one that has ended sends 0x0000 (R453). -/
def emcyScan (s : State) : State :=
  let old := s.canopen.conditions
  let new := s.emcyNow
  let begun := new.filter (fun c => !old.any (fun o => decide (o.1 = c.1)))
  let ended := old.filter (fun c => !new.any (fun o => decide (o.1 = c.1)))
  let s := { s with canopen := { s.canopen with conditions := new } }
  let s := begun.foldl (fun s c => s.emcy c.1 c.2) s
  ended.foldl (fun s c => s.emcy 0 c.2) s

end State

end Sys2Proof.Machine
end

