-- ==== Sys2Proof/Machine/FieldDrive.lean ====
section
/-!
DEFINITION. The field die's drivers and flags (R461 to R467, R472, R475 to R477): the driver state of each channel, the
judging of what changes, and the latching of flags. Channels are numbered 0 to 15 here, FIO01 being 0.
-/

namespace Sys2Proof.Machine

namespace State

/-- A channel, and its update. -/
def chan (s : State) (k : Nat) : Channel := Tab.get {} s.fio.chans k
def setChan (s : State) (k : Nat) (x : Channel) : State :=
  { s with fio := { s.fio with chans := Tab.set {} s.fio.chans k x } }

/-- The supply of a channel's group, and the update of a group's (0 VF1, 1 VF2). -/
def supply (s : State) (g : Nat) : Supply := if g = 0 then s.fio.vf1 else s.fio.vf2
def setSupply (s : State) (g : Nat) (x : Supply) : State :=
  if g = 0 then { s with fio := { s.fio with vf1 := x } } else { s with fio := { s.fio with vf2 := x } }
def supplyOf (s : State) (k : Nat) : Supply := s.supply (k / 8)

/-- Mode and role of a channel (R461, R476). -/
def fioMode (s : State) (k : Nat) : Nat := s.nat (Od.key (0x3210 + k) 1)
def fioRole (s : State) (k : Nat) : Nat := s.nat (Od.key (0x3220 + k) 1)

/-- The state a channel is commanded to: its mooring state from step 1 of R268, the view-lost role, or its command. -/
def commanded (s : State) (k : Nat) : Bool :=
  if s.fio.preparing then decide (s.int (Od.key (0x3210 + k) 0x0C) = 1)
  else if s.fioRole k = 5 then s.regionLost else s.flag (Od.key (0x3230 + k) 1)

/-- The driver state of a channel (0x3230:02): 0 off, 1 on, 2 current limit, 3 tripped, 4 thermal, 5 supply off,
6 parked. -/
def driverState (s : State) (k : Nat) : Nat :=
  let c := s.chan k
  let v := s.supplyOf k
  let held (on : Bool) : Nat :=
    if v.off then 5 else if !on then 0 else if c.thermal then 4 else if c.trip ≠ 0 then 3 else if c.limit then 2 else 1
  if s.power.phase = .moored then (if s.fio.moored.getLsbD k then held true else 0)
  else if !s.fio.link || decide (s.fioMode k ≠ 2) then 0
  else if s.silenced || (s.parked && !s.pair.overlap) then 6
  else held (s.commanded k)

/-- The applied state of a channel. -/
def applied (s : State) (k : Nat) : Bool := decide (s.driverState k = 1 ∨ s.driverState k = 2)

/-- The live flags of a channel (R472). -/
def liveFlags (s : State) (k : Nat) : Nat :=
  let c := s.chan k
  let v := s.supplyOf k
  (c.flags.toNat) ||| (if c.trip ≠ 0 then 1 else 0) ||| (if c.limit then 2 else 0) ||| (if c.thermal then 4 else 0) |||
    (if c.reverse then 64 else 0) |||
    (if v.sag then 1024 else 0) ||| (if v.off then 2048 else 0)

/-- The event source of a flag on a channel (R472); 0 where it has none. -/
def flagSource (k bit : Nat) : Nat :=
  if bit = 1 ∨ bit = 6 ∨ 13 ≤ bit then 0
  else if bit = 5 then 185
  else if bit = 10 then (if k < 8 then 186 else 187)
  else if bit = 11 then (if k < 8 then 251 else 252)
  else 184

/-- The counter of a flag in 0x3250 (R483); 0 where none counts it. -/
def flagCounter (bit : Nat) : Nat :=
  if bit = 0 then 2 else if bit = 2 then 3 else if bit = 3 then 4 else if bit = 4 then 5 else if bit = 5 then 6
  else if bit = 7 ∨ bit = 8 ∨ bit = 12 then 7 else 0

/-- A flag is set on a channel: counted, and latched; a bit that newly latches raises its source once, with the channel
as the instance and the latched flags as the value (R472, R486). -/
def latchFlag (s : State) (k bit : Nat) : State :=
  let s := if flagCounter bit = 0 then s else s.bump (Od.key (0x3250 + k) (flagCounter bit))
  let l := s.nat (Od.key (0x3240 + k) 2)
  if l.testBit bit then s
  else
    let s := s.put (Od.key (0x3240 + k) 2) ((l + 2 ^ bit : Nat) : Int)
    if flagSource k bit = 0 then s else s.raise (flagSource k bit) 0 (k + 1) (l + 2 ^ bit)

/-- A live flag of `Channel.flags` set or cleared; a new one latches. -/
def setFlag (s : State) (k bit : Nat) (on : Bool) : State :=
  let c := s.chan k
  if c.flags.getLsbD bit = on then s
  else if on then (s.setChan k { c with flags := c.flags ||| BitVec.ofNat 16 (2 ^ bit) }).latchFlag k bit
  else s.setChan k { c with flags := c.flags &&& ~~~ BitVec.ofNat 16 (2 ^ bit) }

/-- The state a channel would drive were it not parked: a butty computes the outputs of its pair (R288, log 33). -/
def computed (s : State) (k : Nat) : Bool :=
  let c := s.chan k
  decide (s.fioMode k = 2) && s.commanded k && !(s.supplyOf k).off && !c.thermal && decide (c.trip = 0)

/-- A change of an output's command is an action of class 0 (R288): channel, state, CT. -/
def orderAct (s : State) (k : Nat) : State :=
  let on := decide (s.fioMode k = 2) && s.commanded k
  if s.fio.ordered.getLsbD k = on then s
  else
    let d := s.fio.ordered ^^^ BitVec.ofNat 16 (2 ^ k)
    ({ s with fio := { s.fio with ordered := d } } : State).act 0 (le 1 (k + 1) ++ le 1 (if on then 1 else 0) ++ le 10 s.ctNow)

/-- Cross-feed is set on two channels, each naming the other (R470), but on none whose supply sags (R474). -/
def crossFeed (s : State) (j k : Nat) : State :=
  let one (s : State) (a b : Nat) : State :=
    if (s.supplyOf a).sag then s else (s.put (Od.key (0x3240 + a) 3) (b + 1 : Nat)).setFlag a 5 true
  one (one s j k) k j

/-- Reverse and cross-feed are not set in a make-before-break window, nor for 1 ms after it (R471). -/
def overlapNear (s : State) : Bool :=
  s.pair.overlap || (match s.pair.overlapAt with | some c => decide (s.clock.counter < c + 312500) | none => false)

/-- A channel that comes on while one of the other group is in reverse (R471): cross-feed on both. -/
def reverseMate (s : State) (k : Nat) : State :=
  let g := 1 - k / 8
  match ((List.range 8).map (fun i => 8 * g + i)).find? (fun j => (s.chan j).reverse) with
  | some j => if s.overlapNear then s else s.crossFeed j k
  | none => s

/-- A channel whose applied state changed: its instant is kept and the change recorded (R462, R470); an output that
switches off leaves current limit, open load and reverse. -/
def driveEdge (s : State) (k : Nat) : State :=
  let on := s.applied k
  if s.fio.drive.getLsbD k = on then s
  else
    let c := s.chan k
    let d := if on then s.fio.drive ||| BitVec.ofNat 16 (2 ^ k) else s.fio.drive &&& ~~~ BitVec.ofNat 16 (2 ^ k)
    let s := { s with fio := { s.fio with drive := d } }
    let s := if on then s.setChan k { c with onAt := some s.clock.counter }
      else s.setChan k { c with offAt := some s.clock.counter, limit := false, reverse := false }
    let s := if on then (s.setFlag k 4 false).reverseMate k else s.setFlag k 3 false
    s.emit (.field (k + 1) on)

/-- A commanded-off channel without role 5 forgets its trip and its retries (R463, R480). -/
def releaseTrip (s : State) (k : Nat) : State :=
  let c := s.chan k
  if !s.commanded k && decide (s.fioRole k ≠ 5) && s.fio.link && decide (c.trip ≠ 0 ∨ c.retries ≠ 0) then
    s.setChan k { c with trip := 0, retries := 0 }
  else s

/-- A message to the partner, while the tow line is up (R278). -/
def toPartner (s : State) (x : TowInput) : State := if s.pairing && s.pair.up then s.emit (.tow x) else s

/-- The commanded states of all channels (R479). -/
def commands (s : State) : BitVec 16 :=
  (List.range 16).foldl (fun m k => if s.commanded k then m ||| BitVec.ofNat 16 (2 ^ k) else m) 0

/-- The motor reports its commands where one has changed (R479). -/
def tellCommands (s : State) (was : BitVec 16) : State :=
  if s.fio.ordered ≠ was ∧ s.int 0x300102 = 1 then s.toPartner (.command s.commands) else s

/-- The drivers take what the commands, roles, supplies and trips now give (R462, R475, R477). -/
def driveField (s : State) : State :=
  ((List.range 16).foldl (fun s k => ((s.orderAct k).releaseTrip k).driveEdge k) s).tellCommands s.fio.ordered

/-- The pair role is released (R280, R293): the drivers are parked. -/
def dropRole (s : State) : State :=
  let s := { s with pair := { s.pair with roleOut := false, request := false } }
  (s.emit (.pairPins false s.pair.xdisOut)).driveField

/-! ### Inputs of a pair (R284) -/

/-- Both units act together: formed, and the tow line up (R284, R287). -/
def inStep (s : State) : Bool :=
  s.pairing && s.pair.up && decide (2 ≤ s.int 0x300101 ∧ s.int 0x300101 ≤ 4) && !s.pair.acting

/-- This unit is the butty of a pair (R281). -/
def isButty (s : State) : Bool := s.pairing && decide (s.int 0x300102 = 2)

/-- An input before another: the earlier stamp, unit A's on equal stamps. -/
def inputBefore (a b : PairWait) : Bool := decide (a.stamp < b.stamp) || (decide (a.stamp = b.stamp) && a.unitA && !b.unitA)

/-- An input put in its order. -/
def insertInput (a : PairWait) : List PairWait → List PairWait
  | [] => [a]
  | b :: t => if inputBefore a b then a :: b :: t else b :: insertInput a t

/-- An input waits for its passage start. -/
def queueInput (s : State) (stamp : Int) (unitA : Bool) (x : PairInput) : State :=
  { s with pair := { s.pair with inputs := insertInput { stamp := stamp, unitA := unitA, what := x } s.pair.inputs } }

/-- An input of this unit (R284): acted on at once, or in a pair sent to the partner and queued. -/
def replicate (s : State) (stamp : Int) (x : PairInput) (act : State → State) : State :=
  if s.inStep then (s.queueInput stamp s.unitA x).emit (.tow (.input stamp x)) else act s

/-- An input that both units receive: the motor's copy rules, and the butty's is only compared. -/
def replicateShared (s : State) (stamp : Int) (x : PairInput) (act : State → State) : State :=
  if s.inStep && decide (s.int 0x300102 = 2) then s else s.replicate stamp x act

/-- What every change of a condition leads to: the drivers follow, and EMCY is judged (R453, R477). -/
def settle (s : State) : State := s.driveField.emcyScan

end State

end Sys2Proof.Machine
end

