-- ==== Sys2Proof/Machine/Operands.lean ====
section
/-!
DEFINITION. The operand forms of a dictionary access: the bytes of a value (R344), the length and range checks of a
write (R346, steps 5 and 6) and the bytes a read returns.
-/

namespace Sys2Proof.Machine

/-- The size of a type in bytes, where it is fixed (R344). -/
def OdTy.size : OdTy → Option Nat
  | .bool => some 1 | .u8 => some 1 | .u16 => some 2 | .u32 => some 4 | .u48 => some 6 | .u64 => some 8
  | .i8 => some 1 | .i16 => some 2 | .i32 => some 4 | .i64 => some 8 | .time80 => some 10
  | .vstr => none | .octet => none | .domain => none

/-- A type whose values are numbers. -/
def OdTy.isNum (t : OdTy) : Bool := t.size.isSome

/-- A type whose values are signed. -/
def OdTy.isSigned : OdTy → Bool
  | .i8 => true | .i16 => true | .i32 => true | .i64 => true | _ => false

/-- The bytes of a value of a type (R344): TIME80 as nanoseconds, then the fraction (R199). -/
def encodeVal (t : OdTy) (v : Val) : List Byte :=
  match v with
  | .bytes b => b
  | .num n =>
    match t with
    | .time80 => State.le 8 (n / 65536) ++ State.le 2 (n % 65536)
    | _ => State.le (t.size.getD 0) n

/-- The bytes of an entry's value (R344). -/
def valueBytes (k : Nat) (v : Val) : List Byte :=
  match Od.find? k with
  | some (_, e) => encodeVal e.ty v
  | none => match v with | .bytes b => b | .num _ => []

/-- The value of the bytes of a type, without a check. -/
def decodeVal (t : OdTy) (b : List Byte) : Val :=
  match t with
  | .vstr => .bytes b
  | .octet => .bytes b
  | .domain => .bytes b
  | .time80 => .num (field b 0 8 * 65536 + field b 8 2)
  | _ => .num (if t.isSigned then signed (8 * b.length) (leNat b) else leNat b)

/-- The length check (R346, step 5): 0x05 too long, 0x06 too short. -/
def lengthStatus (e : OdEnt) (n : Nat) : Nat :=
  match e.ty with
  | .vstr => if n ≤ e.len then 0 else 5
  | .domain => if n ≤ e.len then 0 else 5
  | .octet => if n < e.len then 6 else if e.len < n then 5 else 0
  | t => if n < t.size.getD 0 then 6 else if t.size.getD 0 < n then 5 else 0

/-- A character of a name: A to Z, 0 to 9 and _ (R21). -/
def isNameChar (b : Byte) : Bool :=
  let n := b.toNat
  decide ((0x41 ≤ n ∧ n ≤ 0x5A) ∨ (0x30 ≤ n ∧ n ≤ 0x39) ∨ n = 0x5F)

/-- The largest and the smallest number of a list and a start. -/
def maxOf (a : Int) (l : List Int) : Int := l.foldl max a
def minOf (a : Int) (l : List Int) : Int := l.foldl min a

/-- A number outside a range with further codes: above the top 0x07, below the bottom 0x08, else 0x09 (R346, step 6). -/
def outside (lo hi : Int) (l : List Int) (v : Int) : Nat :=
  if maxOf hi l < v then 7 else if v < minOf lo l then 8 else 9

/-- The range check of a number (R346, step 6). -/
def rangeStatus (r : Rng) (v : Int) : Nat :=
  match r with
  | .any => 0
  | .rng lo hi => if hi < v then 7 else if v < lo then 8 else 0
  | .codes l => if v ∈ l then 0 else 9
  | .rngOr lo hi l => if (lo ≤ v ∧ v ≤ hi) ∨ v ∈ l then 0 else outside lo hi l v
  | .codesOr lo hi l => if (lo ≤ v ∧ v ≤ hi) ∨ v ∈ l then 0 else 9
  | .mask m => if Nat.land v.toNat m = v.toNat then 0 else 9
  | .step lo hi k => if hi < v then 7 else if v < lo then 8 else if v % k = 0 then 0 else 9
  | .zeroOnly => if v = 0 then 0 else 9
  | .name => 0

/-- The encoding of a COB-ID (R372): an 11-bit identifier has bits [28:11] clear; in 0x1005 bit 30 must be 0, in
0x1012 bit 31 must be 0, in a TPDO COB-ID bit 30 must be 1. -/
def cobStatus (k : Nat) (v : Int) : Nat :=
  let n := v.toNat
  let i := Od.indexOf k
  let idOk := n.testBit 29 || decide (n / 2 ^ 11 % 2 ^ 18 = 0)
  let pdo := decide ((0x1400 ≤ i ∧ i < 0x1408) ∨ (0x1800 ≤ i ∧ i < 0x1808)) && decide (Od.subOf k = 1)
  if k = 0x100500 then (if idOk && !n.testBit 30 then 0 else 9)
  else if k = 0x101200 then (if idOk && !n.testBit 31 then 0 else 9)
  else if k = 0x101400 then (if idOk then 0 else 9)
  else if pdo then (if idOk && (decide (i < 0x1800) || n.testBit 30) then 0 else 9)
  else 0

/-- The value check (R346, step 6) of bytes whose length fits. -/
def valueStatus (k : Nat) (e : OdEnt) (b : List Byte) : Nat :=
  match e.ty, decodeVal e.ty b with
  | .bool, .num v => if v = 0 ∨ v = 1 then rangeStatus e.rng v else 9
  | .vstr, .bytes l =>
    if e.rng = .name then (if l.all isNameChar then 0 else 9)
    else if l.all (fun c => decide (0x20 ≤ c.toNat ∧ c.toNat ≤ 0x7E)) then 0 else 9
  | _, .num v => let r := rangeStatus e.rng v; if r = 0 then cobStatus k v else r
  | _, .bytes _ => 0

end Sys2Proof.Machine
end

