-- ==== Sys2Proof/Machine/AccessCheck.lean ====
section
/-!
DEFINITION. The checks every dictionary access passes (R345, R346, R353, R356, R357, R360, R312, R318), in their order,
and the write that follows where an entry has no action of its own (R347, R349, R350, R353).
-/

namespace Sys2Proof.Machine

/-- The number of a role: 1 Observer to 4 Owner (R314). -/
def Role.code : Role → Nat | .observer => 1 | .operator => 2 | .maintainer => 3 | .owner => 4

/-- The entries that are written over any path without a session (R311, R334, R494). -/
def anyPathWrites : List Nat := [0x311001, 0x311002, 0x315001, 0x350201]

/-- The further entries that CAN0 and the host mailbox accept without a session (R357, R360). -/
def localWrites : List Nat := [0x312001, 0x201801, 0x201802]

/-- The entries an unclaimed or released device still lets be written: the claim writes (R311, R312). -/
def claimWrites : List Nat := [0x311001, 0x311002]

namespace State

/-- The role a writer holds on its path: 0 none, else R314 (R318). A bundle writes with its signer's role, judged before
(R334); an RPDO with the Operator role (R375). -/
def roleOf (s : State) (w : Writer) : Nat :=
  match w.path, w.session with
  | .bundle, _ => 4
  | .rpdo, _ => 2
  | .mgmt, none => 0
  | _, none => 1
  | p, some n =>
    match Tab.find? s.trust.sessions n.val with
    | some x => if x.established ∧ x.path = p then x.role else 0
    | none => 0

/-- An access that is not a client's: what the block does for itself on behalf of a bundle or an RPDO. -/
def internal (w : Writer) : Bool := decide (w.path = .bundle ∨ w.path = .rpdo)

/-- Role, path and session permit a write (R312, R318, R357; step 4 of R346). A device that is not claimed refuses every
write but the claim writes. -/
def mayWrite (s : State) (w : Writer) (k : Nat) (e : OdEnt) : Bool :=
  if internal w then s.claimed && decide (e.role.code ≤ s.roleOf w)
  else if s.claimed then
    match w.session with
    | none => anyPathWrites.contains k || (decide (w.path ≠ .mgmt) && localWrites.contains k)
    | some _ => decide (e.role.code ≤ s.roleOf w)
  else claimWrites.contains k

/-- Role, path and session permit a read: an rw entry needs Observer, another its stated role (R345). -/
def mayRead (s : State) (w : Writer) (e : OdEnt) : Bool :=
  let need := match e.acc with | .rw => 1 | _ => e.role.code
  decide (need ≤ s.roleOf w)

/-- A commit is in progress, from its command until it applies or is refused (R354, R356). -/
def committing (s : State) : Bool := decide (1 ≤ s.int 0x201002 ∧ s.int 0x201002 ≤ 3)

/-- The staging copy is open to a writer (R353). -/
def stagingOpen (s : State) (w : Writer) : Bool :=
  match s.dict.holder with | none => true | some h => decide (h = w)

/-- Step 7 of R346: a staged entry, or the commit command, in a commit (0x0B, first) or held by another (0x0A). -/
def stagingStatus (s : State) (w : Writer) (k : Nat) (e : OdEnt) : Nat :=
  if e.pers = .staged ∨ k = 0x201001 then
    if s.committing then 0x0B else if s.stagingOpen w then 0 else 0x0A
  else 0

/-- The first seven checks of a write (R346); 0 lets it pass. 0x45 is the trust refusal of a role too low. The length is
that of the whole value, and `data` is the value where it is at hand: a segment has none yet (R348). -/
def writeChecks (s : State) (w : Writer) (k : Nat) (length : Nat) (data : Option (List Byte)) : Nat :=
  match Od.record? (Od.indexOf k) with
  | none => 1
  | some r =>
    match Od.row? r (Od.subOf k) with
    | none => 2
    | some e =>
      let value := match data with | some d => valueStatus k e d | none => 0
      if e.acc = .ro ∨ e.acc = .const then 3
      else if !s.mayWrite w k e then 0x45
      else if lengthStatus e length ≠ 0 then lengthStatus e length
      else if value ≠ 0 then value
      else s.stagingStatus w k e

/-- The checks of a write of a whole value. -/
def writeStatus (s : State) (w : Writer) (k : Nat) (data : List Byte) : Nat := s.writeChecks w k data.length (some data)

/-- The checks of a read (R346). -/
def readStatus (s : State) (w : Writer) (k : Nat) : Nat :=
  match Od.record? (Od.indexOf k) with
  | none => 1
  | some r =>
    match Od.row? r (Od.subOf k) with
    | none => 2
    | some e => if e.acc = .wo then 4 else if !s.mayRead w e then 0x45 else 0

/-- The number of an access path, for the entries held per path (R366). -/
def pathNo : Path → Nat | .can => 0 | .host => 1 | .mgmt => 2 | .bundle => 3 | .rpdo => 4

/-- The next chunk of the response put into the buffer (R405, step 4). -/
def mbDeliver (s : State) (offset : Nat) : State :=
  let chunk := (s.host.response.drop offset).take 1024
  let s := { s with host := { s.host with
    buf := memWriteAll s.host.buf 0x100 chunk, rlen := s.host.response.length, roff := offset, rchk := chunk.length,
    resp := true } }
  s.raise 193 0 0 0

/-- A response of a mailbox message: its status and data (R360, R405). -/
def mbRespond (s : State) (status : Nat) (data : List Byte) : State :=
  let s := (s.bump 0x360002).act 7 (le 1 status ++ data)
  ({ s with host := { s.host with response := le 1 status ++ data, exec := 0, busy := false } } : State).mbDeliver 0

/-- A response over MGMT is an action of class 7, as a mailbox reply is (R288). -/
def replyAct (s : State) (p : Path) (status : Nat) (data : List Byte) : State :=
  if p = .mgmt then s.act 7 (le 1 status ++ data) else s

/-- A response leaves over its path: a mailbox message answers through the buffer, unless ABORT discarded its response
(R405, R406); a session request on CAN0 answers at 0x3120:02 (R357). -/
def answer (s : State) (w : Writer) (status : Nat) (data : List Byte) : State :=
  match w.path with
  | .host =>
    if s.host.exec = 1 then s.mbRespond status data
    else if s.host.exec = 2 then { s with host := { s.host with exec := 0, busy := false } }
    else s.emit (.response .host status data)
  | .can => (if w.session.isSome then s.putBytes 0x312002 (le 1 status ++ data) else s).emit (.response .can status data)
  | p => (s.replyAct p status data).emit (.response p status data)

/-- The response to an access: a non-zero status is counted (0x2001:05), and 0x41 to 0x4F is a trust refusal whose
effects it has (R337, R362, R365). -/
def respond (s : State) (w : Writer) (status : Nat) (data : List Byte) : State :=
  let s := if status = 0 then s else s.bump 0x200105
  let s := if 0x41 ≤ status ∧ status ≤ 0x4F then s.trustRefuse (status - 0x40) else s
  s.answer w status data

/-- A session message is dropped (R320, R362): counted; the mailbox answers 0x4C, the SDO download completes, and MGMT
sends nothing. -/
def dropMessage (s : State) (p : Path) : State :=
  match p with
  | .host => s.respond { path := p } 0x4C []
  | .can => (s.trustRefuse 0x0C).answer { path := p } 0 []
  | _ => s.trustRefuse 0x0C

/-- A session message without a reply of its own was taken: the mailbox message or the SDO download ends with status 0. -/
def takeMessage (s : State) (p : Path) : State :=
  match p with
  | .host => s.respond { path := p } 0 []
  | .can => s.respond { path := p } 0 []
  | _ => s

/-- The bits of an entry that are marked reserved hold 0, whatever is written (R6): bit 30 of an RPDO COB-ID (R372), the
top byte of a consumer heartbeat entry (R370). -/
def clearReserved (k : Nat) : Val → Val
  | .num v =>
    let i := Od.indexOf k
    if 0x1400 ≤ i ∧ i < 0x1408 ∧ Od.subOf k = 1 then .num (v - (if v.toNat.testBit 30 then 2 ^ 30 else 0))
    else if i = 0x1016 ∧ 1 ≤ Od.subOf k then .num (v % 2 ^ 24)
    else .num v
  | .bytes b => .bytes b

/-- The value a write carries. -/
def written (k : Nat) (data : List Byte) : Val :=
  match Od.find? k with | some (_, e) => clearReserved k (decodeVal e.ty data) | none => .bytes data

/-- The newer of two generations (R351). -/
def newerGen (g1 g2 : Nat) : Bool :=
  let d := (g1 + 2 ^ 32 - g2 % 2 ^ 32) % 2 ^ 32
  decide (1 ≤ d ∧ d ≤ 2 ^ 31 - 1)

/-- The copy in force of an area: the valid one with the newer generation (R351). -/
def inForce (a b : Copy) : Option Copy :=
  if a.valid ∧ b.valid then some (if newerGen a.generation b.generation then a else b)
  else if a.valid then some a else if b.valid then some b else none

/-- The entries of one persistence class that stand off their defaults. -/
def ofPers (t : Store) (p : Pers) : Store := t.filter (fun e => Od.pers e.1 = p)

/-- A store of an area overwrites the copy with the older generation, one above the newer (R350). -/
def storeCopy (a b : Copy) (data : Store) : Copy × Copy :=
  match inForce a b with
  | none => ({ generation := 1, valid := true, data := data }, b)
  | some c =>
    let n : Copy := { generation := (c.generation + 1) % 2 ^ 32, valid := true, data := data }
    if c = a then (a, n) else (n, b)

/-- Stores may start: from the MOORED entry record on, no new one does (R268, step 3). -/
def storesRun (s : State) : Bool := decide (s.mooring.stage < 3)

/-- The stored area written with what the stored entries hold (R349, R350, R352). -/
def storeStored (s : State) : State :=
  if s.storesRun = false then s else
  let p := storeCopy s.mram.stored0 s.mram.stored1 (ofPers s.od .stored)
  { s with mram := { s.mram with stored0 := p.1, stored1 := p.2 } }

/-- A staged value: kept as a difference from the applied configuration, and the writer becomes the holder (R353). -/
def stage (s : State) (w : Writer) (k : Nat) (v : Val) : State :=
  let t := if s.get k = v then Tab.erase s.dict.staging k else Tab.insert s.dict.staging k v
  { s with dict := { s.dict with staging := t, holder := some w } }

/-- A stored dictionary write is an action of class 6 (R288). -/
def storeAct (s : State) (k : Nat) (value : List Byte) : State :=
  s.act 6 (be 2 (Od.indexOf k) ++ [BitVec.ofNat 8 (Od.subOf k)] ++ be 4 (crc32 value))

/-- The effect of a write that passed every check, on an entry without an action of its own (R347, R349). A stored entry
whose store fails takes no value; the caller answers 0x0E. -/
def plainWrite (s : State) (w : Writer) (k : Nat) (v : Val) : State :=
  match Od.pers k with
  | .staged => s.stage w k v
  | .stored => if s.mram.storeFails then s else ((s.setVal k v).storeAct k (valueBytes k v)).storeStored
  | _ => s.setVal k v

/-- The status a plain write ends with: 0x0E where a store fails (R362). -/
def plainStatus (s : State) (k : Nat) : Nat := if Od.pers k = .stored ∧ s.mram.storeFails then 0x0E else 0

/-- The SDO server takes no access in the NMT state stopped (R449). -/
def sdoClosed (s : State) (w : Writer) : Bool := decide (w.path = .can) && decide (s.int 0x330103 = 4)

/-- A write as an input of a pair (R284, R347); a bundle and an RPDO are inputs themselves. -/
def asInput (s : State) (w : Writer) (k : Nat) (data : List Byte) (act : State → State) : State :=
  if s.sdoClosed w then s
  else if internal w then act s
  else s.replicate s.ctNow (.host (.entry { writer := w, index := Od.indexOf k, sub := Od.subOf k } data)) act

/-- A write of one value to an entry without an action: checks, effect, response. -/
def accessPlain (s : State) (w : Writer) (k : Nat) (data : List Byte) : State :=
  s.asInput w k data fun s =>
    let st := s.writeStatus w k data
    if st ≠ 0 then s.respond w st []
    else if s.plainStatus k ≠ 0 then s.respond w (s.plainStatus k) []
    else (s.plainWrite w k (written k data)).respond w 0 []

/-- A write that starts an action: where the checks pass, `act` answers the state and its own status (R346 step 8,
R347). -/
def accessAct (s : State) (w : Writer) (k : Nat) (data : List Byte) (act : State → State × Nat) : State :=
  s.asInput w k data fun s =>
    let st := s.writeStatus w k data
    if st ≠ 0 then s.respond w st []
    else let p := act s; p.1.respond w p.2 []

/-- The dictionary service runs (R347, R403, R516). -/
def served (s : State) (f : State → State) : State := if s.isReady then f s else s

/-- The staged value of an entry: the staging copy's, or the applied one (R353). -/
def stagedGet (s : State) (k : Nat) : Val := (Tab.find? s.dict.staging k).getD (s.get k)

/-- The state as it would stand with the staging copy applied: what the commit checks read (R355). -/
def asStaged (s : State) : State := { s with od := s.dict.staging.foldl (fun t e => Store.set t e.1 e.2) s.od }

end State

end Sys2Proof.Machine
end

