-- ==== Sys2Proof/Machine/Chains.lean ====
section
/-!
DEFINITION. Role chains, revocation and the acceptance of peer devices (R315 to R317, R321): the checks in their order,
the first that fails giving the result of R337.
-/

namespace Sys2Proof.Machine

/-- The entries of the revocation list (R317, R339): type, then value. -/
def revoked? : Nat → List Byte → List (Nat × List Byte)
  | 0, _ => []
  | _ + 1, [] => []
  | _ + 1, [_] => []
  | f + 1, ty :: n :: rest => (ty.toNat, rest.take n.toNat) :: revoked? f (rest.drop n.toNat)

namespace State

/-- The revocation list in force. -/
def revocations (s : State) : List (Nat × List Byte) := revoked? 64 (s.bytes 0x311201)

/-- A certificate serial is revoked. -/
def serialRevoked (s : State) (serial : List Byte) : Bool := s.revocations.contains (0, serial)

/-- A device identity is revoked: 8 bytes, in the byte order of the dictionary (R5). -/
def identityRevoked (s : State) (id : Nat) : Bool := s.revocations.contains (1, le 8 id)

/-- The time validity is judged against (R316): NT, or the last-known time. -/
def trustTime (s : State) : Int := if s.ntValid then s.ntNow else s.int 0x310008

/-- The scope of a certificate or bundle covers this device (R315, R334). -/
def inScope (s : State) (e : Bool × Nat) : Bool :=
  if e.1 then decide ((e.2 : Int) = s.int 0x220001) else decide (e.2 = s.fuses.identity)

/-- The result of the checks of R315 on a chain; 0 accepts it. -/
def chainResult (s : State) (c : Chain) : Nat :=
  if c.wellFormed = false ∨ c.role = 0 ∨ 16 < c.scope.length then 0x0F
  else if s.claimed = false ∨ c.rootHash ≠ s.bytes 0x310002 ∨ 1 < c.intermediates then 0x02
  else if c.signaturesVerify = false then 0x01
  else if c.serials.any s.serialRevoked then 0x04
  else if s.trustTime < c.notBefore ∨ (c.notAfter : Int) < s.trustTime then 0x03
  else if c.scope = [] ∨ c.scope.any s.inScope then 0 else 0x06

/-- The peer owners of 0x3111. -/
def peerOwners (s : State) : List (List Byte) := (List.range 8).map (fun i => s.bytes (0x311101 + i))

/-- The result of the checks of R321 on a peer device's certificate; 0 accepts it. -/
def peerResult (s : State) (c : DeviceCert) : Nat :=
  if c.chainsToGwynrex = false then 0x02
  else if s.serialRevoked c.serial ∨ s.identityRevoked c.identity.toNat then 0x04
  else if s.claimed then
    if c.claimed ∧ (c.ownerHash = s.bytes 0x310002 ∨
      (s.peerOwners.contains c.ownerHash ∧ c.ownerHash ≠ List.replicate 32 0)) then 0 else 0x0D
  else if c.claimed then 0x0D else 0

/-- The staging copy returns to the applied configuration, and the holder is released (R353). -/
def discardStaging (s : State) : State :=
  { s with dict := { s.dict with staging := [], holder := none }, trust := { s.trust with bundleSeq := none } }

/-- A client session ends (R320): its staging copy is discarded and the discard counted (R353), except while a commit of
it runs, whose frozen copy stands until the commit ends. -/
def endSession (s : State) (n : Nat) : State :=
  match Tab.find? s.trust.sessions n with
  | none => s
  | some x =>
    let s := { s with trust := { s.trust with sessions := Tab.erase s.trust.sessions n } }
    match s.dict.holder with
    | some h =>
      if h.path = x.path ∧ h.session.map (·.val) = some n then
        if s.committing then { s with dict := { s.dict with holder := none } } else s.discardStaging.bump 0x201009
      else s
    | none => s

/-- Every session of a path ends (R318, R320). -/
def endPath (s : State) (p : Path) : State :=
  s.trust.sessions.foldl (fun s e => if e.2.path = p then s.endSession e.1 else s) s

/-- A node session with a device, or with a unit of a pair named by its pair identity, is open (R282, R322). -/
def nodeOpen (s : State) (id : Nat) : Bool :=
  s.trust.nodes.any (fun x => x.established && (decide (x.peer = id) ||
    s.mu.roster.any (fun b => decide (b.pairId.toNat = id ∧ b.identity.toNat = x.peer))))

end State

end Sys2Proof.Machine
end

