-- ==== Sys2Proof/Machine/Wire.lean ====
section
/-!
DEFINITION. The bytes of frames (R37, R158 to R160, R182): addresses, SecTAG, AVTP header, Limiwyn header, and the
payloads that are laid out byte by byte. A frame is given from its destination address to the end of its payload, before
encryption; ICV and FCS follow it on the wire (log 75).
-/

namespace Sys2Proof.Machine

/-- The destination address of a channel (R158). -/
def channelAddress (b : Bool) : List Byte := [0x03, 0x1A, 0x2F, 0, 0, if b then 0x0B else 0x0A]

/-- The source address of a device identity (R158). -/
def deviceAddress (identity : Nat) : List Byte := 0x02 :: be 5 (identity % 2 ^ 40)

/-- A two's complement number of n bytes, most significant first. -/
def beInt (n : Nat) (v : Int) : List Byte := be n (v % (2 ^ (8 * n) : Nat)).toNat

/-- A TIME80 as frames carry it (R199): nanoseconds, then the fraction; `t` in 1/65536 ns. -/
def beTime (t : Int) : List Byte := beInt 10 t

/-- The SecTAG of R158 (IEEE 802.1AE-2018, with SCI; R326): association number and packet number. -/
def secTag (an pn : Nat) (source : List Byte) : List Byte :=
  [0x88, 0xE5, BitVec.ofNat 8 (0x2C + an % 4), 0] ++ be 4 (pn % 2 ^ 32) ++ source ++ [0, 1]

/-- The AVTP header (R159); the subtype is VSF_STREAM of IEEE 1722 (log 75). -/
def avtpHeader (sequence streamId : Nat) (stamp : Int) (payload : Nat) : List Byte :=
  [0x6F, 0x81, BitVec.ofNat 8 sequence, 0] ++ be 8 streamId ++ beInt 4 stamp ++ be 6 0x48D3A6000000 ++ be 2 (16 + payload)

/-- The Limiwyn header (R160). -/
def limiwynHeader (h : Header) : List Byte :=
  [BitVec.ofNat 8 (h.major.toNat * 16 + h.minor.toNat),
   BitVec.ofNat 8 (h.ptype.toNat * 16 + (if h.channel = .b then 8 else 0) + (if h.dir = .leadward then 4 else 0) +
     (if h.openWater then 2 else 0) + (if h.passive then 1 else 0)),
   BitVec.ofNat 8 h.berth, BitVec.ofNat 8 (h.mode.val * 16)] ++ be 4 h.flight.toNat ++
  [BitVec.ofNat 8 h.passage.val, BitVec.ofNat 8 h.slotIndex] ++ be 2 h.length ++ be 4 h.hash.toNat

/-- A frame of a coupler link (R158); `tag` is its SecTAG, empty on a link without a key (R219). -/
def couplerFrame (h : Header) (identity sequence : Nat) (stamp : Int) (tag payload : List Byte) : List Byte :=
  channelAddress (decide (h.channel = .b)) ++ deviceAddress identity ++ tag ++ [0x22, 0xF0] ++
    avtpHeader sequence identity stamp payload.length ++ limiwynHeader h ++ payload

/-- A frame of a star port (R158): the endpoint's address, no SecTAG. -/
def starFrame (destination : List Byte) (h : Header) (identity streamId sequence : Nat) (stamp : Int)
    (payload : List Byte) : List Byte :=
  destination ++ deviceAddress identity ++ [0x22, 0xF0] ++ avtpHeader sequence streamId stamp payload.length ++
    limiwynHeader h ++ payload

/-- The TRIGGER payload (R37). -/
def triggerPayload (streamId k : Nat) (mid : Int) (exposure : Nat) (changed : Bool) : List Byte :=
  be 8 streamId ++ be 4 (k % 2 ^ 32) ++ beTime mid ++ be 4 exposure ++ be 2 (if changed then 1 else 0) ++ be 4 0

/-- The SYNC payload (R182). -/
def syncPayload (order : Nat) (inSync cold : Bool) (correction : Int) (hops : Nat) (egress : Int) : List Byte :=
  [BitVec.ofNat 8 order, BitVec.ofNat 8 ((if inSync then 128 else 0) + (if cold then 64 else 0)), 0, 0] ++
    beInt 4 correction ++ [BitVec.ofNat 8 hops, 0] ++ beTime egress ++ be 12 0

/-- Flag bits of a byte, the first in bit 7. -/
def flagByte (l : List Bool) : Byte :=
  BitVec.ofNat 8 ((List.range 8).foldl (fun n i => n + (if l.getD i false then 2 ^ (7 - i) else 0)) 0)

/-- The MAKE_UP payload (R217); `auth` is its authentication fragment, 128 bytes. -/
def makeUpPayload (m : MakeUp) (auth : List Byte) : List Byte :=
  [1, flagByte [m.integrated, m.joining, m.cab, m.syncCapable, m.paired, m.conflict]] ++ be 2 m.generation.toNat ++
  be 8 m.sender.toNat ++ be 8 m.partner.toNat ++ be 4 m.vehicle.toNat ++ be 2 m.set.toNat ++
  [BitVec.ofNat 8 m.position, BitVec.ofNat 8 m.rank, if m.aftPort then 1 else 0] ++ beInt 1 m.berth ++
  [flagByte [m.complete, m.agree, m.beyondLimit], BitVec.ofNat 8 m.positions, BitVec.ofNat 8 m.vehicles,
    BitVec.ofNat 8 m.sets, 0, 0] ++ be 4 m.sum.toNat ++ be 8 m.endIdentity.toNat ++
  [flagByte [m.endCab, m.endWasLead], BitVec.ofNat 8 m.endRank] ++ be 10 m.endCabTime ++ be 4 m.hash.toNat ++
  be 4 m.appFlight.toNat ++ [flagByte [m.appValid], 0, 0, 0] ++ be 8 m.timeLead.toNat ++
  [BitVec.ofNat 8 m.timeLeadRank, BitVec.ofNat 8 m.passageCode, BitVec.ofNat 8 m.mode.val, BitVec.ofNat 8 m.timeState] ++
  be 10 m.egressCt ++ be 4 m.flight.toNat ++ beInt 4 m.localDiff ++ [BitVec.ofNat 8 m.exchange, 0] ++ be 10 m.adoptAt ++
  beInt 10 m.adoptStep ++ [flagByte [m.adoptValid]] ++ beInt 3 m.asymmetry ++ auth

/-- The COLD_START payload (R221). -/
def coldStartPayload (f : ColdStart) : List Byte :=
  [BitVec.ofNat 8 f.rank, BitVec.ofNat 8 f.passage, 0, 0] ++ be 8 f.sender.toNat ++ be 10 f.egress ++
  [BitVec.ofNat 8 f.hops, 0] ++ be 4 f.pathDelay ++ be 4 0

/-- The CONSENT payload (R262). -/
def consentPayload (t : Consent) : List Byte :=
  [1, flagByte [t.agreed, t.override]] ++ be 2 t.token.toNat ++ be 8 t.vector.toNat ++ be 4 t.flight.toNat

/-- The STATUS payload (R161, R191, R229, R283). -/
def statusPayload (x : Status) : List Byte :=
  be 8 x.membership.toNat ++ be 4 x.hash.toNat ++ [BitVec.ofNat 8 (x.activeMode.val * 16 + x.proposedMode.val),
    flagByte [x.proposal, x.holds, x.makingUp, x.syncCapable]] ++ be 4 x.templateHash.toNat ++
  be 4 x.proposalFlight.toNat ++ be 2 x.progress ++ be 4 x.leadDelay ++ be 4 x.rearDelay ++ be 8 x.identity.toNat ++
  [BitVec.ofNat 8 x.timeState, BitVec.ofNat 8 x.valuesUsed] ++ beInt 2 x.lastCorrection ++ be 4 x.rearLoop ++
  [BitVec.ofNat 8 x.muState, flagByte [x.foreComplete, x.aftComplete, x.agree, x.joining]] ++ be 2 x.muGeneration.toNat ++
  be 4 x.muFlight.toNat ++ [flagByte [x.paired, x.motor, x.unitB, x.xdisHeld], BitVec.ofNat 8 (x.pairState * 32),
    flagByte [x.leadHeardA, x.leadHeardB, x.rearHeardA, x.rearHeardB], BitVec.ofNat 8 x.resync] ++ be 4 x.partner.toNat

/-- A payload of open water or a group slot has at least 64 bytes (R157, R358, R422, R455). -/
def padded (l : List Byte) : List Byte := l ++ List.replicate (64 - l.length) 0

/-- Bytes padded with zeros to a multiple of 4. -/
def padded4 (l : List Byte) : List Byte := l ++ List.replicate ((4 - l.length % 4) % 4) 0

/-- The code of a LOCK message type (R423). -/
def lockCode : LockType → Nat
  | .write => 1 | .read => 2 | .readData => 3 | .ack => 4 | .report => 5 | .retry => 6 | .declare => 7
  | .summaryPoll => 8 | .summary => 9

/-- A LOCK message (R422): its header, and its data or the tags it names, padded to 4 bytes. -/
def lockMessage (kind : LockType) (dest berth : Nat) (m : LockMsg) : List Byte :=
  [BitVec.ofNat 8 (lockCode kind), flagByte [m.prefetch, m.readSensitive]] ++ be 2 m.length ++ be 2 m.tag ++
  [BitVec.ofNat 8 berth, BitVec.ofNat 8 m.cause] ++ be 4 (m.offset % 2 ^ 20) ++
  be 4 (if berth = 0 then 0 else dest % 2 ^ 32) ++ padded4 (m.data ++ m.tags.flatMap (be 2))

/-- One record of a CAN_TUNNEL payload (R455). -/
def recordOf (r : TunnelRecord) : List Byte :=
  be 4 r.stamp.toNat ++ [flagByte [r.frame.fd, r.frame.brs, r.frame.esi, r.frame.ident.getLsbD 31, decide (2 ≤ r.port % 4),
    decide (r.port % 2 = 1)], BitVec.ofNat 8 r.frame.dlc.val, 0, 0] ++ be 4 (r.frame.ident.toNat % 2 ^ 29) ++
  padded4 r.frame.data

/-- The CAN_TUNNEL payload of some records (R455): none, the empty frame. -/
def tunnelPayload (l : List TunnelRecord) : List Byte :=
  if l = [] then [] else padded ([1, BitVec.ofNat 8 l.length, 0, 0] ++ l.flatMap recordOf)

/-- The bytes of a slice header (R92); `tagged` for the authenticated data, with bytes 22 and 23 zero (R94). -/
def headerBytes (h : SliceHeader) (tagged : Bool) : List Byte :=
  [BitVec.ofNat 8 (h.version.toNat * 16 + h.heightCode.toNat * 4 + h.slicesPerLine.toNat),
   BitVec.ofNat 8 ((if h.damaged then 128 else 0) + (if h.checkFailed then 64 else 0) + h.reserved.toNat),
   BitVec.ofNat 8 h.bitsPerPixel, h.epoch] ++ be 8 h.source.toNat ++ be 2 h.stream ++
  [BitVec.ofNat 8 h.instanceNo, h.reserved15] ++ be 4 h.frame.toNat ++ [BitVec.ofNat 8 h.index, BitVec.ofNat 8 h.perFrame] ++
  (if tagged then [0, 0] else [BitVec.ofNat 8 h.fragment, BitVec.ofNat 8 h.fragments]) ++
  be 4 h.exposure.toNat ++ be 4 h.encode.toNat

/-- The initialisation vector of a slice's tag (R94). -/
def sliceIv (h : SliceHeader) : List Byte :=
  be 2 h.stream ++ [BitVec.ofNat 8 h.instanceNo, h.epoch] ++ be 4 h.frame.toNat ++ [BitVec.ofNat 8 h.index, 0, 0, 0]

/-- The 16-byte tag of a slice under a key (R94). -/
def sliceTag (key : Nat) (h : SliceHeader) (data : List Byte) : List Byte :=
  (List.range 16).map (Config.tagByte (Config.streamKey key) (sliceIv h) (headerBytes h true ++ data))

/-- What fragment n of a slice carries behind its header (R93), in payloads of a size: the data in order, and the tag
after the data of the last fragment. -/
def fragmentOf (data tag : List Byte) (fragments size n : Nat) : List Byte :=
  slice data (n * (size - 32)) (size - 32) ++ (if n + 1 = fragments then tag else [])

end Sys2Proof.Machine
end

