-- ==== Sys2Proof/Machine/OpenWater.lean ====
section
/-!
DEFINITION. The sides and ports of a line (R11 to R14, R141, R168), own frames on a coupler port (R158 to R160), and the
open-water frames this device originates (R155, R156, R358, R359, R496).
-/

namespace Sys2Proof.Machine

/-- The byte time of a rate code in units of 0.1 ns, and the residence bound in ns (R145). -/
def byteTime (code : Nat) : Nat := if code = 3 then 8 else if code = 2 then 16 else if code = 1 then 32 else 80
def residence (code : Nat) : Nat := if code = 3 then 640 else if code = 2 then 1280 else if code = 1 then 2560 else 6400

/-- Wire time of a number of bytes in ticks of 3.2 ns, rounded up (R151). -/
def wireTicks (code bytes : Nat) : Nat := (bytes * byteTime code + 31) / 32

/-- The class of an open-water frame in the egress order: MGMT, LOCK, LOG_COLLECT (R155), and its payload type (R157). -/
def owClass : OwType → Nat | .mgmt => 0 | .lock => 1 | .logCollect => 2
def owPayload : OwType → Nat | .mgmt => 8 | .lock => 6 | .logCollect => 0xB

namespace State

/-! ### Sides and ports -/

/-- Channels the device drives (R13): an unpaired device both; unit A of a pair channel A, unit B channel B. -/
def drives (s : State) (c : Chan) : Bool :=
  if s.pairing then !s.silenced && (match c with | .a => s.unitA | .b => !s.unitA) else true

/-- The own berth: the working berth of an integrating device, else the applied one, 0 for none (R144, R222, R235). -/
def ownBerth (s : State) : Int := s.mu.working.getD (s.int 0x222002)

/-- The lead lies on the fore side (R14): position 1 FORWARD or position 2 REVERSED; before numbering, as the neighbour
integrated from shows (R222). -/
def leadFore (s : State) : Bool :=
  if s.int 0x222005 = 0 then !(decide (s.mu.neighbourSide = 2))
  else decide (s.int 0x222005 = 1) == decide (s.int 0x220003 = 1)

/-- The channel and the side of a coupler port (R168): 0 FA, 1 FB, 2 AA, 3 AB. -/
def portB (p : Nat) : Bool := decide (p % 2 = 1)
def portAft (p : Nat) : Bool := decide (2 ≤ p)
def chanOf (p : Nat) : Chan := if portB p then .b else .a

/-- The other coupler port of the same channel (R141). -/
def acrossPort (p : Nat) : Nat := (p + 2) % 4

/-- The port faces the lead end. -/
def leadward (s : State) (p : Nat) : Bool := portAft p != s.leadFore

/-- The number of a port's channel, 0 A and 1 B, and of its table for frames that arrive there, and that leave there. -/
def chanNo (p : Nat) : Nat := p % 2
def tableIn (s : State) (p : Nat) : Nat := chanNo p * 2 + (if s.leadward p then 0 else 1)
def tableOut (s : State) (p : Nat) : Nat := chanNo p * 2 + (if s.leadward p then 1 else 0)

/-- The egress port of a channel number in a direction (0 rearward). -/
def egressPort (s : State) (c d : Nat) : Nat := if (decide (d = 0)) == s.leadFore then c + 2 else c

/-- The MACsec key state of a port (0x3124 + p:01): 2 or 3 hold a key. -/
def keyState (s : State) (p : Nat) : Int := s.int (Od.key (0x3124 + p) 1)
def keyed (s : State) (p : Nat) : Bool := decide (2 ≤ s.keyState p)

/-- The link of a coupler port is UP or UP_LIMITED (R136). -/
def linkUpState (s : State) (p : Nat) : Bool := decide (2 ≤ s.int (Od.key (0x2410 + p) 4))

/-- The device is passive: for a making-up, or because its template is not the lead's (R162, R228, R235, R251). -/
def isPassive (s : State) : Bool := s.mu.passive || s.mu.mismatch

/-! ### Own frames on a coupler port (R158 to R160) -/

/-- A frame leaves a coupler port: counted, and counted in its association where the link is keyed (R136, R327). -/
def frameLeaves (s : State) (p : Nat) : State :=
  let s := s.bump (Od.key (0x2410 + p) 0xA)
  if s.keyed p then s.put (Od.key (0x3124 + p) 3) (s.int (Od.key (0x3124 + p) 3) + 1) else s

/-- A frame of a payload length leaves a port: counted, and the port is busy for its length. -/
def leaves (s : State) (out len : Nat) : State :=
  let s := s.frameLeaves out
  let ticks := wireTicks (s.nat (Od.key (0x2410 + out) 5)) (90 + len)
  s.setPl out { s.pl out with txUntil := s.clock.counter + ticks }

/-- The Limiwyn header of an own frame on a port (R160); outside a slot its slot index is 0 and its open-water bit set. -/
def headerOf (s : State) (p ptype : Nat) (slot : Option Nat) (len : Nat) : Header :=
  { ptype := BitVec.ofNat 4 ptype, channel := chanOf p,
    dir := if s.leadward p then .leadward else .rearward, openWater := slot.isNone,
    passive := !s.mu.integrated || s.isPassive,
    berth := if s.mu.applied then s.ownBerth.toNat else 0, mode := Fin.ofNat 16 (s.nat 0x240002),
    flight := BitVec.ofNat 32 s.flight, passage := Fin.ofNat 64 s.passage, slotIndex := slot.getD 0, length := len,
    hash := BitVec.ofNat 32 (s.nat 0x222001) }

/-- The SecTAG of the next frame of a port (R158, R326): none on a link without a key (R219). The packet number is the
frame's number in its association. -/
def nextTag (s : State) (p : Nat) : List Byte :=
  if s.keyed p then
    secTag (s.nat (Od.key (0x3124 + p) 2)) (s.nat (Od.key (0x3124 + p) 3) + 1) (deviceAddress s.fuses.identity)
  else []

/-- The sequence number of an own frame (R159), of its channel and payload type. -/
def sequenceOf (s : State) (p ptype : Nat) : Nat := Tab.get (α := Nat) 0 s.line.seqNos (chanNo p * 16 + ptype)

/-- The AVTP and Limiwyn frame of a header with a payload, as the next frame of a port (R158). -/
def frameOf (s : State) (p : Nat) (h : Header) (stamp : Int) (payload : List Byte) : List Byte :=
  couplerFrame h s.fuses.identity (s.sequenceOf p h.ptype.toNat) stamp (s.nextTag p) payload

/-- A head, LOCK or CAN_TUNNEL slot frame of this device is an action of class 2 (R288). -/
def slotAct (s : State) (h : Header) (payload : List Byte) : State :=
  if h.openWater ∨ h.ptype.toNat = 5 then s
  else s.act 2 ([BitVec.ofNat 8 h.ptype.toNat, BitVec.ofNat 8 h.slotIndex] ++ be 4 (crc32 payload))

/-- An own frame leaves a port (R158, R159): numbered for its channel and type. `stamp` is the CT of its egress instant,
or of its actual start outside a slot, in 1/65536 ns. -/
def sendFrame (s : State) (p : Nat) (h : Header) (stamp : Int) (payload : List Byte) : State :=
  let n := s.sequenceOf p h.ptype.toNat
  let frame := s.frameOf p h (stamp / 65536) payload
  let t := (s.slotAct h payload).leaves p payload.length
  ({ t with line := { t.line with
      seqNos := Tab.set (α := Nat) 0 t.line.seqNos (chanNo p * 16 + h.ptype.toNat) ((n + 1) % 256) } } : State).emit
    (.own p h s.fuses.identity n (stamp / 65536 % 2 ^ 32) frame)

/-! ### Open water (R155, R156) -/

/-- Bytes of open-water frames held at an egress: each frame is 90 bytes longer than its payload (R158). -/
def owHeld (s : State) (p : Nat) : Nat := ((s.pl p).owQueue.map (fun x => x.bytes + 90)).sum

/-- A frame queued at an egress, in its class; dropped whole where the buffer is full (R156). -/
def owQueueUp (s : State) (p : Nat) (x : OwItem) : State :=
  if 262144 < s.owHeld p + (x.bytes + 90) then s.bump 0x24000B
  else
    let q := (s.pl p).owQueue
    let before := q.takeWhile (fun y => decide (owClass y.otype ≤ owClass x.otype))
    s.setPl p { s.pl p with owQueue := before ++ [x] ++ q.drop before.length }

/-- The own berth number of a destination, as 0x2230 gives it. -/
def berthOf (s : State) (dest : Nat) : Option Nat :=
  ((List.range 64).find? (fun i => decide (dest ≠ 0 ∧ field (s.bytes 0x223001) (8 * i) 8 = dest))).map (· + 1)

/-- The coupler ports an own message to a destination leaves by (R359): on every channel driven, toward its berth, or in
both directions where it is not found. -/
def portsToward (s : State) (dest : Nat) : List Nat :=
  ([Chan.a, Chan.b].filter s.drives).flatMap (fun c =>
    let n := match c with | .a => 0 | .b => 1
    (match s.berthOf dest with
      | some b => if s.ownBerth < b then [s.egressPort n 0] else [s.egressPort n 1]
      | none => [s.egressPort n 0, s.egressPort n 1]).filter s.linkUpState)

/-- An own payload queued toward a destination. -/
def owSendTo (s : State) (dest : Nat) (t : OwType) (payload : List Byte) : State :=
  (s.portsToward dest).foldl (fun s p =>
    s.owQueueUp p { otype := t, bytes := payload.length, own := some payload }) s

/-! ### Node-session messages in open water (R320, R322, R358, R496) -/

/-- The device at the other end of an open node session that a destination names: itself, or a unit of that pair. -/
def peerOf (s : State) (dest : Nat) : Option NodeSession :=
  s.trust.nodes.find? (fun x => x.established && (decide (x.peer = dest) ||
    s.mu.roster.any (fun b => decide (b.pairId.toNat = dest ∧ b.identity.toNat = x.peer))))

/-- A node-session message (R320): type, session, sequence, then cipher text and tag over the text. -/
def sealed (x : NodeSession) (type : Nat) (text : List Byte) : List Byte :=
  [BitVec.ofNat 8 type, Config.sessionNumber x.peer] ++ be 8 (x.seqOut + 1) ++
    (List.range (text.length + 16)).map (Config.sealedByte x.peer (x.seqOut + 1) text)

/-- The next message of a node session has been sent. -/
def tookSequence (s : State) (x : NodeSession) : State :=
  { s with trust := { s.trust with nodes := s.trust.nodes.map (fun y => if y.peer = x.peer then { y with seqOut := y.seqOut + 1 } else y) } }

/-- One chunk of an MGMT message (R358). -/
def mgmtPayload (kind dest origin number : Nat) (message : List Byte) (i : Nat) : List Byte :=
  let chunk := slice message (9184 * i) 9184
  padded ([1, BitVec.ofNat 8 kind] ++ be 8 dest ++ be 8 origin ++ be 4 number ++ be 4 message.length ++
    be 4 (9184 * i) ++ be 2 chunk.length ++ chunk)

/-- A whole message goes out in MGMT frames (R358, R359), under the next message number. -/
def sendChunks (s : State) (kind dest : Nat) (message : List Byte) : State :=
  let n := s.dict.mgmtNext
  let t := (List.range ((message.length + 9183) / 9184)).foldl (fun s i =>
    s.owSendTo dest .mgmt (mgmtPayload kind dest s.fuses.identity n message i)) s
  { t with dict := { t.dict with mgmtNext := (n + 1) % 2 ^ 32 } }

/-- A node-session message to a device (R322): nothing goes to one without an open node session. -/
def sendNode (s : State) (dest type : Nat) (text : List Byte) : State :=
  match s.peerOf dest with
  | none => s
  | some x => (s.sendChunks 1 dest (sealed x type text)).tookSequence x

/-- The text of a write of an entry in a session message (R320). -/
def writeText (index sub : Nat) (data : List Byte) : List Byte :=
  [2] ++ be 2 index ++ [BitVec.ofNat 8 sub] ++ data

/-- A management write of this device to another, or to every device it holds a node session with (destination 0). -/
def sendMgmt (s : State) (dest index sub : Nat) (data : List Byte) : State :=
  let peers := if dest = 0 then (s.trust.nodes.filter (·.established)).map (·.peer) else [dest]
  peers.foldl (fun s d => s.sendNode d 4 (writeText index sub data)) (s.emit (.mgmt dest index sub data))

/-- A message of the video or key service, whose text the spec does not lay out: a free value. -/
def sendFree (s : State) (dest : Nat) : State :=
  (s.sendNode dest 4 (Config.freeBytes s.free (s.freeNat % 9000))).tookFree

/-- The payload of a LOG_COLLECT frame (R496): kind, destination, origin, number, offset, chunk length, message. -/
def collectPayload (kind dest origin number offset chunk : Nat) (message : List Byte) : List Byte :=
  padded ([1, BitVec.ofNat 8 kind] ++ be 8 dest ++ be 8 origin ++ be 4 number ++ be 4 offset ++ be 2 chunk ++ message)

/-- A LOG_COLLECT frame of this device (R496): its message is a node-session message that carries the text. -/
def sendCollect (s : State) (kind dest number offset chunk : Nat) (text : List Byte) : State :=
  let s := s.emit (.log kind dest number chunk)
  match s.peerOf dest with
  | none => s
  | some x => (s.owSendTo dest .logCollect
      (collectPayload kind dest s.fuses.identity number offset chunk (sealed x (if kind = 1 ∨ kind = 5 then 4 else 5) text))).tookSequence x

end State

end Sys2Proof.Machine
end

