-- ==== Sys2Proof/Machine/Logbook.lean ====
section
/-!
DEFINITION. The logbook (spec/19_logbook.md): writing the queue's head, histograms, clearing and collection.
-/

namespace Sys2Proof.Machine

/-- The 32 bytes of a record (R486). -/
def Record.image (r : Record) : List Byte :=
  State.le 1 r.cls ++ State.le 1 (if r.ctInvalid then 1 else 0) ++ State.le 2 r.repeats ++ State.le 4 r.opSec ++
  State.le 4 r.cycles ++ State.le 4 r.stamp ++ State.le 2 r.code ++ State.le 2 0 ++ State.le 4 r.last ++
  State.le 1 r.detail ++ State.le 1 r.inst ++ State.le 6 r.value

/-- The 40 bytes of a clear-history entry (R495). -/
def ClearEntry.image (c : ClearEntry) : List Byte :=
  State.le 1 c.number ++ State.le 3 0 ++ State.le 8 c.mask ++ State.le 4 c.opSec ++ State.le 4 c.cycles ++
  (c.serial.take 20 ++ List.replicate (20 - c.serial.length) 0)

namespace Logbook

/-- The permanent and circular records of a class, and the sizes in force (R489). -/
def permOf (l : Logbook) (e : Nat) : List Record := Tab.get [] l.perm e
def circOf (l : Logbook) (e : Nat) : List Record := Tab.get [] l.circ e
def permCap (l : Logbook) (e : Nat) : Nat := Tab.get 32 l.permSize e
def circCap (l : Logbook) (e : Nat) : Nat := Tab.get 128 l.circSize e

/-- The newest record of a class stands in its permanent area. -/
def newestIsPerm (l : Logbook) (e : Nat) : Bool :=
  decide (l.circOf e = []) || decide (Tab.get (α := Nat) 0 l.newestPerm e = 1)

/-- The newest record of a class. -/
def newest (l : Logbook) (e : Nat) : Option Record :=
  if l.newestIsPerm e then (l.permOf e).getLast? else (l.circOf e).getLast?

/-- The newest record of a class replaced. -/
def setNewest (l : Logbook) (e : Nat) (r : Record) : Logbook :=
  if l.newestIsPerm e then { l with perm := Tab.set [] l.perm e ((l.permOf e).dropLast ++ [r]) }
  else { l with circ := Tab.set [] l.circ e ((l.circOf e).dropLast ++ [r]) }

/-- A new record: to the permanent area until it is full, then to the circular area, in place of its oldest record once
that is full (R489). An area of no slots holds nothing. -/
def add (l : Logbook) (e : Nat) (r : Record) : Logbook :=
  if (l.permOf e).length < l.permCap e then
    { l with perm := Tab.set [] l.perm e (l.permOf e ++ [r]), newestPerm := Tab.set (α := Nat) 0 l.newestPerm e 1 }
  else if l.circCap e = 0 then l
  else
    let c := l.circOf e
    { l with circ := Tab.set [] l.circ e (c.drop (c.length + 1 - l.circCap e) ++ [r])
             newestPerm := Tab.set (α := Nat) 0 l.newestPerm e 0 }

/-- The records of all classes. -/
def held (l : Logbook) : Nat := (List.range 64).foldl (fun n e => n + (l.permOf e).length + (l.circOf e).length) 0

end Logbook

namespace State

/-- The generation is odd while something changes and even again after it: a whole change adds 2 (R493). -/
def logChanged (s : State) : State := s.put 0x350001 ((s.int 0x350001 + 2) % 2 ^ 32)

/-- A report merges into the newest record of its class at writing (R490). -/
def mergesAtWriting (s : State) (r a : Record) : Bool :=
  a.sameKey r && decide (a.code ≠ 0x0103) && decide (r.opSec < a.opSec + s.nat (Od.key (0x3510 + r.cls) 3))

/-- A record put into its class's areas: an action of class 6 (R288). -/
def writeRecord (s : State) (r : Record) : State :=
  let s := s.act 6 r.image
  match s.log.newest r.cls with
  | some a =>
    if s.mergesAtWriting r a then
      { (s.bump 0x350104).logChanged with log := s.log.setNewest r.cls (a.merge r) }
    else { (s.bump 0x350006).logChanged with log := s.log.add r.cls r }
  | none => { (s.bump 0x350006).logChanged with log := s.log.add r.cls r }

/-- The report at the head of the queue is written (R487 to R490), while stores start (R268, step 3). -/
def reportWrite (s : State) : State :=
  if s.storesRun = false then s else
  match s.log.queue with
  | [] => s
  | r :: q => ({ s with log := { s.log with queue := q } } : State).writeRecord r

/-- The bin of a sample (R491). -/
def histBin (a w v : Int) : Nat := if v < a then 0 else if a + 30 * w ≤ v then 31 else (1 + (v - a) / w).toNat

/-- A sample of histogram h (R491, R492): its count in SRAM, and its extremes. -/
def histSample (s : State) (h : Nat) (v : Int) : State :=
  let bin := histBin (s.int (Od.key (0x35D0 + h) 2)) (s.int (Od.key (0x35D0 + h) 3)) v
  let s := { s with log := { s.log with counts := Tab.mod 0 s.log.counts (32 * h + bin) (· + 1) } }
  let b := Od.key (0x35E8 + h) 0
  let s := if v < s.int (b + 1) then
      (((s.put (b + 1) v).put (b + 2) (s.int 0x200101)).put (b + 3) (s.int 0x200102)).logChanged else s
  if s.int (b + 4) < v then
    (((s.put (b + 4) v).put (b + 5) (s.int 0x200101)).put (b + 6) (s.int 0x200102)).logChanged else s

/-- One counter of a bin domain raised, saturating (R491). -/
def addBin (bins : List Byte) (bin n : Nat) : List Byte :=
  bins.take (4 * bin) ++ le 4 (min (field bins (4 * bin) 4 + n) 0xFFFFFFFF : Nat) ++ bins.drop (4 * bin + 4)

/-- The counts collected in SRAM go to MRAM (R492), while stores start (R268, step 3). -/
def histStore (s : State) : State :=
  if s.log.counts = [] ∨ s.storesRun = false then s
  else
    let s' := s.log.counts.foldl (fun s e =>
      let k := Od.key (0x35D0 + e.1 / 32) 1
      s.putBytes k (addBin (s.bytes k) (e.1 % 32) e.2)) s
    ({ s' with log := { s'.log with counts := [] } } : State).logChanged.storeStored

/-- Steps 2 to 4 of an accepted clear (R495). -/
def clearApply (s : State) (c : ClearEntry) : State :=
  let classes := (List.range 64).filter (fun e => c.mask.testBit e)
  let s := classes.foldl (fun s e => s.put (Od.key (0x3510 + e) 5) 0) s
  let s := { s with log := { s.log with circ := s.log.circ.filter (fun p => !c.mask.testBit p.1), counts := [] } }
  let s := (List.range 24).foldl (fun s h =>
    let b := Od.key (0x35E8 + h) 0
    ((((((s.putBytes (Od.key (0x35D0 + h) 1) (List.replicate 128 0)).put (b + 1) 2147483647).put (b + 2) 0).put (b + 3)
      0).put (b + 4) (-2147483648)).put (b + 5) 0).put (b + 6) 0) s
  let s := s.writeRecord (s.mkReport 0 0x0103 0 c.number 0)
  s.storeStored

/-- The result of the checks of a clear token (R494), in their order; 0 accepts it. -/
def clearResult (s : State) (t : ClearTokenObj) : Nat :=
  if t.wellFormed = false then 0x0F
  else if t.identity.toNat ≠ s.fuses.identity then 0x06
  else if s.chainResult t.chain ≠ 0 then s.chainResult t.chain
  else if t.chain.role < 3 then 0x05
  else if t.signatureOk = false then 0x01
  else if (t.number : Int) ≠ s.int 0x350202 + 1 then 0x0A
  else if 16 ≤ s.log.history.length then 0x10 else 0

/-- A clear token is written (R494, R495). -/
def clearToken (s : State) (t : ClearTokenObj) : State × Nat :=
  if s.claimed = false then (s, 0x45)
  else
    let r := s.clearResult t
    if r ≠ 0 then
      let s := (s.put 0x350203 r).report 0 0x0104 r 0 0
      (s, if r = 0x10 then 0x09 else 0x40 + r)
    else
      let c : ClearEntry := { number := t.number, mask := t.mask.toNat, opSec := s.nat 0x200101,
                              cycles := s.nat 0x200102, serial := t.chain.serials.headD [] }
      let s := { s with log := { s.log with history := s.log.history ++ [c] } }
      (((s.put 0x350202 t.number).put 0x350203 0).logChanged.clearApply c, 0)

/-- The collected image of R497: parts bit 0 permanent, 1 circular, 2 histograms and extremes, 3 clear history. -/
def collectImage (s : State) (mask parts : Nat) : List Byte :=
  let classes := (List.range 64).filter (fun e => mask.testBit e)
  let perm (e : Nat) : List Record := if parts.testBit 0 then s.log.permOf e else []
  let circ (e : Nat) : List Record := if parts.testBit 1 then s.log.circOf e else []
  le 8 s.fuses.identity ++ le 4 (s.int 0x350001) ++ le 4 (s.int 0x200101) ++ le 4 (s.int 0x200102) ++ le 1 parts ++
    le 11 0 ++
  classes.flatMap (fun (e : Nat) =>
    le 1 e ++ le 1 0 ++ le 2 (perm e).length ++ le 2 (circ e).length ++ le 4 (s.int (Od.key (0x3510 + e) 5)) ++ le 2 0 ++
    (perm e).flatMap Record.image ++ (circ e).flatMap Record.image) ++
  (if parts.testBit 2 then (List.range 24).flatMap (fun (h : Nat) =>
    let b := Od.key (0x35E8 + h) 0
    s.bytes (Od.key (0x35D0 + h) 1) ++ (List.range 6).flatMap (fun (i : Nat) => le 4 (s.int (b + 1 + i)))) else []) ++
  (if parts.testBit 3 then s.log.history.flatMap ClearEntry.image else [])

/-- A collection starts at the collector (R496). -/
def startCollection (s : State) : State × Nat :=
  if s.opRunning 5 then (s, 0x0C)
  else
    let n := s.log.collections + 1
    let s := s.opStart 5 0
    let s := { s with log := { s.log with collecting := some n, collected := [], collections := n } }
    (s.sendCollect 1 (s.nat 0x350301) n 0 0 (be 8 (s.nat 0x350302) ++ be 4 (s.nat 0x350303)), 0)

/-- A target gets a collection request from a member (R497); further copies of it are dropped (R359). -/
def collectRequest (s : State) (origin number mask parts : Nat) : State :=
  if s.nodeOpen origin then
    if s.log.served.any (fun x => decide (x.collector = origin ∧ x.number = number)) then s
    else if 4 ≤ s.log.served.length then (s.bump 0x350308).sendCollect 4 origin number 0 0 []
    else
      let x : Served := { collector := origin, number := number, image := s.collectImage mask parts }
      { s.bump 0x350307 with log := { s.log with served := s.log.served ++ [x] } }
  else s

/-- A collection request arrives (R496, R497): served by the device it names, the pair's by its motor, to which the butty
passes its copy (R359). -/
def collectArrives (s : State) (dest origin number mask parts : Nat) : State :=
  if dest = s.fuses.identity ∨ (dest = s.sliceSource ∧ s.isButty = false) then s.collectRequest origin number mask parts
  else if s.isButty ∧ dest = s.sliceSource then s.toPartner (.collect origin number mask parts)
  else s

/-- One chunk of each collection served, and the end once the image is out (R497): at every passage. -/
def collectServe (s : State) : State :=
  let sent := s.log.served.foldl (fun s x =>
    if x.offset < x.image.length then
      s.sendCollect 2 x.collector x.number x.offset (min 9152 (x.image.length - x.offset)) (slice x.image x.offset 9152)
    else s.sendCollect 3 x.collector x.number x.offset 0 []) s
  let next := (s.log.served.filter (fun x => decide (x.offset < x.image.length))).map
    (fun x => { x with offset := min (x.offset + 9152) x.image.length })
  { sent with log := { sent.log with served := next } }

/-- The records that stand whole in a collected image, for the class mask asked for. -/
def imageRecords (classes : List Nat) (l : List Byte) : Nat :=
  match classes with
  | [] => 0
  | _ :: t =>
    let n := field l 2 2 + field l 4 2
    if l.length < 12 then 0
    else if l.length < 12 + 32 * n then (l.length - 12) / 32
    else n + imageRecords t (l.drop (12 + 32 * n))

/-- A chunk reaches the collector (R497). -/
def collectData (s : State) (number offset : Nat) (data : List Byte) : State :=
  if s.log.collecting = some number ∧ offset = s.log.collected.length then
    let img := s.log.collected ++ data
    let s := { s with log := { s.log with collected := img } }
    let s := if 32 ≤ img.length then s.put 0x350306 (field img 8 4) else s
    let classes := (List.range 64).filter (fun e => (s.nat 0x350302).testBit e)
    s.opProgress 5 0 (imageRecords classes (img.drop 32)) 0
  else s

/-- The collection ends (R364, R497): done with its image, failed, or cancelled. -/
def collectEnd (s : State) (state result : Nat) : State :=
  let s := if state = 2 then
      let n := s.int (Od.key 0x3F05 3)
      (s.putBytes 0x350305 s.log.collected).opProgress 5 10000 n n else s
  let s := s.opEnd 5 state result
  { s with log := { s.log with collecting := none, collected := [] } }

end State

/-! ### The commands -/

/-- REPORT_WRITE. -/
def execReportWrite (s : State) : Res := .next (s.served (·.reportWrite))

/-- CLEAR_TOKEN. -/
def execClearToken (w : Writer) (t : ClearTokenObj) (s : State) : Res := 
  .next (s.served fun s => (s.clearToken t).1.respond w (s.clearToken t).2 [])

/-- START_COLLECTION. -/
def execStartCollection (w : Writer) (v : Byte) (s : State) : Res :=
  .next (s.served fun s => s.accessAct w 0x350304 [v] (·.startCollection))

/-- LOG_COLLECT_REQUEST. -/
def execLogCollectRequest (route : CollectRoute) (number : BitVec 32) (mask : BitVec 64) (parts : BitVec 8)
    (s : State) : Res :=
  .next (s.served (·.collectArrives route.destination.toNat route.origin.toNat number.toNat mask.toNat parts.toNat))

/-- LOG_COLLECT_DATA. -/
def execLogCollectData (number offset : BitVec 32) (data : List Byte) (s : State) : Res :=
  .next (s.served (·.collectData number.toNat offset.toNat data))

/-- LOG_COLLECT_END. -/
def execLogCollectEnd (number : BitVec 32) (s : State) : Res :=
  .next (s.served fun s => if s.log.collecting = some number.toNat then s.collectEnd 2 0 else s)

/-- LOG_COLLECT_REFUSED: the run fails with the code the refusal carries. -/
def execLogCollectRefused (number : BitVec 32) (code : Byte) (s : State) : Res :=
  .next (s.served fun s => if s.log.collecting = some number.toNat then s.collectEnd 3 code.toNat else s)

/-- LOG_COLLECT_CANCEL. -/
def execLogCollectCancel (origin : BitVec 64) (number : BitVec 32) (s : State) : Res :=
  .next (s.served fun s => { s with log := { s.log with
    served := s.log.served.filter (fun x => !(decide (x.collector = origin.toNat) && decide (x.number = number.toNat))) } })

/-- COLLECTION_TIMEOUT: result 0x10 (R497). -/
def execCollectionTimeout (s : State) : Res :=
  .next (s.served fun s => if s.log.collecting.isSome then s.collectEnd 3 0x10 else s)

/-- HISTOGRAM_SAMPLE: the offset correction is sampled in SYNC and HOLDOVER alone (R491). -/
def execHistogramSample (h : Fin 24) (v : Int) (s : State) : Res :=
  .next (s.served fun s => if h = 21 ∧ s.int 0x260001 ≠ 2 ∧ s.int 0x260001 ≠ 3 then s else s.histSample h v)

/-- HISTOGRAM_STORE. -/
def execHistogramStore (s : State) : Res := .next (s.served (·.histStore))

end Sys2Proof.Machine
end

