-- ==== Sys2Proof/Machine/HostPort.lean ====
section
/-!
DEFINITION. The host port and the event gate (spec/15_host_port_event_gate.md): BAR0 writes, the mailbox handshake and
the gate's registers. The execution of a complete mailbox message stands in Machine/Messages.lean.
-/

namespace Sys2Proof.Machine

namespace State

/-- BAR0 is served: a host interface is selected and the device is ready (R397, R403). -/
def hostServed (s : State) : Bool := s.isReady && decide (s.power.hostSel.toNat ≤ 1)

/-- BAR0 answers: a host interface is selected, and the logic die runs. -/
def bar0Up (s : State) : Bool :=
  decide (s.power.hostSel.toNat ≤ 1) &&
  match s.power.phase with | .booting => true | .verified => true | .noImage => true | .ready => true | _ => false

/-- The mailbox answers: firmware runs, or no image verified and the enclave takes one over it (R331, R403). -/
def mailboxUp (s : State) : Bool :=
  (s.isReady || decide (s.power.phase = .noImage)) && decide (s.power.hostSel.toNat ≤ 1)

/-- An access ignored under R399 or R401: HP_ERR and 0x3600:03. -/
def hostIgnored (s : State) : State :=
  { s.bump 0x360003 with host := { s.host with err := min (s.host.err + 1) 0xFFFF } }

/-- A register of BAR0 answered to the host. -/
def hostAnswer (s : State) (v : Nat) : State := s.emit (.response .host 0 (le 4 v))

/-- A claim of target t (R407, R410): the highest claimable source goes into service. -/
def egTake (s : State) (t : Nat) : State × Nat :=
  let src := if s.gate.asleep t then 0 else Gate.highest (s.gate.claimable t)
  if src = 0 then (s, 0)
  else
    let g := { s.gate with
      pend := s.gate.pend &&& ~~~ Gate.one src, inServ := s.gate.inServ ||| Gate.one src,
      server := Tab.set 0 s.gate.server src t }
    ((s.bump (0x360014 + t)).setGate g, src)

/-- EG_CLAIM of target t, answered to the host. -/
def egClaim (s : State) (t : Nat) : State := let p := s.egTake t; p.1.hostAnswer p.2

/-- Source 195 is pending while the lock's error FIFO holds an entry, unless it is in service (R432). -/
def lockLevel (s : State) : State :=
  if s.lock.errs = [] then s.setGate { s.gate with pend := s.gate.pend &&& ~~~ Gate.one 195 }
  else if Gate.has s.gate.inServ 195 then s
  else s.setGate { s.gate with pend := s.gate.pend ||| Gate.one 195 }

/-- A word of a bit array of the gate. -/
def egWord (x : BitVec 256) (word : Nat) : Nat := x.toNat / 2 ^ (32 * word) % 2 ^ 32

/-- EG_ROUTE as read. -/
def egRouteWord (g : Gate) (word : Nat) : Nat :=
  ((List.range 16).map (fun i => if 16 * word + i = 0 then 0 else g.routeOf (16 * word + i) * 4 ^ i)).sum

/-- EG_TSTAT of a target. -/
def egTstat (g : Gate) (t : Nat) : Nat :=
  let serving := ((List.range 256).filter (fun i => g.inServ.getLsbD i && decide (Tab.get 0 g.server i = t))).length
  (if g.line t then 1 else 0) + 2 * Gate.count (g.claimable t) + 512 * serving

/-- A whole part and the 16-bit fraction of a time in 1/65536 ns: LO, EPOCH, FRAC (R412). -/
def timeWord (v : Int) (i : Nat) : Nat :=
  let n := (v / 65536).toNat
  if i = 0 then n % 2 ^ 32 else if i = 1 then n / 2 ^ 32 % 2 ^ 32 else (v % 65536).toNat

/-- TM_STATE (R201): the time state, the NT state, the adoption count modulo 256, as they stand. -/
def tmState (s : State) : Nat := s.timeState.toNat + 16 * s.nat 0x261901 + 256 * (s.nat 0x260008 % 256)

/-- A read of the EG_ or TM_ block (R408, R412), with its side effect where it is EG_CLAIM. Bit 0 of word 0 names no source
and reads 0 (R6). -/
def gateRead (s : State) (o : Nat) : State × Nat :=
  let g := s.gate
  let c := s.clock
  let w := o % 0x20 / 4
  if o < 0x820 then (s, egWord g.pend w)
  else if 0x860 ≤ o ∧ o < 0x880 then (s, egWord (g.mask &&& ~~~ 1) w)
  else if 0x8C0 ≤ o ∧ o < 0x8E0 then (s, egWord g.ovr w)
  else if 0x920 ≤ o ∧ o < 0x940 then (s, egWord g.inServ w)
  else if 0x940 ≤ o ∧ o < 0x980 then (s, egRouteWord g ((o - 0x940) / 4))
  else if 0x980 ≤ o ∧ o < 0x9C0 then
    let t := (o - 0x980) / 16
    let r := o % 16 / 4
    if r = 0 then s.egTake t
    else if r = 2 then (s, g.tctrl t) else if r = 3 then (s, egTstat g t) else (s, 0)
  else if o = 0xA04 then (s, s.tmState)
  else if 0xA08 ≤ o ∧ o < 0xA14 then (s, timeWord c.snapCt ((o - 0xA08) / 4))
  else if 0xA14 ≤ o ∧ o < 0xA20 then (s, timeWord c.snapNt ((o - 0xA14) / 4))
  else if o = 0xA20 then (s, c.snapCounter % 2 ^ 32)
  else if o = 0xA24 then (s, c.snapCounter / 2 ^ 32 % 2 ^ 32)
  else (s, 0)

/-- EG_DONE of target t for a source (R407): ends its service where t serves it, else counts a stray DONE. An MSI-X
message is sent again where the claimable set stays non-empty. -/
def egDone (s : State) (t src : Nat) : State :=
  if Gate.has s.gate.inServ src ∧ Tab.get 0 s.gate.server src = t then
    let g := { s.gate with inServ := s.gate.inServ &&& ~~~ Gate.one src, server := Tab.erase s.gate.server src }
    let again := decide (s.gate.claimable t ≠ 0) && decide (g.claimable t ≠ 0)
    let s := (s.setGate g).msixOne t again
    if src = 195 then s.lockLevel else s
  else s.bump 0x360018

/-- The sources a word of a bit array names (R408): bit 0 of word 0 is reserved. -/
def egBits (word : Nat) (v : Word32) : BitVec 256 :=
  (BitVec.ofNat 256 (v.toNat * 2 ^ (32 * word))) &&& ~~~ 1#256

/-- EG_PEND_SET (R408, R410): pending, or overrun where the source is in service. -/
def egPendSet (s : State) (word : Nat) (v : Word32) : State :=
  let m := egBits word v
  let lost := m &&& s.gate.inServ
  let s := (List.range 32).foldl (fun s i =>
    if lost.getLsbD (32 * word + i) then s.bump (Od.key (0x3600 + (32 * word + i)) 4) else s) s
  s.setGate { s.gate with pend := s.gate.pend ||| (m &&& ~~~ s.gate.inServ), ovr := s.gate.ovr ||| lost }

/-- EG_PEND_CLR; a set by the lock's FIFO wins (R410, R432). -/
def egPendClr (s : State) (word : Nat) (v : Word32) : State :=
  (s.setGate { s.gate with pend := s.gate.pend &&& ~~~ egBits word v }).lockLevel

/-- The mask and the overrun arrays written. -/
def egMask (s : State) (word : Nat) (v : Word32) (on : Bool) : State :=
  s.setGate { s.gate with mask := if on then s.gate.mask ||| egBits word v else s.gate.mask &&& ~~~ egBits word v }
def egOvr (s : State) (word : Nat) (v : Word32) (on : Bool) : State :=
  s.setGate { s.gate with ovr := if on then s.gate.ovr ||| egBits word v else s.gate.ovr &&& ~~~ egBits word v }

/-- EG_TCTRL of a target (R409). -/
def egControl (s : State) (t : Nat) (v : Word32) : State :=
  s.setGate { s.gate with ctrl := Tab.set 0x30 s.gate.ctrl t (v.toNat % 64) }

/-- One word of EG_ROUTE (R408): two bits per source, source 0 reserved. -/
def egRoute (s : State) (word : Nat) (v : Word32) : State :=
  s.setGate ((List.range 16).foldl (fun g i =>
    if 16 * word + i = 0 then g else g.setRoute (16 * word + i) (v.toNat / 4 ^ i % 4)) s.gate)

/-- A full-DW write of a BAR0 register that has no command of its own (R402, R405, R408). -/
def bar0Write (s : State) (offset : Nat) (v : Word32) : State :=
  if offset = 0x018 then { s with host := { s.host with scratch := v.toNat } }
  else if offset = 0x020 then { s with host := { s.host with mbLen := v.toNat } }
  else if offset = 0x024 then { s with host := { s.host with mbOff := v.toNat } }
  else if 0x100 ≤ offset ∧ offset < 0x500 then
    if s.host.busy ∨ s.host.resp then s
    else { s with host := { s.host with buf := memWriteAll s.host.buf offset (le 4 v.toNat) } }
  else if 0x940 ≤ offset ∧ offset < 0x980 then s.egRoute ((offset - 0x940) / 4) v
  else s

/-- A handshake step refused (R406). -/
def mbRefuse (s : State) (status : Nat) : State :=
  ({ s.bump 0x360004 with host := { s.host with proto := true, status := status } } : State).raise 194 status 0 0

/-- HP_MB_RACK (R405, step 5): a released chunk is followed by the next, until the response is delivered. -/
def mbRack (s : State) (v : Word32) : State :=
  if v = 1 ∧ s.host.resp then
    let at_ := s.host.roff + s.host.rchk
    let s := { s with host := { s.host with resp := false, proto := false, status := 0 } }
    if at_ < s.host.response.length then s.mbDeliver at_
    else { s with host := { s.host with next := false, response := [] } }
  else s

/-- The message in progress abandoned (R406): one that executes completes, and its response is discarded. -/
def mbAbort (s : State) : State :=
  { s with host := { s.host with 
    next := false, resp := false, request := none, response := []
    exec := if s.host.exec = 0 then 0 else 2 } }

/-- A request idle for 10 s, or a response chunk not released within 10 s (R406). -/
def mbIdle (s : State) : State :=
  if s.host.resp then s.mbAbort.mbRefuse 0
  else if s.host.request.isSome then s.mbAbort.mbRefuse 0x0D else s

/-- The chunk of a GO taken (R405, steps 1 and 2), or the step refused (R406). The flag says the message is complete. -/
def mbChunk (s : State) (cmd : Word32) : State × Option MbRequest :=
  let n := cmd.toNat % 2 ^ 11
  let kind := cmd.toNat / 2 ^ 12 % 4
  let chunk := memReadAll s.host.buf 0x100 n
  let r := s.host.request.getD { length := s.host.mbLen, kind := kind, data := [] }
  if s.host.busy ∨ s.host.resp then (s.mbRefuse 0x0C, none)
  else if 4194368 < s.host.mbLen then (s.mbAbort.mbRefuse 0x0F, none)
  else if n = 0 ∨ 1024 < n ∨ r.length ≠ s.host.mbLen ∨ r.kind ≠ kind ∨ s.host.mbOff ≠ r.data.length ∨
      r.length < r.data.length + n ∨ 2 < kind then (s.mbAbort.mbRefuse 0x0D, none)
  else
    let r := { r with data := r.data ++ chunk }
    let s := { s with host := { s.host with next := true, proto := false, status := 0, request := some r } }
    let s := s.raise 192 0 0 0
    if r.data.length = r.length then
      ({ s with host := { s.host with request := none, busy := true, exec := 1 } }, some r)
    else (s, none)

/-- A function-level reset (R398, R406) of the PCIe endpoint: the PCIE island, the mailbox and the host sessions. -/
def flr (s : State) : State :=
  if s.bar0Up = false ∨ s.power.hostSel ≠ 0 then s else
  let s := s.mbAbort.endPath .host
  { s with host := { s.host with
             mbLen := 0, mbOff := 0, proto := false, status := 0, rlen := 0, roff := 0, rchk := 0, buf := [],
             msixEnabled := false },
           gate := { s.gate with vecMask := 0xF, vecPend := 0 } }

/-- The PCIe link changes (R398): source 200, or its AON latch before READY (R411). -/
def pcieLink (s : State) (up msix : Bool) : State :=
  if s.power.hostSel = 0 ∧ s.power.phase ≠ .off then
    let changed := decide (s.host.linkUp ≠ up)
    let s := { s with host := { s.host with linkUp := up, msixEnabled := msix } }
    if changed = false then s
    else if s.isReady then s.raise 200 (if up then 1 else 0) 0 0
    else { s with power := { s.power with latched := s.power.latched ||| Gate.one 200 } }
  else s

/-- Vector t unmasked in the MSI-X table (R407): the pending message is sent if the set is still non-empty. -/
def msixUnmask (s : State) (t : Nat) : State :=
  let bit := BitVec.ofNat 4 (2 ^ t)
  let due := s.gate.vecPend.getLsbD t && decide (s.gate.claimable t ≠ 0)
  let s := { s with gate := { s.gate with vecMask := s.gate.vecMask &&& ~~~ bit, vecPend := s.gate.vecPend &&& ~~~ bit } }
  s.msixOne t due

/-- A BAR0 command that acts only while BAR0 is served. -/
def atHost (s : State) (f : State → State) : Res := .next (if s.hostServed then f s else s)

/-- A command of the mailbox, which acts while it answers. -/
def atMailbox (s : State) (f : State → State) : Res := .next (if s.mailboxUp then f s else s)

/-- At READY the gate takes routes, masks and target controls from the dictionary (R408, R415, R416). -/
def gateReady (s : State) : State :=
  let g := (List.range 255).foldl (fun g i =>
    let src := i + 1
    let g := g.setRoute src (s.nat (Od.key (0x3600 + src) 1))
    if s.flag (Od.key (0x3600 + src) 2) then { g with mask := g.mask &&& ~~~ Gate.one src } else g) s.gate
  let g := { g with ctrl := (List.range 4).foldl (fun c t => Tab.set 0x30 c t (s.nat (0x360010 + t))) [] }
  s.setGate g

/-- A commit that changes 0x3600 + s:01 or :02 writes the route or the mask at its application (R410, R416). -/
def gateApply (s : State) (changed : Store) : State :=
  s.setGate (changed.foldl (fun g e =>
    let i := Od.indexOf e.1
    if 0x3601 ≤ i ∧ i ≤ 0x36FF then
      let src := i - 0x3600
      if Od.subOf e.1 = 1 then g.setRoute src (s.nat e.1)
      else if Od.subOf e.1 = 2 then
        { g with mask := if s.flag e.1 then g.mask &&& ~~~ Gate.one src else g.mask ||| Gate.one src }
      else g
    else g) s.gate)

end State

/-! ### The commands -/

/-- ABORT. -/
def execAbort (s : State) : Res := s.atMailbox (·.mbAbort)

/-- HP_MB_RACK. -/
def execHpMbRack (v : Word32) (s : State) : Res := s.atMailbox (·.mbRack v)

/-- MAILBOX_IDLE_TIMEOUT. -/
def execMailboxIdleTimeout (s : State) : Res := s.atMailbox (·.mbIdle)

/-- HP_ERR_CLEAR: only 0 may be written (R402). -/
def execHpErrClear (v : Word32) (s : State) : Res :=
  .next (if s.bar0Up ∧ v = 0 then { s with host := { s.host with err := 0 } } else s)

/-- FUNCTION_LEVEL_RESET. -/
def execFunctionLevelReset (s : State) : Res := .next s.flr

/-- PCIE_LINK_CHANGE. -/
def execPcieLinkChange (up msixEnabled : Bool) (s : State) : Res := .next (s.pcieLink up msixEnabled)

/-- MSIX_VECTOR_UNMASK. -/
def execMsixVectorUnmask (t : Fin 4) (s : State) : Res := s.atHost (·.msixUnmask t)

/-- EG_CLAIM. -/
def execEgClaim (t : Fin 4) (s : State) : Res := s.atHost (·.egClaim t)

/-- EG_DONE: bits [7:0] name the source. -/
def execEgDone (t : Fin 4) (v : Word32) (s : State) : Res := s.atHost (·.egDone t (v.toNat % 256))

/-- EG_PEND_SET. -/
def execEgPendSet (word : Fin 8) (v : Word32) (s : State) : Res := s.atHost (·.egPendSet word v)

/-- EG_PEND_CLR. -/
def execEgPendClr (word : Fin 8) (v : Word32) (s : State) : Res :=
  s.atHost (·.egPendClr word v)

/-- EG_MASK_SET. -/
def execEgMaskSet (word : Fin 8) (v : Word32) (s : State) : Res :=
  s.atHost (·.egMask word v true)

/-- EG_MASK_CLR. -/
def execEgMaskClr (word : Fin 8) (v : Word32) (s : State) : Res :=
  s.atHost (·.egMask word v false)

/-- EG_OVR_SET. -/
def execEgOvrSet (word : Fin 8) (v : Word32) (s : State) : Res :=
  s.atHost (·.egOvr word v true)

/-- EG_OVR_CLR. -/
def execEgOvrClr (word : Fin 8) (v : Word32) (s : State) : Res :=
  s.atHost (·.egOvr word v false)

/-- EG_TCTRL: bits [5:0] (R409). -/
def execEgTctrl (t : Fin 4) (v : Word32) (s : State) : Res :=
  s.atHost (·.egControl t v)

end Sys2Proof.Machine
end

