-- ==== Sys2Proof/Machine/Reset.lean ====
section
/-!
DEFINITION. Taking a reset (R506, R514) and the loading of the MRAM areas (R350, R351): ONE operation, shared by every
command that resets the logic die, and the release that records its cause.
-/

namespace Sys2Proof.Machine

/-- What the two areas give the dictionary (R351): the entries of the copy in force; none valid gives the defaults. -/
def Mram.load (m : Mram) : Store :=
  let a := (State.inForce m.config0 m.config1).elim [] (·.data)
  let b := (State.inForce m.stored0 m.stored1).elim [] (·.data)
  b.foldl (fun t e => Store.set t e.1 e.2) (a.foldl (fun t e => Store.set t e.1 e.2) [])

namespace State

/-- The sizes of the logbook's areas that a reset brings into force (R489), off their default. -/
def logSizes (t : State) (sub d : Nat) : Tab Nat :=
  (List.range 64).foldl (fun l e => Tab.set d l e (t.rawInt (Od.key (0x3510 + e) sub)).toNat) []

/-- The logic die in reset with a cause: every volatile entry and register at its default, the stored and staged entries
as MRAM holds them; fuses, MRAM, the claim windows, the wake latches and the field die are kept (R349, R514). -/
def logicReset (s : State) (cause : Nat) : State :=
  let od := s.mram.load
  let t : State := { fuses := s.fuses, od := od }
  { pending := s.pending, out := s.out, free := s.free, od := od, mram := s.mram, fuses := s.fuses,
    power := { s.power with
      phase := .reset, cause := cause, islands := s.power.islands &&& BitVec.ofNat 30 (1 + 2 ^ 29),
      refFault := false, pendingImage := false, lockstep := [], resetDue := none },
    log := {
      s.log with
      queue := [], counts := [], served := [], collecting := none, collected := []
      permSize := logSizes t 1 32, circSize := logSizes t 2 128
      circ := s.log.circ.map (fun p => (p.1, p.2.drop (p.2.length - Tab.get 128 (logSizes t 2 128) p.1))) },
    trust := {
      windowPin := s.trust.windowPin, windowRole := s.trust.windowRole, windowLive := s.trust.windowLive,
      cache := s.trust.cache, released := s.trust.released },
    canopen := { nodeId := (t.rawInt 0x330101).toNat },
    wake := s.wake,
    fio := { s.fio with link := false, preparing := false },
    pair := { roleIn := s.pair.roleIn, xdisIn := s.pair.xdisIn, failures := s.pair.failures },
    pairing := decide (t.rawInt 0x300001 ≠ 0),
    unitA := decide (t.rawInt 0x300002 = 1) }

/-- A reset of the logic die (R514). In a reset already, the lower code is recorded (R520); without supply, or moored,
there is no logic die to reset, but cause 1 stands. -/
def takeReset (s : State) (cause : Nat) : State :=
  match s.power.phase with
  | .off => s
  | .moored => s
  | .reset => { s with power := { s.power with cause := min s.power.cause cause } }
  | _ => s.logicReset cause

/-- A reset that a command asked for, taken once the command is answered (R313, R521). -/
def takeDue (s : State) : State :=
  match s.power.resetDue with
  | some c => ({ s with power := { s.power with resetDue := none } } : State).takeReset c
  | none => s

/-- A reset asked for by a command, with its status. -/
def resetAsked (s : State) (cause : Nat) : State × Nat := ({ s with power := { s.power with resetDue := some cause } }, 0)

/-- A reset ends: its cause is recorded and counted in the stored area, and the boot begins (R514, R516). -/
def releaseReset (s : State) : State :=
  let c := s.power.cause
  let s := (s.put 0x210201 c).bump (0x210201 + c)
  let s := if c = 1 ∨ c = 8 then s.bump 0x200102 else s
  { s.storeStored with power := { s.power with phase := .booting } }

end State

end Sys2Proof.Machine
end

