-- ==== Sys2Proof/Machine/Power.lean ====
section
/-!
DEFINITION. Power, supplies, resets, the reference clock and memory integrity (spec/20_power_clocks_reset.md), and the
temperature sensors (spec/21_electrical_life.md).
-/

namespace Sys2Proof.Machine

namespace State

/-- The claim window of the pin and the window start (R310): opened if CLAIM_EN is high. -/
def windowStart (s : State) (claimEn : Bool) : State :=
  { s with trust := { s.trust with windowPin := claimEn, windowRole := false, windowLive := true, roleJudged := false },
           power := { s.power with claimEn := claimEn } }

/-- POR release may come: a reset of cause 1 or 8 is in force, or a power-up waits for POR_N (R503, R506). -/
def porPending (s : State) : Bool :=
  (decide (s.power.phase = .reset) && decide (s.power.cause = 1 ∨ s.power.cause = 8)) ||
  (decide (s.power.phase = .moored) && s.power.powerUp)

/-- POR release (R503, R516 step 1): straps and claim window taken, power cycle counted, cause recorded; AVS_PWM is
held at 50 %, 800 mV (R505). -/
def porRelease (s : State) (hostSel : BitVec 2) (claimEn : Bool) : State :=
  if s.porPending then
    let c := if s.power.phase = .moored then 1 else s.power.cause
    let w := if s.power.phase = .moored ∧ s.power.inh = false then some (0, 0) else s.wake.accepted
    let s := { s with
      power := { s.power with cause := c, hostSel := hostSel, porN := true, inh := true, powerUp := false },
      wake := { s.wake with accepted := w } }
    (s.windowStart claimEn).releaseReset
  else s

/-- A logic-die reset of cause 2 to 7 or 9 ends (R514); for cause 7 after a release it is a window start (R310, R313). -/
def resetRelease (s : State) (claimEn : Bool) : State :=
  if s.power.phase = .reset ∧ s.power.cause ≠ 1 ∧ s.power.cause ≠ 8 then
    let s := if s.power.cause = 7 ∧ s.trust.released then s.windowStart claimEn else s
    { s.releaseReset with trust := { s.releaseReset.trust with released := false } }
  else s

/-- The slot state nibble of an image at 0x3140:09. -/
def imageState (s : State) (slot : Nat) : Nat := s.nat 0x314009 / 16 ^ (slot - 1) % 16
def setImageState (s : State) (slot v : Nat) : State :=
  let old := s.nat 0x314009
  s.put 0x314009 ((if slot = 1 then old / 16 * 16 + v else old % 16 + 16 * v : Nat) : Int)

/-- The enclave has verified an image (0 none), `micros` after POR release (R331, R332, R516 steps 2 and 3). A pending
slot that failed verification is marked failed. With the reference in fault the boot halts at step 1 (R520). -/
def bootImageVerified (s : State) (image : Nat) (micros : Nat) : State :=
  if s.power.phase = .booting ∧ s.power.refFault = false then
    if image = 1 ∨ image = 2 then
      let sel := if s.power.selectedImage = 0 then image else s.power.selectedImage
      let s := if sel ≠ image ∧ s.imageState sel = 2 then (s.setImageState sel 3).storeStored else s
      let s := ((s.put 0x314006 image).put 0x210301 image).put 0x210302 micros
      { s with power := { s.power with phase := .verified, pendingImage := decide (s.imageState image = 2) } }
    else { s with power := { s.power with phase := .noImage } }
  else s

/-- The warning limits of a rail in mV (R502); VCORE and VSER follow the set point (R523). -/
def setPointLimits (s : State) (mv : Int) : State :=
  (((s.put 0x210802 (mv * 97 / 100)).put 0x210803 (mv * 103 / 100)).put 0x210A02 (mv * 97 / 100)).put 0x210A03
    (mv * 103 / 100)

/-- Failure limits of a logic rail in percent of nominal (R502): VMEM, VCORE and VSER 8, the others 10. -/
def failPercent (r : Nat) : Int := if r ≤ 2 then 8 else 10

/-- A rail outside its warning limits for 10 us (R504). -/
def railWarning (s : State) (r : Nat) (mv : Int) : State :=
  let b := Od.key (0x2108 + r) 0
  let f := (if mv < s.int (b + 2) then 1 else 0) + (if s.int (b + 3) < mv then 2 else 0)
  let s := s.put (b + 1) mv
  if f = 0 then s.put (b + 4) (s.int (b + 4) / 4 * 4)
  else ((s.put (b + 4) (s.int (b + 4) / 4 * 4 + f)).bump (b + 5)).raise 14 f.toNat r mv.toNat

/-- A logic rail outside its failure limits for 10 us (R504): source 253, then a reset of cause 3. -/
def railFailure (s : State) (r : Nat) (mv : Int) : State :=
  let b := Od.key (0x2108 + r) 0
  let s := ((s.put (b + 1) mv).put (b + 4) (s.int (b + 4) % 4 + 4)).bump (b + 6)
  (s.emcyScan.storeStored.raise 253 4 r mv.toNat).takeReset 3

/-- VAON below 2.8 V: everything stops (R506). A later rise starts the AON logic anew, as after a power-on. -/
def vaonLoss (s : State) : State :=
  let s := s.logicReset 1
  { s with power := { s.power with phase := .off, cause := 1, islands := 0, inh := false, wakeOut := false, latched := 0,
                                   captureLatch := 0, powerUp := false, porN := false, claimEn := false },
           trust := { s.trust with windowPin := false, windowRole := false, windowLive := false, released := false },
           wake := {}, fio := {} }

/-- VAON rises from OFF (R506): AON and field die start, the device is MOORED, and the power-up wake of cause 0 is
accepted as soon as POR_N is high. -/
def vaonRise (s : State) (porN : Bool) : State :=
  if s.power.phase = .off then
    { s with
      power := { s.power with phase := .moored, islands := BitVec.ofNat 30 (1 + 2 ^ 29), porN := porN, powerUp := true,
                              cause := 1, inh := porN },
      wake := { s.wake with accepted := if porN then some (0, 0) else none } }
  else s

/-- POR_N driven low (R514): logic die, AON, field die and wake latches reset with cause 1. -/
def porNLow (s : State) : State :=
  if s.power.phase = .off then s
  else
    let s := s.logicReset 1
    { s with
      power := { s.power with porN := false, latched := 0, captureLatch := 0, powerUp := false }, wake := {}, fio := {} }

/-- Debug access is open (R336). -/
def debugOpen (s : State) : Bool := !s.fuses.debugClosed && (!s.claimed || s.trust.debugUnlocked)

/-- A safety-monitor fault (R515): source 255, then a reset of cause 6. -/
def safetyFault (s : State) (kind inst : Nat) : State :=
  if s.isReady then (s.raise 255 kind inst 0).takeReset 6 else s.takeReset 6

/-- A lockstep error of a core pair (R515): the first is latched for arbitration, a second within 1 s is a
safety-monitor fault. -/
def lockstepError (s : State) (pair : Nat) : State :=
  let s := { s with pair := { s.pair with lockstep := true } }
  match Tab.find? s.power.lockstep pair with
  | some c =>
    if s.clock.counter < c + 312500000 then s.safetyFault 1 pair
    else { s with power := { s.power with lockstep := Tab.insert s.power.lockstep pair s.clock.counter } }
  | none => { s with power := { s.power with lockstep := Tab.insert s.power.lockstep pair s.clock.counter } }

/-- RUNNING is left for INTEGRATE (R220, R251): the lock-keepers open, and slot traffic stops. -/
def leaveRunning (s : State) : State :=
  let s := if s.isRunning then s.put 0x22100B 2 else s
  let s := (List.range 4).foldl (fun s p => (s.put (Od.key (0x2484 + p) 1) 0).setPl p { s.pl p with history := [] }) s
  { s with mu := { s.mu with passive := true, integrated := false, listen := 0, working := none, silent := 0 } }

/-- The time state OUT is entered: counted, raised, and the node goes passive (R189, R220). -/
def timeOut (s : State) : State :=
  if s.timeState = 4 ∨ s.timeState = 0 then s
  else
    let s := (((s.put 0x260001 4).putFlag 0x26000D false).bump 0x260009).raise 109 4 0 0
    s.leaveRunning

/-- The reference stopped for 10 us or is off by more than 5 % (R513); `lasting` after 100 us, when the time state
becomes OUT. Without supply, or moored, there is no reference to compare. -/
def referenceFault (s : State) (lasting : Bool) : State :=
  if s.power.phase = .off ∨ s.power.phase = .moored then s
  else if lasting then (if s.power.refFault then s.timeOut else s)
  else if s.power.refFault then s
  else
    let s := ((s.put 0x210401 2).bump 0x210403).storeStored
    { s.raise 15 2 0 0 with power := { (s.raise 15 2 0 0).power with refFault := true } }

/-- The reference is good again before the 10 ms limit (R513). -/
def referenceRecovered (s : State) : State :=
  if s.power.refFault then
    { s with power := { s.power with refFault := false }, od := Store.set s.od 0x210401 (.num 1) }
  else s

/-- A reference fault lasting 10 ms (R513). -/
def referenceLossReset (s : State) : State := if s.power.refFault then s.takeReset 4 else s

/-- The AVS set point moves toward a target by at most 5 mV (R505), within 720 to 900 mV; `measured` is VCORE. -/
def avsStep (s : State) (target measured : Int) : State :=
  if s.isReady then
    let now := s.int 0x210101
    let mv := max 720 (min 900 (if now < target then min target (now + 5) else max target (now - 5)))
    ((s.put 0x210101 mv).put 0x210102 measured).setPointLimits mv
  else s

/-- `f` applied n times. -/
def times : Nat → (State → State) → State → State
  | 0, _, s => s
  | n + 1, f, s => times n f (f s)

/-- One patrol scrub of the SRAM (R518): corrected and uncorrectable errors, counted and raised one by one. An
uncorrectable error in firmware working memory leads to R515. -/
def sramScrub (s : State) (corrected uncorrectable : Nat) (firmware : Bool) : State :=
  if s.isReady then
    let s := times corrected (fun s => (s.bump 0x210507).raise 233 0 0 0) s
    let s := times uncorrectable (fun s => (s.bump 0x210508).raise 234 0 0 0) s
    let s := if uncorrectable = 0 then s else { s with pair := { s.pair with ecc := true } }
    if firmware ∧ 0 < uncorrectable then s.safetyFault 3 0 else s
  else s

/-- The run of an MRAM scrub as long operation 0x3F07 in KiB, from its stored position (R519). -/
def scrubRun (s : State) : State :=
  let pos := s.int 0x210506
  (s.opStart 7 8192).opProgress 7 (pos * 10000 / 8192) pos 8192

/-- A scrub that a reset or a mooring cut off resumes with the boot (R519). -/
def scrubResume (s : State) : State := if s.power.scrubbing then s.scrubRun else s

/-- An MRAM scrub starts (R519). -/
def scrubStart (s : State) : State :=
  if s.power.scrubbing then s
  else { s.scrubRun with power := { s.scrubRun.power with scrubbing := true } }

/-- Operating hours reach the refresh interval (R519). -/
def mramScrubStart (s : State) : State :=
  if s.isReady ∧ s.int 0x210501 ≤ s.int 0x210502 then s.scrubStart else s

/-- A copy of an area holds the uncorrectable word: it becomes invalid (R519). -/
def spoilCopy (m : Mram) (copy : Nat) : Mram :=
  match copy with
  | 0 => { m with config0 := { m.config0 with valid := false } }
  | 1 => { m with config1 := { m.config1 with valid := false } }
  | 2 => { m with stored0 := { m.stored0 with valid := false } }
  | 3 => { m with stored1 := { m.stored1 with valid := false } }
  | _ => m

/-- An uncorrectable MRAM word (R519): counted, sources 16 and 234. -/
def mramBad (s : State) (copy : Nat) : State :=
  let s := ((s.bump 0x210504).raise 16 0 copy 0).raise 234 1 copy 0
  { s with
    mram := spoilCopy s.mram copy
    pair := { s.pair with ecc := true } }

/-- One chunk of 64 KiB of the scrub: words corrected, each raising source 233 as R414 names it (DEDUCED, log 99), the copies
found with an uncorrectable word, the position stored (R519). At the end the operation is done and the hours start again. -/
def mramScrubChunk (s : State) (corrected : Nat) (bad : List Nat) : State :=
  if s.isReady ∧ s.power.scrubbing then
    let s := times corrected (fun s => (s.bump 0x210503).raise 233 1 0 0) s
    let s := bad.foldl mramBad s
    let pos := s.int 0x210506 + 64
    if pos < 8192 then ((s.put 0x210506 pos).opProgress 7 (pos * 10000 / 8192) pos 8192).storeStored
    else
      let s := (((s.put 0x210506 0).put 0x210502 0).opProgress 7 10000 8192 8192).storeStored
      let s := s.opEnd 7 2 0
      { s with power := { s.power with scrubbing := false } }
  else s

/-- A temperature sensor read, in 0.1 degC (R537). -/
def temperatureSample (s : State) (t : Nat) (v : Int) : State :=
  if s.isReady then
    let b := Od.key (0x2110 + t) 0
    let s := ((s.put (b + 1) v).put (b + 2) (min v (s.int (b + 2)))).put (b + 3) (max v (s.int (b + 3)))
    let f := s.nat (b + 5)
    let th := s.int (b + 4)
    let warn := f.testBit 0
    let crit := f.testBit 1
    let warn' := if th < v then true else if v ≤ th - 50 then false else warn
    let crit' := decide (t ≤ 5) && (if 1550 < v then true else if v ≤ 1500 then false else crit)
    let s := s.put (b + 5) ((if warn' then 1 else 0) + (if crit' then 2 else 0))
    let s := if warn' && !warn then (s.bump (b + 6)).raise 13 1 t v.toNat else s
    if crit' && !crit then (s.bump (b + 7)).raise 254 2 t v.toNat else s
  else s

/-- The island of the input a source is latched for (R411, R508). -/
def islandOf (src : Nat) : Nat :=
  if 104 ≤ src ∧ src ≤ 107 then 1 else if 32 ≤ src ∧ src ≤ 47 then 4 else if src = 200 then 26
  else if 160 ≤ src ∧ src ≤ 181 then 27 else 2

/-- A latched source is raised, its wake flag set and its latch cleared (R411). -/
def raiseLatched (s : State) (src : Nat) : State :=
  if Gate.has s.power.latched src then
    let s := (s.put (Od.key (0x3600 + src) 6) 1).raise src 0 0 0
    { s with power := { s.power with latched := s.power.latched &&& ~~~ Gate.one src } }
  else s

/-- An island's clock starts: restarts counted (R509), and the inputs latched for it acted on (R411). -/
def islandRestart (s : State) (i : Nat) : State :=
  if s.isReady ∧ s.power.islands.getLsbD i = false then
    let s := s.bump (Od.key (0x2120 + i) 4)
    let s := { s with power := { s.power with islands := s.power.islands ||| BitVec.ofNat 30 (2 ^ i) } }
    (List.range 256).foldl (fun s src => if islandOf src = i then s.raiseLatched src else s) s
  else s

/-- An island's clock stops: its state is kept and the stop counted (R509). -/
def islandStop (s : State) (i : Nat) : State :=
  if s.power.islands.getLsbD i then
    { s.bump (Od.key (0x2120 + i) 3) with
      power := { s.power with islands := s.power.islands &&& ~~~ BitVec.ofNat 30 (2 ^ i) } }
  else s

end State

/-! ### The commands -/

/-- POR_RELEASE. -/
def execPorRelease (hostSel : BitVec 2) (claimEn : Bool) (s : State) : Res := .next (s.porRelease hostSel claimEn)

/-- RESET_RELEASE. -/
def execResetRelease (claimEn : Bool) (s : State) : Res := .next (s.resetRelease claimEn)

/-- BOOT_IMAGE_VERIFIED. -/
def execBootImageVerified (image : Fin 3) (micros : Nat) (s : State) : Res := .next (s.bootImageVerified image micros)

/-- RAIL_WARNING. -/
def execRailWarning (r : Fin 7) (mv : Nat) (s : State) : Res :=
  .next (if s.isReady then (s.railWarning r mv).emcyScan else s)

/-- RAIL_FAILURE: a logic rail; VAON has VAON_LOSS (R502, R504). -/
def execRailFailure (r : Fin 6) (mv : Nat) (s : State) : Res :=
  .next (if s.isReady then s.railFailure r mv else s.takeReset 3)

/-- VAON_LOSS. -/
def execVaonLoss (s : State) : Res := .next s.vaonLoss

/-- VAON_RISE. -/
def execVaonRise (porN : Bool) (s : State) : Res := .next (s.vaonRise porN)

/-- POR_N_LOW. -/
def execPorNLow (s : State) : Res := .next s.porNLow

/-- ISLAND_RESTART. -/
def execIslandRestart (i : Fin 30) (s : State) : Res := .next (s.islandRestart i)

/-- REFERENCE_FAULT. -/
def execReferenceFault (lasting : Bool) (s : State) : Res := .next (s.referenceFault lasting)

/-- REFERENCE_RECOVERED. -/
def execReferenceRecovered (s : State) : Res := .next s.referenceRecovered

/-- REFERENCE_LOSS_RESET. -/
def execReferenceLossReset (s : State) : Res := .next s.referenceLossReset

/-- WARM_RESET. -/
def execWarmReset (s : State) : Res := .next (s.takeReset 2)

/-- WATCHDOG_EXPIRY. -/
def execWatchdogExpiry (s : State) : Res := .next (s.takeReset 5)

/-- RESET_REQUEST: the response, then the reset of cause 7 (R521). -/
def execResetRequest (w : Writer) (v : Byte) (s : State) : Res :=
  .next (s.served fun s => (s.accessAct w 0x21020B [v] (·.resetAsked 7)).takeDue)

/-- DEBUG_RESET: only while debug is open (R336, R514). -/
def execDebugReset (s : State) : Res := .next (if s.debugOpen then s.takeReset 9 else s)

/-- AVS_STEP. -/
def execAvsStep (target measured : Nat) (s : State) : Res := .next (s.avsStep target measured)

/-- SCRUB_REQUEST: refused as busy while a scrub runs (R346, R519). -/
def execScrubRequest (w : Writer) (v : Byte) (s : State) : Res :=
  .next (s.served fun s => s.accessAct w 0x210505 [v] fun s =>
    if s.power.scrubbing then (s, 0x0C) else (s.scrubStart, 0))

/-- MRAM_SCRUB_START. -/
def execMramScrubStart (s : State) : Res := .next s.mramScrubStart

/-- MRAM_SCRUB_CHUNK. -/
def execMramScrubChunk (corrected : Nat) (bad : List Nat) (s : State) : Res := .next (s.mramScrubChunk corrected bad)

/-- TEMPERATURE_SAMPLE. -/
def execTemperatureSample (t : Fin 8) (tenths : Int) (s : State) : Res :=
  .next (s.temperatureSample t tenths).emcyScan

end Sys2Proof.Machine
end

