-- ==== Sys2Proof/Machine/Trust.lean ====
section
/-!
DEFINITION. Trust, keys and roles (spec/12_trust.md): claiming, sessions, neighbour authentication, rekeying, stream
keys, images and debug. Bundles and session requests stand in Machine/Messages.lean, because they execute accesses.
-/

namespace Sys2Proof.Machine

namespace State

/-- The claim window is open while either of its two windows is (R310). -/
def windowOpen (s : State) : Bool := s.trust.windowPin || s.trust.windowRole

/-- CLAIM_EN low: its window closes (R310). -/
def claimEnLow (s : State) : State :=
  { s with trust := { s.trust with windowPin := false }, power := { s.power with claimEn := false } }

/-- 60,000 ms after the window start both windows close (R310). -/
def windowExpired (s : State) : State :=
  { s with trust := { s.trust with windowPin := false, windowRole := false, windowLive := false } }

/-- The owner root written (R311, step 1). -/
def ownerRoot (s : State) (cert : List Byte) : State × Nat :=
  if s.claimed then (s, 0x48) else if s.windowOpen = false then (s, 0x47)
  else if s.mram.storeFails then (s, 0x0E) else ((s.putBytes 0x311001 cert).storeStored, 0)

/-- The text the receipt signs (R311, step 5): identity, owner hash, claim count. -/
def receiptText (s : State) : List Byte := le 8 s.fuses.identity ++ s.bytes 0x310002 ++ le 1 (s.int 0x310003)

/-- The claim count rises (R309); past the 255 its entry holds, no rule says what it reads: a free value (log 3). -/
def countClaim (s : State) : State :=
  if s.int 0x310003 < 255 then s.put 0x310003 (s.int 0x310003 + 1) else (s.put 0x310003 ((s.freeNat % 256 : Nat) : Int)).tookFree

/-- The claim command (R311, steps 2 to 5): the state, the window, the certificate, its self-signature. -/
def claimCommand (s : State) (caOk selfSigned : Bool) : State × Nat :=
  if s.claimed then (s, 0x48) else if s.windowOpen = false then (s, 0x47)
  else if s.bytes 0x311001 = [] ∨ caOk = false then (s, 0x4F)
  else if selfSigned = false then (s, 0x41)
  else if s.mram.storeFails then (s, 0x0E)
  else
    let s := ((s.put 0x310001 1).putBytes 0x310002 (Config.sha256 (s.bytes 0x311001))).countClaim
    let s := s.putBytes 0x311003 (s.receiptText ++ Config.deviceSign s.receiptText)
    let s := { s with trust := { s.trust with windowPin := false, windowRole := false } }
    (s.storeStored, 0)

/-- The neighbour cache flushed (R325). -/
def flushCache (s : State) : State := { s with trust := { s.trust with cache := [] } }

/-- One link's key discarded: the link carries unprotected MAKE_UP only (R219, R317), and its lock-keeper opens (R243). -/
def dropKey (s : State) (p : Nat) : State :=
  let b := Od.key (0x3124 + p) 0
  let s := ((s.put (b + 1) 0).put (b + 3) 0).put (b + 4) 0
  let s := (s.put (Od.key (0x2484 + p) 1) 0).setPl p { s.pl p with history := [], authOut := [] }
  { s with trust := { s.trust with auth := Tab.erase s.trust.auth p } }

/-- A release (R313); the reset follows the response. -/
def release (s : State) (data : List Byte) : State × Nat :=
  if written 0x311004 data ≠ .num s.fuses.identity then (s, 0x46)
  else
    let s := s.flushCache
    let s := (((s.putBytes 0x311001 []).putBytes 0x310002 (List.replicate 32 0)).putBytes 0x311201 []).put 0x310001 2
    let s := (List.range 8).foldl (fun s i => s.putBytes (0x311101 + i) (List.replicate 32 0)) s
    let s := { s with trust := { s.trust with sessions := [], nodes := [], streams := [], auth := [], released := true } }
    s.storeStored.resetAsked 7

/-- The sessions a path may hold (R318). -/
def pathLimit : Path → Nat | .can => 1 | .host => 2 | .mgmt => 5 | _ => 0

/-- The established sessions of a path, and of all. -/
def sessionsOf (s : State) (p : Path) : Nat := (s.trust.sessions.filter (fun e => decide (e.2.path = p) && e.2.established)).length
def sessionsAll (s : State) : Nat := (s.trust.sessions.filter (fun e => e.2.established)).length

/-- The lowest session number not in use (R320). -/
def freeSession (s : State) : Nat := ((List.range 8).find? (fun n => (Tab.find? s.trust.sessions n).isNone)).getD 8

/-- The HELLO_REPLY of a session number (R319, R320): type, session, sequence 1, the device certificate, then the ephemeral
key, the nonce and the signature, whose bytes are free values (log 3). -/
def helloReply (s : State) (n : Byte) : List Byte := [2, n] ++ be 8 1 ++ Config.deviceCertificate ++ Config.freeBytes s.free 161

/-- A client's HELLO (R319): the limits at once, then the chain; a handshake of the path that was not finished gives way. -/
def helloClient (s : State) (p : Path) (c : Chain) : State :=
  let s := { s with trust := { s.trust with
    sessions := s.trust.sessions.filter (fun e => !(decide (e.2.path = p) && !e.2.established)) } }
  let w : Writer := { path := p }
  if pathLimit p ≤ s.sessionsOf p ∨ 8 ≤ s.sessionsAll ∨ 8 ≤ s.freeSession then s.respond w 0x4B []
  else if s.chainResult c ≠ 0 then s.respond w (0x40 + s.chainResult c) []
  else
    let n := s.freeSession
    let x : Session := { path := p, role := c.role, seqIn := 1, seqOut := 1, chain := c }
    let reply := s.helloReply (BitVec.ofNat 8 n)
    let s := { s.tookFree with trust := { s.trust with sessions := Tab.insert s.trust.sessions n x } }
    let s := if p = .can then s.putBytes 0x312002 reply else s
    (s.respond w 0 reply).emit (.auth 2 n 0)

/-- A node session's HELLO (R321, R322): at most 64. -/
def helloNode (s : State) (c : DeviceCert) : State :=
  let r := s.peerResult c
  if r ≠ 0 then s.trustRefuse r
  else
    let others := s.trust.nodes.filter (fun x => decide (x.peer ≠ c.identity.toNat))
    if 64 ≤ others.length then s.trustRefuse 0x0B
    else
      let x : NodeSession := { peer := c.identity.toNat, serial := c.serial, seqIn := 1, seqOut := 1 }
      let s := ({ s with trust := { s.trust with nodes := others ++ [x] } } : State).emit (.auth 2 c.identity.toNat 1)
      (s.sendChunks 1 x.peer (s.helloReply (Config.sessionNumber x.peer))).tookFree

/-- A session message is accepted on its path: an open session, the next sequence number, a good tag (R320). -/
def messageOk (s : State) (p : Path) (n seq : Nat) (tagOk : Bool) : Bool :=
  match Tab.find? s.trust.sessions n with
  | some x => decide (x.path = p) && decide (seq = x.seqIn + 1) && tagOk
  | none => false

/-- A FINISH of a client (R319, steps 3 and 4). -/
def finishClient (s : State) (p : Path) (n seq : Nat) (sigOk : Bool) : State :=
  match Tab.find? s.trust.sessions n with
  | some x =>
    if x.established ∨ x.path ≠ p ∨ seq ≠ x.seqIn + 1 then s.dropMessage p
    else if sigOk then
      ({ s with trust := { s.trust with sessions := Tab.insert s.trust.sessions n { x with
        established := true, seqIn := seq, openedAt := s.clock.counter, lastAt := s.clock.counter } } } : State).takeMessage p
    else
      ({ s with trust := { s.trust with sessions := Tab.erase s.trust.sessions n } } : State).respond { path := p } 0x41 []
  | none => s.dropMessage p

/-- A FINISH of a node session, the next message of it (R320, R322). -/
def finishNode (s : State) (peer seq : Nat) (sigOk : Bool) : State :=
  if s.trust.nodes.any (fun x => decide (x.peer = peer) && !x.established && decide (seq = x.seqIn + 1)) then
    if sigOk then
      { s with trust := { s.trust with nodes := s.trust.nodes.map (fun x =>
        if x.peer = peer then { x with established := true, seqIn := seq } else x) } }
    else
      let s := s.trustRefuse 0x01
      { s with trust := { s.trust with nodes := s.trust.nodes.filter (fun x => decide (x.peer ≠ peer)) } }
  else s.trustRefuse 0x0C

/-- CLOSE (R320). -/
def sessionClose (s : State) (p : Path) (n seq : Nat) (tagOk : Bool) : State :=
  if s.messageOk p n seq tagOk then (s.endSession n).takeMessage p else s.dropMessage p

/-- What a new revocation list does (R317): sessions and node sessions close, link keys of listed devices are discarded,
the neighbour cache is flushed. -/
def revoke (s : State) : State :=
  let s := s.trust.sessions.foldl (fun s e => if e.2.chain.serials.any s.serialRevoked then s.endSession e.1 else s) s
  let s := { s with trust := { s.trust with
    nodes := s.trust.nodes.filter (fun x => !(s.identityRevoked x.peer) && !(s.serialRevoked x.serial)) } }
  let s := (List.range 4).foldl (fun s p =>
    if s.identityRevoked (s.nat (Od.key (0x2240 + p) 1)) then s.dropKey p else s) s
  s.flushCache

/-- A node session lasts while both ends are members of the consist (R322): those with other devices end. -/
def endNodes (s : State) (stays : Nat → Bool) : State :=
  { s with trust := { s.trust with nodes := s.trust.nodes.filter (fun x => stays x.peer) } }

/-- A write of an entry, followed by an effect once it is stored. -/
def writeThen (s : State) (w : Writer) (k : Nat) (data : List Byte) (f : State → State) : State × Nat :=
  if s.plainStatus k ≠ 0 then (s, s.plainStatus k) else (f (s.plainWrite w k (written k data)), 0)

/-- A cache entry whose 30 days are over (R325). -/
def cacheExpiry (s : State) (id : Nat) : State :=
  { s with trust := { s.trust with
    cache := s.trust.cache.filter (fun e => !(decide (e.identity = id) && decide (e.expiry ≤ s.nat 0x200101))) } }

/-- One port's authentication. -/
def au (s : State) (p : Nat) : Auth := Tab.get {} s.trust.auth p
def setAu (s : State) (p : Nat) (a : Auth) : State :=
  { s with trust := { s.trust with auth := Tab.set {} s.trust.auth p a } }

/-- The neighbour is in the cache (R324, step 2). -/
def cached (s : State) (id : Nat) : Bool := s.trust.cache.any (fun e => decide (e.identity = id))

/-- The data of an authentication message (R323): keys, nonces, signatures and HMACs are free values. -/
def authData (s : State) (p kind code : Nat) : List Byte :=
  if kind = 1 ∨ kind = 7 then
    Config.freeBytes s.free 97 ++ [if s.cached (s.nat (Od.key (0x2240 + p) 1)) then 1 else 0]
  else if kind = 2 then Config.deviceCertificate ++ s.bytes 0x310002
  else if kind = 3 then Config.deviceSign (Config.freeBytes s.free 32)
  else if kind = 6 then [BitVec.ofNat 8 code]
  else Config.freeBytes s.free 32

/-- The fragments of an authentication message (R323), 128 bytes each. -/
def authFragments (kind exchange : Nat) (data : List Byte) : List (List Byte) :=
  let n := max 1 ((data.length + 119) / 120)
  (List.range n).map (fun i =>
    let d := slice data (120 * i) 120
    [BitVec.ofNat 8 kind, BitVec.ofNat 8 i, BitVec.ofNat 8 n, BitVec.ofNat 8 d.length] ++ be 4 exchange ++ d ++
      List.replicate (120 - d.length) 0)

/-- An authentication message of a port (R323): its fragments leave one by one in the MAKE_UP frames that follow. -/
def authSend (s : State) (p kind code : Nat) : State :=
  let l := authFragments kind (s.au p).own (s.authData p kind code)
  let s := s.tookFree
  (s.setPl p { s.pl p with authOut := (s.pl p).authOut ++ l }).emit (.auth kind p code)

/-- Authentication starts on a link without a key (R324, step 1): an OFFER under a fresh exchange number. -/
def authStart (s : State) (p : Nat) : State :=
  if s.linkUpState p ∧ s.keyed p = false then
    let a : Auth := { offered := true, own := s.freeNat % 2 ^ 32 }
    let s := ((s.tookFree.put (Od.key (0x3124 + p) 1) 1).put (Od.key (0x2240 + p) 2) 1).setAu p a
    s.authSend p 1 a.own
  else s

/-- A refusal of the neighbour (R325): REFUSE is sent, the neighbour state is 4. -/
def authRefuse (s : State) (p code : Nat) : State :=
  let s := (((s.put (Od.key (0x2240 + p) 2) 4).put (Od.key (0x3124 + p) 1) 0).bump (Od.key (0x3124 + p) 6)).setAu p {}
  (s.trustRefuse code).authSend p 6 code

/-- An OFFER arrives (R324, steps 1 to 3): RESUME if both cache flags are set, else CERTS. -/
def offer (s : State) (p : Nat) (identity exchange : Nat) (cacheFlag : Bool) : State :=
  if s.linkUpState p ∧ s.keyed p = false then
    let s := if (s.au p).offered then s else s.authStart p
    let a := s.au p
    let resume := cacheFlag && s.cached identity
    let s := (s.put (Od.key (0x2240 + p) 1) identity).setAu p { a with gotOffer := true, peer := exchange, resume := resume }
    s.authSend p (if resume then 4 else 2) a.own
  else s

/-- CERTS arrive (R324, steps 3 and 4): PROOF is sent. -/
def certs (s : State) (p : Nat) (c : DeviceCert) : State :=
  if (s.au p).gotOffer ∧ s.keyed p = false then
    (s.setAu p { s.au p with certs := some c }).authSend p 3 (s.au p).own
  else s

/-- The secure associations are installed once CONFIRM is sent and the other verified (R324, step 6): association 0, the
neighbour cached with its owner hash, least recently used out. -/
def authInstall (s : State) (p : Nat) : State :=
  let a := s.au p
  if a.sentConfirm ∧ a.gotConfirm ∧ s.keyed p = false then
    let id := s.nat (Od.key (0x2240 + p) 1)
    let old := s.trust.cache.find? (fun e => decide (e.identity = id))
    let entry : CacheEntry :=
      match a.resume, old with
      | true, some e => e
      | _, _ => { identity := id, ownerHash := (a.certs.map (·.ownerHash)).getD [], expiry := s.nat 0x200101 + 2592000 }
    let rest := s.trust.cache.filter (fun e => decide (e.identity ≠ id))
    let b := Od.key (0x3124 + p) 0
    let s := (((((s.put (b + 1) 2).put (b + 2) 0).put (b + 3) 0).put (b + 4) 0).put (Od.key (0x2240 + p) 2)
      (if a.resume then 2 else 3)).setAu p { installedAt := s.clock.counter, certs := a.certs }
    { s with trust := { s.trust with cache := (rest.drop (rest.length - 15)) ++ [entry] } }
  else s

/-- The own CONFIRM (R324, step 5). -/
def sendConfirm (s : State) (p : Nat) : State :=
  (((s.setAu p { s.au p with accepted := true, sentConfirm := true }).authSend p 5 (s.au p).own)).authInstall p

/-- A PROOF arrives (R324, step 4): its signature, then R321. -/
def proof (s : State) (p : Nat) (sigOk : Bool) : State :=
  match (s.au p).certs with
  | some c =>
    if s.keyed p then s
    else if sigOk = false then s.authRefuse p 0x01
    else if s.peerResult c ≠ 0 then s.authRefuse p (s.peerResult c)
    else s.sendConfirm p
  | none => s

/-- A RESUME arrives (R324, step 2). -/
def resumeMsg (s : State) (p : Nat) (hmacOk : Bool) : State :=
  if (s.au p).resume ∧ s.keyed p = false then
    if hmacOk then s.sendConfirm p else s.authRefuse p 0x01
  else s

/-- A CONFIRM arrives (R324, steps 5 and 6). -/
def confirm (s : State) (p : Nat) (hmacOk : Bool) : State :=
  if (s.au p).gotOffer ∧ s.keyed p = false then
    if hmacOk then (s.setAu p { s.au p with gotConfirm := true }).authInstall p else s.authRefuse p 0x01
  else s

/-- A REFUSE arrives (R325). -/
def refuseMsg (s : State) (p : Nat) : State :=
  if s.keyed p then s
  else (((s.put (Od.key (0x2240 + p) 2) 4).put (Od.key (0x3124 + p) 1) 0).bump (Od.key (0x3124 + p) 6)).setAu p {}

/-- A refused neighbour is tried again (R325). -/
def authRetry (s : State) (p : Nat) : State := if s.int (Od.key (0x2240 + p) 2) = 4 then s.authStart p else s

/-- An association has reached its limit (R327, step 1). -/
def rekeyTrigger (s : State) (p : Nat) : State :=
  if s.keyState p = 2 then
    ((s.put (Od.key (0x3124 + p) 1) 3).setAu p { s.au p with rekeySent := true, own := s.freeNat % 2 ^ 32 }).tookFree.authSend p 7 0
  else s

/-- A REKEY_OFFER arrives (R327): of two offers the lower identity's proceeds; REKEY_CONFIRM answers. -/
def rekeyOffer (s : State) (p : Nat) (identity : Nat) : State :=
  if s.keyed p = false ∨ ((s.au p).rekeySent ∧ s.fuses.identity < identity) then s
  else
    let s := (s.put (Od.key (0x3124 + p) 1) 3).setAu p { s.au p with
      rekeySent := false, rekeyGot := true, rkConfirmSent := true, own := s.freeNat % 2 ^ 32 }
    s.tookFree.authSend p 8 0

/-- A REKEY_CONFIRM arrives (R327, steps 2 and 3): the new receive association is installed at once. -/
def rekeyConfirm (s : State) (p : Nat) (hmacOk : Bool) : State :=
  let a := s.au p
  if s.keyState p = 3 ∧ hmacOk ∧ (a.rekeySent ∨ a.rekeyGot) then
    let s := if a.rkConfirmSent then s else s.authSend p 8 0
    s.setAu p { a with rkConfirmSent := true, rkConfirmGot := true }
  else s

/-- Transmission switches at the first flight boundary after both REKEY_CONFIRMs, and the old receive association goes at
the end of that flight (R327, steps 4 and 5). -/
def rekeySwitch (s : State) (p : Nat) : State :=
  let a := s.au p
  let b := Od.key (0x3124 + p) 0
  if a.rkConfirmSent ∧ a.rkConfirmGot ∧ s.keyState p = 3 then
    ((((((s.put (b + 1) 2).put (b + 2) ((s.int (b + 2) + 1) % 4)).put (b + 3) 0).put (b + 4) 0).bump (b + 5)).setAu p
      { certs := a.certs, installedAt := s.clock.counter, oldHeldUntil := some (s.flight + 1) })
  else if a.oldHeldUntil.isSome ∧ a.oldHeldUntil ≠ some (s.flight + 1) then s.setAu p { a with oldHeldUntil := none }
  else s

/-- The wrapped current and previous keys of the views of each network display with a public key (R330). -/
def publishKeys (s : State) : State :=
  (List.range 8).foldl (fun s n =>
    let d := Od.key (0x2C78 + n) 0
    let pk := s.bytes (Od.key (0x3130 + n) 1)
    if s.flag (d + 1) = false ∨ pk.all (fun b => decide (b = 0)) = true then s
    else
      let names := (List.range 6).map (fun i => s.bytes (d + 6 + i))
      let shown (x : Epochs) : Bool := (decide (x.source ≠ 0) || decide (x.sink = s.sliceSource)) &&
        names.any (fun m => decide (m ≠ [] ∧ m = s.bytes (Od.key (0x2C10 + x.view) 2)))
      s.putBytes (Od.key (0x3130 + n) 2) ((s.trust.streams.filter shown).flatMap (fun x =>
        [x.next, x.key].flatMap (fun k => Config.wrapKey pk (Config.streamKey k))))) s

/-- A stream key is delivered to this sink by its source (R328): its newest epoch, acknowledged. -/
def keyDelivery (s : State) (source view inst epoch : Nat) : State :=
  if s.nodeOpen source then
    let mine (x : Epochs) : Bool := decide (x.source = source ∧ x.view = view ∧ x.instanceNo = inst)
    let x : Epochs := match s.trust.streams.find? mine with
      | some old => { old with epoch := old.delivered, delivered := epoch, acked := true, key := old.next, next := s.free }
      | none => {
        view := view, instanceNo := inst, source := source, epoch := epoch, delivered := epoch, acked := true, key := s.free,
        next := s.free }
    let s := { s.tookFree with trust := { s.trust with streams := s.trust.streams.filter (fun y => !(mine y)) ++ [x] } }
    ((s.emit (.auth 11 source epoch)).sendFree source).publishKeys
  else s

/-- An own stream after an event of R95, and after an acknowledgement (R329): it moves to the epoch delivered ahead once
the sink has acknowledged it, and delivers the one after, with a fresh key (R328); until then it waits. A sink of this
device has its keys at once. -/
def moveStream (own fresh : Nat) (x : Epochs) : Epochs :=
  if x.acked then { x with
    epoch := x.delivered, delivered := (x.delivered + 1) % 256, acked := decide (x.sink = own), waiting := false, key := x.next,
    next := fresh, turn := none }
  else { x with waiting := true, turn := none }

/-- The streams after an event of R95 on those a test names, each with a key of its own from a number on. -/
def movedStreams (own : Nat) (test : Epochs → Bool) : Nat → List Epochs → List Epochs
  | _, [] => []
  | n, x :: t =>
    (if x.source = 0 ∧ test x = true then moveStream own n x else x) :: movedStreams own test (n + 1) t

/-- The events of R95 on the own streams that a test names; a delivery ahead is sent to each sink of another device. -/
def moveStreams (s : State) (test : Epochs → Bool) : State :=
  let own := s.sliceSource
  let l := s.trust.streams
  let hit := l.filter (fun x => decide (x.source = 0) && test x)
  let s := { s with free := s.free + l.length, trust := { s.trust with streams := movedStreams own test s.free l } }
  (hit.foldl (fun (s : State) (x : Epochs) => if x.acked ∧ x.sink ≠ own then (s.emit (.auth 10 x.sink ((x.delivered + 1) % 256))).sendFree x.sink else s) s).publishKeys

/-- The sink of an own stream acknowledges an epoch (R329): a move that waits for it takes place. -/
def keyAck (s : State) (sink view inst epoch : Nat) : State :=
  let mine (x : Epochs) : Bool :=
    decide (x.sink = sink ∧ x.view = view ∧ x.instanceNo = inst ∧ x.delivered = epoch)
  let s := { s with trust := { s.trust with streams := s.trust.streams.map (fun (x : Epochs) =>
    if x.source = 0 ∧ mine x = true then { x with acked := true } else x) } }
  s.moveStreams (fun x => mine x && x.waiting)

/-- The image that is not running (R332). -/
def otherImage (s : State) : Nat := if s.int 0x314006 = 1 then 2 else 1

/-- The security version of an image slot. -/
def imageSecurity (s : State) (slot : Nat) : Nat := s.nat (0x314003 + slot)

/-- An image is loaded and verified (R331, R332, R333): the end of the run its segments began, or a run of its own. -/
def imageLoad (s : State) (img : Image) : State × Nat :=
  let slot := s.otherImage
  let s := (if s.opRunning 2 then s else s.opStart 2 img.bytes).opProgress 2 10000 img.bytes img.bytes
  if img.signatureOk = false then (s.opEnd 2 3 0x01, 0x41)
  else if img.security < s.fuses.rollback then (s.opEnd 2 3 0x09, 0x49)
  else
    let s := (((s.put (0x314001 + slot) img.version.toNat).put (0x314003 + slot) img.security).setImageState slot 2)
    (s.storeStored.opEnd 2 2 0, 0)

/-- The image of the next reset (R332, step 2). -/
def selectImage (s : State) (v : Nat) : State × Nat := ({ s with power := { s.power with selectedImage := v } }, 0)

/-- The pending image reports healthy (R332, step 4), or does not within 60 s (step 3). -/
def imageHealthy (s : State) : State :=
  if s.power.pendingImage then
    let s := (s.setImageState (s.nat 0x314006) 1).storeStored
    { s with power := { s.power with pendingImage := false } }
  else s
def healthTimeout (s : State) : State :=
  if s.power.pendingImage then
    let s := (s.setImageState (s.nat 0x314006) 3).storeStored
    ({ s with power := { s.power with selectedImage := s.otherImage } } : State).takeReset 7
  else s

/-- The rollback floor raised (R333). -/
def advanceFloor (s : State) (v : Nat) : State × Nat :=
  if s.imageSecurity (s.nat 0x314006) < v then (s, 0x49)
  else ({ s with fuses := { s.fuses with rollback := max s.fuses.rollback v } }, 0)

/-- Debug-close is armed (R336, step 1): a fresh challenge. -/
def closeArm (s : State) (data : List Byte) : State × Nat :=
  if s.fuses.debugClosed then (s, 0x4E)
  else if written 0x316001 data ≠ .num s.fuses.identity then (s, 0x09)
  else
    let c := Config.freeBytes s.free 16
    ({ (s.putBytes 0x316002 c).tookFree with trust := { s.trust with challenge := some c } }, 0)

/-- The challenge is void (R336). -/
def challengeExpired (s : State) : State :=
  { s.putBytes 0x316002 (List.replicate 16 0) with trust := { s.trust with challenge := none } }

/-- Debug-close is confirmed (R336, step 2). -/
def closeConfirm (s : State) (c : Chain) (sigOk : Bool) : State × Nat :=
  if s.fuses.debugClosed ∨ s.trust.challenge.isNone then (s, 0x4E)
  else if s.chainResult c ≠ 0 then (s, 0x40 + s.chainResult c)
  else if c.role ≠ 4 then (s, 0x45)
  else if sigOk = false then (s, 0x41)
  else
    let s := s.challengeExpired
    ({ s with fuses := { s.fuses with debugClosed := true }, trust := { s.trust with debugUnlocked := false } }, 0)

/-- Debug unlocked until reset (R336). -/
def debugUnlock (s : State) : State × Nat :=
  if s.fuses.debugClosed then (s, 0x4E) else ({ s with trust := { s.trust with debugUnlocked := true } }, 0)

/-- NT stored as the last-known time, forward only (R316). -/
def storeTime (s : State) : State :=
  if s.ntValid then (s.put 0x310008 (max (s.int 0x310008) s.ntNow)).storeStored else s

end State

/-! ### The commands -/

/-- CLAIM_EN_LOW. -/
def execClaimEnLow (s : State) : Res := .next s.claimEnLow

/-- CLAIM_WINDOW_EXPIRED. -/
def execClaimWindowExpired (s : State) : Res := .next s.windowExpired

/-- OWNER_ROOT_WRITE. -/
def execOwnerRootWrite (w : Writer) (cert : List Byte) (s : State) : Res :=
  .next (s.served fun s => s.accessAct w 0x311001 cert (·.ownerRoot cert))

/-- CLAIM_COMMAND. -/
def execClaimCommand (w : Writer) (v : Byte) (caOk selfSigned : Bool) (s : State) : Res :=
  .next (s.served fun s => s.accessAct w 0x311002 [v] (·.claimCommand caOk selfSigned))

/-- RELEASE. -/
def execRelease (w : Writer) (data : List Byte) (s : State) : Res := .next (s.served fun s => (s.accessAct w 0x311004 data (·.release data)).takeDue)

/-- HELLO. -/
def execHello (h : Hello) (s : State) : Res :=
  .next (s.served fun s => match h with | .client p c => s.helloClient p c | .node c => s.helloNode c)

/-- FINISH. -/
def execFinish (h : Peer) (seq : Nat) (sigOk : Bool) (s : State) : Res :=
  .next (s.served fun s => match h with
    | .client p n => s.finishClient p n seq sigOk
    | .node id => s.finishNode id.toNat seq sigOk)

/-- SESSION_CLOSE. -/
def execSessionClose (p : Path) (n : Fin 8) (seq : Nat) (tagOk : Bool) (s : State) : Res :=
  .next (s.served (·.sessionClose p n seq tagOk))

/-- SESSION_IDLE_TIMEOUT: idle for its timeout, 24 h old, or outliving its certificates (R320). -/
def execSessionIdleTimeout (n : Fin 8) (s : State) : Res := .next (s.served (·.endSession n))

/-- REVOCATION_WRITE. -/
def execRevocationWrite (w : Writer) (data : List Byte) (s : State) : Res :=
  .next (s.served fun s => s.accessAct w 0x311201 data (·.writeThen w 0x311201 data State.revoke))

/-- PEER_OWNER_WRITE. -/
def execPeerOwnerWrite (w : Writer) (i : Fin 8) (data : List Byte) (s : State) : Res :=
  .next (s.served fun s => s.accessAct w (0x311101 + i) data (·.writeThen w (0x311101 + i) data State.flushCache))

/-- FLUSH_CACHE. -/
def execFlushCache (w : Writer) (v : Byte) (s : State) : Res :=
  .next (s.served fun s => s.accessAct w 0x312202 [v] fun s => (s.flushCache, 0))

/-- CACHE_ENTRY_EXPIRY. -/
def execCacheEntryExpiry (identity : BitVec 64) (s : State) : Res := .next (s.served (·.cacheExpiry identity.toNat))

/-- OFFER. -/
def execOffer (p : Cpl) (identity : BitVec 64) (exchange : BitVec 32) (cacheFlag : Bool) (s : State) : Res :=
  .next (s.served (·.offer p.no identity.toNat exchange.toNat cacheFlag))

/-- CERTS. -/
def execCerts (p : Cpl) (c : DeviceCert) (s : State) : Res := .next (s.served (·.certs p.no c))

/-- PROOF. -/
def execProof (p : Cpl) (sigOk : Bool) (s : State) : Res := .next (s.served (·.proof p.no sigOk))

/-- RESUME. -/
def execResume (p : Cpl) (hmacOk : Bool) (s : State) : Res := .next (s.served (·.resumeMsg p.no hmacOk))

/-- CONFIRM. -/
def execConfirm (p : Cpl) (hmacOk : Bool) (s : State) : Res := .next (s.served (·.confirm p.no hmacOk))

/-- REFUSE. -/
def execRefuse (p : Cpl) (s : State) : Res := .next (s.served (·.refuseMsg p.no))

/-- AUTH_RETRY_TIMER. -/
def execAuthRetryTimer (p : Cpl) (s : State) : Res := .next (s.served (·.authRetry p.no))

/-- REKEY_TRIGGER. -/
def execRekeyTrigger (p : Cpl) (s : State) : Res := .next (s.served (·.rekeyTrigger p.no))

/-- REKEY_OFFER. -/
def execRekeyOffer (p : Cpl) (identity : BitVec 64) (s : State) : Res :=
  .next (s.served (·.rekeyOffer p.no identity.toNat))

/-- REKEY_CONFIRM. -/
def execRekeyConfirm (p : Cpl) (hmacOk : Bool) (s : State) : Res := .next (s.served (·.rekeyConfirm p.no hmacOk))

/-- STREAM_KEY_DELIVERY. -/
def execStreamKeyDelivery (source : BitVec 64) (view : Fin 16) (inst epoch : Nat) (s : State) : Res :=
  .next (s.served (·.keyDelivery source.toNat view inst epoch))

/-- STREAM_KEY_ACK: from the sink, over a node session (R322, R329). -/
def execStreamKeyAck (sink : BitVec 64) (view : Fin 16) (inst epoch : Nat) (s : State) : Res :=
  .next (s.served fun s => if s.nodeOpen sink.toNat then s.keyAck sink.toNat view inst epoch else s)

/-- IMAGE_LOAD: with no image verified, the enclave accepts an image through the host mailbox alone (R331, R403). -/
def execImageLoad (w : Writer) (img : Image) (s : State) : Res :=
  .next (if s.power.phase = .noImage then (if w.path = .host then (s.imageLoad img).1.respond w (s.imageLoad img).2 [] else s)
    else s.served fun s =>
      let st := s.writeStatus w 0x314001 []
      if st ≠ 0 then s.respond w st [] else (s.imageLoad img).1.respond w (s.imageLoad img).2 [])

/-- SELECT_IMAGE (R332, step 2). -/
def execSelectImage (w : Writer) (v : Byte) (s : State) : Res :=
  .next (s.served fun s => s.accessAct w 0x314007 [v] (·.selectImage v.toNat))

/-- HEALTH_TIMEOUT. -/
def execHealthTimeout (s : State) : Res := .next s.healthTimeout

/-- IMAGE_HEALTHY. -/
def execImageHealthy (s : State) : Res := .next s.imageHealthy

/-- ADVANCE_ROLLBACK_FLOOR. -/
def execAdvanceRollbackFloor (w : Writer) (v : Byte) (s : State) : Res :=
  .next (s.served fun s => s.accessAct w 0x314008 [v] (·.advanceFloor v.toNat))

/-- CLOSE_ARM. -/
def execCloseArm (w : Writer) (data : List Byte) (s : State) : Res :=
  .next (s.served fun s => s.accessAct w 0x316001 data (·.closeArm data))

/-- CLOSE_CONFIRM. -/
def execCloseConfirm (w : Writer) (c : Chain) (sigOk : Bool) (s : State) : Res :=
  .next (s.served fun s => s.accessAct w 0x316003 [] (·.closeConfirm c sigOk))

/-- CHALLENGE_EXPIRED. -/
def execChallengeExpired (s : State) : Res := .next (s.served (·.challengeExpired))

/-- DEBUG_UNLOCK. -/
def execDebugUnlock (w : Writer) (v : Byte) (s : State) : Res :=
  .next (s.served fun s => s.accessAct w 0x316004 [v] (·.debugUnlock))

/-- LAST_KNOWN_TIME_STORE. -/
def execLastKnownTimeStore (s : State) : Res := .next (s.served (·.storeTime))

end Sys2Proof.Machine
end

