-- ==== Sys2Proof/Machine/Time.lean ====
section
/-!
DEFINITION. Cluster time, network time, pulses and captures (spec/07_cluster_time.md).
-/

namespace Sys2Proof.Machine

/-! ### Sorting and averaging -/

/-- A number put into a rising list. -/
def insertInt (a : Int) : List Int → List Int
  | [] => [a]
  | b :: t => if a ≤ b then a :: b :: t else b :: insertInt a t

/-- A list sorted. -/
def sortInt (l : List Int) : List Int := l.foldr insertInt []

/-- k of R187 and R188: 1 up to 7 values, else 2. -/
def dropCount (n : Nat) : Nat := if n ≤ 7 then 1 else 2

/-- The values left after the k smallest and the k largest are dropped (R187). -/
def trimmed (l : List Int) : List Int :=
  let k := dropCount l.length
  ((sortInt l).drop k).take (l.length - 2 * k)

/-- A quotient rounded to the nearest integer, halves upward. -/
def roundDiv (a : Int) (b : Nat) : Int := (2 * a + b) / (2 * b : Nat)

/-- ps and 1/65536 ns into one another. -/
def psToUnits (ps : Int) : Int := ps * 65536 / 1000
def unitsToPs (u : Int) : Int := Int.tdiv (u * 1000) 65536

namespace State

/-- The channels on which this node sends SYNC (R182, R187): none without a sync order. -/
def syncChannels (s : State) : List Chan :=
  if s.int 0x260007 = 0 ∨ s.mu.yielded then [] else [Chan.a, Chan.b].filter s.drives

/-- The lead berth is this one (R19, 0x2220:0B). -/
def isLead (s : State) : Bool := (s.nat 0x22200B).testBit 0

/-- HOLDOVER is entered (R189): the holdover count starts, source 108. -/
def enterHoldover (s : State) : State :=
  let s := (s.put 0x260001 3).raise 108 3 0 0
  { s with clock := { s.clock with holdPassages := 0 } }

/-- SYNC is entered (R189): a long holdover ends. -/
def enterSync (s : State) : State := (s.put 0x260001 2).putFlag 0x26000D false

/-- The values of this passage that enter averaging: the valid deviations, and 0 once per channel the node sends SYNC
on (R187). -/
def avgVals (s : State) : List Int :=
  (s.clock.vals.filter (·.used)).map (·.d) ++ s.syncChannels.map (fun _ => (0 : Int))

/-- The offset correction before its limit, in 1/256 ns: minus the mean of what is left (R187). -/
def rawDelta (s : State) : Int :=
  let r := trimmed s.avgVals
  0 - roundDiv r.sum (256 * r.length)

/-- δ is beyond the limit 0x2601:02 (ns). -/
def deltaRejected (s : State) : Bool := decide (s.int 0x260102 * 256 < s.rawDelta.natAbs)

/-- The deviations of the passage kept for the rate correction, with the δ applied since passage 0 removed (R188). -/
def keepVals (s : State) : State :=
  let l := (s.clock.vals.filter (·.used)).map (fun v => { v with d := v.d - s.clock.applied * 256 })
  { s with clock := { s.clock with
    at0 := if s.passage = 0 then l else s.clock.at0, at63 := if s.passage = 63 then l else s.clock.at63,
    lastVals := s.clock.vals, vals := [] } }

/-- The time state after an averaging of n values (R187, R189). `good`: n >= 4 and δ within its limit. -/
def avgState (s : State) (n : Nat) (good : Bool) : State :=
  if s.timeState = 1 then
    if s.mu.integrated then (if n < 4 then s.enterHoldover else if good then s.enterSync else s) else s
  else if s.timeState = 2 then (if n < 4 then s.enterHoldover else s)
  else if s.timeState = 3 then (if good then s.enterSync else s)
  else s

/-- The offset correction after the last SYNC slot (R187, R189). -/
def offsetCorrection (s : State) : State :=
  if s.timeState = 0 then s
  else
    let n := s.avgVals.length
    let hold := decide (s.timeState = 3)
    let rej := decide (4 ≤ n) && s.deltaRejected
    let good := decide (4 ≤ n) && !rej
    let δ := if good then s.rawDelta else 0
    let r := trimmed s.avgVals
    let rejects := if rej ∧ s.timeState ≠ 1 then s.clock.rejects + 1 else 0
    let s1 := (s.put 0x260002 n).put 0x260003 (Int.tdiv (δ * 1000) 256)
    let s1 := if 4 ≤ n then s1.put 0x260006 (unitsToPs (r.getLastD 0 - r.headD 0)) else s1
    let s1 := if rej then s1.bump 0x26000B else s1
    let s1 := if hold then s1.bump 0x26000A else s1
    let s1 := { s1.keepVals with clock := { s1.keepVals.clock with
      delta := δ, rejects := rejects, holdPassages := if hold then s1.clock.holdPassages + 1 else s1.clock.holdPassages } }
    if 2 ≤ rejects ∧ (s.timeState = 2 ∨ s.timeState = 3) then s1.timeOut else s1.avgState n good

/-- The drifts of R188 over passages 0 to 63, in 1/65536 ns. -/
def drifts (s : State) : List Int :=
  s.clock.at63.filterMap (fun v =>
    (s.clock.at0.find? (fun u => decide (u.order = v.order ∧ u.chan = v.chan))).map (fun u => v.d - u.d)) ++
  s.syncChannels.map (fun _ => (0 : Int))

/-- The values of a flight are judged. -/
def dropDrifts (s : State) : State := { s with clock := { s.clock with at0 := [], at63 := [] } }

/-- The rate correction at a flight boundary (R188), and OUT where it exceeds the rate limit (R189). -/
def rateCorrection (s : State) : State :=
  let l := s.drifts
  if 4 ≤ l.length ∧ s.timeState ≠ 0 then
    let r := trimmed l
    let step := Rate.neg (Rate.norm r.sum (r.length * 65536 * 63 * s.passageLen.toNat))
    let ρ := Rate.add s.clock.rho step
    let s := ((s.put 0x260004 (Rate.ppt ρ)).put 0x260005 (Rate.ppt step)).put 0x210402 (Int.tdiv (-(Rate.ppt ρ)) 1000)
    let s := ({ s with clock := { s.clock with rho := ρ } } : State).dropDrifts
    if s.int 0x260103 * 1000000 < (Rate.ppt ρ).natAbs ∧ s.timeState ≠ 4 then s.timeOut else s
  else s.dropDrifts

/-- Holdover beyond its limit (R189). -/
def holdoverLimit (s : State) : State :=
  if s.timeState = 3 ∧ s.nat 0x260104 * 64 ≤ s.clock.holdPassages ∧ s.flag 0x26000D = false then
    (s.putFlag 0x26000D true).raise 135 0 0 0
  else s

/-! ### Domains -/

/-- The records of a domain: configuration and status keys. -/
def domCfg : Dom → Nat | .ta => 0x261000 | .tb => 0x261100
def domSt : Dom → Nat | .ta => 0x261200 | .tb => 0x261300
def domNo : Dom → Nat | .ta => 0 | .tb => 1

/-- A domain's state changes: source 111 or 112 (R194). -/
def setDomState (s : State) (d : Dom) (v : Nat) : State :=
  if s.int (domSt d + 1) = v then s else (s.put (domSt d + 1) v).raise (111 + domNo d) v 0 0

/-- The domain's time at an instant of CT by the relation taken (R194). -/
def relationAt (s : State) (d : Dom) (ct : Int) : Int :=
  let ref := s.int (domSt d + 5)
  let b := s.bytes (domSt d + 6)
  let dom : Int := field b 0 8 * 65536 + field b 8 2
  let rate := Rate.ofPpt (signed 32 (field b 10 4))
  dom + (ct - ref) + Int.tdiv ((ct - ref) * rate.num) rate.den

/-- The code of 0x2619:01 for a domain followed, plain or slewing. -/
def ntCode (d : Dom) (slewing : Bool) : Int := (match d with | .ta => 1 | .tb => 2) + (if slewing then 2 else 0)

/-- The rate of NT (R195, step 2): the domain's, and while it slews the slew rate σ of CT toward it. -/
def ntRate (s : State) (d : Dom) : Rate :=
  let x := (s.domain d).view.rate
  let c := s.clock.ct.rate
  if s.clock.ntSlewing then
    let sign : Int := if s.clock.ntS0 < 0 then -1 else 1
    Rate.add x (Rate.norm (0 - sign * s.clock.ntSigma * (c.den + c.num)) (1000000 * c.den))
  else x

/-- NT re-anchored at the counter (R179): continued at the value `old` while it slews, else as its domain's view. -/
def ntAnchor (s : State) (d : Dom) (old : Int) : State :=
  { s with clock := { s.clock with
    nt := if s.clock.ntSlewing then { anchor := s.clock.counter, base := old, rate := s.ntRate d } else (s.domain d).view } }

/-- NT begins a slew of s0 at an instant of CT (R195, step 2). -/
def ntSlew (s : State) (d : Dom) (s0 tsw : Int) (sigma : Nat) (counted : Bool) : State :=
  let s := s.put 0x261901 (ntCode d true)
  let s : State := { s with clock := { s.clock with
    ntDom := some d, ntS0 := s0, ntTsw := tsw, ntSigma := sigma, ntSlewing := true, ntCounted := counted } }
  s.ntAnchor d (s.domAt d s.clock.counter 0 + s.slewAt s.ctNow)

/-- The slew rate of the lead (R194, R195): its own entry there, elsewhere what it last told. -/
def slewRate (s : State) : Nat := if s.isLead then s.nat 0x261802 else s.clock.ntSigma

/-- A domain view takes the first relation of a new gateway (R179, R194): a step, which NT takes up as a slew. -/
def domStep (s : State) (d : Dom) (rel : Rate) : State :=
  let x := s.domain d
  let c := s.clock.counter
  let v := s.relationAt d s.ctNow
  let old := s.ntNow
  let step := s.domValid d && decide (v ≠ s.domAt d c 0)
  let was := s.ntValid && decide (s.clock.ntDom = some d)
  let s := s.setDomain d { x with
    view := { anchor := c, base := v, rate := Rate.compose s.clock.ct.rate rel }, rate := rel, slew := {}, left := 0,
    fresh := false, moved := false }
  let s : State := { s with clock := { s.clock with stepped := s.clock.stepped || step } }
  if was then
    if v ≠ old ∧ step then
      s.ntSlew d (old - v) s.ctNow s.slewRate (if s.clock.ntSlewing then s.clock.ntCounted else true)
    else s.ntAnchor d old
  else s

/-- The rate that brings a view over one flight to where a relation has it (log 76). -/
def domSlew (s : State) (gap : Int) : Rate :=
  if s.passageLen ≤ 0 then {} else Rate.norm gap (65536 * 64 * s.passageLen.toNat)

/-- One domain view re-anchored at a passage start (R179, R194): continued at the rate of its relation; the first relation
of a gateway steps it, a later one is slewed in over a flight. NT follows. -/
def domPassage (s : State) (d : Dom) : State :=
  let x := s.domain d
  let c := s.clock.counter
  let rel := Rate.ofPpt (signed 32 (field (s.bytes (domSt d + 6)) 10 4))
  if x.known = false ∨ s.timeState = 0 then s
  else if x.fresh && x.moved then s.domStep d rel
  else
    let old := s.ntNow
    let y : Domain := if x.fresh then
        { x with rate := rel, slew := s.domSlew (s.relationAt d s.ctNow - s.domAt d c 0), left := 64, fresh := false }
      else { x with left := x.left - 1 }
    let r := if y.left = 0 then y.rate else Rate.add y.rate y.slew
    let s := s.setDomain d { y with view := x.view.reanchor c (Rate.compose s.clock.ct.rate r) }
    if s.clock.ntDom = some d then s.ntAnchor d old else s

/-- The selection of the consist (R195): the last switch's or the lead's word, at the lead before any its own entry. -/
def selected (s : State) : Option Dom :=
  match s.clock.ntSel with
  | some d => some d
  | none => if s.isLead then some (if s.int 0x261801 = 2 then .tb else .ta) else none

/-- NT takes up the selected domain once that is valid and NT follows none. -/
def ntStart (s : State) : State :=
  match s.selected with
  | none => s
  | some d =>
    if s.clock.ntDom.isNone ∧ s.domValid d then
      { s.put 0x261901 (ntCode d false) with clock := { s.clock with ntDom := some d, ntSel := some d, nt := (s.domain d).view } }
    else s

/-- A passage begins (R142, R180): CT is re-anchored with rate ρ + δ ÷ P, and the views that rest on it follow. -/
def clockPassage (s : State) (n : Nat) : State :=
  if s.timeState = 0 then s.put 0x240004 n
  else
    let k := s.clock
    let rate := Rate.add k.rho (Rate.norm k.delta (256 * s.passageLen.toNat))
    let s := { s.put 0x240004 n with clock := { k with
      ct := k.ct.reanchor k.counter rate, applied := if n = 0 then 0 else k.applied + k.slewing, slewing := k.delta,
      delta := 0 } }
    ((s.domPassage .ta).domPassage .tb).ntStart

/-- A gPTP port's instants of CT moved by a step of CT (R181, R193). -/
def Gptp.shift (step : Int) (g : Gptp) : Gptp :=
  { g with sync := g.sync.map (fun (x : Nat × Int) => (x.1, x.2 + step)), last := g.last.map (fun (x : Int × Int) => (x.1 + step, x.2)),
           ctRef := g.ctRef + step }

/-- CT steps by an adoption (R181): the domain relations, an announced switch and a running slew keep their instants, so
that TA, TB and NT do not step. -/
def ctStep (s : State) (step : Int) (rho : Rate) : State :=
  let k := s.clock
  let c := k.counter
  let old := s.ntNow
  let s := { s with clock := { k with
    ct := { anchor := c, base := k.ct.read c 0 + step, rate := rho }, rho := rho, delta := 0, slewing := 0, applied := 0,
    ntTsw := k.ntTsw + step, ntNext := k.ntNext.map (fun (x : Dom × Int) => (x.1, x.2 + step)),
    gptp := k.gptp.map (fun (e : Nat × Gptp) => (e.1, Gptp.shift step e.2)),
    ta := { k.ta with view := k.ta.view.reanchor c (Rate.compose rho k.ta.rate) },
    tb := { k.tb with view := k.tb.view.reanchor c (Rate.compose rho k.tb.rate) } } }
  let s := match s.clock.ntDom with | some d => s.ntAnchor d old | none => s
  ((s.put 0x261205 (s.int 0x261205 + step)).put 0x261305 (s.int 0x261305 + step)).bump 0x260008

/-- The relation of a domain written by its gateway (R194, R322). -/
def relationWrite (s : State) (d : Dom) (origin : Nat) (ref : Int) (rel : List Byte) : State :=
  if (s.nodeOpen origin ∨ origin = s.fuses.identity) ∧ s.int (domSt d + 3) = origin ∧ rel.length = 14 then
    let s := (((s.put (domSt d + 5) ref).putBytes (domSt d + 6) rel).put (domSt d + 7) 0).bump (domSt d + 8)
    (s.setDomain d { s.domain d with fresh := true, known := true, orphan := 0 }).setDomState d 1
  else s

/-- A relation older than 4 flights (R194). -/
def relationStale (s : State) (d : Dom) : State :=
  if s.int (domSt d + 1) = 1 ∧ 4 < s.int (domSt d + 7) then s.setDomState d 2 else s

/-- A domain without gateway for 64 flights (R194): its view, and NT on it, are invalid. -/
def domainAbsent (s : State) (d : Dom) : State :=
  if 64 ≤ (s.domain d).orphan ∧ s.int (domSt d + 1) ≠ 0 then
    let s := s.setDomState d 0
    if s.clock.ntDom = some d then
      { s.put 0x261901 0 with clock := { s.clock with ntDom := none, ntSlewing := false, ntS0 := 0 } }
    else s
  else s

/-! ### The selected network time -/

/-- The lead's word on NT to every berth (R195): the domain, T_sw and the slew rate. -/
def tellSelection (s : State) (d : Dom) (tsw : Int) : State :=
  s.sendMgmt 0 0x2618 5 (le 1 (ntCode d false) ++ le 8 (tsw / 65536) ++ le 2 (s.int 0x261802))

/-- The lead decides a switch (R195, step 1): T_sw is the start of flight f + 3, told to every berth. -/
def ntDecide (s : State) (d : Dom) : State :=
  let tsw := s.clock.flightStart + 3 * 64 * s.passageLen * 65536
  let s := s.tellSelection d tsw
  { s with clock := { s.clock with ntNext := some (d, tsw), ntSigma := s.nat 0x261802 } }

/-- NT switches to a domain at T_sw (R195, step 2): s_0 = NT_old(T_sw) - X_new(T_sw). -/
def ntApply (s : State) (d : Dom) (tsw : Int) (sigma : Nat) : State :=
  let late := s.ctNow - tsw
  let at_ (e : Dom) : Int := s.domAt e s.clock.counter 0 - late - Int.tdiv (late * (s.domain e).rate.num) (s.domain e).rate.den
  let s0 := match s.clock.ntDom with
    | some e => if s.ntValid then at_ e + s.slewAt tsw - at_ d else 0
    | none => 0
  let s := { s with clock := { s.clock with ntNext := none, ntSel := some d } }
  ((s.put 0x261903 tsw).ntSlew d s0 tsw sigma false).raise 110 (domNo d + 1) 0 0

/-- An announcement of the lead reaches a node (R195): one that comes after T_sw is applied at once. One that names the
domain already followed, with no switch under way, only tells the selection and the slew rate (log 77). -/
def ntAnnounce (s : State) (d : Dom) (tsw : Int) (sigma : Nat) : State :=
  if s.clock.ntDom = some d ∧ s.clock.ntNext = none then
    { s with clock := { s.clock with ntSel := some d, ntSigma := if s.clock.ntSlewing then s.clock.ntSigma else sigma } }
  else if tsw < s.ctNow ∧ s.ctValid then s.ntApply d tsw sigma
  else { s with clock := { s.clock with ntNext := some (d, tsw), ntSigma := sigma } }

/-- T_sw of the switch announced (R195). -/
def ntInstant (s : State) : State :=
  match s.clock.ntNext with
  | some (d, tsw) => s.ntApply d tsw s.clock.ntSigma
  | none => s

/-- s(t) has reached 0 (R195, step 3). -/
def ntSlewEnd (s : State) : State :=
  match s.clock.ntDom with
  | some d =>
    if s.clock.ntSlewing ∧ s.slewAt s.ctNow = 0 then
      let s := if s.clock.ntCounted then s else s.bump 0x261904
      { s.put 0x261901 (ntCode d false) with clock := { s.clock with
        ntSlewing := false, ntS0 := 0, ntCounted := true, nt := (s.domain d).view } }
    else s
  | none => s

/-- The other domain. -/
def otherDom : Dom → Dom | .ta => .tb | .tb => .ta

/-- The fallback delay is over (R196). -/
def ntFallback (s : State) : State :=
  let d := s.clock.ntDom.getD (s.selected.getD .ta)
  if s.isLead ∧ s.flag 0x261803 ∧ s.int (domSt d + 1) ≠ 1 ∧ s.int (domSt (otherDom d) + 1) = 1 then
    s.ntDecide (otherDom d)
  else s

/-- A selection request (R195): decided at the lead, else carried to it. -/
def selectionRequest (s : State) (v : Nat) : State × Nat :=
  let d : Dom := if v = 2 then .tb else .ta
  if s.isLead then (s.ntDecide d, 0) else (s.sendMgmt (s.nat 0x222007) 0x2618 5 [BitVec.ofNat 8 v], 0)

/-! ### gPTP on the star ports (R192, R193, R198) -/

/-- One star port's gPTP state. -/
def gp (s : State) (p : Nat) : Gptp := Tab.get {} s.clock.gptp p
def setGp (s : State) (p : Nat) (g : Gptp) : State :=
  { s with clock := { s.clock with gptp := Tab.set {} s.clock.gptp p g } }

/-- The domain a star port is the input of (R192). -/
def inputOf (s : State) (p : Nat) : Option Dom :=
  if s.flag (domCfg .ta + 1) ∧ s.nat (domCfg .ta + 3) = 0x10 + p then some .ta
  else if s.flag (domCfg .tb + 1) ∧ s.nat (domCfg .tb + 3) = 0x10 + p then some .tb else none

/-- A star port's link is UP. -/
def starUp (s : State) (p : Nat) : Bool := decide (s.int (Od.key (0x2418 + p) 4) = 2)

/-- The domain that messages of a domain number on a port belong to (R192, R193). -/
def inputIn (s : State) (p number : Nat) : Option Dom :=
  (s.inputOf p).bind (fun d => if s.nat (domCfg d + 2) = number then some d else none)

/-- A two-step Sync of the input's domain (R192, R193): the node offers the domain; the stamp is in CT. -/
def gptpSync (s : State) (p number seqNo fine : Nat) : State :=
  match s.inputIn p number with
  | none => s
  | some d =>
    if s.starUp p = false then s
    else
      let s := if s.ctValid then s.setGp p { s.gp p with sync := some (seqNo, s.ctAt s.clock.counter fine) } else s
      s.setDomain d { s.domain d with offers := true }

/-- A Follow_Up completes a Sync (R193): the relation's reference instant, domain time and rate, the rate filtered over
8 Sync intervals. -/
def gptpFollowUp (s : State) (p number seqNo : Nat) (origin : Int) : State :=
  let g := s.gp p
  match s.inputIn p number, g.sync with
  | some _, some (n, ct) =>
    if n ≠ seqNo then s
    else
      let dom := origin + psToUnits (s.int (Od.key (0x2620 + p) 7))
      let rates := match g.last with
        | some (c0, d0) => if ct = c0 then g.rates
          else (Int.tdiv (((dom - d0) - (ct - c0)) * 1000000000000) (ct - c0) :: g.rates).take 8
        | none => g.rates
      s.setGp p { g with sync := none, last := some (ct, dom), rates := rates, ctRef := ct, domRef := dom }
  | _, _ => s

/-- The relation an input port holds: reference instant, and the 14 bytes of 0x2612:06. -/
def portRelation (s : State) (p : Nat) : Int × List Byte :=
  let g := s.gp p
  let rate := if g.rates = [] then 0 else Int.tdiv g.rates.sum g.rates.length
  (g.ctRef, le 8 (g.domRef / 65536) ++ le 2 (g.domRef % 65536) ++ le 4 rate)

/-- A peer-delay answer (R198): t2 and t3 are the peer's ingress and egress times, in 1/65536 ns. -/
def gptpPdelayResp (s : State) (p : Nat) (t2 t3 : Int) (fine : Nat) : State :=
  let g := s.gp p
  match g.reqAt with
  | none => s
  | some t1 =>
    let t4 : Int := ((s.clock.counter * 32 + fine : Nat) : Int) * 65536 / 10
    let d := ((t4 - t1) - (t3 - t2)) / 2
    let s := s.put (Od.key (0x2620 + p) 7) (max 0 (unitsToPs d))
    let s := match g.lastResp with
      | some (a, b) => if t4 = b then s
        else s.put (Od.key (0x2620 + p) 8) (Int.tdiv (((t3 - a) - (t4 - b)) * 1000000000000) (t4 - b))
      | none => s
    s.setGp p { g with reqAt := none, lastResp := some (t3, t4), failed := false }

/-- An exchange without a valid answer (R211). -/
def peerDelayFailure (s : State) (p : Nat) : State :=
  (s.bump (Od.key (0x2620 + p) 0x0A)).setGp p { s.gp p with reqAt := none, failed := true }

/-- An Announce on an input port (R193). -/
def gptpAnnounce (s : State) (p number : Nat) (grandmaster : Nat) : State :=
  match s.inputIn p number with
  | some d => s.put (domSt d + 4) grandmaster
  | none => s

/-- No Sync within the receive timeout (R192). -/
def gptpTimeout (s : State) (p : Nat) : State :=
  match s.inputOf p with
  | some d => (s.setGp p { s.gp p with sync := none }).setDomain d { s.domain d with offers := false }
  | none => s

/-- The served time of a port is valid (R198). -/
def servedValid (s : State) (p : Nat) : Bool :=
  let v := s.int (Od.key (0x2620 + p) 1)
  if v = 1 then decide (s.timeState = 2 ∨ s.timeState = 3) else if v = 2 then s.ntValid else false

/-- A port that serves a time (R198); one that measures its neighbour's delay: a serving port, and an input (R193). -/
def gptpServes (s : State) (p : Nat) : Bool := s.starUp p && decide (s.int (Od.key (0x2620 + p) 1) ≠ 0)
def gptpMeasures (s : State) (p : Nat) : Bool := s.starUp p && ((s.inputOf p).isSome || decide (s.int (Od.key (0x2620 + p) 1) ≠ 0))

/-- The port state of 0x2620:06 (R211). -/
def gptpState (s : State) (p : Nat) : Nat :=
  if s.flag (Od.key (0x2418 + p) 1) = false then 0
  else if (s.gp p).failed then 4
  else (if s.int (Od.key (0x2620 + p) 1) ≠ 0 then 1 else 0) + (if (s.inputOf p).isSome then 2 else 0)

/-! ### The egress of a star port (R139) -/

/-- One star port's egress. -/
def star (s : State) (p : Nat) : StarLine := Tab.get {} s.clock.star p
def setStar (s : State) (p : Nat) (x : StarLine) : State :=
  { s with clock := { s.clock with star := Tab.set {} s.clock.star p x } }

/-- The order of service (R139): gPTP event messages, TRIGGER frames, forwarded slices (2), other gPTP messages. -/
def starClass : StarItem → Nat
  | .gptp (.sync _ _) | .gptp (.pdelayReq _) | .gptp (.pdelayResp _ _) => 0
  | .trigger _ _ => 1
  | .gptp _ => 3

/-- Bytes of a frame without its FCS: the Ethernet header and the message (IEEE 802.1AS-2020, log 75); a TRIGGER frame. -/
def starBytes : StarItem → Nat
  | .gptp (.sync _ _) => 58
  | .gptp (.followUp _ _ _) => 90
  | .gptp (.announce _ _) => 90
  | .gptp _ => 68
  | .trigger _ _ => 86

/-- The ticks a frame of some bytes takes on a star link (R137), with FCS, preamble and gap. -/
def starTicks (s : State) (p bytes : Nat) : Nat :=
  let n := max 64 (bytes + 4) + 20
  let v := s.nat (Od.key (0x2418 + p) 2)
  if v = 0 then n * 25 else if v = 1 then (n * 5 + 1) / 2 else n

/-- A frame of some ticks started now ends within the transmit window (R139); without CT there is no passage and no
window. -/
def starFits (s : State) (p ticks : Nat) : Bool :=
  let b := Od.key (0x2418 + p) 0
  let lo := if s.int (b + 6) = 0 then 0 else s.int (b + 5)
  let hi := if s.int (b + 6) = 0 then s.passageLen else s.int (b + 5) + s.int (b + 6)
  let at_ := s.ctNow - s.passageStart
  s.ctValid = false || (decide (lo * 65536 ≤ at_) && decide (at_ + (ticks : Int) * 1048576 / 5 ≤ hi * 65536))

/-- A star egress can start a frame of some bytes now. -/
def starFree (s : State) (p bytes : Nat) : Bool :=
  s.starUp p && decide ((s.star p).busyUntil ≤ s.clock.counter) && s.starFits p (s.starTicks p bytes)

/-- A frame has started on a star port: counted, and the port is busy for its length (R139, R169). -/
def starLeaves (s : State) (p bytes : Nat) : State :=
  (s.bump (Od.key (0x2418 + p) 8)).setStar p { s.star p with busyUntil := s.clock.counter + s.starTicks p bytes }

/-- Something waits at a star egress, in its class. -/
def starQueue (s : State) (p : Nat) (x : StarItem) : State :=
  let q := (s.star p).queue
  let before := q.takeWhile (fun y => decide (starClass y ≤ starClass x))
  s.setStar p { s.star p with queue := before ++ [x] ++ q.drop before.length }

/-- The time a star port serves now, at a fine part (R198): CT or NT, corrected by the port's asymmetry. -/
def servedStamp (s : State) (p fine : Nat) : Int :=
  s.baseAt (if s.int (Od.key (0x2620 + p) 1) = 1 then 0 else 1) s.clock.counter fine + psToUnits (s.int (Od.key (0x2620 + p) 5))

/-- A stamp of the local counter, in 1/65536 ns. -/
def counterStamp (s : State) (fine : Nat) : Int := ((s.clock.counter * 32 + fine : Nat) : Int) * 65536 / 10

/-- The Limiwyn header of a frame on a star port (R160): no slot, no channel. -/
def starHeader (s : State) (ptype len : Nat) : Header :=
  { ptype := BitVec.ofNat 4 ptype, channel := .a, dir := .rearward, openWater := true,
    passive := !s.mu.integrated || s.isPassive, berth := if s.mu.applied then s.nat 0x222002 else 0,
    mode := Fin.ofNat 16 (s.nat 0x240002), flight := BitVec.ofNat 32 s.flight, passage := Fin.ofNat 64 s.passage, slotIndex := 0,
    length := len, hash := BitVec.ofNat 32 (s.nat 0x222001) }

/-- The next AVTP sequence number of a star port and payload type (R159), and the state that has used it. -/
def starSequence (s : State) (p ptype : Nat) : Nat := Tab.get (α := Nat) 0 s.line.seqNos (256 + p * 16 + ptype)
def usedSequence (s : State) (p ptype : Nat) : State :=
  { s with line := { s.line with
    seqNos := Tab.set (α := Nat) 0 s.line.seqNos (256 + p * 16 + ptype) ((s.starSequence p ptype + 1) % 256) } }

/-- A message leaves a star port (R139, R198): an event message is stamped, and what its stamp belongs to follows it. The
fine part of the egress stamp is a free value (log 3). -/
def starSend (s : State) (p : Nat) (x : StarItem) : State :=
  let id := s.fuses.identity
  let fine := s.freeNat % 32
  let s := (s.tookFree.starLeaves p (starBytes x))
  match x with
  | .gptp (.sync n q) =>
    ((s.bump (Od.key (0x2620 + p) 9)).emit (.gptp p id (.sync n q))).starQueue p (.gptp (.followUp n q (s.servedStamp p fine)))
  | .gptp (.pdelayReq q) =>
    (s.setGp p { s.gp p with reqAt := some (s.counterStamp fine) }).emit (.gptp p id (.pdelayReq q))
  | .gptp (.pdelayResp q t2) =>
    (s.emit (.gptp p id (.pdelayResp q t2))).starQueue p (.gptp (.pdelayRespFollowUp q (s.counterStamp fine)))
  | .gptp m => s.emit (.gptp p id m)
  | .trigger n payload =>
    let h := s.starHeader 0xA payload.length
    let k := s.starSequence p 0xA
    (s.usedSequence p 0xA).emit (.star p 1 (starFrame (Config.endpointAddress n) h id id k s.ct32 payload))

/-- A slice that has begun to be forwarded waits for a star port (R112, R139). -/
def sliceWaits (s : State) (p : Nat) : Bool :=
  s.slices.forward.any (fun x => x.going && decide (s.nat (Od.key (0x2C78 + x.display) 3) = 0x10 + p))

/-- The egress of a star port starts the next frame, where it is free (R139); a slice goes before gPTP messages that are no
event messages. -/
def starPump (s : State) (p : Nat) : State :=
  match (s.star p).queue with
  | [] => s
  | x :: t => if s.starFree p (starBytes x) ∧ (starClass x = 3 ∧ s.sliceWaits p = true → False) then (s.setStar p { s.star p with queue := t }).starSend p x else s

/-- A message offered to a star egress. -/
def starOffer (s : State) (p : Nat) (x : StarItem) : State := (s.starQueue p x).starPump p

/-- A serving port sends Sync; its Follow_Up comes after it (R198). -/
def gptpSyncSend (s : State) (p : Nat) : State :=
  if s.starUp p ∧ s.servedValid p then
    let q := (s.gp p).seqNo
    (s.setGp p { s.gp p with seqNo := (q + 1) % 65536 }).starOffer p (.gptp (.sync (s.nat (Od.key (0x2620 + p) 2)) q))
  else s

/-- A serving port sends Announce (R198). -/
def gptpAnnounceSend (s : State) (p : Nat) : State :=
  if s.gptpServes p then
    let q := (s.gp p).announceNo
    (s.setGp p { s.gp p with announceNo := (q + 1) % 65536 }).starOffer p (.gptp (.announce (s.nat (Od.key (0x2620 + p) 2)) q))
  else s

/-- A Pdelay_Req for the own measurement of the neighbour delay (R193, R198). -/
def gptpPdelayReqSend (s : State) (p : Nat) : State :=
  if s.gptpMeasures p then
    let q := (s.gp p).reqNo
    (s.setGp p { s.gp p with reqNo := (q + 1) % 65536 }).starOffer p (.gptp (.pdelayReq q))
  else s

/-- A Pdelay_Req is answered (R193, R198): Pdelay_Resp with its ingress stamp; its egress stamp follows. -/
def gptpPdelayReq (s : State) (p seqNo fine : Nat) : State :=
  if s.gptpMeasures p then s.starOffer p (.gptp (.pdelayResp seqNo (s.counterStamp fine))) else s

/-! ### Time pulses and captures -/

/-- One pulse output. -/
def pulse (s : State) (i : Nat) : Pulse := Tab.get {} s.clock.pulses i
def setPulse (s : State) (i : Nat) (x : Pulse) : State :=
  { s with clock := { s.clock with pulses := Tab.set {} s.clock.pulses i x } }

/-- A pulse's period, and its k-th instant (R202), in 1/65536 ns. -/
def pulsePeriod (s : State) (i : Nat) : Int := s.int (Od.key (0x2630 + i) 5) * 65536 + s.int (Od.key (0x2630 + i) 6)
def pulseAt (s : State) (i k : Nat) : Int := s.int (Od.key (0x2630 + i) 4) + k * s.pulsePeriod i

/-- The first k whose instant lies at least 1 us after t (R204). -/
def firstK (s : State) (i : Nat) (t : Int) : Nat :=
  let due := t + 65536000 - s.int (Od.key (0x2630 + i) 4)
  if s.pulsePeriod i ≤ 0 ∨ due ≤ 0 then 0 else ((due + s.pulsePeriod i - 1) / s.pulsePeriod i).toNat

/-- The time base of a pulse now. -/
def pulseNow (s : State) (i : Nat) : Int := s.baseAt (s.int (Od.key (0x2630 + i) 3)) s.clock.counter 0

/-- The view of a pulse's time base. -/
def pulseView (s : State) (i : Nat) : View := if s.int (Od.key (0x2630 + i) 3) = 0 then s.clock.ct else s.clock.nt

/-- An output asserts at an instant of a view (R203): the tick and the fine delay, for a width. An action of class 5
(R288). -/
def placeEdge (s : State) (i : Nat) (v : View) (t : Int) (width : Nat) : State :=
  let n := (v.steps t).toNat
  (s.act 5 (le 1 i ++ le 10 t)).setPulse i { s.pulse i with high := true, width := width, tick := n / 32, fine := n % 32 }

/-- An enabled record's pulse while its time base is invalid: inactive, state 5 (R203). -/
def pulseInvalid (s : State) (i : Nat) (next : Option Int) : State :=
  (s.put (Od.key (0x2630 + i) 0x10) 5).setPulse i { s.pulse i with next := next, high := false }

/-- A record's pulse at its commit (R202 to R204): an instant with less than 1 us left is missed, and counted. -/
def pulseCommit (s : State) (i : Nat) : State :=
  let b := Od.key (0x2630 + i) 0
  let x := s.pulse i
  let t := s.int (b + 4)
  let once := decide (s.int (b + 2) = 0)
  if s.int (b + 0x13) ≠ 0 then s
  else if s.flag (b + 1) = false then (s.put (b + 0x10) 0).setPulse i { x with next := none, high := false }
  else
    let s := s.setPulse i { x with k := 0 }
    if s.baseValid (s.int (b + 3)) = false then s.pulseInvalid i (if once && decide (t ≠ 0) then some t else none)
    else
      let now := s.pulseNow i
      if once then
        if t = 0 then (s.put (b + 0x10) 0).setPulse i { s.pulse i with next := none }
        else if t < now + 65536000 then ((s.bump (b + 0x12)).put (b + 0x10) 4).setPulse i { s.pulse i with next := none }
        else (s.put (b + 0x10) 1).setPulse i { s.pulse i with next := some t }
      else
        let k := s.firstK i now
        let s := if 0 < k ∧ now ≤ s.pulseAt i (k - 1) then s.bump (b + 0x12) else s
        (s.put (b + 0x10) 2).setPulse i { s.pulse i with next := some (s.pulseAt i k), k := k }

/-- A record's pulse after a step of its time base, or once that is valid or invalid (R203, R204): the first instant at
least 1 us away that has not been emitted; one that is passed over is lost without count. -/
def pulseReplace (s : State) (i : Nat) : State :=
  let b := Od.key (0x2630 + i) 0
  let x := s.pulse i
  if s.int (b + 0x13) ≠ 0 ∨ s.flag (b + 1) = false then s
  else if s.baseValid (s.int (b + 3)) = false then s.pulseInvalid i (if s.int (b + 2) = 0 then x.next else none)
  else if s.int (b + 2) = 0 then
    match x.next with
    | none => if s.int (b + 0x10) = 5 then s.put (b + 0x10) 0 else s
    | some t =>
      if t < s.pulseNow i + 65536000 then (s.put (b + 0x10) 4).setPulse i { x with next := none }
      else s.put (b + 0x10) 1
  else
    let k := max x.k (s.firstK i (s.pulseNow i))
    (s.put (b + 0x10) 2).setPulse i { x with next := some (s.pulseAt i k), k := k }

/-- ARM (R204, R212): a one-shot at the instant written. -/
def arm (s : State) (i : Nat) (t : Int) : State :=
  let b := Od.key (0x2630 + i) 0
  if s.flag (b + 1) = false ∨ s.int (b + 2) ≠ 0 ∨ s.int (b + 0x13) ≠ 0 then s
  else if s.baseValid (s.int (b + 3)) = false then s.pulseInvalid i (some t)
  else if t < s.pulseNow i + 65536000 then
    ((s.bump (b + 0x12)).put (b + 0x10) 4).setPulse i { s.pulse i with next := none }
  else (s.put (b + 0x10) 1).setPulse i { s.pulse i with next := some t }

/-- The output asserts at its instant less the output compensation (R203); a periodic pulse goes on to the next instant, a
one-shot is done. -/
def pulseEdge (s : State) (i : Nat) : State :=
  let b := Od.key (0x2630 + i) 0
  let x := s.pulse i
  match x.next with
  | none => s
  | some t =>
    if s.baseValid (s.int (b + 3)) = false then s.pulseInvalid i (if s.int (b + 2) = 0 then x.next else none)
    else
      let s := (s.bump (b + 0x11)).placeEdge i (s.pulseView i) (t - psToUnits (s.int (b + 9))) (s.nat (b + 7))
      if s.int (b + 2) = 0 then (s.put (b + 0x10) 3).setPulse i { s.pulse i with next := none }
      else (s.put (b + 0x10) 2).setPulse i { s.pulse i with k := x.k + 1, next := some (s.pulseAt i (x.k + 1)) }

/-- The output deasserts after its width (R203). -/
def pulseEnd (s : State) (i : Nat) : State := s.setPulse i { s.pulse i with high := false }

/-- Who drives time pulse i (R202, 0x2630 + i:13) with which polarity: an enabled camera slot in time-pulse mode, an
enabled passage marker, or its own record. -/
def pulseOwner (s : State) (i : Nat) : Nat × Bool :=
  match (List.range 8).find? (fun n => s.flag (Od.key (0x2810 + n) 1) && decide (s.int (Od.key (0x2810 + n) 3) < 0x10) &&
      decide (s.int (Od.key (0x2810 + n) 0x10) = 1) && decide (s.nat (Od.key (0x2810 + n) 0x11) = i)) with
  | some n => (1, s.flag (Od.key (0x2810 + n) 0x13))
  | none =>
    if (List.range 8).any (fun m => s.flag (Od.key (0x2468 + m) 1) && decide (s.nat (Od.key (0x2468 + m) 4) = i)) then (2, false)
    else (0, s.flag (Od.key (0x2630 + i) 8))

/-- The owners as the applied configuration gives them. -/
def pulseOwners (s : State) : State :=
  (List.range 12).foldl (fun s i =>
    let o := s.pulseOwner i
    (s.put (Od.key (0x2630 + i) 0x13) o.1).setPulse i { s.pulse i with low := o.2 }) s

/-- The level of a time pulse pin. -/
def pulsePin (s : State) (i : Nat) : Bool := (s.pulse i).high != (s.pulse i).low

/-- The FIFO of a capture. -/
def fifo (s : State) (c : Nat) : List CapEntry := Tab.get [] s.clock.captures c
def setFifo (s : State) (c : Nat) (l : List CapEntry) : State :=
  { s with clock := { s.clock with captures := Tab.set [] s.clock.captures c l } }

/-- An entry goes into a capture FIFO (R205): dropped as an overflow where it holds 16; each new entry raises 104 + c. -/
def capPush (s : State) (c : Nat) (e : CapEntry) : State :=
  let b := Od.key (0x2650 + c) 0
  if 16 ≤ (s.fifo c).length then s.bump (b + 0x14)
  else ((s.setFifo c (s.fifo c ++ [e])).bump (b + 0x15)).raise (104 + c) 0 c 0

/-- An edge at a capture input (R205, R206, R552). -/
def captureEdge (s : State) (c : Nat) (rising : Bool) (fine : Nat) : State :=
  let b := Od.key (0x2650 + c) 0
  if s.clock.running = false then
    { s with power := { s.power with captureLatch := s.power.captureLatch ||| BitVec.ofNat 4 (2 ^ c) } }
  else
    let edges := s.int (b + 2)
    if s.flag (b + 1) ∧ (edges = 3 ∨ (edges = 1 ∧ rising) ∨ (edges = 2 ∧ rising = false)) then
      let ok := s.baseValid (s.int (b + 3))
      let t := if ok then s.baseAt (s.int (b + 3)) s.clock.counter fine - psToUnits (s.int (b + 4)) else 0
      s.replicate s.ctNow (.capture c rising (!ok) t) fun s => s.capPush c { stamp := t, rising := rising, invalid := !ok }
    else s

/-- At the restart of TIME one entry per latched capture input, its stamp invalid and 0 (R206). -/
def captureLatched (s : State) (c : Nat) : State :=
  if s.power.captureLatch.getLsbD c then
    let s := { s with power := { s.power with captureLatch := s.power.captureLatch &&& ~~~ BitVec.ofNat 4 (2 ^ c) } }
    if s.flag (Od.key (0x2650 + c) 1) then s.capPush c { stamp := 0, rising := false, invalid := true } else s
  else s

/-- The TM_ snapshot (R201): CT, NT and the counter at one counter value; an invalid view reads 0. -/
def tmSnap (s : State) : State :=
  { s with clock := { s.clock with
    snapCt := if s.ctValid then s.ctNow else 0, snapNt := if s.ntValid then s.ntNow else 0,
    snapCounter := s.clock.counter } }

end State

/-! ### The commands -/

/-- OFFSET_CORRECTION. -/
def execOffsetCorrection (s : State) : Res := .next (s.served (·.offsetCorrection))

/-- HOLDOVER_LIMIT_EXPIRED. -/
def execHoldoverLimitExpired (s : State) : Res := .next (s.served (·.holdoverLimit))

/-- GPTP_SYNC_RECEIVED. -/
def execGptpSyncReceived (p : Fin 8) (m : GptpId) (fine : Fin 32) (s : State) : Res :=
  .next (s.served (·.gptpSync p m.domain m.seqNo fine))

/-- GPTP_FOLLOW_UP_RECEIVED. -/
def execGptpFollowUpReceived (p : Fin 8) (m : GptpId) (origin : Int) (s : State) : Res :=
  .next (s.served (·.gptpFollowUp p m.domain m.seqNo origin))

/-- GPTP_PDELAY_REQ_RECEIVED. -/
def execGptpPdelayReqReceived (p : Fin 8) (m : PdelayReq) (s : State) : Res :=
  .next (s.served (·.gptpPdelayReq p m.seqNo m.fine))

/-- GPTP_PDELAY_RESP_RECEIVED. -/
def execGptpPdelayRespReceived (p : Fin 8) (t2 t3 : Int) (fine : Fin 32) (s : State) : Res :=
  .next (s.served (·.gptpPdelayResp p t2 t3 fine))

/-- GPTP_ANNOUNCE_RECEIVED. -/
def execGptpAnnounceReceived (p : Fin 8) (m : GptpAnnounce) (s : State) : Res :=
  .next (s.served (·.gptpAnnounce p m.domain m.grandmaster.toNat))

/-- GPTP_SYNC_TIMEOUT. -/
def execGptpSyncTimeout (p : Fin 8) (s : State) : Res := .next (s.served (·.gptpTimeout p))

/-- GPTP_SYNC_SEND. -/
def execGptpSyncSend (p : Fin 8) (s : State) : Res := .next (s.served (·.gptpSyncSend p))

/-- GPTP_ANNOUNCE_SEND. -/
def execGptpAnnounceSend (p : Fin 8) (s : State) : Res := .next (s.served (·.gptpAnnounceSend p))

/-- GPTP_PDELAY_REQ_SEND. -/
def execGptpPdelayReqSend (p : Fin 8) (s : State) : Res := .next (s.served (·.gptpPdelayReqSend p))

/-- PEER_DELAY_FAILURE. -/
def execPeerDelayFailure (p : Fin 8) (s : State) : Res := .next (s.served (·.peerDelayFailure p))

/-- DOMAIN_RELATION_STALE. -/
def execDomainRelationStale (d : Dom) (s : State) : Res := .next (s.served (·.relationStale d))

/-- DOMAIN_ABSENT. -/
def execDomainAbsent (d : Dom) (s : State) : Res := .next (s.served (·.domainAbsent d))

/-- RELATION_WRITE. -/
def execRelationWrite (d : Dom) (origin : BitVec 64) (ref : Int) (rel : List Byte) (s : State) : Res :=
  .next (s.served (·.relationWrite d origin.toNat ref rel))

/-- SELECTION_REQUEST. -/
def execSelectionRequest (w : Writer) (v : Byte) (s : State) : Res :=
  .next (s.served fun s => s.accessAct w 0x261805 [v] (·.selectionRequest v.toNat))

/-- NT_SWITCH_ANNOUNCE. -/
def execNtSwitchAnnounce (d : Dom) (tsw : Int) (sigma : Nat) (s : State) : Res :=
  .next (s.served (·.ntAnnounce d tsw sigma))

/-- NT_SWITCH_INSTANT. -/
def execNtSwitchInstant (s : State) : Res := .next (s.served (·.ntInstant))

/-- NT_SLEW_END. -/
def execNtSlewEnd (s : State) : Res := .next (s.served (·.ntSlewEnd))

/-- NT_FALLBACK. -/
def execNtFallback (s : State) : Res := .next (s.served (·.ntFallback))

/-- TM_SNAP: a write of 1 latches (R201). -/
def execTmSnap (v : Word32) (s : State) : Res := s.atHost (fun s => if v = 1 then s.tmSnap else s)

/-- ARM. -/
def execArm (w : Writer) (i : Fin 12) (data : List Byte) (s : State) : Res :=
  .next (s.served fun s => s.accessAct w (Od.key (0x2630 + i) 0x0A) data fun s =>
    (s.arm i (match State.written (Od.key (0x2630 + i) 0x0A) data with | .num t => t | .bytes _ => 0), 0))

/-- TIME_PULSE_EDGE. -/
def execTimePulseEdge (i : Fin 12) (s : State) : Res := .next (s.served (·.pulseEdge i))

/-- TIME_PULSE_END. -/
def execTimePulseEnd (i : Fin 12) (s : State) : Res := .next (s.served (·.pulseEnd i))

/-- TIME_CAPTURE_EDGE. -/
def execTimeCaptureEdge (c : Fin 4) (rising : Bool) (fine : Fin 32) (s : State) : Res := .next (s.captureEdge c rising fine)

/-- REMOVE_OLDEST. -/
def execRemoveOldest (w : Writer) (c : Fin 4) (v : Byte) (s : State) : Res :=
  .next (s.served fun s => s.accessAct w (Od.key (0x2650 + c) 0x13) [v] fun s => (s.setFifo c (s.fifo c).tail, 0))

end Sys2Proof.Machine
end

