-- ==== Sys2Proof/Machine/Slots.lean ====
section
/-!
DEFINITION. Line-aligned timing, the passage head, mode templates and slot tables (R144, R145, R148 to R154), and the
sides and ports of a line (R11 to R14, R141, R168).
-/

namespace Sys2Proof.Machine

/-! ### Wire times and slots -/

/-- The largest payload of a head slot's type (R148). -/
def headPayload (ptype : Nat) : Nat := if ptype = 1 then 32 else if ptype = 2 then 64 else if ptype = 4 then 256 else 16

/-- A slot group of a template (R149). -/
structure Group where
  num : Nat
  ptype : Nat
  mask : Nat
  dir : Nat
  repl : Nat
  n : Nat
  size : Nat
  owner : Nat
  stream : Nat
  deriving DecidableEq, Repr

/-- The group record at a byte offset of a template (R149). -/
def groupAt (t : List Byte) (o : Nat) : Group :=
  { num := field t o 1, ptype := field t (o + 1) 1, mask := field t (o + 2) 1, dir := field t (o + 3) 1,
    repl := field t (o + 4) 1, n := field t (o + 5) 1, size := field t (o + 6) 2, owner := field t (o + 8) 8,
    stream := field t (o + 16) 2 }

/-- The groups of a template, in increasing group number. -/
def insertGroup (g : Group) : List Group → List Group
  | [] => [g]
  | h :: t => if g.num < h.num then g :: h :: t else h :: insertGroup g t
def groupsOf (t : List Byte) : List Group :=
  ((List.range (field t 4 1)).map (fun i => groupAt t (32 + 24 * i))).foldr insertGroup []

/-- The passage length of a template's passage code, ns (R149). -/
def passageOf (code : Nat) : Nat := if code = 0 then 125000 else if code = 1 then 250000 else 500000
def templatePassage (t : List Byte) : Nat := if t = [] then 250000 else passageOf (field t 3 1)

/-- A group record keeps to R149. -/
def groupOk (t : List Byte) (o : Nat) : Bool :=
  let g := groupAt t o
  decide (g.num ≤ 254) && decide (5 ≤ g.ptype ∧ g.ptype ≤ 7) && decide (1 ≤ g.mask ∧ g.mask ≤ 3) &&
  decide (1 ≤ g.dir ∧ g.dir ≤ 3) && decide (g.repl ≤ 2) && decide (g.repl = 2 → g.ptype ≠ 5) &&
  decide (1 ≤ g.n ∧ g.n ≤ 64) && decide (64 ≤ g.size ∧ g.size ≤ 9216) &&
  decide (g.ptype ≠ 5 → g.repl ≠ 0 → g.owner = 0) && decide (g.ptype ≠ 5 → g.stream = 0) &&
  decide (field t (o + 18) 6 = 0)

/-- A template of mode n keeps to R149, and names no group twice (R153). -/
def templateOk (n : Nat) (t : List Byte) : Bool :=
  let gs := groupsOf t
  decide (t.length = 32 + 24 * field t 4 1) && decide (field t 0 2 = 0x0102) && decide (field t 2 1 = n) &&
  decide (field t 3 1 ≤ 2) && decide (field t 4 1 ≤ 64) && decide (field t 5 23 = 0) &&
  decide (field t 28 4 = crc32 (t.drop 32)) &&
  (List.range (field t 4 1)).all (fun i => groupOk t (32 + 24 * i)) &&
  decide ((gs.map (·.num)).Nodup)

/-- What a table expansion depends on besides the template: rate code, guard band, berth limit, vehicles and berths. -/
structure Frame where
  code : Nat
  guard : Nat
  limit : Nat
  v : Nat
  b : Nat
  deriving DecidableEq, Repr

/-- The minimum gap, a slot's length and its cost (R151). -/
def Frame.gap (f : Frame) : Nat := f.guard + wireTicks f.code 20
def Frame.len (f : Frame) (payload : Nat) : Nat := wireTicks f.code (90 + payload)
def Frame.cost (f : Frame) (payload : Nat) : Nat := f.len payload + f.gap

/-- n_st of a passage length (R148). -/
def Frame.nStatus (f : Frame) (p : Nat) : Nat := (f.limit * p + 999999) / 1000000

/-- The head's slots one after the other (R148). -/
def headFrom (f : Frame) : Nat → List (Nat × Nat) → List Slot
  | _, [] => []
  | w, (ty, i) :: t =>
    { start := w, length := f.len (headPayload ty), ptype := ty, mask := 3, group := 0xFF, copy := i, size := headPayload ty } ::
      headFrom f (w + f.cost (headPayload ty)) t
def headSlots (f : Frame) (p : Nat) : List Slot :=
  headFrom f 0 ((List.range 15).map (fun i => (1, i)) ++ (List.range (f.nStatus p)).map (fun i => (2, i)) ++ [(4, 0), (9, 0)])

/-- The line-time end of the head, in ticks. -/
def headEnd (f : Frame) (p : Nat) : Nat := ((headSlots f p).map (fun x => f.cost x.size)).sum

/-- A placed slot with the tables that receive it: bit c * 2 + d for channel c and direction d (0 rearward). -/
abbrev Placed := Slot × Nat

/-- The tables of a mask and a direction code (R149, R152). -/
def tablesOf (mask dir : Nat) : Nat :=
  (if mask % 2 = 1 then dir % 4 else 0) + (if mask / 2 % 2 = 1 then (dir % 4) * 4 else 0)

/-- The first offset at or after t whose cost overlaps no placed slot of a common table; `l` rises by start. -/
def firstFree (f : Frame) (tabs cost : Nat) : Nat → List Placed → Nat
  | t, [] => t
  | t, (x, m) :: r =>
    if Nat.land m tabs = 0 ∨ x.start + f.cost x.size ≤ t then firstFree f tabs cost t r
    else if t + cost ≤ x.start then t
    else firstFree f tabs cost (x.start + f.cost x.size) r

/-- A placed slot put in by its start. -/
def insertPlaced (a : Placed) : List Placed → List Placed
  | [] => [a]
  | b :: t => if a.1.start < b.1.start then a :: b :: t else b :: insertPlaced a t

/-- Slot (g, c, i) placed (R152). -/
def placeOne (f : Frame) (p : Nat) (g : Group) (c : Nat) (l : List Placed) (i : Nat) : List Placed :=
  let he := headEnd f p
  let span := 9 * p / 32 - he
  let tabs := tablesOf g.mask g.dir
  let t := firstFree f tabs (f.cost g.size) (he + i * span / g.n) l
  insertPlaced
    ({ start := t, length := f.len g.size, ptype := g.ptype, mask := g.mask, group := g.num, copy := c, size := g.size,
       owner := g.owner, repl := g.repl, stream := g.stream }, tabs) l

/-- The copies of a group (R149). -/
def Frame.copies (f : Frame) (g : Group) : Nat := if g.repl = 0 then 1 else if g.repl = 1 then f.v else f.b

/-- The group slots of a template, expanded (R152). -/
def expand (f : Frame) (t : List Byte) : List Placed :=
  let p := templatePassage t
  (groupsOf t).foldl (fun l g => (List.range (f.copies g)).foldl (fun l c => (List.range g.n).foldl (placeOne f p g c) l) l) []

/-- Table k of an expansion (0 A rearward, 1 A leadward, 2 B rearward, 3 B leadward): the head, then its group slots. -/
def tableOf (f : Frame) (t : List Byte) (l : List Placed) (k : Nat) : List Slot :=
  headSlots f (templatePassage t) ++ (l.filter (fun x => x.2.testBit k)).map (·.1)

/-- The ticks of a table's group slots with their gaps. -/
def groupCost (f : Frame) (l : List Slot) : Nat := ((l.filter (fun x => x.group ≠ 0xFF)).map (fun x => f.cost x.size)).sum

/-- A number of ticks as a share of a passage in 0.01 %, to the nearest (log 15). -/
def shareOf (ticks p : Nat) : Nat := (2 * ticks * 32000 + p) / (2 * p)

/-- An expansion keeps to R153: every group slot ends by floor(0.9 p), costs within 0.85 p, at most 256 entries. -/
def expansionOk (f : Frame) (t : List Byte) : Bool :=
  let p := templatePassage t
  let l := expand f t
  l.all (fun x => decide (x.1.start + f.cost x.1.size ≤ 9 * p / 32)) &&
  (List.range 4).all (fun k => decide (groupCost f (tableOf f t l k) * 320 ≤ 85 * p) &&
    decide ((tableOf f t l k).length ≤ 256))

/-- The 64-bit entry of a slot (R154). -/
def slotWord (x : Slot) : Nat :=
  x.start * 2 ^ 46 + x.length * 2 ^ 30 + x.ptype * 2 ^ 26 + x.mask * 2 ^ 24 + x.group * 2 ^ 16 + x.copy * 2 ^ 8

namespace State

/-- The limits and the rate admitted (0x2E00). -/
def vehicleLimit (s : State) : Nat := s.nat 0x2E0001
def berthLimit (s : State) : Nat := s.nat 0x2E0002
def rateCode (s : State) : Nat := s.nat 0x2E0004
def guardBand (s : State) : Nat := s.nat 0x240006

/-- The hop period h_p, ns (R145). -/
def hopPeriod (s : State) : Nat := residence s.rateCode + s.nat 0x2E0003

/-- The template of a mode: M0's is empty, the head and open water at 250,000 ns. -/
def template (s : State) (n : Nat) : List Byte := if n = 0 then [] else s.bytes (Od.key (0x2440 + n) 1)

/-- The template hash of a mode: bytes 28 to 31. -/
def templateHash (s : State) (n : Nat) : Nat := field (s.template n) 28 4

/-- The frame of an expansion for a vehicle count V and B = the berth count. -/
def frameFor (s : State) (v b : Nat) : Frame :=
  { code := s.rateCode, guard := s.guardBand, limit := s.berthLimit, v := v, b := b }

/-- The frame of the applied consist (R232). -/
def frameNow (s : State) : Frame := s.frameFor (min (s.nat 0x222009) s.vehicleLimit) (min (s.nat 0x222008) s.berthLimit)

/-- The active mode. -/
def mode (s : State) : Nat := s.nat 0x240002

/-- The tables of the active mode at the current counts, with what 0x2400 and 0x2460 report of them (R152, R173). -/
def refreshTables (s : State) : State :=
  let f := s.frameNow
  let t := s.template s.mode
  let p := templatePassage t
  let l := expand f t
  let tabs := (List.range 4).map (fun k => (k, tableOf f t l k))
  let cost := (tabs.map (fun x => groupCost f x.2)).foldl max 0
  let s := { s with line := { s.line with tables := tabs } }
  let s := (((s.put 0x240005 p).put 0x240007 s.hopPeriod).put 0x240008 (headEnd f p)).put 0x240009 (shareOf cost p)
  let s := s.put 0x24000A (10000 - shareOf (cost + headEnd f p) p)
  tabs.foldl (fun s x => s.putBytes (0x246001 + x.1) (x.2.flatMap (fun e => le 8 (slotWord e)))) s

/-- Table k, and its entry at a slot index. -/
def tableAt (s : State) (k : Nat) : List Slot := Tab.get [] s.line.tables k
def entry? (s : State) (k i : Nat) : Option Slot := (s.tableAt k)[i]?

/-! ### Sides and ports -/

/-- A boot step is reached (R516): its time at 0x2103 in us from POR release, the first time alone. TIME counts from
step 4. -/
def bootStep (s : State) (sub : Nat) : State :=
  if s.int (0x210300 + sub) ≠ 0 then s
  else s.put (0x210300 + sub) ((s.nat 0x210303 + s.clock.counter * 32 / 10000 : Nat) : Int)

/-- R144: the egress instant of line-time offset w at a berth, 1/65536 ns. -/
def egressAt (s : State) (b : Int) (w : Nat) (rearward : Bool) : Int :=
  s.passageStart + (w : Int) * 1048576 / 5 +
    (if rearward then b - 1 else s.berthLimit - b) * s.hopPeriod * 65536

/-- The link delay of an ingress, ps: the filtered value once one came in a STATUS, else the provisional one (R185,
R218). -/
def linkDelay (s : State) (p : Nat) : Int :=
  if (s.pl p).measured then s.int (Od.key (0x2410 + p) 6) else s.int (Od.key (0x2240 + p) 5)

/-- A link delay is known (R186). -/
def delayKnown (s : State) (p : Nat) : Bool := (s.pl p).measured || decide ((s.pl p).provisional ≠ [])

/-- The coupler link's state (R136). -/
def linkState (s : State) (p : Nat) : Int := s.int (Od.key (0x2410 + p) 4)

/-- Lock-keeper state of a port (R243). -/
def keeper (s : State) (p : Nat) : Int := s.int (Od.key (0x2484 + p) 1)

/-- No slot traffic on a link (R253): down, limited, or guarded off. -/
def linkBroken (s : State) (p : Nat) : Bool :=
  decide (s.linkState p ≠ 2) || decide (2 ≤ s.keeper p)

end State

end Sys2Proof.Machine
end

