-- ==== Sys2Proof/Machine/Consist.lean ====
section
/-!
DEFINITION. The consist as a making-up computes it (R9, R14, R19, R183, R225 to R227, R230, R231).
-/

namespace Sys2Proof.Machine

/-- The record of an end of the line (R217, bytes 40 to 59): the time of the last cab assertion in 1/65536 ns. -/
structure EndRec where
  identity : Nat
  cab : Bool
  wasLead : Bool
  rank : Nat
  cabTime : Nat
  deriving DecidableEq, Repr

/-- A rank in the order of R19 and R235: 1 to 4, then 0. -/
def rankOrder (r : Nat) : Nat := if r = 0 then 5 else r

/-- A better rank, equal ranks by the lower identity (R220, R235). -/
def betterRank (r1 id1 r2 id2 : Nat) : Bool :=
  decide (rankOrder r1 < rankOrder r2) || (decide (rankOrder r1 = rankOrder r2) && decide (id1 < id2))

/-- The passage grid of R19. -/
def cabPassage (t : Nat) : Nat := t / (250000 * 65536)

/-- TRUE where the lead is the first of two end records (R19). With no cab asserted and both ends the lead at their own last
making-up (two consists coupled) R19 does not say which lead stays: the model goes on to rank and then identity (DESIGN
CHOICE, log 88). -/
def firstLeads (a b : EndRec) : Bool :=
  if a.cab ∧ b.cab then
    if cabPassage a.cabTime = cabPassage b.cabTime then decide (a.identity ≤ b.identity) else decide (a.cabTime < b.cabTime)
  else if a.cab then true
  else if b.cab then false
  else if a.wasLead ∧ b.wasLead = false then true
  else if b.wasLead ∧ a.wasLead = false then false
  else if rankOrder a.rank = rankOrder b.rank then decide (a.identity ≤ b.identity)
  else decide (rankOrder a.rank < rankOrder b.rank)

/-- The sync order of a device in a roster of the consist (R183): cold-start nodes that are sync-capable by rank and
identity, then the other sync-capable nodes by berth; beyond 15 none. -/
def syncOrder (l : List Berthed) (id : Nat) : Nat :=
  let capable := l.filter (·.syncCapable)
  let cold := capable.filter (fun x => decide (x.rank ≠ 0))
  let rest := capable.filter (fun x => decide (x.rank = 0))
  match capable.find? (fun x => decide (x.identity.toNat = id)) with
  | none => 0
  | some me =>
    let n :=
      if me.rank ≠ 0 then 1 + (cold.filter (fun x => betterRank x.rank x.identity.toNat me.rank id)).length
      else 1 + cold.length + (rest.filter (fun x => decide (x.berth < me.berth))).length
    if n ≤ 15 then n else 0

/-- The gateway of a domain (R19): the offering node with the lowest berth number; 0 for none. -/
def gatewayOf (l : List Berthed) (d : Dom) : Nat :=
  let off := l.filter (fun x => match d with | .ta => x.offersTa | .tb => x.offersTb)
  let m := off.foldl (fun (best : Option Berthed) x =>
    match best with | none => some x | some y => if x.berth < y.berth then some x else some y) none
  match m with | some x => x.identity.toNat | none => 0

namespace State

/-- An installation record as a making-up carries it: a committed value from the completion of its store on (R214). -/
def inst (s : State) (k : Nat) : Int :=
  match Tab.find? s.mu.newInst k with | some (.num v) => v | _ => s.int k

/-- The own value of R225. -/
def ownPart (s : State) : Nat :=
  let flags := (if s.flag 0x260101 then 16 else 0) + (if s.pairing then 8 else 0)
  crc32 (be 8 s.fuses.identity ++ be 4 (s.inst 0x220001).toNat ++ be 2 (s.inst 0x220002).toNat ++
    be 1 (s.inst 0x220003).toNat ++ be 1 (s.inst 0x220004).toNat ++ be 1 flags)

/-- The own value, with the partner's for a pair. -/
def ownValue (s : State) : Nat := if s.pairing then (s.ownPart + s.mu.partnerOwn) % 2 ^ 32 else s.ownPart

/-- The two ports of a side: fore 0 and 1, aft 2 and 3. -/
def sidePort (fore : Bool) (c : Nat) : Nat := if fore then c else c + 2

/-- A coupler link that counts for the summaries: UP or UP_LIMITED, and keyed (R136, R225). -/
def counts (s : State) (p : Nat) : Bool := s.linkUpState p && s.keyed p

/-- The partner's ports of a side, as it told them over the tow line: nothing while the tow line is lost (R225). -/
def partnerSide (s : State) (fore : Bool) : Bool × Option MakeUp :=
  if s.pairing ∧ s.pair.up then (if fore then s.mu.partnerFore else s.mu.partnerAft) else (false, none)

/-- A side without a keyed link that is up, on either channel, is empty (R225). -/
def sideEmpty (s : State) (fore : Bool) : Bool :=
  !(s.counts (sidePort fore 0)) && !(s.counts (sidePort fore 1)) && !(s.partnerSide fore).1

/-- A summary of this generation. -/
def thisGeneration (s : State) (m : MakeUp) : Bool := decide ((m.generation.toNat : Int) = s.int 0x221002)

/-- The summary heard on a port in this generation, since the summaries were reset (R223). -/
def heardOn (s : State) (p : Nat) : Option MakeUp :=
  if s.counts p ∧ (s.pl p).summary then ((s.pl p).heard).filter s.thisGeneration else none

/-- The summary of a side on a channel (0 A, 1 B): of the own port, or of the partner's (R225). -/
def heardSide (s : State) (fore : Bool) (c : Nat) : Option MakeUp :=
  match s.heardOn (sidePort fore c) with
  | some m => some m
  | none => if s.drives (chanOf c) then none else ((s.partnerSide fore).2).filter s.thisGeneration

/-- The combined summary of a side: the larger positions-beyond count, channel A on a tie (R225). -/
def inSide (s : State) (fore : Bool) : Option MakeUp :=
  match s.heardSide fore 0, s.heardSide fore 1 with
  | some a, some b => if a.positions < b.positions then some b else some a
  | some a, none => some a
  | none, b => b

/-- A side is complete (R225). -/
def sideComplete (s : State) (fore : Bool) : Bool :=
  s.sideEmpty fore || (match s.inSide fore with | some m => m.complete | none => false)

/-- The own end record. -/
def ownEnd (s : State) : EndRec :=
  { identity := s.fuses.identity, cab := s.mu.cab, wasLead := s.mu.wasLead, rank := (s.inst 0x220004).toNat,
    cabTime := s.mu.cabAt.toNat }

/-- The end record beyond a side. -/
def endBeyond (s : State) (fore : Bool) : EndRec :=
  match s.inSide fore with
  | some m => { identity := m.endIdentity.toNat, cab := m.endCab, wasLead := m.endWasLead, rank := m.endRank,
                cabTime := m.endCabTime }
  | none => s.ownEnd

/-- 1 unless the neighbour has the same code (R225, R226). -/
def adds (s : State) (k : Nat) (code : Nat) : Nat := if (code : Int) = s.inst k then 0 else 1

/-- What a side adds to a count, and the neighbour's part of it: positions, vehicles and sets. -/
def sidePositions (s : State) (fore : Bool) : Nat := (s.inSide fore).elim 0 (·.positions)
def sideVehicles (s : State) (fore : Bool) : Nat := (s.inSide fore).elim 0 (·.vehicles)
def sideSets (s : State) (fore : Bool) : Nat := (s.inSide fore).elim 0 (·.sets)
def sideSum (s : State) (fore : Bool) : Nat := (s.inSide fore).elim 0 (·.sum.toNat)

/-- The neighbour of a side shares the own code of a key. -/
def shares (s : State) (fore : Bool) (k : Nat) : Bool :=
  match s.inSide fore with
  | some m => decide ((if k = 0x220001 then (m.vehicle.toNat : Int) else m.set.toNat) = s.inst k)
  | none => false

/-- The number on a lead side: those beyond it, plus 1 unless the neighbour there shares the code (R226, item 3). -/
def numberFrom (s : State) (beyond : Nat) (side : Option Bool) (k : Nat) : Nat :=
  match side with
  | none => 1
  | some f => beyond + (if s.shares f k then 0 else 1)

/-- A total over both sides and the device (R226, item 4). A device left out does not count itself (R230). -/
def totalOf (s : State) (f a k : Nat) : Nat :=
  let own := if s.mu.conflict then 0 else 1
  let twice := (if s.shares true k then 1 else 0) + (if s.shares false k then 1 else 0)
  if s.mu.conflict then f + a else f + a + own - twice

/-- The orientation of R14: 1 FORWARD, 2 REVERSED. `leadSide`: 1 fore, 2 aft. -/
def orientationOf (s : State) (leadSide : Nat) : Nat :=
  if decide (leadSide = 1) == decide (s.inst 0x220003 = 1) then 1 else 2

/-- The consist (R226) and its hash (R227). -/
def computeConsist (s : State) : Consist :=
  let f := s.endBeyond true
  let a := s.endBeyond false
  let foreLeads := firstLeads f a
  let lead := if foreLeads then f else a
  let side : Option Bool := if s.sideEmpty foreLeads then none else some foreLeads
  let facing : Nat := match side with
    | some fore => if fore then 1 else 2
    | none => if s.sideEmpty true then 1 else 2
  let positions := s.sidePositions true + s.sidePositions false + (if s.mu.conflict then 0 else 1)
  let vehicles := s.totalOf (s.sideVehicles true) (s.sideVehicles false) 0x220001
  let sets := s.totalOf (s.sideSets true) (s.sideSets false) 0x220002
  let sum := (s.sideSum true + s.sideSum false + (if s.mu.conflict then 0 else s.ownValue)) % 2 ^ 32
  let h := crc32 (be 2 (s.nat 0x221002) ++ be 8 lead.identity ++ be 1 (min positions 255) ++ be 1 (min vehicles 255) ++
    be 1 (min sets 255) ++ be 4 sum)
  let berth := match side with | none => 1 | some fore => 1 + s.sidePositions fore
  let veh := s.numberFrom (side.elim 0 s.sideVehicles) side 0x220001
  let set := s.numberFrom (side.elim 0 s.sideSets) side 0x220002
  let out := s.mu.conflict || decide (64 < berth) || decide (32 < veh) || decide (16 < set)
  { lead := lead.identity, leadRank := lead.rank, leadSide := match side with | none => 0 | some fore => if fore then 1 else 2
    orientation := if out then 0 else s.orientationOf facing, berth := if out then 0 else berth,
    vehicle := if out then 0 else veh, set := if out then 0 else set,
    positions := min positions 255, vehicles := min vehicles 255, sets := min sets 255,
    hash := if h = 0 then 1 else h, leftOut := out }

/-- The summary flags and counts sent toward a side (R225, R228): the other side's, with the own added. -/
def agreeToward (s : State) (fore : Bool) : Bool :=
  match s.mu.consist with
  | some c => s.sideEmpty (!fore) || (match s.inSide (!fore) with
    | some m => m.agree && decide (m.hash.toNat = c.hash) | none => false)
  | none => false

/-- The last local difference of a port, with the number of its exchange (R218). -/
def lastDiff (s : State) (p : Nat) : Nat × Int := (s.pl p).diffs.headD (0, 0)

/-- The MAKE_UP this device sends on a port (R217). A device left out by an installation conflict with an empty far side has
no summary to forward: it offers its own end record, as any end does, so that it can be chosen lead; R9 does not say
which record it sends (DESIGN CHOICE, log 88). -/
def makeUpOf (s : State) (p : Nat) : MakeUp :=
  let fore := !(portAft p)
  let o := s.inSide (!fore)
  let e := s.endBeyond (!fore)
  let out := s.mu.conflict
  let add := if out then 0 else 1
  let h := match s.mu.consist with | some c => c.hash | none => 0
  { integrated := s.mu.integrated, joining := s.mu.joining, cab := s.mu.cab, syncCapable := s.flag 0x260101,
    paired := s.pairing, conflict := s.mu.conflict, generation := BitVec.ofNat 16 (s.nat 0x221002),
    sender := BitVec.ofNat 64 s.fuses.identity, partner := BitVec.ofNat 64 (s.nat 0x300104),
    vehicle := BitVec.ofInt 32 (s.inst 0x220001), set := BitVec.ofInt 16 (s.inst 0x220002),
    position := (s.inst 0x220003).toNat, rank := (s.inst 0x220004).toNat, aftPort := portAft p, berth := s.ownBerth,
    complete := s.mu.integrated && (s.sideEmpty (!fore) || (match o with | some m => m.complete | none => false)),
    agree := s.agreeToward fore, beyondLimit := (match s.mu.consist with | some c => c.leftOut && !s.mu.conflict | none => false),
    positions := min 255 (s.sidePositions (!fore) + add),
    vehicles := min 255 (s.sideVehicles (!fore) + (if s.shares (!fore) 0x220001 then 0 else add)),
    sets := min 255 (s.sideSets (!fore) + (if s.shares (!fore) 0x220002 then 0 else add)),
    sum := BitVec.ofNat 32 (s.sideSum (!fore) + (if out then 0 else s.ownValue)),
    endIdentity := BitVec.ofNat 64 e.identity, endCab := e.cab, endWasLead := e.wasLead, endRank := e.rank,
    endCabTime := e.cabTime, hash := BitVec.ofNat 32 h,
    appFlight := BitVec.ofNat 32 (s.mu.f.getD 0), appValid := s.mu.f.isSome,
    timeLead := BitVec.ofNat 64 (s.nat 0x22200D), timeLeadRank := s.mu.timeLeadRank,
    passageCode := if s.passageLen = 125000 then 0 else if s.passageLen = 250000 then 1 else 2,
    mode := Fin.ofNat 16 s.mode, timeState := s.timeState.toNat,
    egressCt := if s.ctValid then s.ctNow.toNat else 0, flight := BitVec.ofNat 32 s.flight,
    localDiff := (s.lastDiff p).2, exchange := (s.lastDiff p).1, adoptAt := (s.mu.adoptAt.getD 0).toNat, adoptStep := s.mu.adoptStep,
    adoptValid := s.mu.adoptAt.isSome, asymmetry := s.int (0x260105 + p), protectedFrame := s.keyed p }

end State

end Sys2Proof.Machine
end

