-- ==== Sys2Proof/Machine/MakingUp.lean ====
section
/-!
DEFINITION. Start-up, making-up and adoption (spec/08_making_up.md), the coupler and star links (R135 to R137) and MDIO
(R140, R170).
-/

namespace Sys2Proof.Machine

namespace State

/-! ### The making-up state machine (R215, R216, R223) -/

/-- Making-up state: 0 IDLE, 1 GATHER, 2 AGREE, 3 SCHEDULED, 4 FAILED (R229). -/
def muState (s : State) : Int := s.int 0x221001
def generation (s : State) : Nat := s.nat 0x221002

/-- The newer of two generations (R216). -/
def newerGeneration (g1 g2 : Nat) : Bool :=
  let d := (g1 + 65536 - g2 % 65536) % 65536
  decide (1 ≤ d ∧ d ≤ 32767)

/-- The summaries of every port reset (R223). What the neighbour last said of itself stands: its berth, its time and its
port's asymmetry. -/
def clearHeard (s : State) : State :=
  (List.range 4).foldl (fun s p => s.setPl p { s.pl p with summary := false }) s

/-- Progress of the making-up, at 0x2210:03 and in its long-operation record (R233, R363, R364). -/
def muProgress (s : State) (v : Int) : State :=
  (s.put 0x221003 v).opProgress 4 v (s.int 0x221004) (s.int 0x221005)

/-- An agreed token has been received: making-ups that have not started do not start, and no mode is switched (R266). -/
def sleepAgreed (s : State) : Bool := decide (s.int 0x340101 = 2) && s.mooring.agreed

/-- GATHER under a generation (R223): summaries reset, progress 1000; from IDLE or FAILED the making-up starts. Whether a
neighbour conflicts (R9) is found anew in every making-up. -/
def gather (s : State) (g : Nat) : State :=
  let starts := decide (s.muState = 0 ∨ s.muState = 4)
  if starts && s.sleepAgreed then s else
  let s := (((s.put 0x221001 1).put 0x221002 (g % 65536)).put 0x221004 1).put 0x221005 0
  let s := (s.opStart 4 0).muProgress 1000
  let s := { s.clearHeard with mu := { s.clearHeard.mu with
    consist := none, f := none, held := none, agreeSent := false, conflict := false } }
  if starts then s.raise 126 g 0 0 else s

/-- A generation taken: at once, or held until F in SCHEDULED, where a newer one is not given up for an older (R223). -/
def takeGeneration (s : State) (g : Nat) : State :=
  if s.muState = 3 then
    if (match s.mu.held with | some h => newerGeneration g h | none => true) then
      { s with mu := { s.mu with held := some (g % 65536) } }
    else s
  else s.gather g

/-- A trigger of R215 by its cause: the current generation plus 1. From an agreed mooring on, a trigger is only recorded
(R266). -/
def trigger (s : State) (cause : Nat) : State :=
  let s := s.put 0x221006 cause
  if s.sleepAgreed then s else
  let s := { s with mu := { s.mu with trigAt := s.clock.counter } }
  s.takeGeneration (((s.mu.held).getD s.generation) + 1)

/-- A restart by cause 7 (R223): a new generation, counted; the fourth since the last application or failure enters
FAILED. -/
def restart (s : State) : State :=
  let n := s.int 0x22100A + 1
  if s.sleepAgreed then s.put 0x221006 7 else
  let s := (s.put 0x22100A n).bump 0x225002
  if 4 ≤ n then
    let s := (s.put 0x221006 7).put 0x221002 ((s.generation + 1) % 65536 : Nat)
    let s := ((s.put 0x221001 4).put 0x22100A 0).bump 0x225003
    let s := { s with mu := { s.mu with consist := none, f := none } }.raise 128 s.generation 0 0
    s.opEnd 4 3 7
  else s.trigger 7

/-- Coupler links without a key that are up (0x2210:09). -/
def pendingAuth (s : State) : Nat := ((List.range 4).filter (fun p => s.linkUpState p && !s.keyed p)).length

/-- The lead of the computed consist is this device. -/
def leadsComputed (s : State) : Bool :=
  match s.mu.consist with | some c => decide (c.lead = s.fuses.identity) | none => false

/-- Agree has come from the lead's non-empty side (R228, step 2); a consist of one position has none to wait for. -/
def agreeArrived (s : State) : Bool :=
  match s.mu.consist with
  | some c =>
    [true, false].all (fun f => s.sideEmpty f || (match s.inSide f with
      | some m => m.agree && decide (m.hash.toNat = c.hash) | none => false))
  | none => false

/-- F lies ahead: a device that receives it only at or after F has missed it (R228, step 4). -/
def ahead (s : State) (f : Nat) : Bool :=
  let d := (f + 2 ^ 32 - s.flight % 2 ^ 32) % 2 ^ 32
  decide (1 ≤ d ∧ d < 2 ^ 31)

/-- F received from a neighbour, or from a neighbour of the partner, under the same hash (R228, step 2). -/
def receivedF (s : State) : Option Nat :=
  match s.mu.consist with
  | some c => ([(true, 0), (true, 1), (false, 0), (false, 1)].filterMap (fun x => match s.heardSide x.1 x.2 with
      | some m => if m.appValid ∧ m.hash.toNat = c.hash ∧ s.ahead m.appFlight.toNat then some m.appFlight.toNat else none
      | none => none)).head?
  | none => none

/-- SCHEDULED with an application flight. -/
def schedule (s : State) (f : Nat) : State :=
  let s := ((s.put 0x221001 3).put 0x221007 f).muProgress 9000
  { s with mu := { s.mu with f := some f } }

/-- What GATHER has come to: progress, and AGREE once both sides are complete (R223, R226, R233). -/
def stepGather (s : State) : State :=
  let f := s.sideComplete true
  let a := s.sideComplete false
  let s := (s.put 0x221004 (min 255 (s.sidePositions true + s.sidePositions false + 1))).muProgress
    (1000 + (if f then 2500 else 0) + (if a then 2500 else 0))
  if f && a && s.mu.integrated then
    let c := s.computeConsist
    let s := ((s.put 0x221001 2).put 0x221005 c.positions).muProgress 6000
    { s with mu := { s.mu with consist := some c } }
  else s

/-- What AGREE has come to: agree sent toward the lead, F chosen by the lead or received (R228). -/
def stepAgree (s : State) : State :=
  match s.mu.consist with
  | none => s
  | some c =>
    if s.leadsComputed then
      if s.agreeArrived then s.schedule ((s.flight + 2) % 2 ^ 32) else s
    else
      let toward := if c.leadSide = 1 then true else false
      let s := if s.agreeToward toward then { s.muProgress 8000 with mu := { (s.muProgress 8000).mu with agreeSent := true } } else s
      match s.receivedF with | some f => s.schedule f | none => s

/-- The making-up evaluated: GATHER, then AGREE. -/
def evaluate (s : State) : State :=
  let s := s.put 0x221009 s.pendingAuth
  let s := if s.muState = 1 then s.stepGather else s
  if s.muState = 2 then s.stepAgree else s

/-- A trigger, and what it leads to at once. -/
def trigEval (s : State) (cause : Nat) : State := (s.trigger cause).evaluate

/-- 64 flights without SCHEDULED (R223). -/
def muTimeout (s : State) : State := if s.muState = 1 ∨ s.muState = 2 then s.restart.evaluate else s

/-- The active-cab input after its debounce (R20): its assertion time in CT, and a making-up. -/
def activeCab (s : State) (on : Bool) : State :=
  if s.mu.cab = on then s
  else
    let at_ := if on then (if s.ctValid then s.ctNow else 0) else s.mu.cabAt
    { s with mu := { s.mu with cab := on, cabAt := at_ } }.trigEval 4

/-! ### Cluster time at start-up (R220 to R222) -/

/-- Start state: 0 LISTEN, 1 ATTEMPT, 2 INTEGRATE, 3 RUNNING. -/
def startState (s : State) : Int := s.int 0x22100B

/-- The flight grid of CT: every flight lasts a whole number of 8 ms from CT 0 (R142), in 1/65536 ns. -/
def flightGrid : Int := 8000000 * 65536

/-- The CT view set to a value at the stamp (R178, R222): an adoption by a device that left RUNNING (R181, R189,
R220, R251), else a first setting, as after an abandoned attempt too (log 92). -/
def setCt (s : State) (v : Int) (fine : Nat) : State :=
  let b := v - (fine : Int) * 65536 / 10
  let s := if s.ctValid ∧ s.startState = 2 then s.ctStep (b - s.ctNow) {}
    else { s with clock := { s.clock with ct := { anchor := s.clock.counter, base := b }, rho := {}, delta := 0, slewing := 0, applied := 0 } }
  { (s.put 0x260001 1).put 0x260004 0 with
    clock := { s.clock with vals := [], at0 := [], at63 := [], rejects := 0, fresh := false }
    mu := { s.mu with applied := false } }

/-- The mode taken over is one whose template this device lacks (R162): it stays passive and reports the mismatch. -/
def checkTemplate (s : State) : State :=
  if s.mode ≠ 0 ∧ s.template s.mode = [] then { s.put 0x243009 5 with mu := { s.mu with mismatch := true } }
  else { s with mu := { s.mu with mismatch := false } }

/-- Mode, flight and passage taken over, and the tables of the mode (R222, R162). -/
def takeFlight (s : State) (mode flight passage : Nat) (start : Int) : State :=
  let s := ((s.put 0x240002 mode).put 0x240003 flight).put 0x240004 passage
  ({ s with clock := { s.clock with flightStart := start } }).refreshTables.checkTemplate

/-- INTEGRATE is entered (R220, R222): the working berth next to the neighbour's, the listen flight due. -/
def enterIntegrate (s : State) (p : Nat) (rearward : Bool) (berth : Int) : State :=
  let s := s.put 0x22100B 2
  { s with mu := { s.mu with
    integrated := false, listen := 1, silent := 0, orderHeard := false, neighbourBerth := berth, neighbourAft := portAft p,
    neighbourSide := if rearward != portAft p then 1 else 2,
    working := some (if rearward then berth + 1 else berth - 1) } }

/-- The working berth follows the berth that the neighbour integrated from shows (R222), until the device's own consist
applies. -/
def followNeighbour (s : State) (p : Nat) (rearward : Bool) (m : MakeUp) : State :=
  if s.mu.working.isSome ∧ s.mu.neighbourAft = portAft p ∧ m.berth ≠ s.mu.neighbourBerth then
    { s with mu := { s.mu with
      neighbourBerth := m.berth, working := some (if rearward then m.berth + 1 else m.berth - 1) } }
  else s

/-- The time lead, as learnt (R217, bytes 72 to 80). -/
def setTimeLead (s : State) (id rank : Nat) : State :=
  { s.put 0x22200D id with mu := { s.mu with timeLeadRank := rank } }

/-- The offset of the MAKE_UP slot's egress from its passage start at a berth, 1/65536 ns (R144, R148). -/
def makeUpOffset (s : State) (p : Nat) (berth : Int) (rearward : Bool) : Int :=
  let f := s.frameNow
  let w : Int := (((headSlots f p).find? (fun x => x.ptype = 4)).map (·.start)).getD 0
  w * 1048576 / 5 + (if rearward then berth - 1 else s.berthLimit - berth) * s.hopPeriod * 65536

/-- CT set from a neighbour's MAKE_UP (R222): egress CT plus the ingress link delay; flight and mode from the frame. -/
def integrateFromMakeUp (s : State) (p : Nat) (h : Header) (m : MakeUp) (fine : Nat) : State :=
  let rearward := decide (h.dir = .rearward)
  let plen := passageOf m.passageCode
  let s := s.setCt (m.egressCt + psToUnits (s.linkDelay p)) fine
  let off := s.makeUpOffset plen m.berth rearward + (h.passage.val : Int) * plen * 65536
  let start := ((m.egressCt - off) + flightGrid / 2) / flightGrid * flightGrid
  let s := s.takeFlight m.mode m.flight.toNat h.passage start
  let s := (s.setTimeLead m.timeLead.toNat m.timeLeadRank).enterIntegrate p rearward m.berth
  { s with mu := { s.mu with adopted := decide (h.hash ≠ 0) } }

/-- CT set from a COLD_START (R222): scheduled egress, path delay and ingress link delay; M0, flight 0. -/
def integrateFromColdStart (s : State) (p : Nat) (dir : Dir) (f : ColdStart) (fine : Nat) : State :=
  let s := s.setCt ((f.egress : Int) + (f.pathDelay : Int) * 256 + psToUnits (s.linkDelay p)) fine
  let s := s.takeFlight 0 0 f.passage 0
  let s := (s.setTimeLead f.sender.toNat f.rank).enterIntegrate p (decide (dir = .rearward))
    (((s.pl p).heard.map (·.berth)).getD 0)
  { s with mu := { s.mu with adopted := false } }

/-- A cold-start attempt is abandoned (R220). -/
def abandon (s : State) : State := if s.startState = 1 then s.bump 0x225007 else s

/-- The listen timer has expired (R220): CT 0 begins with passage 0 of flight 0 in M0. -/
def listenExpired (s : State) : State :=
  let r := s.nat 0x220004
  if s.startState = 0 ∧ r ≠ 0 ∧ s.clock.running then
    let s := ((s.put 0x22100B 1).bump 0x225006).setCt 0 0
    let s := (s.takeFlight 0 0 0 0).setTimeLead s.fuses.identity r
    { s with mu := { s.mu with attempt := 0, passive := false, adopted := false, working := none },
             clock := { s.clock with fresh := true } }
  else s

/-- A link carries COLD_START: keyed and UP; an UP_LIMITED link carries none (R136, R221). -/
def coldLink (s : State) (p : Nat) : Bool := s.counts p && decide (s.linkState p = 2)

/-- A COLD_START leaves a port. -/
def coldStartOut (s : State) (p : Nat) (f : ColdStart) : State :=
  let payload := coldStartPayload f
  (s.sendFrame p (s.headerOf p 3 none 32) f.egress payload).emit (.coldStart p f)

/-- The COLD_START of a passage of the attempt (R221): on every keyed coupler port, at the offset of SYNC slot 0. -/
def sendColdStart (s : State) : State :=
  if s.startState = 1 then
    let f : ColdStart := {
      rank := s.nat 0x220004, passage := s.mu.attempt % 64, sender := BitVec.ofNat 64 s.fuses.identity,
      egress := s.passageStart.toNat, hops := 0, pathDelay := 0 }
    let s := (List.range 4).foldl (fun s p => if s.coldLink p then s.coldStartOut p f else s) s
    { s with mu := { s.mu with attempt := s.mu.attempt + 1 } }
  else s

/-- The sync order before the first making-up (R183): a sync-capable cold-start node's rank. A device that has taken the
time of a consist already made up holds none (R222). -/
def firstOrder (s : State) : State :=
  if s.mu.applied then s
  else s.put 0x260007
    (if s.flag 0x260101 ∧ s.mu.orderHeard = false ∧ s.mu.yielded = false ∧ s.mu.adopted = false then s.int 0x220004 else 0)

/-- RUNNING is entered, integrated, with cause 1 (R220); `always` where a making-up starts even if one runs. -/
def enterRunning (s : State) (always : Bool) : State :=
  let s := (s.put 0x22100B 3).bootStep 4
  let s := { s with mu := { s.mu with integrated := true, listen := 0, silent := 0, passive := false } }
  let s := s.firstOrder
  if always ∨ s.muState = 0 ∨ s.muState = 4 then s.trigEval 1 else s.evaluate

/-- 64 passages of COLD_START sent (R220). -/
def attemptComplete (s : State) : State := if s.startState = 1 then s.enterRunning true else s

/-- No usable frame for 4 passages (R220). -/
def integrateTimeout (s : State) : State :=
  if s.startState = 2 then
    { s.put 0x22100B 0 with mu := { s.mu with listen := 0, working := none, silent := 0 } }
  else s

/-- A COLD_START frame (R219 to R222). `res` is the residence of this forwarder in 1/256 ns. -/
def coldStart (s : State) (p : Nat) (dir : Dir) (f : ColdStart) (res fine : Nat) : State :=
  if s.coldLink p = false ∨ f.valid = false then s
  else if s.isRunning then s.bump 0x225008
  else
    let out := acrossPort p
    let g := { f with hops := f.hops + 1, pathDelay := f.pathDelay + res + (s.linkDelay p * 256 / 1000).toNat }
    let s := if s.coldLink out ∧ f.sender.toNat ≠ s.fuses.identity then (s.leaves out 32).emit (.coldStart out g) else s
    if s.startState = 0 then s.integrateFromColdStart p dir f fine
    else if s.startState = 1 then
      if betterRank f.rank f.sender.toNat (s.nat 0x220004) s.fuses.identity then s.abandon.integrateFromColdStart p dir f fine
      else s
    else if s.mu.listen = 0 then s.integrateFromColdStart p dir f fine
    else { s with mu := { s.mu with silent := 0 } }

/-! ### MAKE_UP (R217, R218) -/

/-- The neighbour on a port has the lower identity: its exchanges are the ones that are numbered (R218; log 89). -/
def neighbourCounts (s : State) (p : Nat) : Bool :=
  let n := s.nat (Od.key (0x2240 + p) 1)
  decide (n ≠ 0 ∧ n < s.fuses.identity)

/-- A local difference taken into a port's last few. -/
def addDiff (x : PortLine) (n : Nat) (d : Int) : PortLine :=
  { x with diffs := ((n, d) :: x.diffs.filter (fun y => decide (y.1 ≠ n))).take 4 }

/-- The own MAKE_UP's egress stamp (R218): it opens an exchange (t1), or answers the one heard (t3) and gives its local
difference t2 - t3. -/
def makeUpSent (x : PortLine) (stamp : Int) : PortLine :=
  match x.muHeardAt with
  | some (n, t2) => addDiff { x with muHeardAt := none, muSent := some stamp } n ((t2 - stamp) * 100)
  | none => { x with muSent := some stamp }

/-- A MAKE_UP's ingress stamp: as t4 it closes the exchange that the own frame opened, with t4 - t1; at the end with the
higher identity it is t2 of the exchange after the one reported. -/
def makeUpHeard (x : PortLine) (counts : Bool) (reported : Nat) (stamp : Int) : PortLine :=
  if counts then { x with muHeardAt := some ((reported + 1) % 256, stamp) }
  else match x.muSent with
    | some t1 => addDiff { x with muSent := none } (((x.diffs.headD (0, 0)).1 + 1) % 256) ((stamp - t1) * 100)
    | none => x

/-- The own MAKE_UP leaves a port (R217), in its slot or by the local counter, with the next authentication fragment. Its
hardware stamp lies within the tick (R176), its fine part a free value (log 3). -/
def sendMakeUp (s : State) (p : Nat) (slot : Option Nat) : State :=
  if s.linkUpState p ∧ s.drives (chanOf p) then
    let m := s.makeUpOf p
    let fragment := (s.pl p).authOut.headD (List.replicate 128 0)
    let stamp : Int := (s.clock.counter : Int) * 32 + (s.freeNat % 32 : Nat)
    let t := s.tookFree.sendFrame p (s.headerOf p 4 slot 256) m.egressCt (makeUpPayload m fragment)
    let x := makeUpSent (t.pl p) stamp
    (t.setPl p { x with authOut := x.authOut.tail }).emit (.makeUp p m)
  else s

/-- The mean of a list, truncated. -/
def meanInt (l : List Int) : Int := if l = [] then 0 else Int.tdiv l.sum l.length

/-- The provisional delay of a port (R218): from the two local differences of one exchange and the asymmetries, the mean
of 16. Each exchange gives one value. -/
def provisional (s : State) (p : Nat) (m : MakeUp) (t : Int) : State :=
  let x := makeUpHeard (s.pl p) (s.neighbourCounts p) m.exchange t
  let s := s.setPl p x
  match x.diffs.find? (fun y => decide (y.1 = m.exchange)) with
  | some (n, own) =>
    if x.exchange = some n then s
    else
      let d := (own + m.localDiff) / 2 + (s.int (0x260105 + p) - m.asymmetry) / 2
      let l := (d :: x.provisional).take 16
      (s.setPl p { x with exchange := some n, provisional := l }).put (Od.key (0x2240 + p) 5) (max 0 (meanInt l))
  | none => s

/-- The neighbour holds the same cluster time (R216). -/
def sameTime (s : State) (m : MakeUp) : Bool := decide (m.timeLead.toNat = s.nat 0x22200D)

/-- The neighbour's time is kept where two consists meet (R235). -/
def theirsKept (s : State) (m : MakeUp) : Bool :=
  m.integrated && !(s.sameTime m) &&
    betterRank m.timeLeadRank m.timeLead.toNat s.mu.timeLeadRank (s.nat 0x22200D)

/-- The generation of a neighbour (R216): newer from one of the same time, or that of the side that keeps its time. A device
without CT joins an integrated neighbour; two without CT take the newer. -/
def hearGeneration (s : State) (m : MakeUp) : State :=
  let g := m.generation.toNat
  if s.ctValid = false then
    (if (if m.integrated then decide (g ≠ s.generation) else newerGeneration g s.generation) then s.takeGeneration g else s)
  else if s.sameTime m then (if newerGeneration g s.generation then s.takeGeneration g else s)
  else if s.theirsKept m ∧ g ≠ s.generation then s.takeGeneration g
  else s

/-- The conflict of R230 with a neighbour that is not the partner. -/
def hearConflict (s : State) (m : MakeUp) : State :=
  if (m.vehicle.toNat : Int) = s.inst 0x220001 ∧ (m.position : Int) = s.inst 0x220003 ∧
      ¬(s.pairing ∧ m.sender.toNat = s.nat 0x300104) then
    if s.mu.conflict then s else { s.bump 0x225004 with mu := { s.mu with conflict := true } }
  else s

/-- CT difference to a keeping neighbour at an ingress (R235, step 1), 1/65536 ns. -/
def measure (s : State) (p : Nat) (m : MakeUp) (fine : Nat) : State :=
  let d := (m.egressCt : Int) + psToUnits (s.linkDelay p) - s.ctAt s.clock.counter fine
  let k := s.mu
  { s with mu :=
    if k.measuring = 0 then { k with measuring := 1, firstDiff := d, firstAt := s.clock.counter, lastDiff := d, lastAt := s.clock.counter }
    else { k with measuring := k.measuring + 1, lastDiff := d, lastAt := s.clock.counter } }

/-- T_a and the step of R235, step 3: the joining device becomes passive until F. -/
def holdAdoption (s : State) (at_ step : Int) : State :=
  { s with mu := { s.mu with adoptAt := some at_, adoptStep := step, joining := true, passive := true } }

/-- A MAKE_UP is received (R217, R218, R220, R222, R230, R235). -/
def makeUpReceived (s : State) (p : Nat) (h : Header) (m : MakeUp) (fine : Nat) : State :=
  if s.linkUpState p = false ∨ m.frameOk = false ∨ m.protectedFrame ≠ s.keyed p then s
  else
    let t : Int := (s.clock.counter : Int) * 32 + fine
    let b := Od.key (0x2240 + p) 0
    let s := ((s.put (b + 1) m.sender.toNat).put (b + 3) m.vehicle.toNat).put (b + 4) m.position
    let s := (s.provisional p m t).hearConflict m
    let s := s.hearGeneration m
    let s := s.setPl p { s.pl p with heard := some m, summary := true, heardRear := decide (h.dir = .rearward) }
    let s := s.followNeighbour p (decide (h.dir = .rearward)) m
    let s :=
      if m.integrated ∧ s.clock.running ∧ (s.startState = 0 ∨ s.startState = 1 ∨ (s.startState = 2 ∧ s.mu.listen = 0)) then
        s.abandon.integrateFromMakeUp p h m fine
      else if s.startState = 2 then { s with mu := { s.mu with silent := 0 } }
      else if s.isRunning ∧ s.theirsKept m then s.measure p m fine
      else if s.isRunning ∧ m.adoptValid ∧ s.sameTime m ∧ s.mu.adoptAt.isNone then s.holdAdoption m.adoptAt m.adoptStep
      else s
    let mismatch := decide (s.muState = 2) && decide ((m.generation.toNat : Int) = s.generation) && decide (m.hash ≠ 0) &&
      s.counts p && (match s.mu.consist with | some c => decide (c.hash ≠ m.hash.toNat) | none => false)
    if mismatch then s.restart.evaluate else s.evaluate

/-- 32 passages of measuring are over (R235, step 2): T_a is the start of the second flight after this one, the step
extrapolated to it. -/
def adoptionMeasured (s : State) : State :=
  if s.mu.measuring = 0 ∨ s.mu.adoptAt.isSome then s
  else
    let k := s.mu
    let ta := s.clock.flightStart + 2 * 64 * s.passageLen * 65536
    let dt : Int := (k.lastAt : Int) - k.firstAt
    let span : Int := (ta - s.ctNow) * 10 / (32 * 65536) + ((s.clock.counter : Int) - k.lastAt)
    let step := if dt = 0 then k.lastDiff else k.lastDiff + Int.tdiv ((k.lastDiff - k.firstDiff) * span) dt
    let rate := if dt = 0 then {} else Rate.norm ((k.lastDiff - k.firstDiff) * 10) (dt * 32 * 65536).toNat
    let s := s.holdAdoption ta step
    { s with mu := { s.mu with adoptRate := rate, measuring := 0 } }

/-- The flight, the lead of time and the berth that a neighbour's MAKE_UP shows, taken at an adoption (R181). -/
def takeTheirs (s : State) (port : Nat) (m : MakeUp) : State :=
  let plen := passageOf m.passageCode
  let start := s.ctNow / flightGrid * flightGrid
  let len : Int := 64 * (plen : Int) * 65536
  let since := Int.tdiv (start - (m.egressCt : Int) / flightGrid * flightGrid) len
  let n := ((m.flight.toNat : Int) + since) % 2 ^ 32
  let s := s.takeFlight m.mode n.toNat ((s.ctNow - start) / ((plen : Int) * 65536) % 64).toNat start
  (s.setTimeLead m.timeLead.toNat m.timeLeadRank).enterIntegrate port (s.pl port).heardRear m.berth

/-- T_a (R181, R235, step 4): CT steps by Δ, flight and mode of the keeping side, and the device goes on as integrating. -/
def adopt (s : State) : State :=
  match s.mu.adoptAt with
  | none => s
  | some _ =>
    let ρ := Rate.add s.clock.rho s.mu.adoptRate
    let s := (s.ctStep s.mu.adoptStep ρ).put 0x260004 (Rate.ppt ρ)
    let port := (List.range 4).find? (fun p => match (s.pl p).heard with | some m => s.counts p && (m.adoptValid || s.theirsKept m) | none => false)
    let s := match port.bind (fun p => (s.pl p).heard) with
      | none => s
      | some m => s.takeTheirs (port.getD 0) m
    let s := (((s.put 0x260001 1).put 0x260007 0).putFlag 0x26000D false).bump 0x225009
    let s := { s with mu := { s.mu with
        adoptAt := none, adoptStep := 0, adoptRate := {}, measuring := 0, joining := false,
        adopted := true, applied := false, listen := 1, integrated := false } }
    let s := { s with clock := { s.clock with vals := [], at0 := [], at63 := [], rejects := 0 } }
    let s := s.put 0x22100B 2
    (List.range 4).foldl (fun s p => s.put (Od.key (0x2484 + p) 1) 0) s

/-! ### Links (R135 to R137, R140) -/

/-- Both limits of R136 are met: the rate, and the link delay once measured. -/
def limitsMet (s : State) (p : Nat) : Bool :=
  decide (s.int 0x2E0004 ≤ s.int (Od.key (0x2410 + p) 5)) &&
    (!(s.pl p).measured || decide (s.int (Od.key (0x2410 + p) 6) ≤ s.int 0x2E0003 * 1000))

/-- A coupler port's link state: source 129 + p where it changes. -/
def setLink (s : State) (p : Nat) (v : Nat) : State :=
  if s.linkState p = v then s else (s.put (Od.key (0x2410 + p) 4) v).raise (129 + p) v p 0

/-- The link of a DOWN port comes up at a rate (R135, R136): its PHY is awake, and no longer one that has reported sleep
(R266). -/
def linkUp (s : State) (p rate : Nat) : State :=
  let b := Od.key (0x2410 + p) 0
  if s.int (b + 4) ≠ 1 ∨ s.int (b + 3) < rate then s
  else
    let s := (s.put (b + 5) rate).bump (b + 7)
    let s := { s with mooring := { s.mooring with slept := s.mooring.slept &&& ~~~ BitVec.ofNat 4 (2 ^ p) } }
    let s := s.setLink p (if s.limitsMet p then 2 else 3)
    (s.authStart p).trigEval 2

/-- What a link that goes down takes with it: its key, the neighbour, the measured delay, the lock-keeper's state. -/
def linkLost (s : State) (p : Nat) : State :=
  let b := Od.key (0x2410 + p) 0
  let n := Od.key (0x2240 + p) 0
  let s := (s.dropKey p).put (b + 6) 0
  let s := ((((s.put (n + 1) 0).put (n + 2) 0).put (n + 3) 0).put (n + 4) 0).put (n + 5) 0
  let s := (s.put (Od.key (0x2484 + p) 1) 0).setPl p { entered := 0 }
  { s with line := { s.line with heldFrames := s.line.heldFrames.filter (fun x => decide (x.outPort ≠ p)) } }

/-- A link is lost or its rate changes (R136). A frame leaving the port ends with an inverted FCS. -/
def linkDown (s : State) (p : Nat) : State :=
  let b := Od.key (0x2410 + p) 0
  if s.linkUpState p then
    let cut := decide (s.clock.counter < (s.pl p).txUntil)
    let s := if cut then ((s.bump (b + 0xC)).bump 0x24000C).emit (.truncated p) else s
    ((s.bump (b + 8)).setLink p 1).linkLost p |>.trigEval 2
  else s

/-- Both limits held for 4 ms (R136). -/
def limitCleared (s : State) (p : Nat) : State :=
  if s.linkState p = 3 ∧ s.limitsMet p then s.setLink p 2 else s

/-- A link whose measured delay leaves the allowance, or comes back within it (R136). -/
def limitCheck (s : State) (p : Nat) : State :=
  if s.linkState p = 2 ∧ s.limitsMet p = false then s.setLink p 3 else s

/-- The port's enable as committed (R136): enabled it is DOWN, its PHY released from low power; disabled it is DISABLED, its
PHY in low power. -/
def applyPortEnable (s : State) (p : Nat) : State :=
  let b := Od.key (0x2410 + p) 0
  if s.flag (b + 1) then (if s.int (b + 4) = 0 then (s.put (b + 4) 1).emit (.phyPower p false) else s)
  else if s.int (b + 4) = 0 then s
  else
    let up := s.linkUpState p
    let s := ((if up then s.bump (b + 8) else s).setLink p 0 |>.linkLost p).emit (.phyPower p true)
    if up then s.trigEval 2 else s

/-- A star port's link (R137). -/
def starLink (s : State) (p : Nat) (up : Bool) : State :=
  let b := Od.key (0x2418 + p) 0
  if s.flag (b + 1) then (s.put (b + 4) (if up then 2 else 1)).setStar p {} else s

/-- The star port's enable as committed. -/
def applyStarEnable (s : State) (p : Nat) : State :=
  let b := Od.key (0x2418 + p) 0
  if s.flag (b + 1) then (if s.int (b + 4) = 0 then s.put (b + 4) 1 else s) else (s.put (b + 4) 0).setStar p {}

/-- The rotation reads the link status register of an enabled PHY (R140). -/
def mdioPoll (s : State) (star : Bool) (p : Nat) (r : BusResult) : State :=
  let b := Od.key ((if star then 0x2418 else 0x2410) + p) 0
  let addr := if star then s.nat (b + 3) else s.nat (b + 2)
  if s.flag (b + 1) = false then s
  else
    let s := s.emit (.mdio false (if star then 1 else 0) addr 1 1 0)
    match star, r with
    | false, .nack | false, .timeout => s.bump (b + 0xD)
    | false, .ok _ | true, _ => s

/-- An access through 0x2428 is queued behind the rotation, or answered busy (R140, R170). -/
def mdioQueue (s : State) (write : Bool) : State × Nat :=
  if s.line.mdio.isSome then (s.put 0x242807 4, 0)
  else
    let j : MdioJob := {
      write := write, master := s.nat 0x242801, phy := s.nat 0x242802, dev := s.nat 0x242803,
      reg := s.nat 0x242804, value := s.nat 0x242805 }
    let s := { s.put 0x242807 0 with line := { s.line with mdio := some j } }
    (s.emit (.mdio write j.master j.phy j.dev j.reg j.value), 0)

/-- A queued access completes (R140, R170). -/
def mdioDone (s : State) (r : BusResult) : State :=
  match s.line.mdio with
  | none => s
  | some j =>
    let s := { s with line := { s.line with mdio := none } }
    match r with
    | .ok v => if j.write then s.put 0x242807 1 else (s.put 0x242805 (v % 65536 : Nat)).put 0x242807 1
    | _ => s.put 0x242807 3

end State

/-! ### The commands -/

/-- ACTIVE_CAB_CHANGE. -/
def execActiveCabChange (on : Bool) (s : State) : Res := .next (s.served (·.activeCab on))

/-- MAKE_UP_REQUEST. -/
def execMakeUpRequest (w : Writer) (v : Byte) (s : State) : Res :=
  .next (s.served fun s => s.accessAct w 0x221101 [v] fun s => (s.trigEval 5, 0))

/-- MAKE_UP_SEND: by the local counter, without CT. -/
def execMakeUpSend (p : Cpl) (s : State) : Res := .next (s.served (·.sendMakeUp p.no none))

/-- MAKE_UP_TIMEOUT. -/
def execMakeUpTimeout (s : State) : Res := .next (s.served (·.muTimeout))

/-- ATTEMPT_COMPLETE. -/
def execAttemptComplete (s : State) : Res := .next (s.served (·.attemptComplete))

/-- INTEGRATE_TIMEOUT. -/
def execIntegrateTimeout (s : State) : Res := .next (s.served (·.integrateTimeout))

/-- ADOPTION_MEASUREMENT_END. -/
def execAdoptionMeasurementEnd (s : State) : Res := .next (s.served (·.adoptionMeasured))

/-- LINK_UP. -/
def execLinkUp (p : Cpl) (rate : Fin 4) (s : State) : Res := .next (s.served (·.linkUp p.no rate))

/-- LINK_DOWN. -/
def execLinkDown (p : Cpl) (s : State) : Res := .next (s.served (·.linkDown p.no))

/-- LINK_LIMIT_CLEARED. -/
def execLinkLimitCleared (p : Cpl) (s : State) : Res := .next (s.served (·.limitCleared p.no))

/-- STAR_LINK_CHANGE. -/
def execStarLinkChange (p : Fin 8) (up : Bool) (s : State) : Res := .next (s.served (·.starLink p up))

/-- MDIO_POLL. -/
def execMdioPoll (star : Bool) (p : Fin 8) (r : BusResult) (s : State) : Res :=
  .next (s.served (·.mdioPoll star (if star then p.val else p.val % 4) r))

/-- MDIO_READ. -/
def execMdioRead (w : Writer) (s : State) : Res :=
  .next (s.served fun s => s.accessAct w 0x242806 [1] (·.mdioQueue false))

/-- MDIO_WRITE. -/
def execMdioWrite (w : Writer) (s : State) : Res :=
  .next (s.served fun s => s.accessAct w 0x242806 [2] (·.mdioQueue true))

/-- MDIO_ACCESS_DONE. -/
def execMdioAccessDone (r : BusResult) (s : State) : Res := .next (s.served (·.mdioDone r))

end Sys2Proof.Machine
end

