-- ==== Sys2Proof/Machine/Line.lean ====
section
/-!
DEFINITION. The backbone (spec/06_limiwyn_backbone.md) and the lock-keepers (spec/09_lock_keepers.md): acceptance,
forwarding, open water, SYNC, STATUS, modes, markers and star port gates.
-/

namespace Sys2Proof.Machine

namespace State

/-! ### The lock-keeper (R243 to R248) -/

/-- The dictionary keys of a port's link record and lock-keeper record. -/
def linkRec (p : Nat) : Nat := Od.key (0x2410 + p) 0
def keeperRec (p : Nat) : Nat := Od.key (0x2484 + p) 0

/-- The neighbour's berth on a port: as its latest MAKE_UP gives it, else the berth next to the own. -/
def neighbourBerth (s : State) (p : Nat) : Int :=
  match (s.pl p).heard with
  | some m => m.berth
  | none => if s.leadward p then s.ownBerth - 1 else s.ownBerth + 1

/-- The egress instant of offset w at a berth, k passages from the one in progress (R144). -/
def egressIn (s : State) (b : Int) (w : Nat) (rearward : Bool) (k : Int) : Int :=
  s.egressAt b w rearward + k * s.passageLen * 65536

/-- Frames that arrive on a port travel rearward where the port faces the lead. -/
def rearwardIn (s : State) (p : Nat) : Bool := s.leadward p

/-- Expected arrival a, and the ends of the acceptance window (R244), for offset w, k passages away. -/
def arrival (s : State) (p w : Nat) (k : Int) : Int :=
  s.egressIn (s.neighbourBerth p) w (s.rearwardIn p) k + psToUnits (s.linkDelay p)

/-- The passage distance whose instant lies nearest a stamp: that of the frame the stamp belongs to, as an instant may fall
on either side of a passage start (R144, R244; DEDUCED, log 101). -/
def nearest (instant : Int → Int) (t : Int) : Int :=
  let d (k : Int) := (instant k - t).natAbs
  if d 1 < d 0 then 1 else if d (-1) < d 0 then -1 else 0

def guardUnits (s : State) : Int := (s.guardBand : Int) * 1048576 / 5
def windowLo (s : State) (p w : Nat) (k : Int) : Int := s.arrival p w k - s.guardUnits
def windowHi (s : State) (p w : Nat) (k : Int) : Int :=
  min (s.arrival p w k + s.guardUnits) (s.egressIn s.ownBerth w (s.rearwardIn p) k - residence s.rateCode * 65536)

/-- A stamp lies in the window of a slot. -/
def inWindow (s : State) (p : Nat) (x : Slot) (k t : Int) : Bool :=
  decide (s.windowLo p x.start k ≤ t) && decide (t ≤ s.windowHi p x.start k)

/-- The slot whose window a stamp lies in: its index and passage distance. -/
def slotAt (s : State) (p : Nat) (t : Int) : Option (Nat × Int) :=
  let l := s.tableAt (s.tableIn p)
  ([0, 1, -1].filterMap (fun (k : Int) => (l.findIdx? (fun x => s.inWindow p x k t)).map (fun i => (i, k)))).head?

/-- The flight and the passage k passages from the one in progress. -/
def flightAt (s : State) (k : Int) : Nat :=
  let n : Int := s.passage + k
  ((s.flight : Int) + (if n < 0 then -1 else if n < 64 then 0 else 1)).toNat % 2 ^ 32
def passageAt (s : State) (k : Int) : Nat := (((s.passage : Int) + k) % 64).toNat

/-- The berth R148 or R150 names as the sender of a slot, where it names one this device can tell. -/
def senderBerth (s : State) (p : Nat) (x : Slot) (k : Int) : Option Int :=
  let f := s.frameNow
  let pl := s.passageLen.toNat
  let byId (id : Nat) : Option Int := (s.mu.roster.find? (fun b => decide (b.identity.toNat = id))).map (fun b => (b.berth : Int))
  if x.ptype = 1 then (s.mu.roster.find? (fun b => decide (syncOrder s.mu.roster b.identity.toNat = x.copy + 1))).map (fun b => (b.berth : Int))
  else if x.ptype = 2 then some ((s.passageAt k % (1000000 / max pl 1)) * f.nStatus pl + x.copy + 1 : Nat)
  else if x.ptype = 4 then some (s.neighbourBerth p)
  else if x.ptype = 9 then (if s.rearwardIn p then some (s.neighbourBerth p) else none)
  else if x.ptype = 5 then none
  else if x.repl = 2 then some ((x.copy : Int) + 1)
  else if x.repl = 1 then
    (s.mu.roster.filter (fun b => decide (b.vehicle = x.copy + 1))).foldl (fun (o : Option Int) b =>
      some (o.elim (b.berth : Int) (fun y => min y b.berth))) none
  else byId x.owner

/-- The violation of a slot frame (R245), 0 for none, with the expected arrival it is measured from. -/
def judge (s : State) (p : Nat) (h : Header) (t : Int) : Nat × Int :=
  match s.slotAt p t with
  | none =>
    match s.entry? (s.tableIn p) h.slotIndex with
    | none => (3, t)
    | some x =>
      let k := nearest (s.arrival p x.start) t
      (if t < s.windowLo p x.start k then 1 else 2, s.arrival p x.start k)
  | some (i, k) =>
    match s.entry? (s.tableIn p) i with
    | none => (3, t)
    | some x =>
      let a := s.arrival p x.start k
      let dirOk := decide (h.dir = .rearward) == s.rearwardIn p
      let chanOk := decide (h.channel = .b) == portB p
      if h.major ≠ 1 ∨ h.ptype.toNat ≠ x.ptype ∨ dirOk = false ∨ chanOk = false ∨ h.slotIndex ≠ i ∨
          h.flight.toNat ≠ s.flightAt k ∨ h.passage.val ≠ s.passageAt k ∨ h.mode.val ≠ s.mode then (4, a)
      else if x.size < h.length then (5, a)
      else
        let away := if s.rearwardIn p then decide (s.ownBerth ≤ h.berth) else decide ((h.berth : Int) ≤ s.ownBerth)
        let named : Bool := match s.senderBerth p x k with | some b => decide (b ≠ (h.berth : Int)) | none => false
        if h.berth = 0 ∨ away = true ∨ named = true then (6, a) else (0, a)

/-- The counter of a violation code (R245). -/
def codeSub (code : Nat) : Nat :=
  if code = 1 then 3 else if code = 2 then 4 else if code = 3 then 8 else if code = 4 then 6 else if code = 5 then 5 else 7

/-- Flights since a flight number, modulo 2^32. -/
def flightsSince (s : State) (f : Nat) : Nat := (s.flight + 2 ^ 32 - f % 2 ^ 32) % 2 ^ 32

/-- QUARANTINED, and ISOLATED where the last 16 flights hold enough entries (R243, R247). -/
def quarantine (s : State) (p : Nat) : State :=
  let b := keeperRec p
  let s := ((s.put (b + 1) 2).bump (b + 0xC)).raise (113 + p) 2 p 0
  let hist := (s.flight :: (s.pl p).history.filter (fun f => decide (f ≠ s.flight))).filter (fun f => decide (s.flightsSince f < 16))
  let s := s.setPl p { s.pl p with history := hist, entered := s.flight }
  if s.nat 0x248002 ≤ hist.length then
    (((s.put (b + 1) 3).bump (b + 0xD)).setPl p { s.pl p with isoGen := s.generation }).raise (117 + p) 3 p 0
  else s

/-- A violation (R245): counted once as its code and once for the flight, reported, and judged for quarantine (R247). -/
def violation (s : State) (p code : Nat) (deviation : Int) : State :=
  let b := keeperRec p
  let n := min (s.nat (b + 2) + 1) 255
  let s := (((s.put (b + 2) n).bump (b + codeSub code)).put (b + 0xE) code).put (b + 0xF) (unitsToPs deviation)
  if s.nat 0x248001 ≤ n then s.quarantine p else s

/-- The lock-keeper of a port at a flight boundary (R243): GUARDING begins and returns; the flight's count starts anew. -/
def keeperBoundary (s : State) (p : Nat) : State :=
  let b := keeperRec p
  let s := s.put (b + 2) 0
  if s.isRunning = false ∨ s.keyed p = false ∨ s.linkUpState p = false then
    (s.put (b + 1) 0).setPl p { s.pl p with history := [] }
  else if s.int (b + 1) = 0 then s.put (b + 1) 1
  else if s.int (b + 1) = 2 ∧ 2 ≤ s.flightsSince (s.pl p).entered then s.put (b + 1) 1
  else s

/-- The end of an isolation at an application F (R243, R248): a generation that started after it began. -/
def keeperApplied (s : State) (p : Nat) : State :=
  let b := keeperRec p
  if s.int (b + 1) = 3 ∧ newerGeneration s.generation (s.pl p).isoGen then
    (s.put (b + 1) 1).setPl p { s.pl p with history := [] }
  else s

/-! ### The own transmit gate and forwarding (R146, R222, R249, R253) -/

/-- The gate refuses a slot frame (R249): counted, and raised at the first in a flight. -/
def gateRefuse (s : State) : State :=
  let s := s.bump 0x248106
  if s.line.gateRefusedIn = some s.flight then s
  else { s.raise 121 0 0 0 with line := { (s.raise 121 0 0 0).line with gateRefusedIn := some s.flight } }

/-- Slot frames may leave: not passive, time state SYNC or HOLDOVER (R249); a head frame also while integrating (R222). -/
def mayTransmit (s : State) (head : Bool) : Bool :=
  !s.silenced && ((!s.isPassive && decide (s.timeState = 2 ∨ s.timeState = 3)) ||
    (head && decide (s.timeState = 1) && (decide (0 < s.mu.listen) || s.mu.integrated)))

/-- A link may carry a frame of a kind toward its neighbour (R222, R234, R253): a link of the applied consist carries all,
any other head frames to a neighbour that has taken the own time. -/
def mayCross (s : State) (out : Nat) (head : Bool) : Bool :=
  !(s.linkBroken out) && s.keyed out &&
    ((s.pl out).joined || (head && (match (s.pl out).heard with
      | some m => s.sameTime m && decide (m.timeState ≠ 0) | none => false)))

/-- A beyond-limit berth sends and forwards no slot traffic (R231). -/
def beyondLimit (s : State) : Bool := (s.nat 0x22200B).testBit 5

/-- A head frame: SYNC, STATUS, MAKE_UP or CONSENT. -/
def isHead (ptype : Nat) : Bool := decide (ptype = 1 ∨ ptype = 2 ∨ ptype = 4 ∨ ptype = 9)

/-- A slot frame put into the hold for its egress (R146). Its residence is a free value, at most r (log 3). MAKE_UP is link-local, and each berth sends the
rearward CONSENT itself; the leadward one is forwarded unchanged (R263). The own gate judges it at its egress (R249). -/
def hold (s : State) (p : Nat) (h : Header) (fcsGood : Bool) : State :=
  let out := acrossPort p
  let head := isHead h.ptype.toNat
  match s.entry? (s.tableIn p) h.slotIndex with
  | none => s
  | some x =>
    if h.ptype = 4 ∨ (h.ptype = 9 ∧ s.rearwardIn p) ∨ s.silenced ∨ s.mayCross out head = false ∨ s.beyondLimit then s
    else
      let d := ((h.passage.val : Int) - s.passage + 96) % 64 - 32
      let e := s.egressIn s.ownBerth x.start (s.rearwardIn p) d
      let f : Held := { inPort := p, outPort := out, hdr := h, egress := e, fcsGood := fcsGood }
      let r := s.freeNat % (1000 * residence s.rateCode + 1)
      let s := (s.setPl p { s.pl p with residence := max (s.pl p).residence r }).tookFree
      { s with line := { s.line with heldFrames := s.line.heldFrames ++ [f] } }

/-- A node that missed its application sees the new hash (R228, step 4): passive, and a making-up of cause 7. -/
def missedApplication (s : State) (hash : Nat) : State :=
  match s.mu.consist with
  | some c =>
    if s.muState = 2 ∧ c.hash = hash ∧ s.mu.passive = false then
      ({ s.bump 0x22500A with mu := { s.mu with passive := true } } : State).restart.evaluate
    else s
  | none => s

/-- A slot frame accepted by the lock-keeper (R246): its hash, its passive bit, then the hold and the own copy. The flag
says that the device keeps its copy. -/
def acceptSlot (s : State) (p : Nat) (f : SlotFrame) : State × Bool :=
  let h := f.hdr
  let head := isHead h.ptype.toNat
  if h.ptype ≠ 4 ∧ s.mu.applied ∧ (h.hash.toNat : Int) ≠ s.int 0x222001 then
    ((s.bump 0x248109).missedApplication h.hash.toNat, false)
  else if h.passive ∧ h.ptype ≠ 4 ∧ head = false then (s, false)
  else
    let good := f.fcsOk && f.icvOk
    let s := s.hold p h good
    let s := if f.fcsOk then s else s.bump (linkRec p + 0xB)
    let s := if f.icvOk then s else s.bump (keeperRec p + 9)
    (s, good)

/-- A slot frame arriving at a coupler port (R219, R243, R245). The flag says that the device keeps its copy. -/
def slotArrives (s : State) (p : Nat) (f : SlotFrame) (fine : Nat) : State × Bool :=
  let h := f.hdr
  if s.linkUpState p = false then (s, false)
  else
    let s := s.bump (linkRec p + 9)
    let reserved := decide (h.ptype = 0 ∨ 0xC ≤ h.ptype.toNat)
    if s.keyed p = false then (s, false)
    else if s.linkState p = 3 ∧ h.ptype ≠ 4 then (s, false)
    else if s.keeper p = 0 then (if reserved then (s, false) else s.acceptSlot p f)
    else
      let t := s.ctAt s.clock.counter fine
      let v := s.judge p h t
      if 2 ≤ s.keeper p then
        if h.ptype = 4 ∧ v.1 = 0 then s.acceptSlot p f else (s.bump (keeperRec p + 0xB), false)
      else if v.1 ≠ 0 then (s.violation p v.1 (t - v.2), false)
      else s.acceptSlot p f

/-- A frame still arriving at the end of its slot plus g (R246). -/
def cutSlot (s : State) (p : Nat) (idx : Nat) : State :=
  if s.linkUpState p = false ∨ s.keyed p = false then s
  else
    let s := s.bump (keeperRec p + 0xA)
    { s with line := { s.line with heldFrames := s.line.heldFrames.map (fun (x : Held) =>
      if x.inPort = p ∧ x.hdr.slotIndex = idx then { x with fcsGood := false } else x) } }

/-- The passage in progress, numbered through. -/
def passageNo (s : State) : Nat := s.flight * 64 + s.passage

/-- The number of the passage k passages from the one in progress. -/
def passageNoAt (s : State) (k : Int) : Nat := ((s.passageNo : Int) + k).toNat

/-- The turnaround τ: the egress of the leadward frame less the ingress of the rearward one of the same passage (R185). -/
def turned (x : PortLine) : PortLine :=
  match x.syncOut, x.syncIn with
  | some (n, o), some (m, i) => if n = m then { x with turn := some (o - i) } else x
  | _, _ => x

/-- The egress of SYNC slot 0 is stamped for the link delay, under the passage whose egress instant lies nearest (R185):
`stamp` in 100 ps. -/
def stampSyncOut (s : State) (out idx : Nat) (stamp : Int) : State :=
  if idx = 0 then
    let w := ((s.entry? (s.tableOut out) 0).map (·.start)).getD 0
    let k := nearest (s.egressIn s.ownBerth w (!s.leadward out)) s.ctNow
    s.setPl out (turned { s.pl out with syncOut := some (s.passageNoAt k, stamp) })
  else s

/-- A held slot frame leaves its egress (R146, R184, R249): its hardware stamp lies within the tick (R176), its fine part a
free value (log 3). -/
def releaseSlot (s : State) (out idx : Nat) : State :=
  match s.line.heldFrames.find? (fun x => decide (x.outPort = out ∧ x.hdr.slotIndex = idx)) with
  | none => s
  | some x =>
    let s := { s with line := { s.line with heldFrames := s.line.heldFrames.erase x } }
    let head := isHead x.hdr.ptype.toNat
    let fine := s.freeNat % 32
    let s := s.tookFree
    let eps := s.ctAt s.clock.counter fine - x.egress
    if s.linkUpState out = false then s
    else if s.mayTransmit head = false ∨ s.guardUnits / 2 < eps then s.gateRefuse
    else
      let s := (s.leaves out x.hdr.length).emit (.slot out x.hdr x.fcsGood)
      match x.sync with
      | some (δ, corr, hops) =>
        (s.stampSyncOut out idx ((s.clock.counter : Int) * 32 + fine)).emit (.sync out idx (corr + (δ - eps) / 256) (hops + 1))
      | none => s

/-! ### SYNC (R184 to R186) -/

/-- The payload conditions of R186 on a SYNC value. -/
def syncOk (s : State) (p : Nat) (f : SyncFrame) : Bool :=
  f.frameOk && decide (f.length = 32) && decide (f.order = f.slot + 1) &&
  (f.senderInSync || decide (s.timeState = 1)) &&
  (!s.line.members.formed || (s.nat 0x248101).testBit (f.senderBerth - 1)) &&
  decide (f.hops ≤ 62) && s.delayKnown p

/-- A held SYNC frame is not forwarded (R183). -/
def dropSync (s : State) (p slot : Nat) : State :=
  { s with line := { s.line with heldFrames := s.line.heldFrames.filter (fun x =>
      !(decide (x.inPort = p ∧ x.hdr.ptype = 1 ∧ x.hdr.slotIndex = slot))) } }

/-- A SYNC frame gives its deviation and is prepared for forwarding (R183, R184, R186). -/
def syncReceived (s : State) (p : Nat) (f : SyncFrame) (fine : Nat) : State :=
  if s.linkUpState p = false ∨ s.ctValid = false then s
  else
    let own := s.nat 0x260007
    let mine := decide (own ≠ 0) && decide (f.slot + 1 = own)
    let before := !s.mu.applied
    let partner := s.pairing && decide (f.streamId.toNat = s.nat 0x300104)
    let s := if before ∧ s.mu.listen = 2 ∧ f.slot + 1 = s.nat 0x220004 then { s with mu := { s.mu with orderHeard := true } } else s
    if before ∧ mine ∧ partner = false ∧ s.fuses.identity < f.streamId.toNat then s.dropSync p f.slot
    else
      let s := if before ∧ mine ∧ partner = false ∧ f.frameOk ∧ f.streamId.toNat < s.fuses.identity then
        { s.dropSync p f.slot with mu := { s.mu with yielding := true } } else s
      let stamp : Int := (s.clock.counter : Int) * 32 + fine
      let t := s.ctAt s.clock.counter fine
      let w := ((s.entry? (s.tableIn p) f.slot).map (·.start)).getD 0
      let k := nearest (s.arrival p w) t
      let δ := t - s.arrival p w k
      let s := if f.slot = 0 then
          let x := s.pl p
          let n := s.passageNoAt k
          let loop := if s.leadward p then x.loop else
            (x.syncOut.filter (fun o => decide (o.1 = n))).map (fun o => stamp - o.2)
          s.setPl p (turned { x with syncIn := some (n, stamp), loop := loop })
        else s
      let s := { s with line := { s.line with heldFrames := s.line.heldFrames.map (fun (x : Held) =>
        if x.inPort = p ∧ x.hdr.ptype = 1 ∧ x.hdr.slotIndex = f.slot then { x with sync := some (δ, f.correction, f.hops) } else x) } }
      if s.syncOk p f then
        let v : DevVal := { order := f.slot + 1, chan := f.channel, d := δ + f.correction * 256 }
        let rest := s.clock.vals.filter (fun (u : DevVal) => !(decide (u.order = v.order ∧ u.chan = v.chan)))
        ({ s with clock := { s.clock with vals := rest ++ [v] } } : State).toPartner (.syncValue v.order v.chan v.d)
      else
        let v : DevVal := { order := f.slot + 1, chan := f.channel, d := δ + f.correction * 256, used := false }
        { s.bump 0x26000C with clock := { s.clock with vals := s.clock.vals ++ [v] } }

/-! ### STATUS (R161, R185, R250 to R254, R164) -/

/-- A set of berths with one more. -/
def addBerth (m : Nat) (b : Nat) : Nat := if b = 0 ∨ 64 < b then m else Nat.lor m (2 ^ (b - 1))

/-- The turnaround of a lead-facing port, and the link delay value it gives with the lead side's loop (R185), in ps. -/
def delayValue (s : State) (p : Nat) (loop : Nat) : Option Int :=
  (s.pl p).turn.map (fun τ =>
    let lead := (s.pl p).heard.elim 0 (·.asymmetry)
    (((loop : Int) - τ) * 100) / 2 + (s.int (0x260105 + p) - lead) / 2)

/-- A link delay taken into the record: the mean of 16 values, or the other end's figure. -/
def takeDelay (s : State) (p : Nat) (l : List Int) (v : Int) : State :=
  ((s.put (linkRec p + 6) (max 0 v)).setPl p { s.pl p with measured := true, delays := l }).limitCheck p

/-- The link delay learnt from a neighbour's STATUS (R185). -/
def statusDelay (s : State) (x : Status) : State :=
  let c := (match x.channel with | .a => 0 | .b => 1)
  let leadPort := s.egressPort c 1
  let rearPort := s.egressPort c 0
  if (x.berth : Int) = s.ownBerth - 1 ∧ x.rearLoop ≠ 0xFFFFFFFF then
    match s.delayValue leadPort x.rearLoop with
    | some d => let l := (d :: (s.pl leadPort).delays).take 16; s.takeDelay leadPort l (meanInt l)
    | none => s
  else if (x.berth : Int) = s.ownBerth + 1 then s.takeDelay rearPort [] x.leadDelay
  else s

/-- The later of two flight numbers, modulo 2^32. -/
def laterFlight (a b : Nat) : Nat := if (a + 2 ^ 32 - b % 2 ^ 32) % 2 ^ 32 < 2 ^ 31 then a else b

/-- A berth has sent a STATUS with the holds bit in a flight (R164, step 3). f_a is the flight of the last member's first
one; the mode applies two flights later. -/
def switchHeld (s : State) (berth f : Nat) : State :=
  let w := s.line.switch
  let h := addBerth w.holds berth
  if h = w.holds ∨ s.int 0x243004 ≠ 1 then s
  else
    let fa := if w.holds = 0 then f else laterFlight f w.fa
    let s := { s with line := { s.line with switch := { w with holds := h, fa := fa } } }
    if Nat.land (s.nat 0x248101) h = s.nat 0x248101 then (s.put 0x243004 2).put 0x243006 ((fa + 2) % 2 ^ 32 : Nat) else s

/-- What STATUS says of a mode switch (R164, steps 2 and 3). -/
def statusSwitch (s : State) (x : Status) : State :=
  let s := if x.berth = 1 ∧ x.proposal ∧ s.int 0x243004 = 0 then
      let m := x.proposedMode.val
      let s := (s.put 0x243004 1).put 0x243005 m
      { s with line := { s.line with switch := { s.line.switch with
        mode := m, hash := x.templateHash.toNat, f0 := x.proposalFlight.toNat,
        own := decide (s.template m ≠ []) && decide (s.templateHash m = x.templateHash.toNat) } } }
    else s
  if x.holds then s.switchHeld x.berth x.sentIn.toNat else s

/-- The lead's mode against the own (R162): another mode, or another hash of its template, keeps the device passive. Without
a proposal bytes 14 to 17 carry the hash of the active mode's template (log 87). -/
def statusMode (s : State) (x : Status) : State :=
  let same := decide (x.activeMode.val = s.mode)
  let told := !x.proposal || decide (x.proposedMode.val = s.mode)
  let other := !same || (decide (s.mode ≠ 0) && told && decide (x.templateHash.toNat ≠ s.templateHash s.mode))
  if x.berth = 1 ∧ x.identity.toNat ≠ s.fuses.identity ∧ (s.mu.applied ∨ s.startState = 2) ∧ s.isLead = false then
    if other then { s.put 0x243009 5 with mu := { s.mu with mismatch := true } }
    else if told then { s with mu := { s.mu with mismatch := false } }
    else s
  else s

/-- A STATUS from an adjacent berth that shows this berth heard on the partner's channel (R293, cause 3). -/
def statusHeard (s : State) (x : Status) : State :=
  let b : Int := x.berth
  let seen := if b = s.ownBerth + 1 then (if s.unitA then x.leadHeardB else x.leadHeardA)
    else if b = s.ownBerth - 1 then (if s.unitA then x.rearHeardB else x.rearHeardA) else false
  if s.pairing ∧ seen then { s with pair := { s.pair with heard := true } } else s

/-- A STATUS frame that passed R245 and R246 (R250, R252, R254). -/
def statusReceived (s : State) (x : Status) : State :=
  if x.accepted = false ∨ x.berth = 0 ∨ 64 < x.berth then s
  else
    let m := s.line.members
    let b := x.berth
    let told : Told := { flight := s.flight, passage := s.passage, hash := x.hash.toNat, mode := x.activeMode, generation := x.muGeneration.toNat }
    let other := match x.channel with | .a => Tab.find? m.toldB b | .b => Tab.find? m.toldA b
    let apart := !x.viaTow && (match other with
      | some o => decide (o.flight = told.flight ∧ o.passage = told.passage) &&
          !(decide (o.hash = told.hash ∧ o.mode = told.mode ∧ o.generation = told.generation))
      | none => false)
    let m := { m with
      heardA := if x.viaTow = false ∧ x.channel = .a then addBerth m.heardA b else m.heardA
      heardB := if x.viaTow = false ∧ x.channel = .b then addBerth m.heardB b else m.heardB
      heardTow := if x.viaTow then addBerth m.heardTow b else m.heardTow
      vectors := Tab.insert m.vectors b x.membership.toNat, ids := Tab.insert m.ids b x.identity.toNat
      toldA := if x.channel = .a then Tab.insert m.toldA b told else m.toldA
      toldB := if x.channel = .b then Tab.insert m.toldB b told else m.toldB
      disagree := if apart then addBerth m.disagree b else m.disagree
      capable := if x.syncCapable then addBerth m.capable b else m.capable }
    let s := { s with line := { s.line with members := m } }
    let s := s.statusHeard x
    let s := if apart then (s.bump 0x248107).put 0x248108 (addBerth (s.nat 0x248108) b) else s
    ((s.statusDelay x).statusSwitch x).statusMode x

/-- A berth next to the own was heard in the last flight on a channel's reach vector (R283). A unit of a pair that cannot
know it of its partner's channel, with the tow line lost, says yes. -/
def adjacentHeard (s : State) (vector : Nat) (step : Int) : Bool :=
  let b := s.ownBerth + step
  let blind := s.pairing && !s.pair.up && !(s.drives (if vector = 0x248102 then .a else .b))
  blind || (decide (1 ≤ b) && (s.nat vector).testBit (b.toNat - 1))

/-- The STATUS this device sends on a channel (R161, R191, R229). -/
def statusOf (s : State) (c : Chan) : Status :=
  let cn := (match c with | .a => 0 | .b => 1)
  let w := s.line.switch
  let pending := decide (s.int 0x243004 ≠ 0)
  { channel := c, berth := s.ownBerth.toNat, accepted := true, membership := BitVec.ofNat 64 (s.nat 0x248101),
    hash := BitVec.ofNat 32 (match s.mu.consist with | some x => x.hash | none => s.nat 0x222001),
    activeMode := Fin.ofNat 16 s.mode, proposedMode := Fin.ofNat 16 w.mode, proposal := pending && s.isLead,
    holds := pending && w.own,
    makingUp := decide (1 ≤ s.muState ∧ s.muState ≤ 3), syncCapable := s.flag 0x260101,
    templateHash := BitVec.ofNat 32 (if pending then w.hash else s.templateHash s.mode), proposalFlight := BitVec.ofNat 32 w.f0, progress := s.nat 0x221003,
    leadDelay := s.nat (linkRec (s.egressPort cn 1) + 6), rearDelay := s.nat (linkRec (s.egressPort cn 0) + 6),
    identity := BitVec.ofNat 64 (if s.pairing ∧ s.int 0x300102 = 2 then s.nat 0x300104 else s.fuses.identity),
    timeState := s.timeState.toNat, valuesUsed := s.nat 0x260002,
    lastCorrection := max (-32768) (min 32767 (Int.tdiv (s.int 0x260003) 100)),
    rearLoop := ((s.pl (s.egressPort cn 0)).loop.map Int.toNat).getD 0xFFFFFFFF,
    muState := s.muState.toNat, muGeneration := BitVec.ofNat 16 s.generation,
    muFlight := BitVec.ofNat 32 (s.mu.f.getD 0), foreComplete := s.sideComplete true, aftComplete := s.sideComplete false,
    agree := s.mu.agreeSent, joining := s.mu.joining, paired := s.pairing, motor := decide (s.int 0x300102 = 1),
    unitB := s.pairing && !s.unitA, xdisHeld := s.pair.xdisOut, pairState := s.nat 0x300101,
    resync := s.nat 0x300401 / 100, partner := BitVec.ofNat 32 (if s.pairing then s.nat 0x300104 else 0),
    leadHeardA := s.adjacentHeard 0x248102 (-1), leadHeardB := s.adjacentHeard 0x248103 (-1),
    rearHeardA := s.adjacentHeard 0x248102 1, rearHeardB := s.adjacentHeard 0x248103 1, port := none, sentIn := BitVec.ofNat 32 s.flight }

/-! ### Membership at a flight boundary (R250 to R254) -/

/-- Bits of a set. -/
def bitCount (n : Nat) : Nat := ((List.range 64).filter (fun i => n.testBit i)).length

/-- Membership and reach of the flight that ended, with the events of R252 and R254. The own bit is set while the node sends
STATUS (R250). -/
def formMembership (s : State) : State :=
  let m := s.line.members
  let own := if s.ownBerth ≤ 0 ∨ s.mu.applied = false ∨ s.mayTransmit false = false ∨ s.beyondLimit then 0 else addBerth 0 s.ownBerth.toNat
  let members := Nat.lor own (Nat.lor m.heardA (Nat.lor m.heardB m.heardTow))
  let differ := decide (m.heardA ≠ m.heardB)
  let s := ((s.put 0x248101 members).put 0x248102 m.heardA).put 0x248103 m.heardB
  let s := s.putBytes 0x223001 ((List.range 64).flatMap (fun i => le 8 ((Tab.get (α := Nat) 0 m.ids (i + 1) : Nat) : Int)))
  let s := if differ ∧ m.differ = false then s.raise 123 0 0 0 else if differ = false ∧ m.differ then s.raise 124 0 0 0 else s
  let twice := decide (Nat.land m.disagree m.disagreePrev ≠ 0)
  let s := if twice then s.raise 125 0 0 0 else s
  let s := s.put 0x248108 m.disagree
  { s with line := { s.line with members := { formed := m.formed || s.isRunning, differ := differ, disagreePrev := m.disagree } } }

/-- The vectors of the flight that ended lack the own bit (R251): at least half of them. -/
def flightMissing (s : State) : Bool :=
  let own := addBerth 0 s.ownBerth.toNat
  let vs := (s.line.members.vectors.filter (fun e => decide ((e.1 : Int) ≠ s.ownBerth))).map (·.2)
  let lack := vs.filter (fun v => decide (Nat.land v own = 0))
  decide (vs ≠ []) && decide ((vs.length + 1) / 2 ≤ lack.length)

/-- Missing flights and going passive (R251). No flight is judged while the device holds no berth it transmits from. -/
def missingFlights (s : State) (missing : Bool) : State :=
  if s.isRunning = false ∨ s.mu.applied = false then s.put 0x248104 0
  else if missing then
    let n := s.nat 0x248104 + 1
    let s := s.put 0x248104 n
    if n = 2 then (s.bump 0x248105).leaveRunning.raise 122 0 0 0 else s
  else s.put 0x248104 0

/-! ### Modes (R162 to R164) -/

/-- A switch is refused or cancelled: counted, with its cause (R163, R164). -/
def refuseSwitch (s : State) (cause : Nat) : State := ((s.bump 0x243008).put 0x243009 cause).raise 134 cause 0 0

/-- The pending switch is gone. -/
def clearSwitch (s : State) : State :=
  let s := ((s.put 0x243004 0).put 0x243005 0).put 0x243006 0
  { s with line := { s.line with switch := { byLimp := s.line.switch.byLimp } } }

/-- The lead proposes a mode (R163, R164, step 1). -/
def propose (s : State) (m : Nat) : State :=
  if s.int 0x243004 ≠ 0 then s.refuseSwitch 2
  else if m = 0 ∨ s.template m = [] then s.refuseSwitch 4
  else
    let s := (s.put 0x243004 1).put 0x243005 m
    { s with line := { s.line with switch := { s.line.switch with
      mode := m, hash := s.templateHash m, f0 := s.flight, holds := 0, own := true } } }

/-- A mode request (R163): proposed by the lead, else carried to it. -/
def modeRequest (s : State) (m : Nat) : State :=
  if s.isLead then s.propose m else s.sendMgmt (s.nat 0x222007) 0x2430 3 [BitVec.ofNat 8 m]

/-- The new mode in force: its passage length and tables (R143, R164). -/
def enterMode (s : State) (m : Nat) : State := (s.put 0x240002 m).refreshTables

/-- The switch at a flight boundary (R164, steps 4 and 5). `s.flight` is the flight that begins. -/
def switchBoundary (s : State) : State :=
  if s.int 0x243004 = 2 ∧ s.sleepAgreed = false ∧ s.flightsSince (s.nat 0x243006) < 2 ^ 31 then
    let m := s.line.switch.mode
    let limp := decide (s.line.switch.wanted = some m)
    let s := ((s.clearSwitch.enterMode m).bump 0x243007).raise 133 m 0 0
    { s with line := { s.line with switch := { s.line.switch with byLimp := limp } } }
  else if s.int 0x243004 = 1 ∧ 5 ≤ s.flightsSince s.line.switch.f0 then
    let lacking := Nat.land (s.nat 0x248101) (Nat.xor (2 ^ 64 - 1) s.line.switch.holds)
    ((s.put 0x24300A lacking).refuseSwitch 1).clearSwitch
  else s

/-- The mode at an application (R162, R163, R164): the first one switches to the run mode; a later one cancels a switch;
the limp rule and the way back from it are requests of the lead. -/
def modeApplied (s : State) (first : Bool) (reachDiffers : Bool) : State :=
  let run := s.nat 0x243001
  let s := if s.int 0x243004 ≠ 0 then (s.refuseSwitch 3).clearSwitch else s
  let s := if first ∧ s.mode = 0 then
      (if s.template run = [] then s.put 0x243009 4 else s.enterMode run)
    else s.refreshTables
  if s.isLead then
    if s.flag 0x243002 ∧ reachDiffers ∧ s.mode ≠ 15 then
      let t := s.propose 15
      if t.int 0x243004 = 0 then t else { t with line := { t.line with switch := { t.line.switch with wanted := some 15 } } }
    else if s.mode = 15 ∧ s.line.switch.byLimp ∧ reachDiffers = false then s.propose run
    else s
  else s

/-! ### Open water (R155, R156) -/

/-- The first start of a slot window at an ingress after an instant, by the neighbour's line time (R245, code 3). -/
def nextWindow (s : State) (p : Nat) (t : Int) : Option Int :=
  ([0, 1].flatMap (fun (k : Int) => (s.tableAt (s.tableIn p)).map (fun x => s.windowLo p x.start k))).foldl
    (fun (o : Option Int) a => if a ≤ t then o else some (o.elim a (min a))) none

/-- The open-water violation of R245, code 3: the first bit in a slot window, or a length past the next window less g. -/
def owOutside (s : State) (p : Nat) (t : Int) (bytes : Nat) : Bool :=
  (s.slotAt p t).isSome || (match s.nextWindow p t with
    | some n => decide (n - s.guardUnits < t + (wireTicks (s.nat (linkRec p + 5)) (90 + bytes) : Int) * 1048576 / 5)
    | none => false)

/-- The violation of an open-water frame (R245): codes 3, 4 and 6. -/
def owJudge (s : State) (p : Nat) (f : OwFrame) (t : Int) : Nat :=
  let h := f.hdr
  let dirOk := decide (h.dir = .rearward) == s.rearwardIn p
  let chanOk := decide (h.channel = .b) == portB p
  if s.owOutside p t f.bytes then 3
  else if h.major ≠ 1 ∨ dirOk = false ∨ chanOk = false ∨ h.flight.toNat ≠ s.flight ∨ h.mode.val ≠ s.mode then 4
  else if 9216 < f.bytes then 5
  else if h.berth = 0 ∨ (if s.rearwardIn p then decide (s.ownBerth ≤ h.berth) else decide ((h.berth : Int) ≤ s.ownBerth)) then 6
  else 0

/-- An open-water frame arrives (R155, R156, R243, R245): taken if it is for this device, else forwarded across. -/
def owReceived (s : State) (p : Nat) (f : OwFrame) (fine : Nat) : State :=
  if s.linkUpState p = false then s
  else
    let s := s.bump (linkRec p + 9)
    if s.keyed p = false then s
    else
      let t := s.ctAt s.clock.counter fine
      let v := s.owJudge p f t
      if 2 ≤ s.keeper p then s.bump (keeperRec p + 0xB)
      else if s.keeper p = 1 ∧ v ≠ 0 then s.violation p v 0
      else if s.mu.applied ∧ (f.hdr.hash.toNat : Int) ≠ s.int 0x222001 then (s.bump 0x248109).missedApplication f.hdr.hash.toNat
      else
        let s := if f.fcsOk then s else s.bump (linkRec p + 0xB)
        let s := if f.icvOk then s else s.bump (keeperRec p + 9)
        if f.fcsOk = false ∨ f.icvOk = false ∨ f.destination.toNat = s.fuses.identity then s
        else if s.linkUpState (acrossPort p) then s.owQueueUp (acrossPort p) { otype := f.otype, bytes := f.bytes, header := some f.hdr }
        else s

/-- The ticks of line time at an egress now. -/
def lineTicks (s : State) (p : Nat) : Int :=
  let rear := !(s.leadward p)
  (s.ctNow - s.egressAt s.ownBerth 0 rear) * 5 / 1048576

/-- A frame of some ticks started now ends at least one guard band before the next slot of an egress (R155). -/
def owFits (s : State) (p ticks : Nat) : Bool :=
  let w := s.lineTicks p
  let f := s.frameNow
  let plen : Int := s.passageLen * 10 / 32
  let l := s.tableAt (s.tableOut p)
  [0, plen, -plen].all (fun k => l.all (fun x =>
    decide ((x.start : Int) + k + f.cost x.size ≤ w) || decide (w + ticks + s.guardBand ≤ (x.start : Int) + k)))

/-- An egress starts the next open-water frame if it fits (R155): an own one under its header and the CT of its start (R159),
a forwarded one as it came. -/
def owSend (s : State) (p : Nat) : State :=
  match (s.pl p).owQueue with
  | [] => s
  | x :: t =>
    let ticks := wireTicks (s.nat (linkRec p + 5)) (90 + x.bytes)
    if s.linkUpState p ∧ s.keyed p ∧ s.owFits p ticks ∧ s.silenced = false then
      let s := s.setPl p { s.pl p with owQueue := t }
      match x.own with
      | some payload => s.sendFrame p (s.headerOf p (owPayload x.otype) none payload.length) s.ctNow payload
      | none => (s.leaves p x.bytes).emit (.openWater p x.otype x.bytes x.header)
    else s

/-! ### Markers, star ports (R138, R165, R255) -/

/-- A passage marker fires (R165): its event, and its time pulse with the marker's width. -/
def markerFire (s : State) (i : Nat) : State :=
  let b := Od.key (0x2468 + i) 0
  if s.flag (b + 1) ∧ s.int (b + 2) < s.passageLen ∧ (s.int (b + 3) = 0xFF ∨ s.int (b + 3) = s.passage) ∧ s.ctValid then
    let s := (s.bump (b + 6)).raise (96 + i) 0 i 0
    let tp := s.nat (b + 4)
    if tp < 12 then s.placeEdge tp s.clock.ct (s.passageStart + s.int (b + 2) * 65536) (s.nat (b + 5)) else s
  else s

/-- The star ingress gate of a port is open at a stamp (R255). -/
def starOpen (s : State) (p : Nat) (t : Int) : Bool :=
  let b := Od.key (0x2498 + p) 0
  let len := s.int (b + 2)
  let at_ := t - s.passageStart
  len = 0 || (decide (s.int (b + 1) * 65536 ≤ at_) && decide (at_ < (s.int (b + 1) + len) * 65536))

/-- A configured camera stream of a star port: the stream ID is an enabled network camera's (R36, R255). -/
def streamOf (s : State) (p : Nat) (id : Nat) : Option Nat :=
  (List.range 8).find? (fun n => s.flag (Od.key (0x2810 + n) 1) && decide (s.nat (Od.key (0x2810 + n) 0x28) = id) &&
    decide (s.nat (Od.key (0x2810 + n) 3) = 0x10 + p))

/-- A frame at a star ingress (R138, R255): gPTP bypasses the gate; a configured stream passes gate and filter. -/
def starReceived (s : State) (p : Nat) (f : StarFrame) (fcsOk : Bool) (fine : Nat) : State :=
  let b := Od.key (0x2418 + p) 0
  let g := Od.key (0x2498 + p) 0
  if s.starUp p = false then s
  else
    let s := s.bump (b + 7)
    if fcsOk = false then s.bump (b + 9)
    else match f with
    | .gptp => s
    | .other => s.bump (b + 0xA)
    | .stream id bytes =>
      match s.streamOf p id.toNat with
      | none => s.bump (b + 0xA)
      | some _ =>
        if s.starOpen p (s.ctAt s.clock.counter fine) = false then s.bump (g + 7)
        else if s.int (g + 5) = 1 then s.bump (g + 8)
        else if s.int (g + 3) < bytes then
          let s := s.bump (g + 8)
          if s.flag (g + 4) then s.put (g + 5) 1 else s
        else s.bump (g + 6)

end State

/-! ### The commands -/

/-- SLOT_FRAME_CUT. -/
def execSlotFrameCut (p : Cpl) (idx : Fin 256) (s : State) : Res := .next (s.served (·.cutSlot p.no idx))

/-- SLOT_FORWARD_RELEASE. -/
def execSlotForwardRelease (p : Cpl) (idx : Fin 256) (s : State) : Res := .next (s.served (·.releaseSlot p.no idx))

/-- OPEN_WATER_FRAME_RECEIVED. -/
def execOpenWaterFrameReceived (p : Cpl) (f : OwFrame) (fine : Fin 32) (s : State) : Res :=
  .next (s.served (·.owReceived p.no f fine))

/-- OPEN_WATER_SEND. -/
def execOpenWaterSend (p : Cpl) (s : State) : Res := .next (s.served (·.owSend p.no))

/-- STATUS_RECEIVED. -/
def execStatusReceived (x : Status) (s : State) : Res := .next (s.served (·.statusReceived x))

/-- MODE_REQUEST. -/
def execModeRequest (w : Writer) (v : Byte) (s : State) : Res :=
  .next (s.served fun s => s.accessAct w 0x243003 [v] fun s => (s.modeRequest v.toNat, 0))

/-- PASSAGE_MARKER_FIRE. -/
def execPassageMarkerFire (i : Fin 8) (s : State) : Res := .next (s.served (·.markerFire i))

/-- STAR_FRAME_RECEIVED. -/
def execStarFrameReceived (p : Fin 8) (f : StarFrame) (fcsOk : Bool) (fine : Fin 32) (s : State) : Res :=
  .next (s.served (·.starReceived p f fcsOk fine))

/-- FILTER_UNBLOCK. -/
def execFilterUnblock (w : Writer) (p : Fin 8) (v : Byte) (s : State) : Res :=
  .next (s.served fun s => s.accessAct w (Od.key (0x2498 + p) 5) [v] fun s => (s.put (Od.key (0x2498 + p) 5) 0, 0))

/-- SYNC_RECEIVED. -/
def execSyncReceived (p : Cpl) (f : SyncFrame) (fine : Fin 32) (s : State) : Res :=
  .next (s.served (·.syncReceived p.no f fine))

end Sys2Proof.Machine
end

