-- ==== Sys2Proof/Machine/Pipeline.lean ====
section
/-!
DEFINITION. The arithmetic of the pixel pipeline: the front-end stages (R58 to R66), the meshes and the warp (R67 to R70),
the slice sizes (R89) and the exposure rules (R34, R43, R62, R65). Linear values are exact rationals; 1 is full scale.
-/

namespace Sys2Proof.Machine

/-! ### Formats (R28) -/

/-- Bits per sample of a RAW format, and bits per pixel of a format code. -/
def rawBits (f : Nat) : Nat := if f = 1 then 10 else if f = 2 then 12 else if f = 3 then 14 else if f = 4 then 16 else 20
def formatBpp (f : Nat) : Nat := if f = 6 then 16 else if f = 7 then 20 else rawBits f

/-- The CSI-2 data type of a format code. -/
def formatType (f : Nat) : Nat :=
  if f = 1 then 0x2B else if f = 2 then 0x2C else if f = 3 then 0x2D else if f = 4 then 0x2E else if f = 5 then 0x2F
  else if f = 6 then 0x1E else 0x1F

/-- A RAW format. -/
def isRaw (f : Nat) : Bool := decide (f ≤ 5)

/-! ### Stages 1 to 3 -/

/-- A value of the linear range clamped to 0 and 1. -/
def clamp01 (x : Rat) : Rat := if x < 0 then 0 else if 1 < x then 1 else x

/-- The knee points of a decompanding curve (R60): pairs of 32-bit input and output values. -/
def knees (b : List Byte) : List (Nat × Nat) :=
  (List.range (b.length / 8)).map (fun i => (field b (8 * i) 4, field b (8 * i + 4) 4))

/-- Linear interpolation through knee points from a point on; above the last knee its output (R60). -/
def throughKnees (p : Nat × Nat) : List (Nat × Nat) → Nat → Rat
  | [], _ => p.2
  | q :: t, v =>
    if v ≤ q.1 then
      if q.1 = p.1 then q.2 else (p.2 : Rat) + (v - p.1 : Int) * ((q.2 : Int) - p.2) / ((q.1 : Int) - p.1)
    else throughKnees q t v

/-- Stages 1 and 2 (R60): black level, decompanding, full scale 1. Below the first knee the curve runs from (0, 0) to it;
an empty curve is the identity on the input, whose full scale 2^bits - 1 is then 1 (both DESIGN CHOICE, log 78). -/
def linearise (curve : List (Nat × Nat)) (black bits v : Nat) : Rat :=
  let x := v - black
  match curve with
  | [] => clamp01 ((x : Rat) / (2 ^ bits - 1 : Nat))
  | _ => clamp01 (throughKnees (0, 0) curve x / (2 ^ 20 - 1 : Nat))

/-- The settings of stage 3 (R61, R62): ratios q_2 and q_3, knee, flicker exposure (0 for off) and threshold. -/
structure MergeCfg where
  q : List Rat
  ks : Rat
  ke : Rat
  flicker : Nat
  thr : Rat
  deriving DecidableEq, Repr

/-- The merge of mode 1 (R61). -/
def mergeLoop (c : MergeCfg) : List (Rat × Rat) → Rat → Rat → Rat
  | [], _, m => m
  | (v, q) :: t, prev, m =>
    let w := clamp01 ((prev - c.ks) / (c.ke - c.ks))
    mergeLoop c t v ((1 - w) * m + w * v * q)

/-- The merged value, and whether flicker mitigation replaced it (R61, R62). -/
def mergePixel (c : MergeCfg) (vs : List Rat) : Rat × Bool :=
  let vq := vs.zip c.q
  let m := mergeLoop c (vq.drop 1) (vs.headD 0) (vs.headD 0)
  let qn := (vq.map (·.2)).getLastD 1
  let vf := vs.getD (c.flicker - 1) 0
  let ref := vf * c.q.getD (c.flicker - 1) 1
  if c.flicker ≠ 0 ∧ vf < c.ks ∧ m < ref * (1 - c.thr) then (ref / qn, true) else (m / qn, false)

/-- A linear value rounded to 20 bits (R61). -/
def to20 (x : Rat) : Nat := ((x * (2 ^ 20 - 1 : Nat) + 1 / 2).floor).toNat

/-! ### Stages 4 to 7 -/

/-- The colour of a Bayer site (R82): 0 red, 1 green, 2 blue; 3 a site of a monochrome sensor (pattern 4). -/
def siteColour (pattern row col : Nat) : Nat :=
  let a := row % 2
  let b := col % 2
  let (a, b) := if pattern = 1 then (a, 1 - b) else if pattern = 2 then (1 - a, b) else if pattern = 3 then (1 - a, 1 - b) else (a, b)
  if pattern = 4 then 3 else if a = 0 ∧ b = 0 then 0 else if a = 1 ∧ b = 1 then 2 else 1

/-- Stage 4 (R63): the white-balance gain of a site, 4.12, clipped at 1. -/
def whiteBalance (gain : Nat) (x : Rat) : Rat := clamp01 (x * gain / 4096)

/-- The mean of the neighbours of a colour in a 3 x 3 neighbourhood given with its sites' colours (R63, bilinear). -/
def bilinearSite (n : List (Nat × Rat)) (colour : Nat) : Rat :=
  let l := (n.filter (fun p => decide (p.1 = colour))).map (·.2)
  if l = [] then 0 else l.sum / l.length

/-- Stage 6 (R63): the matrix, row-major signed 4.12, clipped. -/
def colourMatrix (m : List Int) (rgb : List Rat) : List Rat :=
  (List.range 3).map (fun i => clamp01 ((List.range 3).foldl (fun (a : Rat) j => a + m.getD (3 * i + j) 0 * rgb.getD j 0 / 4096) 0))

/-- A pixel of a YUV 4:2:2 row as a 10-bit triple (R59): samples in the order Cb Y Cr Y; 8-bit components times 4. -/
def yuvPixel (eight : Bool) (samples : List Nat) (x : Nat) : Nat × Nat × Nat :=
  let g := if eight then 4 else 1
  let b := x / 2 * 4
  (samples.getD (2 * x + 1) 0 * g, samples.getD b 0 * g, samples.getD (b + 2) 0 * g)

/-- The settings of stages 4 to 7: pattern, gains, method, matrix, tone-mapping strength, output range, frame size and
the histograms of the previous accepted frame. -/
structure FrontCfg where
  pattern : Nat
  gains : List Nat
  edge : Bool
  matrix : List Int
  strength : Nat
  range : Nat
  width : Nat
  height : Nat
  stats : Option (Tab Nat)
  deriving DecidableEq, Repr

/-- A gained site of a merged row, with its colour; none beyond the frame and where a row is missing. A monochrome site
has no gain. -/
def gainedSite (c : FrontCfg) (rows : Int → List Nat) (r x : Int) : Option (Nat × Rat) :=
  if r < 0 ∨ x < 0 then none
  else ((rows r)[x.toNat]?).map (fun v =>
    let col := siteColour c.pattern r.toNat x.toNat
    (col, whiteBalance (c.gains.getD col 4096) ((v : Rat) / (2 ^ 20 - 1 : Nat))))

/-- The pair of neighbours of a colour on a line through a site, where both are there: gradient and mean. -/
def sitePair (c : FrontCfg) (rows : Int → List Nat) (r x dr dc : Int) (colour : Nat) : Option (Rat × Rat) :=
  match gainedSite c rows (r - dr) (x - dc), gainedSite c rows (r + dr) (x + dc) with
  | some a, some b =>
    if a.1 = colour ∧ b.1 = colour then some (if a.2 < b.2 then b.2 - a.2 else a.2 - b.2, (a.2 + b.2) / 2) else none
  | _, _ => none

/-- Edge-directed interpolation (R63): the mean of the two neighbours of the colour along the direction of the smaller
gradient, the first of the row, the column and the diagonals on a tie (log 78); bilinear where no pair is there. -/
def edgeSite (c : FrontCfg) (rows : Int → List Nat) (r x : Int) (colour : Nat) (otherwise : Rat) : Rat :=
  let pairs := [((0 : Int), (1 : Int)), (1, 0), (1, 1), (1, -1)].filterMap (fun d => sitePair c rows r x d.1 d.2 colour)
  match pairs with
  | [] => otherwise
  | a :: t => (t.foldl (fun b p => if p.1 < b.1 then p else b) a).2

/-- Stage 5 (R63): linear RGB of a site, the own colour as it is, the others from the neighbourhood. At the border of the
frame and beside rows that are missing or not yet there, bilinear takes the mean of the neighbours present, 0 where there
is none (DESIGN CHOICE, log 78). -/
def demosaic (c : FrontCfg) (rows : Int → List Nat) (r x : Int) : List Rat :=
  let n := [r - 1, r, r + 1].flatMap (fun i => [x - 1, x, x + 1].filterMap (gainedSite c rows i))
  let own := (gainedSite c rows r x).getD (0, 0)
  (List.range 3).map (fun col =>
    if own.1 = col then own.2
    else if c.edge then edgeSite c rows r x col (bilinearSite n col) else bilinearSite n col)

/-- Linear RGB after stage 6; a monochrome sensor's one value (R59). -/
def linearRgb (c : FrontCfg) (rows : Int → List Nat) (r x : Int) : List Rat :=
  if c.pattern = 4 then [((gainedSite c rows r x).getD (0, 0)).2] else colourMatrix c.matrix (demosaic c rows r x)

/-- The luminance of linear RGB in BT.709 primaries, and its bin of 64. -/
def luminance (v : List Rat) : Rat :=
  match v with
  | [r, g, b] => (2126 * r + 7152 * g + 722 * b) / 10000
  | [y] => y
  | _ => 0
def lumaBin (y : Rat) : Nat := min 63 ((y * 64).floor.toNat)

/-- The tile of a pixel (R64): 16 columns, 9 rows. -/
def tileOf (w h r x : Nat) : Nat := min 8 (r * 9 / max 1 h) * 16 + min 15 (x * 16 / max 1 w)

/-- The histogram of a tile, and of the whole frame. -/
def tileHist (t : Tab Nat) (tile : Nat) : List Nat := (List.range 64).map (fun i => Tab.get (α := Nat) 0 t (tile * 64 + i))
def frameHist (t : Tab Nat) : List Nat :=
  (List.range 64).map (fun i => ((t.filter (fun e => decide (e.1 % 64 = i))).map (·.2)).sum)

/-- The BT.709 transfer function. -/
def bt709 (x : Rat) : Rat := if x < 18 / 1000 then 9 / 2 * x else 1099 / 1000 * Config.pow045 x - 99 / 1000

/-- A position on the grid of tile centres: the lower tile, and the part toward the next; past the outer centres the
outer tile alone. -/
def gridAt (n size : Nat) (p : Nat) : Nat × Rat :=
  let g : Rat := ((p : Rat) + 1 / 2) * n / (max 1 size : Nat) - 1 / 2
  if g < 0 then (0, 0) else if ((n - 1 : Nat) : Rat) ≤ g then (n - 1, 0) else (g.floor.toNat, g - g.floor)

/-- Stage 7's tone mapping of a linear component at a pixel (R64): the curves of the four nearest tiles blended
bilinearly, mixed with the global curve by the strength; the BT.709 transfer function alone without statistics. Applied
to each component (log 78). -/
def toneValue (c : FrontCfg) (r x : Nat) (v : Rat) : Rat :=
  match c.stats with
  | none => bt709 v
  | some t =>
    let gx := gridAt 16 c.width x
    let gy := gridAt 9 c.height r
    let at_ (j i : Nat) : Rat := Config.toneCurve (tileHist t (min 8 j * 16 + min 15 i)) v
    let row (j : Nat) : Rat := (1 - gx.2) * at_ j gx.1 + gx.2 * at_ j (gx.1 + 1)
    let localV := (1 - gy.2) * row gy.1 + gy.2 * row (gy.1 + 1)
    (c.strength * localV + (100 - (c.strength : Rat)) * Config.toneCurve (frameHist t) v) / 100

/-- A code of 10 bits. -/
def code10 (x : Rat) : Nat := min 1023 (Config.roundCode x).toNat

/-- Stage 7's output encoding (R64): BT.709 YCbCr of non-linear RGB in full (0) or limited range. -/
def encodeYcc (range : Nat) (rgb : List Rat) : Nat × Nat × Nat :=
  let y := luminance rgb
  let cb := (rgb.getD 2 0 - y) * 10000 / 18556
  let cr := (rgb.getD 0 0 - y) * 10000 / 15748
  if range = 0 then (code10 (1023 * y), code10 (512 + 1023 * cb), code10 (512 + 1023 * cr))
  else (code10 (64 + 876 * y), code10 (512 + 896 * cb), code10 (512 + 896 * cr))

/-- Stages 4 to 7 of one pixel (R58, R59): a monochrome sensor's chroma is 512. -/
def frontPixel (c : FrontCfg) (rows : Int → List Nat) (r x : Int) : Nat × Nat × Nat :=
  let v := (linearRgb c rows r x).map (toneValue c r.toNat x.toNat)
  if c.pattern = 4 then ((encodeYcc c.range v).1, 512, 512) else encodeYcc c.range v

/-- The luminances of a row counted into its tiles (R64). -/
def countRow (c : FrontCfg) (rows : Int → List Nat) (t : Tab Nat) (r : Nat) : Tab Nat :=
  (List.range c.width).foldl (fun (t : Tab Nat) x =>
    let i := tileOf c.width c.height r x * 64 + lumaBin (luminance (linearRgb c rows r x))
    Tab.set (α := Nat) 0 t i (Tab.get (α := Nat) 0 t i + 1)) t

/-! ### Exposure (R34, R43, R62, R65) -/

/-- The exposure in lines for an exposure and a line time (R34), at least the cover of R62, at most half the frame period
(R43), all in ps; its effective value. With global shutter it is a whole number of ns. -/
def exposureLines (e cover lineTime half : Nat) : Nat :=
  min (max ((2 * e + lineTime) / (2 * lineTime)) ((cover + lineTime - 1) / lineTime)) (half / lineTime)
def effective (e cover lineTime half : Nat) : Nat :=
  if lineTime = 0 then min (max (e / 1000) ((cover + 999) / 1000)) (half / 1000) * 1000
  else exposureLines e cover lineTime half * lineTime

/-- Automatic exposure (R65), in ps: y is a fraction of full scale, t in 1/65536 of it, s in per cent. The result is
floored to ps: R65 states no rounding (DESIGN CHOICE, log 79). -/
def autoExposure (e : Nat) (y : Rat) (t s lo hi : Nat) : Nat :=
  let up := e * (100 + s) / 100
  let down := e * (100 - s) / 100
  let x := if y = 0 then up else min up (max down ((e * t : Rat) / (65536 * y)).floor.toNat)
  min hi (max lo x)

/-! ### Meshes (R67, R68) -/

/-- Columns or rows of a mesh over a domain size. -/
def meshDim (n : Nat) : Nat := (n + 31) / 32 + 1

/-- A mesh keeps to R67 for a domain. -/
def meshOk (m : List Byte) (w h : Nat) : Bool :=
  let c := field m 2 2
  let r := field m 4 2
  decide (16 ≤ m.length) && decide (field m 0 2 = 1) && decide (c = meshDim w ∧ r = meshDim h) &&
  decide (field m 6 2 = w ∧ field m 8 2 = h) && decide (3 ≤ c ∧ c ≤ 129) && decide (3 ≤ r ∧ r ≤ 129) &&
  decide (m.length = 16 + 4 * c * r) && decide (field m 12 4 = crc32 (m.drop 16)) &&
  (List.range (c * r)).all (fun i =>
    decide (field m (16 + 4 * i) 2 = 0xFFFF) == decide (field m (18 + 4 * i) 2 = 0xFFFF))

/-- A vertex in pixels; none where it is marked invalid. -/
def vertex (m : List Byte) (i j : Nat) : Option (Rat × Rat) :=
  let o := 16 + 4 * (j * field m 2 2 + i)
  if field m o 2 = 0xFFFF then none else some ((field m o 2 : Rat) / 16, (field m (o + 2) 2 : Rat) / 16)

/-- A mesh at a domain point (R68): bilinear over the four vertices around it; an empty mesh is the identity. -/
def meshAt (m : List Byte) (x y : Rat) : Option (Rat × Rat) :=
  if m = [] then some (x, y)
  else if x < 0 ∨ y < 0 then none
  else
    let i := (x / 32).floor.toNat
    let j := (y / 32).floor.toNat
    let fx := x / 32 - i
    let fy := y / 32 - j
    match vertex m i j, vertex m (i + 1) j, vertex m i (j + 1), vertex m (i + 1) (j + 1) with
    | some a, some b, some c, some d =>
      let mix (f : Rat × Rat → Rat) : Rat := (1 - fy) * ((1 - fx) * f a + fx * f b) + fy * ((1 - fx) * f c + fx * f d)
      some (mix (·.1), mix (·.2))
    | _, _, _, _ => none

/-- The sensor point of an output pixel at a pan (R68, R69): through the view mesh, the rectified frame and the lens
mesh. -/
def sensorPoint (view lens : List Byte) (rw rh : Nat) (pan : Rat) (c r : Nat) : Option (Rat × Rat) :=
  match meshAt view ((c : Rat) + 1 / 2) ((r : Rat) + 1 / 2) with
  | none => none
  | some (u, v) =>
    let x := u + pan
    if x < 0 ∨ (rw : Rat) < x ∨ v < 0 ∨ (rh : Rat) < v then none else meshAt lens x v

/-! ### Slices (R89) -/

/-- DSC slices per line, the bytes of a row, of a slice of some rows. -/
def slicesPerLine (w : Nat) : Nat := if w ≤ 1280 then 1 else 2
def rowBytes (w b16 : Nat) : Nat := slicesPerLine w * ((w / slicesPerLine w * b16 + 127) / 128)
def sliceBytes (w b16 rows : Nat) : Nat := rowBytes w b16 * rows

/-- Slices of a frame, and the rows of slice j. -/
def sliceCount (height h : Nat) : Nat := (height + h - 1) / h
def sliceRows (height h j : Nat) : Nat := min h (height - j * h)

/-- The checked points of slice j (R70): every eighth output column and the last, top and bottom row, the pan values. -/
def checkColumns (w : Nat) : List Nat := (List.range ((w + 7) / 8)).map (fun i => 8 * i) ++ [w - 1]
def checkPans (limit : Nat) (on : Bool) : List Rat :=
  if on then (List.range 17).map (fun i => (-(limit : Rat)) + (i : Rat) * limit / 8) else [0]

/-- The points (t, v) of slice j at the checked points (R70, R127): sensor row and rectified row. -/
def slicePoints (view lens : List Byte) (rw rh w height h limit : Nat) (panOn : Bool) (j : Nat) : List (Rat × Rat) :=
  [j * h, j * h + sliceRows height h j - 1].flatMap (fun r => (checkColumns w).flatMap (fun c =>
    (checkPans limit panOn).filterMap (fun p =>
      match sensorPoint view lens rw rh p c r, meshAt view ((c : Rat) + 1 / 2) ((r : Rat) + 1 / 2) with
      | some x, some y => some (x.2, y.2)
      | _, _ => none)))

/-- The smallest rectified row an output row of slice j maps to (R121). -/
def smallestV (view : List Byte) (w height h j : Nat) : Rat :=
  let l := (List.range (sliceRows height h j)).flatMap (fun r => (List.range w).filterMap (fun c =>
    (meshAt view ((c : Rat) + 1 / 2) (((j * h + r : Nat) : Rat) + 1 / 2)).map (·.2)))
  match l with | [] => 0 | a :: t => t.foldl min a

/-- The weight of a tap at a distance: bilinear, or bicubic with a = -0.5 (R69). -/
def tapWeight (bicubic : Bool) (d : Rat) : Rat :=
  let x := if d < 0 then -d else d
  if bicubic then
    if x ≤ 1 then 3 / 2 * x * x * x - 5 / 2 * x * x + 1
    else if x < 2 then -(1 / 2) * x * x * x + 5 / 2 * x * x - 4 * x + 2 else 0
  else if x < 1 then 1 - x else 0

/-- The interpolation of a component between its taps (R69), row-major, m in a row; `fx`, `fy`: the point from the first
tap. -/
def interpolate (bicubic : Bool) (m : Nat) (taps : List Nat) (fx fy : Rat) : Nat :=
  code10 (((List.range m).map (fun (b : Nat) => ((List.range m).map (fun (a : Nat) =>
    tapWeight bicubic (fx - a) * tapWeight bicubic (fy - b) * ((taps.getD (b * m + a) 0 : Nat) : Rat))).sum)).sum)

/-- need(j) and first(j) of R70. -/
def needOf (ts : List Rat) (bicubic : Bool) : Int :=
  match ts with
  | [] => 0
  | a :: t => (t.foldl max a).ceil - (t.foldl min a).floor + (if bicubic then 3 else 1) + 2
def firstOf (ts : List Rat) (bicubic : Bool) : Int :=
  match ts with
  | [] => 0
  | a :: t => (t.foldl min a).floor - (if bicubic then 1 else 0)

end Sys2Proof.Machine
end

