-- ==== Sys2Proof/Machine/Cameras.lean ====
section
/-!
DEFINITION. Cameras, exposure and ingest (spec/02_cameras_exposure.md), with the front end's stages 1 to 3 applied to each
line group as it passes (R58 to R66).
-/

namespace Sys2Proof.Machine

namespace State

/-- The records of a camera slot: definition, status, counters, pipeline, automatic exposure, pipeline status. -/
def camDef (n : Nat) : Nat := Od.key (0x2810 + n) 0
def camSt (n : Nat) : Nat := Od.key (0x2820 + n) 0
def camCnt (n : Nat) : Nat := Od.key (0x2830 + n) 0
def pipeDef (n : Nat) : Nat := Od.key (0x2880 + n) 0
def aeDef (n : Nat) : Nat := Od.key (0x2890 + n) 0
def pipeSt (n : Nat) : Nat := Od.key (0x28A0 + n) 0

/-- One camera, and its update. -/
def cam (s : State) (n : Nat) : Camera := Tab.get {} s.video.cameras n
def setCam (s : State) (n : Nat) (c : Camera) : State :=
  { s with video := { s.video with cameras := Tab.set {} s.video.cameras n c } }

/-- The state of a slot (R50): 0 OFF, 1 INIT, 2 WAIT_LOCK, 3 LOCKED, 4 LOST, 5 FAULTED. -/
def camState (s : State) (n : Nat) : Int := s.int (camSt n + 1)

/-- The slot places pulses or triggers. -/
def pulsing (s : State) (n : Nat) : Bool := decide (2 ≤ s.camState n ∧ s.camState n ≤ 4)

/-- A network camera, and its star port; a local camera's CSI port. -/
def camSource (s : State) (n : Nat) : Nat := s.nat (camDef n + 3)
def isNetwork (s : State) (n : Nat) : Bool := decide (0x10 ≤ s.camSource n)

/-- The frame period and the programmed instant I_k (R39), 1/65536 ns. -/
def camPeriod (s : State) (n : Nat) : Int := s.int (camDef n + 9) * 65536 + s.int (camDef n + 0xA)
def camInstant (s : State) (n k : Nat) : Int := s.int (camDef n + 0xB) * 65536 + k * s.camPeriod n

/-- Half the frame period, ps (R43). -/
def halfPeriod (s : State) (n : Nat) : Nat := (s.camPeriod n * 1000 / 131072).toNat

/-- The ratio of the flicker exposure f in 1/256, and the exposure 1 in ps that covers an LED period with it (R62). -/
def ratioOf (s : State) (n f : Nat) : Nat := if f = 1 then 256 else s.nat (pipeDef n + 4 + f)
def flickerOn (s : State) (n : Nat) : Bool := decide (s.int (pipeDef n + 8) = 1) && s.flag (pipeDef n + 0xB)
def cover (s : State) (n : Nat) : Nat :=
  if s.flickerOn n then (s.nat (pipeDef n + 0xC) * 1000 * s.ratioOf n (s.nat (pipeDef n + 0xD)) + 255) / 256 else 0

/-- The effective exposure of a command (R34, R43, R62), in ps. -/
def effExposure (s : State) (n e : Nat) : Nat := effective e (s.cover n) (s.nat (camDef n + 0x16)) (s.halfPeriod n)

/-- The effective exposure of frame k, ps: the newest scheduled one at or before it. -/
def exposureOf (s : State) (n k : Nat) : Nat :=
  (((s.cam n).schedule.filter (fun e => decide (e.1 ≤ k))).getLastD (0, s.effExposure n (s.cam n).command)).2

/-- Exposure start of exposure 1 of frame k, and the pulse instant (R41); parts of 1/65536 ns are floored (log 79). -/
def exposureStart (s : State) (n k : Nat) : Int :=
  s.camInstant n k - (if s.int (camDef n + 0x14) = 0 then (s.exposureOf n k : Int) * 32768 / 1000 else 0)
def pulseInstant (s : State) (n k : Nat) : Int := s.exposureStart n k - s.int (camDef n + 0x15) * 65536

/-- The trigger instant of a network camera (R37). -/
def triggerInstant (s : State) (n k : Nat) : Int := s.exposureStart n k - s.int (camDef n + 0x2A) * 65536

/-- The first frame whose pulse or trigger lies at or after now (R26, R45). -/
def firstFrame (s : State) (n : Nat) : Nat :=
  let lead := s.camInstant n 0 - (if s.isNetwork n then s.triggerInstant n 0 else s.pulseInstant n 0)
  let due := s.ctNow + lead - s.camInstant n 0
  if due ≤ 0 ∨ s.camPeriod n ≤ 0 then 0 else ((due + s.camPeriod n - 1) / s.camPeriod n).toNat

/-! ### The settings a frame started with (R26) -/

/-- The slot's entries in force: definition, pipeline and automatic exposure. -/
def slotCfg (s : State) (n : Nat) : Store :=
  s.od.filter (fun e => decide (Od.indexOf e.1 = 0x2810 + n ∨ Od.indexOf e.1 = 0x2880 + n ∨ Od.indexOf e.1 = 0x2890 + n))

/-- The state with only some entries of one slot in its dictionary: what a frame that started under them is read by. -/
def under (s : State) (cfg : Store) : State := { s with od := cfg }

/-- The settings by which a slot's Frame Start is read: those of the frame its pulse exposed, else those applied; and those
of its packets: of the frame in progress first. -/
def startView (s : State) (n : Nat) : State := match (s.cam n).expect with | some e => s.under e.cfg | none => s
def packetView (s : State) (n : Nat) : State := match (s.cam n).frame with | some f => s.under f.cfg | none => s.startView n

/-- Pulses or trigger messages start (R50), from the fixed exposure or the automatic one's minimum. -/
def startPulses (s : State) (n : Nat) : State :=
  let e := 1000 * (if s.int (camDef n + 0x17) = 0 then s.nat (camDef n + 0x18) else s.nat (aeDef n + 2))
  let c := s.cam n
  let s := s.setCam n { rephaseUntil := c.rephaseUntil, frame := c.frame, rows := c.rows, shots := c.shots, command := e }
  let k := s.firstFrame n
  (s.setCam n { s.cam n with nextK := k, schedule := [(k, s.effExposure n e)] }).put (camSt n + 1) 2

/-- A slot becomes FAULTED (R50). -/
def camFault (s : State) (n : Nat) : State :=
  ((s.put (camSt n + 1) 5).setCam n {}).raise (40 + n) 0 n 0

/-! ### The CCI buses (R30 to R35) -/

/-- The record of a CCI port; the script that runs on it; the port beyond its record. -/
def cciRec (p : Nat) : Nat := Od.key (0x2858 + p) 0
def script? (s : State) (p : Nat) : Option Script := Tab.find? s.video.scripts p
def setScript (s : State) (p : Nat) (x : Option Script) : State :=
  { s with video := { s.video with
    scripts := match x with | some y => Tab.insert s.video.scripts p y | none => Tab.erase s.video.scripts p } }
def cciPort (s : State) (p : Nat) : CciPort := Tab.get {} s.video.ports p
def setCciPort (s : State) (p : Nat) (x : CciPort) : State :=
  { s with video := { s.video with ports := Tab.set {} s.video.ports p x } }

/-- The bytes of the script that runs, and its entry. -/
def scriptBytes (s : State) (p : Nat) (x : Script) : List Byte := s.bytes (cciRec p + (if x.stop then 5 else 4))
def scriptOp (s : State) (p : Nat) (x : Script) : Nat :=
  let b := s.scriptBytes p x
  if b.length < 8 * x.pos + 8 then 0 else field b (8 * x.pos) 1

/-- A port in I3C mode. -/
def i3c (s : State) (p : Nat) : Bool := decide (s.int (cciRec p + 1) = 0)

/-- The address of a slot's target on a bus: in I3C mode the dynamic address assigned for its static one, else that. -/
def busAddress (s : State) (p n : Nat) : Nat :=
  let a := s.nat (camDef n + 0x1C)
  if s.i3c p then (((s.cciPort p).dynamic.find? (fun x => decide (x.1 = a))).map (·.2)).getD a else a

/-- A dynamic address is assigned on a bus in I3C mode (R30): by SETDASA to a target with a static address, else by ENTDAA.
Which address it is the rules do not say: a free value (log 80). -/
def assignAddress (s : State) (p addr : Nat) : State :=
  let d := s.freeNat % 128
  let s := s.tookFree
  let x := s.cciPort p
  let s := s.setCciPort p { x with dynamic := x.dynamic.filter (fun y => decide (y.1 ≠ addr)) ++ [(addr, d)] }
  s.emit (if addr = 0 then .ccc p 0x07 0x7E none else .ccc p 0x87 addr (some d))

/-- A bus in I3C mode comes into use for its first camera (R30, log 80): RSTDAA, then the addresses, then ENEC. -/
def busUp (s : State) (p n : Nat) (first : Bool) : State :=
  if s.i3c p = false then s
  else
    let s := if first then (s.setCciPort p { s.cciPort p with dynamic := [] }).emit (.ccc p 0x06 0x7E none) else s
    let s := s.assignAddress p (s.nat (camDef n + 0x1C))
    if first then s.emit (.ccc p 0x00 0x7E (some 0x09)) else s

/-- It goes out of use with its last camera: DISEC. -/
def busDown (s : State) (p : Nat) : State := if s.i3c p then s.emit (.ccc p 0x01 0x7E (some 0x09)) else s

/-- The value of an exposure write: lines, or ns with global shutter (R34); `eff` in ps. -/
def exposureValue (s : State) (n eff : Nat) : Nat :=
  let t := s.nat (camDef n + 0x16)
  if t = 0 then eff / 1000 else eff / t

/-- A register transfer of a slot's or an access' data, cut to its width. -/
def cciTransfer (s : State) (p : Nat) (write : Bool) (addr reg width value : Nat) : State :=
  let bytes := s.nat (cciRec p + 3)
  s.emit (.cci p write addr bytes (reg % 256 ^ bytes) width (value % 256 ^ width))

/-- The slot whose exposure write waits for a port. -/
def exposureWaiting (s : State) (p : Nat) : Option (Nat × ExposureWrite) :=
  ((List.range 8).filterMap (fun n => if s.camSource n = p + 1 then
    (match (s.cam n).write with | some w => if w.sent then none else some (n, w) | none => none) else none)).head?

/-- The entry of the script that runs waits for the bus. -/
def entryWaiting (s : State) (p : Nat) : Option Script :=
  match s.script? p with
  | some x => if x.waiting = 0 ∧ (s.scriptOp p x = 1 ∨ s.scriptOp p x = 2) then some x else none
  | none => none

/-- A free bus takes what waits: an exposure write first, then a script entry, then the access of 0x2860 (R34, R35). -/
def busNext (s : State) (p : Nat) : State :=
  if (s.cciPort p).use.isSome then s
  else match s.exposureWaiting p with
  | some (n, w) =>
    let s := (s.setCam n { s.cam n with write := some { w with sent := true } }).setCciPort p
      { s.cciPort p with use := some (.exposure n w.frame) }
    s.cciTransfer p true (s.busAddress p n) (s.nat (camDef n + 0x1A)) (s.nat (camDef n + 0x1B)) (s.exposureValue n w.eff)
  | none =>
    match s.entryWaiting p with
    | some x =>
      let b := s.scriptBytes p x
      let o := 8 * x.pos
      let write := decide (s.scriptOp p x = 1)
      (s.setCciPort p { s.cciPort p with use := some .script }).cciTransfer p write (s.busAddress p x.slot)
        (field b (o + 2) 2) (field b (o + 1) 1) (if write then field b (o + 4) 4 else 0)
    | none =>
      match s.video.access with
      | some j =>
        if j.port = p then
          (s.setCciPort p { s.cciPort p with use := some .access }).cciTransfer p j.write j.addr j.reg j.width j.value
        else s
      | none => s

/-- The transfer on a bus has ended. -/
def busIdle (s : State) (p : Nat) : State := s.setCciPort p { s.cciPort p with use := none }

/-! ### Scripts on the CCI ports (R32, R33) -/

/-- An entry starts: its transfer waits for the bus, or its delay or wait begins. -/
def startEntry (s : State) (p : Nat) (x : Script) : State :=
  let op := s.scriptOp p x
  if op = 1 ∨ op = 2 then (s.setScript p (some { x with waiting := 0 })).busNext p
  else s.setScript p (some { x with waiting := op - 2 })

/-- The next slot that waits for a port. -/
def nextWaiting (s : State) (p : Nat) : Option Nat := s.video.waiting.find? (fun n => decide (s.camSource n = p + 1))

/-- What a port does next: the end of a script, the next waiting slot's script, the entry. -/
def pump : Nat → State → Nat → State
  | 0, s, _ => s
  | f + 1, s, p =>
    match s.script? p with
    | some x =>
      if s.scriptOp p x = 0 then
        let s := s.setScript p none
        pump f (if x.stop ∨ s.camState x.slot ≠ 1 then s else s.startPulses x.slot) p
      else s.startEntry p x
    | none =>
      match s.nextWaiting p with
      | none => s
      | some n => pump f { s.setScript p (some { slot := n, stop := false }) with
          video := { (s.setScript p (some { slot := n, stop := false })).video with waiting := s.video.waiting.erase n } } p

/-- A slot enters INIT (R50): a local camera's script runs on its port, a network camera waits for lock. -/
def initCamera (s : State) (n : Nat) : State :=
  let s := s.put (camSt n + 1) 1
  if s.isNetwork n then s.startPulses n
  else
    let p := s.camSource n - 1
    let first := (List.range 8).all (fun m => decide (m = n ∨ s.camSource m ≠ p + 1 ∨ s.camState m = 0))
    let s := s.busUp p n first
    let s := { s with video := { s.video with waiting := s.video.waiting ++ [n] } }
    let s := if 1500 < s.int (Od.key (0x2840 + p) 2) ∧ s.int (Od.key (0x2840 + p) 0x10) = 0 then s.put (Od.key (0x2840 + p) 0x10) 2 else s
    if (s.script? p).isSome then s else pump 18 s p

/-- A script ends as failed (R33): its camera enters FAULTED from INIT (R50). -/
def scriptFails (s : State) (p : Nat) (x : Script) : State :=
  let s := s.setScript p none
  let s := if x.stop ∨ s.camState x.slot ≠ 1 then s else s.camFault x.slot
  pump 18 s p

/-- The next entry of a script. -/
def advance (s : State) (p : Nat) (x : Script) : State :=
  pump 18 (s.setScript p (some { x with pos := x.pos + 1, tries := 0, waiting := 0 })) p

/-- A script transfer completes (R33): a NACK is retried twice, and a bus timeout, of which R33 does not speak, counts and
is retried as one (DESIGN CHOICE, log 80); a compare mismatch fails. -/
def scriptDone (s : State) (p : Nat) (r : BusResult) : State :=
  match s.script? p with
  | none => s
  | some x =>
    if x.waiting ≠ 0 ∨ (s.cciPort p).use ≠ some .script then s
    else
      let s := s.busIdle p
      let b := s.scriptBytes p x
      let o := 8 * x.pos
      match r with
      | .ok v =>
        let mask := field b (o + 6) 2
        if s.scriptOp p x = 2 ∧ Nat.land v mask ≠ Nat.land (field b (o + 4) 2) mask then (s.scriptFails p x).busNext p
        else (s.advance p x).busNext p
      | _ =>
        let s := s.bump (cciRec p + 0x10)
        if 2 ≤ x.tries then (s.scriptFails p x).busNext p else s.startEntry p { x with tries := x.tries + 1 }

/-- A delay entry is over (R32), a wait times out (R33). -/
def scriptDelay (s : State) (p : Nat) : State :=
  match s.script? p with | some x => if x.waiting = 1 then s.advance p x else s | none => s
def scriptTimeout (s : State) (p : Nat) : State :=
  match s.script? p with | some x => if x.waiting = 2 then s.scriptFails p x else s | none => s

/-- An in-band interrupt (R30, R31): stamped and counted, up to 4 payload bytes kept; a script that waits goes on (R32). -/
def inBand (s : State) (p : Nat) (stamp : Int) (payload : List Byte) : State :=
  let s := (s.bump (cciRec p + 0x11)).put (cciRec p + 0x12) stamp
  let s := s.setCciPort p { s.cciPort p with payload := payload.take 4 }
  match s.script? p with | some x => if x.waiting = 2 then s.advance p x else s | none => s

/-- A hot-join request is answered with a new ENTDAA (R30). -/
def hotJoin (s : State) (p : Nat) : State := if s.i3c p then s.assignAddress p 0 else s

/-- A register access through 0x2860 (R57), queued behind exposure writes and script entries (R35). -/
def cciQueue (s : State) (write : Bool) : State × Nat :=
  if s.video.access.isSome then (s.put 0x286007 4, 0)
  else
    let j : CciJob := {
      write := write, port := s.nat 0x286001, addr := s.nat 0x286002, reg := s.nat 0x286003, width := s.nat 0x286004,
      value := s.nat 0x286005 }
    let s := { s.put 0x286007 0 with video := { s.video with access := some j } }
    (s.busNext j.port, 0)

/-- The queued access ends (R57). -/
def accessEnds (s : State) : State := { s with video := { s.video with access := none } }

/-- The port on which an exposure write of a slot runs, and its frame. -/
def exposureBus (s : State) (n : Nat) : Option (Nat × Nat) :=
  ((List.range 4).filterMap (fun p => match (s.cciPort p).use with
    | some (.exposure m k) => if m = n then some (p, k) else none
    | _ => none)).head?

/-- A slot's exposure write completes (R34): the write for that frame is acknowledged. -/
def exposureDone (s : State) (n : Nat) (r : BusResult) : State :=
  match s.exposureBus n with
  | none => s
  | some (p, k) =>
    let s := s.busIdle p
    let s := match r with
      | .ok _ => if (s.cam n).write.map (fun (w : ExposureWrite) => w.frame) = some k then s.setCam n { s.cam n with write := none } else s
      | _ => s.bump (cciRec p + 0x10)
    s.busNext p

/-- The access of 0x2860 completes (R57). -/
def accessDone (s : State) (r : BusResult) : State :=
  match s.video.access with
  | none => s
  | some j =>
    if (s.cciPort j.port).use ≠ some .access then s
    else
      let s := s.busIdle j.port
      let s := match r with
        | .ok v => if j.write then s.accessEnds.put 0x286007 1 else (s.accessEnds.put 0x286005 (v % 256 ^ j.width : Nat)).put 0x286007 1
        | .timeout => s.accessEnds.put 0x286007 3
        | .nack =>
          let s := s.bump (cciRec j.port + 0x10)
          if 2 ≤ j.tries then s.accessEnds.put 0x286007 2
          else { s with video := { s.video with access := some { j with tries := j.tries + 1 } } }
      s.busNext j.port

/-- A transfer of a slot's exposure write, or of the access record, completes (R34, R57). -/
def cciDone (s : State) (slot : Option Nat) (r : BusResult) : State :=
  match slot with | some n => s.exposureDone n r | none => s.accessDone r

/-! ### Acceptance of frames (R46 to R48, R50) -/

/-- A frame is lost whole: no frame before it counts as consecutive, and the next has no statistics (R50, R64). An expected
one that is the third in a row makes a LOCKED camera LOST. -/
def notAccepted (s : State) (n : Nat) (wanted : Bool) : State :=
  let c := s.cam n
  let bad := if wanted then c.bad + 1 else c.bad
  let s := s.setCam n { c with good := 0, bad := bad, stats := none }
  if s.camState n = 3 ∧ wanted ∧ 3 ≤ bad then (s.put (camSt n + 1) 4).raise (32 + n) 0 n 0 else s

/-- A frame is discarded whole: counted, with the counter of its error. -/
def discardFrame (s : State) (n : Nat) (sub : Nat) (wanted : Bool := true) : State :=
  let s := ((s.bump (camCnt n + sub)).bump (camCnt n + 2)).notAccepted n wanted
  match (s.cam n).frame with
  | some f => s.setCam n { s.cam n with frame := some { f with discard := true } }
  | none => s

/-- S_g of line group g of frame k with an effective exposure in ps (R44), floored to 1/65536 ns (log 79). -/
def stampOf (s : State) (n k e g : Nat) : Int :=
  s.camInstant n k + ((if s.int (camDef n + 0x14) = 0 then 0 else (e : Int) * 32768) +
    (g : Int) * s.int (camDef n + 0xC) * s.int (camDef n + 0x16) * 65536) / 1000

/-- A frame is accepted (R50): S_0 by the settings it started with. -/
def frameAccepted (s : State) (n : Nat) (f : FrameIn) : State :=
  let c := s.cam n
  let s := s.setCam n { c with good := c.good + 1, bad := 0, lastK := some f.k }
  let s := (((s.bump (camCnt n + 1)).put (camSt n + 2) (f.k % 2 ^ 32 : Nat)).put (camSt n + 3)
    ((s.under f.cfg).stampOf n f.k f.exposure 0)).put (camSt n + 5) (f.exposure / 1000)
  if (s.camState n = 2 ∨ s.camState n = 4) ∧ 2 ≤ c.good + 1 then s.put (camSt n + 1) 3 else s

/-! ### Line groups (R44, R60 to R66) -/

/-- The rows of the group in progress. -/
def groupRows (f : FrameIn) : Nat := min f.group (f.height - f.passed * f.group)

/-- The merge settings of a slot (R61, R62). -/
def mergeCfg (s : State) (n exposures : Nat) : MergeCfg :=
  let b := pipeDef n
  { q := [1, (s.nat (b + 6) : Rat) / 256, (s.nat (b + 7) : Rat) / 256].take exposures,
    ks := (s.nat (b + 9) : Rat) / 100, ke := (s.nat (b + 0xA) : Rat) / 100,
    flicker := if s.flickerOn n then s.nat (b + 0xD) else 0, thr := (s.nat (b + 0xE) : Rat) / 100 }

/-- One row of merged values, and the number of replaced pixels (stages 1 to 3). -/
def mergeRow (s : State) (n : Nat) (f : FrameIn) (row : Nat) : List Nat × Nat :=
  let b := pipeDef n
  let curve := knees (s.bytes (b + 5))
  let bits := rawBits f.format
  let line (x : Nat) : List Nat :=
    ((f.lines.find? (fun l => decide (l.exposure = x ∧ l.row = row))).map (·.samples)).getD []
  let cfg := s.mergeCfg n f.exposures
  let px := (List.range f.width).map (fun c =>
    mergePixel cfg ((List.range f.exposures).map (fun x => linearise curve (s.nat (b + 2 + x)) bits ((line x).getD c 0))))
  (px.map (fun p => to20 p.1), (px.filter (·.2)).length)

/-- The metering region of a slot (R83): x0, y0, x1, y1. -/
def metered (s : State) (n row col : Nat) : Bool :=
  let m := s.nat (aeDef n + 5)
  decide (m % 65536 ≤ col ∧ col ≤ m / 2 ^ 32 % 65536 ∧ m / 65536 % 65536 ≤ row ∧ row ≤ m / 2 ^ 48 % 65536)

/-- The rows a camera keeps for the warp: the newest 224, the largest window and the largest group (R72, R75). -/
def keepRows (l new : List Row) : List Row := let r := l ++ new; r.drop (r.length - 224)

/-- Rows leave ingest (R44, R72); a unit of a pair sends those of its CSI cameras to its partner (R285). -/
def ingestRows (s : State) (n : Nat) (c : Camera) (k : Nat) (missing : Bool) (new : List (Nat × List Nat)) : State :=
  let s := s.setCam n { c with
    rows := keepRows c.rows (new.map (fun o => ({ k := k, row := o.1, missing := missing, px := o.2 } : Row))) }
  if s.isNetwork n then s else s.toPartner (.lines n k missing new)

/-- The settings of stages 4 to 7 of a slot, with the histograms of the previous accepted frame. -/
def frontCfg (s : State) (n : Nat) (stats : Option (Tab Nat)) : FrontCfg :=
  let b := pipeDef n
  { pattern := s.nat (b + 1), gains := [s.nat (b + 0x11), s.nat (b + 0x12), s.nat (b + 0x13)], edge := s.flag (b + 0x10),
    matrix := (List.range 9).map (fun i => s.int (b + 0x20 + i)), strength := s.nat (b + 0x2C), range := s.nat (b + 0x2D),
    width := s.nat (camDef n + 6), height := s.nat (camDef n + 7), stats := stats }

/-- The samples of a row of frame k among rows; none where it is missing. -/
def rowOf (l : List Row) (k : Nat) (r : Int) : List Nat :=
  if r < 0 then [] else
    ((l.find? (fun x => decide (x.k = k ∧ x.row = r.toNat ∧ x.missing = false))).map (·.px)).getD []

/-- The rows whose neighbours are there once a group has come counted into the histograms (R64): one row behind the group,
and the last row with the last group. -/
def countGroup (s : State) (n : Nat) (f : FrameIn) (new : List Row) : Tab Nat :=
  let v := s.under f.cfg
  let rows := rowOf ((s.cam n).rows ++ new) f.k
  let r0 := f.passed * f.group
  let upto := r0 + groupRows f
  let lo := r0 - 1
  let hi := if f.height ≤ upto then upto else upto - 1
  ((List.range (hi - lo)).map (fun i => lo + i)).foldl (fun (t : Tab Nat) (r : Nat) =>
    if rows r = [] then t else countRow (v.frontCfg n none) rows t r) f.tiles

/-- A group passes to the pipeline, or is signalled missing (R44, R48, R66). -/
def passGroup (s : State) (n : Nat) (f : FrameIn) : State :=
  let r0 := f.passed * f.group
  let rows := (List.range (groupRows f)).map (fun i => r0 + i)
  let next (g : FrameIn) : FrameIn := { g with lines := [], groupBad := false, passed := g.passed + 1 }
  let c := s.cam n
  if f.groupBad then
    let s := s.bump (camCnt n + 3)
    let tiles := if isRaw f.format then s.countGroup n f [] else f.tiles
    s.ingestRows n { c with frame := some (next { f with missing := f.missing ++ [f.passed], tiles := tiles }) } f.k true
      (rows.map (fun r => (r, [])))
  else if isRaw f.format then
    let v := s.under f.cfg
    let out := rows.map (fun r => (r, v.mergeRow n f r))
    let seen := out.flatMap (fun o => (List.range f.width).filterMap (fun x =>
      if v.metered n o.1 x then some (o.2.1.getD x 0) else none))
    let tiles := s.countGroup n f (out.map (fun o => { k := f.k, row := o.1, px := o.2.1 }))
    let g := { f with
      replaced := f.replaced + (out.map (fun o => o.2.2)).sum, sum := f.sum + seen.sum, count := f.count + seen.length, tiles := tiles }
    s.ingestRows n { c with frame := some (next g) } f.k false (out.map (fun o => (o.1, o.2.1)))
  else
    let line (r : Nat) : List Nat := ((f.lines.find? (fun l => decide (l.row = r))).map (·.samples)).getD []
    s.ingestRows n { c with frame := some (next f) } f.k false (rows.map (fun r => (r, line r)))

/-- The group in progress is complete: every exposure has its rows. -/
def groupFull (f : FrameIn) : Bool :=
  let upto := min ((f.passed + 1) * f.group) f.height
  decide (f.passed * f.group < f.height) && (List.range f.exposures).all (fun x => decide (upto ≤ Tab.get 0 f.rows x))

/-- The frame of a slot with a change, its group passed where that completes it. -/
def withFrame (s : State) (n : Nat) (f : FrameIn) : State :=
  if groupFull f then s.passGroup n f else s.setCam n { s.cam n with frame := some f }

/-- The test pixel of a line (R46): of a YUV pixel the bit of its Y sample (DESIGN CHOICE, log 79). -/
def testPixel (s : State) (n : Nat) (f : FrameIn) (x row : Nat) (samples : List Nat) : Option Bool :=
  let b := camDef n
  if s.int (b + 0x20) = 1 ∧ x = 0 ∧ s.nat (b + 0x21) = row then
    let c := s.nat (b + 0x22)
    some ((samples.getD (if isRaw f.format then c else 2 * c + 1) 0).testBit (s.nat (b + 0x23)))
  else f.testBit

/-- A line of an exposure enters (R48): a wrong length discards the group, a line beyond the height is ignored; a line that
is missing or spoilt has `good` FALSE. -/
def addLine (s : State) (n x : Nat) (good : Bool) (samples : List Nat) : State :=
  match (s.cam n).frame with
  | none => s
  | some f =>
    let row := Tab.get 0 f.rows x
    let want := if isRaw f.format then f.width else 2 * f.width
    if f.discard then s
    else if f.height ≤ row then s.bump (camCnt n + 5)
    else
      let fits := decide (samples.length = want)
      let s := if good && !fits then s.bump (camCnt n + 5) else s
      let f1 := { f with
        rows := Tab.set 0 f.rows x (row + 1),
        lines := if good && fits then f.lines ++ [{ exposure := x, row := row, samples := samples }] else f.lines,
        groupBad := f.groupBad || !(good && fits), testBit := if good then (s.under f.cfg).testPixel n f x row samples else f.testBit }
      s.withFrame n f1

/-- Missing lines up to a row of an exposure. -/
def fillLines (s : State) (n x upto : Nat) : State :=
  match (s.cam n).frame with
  | none => s
  | some f => (List.range (upto - Tab.get 0 f.rows x)).foldl (fun s _ => s.addLine n x false []) s

/-- The group in progress of a camera that is receiving a frame is discarded (R48). -/
def spoil (s : State) (n : Nat) : State :=
  match (s.cam n).frame with
  | some f => if f.discard then s else s.setCam n { s.cam n with frame := some { f with groupBad := true } }
  | none => s

/-- The slots whose packets a CSI port receives, by the settings each is read by: `start` for a Frame Start. -/
def readBy (s : State) (start : Bool) (n : Nat) : State := if start then s.startView n else s.packetView n
def camsOn (s : State) (p : Nat) (start : Bool := false) : List Nat :=
  (List.range 8).filter (fun n => decide ((s.readBy start n).camSource n = p + 1) &&
    (decide (s.camState n ≠ 0) || (s.cam n).frame.isSome))

/-- The slot and the exposure of a virtual channel on a CSI port (R27, R29). -/
def camAt (s : State) (p vc : Nat) (start : Bool := false) : Option (Nat × Nat) :=
  ((s.camsOn p start).find? (fun n =>
    let v := s.readBy start n
    decide (v.nat (camDef n + 4) ≤ vc ∧ vc < v.nat (camDef n + 4) + v.nat (camDef n + 8)))).map
    (fun n => (n, vc - (s.readBy start n).nat (camDef n + 4)))

/-! ### Pan (R73, R74, R86) -/

/-- The answer of a source kept for the next boundary, at the displaying device itself (R76). -/
def keepAnswer (s : State) (a : Answer) : State :=
  { s with slices := { s.slices with
    answers := s.slices.answers.filter (fun b => !(decide (b.view = a.view ∧ b.inst = a.inst ∧ b.source = a.source))) ++ [a] } }

/-- The pan and the signal state of instance 1 of a view as its source reports them (R86). -/
def putPan (s : State) (a : Answer) : State :=
  if a.inst = 1 then (s.put (Od.key (0x2C20 + a.view) 5) a.pan).put (Od.key (0x2C20 + a.view) 6) a.signal else s

/-- An answer to a view definition (R76, R127), or a report of its pan (R86): kept for the own view, else sent to its
requester. -/
def answerView (s : State) (requester : Nat) (a : Answer) : State :=
  if requester = s.sliceSource then (s.keepAnswer a).putPan a
  else (s.emit (.viewAnswer requester a.view a.inst a.reason a.breach a.need a.pan a.signal)).sendFree requester

/-- p_k of an instance (R73), under the steps whose targets were taken before. -/
def stepPan (rate : Nat) (x : PanStep) (k : Nat) : Int :=
  let most : Int := rate * (k + 1 - x.k : Nat)
  x.base + max (-most) (min most (x.target - x.base))
def panOf (i : Instance) (k : Nat) : Int :=
  (((i.pans.filter (fun x => decide (x.k ≤ k))).getLast?).map (fun x => stepPan i.d.panRate x k)).getD 0

/-- The pan of an instance has another target from frame k on. -/
def retarget (k : Nat) (target : Int) (i : Instance) : Instance :=
  let old := i.pans.filter (fun x => decide (x.k < k))
  { i with pans := (old ++ [({ k := k, base := if k = 0 then 0 else panOf i (k - 1), target := target } : PanStep)]).drop (old.length - 3) }

/-- The first frame of a slot with I_k after an instant of CT, which takes a target of that instant (R73). -/
def nextInstant (s : State) (n : Nat) (at_ : Int) : Nat :=
  let p := s.camPeriod n
  let t := at_ - s.camInstant n 0
  if t < 0 ∨ p ≤ 0 then 0 else (t / p).toNat + 1

/-- Frames are counted anew from frame k on, as after an adoption: the pan goes on from where frame `last` stood. -/
def repan (last k : Nat) (i : Instance) : Instance :=
  match i.pans.getLast? with
  | some x => { i with pans := [{ k := k, base := panOf i last, target := x.target }] }
  | none => i

/-- The instances of a slot tell the pan of frame k and the signal state where these have changed (R86, log 83). -/
def panReports (s : State) (n k : Nat) : State :=
  let now (i : Instance) : Int × Nat := (panOf i k, i.signal)
  let hit := s.slices.instances.filter (fun i => decide (i.d.slot.val = n) && i.active && decide (now i ≠ i.told))
  let s := hit.foldl (fun (s : State) i => s.answerView i.d.requester.toNat {
    view := i.d.view.val, inst := i.d.instanceNo, source := s.sliceSource, reason := 0, breach := 0, need := i.need,
    pan := (now i).1, signal := i.signal }) s
  { s with slices := { s.slices with instances := s.slices.instances.map (fun (i : Instance) =>
    if i.d.slot.val = n ∧ i.active = true then { i with told := now i } else i) } }

/-- The read delay the bound instances of a slot allow, ns (R127): the smallest declared. -/
def readDelayOf (s : State) (n : Nat) : Option Int :=
  let l := (s.slices.instances.filter (fun i => decide (i.d.slot.val = n) && i.active)).map (fun i => (i.d.readDelay : Int))
  match l with
  | [] => none
  | a :: t => some (t.foldl min a)

/-- A Frame Start offset in 1/65536 ns exceeds d + e_k + t_rd of a bound instance (R127). -/
def beyondEnvelope (s : State) (n e : Nat) (off : Int) : Bool :=
  match s.readDelayOf n with
  | some l => decide ((s.int (camDef n + 0x15) + l) * 65536000 + (e : Int) * 65536 < off * 1000)
  | none => false

/-- A frame opens under its settings (R26). -/
def openFrame (s : State) (n k e : Nat) (cfg : Store) (discard : Bool) : State :=
  let s := s.panReports n k
  let b := camDef n
  let v := s.under cfg
  let f : FrameIn := {
    k := k, exposure := e, cfg := cfg, width := v.nat (b + 6), height := v.nat (b + 7), group := max 1 (v.nat (b + 0xC)),
    format := v.nat (b + 5), exposures := max 1 (v.nat (b + 8)), discard := discard }
  let c := s.cam n
  let shot : Shot := { k := k, cfg := cfg, exposure := e, stats := c.stats }
  let shots := if discard then c.shots else (c.shots ++ [shot]).drop (c.shots.length - 2)
  s.setCam n { c with frame := some f, shots := shots, expect := none, overdue := false }

/-- A frame starts at an instant (R45, R48): in a re-phase it is discarded without more; one that no pulse awaits is
outside its window, and where its window has ended already it counts only as that. Else `s` goes on with the expected
frame. -/
def startFrame (s : State) (n : Nat) (t : Int) (expected : State → Expected → State) : State :=
  let c := s.cam n
  let re := match c.rephaseUntil with | some u => decide (t ≤ u) | none => false
  let cfg := (s.startView n).slotCfg n
  if re then ((s.bump (camCnt n + 0xE)).bump (camCnt n + 2)).openFrame n 0 0 cfg true
  else match c.expect with
  | some e => expected s e
  | none =>
    if c.overdue then (s.bump (camCnt n + 7)).openFrame n 0 0 cfg true
    else (s.discardFrame n 7 false).openFrame n 0 0 cfg true

/-- A Frame Start (R48, R45, R127) of exposure 1 of a slot at a stamp. -/
def frameStart (s : State) (n : Nat) (t : Int) : State :=
  if s.pulsing n = false then s
  else
    let s := match (s.cam n).frame with
      | some f => if f.discard then s.bump (camCnt n + 6) else s.discardFrame n 6
      | none => s
    let s := s.setCam n { s.cam n with frame := none }
    s.startFrame n t fun s e =>
      let v := s.under e.cfg
      let off := t - e.at_
      let s := s.put (camSt n + 4) (Int.tdiv off 65536)
      let out := decide (off < v.int (camDef n + 0x1D) * 65536) || decide (v.int (camDef n + 0x1E) * 65536 < off) ||
        v.beyondEnvelope n e.exposure off
      if out then (s.discardFrame n 7).openFrame n e.k e.exposure e.cfg true
      else s.openFrame n e.k e.exposure e.cfg false

/-- The header ECC of a packet (R27, R48): a single-bit error is corrected and counted; an uncorrectable one discards the
packet and the group in progress of every camera on the port. The flag says that the packet stands. -/
def headerEcc (s : State) (p : Nat) (ecc : Nat) : State × Bool :=
  let b := Od.key (0x2848 + p) 0
  if ecc = 2 then ((s.camsOn p).foldl (fun s n => s.spoil n) (s.bump (b + 3)), false)
  else if ecc = 1 then (s.bump (b + 2), true) else (s, true)

/-- A Frame Start on a CSI port. -/
def csiFrameStart (s : State) (p vc ecc : Nat) (fine : Nat) : State :=
  let r := s.headerEcc p ecc
  if r.2 = false then r.1
  else
    let s := r.1
    let s := if s.int (Od.key (0x2840 + p) 0x10) = 0 then s.put (Od.key (0x2840 + p) 0x10) 1 else s
    match s.camAt p vc true with
    | none => s.bump (Od.key (0x2848 + p) 4)
    | some (n, x) => if x = 0 then s.frameStart n (s.ctAt s.clock.counter fine) else s

/-- An embedded data line of a slot (R28, R46, R47); one whose payload is lost spoils the group in progress (R48, log 79). -/
def embeddedLine (s : State) (n : Nat) (good : Bool) (samples : List Nat) : State :=
  match (s.cam n).frame with
  | none => s
  | some f =>
    let m := camDef n
    let v := s.under f.cfg
    let bit := if good ∧ v.int (m + 0x20) = 2 ∧ v.nat (m + 0x21) = f.embedded.length then
      some ((samples.getD (v.nat (m + 0x22)) 0).testBit (v.nat (m + 0x23))) else f.testBit
    let s := s.setCam n { s.cam n with
      frame := some { f with embedded := f.embedded ++ [if good then samples else []], testBit := bit } }
    if good then s else s.spoil n

/-- A CSI long packet (R27, R48). -/
def csiPacket (s : State) (p : Nat) (k : CsiPacket) : State :=
  let b := Od.key (0x2848 + p) 0
  let r := s.headerEcc p k.ecc
  if r.2 = false then r.1
  else
    let s := r.1
    match s.camAt p k.vc with
    | none => s.bump (b + 4)
    | some (n, x) =>
      let embedded := decide (k.dataType = 0x12)
      if k.extensionBits then s.bump (b + 4)
      else if embedded = false ∧ k.dataType.toNat ≠ formatType ((s.packetView n).nat (camDef n + 5)) then s.bump (b + 4)
      else
        let s := if k.fifoFull then (s.bump (camCnt n + 8)).bump 0x280004
          else if k.crcOk = false then s.bump (camCnt n + 4) else s
        let good := !k.fifoFull && k.crcOk
        if embedded then s.embeddedLine n good k.samples else s.addLine n x good (if good then k.samples else [])

/-- The mean merged value as a fraction of full scale (R65). -/
def meanValue (f : FrameIn) : Rat := if f.count = 0 then 0 else (f.sum : Rat) / (f.count * (2 ^ 20 - 1) : Nat)

/-- The sensor's counter in the first embedded line (R47): its byte order is not stated, and the model takes the least
significant byte first (DESIGN CHOICE, log 79). -/
def sensorCounter (s : State) (n : Nat) (f : FrameIn) : Nat :=
  field ((f.embedded.headD []).map (BitVec.ofNat 8)) (s.nat (camDef n + 0x25)) (s.nat (camDef n + 0x26) / 8)

/-- The checks of R46 and R47 on a frame; the bits say which failed. -/
def frameChecks (s : State) (n : Nat) (f : FrameIn) : Bool × Bool :=
  let c := s.cam n
  let v := s.under f.cfg
  let m := camDef n
  let gap : Int := match c.lastK with | some j => (f.k : Int) - j | none => 0
  let pixel := decide (v.int (m + 0x20) ≠ 0) && (match c.lastK, f.testBit, c.lastBit with
    | some _, some a, some b => (a != b) != decide (gap % 2 = 1)
    | _, _, _ => false)
  let w := v.nat (m + 0x26)
  let sensor := v.flag (m + 0x24) && (match c.lastK, c.lastCounter with
    | some _, some a => decide ((v.sensorCounter n f : Int) ≠ ((a : Int) + gap) % (2 ^ w : Nat))
    | _, _ => false)
  (pixel, sensor)

/-- The automatic exposure and pipeline status after an accepted frame (R62, R64, R65). The command is for the frame L on
from this one. -/
def frameStats (s : State) (n : Nat) (f : FrameIn) : State :=
  if isRaw f.format = false then s
  else
    let y := meanValue f
    let a := aeDef n
    let s := ((if f.exposures ≤ 1 then s else s.bump (pipeSt n + 1)).put (pipeSt n + 2) f.replaced).put (pipeSt n + 4)
      (min (y * 65536).floor 65535)
    let s := s.setCam n { s.cam n with stats := some f.tiles }
    if s.int (camDef n + 0x17) = 0 then s.put (pipeSt n + 5) 0
    else
      let hi := 1000 * s.nat (a + 3)
      let lo := 1000 * s.nat (a + 2)
      let e := autoExposure f.exposure y (s.nat (a + 1)) (s.nat (a + 4)) lo hi
      let s := s.setCam n { s.cam n with command := e, commandFor := f.k + s.nat (camDef n + 0x19) }
      s.put (pipeSt n + 5) (if hi ≤ e ∨ s.halfPeriod n < max e (s.cover n) then 3 else if e ≤ lo then 2 else 1)

/-- The check of a frame has failed (R46, R47, R93): the slices not yet begun to be sent say so, under a tag of their own. -/
def markFailed (s : State) (n k : Nat) : State :=
  let c := s.cam n
  let s := s.setCam n { c with shots := c.shots.map (fun (x : Shot) => if x.k = k then { x with failed := true } else x) }
  let mine (o : OutSlice) : Bool := decide (o.h.frame.toNat = k % 2 ^ 32 ∧ o.sent = []) && s.slices.instances.any (fun i =>
    decide (i.d.slot.val = n ∧ i.d.requester.toNat = o.sink ∧ i.d.view.val = o.view ∧ i.d.instanceNo = o.h.instanceNo))
  { s with slices := { s.slices with out := s.slices.out.map (fun (o : OutSlice) =>
    if mine o then
      let h := { o.h with checkFailed := true }
      { o with h := h, tag := sliceTag o.key h o.data }
    else o) } }

/-- The frame of a slot ends (R48): missing lines, checks, acceptance. -/
def frameEnd (s : State) (n : Nat) : State :=
  match (s.cam n).frame with
  | none => if s.pulsing n then s.bump (camCnt n + 6) else s
  | some f =>
    if f.discard then s.setCam n { s.cam n with frame := none }
    else
      let short := (List.range f.exposures).any (fun x => decide (Tab.get 0 f.rows x < f.height))
      let s := if short then s.bump (camCnt n + 5) else s
      let s := (List.range f.exposures).foldl (fun s x => s.fillLines n x f.height) s
      let f := ((s.cam n).frame).getD f
      let chk := s.frameChecks n f
      let s := if chk.1 then s.bump (camCnt n + 9) else s
      let s := if chk.2 then s.bump (camCnt n + 0xA) else s
      let v := s.under f.cfg
      let ctr := if v.flag (camDef n + 0x24) then some (v.sensorCounter n f) else none
      let s := (s.frameStats n f).frameAccepted n f
      let s := s.setCam n { s.cam n with frame := none, lastBit := f.testBit, lastCounter := ctr }
      if chk.1 || chk.2 then s.markFailed n f.k else s

/-- A Frame End on a CSI port. -/
def csiFrameEnd (s : State) (p vc ecc : Nat) : State :=
  let r := s.headerEcc p ecc
  if r.2 = false then r.1
  else match r.1.camAt p vc with
  | none => r.1.bump (Od.key (0x2848 + p) 4)
  | some (n, x) => if x + 1 = (r.1.packetView n).nat (camDef n + 8) then r.1.frameEnd n else r.1

/-- A start-of-transmission or sync error (R48). -/
def sotError (s : State) (p : Nat) : State := (s.camsOn p).foldl (fun s n => s.spoil n) (s.bump (Od.key (0x2848 + p) 1))

/-- No Frame Start inside the window (R48): the frame counts in 0x2830:02, which R54 leaves open (DESIGN CHOICE, log 79),
and a later Frame Start of it only as outside its window. -/
def windowOver (s : State) (n : Nat) : State :=
  match (s.cam n).expect with
  | some _ =>
    if s.pulsing n then ((s.setCam n { s.cam n with expect := none, overdue := true }).bump (camCnt n + 2)).notAccepted n true
    else s
  | none => s

/-- A deskew sequence on a port (R27): completed, or still pending. -/
def deskew (s : State) (p : Nat) (complete : Bool) : State :=
  let k := Od.key (0x2840 + p) 0x10
  if complete then (if s.int k = 2 then s.put k 0 else s) else s.put k 2

/-! ### Network cameras (R37, R38) -/

/-- The time a star port serves, at an instant of CT: CT, or NT by its present offset (R37, R38, R198). -/
def servedTime (s : State) (p : Nat) (t : Int) : Int :=
  if s.int (Od.key (0x2620 + p) 1) = 2 then t + (s.ntNow - s.ctNow) else t

/-- The stamp of a line of a frame (R38): the mid-exposure of its row by the frame's settings. -/
def lineStamp (s : State) (n k e line : Nat) : Int :=
  s.camInstant n k + ((if s.int (camDef n + 0x14) = 0 then 0 else (e : Int) * 32768) +
    (line : Int) * s.int (camDef n + 0x16) * 65536) / 1000

/-- The deviation, ns, of a packet's AVTP timestamp from a line's stamp (R38). -/
def rvfDeviation (s : State) (n k e : Nat) (x : RvfPacket) : Int :=
  let want := s.servedTime (s.camSource n - 0x10) (s.lineStamp n k e x.firstLine) / 65536 % 2 ^ 32
  ((x.timestamp.toNat : Int) - want + 2 ^ 31) % 2 ^ 32 - 2 ^ 31

/-- A packet belongs to a later frame than the one in progress: it goes back to an earlier line, or behind a gap its
timestamp fits the frame expected and not the one in progress (log 79). -/
def rvfNextFrame (s : State) (n : Nat) (f : FrameIn) (gap : Bool) (x : RvfPacket) : Bool :=
  let window (v : State) : Int := v.int (camDef n + 0x29)
  decide (x.firstLine < Tab.get 0 f.rows 0) ||
  (gap && (match (s.cam n).expect with
    | some e =>
      let v := s.under e.cfg
      let w := s.under f.cfg
      decide ((v.rvfDeviation n e.k e.exposure x).natAbs ≤ window v) && decide (window w < (w.rvfDeviation n f.k f.exposure x).natAbs)
    | none => false))

/-- A network camera's frame starts with its first packet (R38, R45, R54, R127): the offset is measured from the exposure
start, the envelope's limit from the AVTP timestamp plus half the exposure. -/
def rvfStart (s : State) (n : Nat) (x : RvfPacket) : State :=
  s.startFrame n s.ctNow fun s e =>
    let v := s.under e.cfg
    let s := s.put (camSt n + 4) (Int.tdiv (s.ctNow - e.at_) 65536)
    let stamp := v.lineStamp n e.k e.exposure x.firstLine + v.rvfDeviation n e.k e.exposure x * 65536
    if v.beyondEnvelope n e.exposure (s.ctNow - stamp + (e.exposure : Int) * 32768 / 1000) then
      (s.discardFrame n 7).openFrame n e.k e.exposure e.cfg true
    else s.openFrame n e.k e.exposure e.cfg false

/-- The lines of an RVF packet enter the frame in progress (R38): lines missing before them mark their groups; a deviating
timestamp discards the frame. -/
def rvfLines (s : State) (n : Nat) (x : RvfPacket) : State :=
  match (s.cam n).frame with
  | none => s
  | some f =>
    let v := s.under f.cfg
    if f.discard then s
    else if v.nat (camDef n + 0x29) < (v.rvfDeviation n f.k f.exposure x).natAbs then s.discardFrame n 0xC
    else x.lines.foldl (fun s l => s.addLine n 0 true l) (s.fillLines n 0 x.firstLine)

/-- An RVF packet of a network camera (R38): sequence, frame, timestamp, lines. -/
def rvf (s : State) (n : Nat) (x : RvfPacket) : State :=
  if s.pulsing n = false ∨ (s.packetView n).isNetwork n = false then s
  else
    let gap := match (s.cam n).sequence with | some q => decide (q ≠ x.sequence.toNat) | none => false
    let s := if gap then s.bump (camCnt n + 0xB) else s
    let s := s.setCam n { s.cam n with sequence := some ((x.sequence.toNat + 1) % 256) }
    let s := match (s.cam n).frame with
      | some f => if s.rvfNextFrame n f gap x then (s.frameEnd n).rvfStart n x else s
      | none => s.rvfStart n x
    let s := s.rvfLines n x
    if x.lastOfFrame then s.frameEnd n else s

/-! ### Pulses and triggers (R34, R37, R41) -/

/-- A write of an effective exposure for a frame is issued (R34): it holds from that frame on. A network camera takes its
exposure from the trigger messages. -/
def issueExposure (s : State) (n frame eff : Nat) : State :=
  let c := s.cam n
  let keep := c.schedule.filter (fun e => decide (e.1 < frame))
  let c := { c with schedule := (keep ++ [(frame, eff)]).drop (keep.length - 4) }
  if s.isNetwork n then s.setCam n { c with write := none }
  else (s.setCam n { c with write := some { frame := frame, eff := eff } }).busNext (s.camSource n - 1)

/-- The frame from which an exposure written at the pulse of frame k holds (R34): L frames on. An automatic one is for the
frame L on from the frame it was computed from (R65), or the next if that has had its pulse (log 81). -/
def exposureFrame (s : State) (n k : Nat) : Nat :=
  if s.int (camDef n + 0x17) = 1 ∧ (s.cam n).commandFor ≠ 0 then max (s.cam n).commandFor (k + 1) else k + s.nat (camDef n + 0x19)

/-- The exposure write of frame k's pulse (R34): a write not acknowledged is late and issued again one frame on. -/
def exposureWrite (s : State) (n k : Nat) : State :=
  let c := s.cam n
  match c.write with
  | some w =>
    let s := (s.bump (camCnt n + 0xD)).setCam n { c with schedule := c.schedule.filter (fun e => decide (e.1 ≠ w.frame)) }
    s.issueExposure n (w.frame + 1) w.eff
  | none =>
    let last := (c.schedule.getLastD (0, 0)).2
    let want := s.effExposure n c.command
    if want = last then s else s.issueExposure n (s.exposureFrame n k) want

/-- The exposure f of a frame is held short of the LED period (R62). -/
def uncovered (s : State) (n e : Nat) : Bool :=
  s.flickerOn n && decide (e * 256 < s.nat (pipeDef n + 0xC) * 1000 * s.ratioOf n (s.nat (pipeDef n + 0xD)))

/-- What a pulse and a trigger have in common: the frame expected, the exposure write. -/
def framePulse (s : State) (n : Nat) (at_ : Int) : State :=
  let k := (s.cam n).nextK
  let e := s.exposureOf n k
  let s := if s.uncovered n e then s.bump (pipeSt n + 3) else s
  let x : Expected := { k := k, at_ := at_, exposure := e, cfg := s.slotCfg n }
  let s := s.setCam n { s.cam n with expect := some x, overdue := false, nextK := k + 1 }
  s.exposureWrite n k

/-- A camera's frame-sync edge (R41). -/
def genlockPulse (s : State) (n : Nat) : State :=
  if s.pulsing n ∧ s.isNetwork n = false ∧ s.int (camDef n + 0x10) = 1 ∧ s.ctValid then
    let at_ := s.pulseInstant n (s.cam n).nextK
    let s := (s.framePulse n at_).emit (.genlock n at_)
    let tp := s.nat (camDef n + 0x11)
    if tp < 12 then s.placeEdge tp s.clock.ct at_ (s.nat (camDef n + 0x12)) else s
  else s

/-- The payload of the TRIGGER message for frame k (R37): times in the time its star port serves, at its mid-exposure; the
first message of a slot counts as different from the previous one (log 79). -/
def triggerMessage (s : State) (n k : Nat) : List Byte :=
  let e := s.exposureOf n k
  let mid := s.exposureStart n k + (e : Int) * 32768 / 1000
  triggerPayload (s.nat (camDef n + 0x28)) k (s.servedTime (s.camSource n - 0x10) mid) (e / 1000)
    (decide ((s.cam n).lastSent ≠ some (e / 1000)))

/-- A TRIGGER message (R37). -/
def triggerMsg (s : State) (n : Nat) : State :=
  if s.pulsing n ∧ s.isNetwork n ∧ s.ctValid then
    let k := (s.cam n).nextK
    let payload := s.triggerMessage n k
    let e := s.exposureOf n k / 1000
    let s := (s.framePulse n (s.exposureStart n k)).act 5 payload
    if s.parked then s
    else (s.setCam n { s.cam n with lastSent := some e }).starOffer (s.camSource n - 0x10) (.trigger n payload)
  else s

/-! ### Camera states (R50) -/

/-- No frame within 1 s in WAIT_LOCK. -/
def lockTimeout (s : State) (n : Nat) : State := if s.camState n = 2 ∧ (s.cam n).good = 0 then s.camFault n else s

/-- 10 s in LOST, 5 s in FAULTED. -/
def reinit (s : State) (n : Nat) (from_ : Int) : State :=
  if s.camState n = from_ then ((s.setCam n { rows := (s.cam n).rows, shots := (s.cam n).shots }).bump (camSt n + 6)).initCamera n else s

/-- A slot goes to OFF: pulses stop, and the stop script runs where no other camera on the port remains. A frame whose
Frame Start has arrived is completed (R26). -/
def camOff (s : State) (n : Nat) : State :=
  if s.camState n = 0 then s
  else
    let src := s.camSource n
    let c := s.cam n
    let s := (s.put (camSt n + 1) 0).setCam n { frame := c.frame, rows := c.rows, shots := c.shots }
    let s := { s with video := { s.video with waiting := s.video.waiting.erase n } }
    if 1 ≤ src ∧ src ≤ 4 ∧ (List.range 8).all (fun m => decide (s.camSource m ≠ src ∨ s.camState m = 0)) then
      let p := src - 1
      let s := s.busDown p
      let s := s.put (Od.key (0x2840 + p) 0x10) 0
      pump 18 (s.setScript p (some { slot := n, stop := true })) p
    else s

/-- A camera slot as committed (R25, R26): enabled from OFF, re-placed, or switched off. -/
def applyCamera (s : State) (n : Nat) : State :=
  if s.flag (camDef n + 1) then
    if s.camState n = 0 then s.initCamera n
    else if s.pulsing n then
      let fixed := if s.int (camDef n + 0x17) = 0 then 1000 * s.nat (camDef n + 0x18) else (s.cam n).command
      s.setCam n { s.cam n with nextK := s.firstFrame n, command := fixed }
    else s
  else s.camOff n

/-- Every camera places its next pulse from the new CT, and a Frame Start within one period is a re-phase (R45). -/
def rephaseCamera (s : State) (n : Nat) : State :=
  if s.pulsing n then
    let last := (s.cam n).nextK - 1
    let k := s.firstFrame n
    let s := s.setCam n { s.cam n with
      nextK := k, expect := none, overdue := false, rephaseUntil := some (s.ctNow + s.camPeriod n),
      schedule := [(0, s.effExposure n (s.cam n).command)], write := none }
    { s with slices := { s.slices with instances := s.slices.instances.map (fun (i : Instance) =>
      if i.d.slot.val = n then repan last k i else i) } }
  else s
def rephaseCameras (s : State) : State := (List.range 8).foldl rephaseCamera s

/-- The pixel rate of an enabled slot (R51) in kpixel/s (R52), floored per camera: the rounding is not stated (DESIGN
CHOICE, log 79). -/
def pixelRate (s : State) (n : Nat) : Nat :=
  let b := camDef n
  let p := (s.camPeriod n).toNat
  if p = 0 then 0 else s.nat (b + 6) * s.nat (b + 7) * s.nat (b + 8) * 1000000 * 65536 / p

/-- The ingest summary (R52). -/
def ingestSummary (s : State) : State :=
  let on := (List.range 8).filter (fun n => s.flag (camDef n + 1))
  (s.put 0x280001 on.length).put 0x280002 ((on.map s.pixelRate).sum)

end State

/-! ### The commands -/

/-- GENLOCK_PULSE. -/
def execGenlockPulse (n : Fin 8) (s : State) : Res := .next (s.served (·.genlockPulse n))

/-- TRIGGER. -/
def execTrigger (n : Fin 8) (s : State) : Res := .next (s.served (·.triggerMsg n))

/-- FRAME_START. -/
def execFrameStart (p : Fin 4) (x : ShortPacket) (fine : Fin 32) (s : State) : Res :=
  .next (s.served (·.csiFrameStart p x.vc x.ecc fine))

/-- CSI_LONG_PACKET. -/
def execCsiLongPacket (p : Fin 4) (k : CsiPacket) (s : State) : Res := .next (s.served (·.csiPacket p k))

/-- FRAME_END. -/
def execFrameEnd (p : Fin 4) (x : ShortPacket) (s : State) : Res := .next (s.served (·.csiFrameEnd p x.vc x.ecc))

/-- CSI_SOT_ERROR. -/
def execCsiSotError (p : Fin 4) (s : State) : Res := .next (s.served (·.sotError p))

/-- FRAME_START_WINDOW_EXPIRED. -/
def execFrameStartWindowExpired (n : Fin 8) (s : State) : Res := .next (s.served (·.windowOver n))

/-- RVF_PACKET_RECEIVED. -/
def execRvfPacketReceived (n : Fin 8) (k : RvfPacket) (s : State) : Res := .next (s.served (·.rvf n k))

/-- CAMERA_LOCK_TIMEOUT. -/
def execCameraLockTimeout (n : Fin 8) (s : State) : Res := .next (s.served (·.lockTimeout n))

/-- CAMERA_LOST_TIMEOUT. -/
def execCameraLostTimeout (n : Fin 8) (s : State) : Res := .next (s.served (·.reinit n 4))

/-- CAMERA_FAULT_TIMEOUT. -/
def execCameraFaultTimeout (n : Fin 8) (s : State) : Res := .next (s.served (·.reinit n 5))

/-- CCI_SCRIPT_ENTRY_DONE. -/
def execCciScriptEntryDone (p : Fin 4) (r : BusResult) (s : State) : Res := .next (s.served (·.scriptDone p r))

/-- CCI_SCRIPT_DELAY_EXPIRED. -/
def execCciScriptDelayExpired (p : Fin 4) (s : State) : Res := .next (s.served (·.scriptDelay p))

/-- CCI_SCRIPT_WAIT_TIMEOUT. -/
def execCciScriptWaitTimeout (p : Fin 4) (s : State) : Res := .next (s.served (·.scriptTimeout p))

/-- CCI_IBI_RECEIVED. -/
def execCciIbiReceived (x : InBandInterrupt) (s : State) : Res :=
  .next (s.served fun s => s.replicate s.ctNow (.ibi x.port s.ct32 x.payload) (·.inBand x.port s.ct32 x.payload))

/-- CCI_HOT_JOIN. -/
def execCciHotJoin (p : Fin 4) (s : State) : Res := .next (s.served (·.hotJoin p))

/-- CCI_ACCESS_READ. -/
def execCciAccessRead (w : Writer) (s : State) : Res :=
  .next (s.served fun s => s.accessAct w 0x286006 [1] (·.cciQueue false))

/-- CCI_ACCESS_WRITE. -/
def execCciAccessWrite (w : Writer) (s : State) : Res :=
  .next (s.served fun s => s.accessAct w 0x286006 [2] (·.cciQueue true))

/-- CCI_ACCESS_DONE. -/
def execCciAccessDone (slot : Option (Fin 8)) (r : BusResult) (s : State) : Res :=
  .next (s.served (·.cciDone (slot.map (·.val)) r))

/-- DESKEW_SEQUENCE. -/
def execDeskewSequence (p : Fin 4) (complete : Bool) (s : State) : Res := .next (s.served (·.deskew p complete))

end Sys2Proof.Machine
end

