-- ==== Sys2Proof/Machine/Views.lean ====
section
/-!
DEFINITION. Views at their source and the coding of slices (R68 to R77, R88 to R96, R127, R329).
-/

namespace Sys2Proof

/-- Two definitions of one instance of one displaying device. -/
def ViewDef.same (a b : ViewDef) : Bool :=
  decide (a.requester = b.requester ∧ a.view = b.view ∧ a.instanceNo = b.instanceNo)

/-- Pan is on (R70, R73). -/
def ViewDef.panOn (d : ViewDef) : Bool := decide (d.panMode = 1)

end Sys2Proof

namespace Sys2Proof.Machine

/-- The pixels per second of an instance, and its weighted rate (R71), for a frame period in 1/65536 ns. -/
def plainRate (d : ViewDef) (period : Int) : Nat :=
  if period ≤ 0 then 0 else d.width * d.height * 65536000000000 / period.toNat
def weightedRate (d : ViewDef) (period : Int) : Nat := plainRate d period * (if d.bicubic then 2 else 1)

/-- An instance named by its displaying device, view and number. -/
def Instance.is (i : Instance) (requester view inst : Nat) : Bool :=
  decide (i.d.requester.toNat = requester ∧ i.d.view.val = view ∧ i.d.instanceNo = inst)

/-- A sample row tapped by the interpolation at a coordinate: the first tap and the number of taps (R68, R69). -/
def firstTap (bicubic : Bool) (t : Rat) : Int := (t - 1 / 2).floor - (if bicubic then 1 else 0)
def tapCount (bicubic : Bool) : Nat := if bicubic then 4 else 2

/-- Chroma at full horizontal resolution (R88): a co-sited sample copied, one between them the mean of its neighbours
rounded to nearest; past the last sample, the last one. -/
def upsample (c : List Nat) (x : Nat) : Nat :=
  if x % 2 = 0 then c.getD (x / 2) 0
  else let a := c.getD (x / 2) 0; let b := c.getD (x / 2 + 1) a; (a + b + 1) / 2

namespace State

/-! ### Slices in flight (R96) -/

/-- The slices that wait for network displays, each once. -/
def forwarded (s : State) : List Forward :=
  s.slices.forward.foldl (fun l x => if l.any (fun y => decide (y.h = x.h)) then l else l ++ [x]) []

/-- Slices in flight and the bytes of their buffers: header, data and tag of each. -/
def inFlight (s : State) : Nat := s.slices.out.length + s.slices.incoming.length + s.forwarded.length
def inFlightBytes (s : State) : Nat :=
  (s.slices.out.map (fun o => o.data.length + 48)).sum + (s.slices.incoming.map (·.bytes)).sum + (s.forwarded.map (·.bytes)).sum

/-- 0x2C00:04 and :05. -/
def flightCount (s : State) : State :=
  let n := (s.inFlight : Int)
  (s.put 0x2C0004 n).put 0x2C0005 (max n (s.int 0x2C0005))

/-- A further slice of some bytes of data exceeds a limit. -/
def flightFull (s : State) (bytes : Nat) : Bool := decide (512 ≤ s.inFlight) || decide (4194304 < s.inFlightBytes + bytes + 48)

/-- A slice dropped whole (R96). -/
def flightOverflow (s : State) : State := (s.bump 0x2C000C).raise 85 0 0 0

/-! ### Checks at the source (R70 to R72, R76, R127) -/

/-- The lens mesh and the rectified size of a slot. -/
def lensMesh (s : State) (n : Nat) : List Byte := s.bytes (pipeDef n + 0x32)
def rectW (s : State) (n : Nat) : Nat := s.nat (pipeDef n + 0x30)
def rectH (s : State) (n : Nat) : Nat := s.nat (pipeDef n + 0x31)

/-- The checked points of each slice of a definition. -/
def pointsOf (s : State) (d : ViewDef) : List (List (Rat × Rat)) :=
  let n := d.slot.val
  (List.range (sliceCount d.height d.sliceHeight)).map
    (slicePoints d.mesh (s.lensMesh n) (s.rectW n) (s.rectH n) d.width d.height d.sliceHeight d.panLimit d.panOn)

/-- An empty view mesh is the identity, and needs an output no larger than the rectified frame (R68). -/
def sizeOk (s : State) (d : ViewDef) : Bool :=
  decide (d.mesh ≠ [] ∨ (d.width ≤ s.rectW d.slot.val ∧ d.height ≤ s.rectH d.slot.val))

/-- need(j) + h, the largest over the slices (R70). -/
def largestNeed (s : State) (d : ViewDef) : Int :=
  ((s.pointsOf d).map (fun p => needOf (p.map (·.1)) d.bicubic)).foldl max 0 + s.int (camDef d.slot.val + 0xC)

/-- first(j) never decreases (R70). -/
def rowOrderOk (s : State) (d : ViewDef) : Bool :=
  let l := ((s.pointsOf d).filter (fun p => !p.isEmpty)).map (fun p => firstOf (p.map (·.1)) d.bicubic)
  (l.zip (l.drop 1)).all (fun p => decide (p.1 ≤ p.2))

/-- The instances that count against a new definition: the active ones that go on, but for the one it defines and those
that another definition is about to replace (R71, R76). -/
def otherInstances (s : State) (d : ViewDef) : List Instance :=
  s.slices.instances.filter (fun i => i.active && i.until_.isNone && !(i.d.same d) &&
    !(s.slices.requests.any (fun r => r.d.same i.d)))

/-- The weighted load of an engine, the load of an encoder, pixel/s. -/
def engineLoad (s : State) (l : List Instance) (e : Nat) : Nat :=
  ((l.filter (fun i => decide (i.engine = e))).map (fun i => weightedRate i.d (s.camPeriod i.d.slot.val))).sum
def encoderLoad (s : State) (l : List Instance) (e : Nat) : Nat :=
  ((l.filter (fun i => decide (i.encoder = e))).map (fun i => plainRate i.d (s.camPeriod i.d.slot.val))).sum

/-- The window memory of a set of definitions, bytes (R72): one window per camera, by the largest of its instances. -/
def windowMemory (s : State) (l : List ViewDef) : Nat :=
  ((List.range 8).map (fun n =>
    let w := ((l.filter (fun d => decide (d.slot.val = n))).map (·.window)).foldl max 0
    s.nat (camDef n + 6) * w * 5 / 2)).sum

/-- The bound instance that a definition defines anew. -/
def boundAs (s : State) (d : ViewDef) : Option Instance := s.slices.instances.find? (fun i => i.active && i.d.same d)

/-- The engine an instance keeps or goes to beside others (R71), and its encoder (R90). -/
def engineAmong (s : State) (others : List Instance) (d : ViewDef) : Nat :=
  match s.boundAs d with
  | some i => i.engine
  | none => if s.engineLoad others 1 < s.engineLoad others 0 then 1 else 0
def encoderAmong (s : State) (others : List Instance) (d : ViewDef) : Nat :=
  match s.boundAs d with
  | some i => i.encoder
  | none => (List.range 8).foldl (fun b e => if s.encoderLoad others e < s.encoderLoad others b then e else b) 0

/-- The reason to refuse an instance beside others (R70 to R72, R76, R86), 0 for none. -/
def refusalAmong (s : State) (others : List Instance) (d : ViewDef) : Nat :=
  if (d.window : Int) < s.largestNeed d then 1
  else if s.rowOrderOk d = false ∨ s.sizeOk d = false then 2
  else if 600000000 < s.engineLoad others (s.engineAmong others d) + weightedRate d (s.camPeriod d.slot.val) then 3
  else if 9437184 < s.windowMemory (d :: others.map (·.d)) then 4
  else if 16 ≤ others.length then 5
  else 0
def refusalOf (s : State) (d : ViewDef) : Nat := s.refusalAmong (s.otherInstances d) d

/-- The largest effective exposure of a slot: of the fixed exposure, or of the automatic one's maximum (R34, R43, R62). -/
def largestExposure (s : State) (n : Nat) : Nat :=
  s.effExposure n (1000 * (if s.int (camDef n + 0x17) = 0 then s.nat (camDef n + 0x18) else s.nat (aeDef n + 3)))

/-- The first sub-index of 0x2E10 that a slot breaches (R127), 0 for none. -/
def breachOf (s : State) (d : ViewDef) : Nat :=
  let n := d.slot.val
  let b := camDef n
  if (d.lineTime : Int) < s.int (b + 0x16) then 0x10
  else if d.maxExposure * 1000 < s.largestExposure n then 0x11
  else if (d.groupHeight : Int) ≠ s.int (b + 0xC) then 0x13
  else if ((s.pointsOf d).all (fun l => l.all (fun p =>
      decide (p.1 - p.2 ≤ (d.rowTolerance : Rat)) && decide (p.2 - p.1 ≤ (d.rowTolerance : Rat))))) = false then 0x14
  else if (d.anchor : Int) ≠ s.int (b + 0x14) then 0x15
  else if (d.period : Int) ≠ s.int (b + 9) then 0x16
  else if (d.fraction : Int) ≠ s.int (b + 0xA) then 0x17
  else if (d.phase : Int) ≠ s.int (b + 0xB) then 0x18
  else 0

/-- The warp status record (R84): of the instances that go on, and of those that wait for the boundary in the place of the
ones they replace. -/
def warpStatus (s : State) : State :=
  let all := s.slices.instances
  let l := all.filter (fun i => i.until_.isNone && !(i.active && all.any (fun x => !x.active && x.d.same i.d)))
  (((s.put 0x28B001 ((s.engineLoad l 0 / 1000 : Nat) : Int)).put 0x28B002 ((s.engineLoad l 1 / 1000 : Nat) : Int)).put 0x28B003
    (l.length : Int)).put 0x28B004 ((s.windowMemory (l.map (·.d)) : Nat) : Int)

/-- The own streams of an instance: created at its first binding, moved on at a later one (R95, R329). The first epoch is
not stated: it is free (log 3). -/
def bindStream (s : State) (d : ViewDef) : State :=
  let sink := d.requester.toNat
  let own := decide (sink = s.sliceSource)
  let mine (x : Epochs) : Bool := decide (x.source = 0 ∧ x.sink = sink ∧ x.view = d.view.val ∧ x.instanceNo = d.instanceNo)
  if s.trust.streams.any mine then s.moveStreams mine
  else
    let e := s.freeNat % 256
    let s := s.tookFree
    let x : Epochs := {
      view := d.view.val, instanceNo := d.instanceNo, sink := sink, epoch := e, delivered := (e + 1) % 256, acked := own,
      key := s.free, next := s.free + 1 }
    let s := { s.tookFree.tookFree with trust := { s.trust with streams := s.trust.streams ++ [x] } }
    (if own then s else (((s.emit (.auth 10 sink e)).emit (.auth 10 sink ((e + 1) % 256))).sendFree sink).sendFree sink).publishKeys

/-- One definition comes before another (R76): by the requester's berth, then the view, then the instance. -/
def sooner (a b : ViewDef) : Bool :=
  decide (a.requesterBerth < b.requesterBerth) || (decide (a.requesterBerth = b.requesterBerth) &&
    (decide (a.view.val < b.view.val) || decide (a.view.val = b.view.val ∧ a.instanceNo < b.instanceNo)))
def insertRequest (r : Request) : List Request → List Request
  | [] => [r]
  | x :: t => if sooner x.d r.d then x :: insertRequest r t else r :: x :: t

/-- The answer to a definition beside others, and the instance it gives where it is accepted (R70 to R72, R76, R127). -/
def judgeDefinition (s : State) (others : List Instance) (d : ViewDef) : Answer × List Instance :=
  let r := s.refusalAmong others d
  let br := if r = 0 then s.breachOf d else 0
  let need := (s.largestNeed d).toNat
  let old := s.boundAs d
  let i : Instance := {
    d := d, engine := s.engineAmong others d, encoder := s.encoderAmong others d, need := need,
    pans := (old.map (·.pans)).getD [], told := (old.map (·.told)).getD (0, 0), signal := (old.map (·.signal)).getD 0 }
  ({ view := d.view.val, inst := d.instanceNo, source := s.sliceSource, reason := r, breach := br, need := need,
     pan := i.told.1, signal := i.told.2 }, if r = 0 ∧ br = 0 then [i] else [])

/-- The definitions that wait, each judged beside those before it (R76). -/
def judgeAll (s : State) : List Request → List Instance → List (ViewDef × Answer × List Instance)
  | [], _ => []
  | r :: t, others =>
    let x := s.judgeDefinition others r.d
    (r.d, x) :: s.judgeAll t (others ++ x.2)

/-- The instances that go on whatever the definitions that wait bring. -/
def stays (s : State) : List Instance :=
  s.slices.instances.filter (fun i => i.active && i.until_.isNone && !(s.slices.requests.any (fun r => r.d.same i.d)))

/-- The definitions that wait are judged in their order, and each answer that has changed is given (R76, R86). -/
def judgeRequests (s : State) : State :=
  let l := s.judgeAll s.slices.requests s.stays
  let told := s.slices.requests
  let s := { s with slices := { s.slices with
    requests := l.map (fun x => { d := x.1, answer := some x.2.1 }),
    instances := s.slices.instances.filter (·.active) ++ l.flatMap (·.2.2) } }
  ((l.zip told).foldl (fun (s : State) x =>
    let a := x.1.2.1
    if x.2.answer = some a then s
    else (if a.reason ≠ 0 then s.bump 0x28B005 else s).answerView x.1.1.requester.toNat a) s).warpStatus

/-- A source receives a view definition (R76): it waits for the flight boundary at which it applies, the next one where
that has passed, and is answered. -/
def viewDefinition (s : State) (d : ViewDef) : State :=
  let l := s.slices.requests.filter (fun r => !(r.d.same d))
  ({ s with slices := { s.slices with requests := insertRequest { d := d } l } } : State).judgeRequests

/-- Bindings end at this source (R77): their instances stop, and what they have not sent is not sent. -/
def stopInstances (s : State) (ended : List (Nat × Nat × Nat)) : State :=
  let is (d : ViewDef) : Bool := ended.any (fun e => decide (d.requester.toNat = e.1 ∧ d.view.val = e.2.1 ∧ d.instanceNo = e.2.2))
  ({ s with slices := { s.slices with
    instances := s.slices.instances.filter (fun i => !(is i.d)), requests := s.slices.requests.filter (fun r => !(is r.d)),
    out := s.slices.out.filter (fun o => !(ended.any (fun e => decide (o.sink = e.1 ∧ o.view = e.2.1 ∧ o.h.instanceNo = e.2.2)))) } } : State)

/-- The instances at a flight boundary (R76, R77): those whose binding ended stop; an accepted definition holds for the
frames at or after F, and the one that it, or a refused one, replaces completes the frames before F. -/
def instancesAtBoundary (s : State) (f : Int) (ended : List (Nat × Nat × Nat)) : State :=
  let s := (s.stopInstances ended).judgeRequests
  let due (d : ViewDef) : Bool := decide (s.flightsSince d.applies.toNat < 2 ^ 31)
  let asked := s.slices.requests.filter (fun r => due r.d)
  let fresh := s.slices.instances.filter (fun i => !i.active && due i.d)
  let first (i : Instance) : Nat :=
    let p := s.camPeriod i.d.slot.val
    if p ≤ 0 then 0 else ((f - s.camInstant i.d.slot.val 0 + p - 1) / p).toNat
  let l := s.slices.instances.map (fun (i : Instance) =>
    if i.active then (if i.until_.isNone ∧ asked.any (fun r => r.d.same i.d) = true then { i with until_ := some f } else i)
    else if due i.d then { i with active := true, from_ := f, k := first i, j := 0 } else i)
  let spentAt (i : Instance) : Bool := match i.until_ with
    | some u => decide (u ≤ s.camInstant i.d.slot.val i.k) && i.warped.isEmpty
    | none => false
  let s := { s with slices := { s.slices with 
    instances := l.filter (fun i => !(spentAt i)), requests := s.slices.requests.filter (fun r => !(due r.d)) } }
  ((fresh.foldl (fun s i => s.bindStream i.d) s).warpStatus).flightCount

/-! ### Pan (R73, R74) -/

/-- The target of a raw signal value (R73), in whole rectified pixels toward zero: R73 states no rounding (DESIGN
CHOICE, log 79). -/
def panTarget (d : ViewDef) (raw : Int) : Int :=
  let a := raw * d.panScale + d.panOffset
  max (-(d.panLimit : Int)) (min (d.panLimit : Int) (Int.tdiv (a * d.panGain) 256000))

/-- The raw signal of a frame's data (R73); none where the data does not reach its last bit. -/
def panRaw (d : ViewDef) (data : List Byte) : Option Int :=
  if 8 * data.length < d.panStart + d.panLength then none
  else
    let v := leNat data / 2 ^ d.panStart % 2 ^ d.panLength
    some (if d.panSigned then signed d.panLength v else v)

/-- A CAN frame received on a port, offered to the pan signals of the instances (R73, R74): the target of the frames whose
I_k is after an instant. -/
def panFrame (s : State) (port ident : Nat) (data : List Byte) (at_ : Int) : State :=
  { s with slices := { s.slices with instances := s.slices.instances.map (fun (i : Instance) =>
    if i.d.panMode = 1 ∧ i.d.panPort = port ∧ i.d.panIdent.toNat = ident then
      match panRaw i.d data with
      | some r => { retarget (s.nextInstant i.d.slot.val at_) (panTarget i.d r) i with signal := 1 }
      | none => i
    else i) } }

/-- The pan timeout (R74). -/
def panTimeout (s : State) (requester view inst : Nat) : State :=
  if s.slices.instances.any (fun i => i.is requester view inst && i.d.panOn && decide (i.signal ≠ 3)) then
    let s := { s with slices := { s.slices with instances := s.slices.instances.map (fun (i : Instance) =>
      if i.is requester view inst && i.d.panOn then
        { retarget (s.nextInstant i.d.slot.val s.ctNow) i.d.panFallback i with signal := 3 } else i) } }
    s.raise (48 + view) 0 inst 0
  else s

/-! ### The warp (R68 to R70, R66) -/

/-- A row of a frame in a camera's window. -/
def windowRow (s : State) (n k : Nat) (r : Int) : Option Row :=
  if r < 0 then none else (s.cam n).rows.find? (fun x => decide (x.k = k ∧ x.row = r.toNat))

/-- What the pipeline needs of frame k of a slot (R26, R64); a frame of which nothing is kept, by the settings applied. -/
def shotOf (s : State) (n k : Nat) : Shot :=
  ((s.cam n).shots.find? (fun x => decide (x.k = k))).getD { k := k, cfg := s.slotCfg n, exposure := s.exposureOf n k }

/-- A front-end pixel: none where its row is not in the window or is marked missing. -/
def frontAt (s : State) (n k : Nat) (r c : Int) : Option (Nat × Nat × Nat) :=
  match s.windowRow n k r with
  | none => none
  | some row =>
    if row.missing then none
    else
      let x := s.shotOf n k
      let v := s.under x.cfg
      let fmt := v.nat (camDef n + 5)
      if isRaw fmt then some (frontPixel (v.frontCfg n x.stats) (rowOf (s.cam n).rows k) r c)
      else some (yuvPixel (decide (fmt = 6)) row.px c.toNat)

/-- The sensor point of an output pixel of an instance in frame k. -/
def pointAt (s : State) (i : Instance) (k c r : Nat) : Option (Rat × Rat) :=
  let n := i.d.slot.val
  sensorPoint i.d.mesh (s.lensMesh n) (s.rectW n) (s.rectH n) (panOf i k) c r

/-- The first taps of a component around a sensor point (R69), column and row, with the point in the component's columns;
none where a tap lies outside the frame. Chroma has half the columns, co-sited with the even ones (log 78). -/
def tapBox (s : State) (i : Instance) (p : Rat × Rat) (half : Bool) : Option (Int × Int × Rat) :=
  let n := i.d.slot.val
  let w := s.int (camDef n + 6)
  let m := tapCount i.d.bicubic
  let x := if half then (p.1 - 1 / 2) / 2 + 1 / 2 else p.1
  let x0 := firstTap i.d.bicubic x
  let y0 := firstTap i.d.bicubic p.2
  if x0 < 0 ∨ y0 < 0 ∨ (if half then (w + 1) / 2 else w) < x0 + m ∨ s.int (camDef n + 7) < y0 + m then none else some (x0, y0, x)

/-- The source rows that slice j of frame k reads, interpolation taps included: the lowest and the highest; none where it
reads no row (R70, R92). -/
def slicerows (s : State) (i : Instance) (k j : Nat) : Option (Int × Int) :=
  let taps := (List.range (sliceRows i.d.height i.d.sliceHeight j)).flatMap (fun r =>
    (List.range i.d.width).flatMap (fun c =>
      match s.pointAt i k c (j * i.d.sliceHeight + r) with
      | none => []
      | some p => (if c % 2 = 0 then [false, true] else [false]).filterMap (fun half => (s.tapBox i p half).map (·.2.1))))
  match taps with
  | [] => none
  | a :: t => some (t.foldl min a, t.foldl max a + tapCount i.d.bicubic - 1)

/-- A component interpolated around a sensor point (R69); none where a tap lies outside the frame, `some none` where one
reads a missing row. -/
def tapsAt (s : State) (i : Instance) (k : Nat) (p : Rat × Rat) (pick : Nat × Nat × Nat → Nat) (half : Bool) :
    Option (Option Nat) :=
  let m := tapCount i.d.bicubic
  match s.tapBox i p half with
  | none => none
  | some (x0, y0, x) =>
    let v := (List.range m).flatMap (fun (b : Nat) => (List.range m).map (fun (a : Nat) =>
      (s.frontAt i.d.slot.val k (y0 + b) ((x0 + a) * (if half then 2 else 1))).map pick))
    if v.any (·.isNone) then some none
    else some (some (interpolate i.d.bicubic m (v.map (·.getD 0)) (x - 1 / 2 - x0) (p.2 - 1 / 2 - y0)))

/-- An output component: the sample, or the fill colour's; the flag says a missing row was read (R66, R69). -/
def warpSample (s : State) (i : Instance) (k c r : Nat) (comp : Nat) : Nat × Bool :=
  let fill := i.d.fill.toNat / 2 ^ (20 - 10 * comp) % 1024
  let pick (t : Nat × Nat × Nat) : Nat := if comp = 0 then t.1 else if comp = 1 then t.2.1 else t.2.2
  match s.pointAt i k c r with
  | none => (fill, false)
  | some p =>
    match s.tapsAt i k p pick (decide (comp ≠ 0)) with
    | none => (fill, false)
    | some none => (fill, true)
    | some (some v) => (v, false)

/-- The samples of slice j: per pixel Y, then Cb and Cr of the even columns, as 4:4:4 with the chroma of R88. -/
def warpSlice (s : State) (i : Instance) (k j : Nat) : List Nat × Bool :=
  let rows := (List.range (sliceRows i.d.height i.d.sliceHeight j)).map (fun r =>
    let y := (List.range i.d.width).map (fun c => s.warpSample i k c (j * i.d.sliceHeight + r) 0)
    let ch (comp : Nat) := (List.range ((i.d.width + 1) / 2)).map (fun c =>
      s.warpSample i k (2 * c) (j * i.d.sliceHeight + r) comp)
    let cb := ch 1
    let cr := ch 2
    ((List.range i.d.width).flatMap (fun c =>
      [(y.getD c (0, false)).1, upsample (cb.map (·.1)) c, upsample (cr.map (·.1)) c]),
     y.any (·.2) || cb.any (·.2) || cr.any (·.2)))
  (rows.flatMap (·.1), rows.any (·.2))

/-- The frame and slice an instance produces next: a frame whose newer one has begun is given up. -/
def nextSlice (s : State) (i : Instance) : Nat × Nat :=
  let newest := ((s.cam i.d.slot.val).rows.getLast?).map (·.k)
  match newest with
  | some k => if i.k < k ∧ (s.cam i.d.slot.val).rows.all (fun r => decide (r.k ≠ i.k)) then (k, 0) else (i.k, i.j)
  | none => (i.k, i.j)

/-- An instance whose definition is replaced, and whose next frame starts at or after the boundary (R77). -/
def spent (s : State) (i : Instance) : Bool :=
  match i.until_ with | some f => decide (f ≤ s.camInstant i.d.slot.val (s.nextSlice i).1) | none => false

/-- An instance `i` becomes `x`. -/
def swapInstance (s : State) (i : Instance) (requester view inst : Nat) (x : Instance) : State :=
  { s with slices := { s.slices with instances := s.slices.instances.map (fun (y : Instance) =>
      if y.is requester view inst && y.active && decide (y.until_ = i.until_) then x else y) } }

/-- The slot group of a definition reserves the direction from this source to its sink (R150), where the active mode has
slots for it at all. -/
def reserved (s : State) (d : ViewDef) : Bool :=
  let here (k : Nat) : Bool := (s.tableAt k).any (fun x => decide (x.group ≠ 0xFF ∧ x.ptype = 5 ∧ x.stream = d.streamNumber ∧
    x.owner = d.requester.toNat))
  d.local_ || !((List.range 4).any here) ||
    (List.range 4).any (fun k => (decide (k % 2 = 0) == decide (s.int 0x222002 < (d.requesterBerth : Int))) && here k)

/-- The warp produces the next slice of an instance once every row it reads is in the window (R70). -/
def warpProduce (s : State) (requester view inst : Nat) : State :=
  match s.slices.instances.find? (fun i => i.is requester view inst && i.active && !(s.spent i)) with
  | none => s
  | some i =>
    let n := i.d.slot.val
    let kj := s.nextSlice i
    let k := kj.1
    let j := kj.2
    if s.camInstant n k < i.from_ ∨ s.reserved i.d = false then s
    else
      let rows := s.slicerows i k j
      let ready := match rows with
        | some (_, hi) => (s.windowRow n k hi).isSome
        | none => (s.cam n).rows.any (fun r => decide (r.k = k))
      if ready = false then s
      else
        let px := s.warpSlice i k j
        let g := match rows with | some (lo, _) => lo.toNat / max 1 (s.nat (camDef n + 0xC)) | none => 0
        let w : Warped := {
          k := k, j := j, rows := sliceRows i.d.height i.d.sliceHeight j, damaged := px.2, stamp := (s.under (s.shotOf n k).cfg).stampOf n k (s.shotOf n k).exposure g,
          px := px.1 }
        let last := decide (sliceCount i.d.height i.d.sliceHeight ≤ j + 1)
        let i' := { i with k := if last then k + 1 else k, j := if last then 0 else j + 1, warped := i.warped ++ [w] }
        s.swapInstance i requester view inst i'

/-! ### The encoder (R88 to R95) -/

/-- The fragment size of a stream in the tables in force; none where the active mode has no slot for it. -/
def fragmentSize (s : State) (stream : Nat) (sink : Nat) : Option Nat :=
  ((s.line.tables.flatMap (·.2)).find? (fun x => decide (x.group ≠ 0xFF ∧ x.ptype = 5 ∧ x.stream = stream ∧ x.owner = sink))).map (·.size)

/-- The header of a slice (R92). -/
def sliceHeader (s : State) (i : Instance) (w : Warped) (epoch fragments : Nat) : SliceHeader :=
  { heightCode := if i.d.sliceHeight = 8 then 0 else if i.d.sliceHeight = 16 then 1 else 2,
    slicesPerLine := if slicesPerLine i.d.width = 1 then 0 else 1,
    damaged := w.damaged, checkFailed := (s.shotOf i.d.slot.val w.k).failed,
    bitsPerPixel := i.d.bitsPerPixel, epoch := BitVec.ofNat 8 epoch, source := BitVec.ofNat 64 s.sliceSource,
    stream := i.d.streamNumber, instanceNo := i.d.instanceNo, frame := BitVec.ofNat 32 w.k, index := w.j,
    perFrame := sliceCount i.d.height i.d.sliceHeight, fragment := 0, fragments := fragments,
    exposure := BitVec.ofInt 32 (if s.ctValid then w.stamp / 65536 else 0), encode := BitVec.ofInt 32 s.ct32 }

/-- The coded data of a warped slice (R88, R89): D bytes. -/
def codedData (i : Instance) (w : Warped) : List Byte :=
  (List.range (sliceBytes i.d.width i.d.bitsPerPixel w.rows)).map (Config.dscByte w.px i.d.width w.rows i.d.bitsPerPixel)

/-- Fragments of a slice in payloads of a size (R128); a slice of this device for a display of it that is forwarded goes in
payloads of 9,216 bytes, the largest of a slot (log 84). -/
def fragmentsIn (len size : Nat) : Nat := (len + 16 + (size - 33)) / (size - 32)

/-- The tables in which slots of a stream instance stand, on the channels this device drives. -/
def sliceLanes (s : State) (stream sink inst : Nat) : List Nat :=
  (List.range 4).filter (fun k => s.drives (if k < 2 then .a else .b) &&
    (s.tableAt k).any (fun x => decide (x.ptype = 5 ∧ x.stream = stream ∧ x.owner = sink ∧ x.copy + 1 = inst)))

/-- The slots the motor chooses for n fragments (R286): the first ones of the group whose egress instant is at least
2,000 ns away, after those chosen already. A slot is a passage number (flight × 64 + passage) and a line-time offset. -/
def chooseSlots (s : State) (stream sink inst n : Nat) : List (Nat × Nat) :=
  let now := s.flight * 64 + s.passage
  let ws := ((s.sliceLanes stream sink inst).flatMap (fun k => ((s.tableAt k).filter (fun x =>
    decide (x.ptype = 5 ∧ x.stream = stream ∧ x.owner = sink ∧ x.copy + 1 = inst))).map (fun x => (x.start, decide (k % 2 = 0))))).eraseDups
  let taken := (s.slices.out.filter (fun o => decide (o.h.stream = stream ∧ o.sink = sink ∧ o.h.instanceNo = inst))).flatMap (·.slots)
  let far (k : Nat) (w : Nat × Bool) : Bool :=
    decide (s.ctNow + 2000 * 65536 ≤ s.egressIn s.ownBerth w.1 w.2 k)
  let starts := (ws.map (·.1)).eraseDups
  (((List.range (n + 3)).flatMap (fun k => (starts.filter (fun w => ws.all (fun x => decide (x.1 ≠ w) || far k x))).map
    (fun w => (now + k, w)))).filter (fun c => !(taken.contains c))).take n

/-- An own stream of this source. -/
def ownStream (s : State) (requester view inst : Nat) : Option Epochs :=
  s.trust.streams.find? (fun x => decide (x.source = 0 ∧ x.sink = requester ∧ x.view = view ∧ x.instanceNo = inst))

/-- The key epoch of a stream as frame k is sent under it: moved where the frame counter has wrapped since the last slice
(R95). -/
def turnStream (s : State) (requester view inst k : Nat) : State :=
  let t := k / 2 ^ 32
  let mine (y : Epochs) : Bool := decide (y.source = 0 ∧ y.sink = requester ∧ y.view = view ∧ y.instanceNo = inst)
  match s.ownStream requester view inst with
  | none => s
  | some x =>
    let s := if x.turn.isSome ∧ x.turn ≠ some t then s.moveStreams mine else s
    { s with trust := { s.trust with streams := s.trust.streams.map (fun (y : Epochs) => if mine y then { y with turn := some t } else y) } }

/-- The oldest warped slice of an instance leaves the warp; an instance that is over goes with its last. -/
def takeWarped (s : State) (i : Instance) (requester view inst : Nat) (rest : List Warped) : State :=
  let l := (s.slices.instances.map (fun (y : Instance) =>
    if y.is requester view inst && decide (y.until_ = i.until_) then { y with warped := rest } else y)).filter
      (fun y => !(s.spent y && y.warped.isEmpty))
  { s with slices := { s.slices with instances := l } }

/-- A tagged slice is an action of class 3 (R288). -/
def sliceAct (s : State) (h : SliceHeader) (tag : List Byte) : State :=
  s.act 3 (be 2 h.stream ++ [BitVec.ofNat 8 h.instanceNo] ++ be 4 h.frame.toNat ++ [BitVec.ofNat 8 h.index] ++ tag)

/-- A coded slice is put in flight toward its sink (R92 to R94, R286), in payloads of a size. -/
def putOut (s : State) (i : Instance) (w : Warped) (x : Epochs) (size : Nat) : State :=
  let data := codedData i w
  let h := s.sliceHeader i w x.epoch (fragmentsIn data.length size)
  let sink := i.d.requester.toNat
  let slots := if s.pairing && s.pair.up && decide (s.int 0x300102 = 1) then
    s.chooseSlots i.d.streamNumber sink i.d.instanceNo h.fragments else []
  let o : OutSlice := {
    h := h, view := i.d.view.val, sink := sink, data := data, tag := sliceTag x.key h data, key := x.key, slots := slots }
  let s := if slots = [] then s else s.toPartner (.choice h.stream i.d.instanceNo h.frame.toNat h.index slots)
  (({ s with slices := { s.slices with out := s.slices.out ++ [o] } } : State).sliceAct h o.tag).flightCount

/-- An encoder emits the last byte of a slice (R91): coded, tagged, and put in flight; or the slice with its tag, for a
display of this device. -/
def encodeSlice (s : State) (requester view inst : Nat) : State × Option (SliceHeader × List Byte × List Byte) :=
  match s.slices.instances.find? (fun i => i.is requester view inst && !i.warped.isEmpty) with
  | none => (s, none)
  | some i =>
    match i.warped with
    | [] => (s, none)
    | w :: rest =>
      let s := ((s.takeWarped i requester view inst rest).turnStream requester view inst w.k).bump 0x2C0006
      match s.ownStream requester view inst with
      | none => (s, none)
      | some x =>
        let len := sliceBytes i.d.width i.d.bitsPerPixel w.rows
        if x.waiting then (s.bump 0x31000B, none)
        else if i.d.local_ then
          if s.flightFull len then (s.flightOverflow, none)
          else
            let h := s.sliceHeader i w x.epoch (fragmentsIn len 9216)
            let tag := sliceTag x.key h (codedData i w)
            (s.sliceAct h tag, some (h, codedData i w, tag))
        else
          match s.fragmentSize i.d.streamNumber requester with
          | none => (s, none)
          | some f => if s.flightFull len then (s.flightOverflow, none) else (s.putOut i w x f, none)

end State

/-! ### The commands -/

/-- PAN_TIMEOUT. -/
def execPanTimeout (requester : BitVec 64) (view : Fin 16) (inst : Nat) (s : State) : Res :=
  .next (s.served (·.panTimeout requester.toNat view inst))

/-- VIEW_DEFINITION_RECEIVED. -/
def execViewDefinitionReceived (d : ViewDef) (s : State) : Res := .next (s.served (·.viewDefinition d))

/-- WARP_SLICE_PRODUCED. -/
def execWarpSliceProduced (requester : BitVec 64) (view : Fin 16) (inst : Nat) (s : State) : Res :=
  .next (s.served (·.warpProduce requester.toNat view inst))

end Sys2Proof.Machine
end

