-- ==== Sys2Proof/Machine/Selectors.lean ====
section
/-!
DEFINITION. The role-selector language (R21 to R23) and the bindings of views at the displaying device (R22, R75 to R77,
R126, R131).
-/

namespace Sys2Proof.Machine

/-! ### Selector text (R21) -/

inductive VehiclePart where
  | lead | rear | self | each
  | veh (n : Nat) | fromLead (k : Nat) | fromRear (k : Nat) | set (m : Nat)
  deriving DecidableEq, Repr

inductive PositionPart where
  | every | a | b | front | back
  deriving DecidableEq, Repr

inductive ObjectPart where
  | position | cam (name : List Byte) | disp (name : List Byte)
  deriving DecidableEq, Repr

structure Selector where
  vehicle : VehiclePart
  position : PositionPart := .every
  object : ObjectPart := .position
  deriving DecidableEq, Repr

/-- ASCII of a text. -/
def ascii (t : String) : List Byte := t.toList.map (fun c => BitVec.ofNat 8 c.toNat)

/-- The text split at its full stops. -/
def splitDots : List Byte → List (List Byte)
  | [] => [[]]
  | b :: t => if b = 0x2E then [] :: splitDots t else match splitDots t with | [] => [[b]] | h :: r => (b :: h) :: r

/-- A decimal number without sign or leading zeros. -/
def readNat (t : List Byte) : Option Nat :=
  if t = [] ∨ (t.length ≠ 1 ∧ t.head? = some 0x30) ∨ t.any (fun b => decide (b.toNat < 0x30 ∨ 0x39 < b.toNat)) = true then none
  else some (t.foldl (fun n b => n * 10 + (b.toNat - 0x30)) 0)

/-- The argument of a form: what stands between its opening text and the closing bracket. -/
def argument (form : String) (t : List Byte) : Option (List Byte) :=
  let p := ascii form
  if p.isPrefixOf t ∧ t.getLast? = some 0x29 then some ((t.drop p.length).dropLast) else none

/-- A number of a form, in a range. -/
def numberIn (form : String) (lo hi : Nat) (t : List Byte) : Option Nat :=
  ((argument form t).bind readNat).bind (fun n => if lo ≤ n ∧ n ≤ hi then some n else none)

/-- A vehicle part. -/
def vehiclePart (t : List Byte) : Option VehiclePart :=
  if t = ascii "LEAD" then some .lead
  else if t = ascii "REAR" then some .rear
  else if t = ascii "SELF" then some .self
  else if t = ascii "EACH" then some .each
  else match numberIn "VEH(LEAD+" 0 31 t with
    | some k => some (.fromLead k)
    | none => match numberIn "VEH(REAR-" 0 31 t with
      | some k => some (.fromRear k)
      | none => match numberIn "VEH(" 1 32 t with
        | some n => some (.veh n)
        | none => (numberIn "SET(" 1 16 t).map .set

/-- A position part. -/
def positionPart (t : List Byte) : Option PositionPart :=
  if t = ascii "POS(A)" then some .a
  else if t = ascii "POS(B)" then some .b
  else if t = ascii "POS(FRONT)" then some .front
  else if t = ascii "POS(BACK)" then some .back
  else none

/-- A name of 1 to 12 characters (R21). -/
def objectName (t : List Byte) : Option (List Byte) :=
  if 1 ≤ t.length ∧ t.length ≤ 12 ∧ t.all isNameChar = true then some t else none

/-- An object part. -/
def objectPart (t : List Byte) : Option ObjectPart :=
  match (argument "CAM(" t).bind objectName with
  | some n => some (.cam n)
  | none => ((argument "DISP(" t).bind objectName).map .disp

/-- A selector; none where the text does not match the form of R21. -/
def parseSelector (t : List Byte) : Option Selector :=
  if 48 < t.length then none
  else
    match splitDots t with
    | [v] => (vehiclePart v).map (fun v => { vehicle := v })
    | [v, x] =>
      match vehiclePart v with
      | none => none
      | some v =>
        match positionPart x with
        | some p => some { vehicle := v, position := p }
        | none => (objectPart x).map (fun o => { vehicle := v, object := o })
    | [v, x, y] =>
      match vehiclePart v, positionPart x, objectPart y with
      | some v, some p, some o => some { vehicle := v, position := p, object := o }
      | _, _, _ => none
    | _ => none

/-- A selector that gives one stream for each matching object (R23). -/
def Selector.many (x : Selector) : Bool :=
  match x.vehicle with | .each => true | .set _ => true | _ => false

/-! ### Resolution (R21, R23) -/

/-- The positions in rising berth. -/
def insertBerthed (a : Berthed) : List Berthed → List Berthed
  | [] => [a]
  | b :: t => if a.berth < b.berth then a :: b :: t else b :: insertBerthed a t
def byBerth (l : List Berthed) : List Berthed := l.foldr insertBerthed []

/-- A position matches the vehicle part and the position part, for an evaluating vehicle and the vehicle total. -/
def matches_ (x : Selector) (self total : Nat) (b : Berthed) : Bool :=
  (match x.vehicle with
    | .lead => decide (b.vehicle = 1)
    | .rear => decide (b.vehicle = total)
    | .self => decide (b.vehicle = self)
    | .each => true
    | .veh n => decide (b.vehicle = n)
    | .fromLead k => decide (b.vehicle = 1 + k)
    | .fromRear k => decide (b.vehicle + k = total)
    | .set m => decide (b.set = m)) &&
  (match x.position with
    | .every => true
    | .a => decide (b.position = 1)
    | .b => decide (b.position = 2)
    | .front => decide (b.position = (if b.forward then 1 else 2))
    | .back => decide (b.position = (if b.forward then 2 else 1)))

/-- The positions a selector resolves to at a device, nearest the lead end first. -/
def resolve (l : List Berthed) (own : Nat) (x : Selector) : List Berthed :=
  let total := (l.map (·.vehicle)).foldl max 0
  match l.find? (fun b => decide (b.identity.toNat = own)) with
  | none => []
  | some me =>
    let hit := (byBerth l).filter (fun b => matches_ x me.vehicle total b &&
      (match x.object with | .cam n => decide (n ∈ b.cameras) | .disp n => decide (n ∈ b.displays) | .position => true))
    if x.many then hit else hit.take 1

namespace State

/-! ### Streams and their records -/

/-- The records of a view, its status, its stream and the stream's status. -/
def viewRec (v : Nat) : Nat := Od.key (0x2C10 + v) 0
def viewSt (v : Nat) : Nat := Od.key (0x2C20 + v) 0
def streamRec (v : Nat) : Nat := Od.key (0x2E10 + v) 0
def streamSt (v : Nat) : Nat := Od.key (0x2E30 + v) 0

/-- The enabled view of a name. -/
def viewNamed (s : State) (name : List Byte) : Option Nat :=
  if name = [] then none
  else (List.range 16).find? (fun v => s.flag (viewRec v + 1) && decide (s.bytes (viewRec v + 2) = name))

/-- The view of region i, 1 to 6, of a DSI display that is enabled, and of view i, 0 to 5, of a network display. -/
def regionView (s : State) (d i : Nat) : Option Nat := s.viewNamed (s.bytes (Od.key (0x2C30 + d) (0x10 + i)))
def netView (s : State) (n i : Nat) : Option Nat :=
  if s.flag (Od.key (0x2C78 + n) 1) then s.viewNamed (s.bytes (Od.key (0x2C78 + n) (6 + i))) else none

/-- A region shows a view, and a network display does (R126). -/
def onRegion (s : State) (v : Nat) : Bool :=
  (List.range 2).any (fun d => (List.range 6).any (fun i => decide (s.regionView d (i + 1) = some v)))
def onNetwork (s : State) (v : Nat) : Bool :=
  (List.range 8).any (fun n => (List.range 6).any (fun i => decide (s.netView n i = some v)))

/-- An enabled view that a region or a network display names is a stream (R126). -/
def isStream (s : State) (v : Nat) : Bool := s.flag (viewRec v + 1) && (s.onRegion v || s.onNetwork v)

/-- The selector of a view. -/
def viewSelector (s : State) (v : Nat) : Option Selector := parseSelector (s.bytes (viewRec v + 3))

/-- The enabled slot of this device under a name. -/
def slotNamed (s : State) (name : List Byte) : Option Nat :=
  (List.range 8).find? (fun n => s.flag (camDef n + 1) && decide (s.bytes (camDef n + 2) = name))

/-- A stream is local (R126). -/
def isLocal (s : State) (v : Nat) : Bool :=
  match s.viewSelector v with
  | some { vehicle := .self, position := p, object := .cam name } =>
    (decide (p = .a ∧ s.inst 0x220003 = 1) || decide (p = .b ∧ s.inst 0x220003 = 2)) && (s.slotNamed name).isSome
  | _ => false

/-- The group of a number in the template of a mode. -/
def groupIn (s : State) (mode g : Nat) : Option Group := (groupsOf (s.template mode)).find? (fun x => decide (x.num = g))

/-- The stream number (R126): 0xFF00 + v of a local stream, else its slot group's. -/
def streamNumber (s : State) (v : Nat) : Nat :=
  if s.isLocal v then 0xFF00 + v
  else
    let g := s.nat (streamRec v + 1)
    (((List.range 15).findSome? (fun m => s.groupIn (m + 1) g)).map (·.stream)).getD 0

/-- B_eff (R122). -/
def berthsEff (s : State) : Nat := min s.berthLimit (2 * s.vehicleLimit)

/-- The definition of a view for an instance (R76, R127), as it goes to its source. -/
def definition (s : State) (v inst : Nat) : ViewDef :=
  let b := viewRec v
  let r := streamRec v
  { requester := BitVec.ofNat 64 s.sliceSource, requesterBerth := s.nat 0x222002, view := Fin.ofNat 16 v,
    instanceNo := inst, slot := 0, width := s.nat (b + 4), height := s.nat (b + 5), mesh := s.bytes (b + 6),
    bicubic := s.flag (b + 7), window := s.nat (b + 8), fill := BitVec.ofInt 32 (s.int (b + 9)), panMode := s.nat (b + 0x10),
    panPort := s.nat (b + 0x11), panIdent := BitVec.ofInt 32 (s.int (b + 0x12)), panStart := s.nat (b + 0x13),
    panLength := s.nat (b + 0x14), panSigned := s.flag (b + 0x15), panScale := s.int (b + 0x16), panOffset := s.int (b + 0x17),
    panGain := s.int (b + 0x18), panLimit := s.nat (b + 0x19), panRate := s.nat (b + 0x1A), panTimeout := s.nat (b + 0x1B),
    panFallback := s.int (b + 0x1C), sliceHeight := s.nat (r + 2), bitsPerPixel := s.nat (r + 3),
    streamNumber := s.streamNumber v, lineTime := s.nat (r + 0x10), maxExposure := s.nat (r + 0x11),
    readDelay := s.nat (r + 0x12), groupHeight := s.nat (r + 0x13), rowTolerance := s.nat (r + 0x14), anchor := s.nat (r + 0x15),
    period := s.nat (r + 0x16), fraction := s.nat (r + 0x17), phase := s.nat (r + 0x18), local_ := false }

/-! ### Bindings at the displaying device -/

/-- The bindings of a view under the applied consist (R22, R23). -/
def resolveView (s : State) (v : Nat) : List Bound :=
  if s.isStream v = false then []
  else match s.viewSelector v with
    | none => []
    | some x =>
      let hit := resolve s.mu.roster s.listedAs x
      ((List.range hit.length).zip hit).map (fun p =>
        { view := v, inst := p.1 + 1, berth := p.2.berth
          source := if p.2.pairId.toNat = 0 then p.2.identity.toNat else p.2.pairId.toNat })

/-- All bindings of the applied consist. -/
def bindings (s : State) : List Bound := (List.range 16).flatMap s.resolveView

/-- The distance of a binding's source in berths, and R131's test. -/
def distance (s : State) (b : Bound) : Nat := ((b.berth : Int) - s.int 0x222002).natAbs
def tooFar (s : State) (b : Bound) : Bool := !(s.isLocal b.view) && decide (s.berthsEff - 1 < s.distance b)

/-- The stream's group reserves slots on the side of the source (R150), where the active mode has the group at all. -/
def sideReserved (s : State) (b : Bound) : Bool :=
  s.isLocal b.view || decide (b.source = s.sliceSource) || (match s.groupIn s.mode (s.nat (streamRec b.view + 1)) with
    | none => true
    | some g => g.dir.testBit (if (b.berth : Int) < s.int 0x222002 then 0 else 1))

/-- An answer of a source taken into a binding (R76, R127). -/
def answered (b : Bound) (l : List Answer) : Bound :=
  match l.find? (fun a => decide (a.view = b.view ∧ a.inst = b.inst ∧ a.source = b.source)) with
  | some a => { b with state := if a.reason ≠ 0 then 3 else 2, breach := a.breach }
  | none => b

/-- The mode is in the stream's mode mask (R124). -/
def modeMasked (s : State) (v : Nat) : Bool := (s.nat (streamRec v + 6)).testBit s.mode

/-- The run state of a stream (R134) by its instances: where one is held the stream is over length, else where one has a
breached envelope it is that (log 85); it runs where an instance is bound on a side its slots reserve. -/
def runState (s : State) (v : Nat) (l : List Bound) : Int :=
  if s.isStream v = false then 0
  else if !(s.modeMasked v) then 5
  else if l.any (·.held) then 4
  else if l.any (fun b => decide (b.breach ≠ 0)) then 3
  else if l.any (fun b => decide (b.state = 2) && s.sideReserved b) then 1
  else 2

/-- The status of a view and its stream (R86, R134): the view's sub-indices 1 to 3, 5 to 7 and the distance are those of
instance 1. -/
def streamStatus (s : State) (v : Nat) : State :=
  let l := s.slices.bound.filter (fun b => decide (b.view = v))
  let one := l.find? (fun b => decide (b.inst = 1))
  let a := one.bind (fun b => s.slices.answers.find? (fun a => decide (a.view = v ∧ a.inst = 1 ∧ a.source = b.source)))
  let st : Int := match one with | none => 1 | some b => if b.breach ≠ 0 then 1 else b.state
  let s := s.put (viewSt v + 1) (if s.flag (viewRec v + 1) then st else 0)
  let s := (s.put (viewSt v + 2) ((a.map (·.reason)).getD 0 : Nat)).put (viewSt v + 3) ((one.map (·.source)).getD 0 : Nat)
  let s := (s.put (viewSt v + 4) (l.length : Int)).put (viewSt v + 7) ((a.map (·.need)).getD 0 : Nat)
  let s := (s.put (viewSt v + 5) ((a.map (·.pan)).getD 0)).put (viewSt v + 6) ((a.map (·.signal)).getD 0 : Nat)
  let breach := ((l.filter (fun b => decide (b.breach ≠ 0))).head?.map (·.breach)).getD 0
  ((s.put (streamSt v + 8) (s.runState v l)).put (streamSt v + 9) (breach : Nat)).put (streamSt v + 0xA)
    ((one.map s.distance).getD 0 : Nat)

/-- The status of every view, and the streams held (R132). -/
def viewStatuses (s : State) : State :=
  let s := (List.range 16).foldl streamStatus s
  s.put 0x2E0009 (((List.range 16).filter (fun v => s.slices.bound.any (fun b => decide (b.view = v) && b.held))).length : Int)

/-! ### Definitions sent (R76, R77) -/

/-- What makes one definition another than the last one sent. -/
def plain (d : ViewDef) : ViewDef := { d with requesterBerth := 0, applies := 0 }

/-- A definition goes to the source of a binding (R76), as `t` has it, for a flight: a new answer is awaited. -/
def sendDefinition (s t : State) (b : Bound) (flight : Nat) : State :=
  let d := { t.definition b.view b.inst with applies := BitVec.ofNat 32 flight }
  let s : State := { s with slices := { s.slices with
    answers := s.slices.answers.filter (fun a => !(decide (a.view = b.view ∧ a.inst = b.inst ∧ a.source = b.source))) } }
  match t.viewSelector b.view with
  | some { object := .cam name, .. } =>
    if b.source = s.sliceSource then
      match t.slotNamed name with
      | some n => s.viewDefinition { d with slot := Fin.ofNat 8 n, local_ := true }
      | none => s
    else (s.emit (.viewDefinition b.source name d)).sendFree b.source
  | _ => s

/-- A list of bindings knows a binding to the same source under the same definition. -/
def knows (l : List Bound) (b : Bound) (d : ViewDef) : Bool :=
  l.any (fun o => decide (o.view = b.view ∧ o.inst = b.inst ∧ o.source = b.source ∧ o.sent = some d))

/-- Before the boundary of a flight at which bindings apply, each source that is new or has a new definition is sent it
(R76): `t` is the state as it will then stand, its bindings too far away left out where a making-up applies (R131). -/
def announce (s t : State) (flight : Nat) (madeUp : Bool) : State :=
  t.bindings.foldl (fun (s : State) b =>
    let d := plain (t.definition b.view b.inst)
    if (madeUp && t.tooFar b) || knows s.slices.bound b d || knows s.slices.announced b d then s
    else
      let s := s.sendDefinition t b flight
      { s with slices := { s.slices with
        announced := s.slices.announced.filter (fun o => decide (o.view ≠ b.view ∨ o.inst ≠ b.inst)) ++ [{ b with sent := some d }] } }) s

/-! ### Bindings -/

/-- A binding of a boundary beside the one before it (R22, R131). -/
def joined (s : State) (madeUp : Bool) (b : Bound) : Bound :=
  let d := plain (s.definition b.view b.inst)
  match s.slices.bound.find? (fun o => decide (o.view = b.view ∧ o.inst = b.inst)) with
  | some o =>
    let same := decide (o.source = b.source)
    let held := if madeUp then s.tooFar b else same && o.held
    if held then { b with held := true, state := if same then o.state else 4, breach := if same then o.breach else 0 }
    else if same && decide (o.sent = some d) then { o with berth := b.berth, held := false }
    else { b with sent := some d }
  | none => if madeUp && s.tooFar b then { b with held := true } else { b with sent := some d }

/-- A binding takes effect beside the old ones: a view that moves to another source counts a rebinding, one that becomes too
far counts a hold, and a source that has not been sent its definition is sent it now. -/
def bindOne (s : State) (old announced : List Bound) (b : Bound) : State :=
  let was := old.find? (fun o => decide (o.view = b.view ∧ o.inst = b.inst))
  let moved : Bool := match was with | some o => decide (o.source ≠ b.source) | none => false
  let s := if moved then s.bump (viewSt b.view + 9) else s
  let heldBefore : Bool := match was with | some o => o.held && !moved | none => false
  let s := if b.held && !heldBefore then (s.bump (streamSt b.view + 0xB)).raise 80 b.view b.inst 0 else s
  match b.sent with
  | some d => if knows old b d || knows announced b d then s else sendDefinition s s b s.flight
  | none => s

/-- The bindings of a boundary (R22, R76, R77, R131): resolved anew; an own instance whose view has moved away stops. -/
def rebind (s : State) (madeUp : Bool) : State :=
  let old := s.slices.bound
  let announced := s.slices.announced
  let new := s.bindings.map (s.joined madeUp)
  let own := s.sliceSource
  let gone := old.filter (fun o => decide (o.source = own) &&
    !(new.any (fun b => decide (b.view = o.view ∧ b.inst = o.inst ∧ b.source = own))))
  let s := ({ s with slices := { s.slices with bound := new, announced := [] } } : State).stopInstances
    (gone.map (fun o => (own, o.view, o.inst)))
  new.foldl (fun (s : State) b => s.bindOne old announced b) s

/-- Answers are taken at the boundary (R76), and a refused instance raises its event. -/
def takeAnswers (s : State) : State :=
  let hit (b : Bound) : Bool := decide (b.state = 4) && !b.held
  let refused := (s.slices.bound.filter hit).filter (fun b => decide ((answered b s.slices.answers).state = 3))
  let s := { s with slices := { s.slices with
    bound := s.slices.bound.map (fun b => if hit b then answered b s.slices.answers else b) } }
  refused.foldl (fun s b => s.raise (64 + b.view) b.inst b.view 0) s

/-- An answer of a source arrives (R76), or its report of pan and signal (R86). -/
def viewAnswer (s : State) (a : Answer) : State := (s.keepAnswer a).putPan a

end State

end Sys2Proof.Machine
end

