-- ==== Sys2Proof/Machine/Display.lean ====
section
/-!
DEFINITION. Slices at their sink and the displays (R78 to R80, R96 to R113).
-/

namespace Sys2Proof.Machine

/-- Two headers of one slice: the same source, stream, instance, epoch, frame and index (R92, R97). -/
def sameSlice (a b : SliceHeader) : Bool :=
  decide (a.source = b.source ∧ a.stream = b.stream ∧ a.instanceNo = b.instanceNo ∧ a.epoch = b.epoch ∧ a.frame = b.frame ∧
    a.index = b.index)

/-- The header without its fragment index: what all fragments of a slice share (R93). -/
def shared (h : SliceHeader) : SliceHeader := { h with fragment := 0 }

/-! ### Overlays (R79, R80) -/

/-- A palette entry: R, G, B and alpha (R79). -/
def paletteEntry (p : List Byte) (i : Nat) : (Nat × Nat × Nat) × Nat :=
  ((field p (4 * i) 1, field p (4 * i + 1) 1, field p (4 * i + 2) 1), field p (4 * i + 3) 1)

/-- The lines of a bitmap from its run words (R79): palette indices; none where the format breaks. -/
def bitmapRuns (width : Nat) : Nat → Nat → List Byte → List Nat → Option (List (List Nat))
  | _, 0, t, _ => if t = [] then some [] else none
  | 0, _ + 1, _, _ => none
  | f + 1, n + 1, a :: b :: r, line =>
    if a = 0 ∧ b = 0 then (if line.length = width then (bitmapRuns width f n r []).map (line :: ·) else none)
    else if b = 0 ∨ width < line.length + b.toNat then none
    else bitmapRuns width f (n + 1) r (line ++ List.replicate b.toNat a.toNat)
  | _ + 1, _ + 1, _, _ => none

/-- A bitmap's lines; an empty bitmap has none. -/
def bitmapLines (b : List Byte) : Option (List (List Nat)) :=
  if b = [] then some []
  else if b.length < 8 then none
  else bitmapRuns (field b 0 2) b.length (field b 2 2) (b.drop 8) []

/-- Blending of one component, rounded to nearest (R80). -/
def blend (alpha p b : Nat) : Nat := (2 * (alpha * p + (255 - alpha) * b) + 255) / 510

/-- A plane's entry over a pixel. -/
def blendPixel (e : (Nat × Nat × Nat) × Nat) (b : Nat × Nat × Nat) : Nat × Nat × Nat :=
  (blend e.2 e.1.1 b.1, blend e.2 e.1.2.1 b.2.1, blend e.2 e.1.2.2 b.2.2)

/-- A component of 24-bit RGB. -/
def code8 (x : Rat) : Nat := min 255 (Config.roundCode (255 * x)).toNat

/-- BT.709 YCbCr of 10 bits in limited range to 24-bit RGB (R80): the range is that of the default colours (log 86). -/
def rgb709 (c : Nat × Nat × Nat) : Nat × Nat × Nat :=
  let y : Rat := ((c.1 : Rat) - 64) / 876
  let pb : Rat := ((c.2.1 : Rat) - 512) / 896
  let pr : Rat := ((c.2.2 : Rat) - 512) / 896
  let r := y + 15748 / 10000 * pr
  let b := y + 18556 / 10000 * pb
  (code8 r, code8 ((y - 2126 / 10000 * r - 722 / 10000 * b) / (7152 / 10000)), code8 b)

/-- A colour packed as 0x2C10:09: Y, Cb, Cr. -/
def unpack (c : Nat) : Nat × Nat × Nat := (c / 2 ^ 20 % 1024, c / 2 ^ 10 % 1024, c % 1024)

/-- The entries of a panel script as they are sent (R100). -/
def panelItems : Nat → List Byte → List DsiItem
  | f + 1, op :: vc :: l0 :: l1 :: t =>
    let n := leNat [l0, l1]
    let data := t.take n
    if op = 0 then []
    else
      let x : DsiItem := if op = 5 then .delay (leNat data)
        else .packet vc.toNat (if op = 1 then 0x05 else if op = 2 then 0x15 else if op = 3 then 0x39 else 0x29) data
      x :: panelItems f (t.drop n)
  | _, _ => []

namespace State

/-! ### Displays and regions -/

/-- The records of a DSI output: configuration, status, region set; of a region's status, i from 1 (R117). -/
def dsiRec (d : Nat) : Nat := Od.key (0x2C50 + d) 0
def dsiSt (d : Nat) : Nat := Od.key (0x2C58 + d) 0
def regSet (d : Nat) : Nat := Od.key (0x2C30 + d) 0
def regSt (d i : Nat) : Nat := Od.key (0x2C60 + 6 * d + i - 1) 0

/-- One display, one region, and their updates. -/
def disp (s : State) (d : Nat) : Display := Tab.get {} s.slices.displays d
def setDisp (s : State) (d : Nat) (x : Display) : State :=
  { s with slices := { s.slices with displays := Tab.set {} s.slices.displays d x } }
def region (s : State) (d i : Nat) : Region := Tab.get {} (s.disp d).regions i
def setRegion (s : State) (d i : Nat) (x : Region) : State :=
  s.setDisp d { s.disp d with regions := Tab.set {} (s.disp d).regions i x }

/-- The entries that compose a display: its region set, the views and their streams. -/
def composes (d k : Nat) : Bool :=
  let i := Od.indexOf k
  decide (i = 0x2C30 + d) || decide (0x2C10 ≤ i ∧ i < 0x2C20) || decide (0x2E10 ≤ i ∧ i < 0x2E20)

/-- The state as a display is composed (R107): by the region set before a commit until its first display frame. -/
def laid (s : State) (d : Nat) : State :=
  match (s.disp d).keep with
  | some st => { s with od := s.od.filter (fun e => !(composes d e.1)) ++ st }
  | none => s

/-- State of a display (R103): 0 OFF, 1 INIT, 2 ALIGN, 3 RUN. -/
def dispState (s : State) (d : Nat) : Int := s.int (dsiSt d + 1)

/-- The output size and slice height of the view of a region; the top-left corner of a region. -/
def viewW (s : State) (v : Nat) : Nat := s.nat (viewRec v + 4)
def viewH (s : State) (v : Nat) : Nat := s.nat (viewRec v + 5)
def sliceH (s : State) (v : Nat) : Nat := s.nat (streamRec v + 2)
def viewSlices (s : State) (v : Nat) : Nat := sliceCount (s.viewH v) (s.sliceH v)
def regionX (s : State) (d i : Nat) : Nat := s.nat (regSet d + 0x20 + i) % 65536
def regionY (s : State) (d i : Nat) : Nat := s.nat (regSet d + 0x20 + i) / 65536
def regionInst (s : State) (d i : Nat) : Nat := s.nat (regSet d + 0x30 + i)

/-- The display period and phase (R101, R123), 1/65536 ns. -/
def dispPeriod (s : State) (d : Nat) : Int := s.int (dsiRec d + 0x14) * 65536 + s.int (dsiRec d + 0x15)
def dispPhase (s : State) (d : Nat) : Int :=
  (if s.int (0x2E0005 + d) = 1 then s.int (0x2E000A + d) else s.int (dsiRec d + 0x16)) * 65536

/-- Lines per frame, and F_m and E(m, y) (R101). -/
def dispLines (s : State) (d : Nat) : Nat :=
  s.nat (dsiRec d + 0x10) + s.nat (dsiRec d + 0x11) + s.nat (dsiRec d + 0x12) + s.nat (dsiRec d + 0x13)
def frameInstant (s : State) (d m : Nat) : Int := s.dispPhase d + m * s.dispPeriod d
def rowInstant (s : State) (d m y : Nat) : Int :=
  s.frameInstant d m + (y : Int) * s.dispPeriod d / max 1 (s.dispLines d : Int)

/-- E_j, E_last,j and C_j of a region's slice in a display frame (R106). -/
def sliceInstant (s : State) (d i v m j : Nat) : Int := s.rowInstant d m (s.regionY d i + j * s.sliceH v)
def sliceLast (s : State) (d i v m j : Nat) : Int :=
  s.rowInstant d m (s.regionY d i + j * s.sliceH v + sliceRows (s.viewH v) (s.sliceH v) j - 1)
def cutOff (s : State) (d i v m j : Nat) : Int := s.sliceInstant d i v m j - 20000 * 65536

/-- k_exp of slice j at a cut-off (R107): by the declared period and phase and the admitted arrival offset. -/
def expected (s : State) (v j : Nat) (cut : Int) : Option Nat :=
  let r := streamRec v
  let p := s.int (r + 0x16) * 65536 + s.int (r + 0x17)
  let a : Int := field (s.bytes (streamSt v + 7)) (4 * j) 4
  let left := cut - a * 65536 - s.int (r + 0x18) * 65536
  if p ≤ 0 ∨ left < 0 then none else some (left / p).toNat

/-! ### Epochs at a sink (R95, R328) -/

/-- The keys this device holds for a stream instance. -/
def keysOf (s : State) (source view inst : Nat) : Option Epochs :=
  s.trust.streams.find? (fun x => decide (x.view = view ∧ x.instanceNo = inst) &&
    (decide (x.source = source ∧ source ≠ 0) || decide (x.source = 0 ∧ source = s.sliceSource ∧ x.sink = s.sliceSource)))

/-- The epoch of a header is the current one; is the current or the previous one. -/
def epochCurrent (s : State) (v : Nat) (h : SliceHeader) : Bool :=
  match s.keysOf h.source.toNat v h.instanceNo with | some x => decide (h.epoch.toNat = x.delivered) | none => false
def epochHeld (s : State) (v : Nat) (h : SliceHeader) : Bool :=
  match s.keysOf h.source.toNat v h.instanceNo with
  | some x => decide (h.epoch.toNat = x.delivered ∨ h.epoch.toNat = x.epoch) | none => false

/-! ### Receiving (R97, R98, R104, R105, R112) -/

/-- The binding a header belongs to (R98). -/
def boundFor (s : State) (h : SliceHeader) : Option Bound :=
  s.slices.bound.find? (fun b => decide (b.source = h.source.toNat ∧ b.inst = h.instanceNo ∧ b.state = 2 ∧ b.held = false) &&
    decide (s.streamNumber b.view = h.stream))

/-- The header checks of R98 against the stream record. -/
def malformed (s : State) (v : Nat) (h : SliceHeader) : Bool :=
  decide (h.version ≠ 1) || decide (h.heightCode = 3) || decide (1 < h.slicesPerLine.toNat) || decide (h.reserved ≠ 0 ∨ h.reserved15 ≠ 0) ||
  decide (h.perFrame ≠ s.viewSlices v) || decide (h.perFrame ≤ h.index) || decide ((h.bitsPerPixel : Int) ≠ s.int (streamRec v + 3)) ||
  decide (h.fragments ≤ h.fragment)

/-- The CT of a 32-bit stamp taken before now (R200), 1/65536 ns. -/
def extend32 (s : State) (stamp : Nat) : Int :=
  let r := s.ctNow / 65536
  (r - ((r % 2 ^ 32 - stamp) % 2 ^ 32)) * 65536

/-- A verified slice takes the incoming cell of its position, or is discarded (R105). -/
def takesCell (s : State) (v : Nat) (old : Option Cell) (h : SliceHeader) : Bool :=
  match old with
  | none => true
  | some c =>
    if !(s.epochCurrent v h) && s.epochCurrent v c.h then false
    else decide (c.h.frame.toNat < h.frame.toNat) || decide (c.h.source ≠ h.source) ||
      (s.epochCurrent v h && !(s.epochCurrent v c.h)) || c.old

/-- The regions that show an instance of a view. -/
def regionsOf (s : State) (v inst : Nat) : List (Nat × Nat) :=
  (List.range 2).flatMap (fun d => ((List.range 6).map (· + 1)).filterMap (fun i =>
    if (s.laid d).regionView d i = some v ∧ (s.laid d).regionInst d i = inst then some (d, i) else none))

/-- A verified slice at a region: its check-failed flag noted (R93), its cell taken. -/
def storeCell (s : State) (v : Nat) (h : SliceHeader) (data : List Byte) (di : Nat × Nat) : State :=
  let r := s.region di.1 di.2
  let k := h.frame.toNat
  let flagged := h.checkFailed && !(r.checkFailed.contains k)
  let s := if flagged then s.bump (regSt di.1 di.2 + 0xC) else s
  let failed := if flagged then (r.checkFailed ++ [k]).drop (r.checkFailed.length + 1 - 8) else r.checkFailed
  let c : Cell := {
    h := shared h,
    exposed := s.extend32 h.exposure.toNat, encoded := s.extend32 h.encode.toNat, stored := s.ctNow, data := data }
  let inc := if s.takesCell v (Tab.find? r.incoming h.index) h then Tab.insert r.incoming h.index c else r.incoming
  s.setRegion di.1 di.2 { r with checkFailed := failed, incoming := inc }

/-- A verified slice joins the queue of each network display of its view, its fragments as they came; one of the same
position of which nothing has been sent is dropped and counted (R112). -/
def queueForward (s : State) (v : Nat) (h : SliceHeader) (fragments : List (List Byte)) : State :=
  (List.range 8).foldl (fun s n =>
    if (List.range 6).any (fun i => decide (s.netView n i = some v)) then
      let samePos (x : Forward) : Bool :=
        decide (x.display = n ∧ x.h.stream = h.stream ∧ x.h.instanceNo = h.instanceNo ∧ x.h.index = h.index ∧ x.sent = 0)
      let s := if s.slices.forward.any samePos then s.bump (Od.key (0x2C78 + n) 0x11) else s
      let x : Forward := {
        display := n, h := shared h, left := fragments, bytes := (fragments.map (·.length)).sum + 32 }
      { s with slices := { s.slices with forward := s.slices.forward.filter (fun x => !(samePos x)) ++ [x] } }
    else s) s

/-- The DSC data and the tag that fragments carry behind their headers (R93). -/
def dataOf (fragments : List (List Byte)) : List Byte := let l := fragments.flatten; l.take (l.length - 16)

/-- A complete slice whose tag has been checked (R97, R98). -/
def verified (s : State) (v : Nat) (h : SliceHeader) (fragments : List (List Byte)) (tagOk : Bool) : State :=
  if tagOk = false ∨ s.epochHeld v h = false then (s.bump 0x2C0008).raise 86 0 v 0
  else if s.slices.seen.any (sameSlice h) then s.bump 0x2C0009
  else
    let keep (x : SliceHeader) : Bool :=
      decide (x.stream ≠ h.stream ∨ x.instanceNo ≠ h.instanceNo ∨ (x.epoch ≠ h.epoch ∧ s.epochHeld v x = true) ∨
        (x.epoch = h.epoch ∧ h.frame.toNat ≤ x.frame.toNat + 1))
    let s := { s with slices := { s.slices with seen := s.slices.seen.filter keep ++ [shared h] } }
    let s := s.bump 0x2C0007
    let s := if h.damaged then s.bump (viewSt v + 8) else s
    let s := (s.regionsOf v h.instanceNo).foldl (fun s di => s.storeCell v h (dataOf fragments) di) s
    s.queueForward v h fragments

/-- A slice that this unit has checked; a verified one is sent to the partner (R285). -/
def checked (s : State) (v : Nat) (h : SliceHeader) (fragments : List (List Byte)) (tagOk : Bool) : State :=
  let t := s.verified v h fragments tagOk
  if t.int 0x2C0007 ≠ s.int 0x2C0007 then t.toPartner (.slice h fragments) else t

/-- Two headers of one position of a stream instance. -/
def samePosition (a b : SliceHeader) : Bool :=
  decide (a.source = b.source ∧ a.stream = b.stream ∧ a.instanceNo = b.instanceNo ∧ a.index = b.index)

/-- A slice is discarded as malformed (R98): counted once, its further fragments are ignored. -/
def malformedSlice (s : State) (c : Chan) (h : SliceHeader) : State :=
  let bad := s.slices.bad.filter (fun x => !(decide (x.1 = c) && samePosition x.2 h))
  (({ s with slices := { s.slices with
    bad := bad ++ [(c, shared h)], incoming := s.slices.incoming.filter (fun x => !(decide (x.chan = c) && sameSlice x.h h)) } } : State).flightCount).bump
    0x2C000A

/-- An older slice of a position that is still incomplete on a channel will not be completed: it is in flight no longer
(R96). -/
def abandonOlder (s : State) (c : Chan) (h : SliceHeader) : State :=
  { s with slices := { s.slices with
    incoming := s.slices.incoming.filter (fun x => !(decide (x.chan = c) && samePosition x.h h && !(sameSlice x.h h))) } }

/-- The fragments of a slice in their order. -/
def inOrder (n : Nat) (got : List (Nat × List Byte)) : List (List Byte) :=
  (List.range n).map (fun i => ((got.find? (fun g => decide (g.1 = i))).map (·.2)).getD [])

/-- A fragment arrives (R96 to R98): what follows its header. -/
def fragmentIn (s : State) (c : Chan) (h : SliceHeader) (data : List Byte) (tagOk : Bool) : State :=
  match s.boundFor h with
  | none => s.bump 0x2C000B
  | some b =>
    let mine (x : InSlice) : Bool := decide (x.chan = c) && sameSlice x.h h
    if s.slices.bad.any (fun x => decide (x.1 = c) && sameSlice x.2 h) then s
    else if s.malformed b.view h ∨ s.slices.incoming.any (fun x => mine x && decide (shared x.h ≠ shared h)) = true then
      s.malformedSlice c h
    else
      let without : State := { s with slices := { s.slices with incoming := s.slices.incoming.filter (fun x => !(mine x)) } }
      match s.slices.incoming.find? mine with
      | some x =>
        if x.got.any (fun g => decide (g.1 = h.fragment)) then s
        else
          let got := x.got ++ [(h.fragment, data)]
          if got.length < h.fragments then
            { without with slices := { without.slices with incoming := without.slices.incoming ++ [{ x with got := got }] } }
          else (without.checked b.view h (inOrder h.fragments got) tagOk).flightCount
      | none =>
        if h.fragment ≠ 0 then s
        else
          let s := s.abandonOlder c h
          let bytes := sliceBytes (s.viewW b.view) h.bitsPerPixel (sliceRows (s.viewH b.view) (s.sliceH b.view) h.index)
          if s.flightFull bytes then s.flightCount.flightOverflow
          else if h.fragments = 1 then (s.checked b.view h [data] tagOk).flightCount
          else
            let x : InSlice := { chan := c, h := h, got := [(0, data)], bytes := bytes + 48 }
            (({ s with slices := { s.slices with incoming := s.slices.incoming ++ [x] } } : State).flightCount)

/-- A slice of this device for a display of this device: tagged and verified like every other (R95). -/
def encoded (s : State) (requester view inst : Nat) : State :=
  let p := s.encodeSlice requester view inst
  match p.2 with
  | none => p.1
  | some (h, data, tag) =>
    match p.1.boundFor h with
    | none => p.1.bump 0x2C000B
    | some b =>
      (p.1.checked b.view h ((List.range h.fragments).map (fragmentOf data tag h.fragments 9216)) true).flightCount

/-! ### Forwarding to network displays (R112) -/

/-- The star port of a network display. -/
def forwardPort (s : State) (n : Nat) : Nat := s.nat (Od.key (0x2C78 + n) 3) - 0x10

/-- The frame of a fragment for a network display: its address and stream ID, no SecTAG, the slice header as received. -/
def forwardFrame (s : State) (x : Forward) (data : List Byte) : List Byte :=
  let d := Od.key (0x2C78 + x.display) 0
  let payload := headerBytes { x.h with fragment := x.sent } false ++ data
  let p := s.forwardPort x.display
  starFrame (be 6 (s.nat (d + 4))) (s.starHeader 5 payload.length) s.fuses.identity (s.nat (d + 5)) (s.starSequence p 5) s.ct32 payload

/-- A fragment has been sent; with its last one the slice has been forwarded. -/
def fragmentForwarded (s : State) (x : Forward) (rest : List (List Byte)) : State :=
  let others := s.slices.forward.erase x
  if rest = [] then
    ((({ s with slices := { s.slices with forward := others } } : State).bump (Od.key (0x2C78 + x.display) 0x10)).bump 0x2C000D).flightCount
  else { s with slices := { s.slices with forward := { x with left := rest, sent := x.sent + 1 } :: others } }

/-- A star egress takes the next fragment of a slice that has begun (R112, R139): behind gPTP event messages and TRIGGER
frames, in the transmit window. -/
def forwardPump (s : State) (p : Nat) : State :=
  match s.slices.forward.find? (fun x => x.going && decide (s.forwardPort x.display = p)) with
  | none => s
  | some x =>
    match x.left with
    | [] => s
    | data :: rest =>
      let frame := s.forwardFrame x data
      if (s.star p).queue.any (fun y => decide (starClass y ≤ 1)) ∨ s.starFree p frame.length = false ∨ s.parked = true then s
      else (((s.starLeaves p frame.length).usedSequence p 5).emit (.star p 2 frame)).fragmentForwarded x rest

/-- A slice begins to go to a network display (R112). -/
def forwardSlice (s : State) (n : Nat) : State :=
  match s.slices.forward.find? (fun x => decide (x.display = n)) with
  | none => s
  | some x =>
    if s.starUp (s.forwardPort n) && !s.parked then
      ({ s with slices := { s.slices with forward := s.slices.forward.map (fun (y : Forward) => if y = x then { y with going := true } else y) } } : State).forwardPump
        (s.forwardPort n)
    else s

/-! ### The display link (R100 to R103) -/

/-- The panel script reaches its end. -/
def panelScriptEnd (s : State) (d : Nat) : State :=
  if s.dispState d = 1 then (s.put (dsiSt d + 1) 2).setDisp d { s.disp d with aligned := 0, lengthen := true } else s

/-- A display goes back to ALIGN (R103). -/
def realign (s : State) (d : Nat) : State :=
  (((s.put (dsiSt d + 1) 2).bump (dsiSt d + 5)).setDisp d { s.disp d with aligned := 0, lengthen := true }).raise (83 + d) 0 d 0

/-- The pixel-clock trim, 0.1 ppm: the control law is not stated, and the value within its bounds is free (log 3). -/
def trim (s : State) (d : Nat) : State := (s.put (dsiSt d + 4) ((s.freeNat % 4001 : Nat) - 2000)).tookFree

/-! ### What a pixel shows (R80, R109, R111) -/

/-- The region over a display pixel. -/
def regionAt (s : State) (d x y : Nat) : Option (Nat × Nat) :=
  let c := s.laid d
  ((List.range 6).map (· + 1)).findSome? (fun i =>
    match c.regionView d i with
    | some v =>
      if c.regionX d i ≤ x ∧ x < c.regionX d i + c.viewW v ∧ c.regionY d i ≤ y ∧ y < c.regionY d i + c.viewH v then some (i, v)
      else none
    | none => none)

/-- YCbCr of a region pixel: the held slice, the view's fill colour, or under view lost with action 1 its colour. -/
def regionPixel (s : State) (d i v x y : Nat) : Nat × Nat × Nat :=
  let r := s.region d i
  let c := s.laid d
  if r.lost ∧ s.int (dsiRec d + 0x19) = 1 then unpack (s.nat (dsiRec d + 0x1A))
  else
    let h := max 1 (c.sliceH v)
    match Tab.find? r.held (y / h) with
    | some e => Config.dscDecode e.data (c.viewW v) (sliceRows (c.viewH v) h (y / h)) e.h.bitsPerPixel x (y % h)
    | none => unpack (c.nat (viewRec v + 9))

/-- Overlay plane p of a display over a pixel (R79): a region-anchored plane is clipped to its region. -/
def planePixel (s : State) (d p x y : Nat) (base : Nat × Nat × Nat) : Nat × Nat × Nat :=
  let k := Od.key (0x2C40 + 2 * d + p) 0
  let anchor := s.nat (k + 4)
  let inside := decide (anchor = 0) || (match s.regionAt d x y with | some (i, _) => decide (i = anchor) | none => false)
  let ox := s.nat (k + 5) % 65536 + (if anchor = 0 then 0 else (s.laid d).regionX d anchor)
  let oy := s.nat (k + 5) / 65536 + (if anchor = 0 then 0 else (s.laid d).regionY d anchor)
  if s.flag (k + 1) = false ∨ inside = false ∨ x < ox ∨ y < oy then base
  else match bitmapLines (s.bytes (k + 3)) with
    | none => base
    | some lines =>
      match (lines[y - oy]?).bind (fun l => l[x - ox]?) with
      | some e => blendPixel (paletteEntry (s.bytes (k + 2)) e) base
      | none => base

/-- The burned-in icons of a region pixel (R109, R111). -/
def iconPixel (s : State) (d i v x y : Nat) (base : Nat × Nat × Nat) : Nat × Nat × Nat :=
  let w := (s.laid d).viewW v
  let h := (s.laid d).viewH v
  if (s.region d i).lost then
    let n := if w < 128 ∨ h < 128 then 64 else 96
    let x0 := (w - n) / 2
    let y0 := (h - n) / 2
    if x0 ≤ x ∧ x < x0 + n ∧ y0 ≤ y ∧ y < y0 + n then (Config.lostIcon n (x - x0) (y - y0)).getD base else base
  else if s.flag (dsiRec d + 0x1B) ∧ (s.int (regSt d i + 1) = 3 ∨ s.int (regSt d i + 1) = 4) ∧ w < x + 41 ∧ x + 8 < w ∧ 8 ≤ y ∧ y < 40 then
    (Config.staleIcon (x + 40 - w) (y - 8)).getD base
  else base

/-- The 24-bit RGB that a display shows at a pixel (R80). -/
def displayPixel (s : State) (d x y : Nat) : Nat × Nat × Nat :=
  match s.regionAt d x y with
  | none => s.planePixel d 1 x y (s.planePixel d 0 x y (rgb709 (unpack ((s.laid d).nat (regSet d + 1)))))
  | some (i, v) =>
    let rx := x - (s.laid d).regionX d i
    let ry := y - (s.laid d).regionY d i
    s.iconPixel d i v rx ry
      (s.planePixel d 1 x y (s.planePixel d 0 x y (rgb709 (s.regionPixel d i v rx ry))))

/-- Composed pixels of a row go out on the display link. -/
def sendPixels (s : State) (d y x n : Nat) : State :=
  s.emit (.dsi d (.pixels y x ((List.range n).map (fun k => s.displayPixel d (x + k) y))))

/-- The stretches of a row outside every region: first column and length. -/
def outsideRuns (s : State) (d y : Nat) : List (Nat × Nat) :=
  (List.range (s.nat (dsiRec d + 0xC))).foldr (fun x l =>
    if (s.regionAt d x y).isSome then l
    else match l with
      | (a, n) :: t => if a = x + 1 then (x, n + 1) :: t else (x, 1) :: l
      | [] => [(x, 1)]) []

/-- The pixels of a display frame outside its regions (R78). -/
def sendOutside (s : State) (d : Nat) : State :=
  (List.range (s.nat (dsiRec d + 0x10))).foldl (fun s y =>
    (s.outsideRuns d y).foldl (fun s r => s.sendPixels d y r.1 r.2) s) s

/-- Regions of a display in view lost (R116). -/
def countLost (s : State) (d : Nat) : State :=
  s.put (dsiSt d + 7) ((((List.range 6).filter (fun i => (s.region d (i + 1)).lost)).length : Nat) : Int)

/-- A region whose commit applies at F starts empty (R107, R108, R117). -/
def resetRegion (s : State) (d i : Nat) (f : Int) : State :=
  let s := ((List.range 14).map (· + 1)).foldl (fun s x => s.put (regSt d i + x) (if x = 4 then 0xFFFFFFFF else 0)) s
  match s.regionView d i with
  | none => (s.setRegion d i {}).countLost d
  | some v =>
    (((s.setRegion d i { tc := f, flight := s.flight }).put (regSt d i + 1) 1).put (regSt d i + 6) (s.int (streamSt v + 2))).countLost d

/-- A new region set, or a view of it of another shape, composes the display (R107): its changed regions start empty. -/
def layOut (s : State) (d : Nat) : State :=
  let x := s.disp d
  match x.keep with
  | none => s
  | some _ => x.changed.foldl (fun s i => s.resetRegion d i x.since) (s.setDisp d { x with keep := none, changed := [] })

/-- A commit changes regions of a display at a flight boundary (R107): at once where no frame runs, else from the first
display frame at or after it. `old`: the dictionary before the commit. -/
def changeRegions (s : State) (d : Nat) (old : Store) (changed : List Nat) (f : Int) : State :=
  let x := s.disp d
  let keep := x.keep.getD (old.filter (fun e => composes d e.1))
  let s := s.setDisp d { x with keep := some keep, since := f, changed := (x.changed ++ changed).eraseDups }
  if s.dispState d < 2 then s.layOut d else s

/-- The compression-mode command and the picture parameter set of an output with link compression (R99). -/
def linkSetup (s : State) (d : Nat) : State :=
  let b := dsiRec d
  if s.int (b + 7) = 1 then
    (s.emit (.dsi d (.packet 0 0x07 [1, 0]))).emit (.dsi d (.packet 0 0x0A
      (Config.linkParameters (s.nat (b + 0xC)) (s.nat (b + 0x10)) (s.nat (b + 8)) (s.nat (b + 9)) (s.nat (b + 0xA)))))
  else s

/-- The lines by which a front porch is longer (R103): the next F_m then falls within one row time of its instant. -/
def porchLines (s : State) (d : Nat) (err : Int) : Nat :=
  if (s.disp d).lengthen then ((-err) % max 1 (s.dispPeriod d) / max 1 (s.dispPeriod d / max 1 (s.dispLines d : Int))).toNat else 0

/-- The first pixel of a display frame leaves (R101 to R103). -/
def displayFrameStart (s : State) (d fine : Nat) : State :=
  if s.dispState d < 2 then s
  else
    let t := s.ctAt s.clock.counter fine
    let p := max 1 (s.dispPeriod d)
    let m := ((2 * (t - s.dispPhase d) + p) / (2 * p)).toNat
    let err := t - s.frameInstant d m
    let near (ns : Int) : Bool := decide (-(ns * 65536) ≤ err ∧ err ≤ ns * 65536)
    let n := if near 10 then (s.disp d).aligned + 1 else 0
    let porch := s.nat (dsiRec d + 0x11) + s.porchLines d err
    let s := (s.put (dsiSt d + 2) ((m % 2 ^ 32 : Nat) : Int)).put (dsiSt d + 3) (Int.tdiv err 65536)
    let s := (s.setDisp d { s.disp d with m := m, aligned := n, lengthen := false }).trim d
    let s := if (s.disp d).since ≤ s.frameInstant d m then s.layOut d else s
    let s := if s.parked then s else ((s.linkSetup d).emit (.dsi d (.frame m porch))).sendOutside d
    if s.dispState d = 2 then (if 4 ≤ n then s.put (dsiSt d + 1) 3 else s)
    else if near 100 then s
    else s.realign d

/-! ### Cut-offs (R107, R109) -/

/-- The held slice counts as of a new epoch beside the incoming one (R107). -/
def newEpoch (held inc : Cell) : Bool := decide (held.h.source ≠ inc.h.source ∨ held.h.epoch ≠ inc.h.epoch) || held.old

/-- The hold at a cut-off, and view lost beyond the stale limit (R109). -/
def judgeHold (s : State) (d i v : Nat) : State :=
  let r := s.region d i
  let hold := s.ctNow - r.tc
  let s := s.put (regSt d i + 0xD) (max 0 (min 65535 (hold / 65536000000)))
  if r.lost = false ∧ s.int (dsiRec d + 0x18) * 65536000000 < hold then
    let s := s.setRegion d i { r with lost := true, currentFrames := 0 }
    (((s.put (regSt d i + 1) 5).bump (regSt d i + 0xE)).countLost d).raise (248 + d) 0 v i
  else s

/-- What a cut-off decided of a position is marked (R107). -/
def markSlice (s : State) (d i m j : Nat) (cur first : Bool) (r : Region) (held : Option Cell) : State :=
  s.setRegion d i { r with
    marks := r.marks ++ [{ m := m, j := j, current := cur, first := first, frame := (Tab.find? r.held j).map (·.h.frame.toNat) }]
    shown := r.shown || held.isSome || cur }

/-- The position falls back on its held cell, current if it is the expected one, else stale (R107). -/
def fallBack (s : State) (d i m j : Nat) (r : Region) (held : Option Cell) (expect : Option Nat) : State :=
  match held, expect with
  | some c, some k =>
    if c.h.frame.toNat = k % 2 ^ 32 then s.markSlice d i m j true false r held
    else (s.bump (regSt d i + 9)).markSlice d i m j false false r held
  | _, _ => (s.bump (regSt d i + 9)).markSlice d i m j false false r held

/-- Partly received slices of a position that are of a frame before the expected one are in flight no longer (R96, R98). -/
def dropIncomplete (s : State) (stream inst j k : Nat) : State :=
  let before (x : InSlice) : Bool := decide (x.h.stream = stream ∧ x.h.instanceNo = inst ∧ x.h.index = j) &&
    decide (let n := (k + 2 ^ 32 - x.h.frame.toNat) % 2 ^ 32; 0 < n ∧ n < 2 ^ 31)
  if s.slices.incoming.any before then
    ({ s with slices := { s.slices with incoming := s.slices.incoming.filter (fun x => !(before x)) } } : State).flightCount
  else s

/-- What slice j of a region shows in display frame m where frame k is expected (R107). -/
def decideExpected (s : State) (d i v m j k : Nat) : State :=
  let r := s.region d i
  let c := s.laid d
  let cut := c.cutOff d i v m j
  let held := Tab.find? r.held j
  let b := regSt d i
  let repeats := match held with | some x => decide (x.h.frame.toNat = k % 2 ^ 32) | none => false
  let late (s : State) : State := if repeats then s else s.bump (b + 8)
  match Tab.find? r.incoming j with
  | none => (late s).fallBack d i m j r held (some k)
  | some x =>
    if x.h.frame.toNat ≠ k % 2 ^ 32 ∨ cut < x.stored then (late s).fallBack d i m j r held (some k)
    else if x.h.damaged ∨ r.checkFailed.contains x.h.frame.toNat = true then s.fallBack d i m j r held (some k)
    else
      let advances := match held with
        | some o => decide (o.h.frame.toNat < x.h.frame.toNat) || newEpoch o x | none => true
      let fresh := decide (c.sliceLast d i v m j - x.exposed ≤ s.int (streamSt v + 2) * 65536)
      if advances = false then ((if repeats then s else s.bump (b + 0xA)) : State).fallBack d i m j r held (some k)
      else if fresh = false then (s.bump (b + 0xB)).fallBack d i m j r held (some k)
      else
        let s := s.put (b + 2) (x.h.frame.toNat : Int)
        let s := if s.isLocal v then s.bootStep 5 else s
        s.markSlice d i m j true true { r with held := Tab.insert r.held j x } held

/-- What slice j of a region shows in display frame m (R107); before any frame is expected its held cell, as stale. -/
def decideSlice (s : State) (d i v m j : Nat) : State :=
  let r := s.region d i
  let held := Tab.find? r.held j
  if 0 < (s.disp d).hold then s.markSlice d i m j false false r held
  else match s.expected v j ((s.laid d).cutOff d i v m j) with
  | none => s.fallBack d i m j r held none
  | some k => (s.decideExpected d i v m j k).dropIncomplete (s.streamNumber v) ((s.laid d).regionInst d i) j k

/-- A slice of a region of display frame m has been decided. -/
def decided (s : State) (d i m j : Nat) : Bool := (s.region d i).marks.any (fun x => decide (x.m = m ∧ x.j = j))

/-- The motor tells its butty what it decided of a position (R285). -/
def tellDecision (s : State) (d i m j : Nat) : State :=
  match (s.region d i).marks.find? (fun x => decide (x.m = m ∧ x.j = j)) with
  | some x => s.toPartner (.decision d i m j x.frame x.current x.first)
  | none => s

/-- A butty takes the motor's decision (R285): the frame shown for the first time is promoted where its own cell holds it,
and the held cell stays otherwise. -/
def followDecision (s : State) (d i m j : Nat) (frame : Option Nat) (current first : Bool) : State :=
  match (s.laid d).regionView d i with
  | none => s
  | some v =>
    if s.dispState d < 2 ∨ s.decided d i m j = true then s
    else
      let r := s.region d i
      let held := Tab.find? r.held j
      let s := if current then s else s.bump (regSt d i + 9)
      let s := match first, Tab.find? r.incoming j with
        | true, some x =>
          if some x.h.frame.toNat = frame then
            (s.put (regSt d i + 2) (x.h.frame.toNat : Int)).markSlice d i m j true true { r with held := Tab.insert r.held j x } held
          else s.markSlice d i m j false false r held
        | true, none => s.markSlice d i m j false false r held
        | false, _ => s.markSlice d i m j current false r held
      s.judgeHold d i v

/-- The cut-off of slice j of region i in display frame m. A butty waits for the motor's decision while the tow line is up
(R285). -/
def sliceCutOff (s : State) (d i j m : Nat) : State :=
  match (s.laid d).regionView d i with
  | none => s
  | some v =>
    if s.dispState d < 2 ∨ (s.laid d).viewSlices v ≤ j ∨ s.decided d i m j = true then s
    else if s.isButty && s.pair.up then s
    else ((s.decideSlice d i v m j).tellDecision d i m j).judgeHold d i v

/-- The rows of slice j of a region go out (R80). -/
def sendSlice (s : State) (d i v j : Nat) : State :=
  let c := s.laid d
  if s.parked then s
  else (List.range (sliceRows (c.viewH v) (c.sliceH v) j)).foldl (fun s r =>
    s.sendPixels d (c.regionY d i + j * c.sliceH v + r) (c.regionX d i) (c.viewW v)) s

/-- The latency of a slice shown as current for the first time (R113). -/
def sliceLatency (s : State) (d i j fine : Nat) : State :=
  let r := s.region d i
  match Tab.find? r.held j with
  | some c =>
    if r.marks.any (fun x => decide (x.m = (s.disp d).m ∧ x.j = j) && x.first) then
      let l := ((s.ctAt s.clock.counter fine - c.exposed) / 65536).toNat
      s.setRegion d i { r with latency := some (max l (r.latency.getD 0)) }
    else s
  | none => s

/-- The last row of slice j leaves (R80, R113): what the slice's rows show, and the latency of a first showing. -/
def sliceEmitted (s : State) (d i j fine : Nat) : State :=
  match (s.laid d).regionView d i with
  | some v => if s.dispState d < 2 then s else (s.sliceLatency d i j fine).sendSlice d i v j
  | none => s

/-- The latency of a region's frame (R113): last, extremes over the flight, the count and event over the bound, the
histogram. -/
def frameLatency (s : State) (d i v : Nat) : State :=
  let r := s.region d i
  let b := regSt d i
  match r.latency with
  | none => s
  | some l =>
    let new := decide (r.flight ≠ s.flight)
    let s := s.put (b + 3) (l : Int)
    let s := s.put (b + 4) (if new then (l : Int) else min (l : Int) (s.int (b + 4)))
    let s := s.put (b + 5) (if new then (l : Int) else max (l : Int) (s.int (b + 5)))
    let s := (s.setRegion d i { r with latency := none, flight := s.flight }).histSample (5 + v) l
    if s.int (streamSt v + 2) < (l : Int) then (s.bump (b + 7)).raise 87 d i l else s

/-- The end of a display frame for a region (R108, R110): an action of class 4 (R288). -/
def regionEnd (s : State) (d i v : Nat) : State :=
  let m := (s.disp d).m
  let r := s.region d i
  let mine := r.marks.filter (fun x => decide (x.m = m))
  let n := (s.laid d).viewSlices v
  let cur := (mine.filter (·.current)).length
  let full := decide (cur = n ∧ 0 < n)
  let cf := if full then r.currentFrames + 1 else 0
  let clear := r.lost && decide (2 ≤ cf)
  let st : Int := if r.lost && !clear then 5 else if !r.shown then 1 else if full then 2 else if 0 < cur then 3 else 4
  let s := s.setRegion d i { r with
    marks := r.marks.filter (fun x => decide (m < x.m)), currentFrames := cf, lost := r.lost && !clear,
    tc := if full then (s.laid d).sliceLast d i v m (n - 1) else r.tc }
  let shown := (mine.map (fun x => be 4 (x.frame.getD 0xFFFFFFFF))).flatten
  let s := ((s.put (regSt d i + 1) st).act 4 ([BitVec.ofNat 8 d, BitVec.ofNat 8 i] ++ be 4 m ++ le 1 st ++ shown)).frameLatency d i v
  if clear then (s.countLost d).raise (81 + d) 0 v i else s

/-- The end of a display frame. -/
def displayFrameEnd (s : State) (d : Nat) : State :=
  if s.dispState d < 2 then s
  else
    let s := ((List.range 6).map (· + 1)).foldl (fun s i =>
      match (s.laid d).regionView d i with | some v => s.regionEnd d i v | none => s) s
    s.setDisp d { s.disp d with hold := (s.disp d).hold - 1 }

/-! ### Boundaries and adoptions (R103, R107, R117, R181) -/

/-- The frame-store bytes of a display's regions, one cell each (R104). -/
def storeBytes (s : State) (d : Nat) : Nat :=
  ((List.range 6).map (fun i => match s.regionView d (i + 1) with
    | some v => sliceBytes (s.viewW v) (s.nat (streamRec v + 3)) (s.viewH v)
    | none => 0)).sum

/-- The store a display uses (R116), and the latency bounds of its regions (R117, R119). -/
def regionFigures (s : State) (d : Nat) : State :=
  let s := s.put (dsiSt d + 6) ((2 * s.storeBytes d : Nat) : Int)
  ((List.range 6).map (· + 1)).foldl (fun s i =>
    match s.regionView d i with | some v => s.put (regSt d i + 6) (s.int (streamSt v + 2)) | none => s) s

/-- A display goes to OFF (R103): its lanes go to LP-11. -/
def displayOff (s : State) (d : Nat) : State :=
  if s.dispState d = 0 then s else (s.put (dsiSt d + 1) 0).emit (.dsi d .stop)

/-- A DSI output as configured (R103): enabled from OFF in power state RUN, when the panel script is sent (R100), or back to
OFF. -/
def applyDisplay (s : State) (d : Nat) : State :=
  if s.flag (dsiRec d + 1) ∧ s.isQuiet = false then
    if s.dispState d = 0 then
      let script := s.bytes (dsiRec d + 0x17)
      let x := s.disp d
      let s := ((s.put (dsiSt d + 1) 1).setDisp d {
        regions := x.regions, keep := x.keep, since := x.since, changed := x.changed }).emit (.dsi d .leave)
      ((panelItems script.length script).foldl (fun s y => s.emit (.dsi d y)) s).layOut d
    else s
  else s.displayOff d

/-- An adoption of another consist's time (R103, R105, R107): displays realign, and what is stored is of before it. -/
def displaysAdopt (s : State) : State :=
  let age (t : Tab Cell) : Tab Cell := t.map (fun p => (p.1, { p.2 with old := true }))
  let s := { s with slices := { s.slices with displays := s.slices.displays.map (fun p => (p.1, { p.2 with
    regions := p.2.regions.map (fun q => (q.1, { q.2 with incoming := age q.2.incoming, held := age q.2.held })) })) } }
  (List.range 2).foldl (fun s d => if s.dispState d = 3 then s.realign d else s) s

end State

/-! ### The commands -/

/-- SLICE_ENCODED. -/
def execSliceEncoded (requester : BitVec 64) (view : Fin 16) (inst : Nat) (s : State) : Res :=
  .next (s.served (·.encoded requester.toNat view inst))

/-- SLICE_FRAGMENT_RECEIVED. -/
def execSliceFragmentReceived (c : Chan) (h : SliceHeader) (data : List Byte) (tagOk : Bool) (s : State) : Res :=
  .next (s.served (·.fragmentIn c h data tagOk))

/-- SLICE_FORWARD. -/
def execSliceForward (n : Fin 8) (s : State) : Res := .next (s.served (·.forwardSlice n))

/-- PANEL_SCRIPT_END. -/
def execPanelScriptEnd (d : Fin 2) (s : State) : Res := .next (s.served (·.panelScriptEnd d))

/-- DISPLAY_FRAME_START. -/
def execDisplayFrameStart (d : Fin 2) (fine : Fin 32) (s : State) : Res := .next (s.served (·.displayFrameStart d fine))

/-- SLICE_CUT_OFF: region `i` counted from 0, slice `j`, display frame `m`. -/
def execSliceCutOff (d : Fin 2) (i : Fin 6) (j m : Nat) (s : State) : Res := .next (s.served (fun s => (s.sliceCutOff d (i + 1) j m).settle))

/-- SLICE_EMITTED. -/
def execSliceEmitted (d : Fin 2) (i : Fin 6) (j : Nat) (fine : Fin 32) (s : State) : Res :=
  .next (s.served (·.sliceEmitted d (i + 1) j fine))

/-- DISPLAY_FRAME_END. -/
def execDisplayFrameEnd (d : Fin 2) (s : State) : Res := .next (s.served (fun s => (s.displayFrameEnd d).settle))

end Sys2Proof.Machine
end

