-- ==== Sys2Proof/Machine/Admission.lean ====
section
/-!
DEFINITION. The latency bound and stream admission (R119 to R130): evaluated on the state as it would stand with the staging
copy applied. Times are exact rationals in ns.
-/

namespace Sys2Proof.Machine

/-- What admission finds of one stream: the result code of R130 and the sub-index of its record at fault, the hops, the
fragments, the demand in 1/100 slot, and a_j and s_j of each slice (R121). -/
structure Adm where
  v : Nat
  code : Nat := 0
  sub : Nat := 0
  hops : Nat := 0
  fragments : Nat := 0
  demand : Nat := 0
  a : List Rat := []
  s : List Rat := []
  bound : Nat := 0
  worst : Nat := 0
  deriving DecidableEq, Repr

/-- A rational rounded up to a natural number. -/
def ceilNat (x : Rat) : Nat := x.ceil.toNat

/-- A rational reduced modulo a positive one. -/
def modRat (x p : Rat) : Rat := if p ≤ 0 then 0 else x - p * (x / p).floor

/-- The largest of a list, with its first place. -/
def largest : List Rat → Nat → Rat × Nat → Rat × Nat
  | [], _, b => b
  | x :: t, i, b => largest t (i + 1) (if b.1 < x then (x, i) else b)

namespace State

/-- The camera period of a stream's envelope, ns. -/
def envPeriod (s : State) (v : Nat) : Rat := (s.nat (streamRec v + 0x16) : Rat) + (s.nat (streamRec v + 0x17) : Rat) / 65536

/-- The declared line time, ns. -/
def envLine (s : State) (v : Nat) : Rat := (s.nat (streamRec v + 0x10) : Rat) / 1000

/-- The rows of the envelope check (R129): the camera's of a local stream; of a cross-node one the view's output height. -/
def envHeight (s : State) (v : Nat) : Nat :=
  match s.viewSelector v with
  | some { object := .cam name, .. } =>
    if s.isLocal v then (match s.slotNamed name with | some n => s.nat (camDef n + 7) | none => s.viewH v) else s.viewH v
  | _ => s.viewH v

/-- v_j of each slice (R121). -/
def smallestRows (s : State) (v : Nat) : List Rat :=
  (List.range (s.viewSlices v)).map (smallestV (s.bytes (viewRec v + 6)) (s.viewW v) (s.viewH v) (s.sliceH v))

/-- The modes of a stream's mask that have a template of the dictionary (R126, R129); M0 is a case of its own. -/
def maskedModes (s : State) (v : Nat) : List Nat :=
  ((List.range 15).map (· + 1)).filter (fun m => (s.nat (streamRec v + 6)).testBit m && decide (s.template m ≠ []))

/-- rho and m of R128: the least step between successive slice tops, at least 1. -/
def slotSteps (s : State) (v : Nat) : Nat :=
  let l := s.smallestRows v
  let h := s.nat (streamRec v + 0x13)
  let d := (l.zip (l.drop 1)).map (fun p => p.2 - p.1)
  let rho := match d with | [] => (h : Rat) | a :: t => max 1 (t.foldl min a)
  ceilNat ((h : Rat) / rho)

/-- Fragments per slice for a fragment size (R128). -/
def fragmentsFor (s : State) (v size : Nat) : Nat :=
  (sliceBytes (s.viewW v) (s.nat (streamRec v + 3)) (s.sliceH v) + 16 + (size - 33)) / (size - 32)

/-- The slot demand of a stream in a passage of p ns with n slots of a size (R128). -/
def slotDemand (s : State) (v p n size : Nat) : Rat :=
  let line := (s.nat (streamRec v + 0x13) : Rat) * s.envLine v
  (s.slotSteps v * s.fragmentsFor v size : Nat) * max (if line = 0 then 0 else (p : Rat) / line) ((n : Rat) / ((n : Rat) - 1))

/-- The group checks of a cross-node stream (R129), with the longest passage of its modes: code and sub-index. `earlier`
are the streams already examined. -/
def groupChecks (s : State) (v : Nat) (earlier : List Nat) : Adm × Nat :=
  let r := streamRec v
  let g := s.nat (r + 1)
  let modes := s.maskedModes v
  let found := modes.filterMap (fun m => (s.groupIn m g).map (fun x => (templatePassage (s.template m), x)))
  let owner (x : Group) : Bool := decide (x.ptype = 5 ∧ x.owner = s.fuses.identity) &&
    decide (found.all (fun y => decide (y.2.stream = x.stream)) = true)
  let p := (found.map (·.1)).foldl max 0
  let f := (found.map (fun x => s.fragmentsFor v x.2.size)).foldl max 0
  let dem := (found.map (fun x => s.slotDemand v x.1 x.2.n x.2.size)).foldl max 0
  let ans (code sub : Nat) : Adm × Nat := ({ v := v, code := code, sub := sub, fragments := f, demand := ceilNat (dem * 100) }, p)
  if g = 0xFF then ans 3 1
  else if found.length ≠ modes.length ∨ (s.nat (r + 6)).testBit 0 = true then ans 4 1
  else if (found.all (fun x => owner x.2)) = false ∨ earlier.any (fun w => decide (s.nat (streamRec w + 1) = g)) = true then ans 5 1
  else if (found.all (fun x => decide (Nat.land x.2.mask (s.nat (r + 5)) = s.nat (r + 5)))) = false then ans 7 5
  else if (found.all (fun x => decide (2 ≤ x.2.n ∧ s.slotDemand v x.1 x.2.n x.2.size ≤ (x.2.n : Rat)))) = false ∨
      s.envLine v = 0 then ans 6 1
  else if 255 < f then ans 8 1
  else ans 0 0

/-- n_h of a cross-node stream (R122). -/
def hopsOf (s : State) (v : Nat) : Nat :=
  match s.viewSelector v with
  | some { vehicle := .self, .. } => 0
  | _ => s.berthsEff - 2

/-- The terms of R120 that are the same for every slice: a_j less u_j. -/
def pathTerms (s : State) (v hops passage : Nat) : Rat :=
  let r := streamRec v
  let line := s.envLine v
  let h := s.nat (r + 0x13)
  let k : Nat := if s.flag (viewRec v + 7) then 2 else 1
  let ing : Rat := (s.nat (r + 0x11) : Rat) / 2 + s.nat (r + 0x12) + 2 * line + 4000
  let asm : Rat := 4000 + (s.sliceH v * s.viewW v * k : Nat) / (3 / 10 : Rat)
  let slot : Rat := if s.isLocal v then 0 else passage
  let hop : Rat := if s.isLocal v then 0 else hops * residence s.rateCode + (hops + 1) * s.nat 0x2E0003
  ing + ((s.nat (viewRec v + 8) + h : Nat) : Rat) * line + asm + 2000 + slot + hop + 2000

/-- A stream examined (R129, first pass): envelope, group, a_j and s_j. -/
def examine (s : State) (v : Nat) (earlier : List Nat) : Adm :=
  let r := streamRec v
  let line := s.envLine v
  let h := s.nat (r + 0x13)
  let tol := s.nat (r + 0x14)
  let c := if s.flag (viewRec v + 7) then 2 else 1
  if s.envPeriod v / 2 < s.nat (r + 0x11) then { v := v, code := 2, sub := 0x11 }
  else if s.envPeriod v < line * s.envHeight v then { v := v, code := 2, sub := 0x10 }
  else
    let g := if s.isLocal v then (({ v := v } : Adm), 0) else s.groupChecks v (earlier.filter (fun w => !(s.isLocal w)))
    if g.1.code ≠ 0 then g.1
    else
      let hops := if s.isLocal v then 0 else s.hopsOf v
      let start : Rat := if s.int (r + 0x15) = 1 then (s.nat (r + 0x11) : Rat) / 2 else 0
      let rows := s.smallestRows v
      let step (x : Rat) : Rat := (h : Rat) * (x / h).floor * line
      let t := s.pathTerms v hops g.2
      { g.1 with
        hops := hops, a := rows.map (fun x => step (x + tol) + start + t),
        s := rows.map (fun x => max 0 (step (x - tol - c))) }

/-- The examination of every stream in order, up to the first that fails. -/
def examineAll (s : State) : List Nat → List Nat → List Adm → List Adm
  | [], _, l => l
  | v :: t, earlier, l =>
    let x := s.examine v earlier
    if x.code ≠ 0 then l ++ [x] else examineAll s t (earlier ++ [v]) (l ++ [x])

/-! ### Scanout alignment and the display phase (R123) -/

/-- The display period and row time, ns. -/
def dispPeriodNs (s : State) (d : Nat) : Rat := (s.dispPeriod d : Rat) / 65536
def rowTimeNs (s : State) (d : Nat) : Rat := s.dispPeriodNs d / (max 1 (s.dispLines d) : Nat)

/-- The camera period is the display period times 1 to 4. -/
def aligned (s : State) (d v : Nat) : Bool :=
  (List.range 4).any (fun n => decide (s.envPeriod v = (n + 1 : Nat) * s.dispPeriodNs d))

/-- The exact alignment of slice j of a stream at top row y for display phase 0, before its reduction. -/
def rawAlign (s : State) (d y : Nat) (x : Adm) (j : Nat) : Rat :=
  (y + j * s.sliceH x.v : Nat) * s.rowTimeNs d - 20000 - s.nat (streamRec x.v + 0x18) - x.a.getD j 0

/-- A_j (R123). -/
def alignOf (s : State) (d y phase : Nat) (x : Adm) (j : Nat) : Rat :=
  if s.aligned d x.v then modRat (phase + s.rawAlign d y x j) (s.dispPeriodNs d) else s.dispPeriodNs d

/-- b_j of each slice at a region of a display (R121). -/
def boundsAt (s : State) (d y phase : Nat) (x : Adm) : List Rat :=
  (List.range x.a.length).map (fun j =>
    x.a.getD j 0 - x.s.getD j 0 + s.alignOf d y phase x j +
      ((sliceRows (s.viewH x.v) (s.sliceH x.v) j : Rat) - 1) * s.rowTimeNs d + 20000)

/-- The streams that feed a display with their top rows. -/
def feeds (s : State) (l : List Adm) (d : Nat) : List (Adm × Nat) :=
  ((List.range 6).map (· + 1)).filterMap (fun i =>
    match s.regionView d i with
    | some v => (l.find? (fun x => decide (x.v = v))).map (fun x => (x, s.regionY d i))
    | none => none)

/-- The phases at which some slice has A_j = 0 (R123), in ns rounded up and reduced. -/
def candidates (s : State) (d : Nat) (f : List (Adm × Nat)) : List Nat :=
  (f.filter (fun p => s.aligned d p.1.v)).flatMap (fun p => (List.range p.1.a.length).map (fun j =>
    let c := ceilNat (modRat (0 - s.rawAlign d p.2 p.1 j) (s.dispPeriodNs d))
    if (c : Rat) < s.dispPeriodNs d then c else 0))

/-- The score of a phase: the largest of B less the requested bound. -/
def phaseScore (s : State) (d : Nat) (f : List (Adm × Nat)) (phase : Nat) : Int :=
  maxOf (-(2 ^ 40)) (f.map (fun p =>
    (((largest (s.boundsAt d p.2 phase p.1) 0 (0, 0)).1.ceil) - s.int (streamRec p.1.v + 4))))

/-- The display phase in force (R123). -/
def choosePhase (s : State) (l : List Adm) (d : Nat) : Nat :=
  let f := s.feeds l d
  let own := s.nat (dsiRec d + 0x16)
  if s.int (0x2E0005 + d) = 0 then own
  else
    let c := s.candidates d f
    match c with
    | [] => own
    | a :: t => (t.foldl (fun (b : Nat × Int) p =>
        let sc := s.phaseScore d f p
        if sc < b.2 ∨ (sc = b.2 ∧ p < b.1) then (p, sc) else b) (a, s.phaseScore d f a)).1

/-- The bound of a stream (R121, R129) at the phases of the displays: the largest over its regions, with its slice. -/
def boundOf (s : State) (ph : Nat → Nat) (x : Adm) : Adm :=
  let shown := (List.range 2).flatMap (fun d => ((List.range 6).map (· + 1)).filterMap (fun i =>
    if s.regionView d i = some x.v then some (s.boundsAt d (s.regionY d i) (ph d) x) else none))
  let per := (List.range x.a.length).map (fun j =>
    if shown = [] then x.a.getD j 0 - x.s.getD j 0 else (shown.map (fun l => l.getD j 0)).foldl max 0)
  let b := largest per 0 (0, 0)
  { x with bound := ceilNat b.1, worst := b.2 }

/-- The streams a configuration admits (R126). -/
def streams (s : State) : List Nat := (List.range 16).filter s.isStream

/-- Admission over a configuration (R129): every stream examined, and the phases. -/
def admission (s : State) : List Adm × (Nat → Nat) :=
  let l := s.examineAll s.streams [] []
  if l.any (fun x => decide (x.code ≠ 0)) then (l, fun d => s.nat (dsiRec d + 0x16))
  else
    let p0 := s.choosePhase l 0
    let p1 := s.choosePhase l 1
    let ph (d : Nat) : Nat := if d = 0 then p0 else p1
    (l.map (fun x =>
      let y := s.boundOf ph x
      if s.int (streamRec x.v + 4) < (y.bound : Int) then { y with code := 1, sub := 4 } else y), ph)

/-- The first stream refused. -/
def firstRefused (l : List Adm) : Option Adm := l.find? (fun x => decide (x.code ≠ 0))

/-- Admission of an applied configuration: the records of R132 and R134. -/
def installAdmission (s : State) : State :=
  let p := s.admission
  let ok := (firstRefused p.1).isNone
  let s := (List.range 16).foldl (fun s v =>
    let b := streamSt v
    let x := (p.1.find? (fun x => decide (x.v = v))).getD { v := v }
    let s := (((((s.put (b + 1) x.code).put (b + 2) x.bound).put (b + 3) x.worst).put (b + 4) x.hops).put (b + 5)
      (min x.demand 65535)).put (b + 6) x.fragments
    s.putBytes (b + 7) (x.a.flatMap (fun a => le 4 (ceilNat a)))) s
  ((((s.put 0x2E0007 (if ok then 0xFF else ((firstRefused p.1).elim 0xFF (·.v) : Nat))).put 0x2E0008
    (if ok then p.1.length else 0 : Nat)).put 0x2E000A (p.2 0)).put 0x2E000B (p.2 1))

end State

end Sys2Proof.Machine
end

