-- ==== Sys2Proof/Machine/Mooring.lean ====
section
/-!
DEFINITION. Mooring (spec/10_mooring.md): votes and consent, the consent token, the way to MOORED, and wake.
-/

namespace Sys2Proof.Machine

namespace State

/-! ### Votes (R259 to R261) -/

/-- A channel with the wake-request role is asserted (R476). -/
def wakeAsked (s : State) : Bool :=
  (List.range 16).any (fun k => decide (s.fioRole k = 4) && s.flag (Od.key (0x3230 + k) 4))

/-- The vote sources active now, by bit (R259). CAN activity is a happening, kept by `held` alone. -/
def voteSources (s : State) : Nat :=
  (if s.mu.cab then 1 else 0) + (if s.wakeAsked then 2 else 0) + (if s.wake.wakeIn then 4 else 0) +
    (if s.flag 0x340201 then 8 else 0) + (if s.muState ≠ 0 then 32 else 0) + (if s.flag 0x340001 then 0 else 64)

/-- The active votes: a vote ends only when its idle delay has expired. -/
def votes (s : State) : Nat := Nat.lor s.mooring.held.toNat s.voteSources

/-- The limited votes (0x3400:04); bits 5 and 6 are ignored. -/
def limited (s : State) : Nat := s.nat 0x340004 % 32

/-- The mooring state (R267): 0 AWAKE, 1 CONSENTING, 2 PREPARING. -/
def mooringState (s : State) : Int := s.int 0x340101

/-- The device consents (R260, R261); for a pair its partner too. -/
def consents (s : State) : Bool :=
  let v := s.votes
  let v := if s.mooring.override then v - Nat.land v s.limited else v
  decide (v = 0) && !(s.pairing && s.mooring.partner)

/-- The votes kept and reported, and AWAKE or CONSENTING as they say (R259, R267). -/
def judgeVotes (s : State) : State :=
  let v := s.votes
  let told := decide ((s.int 0x340102 = 0) ≠ (v = 0))
  let s : State := { s.put 0x340102 v with mooring := { s.mooring with held := BitVec.ofNat 8 v } }
  let s := if told then s.toPartner (.votes (decide (v ≠ 0))) else s
  if s.mooringState = 2 then s else s.put 0x340101 (if s.consents then 1 else 0)

/-- An idle delay has expired: the vote ends if its source is inactive. -/
def voteIdle (s : State) (v : Nat) : State :=
  if s.voteSources.testBit v then s
  else ({ s with mooring := { s.mooring with held := s.mooring.held &&& ~~~ BitVec.ofNat 8 (2 ^ v) } } : State).judgeVotes

/-- The maximum awake time is reached (R261). -/
def awakeExpired (s : State) : State :=
  if Nat.land s.votes s.limited = 0 ∨ s.mooring.override then s
  else
    let s := (s.bump 0x34010B).raise 11 0 0 s.votes
    ({ s with mooring := { s.mooring with override := true } } : State).judgeVotes

/-! ### Wake (R265, R269, R270) -/

/-- A wake source is enabled: 0 WAKE_IN, 1 coupler, 2 CAN, 3 field (0x3400:05). -/
def wakeEnabled (s : State) (bit : Nat) : Bool := (s.nat 0x340005).testBit bit

/-- A late wake is latched in AON and counted (R265). -/
def latchLate (s : State) (detail : Nat) : State :=
  { s.bump 0x34010A with wake := { s.wake with late := some (s.wake.late.getD detail) } }

/-- A wake source becomes active while the device is not MOORED (R265, R272): a vote before token n, a late wake after
it. -/
def sourceActive (s : State) (bit detail : Nat) : State :=
  let s := s.judgeVotes
  if s.wakeEnabled bit = false then s
  else if s.mooringState = 2 then s.latchLate detail
  else if s.mooring.sentBit ∧ s.mooring.late.isNone then { s with mooring := { s.mooring with late := some detail } }
  else s

/-- A wake is accepted: INH and WAKE_OUT go high at once (R270). -/
def acceptWake (s : State) (cause detail : Nat) : State :=
  { s with wake := { s.wake with accepted := some (cause, detail), waiting := none, late := none },
           power := { s.power with inh := true, wakeOut := true } }

/-- A wake source in MOORED (R269): accepted, or held until the dwell ends. With INH high a wake changes nothing
(R272). -/
def wakeSource (s : State) (bit cause detail : Nat) : State :=
  if s.power.phase = .moored ∧ s.power.inh = false ∧ s.power.powerUp = false ∧ s.wakeEnabled bit then
    if s.wake.dwell then { s with wake := { s.wake with waiting := some (s.wake.waiting.getD (cause, detail)) } }
    else s.acceptWake cause detail
  else s

/-- The dwell ends: a late wake, else a source that waits, is acted on (R269). -/
def dwellEnd (s : State) : State :=
  if s.wake.dwell then
    let s := { s with wake := { s.wake with dwell := false } }
    match s.wake.late, s.wake.waiting with
    | some d, _ => s.acceptWake 6 d
    | none, some (c, d) => s.acceptWake c d
    | none, none => s
  else s

/-- The wake goes on (R270): the four wake lines are pulsed, the cause recorded, the wake counted, and the logic die
powered; the power-up wake waits for POR release (R506). -/
def wakeAccepted (s : State) : State :=
  match s.wake.accepted with
  | none => s
  | some (c, d) =>
    let s := (((s.put 0x340106 c).put 0x340107 d).bump 0x340109).storeStored.emit (.wakePulse 15)
    let s := { s with wake := { s.wake with accepted := none }, power := { s.power with wakeOut := true } }
    if s.power.phase = .moored ∧ c ≠ 0 then { s with power := { s.power with phase := .reset, cause := 8 } } else s

/-- WAKE_IN reaches its active level (R269). -/
def wakeIn (s : State) : State :=
  if s.power.phase = .off then s
  else
    let s := { s with wake := { s.wake with wakeIn := true } }
    if s.isReady then s.sourceActive 0 0 else s.wakeSource 0 1 0

/-- A wake-up frame matches a port's record (R275). The data mask is numbered little-endian, byte 0 lowest (DEDUCED). -/
def wufMatches (s : State) (c : Nat) (f : Sys2Proof.CanFrame) : Bool :=
  let b := Od.key (0x3410 + c) 0
  let want := s.nat (b + 2)
  let mask := s.nat (b + 3)
  let dlc := s.nat (b + 4)
  let bits := if want.testBit 31 then 29 else 11
  !f.fd && (CanFrame.ext f == want.testBit 31) &&
  decide (Nat.land (Nat.xor (CanFrame.id f) (want % 2 ^ bits)) (mask % 2 ^ bits) = 0) && decide (f.dlc.val = dlc) &&
  (decide (dlc = 0) || decide (Nat.land (leNat (f.data.take 8)) (s.nat (b + 5)) ≠ 0))

/-! ### The consent token (R262 to R266) -/

/-- PREPARING is entered with an F_m (R267); a source that became active after token n is a late wake (R265). -/
def enterPreparing (s : State) (fm : Nat) (agreed : Bool) : State :=
  if s.mooringState = 2 then s
  else
    let s := ((s.put 0x340101 2).put 0x340105 fm).raise 10 0 0 fm
    let late := s.mooring.late
    let s := { s with mooring := { s.mooring with agreed := agreed, late := none } }
    match late with | some d => s.latchLate d | none => s

/-- The votes judged for a new passage. -/
def takeNew (s : State) : State × Bool :=
  let s := s.judgeVotes
  let b := s.consents
  ({ s with mooring := { s.mooring with
      taken := some (s.flight, s.passage, b), sentBit := b, late := if b then none else s.mooring.late } }, b)

/-- The bit of this passage (R263): taken once, and used on both channels. -/
def takeBit (s : State) : State × Bool :=
  match s.mooring.taken with
  | some (f, n, b) => if f = s.flight ∧ n = s.passage then (s, b) else s.takeNew
  | none => s.takeNew

/-- The own bit of a consent vector: none without a berth. -/
def ownBit (s : State) (b : Bool) : Nat := if b ∧ 1 ≤ s.ownBerth then 2 ^ (s.ownBerth.toNat - 1) else 0

/-- An own CONSENT frame leaves a port in its slot: with a token, or empty (R262, R553). -/
def sendConsent (s : State) (p idx : Nat) (x : Slot) (t : Option Consent) : State :=
  if s.mayCross p true then
    let payload := t.elim [] consentPayload
    let e := s.egressAt s.ownBerth x.start (!(s.leadward p))
    let s := s.sendFrame p (s.headerOf p 9 (some idx) payload.length) e payload
    match t with | some t => s.emit (.consent t) | none => s
  else s

/-- This device is the rear end of a channel: no link carries its tokens farther (R263). -/
def rearEnd (s : State) (c : Nat) : Bool := !(s.linkUpState (s.egressPort c 0) && s.mayCross (s.egressPort c 0) true)

/-- A token kept for its way: rearward in the slot to come, or at the rear end leadward in the next passage (R263). -/
def keepToken (s : State) (c : Nat) (t : Consent) : State :=
  { s with mooring :=
    if s.rearEnd c then { s.mooring with turn := Tab.insert s.mooring.turn c { t with dir := .leadward } }
    else { s.mooring with pass := Tab.insert s.mooring.pass c t } }

/-- The lead judges what came back of a token number (R264). -/
def judgeReturned (s : State) (c : Nat) (t : Consent) : State :=
  let old := if s.mooring.returned.1 = t.token.toNat then s.mooring.returned.2 else (0, 0)
  let v := t.vector.toNat
  let new := if c = 0 then (Nat.lor old.1 v, old.2) else (old.1, Nat.lor old.2 v)
  let all := Nat.lor new.1 new.2
  let s : State := { s.put 0x340103 all with mooring := { s.mooring with returned := (t.token.toNat, new) } }
  let members := s.nat 0x248101
  if Nat.land members all = members ∧ s.muState = 0 ∧ s.int 0x243004 = 0 ∧ s.mooringState ≠ 2 ∧ members ≠ 0 then
    let next := if s.passage = 63 then s.flight + 1 else s.flight
    s.enterPreparing ((next + 3) % 2 ^ 32) true
  else s

/-- A CONSENT frame at a coupler port (R263, R266): a rearward token gets the own bit and is sent on in its slot; a leadward
one is forwarded as the slot frame it came in, and judged at the lead. -/
def consentReceived (s : State) (p : Nat) (t : Consent) : State :=
  if s.linkUpState p = false ∨ s.keyed p = false then s
  else
    let c := chanNo p
    let s := if t.agreed then s.enterPreparing t.flight.toNat true else s
    if s.rearwardIn p then
      let q := s.takeBit
      q.1.keepToken c { t with
        vector := t.vector ||| BitVec.ofNat 64 (q.1.ownBit q.2), override := t.override || (q.2 && q.1.mooring.override) }
    else if s.isLead then s.judgeReturned c t
    else s.put 0x340103 t.vector.toNat

/-- The lead's rearward token of a channel's CONSENT slot (R263, R264). -/
def makeToken (s : State) (c : Nat) : State :=
  let q := s.takeBit
  let s := q.1
  let agreed := decide (s.mooringState = 2) && s.mooring.agreed
  s.keepToken c {
    channel := if c = 0 then .a else .b, dir := .rearward, agreed := agreed, override := q.2 && s.mooring.override,
    token := BitVec.ofNat 16 (64 * s.flight + s.passage), vector := BitVec.ofNat 64 (s.ownBit q.2),
    flight := if agreed then BitVec.ofNat 32 (s.nat 0x340105) else 0 }

/-- The rearward CONSENT slot of a port (R148, R263): the lead's token, the token on its way, or the empty frame. -/
def consentRearward (s : State) (p idx : Nat) (x : Slot) : State :=
  let c := chanNo p
  let s := if s.isLead then s.makeToken c else s
  match Tab.find? s.mooring.pass c with
  | some t => ({ s with mooring := { s.mooring with pass := Tab.erase s.mooring.pass c } } : State).sendConsent p idx x (some t)
  | none => s.sendConsent p idx x none

/-- The rear end's leadward CONSENT slot (R263): the vector received in an earlier passage, or the empty frame. A lead that
is its own rear end judges it. -/
def consentLeadward (s : State) (p idx : Nat) (x : Slot) : State :=
  let c := chanNo p
  match Tab.find? s.mooring.turn c with
  | some t =>
    if t.token = BitVec.ofNat 16 (64 * s.flight + s.passage) then s.sendConsent p idx x none
    else
      let s := { s with mooring := { s.mooring with turn := Tab.erase s.mooring.turn c } }
      if s.isLead then s.judgeReturned c t else (s.put 0x340103 t.vector.toNat).sendConsent p idx x (some t)
  | none => s.sendConsent p idx x none

/-- A coupler PHY reports sleep (R266). Ports that are not enabled have none to report (DEDUCED). -/
def phySlept (s : State) (p : Nat) : State :=
  let m := s.mooring.slept ||| BitVec.ofNat 4 (2 ^ p)
  let s : State := { s with mooring := { s.mooring with slept := m } }
  let all := (List.range 4).all (fun q => !(s.flag (Od.key (0x2410 + q) 1)) || m.getLsbD q)
  if all ∧ s.mooringState ≠ 2 then
    let s := s.judgeVotes
    if s.consents then s.enterPreparing ((s.flight + 2) % 2 ^ 32) false
    else { s.emit (.wakePulse 15) with mooring := { s.mooring with slept := 0 } }
  else s

/-! ### Preparation and entry (R268) -/

/-- Channels that keep driving in MOORED (R467). -/
def mooredOutputs (s : State) : BitVec 16 :=
  (List.range 16).foldl (fun m k =>
    if s.fioMode k = 2 ∧ s.int (Od.key (0x3210 + k) 0x0C) = 1 then m ||| BitVec.ofNat 16 (2 ^ k) else m) 0

/-- Steps 1 and 2: cameras and displays go to OFF, field outputs to their mooring state; stores and records are
written. -/
def prepareMooring (s : State) : State :=
  let s := (List.range 8).foldl (fun s n => s.camOff n) s
  let s := (List.range 2).foldl (fun s d => s.displayOff d) s
  let s := ({ s with fio := { s.fio with preparing := true, moored := s.mooredOutputs } } : State).settle
  let s := (times s.log.queue.length (·.reportWrite) s).histStore.storeStored
  { s with mooring := { s.mooring with stage := 1 } }

/-- Step 3: the MOORED entry record (R484, code 0x0101), and the mooring counted, as no store starts later (DEDUCED,
log 100). -/
def mooringRecord (s : State) : State :=
  let s := ((s.report 0 0x0101 0 0 (s.nat 0x340105)).reportWrite.bump 0x340108).storeStored
  { s with mooring := { s.mooring with stage := 3 } }

/-- Step 4 at F_m: coupler PHYs are asked to sleep over MDIO, star PHYs go to low power, CAN transceivers to standby or
sleep. -/
def mooringEntry (s : State) : State :=
  let s := (List.range 4).foldl (fun s p => s.emit (.phySleep false p)) s
  let s := (List.range 8).foldl (fun s p => s.emit (.phySleep true p)) s
  let s := (List.range 4).foldl (fun s c => s.put (Od.key (0x3314 + c) 1) 0) s
  { s with mooring := { s.mooring with stage := 4 } }

/-- The mooring steps of a flight boundary (R268): flights count modulo 2^32. -/
def mooringBoundary (s : State) : State :=
  if s.mooringState ≠ 2 then s
  else
    let left : Int := signed 32 ((s.nat 0x340105 + 2 ^ 32 - s.flight % 2 ^ 32) % 2 ^ 32)
    let s := if left ≤ 2 ∧ s.mooring.stage < 1 then s.prepareMooring else s
    let s := if left ≤ 1 ∧ s.mooring.stage < 3 then s.mooringRecord else s
    if left ≤ 0 ∧ s.mooring.stage < 4 then s.mooringEntry else s

/-- Steps 5 and 6: INH is driven low, the logic die loses power, and the dwell begins (R268, R269). -/
def powerDown (s : State) : State :=
  let s := s.logicReset 8
  { s with
    power := { s.power with phase := .moored, inh := false, wakeOut := false }
    wake := { s.wake with dwell := true } }

end State

/-! ### The commands -/

/-- CONSENT_RECEIVED. -/
def execConsentReceived (p : Cpl) (t : Consent) (s : State) : Res := .next (s.served (·.consentReceived p.no t))

/-- VOTE_IDLE_EXPIRED. -/
def execVoteIdleExpired (v : Fin 7) (s : State) : Res := .next (s.served (·.voteIdle v))

/-- AWAKE_TIMER_EXPIRED. -/
def execAwakeTimerExpired (s : State) : Res := .next (s.served (·.awakeExpired))

/-- PHY_SLEEP_COMPLETE. -/
def execPhySleepComplete (s : State) : Res :=
  .next (s.served fun s => if s.mooring.stage = 4 then s.powerDown else s)

/-- WAKE_IN_EDGE. -/
def execWakeInEdge (s : State) : Res := .next s.wakeIn

/-- WAKE_IN_INACTIVE. -/
def execWakeInInactive (s : State) : Res := .next { s with wake := { s.wake with wakeIn := false } }

/-- REMOTE_WAKE. -/
def execRemoteWake (p : Cpl) (s : State) : Res := .next (s.wakeSource 1 2 p.no)

/-- CAN_WUP: on a port in mode 1. -/
def execCanWup (c : Fin 4) (s : State) : Res :=
  .next (if s.int (Od.key (0x3410 + c) 1) = 1 then s.wakeSource 2 3 c else s)

/-- CAN_WUF: on a port in mode 2, where the frame matches. -/
def execCanWuf (c : Fin 4) (f : Sys2Proof.CanFrame) (s : State) : Res :=
  .next (if s.int (Od.key (0x3410 + c) 1) = 2 ∧ s.wufMatches c f then s.wakeSource 2 4 c else s)

/-- FIELD_WAKE_REQUEST: on a channel with the wake-request role. -/
def execFieldWakeRequest (k : Fin 16) (s : State) : Res :=
  .next (if s.fioRole k = 4 then s.wakeSource 3 5 (k + 1) else s)

/-- WAKE_DWELL_END. -/
def execWakeDwellEnd (s : State) : Res := .next s.dwellEnd

/-- WAKE_ACCEPTED. -/
def execWakeAccepted (s : State) : Res := .next s.wakeAccepted

/-- WAKE_PROBE: a DOWN port of a RUNNING device, with the wake probe on (R271). -/
def execWakeProbe (p : Cpl) (s : State) : Res :=
  .next (s.served fun s =>
    if s.isRunning ∧ s.linkState p.no = 1 ∧ s.flag 0x340007 then s.emit (.wakePulse (2 ^ p.no)) else s)

/-- COUPLER_PHY_SLEEP. -/
def execCouplerPhySleep (p : Cpl) (s : State) : Res := .next (s.served (·.phySlept p.no))

end Sys2Proof.Machine
end

