-- ==== Sys2Proof/Machine/Can.lean ====
section
/-!
DEFINITION. CAN FD controllers, bit-rate detection, tunnels, and the CANopen services of CAN0 but for its PDOs
(spec/17_can_fd.md).
-/

namespace Sys2Proof.Machine

/-- The records of controller c: configuration, status, counters, detection; of a buffer, an object, a route. -/
def canCfg (c : Nat) : Nat := Od.key (0x3310 + c) 0
def canSt (c : Nat) : Nat := Od.key (0x3314 + c) 0
def canCnt (c : Nat) : Nat := Od.key (0x3318 + c) 0
def canDet (c : Nat) : Nat := Od.key (0x331C + c) 0
def bufRec (c b : Nat) : Nat := Od.key (0x3320 + 3 * c + b) 0
def objRec (c o : Nat) : Nat := Od.key (0x3340 + 24 * c + o) 0
def routeRec (t : Nat) : Nat := Od.key (0x33A0 + t) 0

namespace State

/-- The state of a controller (0x3314 + c:01). -/
def canState (s : State) (c : Nat) : Int := s.int (canSt c + 1)

/-! ### Bit timing (R439, R446) -/

/-- The smallest prescaler that gives a rate at most `limit` quanta a bit. -/
def detPrescaler (rate limit : Nat) : Nat := max ((80000000 + rate * limit - 1) / (rate * limit)) 1

/-- The timing of a candidate's phase (R446), with the second segment as a function of the quanta. A half is rounded up,
and the data phase takes its second segment as its jump width as the nominal phase does (DESIGN CHOICE, log 94). -/
def derivedTiming (rate limit : Nat) (segment : Nat → Nat) : BitTiming :=
  if rate = 0 then {}
  else
    let p := detPrescaler rate limit
    let q := 80000000 / (p * rate)
    { prescaler := p, tseg1 := q - 1 - segment q, tseg2 := segment q, sjw := segment q }

/-- The timing of a candidate: round(0.2 x quanta) of at most 160, round(0.25 x quanta) of at most 40. -/
def candidateTiming (r : Nat × Nat) : CanTiming :=
  { nominal := derivedTiming r.1 160 (fun q => (2 * q + 5) / 10), data := derivedTiming r.2 40 (fun q => (q + 2) / 4) }

/-- The committed timing of a port (0x3310 + c:03 to :0A). -/
def setTiming (s : State) (c : Nat) : CanTiming :=
  let at_ (i : Nat) : BitTiming := { prescaler := s.nat (canCfg c + i), tseg1 := s.nat (canCfg c + i + 1),
                                     tseg2 := s.nat (canCfg c + i + 2), sjw := s.nat (canCfg c + i + 3) }
  { nominal := at_ 3, data := at_ 7 }

/-- A timing comes into force: at once, or at the next bus idle while a frame is on the bus (R457). -/
def takeTiming (s : State) (c : Nat) (t : CanTiming) : State :=
  let x := s.canPort c
  s.setCan c (if x.onBus.isSome then { x with timingNext := some t } else { x with timing := t, timingNext := none })

/-- The bus is idle: nothing of this port is on it, and a waiting timing comes into force (R457). -/
def canIdle (s : State) (c : Nat) : State :=
  let x := s.canPort c
  s.setCan c { x with onBus := none, timing := x.timingNext.getD x.timing, timingNext := none }

/-! ### Bit-rate detection (R446) -/

/-- The candidates of a port: nominal and data rate. -/
def bitRates (s : State) (c : Nat) : List (Nat × Nat) :=
  let l := s.bytes (canDet c + 1)
  (List.range (l.length / 8)).map (fun i => (field l (8 * i) 4, field l (8 * i + 4) 4))

/-- No candidate survives, or the timeout passed: the controller stays in listen-only. -/
def detectFails (s : State) (c : Nat) : State :=
  ((s.put (canDet c + 3) 4).put (canSt c + 1) 4).setCan c { s.canPort c with detect := {} }

/-- Step 1, with the candidates that are left. -/
def measureFrom (s : State) (c : Nat) (l : List Nat) : State :=
  if l = [] then s.detectFails c
  else ((s.put (canDet c + 3) 1).put (canSt c + 1) 5).setCan c { s.canPort c with detect := { alive := l } }

/-- Detection starts, or starts anew. -/
def startDetection (s : State) (c : Nat) : State :=
  let s := ((s.put (canDet c + 4) 0xFF).put (canDet c + 5) 0).put (canDet c + 6) 0
  let s := s.setCan c { s.canPort c with rates := none }
  s.measureFrom c (List.range (s.bitRates c).length)

/-- A distance in 80 MHz cycles lies within 3 % of 1 to 10 bit times of a nominal rate. -/
def edgeFits (rate cycles : Nat) : Bool :=
  (List.range 10).any (fun i =>
    let whole : Int := ((i + 1) * 80000000 : Nat)
    decide (100 * (((cycles * rate : Nat) : Int) - whole).natAbs ≤ 3 * whole.natAbs))

/-- An edge at a distance from the one before (steps 1 and 2). -/
def detectionEdge (s : State) (c cycles : Nat) : State :=
  if s.int (canDet c + 3) ≠ 1 then s
  else
    let d := (s.canPort c).detect
    let l := s.bitRates c
    let alive := d.alive.filter (fun i => edgeFits (l.getD i (0, 0)).1 cycles)
    match alive with
    | [] => s.detectFails c
    | i :: _ =>
      if 31 ≤ d.edges then
        ((s.put (canDet c + 3) 2).setCan c { s.canPort c with detect := { alive := alive, edges := 32, trial := some i } }).takeTiming
          c (candidateTiming (l.getD i (0, 0)))
      else s.setCan c { s.canPort c with detect := { d with alive := alive, edges := d.edges + 1 } }

/-- The mode that follows a lock, and the state of a mode without detection (R440): listen-only, else error active. -/
def modeState (s : State) (c : Nat) : Int :=
  let m := s.int (canCfg c + 1)
  if m = 0 then 0 else if m = 2 ∨ m = 4 then 4 else 1

/-- A frame without error on trial: the second in a row locks the candidate (step 3). -/
def trialGood (s : State) (c : Nat) : State :=
  let d := (s.canPort c).detect
  match d.trial with
  | none => s
  | some i =>
    if d.good = 0 then s.setCan c { s.canPort c with detect := { d with good := 1 } }
    else
      let r := (s.bitRates c).getD i (0, 0)
      let s := ((((s.put (canDet c + 3) 3).put (canDet c + 4) i).put (canDet c + 5) r.1).put (canDet c + 6) r.2).put
        (canSt c + 1) (s.modeState c)
      let s := s.setCan c { s.canPort c with detect := {}, rates := some r }
      (s.raise (176 + c) i c r.1).canPump c

/-- An error on trial drops the candidate (step 4). -/
def trialBad (s : State) (c : Nat) : State :=
  let d := (s.canPort c).detect
  match d.trial with
  | none => s
  | some i => s.measureFrom c (d.alive.filter (fun j => j ≠ i))

/-- A controller takes its configuration (R440): from off, listen-only or detection into its mode; detection starts
where `fresh` says that its mode was set, and starts anew where it runs (R446). -/
def applyCan (s : State) (c : Nat) (fresh : Bool) : State :=
  let m := s.int (canCfg c + 1)
  let st := s.canState c
  if m = 3 ∨ m = 4 then (if fresh ∨ st = 5 then s.startDetection c else s)
  else
    let s := if fresh then s.setCan c { s.canPort c with detect := {}, rates := none } else s
    let s := if fresh then s.put (canDet c + 3) 0 else s
    let s := s.takeTiming c (s.setTiming c)
    if m = 0 then (s.put (canSt c + 1) 0).canIdle c
    else if m = 2 then s.put (canSt c + 1) 4
    else if st = 1 ∨ st = 2 ∨ st = 3 then s
    else (((s.put (canSt c + 1) 1).put (canSt c + 2) 0).put (canSt c + 3) 0).canPump c

/-! ### Transmit (R441, R442) -/

/-- A buffer ends in a state: 2 sent, 3 aborted, 4 failed. -/
def bufEnds (s : State) (c b : Nat) (state : Int) : State :=
  let x := s.canPort c
  (s.put (bufRec c b + 6) state).setCan c { x with
    abort := x.abort &&& ~~~ BitVec.ofNat 3 (2 ^ b), onBus := if x.onBus = some b then none else x.onBus }

/-- A buffer is requested. -/
def txRequest (s : State) (c b : Nat) : State × Nat :=
  if s.requested c b then (s, 0x0C) else (((s.canAct c (s.bufFrame c b)).put (bufRec c b + 6) 1).canPump c, 0)

/-- A buffer is aborted: at once if its frame has not begun, else at the next loss or error. -/
def txAbort (s : State) (c b : Nat) : State :=
  let x := s.canPort c
  if s.requested c b = false then s
  else if x.onBus = some b then s.setCan c { x with abort := x.abort ||| BitVec.ofNat 3 (2 ^ b) }
  else s.bufEnds c b 3

/-- The error counters after a success: error active again where both have come to 127 (R447, ISO 11898-1). -/
def fallActive (s : State) (c : Nat) : State :=
  if s.canState c = 2 ∧ s.int (canSt c + 2) ≤ 127 ∧ s.int (canSt c + 3) ≤ 127 then s.put (canSt c + 1) 1 else s

/-- Transmitter delay compensation in the data phase (R439): with the data prescaler 1 or 2 a frame that switches its
rate measures the loop's delay, which the spec gives no value of (a free value). -/
def measureDelay (s : State) (c : Nat) (f : Sys2Proof.CanFrame) : State :=
  let p := (s.canPort c).timing.data.prescaler
  if f.fd ∧ f.brs ∧ (p = 1 ∨ p = 2) then (s.put (canSt c + 7) (s.freeNat % 256 : Nat)).tookFree else s

/-- The frame on the bus completes; its start of frame lay `ago` ticks back. -/
def txComplete (s : State) (c ago : Nat) : State :=
  let x := s.canPort c
  match x.onBus with
  | none => s
  | some n =>
    match s.busFrame c n with
    | none => s.canIdle c
    | some f =>
      let s := (((s.emit (.can c f)).bump (canCnt c + 2)).bump 0x330003).measureDelay c f
      let s := (s.put (canSt c + 2) (max 0 (s.int (canSt c + 2) - 1))).fallActive c
      let s := if n < 3 then
          ((s.put (bufRec c n + 7) (s.ct32At (s.clock.counter - ago) 0)).bufEnds c n 2).raise (172 + c) n c f.ident.toNat
        else s.setCan c { s.canPort c with service := (s.canPort c).service.drop 1, onBus := none }
      ((s.canIdle c).canPump c).emcyScan

/-- The frame on the bus was lost, to another or to an error: an abort or single-shot ends its buffer, else it is
retried. -/
def txLost (s : State) (c : Nat) : State :=
  let x := s.canPort c
  match x.onBus with
  | none => s
  | some n =>
    let s := s.canIdle c
    let s := if n < 3 then
        (if x.abort.getLsbD n then s.bufEnds c n 3 else if s.flag (bufRec c n + 8) then s.bufEnds c n 4 else s)
      else s
    s.canPump c

/-- Arbitration is lost (R441). -/
def arbitrationLost (s : State) (c : Nat) : State :=
  if (s.canPort c).onBus.isSome then (s.bump (canCnt c + 6)).txLost c else s

/-! ### NMT and the communication error behaviour (R448, R449, R451) -/

/-- The entries of the SDO transfers in progress on CAN0 (R348, R357). -/
def sdoOpen (s : State) : List Nat :=
  (s.dict.segWrites.filter (fun x => decide (x.writer.path = .can))).map (·.key) ++
    (s.dict.snapshots.filter (fun x => decide (x.writer.path = .can))).map (·.key)

/-- The SDO transfer in progress is aborted with a code (R357, R449): the abort message names its entry; the entry of a
transfer that keeps no state here is a free value. -/
def sdoAbort (s : State) (code : Nat) : State :=
  let mux := match s.sdoOpen with | k :: _ => le 2 (Od.indexOf k) ++ le 1 (Od.subOf k) | [] => Config.freeBytes s.free 3
  let other (w : Writer) : Bool := decide (w.path ≠ .can)
  let s := { s.tookFree with dict := { s.dict with
    segWrites := s.dict.segWrites.filter (fun x => other x.writer), snapshots := s.dict.snapshots.filter (fun x => other x.writer) } }
  if s.canOpenSends then (s.queueFrame 0 (profileFrame (s.nat 0x120002) ([0x80] ++ mux ++ le 4 code))).1 else s

/-- The NMT state changes: source 181; a transfer in progress on CAN0 that the new state does not allow is aborted with
0x08000022. -/
def nmtTo (s : State) (v : Int) : State :=
  if s.int 0x330103 = v then s
  else
    let s := if (v = 4 ∨ v = 0) ∧ s.sdoOpen ≠ [] then s.sdoAbort 0x08000022 else s
    (s.put 0x330103 v).raise 181 v.toNat 0 0

/-- What bus-off and a lost heartbeat lead to (0x1029:01). -/
def commError (s : State) : State :=
  let b := s.int 0x102901
  if b = 0 then (if s.int 0x330103 = 5 then s.nmtTo 127 else s) else if b = 2 then s.nmtTo 4 else s

/-- Heartbeat consumers start: 1 waiting where the entry is enabled (R451). -/
def startConsumers (s : State) : State :=
  (List.range 4).foldl (fun s i =>
    let e := s.nat (Od.key 0x1016 (i + 1))
    s.put (Od.key 0x3302 (i + 1)) (if e / 65536 % 256 ≠ 0 ∧ e % 65536 ≠ 0 then 1 else 0)) s

/-- The boot-up of the node (R448): the message, then pre-operational or operational. -/
def bootUp (s : State) : State :=
  let s := s.startConsumers
  let s := { s with canopen := { s.canopen with rpdo := [], timing := 0, tpdo := [], syncCounter := 0 } }
  let s := if s.canOpenSends then ((s.queueFrame 0 (profileFrame (0x700 + s.canopen.nodeId) [0])).1).bump 0x330104 else s
  s.nmtTo (if s.int 0x330102 = 1 then 5 else 127)

/-- Reset communication (R448, R449): the node-ID as committed, and the boot-up. The entries of the profile hold their
applied values. -/
def resetCommunication (s : State) : State :=
  let s := s.nmtTo 0
  let s := { s with canopen := { s.canopen with nodeId := s.nat 0x330101, waiting := [], inhibited := false } }
  s.bootUp

/-- Reset node: as reset communication, and 0x1003 is empty. -/
def resetNode (s : State) : State :=
  let s := (List.range 9).foldl (fun s i => s.put (Od.key 0x1003 i) 0) s
  s.resetCommunication

/-- An NMT command addressed to this node or to 0 (R449). -/
def nmt (s : State) (cmd node : Nat) : State :=
  if node ≠ 0 ∧ node ≠ s.canopen.nodeId then s
  else if s.int 0x330103 = 0 then s
  else if cmd = 1 then s.nmtTo 5
  else if cmd = 2 then s.nmtTo 4
  else if cmd = 0x80 then s.nmtTo 127
  else if cmd = 0x81 then s.resetNode
  else if cmd = 0x82 then s.resetCommunication
  else s

/-- A heartbeat of a node (R451). -/
def heartbeat (s : State) (node : Nat) : State :=
  ((List.range 4).foldl (fun s i =>
    let e := s.nat (Od.key 0x1016 (i + 1))
    if e / 65536 % 256 = node ∧ node ≠ 0 ∧ e % 65536 ≠ 0 then s.put (Od.key 0x3302 (i + 1)) 2 else s) s).emcyScan

/-- A consumed heartbeat has not followed in time (R451). -/
def heartbeatLost (s : State) (i : Nat) : State :=
  if s.int (Od.key 0x3302 (i + 1)) ≠ 2 then s
  else
    let again := s.heartLost
    let s := ((s.put (Od.key 0x3302 (i + 1)) 3).bump 0x330205).raise 180 0 (i + 1) (s.nat (Od.key 0x1016 (i + 1)) / 65536 % 256)
    let s := if again then s.emcy 0x8130 180 else s
    s.emcyScan.commError

/-- The producer heartbeat (R451). -/
def produceHeartbeat (s : State) : State :=
  if s.int 0x101700 = 0 ∨ s.int 0x330103 = 0 ∨ s.canOpenSends = false then s
  else (s.queueFrame 0 (profileFrame (0x700 + s.canopen.nodeId) (le 1 (s.int 0x330103)))).1

/-- The inhibit time has passed (R453). -/
def emcyNext (s : State) : State :=
  let s := { s with canopen := { s.canopen with inhibited := false } }
  match s.canopen.waiting with
  | [] => s
  | f :: t => ({ s with canopen := { s.canopen with waiting := t } } : State).emcyOut f

/-- NT passes a whole second (R378): the TIME frame. -/
def produceTime (s : State) : State :=
  let cob := s.nat 0x101200
  let sec := s.ntNow / 65536 / 1000000000
  let days := sec / 86400 - 5113
  if cob.testBit 30 ∧ s.ntValid ∧ 0 ≤ days ∧ days ≤ 65535 ∧ (s.int 0x330103 = 5 ∨ s.int 0x330103 = 127) ∧ s.canOpenSends then
    (s.queueFrame 0 (profileFrame (cob % 2 ^ 30) (le 4 (sec % 86400 * 1000) ++ le 2 days))).1
  else s

/-! ### Errors (R447) -/

/-- An error counter raised: error passive above 127, bus-off above 255 (ISO 11898-1). -/
def raiseErrors (s : State) (c : Nat) (tx : Bool) : State :=
  let tec := s.int (canSt c + 2) + (if tx then 8 else 0)
  let rx := s.int (canSt c + 3) + (if tx then 0 else 1)
  let s := (s.put (canSt c + 2) (min tec 255)).put (canSt c + 3) (min rx 255)
  if 255 < tec then
    let s := ((s.put (canSt c + 1) 3).bump (canCnt c + 5)).raise (164 + c) 3 c 0
    if c = 0 then s.commError else s
  else if s.canState c = 1 ∧ (127 < tec ∨ 127 < rx) then
    ((s.put (canSt c + 1) 2).bump (canCnt c + 4)).raise (160 + c) 2 c 0
  else s

/-- A bus error (R446, R447): its code by phase; on trial the candidate is dropped; in listen-only no error frame
leaves. -/
def busError (s : State) (c : Nat) (tx : Bool) (kind : Nat) (dataPhase : Bool) : State :=
  let st := s.canState c
  if st = 0 ∨ st = 3 then s
  else
    let s := s.put (canSt c + (if dataPhase then 5 else 4)) kind
    if st = 5 then (if s.int (canDet c + 3) = 2 then s.trialBad c else s)
    else if st = 4 then s
    else
      let s := (s.bump (canCnt c + 3)).raiseErrors c tx
      (if tx then s.txLost c else s).emcyScan

/-- Recovery is requested (R447); while not bus-off it is ignored (R457). -/
def recoveryRequest (s : State) (c : Nat) : State :=
  if s.canState c = 3 then s.setCan c { s.canPort c with recovering := true } else s

/-- 128 occurrences of 11 recessive bits have passed (R447). -/
def busOffRecovered (s : State) (c : Nat) : State :=
  if s.canState c = 3 ∧ (s.flag (canCfg c + 0x0D) ∨ (s.canPort c).recovering) then
    let s := ((s.put (canSt c + 1) 1).put (canSt c + 2) 0).put (canSt c + 3) 0
    let s := s.setCan c { s.canPort c with recovering := false, onBus := none }
    let s := if c = 0 then s.emcyScan.emcy 0x8140 164 else s
    s.canPump c
  else s

/-! ### Receive (R443, R444) -/

/-- A frame is of a format an object accepts: base or extended, and Classical or FD. -/
def formatOk (formats : Nat) (f : Sys2Proof.CanFrame) : Bool :=
  formats.testBit (if CanFrame.ext f then 1 else 0) && formats.testBit (if f.fd then 3 else 2)

/-- A frame matches an object (R443). -/
def objMatches (s : State) (c : Nat) (f : Sys2Proof.CanFrame) (o : Nat) : Bool :=
  let b := objRec c o
  formatOk (s.nat (b + 3)) f &&
    decide (Nat.land (Nat.xor (CanFrame.id f) (s.nat (b + 1) % 2 ^ 29)) (s.nat (b + 2) % 2 ^ 29) = 0)

/-- An object takes a frame: it is full, and raises its event (R444). -/
def fillObject (s : State) (c o : Nat) (x : RxFrame) (state : Int) : State :=
  let b := objRec c o
  let f := x.frame
  let flags : Int := (if f.fd then 1 else 0) + (if f.brs then 2 else 0) + (if f.esi then 4 else 0) +
    (if x.tunnelled then 8 else 0) + (if f.remote then 16 else 0)
  let data := f.data.take 64
  let s := ((((((s.put (b + 5) state).put (b + 6) f.ident.toNat).put (b + 7) flags).put (b + 8) f.dlc.val).putBytes (b + 9)
    (data ++ List.replicate (64 - data.length) 0)).put (b + 0x0A) x.stamp)
  if s.flag (b + 4) then s.raise (168 + c) 0 c o else s

/-- A frame offered to the objects of a port (R443, R444). -/
def offerObjects (s : State) (c : Nat) (x : RxFrame) : State :=
  match (List.range 24).find? (s.objMatches c x.frame) with
  | none => s.bump (canCnt c + 8)
  | some o =>
    let b := objRec c o
    let st := s.int (b + 5)
    if st = 0 then s.fillObject c o x 1
    else
      let s := if st = 2 then (s.bump (b + 0x0C)).bump (canCnt c + 7) else s
      (s.put (b + 5) 2).setCan c { s.canPort c with shadow := Tab.insert (s.canPort c).shadow o x }

/-- The held frame is released; a shadow moves in (R444). -/
def rxRelease (s : State) (c o : Nat) : State :=
  let b := objRec c o
  match Tab.find? (s.canPort c).shadow o with
  | some x => (s.setCan c { s.canPort c with shadow := Tab.erase (s.canPort c).shadow o }).fillObject c o x 1
  | none => s.put (b + 5) 0

/-- The group of a route is a CAN_TUNNEL group of the active mode (R454). -/
def groupActive (s : State) (g : Nat) : Bool := (groupsOf (s.template s.mode)).any (fun x => decide (x.num = g ∧ x.ptype = 7))

/-- A record goes in by its stamp (R455). -/
def insertIngress (e : Ingress) : List Ingress → List Ingress
  | [] => [e]
  | h :: t => if e.at_ < h.at_ then e :: h :: t else h :: insertIngress e t

/-- An ingress route takes a frame (R454, R455): into the queue of 256, or dropped and counted. -/
def ingressRoute (s : State) (c : Nat) (f : Sys2Proof.CanFrame) (stamp : Int) (t : Nat) : State :=
  let b := routeRec t
  let bits := if (s.nat (b + 4)).testBit 31 then 29 else 11
  if s.flag (b + 1) ∧ s.int (b + 2) = 1 ∧ s.int (b + 3) = c ∧ (CanFrame.ext f == (s.nat (b + 4)).testBit 31) ∧
      Nat.land (Nat.xor (CanFrame.id f) (s.nat (b + 4) % 2 ^ bits)) (s.nat (b + 5) % 2 ^ bits) = 0 then
    let g := s.nat (b + 6)
    if s.groupActive g = false ∨ 256 ≤ s.canopen.ingress.length then s.bump (b + 0x0B)
    else
      let what : TunnelRecord := {
        stamp := BitVec.ofInt 32 (if s.ctValid then stamp / 65536 else 0), port := s.nat (b + 0x0D), frame := f }
      { s with canopen := { s.canopen with
          ingress := insertIngress { route := t, group := g, what := what, at_ := stamp } s.canopen.ingress } }
  else s

/-- The instant up to which frames of a camera no longer take an input (R73): now, and in a pair that acts on the motor's
copy 20 us after its stamp (R284). -/
def inputInstant (s : State) (stamp : Int) : Int := if s.pair.acting then stamp + 20000 * 65536 else s.ctNow

/-- A frame offered to the objects and the readers of a port (R443, R445): pan, tunnel ingress, the activity vote. -/
def offerFrame (s : State) (c : Nat) (f : Sys2Proof.CanFrame) (stamp : Int) (tunnelled ingress : Bool) : State :=
  let x : RxFrame := { frame := f, stamp := (if s.ctValid then stamp / 65536 % 2 ^ 32 else 0).toNat, tunnelled := tunnelled }
  let s := (s.offerObjects c x).panFrame c f.ident.toNat f.data (s.inputInstant stamp)
  let s := if ingress ∧ 1 ≤ c ∧ f.remote = false then (List.range 64).foldl (fun s t => s.ingressRoute c f stamp t) s else s
  if s.flag (Od.key (0x3410 + c) 6) then
    ({ s with mooring := { s.mooring with held := s.mooring.held ||| 16 } } : State).sourceActive 2 c
  else s

/-- A parked unit sees one of its own queued frames completed on the bus by the motor (R296, R297). -/
def seenOnBus (s : State) (c : Nat) (f : Sys2Proof.CanFrame) : State :=
  let x := s.canPort c
  if s.parked = false then s
  else if x.service.any (fun g => decide (g = f)) then s.setCan c { x with service := x.service.erase f }
  else match (s.competing c).find? (fun b => decide (s.bufFrame c b = f)) with
    | some b => (s.put (bufRec c b + 7) s.ct32).bufEnds c b 2
    | none => s

/-- A frame received on a port (R444 to R447): counted and offered. -/
def canReceived (s : State) (c : Nat) (f : Sys2Proof.CanFrame) (stamp : Int) : State :=
  let st := s.canState c
  if st = 0 ∨ st = 3 ∨ s.canAsleep = true ∨ (st = 5 ∧ s.int (canDet c + 3) ≠ 2) then s
  else
    let s := (s.bump (canCnt c + 1)).bump 0x330002
    let s := if st = 5 then s.trialGood c else s
    let rx := s.int (canSt c + 3)
    let s := if rx ≤ 127 then s.put (canSt c + 3) (max 0 (rx - 1))
      else (s.put (canSt c + 3) (119 + s.freeNat % 9 : Nat)).tookFree
    ((s.fallActive c).seenOnBus c f).offerFrame c f stamp false true |>.emcyScan

/-! ### Tunnel egress (R454 to R456) -/

/-- A stamp of 32 bits in ns extended to full CT near an instant (R200), in 1/65536 ns. -/
def extendStamp (now : Int) (stamp : Nat) : Int :=
  let ns := now / 65536
  (ns + signed 32 (((stamp : Int) - ns) % 2 ^ 32).toNat) * 65536

/-- The sender is one the far-end selector resolves to; an empty selector takes any (R454). A selector that matches both
positions of a vehicle stands for the one nearest the lead, as R21 has it for a selector that names one source (DESIGN
CHOICE, log 93). -/
def senderTaken (s : State) (t sender : Nat) : Bool :=
  let sel := s.bytes (routeRec t + 7)
  decide (sel = []) || (match parseSelector sel with
    | some x => (resolve s.mu.roster s.listedAs x).any (fun b => decide (b.identity.toNat = sender))
    | none => false)

/-- A record leaves a route (R456): sent in mode 0, and delivered locally as received on the port at this instant. -/
def releaseRecord (s : State) (e : Egress) : State :=
  let b := routeRec e.route
  let c := s.nat (b + 3)
  if s.int (b + 8) = 0 then
    let q := s.queueFrame c e.what.frame
    if q.2 then q.1.bump (b + 0x0B) else (q.1.bump (b + 0x0A)).offerFrame c e.what.frame q.1.ctNow true false
  else (s.bump (b + 0x0A)).offerFrame c e.what.frame s.ctNow true true

/-- A record goes in by its release instant; of one sender records keep their stamp order. -/
def insertEgress (e : Egress) : List Egress → List Egress
  | [] => [e]
  | h :: t => if e.at_ < h.at_ then e :: h :: t else h :: insertEgress e t

/-- An egress route takes a record of its group that names its port (R454, R456): a late one is released at once. -/
def egressRoute (s : State) (group sender : Nat) (x : TunnelRecord) (t : Nat) : State :=
  let b := routeRec t
  if s.flag (b + 1) ∧ s.int (b + 2) = 2 ∧ s.int (b + 6) = group ∧ s.int (b + 3) = x.port ∧ s.senderTaken t sender then
    let now := s.ctNow
    let at_ := extendStamp now x.stamp.toNat + s.int (b + 9) * 1000 * 65536
    let e : Egress := { route := t, sender := sender, at_ := at_, what := x }
    if at_ < now then (s.bump (b + 0x0C)).releaseRecord e
    else { s with canopen := { s.canopen with egress := insertEgress e s.canopen.egress } }
  else s

/-- The records of a CAN_TUNNEL slot frame. -/
def tunnelFrame (s : State) (group sender : Nat) (l : List TunnelRecord) : State :=
  l.foldl (fun s x => (List.range 64).foldl (fun s t => s.egressRoute group sender x t) s) s

/-- The release instant of the first record that waits. -/
def tunnelRelease (s : State) : State :=
  match s.canopen.egress with
  | [] => s
  | e :: t =>
    if e.at_ ≤ s.ctNow then ({ s with canopen := { s.canopen with egress := t } } : State).releaseRecord e else s

/-- The bytes a record takes in a CAN_TUNNEL payload (R455). -/
def recordBytes (f : Sys2Proof.CanFrame) : Nat := 12 + (f.data.length + 3) / 4 * 4

/-- The oldest queued records of a group that fit a slot, and what stays (R455). -/
def packRecords (g : Nat) : Nat → Nat → List Ingress → List Ingress × List Ingress
  | _, _, [] => ([], [])
  | room, n, x :: t =>
    if x.group = g ∧ recordBytes x.what.frame ≤ room ∧ n < 255 then
      let p := packRecords g (room - recordBytes x.what.frame) (n + 1) t
      (x :: p.1, p.2)
    else if x.group = g then ([], x :: t)
    else
      let p := packRecords g room n t
      (p.1, x :: p.2)

/-- The records of a group leave in a slot of a size (R455): counted at their routes. The records and the payload bytes,
none where nothing waits. -/
def sendRecords (s : State) (g size : Nat) : State × List TunnelRecord × Nat :=
  let p := packRecords g (size - 4) 0 s.canopen.ingress
  let s := { s with canopen := { s.canopen with ingress := p.2 } }
  let s := p.1.foldl (fun s x => s.bump (routeRec x.route + 0x0A)) s
  (s, p.1.map (·.what), if p.1 = [] then 0 else max 64 (4 + (p.1.map (fun x => recordBytes x.what.frame)).sum))

end State

/-! ### The commands -/

/-- TX_REQUEST. -/
def execTxRequest (w : Writer) (c : Fin 4) (b : Fin 3) (s : State) : Res :=
  .next (s.served fun s => s.accessAct w (bufRec c b + 5) [1] fun s => s.txRequest c b)

/-- TX_ABORT. -/
def execTxAbort (w : Writer) (c : Fin 4) (b : Fin 3) (s : State) : Res :=
  .next (s.served fun s => s.accessAct w (bufRec c b + 5) [2] fun s => (s.txAbort c b, 0))

/-- CAN_TX_COMPLETE. -/
def execCanTxComplete (c : Fin 4) (ago : Nat) (s : State) : Res := .next (s.served (·.txComplete c ago))

/-- ARBITRATION_LOST. -/
def execArbitrationLost (c : Fin 4) (s : State) : Res := .next (s.served (·.arbitrationLost c))

/-- CAN_BUS_ERROR: the kind is that of 0x3314 + c:04. -/
def execCanBusError (c : Fin 4) (tx : Bool) (kind : Fin 7) (dataPhase : Bool) (s : State) : Res :=
  .next (s.served (·.busError c tx kind dataPhase))

/-- RECOVERY_REQUEST. -/
def execRecoveryRequest (w : Writer) (c : Fin 4) (v : Byte) (s : State) : Res :=
  .next (s.served fun s => s.accessAct w (canSt c + 6) [v] fun s => (s.recoveryRequest c, 0))

/-- BUS_OFF_RECOVERED. -/
def execBusOffRecovered (c : Fin 4) (s : State) : Res := .next (s.served (·.busOffRecovered c))

/-- RX_RELEASE. -/
def execRxRelease (w : Writer) (c : Fin 4) (o : Fin 24) (v : Byte) (s : State) : Res :=
  .next (s.served fun s => s.accessAct w (objRec c o + 0x0B) [v] fun s => (s.rxRelease c o, 0))

/-- START_DETECTION. -/
def execStartDetection (w : Writer) (c : Fin 4) (v : Byte) (s : State) : Res :=
  .next (s.served fun s => s.accessAct w (canDet c + 7) [v] fun s => (s.startDetection c, 0))

/-- DETECTION_EDGE: the distance from the edge before, in cycles of 80 MHz. -/
def execDetectionEdge (c : Fin 4) (cycles : Nat) (s : State) : Res := .next (s.served (·.detectionEdge c cycles))

/-- DETECTION_TIMEOUT. -/
def execDetectionTimeout (c : Fin 4) (s : State) : Res :=
  .next (s.served fun s =>
    if s.int (canDet c + 3) = 1 ∨ s.int (canDet c + 3) = 2 then s.detectFails c else s)

/-- TUNNEL_RELEASE. -/
def execTunnelRelease (s : State) : Res := .next (s.served (·.tunnelRelease))

/-- NMT_START. -/
def execNmtStart (node : Fin 128) (s : State) : Res := .next (s.served (·.nmt 1 node))

/-- NMT_STOP. -/
def execNmtStop (node : Fin 128) (s : State) : Res := .next (s.served (·.nmt 2 node))

/-- NMT_ENTER_PREOPERATIONAL. -/
def execNmtEnterPreoperational (node : Fin 128) (s : State) : Res := .next (s.served (·.nmt 0x80 node))

/-- NMT_RESET_NODE. -/
def execNmtResetNode (node : Fin 128) (s : State) : Res := .next (s.served (·.nmt 0x81 node))

/-- NMT_RESET_COMMUNICATION. -/
def execNmtResetCommunication (node : Fin 128) (s : State) : Res := .next (s.served (·.nmt 0x82 node))

/-- TIME_PRODUCE. -/
def execTimeProduce (s : State) : Res := .next (s.served (·.produceTime))

/-- HEARTBEAT_PRODUCE. -/
def execHeartbeatProduce (s : State) : Res := .next (s.served (·.produceHeartbeat))

/-- HEARTBEAT_RECEIVED. -/
def execHeartbeatReceived (node : Fin 128) (s : State) : Res := .next (s.served (·.heartbeat node))

/-- HEARTBEAT_TIMEOUT. -/
def execHeartbeatTimeout (i : Fin 4) (s : State) : Res := .next (s.served (·.heartbeatLost i))

/-- EMCY_INHIBIT_EXPIRED. -/
def execEmcyInhibitExpired (s : State) : Res := .next (s.served (·.emcyNext))

end Sys2Proof.Machine
end

