-- ==== Sys2Proof/Machine/Field.lean ====
section
/-!
DEFINITION. Field inputs and outputs (spec/18_field_io.md). Channels are numbered 0 to 15 here, FIO01 being 0.
-/

namespace Sys2Proof.Machine

/-- The records of channel k: configuration, role, command and state, diagnostics. -/
def fioCfg (k : Nat) : Nat := Od.key (0x3210 + k) 0
def fioSt (k : Nat) : Nat := Od.key (0x3230 + k) 0
def fioDiag (k : Nat) : Nat := Od.key (0x3240 + k) 0

/-- Ticks of 3.2 ns in 100 us and in 1 s. -/
def ticks100us : Nat := 31250
def ticks1s : Nat := 312500000

namespace State

/-! ### Commands and protections (R462 to R465) -/

/-- A command; a channel with role 5 has none (R477). -/
def command (s : State) (k : Nat) (v : Int) : State × Nat :=
  if s.fioRole k = 5 then (s, 9)
  else ((s.put (fioSt k + 1) v).settle, 0)

/-- A channel trips (R463): it waits for a retry, or latches after its count of retries in a row, none of which held it
on for a second. -/
def tripChannel (s : State) (k : Nat) : State :=
  let c := s.chan k
  let held := match c.onAt with | some t => decide (t + ticks1s ≤ s.clock.counter) | none => false
  let n := if held then 0 else c.retries
  let again := decide (s.int (fioCfg k + 8) = 1) && decide (n < s.nat (fioCfg k + 0x0A))
  let s := s.setChan k { c with limit := false, trip := if again then 2 else 1, retries := n }
  s.latchFlag k 0

/-- A channel enters current limit (0), has been in it for its limit time (1), or leaves it (2) (R463). -/
def currentLimit (s : State) (k phase : Nat) : State :=
  if s.applied k = false then s
  else if phase = 0 then
    if (s.chan k).limit then s else ((s.setChan k { s.chan k with limit := true }).latchFlag k 1).settle
  else if phase = 1 then
    let s := if (s.chan k).limit then s else s.latchFlag k 1
    (s.tripChannel k).settle
  else (s.setChan k { s.chan k with limit := false }).settle

/-- The retry delay has passed (R463). -/
def tripRetry (s : State) (k : Nat) : State :=
  let c := s.chan k
  if c.trip = 2 then
    ((s.setChan k { c with trip := 0, retries := c.retries + 1 }).bump (Od.key (0x3250 + k) 8)).settle
  else s

/-- The mean of a group over 10 ms, by its channels' currents in mA (R464): above 4.0 A the channel with the highest
current trips, the highest-numbered of equals. -/
def groupOverload (s : State) (g : Nat) (currents : List Nat) : State :=
  let sum := currents.sum
  let s := s.put (0x320005 + g) (min sum 65535)
  let s := (List.range 8).foldl (fun s i => s.put (fioSt (8 * g + i) + 6) (min (currents.getD i 0) 65535)) s
  if 4000 < sum then
    let top := (List.range 8).foldl (fun (o : Option Nat) i =>
      if s.applied (8 * g + i) then
        match o with
        | some j => if currents.getD j 0 ≤ currents.getD i 0 then some i else some j
        | none => some i
      else o) none
    let s := s.setSupply g { s.supply g with overload := true }
    match top with
    | some i => ((s.tripChannel (8 * g + i)).setFlag (8 * g + i) 9 true).settle
    | none => s
  else
    let s := s.setSupply g { s.supply g with overload := false }
    (List.range 8).foldl (fun s i => s.setFlag (8 * g + i) 9 false) s

/-- A switch above 175 degC, or cooled by 15 K (R465). -/
def thermalShutdown (s : State) (k : Nat) (hot : Bool) : State :=
  let c := s.chan k
  if hot = c.thermal then s
  else if hot then ((s.setChan k { c with thermal := true }).latchFlag k 2).settle
  else (s.setChan k { c with thermal := false }).settle

/-! ### Readback and diagnostics (R468 to R472, R479) -/


/-- Three samples in a row show a level after blanking (R468): a mismatch is set unless a limit, a thermal shutdown or a
supply flag explains it; agreement clears. The butty judges the joined line by the motor's command (R479). A readback
fault on a channel of the readback takeover mask makes a motor drop its role (R293). -/
def readback (s : State) (k : Nat) (high : Bool) : State :=
  let s := s.putFlag (fioSt k + 3) high
  if s.fioMode k ≠ 2 then s
  else if s.isButty then s.setFlag k 12 (high != s.pair.reported.getLsbD k)
  else
    let on := s.applied k
    let v := s.supplyOf k
    let c := s.chan k
    if high = on then (s.setFlag k 7 false).setFlag k 8 false
    else if v.sag ∨ v.off ∨ c.limit ∨ c.thermal then s
    else
      let s := if on then s.setFlag k 7 true else s.setFlag k 8 true
      if s.pairing ∧ s.int 0x300102 = 1 ∧ (s.nat 0x300009).testBit k then s.dropRole else s

/-- An output that is on draws less than 5 mA, or more than 10 mA, for 10 ms (R469). -/
def openLoad (s : State) (k : Nat) (isOpen : Bool) : State :=
  if isOpen then
    (if s.flag (fioCfg k + 0x0B) ∧ s.applied k ∧ (s.supplyOf k).sag = false then s.setFlag k 3 true else s)
  else s.setFlag k 3 false

/-- An instant lies within the 100 us before now. -/
def recent (s : State) (t : Option Nat) : Bool :=
  match t with | some c => decide (s.clock.counter ≤ c + ticks100us) | none => false

/-- External drive appears on, or leaves, the pin of an output that is off (R470): cross-feed where another channel
switched on before its appearance or off before its end within 100 us, the lowest-numbered of several (DESIGN CHOICE,
log 44); else short to supply. -/
def externalDrive (s : State) (j : Nat) (present : Bool) : State :=
  let others := (List.range 16).filter (fun k => k ≠ j)
  if s.fioMode j ≠ 2 ∨ s.applied j = true ∨ (s.isButty = true ∧ s.pair.reported.getLsbD j = true) then s
  else if present then
    if (s.supplyOf j).sag then s
    else match others.find? (fun k => s.recent (s.chan k).onAt) with
      | some k => if s.overlapNear then s else s.crossFeed j k
      | none => s.setFlag j 4 true
  else
    let s := s.setFlag j 4 false
    match others.find? (fun k => s.recent (s.chan k).offAt) with
    | some k => if s.overlapNear ∨ (s.supplyOf j).sag then s else s.crossFeed j k
    | none => s.setFlag j 5 false

/-- The pin of a channel that is on rises 0.3 V above its supply, or falls back to 0.1 V (R471). -/
def reverseBlock (s : State) (k : Nat) (above : Bool) : State :=
  let c := s.chan k
  if above then
    if s.applied k = false ∨ c.reverse ∨ s.overlapNear then s
    else
      let s := (s.setChan k { c with reverse := true }).latchFlag k 6
      let g := 1 - k / 8
      match ((List.range 8).map (fun i => 8 * g + i)).find? s.applied with
      | some j => s.crossFeed k j
      | none => s
  else s.setChan k { c with reverse := false }

/-- Latched flags are cleared (R472); clearing overcurrent trip releases a latched trip (R463, R480), and leaves one that
waits for its retry to its delay. -/
def clearLatched (s : State) (k mask : Nat) : State :=
  let l := s.nat (fioDiag k + 2)
  let s := s.put (fioDiag k + 2) ((l - Nat.land l mask : Nat) : Int)
  let s := if mask.testBit 0 ∧ (s.chan k).trip = 1 then s.setChan k { s.chan k with trip := 0, retries := 0 } else s
  s.settle

/-! ### Inputs (R473, R476) -/

/-- The claim role's channel (R310): the first debounced state after step 4 opens its window on a RELEASED device, a
later one that is not asserted closes it. -/
def claimRole (s : State) (level : Bool) : State :=
  let t := s.trust
  if t.roleJudged then (if level then s else { s with trust := { t with windowRole := false } })
  else { s with trust := { t with roleJudged := true, windowRole := level && t.windowLive && decide (s.int 0x310001 = 2) } }

/-- What a debounced change means to the role of an input (R476). -/
def roleEffect (s : State) (k : Nat) (level : Bool) : State :=
  let r := s.fioRole k
  if s.fioMode k ≠ 1 then s
  else if r = 1 ∨ r = 2 then s.trigEval 3
  else if r = 3 then s.activeCab level
  else if r = 4 then (if level then s.sourceActive 3 (k + 1) else s.judgeVotes)
  else s

/-- A debounced level of a pin, with the CT of the first sample that showed it. -/
def fieldInput (s : State) (k : Nat) (pin : Bool) (stamp : Int) : State :=
  let level := pin != s.flag (fioCfg k + 4)
  let s := if s.fioRole k = 6 ∧ s.fioMode k = 1 then s.claimRole level else s
  if s.flag (fioSt k + 4) = level then s
  else
    let s := ((s.putFlag (fioSt k + 4) level).put (fioSt k + 5) (if s.ctValid then stamp / 65536 % 2 ^ 32 else 0)).bump
      (Od.key (0x3250 + k) 1)
    let e := s.int (fioCfg k + 5)
    let s := if s.fioMode k ≠ 0 ∧ (e = 3 ∨ (e = 1 ∧ level) ∨ (e = 2 ∧ level = false)) then
        s.raise (182 + k / 8) (if level then 1 else 0) (k + 1) 0
      else s
    s.roleEffect k level

/-! ### Supplies (R474, R475, R467) -/

/-- `f` on the channels of a group. -/
def onGroup (s : State) (g : Nat) (f : State → Nat → State) : State :=
  (List.range 8).foldl (fun s i => f s (8 * g + i)) s

/-- A sag begins: its flag on every channel of the group, and its count. -/
def sagBegins (s : State) (g : Nat) : State :=
  if (s.supply g).sag then s
  else
    let s := (s.setSupply g { s.supply g with sag := true }).bump (0x320203 + g)
    s.onGroup g (fun s k => s.latchFlag k 10)

/-- Below VF_LOW for 200 us. -/
def supplySag (s : State) (g : Nat) (mv : Int) : State := ((s.put (0x320201 + g) mv).sagBegins g).settle

/-- At VF_LOW + 0.5 V for 200 us: the sag ends; under policy 0 the restore delay begins. -/
def supplySagEnd (s : State) (g : Nat) (mv : Int) : State :=
  let s := s.put (0x320201 + g) mv
  let v := s.supply g
  if v.sag then (s.setSupply g { v with sag := false, restoring := v.off && decide (s.int 0x320102 = 0) }).settle else s

/-- Below VF_OFF in one sample: every output of the group off; a sag begins if none is in progress. -/
def supplyOff (s : State) (g : Nat) (mv : Int) : State :=
  let s := (s.put (0x320201 + g) mv).sagBegins g
  if (s.supply g).off then s
  else
    let s := (s.setSupply g { s.supply g with off := true, restoring := false }).bump (0x320205 + g)
    (s.onGroup g (fun s k => s.latchFlag k 11)).settle

/-- The group's outputs take their commanded states. -/
def restoreGroup (s : State) (g : Nat) : State := (s.setSupply g { s.supply g with off := false, restoring := false }).settle

/-- The restore delay has passed. -/
def supplyRestore (s : State) (g : Nat) : State :=
  let v := s.supply g
  if v.off ∧ v.sag = false ∧ v.restoring then s.restoreGroup g else s

/-- A restore request (R475): refused with 0x09 where a requested group still sags. -/
def restoreRequest (s : State) (v : Nat) : State × Nat :=
  if (v.testBit 0 ∧ s.fio.vf1.sag) ∨ (v.testBit 1 ∧ s.fio.vf2.sag) then (s, 9)
  else
    let s := if v.testBit 0 ∧ s.fio.vf1.off then s.restoreGroup 0 else s
    (if v.testBit 1 ∧ s.fio.vf2.off then s.restoreGroup 1 else s, 0)

/-- The die link has been silent for 1 ms, or command frames come again (R467). -/
def dieLink (s : State) (up : Bool) : State := ({ s with fio := { s.fio with link := up } } : State).settle

/-- At READY each output takes its start-up state as its command (R467). -/
def startOutputs (s : State) : State :=
  let s := (List.range 16).foldl (fun s k =>
    if s.fioMode k = 2 ∧ s.fioRole k ≠ 5 then s.put (fioSt k + 1) (s.int (fioCfg k + 0x0D)) else s) s
  s.dieLink true

/-! ### What the summary entries read (R481 to R483) -/

/-- One bit for each channel of which `f` holds. -/
def channelMask (f : Nat → Bool) : Nat := ((List.range 16).map (fun k => if f k then 2 ^ k else 0)).sum

/-- 0x3200:01 to :04. -/
def outputStates (s : State) : Nat := channelMask s.applied
def inputStates (s : State) : Nat := channelMask (fun k => s.flag (fioSt k + 4))
def faulted (s : State) : Nat := channelMask (fun k => decide (s.int (fioDiag k + 2) ≠ 0))
def groupStates (s : State) : Nat :=
  let a := s.fio.vf1
  let b := s.fio.vf2
  (if a.sag then 1 else 0) + (if a.off then 2 else 0) + (if b.sag then 4 else 0) + (if b.off then 8 else 0) +
    (if a.overload then 16 else 0) + (if b.overload then 32 else 0)

end State

/-! ### The commands -/

/-- COMMAND. -/
def execCommand (w : Writer) (k : Fin 16) (v : Byte) (s : State) : Res :=
  .next (s.served fun s => s.accessAct w (fioSt k + 1) [v] fun s => s.command k v.toNat)

/-- OVERCURRENT_TRIP: the channel enters current limit (0), reaches its limit time (1), or leaves current limit (2). -/
def execOvercurrentTrip (k : Fin 16) (phase : Fin 3) (s : State) : Res := .next (s.served (·.currentLimit k phase))

/-- TRIP_RETRY. -/
def execTripRetry (k : Fin 16) (s : State) : Res := .next (s.served (·.tripRetry k))

/-- GROUP_OVERLOAD: the means of a group's channels over 10 ms, in mA. -/
def execGroupOverload (g : Fin 2) (currents : List Nat) (s : State) : Res := .next (s.served (·.groupOverload g currents))

/-- THERMAL_SHUTDOWN: above 175 degC, or cooled by 15 K. -/
def execThermalShutdown (k : Fin 16) (hot : Bool) (s : State) : Res := .next (s.served (·.thermalShutdown k hot))

/-- READBACK_MISMATCH: the level that three samples after blanking show. -/
def execReadbackMismatch (k : Fin 16) (high : Bool) (s : State) : Res := .next (s.served (·.readback k high))

/-- OPEN_LOAD: under 5 mA, or above 10 mA, for 10 ms. -/
def execOpenLoad (k : Fin 16) (isOpen : Bool) (s : State) : Res := .next (s.served (·.openLoad k isOpen))

/-- EXTERNAL_DRIVE: it appears, or it ends. -/
def execExternalDrive (k : Fin 16) (present : Bool) (s : State) : Res := .next (s.served (·.externalDrive k present))

/-- REVERSE: the pin rises above, or falls back to, its supply. -/
def execReverse (k : Fin 16) (above : Bool) (s : State) : Res := .next (s.served (·.reverseBlock k above))

/-- LATCHED_FLAG_CLEAR. -/
def execLatchedFlagClear (w : Writer) (k : Fin 16) (mask : BitVec 16) (s : State) : Res :=
  .next (s.served fun s => s.accessAct w (fioDiag k + 2) (State.le 2 mask.toNat) fun s => (s.clearLatched k mask.toNat, 0))

/-- FIELD_INPUT_CHANGE: the debounced level of a pin, first seen some ticks ago. -/
def execFieldInputChange (k : Fin 16) (pin : Bool) (ago : Nat) (s : State) : Res :=
  .next (s.served fun s =>
    let t := s.ctAt (s.clock.counter - ago) 0
    s.replicateShared t (.field k pin t) (·.fieldInput k pin t))

/-- SUPPLY_SAG. -/
def execSupplySag (g : Fin 2) (mv : Nat) (s : State) : Res := .next (s.served (·.supplySag g mv))

/-- SUPPLY_SAG_END. -/
def execSupplySagEnd (g : Fin 2) (mv : Nat) (s : State) : Res := .next (s.served (·.supplySagEnd g mv))

/-- SUPPLY_OFF. -/
def execSupplyOff (g : Fin 2) (mv : Nat) (s : State) : Res := .next (s.served (·.supplyOff g mv))

/-- SUPPLY_RESTORE. -/
def execSupplyRestore (g : Fin 2) (s : State) : Res := .next (s.served (·.supplyRestore g))

/-- RESTORE_REQUEST. -/
def execRestoreRequest (w : Writer) (v : Byte) (s : State) : Res :=
  .next (s.served fun s => s.accessAct w 0x320104 [v] (·.restoreRequest v.toNat))

/-- OVERVOLTAGE. -/
def execOvervoltage (g : Fin 2) (mv : Nat) (s : State) : Res :=
  .next (s.served fun s => (s.put (0x320201 + g) mv).bump 0x320207)

/-- DIE_LINK_LOSS: no command frame for 1 ms, or frames again. A logic die in reset sends none, and the drivers go off
(R467). -/
def execDieLinkLoss (up : Bool) (s : State) : Res :=
  .next (if s.isReady then s.dieLink up else if up then s else s.driveField)

end Sys2Proof.Machine
end

