-- ==== Sys2Proof/Machine/Checks.lean ====
section
/-!
DEFINITION. The commit checks (R355), over the state as it would stand with the staging copy applied. Each check lists
its faults as the entry at fault and the detail; the first of the first code that has one refuses the commit.
-/

namespace Sys2Proof.Machine

/-- The entry at fault and the detail of R355. -/
abbrev CommitFault := Nat × Nat

/-- The numbers of a list that stand twice. -/
def twice (l : List Nat) : List Nat := l.filter (fun x => decide (1 < (l.filter (fun y => decide (y = x))).length))

/-- A fault at a key where a condition holds. -/
def faultIf (b : Bool) (k : Nat) (detail : Nat := 0) : List CommitFault := if b then [(k, detail)] else []

/-- The time quanta of a detection candidate's rate within a limit (R446): the smallest prescaler that gives at most that
many quanta a bit must give a whole number of them. -/
def quantaOk (rate limit : Nat) : Bool :=
  if rate = 0 then false
  else decide (80000000 % (State.detPrescaler rate limit * rate) = 0)

/-- The identifier of a COB-ID, 29-bit ones apart from the 11-bit ones. -/
def cobId (n : Nat) : Nat := if n.testBit 29 then 2 ^ 29 + n % 2 ^ 29 else n % 2 ^ 11

/-- The 11-bit identifiers no PDO may have (R372). -/
def cobReserved (n : Nat) : Bool :=
  let i := n % 2 ^ 11
  !n.testBit 29 && (decide (i ≤ 0x07F) || decide (0x101 ≤ i ∧ i ≤ 0x180) || decide (0x581 ≤ i ∧ i ≤ 0x5FF) ||
    decide (0x601 ≤ i ∧ i ≤ 0x67F) || decide (0x6E0 ≤ i ∧ i ≤ 0x6FF) || decide (0x701 ≤ i ∧ i ≤ 0x77F) || decide (0x780 ≤ i))

/-- The bits a type takes in a PDO (R375); 0 for a type that is not mapped. -/
def pdoBits : OdTy → Nat
  | .bool => 1 | .u8 => 8 | .u16 => 16 | .u32 => 32 | .u48 => 48 | .u64 => 64
  | .i8 => 8 | .i16 => 16 | .i32 => 32 | .i64 => 64
  | .time80 => 0 | .vstr => 0 | .octet => 0 | .domain => 0

/-- The bits of a dummy entry (R375): CiA 301's types 1 to 7 (log 45). -/
def dummyBits (i : Nat) : Nat := ([1, 8, 16, 32, 8, 16, 32] : List Nat).getD (i - 1) 0

/-- A mapping entry keeps to R375; `rx` in an RPDO. -/
def mappingOk (m : Nat) (rx : Bool) : Bool :=
  let i := m / 65536
  let sub := m / 256 % 256
  let n := m % 256
  if rx && decide (1 ≤ i ∧ i ≤ 7) then decide (sub = 0 ∧ n = dummyBits i)
  else
    match Od.find? (Od.key i sub) with
    | none => false
    | some (_, e) =>
      decide (n ≠ 0 ∧ n = pdoBits e.ty) &&
        (if rx then decide ((e.acc = .rw ∨ e.acc = .wo) ∧ e.pers = .volatile ∧ (e.role = .operator ∨ e.role = .observer))
        else decide (e.acc = .ro ∨ e.acc = .const ∨ e.acc = .rw) && (decide (e.acc = .rw) || decide (e.role = .observer)))

/-- The entries of a script (R32) up to its end: the first at fault. -/
def scriptBad : List Byte → Bool
  | op :: w :: _ :: _ :: a :: b :: c :: d :: t =>
    let v := leNat [a, b, c, d]
    if op = 0 then false
    else if 4 < op.toNat then true
    else if (op = 1 ∨ op = 2) ∧ (w.toNat < 1 ∨ 4 < w.toNat) then true
    else if op = 3 ∧ (v < 1 ∨ 1000000 < v) then true
    else scriptBad t
  | [] => false
  | _ => true

/-- The entries of a panel script (R100). -/
def panelBad : Nat → List Byte → Bool
  | 0, _ => true
  | _ + 1, [] => false
  | f + 1, op :: vc :: l0 :: l1 :: t =>
    let n := leNat [l0, l1]
    let data := t.take n
    let lenOk :=
      if op = 0 then decide (n = 0) else if op = 1 then decide (n = 1) else if op = 2 then decide (n = 2)
      else if op = 3 ∨ op = 4 then decide (1 ≤ n ∧ n ≤ 255)
      else if op = 5 then decide (n = 2 ∧ 1 ≤ leNat data ∧ leNat data ≤ 1000) else false
    if !lenOk || decide (t.length < n) || decide (3 < vc.toNat) then true
    else if op = 0 then false
    else panelBad f (t.drop n)
  | _ + 1, _ => true

namespace State

/-- The enabled camera slots. -/
def slotsOn (t : State) : List Nat := (List.range 8).filter (fun n => t.flag (camDef n + 1))

/-- Frames per second of a camera (R51). -/
def frameRate (t : State) (n : Nat) : Rat := if t.camPeriod n = 0 then 0 else (65536000000000 : Rat) / (t.camPeriod n : Rat)

/-- Pixel rate and link rate of a camera (R51). -/
def pixelRateOf (t : State) (n : Nat) : Rat :=
  let b := camDef n
  (t.nat (b + 6) * t.nat (b + 7) * t.nat (b + 8) : Nat) * t.frameRate n
def linkRateOf (t : State) (n : Nat) : Rat := t.pixelRateOf n * formatBpp (t.nat (camDef n + 5)) * 105 / 100

/-- Relations between the entries of a video record (R39, R60, R66, R101, R115). -/
def videoRelations (t : State) : List CommitFault :=
  (List.range 8).flatMap (fun n =>
    faultIf (decide (t.camPeriod n ≤ t.int (camDef n + 0xB) * 65536)) (camDef n + 0xB)) ++
  (List.range 4).flatMap (fun p =>
    faultIf (decide (t.int (cciRec p + 1) = 1 ∧ 1000 < t.int (cciRec p + 2))) (cciRec p + 2)) ++
  (List.range 8).flatMap (fun n =>
    let c := t.bytes (pipeDef n + 5)
    let l := knees c
    faultIf (decide (c.length % 8 ≠ 0) || !((l.zip l.tail).all (fun p => decide (p.1.1 < p.2.1)))) (pipeDef n + 5) ++
    faultIf (decide (t.int (pipeDef n + 0xA) ≤ t.int (pipeDef n + 9))) (pipeDef n + 0xA)) ++
  (List.range 2).flatMap (fun d =>
    faultIf (decide (t.int (dsiRec d + 0x10) % max 1 (t.int (dsiRec d + 0xA)) ≠ 0)) (dsiRec d + 0xA) ++
    faultIf (decide (t.dispPeriod d ≤ t.int (dsiRec d + 0x16) * 65536)) (dsiRec d + 0x16))

/-- Relations of the time records (R203). -/
def timeRelations (t : State) : List CommitFault :=
  (List.range 12).flatMap (fun i =>
    let b := Od.key (0x2630 + i) 0
    let p := t.int (b + 5) * 65536 + t.int (b + 6)
    faultIf (decide (t.int (b + 7) < 32) || (decide (t.int (b + 2) = 1) && decide (p < (t.int (b + 7) + 32) * 65536))) (b + 7))

/-- Relations of the CAN and CANopen records (R370, R372, R375, R439, R446). -/
def canRelations (t : State) : List CommitFault :=
  let mapped (i : Nat) : List Nat := (List.range (t.nat (Od.key i 0))).map (fun j => Od.key i (j + 1))
  let cobs : List (Nat × Nat) := (((List.range 8).map (fun k => Od.key (0x1400 + k) 1)) ++ ((List.range 8).map (fun k => Od.key (0x1800 + k) 1))).map
    (fun k => (k, t.nat k))
  let valid := cobs.filter (fun c => !c.2.testBit 31)
  let others : List Nat := [t.nat 0x100500, t.nat 0x101200] ++ (if (t.nat 0x101400).testBit 31 then [] else [t.nat 0x101400]) ++
    [t.nat 0x120001, t.nat 0x120002, 0x700 + t.canopen.nodeId]
  let mapFaults (base : Nat) (rx : Bool) : List CommitFault := (List.range 8).flatMap (fun k =>
    let l := mapped (base + k)
    l.flatMap (fun m => faultIf (!mappingOk (t.nat m) rx) m) ++
      (match (l.zip ((List.range l.length).map (fun j => ((l.take (j + 1)).map (fun m => t.nat m % 256)).sum))).find? (fun p => decide (64 < p.2)) with
        | some p => [(p.1, 0)] | none => []))
  let consumers := ((List.range 4).map (fun i => Od.key 0x1016 (1 + i))).map (fun k => (k, t.nat k / 65536 % 256))
  (consumers.filter (fun c => decide (c.2 ≠ 0) && consumers.any (fun d => decide (d.1 < c.1 ∧ d.2 = c.2)))).map
    (fun c => (c.1, 0)) ++
  (valid.filter (fun c => cobReserved c.2 || others.any (fun o => decide (cobId o = cobId c.2)) ||
    valid.any (fun d => decide (d.1 ≠ c.1 ∧ cobId d.2 = cobId c.2)))).map (fun c => (c.1, 0)) ++
  mapFaults 0x1600 true ++ mapFaults 0x1A00 false ++
  (List.range 4).flatMap (fun c =>
    let b := Od.key (0x3310 + c) 0
    let nom := t.nat (b + 3) * (1 + t.nat (b + 4) + t.nat (b + 5))
    let dat := t.nat (b + 7) * (1 + t.nat (b + 8) + t.nat (b + 9))
    faultIf (decide (nom < 80)) (b + 3) ++ faultIf (decide (dat < 16)) (b + 7) ++
    faultIf (t.flag (b + 2) && decide (nom < dat)) (b + 7) ++
    faultIf (decide ((t.bytes (canDet c + 1)).length % 8 ≠ 0) ||
      !((t.bitRates c).all (fun r => quantaOk r.1 160 && (decide (r.2 = 0) || quantaOk r.2 40)))) (canDet c + 1))

/-- Roles, their modes and their numbers (R476, R477). -/
def fieldRelations (t : State) : List CommitFault :=
  let key (k : Nat) : Nat := Od.key (0x3220 + k) 1
  let side (k : Nat) : Int := t.int (Od.key (0x3220 + k) 2)
  let before (k : Nat) (same : Nat → Bool) : Nat := ((List.range k).filter same).length
  (List.range 16).flatMap (fun k =>
    let r := t.fioRole k
    let m := t.fioMode k
    let modeBad := decide (r ≠ 0 ∧ m ≠ (if r = 5 then 2 else 1))
    let many :=
      if r = 1 ∨ r = 2 then decide (1 ≤ before k (fun j => decide (t.fioRole j = r ∧ side j = side k)))
      else if r = 3 ∨ r = 6 then decide (1 ≤ before k (fun j => decide (t.fioRole j = r)))
      else if r = 4 then decide (4 ≤ before k (fun j => decide (t.fioRole j = r))) else false
    faultIf (modeBad || many) (key k))

/-- Sizes of the logbook's areas (R489). -/
def logRelations (t : State) : List CommitFault :=
  let b (e : Nat) : Nat := Od.key (0x3510 + e) 0
  let sums := (List.range 64).foldl (fun (p : Nat × Option Nat) e =>
    let n := p.1 + t.nat (b e + 1) + t.nat (b e + 2)
    (n, if p.2.isNone && decide (24576 < n) then some (b e + 1) else p.2)) (0, none)
  (match sums.2 with | some k => [(k, 0)] | none => []) ++
  (List.range 64).flatMap (fun e => faultIf (decide (t.nat (b e + 1) < (Tab.get [] t.log.perm e).length)) (b e + 1))

/-- Code 0x05: the camera configuration (R25, R27 to R29, R32, R36). -/
def cameraFaults (t : State) : List CommitFault :=
  let on := t.slotsOn
  let vcs (n : Nat) : List Nat := (List.range (t.nat (camDef n + 8))).map (· + t.nat (camDef n + 4))
  on.flatMap (fun n =>
    let b := camDef n
    let name := t.bytes (b + 2)
    let src := t.camSource n
    let f := t.nat (b + 5)
    let ex := t.nat (b + 8)
    faultIf (decide (name = []) || on.any (fun m => decide (m < n ∧ t.bytes (camDef m + 2) = name))) (b + 2) n ++
    faultIf (!(decide (1 ≤ src ∧ src ≤ 4) || decide (0x10 ≤ src ∧ src ≤ 0x17))) (b + 3) n ++
    faultIf (decide (f = 0 ∨ 7 < f) || (decide (0x10 ≤ src) && decide (f < 6))) (b + 5) n ++
    faultIf (if 0x10 ≤ src then decide (ex ≠ 1) else decide (4 < t.nat (b + 4) + ex)) (b + 8) n ++
    faultIf (decide (src < 0x10) && on.any (fun m => decide (m < n ∧ t.camSource m = src) &&
      (vcs m).any (fun v => decide (v ∈ vcs n)))) (b + 4) n ++
    faultIf (decide (0x10 ≤ src ∧ t.int (b + 0x10) ≠ 2)) (b + 0x10) n) ++
  (List.range 4).flatMap (fun p =>
    let lanes := (List.range (t.nat (Od.key (0x2840 + p) 1))).map (fun i => t.nat (Od.key (0x2840 + p) 4) / 16 ^ i % 16)
    faultIf (decide (twice lanes ≠ []) || lanes.any (fun l => decide (3 < l))) (Od.key (0x2840 + p) 4) p ++
    faultIf (scriptBad (t.bytes (cciRec p + 4))) (cciRec p + 4) p ++
    faultIf (scriptBad (t.bytes (cciRec p + 5))) (cciRec p + 5) p)

/-- The line rate of a star port, bit/s. -/
def starRate (t : State) (p : Nat) : Rat :=
  let i := t.int (Od.key (0x2418 + p) 2)
  if i = 0 then 100000000 else if i = 1 then 1000000000 else 2500000000

/-- Code 0x06: the ingest capacity (R51). -/
def ingestFaults (t : State) : List CommitFault :=
  let on := t.slotsOn
  on.flatMap (fun n =>
    let b := camDef n
    let w := t.nat (b + 6)
    let h := t.nat (b + 7)
    let r := t.frameRate n
    let dimBad (x : Nat) : Bool := decide (x < 320 ∨ 4096 < x ∨ x % 2 = 1)
    faultIf (dimBad w || decide (8300000 < w * h)) (b + 6) n ++ faultIf (dimBad h) (b + 7) n ++
    faultIf (decide (r < 10) || decide ((if w * h ≤ 2100000 then (120 : Rat) else 30) < r)) (b + 9) n ++
    faultIf (decide (1000000000 < ((on.filter (fun m => decide (m ≤ n))).map t.pixelRateOf).sum)) (b + 6) n ++
    faultIf (t.isNetwork n && decide (t.starRate (t.camSource n - 0x10) * 9 / 10 < t.linkRateOf n)) (b + 3) n) ++
  (List.range 4).flatMap (fun p =>
    let l := (on.filter (fun n => decide (t.camSource n = p + 1))).map t.linkRateOf
    let limit := t.nat (Od.key (0x2840 + p) 1) * t.nat (Od.key (0x2840 + p) 2) * 1000000
    faultIf (decide ((limit : Rat) < l.sum)) (Od.key (0x2840 + p) 2) p)

/-- Code 0x07: HDR mode and exposures (R61). -/
def pipelineFaults (t : State) : List CommitFault :=
  (List.range 8).flatMap (fun n =>
    let ex := t.nat (camDef n + 8)
    let m := t.int (pipeDef n + 8)
    faultIf (if m = 1 then decide (ex ≠ 2 ∧ ex ≠ 3) else decide (ex ≠ 1)) (pipeDef n + 8))

/-- Code 0x08: mesh formats (R67), and the sizes that an empty lens mesh of a camera requires (R68). -/
def meshFaults (t : State) : List CommitFault :=
  let bad (m : List Byte) (w h : Nat) : Bool := decide (m ≠ []) && !(meshOk m w h)
  (List.range 8).flatMap (fun n =>
    faultIf (bad (t.bytes (pipeDef n + 0x32)) (t.nat (pipeDef n + 0x30)) (t.nat (pipeDef n + 0x31))) (pipeDef n + 0x32) ++
    faultIf (t.flag (camDef n + 1) && decide (t.bytes (pipeDef n + 0x32) = [] ∧
      (t.nat (pipeDef n + 0x30) ≠ t.nat (camDef n + 6) ∨ t.nat (pipeDef n + 0x31) ≠ t.nat (camDef n + 7)))) (pipeDef n + 0x30)) ++
  (List.range 16).flatMap (fun v => faultIf (bad (t.bytes (viewRec v + 6)) (t.viewW v) (t.viewH v)) (viewRec v + 6))

/-- Code 0x04: selector syntax (R21): of views, and of the far ends of tunnel routes, which have no object part (R460). -/
def selectorFaults (t : State) : List CommitFault :=
  (List.range 16).flatMap (fun v =>
    faultIf ((t.flag (viewRec v + 1) || decide (t.bytes (viewRec v + 3) ≠ [])) && (t.viewSelector v).isNone) (viewRec v + 3)) ++
  (List.range 64).flatMap (fun r =>
    let x := t.bytes (routeRec r + 7)
    faultIf (decide (x ≠ []) && (match parseSelector x with | some { object := .position, .. } => false | _ => true)) (routeRec r + 7))

/-- Code 0x09: views (R75, R81), of disabled records too; a disabled record needs no name and no selector. -/
def viewFaults (t : State) : List CommitFault :=
  (List.range 16).flatMap (fun v =>
    let b := viewRec v
    let on := t.flag (b + 1)
    let name := t.bytes (b + 2)
    faultIf (if name = [] then on else (List.range v).any (fun u => decide (t.bytes (viewRec u + 2) = name))) (b + 2) ++
    faultIf ((on || decide (t.bytes (b + 3) ≠ [])) &&
      (match t.viewSelector v with | some { object := .cam _, .. } => false | _ => true)) (b + 3) ++
    faultIf (decide (t.viewW v < 64 ∨ 2560 < t.viewW v ∨ t.viewW v % 4 ≠ 0)) (b + 4) ++
    faultIf (decide (t.viewH v < 64 ∨ 1600 < t.viewH v ∨ t.viewH v % 8 ≠ 0)) (b + 5) ++
    faultIf (decide (t.nat (b + 8) < 32 ∨ 192 < t.nat (b + 8) ∨ t.nat (b + 8) % 16 ≠ 0)) (b + 8))

/-- Code 0x0A: composition (R78). -/
def compositionFaults (t : State) : List CommitFault :=
  (List.range 2).flatMap (fun d =>
    let box (i : Nat) : Option (Nat × Nat × Nat × Nat) := (t.regionView d i).map (fun v => (t.regionX d i, t.regionY d i, t.viewW v, t.viewH v))
    ((List.range 6).map (· + 1)).flatMap (fun i =>
      let named := decide (t.bytes (regSet d + 0x10 + i) ≠ [])
      faultIf (named && (t.regionView d i).isNone) (regSet d + 0x10 + i) ++
      (match box i with
        | none => []
        | some (x, y, w, h) =>
          faultIf (decide (t.nat (dsiRec d + 0xC) < x + w ∨ t.nat (dsiRec d + 0x10) < y + h) ||
            (List.range (i - 1)).any (fun j => match box (j + 1) with
              | some (x', y', w', h') => decide (x < x' + w' ∧ x' < x + w ∧ y < y' + h' ∧ y' < y + h)
              | none => false)) (regSet d + 0x20 + i))))

/-- Codes 0x0B and 0x0C: overlay format and memory (R79). -/
def overlayFaults (t : State) : List CommitFault :=
  (List.range 4).flatMap (fun p => faultIf (bitmapLines (t.bytes (Od.key (0x2C40 + p) 3))).isNone (Od.key (0x2C40 + p) 3))
def overlayMemoryFaults (t : State) : List CommitFault :=
  faultIf (decide (2097152 < ((List.range 4).map (fun p => (t.bytes (Od.key (0x2C40 + p) 3)).length)).sum)) 0x2C4003

/-- Code 0x0D: displays (R99, R100): the panel script, the active area, the lane rate, the pixel clock, and the nominal
frame period within 0.1 % of the period. -/
def displayFaults (t : State) : List CommitFault :=
  (List.range 2).flatMap (fun d =>
    let b := dsiRec d
    let g (i : Nat) : Nat := t.nat (b + i)
    let total := (g 0xC + g 0xD + g 0xE + g 0xF) * t.dispLines d
    let clk := g 0xB
    let nominal : Int := (total : Int) * 65536000000000
    let want := t.dispPeriod d * clk
    faultIf (panelBad ((t.bytes (b + 0x17)).length + 1) (t.bytes (b + 0x17))) (b + 0x17) ++
    faultIf (decide (g 3 ≠ 2 ∧ g 3 ≠ 4)) (b + 3) ++ faultIf (decide (g 4 < 80 ∨ 2500 < g 4)) (b + 4) ++
    faultIf (decide (g 0xC < 64 ∨ 2560 < g 0xC)) (b + 0xC) ++ faultIf (decide (g 0x10 < 64 ∨ 1600 < g 0x10)) (b + 0x10) ++
    faultIf (decide (clk < 10000000 ∨ 300000000 < clk)) (b + 0xB) ++
    faultIf (decide (want < 1000 * (nominal - want).natAbs)) (b + 0x14))

/-- Code 0x0E: the frame stores (R104). -/
def storeFaults (t : State) : List CommitFault :=
  (List.range 2).flatMap (fun d => faultIf (decide (4194304 < t.storeBytes d)) (regSet d + 0x11))

/-- Code 0x0F: time pulses (R42, R165): named by two enabled slots, by a slot and an enabled time record, or by a marker and
one of these; a local camera in time-pulse mode that names none. -/
def pulseFaults (t : State) : List CommitFault :=
  let named := t.slotsOn.filter (fun n => decide (t.nat (camDef n + 0x11) < 12))
  let inTime (p : Nat) : Bool := t.flag (Od.key (0x2630 + p) 1)
  t.slotsOn.flatMap (fun n =>
    let p := t.nat (camDef n + 0x11)
    faultIf (if p < 12 then inTime p || named.any (fun m => decide (m < n ∧ t.nat (camDef m + 0x11) = p))
      else decide (t.int (camDef n + 0x10) = 1 ∧ t.camSource n < 0x10)) (camDef n + 0x11)) ++
  (List.range 8).flatMap (fun i =>
    let b := Od.key (0x2468 + i) 0
    let p := t.nat (b + 4)
    faultIf (decide (p < 12) && (inTime p || named.any (fun m => decide (t.nat (camDef m + 0x11) = p)))) (b + 4))

/-- Code 0x10: domain numbers (R192, R198). -/
def domainFaults (t : State) : List CommitFault :=
  let num (i : Nat) : Int := t.int (Od.key (0x2610 + i) 2)
  faultIf (decide (num 0 = num 1)) 0x261102 ++
  (List.range 8).flatMap (fun p =>
    faultIf (decide (t.int (Od.key (0x2620 + p) 1) ≠ 0) && (List.range 2).any (fun i =>
      decide (t.int (Od.key (0x2610 + i) 3) = 0x10 + p ∧ num i = t.int (Od.key (0x2620 + p) 2)))) (Od.key (0x2620 + p) 2))

/-- Code 0x11: the templates in use at every vehicle count (R153). -/
def templateFaults (t : State) : List CommitFault :=
  let used (m : Nat) : Bool := decide (t.nat 0x243001 = m) || t.streams.any (fun v => (t.nat (streamRec v + 6)).testBit m)
  ((List.range 15).map (· + 1)).flatMap (fun m =>
    let x := t.template m
    faultIf (used m && decide (x ≠ []) && (!(templateOk m x) || (List.range t.vehicleLimit).any (fun v =>
      !(expansionOk (t.frameFor (v + 1) (min t.berthLimit (2 * (v + 1)))) x)))) (Od.key (0x2440 + m) 1))

/-- Code 0x12: admission (R129). -/
def admissionFaults (t : State) : List CommitFault :=
  match firstRefused t.admission.1 with
  | some x => [(streamRec x.v + x.sub, x.v)]
  | none => []

/-- The first fault of the staging copy: its code of R355, the entry and the detail. -/
def commitFault (s : State) : Option (Nat × CommitFault) :=
  let t := s.asStaged
  let first (code : Nat) (l : State → List CommitFault) (rest : Unit → Option (Nat × CommitFault)) : Option (Nat × CommitFault) :=
    match l t with | x :: _ => some (code, x) | [] => rest ()
  if s.dict.staging = [] then some (1, (0, 0))
  else if s.int 0x340101 = 2 ∨ s.int 0x210001 ≠ 0 then some (2, (0, 0))
  else
    first 3 (fun t => t.videoRelations ++ t.timeRelations ++ t.canRelations ++ t.fieldRelations ++ t.logRelations) fun _ =>
    first 4 selectorFaults fun _ => first 5 cameraFaults fun _ => first 6 ingestFaults fun _ =>
    first 7 pipelineFaults fun _ => first 8 meshFaults fun _ => first 9 viewFaults fun _ =>
    first 0xA compositionFaults fun _ => first 0xB overlayFaults fun _ => first 0xC overlayMemoryFaults fun _ =>
    first 0xD displayFaults fun _ => first 0xE storeFaults fun _ => first 0xF pulseFaults fun _ =>
    first 0x10 domainFaults fun _ => first 0x11 templateFaults fun _ => first 0x12 admissionFaults fun _ => none

end State

end Sys2Proof.Machine
end

