-- ==== Sys2Proof/Machine/Lock.lean ====
section
/-!
DEFINITION. The lock (R417 to R438): host requests through BAR2, the messages between devices, the exchange memory and
the regions, prefetched lines, back-off, failures with their FIFO, the fence and the event summaries.
-/

namespace Sys2Proof.Machine

/-- The bytes of a LOCK message: its header and its data padded to 4 (R422). -/
def lockBytes (m : LockMsg) : Nat := 16 + (m.data.length + 2 * m.tags.length + 3) / 4 * 4

/-- The offsets of EG_CLAIM in the remotely visible space (R419). -/
def claimOffsets : List Nat := [0x40980, 0x40990, 0x409A0, 0x409B0]

/-- A range of bytes overlaps a register of 4 bytes. -/
def overlaps (o n reg : Nat) : Bool := decide (o < reg + 4) && decide (reg < o + n)

/-- An offset range lies in the exchange memory, or in the image of the EG_ and TM_ blocks (R419). -/
def inExchange (o n : Nat) : Bool := decide (o + n ≤ 0x40000)
def inImage (o n : Nat) : Bool := decide (0x40800 ≤ o) && decide (o + n ≤ 0x40B00)

/-- Base, size and permissions of a region descriptor (R438). -/
def regionBase (d : Nat) : Nat := d % 2 ^ 20
def regionSize (d : Nat) : Nat := d / 2 ^ 20 % 2 ^ 20
def inRegion (d o n : Nat) : Bool :=
  decide (regionSize d ≠ 0) && decide (regionBase d ≤ o) && decide (o + n ≤ regionBase d + regionSize d)

/-- A byte write respects its enables. -/
def enabled (e : List Bool) (i : Nat) : Bool := e.getD i true

namespace State

def setLock (s : State) (x : Lock) : State := { s with lock := x }

/-! ### Own regions (R419, R420) -/

/-- The failure cause of an access to the own space, 0 for none: unmapped, or outside a permitting region. -/
def regionCause (s : State) (o n : Nat) (write : Bool) : Nat :=
  if !(inExchange o n) && !(inImage o n) then 1
  else if (List.range 8).any (fun i =>
      let d := s.nat (0x360088 + i)
      inRegion d o n && d.testBit (if write then 41 else 40)) then 0
  else 2

/-- A DW of the image written (R408, R412), as the device's own host writes it. -/
def imageWrite (s : State) (o : Nat) (v : Word32) : State :=
  let w := o % 0x20 / 4
  if o < 0x820 then s
  else if o < 0x840 then s.egPendSet w v
  else if o < 0x860 then s.egPendClr w v
  else if o < 0x880 then s
  else if o < 0x8A0 then s.egMask w v true
  else if o < 0x8C0 then s.egMask w v false
  else if o < 0x8E0 then s
  else if o < 0x900 then s.egOvr w v true
  else if o < 0x920 then s.egOvr w v false
  else if o < 0x940 then s
  else if o < 0x980 then s.egRoute ((o - 0x940) / 4) v
  else if o < 0x9C0 then
    let t := (o - 0x980) / 16
    if o % 16 = 4 then s.egDone t (v.toNat % 256) else if o % 16 = 8 then s.egControl t v else s
  else if o = 0xA00 then (if v = 1 then s.tmSnap else s)
  else s

/-- The exchange memory takes a write, whole (R419). -/
def exchangeWrite (m : List Host.Cell) (o : Nat) (data : List Byte) (e : List Bool) : List Host.Cell :=
  (List.range data.length).foldl (fun m i => if enabled e i then memWrite m (o + i) (data.getD i 0) else m) m

/-- A write to the own space that its regions permit. A DW of the image not written whole is ignored (R399). -/
def localWrite (s : State) (o : Nat) (data : List Byte) (e : List Bool) : State :=
  if inExchange o data.length then s.setLock { s.lock with exchange := exchangeWrite s.lock.exchange o data e }
  else
    let first := o / 4
    let last := (o + data.length - 1) / 4
    (List.range (last + 1 - first)).foldl (fun s i =>
      let a := 4 * (first + i)
      let whole := (List.range 4).all (fun j => decide (o ≤ a + j) && decide (a + j < o + data.length) && enabled e (a + j - o))
      if whole then s.imageWrite (a - 0x40000) (BitVec.ofNat 32 (field data (a - o) 4)) else s.hostIgnored) s

/-- The BAR0 offset of a DW of the own space in the image of BAR0 at 0x40000 (R419). -/
def imageOffset (dw : Nat) : Nat := 4 * dw % 0x40000

/-- A read of the own space that its regions permit: its bytes, with every side effect. -/
def localRead (s : State) (o n : Nat) : State × List Byte :=
  if inExchange o n then (s, memReadAll s.lock.exchange o n)
  else
    let first := o / 4
    let last := (o + n - 1) / 4
    let p := (List.range (last + 1 - first)).foldl (fun (p : State × List Byte) i =>
      let r := p.1.gateRead (imageOffset (first + i))
      (r.1, p.2 ++ le 4 r.2)) (s, [])
    (p.1, slice p.2 (o - 4 * first) n)

/-! ### Failures and the fence (R431 to R433) -/

/-- A failure enters the error FIFO, is counted and logged (R432). -/
def lockFailure (s : State) (e : LockErr) : State :=
  let s := (s.bump 0x360097).report 37 0x0105 e.cause e.berth e.offset
  if s.lock.errs.length < 64 then
    let first := decide (s.lock.errs = [])
    let s := s.setLock { s.lock with errs := s.lock.errs ++ [e] }
    if first then s.gateEvent 195 else s.lockLevel
  else ((s.bump 0x360098).setLock { s.lock with overflow := true }).gateEvent 196

/-- A fence completes once no covered write is left (R433). -/
def fenceCheck (s : State) : State :=
  let x := s.lock
  if x.fencePending ∧ x.tx.any (fun t => t.fence) = false then
    (s.setLock { x with fencePending := false, fenceFailed := x.fenceBad, fenceBad := false }).gateEvent 197
  else s

/-- A request gives its tag back, and its message is taken out of the queue. -/
def dropTx (s : State) (t : LockTx) : State :=
  let x := s.lock
  s.setLock { x with
    tx := x.tx.filter (fun y => decide (y.tag ≠ t.tag))
    outbox := x.outbox.filter (fun o => !((o.kind == .write || o.kind == .read) && decide (o.m.tag = t.tag))) }

/-- The completion of a host read of BAR2 (R418), by the unit whose host asks (R435): `own` here. -/
def completeRead (s : State) (own : Bool) (offset : Nat) (data : List Byte) : State := if own then s.emit (.bar2 offset data) else s

/-- All ones, for a failed read. -/
def allOnes (n : Nat) : List Byte := List.replicate n 0xFF

/-- A request fails with a cause (R431, R432). -/
def failTx (s : State) (cause : Nat) (t : LockTx) : State :=
  let s := s.dropTx t
  let s := match t.host with | some (o, n) => s.completeRead true o (allOnes n) | none => s
  let s := if t.fence then s.setLock { s.lock with fenceBad := true } else s
  let e : LockErr := { tag := t.tag, read := t.read, prefetch := t.prefetch, berth := t.berth,
                       offset := ((t.berth - 1) * 2 ^ 20 + t.offset) % 2 ^ 26, cause := cause, retries := t.retries }
  (s.lockFailure e).fenceCheck

/-! ### Sending (R424) -/

/-- This device owns a LOCK slot of a table (R150). -/
def ownsLock (s : State) (k : Nat) : Bool :=
  (s.tableAt k).any (fun x => decide (x.ptype = 6 ∧ s.senderBerth 0 x 0 = some s.ownBerth))

/-- The tables a message to a berth travels in: every driven channel, toward the berth, or both ways to every berth. -/
def lockLanes (s : State) (berth : Nat) : List Nat :=
  ([Chan.a, Chan.b].filter s.drives).flatMap (fun c =>
    let k := match c with | .a => 0 | .b => 2
    (if berth = 0 ∨ s.ownBerth < berth then [k] else []) ++ (if (berth : Int) < s.ownBerth then [k + 1] else []))

/-- A message leaves one egress in open water. -/
def lockOpenWater (s : State) (kind : LockType) (dest berth : Nat) (m : LockMsg) (k : Nat) : State :=
  let p := s.egressPort (k / 2) (k % 2)
  if s.linkUpState p = true ∧ s.isButty = false then
    let payload := padded (lockMessage kind dest berth m)
    (s.emit (.lock kind dest berth m)).owQueueUp p { otype := .lock, bytes := payload.length, own := some payload }
  else s

/-- A message joins the queue; where the active mode has no slot of its own for it, it goes in open water. -/
def sendLock (s : State) (kind : LockType) (dest berth : Nat) (m : LockMsg) : State :=
  let lanes := s.lockLanes berth
  let slots := lanes.filter s.ownsLock
  let s := (lanes.filter (fun k => !(s.ownsLock k))).foldl (fun s k => s.lockOpenWater kind dest berth m k) s
  if slots = [] then s
  else s.setLock { s.lock with outbox := s.lock.outbox ++ [{ kind := kind, dest := dest, berth := berth, m := m, left := slots }] }

/-- The message of a request. -/
def txMessage (s : State) (t : LockTx) : LockMsg :=
  { origin := BitVec.ofNat 64 s.fuses.identity, originBerth := s.ownBerth.toNat, prefetch := t.prefetch, length := t.length,
    tag := t.tag, offset := t.offset, destination := BitVec.ofNat 64 (t.dest % 2 ^ 32), data := t.data, enables := t.enables }

/-- A request is sent, or sent again: an action of class 7 (R288). -/
def sendTx (s : State) (t : LockTx) : State :=
  let kind : LockType := if t.read then .read else .write
  (s.act 7 (lockMessage kind t.dest t.berth (s.txMessage t))).sendLock kind t.dest t.berth (s.txMessage t)

/-- The messages a LOCK slot of a table carries: from the head of the queue, as many as its payload holds. The butty
leaves the sending to the motor (R435). -/
def lockSlot (s : State) (k capacity : Nat) : State × List Byte :=
  let mine := s.lock.outbox.filter (fun o => decide (k ∈ o.left))
  let taken := (mine.foldl (fun (p : List LockOut × Nat × Bool) o =>
    let n := p.2.1 + lockBytes o.m
    if p.2.2 && decide (n ≤ capacity) then (p.1 ++ [o], n, true) else (p.1, p.2.1, false)) (([] : List LockOut), 0, true))
  let box := (s.lock.outbox.map (fun o => if taken.1.contains o then { o with left := o.left.erase k } else o)).filter
    (fun o => decide (o.left ≠ []))
  let s := s.setLock { s.lock with outbox := box }
  (taken.1.foldl (fun s o => if s.isButty then s else s.emit (.lock o.kind o.dest o.berth o.m)) s,
    if taken.1 = [] ∨ s.isButty then [] else padded (taken.1.flatMap (fun o => lockMessage o.kind o.dest o.berth o.m)))

/-- The reply to a message's origin. -/
def reply (s : State) (kind : LockType) (m : LockMsg) (f : LockMsg → LockMsg) : State :=
  let r : LockMsg := { origin := BitVec.ofNat 64 s.fuses.identity, originBerth := s.ownBerth.toNat, length := 0, tag := m.tag,
                       offset := m.offset, destination := BitVec.ofNat 64 (m.origin.toNat % 2 ^ 32), data := [] }
  s.sendLock kind m.origin.toNat m.originBerth (f r)

/-- A tag joins the batch of a kind that still waits for the origin, or opens one (R426, R430). -/
def batch (s : State) (kind : LockType) (m : LockMsg) : State :=
  let same (o : LockOut) : Bool := o.kind == kind && decide (o.dest = m.origin.toNat) &&
    decide (o.left = (s.lockLanes o.berth).filter s.ownsLock)
  if s.lock.outbox.any same then
    let box := s.lock.outbox.map (fun o =>
      if same o then { o with m := { o.m with tags := o.m.tags ++ [m.tag], length := o.m.length + 2 } } else o)
    s.setLock { s.lock with outbox := box }
  else s.reply kind m (fun r => { r with tags := [m.tag], length := 2 })

/-! ### Prefetched lines (R428, R429) -/

/-- The first EG_CLAIM of a line that no host read was served from. -/
def unserved (l : LockLine) : Option Nat :=
  if l.sensitive then
    claimOffsets.find? (fun r => overlaps l.base l.data.length r && !(l.served.any (fun q => overlaps q.1 q.2 r)))
  else none

/-- A line is discarded: unread ones are counted, and the loss of a read-sensitive value is logged (R429). -/
def discardLine (s : State) (l : LockLine) : State :=
  let s := s.setLock { s.lock with lines := s.lock.lines.erase l }
  let s := if l.used then s else s.bump 0x360099
  match unserved l with
  | none => s
  | some r =>
    let e : LockErr := { tag := l.tag, read := true, prefetch := true, berth := l.berth,
                         offset := ((l.berth - 1) * 2 ^ 20 + r) % 2 ^ 26, cause := 9, retries := 0, dw := field l.data (r - l.base) 4 }
    ((s.bump 0x36009A).lockFailure e).gateEvent 199

/-- Lines that an own posted write touches. -/
def discardWritten (s : State) (dest o n : Nat) : State :=
  (s.lock.lines.filter (fun l => decide (l.dest = dest ∧ o < l.base + l.data.length ∧ l.base < o + n))).foldl discardLine s

/-- The passages from a line's arrival to the one in progress. -/
def lineAge (s : State) (l : LockLine) : Int :=
  ((s.flight : Int) - l.flight) * 64 + s.passage - l.passage

/-- The lines whose passage after arrival has ended. -/
def expireLines (s : State) : State :=
  (s.lock.lines.filter (fun l => decide (2 ≤ s.lineAge l))).foldl discardLine s

/-- The descriptors declared by a berth (R421). -/
def declaredOf (s : State) (b : Nat) : List Nat := Tab.get [] s.lock.declared b

/-- The prefetchable region of a berth that holds a read. -/
def prefetchRegion (s : State) (b o n : Nat) : Option Nat :=
  (s.declaredOf b).find? (fun d => inRegion d o n && d.testBit 40 && d.testBit 42)

/-! ### Host requests (R417, R418, R425, R427) -/

/-- The identity at a berth (R417). -/
def berthIdentity (s : State) (b : Nat) : Nat := field (s.bytes 0x223001) (8 * (b - 1)) 8

/-- The lowest free tag of a kind: 0 to 255 for writes, 256 to 319 for reads. -/
def freeTag (s : State) (read : Bool) : Option Nat :=
  let (base, n) := if read then (256, 64) else (0, 256)
  ((List.range n).map (base + ·)).find? (fun t => !(s.lock.tx.any (fun x => decide (x.tag = t))))

/-- A request that fails before it holds a tag. -/
def refuseHost (s : State) (read own : Bool) (offset n cause : Nat) : State :=
  let s := if read then s.completeRead own offset (allOnes n) else s
  let e : LockErr := { tag := (s.freeTag read).getD 0, read := read, prefetch := false, berth := offset / 2 ^ 20 + 1,
                       offset := offset, cause := cause, retries := 0 }
  s.lockFailure e

/-- The cause at acceptance of a request (R418, R417, R431), 0 for none. -/
def acceptCause (s : State) (offset n : Nat) : Nat :=
  let b : Nat := offset / 2 ^ 20 + 1
  if n = 0 ∨ 256 < n ∨ 2 ^ 20 < offset % 2 ^ 20 + n then 0x0A
  else if (b : Int) = s.ownBerth then 0
  else if s.berthIdentity b = 0 then 3
  else if 1 ≤ s.mooring.stage then 8
  else 0

/-- A host write into BAR2. -/
def bar2Write (s : State) (offset : Nat) (data : List Byte) (e : List Bool) : State :=
  let b : Nat := offset / 2 ^ 20 + 1
  let o := offset % 2 ^ 20
  let cause := s.acceptCause offset data.length
  if cause ≠ 0 then s.refuseHost false true offset data.length cause
  else if (b : Int) = s.ownBerth then
    let c := s.regionCause o data.length true
    if c = 0 then s.localWrite o data e else s.refuseHost false true offset data.length c
  else
    match s.freeTag false with
    | none => s
    | some tag =>
      let dest := s.berthIdentity b
      let t : LockTx := { tag := tag, read := false, dest := dest, berth := b, offset := o, length := data.length,
                          data := data, enables := e, at_ := s.clock.counter }
      let s := (s.discardWritten dest o data.length).bump 0x360093
      (s.setLock { s.lock with tx := s.lock.tx ++ [t] }).sendTx t

/-- A read under a read tag: the host's own, or of a line. -/
def issueRead (s : State) (b dest o n : Nat) (prefetch : Bool) (host : Option (Nat × Nat)) : State :=
  match s.freeTag true with
  | none => s
  | some tag =>
    let t : LockTx := { tag := tag, read := true, prefetch := prefetch, dest := dest, berth := b, offset := o, length := n,
                        at_ := s.clock.counter, host := host }
    ((s.bump 0x360094).setLock { s.lock with tx := s.lock.tx ++ [t] }).sendTx t

/-- The line that covers a read. -/
def lineOf (s : State) (dest o n : Nat) : Option LockLine :=
  s.lock.lines.find? (fun l => decide (l.dest = dest ∧ l.base ≤ o ∧ o + n ≤ l.base + l.data.length))

/-- A host read is served from a line. -/
def serveLine (s : State) (own : Bool) (l : LockLine) (offset o n : Nat) : State :=
  let m : LockLine := { l with used := true, served := l.served ++ [(o, n)] }
  (s.setLock { s.lock with lines := s.lock.lines.map (fun x => if x = l then m else x) }).completeRead own offset (slice l.data (o - l.base) n)

/-- A host read of BAR2: local, from a line, through the prefetcher, or plain. -/
def bar2Read (s : State) (own : Bool) (offset n : Nat) : State :=
  let b : Nat := offset / 2 ^ 20 + 1
  let o := offset % 2 ^ 20
  let cause := s.acceptCause offset n
  if cause ≠ 0 then s.refuseHost true own offset n cause
  else if (b : Int) = s.ownBerth then
    let c := s.regionCause o n false
    if c = 0 then let p := s.localRead o n; p.1.completeRead own offset p.2 else s.refuseHost true own offset n c
  else
    let dest := s.berthIdentity b
    match s.lineOf dest o n with
    | some l => s.serveLine own l offset o n
    | none =>
      let host := if own then some (offset, n) else none
      let base := o / 256 * 256
      match if s.flag 0x360086 ∧ o + n ≤ base + 256 then s.prefetchRegion b o n else none with
      | some d =>
        if inRegion d base 256 then
          let s := s.issueRead b dest base 256 true host
          if inRegion d (base + 256) 256 then s.issueRead b dest (base + 256) 256 true none else s
        else s.issueRead b dest o n false host
      | none => s.issueRead b dest o n false host

/-- A request to BAR2 acts: of the own host, or of the partner's. -/
def bar2Take (s : State) (own : Bool) (x : Bar2Access) : State :=
  match x with
  | .write o d e => s.bar2Write o d e
  | .read o n => s.bar2Read own o n

/-- A request needs a tag, and none of its kind is free (R425, R427). -/
def bar2Waits (s : State) (x : Bar2Access) : Bool :=
  let of (offset n : Nat) (read : Bool) : Bool :=
    decide (s.acceptCause offset n = 0 ∧ ((offset / 2 ^ 20 + 1 : Nat) : Int) ≠ s.ownBerth) && (s.freeTag read).isNone
  match x with
  | .write o d _ => of o d.length false
  | .read o n => of o n true

/-- A host request (R425): behind those that wait, and after them while it finds no tag. -/
def bar2Request (s : State) (own : Bool) (x : Bar2Access) : State :=
  if s.lock.held = [] ∧ s.bar2Waits x = false then s.bar2Take own x
  else s.setLock { s.lock with held := s.lock.held ++ [(own, x)] }

/-- Requests that wait go on as tags become free, in their order. -/
def releaseHeld (s : State) : State :=
  (List.range s.lock.held.length).foldl (fun s _ =>
    match s.lock.held with
    | [] => s
    | (own, x) :: t => if s.bar2Waits x then s else (s.setLock { s.lock with held := t }).bar2Take own x) s

/-! ### Messages in -/

/-- A message is for this device: its identity's low 32 bits, or every berth (R422). -/
def lockForMe (s : State) (m : LockMsg) : Bool :=
  decide (m.destination.toNat = 0 ∨ m.destination.toNat = s.fuses.identity % 2 ^ 32)

/-- The device accepts requests (R431, code 0x08). -/
def lockOpen (s : State) : Bool := s.flag 0x360080 && !s.isPassive && decide (s.mooring.stage < 1)

/-- A request is refused into the origin's bitmap (R430). -/
def refuseLock (s : State) (m : LockMsg) : State :=
  let l := Tab.get [] s.lock.refused m.origin.toNat
  let s := s.setLock { s.lock with refused := Tab.set [] s.lock.refused m.origin.toNat (if l.contains m.tag then l else l ++ [m.tag]) }
  (s.bump 0x360096).batch .retry m

/-- A request that may run: the oldest refused one is taken off the bitmap when it arrives again. -/
def admitLock (s : State) (m : LockMsg) (free : Bool) (act : State → State) : State :=
  let l := Tab.get [] s.lock.refused m.origin.toNat
  let blocked := match l.head? with | some t => decide (t ≠ m.tag) | none => false
  if free = false ∨ blocked = true then s.refuseLock m
  else act (s.setLock { s.lock with refused := Tab.set [] s.lock.refused m.origin.toNat (l.erase m.tag) })

/-- A failed inbound request is reported (R430, R431). -/
def reportLock (s : State) (m : LockMsg) (cause : Nat) : State := s.reply .report m (fun r => { r with cause := cause })

/-- The cause an inbound request fails with, 0 for none. `ecc`: the exchange memory it touches holds an uncorrectable
error. -/
def inboundCause (s : State) (m : LockMsg) (n : Nat) (write ecc : Bool) : Nat :=
  if !s.lockOpen then 8
  else if s.regionCause m.offset n write ≠ 0 then s.regionCause m.offset n write
  else if ecc && inExchange m.offset n then 7 else 0

/-- An inbound WRITE (R426). -/
def writeIn (s : State) (m : LockMsg) (free ecc : Bool) : State :=
  s.admitLock m free fun s =>
    let c := s.inboundCause m m.data.length true ecc
    if c ≠ 0 then s.reportLock m c
    else ((s.localWrite m.offset m.data m.enables).bump 0x36009B).batch .ack m

/-- An inbound READ (R427, R429). -/
def readIn (s : State) (m : LockMsg) (free ecc : Bool) : State :=
  s.admitLock m free fun s =>
    let c := s.inboundCause m m.length false ecc
    if c ≠ 0 then s.reportLock m c
    else
      let p := s.localRead m.offset m.length
      let sensitive := claimOffsets.any (overlaps m.offset m.length)
      (p.1.bump 0x36009B).reply .readData m (fun r =>
        { r with data := p.2, length := p.2.length, prefetch := m.prefetch, readSensitive := sensitive })

/-- The request a message answers: its tag, at its destination. -/
def txOf (s : State) (m : LockMsg) (tag : Nat) : Option LockTx :=
  s.lock.tx.find? (fun t => decide (t.tag = tag ∧ t.dest = m.origin.toNat))

/-- READ_DATA (R427, R428): the host read completes, and a prefetched line is kept; a newer line takes the place of the
oldest. -/
def readDataIn (s : State) (m : LockMsg) : State :=
  match s.txOf m m.tag with
  | none => s
  | some t =>
    if t.read = false then s
    else
      let s := s.dropTx t
      if t.prefetch then
        let s := if s.lock.lines.length < 16 then s
          else match s.lock.lines with | l :: _ => s.discardLine l | [] => s
        let l : LockLine := { berth := t.berth, dest := t.dest, base := t.offset, data := m.data, sensitive := m.readSensitive,
                              flight := s.flight, passage := s.passage, tag := t.tag }
        let s := s.setLock { s.lock with lines := s.lock.lines ++ [l] }
        (match t.host with | some (o, n) => s.serveLine true l o (o % 2 ^ 20) n | none => s).releaseHeld
      else (match t.host with | some (o, _) => s.completeRead true o m.data | none => s).releaseHeld

/-- ACK (R426). -/
def ackIn (s : State) (m : LockMsg) : State :=
  (m.tags.foldl (fun s tag => match s.txOf m tag with
    | some t => if t.read then s else s.dropTx t
    | none => s) s).fenceCheck.releaseHeld

/-- REPORT (R431). -/
def reportIn (s : State) (m : LockMsg) : State :=
  match s.txOf m m.tag with | some t => (s.failTx m.cause t).releaseHeld | none => s

/-- RETRY (R430): counted; a request refused more often than the limit fails, the others are sent again from the next
passage. -/
def retryIn (s : State) (m : LockMsg) : State :=
  (m.tags.foldl (fun s tag => match s.txOf m tag with
    | none => s
    | some t =>
      let t' := { t with retries := t.retries + 1, refused := true }
      let s := (s.bump 0x360095).setLock { s.lock with tx := s.lock.tx.map (fun x => if x.tag = t.tag then t' else x) }
      if s.nat 0x360083 < t'.retries then s.failTx 5 t' else s) s).releaseHeld

/-- DECLARE (R421): the descriptors, and 0x3600:90. -/
def declareIn (s : State) (m : LockMsg) : State :=
  let l := (List.range 8).map (fun i => (slice m.data (8 * i) 8).foldl (fun n b => n * 256 + b.toNat) 0)
  let s := s.setLock { s.lock with declared := Tab.set [] s.lock.declared m.originBerth l }
  s.putBytes 0x360090 (s.lock.declared.flatMap (fun p => le 1 p.1 ++ p.2.flatMap (fun (d : Nat) => le 8 d)))

/-- The own summary bit (R434). -/
def summaryBit (s : State) : Bool :=
  let mask := s.bytes 0x360085
  (List.range 256).any (fun i => (mask.getD (i / 8) 0).getLsbD (i % 8) && (Gate.has s.gate.pend i || Gate.has s.gate.inServ i))

/-- SUMMARY_POLL. -/
def pollIn (s : State) (m : LockMsg) : State :=
  s.reply .summary m (fun r => { r with data := [if s.summaryBit then 1 else 0], length := 1 })

/-- SUMMARY: the bit of a berth in this passage. -/
def summaryIn (s : State) (m : LockMsg) : State :=
  let bit := 2 ^ (m.originBerth - 1)
  let on := (m.data.getD 0 0).getLsbD 0
  s.setLock { s.lock with
    answered := Nat.lor s.lock.answered bit,
    got := if on then Nat.lor s.lock.got bit else s.lock.got - Nat.land s.lock.got bit }

/-- The summary in force; source 198 as it turns from zero to non-zero (R434). -/
def setSummary (s : State) (v : Nat) : State :=
  let rises := decide (s.lock.summary = 0 ∧ v ≠ 0)
  let s := s.setLock { s.lock with summary := v }
  if rises then s.gateEvent 198 else s

/-- A berth has been silent for 4 passages: its bit clears, and its stale bit is set. -/
def summaryStale (s : State) (b : Nat) : State :=
  if 4 ≤ Tab.get 0 s.lock.silent b then
    let bit := 2 ^ (b - 1)
    (s.put 0x36009D (Nat.lor (s.nat 0x36009D) bit : Nat)).setSummary (s.lock.summary - Nat.land s.lock.summary bit)
  else s

/-- The members other than this device, by the berth table. -/
def otherBerths (s : State) : List Nat :=
  ((List.range 64).map (· + 1)).filter (fun b => decide (s.berthIdentity b ≠ 0 ∧ (b : Int) ≠ s.ownBerth))

/-! ### Passage starts, boundaries, mooring -/

/-- A passage ends and the next begins (R424, R430, R434): the bits received are written, refused requests are sent again,
and the berths are polled. -/
def lockPassage (s : State) : State :=
  let x := s.lock
  let on := s.flag 0x360084
  let keep := x.summary - Nat.land x.summary x.answered
  let silent := if on then s.otherBerths.foldl (fun (t : Tab Nat) b =>
    if x.answered.testBit (b - 1) then Tab.set 0 t b 0 else Tab.set 0 t b (Tab.get 0 t b + 1)) x.silent else []
  let s := if on then s.setSummary (Nat.lor keep x.got) else s
  let s := s.put 0x36009D ((s.nat 0x36009D - Nat.land (s.nat 0x36009D) x.answered : Nat) : Int)
  let s := s.setLock { s.lock with got := 0, answered := 0, seen := [], silent := silent }
  let again := s.lock.tx.filter (fun t => t.refused)
  let s := s.setLock { s.lock with tx := s.lock.tx.map (fun t => { t with refused := false }) }
  let s := again.foldl sendTx s
  if on then s.sendLock .summaryPoll 0 0
    { origin := BitVec.ofNat 64 s.fuses.identity, originBerth := s.ownBerth.toNat, length := 0, tag := 0, offset := 0,
      destination := 0, data := [] }
  else s

/-- A making-up has applied (R421): the declarations of another hash go, and the own regions are declared. -/
def lockApplied (s : State) (hashChanged : Bool) : State :=
  let s := if hashChanged then (s.setLock { s.lock with declared := [] }).putBytes 0x360090 [] else s
  s.sendLock .declare 0 0
    { origin := BitVec.ofNat 64 s.fuses.identity, originBerth := s.ownBerth.toNat, length := 64, tag := 0, offset := 0,
      destination := 0, data := (List.range 8).flatMap (fun i => be 8 (s.nat (0x360088 + i))) }

/-- Requests to an identity that is no longer a member (R431, R435). -/
def lockMembers (s : State) : State :=
  (s.lock.tx.filter (fun t => !(s.otherBerths.any (fun b => decide (s.berthIdentity b = t.dest))))).foldl (failTx · 4 ·) s |>.releaseHeld

/-- Step 1 of R268 (R436): every queued request fails. -/
def lockMooring (s : State) : State := (s.lock.tx.foldl (failTx · 8 ·) s).releaseHeld

/-- After a takeover every request without an answer is sent again (R435). -/
def lockResend (s : State) : State := s.lock.tx.foldl sendTx s

/-! ### Registers (R437) -/

/-- LK_FENCE written with 1. -/
def lockFence (s : State) : State :=
  let x := s.lock
  (s.setLock { x with
    fencePending := true, fenceBad := x.fencePending && x.fenceBad,
    tx := x.tx.map (fun t => if t.read then t else { t with fence := true }) }).fenceCheck

/-- LK_ERR_POP written with 1: the oldest entry goes; a pop that empties the FIFO clears OVERFLOW. -/
def lockPop (s : State) : State :=
  let l := s.lock.errs.drop 1
  (s.setLock { s.lock with errs := l, overflow := s.lock.overflow && decide (l ≠ []) }).lockLevel

/-- Write and read tags held. -/
def writesOut (s : State) : Nat := (s.lock.tx.filter (fun t => !t.read)).length
def readsOut (s : State) : Nat := (s.lock.tx.filter (fun t => t.read)).length

/-- A read of the LK_ block. -/
def lockRegister (s : State) (o : Nat) : Nat :=
  let x := s.lock
  let bit (b : Bool) (i : Nat) : Nat := if b then 2 ^ i else 0
  let head := x.errs.head?
  if o = 0xB00 then s.writesOut + s.readsOut * 2 ^ 16 + bit (decide (256 ≤ s.writesOut)) 24 + bit x.overflow 25
  else if o = 0xB04 then bit x.fencePending 0 + bit x.fenceFailed 1
  else if o = 0xB08 then x.errs.length
  else if o = 0xB0C then
    head.elim 0 (fun e => e.tag % 512 + bit e.read 9 + bit e.prefetch 10 + e.berth % 128 * 2 ^ 16)
  else if o = 0xB10 then head.elim 0 (fun e => e.offset % 2 ^ 26)
  else if o = 0xB14 then head.elim 0 (fun e => e.cause % 256 + e.retries % 256 * 256)
  else if o = 0xB20 then x.summary % 2 ^ 32
  else if o = 0xB24 then x.summary / 2 ^ 32 % 2 ^ 32
  else 0

/-- 0x3600:9C: the error FIFO, oldest first. -/
def lockFifo (s : State) : List Byte :=
  s.lock.errs.flatMap (fun e => le 2 e.tag ++ le 1 e.berth ++ le 1 e.cause ++ le 1 (min e.retries 255 : Nat) ++ [0] ++ le 4 e.offset ++ le 4 e.dw)

/-- A host access to BAR2: over PCI Express alone (R401), and in a pair an input whose requests the motor sends. -/
def atBar2 (s : State) (x : Bar2Access) : Res :=
  .next (if s.isReady ∧ s.power.hostSel = 0 then s.replicate s.ctNow (.bar2 x) (·.bar2Request true x) else s)

/-- A lock message takes effect on both units of a pair alike, the first copy of it alone (R284, R424). -/
def lockMessage (s : State) (t : LockType) (m : LockMsg) (act : State → State) : State :=
  if s.lockForMe m then
    let k := (m.origin.toNat, t, m.tag)
    if s.lock.seen.contains k then s
    else
      let s := s.setLock { s.lock with seen := s.lock.seen ++ [k] }
      s.replicateShared s.ctNow (.lock t m) act
  else s

/-- An uncorrectable word outside the firmware working memory (R518): a slice is dropped as malformed, a lock transaction
fails with cause 7, and data of no rule is gone. -/
def sramLost (s : State) (x : SramData) : State :=
  match x with
  | .other => s
  | .lock tag => match s.lock.tx.find? (fun t => decide (t.tag = tag)) with | some t => (s.failTx 7 t).releaseHeld | none => s
  | .slice stream inst frame index =>
    let is (h : SliceHeader) : Bool := decide (h.stream = stream ∧ h.instanceNo = inst ∧ h.frame.toNat = frame ∧ h.index = index)
    let clear (d : Display) : Display := { d with regions := d.regions.map (fun r =>
      (r.1, { r.2 with incoming := r.2.incoming.filter (fun c => !(is c.2.h)), held := r.2.held.filter (fun c => !(is c.2.h)) })) }
    ({ s.bump 0x2C000A with slices := { s.slices with
      out := s.slices.out.filter (fun o => !(is o.h)), incoming := s.slices.incoming.filter (fun x => !(is x.h))
      forward := s.slices.forward.filter (fun x => !(is x.h)), displays := s.slices.displays.map (fun d => (d.1, clear d.2)) } } : State)

/-- What a message does that waited for its passage start in a pair (R284): its queue entries are free by then. -/
def lockActed (s : State) (t : LockType) (m : LockMsg) : State :=
  match t with
  | .write => s.writeIn m true false
  | .read => s.readIn m true false
  | .readData => s.readDataIn m
  | .ack => s.ackIn m
  | .report => s.reportIn m
  | .retry => s.retryIn m
  | .declare => s.declareIn m
  | .summaryPoll => s.pollIn m
  | .summary => s.summaryIn m

end State

/-! ### The commands -/

/-- BAR2_WRITE: the offset, the bytes and their enables. -/
def execBar2Write (offset : Fin 67108864) (data : List Byte) (enables : List Bool) (s : State) : Res :=
  s.atBar2 (.write offset data enables)

/-- BAR2_READ: the offset and the bytes wanted. -/
def execBar2Read (offset : Fin 67108864) (n : Nat) (s : State) : Res := s.atBar2 (.read offset n)

/-- WRITE: whether an entry of the inbound queue is free (R430), and whether the memory it touches holds an uncorrectable
error (R431). -/
def execWrite (m : LockMsg) (free ecc : Bool) (s : State) : Res :=
  .next (s.served fun s => s.lockMessage .write m (·.writeIn m free ecc))

/-- READ: as WRITE, with a response buffer free too. -/
def execRead (m : LockMsg) (free ecc : Bool) (s : State) : Res :=
  .next (s.served fun s => s.lockMessage .read m (·.readIn m free ecc))

/-- READ_DATA. -/
def execReadData (m : LockMsg) (s : State) : Res := .next (s.served fun s => s.lockMessage .readData m (·.readDataIn m))

/-- ACK. -/
def execAck (m : LockMsg) (s : State) : Res := .next (s.served fun s => s.lockMessage .ack m (·.ackIn m))

/-- REPORT. -/
def execReport (m : LockMsg) (s : State) : Res := .next (s.served fun s => s.lockMessage .report m (·.reportIn m))

/-- RETRY. -/
def execRetry (m : LockMsg) (s : State) : Res := .next (s.served fun s => s.lockMessage .retry m (·.retryIn m))

/-- DECLARE. -/
def execDeclare (m : LockMsg) (s : State) : Res := .next (s.served fun s => s.lockMessage .declare m (·.declareIn m))

/-- SUMMARY_POLL. -/
def execSummaryPoll (m : LockMsg) (s : State) : Res :=
  .next (s.served fun s => s.lockMessage .summaryPoll m (·.pollIn m))

/-- SUMMARY. -/
def execSummary (m : LockMsg) (s : State) : Res := .next (s.served fun s => s.lockMessage .summary m (·.summaryIn m))

/-- SUMMARY_STALE: berth b + 1. -/
def execSummaryStale (b : Fin 64) (s : State) : Res := .next (s.served (·.summaryStale (b + 1)))

/-- LOCK_WRITE_TIMEOUT. -/
def execLockWriteTimeout (tag : Fin 256) (s : State) : Res :=
  .next (s.served fun s => match s.lock.tx.find? (fun t => decide (t.tag = tag.val)) with | some t => (s.failTx 6 t).releaseHeld | none => s)

/-- LOCK_READ_TIMEOUT: read tag 256 + n. -/
def execLockReadTimeout (n : Fin 64) (s : State) : Res :=
  .next (s.served fun s => match s.lock.tx.find? (fun t => decide (t.tag = n.val + 256)) with | some t => (s.failTx 6 t).releaseHeld | none => s)

/-- PREFETCH_LINE_EXPIRY. -/
def execPrefetchLineExpiry (s : State) : Res := .next (s.served (·.expireLines))

/-- LK_FENCE. -/
def execLkFence (v : Word32) (s : State) : Res := s.atHost (fun s => if v = 1 then s.lockFence else s)

/-- LK_ERR_POP. -/
def execLkErrPop (v : Word32) (s : State) : Res := s.atHost (fun s => if v = 1 then s.lockPop else s)

end Sys2Proof.Machine
end

