-- ==== Sys2Proof/Machine/Pair.lean ====
section
/-!
DEFINITION. Motor and butty (R276 to R306): the role and cross-disable pins, the pair states, the comparison of digests,
arbitration, takeover, planned exchange and resynchronisation. Times are ticks of 3.2 ns; 1 us is 313 of them.
-/

namespace Sys2Proof.Machine

/-- The ticks of 1 us (R280). -/
def ticks1us : Nat := 313

namespace State

/-- The pair with a change. -/
def setPair (s : State) (x : Pair) : State := { s with pair := x }

/-- The pair state (R304). -/
def pairState (s : State) : Int := s.int 0x300101
def toPairState (s : State) (v : Int) : State := s.put 0x300101 v

/-- This unit holds the motor role. -/
def isMotor (s : State) : Bool := s.pairing && decide (s.int 0x300102 = 1)

/-- The role as the pins show it (0x3001:02): motor, butty of a unit that holds it, or none. -/
def judgeRole (s : State) : State := s.put 0x300102 (if s.pair.roleOut then 1 else if s.pair.roleIn then 2 else 0)

/-- Pins and outputs after a change of the interlock: the role is judged, drivers and controllers follow (R280). -/
def interlock (s : State) : State :=
  let s := (s.judgeRole.emit (.pairPins s.pair.roleOut s.pair.xdisOut)).settle
  (List.range 4).foldl canPump s

/-- A requested role is claimed once both inputs have been low for 1 us (R280). -/
def claimNow (s : State) : State :=
  let x := s.pair
  if s.pairing ∧ x.request ∧ x.roleOut = false ∧ x.roleIn = false ∧ x.xdisIn = false ∧ x.lowAt + ticks1us ≤ s.clock.counter then
    (s.setPair { x with roleOut := true, request := false, outAt := s.clock.counter }).interlock
  else s

/-- Firmware requests the motor role (R280, R281). -/
def requestRole (s : State) : State := (s.setPair { s.pair with request := true }).claimNow

/-- PAIR_XDIS_OUT raised, unless PAIR_XDIS_IN is high, or released (R280). -/
def driveXdis (s : State) (on : Bool) : State :=
  let x := s.pair
  if on ∧ x.xdisIn then s
  else if on = x.xdisOut then s
  else (s.setPair { x with xdisOut := on, xdisAt := if on then s.clock.counter else x.xdisAt }).interlock

/-! ### Failures (R290, R292) -/

/-- The failures of the last 24 h of operating time. -/
def recentFailures (s : State) : List Nat := s.pair.failures.filter (fun t => decide (s.nat 0x200101 < t + 86400))

/-- A resynchronisation that runs ends without success. -/
def endResync (s : State) (result : Nat) : State := if s.opRunning 3 then s.opEnd 3 3 result else s

/-- This unit becomes FAILED, silent under R280. -/
def failSelf (s : State) (reason : Nat) : State :=
  if s.pairState = 7 then s
  else
    let f := s.recentFailures ++ [s.nat 0x200101]
    let s := s.setPair { s.pair with
      failures := f, roleOut := false, request := false, arbitrating := false, takeover := none, overlap := false, exchange := 0 }
    let s := ((s.toPairState 7).put 0x30010C reason).put 0x30010D (min 255 f.length : Nat)
    (((s.endResync reason).put 0x300404 0).storeStored).interlock

/-- The butty becomes FAILED (R290, R292): itself, or as the motor sees it, which stays ALONE and cross-disables it. -/
def buttyFails (s : State) (reason : Nat) : State :=
  let s := (s.bump 0x300205).storeStored
  let s := s.raise 229 reason 0 0
  if s.isMotor then
    let s := s.setPair { s.pair with partnerFailed := true, arbitrating := false, exchange := 0 }
    (((s.endResync reason).put 0x300404 0).toPairState 6).driveXdis true
  else s.failSelf reason

/-! ### Resynchronisation (R301, R302) -/

/-- The units start the image (R301, step 1). A butty of another firmware version FAILS with reason 5. -/
def enterResync (s : State) : State :=
  let s := (s.endResync 1).driveXdis false
  let s := s.setPair { s.pair with
    clean := 0, dirty := true, run := 0, missing := 0, arbitrating := false, exchange := 0, own := none, other := none }
  let s := ((((s.toPairState 2).put 0x300401 0).put 0x300402 0).put 0x300403 0).put 0x300404 1
  let s := (s.opStart 3 0).toPartner (.snapshot 0)
  if (s.pair.partnerFirmware : Int) ≠ s.int 0x200006 then s.buttyFails 5 else s

/-- A restart (R290): counted; the fourth in a row makes the butty FAILED with reason 6. -/
def restartResync (s : State) : State :=
  let n := s.pair.restarts + 1
  let s := ((s.setPair { s.pair with restarts := n }).bump 0x30020B).raise 231 0 0 n
  if 4 ≤ n then s.buttyFails 6 else s.enterResync

/-- The image has been sent (R301, step 3). One that the replication buffers cannot log restarts. -/
def snapshotSent (s : State) (kib : Nat) (tooLong : Bool) : State :=
  if s.pairState = 2 ∧ s.int 0x300404 = 1 then
    if tooLong then s.restartResync
    else ((((s.put 0x300401 7000).put 0x300402 kib).put 0x300403 kib).put 0x300404 2).opProgress 3 7000 kib kib
  else s

/-- The replay is level: digests count from this passage on (R301, step 4). The flight in progress is not a whole one. -/
def replayLevel (s : State) : State :=
  if s.pairState = 2 ∧ s.int 0x300404 = 2 then
    let s := (s.put 0x300401 8000).put 0x300404 3
    (s.setPair { s.pair with clean := 0, dirty := true }).opProgress 3 8000 (s.int 0x300402) (s.int 0x300403)
  else s

/-- A flight of RESYNC ends: a clean one adds 500, and the fourth brings the butty into step (R301, step 5, R302). -/
def cleanFlight (s : State) : State :=
  if s.pairState = 2 ∧ s.int 0x300404 = 3 then
    if s.pair.dirty then s.setPair { s.pair with dirty := false }
    else
      let n := s.pair.clean + 1
      let p : Int := 8000 + 500 * n
      let s := ((s.setPair { s.pair with clean := n }).put 0x300401 p).opProgress 3 p (s.int 0x300402) (s.int 0x300403)
      if n < 4 then s
      else
        let s := s.setPair { s.pair with restarts := 0, run := 0, missing := 0 }
        ((((s.toPairState 3).put 0x300404 0).bump 0x300208).opEnd 3 2 0).raise 230 0 0 0
  else s

/-! ### Forming (R276, R281, R290) -/

/-- The pair forms once the partner is known, the tow line up, and a unit holds the role. -/
def tryForm (s : State) : State :=
  let x := s.pair
  if s.pairState = 1 ∧ x.known ∧ x.up ∧ x.partnerFailed = false ∧ (x.roleOut ∨ x.roleIn) then
    (s.setPair { x with restarts := 0 }).enterResync
  else s

/-- The partner's hello (R276, R282): its identities, the unit in effect on a conflict of letters, and what its appearing
leads to. -/
def hello (s : State) (identity vehicle position unit firmware : Nat) (authenticated failed : Bool) : State :=
  if s.pair.up ∧ authenticated ∧ (vehicle : Int) = s.int 0x220001 ∧ (position : Int) = s.int 0x220003 then
    let own := s.fuses.identity
    let conflict := decide ((unit : Int) = s.int 0x300002)
    let a := if conflict then decide (own < identity) else s.unitA
    let s := { s with
      unitA := a
      pair := { s.pair with known := true, partnerFailed := failed, partnerFirmware := firmware } }
    let s := ((s.put 0x300104 identity).put 0x300105 ((min own identity + 2 ^ 63 : Nat) : Int)).put 0x300103
      ((if a then 1 else 2) + (if conflict then 128 else 0))
    if s.pairState = 1 then s.tryForm
    else if s.pairState = 2 then s.restartResync
    else if s.pairState = 6 ∧ failed = false then (s.setPair { s.pair with restarts := 0 }).enterResync
    else s
  else s

/-- Pairing starts as the boot completes (R281, R290): FAILED across resets at the failure limit, else FORMING; unit A
requests the role at once. -/
def startPair (s : State) : State :=
  if s.pairing then
    let s := (s.put 0x300103 (if s.unitA then 1 else 2)).put 0x30010D (min 255 s.recentFailures.length : Nat)
    if s.int 0x300006 ≤ s.recentFailures.length then (s.toPairState 7).interlock
    else
      let s := (s.toPairState 1).interlock
      if s.unitA then s.requestRole else s
  else s

/-- The claim delay of unit B has passed (R281). -/
def claimDelay (s : State) : State :=
  if s.pairing ∧ s.unitA = false ∧ s.pair.roleIn = false ∧ s.pair.roleOut = false ∧ s.pairState ≠ 7 then s.requestRole else s

/-- The pair has not formed 1 s after the boot (R290). -/
def formingTimeout (s : State) : State := if s.pairState = 1 then (s.toPairState 6).requestRole else s

/-! ### Takeover (R293 to R298) -/

/-- The butty loads its drivers with what the motor reported, or its own commands if DETACHED (R296, step 1). -/
def loadReported (s : State) : State :=
  if s.pairState = 5 then s
  else (List.range 16).foldl (fun s k =>
    if s.fioMode k = 2 ∧ s.fioRole k ≠ 5 then s.putFlag (fioSt k + 1) (s.pair.reported.getLsbD k) else s) s

/-- A takeover is decided (R293, R294, R296): only a butty in IN_STEP, IN_DOUBT or DETACHED takes over, and a second
decision during a takeover is ignored. -/
def takeover (s : State) (cause : Nat) : State :=
  if s.isButty ∧ 3 ≤ s.pairState ∧ s.pairState ≤ 5 ∧ s.pair.takeover = none then
    let s := (s.put 0x300108 cause).loadReported
    let s := s.setPair { s.pair with
      takeover := some (cause, s.clock.counter), overlap := true, arbitrating := false, run := 0 }
    (s.toPartner (.control 3)).settle
  else s

/-- The frames a controller has queued: its service queue and its requested buffers. -/
def queuedFrames (s : State) (c : Nat) : Nat := (s.canPort c).service.length + ([0, 1, 2].filter (s.requested c)).length

/-- Steps 3 to 5 of R296: the role, CAN transmit, the record of the takeover and its sample (R491). A planned exchange
releases PAIR_XDIS_OUT and stays IN_STEP (R300), unless the former motor has failed its check. -/
def becomeMotor (s : State) (cause began : Nat) : State :=
  let again := ((List.range 4).map s.queuedFrames).sum
  let planned := decide (cause = 4) && !s.pair.partnerFailed
  let s := s.setPair { s.pair with
    xdisOut := !planned, xdisAt := s.clock.counter, roleIn := false, roleOut := true, request := false,
    outAt := s.clock.counter, partnerFailed := !planned }
  let s := ((s.bumpBy 0x300209 again).bump 0x300204).interlock
  let s := s.put 0x30010A (if s.ctValid then s.ctNow else 0)
  let took : Nat := (s.clock.counter - began) * 32 / 10
  let s := (s.put 0x30010B took).histSample 23 took
  let s := if planned then s else s.toPairState 6
  let s := (List.range 2).foldl (fun s d => s.setDisp d { s.disp d with hold := 2 }) s
  (((s.storeStored).raise 250 cause 0 (s.nat 0x300107)).lockResend).toPartner (.control 4)

/-- The overlap ends (R296): the readback flags of step 2, and the steps that follow unless this unit is cross-disabled. -/
def overlapEnd (s : State) (notOn : BitVec 16) : State :=
  match s.pair.takeover with
  | none => s
  | some (cause, began) =>
    let s := (List.range 16).foldl (fun s k => if s.applied k && notOn.getLsbD k then s.setFlag k 7 true else s) s
    let s := s.setPair { s.pair with overlap := false, overlapAt := some s.clock.counter, takeover := none }
    if s.pair.xdisIn then s.settle else s.becomeMotor cause began

/-! ### The pins (R280) -/

/-- The inputs are both low from now. -/
def markLow (s : State) : State :=
  if s.pair.roleIn ∨ s.pair.xdisIn then s else s.setPair { s.pair with lowAt := s.clock.counter }

/-- PAIR_ROLE_IN rises: unit B drops a role it raised less than 1 us ago. -/
def roleInRise (s : State) : State :=
  let tie := s.pairing && s.pair.roleOut && decide (s.clock.counter < s.pair.outAt + ticks1us) && !s.unitA
  let s := s.setPair { s.pair with roleIn := true, roleOut := s.pair.roleOut && !tie }
  if s.pairing then s.interlock.tryForm else s

/-- PAIR_ROLE_IN falls: cause 2 of R293 unless this unit holds PAIR_XDIS_OUT. -/
def roleInFall (s : State) : State :=
  let was := s.pair.roleIn
  let s := if was && s.pairing && !s.pair.xdisOut then s.takeover 2 else s
  let s := (s.setPair { s.pair with roleIn := false }).markLow
  if s.pairing ∧ s.pair.takeover = none then s.interlock else s

/-- PAIR_XDIS_IN rises: the role is dropped and every output is silent. The former motor of a planned exchange goes on
as the butty (R300); otherwise the unit is FAILED with the reason of its own check, or 7 (R292, R304). -/
def xdisInRise (s : State) : State :=
  if s.pairing then
    let both := s.pair.xdisOut && decide (s.clock.counter < s.pair.xdisAt + ticks1us)
    let planned := decide (s.pair.exchange = 2)
    let reason := match s.pair.own with | some 0 => 7 | some r => r | none => 7
    let s := s.setPair { s.pair with
      xdisIn := true, roleOut := false, request := false, overlap := false,
      xdisOut := s.pair.xdisOut && !(both && !s.unitA) }
    if planned || (both && s.unitA) then s.interlock else s.interlock.failSelf reason
  else s.setPair { s.pair with xdisIn := true }

/-- PAIR_XDIS_IN falls: the silence is lifted, and a claim is allowed again. -/
def xdisInFall (s : State) : State :=
  let s := (s.setPair { s.pair with xdisIn := false }).markLow
  if s.pairing then s.interlock else s

/-! ### The tow line (R278, R287, R290) -/

/-- The tow line is lost: counted, DETACHED with its event, or a resynchronisation that waits for it. -/
def towLost (s : State) : State :=
  if s.pair.up then
    let s := s.setPair { s.pair with up := false, missing := 0, theirs := none, arbitrating := false }
    let s := (s.put 0x300106 (min 1 (s.int 0x300106))).bump 0x300207
    if s.pairState = 3 ∨ s.pairState = 4 then ((s.toPairState 5).setPair { s.pair with unheard := 0 }).raise 224 0 0 0
    else if s.pairState = 2 then s.put 0x300404 0
    else s
  else s

/-- Lanes carry data: the link retrains on those that remain (R278). -/
def towLanes (s : State) (lanes : Nat) : State := s.put 0x300106 lanes

/-- The tow line has been up for 10 ms (R290). -/
def towUp (s : State) (lanes : Nat) : State :=
  if lanes < 2 ∨ s.pairing = false then s
  else
    let s := (s.towLanes lanes).setPair { s.pair with up := true, missing := 0 }
    if s.pairState = 5 then ((s.setPair { s.pair with restarts := 0 }).enterResync).raise 225 0 0 0
    else if s.pairState = 2 ∧ s.int 0x300404 = 0 then s.restartResync
    else s.tryForm

/-! ### Digests, arbitration (R288 to R292) -/

/-- The classes that differ. -/
def classesApart (a b : Digests) : Nat :=
  (List.range 8).foldl (fun m i => if a.classes.getD i 0 = b.classes.getD i 0 then m else m + 2 ^ i) 0

/-- Bytes of a class or passage digest. -/
def digestBytes (d : BitVec 64) : List Byte := le 8 d.toNat

/-- 0x3003:01 of a compared window. -/
def digestRecord (a b : Digests) : List Byte :=
  le 4 a.flight.toNat ++ le 1 a.passage.val ++ [0, 0, 0] ++ digestBytes a.whole ++ digestBytes b.whole ++
    a.classes.flatMap digestBytes ++ b.classes.flatMap digestBytes

/-- The outcome of R292 is carried out, by the motor's and the butty's result. -/
def outcome (s : State) (motor butty : Nat) : State :=
  let s := s.setPair { s.pair with arbitrating := false }
  let o : Nat := if motor ≠ 0 then (if butty = 0 then 1 else 3) else if butty ≠ 0 then 2 else 4
  let s := s.put 0x300107 o
  if o = 1 then s.takeover 1
  else if o = 4 then
    let m := s.nat 0x200101 / 60
    let alone := match s.pair.doubtAt with | some t => decide (t + s.nat 0x300005 < m) | none => true
    let s := (((s.toPairState 4).bump 0x300206).storeStored).raise 228 4 0 0
    let s := s.setPair { s.pair with doubtAt := some m }
    if s.flag 0x300004 && alone then (s.setPair { s.pair with restarts := 0 }).enterResync else s
  else
    let s := s.buttyFails butty
    if o = 3 ∧ s.isMotor then s.raise 250 0 0 3 else s

/-- Arbitration has what it needs: both results, or a missing one that counts as a failure (R292). -/
def arbitrate (s : State) (deadline : Bool) : State :=
  match s.pair.own with
  | none => s
  | some own =>
    if s.pair.other = none ∧ deadline = false then s
    else
      let other := s.pair.other.getD 1
      if s.isMotor then s.outcome own other else s.outcome other own

/-- The check of a planned exchange (R300, steps 3 to 5) ends with the result of the new motor. A motor that has failed
it drives on until it is cross-disabled, and is FAILED then. -/
def exchangeEnd (s : State) (reason : Nat) : State :=
  let s := s.setPair { s.pair with exchange := 0 }
  let s := (s.put 0x300503 (if reason = 0 then 1 else 4)).raise 232 (if reason = 0 then 1 else 4) 0 0
  if reason = 0 then s
  else if s.isMotor then s
  else (s.setPair { s.pair with partnerFailed := true }).takeover 4

/-- The own self-check is complete (R291): the reason of its first failing check, 0 where it passes. Readback and CAN echo
are the motor's alone. -/
def selfCheck (s : State) (enclaveOk driveOk deadline : Bool) : State :=
  if s.pair.arbitrating ∨ s.pair.exchange = 3 ∧ s.isMotor = true then
    let r := match s.pair.own with
      | some r => r
      | none => if s.pair.lockstep then 1 else if s.pair.ecc then 3 else if !enclaveOk then 4
        else if s.isMotor && !driveOk then 2 else 0
    let s := s.setPair { s.pair with own := some r, lockstep := false, ecc := false }
    let s := s.toPartner (.selfCheck r)
    if s.pair.exchange = 3 then s.exchangeEnd r else s.arbitrate deadline
  else s

/-- The partner's result. -/
def partnerCheck (s : State) (reason : Nat) : State :=
  if s.pair.exchange = 3 then s.exchangeEnd reason
  else if s.pair.arbitrating then (s.setPair { s.pair with other := some reason }).arbitrate false
  else s

/-- A mismatch of digests, its classes recorded (R289). -/
def mismatch (s : State) (classes : Nat) : State :=
  let s := s.put 0x300109 classes
  if s.pairState = 2 then s.restartResync
  else
    let n := s.pair.run + 1
    let s := s.bump 0x300201
    if n < s.nat 0x300003 then (s.setPair { s.pair with run := n }).raise 226 classes 0 0
    else
      let s := ((s.setPair { s.pair with run := 0 }).bump 0x300202).raise 227 classes 0 0
      if s.pairState = 3 then s.setPair { s.pair with arbitrating := true, own := none, other := none } else s

/-- A missing window (R289): four in a row lose the tow line (R278). -/
def missingWindow (s : State) : State :=
  let n := s.pair.missing + 1
  let s := if s.pairState = 2 then s else s.bump 0x300203
  let s := s.setPair { s.pair with missing := n, dirty := true }
  if 4 ≤ n then s.towLost else s

/-- The class digests and the passage digest of a list of action records (R288). -/
def classDigest (l : List (Nat × List Byte)) (c : Nat) : BitVec 64 := crc64 ((l.filter (fun x => decide (x.1 = c))).flatMap (·.2))
def digestsOf (flight passage : Nat) (l : List (Nat × List Byte)) : Digests :=
  let c := (List.range 8).map (classDigest l)
  { flight := BitVec.ofNat 32 flight, passage := Fin.ofNat 64 passage, whole := crc64 (c.flatMap (fun x => be 8 x.toNat)), classes := c }

/-- The applied states as a passage ends: those a unit computes, whichever of the two drives (R288, log 33). -/
def statesRecord (s : State) : List Byte := (List.range 16).map (fun k => BitVec.ofNat 8 (if s.computed k then 1 else 0))

/-- A passage ends (R288, R289): its digests are formed and sent to the partner, and the next passage's records begin. -/
def passageDigests (s : State) : State :=
  if s.pairing then
    let d := digestsOf s.flight s.passage (s.acts ++ [(0, s.statesRecord)])
    ({ s.setPair { s.pair with mine := some d } with acts := [] } : State).toPartner (.digests d)
  else s

/-- The comparison window of a passage ends (R289, R298): digests are compared in IN_STEP, IN_DOUBT and the clean flights
of RESYNC, but not during an arbitration or a takeover. -/
def windowEnd (s : State) : State :=
  let st := s.pairState
  let compares := decide (st = 3 ∨ st = 4 ∨ (st = 2 ∧ s.int 0x300404 = 3)) && s.pair.up && !s.pair.arbitrating &&
    s.pair.takeover.isNone
  let got := s.pair.theirs
  let s := s.setPair { s.pair with theirs := none }
  match s.pair.mine with
  | none => s
  | some own =>
    if !compares then s
    else
      match got with
      | none => s.missingWindow
      | some d =>
        if d.flight ≠ own.flight ∨ d.passage ≠ own.passage then s.missingWindow
        else
          let s := (s.putBytes 0x300301 (digestRecord own d)).setPair { s.pair with missing := 0 }
          if d.whole = own.whole then s.setPair { s.pair with run := 0 } else s.mismatch (classesApart own d)

/-! ### Requests (R290, R300, R306) -/

/-- A resynchronisation is requested at the motor. A FAILED butty is one again, and its failures are forgotten. -/
def resyncWanted (s : State) : State :=
  if s.pairState = 7 then
    let s := s.setPair { s.pair with failures := [], restarts := 0 }
    ((s.put 0x30010C 0).put 0x30010D 0).enterResync
  else if s.pairState = 4 ∨ s.pairState = 6 then
    let s := s.setPair { s.pair with restarts := 0, partnerFailed := false }
    (s.toPartner (.control 1)).enterResync
  else s

/-- A write of 1 to 0x3005:01; at the butty it is carried to the motor. -/
def resyncRequest (s : State) : State := if s.isButty then s.toPartner (.control 1) else s.resyncWanted

/-- A planned exchange is requested: refused with result 2 unless IN_STEP, with 3 while the pair is busy (R298, R300). -/
def exchangeWanted (s : State) : State :=
  if s.pairState ≠ 3 then (s.put 0x300503 2).raise 232 2 0 0
  else if s.pair.run ≠ 0 ∨ s.pair.arbitrating ∨ s.pair.takeover.isSome = true ∨ s.pair.exchange ≠ 0 then
    (s.put 0x300503 3).raise 232 3 0 0
  else s.setPair { s.pair with exchange := 1 }

/-- A write of 1 to 0x3005:02, at either unit: both take it. -/
def exchangeRequest (s : State) : State := (s.toPartner (.control 2)).exchangeWanted

/-! ### The flight boundary -/

/-- The pair at a flight boundary (R293 cause 3, R300, R301): the clean flights, the flights without a word of the motor,
an exchange that is due, and its check at the end of the flight after it. -/
def pairBoundary (s : State) : State :=
  if s.pairing then
    let s := s.cleanFlight
    let n := if s.pair.heard then 0 else s.pair.unheard + 1
    let s := s.setPair { s.pair with unheard := n, heard := false }
    let neighbours := decide (1 < s.mu.roster.length)
    let s := if s.pairState = 5 ∧ 2 ≤ n ∧ neighbours = true then s.takeover 3 else s
    if s.pair.exchange = 1 ∧ s.pairState = 3 then
      (s.setPair { s.pair with exchange := 2, exchangeFlight := (s.flight + 1) % 2 ^ 32, own := none }).takeover 4
    else if s.pair.exchange = 2 ∧ s.flight = (s.pair.exchangeFlight + 1) % 2 ^ 32 then
      s.setPair { s.pair with exchange := 3, own := none }
    else s
  else s

end State

/-- TOW_LANE_LOSS: the lanes that carry data after the link has retrained. -/
def execTowLaneLoss (lanes : Fin 5) (s : State) : Res := .next (s.served (·.towLanes lanes))

/-- TOW_LINE_LOST. -/
def execTowLineLost (s : State) : Res := .next (s.served (·.towLost))

/-- TOW_LINE_UP. -/
def execTowLineUp (lanes : Fin 5) (s : State) : Res := .next (s.served (·.towUp lanes))

/-- What a message of the partner does (R278, R284 to R289). -/
def State.towReceived (s : State) (x : TowInput) : State :=
  match x with
  | .input stamp y => s.queueInput stamp (!s.unitA) y
  | .digests d => s.setPair { s.pair with theirs := some d }
  | .votes any => ({ s with mooring := { s.mooring with partner := any } } : State).judgeVotes
  | .command c => s.setPair { s.pair with reported := c }
  | .slice h data =>
    match s.boundFor h with
    | some b => if s.malformed b.view h then s else (s.verified b.view h data true).flightCount
    | none => s
  | .syncValue order chan value =>
    let rest := s.clock.vals.filter (fun (u : DevVal) => !(decide (u.order = order ∧ u.chan = chan)))
    { s with clock := { s.clock with vals := rest ++ [{ order := order, chan := chan, d := value }] } }
  | .selfCheck reason => s.partnerCheck reason
  | .hello identity vehicle position unit firmware authenticated failed =>
    s.hello identity.toNat vehicle position unit firmware authenticated failed
  | .ownSum value => { s with mu := { s.mu with partnerOwn := value } }
  | .summary fore link m =>
    ({ s with mu := (if fore then { s.mu with partnerFore := (link, m) } else { s.mu with partnerAft := (link, m) }) } : State).evaluate
  | .snapshot kib =>
    if s.pairState = 2 ∧ s.int 0x300404 = 1 ∧ kib ≠ 0 then (s.put 0x300403 kib).opProgress 3 0 0 kib else s
  | .control what =>
    if what = 1 then s.resyncWanted
    else if what = 2 then s.exchangeWanted
    else s
  | .collect origin number mask parts => s.collectRequest origin number mask parts
  | .decision d i m j frame current first => if s.isButty then s.followDecision d i m j frame current first else s
  | .choice stream inst frame index slots =>
    s.setPair { s.pair with choices :=
      s.pair.choices ++ [{ stream := stream, inst := inst, frame := frame, index := index, slots := slots }] }
  | .lines slot frame missing rows =>
    if slot < 8 then
      s.setCam slot { s.cam slot with
        rows := keepRows (s.cam slot).rows (rows.map (fun o => ({ k := frame, row := o.1, missing := missing, px := o.2 } : Row))) }
    else s

/-- TOW_INPUT_RECEIVED. -/
def execTowInputReceived (x : TowInput) (s : State) : Res :=
  .next (s.served fun s => if s.pairing && s.pair.up then s.towReceived x else s)

/-- The window is that of the passage whose digests were formed last. -/
def State.windowOf (s : State) (passage : Fin 64) : Bool := s.pairing && decide (s.pair.mine.map (·.passage) = some passage)

/-- DIGEST_WINDOW_END: 40 us after the end of a passage. -/
def execDigestWindowEnd (passage : Fin 64) (s : State) : Res :=
  .next (s.served fun s => if s.windowOf passage then s.windowEnd else s)

/-- SELF_CHECK_RESULT: the enclave's known-answer test, readback and CAN echo, and whether the partner's result is overdue. -/
def execSelfCheckResult (enclaveOk driveOk deadline : Bool) (s : State) : Res :=
  .next (s.served fun s => if s.pairing then s.selfCheck enclaveOk driveOk deadline else s)

/-- ROLE_IN_FALL. -/
def execRoleInFall (s : State) : Res := .next s.roleInFall

/-- XDIS_IN_RISE. -/
def execXdisInRise (s : State) : Res := .next s.xdisInRise

/-- MBB_OVERLAP_END: the channels whose readback is not on by then. -/
def execMbbOverlapEnd (notOn : BitVec 16) (s : State) : Res := .next (s.served (·.overlapEnd notOn))

/-- CLAIM_DELAY_EXPIRED. -/
def execClaimDelayExpired (s : State) : Res := .next (s.served (·.claimDelay))

/-- PAIR_FORMING_TIMEOUT. -/
def execPairFormingTimeout (s : State) : Res := .next (s.served (·.formingTimeout))

/-- RESYNCHRONISATION_REQUEST: a write to 0x3005:01. -/
def execResynchronisationRequest (w : Writer) (v : Byte) (s : State) : Res :=
  .next (s.served fun s => s.accessAct w 0x300501 [v] fun s => (if s.pairing then s.resyncRequest else s, 0))

/-- PLANNED_EXCHANGE: a write to 0x3005:02. -/
def execPlannedExchange (w : Writer) (v : Byte) (s : State) : Res :=
  .next (s.served fun s => s.accessAct w 0x300502 [v] fun s => (s.exchangeRequest, 0))

/-- SNAPSHOT_SENT: the KiB of the image, and whether it was longer than the replication buffers can log. -/
def execSnapshotSent (kib : Nat) (tooLong : Bool) (s : State) : Res := .next (s.served (·.snapshotSent kib tooLong))

/-- REPLAY_LEVEL. -/
def execReplayLevel (s : State) : Res := .next (s.served (·.replayLevel))

/-- PAIR_ROLE_IN_RISE. -/
def execPairRoleInRise (s : State) : Res := .next s.roleInRise

/-- PAIR_XDIS_IN_FALL. -/
def execPairXdisInFall (s : State) : Res := .next s.xdisInFall

end Sys2Proof.Machine
end

