-- ==== Sys2Proof/Machine/Commit.lean ====
section
/-!
DEFINITION. Commit and discard (R353 to R356): the command with its checks, the store, and the application of the staging
copy with what each subject does at it.
-/

namespace Sys2Proof.Machine

/-- The checks of step 2: the codes 0x01 to 0x12 of R355. -/
def commitChecks : Nat := 18

namespace State

/-- The staging copy is lost without a request: discarded and counted (R353). -/
def loseStaging (s : State) : State := s.discardStaging.bump 0x201009

/-- A commit is refused (R354, R355): the copy stays held; a holder whose session has ended leaves none. -/
def commitRefused (s : State) (code key detail done : Nat) : State :=
  let s := (((s.put 0x201002 5).put 0x201101 code).put 0x201102 (Od.indexOf key : Nat)).put 0x201103 (Od.subOf key : Nat)
  let s := ((s.put 0x201104 (s.int 0x201003)).put 0x201105 detail).bump 0x201106
  let s := (s.opProgress 1 (6000 * done / commitChecks) done commitChecks).opEnd 1 3 code
  if s.dict.holder.isNone then s.loseStaging else s

/-- The result codes of the streams that a refused admission examined (R129). -/
def reportRefusal (s : State) : State :=
  let l := s.asStaged.admission.1
  let s := l.foldl (fun s x => s.put (streamSt x.v + 1) x.code) s
  s.put 0x2E0007 ((firstRefused l).elim 0xFF (·.v) : Nat)

/-- Steps 1 and 2 (R354): the copy is frozen and held by the writer, and the checks run in code order. -/
def commitRun (s : State) (w : Writer) : State :=
  let s : State := { s with dict := { s.dict with holder := some w } }
  let s := ((s.bump 0x201003).put 0x201002 1).opStart 1 commitChecks
  match s.commitFault with
  | none => (s.put 0x201002 2).opProgress 1 6000 commitChecks commitChecks
  | some (code, key, detail) =>
    (if code = 0x12 then s.reportRefusal else s).commitRefused code key detail (code - 1)

/-- A discard (R353, R354): at once, and not counted. -/
def discard (s : State) : State := s.discardStaging

/-- An installation record of 0x2200, which applies at an F (R214). -/
def isInstallation (k : Nat) : Bool := decide (Od.indexOf k = 0x2200)

/-- What the applied commit changed: an index, an index of a range, a key. -/
def changedAt (ch : Store) (i : Nat) : Bool := ch.any (fun e => decide (Od.indexOf e.1 = i))
def changedIn (ch : Store) (lo n : Nat) : Bool := ch.any (fun e => decide (lo ≤ Od.indexOf e.1 ∧ Od.indexOf e.1 < lo + n))
def changedKey (ch : Store) (k : Nat) : Bool := (Tab.find? ch k).isSome

/-- The backbone and the star ports at a commit (R136, R137, R152, R163, R195, R255, R410). -/
def applyLine (s : State) (ch : Store) : State :=
  let s := s.gateApply ch
  let s := (List.range 4).foldl (fun s p =>
    let s := if changedKey ch (linkRec p + 1) then s.applyPortEnable p else s
    if changedAt ch 0x2E00 then s.limitCheck p else s) s
  let s := (List.range 8).foldl (fun s p =>
    let s := if changedKey ch (Od.key (0x2418 + p) 1) then s.applyStarEnable p else s
    if changedAt ch (0x2498 + p) then s.put (Od.key (0x2498 + p) 5) 0 else s) s
  let s := if changedIn ch 0x2440 16 || changedAt ch 0x2E00 || changedKey ch 0x240006 then s.refreshTables else s
  let s := if changedKey ch 0x261003 then s.setDomain .ta { s.domain .ta with offers := false } else s
  let s := if changedKey ch 0x261103 then s.setDomain .tb { s.domain .tb with offers := false } else s
  let leads := s.isLead && s.isRunning
  let s := if leads && changedKey ch 0x261801 then s.ntDecide (if s.int 0x261801 = 2 then .tb else .ta) else s
  if leads && changedKey ch 0x243001 then s.propose (s.nat 0x243001) else s

/-- The instant at which a commit applies: the flight boundary that has just passed, or now. -/
def applyInstant (s : State) : Int := if s.clock.fresh then s.clock.flightStart else s.ctNow

/-- The time pulses, cameras, views and displays at a commit (R26, R77, R103, R107, R117, R132, R204). What it enables
stays OFF while the device is in QUIET (R507). -/
def applyVideo (s : State) (ch old : Store) : State :=
  let s := if changedIn ch 0x2810 8 || changedIn ch 0x2468 8 || changedIn ch 0x2630 12 then s.pulseOwners else s
  let s := (List.range 12).foldl (fun s i => if changedAt ch (0x2630 + i) then s.pulseCommit i else s) s
  let s := if s.isQuiet then s else (List.range 8).foldl (fun s n =>
    if changedAt ch (0x2810 + n) || changedAt ch (0x2880 + n) || changedAt ch (0x2890 + n) then s.applyCamera n else s) s
  let s := s.ingestSummary.installAdmission
  let viewChanged (v : Nat) : Bool := [1, 2, 4, 5].any (fun i => changedKey ch (viewRec v + i)) ||
    [2, 3].any (fun i => changedKey ch (streamRec v + i))
  let s := (List.range 2).foldl (fun s d =>
    let l := ((List.range 6).map (· + 1)).filter (fun i =>
      [0x10, 0x20, 0x30].any (fun b => changedKey ch (regSet d + b + i)) ||
        (match s.regionView d i with | some v => viewChanged v | none => false))
    let s := if l = [] ∧ changedAt ch (0x2C30 + d) = false then s else s.changeRegions d old l s.applyInstant
    (if changedAt ch (0x2C50 + d) then s.applyDisplay d else s).regionFigures d) s
  if changedIn ch 0x2C78 8 then s.publishKeys else s

/-- CAN, CANopen and the field channels at a commit (R376, R440, R446, R461). A commit that applies during detection,
or after it failed, starts it anew. -/
def applyPorts (s : State) (ch : Store) : State :=
  let s := (List.range 4).foldl (fun s c =>
    let detecting := decide (s.canState c = 5 ∨ s.int (canDet c + 3) = 4)
    if changedAt ch (0x3310 + c) || changedAt ch (0x331C + c) || detecting then
      s.applyCan c (changedKey ch (canCfg c + 1) || detecting) else s) s
  let s := if changedAt ch 0x1016 then s.startConsumers else s
  let s := (List.range 8).foldl (fun (s : State) k =>
    let s := if changedAt ch (0x1400 + k) || changedAt ch (0x1600 + k) then
      ({ s with canopen := { s.canopen with
           rpdo := Tab.erase s.canopen.rpdo k, timing := s.canopen.timing &&& ~~~ BitVec.ofNat 8 (2 ^ k) } } : State) else s
    if changedAt ch (0x1800 + k) || changedAt ch (0x1A00 + k) then
      ({ s with canopen := { s.canopen with tpdo := Tab.erase s.canopen.tpdo k } } : State) else s) s
  s.settle.judgeVotes

/-- Step 5 (R354): the staging copy becomes the applied configuration, and the binding of the copy ends. The installation
records wait for F. -/
def applyStaged (s : State) : State :=
  let ch := s.dict.staging
  let now := ch.filter (fun e => !(isInstallation e.1))
  let old := s.od
  let s : State := { s with
    od := now.foldl (fun t e => Store.set t e.1 e.2) s.od
    dict := { s.dict with staging := [], holder := none } }
  let s := match s.trust.bundleSeq with
    | some n => ({ s.put 0x315002 n with trust := { s.trust with bundleSeq := none } } : State).storeStored
    | none => s
  let s := ((s.put 0x201002 4).opProgress 1 10000 commitChecks commitChecks).opEnd 1 2 0
  ((s.applyLine now).applyVideo now old).applyPorts now

/-- A commit applies by itself: the selectors are resolved again (R22). -/
def applyCommit (s : State) : State := (s.applyStaged.rebind false).viewStatuses

/-- The first flight boundary at least 2 ms away (R354, step 4). -/
def commitFlight (s : State) : Nat :=
  let left := s.clock.flightStart + 64 * s.passageLen * 65536 - s.ctNow
  (s.flight + (if 2000000 * 65536 ≤ left then 1 else 2)) % 2 ^ 32

/-- Steps 3 and 4 (R354): the configuration area is stored, or the store fails. Changed installation records start their
making-up (R214, R215), and the sources of views the commit changes are sent their definitions ahead of its boundary (R76). -/
def commitStored (s : State) : State :=
  if s.int 0x201002 ≠ 2 ∨ s.storesRun = false then s
  else if s.mram.storeFails then s.commitRefused 0x13 0 0 commitChecks
  else
    let inst := (s.dict.staging.filter (fun e => isInstallation e.1)).foldl (fun t e => Tab.insert t e.1 e.2)
      (if s.muState = 3 then s.mu.heldInst else s.mu.newInst)
    let od := inst.foldl (fun t e => Store.set t e.1 e.2) (s.mu.newInst.foldl (fun t e => Store.set t e.1 e.2) s.asStaged.od)
    let p := storeCopy s.mram.config0 s.mram.config1 (ofPers od .staged)
    let s : State := { s with mram := { s.mram with config0 := p.1, config1 := p.2 } }
    let s := ((s.put 0x201008 ((inForce p.1 p.2).elim 0 (·.generation) : Nat)).put 0x201002 3).opProgress 1 9000 commitChecks commitChecks
    let s := if s.dict.staging.any (fun e => isInstallation e.1) then
        ({ s with mu := (if s.muState = 3 then { s.mu with heldInst := inst } else { s.mu with newInst := inst }) } : State).trigEval 6 else s
    if s.isRunning then
      let s := s.put 0x201004 s.commitFlight
      if s.muState = 3 then s else s.announce s.asStaged s.commitFlight false
    else s.applyCommit

/-- The copy has stood 600 s without a staged write or commit of its holder (R353). -/
def stagingIdle (s : State) : State :=
  if s.committing ∨ s.dict.holder.isNone then s else s.loseStaging

end State

/-! ### The commands -/

/-- COMMIT: a write of 1 to 0x2010:01. -/
def execCommit (w : Writer) (s : State) : Res :=
  .next (s.served fun s => s.accessAct w 0x201001 [1] (fun s => (s.commitRun w, 0)))

/-- COMMIT_STORE_DONE. -/
def execCommitStoreDone (s : State) : Res := .next (s.served (·.commitStored))

/-- DISCARD: a write of 2 to 0x2010:01. -/
def execDiscard (w : Writer) (s : State) : Res :=
  .next (s.served fun s => s.accessAct w 0x201001 [2] (fun s => (s.discard, 0)))

/-- STAGING_IDLE_TIMEOUT. -/
def execStagingIdleTimeout (s : State) : Res := .next (s.served (·.stagingIdle))

end Sys2Proof.Machine
end

