-- ==== Sys2Proof/Machine/Computed.lean ====
section
/-!
DEFINITION. The entries whose value follows from the state: what a read of a dictionary entry returns (R345, R348). An
entry that is none of these reads as the store holds it.
-/

namespace Sys2Proof.Machine

namespace State

/-- The shares of a template over the vehicle counts (R153): the largest slot share, the smallest open water, 0.01 %. -/
def templateShares (s : State) (m : Nat) : Nat × Nat :=
  let t := s.template m
  let p := templatePassage t
  if t = [] ∨ m = 0 then (0, 10000)
  else
    let cost (v : Nat) : Nat × Nat :=
      let f := s.frameFor v (min s.berthLimit (2 * v))
      let l := expand f t
      (((List.range 4).map (fun k => groupCost f (tableOf f t l k))).foldl max 0, headEnd f p)
    let all := (List.range s.vehicleLimit).map (fun v => cost (v + 1))
    ((all.map (fun c => shareOf c.1 p)).foldl max 0, (all.map (fun c => 10000 - shareOf (c.1 + c.2) p)).foldl min 10000)

/-- 0x2010:06: the staged changes. -/
def stagedImage (s : State) : List Byte :=
  s.dict.staging.flatMap (fun e =>
    let d := valueBytes e.1 e.2
    le 2 (Od.indexOf e.1 : Nat) ++ le 1 (Od.subOf e.1 : Nat) ++ le 4 d.length ++ d)

/-- 0x2010:07: who holds the staging copy. -/
def holderCode (s : State) : Nat :=
  match s.dict.holder with
  | none => 0
  | some w => match w.path with | .can => 1 | .host => 2 | .mgmt => 3 | .bundle => 4 | .rpdo => 0

/-- The long operations that run, bit k for record 0x3F00 + k (R363). -/
def runningMask (s : State) : Nat := (((List.range 7).filter (fun k => decide (1 ≤ k) && s.opRunning k)).map (fun k => 2 ^ k)).sum

/-- 0x2001:03. -/
def statusFlags (s : State) : Nat :=
  s.nat 0x200103 % 2 + (if s.dict.holder.isSome then 2 else 0) + (if s.committing then 4 else 0) + (if s.runningMask ≠ 0 then 8 else 0)

/-- Whole seconds of the local counter since a counter value. -/
def secondsSince (s : State) (t : Nat) : Nat := (s.clock.counter - t) / 312500000

/-- 0x3121:01: the open client sessions. -/
def sessionTable (s : State) : List Byte :=
  s.trust.sessions.flatMap (fun e =>
    let x := e.2
    let serial := x.chain.serials.headD []
    if x.established then
      le 1 e.1 ++ le 1 (pathNo x.path : Nat) ++ le 1 x.role ++ le 4 (s.secondsSince x.openedAt) ++
        (serial.take 20 ++ List.replicate (20 - serial.length) 0)
    else [])

/-- 0x3122:01: the neighbour cache. -/
def cacheImage (s : State) : List Byte :=
  s.trust.cache.flatMap (fun e => le 8 e.identity ++ e.ownerHash ++ le 4 e.expiry)

/-- 0x2608:01: the values of the last averaging, in ps. -/
def lastValues (s : State) : List Byte :=
  (s.clock.lastVals.take 32).flatMap (fun v =>
    le 1 v.order ++ le 1 (match v.chan with | .a => 0 | .b => 1) ++ le 1 (if v.used then 0 else 1) ++ [0] ++ le 4 (unitsToPs v.d))

/-- 0x3600:90: the descriptors each berth declared. -/
def declarations (s : State) : List Byte :=
  s.lock.declared.flatMap (fun e => le 1 e.1 ++ e.2.flatMap (fun d => le 8 d))

/-- The value an entry shows, where it follows from the state. -/
def computed? (s : State) (k : Nat) : Option Val :=
  let i := Od.indexOf k
  let sub := Od.subOf k
  let num (n : Nat) : Option Val := some (.num n)
  if k = 0x100100 then num s.errorRegister
  else if k = 0x200103 then num s.statusFlags
  else if k = 0x201005 then num s.dict.staging.length
  else if k = 0x201006 then some (.bytes s.stagedImage)
  else if k = 0x201007 then num s.holderCode
  else if 0x2441 ≤ i ∧ i ≤ 0x244F ∧ sub = 2 then num (s.templateHash (i - 0x2440))
  else if 0x2441 ≤ i ∧ i ≤ 0x244F ∧ sub = 3 then num (s.templateShares (i - 0x2440)).1
  else if 0x2441 ≤ i ∧ i ≤ 0x244F ∧ sub = 4 then num (s.templateShares (i - 0x2440)).2
  else if k = 0x260801 then some (.bytes s.lastValues)
  else if k = 0x261902 then some (.num (unitsToPs (s.slewAt s.ctNow)))
  else if 0x2620 ≤ i ∧ i < 0x2628 ∧ sub = 6 then num (s.gptpState (i - 0x2620))
  else if 0x2650 ≤ i ∧ i < 0x2654 ∧ sub = 0x10 then num (s.fifo (i - 0x2650)).length
  else if 0x2650 ≤ i ∧ i < 0x2654 ∧ sub = 0x11 then some (.num ((s.fifo (i - 0x2650)).head?.elim 0 (·.stamp)))
  else if 0x2650 ≤ i ∧ i < 0x2654 ∧ sub = 0x12 then
    num ((s.fifo (i - 0x2650)).head?.elim 0 (fun e => (if e.rising then 1 else 0) + (if e.invalid then 2 else 0)))
  else if 0x2120 ≤ i ∧ i < 0x2120 + 30 ∧ sub = 1 then num (if s.power.islands.getLsbD (i - 0x2120) then 2 else 1)
  else if k = 0x310004 then num (if s.fuses.debugClosed then 2 else if s.trust.debugUnlocked then 1 else 0)
  else if k = 0x310005 then num s.fuses.rollback
  else if k = 0x310009 then num s.sessionsAll
  else if k = 0x31000A then num (s.trust.nodes.filter (·.established)).length
  else if k = 0x312101 then some (.bytes s.sessionTable)
  else if k = 0x312201 then some (.bytes s.cacheImage)
  else if 0x3124 ≤ i ∧ i < 0x3128 ∧ sub = 4 then
    num (if s.keyed (i - 0x3124) then s.secondsSince (s.au (i - 0x3124)).installedAt else 0)
  else if k = 0x320001 then num s.outputStates
  else if k = 0x320002 then num s.inputStates
  else if k = 0x320003 then num s.faulted
  else if k = 0x320004 then num s.groupStates
  else if 0x3230 ≤ i ∧ i < 0x3240 ∧ sub = 2 then num (s.driverState (i - 0x3230))
  else if 0x3240 ≤ i ∧ i < 0x3250 ∧ sub = 1 then num (s.liveFlags (i - 0x3240))
  else if k = 0x330001 then num ((List.range 4).map (fun c => s.nat (canSt c + 1) * 256 ^ c)).sum
  else if k = 0x340104 then num (s.secondsSince 0)
  else if k = 0x350003 then num ((List.range 64).map (fun e => s.log.permCap e + s.log.circCap e)).sum
  else if k = 0x350004 then num s.log.held
  else if k = 0x350005 then
    num ((List.range 64).map (fun e => if s.log.permOf e = [] ∧ s.log.circOf e = [] then 0 else 2 ^ e)).sum
  else if k = 0x350101 then num s.log.queue.length
  else if k = 0x350204 then some (.bytes (s.log.history.flatMap ClearEntry.image))
  else if 0x3510 ≤ i ∧ i < 0x3550 ∧ sub = 4 then num ((s.log.permOf (i - 0x3510)).length + (s.log.circOf (i - 0x3510)).length)
  else if 0x3550 ≤ i ∧ i < 0x3590 ∧ sub = 1 then some (.bytes ((s.log.permOf (i - 0x3550)).flatMap Record.image))
  else if 0x3590 ≤ i ∧ i < 0x35D0 ∧ sub = 1 then some (.bytes ((s.log.circOf (i - 0x3590)).flatMap Record.image))
  else if k = 0x360090 then some (.bytes s.declarations)
  else if k = 0x360091 then num s.writesOut
  else if k = 0x360092 then num s.readsOut
  else if k = 0x36009C then some (.bytes s.lockFifo)
  else if k = 0x3F0001 then num ((List.range 7).filter (fun n => decide (1 ≤ n) && s.opRunning n)).length
  else if k = 0x3F0002 then num s.runningMask
  else none

/-- The value a read of an entry finds; the relay record is each path's own (R366). -/
def readValue (s : State) (p : Path) (k : Nat) : Val :=
  if k = 0x201801 then .num ((Tab.get (α := Nat) 0 s.dict.relayDest (pathNo p) : Nat) : Int)
  else if k = 0x201803 then .bytes (Tab.get [] s.dict.relayReply (pathNo p))
  else (s.computed? k).getD (s.get k)

end State

end Sys2Proof.Machine
end

