-- ==== Sys2Proof/Machine/Dictionary.lean ====
section
/-!
DEFINITION. The dictionary service (spec/13_object_dictionary.md): the action each entry of its own has, a write and a
read of any entry, segments (R348), the relay record (R360), bundles (R334) and the way into and out of QUIET (R507).
-/

namespace Sys2Proof.Machine

namespace State

/-! ### Clock islands and QUIET (R507 to R509) -/

/-- An island has a use for its clock (R508). The enclave's runs only inside an operation. -/
def islandWanted (s : State) (i : Nat) : Bool :=
  let camera := (List.range 8).any (fun n => s.flag (camDef n + 1))
  let display := (List.range 2).any (fun d => s.flag (dsiRec d + 1))
  if i ≤ 3 ∨ i = 29 then true
  else if i ≤ 6 then !s.isQuiet && (camera || display || decide (s.slices.instances ≠ []))
  else if i ≤ 8 then decide (s.dispState (i - 7) ≠ 0)
  else if i ≤ 12 then decide (s.linkState (i - 9) ≠ 0)
  else if i ≤ 20 then decide (s.int (Od.key (0x2418 + (i - 13)) 4) ≠ 0)
  else if i = 21 then s.pairing
  else if i ≤ 25 then !s.isQuiet && decide (s.camsOn (i - 22) ≠ [])
  else if i = 26 then decide (s.power.hostSel = 0) && s.host.linkUp
  else if i = 27 then (List.range 4).any (fun c => decide (s.int (canCfg c + 1) ≠ 0))
  else false

/-- Islands stop and restart as their use ends and comes (R508, R509). -/
def islandScan (s : State) : State :=
  (List.range 30).foldl (fun s i => if s.islandWanted i then s.islandRestart i else s.islandStop i) s

/-- QUIET is entered (R507): cameras and displays to OFF, and the bound instances produce nothing. -/
def enterQuiet (s : State) : State :=
  let s := s.put 0x210001 1
  let s := (List.range 8).foldl camOff s
  let s := (List.range 2).foldl displayOff s
  let l := (s.slices.instances.filter (fun i => i.until_.isNone)).map (fun (i : Instance) => { i with warped := [] })
  { s with slices := { s.slices with instances := l } }.islandScan

/-- QUIET is left (R507): what the applied configuration enables leaves OFF, and the instances start anew. -/
def leaveQuiet (s : State) : State :=
  let s := s.put 0x210001 0
  let s := (List.range 8).foldl (fun s n => if s.flag (camDef n + 1) then s.applyCamera n else s) s
  let s := (List.range 2).foldl applyDisplay s
  let l := s.slices.instances.map (fun (i : Instance) => { i with active := false })
  { s with slices := { s.slices with instances := l } }.islandScan

/-- The requested power state applies (R506). -/
def applyQuiet (s : State) : State :=
  let want := decide (s.int 0x210002 = 1)
  if want = s.isQuiet then s else if want then s.enterQuiet else s.leaveQuiet

/-- A write to 0x2100:03 (R506): at the next flight boundary, or at once where the device is not RUNNING. -/
def quietRequest (s : State) (v : Nat) : State :=
  let s := (s.put 0x210003 v).put 0x210002 v
  if s.isRunning then s else s.applyQuiet

/-! ### Relaying, cancelling, bundles -/

/-- A device of the consist, or one reached by a node session (R359). -/
def reachable (s : State) (id : Nat) : Bool := 
  s.mu.roster.any (fun b => decide (b.identity.toNat = id ∨ b.pairId.toNat = id)) || s.nodeOpen id

/-- A relayed session message of a path (R359, R360): sent, with a reply awaited, or not reachable. -/
def relay (s : State) (p : Path) (dest : Nat) (data : List Byte) : State × Bool :=
  let n := pathNo p
  if s.reachable dest then
    let s := (s.emit (.mgmt dest 0 0 data)).sendChunks 2 dest data
    ({ s with dict := { s.dict with
        relayReply := Tab.erase s.dict.relayReply n
        awaiting := s.dict.awaiting ++ [(dest, p)] } }, true)
  else ({ s with dict := { s.dict with relayReply := Tab.set [] s.dict.relayReply n [0x11] } }, false)

/-- The segmented writes of an entry given up. -/
def dropSegments (s : State) (k : Nat) : State :=
  { s with dict := { s.dict with segWrites := s.dict.segWrites.filter (fun x => decide (x.key ≠ k)) } }

/-- A cancel of a long operation (R364): an image load or a collection ends as cancelled, where one runs. -/
def cancelOp (s : State) (k : Nat) : State × Nat :=
  if k = 2 then ((if s.opRunning 2 then (s.dropSegments 0x314001).opEnd 2 4 0 else s), 0)
  else if k = 5 then
    (if s.opRunning 5 then (s.sendCollect 5 (s.nat 0x350301) (s.log.collecting.getD 0) 0 0 []).collectEnd 4 0 else s, 0)
  else (s, 0x09)

/-- The minimum role of an entry. -/
def roleNeed (k : Nat) : Nat := match Od.find? k with | some (_, e) => e.role.code | none => 0

/-- The checks of a bundle (R334), in their order: 0, or the trust result. -/
def bundleResult (s : State) (b : BundleObj) : Nat :=
  if s.chainResult b.chain ≠ 0 then s.chainResult b.chain
  else if b.signatureOk = false then 0x01
  else if b.scope.any (fun e => !s.inScope e) then 0x06
  else if (b.sequence : Int) ≤ s.int 0x315002 then 0x0A
  else if b.entries.any (fun e => decide (b.chain.role.val < roleNeed (Od.key e.index e.sub))) then 0x05
  else if b.entries.any (fun e => (Od.record? e.index).isSome && decide (Od.pers (Od.key e.index e.sub) ≠ .staged)) then 0x0F
  else 0

/-- A bundle written to 0x3150:01 (R334): its checks, then the access checks of every entry, then all of them staged, and
committed where its flag says so. -/
def bundleWrite (s : State) (b : BundleObj) : State × Nat :=
  let w : Writer := { path := .bundle }
  let r := s.bundleResult b
  let entries := b.entries.map (fun e => (Od.key e.index e.sub, e.data))
  let bad := (entries.map (fun e => s.writeStatus w e.1 e.2)).find? (fun st => decide (st ≠ 0))
  if r ≠ 0 then (s.put 0x315003 r, 0x40 + r)
  else if s.committing then (s, 0x0B)
  else if s.stagingOpen w = false then (s, 0x0A)
  else match bad with
    | some st => (s, st)
    | none =>
      let n := entries.length
      let s := ((s.put 0x315003 0).opStart 6 n).opProgress 6 10000 n n
      let s := (entries.foldl (fun s e => s.stage w e.1 (written e.1 e.2)) s).opEnd 6 2 0
      let s := { s with trust := { s.trust with bundleSeq := some (max b.sequence (s.trust.bundleSeq.getD 0)) } }
      if b.commit then (s.commitRun w, 0) else ({ s with dict := { s.dict with holder := none } }, 0)

/-! ### The actions of the entries -/

/-- A token that is none. -/
def noToken : ClearTokenObj :=
  { wellFormed := false, identity := 0, number := 0, mask := 0, signatureOk := false,
    chain := { wellFormed := false, role := 0, scope := [], intermediates := 0, rootHash := [], signaturesVerify := false,
               serials := [], notBefore := 0, notAfter := 0 } }

/-- What a write does to the entries that start an action (R347), with the status it ends in; none: the entry takes the
value and nothing else happens. An entry that only the device or a node session writes refuses the client (R194). -/
def action (s : State) (w : Writer) (k : Nat) (data : List Byte) : Option (State × Nat) :=
  let i := Od.indexOf k
  let sub := Od.subOf k
  let v := leNat data
  let then_ (f : State → State) : Option (State × Nat) := some (s.writeThen w k data f)
  let at_ (lo n : Nat) : Bool := decide (lo ≤ i ∧ i < lo + n)
  if k = 0x201001 then some (if v = 1 then s.commitRun w else s.discard, 0)
  else if k = 0x201801 then
    some ({ s with dict := { s.dict with relayDest := Tab.set 0 s.dict.relayDest (pathNo w.path) v } }, 0)
  else if k = 0x201802 then some ((s.relay w.path (Tab.get 0 s.dict.relayDest (pathNo w.path)) data).1, 0)
  else if k = 0x100300 then some ((List.range 9).foldl (fun s i => s.put (Od.key 0x1003 i) 0) s, 0)
  else if k = 0x210003 then some (s.quietRequest v, 0)
  else if k = 0x21020B then some (s.resetAsked 7)
  else if k = 0x210505 then some (if s.power.scrubbing then (s, 0x0C) else (s.scrubStart, 0))
  else if k = 0x221101 then some (s.trigEval 5, 0)
  else if k = 0x242806 then some (s.mdioQueue (decide (v = 2)))
  else if k = 0x243003 then some (s.modeRequest v, 0)
  else if at_ 0x2498 8 && decide (sub = 5) then some (s.put k 0, 0)
  else if k = 0x261205 ∨ k = 0x261206 ∨ k = 0x261305 ∨ k = 0x261306 then some (s, 0x45)
  else if k = 0x261805 then some (s.selectionRequest v)
  else if at_ 0x2630 12 && decide (sub = 0x0A) then
    some (s.arm (i - 0x2630) (match written k data with | .num t => t | .bytes _ => 0), 0)
  else if at_ 0x2650 4 && decide (sub = 0x13) then some (s.setFifo (i - 0x2650) (s.fifo (i - 0x2650)).tail, 0)
  else if k = 0x286006 then some (s.cciQueue (decide (v = 2)))
  else if k = 0x300501 then some (if s.pairing then s.resyncRequest else s, 0)
  else if k = 0x300502 then some (s.exchangeRequest, 0)
  else if k = 0x311001 then some (s.ownerRoot data)
  else if k = 0x311002 then
    let c := Config.claimCert (s.bytes 0x311001)
    some (s.claimCommand c.1 c.2)
  else if k = 0x311004 then some (s.release data)
  else if at_ 0x3111 1 then then_ flushCache
  else if k = 0x311201 then then_ revoke
  else if k = 0x312001 then some (s, 0x09)
  else if k = 0x312202 then some (s.flushCache, 0)
  else if k = 0x314001 then some (match Config.readImage data with | some img => s.imageLoad img | none => (s, 0x4F))
  else if k = 0x314007 then some (s.selectImage v)
  else if k = 0x314008 then some (s.advanceFloor v)
  else if k = 0x315001 then
    some (match Config.readBundle data with | some b => s.bundleWrite b | none => (s.put 0x315003 0x0F, 0x4F))
  else if k = 0x316001 then some (s.closeArm data)
  else if k = 0x316003 then
    some (match Config.readClose data (s.trust.challenge.getD []) with
      | some (c, sigOk) => s.closeConfirm c sigOk
      | none => (s, 0x4F))
  else if k = 0x316004 then some (s.debugUnlock)
  else if k = 0x320104 then some (s.restoreRequest v)
  else if at_ 0x3230 16 && decide (sub = 1) then some (s.command (i - 0x3230) v)
  else if at_ 0x3240 16 && decide (sub = 2) then some (s.clearLatched (i - 0x3240) v, 0)
  else if at_ 0x3314 4 && decide (sub = 6) then some (s.recoveryRequest (i - 0x3314), 0)
  else if at_ 0x331C 4 && decide (sub = 7) then some (s.startDetection (i - 0x331C), 0)
  else if at_ 0x3320 12 then
    let c := (i - 0x3320) / 3
    let b := (i - 0x3320) % 3
    if sub = 5 then some (if v = 1 then s.txRequest c b else (s.txAbort c b, 0))
    else if s.requested c b then some (s, 0x0C) else none
  else if at_ 0x3340 96 && decide (sub = 0x0B) then some (s.rxRelease ((i - 0x3340) / 24) ((i - 0x3340) % 24), 0)
  else if k = 0x340201 then then_ judgeVotes
  else if k = 0x350201 then some (s.clearToken ((Config.readToken data).getD noToken))
  else if k = 0x350304 then some s.startCollection
  else if at_ 0x3F01 7 && decide (sub = 0x0A) then some (s.cancelOp (i - 0x3F00))
  else none

/-! ### A write and a read -/

/-- A write of a whole value: the checks of R346, the action or the value, and the status. -/
def performWrite (s : State) (w : Writer) (k : Nat) (data : List Byte) : State × Nat :=
  let st := s.writeStatus w k data
  if st ≠ 0 then (s, st)
  else match s.action w k data with
    | some p => p
    | none => if s.plainStatus k ≠ 0 then (s, s.plainStatus k) else (s.plainWrite w k (written k data), 0)

/-- A client's HELLO, FINISH, CLOSE or request is dropped or runs elsewhere; here, the sessions that have ended by their
age, 24 h, or by the end of validity of their chain (R320). -/
def endSpent (s : State) : State :=
  let spent (x : Session) : Bool := x.established &&
    (decide (86400 ≤ s.secondsSince x.openedAt) || decide ((x.chain.notAfter : Int) < s.trustTime))
  s.trust.sessions.foldl (fun s e => if spent e.2 then s.endSession e.1 else s) s

/-- A write over a path, answered (R347): a reset it asks for follows the answer. As a write that starts at offset 0 it
discards a segmented one of the same entry that is still incomplete (R348). -/
def writeEntry (s : State) (w : Writer) (k : Nat) (data : List Byte) : State :=
  (s.asInput w k data fun s =>
    let p := s.performWrite w k data
    (if s.writeStatus w k data = 0 then p.1.dropSegments k else p.1).respond w p.2 []).takeDue

/-- The data bytes a read of a mailbox or MGMT request returns at most (R405). -/
def readLimit : Nat := 65536

/-- A read over a path, answered. An SDO upload carries the value whole; a segment at offset 0 takes a snapshot, and later
segments come from it until its last byte is read (R348). -/
def readEntry (s : State) (w : Writer) (k offset : Nat) (whole : Bool) : State :=
  let st := s.readStatus w k
  let others := s.dict.snapshots.filter (fun x => !(decide (x.writer = w) && decide (x.key = k)))
  let value := valueBytes k (s.readValue w.path k)
  if s.sdoClosed w then s
  else if st ≠ 0 then s.respond w st []
  else if whole then s.respond w 0 value
  else if offset = 0 then
    let x : Snapshot := { writer := w, key := k, data := value, pos := readLimit }
    ({ s with dict := { s.dict with
        snapshots := if value.length ≤ readLimit then others else others ++ [x] } } : State).respond w 0 (value.take readLimit)
  else match s.dict.snapshots.find? (fun x => decide (x.writer = w) && decide (x.key = k)) with
    | none => s.respond w 0x0D []
    | some x =>
      let left : Snapshot := { x with pos := offset + readLimit }
      ({ s with dict := { s.dict with
          snapshots := if x.data.length ≤ offset + readLimit then others else others ++ [left] } } : State).respond w 0
        ((x.data.drop offset).take readLimit)

/-- An entry of type DOMAIN, the one type that travels in segments. -/
def isDomain (k : Nat) : Bool := match Od.find? k with | some (_, e) => decide (e.ty = .domain) | none => false

/-- Progress of an image load, in bytes (R363). -/
def loadProgress (s : State) (k got total : Nat) : State :=
  if k = 0x314001 then s.opProgress 2 (if total = 0 then 0 else 10000 * got / total) got total else s

/-- One segment of a write (R348): at offset 0 it begins, and others then continue without gap under one length; the one
that completes it writes the entry. -/
def writeSegment (s : State) (w : Writer) (k total offset : Nat) (data : List Byte) : State :=
  let st := s.writeChecks w k total none
  let mine (x : SegWrite) : Bool := decide (x.writer = w) && decide (x.key = k)
  if s.sdoClosed w then s
  else if st ≠ 0 then s.respond w st []
  else if offset = 0 then
    if total < data.length ∨ (isDomain k = false ∧ data.length ≠ total) then s.respond w 0x0D []
    else if data.length = total then (s.dropSegments k).writeEntry w k data
    else
      let s := s.dropSegments k
      let x : SegWrite := { writer := w, key := k, total := total, data := data }
      let s := { s with dict := { s.dict with segWrites := s.dict.segWrites ++ [x] } }
      let s := if k = 0x314001 then s.opStart 2 total else s
      (s.loadProgress k data.length total).respond w 0 []
  else match s.dict.segWrites.find? mine with
    | none => s.respond w 0x0D []
    | some x =>
      let all := x.data ++ data
      if x.total ≠ total ∨ offset ≠ x.data.length ∨ total < all.length then s.respond w 0x0D []
      else if all.length = total then (s.dropSegments k).writeEntry w k all
      else
        let step (y : SegWrite) : SegWrite := if mine y then { y with data := all } else y
        let s := { s with dict := { s.dict with segWrites := s.dict.segWrites.map step } }
        (s.loadProgress k all.length total).respond w 0 []

/-- A segmented write or a snapshot idle for 10 s (R348): discarded, and an image load with it fails. -/
def segmentIdle (s : State) (w : Writer) (k : Nat) (write : Bool) : State :=
  let mine (a : Writer) (b : Nat) : Bool := decide (a = w) && decide (b = k)
  if write then
    let hit := s.dict.segWrites.any (fun x => mine x.writer x.key)
    let s := { s with dict := { s.dict with segWrites := s.dict.segWrites.filter (fun x => !(mine x.writer x.key)) } }
    if hit ∧ k = 0x314001 ∧ s.opRunning 2 then s.opEnd 2 3 0x0D else s
  else { s with dict := { s.dict with snapshots := s.dict.snapshots.filter (fun x => !(mine x.writer x.key)) } }

end State

/-! ### The commands -/

/-- COUNTER_CLEAR: a write of any value to a counter; only 0 passes the value check (R49, R346). -/
def execCounterClear (a : Access) (data : List Byte) (s : State) : Res :=
  .next (s.served (·.writeEntry a.writer (Od.key a.index a.sub) data))

/-- SEGMENT_TIMEOUT. -/
def execSegmentTimeout (a : Access) (write : Bool) (s : State) : Res :=
  .next (s.served (·.segmentIdle a.writer (Od.key a.index a.sub) write))

/-- OPERATION_CANCEL: a write to 0x3F01 + k:0A. -/
def execOperationCancel (w : Writer) (k : Fin 7) (v : Byte) (s : State) : Res :=
  .next (s.served fun s => s.accessAct w (Od.key (0x3F01 + k) 0x0A) [v] (·.cancelOp (k + 1)))

/-- STORED_ENTRY_WRITE. -/
def execStoredEntryWrite (s : State) : Res := .next (s.served fun s => if s.mram.storeFails then s else s.storeStored)

/-- QUIET_REQUEST: a write to 0x2100:03. -/
def execQuietRequest (w : Writer) (v : Byte) (s : State) : Res :=
  .next (s.served fun s => s.accessAct w 0x210003 [v] fun s => (s.quietRequest v.toNat, 0))

/-- RELAY_REQUEST: a write to 0x2018:02. -/
def execRelayRequest (w : Writer) (data : List Byte) (s : State) : Res :=
  .next (s.served fun s => s.accessAct w 0x201802 data fun s =>
    ((s.relay w.path (Tab.get 0 s.dict.relayDest (State.pathNo w.path)) data).1, 0))

/-- BUNDLE: a write to 0x3150:01. -/
def execBundle (w : Writer) (b : BundleObj) (s : State) : Res :=
  .next (s.served fun s =>
    let st := s.writeStatus w 0x315001 []
    if st ≠ 0 then s.respond w st [] else let p := s.bundleWrite b; p.1.respond w p.2 [])

end Sys2Proof.Machine
end

