-- ==== Sys2Proof/Machine/Messages.lean ====
section
/-!
DEFINITION. The messages that carry accesses: client sessions (R318 to R320), the host mailbox and BAR0 (R399 to R406),
and management messages over the backbone (R322, R358, R359).
-/

namespace Sys2Proof.Machine

namespace State

/-! ### Client sessions -/

/-- A session message written to 0x3120:01 (R357): the last reply goes, and the message is read. A message inside a session
is none. -/
def clientWrite (s : State) (w : Writer) (k : Nat) (data : List Byte) (message : State → State) : State :=
  if k = 0x312001 ∧ w.session = none then
    let st := s.writeStatus w k data
    if s.sdoClosed w then s else if st ≠ 0 then s.respond w st [] else message (s.putBytes 0x312002 [])
  else s.writeEntry w k data

/-- One operation of a session request or a mailbox request (R320, R360). On CAN0 a value is carried whole. -/
def runOp (s : State) (w : Writer) (op : DictOp) : State :=
  match op with
  | .read i sub offset => s.readEntry w (Od.key i sub) offset (decide (w.path = .can))
  | .write i sub data => s.writeEntry w (Od.key i sub) data
  | .segment i sub total offset data => s.writeSegment w (Od.key i sub) total offset data

/-- A REQUEST (R320): taken where its session is open and established, its number the next and its tag good, and checked
against the role of the session as it executes. -/
def sessionRequest (s : State) (p : Path) (n : Fin 8) (seq : Nat) (tagOk : Bool) (op : DictOp) : State :=
  let s := s.endSpent
  match Tab.find? s.trust.sessions n.val with
  | none => s.dropMessage p
  | some x =>
    if s.messageOk p n seq tagOk = false ∨ x.established = false then s.dropMessage p
    else
      let x' := { x with seqIn := seq, seqOut := x.seqOut + 1, lastAt := s.clock.counter }
      let s := { s with trust := { s.trust with sessions := Tab.insert s.trust.sessions n.val x' } }
      s.runOp { path := p, session := some n } op

/-- A session message as the enclave reads it. -/
def sessionMsg (s : State) (p : Path) (m : SessionMsg) : State :=
  match m with
  | .hello c => s.helloClient p c
  | .finish n seq sigOk => s.finishClient p n seq sigOk
  | .request n seq tagOk op => s.sessionRequest p n seq tagOk op
  | .close n seq tagOk => s.sessionClose p n seq tagOk

/-- The bytes of a session message: what they say depends on the session's keys (log 3), and bytes that are no message are
dropped (R320). -/
def sessionBytes (s : State) (p : Path) (data : List Byte) : State :=
  match Config.readMessage s.free data with
  | some m => s.tookFree.sessionMsg p m
  | none => s.tookFree.dropMessage p

/-- A write of a client, whichever entry it names. -/
def anyWrite (s : State) (w : Writer) (k : Nat) (data : List Byte) : State :=
  s.clientWrite w k data (fun s => s.sessionBytes w.path data)

/-! ### The mailbox -/

/-- A kind 0 write (R360): at offset 0 the whole value; at another, the next segment of a write in progress. -/
def plainRequestWrite (s : State) (k offset : Nat) (data : List Byte) : State :=
  let w : Writer := { path := .host }
  if offset = 0 then s.anyWrite w k data
  else match s.dict.segWrites.find? (fun x => decide (x.writer = w) && decide (x.key = k)) with
    | some x => s.writeSegment w k x.total offset data
    | none => s.respond w 0x0D []

/-- A kind 0 message (R360): operation, index, sub-index, offset, data. -/
def plainRequest (s : State) (d : List Byte) : State :=
  let w : Writer := { path := .host }
  let k := Od.key (field d 1 2) (field d 3 1)
  if d.length < 8 then s.respond w 6 []
  else if field d 0 1 = 1 then s.readEntry w k (field d 4 4) false
  else if field d 0 1 = 2 then s.plainRequestWrite k (field d 4 4) (d.drop 8)
  else s.respond w 9 []

/-- A kind 2 message (R360): the destination identity, then the message; the reply is the mailbox's response. -/
def relayMessage (s : State) (d : List Byte) : State :=
  let w : Writer := { path := .host }
  if d.length < 8 then s.respond w 6 []
  else
    let p := s.relay .host (field d 0 8) (d.drop 8)
    if p.2 then p.1 else p.1.respond w 0x11 []

/-- A complete mailbox message executes (R403, R405, step 3). With no image verified the enclave takes a kind 0 write to
0x3140:01 and nothing else. -/
def mbExecute (s : State) (r : MbRequest) : State :=
  let w : Writer := { path := .host }
  if s.power.phase = .noImage then
    let d := r.data
    if r.kind = 0 ∧ 8 ≤ d.length ∧ field d 0 1 = 2 ∧ Od.key (field d 1 2) (field d 3 1) = 0x314001 ∧ field d 4 4 = 0 then
      match Config.readImage (d.drop 8) with
      | some img => (s.imageLoad img).1.respond w (s.imageLoad img).2 []
      | none => s.respond w 0x4F []
    else s.respond w 3 []
  else if r.kind = 0 then s.plainRequest r.data
  else if r.kind = 1 then s.sessionBytes .host r.data
  else s.relayMessage r.data

/-- HP_MB_CMD (R404, R405): an ABORT first, then the chunk of a GO. -/
def mbCommand (s : State) (cmd : Word32) : State :=
  let s := if cmd.getLsbD 30 then s.mbAbort else s
  if cmd.getLsbD 31 then
    let q := s.mbChunk cmd
    match q.2 with
    | some r => q.1.mbExecute r
    | none => q.1
  else s

/-! ### BAR0 (R399, R402, R403) -/

/-- HP_STATUS (R403). -/
def hpStatus (s : State) : Nat :=
  (if s.isReady then 1 else 0) + (if s.power.phase = .noImage then 2 else 0) + s.nat 0x310001 % 4 * 4 +
  s.nat 0x210001 % 4 * 16 + s.nat 0x22100B % 4 * 64 + s.nat 0x300102 % 4 * 256 + (if s.regionLost then 1024 else 0)

/-- HP_MB_STAT (R404). -/
def mbStat (s : State) : Nat :=
  let h := s.host
  (if h.busy then 1 else 0) + (if h.next then 2 else 0) + (if h.resp then 4 else 0) + (if h.proto then 8 else 0) + h.status % 256 * 256

/-- A DW of BAR0 read, with its side effect (R402). A reserved DW reads 0. -/
def bar0Read (s : State) (o : Nat) : State × Nat :=
  let h := s.host
  if o = 0x000 then (s, 0x0960A1B0)
  else if o = 0x004 then (s, s.fuses.identity % 2 ^ 32)
  else if o = 0x008 then (s, s.fuses.identity / 2 ^ 32 % 2 ^ 32)
  else if o = 0x00C then (s, if s.isReady then s.nat 0x200006 else 0)
  else if o = 0x010 then (s, s.hpStatus)
  else if o = 0x014 then (s, s.power.hostSel.toNat + (if h.msixEnabled then 4 else 0) + (if h.linkUp then 8 else 0))
  else if o = 0x018 then (s, h.scratch)
  else if o = 0x01C then (s, h.err)
  else if o = 0x020 then (s, h.mbLen)
  else if o = 0x024 then (s, h.mbOff)
  else if o = 0x02C then (s, s.mbStat)
  else if o = 0x030 then (s, h.rlen)
  else if o = 0x034 then (s, h.roff % 2 ^ 23)
  else if o = 0x038 then (s, h.rchk % 2 ^ 11)
  else if 0x100 ≤ o ∧ o < 0x500 then (s, leNat (memReadAll h.buf o 4))
  else if 0x800 ≤ o ∧ o < 0xB00 then s.gateRead o
  else if 0xB00 ≤ o ∧ o < 0xC00 then (s, s.lockRegister o)
  else (s, 0)

/-- A DW of BAR0 written whole (R402, R404, R408, R412, R413). The gate, the time block, the lock and the mailbox take
effect once they are served. -/
def bar0Store (s : State) (o : Nat) (v : Word32) : State :=
  let mailbox := s.mailboxUp
  if o = 0x01C then (if v = 0 then { s with host := { s.host with err := 0 } } else s)
  else if o = 0x028 then (if mailbox then s.mbCommand v else s)
  else if o = 0x03C then (if mailbox then s.mbRack v else s)
  else if o < 0x800 then s.bar0Write o v
  else if s.isReady = false then s
  else if o < 0xB00 then s.imageWrite o v
  else if o = 0xB04 then (if v = 1 then s.lockFence else s)
  else if o = 0xB18 then (if v = 1 then s.lockPop else s)
  else s

/-- An access of the host to BAR0 (R399, R401): the DW at an offset within the 4 KiB window. -/
def hostWrite (s : State) (offset : Nat) (enables : BitVec 4) (v : Word32) : State :=
  if s.bar0Up = false then s
  else if enables ≠ 0xF then s.hostIgnored
  else s.bar0Store (offset % 4096 / 4 * 4) v
def hostRead (s : State) (offset : Nat) : State :=
  if s.bar0Up then let p := s.bar0Read (offset % 4096 / 4 * 4); p.1.hostAnswer p.2 else s

/-! ### Management messages (R322, R358, R359) -/

/-- The identities this device answers to: its own, and the pair's where it is the motor (R282). -/
def ownDestination (s : State) (id : Nat) : Bool :=
  decide (id = s.fuses.identity) || (decide (id = s.sliceSource) && !s.isButty)

/-- A write of a relation's reference or of the relation itself, from the gateway that offers the domain (R194). -/
def gatewayWrite (s : State) (d : Dom) (origin sub : Nat) (data : List Byte) : State × Bool :=
  if s.int (domSt d + 3) ≠ origin then (s, false)
  else if sub = 5 then
    (if data.length = 10 then s.setVal (domSt d + 5) (decodeVal .time80 data) else s, true)
  else (s.relationWrite d origin (s.int (domSt d + 5)) data, true)

/-- A write a node session carries (R322): the domain relation from the domain's gateway, a mode or a selection carried to
the lead by a member, or the lead's announcement of a switch. The flag says that it is allowed. -/
def nodeWrite (s : State) (origin k : Nat) (data : List Byte) : State × Bool :=
  let member := s.mu.roster.any (fun b => decide (b.identity.toNat = origin))
  if k = 0x261205 ∨ k = 0x261206 then s.gatewayWrite .ta origin (k - 0x261200) data
  else if k = 0x261305 ∨ k = 0x261306 then s.gatewayWrite .tb origin (k - 0x261300) data
  else if k = 0x243003 ∧ member then
    (if data.length = 1 ∧ 1 ≤ leNat data ∧ leNat data ≤ 15 then s.modeRequest (leNat data) else s, true)
  else if k = 0x261805 ∧ member then
    if data.length = 1 then (if leNat data = 1 ∨ leNat data = 2 then (s.selectionRequest (leNat data)).1 else s, true)
    else if data.length = 11 then
      (s.ntAnnounce (if field data 0 1 = 2 then .tb else .ta) (field data 1 8 * 65536) (field data 9 2), true)
    else (s, true)
  else (s, false)

/-- The reply to a relayed message (R359, R360): to the oldest that waits for that device. -/
def relayReply (s : State) (origin status : Nat) (data : List Byte) : State :=
  match s.dict.awaiting.find? (fun x => decide (x.1 = origin)) with
  | none => s
  | some x =>
    let s := { s with dict := { s.dict with awaiting := s.dict.awaiting.erase x } }
    if x.2 = .host ∧ s.host.exec ≠ 0 then s.answer { path := .host } status data
    else { s with dict := { s.dict with relayReply := Tab.set [] s.dict.relayReply (pathNo x.2) (le 1 status ++ data) } }

/-- No reply within 500 ms (R359): status 0x10. -/
def relayTimeout (s : State) (p : Path) : State :=
  match s.dict.awaiting.find? (fun x => decide (x.2 = p)) with
  | none => s
  | some x =>
    let s := { s with dict := { s.dict with awaiting := s.dict.awaiting.erase x } }
    if p = .host ∧ s.host.exec ≠ 0 then s.respond { path := .host } 0x10 []
    else { s with dict := { s.dict with relayReply := Tab.set [] s.dict.relayReply (pathNo p) [0x10] } }

/-- The response to a node session's request (R322, R360): its status, in a session message. -/
def nodeReply (s : State) (origin status : Nat) : State :=
  (s.respond { path := .mgmt } status []).sendNode origin 5 [BitVec.ofNat 8 status]

/-- The response to a relayed client message goes back to its origin (R358, kind 3); its text lies under the client's
session (log 3). -/
def relayAnswer (s : State) (origin : Nat) : State :=
  (s.sendChunks 3 origin (Config.freeBytes s.free (s.freeNat % 9000))).tookFree

/-- A relayed client message (R318, R360): its reply goes back where it has one. -/
def relayedMessage (s : State) (origin : Nat) (data : List Byte) : State :=
  let t := s.sessionBytes .mgmt data
  if (t.out.drop s.out.length).any (fun o => match o with | .response .mgmt _ _ => true | _ => false) then t.relayAnswer origin else t

/-- What a whole message says (R322), over the node session with its origin; without one it is dropped. -/
def mgmtMessage (s : State) (origin : Nat) (c : MgmtContent) : State :=
  if s.nodeOpen origin = false then s.dropMessage .mgmt
  else match c with
    | .request (.write i sub data) =>
      let p := s.nodeWrite origin (Od.key i sub) data
      p.1.nodeReply origin (if p.2 then 0 else 0x45)
    | .request _ => s.nodeReply origin 0x45
    | .viewAnswer view inst reason breach need pan signal =>
      if view < 16 then
        s.viewAnswer { view := view, inst := inst, source := origin, reason := reason, breach := breach, need := need, pan := pan, signal := signal }
      else s
    | .relayed data => s.relayedMessage origin data
    | .response status data => s.relayReply origin status data

/-- One chunk of a message taken (R359): its first copy, into one of at most 16 messages. -/
def mgmtTake (s : State) (f : MgmtFrame) : State :=
  let o := f.origin.toNat
  let key := (o, f.number, f.offset)
  let mine (x : Reassembly) : Bool := decide (x.origin = o) && decide (x.number = f.number)
  if s.dict.seen.contains key then s
  else
    let s := { s with dict := { s.dict with seen := s.dict.seen ++ [key] } }
    let old := s.dict.reassembly.find? mine
    if old.isNone ∧ 16 ≤ s.dict.reassembly.length then s
    else
      let x : Reassembly := old.getD { origin := o, number := f.number, kind := 0, total := f.total, got := [] }
      let x := { x with got := x.got ++ [(f.offset, f.length)] }
      let rest := s.dict.reassembly.filter (fun y => !(mine y))
      if x.total ≤ (x.got.map (·.2)).sum then
        ({ s with dict := { s.dict with reassembly := rest } } : State).mgmtMessage o f.content
      else { s with dict := { s.dict with reassembly := rest ++ [x] } }

/-- An MGMT frame arrives (R284, R359): an input of a pair. A butty passes what is for the pair to the motor. -/
def mgmtFrame (s : State) (f : MgmtFrame) : State :=
  let id := f.destination.toNat
  if s.ownDestination id then s.replicate s.ctNow (.mgmt f) (·.mgmtTake f)
  else if s.isButty ∧ id = s.sliceSource then s.toPartner (.input s.ctNow (.mgmt f))
  else s

end State

/-! ### The commands -/

/-- REGISTER_WRITE. -/
def execRegisterWrite (t : WriteTarget) (s : State) : Res :=
  .next (match t with
    | .entry a data => s.served (·.anyWrite a.writer (Od.key a.index a.sub) data)
    | .segment a total offset data => s.served (·.writeSegment a.writer (Od.key a.index a.sub) total offset data)
    | .bar0 offset enables v => s.hostWrite offset enables v
    | .qspiMalformed => if s.bar0Up ∧ s.power.hostSel = 1 then s.hostIgnored else s)

/-- DICT_READ. -/
def execDictRead (w : Writer) (t : ReadTarget) (s : State) : Res :=
  .next (match t with
    | .entry i sub => s.served (·.readEntry w (Od.key i sub) 0 true)
    | .segment i sub offset => s.served (·.readEntry w (Od.key i sub) offset false)
    | .bar0 offset => s.hostRead offset)

/-- SESSION_REQUEST. -/
def execSessionRequest (p : Path) (n : Fin 8) (seq : Nat) (tagOk : Bool) (op : DictOp) (s : State) : Res :=
  .next (s.served (·.sessionRequest p n seq tagOk op))

/-- GO: HP_MB_CMD written with GO. -/
def execGo (cmd : Word32) (s : State) : Res := .next (s.hostWrite 0x028 0xF (cmd ||| 0x80000000#32))

/-- MGMT_FRAME_RECEIVED. -/
def execMgmtFrameReceived (f : MgmtFrame) (s : State) : Res := .next (s.served (·.mgmtFrame f))

/-- MGMT_REASSEMBLY_TIMEOUT: a message incomplete 200 ms after its first chunk is discarded. -/
def execMgmtReassemblyTimeout (origin : BitVec 64) (number : Nat) (s : State) : Res :=
  .next (s.served fun s => { s with dict := { s.dict with
    reassembly := s.dict.reassembly.filter (fun x => !(decide (x.origin = origin.toNat) && decide (x.number = number))) } })

/-- MGMT_RESPONSE_TIMEOUT. -/
def execMgmtResponseTimeout (p : Path) (s : State) : Res := .next (s.served (·.relayTimeout p))

/-- SDO_TIMEOUT. -/
def execSdoTimeout (s : State) : Res := .next (s.served (·.sdoAbort 0x05040000))

end Sys2Proof.Machine
end

