-- ==== Sys2Proof/Machine/CanOpen.lean ====
section
/-!
DEFINITION. The PDOs of the CANopen node (R371 to R376, R452), the frames CAN0 consumes (R450), a frame received on a CAN
port, and what a replicated input of a pair does when its passage comes (R284).
-/

namespace Sys2Proof.Machine

namespace State

/-! ### PDO records -/

/-- The communication and mapping records of RPDO k + 1 and TPDO k + 1 (R371). -/
def rpdoCom (k : Nat) : Nat := Od.key (0x1400 + k) 0
def rpdoMap (k : Nat) : Nat := Od.key (0x1600 + k) 0
def tpdoCom (k : Nat) : Nat := Od.key (0x1800 + k) 0
def tpdoMap (k : Nat) : Nat := Od.key (0x1A00 + k) 0

/-- The entries a mapping record lists: key and length in bits (R371). -/
def mapping (s : State) (b : Nat) : List (Nat × Nat) :=
  ((List.range (s.nat b)).map (fun i => s.nat (b + i + 1))).map (fun m => (m / 256, m % 256))

/-- The bits of a mapping. -/
def mappedBits (m : List (Nat × Nat)) : Nat := (m.map (·.2)).sum

/-- A PDO is in use: its COB-ID is valid and something is mapped (R372, R376). -/
def pdoOn (s : State) (com map : Nat) : Bool := !(s.nat (com + 1)).testBit 31 && decide (s.nat map ≠ 0)

/-- PDOs are served in the NMT state operational (R449). -/
def pdosRun (s : State) : Bool := decide (s.int 0x330103 = 5)

/-- A frame carries a COB-ID (R372). -/
def cobMatches (cob : Nat) (f : Sys2Proof.CanFrame) : Bool :=
  if cob.testBit 29 then CanFrame.ext f && decide (CanFrame.id f = cob % 2 ^ 29)
  else !(CanFrame.ext f) && decide (CanFrame.id f = cob % 2 ^ 11)

/-! ### TPDOs (R374) -/

/-- The mapped values packed from bit 0 of byte 0 upward (R375). -/
def packMapped (s : State) : List (Nat × Nat) → Nat
  | [] => 0
  | (k, n) :: t =>
    let v := match s.readValue .can k with | .num v => (v % 2 ^ n).toNat | .bytes _ => 0
    v + 2 ^ n * s.packMapped t

/-- The sample of a TPDO. -/
def tpdoSample (s : State) (k : Nat) : List Byte :=
  let m := s.mapping (tpdoMap k)
  le ((mappedBits m + 7) / 8) (s.packMapped m : Nat)

/-- One TPDO's state, and its update. -/
def tpdo (s : State) (k : Nat) : Tpdo := Tab.get {} s.canopen.tpdo k
def setTpdo (s : State) (k : Nat) (x : Tpdo) : State :=
  { s with canopen := { s.canopen with tpdo := Tab.set {} s.canopen.tpdo k x } }

/-- A TPDO is sent with its sample. -/
def sendTpdo (s : State) (k : Nat) : State :=
  let x := s.tpdo k
  let s := s.setTpdo k { x with sent := x.sample, changed := false, sentAt := some s.clock.counter, syncs := 0, started := true }
  if s.canOpenSends then (s.queueFrame 0 (profileFrame (s.nat (tpdoCom k + 1)) x.sample)).1 else s

/-- The inhibit time since the last sending has passed. -/
def inhibitOver (s : State) (k : Nat) : Bool :=
  match (s.tpdo k).sentAt with
  | none => true
  | some t => decide (t + s.nat (tpdoCom k + 3) * 31250 ≤ s.clock.counter)

/-- The sample of a passage start (R374): a change against the last sample, which an event-driven TPDO sends. -/
def sampleTpdo (s : State) (k : Nat) : State :=
  if s.pdoOn (tpdoCom k) (tpdoMap k) = false then s
  else
    let x := s.tpdo k
    let new := s.tpdoSample k
    let s := s.setTpdo k { x with sample := new, changed := x.changed || (decide (x.sample ≠ []) && decide (x.sample ≠ new)) }
    if s.pdosRun ∧ 254 ≤ s.int (tpdoCom k + 2) ∧ (s.tpdo k).changed = true ∧ s.inhibitOver k = true then s.sendTpdo k else s

/-- The event timer of a TPDO after its last sending (R374). -/
def tpdoTimer (s : State) (k : Nat) : State :=
  if s.pdosRun ∧ s.pdoOn (tpdoCom k) (tpdoMap k) ∧ 254 ≤ s.int (tpdoCom k + 2) ∧ s.int (tpdoCom k + 5) ≠ 0 ∧
      (s.tpdo k).sample ≠ [] then s.sendTpdo k else s

/-- What a SYNC does to a TPDO of a synchronous type (R374). -/
def syncTpdo (s : State) (k : Nat) : State :=
  let x := s.tpdo k
  let t := s.nat (tpdoCom k + 2)
  let start := s.nat (tpdoCom k + 6)
  if s.pdoOn (tpdoCom k) (tpdoMap k) = false ∨ 240 < t ∨ x.sample = [] then s
  else if t = 0 then (if x.changed then s.sendTpdo k else s)
  else if s.int 0x101900 ≠ 0 ∧ start ≠ 0 ∧ x.started = false then
    (if s.canopen.syncCounter = start then s.sendTpdo k else s)
  else if t ≤ x.syncs + 1 then s.sendTpdo k
  else s.setTpdo k { x with syncs := x.syncs + 1 }

/-! ### RPDOs (R374, R375, R452) -/

/-- The values of an RPDO's data: key and bytes; a dummy takes its bits and writes nothing. -/
def unpackMapped : List (Nat × Nat) → Nat → List (Nat × List Byte)
  | [], _ => []
  | (k, n) :: t, d =>
    let rest := unpackMapped t (d / 2 ^ n)
    if Od.indexOf k ≤ 7 then rest else (k, le ((n + 7) / 8) (d % 2 ^ n : Nat)) :: rest

/-- The writes of an RPDO one after the other; none where one is refused. -/
def writeAll : List (Nat × List Byte) → State → State × Nat
  | [], s => (s, 0)
  | (k, d) :: t, s =>
    let p := s.performWrite { path := .rpdo } k d
    if p.2 = 0 then writeAll t p.1 else p

/-- The received values are written, all or none (R375). A refusal is counted as every access's is (R365, R337). -/
def applyRpdo (s : State) (k : Nat) (data : List Byte) : State :=
  let p := writeAll (unpackMapped (s.mapping (rpdoMap k)) (leNat data)) s
  if p.2 = 0 then p.1.settle
  else
    let s := s.bump 0x200105
    if 0x41 ≤ p.2 ∧ p.2 ≤ 0x4F then s.trustRefuse (p.2 - 0x40) else s

/-- An RPDO arrives: its length is judged, its event timer restarts, and its values are written now or at the next SYNC. -/
def rpdoReceived (s : State) (k : Nat) (data : List Byte) : State :=
  if s.pdosRun = false ∨ s.pdoOn (rpdoCom k) (rpdoMap k) = false then s
  else
    let need := (mappedBits (s.mapping (rpdoMap k)) + 7) / 8
    let bit := BitVec.ofNat 8 (2 ^ k)
    let s := if s.int (rpdoCom k + 5) = 0 then s
      else { s with canopen := { s.canopen with timing := s.canopen.timing ||| bit } }
    if data.length < need then (s.bump 0x330106).emcy 0x8210 0
    else
      let s := if need < data.length then s.emcy 0x8220 0 else s
      if s.int (rpdoCom k + 2) ≤ 240 then
        { s with canopen := { s.canopen with rpdo := Tab.insert s.canopen.rpdo k data } }
      else s.applyRpdo k data

/-- An RPDO's event timer expires before the next reception (R452). -/
def rpdoTimeout (s : State) (k : Nat) : State :=
  if s.canopen.timing.getLsbD k ∧ s.pdosRun then
    let s := { s with canopen := { s.canopen with timing := s.canopen.timing &&& ~~~ BitVec.ofNat 8 (2 ^ k) } }
    (s.bump 0x330107).emcy 0x8250 0
  else s

/-- A SYNC (R374, R452): the synchronous TPDOs are sent, then the values of waiting RPDOs are written. -/
def syncFrame (s : State) (data : List Byte) : State :=
  let run := decide (s.int 0x330103 = 5 ∨ s.int 0x330103 = 127)
  let want := if s.int 0x101900 = 0 then 0 else 1
  if run = false then s
  else if data.length ≠ want then s.emcy 0x8240 0
  else
    let s := { s.bump 0x330108 with canopen := { s.canopen with syncCounter := leNat data } }
    if s.pdosRun then
      let s := (List.range 8).foldl syncTpdo s
      let waiting := s.canopen.rpdo
      let s := { s with canopen := { s.canopen with rpdo := [] } }
      waiting.foldl (fun s e => s.applyRpdo e.1 e.2) s
    else s

/-! ### Frames (R444, R450) -/

/-- The frames CAN0 consumes (R450): Classical data frames of the profile. SDO requests come as accesses of their own. -/
def consume (s : State) (f : Sys2Proof.CanFrame) : State :=
  let id := CanFrame.id f
  if f.fd ∨ f.remote then s
  else
    let s :=
      if CanFrame.ext f then s
      else if id = 0 then (if f.data.length = 2 then s.nmt (field f.data 0 1) (field f.data 1 1) else s)
      else if 0x701 ≤ id ∧ id ≤ 0x77F ∧ f.data.length = 1 then s.heartbeat (id - 0x700)
      else s
    let s := if cobMatches (s.nat 0x100500) f then s.syncFrame f.data else s
    (List.range 8).foldl (fun s k => if cobMatches (s.nat (rpdoCom k + 1)) f then s.rpdoReceived k f.data else s) s

/-- A port takes part in its bus: neither off, nor bus-off, nor asleep, nor measuring (R439, R446). -/
def canHears (s : State) (c : Nat) : Bool :=
  let st := s.canState c
  !(decide (st = 0 ∨ st = 3) || s.canAsleep || (decide (st = 5) && decide (s.int (canDet c + 3) ≠ 2)))

/-- A frame received on a port, acted on. -/
def canIn (s : State) (c : Nat) (f : Sys2Proof.CanFrame) (stamp : Int) : State :=
  if s.canHears c then
    let s := s.canReceived c f stamp
    if c = 0 then s.consume f else s
  else s

/-! ### The inputs of a pair (R284) -/

/-- A replicated input acted on at its passage start. A write is answered by the unit that received it. -/
def actInput (s : State) (x : PairWait) : State :=
  match x.what with
  | .can port f stamp => s.canIn port f stamp
  | .field channel level stamp => s.fieldInput channel level stamp
  | .mgmt f => s.mgmtTake f
  | .lock t m => s.lockActed t m
  | .host (.entry a data) =>
    let p := s.performWrite a.writer (Od.key a.index a.sub) data
    (if x.unitA = s.unitA then p.1.respond a.writer p.2 [] else p.1).takeDue
  | .host _ => s
  | .bar2 y => s.bar2Request (x.unitA = s.unitA) y
  | .ibi port stamp payload => s.inBand port stamp payload
  | .capture input rising invalid stamp => s.capPush input { stamp := stamp, rising := rising, invalid := invalid }

/-- The inputs due at a passage start: those stamped at least 20 µs before it, in their order. -/
def actInputs (s : State) : State :=
  let due := s.pair.inputs.filter (fun x => decide (x.stamp + 20000 * 65536 ≤ s.passageStart))
  let rest := s.pair.inputs.filter (fun x => !(decide (x.stamp + 20000 * 65536 ≤ s.passageStart)))
  let s := s.setPair { s.pair with inputs := rest, acting := true }
  let s := due.foldl actInput s
  s.setPair { s.pair with acting := false }

end State

/-! ### The commands -/

/-- CAN_FRAME_RECEIVED: a frame whose start of frame lay some ticks back (R439). -/
def execCanFrameReceived (c : Fin 4) (f : Sys2Proof.CanFrame) (ago : Nat) (s : State) : Res :=
  .next (s.served fun s =>
    let stamp := s.ctAt (s.clock.counter - ago) 0
    s.replicateShared stamp (.can c f stamp) (fun s => s.canIn c f stamp))

/-- SYNC: a frame on its COB-ID. -/
def execSync (data : List Byte) (s : State) : Res :=
  .next (s.served fun s =>
    s.replicateShared s.ctNow (.can 0 (State.profileFrame (s.nat 0x100500) data) s.ctNow) (·.syncFrame data))

/-- RPDO_RECEIVED: a frame on the COB-ID of RPDO k + 1. -/
def execRpdoReceived (k : Fin 8) (data : List Byte) (s : State) : Res :=
  .next (s.served fun s =>
    s.replicateShared s.ctNow (.can 0 (State.profileFrame (s.nat (State.rpdoCom k + 1)) data) s.ctNow) (·.rpdoReceived k data))

/-- RPDO_TIMEOUT. -/
def execRpdoTimeout (k : Fin 8) (s : State) : Res := .next (s.served (·.rpdoTimeout k))

/-- TPDO_EVENT_TIMER. -/
def execTpdoEventTimer (k : Fin 8) (s : State) : Res := .next (s.served (·.tpdoTimer k))

end Sys2Proof.Machine
end

