-- ==== Sys2Proof/Machine/Boot.lean ====
section
/-!
DEFINITION. Step 4 of the boot, READY (R516), with what the loading of the areas (R351), the start of TIME (R175, R206),
the islands (R508), the field outputs (R467) and the node's boot-up (R448) do at it; safety-monitor faults (R515); and
what time alone brings: the second and the claim of a role.
-/

namespace Sys2Proof.Machine

namespace State

/-- An area whose two copies are both invalid has taken its defaults (R351). -/
def fallback (s : State) (a b : Copy) : State :=
  if (inForce a b).isSome then s else ((s.put 0x200103 1).bump 0x200104).raise 9 0 0 0

/-- The islands whose clocks run from READY on (R508): no restarts of R509. -/
def startIslands (s : State) : State :=
  let on := (List.range 30).foldl (fun m i => if s.islandWanted i then m ||| BitVec.ofNat 30 (2 ^ i) else m) s.power.islands
  { s with power := { s.power with islands := on } }

/-- Every latched input of the event gate (R411), and every latched time capture (R206). -/
def actLatched (s : State) : State :=
  let s := (List.range 4).foldl captureLatched s
  (List.range 256).foldl raiseLatched s

/-- The regions of the displays as the loaded configuration has them (R108, R117). -/
def startRegions (s : State) : State :=
  (List.range 2).foldl (fun s d => (((List.range 6).map (· + 1)).foldl (fun s i => s.resetRegion d i 0) s).regionFigures d) s

/-- The coupler, star and CAN ports as the loaded configuration has them (R136, R137, R440). -/
def startPorts (s : State) : State :=
  let s := (List.range 4).foldl applyPortEnable s
  let s := (List.range 8).foldl applyStarEnable s
  (List.range 4).foldl (fun s c => s.applyCan c true) s

/-- The admitted streams, keys, tables and pulses of the loaded configuration. -/
def startServices (s : State) : State :=
  let s := s.refreshTables.ingestSummary.installAdmission
  let s := (s.startRegions).viewStatuses.publishKeys
  (List.range 12).foldl pulseCommit s.pulseOwners

/-- Step 4 of the boot, `micros` after POR release (R516): TIME starts at counter 0 with the start state LISTEN. -/
def ready (s : State) (micros : Nat) : State :=
  if s.power.phase = .verified then
    let s : State := { s with
      power := { s.power with phase := .ready }
      clock := { s.clock with running := true, counter := 0 } }
    let s := ((s.put 0x210303 micros).put 0x210401 (if s.power.refFault then 2 else 1)).gateReady
    let s := (s.fallback s.mram.config0 s.mram.config1).fallback s.mram.stored0 s.mram.stored1
    let s := (s.startPorts.startServices).startPair
    let s := (s.startOutputs.bootUp).startIslands
    ((s.actLatched).judgeVotes.scrubResume).report 0 0x0102 0 0 0
  else s

/-- The cores run, and the safety monitor is armed: from step 3 of the boot on (R516). -/
def coresRun (s : State) : Bool := decide (s.power.phase = .verified ∨ s.power.phase = .ready)

/-- A second of READY: an operating second, every whole hour of them an operating hour since the last complete scrub (R519,
DEDUCED, log 99), and the sessions that have ended (R320). -/
def second (s : State) : State :=
  let s := s.bump 0x200101
  (if s.nat 0x200101 % 3600 = 0 then s.put 0x210502 (min (s.int 0x210502 + 1) 65535) else s).endSpent

/-- A tick of the local counter (R175): with each second of READY, what a second brings; a star egress starts what waits for it (R112, R139); a role that is due is claimed (R280). -/
def tick (s : State) : State :=
  if s.clock.running ∧ s.isReady then
    let s : State := { s with clock := { s.clock with counter := s.clock.counter + 1 } }
    let s := if s.clock.counter % 312500000 = 0 then s.second else s
    ((List.range 8).foldl (fun s p => (s.starPump p).forwardPump p) s).claimNow
  else s

end State

/-! ### The commands -/

/-- READY: `micros` after POR release. -/
def execReady (micros : Nat) (s : State) : Res := .next (s.ready micros)

/-- SRAM_SCRUB: with what an uncorrectable word outside the firmware working memory held. -/
def execSramScrub (corrected uncorrectable : Nat) (x : ScrubFinding) (s : State) : Res :=
  .next ((if s.isReady ∧ 0 < uncorrectable then s.sramLost x.lost else s).sramScrub corrected uncorrectable x.firmware)

/-- SAFETY_MONITOR_FAULT. -/
def execSafetyMonitorFault (kind : Fin 4) (inst : Nat) (s : State) : Res := .next (if s.coresRun then s.safetyFault kind inst else s)

/-- LOCKSTEP_ERROR. -/
def execLockstepError (pair : Fin 8) (s : State) : Res := .next (if s.coresRun then s.lockstepError pair else s)

end Sys2Proof.Machine
end

