-- ==== Sys2Proof/Machine/Boundary.lean ====
section
/-!
DEFINITION. What is due at a flight boundary (R143), at a passage start (R142) and at an adoption (R181), each as ONE
operation over the operations of the chapters: the application of a making-up (R228) and of a commit (R354), rebinding
(R22), membership, lock-keepers, domains, pair, mooring and QUIET.
-/

namespace Sys2Proof.Machine

namespace State

/-! ### The flight that ends, and the one that begins -/

/-- The node sessions with devices whose berth was a member and is one no longer end (R322). -/
def lostNodes (s : State) (before : Nat) : State :=
  let now := s.nat 0x248101
  let lost := s.mu.roster.filter (fun b => decide (Nat.land before (addBerth 0 b.berth) ≠ 0 ∧ Nat.land now (addBerth 0 b.berth) = 0))
  if lost = [] then s else s.endNodes (fun id => !(lost.any (fun b => decide (b.identity.toNat = id))))

/-- The flight that ended: the rate correction, not from a flight that was only partly heard (R188, R222); membership,
reach and missing flights (R250 to R252); the lock requests to a device that is no longer a member (R435). -/
def endFlight (s : State) : State :=
  let missing := s.flightMissing
  let s := if s.startState = 2 ∧ s.mu.listen = 1 then
      ({ s with clock := { s.clock with at0 := [], at63 := [] } } : State)
    else s.rateCorrection
  let members := s.nat 0x248101
  let s := (s.formMembership).missingFlights missing
  (s.lostNodes members).lockMembers

/-- The next flight begins where the last one ends (R142); its passage 0 is yet to start. -/
def beginFlight (s : State) : State :=
  let start := s.clock.flightStart + 64 * s.passageLen * 65536
  let s := s.put 0x240003 ((s.flight + 1) % 2 ^ 32 : Nat)
  { s with clock := { s.clock with flightStart := start, fresh := true } }

/-! ### The application of a making-up (R228, R231, R240) -/

/-- The gateway of a domain in the applied consist (R19): its identity and berth (R209). A gateway other than the last
steps the view by its first relation (R179). -/
def setGateway (s : State) (d : Dom) : State :=
  let id := gatewayOf s.mu.roster d
  let berth := ((s.mu.roster.find? (fun b => decide (b.identity.toNat = id ∧ id ≠ 0))).map (·.berth)).getD 0
  let s := if id ≠ 0 ∧ s.nat (domSt d + 3) ≠ id then s.setDomain d { s.domain d with moved := true } else s
  (s.put (domSt d + 3) (id : Nat)).put (domSt d + 2) berth

/-- A device is this one, or the partner at its berth. -/
def atOwnBerth (s : State) (id : Nat) : Bool := decide (id = s.fuses.identity) || (s.pairing && decide (id = s.nat 0x300104))

/-- The roles at 0x2220:0B. -/
def rolesOf (s : State) (c : Consist) (order : Nat) : Nat :=
  (if s.atOwnBerth c.lead then 1 else 0) + (if s.int 0x220004 ≠ 0 then 2 else 0) + (if order ≠ 0 then 4 else 0) +
  (if s.nat 0x261203 = s.fuses.identity then 8 else 0) + (if s.nat 0x261303 = s.fuses.identity then 16 else 0) +
  (if s.berthLimit < c.berth then 32 else 0) + (if c.leftOut then 64 else 0)

/-- The new installation values, roster, sync order, gateways, roles and consist record. -/
def applyNumbers (s : State) (c : Consist) (roster : List Berthed) : State :=
  let s : State := { s with
    od := s.mu.newInst.foldl (fun t e => Store.set t e.1 e.2) s.od
    mu := { s.mu with
      newInst := [], roster := roster, working := none, applied := true, adopted := false, yielded := false, yielding := false,
      joining := false, directory := [] } }
  let order := if c.leftOut then 0 else syncOrder roster s.listedAs
  let s := ((s.put 0x260007 order).setGateway .ta).setGateway .tb
  let s := if (c.leftOut && !s.mu.conflict) || decide (s.berthLimit < c.berth) then s.bump 0x225005 else s
  let s := (((s.put 0x222001 c.hash).put 0x222002 c.berth).put 0x222003 c.vehicle).put 0x222004 c.set
  let s := (((s.put 0x222005 c.orientation).put 0x222006 c.leadSide).put 0x222007 c.lead).put 0x222008 c.positions
  let s := ((s.put 0x222009 c.vehicles).put 0x22200A c.sets).put 0x22200B (s.rolesOf c order : Nat)
  (s.put 0x22200C s.flight).setTimeLead c.lead c.leadRank

/-- A port at an application: the links that carry the new consist (R234), the ends of isolations (R248). -/
def applyPort (s : State) (p : Nat) : State := (s.setPl p { s.pl p with joined := s.counts p }).keeperApplied p

/-- IDLE (R223, R233): progress 10000, the duration since the last trigger, and the generation held until F. -/
def makeUpDone (s : State) : State :=
  let us := (s.clock.counter - s.mu.trigAt) * 32 / 10000
  let s := ((((s.put 0x221001 0).put 0x22100A 0).put 0x221008 (us : Nat)).bump 0x225001).muProgress 10000
  let s := (s.opEnd 4 2 0).raise 127 s.generation 0 0
  let held := s.mu.held
  let s : State := { s with mu := { s.mu with
    newInst := s.mu.heldInst, heldInst := [], consist := none, f := none, held := none, agreeSent := false, wasLead := s.isLead, passive := s.mu.passive && !s.isRunning } }
  match held with
  | some g => (s.gather g).evaluate
  | none => s

/-- A lead that was none before, and whose own selection is not the domain that NT follows, decides a switch (R195,
step 1); any other lead tells the selection in force to the berths of the new consist (log 77). -/
def leadSelects (s : State) (wasLead : Bool) : State :=
  let d : Dom := if s.int 0x261801 = 2 then .tb else .ta
  if s.isLead = false then s
  else if wasLead = false ∧ s.clock.ntDom = some (otherDom d) then s.ntDecide d
  else match s.selected with | some e => s.tellSelection e s.clock.ntTsw | none => s

/-- The making-up applies (R228, step 3): numbering, orders, roles, hash, the mode and the slot tables for the new counts. -/
def applyMakeUp (s : State) (c : Consist) (roster : List Berthed) : State :=
  let first := !s.mu.applied && !s.mu.adopted
  let changed := decide (s.nat 0x222001 ≠ c.hash)
  let was := s.mu.wasLead
  let s := ((s.applyNumbers c roster).refreshTables).modeApplied first s.line.members.differ
  let s := (List.range 4).foldl applyPort s
  let s := s.endNodes (fun id => s.mu.roster.any (fun b => decide (b.identity.toNat = id ∨ b.pairId.toNat = id)) || s.atOwnBerth id)
  (s.lockApplied changed).makeUpDone.leadSelects was

/-- The consist that applies at the flight that begins: none after an agreed F_m (R266). -/
def dueConsist (s : State) : Option Consist :=
  if s.muState = 3 ∧ s.mu.f = some s.flight ∧ (s.sleepAgreed = false ∨ (s.nat 0x340105 + 2 ^ 32 - s.flight) % 2 ^ 32 < 2 ^ 31)
  then s.mu.consist else none

/-- A stored commit is due (R354, step 4): its boundary has come, or the device is no longer RUNNING. -/
def commitDue (s : State) : Bool :=
  decide (s.int 0x201002 = 3) && (!s.isRunning || decide (s.flightsSince (s.nat 0x201004) < 2 ^ 31))

/-- In SCHEDULED the definitions of views go out ahead of F (R76): the selectors resolved against the consist that will apply,
with the configuration that will. -/
def announceDue (s : State) : State :=
  match s.mu.consist, s.mu.f with
  | some c, some f =>
    if s.muState ≠ 3 ∨ s.mu.directory = [] then s
    else
      let commits := decide (s.int 0x201002 = 3 ∧ (f + 2 ^ 32 - s.nat 0x201004) % 2 ^ 32 < 2 ^ 31)
      let t := (if commits then s.asStaged else s).put 0x222002 c.berth
      s.announce { t with mu := { t.mu with roster := s.mu.directory } } f true
  | _, _ => s

/-- What a making-up and a commit bring at one boundary: both, then the selectors resolved once against the new consist
(R22), with the over-length streams judged where a making-up applied (R131). -/
def applyDue (s : State) (roster : List Berthed) : State :=
  let c? := s.dueConsist
  let commits := s.commitDue
  let s := match c? with | some c => s.applyMakeUp c roster | none => s
  let s := if commits then s.applyStaged else s
  if c?.isSome || commits then s.rebind c?.isSome
  else if roster = [] then s else { s with mu := { s.mu with directory := roster } }

/-! ### Start-up, ports, domains -/

/-- The listen flight begins and ends (R222); an integrated device transmits from the boundary after that (R220). -/
def listenBoundary (s : State) : State :=
  if s.startState = 2 then
    if s.mu.listen = 1 then { s with mu := { s.mu with listen := 2 } }
    else if s.mu.listen = 2 then
      let s := s.enterRunning false
      { s with mu := { s.mu with listen := 3 } }
    else s
  else if s.mu.listen = 3 then { s with mu := { s.mu with listen := 0 } }
  else s

/-- A coupler port at a boundary: its lock-keeper (R243), its secure associations (R327), its largest residence (R208). -/
def portBoundary (s : State) (p : Nat) : State :=
  let s := (s.keeperBoundary p).rekeySwitch p
  let r := (s.pl p).residence
  (s.put (0x260201 + p) r).setPl p { s.pl p with residence := 0 }

/-- A domain's relation grows older, and flights without a gateway count (R194). -/
def ageDomain (s : State) (d : Dom) : State :=
  let s := if (s.domain d).known then s.put (domSt d + 7) (s.int (domSt d + 7) + 1) else s
  s.setDomain d { s.domain d with orphan := if s.int (domSt d + 3) = 0 then (s.domain d).orphan + 1 else 0 }

/-- The gateway of a domain sends its relation to every berth (R194), and takes it itself. -/
def sendRelation (s : State) (d : Dom) : State :=
  let id := s.fuses.identity
  match (List.range 8).find? (fun p => decide (s.inputOf p = some d)) with
  | none => s
  | some p =>
    if s.nat (domSt d + 3) = id ∧ (s.domain d).offers ∧ (s.gp p).last.isSome then
      let r := s.portRelation p
      let i := Od.indexOf (domSt d)
      let s := s.sendMgmt 0 i 5 (valueBytes (domSt d + 5) (.num r.1))
      (s.sendMgmt 0 i 6 r.2).relationWrite d id r.1 r.2
    else s

/-! ### Mooring, QUIET, video -/

/-- The mooring steps (R268). With step 1 the queued lock requests fail, and no slice is sent any more. -/
def mooringSteps (s : State) : State :=
  let before := s.mooring.stage
  let s := s.mooringBoundary
  if before < 1 ∧ 1 ≤ s.mooring.stage then
    let s := s.lockMooring
    ({ s with slices := { s.slices with out := [] } } : State).flightCount
  else s

/-- Step 8 of the boot (R516): at a boundary in RUNNING, what the applied configuration enables leaves OFF. -/
def startVideo (s : State) : State :=
  if s.isRunning ∧ s.mu.listen = 0 ∧ s.isQuiet = false ∧ s.mooring.stage < 1 then
    let s := (List.range 8).foldl (fun s n => if s.flag (camDef n + 1) ∧ s.camState n = 0 then s.applyCamera n else s) s
    (List.range 2).foldl (fun s d => if s.flag (dsiRec d + 1) ∧ s.dispState d = 0 then s.applyDisplay d else s) s
  else s

/-- FLIGHT_BOUNDARY (R143). `roster`: the positions of the consist that applies, or of the one being made up; `ended`: the bindings that
end, as requester, view and instance. Before CT exists there is no flight. -/
def flightBoundary (s : State) (roster : List Berthed) (ended : List (Nat × Nat × Nat)) : State :=
  if s.ctValid then
    let s := (s.passageDigests.endFlight).beginFlight
    let s := ((s.applyDue roster).switchBoundary).listenBoundary
    let s := (List.range 4).foldl portBoundary s
    let s := ((s.ageDomain .ta).ageDomain .tb |>.sendRelation .ta).sendRelation .tb
    let s := (s.pairBoundary.mooringSteps).applyQuiet
    let s := s.startVideo.takeAnswers
    ((s.instancesAtBoundary s.clock.flightStart ended).viewStatuses).islandScan
  else s

/-! ### A passage start -/

/-- A pulse whose time base has become valid, or invalid (R203, R552). -/
def pulseCheck (s : State) (i : Nat) : State :=
  let b := Od.key (0x2630 + i) 0
  if s.flag (b + 1) ∧ (decide (s.int (b + 0x10) = 5) = s.baseValid (s.int (b + 3))) then s.pulseReplace i else s

/-- A step of TA or TB (R204): the pulses on NT are placed anew. -/
def pulseStepped (s : State) : State :=
  if s.clock.stepped then
    let s : State := { s with clock := { s.clock with stepped := false } }
    (List.range 12).foldl (fun s i => if s.int (Od.key (0x2630 + i) 3) = 1 then s.pulseReplace i else s) s
  else s

/-- The choices of slots that lie more than a passage back are gone (R286). -/
def dropChoices (s : State) : State :=
  let now := s.flight * 64 + s.passage
  s.setPair { s.pair with choices := s.pair.choices.filter (fun c => c.slots.any (fun x => decide (now ≤ x.1 + 1))) }

/-- What the own ports of a side carry, for the partner (R225): a keyed link that is up, and the summary heard. -/
def sideTold (s : State) (fore : Bool) : TowInput :=
  let p := [sidePort fore 0, sidePort fore 1].filter s.counts
  .summary fore (decide (p ≠ [])) (([0, 1].filterMap (fun c => s.heardOn (sidePort fore c))).head?)
def tellSides (s : State) : State := (s.toPartner (s.sideTold true)).toPartner (s.sideTold false)

/-- A node that yielded its slot to a lower identity leaves it from this passage on (R183). -/
def leaveOrder (s : State) : State :=
  if s.mu.yielding then { s.put 0x260007 0 with mu := { s.mu with yielding := false, yielded := true } } else s

/-- PASSAGE_START (R142): the views are re-anchored, an attempt sends its COLD_START, the lock writes its summary, a pair
acts on its inputs and tells its own value (R225), TPDOs are sampled, collections served, votes judged (R259). -/
def passageStarts (s : State) : State :=
  let n := if s.clock.fresh then 0 else (s.passage + 1) % 64
  let s := if s.clock.fresh then s else s.passageDigests
  let s := ({ s with clock := { s.clock with fresh := false } } : State).clockPassage n
  let s := ((List.range 12).foldl pulseCheck s.leaveOrder).pulseStepped
  let s := (s.sendColdStart.lockPassage.dropChoices).actInputs
  let s := ((s.toPartner (.ownSum s.ownPart)).tellSides).announceDue
  let s := (List.range 8).foldl sampleTpdo s
  s.collectServe.judgeVotes

/-! ### An adoption -/

/-- CT has been set anew (R181): cameras, pulses and displays re-place (R45, R103, R204); the own streams move to their next
key epoch (R95). -/
def replaceAll (s : State) : State :=
  let s := (List.range 12).foldl (fun s i => if s.int (Od.key (0x2630 + i) 3) = 0 then s.pulseReplace i else s) s.rephaseCameras
  s.displaysAdopt.moveStreams (fun _ => true)

/-- A valid CT that a command has set anew re-places them. -/
def replacedSince (t s : State) : State := if s.ctValid ∧ t.clock.ct ≠ s.clock.ct then t.replaceAll else t

/-- CT_ADOPTION (R181): CT steps, and what depends on it re-places. -/
def ctAdoption (s : State) : State := if s.mu.adoptAt.isSome then s.adopt.replaceAll else s

end State

/-! ### The commands -/

/-- FLIGHT_BOUNDARY. -/
def execFlightBoundary (roster : List Berthed) (ended : List (Nat × Nat × Nat)) (s : State) : Res :=
  .next (s.served (·.flightBoundary roster ended))

/-- PASSAGE_START. -/
def execPassageStart (s : State) : Res := .next (s.served (·.passageStarts))

/-- MAKE_UP_RECEIVED. -/
def execMakeUpReceived (p : Cpl) (h : Header) (m : MakeUp) (fine : Fin 32) (s : State) : Res :=
  .next (s.served fun s => (s.makeUpReceived p.no h m fine).replacedSince s)

/-- LISTEN_TIMER_EXPIRED. -/
def execListenTimerExpired (s : State) : Res := .next (s.served fun s => s.listenExpired.replacedSince s)

/-- COLD_START_RECEIVED. -/
def execColdStartReceived (p : Cpl) (dir : Dir) (f : ColdStart) (res : Nat) (fine : Fin 32) (s : State) : Res :=
  .next (s.served fun s => (s.coldStart p.no dir f res fine).replacedSince s)

/-- CT_ADOPTION. -/
def execCtAdoption (s : State) : Res := .next (s.served (·.ctAdoption))

end Sys2Proof.Machine
end

