-- ==== Sys2Proof/Machine/Originate.lean ====
section
/-!
DEFINITION. Slot frames: those this device originates (R144, R148, R150, R158 to R160, R182, R249, R286, R455, R553), and
the command with which one arrives (R245).
-/

namespace Sys2Proof.Machine

namespace State

/-- The header of an own frame of a slot on an egress port (R160). -/
def ownHeader (s : State) (p idx : Nat) (x : Slot) (len : Nat) : Header := s.headerOf p x.ptype (some idx) len

/-- The egress instant of a slot at a port of this device (R144). -/
def ownEgress (s : State) (p : Nat) (x : Slot) : Int := s.egressAt s.ownBerth x.start (!(s.leadward p))

/-- An own frame of a slot leaves a port (R158, R159), where the link may carry it. -/
def sendOwn (s : State) (p idx : Nat) (x : Slot) (payload : List Byte) : State :=
  if s.mayCross p (isHead x.ptype) then
    s.sendFrame p (s.ownHeader p idx x payload.length) (s.ownEgress p x) payload
  else s

/-! ### Who sends a slot (R148, R150, R553) -/

/-- The berth of a STATUS slot in the passage in progress. -/
def statusBerth (s : State) (x : Slot) : Nat :=
  let len := max s.passageLen.toNat 1
  (s.passage % (1000000 / len)) * s.frameNow.nStatus len + x.copy + 1

/-- The own instance that a SLICE slot names: bound to its copy of the owner's stream. -/
def slotInstance (s : State) (x : Slot) : Bool :=
  s.slices.instances.any (fun i => i.active && decide (i.d.requester.toNat = x.owner ∧ i.d.streamNumber = x.stream ∧
    i.d.instanceNo = x.copy + 1))

/-- This device is the sender of a slot that leaves by a port. -/
def isSender (s : State) (p : Nat) (x : Slot) : Bool :=
  let own := s.mu.applied && decide (1 ≤ s.ownBerth) && !s.beyondLimit
  s.drives (if portB p then .b else .a) &&
  (if x.ptype = 1 then
     decide (s.int 0x260007 = x.copy + 1) && !s.mu.yielded && decide (s.mu.listen = 0) && !s.beyondLimit
   else if x.ptype = 2 then own && decide ((s.statusBerth x : Int) = s.ownBerth)
   else if x.ptype = 4 then true
   else if x.ptype = 9 then
     own && (!(s.leadward p) || s.rearEnd (chanNo p))
   else if x.ptype = 5 then own && s.slotInstance x
   else own && decide (s.senderBerth p x 0 = some s.ownBerth))

/-- A frame would start more than g / 2 after its egress instant. -/
def lateFor (s : State) (p : Nat) (x : Slot) : Bool := decide (s.guardUnits / 2 < s.ctNow - s.ownEgress p x)

/-- The own gate stops a frame (R249): late by more than g / 2, or the node does not send slot frames. A joining node
keeps its SYNC until T_a (R235). -/
def gateStops (s : State) (p : Nat) (x : Slot) : Bool :=
  s.lateFor p x ||
  !(s.mayTransmit false || (decide (x.ptype = 1) && s.mu.joining && !s.silenced && decide (s.timeState = 2 ∨ s.timeState = 3)))

/-! ### Fragments of slices (R93, R286) -/

/-- The data of fragment n of a slice in slots of a size: the tag follows the data of the last (R93). -/
def fragmentData (o : OutSlice) (size n : Nat) : List Byte := fragmentOf o.data o.tag o.h.fragments size n

/-- The slices of a slot's instance, oldest first. -/
def slotQueue (s : State) (x : Slot) : List OutSlice :=
  s.slices.out.filter (fun o => decide (o.h.stream = x.stream ∧ o.sink = x.owner ∧ o.h.instanceNo = x.copy + 1))

/-- The slot in progress as a choice names it. -/
def slotName (s : State) (x : Slot) : Nat × Nat := (s.flight * 64 + s.passage, x.start)

/-- The slice and fragment a slot carries in a table: in a butty the motor's choice, in a motor its own, else the next
fragment of the oldest slice. The flag says that the chosen copy is not complete here. -/
def pickFragment (s : State) (x : Slot) (k : Nat) : Option (OutSlice × Nat) × Bool :=
  let q := s.slotQueue x
  let here := s.slotName x
  if s.isButty && s.pair.up then
    match s.pair.choices.find? (fun c => decide (c.stream = x.stream ∧ c.inst = x.copy + 1) && c.slots.contains here) with
    | none => (none, false)
    | some c =>
      match q.find? (fun o => decide (o.h.frame.toNat = c.frame ∧ o.h.index = c.index)) with
      | some o => (some (o, c.slots.idxOf here), false)
      | none => (none, true)
  else
    match q.find? (fun o => o.slots.contains here) with
    | some o => (some (o, o.slots.idxOf here), false)
    | none =>
      ((q.find? (fun o => decide (o.slots = [] ∧ Tab.get (α := Nat) 0 o.sent k < o.h.fragments))).map
        (fun o => (o, Tab.get (α := Nat) 0 o.sent k)), false)

/-- Tables whose frames of this slice's slots still leave the device. -/
def liveLanes (s : State) (o : OutSlice) : List Nat :=
  (s.sliceLanes o.h.stream o.sink o.h.instanceNo).filter (fun k => s.mayCross (s.egressPort (k / 2) (k % 2)) false)

/-- Fragment n of a slice has gone in a table; a slice sent whole in every table is no longer in flight (R96). -/
def fragmentGone (s : State) (o : OutSlice) (k n : Nat) : State :=
  let o' : OutSlice := { o with sent := Tab.set (α := Nat) 0 o.sent k (n + 1) }
  let done := (s.liveLanes o).all (fun l => decide (o.h.fragments ≤ Tab.get (α := Nat) 0 o'.sent l))
  let out := if done then s.slices.out.filter (fun y => decide (y ≠ o))
    else s.slices.out.map (fun y => if y = o then o' else y)
  ({ s with slices := { s.slices with out := out } } : State).flightCount

/-- A SLICE slot (R93, R286): a fragment, or the empty frame. -/
def sliceSlot (s : State) (p idx : Nat) (x : Slot) : State :=
  let k := s.tableOut p
  match s.pickFragment x k with
  | (some (o, n), _) =>
    let d := fragmentData o x.size n
    let h := { o.h with fragment := n }
    let t := s.sendOwn p idx x (headerBytes h false ++ d)
    let t := if s.mayCross p false then t.emit (.fragment p h d) else t
    t.fragmentGone o k n
  | (none, late) => (if late then s.bump 0x30020A else s).sendOwn p idx x []

/-! ### The other slots -/

/-- A CAN_TUNNEL slot (R455): the records packed at its instant, the same in each of its tables. -/
def tunnelSlot (s : State) (p idx : Nat) (x : Slot) : State :=
  let here := s.slotName x
  let s := match s.canopen.packed with
    | some (a, w, _, _) =>
      if a = here.1 ∧ w = here.2 then s
      else
        let r := s.sendRecords x.group x.size
        { r.1 with canopen := { r.1.canopen with packed := some (here.1, here.2, r.2.1, r.2.2) } }
    | none =>
      let r := s.sendRecords x.group x.size
      { r.1 with canopen := { r.1.canopen with packed := some (here.1, here.2, r.2.1, r.2.2) } }
  match s.canopen.packed with
  | some (_, _, l, _) =>
    let t := s.sendOwn p idx x (tunnelPayload l)
    if s.mayCross p false ∧ l ≠ [] then t.emit (.tunnel p l) else t
  | none => s

/-- A LOCK slot (R424): the messages that fit; a payload is at least 64 bytes. -/
def lockOut (s : State) (p idx : Nat) (x : Slot) : State :=
  let r := s.lockSlot (s.tableOut p) x.size
  r.1.sendOwn p idx x r.2

/-- A SYNC slot (R182): its correction is what its egress is late by (R184), and its egress is stamped for the link delay
(R185); the fine part of the stamp (R176) is a free value (log 3). -/
def syncSlot (s : State) (p idx : Nat) (x : Slot) : State :=
  if s.mayCross p true then
    let fine := s.freeNat % 32
    let s := s.tookFree
    let e := s.ownEgress p x
    let corr := -((s.ctAt s.clock.counter fine - e) / 256)
    let inSync := decide (s.timeState = 2 ∨ s.timeState = 3)
    let cold := decide (s.int 0x220004 ≠ 0)
    let t := (s.sendOwn p idx x (syncPayload (x.copy + 1) inSync cold corr 0 e)).stampSyncOut p idx
      ((s.clock.counter : Int) * 32 + fine)
    t.emit (.syncOwn p (x.copy + 1) inSync cold corr 0 e)
  else s

/-- A STATUS slot (R161). With the holds bit it tells the own consent to a switch (R164). -/
def statusSlot (s : State) (p idx : Nat) (x : Slot) : State :=
  let st := s.statusOf (chanOf p)
  let t := if s.mayCross p true then (s.sendOwn p idx x (statusPayload st)).emit (.status p st) else s
  if st.holds then t.switchHeld t.ownBerth.toNat t.flight else t

/-- A CONSENT slot (R263). -/
def consentSlot (s : State) (p idx : Nat) (x : Slot) : State :=
  if s.leadward p then s.consentLeadward p idx x else s.consentRearward p idx x

/-- A slot of an egress port at its egress instant (R553). From step 1 of R268 no slice and no LOCK
message leaves: the frame is empty. -/
def originate (s : State) (p idx : Nat) : State :=
  match s.entry? (s.tableOut p) idx with
  | none => s
  | some x =>
    if s.isSender p x = false then s
    else if x.ptype = 4 then (if s.lateFor p x then s.gateRefuse else s.sendMakeUp p (some idx))
    else if s.gateStops p x then s.gateRefuse
    else if x.ptype = 1 then s.syncSlot p idx x
    else if x.ptype = 2 then s.statusSlot p idx x
    else if x.ptype = 9 then s.consentSlot p idx x
    else if x.ptype = 7 then s.tunnelSlot p idx x
    else if 1 ≤ s.mooring.stage then s.sendOwn p idx x []
    else if x.ptype = 5 then s.sliceSlot p idx x
    else s.lockOut p idx x

/-- A slot frame arrives (R245); the records of a CAN_TUNNEL frame whose copy is kept go to the egress routes (R456). -/
def slotFrame (s : State) (p : Nat) (f : SlotFrame) (fine : Nat) : State :=
  let r := s.slotArrives p f fine
  if r.2 = true ∧ f.hdr.ptype = 7 then
    r.1.tunnelFrame (((s.entry? (s.tableIn p) f.hdr.slotIndex).map (·.group)).getD f.group) f.sender.toNat f.tunnel
  else r.1

end State

/-! ### The commands -/

/-- SLOT_FRAME_RECEIVED. -/
def execSlotFrameReceived (p : Cpl) (f : SlotFrame) (fine : Fin 32) (s : State) : Res :=
  .next (s.served (·.slotFrame p.no f fine))

/-- SLOT_ORIGINATE: the slot index in the table of the egress port. -/
def execSlotOriginate (p : Cpl) (idx : Fin 256) (s : State) : Res := .next (s.served (·.originate p.no idx))

end Sys2Proof.Machine
end

