-- ==== Sys2Proof/Machine/Dispatch.lean ====
section
/-!
DEFINITION. The meaning of every command: one arm per constructor, each a direct call of its meaning.
-/

namespace Sys2Proof.Machine

def exec (i : Instr) (s : State) : Host.Outcome State Fault Refusal :=
  match i with
  | .flightBoundary roster ended => Sys2Proof.Machine.execFlightBoundary roster ended s
  | .passageStart => Sys2Proof.Machine.execPassageStart s
  | .registerWrite t => Sys2Proof.Machine.execRegisterWrite t s
  | .dictRead w t => Sys2Proof.Machine.execDictRead w t s
  | .counterClear a data => Sys2Proof.Machine.execCounterClear a data s
  | .segmentTimeout a write => Sys2Proof.Machine.execSegmentTimeout a write s
  | .commit w => Sys2Proof.Machine.execCommit w s
  | .commitStoreDone => Sys2Proof.Machine.execCommitStoreDone s
  | .discard w => Sys2Proof.Machine.execDiscard w s
  | .stagingIdleTimeout => Sys2Proof.Machine.execStagingIdleTimeout s
  | .operationCancel w k v => Sys2Proof.Machine.execOperationCancel w k v s
  | .storedEntryWrite => Sys2Proof.Machine.execStoredEntryWrite s
  | .activeCabChange on => Sys2Proof.Machine.execActiveCabChange on s
  | .makeUpRequest w v => Sys2Proof.Machine.execMakeUpRequest w v s
  | .makeUpSend p => Sys2Proof.Machine.execMakeUpSend p s
  | .makeUpReceived p h m fine => Sys2Proof.Machine.execMakeUpReceived p h m fine s
  | .makeUpTimeout => Sys2Proof.Machine.execMakeUpTimeout s
  | .listenTimerExpired => Sys2Proof.Machine.execListenTimerExpired s
  | .coldStartReceived p dir f res fine => Sys2Proof.Machine.execColdStartReceived p dir f res fine s
  | .attemptComplete => Sys2Proof.Machine.execAttemptComplete s
  | .integrateTimeout => Sys2Proof.Machine.execIntegrateTimeout s
  | .adoptionMeasurementEnd => Sys2Proof.Machine.execAdoptionMeasurementEnd s
  | .ctAdoption => Sys2Proof.Machine.execCtAdoption s
  | .linkUp p rate => Sys2Proof.Machine.execLinkUp p rate s
  | .linkDown p => Sys2Proof.Machine.execLinkDown p s
  | .linkLimitCleared p => Sys2Proof.Machine.execLinkLimitCleared p s
  | .starLinkChange p up => Sys2Proof.Machine.execStarLinkChange p up s
  | .mdioPoll star p r => Sys2Proof.Machine.execMdioPoll star p r s
  | .mdioRead w => Sys2Proof.Machine.execMdioRead w s
  | .mdioWrite w => Sys2Proof.Machine.execMdioWrite w s
  | .mdioAccessDone r => Sys2Proof.Machine.execMdioAccessDone r s
  | .slotFrameReceived p f fine => Sys2Proof.Machine.execSlotFrameReceived p f fine s
  | .slotFrameCut p idx => Sys2Proof.Machine.execSlotFrameCut p idx s
  | .slotForwardRelease p idx => Sys2Proof.Machine.execSlotForwardRelease p idx s
  | .slotOriginate p idx => Sys2Proof.Machine.execSlotOriginate p idx s
  | .openWaterFrameReceived p f fine => Sys2Proof.Machine.execOpenWaterFrameReceived p f fine s
  | .openWaterSend p => Sys2Proof.Machine.execOpenWaterSend p s
  | .statusReceived x => Sys2Proof.Machine.execStatusReceived x s
  | .modeRequest w v => Sys2Proof.Machine.execModeRequest w v s
  | .passageMarkerFire k => Sys2Proof.Machine.execPassageMarkerFire k s
  | .starFrameReceived p f fcsOk fine => Sys2Proof.Machine.execStarFrameReceived p f fcsOk fine s
  | .filterUnblock w p v => Sys2Proof.Machine.execFilterUnblock w p v s
  | .syncReceived p f fine => Sys2Proof.Machine.execSyncReceived p f fine s
  | .offsetCorrection => Sys2Proof.Machine.execOffsetCorrection s
  | .holdoverLimitExpired => Sys2Proof.Machine.execHoldoverLimitExpired s
  | .gptpSyncReceived p m fine => Sys2Proof.Machine.execGptpSyncReceived p m fine s
  | .gptpFollowUpReceived p m origin => Sys2Proof.Machine.execGptpFollowUpReceived p m origin s
  | .gptpPdelayReqReceived p m => Sys2Proof.Machine.execGptpPdelayReqReceived p m s
  | .gptpPdelayRespReceived p t2 t3 fine => Sys2Proof.Machine.execGptpPdelayRespReceived p t2 t3 fine s
  | .gptpAnnounceReceived p m => Sys2Proof.Machine.execGptpAnnounceReceived p m s
  | .gptpSyncTimeout p => Sys2Proof.Machine.execGptpSyncTimeout p s
  | .gptpSyncSend p => Sys2Proof.Machine.execGptpSyncSend p s
  | .gptpAnnounceSend p => Sys2Proof.Machine.execGptpAnnounceSend p s
  | .gptpPdelayReqSend p => Sys2Proof.Machine.execGptpPdelayReqSend p s
  | .domainRelationStale d => Sys2Proof.Machine.execDomainRelationStale d s
  | .domainAbsent d => Sys2Proof.Machine.execDomainAbsent d s
  | .relationWrite d origin ref rel => Sys2Proof.Machine.execRelationWrite d origin ref rel s
  | .selectionRequest w v => Sys2Proof.Machine.execSelectionRequest w v s
  | .ntSwitchAnnounce d tsw sigma => Sys2Proof.Machine.execNtSwitchAnnounce d tsw sigma s
  | .ntSwitchInstant => Sys2Proof.Machine.execNtSwitchInstant s
  | .ntSlewEnd => Sys2Proof.Machine.execNtSlewEnd s
  | .ntFallback => Sys2Proof.Machine.execNtFallback s
  | .tmSnap v => Sys2Proof.Machine.execTmSnap v s
  | .arm w k data => Sys2Proof.Machine.execArm w k data s
  | .timePulseEdge k => Sys2Proof.Machine.execTimePulseEdge k s
  | .timePulseEnd k => Sys2Proof.Machine.execTimePulseEnd k s
  | .timeCaptureEdge c rising fine => Sys2Proof.Machine.execTimeCaptureEdge c rising fine s
  | .removeOldest w c v => Sys2Proof.Machine.execRemoveOldest w c v s
  | .genlockPulse n => Sys2Proof.Machine.execGenlockPulse n s
  | .trigger n => Sys2Proof.Machine.execTrigger n s
  | .frameStart p x fine => Sys2Proof.Machine.execFrameStart p x fine s
  | .csiLongPacket p k => Sys2Proof.Machine.execCsiLongPacket p k s
  | .frameEnd p x => Sys2Proof.Machine.execFrameEnd p x s
  | .csiSotError p => Sys2Proof.Machine.execCsiSotError p s
  | .frameStartWindowExpired n => Sys2Proof.Machine.execFrameStartWindowExpired n s
  | .rvfPacketReceived n k => Sys2Proof.Machine.execRvfPacketReceived n k s
  | .cameraLockTimeout n => Sys2Proof.Machine.execCameraLockTimeout n s
  | .cameraLostTimeout n => Sys2Proof.Machine.execCameraLostTimeout n s
  | .cameraFaultTimeout n => Sys2Proof.Machine.execCameraFaultTimeout n s
  | .cciScriptEntryDone p r => Sys2Proof.Machine.execCciScriptEntryDone p r s
  | .cciScriptDelayExpired p => Sys2Proof.Machine.execCciScriptDelayExpired p s
  | .cciScriptWaitTimeout p => Sys2Proof.Machine.execCciScriptWaitTimeout p s
  | .cciIbiReceived x => Sys2Proof.Machine.execCciIbiReceived x s
  | .cciHotJoin p => Sys2Proof.Machine.execCciHotJoin p s
  | .cciAccessRead w => Sys2Proof.Machine.execCciAccessRead w s
  | .cciAccessWrite w => Sys2Proof.Machine.execCciAccessWrite w s
  | .cciAccessDone slot r => Sys2Proof.Machine.execCciAccessDone slot r s
  | .panTimeout requester view inst => Sys2Proof.Machine.execPanTimeout requester view inst s
  | .viewDefinitionReceived d => Sys2Proof.Machine.execViewDefinitionReceived d s
  | .warpSliceProduced requester view inst => Sys2Proof.Machine.execWarpSliceProduced requester view inst s
  | .sliceEncoded requester view inst => Sys2Proof.Machine.execSliceEncoded requester view inst s
  | .sliceFragmentReceived c h data tagOk => Sys2Proof.Machine.execSliceFragmentReceived c h data tagOk s
  | .sliceForward n => Sys2Proof.Machine.execSliceForward n s
  | .panelScriptEnd d => Sys2Proof.Machine.execPanelScriptEnd d s
  | .displayFrameStart d fine => Sys2Proof.Machine.execDisplayFrameStart d fine s
  | .sliceCutOff d k j m => Sys2Proof.Machine.execSliceCutOff d k j m s
  | .sliceEmitted d k j fine => Sys2Proof.Machine.execSliceEmitted d k j fine s
  | .displayFrameEnd d => Sys2Proof.Machine.execDisplayFrameEnd d s
  | .consentReceived p t => Sys2Proof.Machine.execConsentReceived p t s
  | .voteIdleExpired v => Sys2Proof.Machine.execVoteIdleExpired v s
  | .awakeTimerExpired => Sys2Proof.Machine.execAwakeTimerExpired s
  | .phySleepComplete => Sys2Proof.Machine.execPhySleepComplete s
  | .wakeInEdge => Sys2Proof.Machine.execWakeInEdge s
  | .remoteWake p => Sys2Proof.Machine.execRemoteWake p s
  | .canWup c => Sys2Proof.Machine.execCanWup c s
  | .canWuf c f => Sys2Proof.Machine.execCanWuf c f s
  | .fieldWakeRequest k => Sys2Proof.Machine.execFieldWakeRequest k s
  | .wakeDwellEnd => Sys2Proof.Machine.execWakeDwellEnd s
  | .wakeAccepted => Sys2Proof.Machine.execWakeAccepted s
  | .wakeProbe p => Sys2Proof.Machine.execWakeProbe p s
  | .towLaneLoss lanes => Sys2Proof.Machine.execTowLaneLoss lanes s
  | .towLineLost => Sys2Proof.Machine.execTowLineLost s
  | .towLineUp lanes => Sys2Proof.Machine.execTowLineUp lanes s
  | .towInputReceived x => Sys2Proof.Machine.execTowInputReceived x s
  | .digestWindowEnd passage => Sys2Proof.Machine.execDigestWindowEnd passage s
  | .selfCheckResult enclaveOk driveOk deadline => Sys2Proof.Machine.execSelfCheckResult enclaveOk driveOk deadline s
  | .roleInFall => Sys2Proof.Machine.execRoleInFall s
  | .xdisInRise => Sys2Proof.Machine.execXdisInRise s
  | .mbbOverlapEnd notOn => Sys2Proof.Machine.execMbbOverlapEnd notOn s
  | .claimDelayExpired => Sys2Proof.Machine.execClaimDelayExpired s
  | .pairFormingTimeout => Sys2Proof.Machine.execPairFormingTimeout s
  | .resynchronisationRequest w v => Sys2Proof.Machine.execResynchronisationRequest w v s
  | .plannedExchange w v => Sys2Proof.Machine.execPlannedExchange w v s
  | .snapshotSent kib tooLong => Sys2Proof.Machine.execSnapshotSent kib tooLong s
  | .replayLevel => Sys2Proof.Machine.execReplayLevel s
  | .claimEnLow => Sys2Proof.Machine.execClaimEnLow s
  | .claimWindowExpired => Sys2Proof.Machine.execClaimWindowExpired s
  | .ownerRootWrite w cert => Sys2Proof.Machine.execOwnerRootWrite w cert s
  | .claimCommand w v caOk selfSigned => Sys2Proof.Machine.execClaimCommand w v caOk selfSigned s
  | .release w data => Sys2Proof.Machine.execRelease w data s
  | .hello h => Sys2Proof.Machine.execHello h s
  | .finish h seq sigOk => Sys2Proof.Machine.execFinish h seq sigOk s
  | .sessionRequest p n seq tagOk op => Sys2Proof.Machine.execSessionRequest p n seq tagOk op s
  | .sessionClose p n seq tagOk => Sys2Proof.Machine.execSessionClose p n seq tagOk s
  | .sessionIdleTimeout n => Sys2Proof.Machine.execSessionIdleTimeout n s
  | .revocationWrite w data => Sys2Proof.Machine.execRevocationWrite w data s
  | .peerOwnerWrite w k data => Sys2Proof.Machine.execPeerOwnerWrite w k data s
  | .flushCache w v => Sys2Proof.Machine.execFlushCache w v s
  | .cacheEntryExpiry identity => Sys2Proof.Machine.execCacheEntryExpiry identity s
  | .offer p identity exchange cacheFlag => Sys2Proof.Machine.execOffer p identity exchange cacheFlag s
  | .certs p c => Sys2Proof.Machine.execCerts p c s
  | .proof p sigOk => Sys2Proof.Machine.execProof p sigOk s
  | .resume p hmacOk => Sys2Proof.Machine.execResume p hmacOk s
  | .confirm p hmacOk => Sys2Proof.Machine.execConfirm p hmacOk s
  | .refuse p => Sys2Proof.Machine.execRefuse p s
  | .authRetryTimer p => Sys2Proof.Machine.execAuthRetryTimer p s
  | .rekeyTrigger p => Sys2Proof.Machine.execRekeyTrigger p s
  | .rekeyOffer p identity => Sys2Proof.Machine.execRekeyOffer p identity s
  | .rekeyConfirm p hmacOk => Sys2Proof.Machine.execRekeyConfirm p hmacOk s
  | .streamKeyDelivery source view inst epoch => Sys2Proof.Machine.execStreamKeyDelivery source view inst epoch s
  | .streamKeyAck sink view inst epoch => Sys2Proof.Machine.execStreamKeyAck sink view inst epoch s
  | .imageLoad w img => Sys2Proof.Machine.execImageLoad w img s
  | .selectImage w v => Sys2Proof.Machine.execSelectImage w v s
  | .healthTimeout => Sys2Proof.Machine.execHealthTimeout s
  | .advanceRollbackFloor w v => Sys2Proof.Machine.execAdvanceRollbackFloor w v s
  | .bundle w b => Sys2Proof.Machine.execBundle w b s
  | .closeArm w data => Sys2Proof.Machine.execCloseArm w data s
  | .closeConfirm w c sigOk => Sys2Proof.Machine.execCloseConfirm w c sigOk s
  | .challengeExpired => Sys2Proof.Machine.execChallengeExpired s
  | .debugUnlock w v => Sys2Proof.Machine.execDebugUnlock w v s
  | .lastKnownTimeStore => Sys2Proof.Machine.execLastKnownTimeStore s
  | .mgmtFrameReceived f => Sys2Proof.Machine.execMgmtFrameReceived f s
  | .mgmtReassemblyTimeout origin number => Sys2Proof.Machine.execMgmtReassemblyTimeout origin number s
  | .mgmtResponseTimeout p => Sys2Proof.Machine.execMgmtResponseTimeout p s
  | .relayRequest w data => Sys2Proof.Machine.execRelayRequest w data s
  | .sdoTimeout => Sys2Proof.Machine.execSdoTimeout s
  | .go cmd => Sys2Proof.Machine.execGo cmd s
  | .abort => Sys2Proof.Machine.execAbort s
  | .hpMbRack v => Sys2Proof.Machine.execHpMbRack v s
  | .mailboxIdleTimeout => Sys2Proof.Machine.execMailboxIdleTimeout s
  | .hpErrClear v => Sys2Proof.Machine.execHpErrClear v s
  | .functionLevelReset => Sys2Proof.Machine.execFunctionLevelReset s
  | .pcieLinkChange up msixEnabled => Sys2Proof.Machine.execPcieLinkChange up msixEnabled s
  | .egClaim t => Sys2Proof.Machine.execEgClaim t s
  | .egDone t v => Sys2Proof.Machine.execEgDone t v s
  | .egPendSet word v => Sys2Proof.Machine.execEgPendSet word v s
  | .egPendClr word v => Sys2Proof.Machine.execEgPendClr word v s
  | .egMaskSet word v => Sys2Proof.Machine.execEgMaskSet word v s
  | .egMaskClr word v => Sys2Proof.Machine.execEgMaskClr word v s
  | .egOvrSet word v => Sys2Proof.Machine.execEgOvrSet word v s
  | .egOvrClr word v => Sys2Proof.Machine.execEgOvrClr word v s
  | .egTctrl t v => Sys2Proof.Machine.execEgTctrl t v s
  | .bar2Write offset data enables => Sys2Proof.Machine.execBar2Write offset data enables s
  | .bar2Read offset n => Sys2Proof.Machine.execBar2Read offset n s
  | .write m free ecc => Sys2Proof.Machine.execWrite m free ecc s
  | .read m free ecc => Sys2Proof.Machine.execRead m free ecc s
  | .readData m => Sys2Proof.Machine.execReadData m s
  | .ack m => Sys2Proof.Machine.execAck m s
  | .report m => Sys2Proof.Machine.execReport m s
  | .retry m => Sys2Proof.Machine.execRetry m s
  | .declare m => Sys2Proof.Machine.execDeclare m s
  | .summaryPoll m => Sys2Proof.Machine.execSummaryPoll m s
  | .summary m => Sys2Proof.Machine.execSummary m s
  | .summaryStale b => Sys2Proof.Machine.execSummaryStale b s
  | .lockWriteTimeout tag => Sys2Proof.Machine.execLockWriteTimeout tag s
  | .lockReadTimeout n => Sys2Proof.Machine.execLockReadTimeout n s
  | .prefetchLineExpiry => Sys2Proof.Machine.execPrefetchLineExpiry s
  | .lkFence v => Sys2Proof.Machine.execLkFence v s
  | .lkErrPop v => Sys2Proof.Machine.execLkErrPop v s
  | .canFrameReceived c f ago => Sys2Proof.Machine.execCanFrameReceived c f ago s
  | .tunnelRelease => Sys2Proof.Machine.execTunnelRelease s
  | .txRequest w c b => Sys2Proof.Machine.execTxRequest w c b s
  | .txAbort w c b => Sys2Proof.Machine.execTxAbort w c b s
  | .canTxComplete c ago => Sys2Proof.Machine.execCanTxComplete c ago s
  | .canBusError c tx kind dataPhase => Sys2Proof.Machine.execCanBusError c tx kind dataPhase s
  | .recoveryRequest w c v => Sys2Proof.Machine.execRecoveryRequest w c v s
  | .busOffRecovered c => Sys2Proof.Machine.execBusOffRecovered c s
  | .rxRelease w c o v => Sys2Proof.Machine.execRxRelease w c o v s
  | .startDetection w c v => Sys2Proof.Machine.execStartDetection w c v s
  | .detectionTimeout c => Sys2Proof.Machine.execDetectionTimeout c s
  | .nmtStart node => Sys2Proof.Machine.execNmtStart node s
  | .nmtStop node => Sys2Proof.Machine.execNmtStop node s
  | .nmtEnterPreoperational node => Sys2Proof.Machine.execNmtEnterPreoperational node s
  | .nmtResetNode node => Sys2Proof.Machine.execNmtResetNode node s
  | .nmtResetCommunication node => Sys2Proof.Machine.execNmtResetCommunication node s
  | .sync data => Sys2Proof.Machine.execSync data s
  | .rpdoReceived k data => Sys2Proof.Machine.execRpdoReceived k data s
  | .rpdoTimeout k => Sys2Proof.Machine.execRpdoTimeout k s
  | .tpdoEventTimer k => Sys2Proof.Machine.execTpdoEventTimer k s
  | .timeProduce => Sys2Proof.Machine.execTimeProduce s
  | .heartbeatProduce => Sys2Proof.Machine.execHeartbeatProduce s
  | .heartbeatReceived node => Sys2Proof.Machine.execHeartbeatReceived node s
  | .heartbeatTimeout k => Sys2Proof.Machine.execHeartbeatTimeout k s
  | .emcyInhibitExpired => Sys2Proof.Machine.execEmcyInhibitExpired s
  | .command w k v => Sys2Proof.Machine.execCommand w k v s
  | .overcurrentTrip k phase => Sys2Proof.Machine.execOvercurrentTrip k phase s
  | .tripRetry k => Sys2Proof.Machine.execTripRetry k s
  | .groupOverload g currents => Sys2Proof.Machine.execGroupOverload g currents s
  | .thermalShutdown k hot => Sys2Proof.Machine.execThermalShutdown k hot s
  | .readbackMismatch k high => Sys2Proof.Machine.execReadbackMismatch k high s
  | .openLoad k isOpen => Sys2Proof.Machine.execOpenLoad k isOpen s
  | .externalDrive k present => Sys2Proof.Machine.execExternalDrive k present s
  | .reverse k above => Sys2Proof.Machine.execReverse k above s
  | .latchedFlagClear w k mask => Sys2Proof.Machine.execLatchedFlagClear w k mask s
  | .fieldInputChange k pin ago => Sys2Proof.Machine.execFieldInputChange k pin ago s
  | .supplySag g mv => Sys2Proof.Machine.execSupplySag g mv s
  | .supplySagEnd g mv => Sys2Proof.Machine.execSupplySagEnd g mv s
  | .supplyOff g mv => Sys2Proof.Machine.execSupplyOff g mv s
  | .supplyRestore g => Sys2Proof.Machine.execSupplyRestore g s
  | .restoreRequest w v => Sys2Proof.Machine.execRestoreRequest w v s
  | .overvoltage g mv => Sys2Proof.Machine.execOvervoltage g mv s
  | .dieLinkLoss up => Sys2Proof.Machine.execDieLinkLoss up s
  | .reportWrite => Sys2Proof.Machine.execReportWrite s
  | .clearToken w t => Sys2Proof.Machine.execClearToken w t s
  | .startCollection w v => Sys2Proof.Machine.execStartCollection w v s
  | .logCollectRequest route number mask parts => Sys2Proof.Machine.execLogCollectRequest route number mask parts s
  | .logCollectData number offset data => Sys2Proof.Machine.execLogCollectData number offset data s
  | .logCollectEnd number => Sys2Proof.Machine.execLogCollectEnd number s
  | .logCollectRefused number code => Sys2Proof.Machine.execLogCollectRefused number code s
  | .logCollectCancel origin number => Sys2Proof.Machine.execLogCollectCancel origin number s
  | .collectionTimeout => Sys2Proof.Machine.execCollectionTimeout s
  | .histogramSample h v => Sys2Proof.Machine.execHistogramSample h v s
  | .histogramStore => Sys2Proof.Machine.execHistogramStore s
  | .porRelease hostSel claimEn => Sys2Proof.Machine.execPorRelease hostSel claimEn s
  | .bootImageVerified image micros => Sys2Proof.Machine.execBootImageVerified image micros s
  | .ready micros => Sys2Proof.Machine.execReady micros s
  | .railWarning r mv => Sys2Proof.Machine.execRailWarning r mv s
  | .railFailure r mv => Sys2Proof.Machine.execRailFailure r mv s
  | .vaonLoss => Sys2Proof.Machine.execVaonLoss s
  | .quietRequest w v => Sys2Proof.Machine.execQuietRequest w v s
  | .islandRestart k => Sys2Proof.Machine.execIslandRestart k s
  | .referenceFault lasting => Sys2Proof.Machine.execReferenceFault lasting s
  | .referenceLossReset => Sys2Proof.Machine.execReferenceLossReset s
  | .warmReset => Sys2Proof.Machine.execWarmReset s
  | .watchdogExpiry => Sys2Proof.Machine.execWatchdogExpiry s
  | .safetyMonitorFault kind inst => Sys2Proof.Machine.execSafetyMonitorFault kind inst s
  | .resetRequest w v => Sys2Proof.Machine.execResetRequest w v s
  | .debugReset => Sys2Proof.Machine.execDebugReset s
  | .avsStep target measured => Sys2Proof.Machine.execAvsStep target measured s
  | .sramScrub corrected uncorrectable x => Sys2Proof.Machine.execSramScrub corrected uncorrectable x s
  | .scrubRequest w v => Sys2Proof.Machine.execScrubRequest w v s
  | .mramScrubStart => Sys2Proof.Machine.execMramScrubStart s
  | .mramScrubChunk corrected bad => Sys2Proof.Machine.execMramScrubChunk corrected bad s
  | .temperatureSample t tenths => Sys2Proof.Machine.execTemperatureSample t tenths s
  | .vaonRise porN => Sys2Proof.Machine.execVaonRise porN s
  | .porNLow => Sys2Proof.Machine.execPorNLow s
  | .resetRelease claimEn => Sys2Proof.Machine.execResetRelease claimEn s
  | .pairRoleInRise => Sys2Proof.Machine.execPairRoleInRise s
  | .pairXdisInFall => Sys2Proof.Machine.execPairXdisInFall s
  | .wakeInInactive => Sys2Proof.Machine.execWakeInInactive s
  | .couplerPhySleep p => Sys2Proof.Machine.execCouplerPhySleep p s
  | .msixVectorUnmask t => Sys2Proof.Machine.execMsixVectorUnmask t s
  | .imageHealthy => Sys2Proof.Machine.execImageHealthy s
  | .referenceRecovered => Sys2Proof.Machine.execReferenceRecovered s
  | .lockstepError pair => Sys2Proof.Machine.execLockstepError pair s
  | .arbitrationLost c => Sys2Proof.Machine.execArbitrationLost c s
  | .deskewSequence p complete => Sys2Proof.Machine.execDeskewSequence p complete s
  | .peerDelayFailure p => Sys2Proof.Machine.execPeerDelayFailure p s
  | .detectionEdge c cycles => Sys2Proof.Machine.execDetectionEdge c cycles s

end Sys2Proof.Machine
end

