-- ==== Sys2Proof/Safety.lean ====
section
/-!
DEFINITION. What the statements call a safe run: the parts of the state and which of them each command may change, the
canonical form of the stores, and the fuses, which only ever burn.
-/

namespace Sys2Proof.Machine

/-- The parts of the state, but for the queue of commands, the record of what was sent, and the counter of free values. -/
inductive Part where
  | od | dict | mram | fuses | power | clock | mu | line | host | gate | log | trust | video | slices | canopen | wake
  | mooring | fio | pair | lock | pairing | unitA | acts
  deriving DecidableEq, Repr

/-- A part of `t` is as in `s`. -/
def Part.same (s t : State) : Part → Prop
  | .od => t.od = s.od
  | .dict => t.dict = s.dict
  | .mram => t.mram = s.mram
  | .fuses => t.fuses = s.fuses
  | .power => t.power = s.power
  | .clock => t.clock = s.clock
  | .mu => t.mu = s.mu
  | .line => t.line = s.line
  | .host => t.host = s.host
  | .gate => t.gate = s.gate
  | .log => t.log = s.log
  | .trust => t.trust = s.trust
  | .video => t.video = s.video
  | .slices => t.slices = s.slices
  | .canopen => t.canopen = s.canopen
  | .wake => t.wake = s.wake
  | .mooring => t.mooring = s.mooring
  | .fio => t.fio = s.fio
  | .pair => t.pair = s.pair
  | .lock => t.lock = s.lock
  | .pairing => t.pairing = s.pairing
  | .unitA => t.unitA = s.unitA
  | .acts => t.acts = s.acts

/-- The dictionary store, the mailbox buffer and the exchange memory are in canonical form. -/
def State.canonical (s : State) : Prop :=
  Store.wf s.od = true ∧ Memory.wf s.host.buf = true ∧ Memory.wf s.lock.exchange = true

/-- Fuses only burn (R307, R333, R336): the identity stays, the rollback floor does not fall, debug stays closed. -/
def Fuses.burnt (a b : Fuses) : Prop :=
  b.identity = a.identity ∧ a.rollback ≤ b.rollback ∧ (a.debugClosed = true → b.debugClosed = true)

/-- From `s` to `t`, only the parts of `l` may have changed, the queue of commands is as it was, what was sent stays
sent, fuses have at most burnt, and stores in canonical form have stayed so. -/
structure Keep (l : List Part) (s t : State) : Prop where
  pending : t.pending = s.pending
  out : s.out <+: t.out
  free : s.free ≤ t.free
  same : ∀ p, p ∉ l → p.same s t
  fuses : s.fuses.burnt t.fuses
  canonical : s.canonical → t.canonical


/-- A write passes every check of R346 and acts at once: the device is READY (R516), the SDO server takes accesses if the
writer is on CAN0 (R449), and the write is not held as an input of a pair in step (R284). -/
def State.admits (s : State) (w : Writer) (k : Nat) (data : List Byte) : Prop :=
  s.isReady = true ∧ s.sdoClosed w = false ∧ s.inStep = false ∧ s.writeStatus w k data = 0

/-- The parts of the state that a command may change, whatever the state and its operands.  A command that takes a reset
or can end in one is listed with every part a reset sets again; the record of what was sent only grows and needs no entry. -/
def touches : Instr → List Part
  | .flightBoundary ..
    => [.od, .dict, .mram, .power, .clock, .mu, .line, .host, .gate, .log, .trust, .video, .slices, .canopen,
       .mooring, .fio, .pair, .lock, .acts]
  | .passageStart ..
    => [.od, .dict, .mram, .fuses, .power, .clock, .mu, .line, .host, .gate, .log, .trust, .video, .slices,
       .canopen, .wake, .mooring, .fio, .pair, .lock, .pairing, .unitA, .acts]
  | .registerWrite .. | .counterClear .. | .sessionRequest .. | .mgmtFrameReceived .. | .go ..
    => [.od, .dict, .mram, .fuses, .power, .clock, .mu, .line, .host, .gate, .log, .trust, .video, .slices,
       .canopen, .mooring, .fio, .pair, .lock, .pairing, .unitA, .acts]
  | .dictRead .. | .mgmtResponseTimeout .. => [.od, .dict, .host, .gate, .log, .acts]
  | .segmentTimeout .. => [.od, .dict, .gate, .log, .acts]
  | .commit .. | .discard .. => [.od, .dict, .host, .gate, .log, .trust, .pair, .acts]
  | .commitStoreDone ..
    => [.od, .dict, .mram, .clock, .mu, .line, .gate, .log, .trust, .video, .slices, .canopen, .mooring, .fio, .acts]
  | .stagingIdleTimeout .. | .sessionIdleTimeout .. => [.od, .dict, .trust]
  | .operationCancel .. | .modeRequest .. => [.od, .dict, .line, .host, .gate, .log, .trust, .pair, .acts]
  | .storedEntryWrite .. => [.mram]
  | .activeCabChange .. | .makeUpTimeout .. | .attemptComplete .. | .openWaterFrameReceived ..
    => [.od, .mu, .line, .gate, .log, .acts]
  | .makeUpRequest .. => [.od, .mu, .line, .host, .gate, .log, .pair, .acts]
  | .makeUpSend .. | .openWaterSend .. => [.od, .line, .acts]
  | .makeUpReceived .. | .listenTimerExpired .. | .coldStartReceived .. | .ctAdoption ..
    => [.od, .dict, .clock, .mu, .line, .gate, .log, .trust, .video, .slices, .acts]
  | .integrateTimeout .. => [.od, .mu]
  | .adoptionMeasurementEnd .. => [.mu]
  | .linkUp .. => [.od, .mu, .line, .gate, .log, .trust, .mooring, .acts]
  | .linkDown .. => [.od, .mu, .line, .gate, .log, .trust, .acts]
  | .linkLimitCleared .. | .holdoverLimitExpired .. | .domainRelationStale .. | .logCollectEnd ..
  | .logCollectRefused .. | .collectionTimeout .. => [.od, .gate, .log, .acts]
  | .starLinkChange .. | .gptpPdelayRespReceived .. | .ntSlewEnd .. | .peerDelayFailure .. => [.od, .clock]
  | .mdioPoll .. | .starFrameReceived .. | .gptpAnnounceReceived .. | .towLaneLoss .. | .overvoltage ..
  | .avsStep .. | .deskewSequence .. => [.od]
  | .mdioRead .. | .mdioWrite .. => [.od, .line, .host, .gate, .log, .pair, .acts]
  | .mdioAccessDone .. | .slotFrameCut .. => [.od, .line]
  | .slotFrameReceived .. => [.od, .mu, .line, .gate, .log, .slices, .canopen, .wake, .mooring, .acts]
  | .slotForwardRelease .. => [.od, .line, .gate, .log, .acts]
  | .slotOriginate .. => [.od, .line, .gate, .log, .slices, .canopen, .wake, .mooring, .lock, .acts]
  | .statusReceived .. => [.od, .mu, .line, .gate, .log, .pair, .acts]
  | .passageMarkerFire .. | .domainAbsent .. | .relationWrite .. | .ntSwitchAnnounce .. | .ntSwitchInstant ..
    => [.od, .clock, .gate, .log, .acts]
  | .filterUnblock .. | .plannedExchange .. => [.od, .host, .gate, .log, .pair, .acts]
  | .syncReceived .. => [.od, .clock, .mu, .line]
  | .offsetCorrection .. => [.od, .clock, .mu, .line, .gate, .log, .acts]
  | .gptpSyncReceived .. | .gptpFollowUpReceived .. | .gptpSyncTimeout .. | .tmSnap .. | .timePulseEnd .. => [.clock]
  | .gptpPdelayReqReceived .. | .gptpSyncSend .. | .gptpAnnounceSend .. | .gptpPdelayReqSend ..
    => [.od, .clock, .line]
  | .selectionRequest .. => [.od, .dict, .clock, .line, .host, .gate, .log, .trust, .pair, .acts]
  | .ntFallback .. => [.od, .dict, .clock, .line, .trust]
  | .arm .. | .removeOldest .. => [.od, .clock, .host, .gate, .log, .pair, .acts]
  | .timePulseEdge .. => [.od, .clock, .acts]
  | .timeCaptureEdge .. => [.od, .power, .clock, .gate, .log, .pair, .acts]
  | .genlockPulse .. => [.od, .clock, .video, .acts]
  | .trigger .. => [.od, .clock, .line, .video, .acts]
  | .frameStart .. | .rvfPacketReceived .. => [.od, .dict, .line, .gate, .log, .trust, .video, .slices, .acts]
  | .csiLongPacket .. | .csiSotError .. | .cameraLostTimeout .. | .cameraFaultTimeout ..
  | .cciScriptDelayExpired .. | .cciAccessDone .. => [.od, .video]
  | .frameEnd .. => [.od, .video, .slices]
  | .frameStartWindowExpired .. | .cameraLockTimeout .. | .cciScriptEntryDone .. | .cciScriptWaitTimeout ..
    => [.od, .gate, .log, .video, .acts]
  | .cciIbiReceived .. => [.od, .video, .pair]
  | .cciHotJoin .. => [.video]
  | .cciAccessRead .. | .cciAccessWrite .. => [.od, .host, .gate, .log, .video, .pair, .acts]
  | .panTimeout .. | .sliceFragmentReceived .. | .displayFrameStart .. => [.od, .gate, .log, .slices, .acts]
  | .viewDefinitionReceived .. => [.od, .dict, .line, .trust, .slices]
  | .warpSliceProduced .. | .sliceEmitted .. => [.slices]
  | .sliceEncoded .. => [.od, .dict, .line, .gate, .log, .trust, .slices, .acts]
  | .sliceForward .. => [.od, .clock, .line, .slices]
  | .panelScriptEnd .. => [.od, .slices]
  | .sliceCutOff .. | .displayFrameEnd .. => [.od, .gate, .log, .slices, .canopen, .fio, .acts]
  | .consentReceived .. | .couplerPhySleep .. => [.od, .gate, .log, .wake, .mooring, .acts]
  | .voteIdleExpired .. => [.od, .mooring]
  | .awakeTimerExpired .. => [.od, .gate, .log, .mooring, .acts]
  | .phySleepComplete .. | .vaonLoss .. | .porNLow ..
    => [.od, .dict, .power, .clock, .mu, .line, .host, .gate, .log, .trust, .video, .slices, .canopen, .wake,
       .mooring, .fio, .pair, .lock, .pairing, .unitA, .acts]
  | .wakeInEdge .. => [.od, .power, .wake, .mooring]
  | .remoteWake .. | .canWup .. | .canWuf .. | .fieldWakeRequest .. | .wakeDwellEnd .. | .vaonRise ..
    => [.power, .wake]
  | .wakeAccepted .. => [.od, .mram, .power, .wake]
  | .wakeProbe .. => []
  | .towLineLost .. => [.od, .gate, .log, .pair, .acts]
  | .towLineUp .. | .digestWindowEnd .. | .selfCheckResult .. | .xdisInRise .. | .snapshotSent ..
  | .pairRoleInRise .. => [.od, .mram, .gate, .log, .canopen, .fio, .pair, .acts]
  | .towInputReceived ..
    => [.od, .mram, .clock, .mu, .line, .gate, .log, .trust, .video, .slices, .canopen, .mooring, .fio, .pair,
       .unitA, .acts]
  | .roleInFall .. | .claimDelayExpired .. | .pairFormingTimeout .. | .pairXdisInFall ..
    => [.od, .gate, .log, .canopen, .fio, .pair, .acts]
  | .mbbOverlapEnd .. => [.od, .mram, .line, .gate, .log, .slices, .canopen, .fio, .pair, .lock, .acts]
  | .resynchronisationRequest .. => [.od, .mram, .host, .gate, .log, .canopen, .fio, .pair, .acts]
  | .replayLevel .. => [.od, .pair]
  | .claimEnLow .. => [.power, .trust]
  | .claimWindowExpired .. | .cacheEntryExpiry .. => [.trust]
  | .ownerRootWrite .. => [.od, .mram, .host, .gate, .log, .pair, .acts]
  | .claimCommand .. => [.od, .mram, .host, .gate, .log, .trust, .pair, .acts]
  | .release .. | .healthTimeout .. | .railFailure ..
    => [.od, .dict, .mram, .power, .clock, .mu, .line, .host, .gate, .log, .trust, .video, .slices, .canopen,
       .mooring, .fio, .pair, .lock, .pairing, .unitA, .acts]
  | .hello .. => [.od, .dict, .line, .host, .gate, .log, .trust, .acts]
  | .finish .. => [.od, .host, .gate, .log, .trust, .acts]
  | .sessionClose .. | .bundle .. => [.od, .dict, .host, .gate, .log, .trust, .acts]
  | .revocationWrite .. => [.od, .dict, .mram, .line, .host, .gate, .log, .trust, .pair, .acts]
  | .peerOwnerWrite .. => [.od, .dict, .mram, .host, .gate, .log, .trust, .pair, .acts]
  | .flushCache .. | .closeArm .. | .debugUnlock .. => [.od, .host, .gate, .log, .trust, .pair, .acts]
  | .offer .. | .authRetryTimer .. | .rekeyTrigger .. | .rekeyOffer .. => [.od, .line, .trust]
  | .certs .. | .rekeyConfirm .. => [.line, .trust]
  | .proof .. | .resume .. | .confirm .. => [.od, .line, .gate, .log, .trust, .acts]
  | .refuse .. | .challengeExpired .. => [.od, .trust]
  | .streamKeyDelivery .. | .streamKeyAck .. => [.od, .dict, .line, .trust]
  | .imageLoad .. | .clearToken .. => [.od, .mram, .host, .gate, .log, .acts]
  | .selectImage .. | .scrubRequest .. => [.od, .power, .host, .gate, .log, .pair, .acts]
  | .advanceRollbackFloor .. => [.od, .fuses, .host, .gate, .log, .pair, .acts]
  | .closeConfirm .. => [.od, .fuses, .host, .gate, .log, .trust, .pair, .acts]
  | .lastKnownTimeStore .. => [.od, .mram]
  | .mgmtReassemblyTimeout .. => [.dict]
  | .relayRequest .. => [.od, .dict, .line, .host, .gate, .log, .pair, .acts]
  | .sdoTimeout .. => [.od, .dict, .canopen, .acts]
  | .abort .. | .hpErrClear .. => [.host]
  | .hpMbRack .. | .mailboxIdleTimeout .. => [.od, .host, .gate, .log, .acts]
  | .functionLevelReset .. => [.od, .dict, .host, .gate, .trust]
  | .pcieLinkChange .. => [.od, .power, .host, .gate, .log, .acts]
  | .egClaim .. | .egDone .. | .egPendSet .. => [.od, .gate, .acts]
  | .egPendClr .. | .egMaskSet .. | .egMaskClr .. | .egOvrSet .. | .egOvrClr .. | .egTctrl .. => [.gate, .acts]
  | .bar2Write .. | .bar2Read .. | .readData .. | .ack .. | .report .. | .retry ..
    => [.od, .clock, .line, .host, .gate, .log, .pair, .lock, .acts]
  | .write .. => [.od, .clock, .line, .host, .gate, .pair, .lock, .acts]
  | .read .. => [.od, .line, .gate, .pair, .lock, .acts]
  | .declare .. => [.od, .pair, .lock]
  | .summaryPoll .. => [.od, .line, .pair, .lock]
  | .summary .. => [.pair, .lock]
  | .summaryStale .. | .lkFence .. => [.od, .gate, .lock, .acts]
  | .lockWriteTimeout .. | .lockReadTimeout .. => [.od, .clock, .line, .host, .gate, .log, .lock, .acts]
  | .prefetchLineExpiry .. => [.od, .gate, .log, .lock, .acts]
  | .lkErrPop .. => [.gate, .lock, .acts]
  | .canFrameReceived ..
    => [.od, .dict, .mram, .fuses, .power, .clock, .mu, .line, .gate, .log, .trust, .video, .slices, .canopen,
       .wake, .mooring, .fio, .pair, .acts]
  | .tunnelRelease .. => [.od, .gate, .log, .slices, .canopen, .wake, .mooring, .acts]
  | .txRequest .. | .txAbort .. | .recoveryRequest .. | .rxRelease .. | .startDetection ..
    => [.od, .host, .gate, .log, .canopen, .pair, .acts]
  | .canTxComplete .. | .railWarning .. | .temperatureSample .. => [.od, .gate, .log, .canopen, .acts]
  | .canBusError .. | .nmtStart .. | .nmtStop .. | .nmtEnterPreoperational .. | .nmtResetNode ..
  | .nmtResetCommunication .. | .heartbeatTimeout .. => [.od, .dict, .gate, .log, .canopen, .acts]
  | .busOffRecovered .. | .rpdoTimeout .. | .tpdoEventTimer .. | .timeProduce .. | .heartbeatProduce ..
  | .heartbeatReceived .. | .emcyInhibitExpired .. => [.od, .canopen, .acts]
  | .detectionTimeout .. | .arbitrationLost .. | .detectionEdge .. => [.od, .canopen]
  | .sync .. | .rpdoReceived ..
    => [.od, .dict, .mram, .fuses, .power, .clock, .mu, .line, .gate, .log, .trust, .video, .slices, .canopen,
       .mooring, .fio, .pair, .acts]
  | .command .. | .latchedFlagClear .. | .restoreRequest .. => [.od, .host, .gate, .log, .canopen, .fio, .pair, .acts]
  | .overcurrentTrip .. | .tripRetry .. | .groupOverload .. | .thermalShutdown .. | .supplySag ..
  | .supplySagEnd .. | .supplyOff .. | .supplyRestore .. | .dieLinkLoss ..
    => [.od, .gate, .log, .canopen, .fio, .acts]
  | .readbackMismatch .. => [.od, .gate, .log, .fio, .pair, .acts]
  | .openLoad .. | .externalDrive .. | .reverse .. => [.od, .gate, .log, .fio, .acts]
  | .fieldInputChange .. => [.od, .mu, .line, .gate, .log, .trust, .wake, .mooring, .pair, .acts]
  | .reportWrite .. => [.od, .log, .acts]
  | .startCollection .. => [.od, .line, .host, .gate, .log, .trust, .pair, .acts]
  | .logCollectRequest .. => [.od, .line, .log, .trust]
  | .logCollectData .. | .histogramSample .. => [.od, .log]
  | .logCollectCancel .. => [.log]
  | .histogramStore .. => [.od, .mram, .log]
  | .porRelease .. => [.od, .mram, .power, .trust, .wake]
  | .bootImageVerified .. | .imageHealthy .. => [.od, .mram, .power]
  | .ready ..
    => [.od, .dict, .power, .clock, .mu, .line, .gate, .log, .trust, .slices, .canopen, .mooring, .fio, .pair, .acts]
  | .quietRequest .. => [.od, .power, .host, .gate, .log, .video, .slices, .pair, .acts]
  | .islandRestart .. => [.od, .power, .gate, .log, .acts]
  | .referenceFault .. => [.od, .mram, .power, .mu, .line, .gate, .log, .acts]
  | .referenceLossReset .. | .warmReset .. | .watchdogExpiry .. | .safetyMonitorFault .. | .resetRequest ..
  | .debugReset .. | .sramScrub .. | .lockstepError ..
    => [.od, .dict, .power, .clock, .mu, .line, .host, .gate, .log, .trust, .video, .slices, .canopen,
       .mooring, .fio, .pair, .lock, .pairing, .unitA, .acts]
  | .mramScrubStart .. | .referenceRecovered .. => [.od, .power]
  | .mramScrubChunk .. => [.od, .mram, .power, .gate, .log, .pair, .acts]
  | .resetRelease .. => [.od, .mram, .power, .trust]
  | .wakeInInactive .. => [.wake]
  | .msixVectorUnmask .. => [.gate]

end Sys2Proof.Machine
end

