-- ==== Sys2Proof/Certificates/Slice0/Obligations.lean ====
section
/-!
DEFINITION. The statements for the provers: what commands do to the state, by the numbered rules of spec/. A clause speaks
of every state and every operand that meets its hypotheses.
-/

open Sys2Proof Sys2Proof.Machine Sys2Proof.Machine.State

/-- State.reset holds the values the spec states for reset. In State.reset no command waits and nothing has been sent; the
logic die is in reset with cause 1; the local counter stands at 0 and does not run; the rollback floor is 0, debug is
not closed and no output drives; every gate source is masked, none is pending or in service; the mailbox is idle and
its buffer reads 0; no lock transaction or error is held; the passage length reads 250,000 ns, the claim state 0, the
time state 0 and the heartbeat time 1,000 ms; and every dictionary entry with a static default holds it. (The MRAM's
factory state is the model's choice, log 7; the entries of the dictionary are the tables' defaults.) Rules R333, R336,
R349, R368, R408, R514. -/
def Obligations.ResetLeavesTheStatedValues : Prop :=
  (State.reset.pending = [] ∧ State.reset.out = [] ∧ State.reset.power.phase = .reset ∧ State.reset.power.cause = 1 ∧ State.reset.clock.running = false ∧
       State.reset.clock.counter = 0 ∧ State.reset.fuses.rollback = 0 ∧ State.reset.fuses.debugClosed = false ∧ State.reset.fio.drive = 0) ∧
  (State.reset.gate.mask = BitVec.allOnes 256 ∧ State.reset.gate.pend = 0 ∧ State.reset.gate.inServ = 0 ∧ State.reset.host.scratch = 0 ∧
       State.reset.host.busy = false ∧ State.reset.host.resp = false ∧ (∀ x : Nat, memRead State.reset.host.buf x = 0) ∧ State.reset.lock.tx = [] ∧ State.reset.lock.errs = []) ∧
  (State.reset.int 0x240005 = 250000 ∧ State.reset.int 0x310001 = 0 ∧ State.reset.int 0x260001 = 0 ∧ State.reset.int 0x101700 = 1000 ∧
       (∀ (k : Nat) (r : OdRec) (e : OdEnt) (v : Val), Od.find? k = some (r, e) → Od.default? k = some v → State.reset.raw k = v))

/-- A step is exec of the front command on the state with the rest of the queue. For every state and command c, step of
the state with c at the front of its queue is exec c on the state with the queue's rest. On an empty queue a step is
the tick of the local counter (the model's choice, log 1), which changes nothing while the counter does not run or the
device is not READY. Rules R175. -/
def Obligations.StepTakesTheFrontCommand : Prop :=
  (∀ (s : State) (c : Instr) (rest : List Instr), step { s with pending := c :: rest } = exec c { s with pending := rest }) ∧
  (∀ (s : State), s.pending = [] → step s = .next s.tick ∧ (s.clock.running = false ∨ s.isReady = false → s.tick = s))

/-- The stores of State.reset are in canonical form. The dictionary store, the mailbox buffer and the exchange memory of
State.reset are in canonical form: keys strictly rising and nothing listed that an unlisted key reads as. -/
def Obligations.ResetIsCanonical : Prop :=
  (State.reset.canonical)

/-- Every step keeps the stores in canonical form. From every state whose dictionary store, mailbox buffer and exchange
memory are in canonical form, a step that answers a next state answers one whose three are in canonical form. -/
def Obligations.EveryStepKeepsCanonicalForm : Prop :=
  (∀ (s t : State), s.canonical → step s = .next t → t.canonical)

/-- A step never unburns a fuse: identity, rollback floor, debug close. For every state, a step that answers a next state
leaves the fused identity as it is, does not lower the rollback floor, and leaves debug closed where it was closed;
and a command changes the fuses only if the frame of the command lists them. Rules R307, R333, R336. -/
def Obligations.FusesOnlyBurn : Prop :=
  (∀ (s t : State), step s = .next t → s.fuses.burnt t.fuses) ∧
  (∀ (s t : State) (c : Instr), exec c s = .next t → t.fuses ≠ s.fuses → Part.fuses ∈ touches c)

/-- Every command ends in a next state and changes only the parts listed for it. For every command and every state, exec
answers a next state in which the queue is as before, what was sent before is still sent, the counter of free values
has not fallen, and every part of the state that touches does not list for the command is unchanged. -/
def Obligations.CommandsTouchOnlyTheirParts : Prop :=
  (∀ (c : Instr) (s : State), ∃ t, exec c s = .next t ∧ t.pending = s.pending ∧ s.out <+: t.out ∧ s.free ≤ t.free ∧
       ∀ p : Part, p ∉ touches c → p.same s t)

/-- Bytes of the exchange memory and the mailbox buffer change only where a command stores. BAR2_WRITE and a lock WRITE
leave every byte of the exchange memory outside the bytes they store as it was; BAR2_READ and the other lock messages
leave all of it; a BAR0 write into the mailbox buffer leaves every byte of the buffer outside its four, and, with the
mailbox idle and the address aligned, stores its four bytes little-endian and leaves the dictionary and the lock
alone. Rules R347, R399, R402, R405, R412, R414, R421, R425, R426, R427, R430, R431, R434. -/
def Obligations.BytesChangeOnlyWhereStored : Prop :=
  (∀ (s t : State) (o : Fin 67108864) (data : List Byte) (e : List Bool) (x : Nat), exec (.bar2Write o data e) s = .next t →
       x < o.val % 2 ^ 20 ∨ o.val % 2 ^ 20 + data.length ≤ x → memRead t.lock.exchange x = memRead s.lock.exchange x) ∧
  (∀ (s t : State) (m : LockMsg) (free ecc : Bool) (x : Nat), exec (.write m free ecc) s = .next t →
       x < m.offset ∨ m.offset + m.data.length ≤ x → memRead t.lock.exchange x = memRead s.lock.exchange x) ∧
  (∀ (s t : State) (o : Fin 67108864) (n : Nat) (m : LockMsg) (free ecc : Bool),
       exec (.bar2Read o n) s = .next t ∨ exec (.read m free ecc) s = .next t ∨ exec (.readData m) s = .next t ∨ exec (.ack m) s = .next t ∨
         exec (.report m) s = .next t ∨ exec (.retry m) s = .next t ∨ exec (.declare m) s = .next t ∨ exec (.summaryPoll m) s = .next t ∨
         exec (.summary m) s = .next t → t.lock.exchange = s.lock.exchange) ∧
  (∀ (s t : State) (o : Nat) (v : Word32) (x : Nat), exec (.registerWrite (.bar0 o 0xF v)) s = .next t → 0x100 ≤ o → o < 0x500 →
       x < o ∨ o + 4 ≤ x → memRead t.host.buf x = memRead s.host.buf x) ∧
  (∀ (s : State) (o : Nat) (v : Word32) (i : Fin 4), s.bar0Up = true → o % 4 = 0 → 0x100 ≤ o → o < 0x500 → s.host.busy = false → s.host.resp = false →
       ∃ t, exec (.registerWrite (.bar0 o 0xF v)) s = .next t ∧ memRead t.host.buf (o + i.val) = (le 4 v.toNat).getD i.val 0 ∧ t.od = s.od ∧ t.lock = s.lock)

/-- The indices of the dictionary are those of the index tables, any other answers status 0x01. An index has a record
exactly if it is one of the listed ranges; a read or a write of an index without a record is answered with status 0x01
(where the SDO server and the pair let the access act at once and no reset is due); and no index from 0x2700 to
0x27FF, 0x2F00 to 0x2FFF or 0x3700 to 0x3EFF has one. Rules R346, R347. -/
def Obligations.OnlyTheListedIndicesExist : Prop :=
  (∀ i : Nat, (Od.record? i).isSome = true ↔ ∃ r ∈ [((0x1000 : Nat), (2 : Nat)), (0x1003, 1), (0x1005, 1), (0x1008, 3), (0x1012, 1), (0x1014, 6), (0x1029, 1), (0x1200, 1), (0x1400, 8), (0x1600, 8), (0x1800, 8), (0x1A00, 8), (0x2000, 2), (0x2010, 2), (0x2018, 1), (0x2100, 6), (0x2108, 7), (0x2110, 8), (0x2120, 30), (0x2200, 1), (0x2210, 2), (0x2220, 1), (0x2230, 1), (0x2240, 4), (0x2250, 1), (0x2400, 1), (0x2410, 4), (0x2418, 9), (0x2428, 1), (0x2430, 1), (0x2440, 16), (0x2460, 1), (0x2468, 8), (0x2480, 2), (0x2484, 4), (0x2498, 8), (0x2600, 3), (0x2608, 1), (0x2610, 4), (0x2618, 2), (0x2620, 8), (0x2630, 12), (0x2650, 4), (0x2800, 1), (0x2810, 8), (0x2820, 8), (0x2830, 8), (0x2840, 4), (0x2848, 4), (0x2858, 4), (0x2860, 1), (0x2880, 8), (0x2890, 8), (0x28A0, 8), (0x28B0, 1), (0x2C00, 1), (0x2C10, 34), (0x2C40, 4), (0x2C50, 2), (0x2C58, 2), (0x2C60, 12), (0x2C78, 8), (0x2E00, 1), (0x2E10, 16), (0x2E30, 16), (0x3000, 6), (0x3100, 2), (0x3110, 3), (0x3120, 3), (0x3124, 4), (0x3130, 8), (0x3140, 1), (0x3150, 1), (0x3160, 1), (0x3200, 3), (0x3210, 80), (0x3300, 3), (0x3310, 28), (0x3340, 160), (0x3400, 3), (0x3410, 4), (0x3500, 4), (0x3510, 496), (0x3F00, 8)], r.1 ≤ i ∧ i < r.1 + r.2) ∧
  (∀ (s : State) (w : Writer) (i sub : Nat) (data : List Byte), s.isReady = true → s.sdoClosed w = false → s.inStep = false → s.power.resetDue = none → Od.record? i = none → sub < 256 →
       exec (.dictRead w (.entry i sub)) s = .next (s.respond w 1 []) ∧
       exec (.registerWrite (.entry { writer := w, index := i, sub := sub } data)) s = .next (s.respond w 1 [])) ∧
  (∀ i : Nat, 0x2700 ≤ i ∧ i ≤ 0x27FF ∨ 0x2F00 ≤ i ∧ i ≤ 0x2FFF ∨ 0x3700 ≤ i ∧ i ≤ 0x3EFF → Od.record? i = none)

/-- An in-band interrupt is stamped and counted, and nothing else happens. While the device is READY, acts alone and runs
no script on the port, an in-band interrupt counts at 0x2858 + p:11 and leaves its CT32 at :12, and the next state
differs in nothing else. Rules R31. -/
def Obligations.InBandInterruptsAreStampedAndCounted : Prop :=
  (∀ (s : State) (p : Fin 4) (payload : List Byte), s.isReady = true → s.inStep = false → s.script? p = none →
       exec (.cciIbiReceived ⟨p, payload⟩) s = .next (((s.bump (cciRec p + 0x11)).put (cciRec p + 0x12) s.ct32).setCciPort p
         { s.cciPort p with payload := payload.take 4 }))

/-- Open load is set on an output that is on, clears with the current, and is not judged while off. With open-load
detection on, an applied output (its supply not in sag) that draws too little sets its open-load flag; a current above
the limit clears it; both leave every other channel alone; and while the output is off or detection is off nothing
happens. Rules R469. -/
def Obligations.OpenLoadIsJudgedOnOutputsThatAreOn : Prop :=
  (∀ (s : State) (k : Fin 16), s.isReady = true → s.int (fioCfg k + 0x0B) ≠ 0 → s.applied k = true → (s.supplyOf k).sag = false →
       ∃ t, exec (.openLoad k true) s = .next t ∧ (t.chan k).flags.getLsbD 3 = true ∧ (∀ j : Nat, j ≠ k.val → t.chan j = s.chan j)) ∧
  (∀ (s : State) (k : Fin 16), s.isReady = true →
       ∃ t, exec (.openLoad k false) s = .next t ∧ (t.chan k).flags.getLsbD 3 = false ∧ (∀ j : Nat, j ≠ k.val → t.chan j = s.chan j) ∧ t.od = s.od) ∧
  (∀ (s : State) (k : Fin 16), s.applied k = false ∨ s.int (fioCfg k + 0x0B) = 0 → exec (.openLoad k true) s = .next s)

/-- An open-water frame that would exceed 262,144 bytes at its egress is dropped whole and counted. A forwarded open-water
frame that would take its egress past 262,144 bytes is dropped and counted at 0x2400:0B; one that fits is held whole,
and no entry changes. Rules R155. -/
def Obligations.OpenWaterBuffersAreBounded : Prop :=
  (∀ (s u : State) (p : Cpl) (f : OwFrame) (fine : Fin 32), s.isReady = true → s.linkUpState p.no = true → u = s.bump (Od.key (0x2410 + p.no) 9) →
       u.keyed p.no = true → u.keeper p.no = 1 → u.owJudge p.no f (u.ctAt u.clock.counter fine) = 0 → u.mu.applied = false ∨ (f.hdr.hash.toNat : Int) = u.int 0x222001 →
       f.fcsOk = true → f.icvOk = true → f.destination.toNat ≠ u.fuses.identity → u.linkUpState (acrossPort p.no) = true →
       (262144 < u.owHeld (acrossPort p.no) + (f.bytes + 90) → exec (.openWaterFrameReceived p f fine) s = .next (u.bump 0x24000B)) ∧
       (u.owHeld (acrossPort p.no) + (f.bytes + 90) ≤ 262144 → ∃ t, exec (.openWaterFrameReceived p f fine) s = .next t ∧
         t.owHeld (acrossPort p.no) = u.owHeld (acrossPort p.no) + (f.bytes + 90) ∧ t.od = u.od))

/-- Flight boundaries, passage starts and the adoption of CT. FLIGHT_BOUNDARY without CT changes nothing; with it, the
next flight starts 64 passages later, the counter, the host port, the wake unit and the fuses stay. PASSAGE_START (no
pair input waiting) advances the passage number, 0 at a flight's start, counts a cold-start attempt's passage and
clears the lock's per-passage records, leaving the fuses and the field unit alone. CT_ADOPTION steps CT by the adopted
step at the local counter and clears the deviations; with no adoption due it changes nothing. Rules R142, R143, R181. -/
def Obligations.FlightsAndPassages : Prop :=
  (∀ (s : State) (roster : List Berthed) (ended : List (Nat × Nat × Nat)), s.ctValid = false → exec (.flightBoundary roster ended) s = .next s) ∧
  (∀ (s : State) (roster : List Berthed) (ended : List (Nat × Nat × Nat)), s.isReady = true → s.ctValid = true →
       ∃ t, exec (.flightBoundary roster ended) s = .next t ∧ t.clock.flightStart = s.clock.flightStart + 64 * s.passageLen * 65536 ∧
         t.clock.fresh = true ∧ t.clock.counter = s.clock.counter ∧ t.host = s.host ∧
         t.wake = s.wake ∧ t.fuses = s.fuses) ∧
  (∀ (s : State), s.isReady = true → s.pair.inputs = [] →
       ∃ t, exec .passageStart s = .next t ∧ t.clock.fresh = false ∧ t.clock.counter = s.clock.counter ∧
         t.int 0x240004 = ((if s.clock.fresh then 0 else (s.passage + 1) % 64 : Nat) : Int) ∧
         (s.startState = 1 → t.mu.attempt = s.mu.attempt + 1) ∧ t.lock.got = 0 ∧ t.lock.answered = 0 ∧ t.lock.seen = [] ∧
         t.fuses = s.fuses ∧ t.fio = s.fio) ∧
  (∀ (s : State), s.isReady = true → s.mu.adoptAt ≠ none →
       ∃ t, exec .ctAdoption s = .next t ∧ t.mu.adoptAt = none ∧ t.mu.adopted = true ∧ t.mu.applied = false ∧ t.mu.integrated = false ∧
         t.clock.ct.anchor = s.clock.counter ∧ t.clock.ct.base = s.clock.ct.read s.clock.counter 0 + s.mu.adoptStep ∧ t.clock.vals = []) ∧
  (∀ (s : State), s.mu.adoptAt = none → exec .ctAdoption s = .next s)

/-- Slot frames are originated, refused by the own gate, taken up and quarantined. SLOT_ORIGINATE sends the SYNC or the
STATUS of an own slot with its header, identity, sequence number and egress stamp; a slot the own gate stops again in
the flight counts at 0x2481:06; a slot that is not the node's own does nothing. SLOT_FRAME_RECEIVED does nothing on a
link that is not up; a frame the lock-keeper passes is dropped and counted under a foreign hash, ignored when passive
and no head frame, or held for its egress; on a quarantined or isolated port it is counted as dropped. Rules R245,
R553. -/
def Obligations.SlotsAreOriginated : Prop :=
  (∀ (s : State) (p : Cpl) (idx : Fin 256) (x : Slot), s.isReady = true → s.entry? (s.tableOut p.no) idx = some x → s.isSender p.no x = true → x.ptype = 1 →
       s.gateStops p.no x = false → s.mayCross p.no true = true →
       ∃ t frame, exec (.slotOriginate p idx) s = .next t ∧
         t.out = s.out ++ [.own p.no (s.ownHeader p.no idx x 32) s.fuses.identity (Tab.get (α := Nat) 0 s.line.seqNos (chanNo p.no * 16 + 1))
             (s.ownEgress p.no x / 65536 % 2 ^ 32) frame,
           .syncOwn p.no (x.copy + 1) (decide (s.timeState = 2 ∨ s.timeState = 3)) (decide (s.int 0x220004 ≠ 0))
             (-((s.ctAt s.clock.counter (s.freeNat % 32) - s.ownEgress p.no x) / 256)) 0 (s.ownEgress p.no x)] ∧
         Tab.get (α := Nat) 0 t.line.seqNos (chanNo p.no * 16 + 1) = (Tab.get (α := Nat) 0 s.line.seqNos (chanNo p.no * 16 + 1) + 1) % 256) ∧
  (∀ (s : State) (p : Cpl) (idx : Fin 256) (x : Slot), s.isReady = true → s.entry? (s.tableOut p.no) idx = some x → s.isSender p.no x = true → x.ptype = 2 →
       s.gateStops p.no x = false → s.mayCross p.no true = true →
       ∃ t frame, exec (.slotOriginate p idx) s = .next t ∧
         t.out = s.out ++ [.own p.no (s.ownHeader p.no idx x 64) s.fuses.identity (Tab.get (α := Nat) 0 s.line.seqNos (chanNo p.no * 16 + 2))
             (s.ownEgress p.no x / 65536 % 2 ^ 32) frame,
           .status p.no (s.statusOf (if portB p.no then .b else .a))]) ∧
  (∀ (s : State) (p : Cpl) (idx : Fin 256) (x : Slot), s.isReady = true → s.entry? (s.tableOut p.no) idx = some x → s.isSender p.no x = true → x.ptype ≠ 4 →
       s.gateStops p.no x = true → s.line.gateRefusedIn = some s.flight → exec (.slotOriginate p idx) s = .next (s.bump 0x248106)) ∧
  (∀ (s : State) (p : Cpl) (idx : Fin 256), s.entry? (s.tableOut p.no) idx = none ∨ (∃ x, s.entry? (s.tableOut p.no) idx = some x ∧ s.isSender p.no x = false) →
       exec (.slotOriginate p idx) s = .next s) ∧
  (∀ (s : State) (p : Cpl) (f : SlotFrame) (fine : Fin 32), s.linkUpState p.no = false → exec (.slotFrameReceived p f fine) s = .next s) ∧
  (∀ (s u : State) (p : Cpl) (f : SlotFrame) (fine : Fin 32) (w : Int), s.isReady = true → s.linkUpState p.no = true → u = s.bump (Od.key (0x2410 + p.no) 9) →
       u.keyed p.no = true → u.linkState p.no = 2 → u.keeper p.no = 1 → f.hdr.ptype ≠ 4 → u.mu.applied = true → u.judge p.no f.hdr (u.ctAt u.clock.counter fine) = (0, w) →
       ((f.hdr.hash.toNat : Int) ≠ u.int 0x222001 → u.mu.consist = none → exec (.slotFrameReceived p f fine) s = .next (u.bump 0x248109)) ∧
       ((f.hdr.hash.toNat : Int) = u.int 0x222001 → f.hdr.passive = true → isHead f.hdr.ptype.toNat = false → exec (.slotFrameReceived p f fine) s = .next u) ∧
       ((f.hdr.hash.toNat : Int) = u.int 0x222001 → f.hdr.passive = false → f.hdr.ptype ≠ 7 → f.fcsOk = true → f.icvOk = true →
         exec (.slotFrameReceived p f fine) s = .next (u.hold p.no f.hdr true))) ∧
  (∀ (s u : State) (p : Cpl) (f : SlotFrame) (fine : Fin 32), s.isReady = true → s.linkUpState p.no = true → u = s.bump (Od.key (0x2410 + p.no) 9) →
       u.keyed p.no = true → u.linkState p.no ≠ 3 → 2 ≤ u.keeper p.no → f.hdr.ptype ≠ 4 →
       exec (.slotFrameReceived p f fine) s = .next (u.bump (Od.key (0x2484 + p.no) 0x0B)))

/-- Cut frames, forwarding at the egress instant, SYNC measurements, open water. SLOT_FRAME_CUT counts and marks the held
copies of the frame; SLOT_FORWARD_RELEASE sends a held frame in time with its check sequence as it came, or does
nothing where none is held; SYNC_RECEIVED takes one deviation from the expected arrival with its order and channel;
OPEN_WATER_SEND sends the first frame that fits and sets its wire time; OPEN_WATER_FRAME_RECEIVED is kept, forwarded
to the port across, or ends there. Rules R146, R155, R184, R246. -/
def Obligations.FramesCrossTheLine : Prop :=
  (∀ (s : State) (p : Cpl) (idx : Fin 256), s.isReady = true → s.linkUpState p.no = true → s.keyed p.no = true →
       exec (.slotFrameCut p idx) s = .next { s.bump (Od.key (0x2484 + p.no) 0x0A) with line := { s.line with
         heldFrames := s.line.heldFrames.map (fun (x : Held) => if x.inPort = p.no ∧ x.hdr.slotIndex = idx.val then { x with fcsGood := false } else x) } }) ∧
  (∀ (s : State) (p : Cpl) (idx : Fin 256) (x : Held), s.isReady = true → s.line.heldFrames.find? (fun x => decide (x.outPort = p.no ∧ x.hdr.slotIndex = idx.val)) = some x →
       s.linkUpState p.no = true → s.mayTransmit (isHead x.hdr.ptype.toNat) = true → s.ctNow - x.egress ≤ s.guardUnits / 2 → x.sync = none →
       ∃ t, exec (.slotForwardRelease p idx) s = .next t ∧ t.out = s.out ++ [.slot p.no x.hdr x.fcsGood] ∧
         t.line.heldFrames = s.line.heldFrames.erase x) ∧
  (∀ (s : State) (p : Cpl) (idx : Fin 256), s.isReady = true → s.line.heldFrames.find? (fun x => decide (x.outPort = p.no ∧ x.hdr.slotIndex = idx.val)) = none →
       exec (.slotForwardRelease p idx) s = .next s) ∧
  (∀ (s : State) (p : Cpl) (f : SyncFrame) (fine : Fin 32) (w : Nat), s.isReady = true → s.linkUpState p.no = true → s.ctValid = true → s.mu.applied = true →
       f.slot ≠ 0 → s.syncOk p.no f = true → ((s.entry? (s.tableIn p.no) f.slot).map (·.start)).getD 0 = w →
       ∃ t v, exec (.syncReceived p f fine) s = .next t ∧ t.clock.vals.getLast? = some v ∧ v.order = f.slot + 1 ∧ v.chan = f.channel ∧ v.used = true ∧
         v.d = s.ctAt s.clock.counter fine - s.arrival p.no w (nearest (s.arrival p.no w) (s.ctAt s.clock.counter fine)) + f.correction * 256 ∧
         t.od = s.od ∧ t.mu = s.mu) ∧
  (∀ (s : State) (p : Cpl) (x : OwItem) (q : List OwItem), s.isReady = true → (s.pl p.no).owQueue = x :: q → s.linkUpState p.no = true → s.keyed p.no = true →
       s.owFits p.no (wireTicks (s.nat (linkRec p.no + 5)) (90 + x.bytes)) = true → s.silenced = false →
       ∃ t frame, exec (.openWaterSend p) s = .next t ∧ (t.pl p.no).owQueue = q ∧
         (x.own = none → t.out = s.out ++ [.openWater p.no x.otype x.bytes x.header] ∧
           (t.pl p.no).txUntil = s.clock.counter + wireTicks (s.nat (linkRec p.no + 5)) (90 + x.bytes)) ∧
         (∀ b, x.own = some b → t.out = s.out ++ [.own p.no (s.headerOf p.no (owPayload x.otype) none b.length) s.fuses.identity
             (s.sequenceOf p.no (owPayload x.otype)) (s.ctNow / 65536 % 2 ^ 32) frame] ∧
           (t.pl p.no).txUntil = s.clock.counter + wireTicks (s.nat (linkRec p.no + 5)) (90 + b.length))) ∧
  (∀ (s u : State) (p : Cpl) (f : OwFrame) (fine : Fin 32), s.isReady = true → s.linkUpState p.no = true → u = s.bump (Od.key (0x2410 + p.no) 9) →
       u.keyed p.no = true → u.keeper p.no = 1 → u.owJudge p.no f (u.ctAt u.clock.counter fine) = 0 → u.mu.applied = false ∨ (f.hdr.hash.toNat : Int) = u.int 0x222001 →
       f.fcsOk = true → f.icvOk = true →
       exec (.openWaterFrameReceived p f fine) s = .next (if f.destination.toNat = u.fuses.identity then u
         else if u.linkUpState (acrossPort p.no) then u.owQueueUp (acrossPort p.no) { otype := f.otype, bytes := f.bytes, header := some f.hdr } else u))

/-- STATUS frames form the membership, and mode requests are decided or sent to the lead. STATUS_RECEIVED takes the vector
and identity of an accepted berth of 1 to 64 and hears it on its channel alone, and ignores another; MODE_REQUEST at
the lead proposes the mode with its template's hash, or decides it when all support it, and elsewhere goes to the
lead's identity. Rules R161, R163. -/
def Obligations.StatusFormsMembership : Prop :=
  (∀ (s : State) (x : Status), s.isReady = true → x.accepted = true → 1 ≤ x.berth → x.berth ≤ 64 →
       ∃ t, exec (.statusReceived x) s = .next t ∧ Tab.find? t.line.members.vectors x.berth = some x.membership.toNat ∧
         Tab.find? t.line.members.ids x.berth = some x.identity.toNat ∧
         (x.viaTow = false → x.channel = .a → t.line.members.heardA = addBerth s.line.members.heardA x.berth ∧ t.line.members.heardB = s.line.members.heardB) ∧
         (x.viaTow = false → x.channel = .b → t.line.members.heardB = addBerth s.line.members.heardB x.berth ∧ t.line.members.heardA = s.line.members.heardA)) ∧
  (∀ (s : State) (x : Status), x.accepted = false ∨ x.berth = 0 ∨ 64 < x.berth → exec (.statusReceived x) s = .next s) ∧
  (∀ (s : State) (w : Writer) (v : Byte), s.admits w 0x243003 [v] → s.isLead = true → s.int 0x243004 = 0 → v ≠ 0 → s.template v.toNat ≠ [] →
       ∃ t, exec (.modeRequest w v) s = .next t ∧ t.int 0x243005 = v.toNat ∧ (t.int 0x243004 = 1 ∨ t.int 0x243004 = 2 ∧ t.int 0x243006 = (s.flight + 2 : Nat)) ∧
         t.line.switch.mode = v.toNat ∧ t.line.switch.hash = s.templateHash v.toNat ∧ t.line.switch.f0 = s.flight) ∧
  (∀ (s : State) (w : Writer) (v : Byte), s.admits w 0x243003 [v] → s.isLead = false →
       ∃ t, exec (.modeRequest w v) s = .next t ∧ t = (s.sendMgmt (s.nat 0x222007) 0x2430 3 [v]).respond w 0 [] ∧
         .mgmt (s.nat 0x222007) 0x2430 3 [v] ∈ t.out ∧ t.line.switch = s.line.switch ∧ t.od = s.od)

/-- Passage markers fire, star frames are counted and filtered. PASSAGE_MARKER_FIRE counts and drives the time pulse pin
the marker names; STAR_FRAME_RECEIVED counts a bad check sequence, passes gPTP and counts a frame of another kind; a
stream frame over its size in its window blocks the filter and is counted, one within it passes; FILTER_UNBLOCK opens
the filter. Rules R138, R165, R255. -/
def Obligations.MarkersAndStarPorts : Prop :=
  (∀ (s : State) (i : Fin 8), s.isReady = true → s.int (Od.key (0x2468 + i) 1) ≠ 0 → s.int (Od.key (0x2468 + i) 2) < s.passageLen →
       s.int (Od.key (0x2468 + i) 3) = 0xFF ∨ s.int (Od.key (0x2468 + i) 3) = s.passage → s.ctValid = true →
       ∃ t, exec (.passageMarkerFire i) s = .next t ∧ t.int (Od.key (0x2468 + i) 6) = min (s.int (Od.key (0x2468 + i) 6) + 1) 0xFFFFFFFF ∧
         (s.nat (Od.key (0x2468 + i) 4) < 12 → (t.pulse (s.nat (Od.key (0x2468 + i) 4))).high = true ∧
           (t.pulse (s.nat (Od.key (0x2468 + i) 4))).width = s.nat (Od.key (0x2468 + i) 5))) ∧
  (∀ (s : State) (p : Fin 8) (f : StarFrame) (fine : Fin 32), s.isReady = true → s.starUp p = true →
       exec (.starFrameReceived p f false fine) s = .next ((s.bump (Od.key (0x2418 + p) 7)).bump (Od.key (0x2418 + p) 9)) ∧
       exec (.starFrameReceived p .gptp true fine) s = .next (s.bump (Od.key (0x2418 + p) 7)) ∧
       exec (.starFrameReceived p .other true fine) s = .next ((s.bump (Od.key (0x2418 + p) 7)).bump (Od.key (0x2418 + p) 0x0A))) ∧
  (∀ (s u : State) (p : Fin 8) (id : BitVec 64) (bytes n : Nat) (fine : Fin 32), s.isReady = true → s.starUp p = true → u = s.bump (Od.key (0x2418 + p) 7) →
       u.streamOf p id.toNat = some n → u.starOpen p (u.ctAt u.clock.counter fine) = true → u.int (Od.key (0x2498 + p) 5) = 0 →
       (u.int (Od.key (0x2498 + p) 3) < bytes → u.int (Od.key (0x2498 + p) 4) ≠ 0 →
         exec (.starFrameReceived p (.stream id bytes) true fine) s = .next ((u.bump (Od.key (0x2498 + p) 8)).put (Od.key (0x2498 + p) 5) 1)) ∧
       (bytes ≤ u.int (Od.key (0x2498 + p) 3) →
         exec (.starFrameReceived p (.stream id bytes) true fine) s = .next (u.bump (Od.key (0x2498 + p) 6)))) ∧
  (∀ (s : State) (w : Writer) (p : Fin 8) (v : Byte), s.admits w (Od.key (0x2498 + p) 5) [v] →
       exec (.filterUnblock w p v) s = .next ((s.put (Od.key (0x2498 + p) 5) 0).respond w 0 []))

/-- Making-up triggers, timeouts and MAKE_UP frames. ACTIVE_CAB_CHANGE and MAKE_UP_REQUEST trigger a making-up with their
cause and the next generation; MAKE_UP_TIMEOUT restarts it up to three times and then fails it with operation 4 ended
as failed; MAKE_UP_SEND sends the frame of the port and notes its departure; MAKE_UP_RECEIVED takes the neighbour's
identity, vehicle and position on a link that is up, and nothing on one that is down. Rules R20, R215, R217, R223. -/
def Obligations.MakingUpIsTriggered : Prop :=
  (∀ (s : State) (on : Bool), s.isReady = true → s.mu.cab ≠ on → s.int 0x340101 ≠ 2 → s.muState ≠ 3 → s.mu.held = none →
       ∃ t, exec (.activeCabChange on) s = .next t ∧ t.mu.cab = on ∧ t.int 0x221006 = 4 ∧
         t.int 0x221002 = ((s.generation + 1) % 65536 : Nat) ∧ t.mu.trigAt = s.clock.counter ∧ t.clock = s.clock) ∧
  (∀ (s : State) (w : Writer) (v : Byte), s.admits w 0x221101 [v] → s.int 0x340101 ≠ 2 → s.muState ≠ 3 → s.mu.held = none →
       ∃ t, exec (.makeUpRequest w v) s = .next t ∧ t.int 0x221006 = 5 ∧
         t.int 0x221002 = ((s.generation + 1) % 65536 : Nat) ∧ t.mu.trigAt = s.clock.counter ∧ t.clock = s.clock) ∧
  (∀ (s : State), s.isReady = true → s.muState = 1 ∨ s.muState = 2 → s.int 0x22100A + 1 < 4 → s.int 0x340101 ≠ 2 → s.mu.held = none →
       ∃ t, exec .makeUpTimeout s = .next t ∧ t.int 0x22100A = s.int 0x22100A + 1 ∧ t.int 0x221006 = 7 ∧
         t.int 0x225002 = min (s.int 0x225002 + 1) 0xFFFFFFFF ∧ t.int 0x221002 = ((s.generation + 1) % 65536 : Nat)) ∧
  (∀ (s : State), s.isReady = true → s.muState = 1 ∨ s.muState = 2 → 4 ≤ s.int 0x22100A + 1 → s.sleepAgreed = false →
       ∃ t, exec .makeUpTimeout s = .next t ∧ t.int 0x221001 = 4 ∧ t.int 0x22100A = 0 ∧
         t.int 0x225003 = min (s.int 0x225003 + 1) 0xFFFFFFFF ∧ t.int 0x3F0401 = 3 ∧ t.int 0x3F0406 = 7 ∧ t.mu.consist = none) ∧
  (∀ (s : State) (p : Cpl), s.isReady = true → s.linkUpState p.no = true → s.drives (if portB p.no then .b else .a) = true →
       ∃ t frame, exec (.makeUpSend p) s = .next t ∧
         t.out = s.out ++ [.own p.no (s.headerOf p.no 4 none 256) s.fuses.identity (s.sequenceOf p.no 4)
             ((s.makeUpOf p.no).egressCt / 65536 % 2 ^ 32) frame, .makeUp p.no (s.makeUpOf p.no)] ∧
         (t.pl p.no).muSent = some ((s.clock.counter : Int) * 32 + (s.freeNat % 32 : Nat)) ∧ (t.pl p.no).muHeardAt = none ∧
         (t.pl p.no).authOut = (s.pl p.no).authOut.tail ∧ t.mu = s.mu) ∧
  (∀ (s : State) (p : Cpl) (h : Header) (m : MakeUp) (fine : Fin 32), s.isReady = true → s.linkUpState p.no = true →
       m.frameOk = true → m.protectedFrame = s.keyed p.no →
       ∃ t, exec (.makeUpReceived p h m fine) s = .next t ∧ t.int (Od.key (0x2240 + p.no) 1) = m.sender.toNat ∧
         t.int (Od.key (0x2240 + p.no) 3) = m.vehicle.toNat ∧ t.int (Od.key (0x2240 + p.no) 4) = m.position) ∧
  (∀ (s : State) (p : Cpl) (h : Header) (m : MakeUp) (fine : Fin 32), s.linkUpState p.no = false ∨ m.frameOk = false ∨ m.protectedFrame ≠ s.keyed p.no →
       exec (.makeUpReceived p h m fine) s = .next s)

/-- Cold start, integration, offset correction and holdover. LISTEN_TIMER_EXPIRED starts a cold start of a ranked device
with CT 0 at flight 0; COLD_START_RECEIVED counts a foreign start while RUNNING, and otherwise begins integration with
its passage; ATTEMPT_COMPLETE enters RUNNING; INTEGRATE_TIMEOUT listens again; ADOPTION_MEASUREMENT_END sets the
adoption two flights on with the measured step. OFFSET_CORRECTION corrects by the mean of at least 4 values, enters
HOLDOVER below that, and becomes passive at the second rejection in a row; HOLDOVER_LIMIT_EXPIRED marks the limit
alone. Rules R187, R189, R220, R221, R235. -/
def Obligations.ClusterTimeStartsAndIsCorrected : Prop :=
  (∀ (s : State), s.isReady = true → s.startState = 0 → s.nat 0x220004 ≠ 0 → s.clock.running = true → s.ctValid = false →
       ∃ t, exec .listenTimerExpired s = .next t ∧ t.int 0x22100B = 1 ∧ t.int 0x225006 = min (s.int 0x225006 + 1) 0xFFFFFFFF ∧
         t.int 0x260001 = 1 ∧ t.int 0x240002 = 0 ∧ t.int 0x240003 = 0 ∧ t.int 0x240004 = 0 ∧ t.int 0x22200D = s.fuses.identity ∧
         t.clock.ct = { anchor := s.clock.counter, base := 0 } ∧ t.mu.attempt = 0 ∧ t.mu.passive = false ∧ t.mu.timeLeadRank = s.nat 0x220004) ∧
  (∀ (s : State) (p : Cpl) (dir : Dir) (f : ColdStart) (res : Nat) (fine : Fin 32), s.isReady = true → s.coldLink p.no = true → f.valid = true → s.isRunning = true →
       exec (.coldStartReceived p dir f res fine) s = .next (s.bump 0x225008)) ∧
  (∀ (s : State) (p : Cpl) (dir : Dir) (f : ColdStart) (res : Nat) (fine : Fin 32), s.isReady = true → s.coldLink p.no = true → f.valid = true → s.startState = 0 →
       ∃ t, exec (.coldStartReceived p dir f res fine) s = .next t ∧ t.int 0x22100B = 2 ∧ t.int 0x260001 = 1 ∧ t.int 0x240002 = 0 ∧
         t.int 0x240003 = 0 ∧ t.int 0x240004 = f.passage ∧ t.int 0x22200D = f.sender.toNat ∧ t.mu.listen = 1 ∧ t.mu.integrated = false ∧ t.mu.timeLeadRank = f.rank) ∧
  (∀ (s : State), s.isReady = true → s.startState = 1 →
       ∃ t, exec .attemptComplete s = .next t ∧ t.int 0x22100B = 3 ∧ t.int 0x221006 = 1 ∧ t.mu.integrated = true ∧ t.mu.passive = false ∧ t.mu.listen = 0) ∧
  (∀ (s : State), s.isReady = true → s.startState = 2 →
       exec .integrateTimeout s = .next { s.put 0x22100B 0 with mu := { s.mu with listen := 0, working := none, silent := 0 } }) ∧
  (∀ (s : State), s.isReady = true → s.mu.measuring ≠ 0 → s.mu.adoptAt = none →
       ∃ t, exec .adoptionMeasurementEnd s = .next t ∧ t.mu.adoptAt = some (s.clock.flightStart + 2 * 64 * s.passageLen * 65536) ∧
         t.mu.joining = true ∧ t.mu.passive = true ∧ t.mu.measuring = 0 ∧ t.od = s.od ∧ t.clock = s.clock ∧
         (s.mu.lastAt = s.mu.firstAt → t.mu.adoptStep = s.mu.lastDiff)) ∧
  (∀ (s : State), s.isReady = true → s.timeState = 2 → 4 ≤ s.avgVals.length → s.deltaRejected = false →
       ∃ t, exec .offsetCorrection s = .next t ∧ t.clock.delta = s.rawDelta ∧ t.clock.rejects = 0 ∧ t.clock.vals = [] ∧
         t.int 0x260001 = 2 ∧ t.int 0x260002 = s.avgVals.length ∧ t.int 0x260003 = Int.tdiv (s.rawDelta * 1000) 256 ∧ t.mu = s.mu) ∧
  (∀ (s : State), s.isReady = true → s.timeState = 2 → s.avgVals.length < 4 → s.clock.rejects < 2 →
       ∃ t, exec .offsetCorrection s = .next t ∧ t.clock.delta = 0 ∧ t.clock.holdPassages = 0 ∧ t.int 0x260001 = 3 ∧ t.mu = s.mu) ∧
  (∀ (s : State), s.isReady = true → s.timeState = 2 → 4 ≤ s.avgVals.length → s.deltaRejected = true → s.clock.rejects = 1 →
       ∃ t, exec .offsetCorrection s = .next t ∧ t.int 0x260001 = 4 ∧ t.clock.delta = 0 ∧ t.mu.passive = true) ∧
  (∀ (s : State), s.isReady = true → s.timeState = 3 → s.nat 0x260104 * 64 ≤ s.clock.holdPassages → s.int 0x26000D = 0 →
       ∃ t, exec .holdoverLimitExpired s = .next t ∧ t.int 0x26000D = 1 ∧ t.int 0x260001 = s.int 0x260001 ∧ t.clock = s.clock)

/-- Links come and go, and PHY registers are polled and accessed. LINK_UP within the limit takes the rate, the state by
the least rate, counts and triggers a making-up; LINK_DOWN clears the neighbour and the key; LINK_LIMIT_CLEARED takes
a limited link to UP with source 129 + p; STAR_LINK_CHANGE follows the link of an enabled port. MDIO_POLL reads
register 1 of an enabled port's PHY and counts a failure of a coupler's; MDIO_READ and MDIO_WRITE take the record's
fields with result 0, or are refused with result 4 while one runs; MDIO_ACCESS_DONE reports the value, done, or a
failure. Rules R136, R137, R140, R170. -/
def Obligations.LinksAndManagedRegisters : Prop :=
  (∀ (s : State) (p : Cpl) (rate : Fin 4), s.isReady = true → s.int (Od.key (0x2410 + p.no) 4) = 1 → (rate.val : Int) ≤ s.int (Od.key (0x2410 + p.no) 3) →
       (s.pl p.no).measured = false →
       ∃ t, exec (.linkUp p rate) s = .next t ∧ t.int (Od.key (0x2410 + p.no) 5) = rate.val ∧
         t.int (Od.key (0x2410 + p.no) 4) = (if s.int 0x2E0004 ≤ rate.val then 2 else 3) ∧
         t.int (Od.key (0x2410 + p.no) 7) = min (s.int (Od.key (0x2410 + p.no) 7) + 1) 0xFFFFFFFF ∧ t.int 0x221006 = 2) ∧
  (∀ (s : State) (p : Cpl), s.isReady = true → s.linkUpState p.no = true →
       ∃ t, exec (.linkDown p) s = .next t ∧ t.int (Od.key (0x2410 + p.no) 4) = 1 ∧
         t.int (Od.key (0x2410 + p.no) 8) = min (s.int (Od.key (0x2410 + p.no) 8) + 1) 0xFFFFFFFF ∧ t.int (Od.key (0x2240 + p.no) 1) = 0 ∧
         t.int (Od.key (0x3124 + p.no) 1) = 0 ∧ t.int 0x221006 = 2) ∧
  (∀ (s : State) (p : Cpl), s.isReady = true → s.linkState p.no = 3 → s.limitsMet p.no = true →
       exec (.linkLimitCleared p) s = .next ((s.put (Od.key (0x2410 + p.no) 4) 2).raise (129 + p.no) 2 p.no 0)) ∧
  (∀ (s : State) (p : Fin 8) (up : Bool), s.isReady = true → s.int (Od.key (0x2418 + p) 1) ≠ 0 →
       exec (.starLinkChange p up) s = .next ((s.put (Od.key (0x2418 + p) 4) (if up then 2 else 1)).setStar p {})) ∧
  (∀ (s : State) (p : Fin 8) (v : Nat), s.isReady = true → s.int (Od.key (0x2410 + p.val % 4) 1) ≠ 0 →
       exec (.mdioPoll false p (.ok v)) s = .next (s.emit (.mdio false 0 (s.nat (Od.key (0x2410 + p.val % 4) 2)) 1 1 0)) ∧
       exec (.mdioPoll false p .nack) s = .next ((s.emit (.mdio false 0 (s.nat (Od.key (0x2410 + p.val % 4) 2)) 1 1 0)).bump (Od.key (0x2410 + p.val % 4) 0x0D)) ∧
       exec (.mdioPoll false p .timeout) s = .next ((s.emit (.mdio false 0 (s.nat (Od.key (0x2410 + p.val % 4) 2)) 1 1 0)).bump (Od.key (0x2410 + p.val % 4) 0x0D))) ∧
  (∀ (s : State) (p : Fin 8) (r : BusResult), s.isReady = true → s.int (Od.key (0x2418 + p) 1) ≠ 0 →
       exec (.mdioPoll true p r) s = .next (s.emit (.mdio false 1 (s.nat (Od.key (0x2418 + p) 3)) 1 1 0))) ∧
  (∀ (s : State) (w : Writer) (j : MdioJob), s.line.mdio = none → j = { write := false, master := s.nat 0x242801, phy := s.nat 0x242802, dev := s.nat 0x242803, reg := s.nat 0x242804, value := s.nat 0x242805 } →
       (s.admits w 0x242806 [1] → ∃ t, exec (.mdioRead w) s = .next t ∧ t.line = { s.line with mdio := some j } ∧ t.int 0x242807 = 0) ∧
       (s.admits w 0x242806 [2] → ∃ t, exec (.mdioWrite w) s = .next t ∧ t.line = { s.line with mdio := some { j with write := true } } ∧ t.int 0x242807 = 0)) ∧
  (∀ (s : State) (w : Writer), s.line.mdio ≠ none →
       (s.admits w 0x242806 [1] → exec (.mdioRead w) s = .next ((s.put 0x242807 4).respond w 0 [])) ∧
       (s.admits w 0x242806 [2] → exec (.mdioWrite w) s = .next ((s.put 0x242807 4).respond w 0 []))) ∧
  (∀ (s : State) (j : MdioJob) (v : Nat), s.isReady = true → s.line.mdio = some j →
       (j.write = false → exec (.mdioAccessDone (.ok v)) s = .next ((({ s with line := { s.line with mdio := none } } : State).put 0x242805 (v % 65536 : Nat)).put 0x242807 1)) ∧
       (j.write = true → exec (.mdioAccessDone (.ok v)) s = .next (({ s with line := { s.line with mdio := none } } : State).put 0x242807 1)) ∧
       exec (.mdioAccessDone .nack) s = .next (({ s with line := { s.line with mdio := none } } : State).put 0x242807 3) ∧
       exec (.mdioAccessDone .timeout) s = .next (({ s with line := { s.line with mdio := none } } : State).put 0x242807 3))

/-- gPTP: Sync, Follow_Up, peer delay and Announce on star ports. GPTP_SYNC_RECEIVED stamps the Sync in CT;
GPTP_FOLLOW_UP_RECEIVED makes the relation with the neighbour delay; the peer-delay request is answered, its response
gives the delay, not below 0, and its loss is counted; GPTP_ANNOUNCE_RECEIVED keeps the grandmaster; GPTP_SYNC_TIMEOUT
withdraws the offer; a serving port sends Sync with Follow_Up (counted), Announce and peer-delay requests. Rules R192,
R193, R198, R211. -/
def Obligations.GptpPorts : Prop :=
  (∀ (s : State) (p : Fin 8) (number : Fin 128) (seqNo : Nat) (fine : Fin 32) (d : Dom), s.isReady = true → s.inputIn p number = some d → s.starUp p = true →
       ∃ t, exec (.gptpSyncReceived p ⟨number, seqNo⟩ fine) s = .next t ∧ (s.ctValid = true → (t.gp p).sync = some (seqNo, s.ctAt s.clock.counter fine)) ∧
         (t.domain d).offers = true ∧ t.od = s.od) ∧
  (∀ (s : State) (p : Fin 8) (number : Fin 128) (seqNo : Nat) (origin : Int) (gm : BitVec 64) (fine : Fin 32), s.inputIn p number = none →
       exec (.gptpSyncReceived p ⟨number, seqNo⟩ fine) s = .next s ∧ exec (.gptpFollowUpReceived p ⟨number, seqNo⟩ origin) s = .next s ∧
       exec (.gptpAnnounceReceived p ⟨number, gm⟩) s = .next s) ∧
  (∀ (s : State) (p : Fin 8) (number : Fin 128) (seqNo : Nat) (origin ct : Int) (d : Dom), s.isReady = true → s.inputIn p number = some d → (s.gp p).sync = some (seqNo, ct) →
       ∃ t, exec (.gptpFollowUpReceived p ⟨number, seqNo⟩ origin) s = .next t ∧ (t.gp p).sync = none ∧
         (t.gp p).last = some (ct, origin + psToUnits (s.int (Od.key (0x2620 + p) 7))) ∧ (t.gp p).ctRef = ct ∧
         (t.gp p).domRef = origin + psToUnits (s.int (Od.key (0x2620 + p) 7)) ∧ (t.gp p).rates.length ≤ max 8 (s.gp p).rates.length) ∧
  (∀ (s : State) (p : Fin 8) (seqNo : Nat) (fine : Fin 32), s.isReady = true → s.gptpMeasures p = true → (s.star p).queue = [] → s.starFree p 68 = true →
       ∃ t, exec (.gptpPdelayReqReceived p ⟨seqNo, fine⟩) s = .next t ∧
         t.out = s.out ++ [.gptp p s.fuses.identity (.pdelayResp seqNo (s.counterStamp fine))] ∧
         (t.star p).queue = [.gptp (.pdelayRespFollowUp seqNo (s.counterStamp (s.freeNat % 32)))] ∧
         (t.star p).busyUntil = s.clock.counter + s.starTicks p 68) ∧
  (∀ (s : State) (p : Fin 8) (seqNo : Nat) (fine : Fin 32), s.isReady = true → s.clock.counter < (s.star p).busyUntil →
       (s.gptpMeasures p = true → ∃ t, exec (.gptpPdelayReqReceived p ⟨seqNo, fine⟩) s = .next t ∧ t.out = s.out ∧ t.od = s.od ∧
         .gptp (.pdelayResp seqNo (s.counterStamp fine)) ∈ (t.star p).queue) ∧
       (s.starUp p = true → s.servedValid p = true → ∃ t, exec (.gptpSyncSend p) s = .next t ∧ t.out = s.out ∧ t.od = s.od ∧
         .gptp (.sync (s.nat (Od.key (0x2620 + p) 2)) (s.gp p).seqNo) ∈ (t.star p).queue) ∧
       (s.gptpServes p = true → ∃ t, exec (.gptpAnnounceSend p) s = .next t ∧ t.out = s.out ∧ t.od = s.od ∧
         .gptp (.announce (s.nat (Od.key (0x2620 + p) 2)) (s.gp p).announceNo) ∈ (t.star p).queue) ∧
       (s.gptpMeasures p = true → ∃ t, exec (.gptpPdelayReqSend p) s = .next t ∧ t.out = s.out ∧ t.od = s.od ∧
         .gptp (.pdelayReq (s.gp p).reqNo) ∈ (t.star p).queue)) ∧
  (∀ (s : State) (p : Fin 8) (t1 t2 t3 : Int) (fine : Fin 32), s.isReady = true → (s.gp p).reqAt = some t1 →
       ∃ t, exec (.gptpPdelayRespReceived p t2 t3 fine) s = .next t ∧ (t.gp p).reqAt = none ∧
         t.int (Od.key (0x2620 + p) 7) = max 0 (unitsToPs (((((s.clock.counter * 32 + fine.val : Nat) : Int) * 65536 / 10 - t1) - (t3 - t2)) / 2))) ∧
  (∀ (s : State) (p : Fin 8) (number : Fin 128) (gm : BitVec 64) (d : Dom), s.isReady = true → s.inputIn p number = some d →
       exec (.gptpAnnounceReceived p ⟨number, gm⟩) s = .next (s.put (domSt d + 4) gm.toNat)) ∧
  (∀ (s : State) (p : Fin 8) (d : Dom), s.isReady = true → s.inputOf p = some d →
       ∃ t, exec (.gptpSyncTimeout p) s = .next t ∧ (t.domain d).offers = false ∧ (t.gp p).sync = none ∧ t.od = s.od) ∧
  (∀ (s : State) (p : Fin 8), s.isReady = true → s.starUp p = true → s.servedValid p = true → (s.star p).queue = [] → s.starFree p 58 = true →
       ∃ t, exec (.gptpSyncSend p) s = .next t ∧
         t.out = s.out ++ [.gptp p s.fuses.identity (.sync (s.nat (Od.key (0x2620 + p) 2)) (s.gp p).seqNo)] ∧
         (t.star p).queue = [.gptp (.followUp (s.nat (Od.key (0x2620 + p) 2)) (s.gp p).seqNo
           (s.baseAt (if s.int (Od.key (0x2620 + p) 1) = 1 then 0 else 1) s.clock.counter (s.freeNat % 32) + psToUnits (s.int (Od.key (0x2620 + p) 5))))] ∧
         (t.gp p).seqNo = ((s.gp p).seqNo + 1) % 65536 ∧ t.int (Od.key (0x2620 + p) 9) = min (s.int (Od.key (0x2620 + p) 9) + 1) 0xFFFFFFFF ∧
         t.int (Od.key (0x2418 + p) 8) = min (s.int (Od.key (0x2418 + p) 8) + 1) 0xFFFFFFFF) ∧
  (∀ (s : State) (p : Fin 8), s.isReady = true → s.gptpServes p = true → (s.star p).queue = [] → s.starFree p 90 = true → s.sliceWaits p = false →
       ∃ t, exec (.gptpAnnounceSend p) s = .next t ∧
         t.out = s.out ++ [.gptp p s.fuses.identity (.announce (s.nat (Od.key (0x2620 + p) 2)) (s.gp p).announceNo)] ∧ (t.star p).queue = [] ∧
         t.int (Od.key (0x2418 + p) 8) = min (s.int (Od.key (0x2418 + p) 8) + 1) 0xFFFFFFFF) ∧
  (∀ (s : State) (p : Fin 8), s.isReady = true → s.gptpMeasures p = true → (s.star p).queue = [] → s.starFree p 68 = true →
       ∃ t, exec (.gptpPdelayReqSend p) s = .next t ∧ (t.gp p).reqAt = some (s.counterStamp (s.freeNat % 32)) ∧
         t.out = s.out ++ [.gptp p s.fuses.identity (.pdelayReq (s.gp p).reqNo)] ∧ (t.gp p).reqNo = ((s.gp p).reqNo + 1) % 65536) ∧
  (∀ (s : State) (p : Fin 8), s.isReady = true →
       ∃ t, exec (.peerDelayFailure p) s = .next t ∧ (t.gp p).reqAt = none ∧ (t.gp p).failed = true ∧
         t.int (Od.key (0x2620 + p) 0x0A) = min (s.int (Od.key (0x2620 + p) 0x0A) + 1) 0xFFFFFFFF)

/-- Relations, domain states, the NT switch and the host time snapshot. DOMAIN_RELATION_STALE takes a valid domain to
holdover after 4 flights; DOMAIN_ABSENT ends a domain without a gateway, and NT with it; RELATION_WRITE from the
gateway makes the domain valid and counts; SELECTION_REQUEST at the lead announces a switch 3 flights on;
NT_SWITCH_ANNOUNCE keeps one that is not past; NT_SWITCH_INSTANT follows the new domain with a slew; NT_SLEW_END ends
and counts it; NT_FALLBACK announces the other domain; TM_SNAP keeps CT, NT and the counter of one instant. Rules
R194, R195, R196, R201. -/
def Obligations.DomainsAndNetworkTime : Prop :=
  (∀ (s : State) (d : Dom), s.isReady = true → s.int (domSt d + 1) = 1 → 4 < s.int (domSt d + 7) →
       exec (.domainRelationStale d) s = .next ((s.put (domSt d + 1) 2).raise (111 + domNo d) 2 0 0)) ∧
  (∀ (s : State) (d : Dom), s.isReady = true → 64 ≤ (s.domain d).orphan → s.int (domSt d + 1) ≠ 0 → s.clock.ntDom = some d →
       ∃ t, exec (.domainAbsent d) s = .next t ∧ t.int (domSt d + 1) = 0 ∧ t.int 0x261901 = 0 ∧ t.clock.ntDom = none ∧ t.clock.ntSlewing = false) ∧
  (∀ (s : State) (d : Dom) (origin : BitVec 64) (ref : Int) (rel : List Byte), s.isReady = true →
       s.nodeOpen origin.toNat = true ∨ origin.toNat = s.fuses.identity → s.int (domSt d + 3) = origin.toNat → rel.length = 14 →
       ∃ t, exec (.relationWrite d origin ref rel) s = .next t ∧ t.int (domSt d + 5) = ref ∧ t.int (domSt d + 7) = 0 ∧ t.int (domSt d + 1) = 1 ∧
         t.int (domSt d + 8) = min (s.int (domSt d + 8) + 1) 0xFFFFFFFF ∧ (t.domain d).fresh = true ∧ (t.domain d).known = true) ∧
  (∀ (s : State) (w : Writer) (v : Byte), s.admits w 0x261805 [v] → s.isLead = true →
       ∃ t, exec (.selectionRequest w v) s = .next t ∧
         t.clock = { s.clock with ntNext := some (if v = 2 then .tb else .ta, s.clock.flightStart + 3 * 64 * s.passageLen * 65536), ntSigma := s.nat 0x261802 }) ∧
  (∀ (s : State) (d : Dom) (tsw : Int) (sigma : Nat), s.isReady = true → s.ctNow ≤ tsw → s.clock.ntDom ≠ some d ∨ s.clock.ntNext ≠ none →
       exec (.ntSwitchAnnounce d tsw sigma) s = .next { s with clock := { s.clock with ntNext := some (d, tsw), ntSigma := sigma } }) ∧
  (∀ (s : State) (d : Dom) (tsw : Int) (sigma : Nat), s.isReady = true → s.clock.ntDom = some d → s.clock.ntNext = none →
       ∃ t, exec (.ntSwitchAnnounce d tsw sigma) s = .next t ∧ t.clock.ntSel = some d ∧ t.clock.ntNext = none ∧ t.clock.ntDom = some d ∧ t.od = s.od) ∧
  (∀ (s : State) (d : Dom) (tsw : Int), s.isReady = true → s.clock.ntNext = some (d, tsw) →
       ∃ t, exec .ntSwitchInstant s = .next t ∧ t.clock.ntNext = none ∧ t.clock.ntDom = some d ∧ t.clock.ntTsw = tsw ∧
         t.clock.ntSlewing = true ∧ t.clock.ntSel = some d ∧ t.int 0x261903 = tsw ∧ t.int 0x261901 = ntCode d true) ∧
  (∀ (s : State) (d : Dom), s.isReady = true → s.clock.ntDom = some d → s.clock.ntSlewing = true → s.slewAt s.ctNow = 0 →
       ∃ t, exec .ntSlewEnd s = .next t ∧ t.int 0x261901 = ntCode d false ∧
         t.clock = { s.clock with ntSlewing := false, ntS0 := 0, ntCounted := true, nt := (s.domain d).view } ∧
         t.int 0x261904 = (if s.clock.ntCounted then s.int 0x261904 else min (s.int 0x261904 + 1) 0xFFFFFFFF)) ∧
  (∀ (s : State) (d : Dom), s.isReady = true → s.isLead = true → s.int 0x261803 = 1 → s.clock.ntDom = some d → s.int (domSt d + 1) ≠ 1 →
       s.int (domSt (otherDom d) + 1) = 1 →
       ∃ t, exec .ntFallback s = .next t ∧ t.clock.ntNext = some (otherDom d, s.clock.flightStart + 3 * 64 * s.passageLen * 65536) ∧ t.clock.ntSigma = s.nat 0x261802 ∧
         t.clock.ntDom = some d ∧ t.int 0x261901 = s.int 0x261901) ∧
  (∀ (s : State), s.hostServed = true → s.ctValid = true →
       ∃ t, exec (.tmSnap 1) s = .next t ∧ t.clock.snapCt = s.ctNow ∧ t.clock.snapNt = (if s.ntValid then s.ntNow else 0) ∧
         t.clock.snapCounter = s.clock.counter ∧ t.clock.ct = s.clock.ct ∧ t.clock.counter = s.clock.counter ∧ t.od = s.od)

/-- Time pulses are armed, fire and end; captures are stamped, latched and removed. ARM takes an instant far enough ahead;
TIME_PULSE_EDGE drives the pin, counts and ends a one-shot; TIME_PULSE_END ends it, the others unchanged;
TIME_CAPTURE_EDGE appends a stamped entry, and is latched while TIME does not run; REMOVE_OLDEST removes the oldest
entry. Rules R203, R204, R205, R213. -/
def Obligations.PulsesAndCaptures : Prop :=
  (∀ (s : State) (w : Writer) (i : Fin 12) (data : List Byte) (x : Int), s.admits w (Od.key (0x2630 + i) 0x0A) data →
       written (Od.key (0x2630 + i) 0x0A) data = .num x → s.int (Od.key (0x2630 + i) 1) ≠ 0 → s.int (Od.key (0x2630 + i) 2) = 0 →
       s.int (Od.key (0x2630 + i) 0x13) = 0 → s.baseValid (s.int (Od.key (0x2630 + i) 3)) = true → s.pulseNow i + 65536000 ≤ x →
       ∃ t, exec (.arm w i data) s = .next t ∧ t.clock = (s.setPulse i { s.pulse i with next := some x }).clock ∧ (t.pulse i).next = some x ∧
         t.int (Od.key (0x2630 + i) 0x10) = 1) ∧
  (∀ (s : State) (i : Fin 12) (x : Int), s.isReady = true → (s.pulse i).next = some x → s.baseValid (s.int (Od.key (0x2630 + i) 3)) = true →
       s.int (Od.key (0x2630 + i) 2) = 0 →
       ∃ t, exec (.timePulseEdge i) s = .next t ∧ (t.pulse i).high = true ∧ (t.pulse i).next = none ∧
         t.int (Od.key (0x2630 + i) 0x10) = 3 ∧ t.int (Od.key (0x2630 + i) 0x11) = min (s.int (Od.key (0x2630 + i) 0x11) + 1) 0xFFFFFFFF) ∧
  (∀ (s : State) (i : Fin 12), s.isReady = true →
       ∃ t, exec (.timePulseEnd i) s = .next t ∧ t.pulse i = { s.pulse i with high := false } ∧ (∀ j : Nat, j ≠ i → t.pulse j = s.pulse j) ∧ t.od = s.od) ∧
  (∀ (s : State) (c : Fin 4) (rising : Bool) (fine : Fin 32), s.clock.running = true → s.inStep = false →
       s.int (Od.key (0x2650 + c) 1) ≠ 0 → s.int (Od.key (0x2650 + c) 2) = 3 → s.baseValid (s.int (Od.key (0x2650 + c) 3)) = true → (s.fifo c).length < 16 →
       ∃ t, exec (.timeCaptureEdge c rising fine) s = .next t ∧
         t.fifo c = s.fifo c ++ [{ stamp := s.baseAt (s.int (Od.key (0x2650 + c) 3)) s.clock.counter fine - psToUnits (s.int (Od.key (0x2650 + c) 4)), rising := rising, invalid := false }] ∧
         t.int (Od.key (0x2650 + c) 0x15) = min (s.int (Od.key (0x2650 + c) 0x15) + 1) 0xFFFFFFFF) ∧
  (∀ (s : State) (c : Fin 4) (rising : Bool) (fine : Fin 32), s.clock.running = false →
       exec (.timeCaptureEdge c rising fine) s = .next { s with
         power := { s.power with captureLatch := s.power.captureLatch ||| BitVec.ofNat 4 (2 ^ c.val) } }) ∧
  (∀ (s : State) (w : Writer) (c : Fin 4) (v : Byte), s.admits w (Od.key (0x2650 + c) 0x13) [v] →
       exec (.removeOldest w c v) s = .next ((s.setFifo c (s.fifo c).tail).respond w 0 []))

/-- POR release, VAON and POR_N, the boot to READY and the release of a reset. POR_RELEASE of a reset of cause 1 or 8
begins the boot with the straps and CLAIM_EN sampled, the cause recorded and counted and the power cycle counted;
VAON_RISE starts the AON domain; VAON_LOSS ends everything but what MRAM holds; POR_N_LOW resets with cause 1.
BOOT_IMAGE_VERIFIED takes the image and the time, or ends without an image; READY starts TIME, the MRAM unchanged;
RESET_RELEASE begins the boot after a reset of another cause, records and counts it without a power cycle, and opens
the claim window of a release by CLAIM_EN. Rules R503, R506, R514, R516. -/
def Obligations.PowerOnReachesReady : Prop :=
  (∀ (s : State) (hs : BitVec 2) (ce : Bool), s.power.phase = .reset → s.power.cause = 1 ∨ s.power.cause = 8 →
       ∃ t, exec (.porRelease hs ce) s = .next t ∧ t.power.phase = .booting ∧ t.power.cause = s.power.cause ∧ t.power.hostSel = hs ∧
         t.power.claimEn = ce ∧ t.trust.windowPin = ce ∧ t.trust.windowRole = false ∧ t.int 0x210201 = s.power.cause ∧
         t.int (0x210201 + s.power.cause) = min (s.int (0x210201 + s.power.cause) + 1) 0xFFFFFFFF ∧
         t.int 0x200102 = min (s.int 0x200102 + 1) 0xFFFFFFFF) ∧
  (∀ (s : State) (porN : Bool), s.power.phase = .off →
       ∃ t, exec (.vaonRise porN) s = .next t ∧ t.power.phase = .moored ∧ t.power.powerUp = true ∧ t.power.porN = porN ∧
         t.power.inh = porN ∧ t.wake.accepted = (if porN then some (0, 0) else none) ∧
         t.power.islands.getLsbD 0 = true ∧ t.power.islands.getLsbD 29 = true) ∧
  (∀ (s : State), ∃ t, exec .vaonLoss s = .next t ∧ t.power.phase = .off ∧ t.power.islands = 0 ∧ t.power.inh = false ∧
       t.od = s.mram.load ∧ t.mram = s.mram ∧ t.wake = {} ∧ t.fio = {}) ∧
  (∀ (s : State), s.power.phase ≠ .off →
       ∃ t, exec .porNLow s = .next t ∧ t.power.phase = .reset ∧ t.power.cause = 1 ∧ t.power.porN = false ∧ t.od = s.mram.load ∧
         t.mram = s.mram ∧ t.wake = {} ∧ t.fio = {}) ∧
  (∀ (s : State) (image : Fin 3) (micros : Nat), s.power.phase = .booting → s.power.refFault = false → image ≠ 0 →
       ∃ t, exec (.bootImageVerified image micros) s = .next t ∧ t.power.phase = .verified ∧ t.int 0x314006 = image.val ∧
         t.int 0x210301 = image.val ∧ t.int 0x210302 = micros) ∧
  (∀ (s : State) (micros : Nat), s.power.phase = .booting → s.power.refFault = false →
       exec (.bootImageVerified 0 micros) s = .next { s with power := { s.power with phase := .noImage } }) ∧
  (∀ (s : State) (micros : Nat), s.power.phase = .verified →
       ∃ t, exec (.ready micros) s = .next t ∧ t.power.phase = .ready ∧ t.clock.running = true ∧ t.mram = s.mram) ∧
  (∀ (s : State) (ce : Bool), s.power.phase = .reset → 2 ≤ s.power.cause → s.power.cause ≤ 7 ∨ s.power.cause = 9 →
       ∃ t, exec (.resetRelease ce) s = .next t ∧ t.power.phase = .booting ∧ t.power.cause = s.power.cause ∧
         t.int 0x210201 = s.power.cause ∧
         t.int (0x210201 + s.power.cause) = min (s.int (0x210201 + s.power.cause) + 1) 0xFFFFFFFF ∧
         t.int 0x200102 = s.int 0x200102 ∧ t.trust.released = false ∧
         t.trust.windowPin = (if s.power.cause = 7 ∧ s.trust.released then ce else s.trust.windowPin))

/-- Resets take their cause, and a logic reset leaves what it must. WARM_RESET, WATCHDOG_EXPIRY, an unlocked DEBUG_RESET
and REFERENCE_LOSS_RESET reset with causes 2, 5, 9 and 4, and in a reset the lower cause stays; SAFETY_MONITOR_FAULT,
a second LOCKSTEP_ERROR within 1 s, RAIL_FAILURE and RESET_REQUEST reset with causes 6, 6, 3 and 7; a first
LOCKSTEP_ERROR is noted. A logic reset leaves MRAM, the fuses, the wake unit, the field die's channels, the first
records and the neighbour cache, loads the dictionary from MRAM and empties the rest. Rules R504, R513, R514, R515. -/
def Obligations.ResetsTakeTheirCause : Prop :=
  (∀ (s : State), s.power.phase = .booting ∨ s.power.phase = .verified ∨ s.power.phase = .noImage ∨ s.power.phase = .ready →
       exec .warmReset s = .next (s.logicReset 2) ∧ exec .watchdogExpiry s = .next (s.logicReset 5)) ∧
  (∀ (s : State), s.power.phase = .booting ∨ s.power.phase = .verified ∨ s.power.phase = .noImage ∨ s.power.phase = .ready →
       s.fuses.debugClosed = false → s.int 0x310001 ≠ 1 ∨ s.trust.debugUnlocked = true →
       exec .debugReset s = .next (s.logicReset 9)) ∧
  (∀ (s : State), s.power.phase = .booting ∨ s.power.phase = .verified ∨ s.power.phase = .noImage ∨ s.power.phase = .ready →
       s.power.refFault = true → exec .referenceLossReset s = .next (s.logicReset 4)) ∧
  (∀ (s : State), s.power.phase = .reset →
       exec .warmReset s = .next { s with power := { s.power with cause := min s.power.cause 2 } } ∧
       exec .watchdogExpiry s = .next { s with power := { s.power with cause := min s.power.cause 5 } }) ∧
  (∀ (s : State) (kind : Fin 4) (inst : Nat), s.power.phase = .ready →
       ∃ t, exec (.safetyMonitorFault kind inst) s = .next t ∧ t.power.phase = .reset ∧ t.power.cause = 6 ∧ t.od = s.mram.load ∧
         t.mram = s.mram ∧ t.dict = {} ∧ t.gate = {} ∧ t.fio.link = false) ∧
  (∀ (s : State) (pair : Fin 8) (c : Nat), s.power.phase = .ready → Tab.find? s.power.lockstep pair = some c →
       s.clock.counter < c + 312500000 →
       ∃ t, exec (.lockstepError pair) s = .next t ∧ t.power.phase = .reset ∧ t.power.cause = 6 ∧ t.od = s.mram.load) ∧
  (∀ (s : State) (pair : Fin 8), s.power.phase = .ready → Tab.find? s.power.lockstep pair = none →
       exec (.lockstepError pair) s = .next { s with
         pair := { s.pair with lockstep := true },
         power := { s.power with lockstep := Tab.insert s.power.lockstep pair s.clock.counter } }) ∧
  (∀ (s : State) (r : Fin 6) (mv : Nat), s.power.phase = .ready →
       ∃ t, exec (.railFailure r mv) s = .next t ∧ t.power.phase = .reset ∧ t.power.cause = 3 ∧ t.od = t.mram.load ∧
         t.mram.config0 = s.mram.config0 ∧ t.mram.config1 = s.mram.config1 ∧ t.dict = {} ∧ t.fio.link = false) ∧
  (∀ (s : State) (w : Writer) (v : Byte), s.admits w 0x21020B [v] →
       ∃ t, exec (.resetRequest w v) s = .next t ∧ t.power.phase = .reset ∧ t.power.cause = 7 ∧ t.od = s.mram.load ∧
         t.mram = s.mram ∧ t.dict = {} ∧ t.gate = {} ∧ t.fio.link = false) ∧
  (∀ (s : State) (c : Nat),
       (s.logicReset c).power.phase = .reset ∧ (s.logicReset c).power.cause = c ∧ (s.logicReset c).pending = s.pending ∧
       (s.logicReset c).out = s.out ∧ (s.logicReset c).mram = s.mram ∧ (s.logicReset c).fuses = s.fuses ∧
       (s.logicReset c).od = s.mram.load ∧ (s.logicReset c).dict = {} ∧ (s.logicReset c).clock = {} ∧ (s.logicReset c).mu = {} ∧
       (s.logicReset c).line = {} ∧ (s.logicReset c).host = {} ∧ (s.logicReset c).gate = {} ∧ (s.logicReset c).video = {} ∧
       (s.logicReset c).slices = {} ∧ (s.logicReset c).lock = {} ∧ (s.logicReset c).wake = s.wake ∧
       (s.logicReset c).fio = { s.fio with link := false, preparing := false } ∧
       (s.logicReset c).log.perm = s.log.perm ∧ (s.logicReset c).trust.sessions = [] ∧ (s.logicReset c).trust.cache = s.trust.cache)

/-- Rails, AVS, temperatures, islands, the reference and the scrubbing of memories. RAIL_WARNING reports the value and its
flags; AVS_STEP moves the set point by at most 5 mV within 720 to 900 with its limits; TEMPERATURE_SAMPLE keeps the
extremes and counts a warning; ISLAND_RESTART starts and counts an island; REFERENCE_FAULT and REFERENCE_RECOVERED
report the reference, a lasting fault losing CT, and a fault does nothing without supply or in MOORED. SRAM_SCRUB
counts, notes an uncorrectable error or resets with cause 6; SCRUB_REQUEST and MRAM_SCRUB_START start the scrub;
MRAM_SCRUB_CHUNK goes on by 64 KiB, counts a corrected word, and ends at 8,192. Rules R504, R505, R509, R513, R518,
R519, R537. -/
def Obligations.SuppliesAndMemoriesAreWatched : Prop :=
  (∀ (s : State) (r : Fin 7) (mv : Nat), s.isReady = true →
       ∃ t, exec (.railWarning r mv) s = .next t ∧ t.int (Od.key (0x2108 + r) 1) = mv ∧
         t.int (Od.key (0x2108 + r) 4) = s.int (Od.key (0x2108 + r) 4) / 4 * 4 +
           (if (mv : Int) < s.int (Od.key (0x2108 + r) 2) then 1 else 0) + (if s.int (Od.key (0x2108 + r) 3) < mv then 2 else 0) ∧
         t.power = s.power ∧ t.mram = s.mram) ∧
  (∀ (s : State) (target measured : Nat), s.isReady = true → 720 ≤ s.int 0x210101 → s.int 0x210101 ≤ 900 →
       ∃ t, exec (.avsStep target measured) s = .next t ∧ t.int 0x210102 = measured ∧
         720 ≤ t.int 0x210101 ∧ t.int 0x210101 ≤ 900 ∧ t.int 0x210101 ≤ s.int 0x210101 + 5 ∧ s.int 0x210101 ≤ t.int 0x210101 + 5 ∧
         (720 ≤ (target : Int) → (target : Int) ≤ 900 → s.int 0x210101 ≤ target + 5 → (target : Int) ≤ s.int 0x210101 + 5 →
           t.int 0x210101 = target) ∧
         t.int 0x210802 = t.int 0x210101 * 97 / 100 ∧ t.int 0x210803 = t.int 0x210101 * 103 / 100 ∧
         t.int 0x210A02 = t.int 0x210101 * 97 / 100 ∧ t.int 0x210A03 = t.int 0x210101 * 103 / 100 ∧ t.power = s.power) ∧
  (∀ (s : State) (x : Fin 8) (v : Int), s.isReady = true → s.int (Od.key (0x2110 + x) 5) = 0 → s.int (Od.key (0x2110 + x) 4) < v → v ≤ 1500 →
       ∃ t, exec (.temperatureSample x v) s = .next t ∧ t.int (Od.key (0x2110 + x) 1) = v ∧
         t.int (Od.key (0x2110 + x) 2) = min v (s.int (Od.key (0x2110 + x) 2)) ∧
         t.int (Od.key (0x2110 + x) 3) = max v (s.int (Od.key (0x2110 + x) 3)) ∧ t.int (Od.key (0x2110 + x) 5) = 1 ∧
         t.int (Od.key (0x2110 + x) 6) = min (s.int (Od.key (0x2110 + x) 6) + 1) 0xFFFFFFFF ∧ t.power = s.power ∧ t.mram = s.mram) ∧
  (∀ (s : State) (i : Fin 30), s.isReady = true → s.power.islands.getLsbD i = false →
       ∃ t, exec (.islandRestart i) s = .next t ∧ t.power.islands = s.power.islands ||| BitVec.ofNat 30 (2 ^ i.val) ∧
         t.int (Od.key (0x2120 + i) 4) = min (s.int (Od.key (0x2120 + i) 4) + 1) 0xFFFFFFFF) ∧
  (∀ (s : State), s.power.phase ≠ .off → s.power.phase ≠ .moored → s.power.refFault = false →
       ∃ t, exec (.referenceFault false) s = .next t ∧ t.power.refFault = true ∧ t.int 0x210401 = 2 ∧
         t.int 0x210403 = min (s.int 0x210403 + 1) 0xFFFFFFFF ∧ t.clock = s.clock ∧ t.mu = s.mu) ∧
  (∀ (s : State), s.power.phase ≠ .off → s.power.phase ≠ .moored → s.power.refFault = true → s.timeState ≠ 4 → s.timeState ≠ 0 →
       ∃ t, exec (.referenceFault true) s = .next t ∧ t.int 0x260001 = 4 ∧ t.int 0x26000D = 0 ∧
         t.int 0x260009 = min (s.int 0x260009 + 1) 0xFFFFFFFF ∧ t.mu.passive = true ∧ t.mu.integrated = false) ∧
  (∀ (s : State) (lasting : Bool), s.power.phase = .off ∨ s.power.phase = .moored → exec (.referenceFault lasting) s = .next s) ∧
  (∀ (s : State), s.power.refFault = true →
       ∃ t, exec .referenceRecovered s = .next t ∧ t.power = { s.power with refFault := false } ∧ t.int 0x210401 = 1 ∧
         (∀ k : Nat, k ≠ 0x210401 → t.int k = s.int k)) ∧
  (∀ (s : State) (corrected uncorrectable : Nat) (lost : SramData), s.isReady = true →
       ∃ t, exec (.sramScrub corrected uncorrectable ⟨false, lost⟩) s = .next t ∧ t.power = s.power ∧
         t.pair.ecc = (s.pair.ecc || decide (uncorrectable ≠ 0)) ∧ (corrected = 1 → uncorrectable = 0 →
           t.int 0x210507 = min (s.int 0x210507 + 1) 0xFFFFFFFF)) ∧
  (∀ (s : State) (corrected uncorrectable : Nat) (lost : SramData), s.isReady = true → uncorrectable ≠ 0 →
       ∃ t, exec (.sramScrub corrected uncorrectable ⟨true, lost⟩) s = .next t ∧ t.power.phase = .reset ∧ t.power.cause = 6 ∧ t.od = s.mram.load) ∧
  (∀ (s : State) (stream inst frame index : Nat), s.isReady = true →
       ∃ t, exec (.sramScrub 0 1 ⟨false, .slice stream inst frame index⟩) s = .next t ∧
         t.int 0x2C000A = min (s.int 0x2C000A + 1) 0xFFFFFFFF ∧ t.int 0x210508 = min (s.int 0x210508 + 1) 0xFFFFFFFF ∧
         (∀ x ∈ t.slices.incoming, ¬ (x.h.stream = stream ∧ x.h.instanceNo = inst ∧ x.h.frame.toNat = frame ∧ x.h.index = index))) ∧
  (∀ (s : State) (w : Writer) (v : Byte), s.admits w 0x210505 [v] → s.power.scrubbing = false →
       ∃ t, exec (.scrubRequest w v) s = .next t ∧ t.power = { s.power with scrubbing := true } ∧ t.mram = s.mram) ∧
  (∀ (s : State), s.isReady = true → s.int 0x210501 ≤ s.int 0x210502 → s.power.scrubbing = false →
       ∃ t, exec .mramScrubStart s = .next t ∧ t.power = { s.power with scrubbing := true } ∧ t.int 0x3F0701 = 1 ∧ t.mram = s.mram) ∧
  (∀ (s : State), s.isReady = true → s.power.scrubbing = true → s.int 0x210506 + 64 < 8192 →
       ∃ t, exec (.mramScrubChunk 0 []) s = .next t ∧ t.int 0x210506 = s.int 0x210506 + 64 ∧ t.power = s.power ∧
         t.int 0x3F0703 = s.int 0x210506 + 64) ∧
  (∀ (s : State), s.isReady = true → s.power.scrubbing = true → s.int 0x210506 + 64 < 8192 →
       ∃ t, exec (.mramScrubChunk 1 []) s = .next t ∧ t.int 0x210503 = min (s.int 0x210503 + 1) 0xFFFFFFFF ∧ t.int 0x210506 = s.int 0x210506 + 64 ∧ t.power = s.power) ∧
  (∀ (s : State), s.isReady = true → s.power.scrubbing = true → 8192 ≤ s.int 0x210506 + 64 →
       ∃ t, exec (.mramScrubChunk 0 []) s = .next t ∧ t.int 0x210506 = 0 ∧ t.int 0x210502 = 0 ∧ t.power = { s.power with scrubbing := false } ∧
         t.int 0x3F0701 = 2)

/-- Commit, discard and the storing of the configuration. COMMIT takes the staging copy and counts, and goes on to
storing, or is refused with the first failing check's reason; DISCARD empties the staging copy; COMMIT_STORE_DONE does
nothing out of state 2, fails with reason 0x13 where the MRAM takes no store, and otherwise waits for the application
flight with the new generation in force; STAGING_IDLE_TIMEOUT discards and counts a copy held, not one in a commit;
STORED_ENTRY_WRITE stores the stored entries as a new valid copy, or nothing where the MRAM takes none. Rules R352,
R353, R354. -/
def Obligations.CommitsAreChecked : Prop :=
  (∀ (s u : State) (w : Writer), s.admits w 0x201001 [1] →
       u = ((({ s with dict := { s.dict with holder := some w } } : State).bump 0x201003).put 0x201002 1).opStart 1 18 →
       ∃ t, exec (.commit w) s = .next t ∧ t.dict.staging = s.dict.staging ∧ t.dict.holder = some w ∧
         t.int 0x201003 = min (s.int 0x201003 + 1) 0xFFFFFFFF ∧ (u.commitFault = none → t.int 0x201002 = 2) ∧
         (∀ (c : Nat) (f : Nat × Nat), u.commitFault = some (c, f) → t.int 0x201002 = 5 ∧ t.int 0x201101 = c)) ∧
  (∀ (s : State) (w : Writer), s.admits w 0x201001 [2] →
       exec (.discard w) s = .next (({ s with dict := { s.dict with staging := [], holder := none }, trust := { s.trust with bundleSeq := none } } : State).respond w 0 [])) ∧
  (∀ (s : State), s.int 0x201002 ≠ 2 → exec .commitStoreDone s = .next s) ∧
  (∀ (s : State), s.isReady = true → s.storesRun = true → s.int 0x201002 = 2 → s.mram.storeFails = true → s.dict.holder ≠ none →
       ∃ t, exec .commitStoreDone s = .next t ∧ t.int 0x201002 = 5 ∧ t.int 0x201101 = 0x13 ∧ t.dict.staging = s.dict.staging ∧ t.mram = s.mram) ∧
  (∀ (s : State), s.isReady = true → s.storesRun = true → s.int 0x201002 = 2 → s.mram.storeFails = false → s.isRunning = true → s.dict.staging.any (fun e => isInstallation e.1) = false →
       ∃ t, exec .commitStoreDone s = .next t ∧ t.int 0x201002 = 3 ∧ t.int 0x201004 = s.commitFlight ∧ t.dict.staging = s.dict.staging ∧ t.mram.stored0 = s.mram.stored0 ∧
         t.mram.stored1 = s.mram.stored1 ∧ (∃ c, inForce t.mram.config0 t.mram.config1 = some c ∧ t.int 0x201008 = c.generation)) ∧
  (∀ (s : State), s.isReady = true → s.committing = false → s.dict.holder ≠ none →
       ∃ t, exec .stagingIdleTimeout s = .next t ∧ t.dict.staging = [] ∧ t.dict.holder = none ∧ t.trust.bundleSeq = none ∧
         t.int 0x201009 = min (s.int 0x201009 + 1) 0xFFFFFFFF) ∧
  (∀ (s : State), s.committing = true ∨ s.dict.holder = none → exec .stagingIdleTimeout s = .next s) ∧
  (∀ (s : State), s.isReady = true → s.storesRun = true → s.mram.storeFails = false →
       ∃ t c, exec .storedEntryWrite s = .next t ∧ inForce t.mram.stored0 t.mram.stored1 = some c ∧ c.data = ofPers s.od .stored ∧ c.valid = true ∧
         t.mram.config0 = s.mram.config0 ∧ t.mram.config1 = s.mram.config1 ∧ t.od = s.od) ∧
  (∀ (s : State), s.mram.storeFails = true → exec .storedEntryWrite s = .next s)

/-- Writes and reads of entries, BAR0 registers, segments, cancels and QUIET. REGISTER_WRITE and COUNTER_CLEAR of an entry
without an action write it, or answer the first failing check's status; a BAR0 write without all byte enables is
ignored and counted, and one before BAR0 is up does nothing; DICT_READ answers the value or the check's status;
SEGMENT_TIMEOUT drops the segments (of an image load, which fails); OPERATION_CANCEL is refused for operations without
one and ends an image load as cancelled; QUIET_REQUEST waits for the boundary in RUNNING and otherwise acts at once.
Rules R49, R346, R347, R348, R364, R506. -/
def Obligations.EntriesAreWritten : Prop :=
  (∀ (s : State) (a : Access) (data : List Byte), s.admits a.writer (Od.key a.index a.sub) data → s.action a.writer (Od.key a.index a.sub) data = none →
       s.plainStatus (Od.key a.index a.sub) = 0 → s.power.resetDue = none →
       exec (.counterClear a data) s = .next ((s.plainWrite a.writer (Od.key a.index a.sub) (written (Od.key a.index a.sub) data)).respond a.writer 0 []) ∧
       (Od.key a.index a.sub ≠ 0x312001 →
         exec (.registerWrite (.entry a data)) s = .next (((s.plainWrite a.writer (Od.key a.index a.sub) (written (Od.key a.index a.sub) data)).dropSegments
           (Od.key a.index a.sub)).respond a.writer 0 []))) ∧
  (∀ (s : State) (a : Access) (data : List Byte), s.isReady = true → s.sdoClosed a.writer = false → s.inStep = false → s.writeStatus a.writer (Od.key a.index a.sub) data ≠ 0 →
       s.power.resetDue = none → Od.key a.index a.sub ≠ 0x312001 →
       exec (.counterClear a data) s = .next (s.respond a.writer (s.writeStatus a.writer (Od.key a.index a.sub) data) []) ∧
       exec (.registerWrite (.entry a data)) s = .next (s.respond a.writer (s.writeStatus a.writer (Od.key a.index a.sub) data) [])) ∧
  (∀ (s : State) (o : Nat) (e : BitVec 4) (v : Word32), s.bar0Up = true →
       (e ≠ 0xF → exec (.registerWrite (.bar0 o e v)) s = .next s.hostIgnored) ∧
       exec (.registerWrite (.bar0 0x018 0xF v)) s = .next { s with host := { s.host with scratch := v.toNat } } ∧
       exec (.registerWrite (.bar0 0x020 0xF v)) s = .next { s with host := { s.host with mbLen := v.toNat } }) ∧
  (∀ (s : State) (o : Nat) (e : BitVec 4) (v : Word32), s.bar0Up = false → exec (.registerWrite (.bar0 o e v)) s = .next s) ∧
  (∀ (s : State) (w : Writer) (i sub : Nat), s.isReady = true → s.sdoClosed w = false →
       exec (.dictRead w (.entry i sub)) s = .next (if s.readStatus w (Od.key i sub) ≠ 0 then s.respond w (s.readStatus w (Od.key i sub)) []
         else s.respond w 0 (valueBytes (Od.key i sub) (s.readValue w.path (Od.key i sub))))) ∧
  (∀ (s : State) (w : Writer), s.bar0Up = true →
       exec (.dictRead w (.bar0 0)) s = .next (s.emit (.response .host 0 (le 4 0x0960A1B0))) ∧
       exec (.dictRead w (.bar0 0x018)) s = .next (s.emit (.response .host 0 (le 4 s.host.scratch)))) ∧
  (∀ (s : State) (a : Access), s.isReady = true → Od.key a.index a.sub ≠ 0x314001 →
       exec (.segmentTimeout a true) s = .next { s with dict := { s.dict with segWrites := s.dict.segWrites.filter (fun x => !(decide (x.writer = a.writer) && decide (x.key = Od.key a.index a.sub))) } } ∧
       exec (.segmentTimeout a false) s = .next { s with dict := { s.dict with snapshots := s.dict.snapshots.filter (fun x => !(decide (x.writer = a.writer) && decide (x.key = Od.key a.index a.sub))) } }) ∧
  (∀ (s : State) (a : Access), s.isReady = true → Od.key a.index a.sub = 0x314001 → s.opRunning 2 = true →
       s.dict.segWrites.any (fun x => decide (x.writer = a.writer) && decide (x.key = Od.key a.index a.sub)) = true →
       ∃ t, exec (.segmentTimeout a true) s = .next t ∧ t.int 0x3F0201 = 3 ∧ t.dict.segWrites = s.dict.segWrites.filter (fun x => !(decide (x.writer = a.writer) && decide (x.key = Od.key a.index a.sub)))) ∧
  (∀ (s : State) (w : Writer) (k : Fin 7) (v : Byte), s.admits w (Od.key (0x3F01 + k) 0x0A) [v] →
       (k ≠ 1 → k ≠ 4 → exec (.operationCancel w k v) s = .next (s.respond w 9 [])) ∧
       (k = 1 ∨ k = 4 → s.opRunning (k + 1) = false → exec (.operationCancel w k v) s = .next (s.respond w 0 []))) ∧
  (∀ (s : State) (w : Writer) (v : Byte), s.admits w 0x3F020A [v] → s.opRunning 2 = true →
       ∃ t, exec (.operationCancel w 1 v) s = .next t ∧ t.int 0x3F0201 = 4 ∧ t.dict.segWrites = s.dict.segWrites.filter (fun x => decide (x.key ≠ 0x314001))) ∧
  (∀ (s : State) (w : Writer) (v : Byte), s.admits w 0x210003 [v] → s.isRunning = true →
       exec (.quietRequest w v) s = .next (((s.put 0x210003 v.toNat).put 0x210002 v.toNat).respond w 0 [])) ∧
  (∀ (s : State) (w : Writer), s.admits w 0x210003 [1] → s.isRunning = false → s.int 0x210001 = 0 →
       ∃ t, exec (.quietRequest w 1) s = .next t ∧ t.int 0x210001 = 1 ∧ t.int 0x210002 = 1 ∧ (∀ n : Fin 8, t.camState n = 0) ∧ (∀ d : Fin 2, t.dispState d = 0))

/-- Relays, bundles, sessions, the mailbox GO, MGMT frames and their timeouts. RELAY_REQUEST is sent to a reachable device
and answered 0x11 otherwise; BUNDLE answers the first failing check, and stages and ends its operation where all pass;
SESSION_REQUEST without its session is dropped, and with it takes the numbers on; GO keeps the first chunk of a longer
request, and does nothing while BAR0 is not up; MGMT_FRAME_RECEIVED starts a reassembly, and does nothing for another
device; the reassembly, response and SDO timeouts drop what waits, the response timeout with 0x10, the SDO timeout
with an abort. Rules R320, R334, R357, R359, R360, R405. -/
def Obligations.MessagesCarryAccesses : Prop :=
  (∀ (s : State) (w : Writer) (data : List Byte) (d : Nat), s.admits w 0x201802 data → d = Tab.get 0 s.dict.relayDest (pathNo w.path) →
       (s.reachable d = true → ∃ t, exec (.relayRequest w data) s = .next t ∧ .mgmt d 0 0 data ∈ t.out ∧
         t.dict.mgmtNext = (s.dict.mgmtNext + 1) % 2 ^ 32 ∧ t.dict.relayReply = Tab.erase s.dict.relayReply (pathNo w.path) ∧
         t.dict.awaiting = s.dict.awaiting ++ [(d, w.path)] ∧ t.dict.staging = s.dict.staging) ∧
       (s.reachable d = false → exec (.relayRequest w data) s = .next (({ s with dict := { s.dict with relayReply := Tab.set [] s.dict.relayReply (pathNo w.path) [0x11] } } : State).respond w 0 []))) ∧
  (∀ (s : State) (w : Writer) (b : BundleObj), s.isReady = true →
       (s.writeStatus w 0x315001 [] ≠ 0 → exec (.bundle w b) s = .next (s.respond w (s.writeStatus w 0x315001 []) [])) ∧
       (s.writeStatus w 0x315001 [] = 0 → s.bundleResult b ≠ 0 → exec (.bundle w b) s = .next ((s.put 0x315003 (s.bundleResult b)).respond w (0x40 + s.bundleResult b) []))) ∧
  (∀ (s : State) (w : Writer) (b : BundleObj), s.isReady = true → s.writeStatus w 0x315001 [] = 0 → s.bundleResult b = 0 → s.committing = false → s.dict.holder = none →
       (∀ e ∈ b.entries, s.writeStatus { path := .bundle } (Od.key e.index e.sub) e.data = 0) → b.commit = false →
       ∃ t, exec (.bundle w b) s = .next t ∧ t.int 0x315003 = 0 ∧ t.dict.holder = none ∧ t.trust.bundleSeq = some (max b.sequence (s.trust.bundleSeq.getD 0)) ∧
         t.int 0x3F0601 = 2 ∧ (b.entries = [] → t.dict.staging = s.dict.staging)) ∧
  (∀ (s : State) (p : Path) (n : Fin 8) (seq : Nat) (tagOk : Bool) (op : DictOp), s.isReady = true → s.trust.sessions = [] →
       exec (.sessionRequest p n seq tagOk op) s = .next (s.dropMessage p)) ∧
  (∀ (s : State) (n : Fin 8) (seq i sub : Nat) (x : Session), s.isReady = true → s.trust.sessions = [(n.val, x)] → x.established = true → x.path = .host →
       seq = x.seqIn + 1 → s.secondsSince x.openedAt < 86400 → s.trustTime ≤ x.chain.notAfter → s.host.exec = 0 →
       ∃ t y, exec (.sessionRequest .host n seq true (.read i sub 0)) s = .next t ∧ Tab.find? t.trust.sessions n.val = some y ∧ y.seqIn = seq ∧ y.seqOut = x.seqOut + 1 ∧
         y.lastAt = s.clock.counter ∧ t.fuses = s.fuses) ∧
  (∀ (s : State) (cmd : Word32), s.bar0Up = true → s.isReady = true → cmd.getLsbD 30 = false → s.host.busy = false → s.host.resp = false → s.host.request = none →
       s.host.mbOff = 0 → cmd.toNat % 2 ^ 11 ≠ 0 → cmd.toNat % 2 ^ 11 ≤ 1024 → cmd.toNat % 2 ^ 11 < s.host.mbLen → s.host.mbLen ≤ 4194368 → cmd.toNat / 2 ^ 12 % 4 ≤ 2 →
       ∃ t, exec (.go cmd) s = .next t ∧ t.host.next = true ∧ t.host.proto = false ∧
         t.host.request = some { length := s.host.mbLen, kind := cmd.toNat / 2 ^ 12 % 4, data := memReadAll s.host.buf 0x100 (cmd.toNat % 2 ^ 11) } ∧ t.dict = s.dict) ∧
  (∀ (s : State) (cmd : Word32), s.bar0Up = false → exec (.go cmd) s = .next s) ∧
  (∀ (s : State) (f : MgmtFrame), s.isReady = true → s.inStep = false → s.ownDestination f.destination.toNat = true → s.dict.seen = [] → s.dict.reassembly = [] → f.length < f.total →
       exec (.mgmtFrameReceived f) s = .next { s with dict := { s.dict with seen := [(f.origin.toNat, f.number, f.offset)], reassembly := [{ origin := f.origin.toNat, number := f.number, kind := 0, total := f.total, got := [(f.offset, f.length)] }] } }) ∧
  (∀ (s : State) (f : MgmtFrame), s.ownDestination f.destination.toNat = false → s.isButty = false → exec (.mgmtFrameReceived f) s = .next s) ∧
  (∀ (s : State) (o : BitVec 64) (n : Nat), s.isReady = true → exec (.mgmtReassemblyTimeout o n) s = .next { s with dict := { s.dict with reassembly := s.dict.reassembly.filter (fun x => !(decide (x.origin = o.toNat) && decide (x.number = n))) } }) ∧
  (∀ (s : State) (p : Path) (x : Nat × Path), s.isReady = true → s.dict.awaiting.find? (fun x => decide (x.2 = p)) = some x → p ≠ .host ∨ s.host.exec = 0 →
       exec (.mgmtResponseTimeout p) s = .next { s with dict := { s.dict with awaiting := s.dict.awaiting.erase x, relayReply := Tab.set [] s.dict.relayReply (pathNo p) [0x10] } }) ∧
  (∀ (s : State) (p : Path), s.dict.awaiting.find? (fun x => decide (x.2 = p)) = none → exec (.mgmtResponseTimeout p) s = .next s) ∧
  (∀ (s : State), s.isReady = true → (s.canPort 0).service.length < 16 →
       ∃ t, exec .sdoTimeout s = .next t ∧ t.dict.segWrites = s.dict.segWrites.filter (fun x => !(decide (x.writer.path = .can))) ∧
         t.dict.snapshots = s.dict.snapshots.filter (fun x => !(decide (x.writer.path = .can))) ∧
         (t.canPort 0).service = (s.canPort 0).service ++ [profileFrame (s.nat 0x120002) ([0x80] ++ Config.freeBytes s.free 3 ++ le 4 0x05040000)] ∧ t.od = s.od)

/-- The claim window, the owner root, the claim and the release. CLAIM_EN_LOW and CLAIM_WINDOW_EXPIRED close their
windows; OWNER_ROOT_WRITE and CLAIM_COMMAND act in an open window of an unclaimed device, refused with 0x47 without a
window and with 0x48 on a claimed device; a claim without a good root or certificate is refused with 0x4F or 0x41, and
one that is good is counted (below 255, past which the count is a free value, log 3) and closes both windows; RELEASE
of the own identity resets with cause 7 and empties sessions and cache, and of another identity is refused with 0x46.
Rules R310, R311, R313. -/
def Obligations.ClaimWindowsClose : Prop :=
  (∀ (s : State), exec .claimEnLow s = .next { s with
       trust := { s.trust with windowPin := false }, power := { s.power with claimEn := false } }) ∧
  (∀ (s : State), exec .claimWindowExpired s = .next { s with
       trust := { s.trust with windowPin := false, windowRole := false, windowLive := false } }) ∧
  (∀ (s : State) (w : Writer) (cert : List Byte), s.admits w 0x311001 cert → s.claimed = false → s.windowOpen = true →
       s.mram.storeFails = false →
       exec (.ownerRootWrite w cert) s = .next (((s.putBytes 0x311001 cert).storeStored).respond w 0 [])) ∧
  (∀ (s : State) (w : Writer) (cert : List Byte), s.admits w 0x311001 cert → s.claimed = false → s.windowOpen = false →
       exec (.ownerRootWrite w cert) s = .next (s.respond w 0x47 [])) ∧
  (∀ (s : State) (w : Writer) (cert : List Byte) (v : Byte) (ca self : Bool), s.claimed = true →
       (s.admits w 0x311001 cert → exec (.ownerRootWrite w cert) s = .next (s.respond w 0x48 [])) ∧
       (s.admits w 0x311002 [v] → exec (.claimCommand w v ca self) s = .next (s.respond w 0x48 []))) ∧
  (∀ (s : State) (w : Writer) (v : Byte), s.admits w 0x311002 [v] → s.claimed = false → s.windowOpen = true →
       s.bytes 0x311001 ≠ [] → s.mram.storeFails = false →
       ∃ t, exec (.claimCommand w v true true) s = .next t ∧ t.int 0x310001 = 1 ∧
         (s.int 0x310003 < 255 → t.int 0x310003 = s.int 0x310003 + 1) ∧ t.trust = { s.trust with windowPin := false, windowRole := false } ∧
         t.fuses = s.fuses ∧ t.mram.config0 = s.mram.config0 ∧ t.mram.config1 = s.mram.config1) ∧
  (∀ (s : State) (w : Writer) (v : Byte) (ca self : Bool), s.admits w 0x311002 [v] → s.claimed = false →
       (s.windowOpen = false → exec (.claimCommand w v ca self) s = .next (s.respond w 0x47 [])) ∧
       (s.windowOpen = true → s.bytes 0x311001 = [] ∨ ca = false → exec (.claimCommand w v ca self) s = .next (s.respond w 0x4F [])) ∧
       (s.windowOpen = true → s.bytes 0x311001 ≠ [] → ca = true → self = false → exec (.claimCommand w v ca self) s = .next (s.respond w 0x41 []))) ∧
  (∀ (s : State) (w : Writer) (data : List Byte), s.admits w 0x311004 data → written 0x311004 data = .num s.fuses.identity →
       ∃ t, exec (.release w data) s = .next t ∧ t.power.phase = .reset ∧ t.power.cause = 7 ∧ t.od = t.mram.load ∧
         t.mram.config0 = s.mram.config0 ∧ t.mram.config1 = s.mram.config1 ∧ t.trust.released = true ∧ t.trust.cache = [] ∧
         t.trust.sessions = [] ∧ t.fuses = s.fuses) ∧
  (∀ (s : State) (w : Writer) (data : List Byte), s.admits w 0x311004 data → written 0x311004 data ≠ .num s.fuses.identity →
       s.power.resetDue = none → exec (.release w data) s = .next (s.respond w 0x46 []))

/-- Client and node sessions, their idle time, and the neighbour cache. HELLO of an accepted chain opens a session on the
lowest free number, and of a device a node session; FINISH establishes it; SESSION_CLOSE and SESSION_IDLE_TIMEOUT end
it, a holder's staging copy with it; REVOCATION_WRITE, PEER_OWNER_WRITE and FLUSH_CACHE empty the neighbour cache;
CACHE_ENTRY_EXPIRY removes the entries of the neighbour that are due. Rules R317, R319, R320, R325, R340. -/
def Obligations.SessionsOpenAndClose : Prop :=
  (∀ (s u : State) (p : Path) (c : Chain), s.isReady = true →
       u = { s with trust := { s.trust with sessions := s.trust.sessions.filter (fun e => !(decide (e.2.path = p) && !e.2.established)) } } →
       u.sessionsOf p < pathLimit p → u.sessionsAll < 8 → u.freeSession < 8 → u.chainResult c = 0 →
       ∃ t, exec (.hello (.client p c)) s = .next t ∧
         t.trust.sessions = Tab.insert u.trust.sessions u.freeSession { path := p, role := c.role, seqIn := 1, seqOut := 1, chain := c } ∧
         t.trust.nodes = s.trust.nodes ∧ .auth 2 u.freeSession 0 ∈ t.out ∧ t.fuses = s.fuses ∧ t.dict.staging = s.dict.staging) ∧
  (∀ (s : State) (c : DeviceCert), s.isReady = true → s.peerResult c = 0 →
       (s.trust.nodes.filter (fun x => decide (x.peer ≠ c.identity.toNat))).length < 64 →
       ∃ t, exec (.hello (.node c)) s = .next t ∧
         t.trust.nodes = s.trust.nodes.filter (fun x => decide (x.peer ≠ c.identity.toNat)) ++
           [{ peer := c.identity.toNat, serial := c.serial, seqIn := 1, seqOut := 1 }] ∧
         t.trust.sessions = s.trust.sessions ∧ .auth 2 c.identity.toNat 1 ∈ t.out) ∧
  (∀ (s : State) (p : Path) (n : Fin 8) (seq : Nat) (x : Session), s.isReady = true → Tab.find? s.trust.sessions n = some x →
       x.established = false → x.path = p → seq = x.seqIn + 1 →
       ∃ t, exec (.finish (.client p n) seq true) s = .next t ∧ t.trust = { s.trust with sessions := Tab.insert s.trust.sessions n { x with
         established := true, seqIn := seq, openedAt := s.clock.counter, lastAt := s.clock.counter } }) ∧
  (∀ (s : State) (id : BitVec 64) (seq : Nat), s.isReady = true →
       s.trust.nodes.any (fun x => decide (x.peer = id.toNat) && !x.established && decide (seq = x.seqIn + 1)) = true →
       exec (.finish (.node id) seq true) s = .next { s with trust := { s.trust with
         nodes := s.trust.nodes.map (fun x => if x.peer = id.toNat then { x with established := true, seqIn := seq } else x) } }) ∧
  (∀ (s : State) (p : Path) (n : Fin 8) (seq : Nat) (x : Session), s.isReady = true → Tab.find? s.trust.sessions n = some x →
       x.path = p → seq = x.seqIn + 1 →
       ∃ t, exec (.sessionClose p n seq true) s = .next t ∧ t.trust.sessions = Tab.erase s.trust.sessions n) ∧
  (∀ (s : State) (n : Fin 8) (x : Session), s.isReady = true → Tab.find? s.trust.sessions n = some x →
       ∃ t, exec (.sessionIdleTimeout n) s = .next t ∧ t.trust.sessions = Tab.erase s.trust.sessions n ∧
         (s.dict.holder = none → t.dict = s.dict ∧ t.od = s.od) ∧
         (s.committing = false → s.dict.holder = some { path := x.path, session := some n } → t.dict = { s.dict with staging := [], holder := none })) ∧
  (∀ (s : State) (w : Writer) (data : List Byte), s.admits w 0x311201 data → s.mram.storeFails = false →
       ∃ t, exec (.revocationWrite w data) s = .next t ∧ t.trust.cache = []) ∧
  (∀ (s : State) (w : Writer) (i : Fin 8) (data : List Byte), s.admits w (0x311101 + i) data → s.mram.storeFails = false →
       exec (.peerOwnerWrite w i data) s = .next (({ (s.plainWrite w (0x311101 + i) (written (0x311101 + i) data)) with
         trust := { (s.plainWrite w (0x311101 + i) (written (0x311101 + i) data)).trust with cache := [] } } : State).respond w 0 [])) ∧
  (∀ (s : State) (w : Writer) (v : Byte), s.admits w 0x312202 [v] →
       exec (.flushCache w v) s = .next (({ s with trust := { s.trust with cache := [] } } : State).respond w 0 [])) ∧
  (∀ (s : State) (id : BitVec 64), s.isReady = true →
       exec (.cacheEntryExpiry id) s = .next { s with trust := { s.trust with
         cache := s.trust.cache.filter (fun e => !(decide (e.identity = id.toNat) && decide (e.expiry ≤ s.nat 0x200101))) } })

/-- Neighbour authentication: OFFER to CONFIRM, refusal and retry. OFFER is answered with CERTS, or RESUME for a cached
neighbour on both sides; CERTS with PROOF; PROOF and RESUME with CONFIRM, or refused with reason 0x01; CONFIRM
installs the key with its counters at 0; REFUSE marks the link, counts and starts over; AUTH_RETRY_TIMER offers again
under a fresh number. Rules R324, R325. -/
def Obligations.NeighboursAuthenticate : Prop :=
  (∀ (s : State) (p : Cpl) (identity : BitVec 64) (exchange : BitVec 32) (flag : Bool), s.isReady = true → s.linkUpState p.no = true →
       s.keyed p.no = false → (s.au p.no).offered = true →
       ∃ t, exec (.offer p identity exchange flag) s = .next t ∧ t.int (Od.key (0x2240 + p.no) 1) = identity.toNat ∧
         t.au p.no = { s.au p.no with gotOffer := true, peer := exchange.toNat, resume := flag && s.cached identity.toNat } ∧
         t.out = s.out ++ [.auth (if flag && s.cached identity.toNat then 4 else 2) p.no (s.au p.no).own]) ∧
  (∀ (s : State) (p : Cpl) (c : DeviceCert), s.isReady = true → (s.au p.no).gotOffer = true → s.keyed p.no = false →
       ∃ t, exec (.certs p c) s = .next t ∧ t.au p.no = { s.au p.no with certs := some c } ∧
         t.out = s.out ++ [.auth 3 p.no (s.au p.no).own] ∧ t.od = s.od) ∧
  (∀ (s : State) (p : Cpl) (c : DeviceCert), s.isReady = true → (s.au p.no).certs = some c → s.keyed p.no = false →
       s.peerResult c = 0 → (s.au p.no).gotConfirm = false →
       ∃ t, exec (.proof p true) s = .next t ∧ t.au p.no = { s.au p.no with accepted := true, sentConfirm := true } ∧
         t.out = s.out ++ [.auth 5 p.no (s.au p.no).own] ∧ t.od = s.od) ∧
  (∀ (s : State) (p : Cpl) (c : DeviceCert), s.isReady = true → (s.au p.no).certs = some c → s.keyed p.no = false →
       exec (.proof p false) s = .next (s.authRefuse p.no 0x01)) ∧
  (∀ (s : State) (p : Cpl), s.isReady = true → (s.au p.no).resume = true → s.keyed p.no = false → (s.au p.no).gotConfirm = false →
       (∃ t, exec (.resume p true) s = .next t ∧ t.au p.no = { s.au p.no with accepted := true, sentConfirm := true } ∧
         t.out = s.out ++ [.auth 5 p.no (s.au p.no).own] ∧ t.od = s.od) ∧
       exec (.resume p false) s = .next (s.authRefuse p.no 0x01)) ∧
  (∀ (s : State) (p : Cpl), s.isReady = true → (s.au p.no).gotOffer = true → s.keyed p.no = false → (s.au p.no).sentConfirm = true →
       ∃ t, exec (.confirm p true) s = .next t ∧ t.int (Od.key (0x3124 + p.no) 1) = 2 ∧ t.int (Od.key (0x3124 + p.no) 2) = 0 ∧
         t.int (Od.key (0x3124 + p.no) 3) = 0 ∧ t.int (Od.key (0x2240 + p.no) 2) = (if (s.au p.no).resume then 2 else 3) ∧
         t.trust.cache.length ≤ 16) ∧
  (∀ (s : State) (p : Cpl), s.isReady = true → s.keyed p.no = false →
       ∃ t, exec (.refuse p) s = .next t ∧ t.int (Od.key (0x2240 + p.no) 2) = 4 ∧ t.int (Od.key (0x3124 + p.no) 1) = 0 ∧
         t.int (Od.key (0x3124 + p.no) 6) = min (s.int (Od.key (0x3124 + p.no) 6) + 1) 0xFFFFFFFF ∧ t.au p.no = {}) ∧
  (∀ (s : State) (p : Cpl), s.isReady = true → s.int (Od.key (0x2240 + p.no) 2) = 4 → s.linkUpState p.no = true → s.keyed p.no = false →
       ∃ t, exec (.authRetryTimer p) s = .next t ∧ t.int (Od.key (0x3124 + p.no) 1) = 1 ∧ t.int (Od.key (0x2240 + p.no) 2) = 1 ∧
         t.au p.no = { offered := true, own := s.freeNat % 2 ^ 32 } ∧ t.out = s.out ++ [.auth 1 p.no (s.freeNat % 2 ^ 32)])

/-- Rekeying of a link and delivery of stream keys. REKEY_TRIGGER offers; REKEY_OFFER is answered unless the own offer of
the lower identity stands; REKEY_CONFIRM is noted on both sides and answered once; STREAM_KEY_DELIVERY over a node
session is kept and acknowledged; STREAM_KEY_ACK marks the sink's epoch. Rules R327, R328, R329. -/
def Obligations.LinksRekey : Prop :=
  (∀ (s : State) (p : Cpl), s.isReady = true → s.int (Od.key (0x3124 + p.no) 1) = 2 →
       ∃ t, exec (.rekeyTrigger p) s = .next t ∧ t.int (Od.key (0x3124 + p.no) 1) = 3 ∧
         t.au p.no = { s.au p.no with rekeySent := true, own := s.freeNat % 2 ^ 32 } ∧ t.out = s.out ++ [.auth 7 p.no 0]) ∧
  (∀ (s : State) (p : Cpl) (identity : BitVec 64), s.isReady = true → s.keyed p.no = true → (s.au p.no).rekeySent = false ∨ identity.toNat ≤ s.fuses.identity →
       ∃ t, exec (.rekeyOffer p identity) s = .next t ∧ t.int (Od.key (0x3124 + p.no) 1) = 3 ∧
         t.au p.no = { s.au p.no with rekeySent := false, rekeyGot := true, rkConfirmSent := true, own := s.freeNat % 2 ^ 32 } ∧ t.out = s.out ++ [.auth 8 p.no 0]) ∧
  (∀ (s : State) (p : Cpl), s.isReady = true → s.int (Od.key (0x3124 + p.no) 1) = 3 → (s.au p.no).rekeySent = true ∨ (s.au p.no).rekeyGot = true →
       ∃ t, exec (.rekeyConfirm p true) s = .next t ∧ t.au p.no = { s.au p.no with rkConfirmSent := true, rkConfirmGot := true } ∧
         t.out = s.out ++ (if (s.au p.no).rkConfirmSent then [] else [.auth 8 p.no 0]) ∧ t.od = s.od) ∧
  (∀ (s : State) (source : BitVec 64) (view : Fin 16) (inst epoch : Nat), s.isReady = true → s.nodeOpen source.toNat = true →
       ∃ t x, exec (.streamKeyDelivery source view inst epoch) s = .next t ∧ x ∈ t.trust.streams ∧ x.source = source.toNat ∧
         x.view = view.val ∧ x.instanceNo = inst ∧ x.delivered = epoch ∧ x.acked = true ∧ .auth 11 source.toNat epoch ∈ t.out) ∧
  (∀ (s : State) (sink : BitVec 64) (view : Fin 16) (inst epoch : Nat) (x : Epochs), s.isReady = true → s.nodeOpen sink.toNat = true →
       x ∈ s.trust.streams → x.source = 0 → x.sink = sink.toNat → x.view = view.val → x.instanceNo = inst → x.delivered = epoch → x.waiting = false →
       ∃ t, exec (.streamKeyAck sink view inst epoch) s = .next t ∧ { x with acked := true } ∈ t.trust.streams)

/-- Images are loaded, selected and judged, and the rollback floor advances. IMAGE_LOAD of a valid image at or above the
floor fills the other slot and ends operation 2 as done, and without an image is taken from the host alone;
SELECT_IMAGE selects; IMAGE_HEALTHY ends the probation; HEALTH_TIMEOUT resets with cause 7 to the other image;
ADVANCE_ROLLBACK_FLOOR raises the floor up to the running image's security number, and is refused with 0x49 past it.
Rules R332, R333. -/
def Obligations.ImagesAndFloor : Prop :=
  (∀ (s : State) (w : Writer) (img : Image), s.isReady = true → s.writeStatus w 0x314001 [] = 0 → img.signatureOk = true → s.fuses.rollback ≤ img.security →
       ∃ t, exec (.imageLoad w img) s = .next t ∧ t.int (0x314001 + s.otherImage) = img.version.toNat ∧
         t.int (0x314003 + s.otherImage) = img.security ∧ t.int 0x3F0201 = 2 ∧ t.fuses = s.fuses ∧ t.power = s.power) ∧
  (∀ (s : State) (w : Writer) (img : Image), s.power.phase = .noImage → w.path ≠ .host → exec (.imageLoad w img) s = .next s) ∧
  (∀ (s : State) (w : Writer) (v : Byte), s.admits w 0x314007 [v] →
       exec (.selectImage w v) s = .next (({ s with power := { s.power with selectedImage := v.toNat } } : State).respond w 0 [])) ∧
  (∀ (s : State), s.power.pendingImage = true →
       ∃ t, exec .imageHealthy s = .next t ∧ t.power = { s.power with pendingImage := false } ∧
         t.od = (s.setImageState (s.nat 0x314006) 1).od) ∧
  (∀ (s : State), s.power.pendingImage = true → s.power.phase = .ready →
       ∃ t, exec .healthTimeout s = .next t ∧ t.power.phase = .reset ∧ t.power.cause = 7 ∧ t.power.selectedImage = s.otherImage ∧ t.od = t.mram.load) ∧
  (∀ (s : State) (w : Writer) (v : Byte), s.admits w 0x314008 [v] → v.toNat ≤ s.imageSecurity (s.nat 0x314006) →
       exec (.advanceRollbackFloor w v) s = .next (({ s with fuses := { s.fuses with rollback := max s.fuses.rollback v.toNat } } : State).respond w 0 [])) ∧
  (∀ (s : State) (w : Writer) (v : Byte), s.admits w 0x314008 [v] → s.imageSecurity (s.nat 0x314006) < v.toNat →
       exec (.advanceRollbackFloor w v) s = .next (s.respond w 0x49 []))

/-- Debug close and unlock, and the last known time. CLOSE_ARM issues a challenge (a free value); CLOSE_CONFIRM of role 4
burns debug closed; all three debug writes are refused with 0x4E once closed; CHALLENGE_EXPIRED withdraws it;
DEBUG_UNLOCK unlocks; LAST_KNOWN_TIME_STORE stores the later time. Rules R316, R336. -/
def Obligations.DebugAndTrustTime : Prop :=
  (∀ (s : State) (w : Writer) (data : List Byte), s.admits w 0x316001 data → s.fuses.debugClosed = false → written 0x316001 data = .num s.fuses.identity →
       exec (.closeArm w data) s = .next (({ (s.putBytes 0x316002 (Config.freeBytes s.free 16)).tookFree with
         trust := { s.trust with challenge := some (Config.freeBytes s.free 16) } } : State).respond w 0 [])) ∧
  (∀ (s : State) (w : Writer) (c : Chain), s.admits w 0x316003 [] → s.fuses.debugClosed = false → s.trust.challenge ≠ none →
       s.chainResult c = 0 → c.role = 4 →
       ∃ t, exec (.closeConfirm w c true) s = .next t ∧ t.fuses = { s.fuses with debugClosed := true } ∧ t.trust.debugUnlocked = false ∧ t.trust.challenge = none) ∧
  (∀ (s : State) (w : Writer) (c : Chain) (sigOk : Bool) (data : List Byte) (v : Byte), s.fuses.debugClosed = true →
       (s.admits w 0x316003 [] → exec (.closeConfirm w c sigOk) s = .next (s.respond w 0x4E [])) ∧
       (s.admits w 0x316001 data → exec (.closeArm w data) s = .next (s.respond w 0x4E [])) ∧
       (s.admits w 0x316004 [v] → exec (.debugUnlock w v) s = .next (s.respond w 0x4E []))) ∧
  (∀ (s : State), s.isReady = true → exec .challengeExpired s = .next { s.putBytes 0x316002 (List.replicate 16 0) with
       trust := { s.trust with challenge := none } }) ∧
  (∀ (s : State) (w : Writer) (v : Byte), s.admits w 0x316004 [v] → s.fuses.debugClosed = false →
       exec (.debugUnlock w v) s = .next (({ s with trust := { s.trust with debugUnlocked := true } } : State).respond w 0 [])) ∧
  (∀ (s : State), s.isReady = true → s.ntValid = true →
       exec .lastKnownTimeStore s = .next ((s.put 0x310008 (max (s.int 0x310008) s.ntNow)).storeStored))

/-- Reports are stored or merged, histograms count, clear tokens are judged. REPORT_WRITE adds the oldest report to the
records of its class, counted, the first ones of a class among its first records, or merges it into the newest record
of the same key inside the merge window; HISTOGRAM_SAMPLE counts a bin and keeps a new minimum and maximum with their
times, and does nothing for histogram 21 without a time state that it measures; HISTOGRAM_STORE empties the counts
into the stored area; CLEAR_TOKEN that passes its checks is added to the history, and one that fails is reported and
refused with its result. Rules R487, R491, R492, R494. -/
def Obligations.LogbookWritesReports : Prop :=
  (∀ (s : State) (r : Record) (q : List Record), s.isReady = true → s.storesRun = true → s.log.queue = r :: q →
       (∀ a : Record, s.log.newest r.cls = some a → s.mergesAtWriting r a = false) →
       ∃ t, exec .reportWrite s = .next t ∧ t.log = Logbook.add { s.log with queue := q } r.cls r ∧
         t.int 0x350006 = min (s.int 0x350006 + 1) 0xFFFFFFFF ∧ t.int 0x350001 = (s.int 0x350001 + 2) % 2 ^ 32 ∧ t.gate = s.gate) ∧
  (∀ (s : State) (r : Record) (q : List Record), s.isReady = true → s.storesRun = true → s.log.queue = r :: q → s.log.newest r.cls = none →
       (s.log.permOf r.cls).length < s.log.permCap r.cls →
       ∃ t, exec .reportWrite s = .next t ∧ t.log.queue = q ∧ t.log.permOf r.cls = s.log.permOf r.cls ++ [r] ∧ t.log.circ = s.log.circ) ∧
  (∀ (s : State) (r a : Record) (q : List Record), s.isReady = true → s.storesRun = true → s.log.queue = r :: q → s.log.newest r.cls = some a →
       a.sameKey r = true → a.code ≠ 0x0103 → r.opSec < a.opSec + s.nat (Od.key (0x3510 + r.cls) 3) →
       ∃ t, exec .reportWrite s = .next t ∧ t.log.queue = q ∧
         t.log = Logbook.setNewest { s.log with queue := q } r.cls { a with
           repeats := min (a.repeats + r.repeats + 1) 65535, last := r.opSec } ∧
         t.int 0x350104 = min (s.int 0x350104 + 1) 0xFFFFFFFF ∧ t.int 0x350006 = s.int 0x350006) ∧
  (∀ (s : State) (h : Fin 24) (v : Int), s.isReady = true → h ≠ 21 ∨ s.int 0x260001 = 2 ∨ s.int 0x260001 = 3 → v < s.int (Od.key (0x35E8 + h) 1) → s.int (Od.key (0x35E8 + h) 4) < v →
       ∃ t, exec (.histogramSample h v) s = .next t ∧ t.int (Od.key (0x35E8 + h) 1) = v ∧ t.int (Od.key (0x35E8 + h) 4) = v ∧
         t.int (Od.key (0x35E8 + h) 2) = s.int 0x200101 ∧ t.int (Od.key (0x35E8 + h) 3) = s.int 0x200102 ∧
         t.int (Od.key (0x35E8 + h) 5) = s.int 0x200101 ∧ t.int (Od.key (0x35E8 + h) 6) = s.int 0x200102 ∧
         t.log = { s.log with counts := Tab.mod 0 s.log.counts (32 * h +
           histBin (s.int (Od.key (0x35D0 + h) 2)) (s.int (Od.key (0x35D0 + h) 3)) v) (· + 1) }) ∧
  (∀ (s : State) (v : Int), s.int 0x260001 ≠ 2 → s.int 0x260001 ≠ 3 → exec (.histogramSample 21 v) s = .next s) ∧
  (∀ (s : State), s.isReady = true → s.storesRun = true → s.log.counts ≠ [] →
       ∃ t, exec .histogramStore s = .next t ∧ t.log = { s.log with counts := [] } ∧
         t.mram.config0 = s.mram.config0 ∧ t.mram.config1 = s.mram.config1 ∧ t.gate = s.gate) ∧
  (∀ (s : State) (w : Writer) (x : ClearTokenObj), s.isReady = true → s.claimed = true → s.clearResult x = 0 →
       ∃ t, exec (.clearToken w x) s = .next t ∧ t.log.history = s.log.history ++ [{
           number := x.number, mask := x.mask.toNat, opSec := s.nat 0x200101, cycles := s.nat 0x200102, serial := x.chain.serials.headD [] }]) ∧
  (∀ (s : State) (w : Writer) (x : ClearTokenObj), s.isReady = true → s.claimed = true → s.clearResult x ≠ 0 →
       exec (.clearToken w x) s = .next (((s.put 0x350203 (s.clearResult x)).report 0 0x0104 (s.clearResult x) 0 0).respond w
         (if s.clearResult x = 0x10 then 0x09 else 0x40 + s.clearResult x) []))

/-- A collection runs at the collector, and is served, refused or cancelled at the source. START_COLLECTION starts
operation 5 with a new number and sends its request; LOG_COLLECT_REQUEST from a node with a session is served for up
to 4 at a time and refused past that; LOG_COLLECT_DATA at the next offset is added; LOG_COLLECT_END publishes what
came; LOG_COLLECT_REFUSED and COLLECTION_TIMEOUT end it as failed with their reason; LOG_COLLECT_CANCEL ends the
serving. Rules R496, R497. -/
def Obligations.LogbookIsCollected : Prop :=
  (∀ (s : State) (w : Writer) (v : Byte), s.admits w 0x350304 [v] → s.int 0x3F0501 ≠ 1 →
       ∃ t, exec (.startCollection w v) s = .next t ∧ t.log.collecting = some (s.log.collections + 1) ∧ t.log.collected = [] ∧
         t.log.collections = s.log.collections + 1 ∧ t.int 0x3F0501 = 1 ∧
         ∃ l, t.out = (s.out ++ [.log 1 (s.nat 0x350301) (s.log.collections + 1) 0]) ++ l) ∧
  (∀ (s : State) (origin destination : BitVec 64) (number : BitVec 32) (mask : BitVec 64) (parts : BitVec 8), s.isReady = true →
       destination.toNat = s.fuses.identity → s.nodeOpen origin.toNat = true → s.log.served.length < 4 →
       s.log.served.any (fun x => decide (x.collector = origin.toNat ∧ x.number = number.toNat)) = false →
       exec (.logCollectRequest ⟨origin, destination⟩ number mask parts) s = .next { s.bump 0x350307 with
         log := { s.log with served := s.log.served ++ [{
           collector := origin.toNat, number := number.toNat, image := s.collectImage mask.toNat parts.toNat }] } }) ∧
  (∀ (s : State) (origin destination : BitVec 64) (number : BitVec 32) (mask : BitVec 64) (parts : BitVec 8), s.isReady = true →
       destination.toNat = s.fuses.identity → s.nodeOpen origin.toNat = true → 4 ≤ s.log.served.length →
       s.log.served.any (fun x => decide (x.collector = origin.toNat ∧ x.number = number.toNat)) = false →
       ∃ t, exec (.logCollectRequest ⟨origin, destination⟩ number mask parts) s = .next t ∧ t.log = s.log ∧
         t.int 0x350308 = min (s.int 0x350308 + 1) 0xFFFFFFFF ∧ .log 4 origin.toNat number.toNat 0 ∈ t.out) ∧
  (∀ (s : State) (origin destination : BitVec 64) (number : BitVec 32) (mask : BitVec 64) (parts : BitVec 8), s.isReady = true →
       destination.toNat = s.fuses.identity →
       s.nodeOpen origin.toNat = false ∨ s.log.served.any (fun x => decide (x.collector = origin.toNat ∧ x.number = number.toNat)) = true →
       exec (.logCollectRequest ⟨origin, destination⟩ number mask parts) s = .next s) ∧
  (∀ (s : State) (number offset : BitVec 32) (data : List Byte), s.isReady = true → s.log.collecting = some number.toNat →
       offset.toNat = s.log.collected.length →
       ∃ t, exec (.logCollectData number offset data) s = .next t ∧ t.log = { s.log with collected := s.log.collected ++ data } ∧ t.gate = s.gate) ∧
  (∀ (s : State) (number : BitVec 32), s.isReady = true → s.log.collecting = some number.toNat →
       ∃ t, exec (.logCollectEnd number) s = .next t ∧ t.log.collecting = none ∧ t.log.collected = [] ∧
         t.bytes 0x350305 = s.log.collected ∧ t.int 0x3F0501 = 2 ∧ t.int 0x3F0506 = 0) ∧
  (∀ (s : State) (number : BitVec 32) (code : Byte), s.isReady = true → s.log.collecting = some number.toNat →
       ∃ t, exec (.logCollectRefused number code) s = .next t ∧ t.log.collecting = none ∧ t.log.collected = [] ∧
         t.int 0x3F0501 = 3 ∧ t.int 0x3F0506 = code.toNat) ∧
  (∀ (s : State), s.isReady = true → s.log.collecting ≠ none →
       ∃ t, exec .collectionTimeout s = .next t ∧ t.log.collecting = none ∧ t.log.collected = [] ∧
         t.int 0x3F0501 = 3 ∧ t.int 0x3F0506 = 0x10) ∧
  (∀ (s : State) (origin : BitVec 64) (number : BitVec 32), s.isReady = true →
       exec (.logCollectCancel origin number) s = .next { s with log := { s.log with
         served := s.log.served.filter (fun x => !(decide (x.collector = origin.toNat) && decide (x.number = number.toNat))) } })

/-- The event gate: claims, done, bit arrays, target controls and MSI-X vectors. EG_CLAIM answers the highest claimable
source, takes it from pending into service and counts the claim, or answers 0 for a target asleep or without a source;
EG_DONE ends the service of its own source, and counts a wrong one; the bit arrays of pending, mask and overrun are
set and cleared bit by bit (a pending set on a source in service sets its overrun, and source 195 is cleared with the
lock's errors empty), the others unchanged; EG_TCTRL sets one target; MSIX_VECTOR_UNMASK sends the message that is
due. Rules R407, R408, R409. -/
def Obligations.GateOffersSources : Prop :=
  (∀ (s : State) (x : Fin 4), s.hostServed = true → s.gate.asleep x = false → Gate.highest (s.gate.claimable x) ≠ 0 →
       ∃ t, exec (.egClaim x) s = .next t ∧
         t.gate.pend = s.gate.pend &&& ~~~ Gate.one (Gate.highest (s.gate.claimable x)) ∧
         t.gate.inServ = s.gate.inServ ||| Gate.one (Gate.highest (s.gate.claimable x)) ∧
         Tab.get 0 t.gate.server (Gate.highest (s.gate.claimable x)) = x ∧ t.gate.mask = s.gate.mask ∧ t.gate.ovr = s.gate.ovr ∧
         t.int (0x360014 + x) = min (s.int (0x360014 + x) + 1) 0xFFFFFFFF ∧
         t.out.getLast? = some (.response .host 0 (le 4 (Gate.highest (s.gate.claimable x))))) ∧
  (∀ (s : State) (x : Fin 4), s.hostServed = true → s.gate.asleep x = true ∨ s.gate.claimable x = 0 →
       exec (.egClaim x) s = .next (s.emit (.response .host 0 (le 4 0)))) ∧
  (∀ (s : State) (x : Fin 4) (v : Word32), s.hostServed = true → Gate.has s.gate.inServ (v.toNat % 256) = true →
       Tab.get 0 s.gate.server (v.toNat % 256) = x → v.toNat % 256 ≠ 195 →
       ∃ t, exec (.egDone x v) s = .next t ∧ t.gate.inServ = s.gate.inServ &&& ~~~ Gate.one (v.toNat % 256) ∧
         t.gate.pend = s.gate.pend ∧ t.gate.mask = s.gate.mask ∧ t.od = s.od) ∧
  (∀ (s : State) (x : Fin 4) (v : Word32), s.hostServed = true →
       Gate.has s.gate.inServ (v.toNat % 256) = false ∨ Tab.get 0 s.gate.server (v.toNat % 256) ≠ x →
       exec (.egDone x v) s = .next (s.bump 0x360018)) ∧
  (∀ (s : State) (word : Fin 8) (v : Word32), s.hostServed = true →
       ∃ t, exec (.egPendSet word v) s = .next t ∧ t.gate.pend = s.gate.pend ||| (egBits word v &&& ~~~ s.gate.inServ) ∧
         t.gate.ovr = s.gate.ovr ||| (egBits word v &&& s.gate.inServ) ∧ t.gate.mask = s.gate.mask ∧ t.gate.inServ = s.gate.inServ) ∧
  (∀ (s : State) (word : Fin 8) (v : Word32), s.hostServed = true → s.lock.errs = [] →
       ∃ t, exec (.egPendClr word v) s = .next t ∧ t.gate.pend = s.gate.pend &&& ~~~ egBits word v &&& ~~~ Gate.one 195 ∧
         t.gate.ovr = s.gate.ovr ∧ t.gate.mask = s.gate.mask ∧ t.gate.inServ = s.gate.inServ ∧ t.od = s.od) ∧
  (∀ (s : State) (word : Fin 8) (v : Word32), s.hostServed = true →
       ∃ t u, exec (.egMaskSet word v) s = .next t ∧ exec (.egMaskClr word v) s = .next u ∧
         t.gate.mask = s.gate.mask ||| egBits word v ∧ u.gate.mask = s.gate.mask &&& ~~~ egBits word v ∧
         t.gate.pend = s.gate.pend ∧ u.gate.pend = s.gate.pend ∧ t.gate.inServ = s.gate.inServ ∧ u.gate.inServ = s.gate.inServ) ∧
  (∀ (s : State) (word : Fin 8) (v : Word32), s.hostServed = true →
       ∃ t u, exec (.egOvrSet word v) s = .next t ∧ exec (.egOvrClr word v) s = .next u ∧
         t.gate.ovr = s.gate.ovr ||| egBits word v ∧ u.gate.ovr = s.gate.ovr &&& ~~~ egBits word v ∧
         t.gate.pend = s.gate.pend ∧ u.gate.pend = s.gate.pend ∧ t.gate.mask = s.gate.mask ∧ u.gate.mask = s.gate.mask) ∧
  (∀ (s : State) (x : Fin 4) (v : Word32), s.hostServed = true →
       ∃ t, exec (.egTctrl x v) s = .next t ∧ t.gate.tctrl x = v.toNat % 64 ∧ (∀ y : Nat, y ≠ x → t.gate.tctrl y = s.gate.tctrl y) ∧
         t.gate.pend = s.gate.pend ∧ t.gate.mask = s.gate.mask) ∧
  (∀ (s : State) (x : Fin 4), s.hostServed = true →
       ∃ t, exec (.msixVectorUnmask x) s = .next t ∧ t.gate.vecMask = s.gate.vecMask &&& ~~~ BitVec.ofNat 4 (2 ^ x.val) ∧
         (s.gate.vecPend.getLsbD x = true → s.gate.claimable x ≠ 0 → s.pcie = true → s.gate.msixEn x = true →
           t.out = s.out ++ [.msix x.val]) ∧ (s.gate.vecPend.getLsbD x = false → t.out = s.out))

/-- The mailbox handshake, function-level reset and the PCIe link. ABORT gives the message up; HP_MB_RACK releases a
chunk, delivers the next or ends the response; MAILBOX_IDLE_TIMEOUT ends a request with status 0x0D and counts it, the
sessions and staged changes kept; HP_ERR_CLEAR clears; FUNCTION_LEVEL_RESET of the PCI Express endpoint empties the
mailbox and the MSI-X state and leaves the gate's sources and the power state; PCIE_LINK_CHANGE takes the new state,
latching source 200 while the device is not READY. Rules R398, R402, R405, R406. -/
def Obligations.HostPortControl : Prop :=
  (∀ (s : State), s.mailboxUp = true →
       exec .abort s = .next { s with host := { s.host with
         next := false, resp := false, request := none, response := [], exec := if s.host.exec = 0 then 0 else 2 } }) ∧
  (∀ (s : State), s.mailboxUp = true → s.host.resp = true → s.host.response.length ≤ s.host.roff + s.host.rchk →
       exec (.hpMbRack 1) s = .next { s with host := { s.host with
         resp := false, proto := false, status := 0, next := false, response := [] } }) ∧
  (∀ (s : State), s.mailboxUp = true → s.host.resp = true → s.host.roff + s.host.rchk < s.host.response.length →
       ∃ t, exec (.hpMbRack 1) s = .next t ∧ t.host.resp = true ∧ t.host.roff = s.host.roff + s.host.rchk ∧
         t.host.rchk = min 1024 (s.host.response.length - (s.host.roff + s.host.rchk)) ∧ t.host.response = s.host.response) ∧
  (∀ (s : State), s.mailboxUp = true → s.host.resp = false → s.host.request ≠ none →
       ∃ t, exec .mailboxIdleTimeout s = .next t ∧ t.host.request = none ∧ t.host.proto = true ∧ t.host.status = 0x0D ∧
         t.host.next = false ∧ t.int 0x360004 = min (s.int 0x360004 + 1) 0xFFFFFFFF ∧ t.trust = s.trust ∧ t.dict = s.dict) ∧
  (∀ (s : State), s.bar0Up = true → exec (.hpErrClear 0) s = .next { s with host := { s.host with err := 0 } }) ∧
  (∀ (s : State), s.bar0Up = true → s.power.hostSel = 0 → ∃ t, exec .functionLevelReset s = .next t ∧ t.host.request = none ∧ t.host.resp = false ∧ t.host.response = [] ∧
       t.host.mbLen = 0 ∧ t.host.mbOff = 0 ∧ t.host.buf = [] ∧ t.host.msixEnabled = false ∧ t.gate.vecMask = 0xF ∧ t.gate.vecPend = 0 ∧
       t.power = s.power ∧ t.gate.pend = s.gate.pend ∧ t.gate.mask = s.gate.mask) ∧
  (∀ (s : State) (up msix : Bool), s.power.hostSel = 0 → s.isReady = true → s.host.linkUp ≠ up →
       ∃ t, exec (.pcieLinkChange up msix) s = .next t ∧ t.host.linkUp = up ∧ t.host.msixEnabled = msix ∧ t.power = s.power ∧ t.dict = s.dict) ∧
  (∀ (s : State) (up msix : Bool), s.power.hostSel = 0 → s.power.phase ≠ .off → s.isReady = false → s.host.linkUp ≠ up →
       exec (.pcieLinkChange up msix) s = .next { s with
         host := { s.host with linkUp := up, msixEnabled := msix },
         power := { s.power with latched := s.power.latched ||| Gate.one 200 } })

/-- BAR2 writes and reads, timeouts, fences, the error FIFO and prefetched lines. BAR2_WRITE to the own berth writes the
exchange memory, and to another berth takes the lowest free tag, counted, the memory unchanged, and either command
waits where no tag is free; both BAR2 commands do nothing on a part strapped without PCI Express; BAR2_READ of the own
berth answers the bytes and of a berth without identity all ones with an error counted; the timeouts do nothing
without their transaction and otherwise end it with cause 6 (an outstanding host read answers all ones); LK_FENCE
waits for the writes outstanding, or ends at once; LK_ERR_POP removes the oldest error; PREFETCH_LINE_EXPIRY removes a
line of age 2, counted. Rules R425, R427, R428, R431, R432, R433. -/
def Obligations.HostRequestsOfTheLock : Prop :=
  (∀ (s : State) (o : Fin 67108864) (data : List Byte) (e : List Bool), s.isReady = true → s.power.hostSel = 0 → s.inStep = false → s.lock.held = [] → (o.val / 2 ^ 20 + 1 : Int) = s.ownBerth →
       data ≠ [] → o.val % 2 ^ 20 + data.length ≤ 0x40000 → data.length ≤ 256 → s.regionCause (o.val % 2 ^ 20) data.length true = 0 →
       exec (.bar2Write o data e) s = .next { s with lock := { s.lock with exchange := exchangeWrite s.lock.exchange (o.val % 2 ^ 20) data e } }) ∧
  (∀ (s : State) (o : Fin 67108864) (data : List Byte) (e : List Bool) (tag : Nat), s.isReady = true → s.power.hostSel = 0 → s.inStep = false → s.lock.held = [] → (o.val / 2 ^ 20 + 1 : Int) ≠ s.ownBerth →
       s.berthIdentity (o.val / 2 ^ 20 + 1) ≠ 0 → s.mooring.stage = 0 → data ≠ [] → data.length ≤ 256 → o.val % 2 ^ 20 + data.length ≤ 2 ^ 20 →
       s.freeTag false = some tag → s.lock.lines = [] →
       ∃ t, exec (.bar2Write o data e) s = .next t ∧ t.lock.tx = s.lock.tx ++ [{ tag := tag, read := false, dest := s.berthIdentity (o.val / 2 ^ 20 + 1), berth := o.val / 2 ^ 20 + 1, offset := o.val % 2 ^ 20, length := data.length, data := data, enables := e, at_ := s.clock.counter }] ∧
         t.int 0x360093 = min (s.int 0x360093 + 1) 0xFFFFFFFF ∧ t.lock.exchange = s.lock.exchange) ∧
  (∀ (s : State) (o : Fin 67108864) (data : List Byte) (e : List Bool) (n : Nat), s.isReady = true → s.power.hostSel = 0 → s.inStep = false →
       (o.val / 2 ^ 20 + 1 : Int) ≠ s.ownBerth → s.berthIdentity (o.val / 2 ^ 20 + 1) ≠ 0 → s.mooring.stage = 0 →
       (data ≠ [] → data.length ≤ 256 → o.val % 2 ^ 20 + data.length ≤ 2 ^ 20 → s.freeTag false = none →
         exec (.bar2Write o data e) s = .next { s with lock := { s.lock with held := s.lock.held ++ [(true, .write o data e)] } }) ∧
       (n ≠ 0 → n ≤ 256 → o.val % 2 ^ 20 + n ≤ 2 ^ 20 → s.freeTag true = none →
         exec (.bar2Read o n) s = .next { s with lock := { s.lock with held := s.lock.held ++ [(true, .read o n)] } })) ∧
  (∀ (s : State) (o : Fin 67108864) (data : List Byte) (e : List Bool) (n : Nat), s.power.hostSel ≠ 0 →
       exec (.bar2Write o data e) s = .next s ∧ exec (.bar2Read o n) s = .next s) ∧
  (∀ (s : State) (o : Fin 67108864) (n : Nat), s.isReady = true → s.power.hostSel = 0 → s.inStep = false → s.lock.held = [] → (o.val / 2 ^ 20 + 1 : Int) = s.ownBerth →
       n ≠ 0 → o.val % 2 ^ 20 + n ≤ 0x40000 → n ≤ 256 → s.regionCause (o.val % 2 ^ 20) n false = 0 →
       exec (.bar2Read o n) s = .next (s.emit (.bar2 o (memReadAll s.lock.exchange (o.val % 2 ^ 20) n)))) ∧
  (∀ (s : State) (o : Fin 67108864) (n : Nat), s.isReady = true → s.power.hostSel = 0 → s.inStep = false → s.lock.held = [] → (o.val / 2 ^ 20 + 1 : Int) ≠ s.ownBerth →
       s.berthIdentity (o.val / 2 ^ 20 + 1) = 0 → n ≠ 0 → n ≤ 256 → o.val % 2 ^ 20 + n ≤ 2 ^ 20 →
       ∃ t, exec (.bar2Read o n) s = .next t ∧ .bar2 o (List.replicate n 0xFF) ∈ t.out ∧ t.lock.tx = s.lock.tx ∧
         t.int 0x360097 = min (s.int 0x360097 + 1) 0xFFFFFFFF) ∧
  (∀ (s : State) (a : Fin 256) (b : Fin 64), s.lock.tx = [] → exec (.lockWriteTimeout a) s = .next s ∧ exec (.lockReadTimeout b) s = .next s) ∧
  (∀ (s : State) (a : Fin 256) (x : LockTx), s.isReady = true → s.lock.tx = [x] → s.lock.held = [] → x.tag = a → x.host = none → x.fence = false → s.lock.fencePending = false → s.lock.errs = [] →
       ∃ t, exec (.lockWriteTimeout a) s = .next t ∧ t.lock.tx = [] ∧ t.lock.errs = [{ tag := x.tag, read := x.read, prefetch := x.prefetch, berth := x.berth, offset := ((x.berth - 1) * 2 ^ 20 + x.offset) % 2 ^ 26, cause := 6, retries := x.retries }] ∧
         t.int 0x360097 = min (s.int 0x360097 + 1) 0xFFFFFFFF) ∧
  (∀ (s : State) (b : Fin 64) (x : LockTx) (o n : Nat), s.isReady = true → s.lock.tx = [x] → s.lock.held = [] → x.tag = b.val + 256 → x.host = some (o, n) → x.fence = false → s.lock.fencePending = false → s.lock.errs = [] →
       ∃ t, exec (.lockReadTimeout b) s = .next t ∧ t.lock.tx = [] ∧ t.lock.errs.map (·.cause) = [6] ∧ .bar2 o (List.replicate n 0xFF) ∈ t.out) ∧
  (∀ (s : State), s.hostServed = true → (s.lock.tx.any (fun t => !t.read)) = true →
       ∃ t, exec (.lkFence 1) s = .next t ∧ t.lock.fencePending = true ∧ t.lock.tx = s.lock.tx.map (fun x => if x.read then x else { x with fence := true }) ∧
         t.gate = s.gate ∧ t.od = s.od) ∧
  (∀ (s : State), s.hostServed = true → s.lock.tx = [] → s.lock.fencePending = false →
       ∃ t, exec (.lkFence 1) s = .next t ∧ t.lock.fencePending = false ∧ t.lock.fenceFailed = false ∧ t.lock.tx = []) ∧
  (∀ (s : State) (e : LockErr) (q : List LockErr), s.hostServed = true → s.lock.errs = e :: q →
       ∃ t, exec (.lkErrPop 1) s = .next t ∧ t.lock.errs = q ∧ t.lock.overflow = (s.lock.overflow && decide (q ≠ [])) ∧ t.lock.tx = s.lock.tx) ∧
  (∀ (s : State), s.isReady = true → (∀ l ∈ s.lock.lines, s.lineAge l < 2) → exec .prefetchLineExpiry s = .next s) ∧
  (∀ (s : State) (l : LockLine), s.isReady = true → s.lock.lines = [l] → 2 ≤ s.lineAge l → l.sensitive = false → l.used = false →
       ∃ t, exec .prefetchLineExpiry s = .next t ∧ t.lock.lines = [] ∧ t.int 0x360099 = min (s.int 0x360099 + 1) 0xFFFFFFFF ∧ t.lock.errs = s.lock.errs)

/-- Lock messages for this berth act once; others do nothing. A message for another berth does nothing. WRITE writes the
exchange memory and counts, or is refused for want of a buffer with its tag kept; READ answers the bytes asked for;
READ_DATA answers the host and ends the read; ACK ends the write; REPORT ends it with its cause; RETRY keeps it as
refused and counts; DECLARE keeps 8 descriptors of its berth alone; SUMMARY_POLL is answered with the own bit; SUMMARY
takes the berth's bit; SUMMARY_STALE clears the berth's bit and marks it stale after 4 silent passages, and does
nothing before. Rules R421, R426, R427, R430, R431, R434. -/
def Obligations.LockMessagesAct : Prop :=
  (∀ (s : State) (m : LockMsg) (free ecc : Bool), s.lockForMe m = false →
       exec (.write m free ecc) s = .next s ∧ exec (.read m free ecc) s = .next s ∧ exec (.readData m) s = .next s ∧ exec (.ack m) s = .next s ∧
       exec (.report m) s = .next s ∧ exec (.retry m) s = .next s ∧ exec (.declare m) s = .next s ∧ exec (.summaryPoll m) s = .next s ∧ exec (.summary m) s = .next s) ∧
  (∀ (s : State) (m : LockMsg), s.isReady = true → s.inStep = false → s.lockForMe m = true → s.lock.seen = [] → Tab.get [] s.lock.refused m.origin.toNat = [] →
       s.lockOpen = true → s.regionCause m.offset m.data.length true = 0 → m.offset + m.data.length ≤ 0x40000 →
       ∃ t, exec (.write m true false) s = .next t ∧ t.lock.exchange = exchangeWrite s.lock.exchange m.offset m.data m.enables ∧
         t.int 0x36009B = min (s.int 0x36009B + 1) 0xFFFFFFFF ∧ t.lock.seen = [(m.origin.toNat, .write, m.tag)]) ∧
  (∀ (s : State) (m : LockMsg) (ecc : Bool), s.isReady = true → s.inStep = false → s.lockForMe m = true → s.lock.seen = [] → Tab.get [] s.lock.refused m.origin.toNat = [] →
       ∃ t, exec (.write m false ecc) s = .next t ∧ t.lock.exchange = s.lock.exchange ∧ Tab.get [] t.lock.refused m.origin.toNat = [m.tag] ∧
         t.int 0x360096 = min (s.int 0x360096 + 1) 0xFFFFFFFF) ∧
  (∀ (s : State) (m : LockMsg), s.isReady = true → s.inStep = false → s.lockForMe m = true → s.lock.seen = [] → Tab.get [] s.lock.refused m.origin.toNat = [] →
       s.lockOpen = true → s.regionCause m.offset m.length false = 0 → m.offset + m.length ≤ 0x40000 → s.lockLanes m.originBerth = [0] → s.ownsLock 0 = true →
       ∃ t o, exec (.read m true false) s = .next t ∧ t.lock.exchange = s.lock.exchange ∧ t.lock.outbox = s.lock.outbox ++ [o] ∧ o.kind = .readData ∧
         o.m.data = memReadAll s.lock.exchange m.offset m.length ∧ o.m.tag = m.tag ∧ o.dest = m.origin.toNat ∧ t.int 0x36009B = min (s.int 0x36009B + 1) 0xFFFFFFFF) ∧
  (∀ (s : State) (m : LockMsg) (x : LockTx) (o n : Nat), s.isReady = true → s.inStep = false → s.lockForMe m = true → s.lock.seen = [] → s.lock.tx = [x] → s.lock.held = [] →
       x.tag = m.tag → x.dest = m.origin.toNat → x.read = true → x.prefetch = false → x.host = some (o, n) →
       ∃ t, exec (.readData m) s = .next t ∧ t.lock.tx = [] ∧ t.out = s.out ++ [.bar2 o m.data] ∧ t.od = s.od) ∧
  (∀ (s : State) (m : LockMsg) (x : LockTx), s.isReady = true → s.inStep = false → s.lockForMe m = true → s.lock.seen = [] → s.lock.tx = [x] →
       s.lock.held = [] → m.tags = [x.tag] → x.dest = m.origin.toNat → x.read = false → s.lock.fencePending = false →
       ∃ t, exec (.ack m) s = .next t ∧ t.lock.tx = [] ∧ t.lock.errs = s.lock.errs ∧ t.od = s.od ∧ t.out = s.out) ∧
  (∀ (s : State) (m : LockMsg) (x : LockTx), s.isReady = true → s.inStep = false → s.lockForMe m = true → s.lock.seen = [] → s.lock.tx = [x] →
       s.lock.held = [] → x.tag = m.tag → x.dest = m.origin.toNat → x.host = none → x.fence = false → s.lock.fencePending = false → s.lock.errs = [] →
       ∃ t, exec (.report m) s = .next t ∧ t.lock.tx = [] ∧ t.lock.errs.map (·.cause) = [m.cause] ∧ t.int 0x360097 = min (s.int 0x360097 + 1) 0xFFFFFFFF) ∧
  (∀ (s : State) (m : LockMsg) (x : LockTx), s.isReady = true → s.inStep = false → s.lockForMe m = true → s.lock.seen = [] → s.lock.tx = [x] →
       s.lock.held = [] → m.tags = [x.tag] → x.dest = m.origin.toNat → x.retries + 1 ≤ s.nat 0x360083 →
       ∃ t, exec (.retry m) s = .next t ∧ t.lock.tx = [{ x with retries := x.retries + 1, refused := true }] ∧ t.int 0x360095 = min (s.int 0x360095 + 1) 0xFFFFFFFF) ∧
  (∀ (s : State) (m : LockMsg), s.isReady = true → s.inStep = false → s.lockForMe m = true → s.lock.seen = [] →
       ∃ t, exec (.declare m) s = .next t ∧ (Tab.get [] t.lock.declared m.originBerth).length = 8 ∧
         (∀ b : Nat, b ≠ m.originBerth → Tab.get [] t.lock.declared b = Tab.get [] s.lock.declared b) ∧ t.lock.tx = s.lock.tx) ∧
  (∀ (s : State) (m : LockMsg), s.isReady = true → s.inStep = false → s.lockForMe m = true → s.lock.seen = [] → s.lockLanes m.originBerth = [0] → s.ownsLock 0 = true →
       ∃ t o, exec (.summaryPoll m) s = .next t ∧ t.lock.outbox = s.lock.outbox ++ [o] ∧ o.kind = .summary ∧ o.dest = m.origin.toNat ∧
         o.m.data = [if s.summaryBit then 1 else 0] ∧ t.gate = s.gate ∧ t.od = s.od) ∧
  (∀ (s : State) (m : LockMsg), s.isReady = true → s.inStep = false → s.lockForMe m = true → s.lock.seen = [] →
       exec (.summary m) s = .next { s with lock := { s.lock with seen := [(m.origin.toNat, .summary, m.tag)], answered := Nat.lor s.lock.answered (2 ^ (m.originBerth - 1)), got := (if (m.data.getD 0 0).getLsbD 0 then Nat.lor s.lock.got (2 ^ (m.originBerth - 1)) else s.lock.got - Nat.land s.lock.got (2 ^ (m.originBerth - 1))) } }) ∧
  (∀ (s : State) (b : Fin 64), s.isReady = true →
       (4 ≤ Tab.get 0 s.lock.silent (b + 1) → ∃ t, exec (.summaryStale b) s = .next t ∧ t.lock.summary = s.lock.summary - Nat.land s.lock.summary (2 ^ b.val) ∧
         t.int 0x36009D = (Nat.lor (s.nat 0x36009D) (2 ^ b.val) : Nat)) ∧
       (Tab.get 0 s.lock.silent (b + 1) < 4 → exec (.summaryStale b) s = .next s))

/-- Camera pulses, missing frame starts, and the restarts of lost and faulted cameras. GENLOCK_PULSE sends the pulse of
the next frame at its instant, drives the chosen time pulse output at that instant's tick and fine part for its width,
and expects the frame under the entries in force; TRIGGER expects the frame of a network camera and, where its star
port is free, sends the message at once; FRAME_START_WINDOW_EXPIRED counts a missing frame (its count as a discarded
one is the model's choice, log 79) and, at the third in a row, takes a LOCKED camera to LOST; DESKEW_SEQUENCE moves
the CSI port between its states. CAMERA_LOCK_TIMEOUT takes a camera in WAIT_LOCK without a good frame to FAULTED, and
does nothing otherwise. With another script running on its CCI port, CAMERA_LOST_TIMEOUT and CAMERA_FAULT_TIMEOUT take
a LOST or FAULTED camera to INIT, count the restart and queue its script. Rules R27, R37, R41, R48, R50. -/
def Obligations.CamerasAreTimed : Prop :=
  (∀ (s : State) (n : Fin 8), s.isReady = true → s.pulsing n = true → s.isNetwork n = false → s.int (camDef n + 0x10) = 1 → s.ctValid = true →
       ∃ t, exec (.genlockPulse n) s = .next t ∧ t.out.getLast? = some (.genlock n (s.pulseInstant n (s.cam n).nextK)) ∧
         (t.cam n).expect = some { k := (s.cam n).nextK, at_ := s.pulseInstant n (s.cam n).nextK, exposure := s.exposureOf n (s.cam n).nextK, cfg := s.slotCfg n } ∧
         (t.cam n).nextK = (s.cam n).nextK + 1 ∧ (t.cam n).overdue = false ∧
         (s.nat (camDef n + 0x11) < 12 → (t.pulse (s.nat (camDef n + 0x11))).high = true ∧
           (t.pulse (s.nat (camDef n + 0x11))).width = s.nat (camDef n + 0x12) ∧
           (t.pulse (s.nat (camDef n + 0x11))).tick = (s.clock.ct.steps (s.pulseInstant n (s.cam n).nextK)).toNat / 32 ∧
           (t.pulse (s.nat (camDef n + 0x11))).fine = (s.clock.ct.steps (s.pulseInstant n (s.cam n).nextK)).toNat % 32)) ∧
  (∀ (s : State) (n : Fin 8), s.isReady = true → s.pulsing n = true → s.isNetwork n = true → s.ctValid = true → s.parked = false →
       ∃ t, exec (.trigger n) s = .next t ∧
         (t.cam n).expect = some { k := (s.cam n).nextK, at_ := s.exposureStart n (s.cam n).nextK, exposure := s.exposureOf n (s.cam n).nextK, cfg := s.slotCfg n } ∧
         (t.cam n).nextK = (s.cam n).nextK + 1 ∧ (t.cam n).lastSent = some (s.exposureOf n (s.cam n).nextK / 1000) ∧
         (s.starFree (s.camSource n - 0x10) 86 = true → (s.star (s.camSource n - 0x10)).queue = [] →
           t.out = s.out ++ [.star (s.camSource n - 0x10) 1 (starFrame (Config.endpointAddress n)
             (s.starHeader 0xA (s.triggerMessage n (s.cam n).nextK).length) s.fuses.identity s.fuses.identity
             (s.starSequence (s.camSource n - 0x10) 0xA) s.ct32 (s.triggerMessage n (s.cam n).nextK))])) ∧
  (∀ (s : State) (n : Fin 8) (e : Expected), s.isReady = true → (s.cam n).expect = some e → s.pulsing n = true →
       ∃ t, exec (.frameStartWindowExpired n) s = .next t ∧ (t.cam n).expect = none ∧ (t.cam n).overdue = true ∧ (t.cam n).good = 0 ∧ (t.cam n).bad = (s.cam n).bad + 1 ∧
         t.int (camCnt n + 2) = min (s.int (camCnt n + 2) + 1) 0xFFFFFFFF ∧
         (s.camState n = 3 → 3 ≤ (s.cam n).bad + 1 → t.camState n = 4) ∧ ((s.cam n).bad + 1 < 3 → t.camState n = s.camState n)) ∧
  (∀ (s : State) (p : Fin 4), s.isReady = true →
       exec (.deskewSequence p false) s = .next (s.put (Od.key (0x2840 + p) 0x10) 2) ∧
       (s.int (Od.key (0x2840 + p) 0x10) = 2 → exec (.deskewSequence p true) s = .next (s.put (Od.key (0x2840 + p) 0x10) 0)) ∧
       (s.int (Od.key (0x2840 + p) 0x10) ≠ 2 → exec (.deskewSequence p true) s = .next s)) ∧
  (∀ (s : State) (n : Fin 8), s.isReady = true → s.camState n = 2 → (s.cam n).good = 0 →
       ∃ t, exec (.cameraLockTimeout n) s = .next t ∧ t.camState n = 5 ∧ t.cam n = {} ∧ t.clock = s.clock) ∧
  (∀ (s : State) (n : Fin 8), s.camState n ≠ 2 ∨ (s.cam n).good ≠ 0 → exec (.cameraLockTimeout n) s = .next s) ∧
  (∀ (s : State) (n : Fin 8) (p : Nat), s.isReady = true → s.isNetwork n = false → s.camSource n = p + 1 → p < 4 → (s.script? p).isSome = true →
       (s.camState n = 4 → ∃ t, exec (.cameraLostTimeout n) s = .next t ∧ t.camState n = 1 ∧ t.cam n = { rows := (s.cam n).rows, shots := (s.cam n).shots } ∧
         t.int (camSt n + 6) = min (s.int (camSt n + 6) + 1) 0xFFFFFFFF ∧ t.video.waiting = s.video.waiting ++ [n.val]) ∧
       (s.camState n = 5 → ∃ t, exec (.cameraFaultTimeout n) s = .next t ∧ t.camState n = 1 ∧ t.cam n = { rows := (s.cam n).rows, shots := (s.cam n).shots } ∧
         t.int (camSt n + 6) = min (s.int (camSt n + 6) + 1) 0xFFFFFFFF ∧ t.video.waiting = s.video.waiting ++ [n.val]))

/-- Frames are opened, lines are taken or counted as errors, and frames end. FRAME_START opens the expected frame with the
exposure, geometry and entries it was pulsed under, counting a corrected header, or counts an unconfigured packet;
CSI_LONG_PACKET counts lines beyond the height, packets of no camera and embedded lines that fail their check (which
spoil the group, the model's choice, log 79), and stores a good line of an open group; CSI_SOT_ERROR counts and spoils
the group; FRAME_END closes a discarded frame silently and a complete YUV frame as good, counted, with its frame
number and stamp, and takes a camera to LOCKED after two; RVF_PACKET_RECEIVED is ignored off a network camera that is
triggered, and otherwise counts a sequence break and opens a frame that none expects as discarded, as a re-phase after
an adoption. Rules R38, R48. -/
def Obligations.FramesAreIngested : Prop :=
  (∀ (s : State) (p : Fin 4) (vc : Fin 16) (ecc : Fin 3) (fine : Fin 32) (n : Fin 8) (e : Expected), s.isReady = true → ecc.val < 2 → s.int (Od.key (0x2840 + p) 0x10) ≠ 0 →
       s.camAt p vc true = some (n.val, 0) → s.pulsing n = true → (s.cam n).frame = none → (s.cam n).rephaseUntil = none → (s.cam n).expect = some e →
       (s.under e.cfg).beyondEnvelope n e.exposure (s.ctAt s.clock.counter fine - e.at_) = false →
       (s.under e.cfg).int (camDef n + 0x1D) * 65536 ≤ s.ctAt s.clock.counter fine - e.at_ →
       s.ctAt s.clock.counter fine - e.at_ ≤ (s.under e.cfg).int (camDef n + 0x1E) * 65536 →
       ∃ t f, exec (.frameStart p ⟨vc, ecc⟩ fine) s = .next t ∧ (t.cam n).frame = some f ∧ f.k = e.k ∧ f.discard = false ∧ f.exposure = e.exposure ∧ f.cfg = e.cfg ∧
         f.width = (s.under e.cfg).nat (camDef n + 6) ∧ f.height = (s.under e.cfg).nat (camDef n + 7) ∧ (t.cam n).expect = none ∧
         t.int (camSt n + 4) = Int.tdiv (s.ctAt s.clock.counter fine - e.at_) 65536 ∧
         t.int (Od.key (0x2848 + p) 2) = (if ecc.val = 1 then min (s.int (Od.key (0x2848 + p) 2) + 1) 0xFFFFFFFF else s.int (Od.key (0x2848 + p) 2))) ∧
  (∀ (s : State) (p : Fin 4) (vc : Fin 16) (fine : Fin 32), s.isReady = true → s.camAt p vc true = none → s.int (Od.key (0x2840 + p) 0x10) ≠ 0 →
       exec (.frameStart p ⟨vc, 0⟩ fine) s = .next (s.bump (Od.key (0x2848 + p) 4))) ∧
  (∀ (s : State) (p : Fin 4) (k : CsiPacket) (n x : Nat) (f : FrameIn), s.isReady = true → k.ecc = 0 → k.extensionBits = false → s.camAt p k.vc = some (n, x) →
       (s.cam n).frame = some f → k.dataType ≠ 0x12 → k.dataType.toNat = formatType ((s.under f.cfg).nat (camDef n + 5)) → k.fifoFull = false → k.crcOk = true →
       f.discard = false → f.height ≤ Tab.get 0 f.rows x →
       exec (.csiLongPacket p k) s = .next (s.bump (camCnt n + 5))) ∧
  (∀ (s : State) (p : Fin 4) (k : CsiPacket) (n x : Nat) (f : FrameIn), s.isReady = true → k.ecc = 0 → k.extensionBits = false → s.camAt p k.vc = some (n, x) →
       (s.cam n).frame = some f → k.dataType ≠ 0x12 → k.dataType.toNat = formatType ((s.under f.cfg).nat (camDef n + 5)) → k.fifoFull = false → k.crcOk = true →
       f.discard = false → Tab.get 0 f.rows x < f.height →
       k.samples.length = (if isRaw f.format then f.width else 2 * f.width) →
       (let g : FrameIn := { f with rows := Tab.set 0 f.rows x (Tab.get 0 f.rows x + 1), testBit := (s.under f.cfg).testPixel n f x (Tab.get 0 f.rows x) k.samples, lines := f.lines ++ [{ exposure := x, row := Tab.get 0 f.rows x, samples := k.samples }] };
        groupFull g = false → exec (.csiLongPacket p k) s = .next (s.setCam n { s.cam n with frame := some g }))) ∧
  (∀ (s : State) (p : Fin 4) (k : CsiPacket), s.isReady = true → k.ecc = 0 → s.camAt p k.vc = none →
       exec (.csiLongPacket p k) s = .next (s.bump (Od.key (0x2848 + p) 4))) ∧
  (∀ (s : State) (p : Fin 4) (k : CsiPacket) (n : Fin 8) (x : Nat) (f : FrameIn), s.isReady = true → k.ecc = 0 → k.extensionBits = false → s.camAt p k.vc = some (n.val, x) →
       (s.cam n).frame = some f → k.dataType = 0x12 → k.fifoFull = false → k.crcOk = false → f.discard = false →
       ∃ t, exec (.csiLongPacket p k) s = .next t ∧ t.int (camCnt n + 4) = min (s.int (camCnt n + 4) + 1) 0xFFFFFFFF ∧
         (t.cam n).frame = some { f with embedded := f.embedded ++ [[]], groupBad := true }) ∧
  (∀ (s : State) (p : Fin 4), s.isReady = true →
       ∃ t, exec (.csiSotError p) s = .next t ∧ t.int (Od.key (0x2848 + p) 1) = min (s.int (Od.key (0x2848 + p) 1) + 1) 0xFFFFFFFF ∧
         (∀ (n : Nat) (f : FrameIn), s.camsOn p = [n] → (s.cam n).frame = some f → f.discard = false →
           (t.cam n).frame = some { f with groupBad := true })) ∧
  (∀ (s : State) (p : Fin 4) (vc : Fin 16) (n x : Nat) (f : FrameIn), s.isReady = true → s.camAt p vc = some (n, x) → x + 1 = (s.under f.cfg).nat (camDef n + 8) →
       (s.cam n).frame = some f → f.discard = true → exec (.frameEnd p ⟨vc, 0⟩) s = .next (s.setCam n { s.cam n with frame := none })) ∧
  (∀ (s : State) (p : Fin 4) (vc : Fin 16) (n x : Nat) (f : FrameIn), s.isReady = true → n < 8 → s.camAt p vc = some (n, x) → x + 1 = (s.under f.cfg).nat (camDef n + 8) →
       (s.cam n).frame = some f → f.discard = false → isRaw f.format = false → (∀ e < f.exposures, f.height ≤ Tab.get 0 f.rows e) →
       (s.under f.cfg).int (camDef n + 0x20) = 0 → (s.under f.cfg).int (camDef n + 0x24) = 0 →
       ∃ t, exec (.frameEnd p ⟨vc, 0⟩) s = .next t ∧ (t.cam n).frame = none ∧ (t.cam n).good = (s.cam n).good + 1 ∧ (t.cam n).bad = 0 ∧
         (t.cam n).lastK = some f.k ∧ t.int (camCnt n + 1) = min (s.int (camCnt n + 1) + 1) 0xFFFFFFFF ∧ t.int (camSt n + 2) = (f.k % 2 ^ 32 : Nat) ∧
         t.int (camSt n + 3) = (s.under f.cfg).stampOf n f.k f.exposure 0 ∧
         (s.camState n = 2 ∨ s.camState n = 4 → 2 ≤ (s.cam n).good + 1 → t.camState n = 3)) ∧
  (∀ (s : State) (n : Fin 8) (k : RvfPacket), s.pulsing n = false ∨ (s.packetView n).isNetwork n = false → exec (.rvfPacketReceived n k) s = .next s) ∧
  (∀ (s : State) (n : Fin 8) (k : RvfPacket), s.isReady = true → s.pulsing n = true → s.isNetwork n = true → (s.cam n).frame = none → (s.cam n).expect = none →
       ∃ t, exec (.rvfPacketReceived n k) s = .next t ∧ (t.cam n).sequence = some ((k.sequence.toNat + 1) % 256) ∧
         (k.lastOfFrame = true → (t.cam n).frame = none) ∧ (k.lastOfFrame = false → (t.cam n).frame.map (·.discard) = some true) ∧
         ((∃ q, (s.cam n).sequence = some q ∧ q ≠ k.sequence.toNat) → t.int (camCnt n + 0xB) = min (s.int (camCnt n + 0xB) + 1) 0xFFFFFFFF) ∧
         (∀ u, (s.cam n).rephaseUntil = some u → s.ctNow ≤ u → t.int (camCnt n + 0xE) = min (s.int (camCnt n + 0xE) + 1) 0xFFFFFFFF))

/-- CCI scripts run entry by entry with two retries; register accesses queue and report. CCI_SCRIPT_ENTRY_DONE retries a
NACKed entry and counts it, and goes on after a good one; CCI_SCRIPT_DELAY_EXPIRED goes on after a delay;
CCI_SCRIPT_WAIT_TIMEOUT ends the script and faults its camera in INIT; CCI_HOT_JOIN is answered with an assignment on
an I3C bus alone (the address is a free value, log 80); CCI_ACCESS_READ and CCI_ACCESS_WRITE take the record's fields
into the queue with result 0; CCI_ACCESS_DONE reports done with the value read, a timeout, or a NACK after two
retries, and ends an exposure write, doing nothing where none runs. Rules R30, R32, R33, R57. -/
def Obligations.ScriptsAndRegisterAccesses : Prop :=
  (∀ (s : State) (p : Fin 4) (x : Script), s.isReady = true → s.script? p = some x → x.waiting = 0 → (s.cciPort p).use = some .script → x.tries < 2 → s.scriptOp p x = 1 ∨ s.scriptOp p x = 2 →
       ∃ t, exec (.cciScriptEntryDone p .nack) s = .next t ∧ t.script? p = some { x with tries := x.tries + 1 } ∧
         t.int (cciRec p + 0x10) = min (s.int (cciRec p + 0x10) + 1) 0xFFFFFFFF ∧ t.out.length = s.out.length + 1) ∧
  (∀ (s : State) (p : Fin 4) (x : Script) (v : Nat), s.isReady = true → s.script? p = some x → x.waiting = 0 → (s.cciPort p).use = some .script → s.scriptOp p x = 1 →
       s.scriptOp p { x with pos := x.pos + 1, tries := 0, waiting := 0 } = 1 ∨ s.scriptOp p { x with pos := x.pos + 1, tries := 0, waiting := 0 } = 2 →
       ∃ t, exec (.cciScriptEntryDone p (.ok v)) s = .next t ∧ t.script? p = some { x with pos := x.pos + 1, tries := 0, waiting := 0 } ∧
         t.out.length = s.out.length + 1 ∧ t.od = s.od) ∧
  (∀ (s : State) (p : Fin 4) (x : Script), s.isReady = true → s.script? p = some x → x.waiting = 1 → (s.cciPort p).use = none →
       s.scriptOp p { x with pos := x.pos + 1, tries := 0, waiting := 0 } = 1 →
       ∃ t, exec (.cciScriptDelayExpired p) s = .next t ∧ t.script? p = some { x with pos := x.pos + 1, tries := 0, waiting := 0 } ∧
         t.out.length = s.out.length + 1 ∧ t.od = s.od) ∧
  (∀ (s : State) (p : Fin 4) (x : Script), s.isReady = true → s.script? p = some x → x.waiting = 2 → x.stop = false → x.slot < 8 → s.camState x.slot = 1 → s.video.waiting = [] →
       ∃ t, exec (.cciScriptWaitTimeout p) s = .next t ∧ t.script? p = none ∧ t.camState x.slot = 5) ∧
  (∀ (s : State) (p : Fin 4), s.isReady = true →
       (s.int (cciRec p + 1) = 0 → ∃ t, exec (.cciHotJoin p) s = .next t ∧ t.out = s.out ++ [.ccc p 0x07 0x7E none] ∧
         (t.cciPort p).dynamic.getLast? = some (0, s.freeNat % 128) ∧ t.free = s.free + 1 ∧ t.od = s.od) ∧
       (s.int (cciRec p + 1) ≠ 0 → exec (.cciHotJoin p) s = .next s)) ∧
  (∀ (s : State) (w : Writer), s.admits w 0x286006 [1] → s.video.access = none →
       ∃ t, exec (.cciAccessRead w) s = .next t ∧ t.int 0x286007 = 0 ∧ t.video.access = some { write := false, port := s.nat 0x286001, addr := s.nat 0x286002, reg := s.nat 0x286003, width := s.nat 0x286004, value := s.nat 0x286005 }) ∧
  (∀ (s : State) (w : Writer), s.admits w 0x286006 [2] → s.video.access = none →
       ∃ t, exec (.cciAccessWrite w) s = .next t ∧ t.int 0x286007 = 0 ∧ t.video.access = some { write := true, port := s.nat 0x286001, addr := s.nat 0x286002, reg := s.nat 0x286003, width := s.nat 0x286004, value := s.nat 0x286005 }) ∧
  (∀ (s : State) (j : CciJob) (v : Nat), s.isReady = true → s.video.access = some j → (s.cciPort j.port).use = some .access →
       (∃ t, exec (.cciAccessDone none (.ok v)) s = .next t ∧ t.video.access = none ∧ t.int 0x286007 = 1 ∧
         t.int 0x286005 = if j.write then s.int 0x286005 else (v % 256 ^ j.width : Nat)) ∧
       (∃ t, exec (.cciAccessDone none .timeout) s = .next t ∧ t.video.access = none ∧ t.int 0x286007 = 3) ∧
       (2 ≤ j.tries → j.port < 4 → ∃ t, exec (.cciAccessDone none .nack) s = .next t ∧ t.video.access = none ∧ t.int 0x286007 = 2)) ∧
  (∀ (s : State) (n : Fin 8) (p k v : Nat) (w : ExposureWrite), s.isReady = true → s.exposureBus n = some (p, k) → (s.cam n).write = some w → w.frame = k →
       ∃ t, exec (.cciAccessDone (some n) (.ok v)) s = .next t ∧ (t.cam n).write = none ∧ (t.cam n).schedule = (s.cam n).schedule ∧ t.od = s.od) ∧
  (∀ (s : State) (n : Fin 8) (r : BusResult), s.exposureBus n = none → exec (.cciAccessDone (some n) r) s = .next s)

/-- View definitions wait, are admitted or refused, pan falls back, slices are warped. PAN_TIMEOUT takes the target of the
frames to come to the fallback pan; VIEW_DEFINITION_RECEIVED with no other waiting keeps the definition with its
answer, and an admitted one becomes an instance with its engine and encoder beside those that go on, while a refused
one is counted; WARP_SLICE_PRODUCED warps the next slice of the window's rows with its damaged flag, and does nothing
for an unknown instance. Rules R70, R74, R76. -/
def Obligations.ViewsAtTheSource : Prop :=
  (∀ (s : State) (req : BitVec 64) (view : Fin 16) (inst : Nat), s.isReady = true →
       s.slices.instances.any (fun i => i.is req.toNat view inst && i.d.panOn && decide (i.signal ≠ 3)) = true →
       ∃ t, exec (.panTimeout req view inst) s = .next t ∧
         t.slices.instances = s.slices.instances.map (fun i => if i.is req.toNat view inst && i.d.panOn then { retarget (s.nextInstant i.d.slot.val s.ctNow) i.d.panFallback i with signal := 3 } else i) ∧
         t.video = s.video ∧ t.line = s.line) ∧
  (∀ (s : State) (d : ViewDef), s.isReady = true → s.slices.requests = [] → s.refusalOf d = 0 → s.breachOf d = 0 →
       ∃ t i, exec (.viewDefinitionReceived d) s = .next t ∧ t.slices.instances = s.slices.instances.filter (·.active) ++ [i] ∧
         i.d = d ∧ i.active = false ∧ i.engine = s.engineAmong (s.otherInstances d) d ∧ i.encoder = s.encoderAmong (s.otherInstances d) d ∧
         t.slices.requests.map (fun r => (r.d, r.answer.map (fun a => (a.reason, a.breach)))) = [(d, some (0, 0))]) ∧
  (∀ (s : State) (d : ViewDef), s.isReady = true → s.slices.requests = [] → s.refusalOf d ≠ 0 →
       ∃ t, exec (.viewDefinitionReceived d) s = .next t ∧ t.slices.instances = s.slices.instances.filter (·.active) ∧
         t.int 0x28B005 = min (s.int 0x28B005 + 1) 0xFFFFFFFF ∧
         t.slices.requests.map (fun r => (r.d, r.answer.map (fun a => (a.reason, a.breach)))) = [(d, some (s.refusalOf d, 0))]) ∧
  (∀ (s : State) (req : BitVec 64) (view : Fin 16) (inst : Nat) (i : Instance) (k j : Nat) (lo hi : Int) (row : Row), s.isReady = true →
       s.slices.instances = [i] → i.is req.toNat view inst = true → i.active = true → s.spent i = false → s.nextSlice i = (k, j) →
       i.from_ ≤ s.camInstant i.d.slot.val k → s.reserved i.d = true → s.slicerows i k j = some (lo, hi) → s.windowRow i.d.slot.val k hi = some row →
       ∃ t w, exec (.warpSliceProduced req view inst) s = .next t ∧ (t.slices.instances.map (·.warped)) = [i.warped ++ [w]] ∧ w.k = k ∧ w.j = j ∧
         w.px = (s.warpSlice i k j).1 ∧ w.damaged = (s.warpSlice i k j).2 ∧ t.od = s.od ∧ t.out = s.out) ∧
  (∀ (s : State) (req : BitVec 64) (view : Fin 16) (inst : Nat), (∀ i ∈ s.slices.instances, i.is req.toNat view inst = false) →
       exec (.warpSliceProduced req view inst) s = .next s)

/-- Slices are encoded with their header, and received fragments are gathered, refused or counted. SLICE_ENCODED puts the
oldest warped slice out with its header, fragment count, coded data of the stated length and tag, counted and in
flight; SLICE_FRAGMENT_RECEIVED counts an unbound stream, a malformed slice once, starts a slice of several fragments,
and counts a slice whose tag fails, showing nothing of it; SLICE_FORWARD sends the last fragment of a slice on the
star port of its network display and counts the slice, or does nothing where none waits. Rules R91, R98, R112. -/
def Obligations.SlicesAreCodedAndReceived : Prop :=
  (∀ (s : State) (req : BitVec 64) (view : Fin 16) (inst : Nat) (i : Instance) (w : Warped) (rest : List Warped) (e : Epochs) (f : Nat), s.isReady = true →
       s.slices.instances = [i] → i.is req.toNat view inst = true → i.warped = w :: rest → s.spent { i with warped := rest } = false →
       s.ownStream req.toNat view inst = some e → e.waiting = false → e.turn = none ∨ e.turn = some (w.k / 2 ^ 32) →
       i.d.local_ = false → s.fragmentSize i.d.streamNumber req.toNat = some f → s.flightFull (sliceBytes i.d.width i.d.bitsPerPixel w.rows) = false →
       s.pairing = false →
       ∃ t o, exec (.sliceEncoded req view inst) s = .next t ∧ t.slices.instances = [{ i with warped := rest }] ∧ t.slices.out = s.slices.out ++ [o] ∧
         o.h = s.sliceHeader i w e.epoch (fragmentsIn (sliceBytes i.d.width i.d.bitsPerPixel w.rows) f) ∧
         o.data = codedData i w ∧ o.data.length = sliceBytes i.d.width i.d.bitsPerPixel w.rows ∧ o.tag = sliceTag e.key o.h o.data ∧
         o.sink = req.toNat ∧ t.int 0x2C0006 = min (s.int 0x2C0006 + 1) 0xFFFFFFFF ∧ t.int 0x2C0004 = s.inFlight + 1) ∧
  (∀ (s : State) (c : Chan) (h : SliceHeader) (data : List Byte) (tagOk : Bool), s.isReady = true →
       (s.boundFor h = none → exec (.sliceFragmentReceived c h data tagOk) s = .next (s.bump 0x2C000B)) ∧
       (∀ b : Bound, s.boundFor h = some b → s.slices.bad.any (fun x => decide (x.1 = c) && sameSlice x.2 h) = true →
         exec (.sliceFragmentReceived c h data tagOk) s = .next s) ∧
       (∀ b : Bound, s.boundFor h = some b → s.slices.bad.any (fun x => decide (x.1 = c) && sameSlice x.2 h) = false → s.malformed b.view h = true →
         ∃ t, exec (.sliceFragmentReceived c h data tagOk) s = .next t ∧ t.int 0x2C000A = min (s.int 0x2C000A + 1) 0xFFFFFFFF ∧
           t.slices.bad.getLast? = some (c, shared h) ∧ t.slices.seen = s.slices.seen ∧ t.slices.displays = s.slices.displays)) ∧
  (∀ (s : State) (c : Chan) (h : SliceHeader) (data : List Byte) (tagOk : Bool) (b : Bound), s.isReady = true → s.boundFor h = some b → s.malformed b.view h = false →
       s.slices.bad.any (fun x => decide (x.1 = c) && sameSlice x.2 h) = false →
       s.slices.incoming.find? (fun x => decide (x.chan = c) && sameSlice x.h h) = none → h.fragment = 0 → 1 < h.fragments →
       (s.abandonOlder c h).flightFull (sliceBytes (s.viewW b.view) h.bitsPerPixel (sliceRows (s.viewH b.view) (s.sliceH b.view) h.index)) = false →
       ∃ t, exec (.sliceFragmentReceived c h data tagOk) s = .next t ∧
         t.slices.incoming = (s.abandonOlder c h).slices.incoming ++ [{ chan := c, h := h, got := [(0, data)], bytes := sliceBytes (s.viewW b.view) h.bitsPerPixel (sliceRows (s.viewH b.view) (s.sliceH b.view) h.index) + 48 }] ∧
         t.int 0x2C0004 = (s.abandonOlder c h).inFlight + 1) ∧
  (∀ (s : State) (c : Chan) (h : SliceHeader) (data : List Byte) (b : Bound), s.isReady = true → s.boundFor h = some b → s.malformed b.view h = false →
       s.slices.bad.any (fun x => decide (x.1 = c) && sameSlice x.2 h) = false →
       s.slices.incoming = [] → h.fragment = 0 → h.fragments = 1 → s.flightFull (sliceBytes (s.viewW b.view) h.bitsPerPixel (sliceRows (s.viewH b.view) (s.sliceH b.view) h.index)) = false →
       ∃ t, exec (.sliceFragmentReceived c h data false) s = .next t ∧ t.int 0x2C0008 = min (s.int 0x2C0008 + 1) 0xFFFFFFFF ∧
         t.int 0x2C0007 = s.int 0x2C0007 ∧ t.slices.displays = s.slices.displays ∧ t.slices.seen = s.slices.seen) ∧
  (∀ (s : State) (n : Fin 8) (x : Forward) (data : List Byte), s.isReady = true → s.slices.forward = [x] → x.display = n.val → x.left = [data] →
       s.starUp (s.forwardPort n) = true → s.parked = false → (s.star (s.forwardPort n)).queue = [] →
       s.starFree (s.forwardPort n) (s.forwardFrame x data).length = true →
       ∃ t, exec (.sliceForward n) s = .next t ∧ t.slices.forward = [] ∧
         t.out = s.out ++ [.star (s.forwardPort n) 2 (s.forwardFrame x data)] ∧
         t.int (Od.key (0x2C78 + n) 0x10) = min (s.int (Od.key (0x2C78 + n) 0x10) + 1) 0xFFFFFFFF ∧ t.int 0x2C000D = min (s.int 0x2C000D + 1) 0xFFFFFFFF) ∧
  (∀ (s : State) (n : Fin 8), s.slices.forward.find? (fun x => decide (x.display = n.val)) = none → exec (.sliceForward n) s = .next s)

/-- Panels start, frames align, slices are cut off, emitted and ended. PANEL_SCRIPT_END takes a display to ALIGN;
DISPLAY_FRAME_START numbers the frame, reports its phase error, counts frames within 10 us towards ACTIVE and realigns
past it, with a trim within +-2,000; SLICE_CUT_OFF promotes the expected slice that has come in time, and does nothing
for an unbound region but settle the outputs; SLICE_EMITTED sends the rows of a slice and takes the latency of a
promoted one; DISPLAY_FRAME_END counts down the hold of a display without bound regions. Rules R102, R103, R107, R108,
R113. -/
def Obligations.DisplaysShowSlices : Prop :=
  (∀ (s : State) (d : Fin 2), s.isReady = true → s.dispState d = 1 →
       ∃ t, exec (.panelScriptEnd d) s = .next t ∧ t.dispState d = 2 ∧ (t.disp d).aligned = 0 ∧ (t.disp d).lengthen = true ∧ t.out = s.out) ∧
  (∀ (s : State) (d : Fin 2) (fine : Fin 32), s.dispState d < 2 → exec (.displayFrameStart d fine) s = .next s) ∧
  (∀ (s : State) (d : Fin 2) (fine : Fin 32) (m : Nat) (err : Int), s.isReady = true → s.dispState d = 2 →
       m = ((2 * (s.ctAt s.clock.counter fine - s.dispPhase d) + max 1 (s.dispPeriod d)) / (2 * max 1 (s.dispPeriod d))).toNat →
       err = s.ctAt s.clock.counter fine - s.frameInstant d m →
       ∃ t, exec (.displayFrameStart d fine) s = .next t ∧ (t.disp d).m = m ∧ t.int (dsiSt d + 2) = (m % 2 ^ 32 : Nat) ∧ t.int (dsiSt d + 3) = Int.tdiv err 65536 ∧
         (-655360 ≤ err → err ≤ 655360 → (t.disp d).aligned = (s.disp d).aligned + 1 ∧ (t.dispState d = 3 ↔ 3 ≤ (s.disp d).aligned)) ∧
         (655360 < err → (t.disp d).aligned = 0 ∧ t.dispState d = 2) ∧ -2000 ≤ t.int (dsiSt d + 4) ∧ t.int (dsiSt d + 4) ≤ 2000) ∧
  (∀ (s : State) (d : Fin 2) (i : Fin 6) (j m v k : Nat) (c : Cell), s.isReady = true → (s.laid d).regionView d (i + 1) = some v → v < 16 → 2 ≤ s.dispState d →
       j < (s.laid d).viewSlices v → s.pairing = false →
       (s.region d (i + 1)).marks = [] → (s.disp d).hold = 0 → s.isLocal v = false → Tab.find? (s.region d (i + 1)).incoming j = some c → Tab.find? (s.region d (i + 1)).held j = none →
       s.expected v j ((s.laid d).cutOff d (i + 1) v m j) = some k → c.h.frame.toNat = k % 2 ^ 32 → c.stored ≤ (s.laid d).cutOff d (i + 1) v m j → c.h.damaged = false →
       (s.region d (i + 1)).checkFailed = [] → (s.laid d).sliceLast d (i + 1) v m j - c.exposed ≤ s.int (streamSt v + 2) * 65536 → (s.region d (i + 1)).lost = true →
       ∃ t, exec (.sliceCutOff d i j m) s = .next t ∧ Tab.find? (t.region d (i + 1)).held j = some c ∧
         (t.region d (i + 1)).marks = [{ m := m, j := j, current := true, first := true, frame := some c.h.frame.toNat }] ∧
         t.int (regSt d (i + 1) + 2) = (c.h.frame.toNat : Int)) ∧
  (∀ (s : State) (d : Fin 2) (i : Fin 6) (j m : Nat), s.isReady = true → (s.laid d).regionView d (i + 1) = none → exec (.sliceCutOff d i j m) s = .next s.settle) ∧
  (∀ (s : State) (d : Fin 2) (i : Fin 6) (j : Nat) (fine : Fin 32) (v : Nat) (c : Cell), s.isReady = true → (s.laid d).regionView d (i + 1) = some v →
       2 ≤ s.dispState d → s.parked = false → Tab.find? (s.region d (i + 1)).held j = some c →
       (s.region d (i + 1)).marks.any (fun x => decide (x.m = (s.disp d).m ∧ x.j = j) && x.first) = true →
       ∃ t, exec (.sliceEmitted d i j fine) s = .next t ∧ t.od = s.od ∧
         t.out.length = s.out.length + sliceRows ((s.laid d).viewH v) ((s.laid d).sliceH v) j ∧
         (t.region d (i + 1)).latency = some (max ((s.ctAt s.clock.counter fine - c.exposed) / 65536).toNat ((s.region d (i + 1)).latency.getD 0))) ∧
  (∀ (s : State) (d : Fin 2) (i : Fin 6) (j : Nat) (fine : Fin 32), (s.laid d).regionView d (i + 1) = none ∨ s.dispState d < 2 → exec (.sliceEmitted d i j fine) s = .next s) ∧
  (∀ (s : State) (d : Fin 2), s.isReady = true → s.dispState d < 2 → exec (.displayFrameEnd d) s = .next s.settle) ∧
  (∀ (s : State) (d : Fin 2), s.isReady = true → 2 ≤ s.dispState d → (∀ i : Fin 7, (s.laid d).regionView d i = none) →
       ∃ t, exec (.displayFrameEnd d) s = .next t ∧ (t.disp d).hold = (s.disp d).hold - 1 ∧ (t.disp d).regions = (s.disp d).regions ∧ t.clock = s.clock)

/-- CAN transmit buffers are requested, aborted, sent and lost. TX_REQUEST makes a buffer pending or is refused with 0x0C
where it is; TX_ABORT aborts a pending buffer, or marks the one on the bus; CAN_TX_COMPLETE reports the frame sent
with its stamp and counts it, lowering the transmit error counter (ISO 11898, presumed, log 41); ARBITRATION_LOST
counts and ends a buffer marked for abort or of one attempt. Rules R441, R442. -/
def Obligations.BuffersAreSent : Prop :=
  (∀ (s : State) (w : Writer) (c : Fin 4) (b : Fin 3), s.admits w (bufRec c b + 5) [1] →
       (s.int (bufRec c b + 6) = 1 → exec (.txRequest w c b) s = .next (s.respond w 0x0C [])) ∧
       (s.int (bufRec c b + 6) ≠ 1 → exec (.txRequest w c b) s = .next ((((s.canAct c (s.bufFrame c b)).put (bufRec c b + 6) 1).canPump c).respond w 0 []))) ∧
  (∀ (s : State) (w : Writer) (c : Fin 4) (b : Fin 3), s.admits w (bufRec c b + 5) [2] →
       (s.int (bufRec c b + 6) ≠ 1 → exec (.txAbort w c b) s = .next (s.respond w 0 [])) ∧
       (s.int (bufRec c b + 6) = 1 → (s.canPort c).onBus ≠ some b.val →
         ∃ t, exec (.txAbort w c b) s = .next t ∧ t.int (bufRec c b + 6) = 3 ∧ (t.canPort c).onBus = (s.canPort c).onBus) ∧
       (s.int (bufRec c b + 6) = 1 → (s.canPort c).onBus = some b.val →
         ∃ t, exec (.txAbort w c b) s = .next t ∧ t.int (bufRec c b + 6) = 1 ∧
           (t.canPort c).abort = (s.canPort c).abort ||| BitVec.ofNat 3 (2 ^ b.val) ∧ (t.canPort c).onBus = (s.canPort c).onBus)) ∧
  (∀ (s : State) (c : Fin 4) (ago n : Nat), s.isReady = true → (s.canPort c).onBus = some n → n < 3 →
       ∃ t, exec (.canTxComplete c ago) s = .next t ∧ .can c (s.bufFrame c n) ∈ t.out ∧ t.int (bufRec c n + 6) = 2 ∧
         t.int (bufRec c n + 7) = s.ct32At (s.clock.counter - ago) 0 ∧ t.int (canCnt c + 2) = min (s.int (canCnt c + 2) + 1) 0xFFFFFFFF ∧
         t.int (canSt c + 2) = max 0 (s.int (canSt c + 2) - 1)) ∧
  (∀ (s : State) (c : Fin 4) (ago : Nat), (s.canPort c).onBus = none → exec (.canTxComplete c ago) s = .next s) ∧
  (∀ (s : State) (c : Fin 4) (n : Fin 3), s.isReady = true → (s.canPort c).onBus = some n.val →
       ∃ t, exec (.arbitrationLost c) s = .next t ∧ t.int (canCnt c + 6) = min (s.int (canCnt c + 6) + 1) 0xFFFFFFFF ∧ (s.maySend c = false → (t.canPort c).onBus = none) ∧
         t.int (bufRec c n + 6) = (if (s.canPort c).abort.getLsbD n = true then 3 else if s.int (bufRec c n + 8) ≠ 0 then 4 else s.int (bufRec c n + 6))) ∧
  (∀ (s : State) (c : Fin 4), (s.canPort c).onBus = none → exec (.arbitrationLost c) s = .next s)

/-- Receive objects are released, frames are counted, tunnelled frames leave at their instant. RX_RELEASE frees an object
or moves its shadow frame in; CAN_FRAME_RECEIVED does nothing where the port does not hear and otherwise counts the
frame per port and in total and lowers the receive error counter (ISO 11898, presumed, log 41); TUNNEL_RELEASE waits
for the instant of the oldest record and then queues its frame and counts it. Rules R444, R456. -/
def Obligations.FramesAreReceived : Prop :=
  (∀ (s : State) (w : Writer) (c : Fin 4) (o : Fin 24) (v : Byte), s.admits w (objRec c o + 0x0B) [v] → Tab.find? (s.canPort c).shadow o = none →
       exec (.rxRelease w c o v) s = .next ((s.put (objRec c o + 5) 0).respond w 0 [])) ∧
  (∀ (s : State) (w : Writer) (c : Fin 4) (o : Fin 24) (v : Byte) (x : RxFrame), s.admits w (objRec c o + 0x0B) [v] → Tab.find? (s.canPort c).shadow o = some x →
       ∃ t, exec (.rxRelease w c o v) s = .next t ∧ t.int (objRec c o + 5) = 1 ∧ t.int (objRec c o + 6) = x.frame.ident.toNat ∧
         t.int (objRec c o + 8) = x.frame.dlc.val ∧ t.int (objRec c o + 0x0A) = x.stamp ∧ Tab.find? (t.canPort c).shadow o = none) ∧
  (∀ (s : State) (c : Fin 4) (f : Sys2Proof.CanFrame) (ago : Nat), s.isReady = true → s.inStep = false → s.canHears c = false →
       exec (.canFrameReceived c f ago) s = .next s) ∧
  (∀ (s : State) (c : Fin 4) (f : Sys2Proof.CanFrame) (ago : Nat), s.isReady = true → s.inStep = false → s.canHears c = true → c ≠ 0 → s.canState c ≠ 5 →
       ∃ t, exec (.canFrameReceived c f ago) s = .next t ∧ t.int (canCnt c + 1) = min (s.int (canCnt c + 1) + 1) 0xFFFFFFFF ∧
         t.int 0x330002 = min (s.int 0x330002 + 1) 0xFFFFFFFF ∧ (s.int (canSt c + 3) ≤ 127 → t.int (canSt c + 3) = max 0 (s.int (canSt c + 3) - 1)) ∧
         (127 < s.int (canSt c + 3) → 119 ≤ t.int (canSt c + 3) ∧ t.int (canSt c + 3) ≤ 127)) ∧
  (∀ (s : State) (e : Egress) (q : List Egress), s.isReady = true → s.canopen.egress = e :: q →
       (s.ctNow < e.at_ → exec .tunnelRelease s = .next s) ∧
       (e.at_ ≤ s.ctNow → e.route < 64 → s.nat (routeRec e.route + 3) ≤ 3 → s.int (routeRec e.route + 8) = 0 → (s.canPort (s.nat (routeRec e.route + 3))).service.length < 16 →
         ∃ t, exec .tunnelRelease s = .next t ∧ t.canopen.egress = q ∧
           (t.canPort (s.nat (routeRec e.route + 3))).service = (s.canPort (s.nat (routeRec e.route + 3))).service ++ [e.what.frame] ∧
           t.int (routeRec e.route + 0x0A) = min (s.int (routeRec e.route + 0x0A) + 1) 0xFFFFFFFF)) ∧
  (∀ (s : State), s.canopen.egress = [] → exec .tunnelRelease s = .next s)

/-- Bus errors move the port between its states, and bit-rate detection narrows its candidates. CAN_BUS_ERROR on an active
port raises the transmit or the receive error counter, keeps the code of its phase and counts, enters error passive
past 127 and bus-off past 255 (ISO 11898, presumed, log 41); in listen-only it only keeps the code, on trial it drops
the candidate, and it does nothing on a port off or bus-off; RECOVERY_REQUEST arms recovery on a bus-off port;
BUS_OFF_RECOVERED returns it to error active with clear counters where recovery is automatic or asked for;
START_DETECTION, DETECTION_EDGE and DETECTION_TIMEOUT start, narrow, decide and fail the detection. Rules R446, R447. -/
def Obligations.CanErrorsAndDetection : Prop :=
  (∀ (s : State) (c : Fin 4) (tx dataPhase : Bool) (kind : Fin 7), s.isReady = true → s.canState c = 1 ∨ s.canState c = 2 → s.int (canSt c + 2) + (if tx then 8 else 0) ≤ 255 →
       ∃ t, exec (.canBusError c tx kind dataPhase) s = .next t ∧ t.int (canSt c + 2) = s.int (canSt c + 2) + (if tx then 8 else 0) ∧
         t.int (canSt c + 3) = min (s.int (canSt c + 3) + (if tx then 0 else 1)) 255 ∧ t.int (canSt c + (if dataPhase then 5 else 4)) = kind.val ∧
         t.int (canCnt c + 3) = min (s.int (canCnt c + 3) + 1) 0xFFFFFFFF ∧
         (s.canState c = 1 → 127 < s.int (canSt c + 2) + (if tx then 8 else 0) ∨ 127 < s.int (canSt c + 3) + (if tx then 0 else 1) →
           t.canState c = 2 ∧ t.int (canCnt c + 4) = min (s.int (canCnt c + 4) + 1) 0xFFFFFFFF) ∧
         (s.canState c = 1 → s.int (canSt c + 2) + (if tx then 8 else 0) ≤ 127 → s.int (canSt c + 3) + (if tx then 0 else 1) ≤ 127 → t.canState c = 1) ∧
         (s.canState c = 2 → t.canState c = 2)) ∧
  (∀ (s : State) (c : Fin 4) (dataPhase : Bool) (kind : Fin 7), s.isReady = true → s.canState c = 1 ∨ s.canState c = 2 → 247 < s.int (canSt c + 2) →
       ∃ t, exec (.canBusError c true kind dataPhase) s = .next t ∧ t.canState c = 3 ∧ t.int (canCnt c + 5) = min (s.int (canCnt c + 5) + 1) 0xFFFFFFFF ∧
         (t.canPort c).onBus = none) ∧
  (∀ (s : State) (c : Fin 4) (tx dataPhase : Bool) (kind : Fin 7), s.isReady = true → s.canState c = 4 ∨ (s.canState c = 5 ∧ s.int (canDet c + 3) ≠ 2) →
       exec (.canBusError c tx kind dataPhase) s = .next (s.put (canSt c + (if dataPhase then 5 else 4)) kind.val)) ∧
  (∀ (s : State) (c : Fin 4) (tx dataPhase : Bool) (kind : Fin 7) (i : Nat), s.isReady = true → s.canState c = 5 → s.int (canDet c + 3) = 2 → (s.canPort c).detect.trial = some i →
       (s.canPort c).detect.alive.filter (fun j => j ≠ i) ≠ [] →
       ∃ t, exec (.canBusError c tx kind dataPhase) s = .next t ∧ t.int (canDet c + 3) = 1 ∧ t.canState c = 5 ∧
         (t.canPort c).detect = { alive := (s.canPort c).detect.alive.filter (fun j => j ≠ i) }) ∧
  (∀ (s : State) (c : Fin 4) (tx d : Bool) (kind : Fin 7), s.canState c = 0 ∨ s.canState c = 3 → exec (.canBusError c tx kind d) s = .next s) ∧
  (∀ (s : State) (w : Writer) (c : Fin 4) (v : Byte), s.admits w (canSt c + 6) [v] →
       (s.canState c = 3 → exec (.recoveryRequest w c v) s = .next ((s.setCan c { s.canPort c with recovering := true }).respond w 0 [])) ∧
       (s.canState c ≠ 3 → exec (.recoveryRequest w c v) s = .next (s.respond w 0 []))) ∧
  (∀ (s : State) (c : Fin 4), s.isReady = true → s.canState c = 3 → s.int (canCfg c + 0x0D) ≠ 0 ∨ (s.canPort c).recovering = true →
       ∃ t, exec (.busOffRecovered c) s = .next t ∧ t.canState c = 1 ∧ t.int (canSt c + 2) = 0 ∧ t.int (canSt c + 3) = 0 ∧ (t.canPort c).recovering = false) ∧
  (∀ (s : State) (c : Fin 4), s.canState c ≠ 3 ∨ (s.int (canCfg c + 0x0D) = 0 ∧ (s.canPort c).recovering = false) → exec (.busOffRecovered c) s = .next s) ∧
  (∀ (s : State) (w : Writer) (c : Fin 4) (v : Byte), s.admits w (canDet c + 7) [v] → 8 ≤ (s.bytes (canDet c + 1)).length →
       ∃ t, exec (.startDetection w c v) s = .next t ∧ t.int (canDet c + 3) = 1 ∧ t.canState c = 5 ∧ t.int (canDet c + 4) = 0xFF ∧ (t.canPort c).rates = none ∧
         (t.canPort c).detect = { alive := List.range (s.bitRates c).length }) ∧
  (∀ (s : State) (w : Writer) (c : Fin 4) (v : Byte), s.admits w (canDet c + 7) [v] → (s.bytes (canDet c + 1)).length < 8 →
       ∃ t, exec (.startDetection w c v) s = .next t ∧ t.int (canDet c + 3) = 4 ∧ t.canState c = 4 ∧ t.int (canDet c + 4) = 0xFF ∧ (t.canPort c).rates = none ∧
         (t.canPort c).detect = {}) ∧
  (∀ (s : State) (c : Fin 4) (cycles : Nat), s.int (canDet c + 3) ≠ 1 → exec (.detectionEdge c cycles) s = .next s) ∧
  (∀ (s : State) (c : Fin 4) (cycles : Nat), s.isReady = true → s.int (canDet c + 3) = 1 →
       (∀ i ∈ (s.canPort c).detect.alive, edgeFits ((s.bitRates c).getD i (0, 0)).1 cycles = false) →
       exec (.detectionEdge c cycles) s = .next (((s.put (canDet c + 3) 4).put (canSt c + 1) 4).setCan c { s.canPort c with detect := {} })) ∧
  (∀ (s : State) (c : Fin 4) (cycles : Nat), s.isReady = true → s.int (canDet c + 3) = 1 →
       (∃ i ∈ (s.canPort c).detect.alive, edgeFits ((s.bitRates c).getD i (0, 0)).1 cycles = true) →
       ∃ t, exec (.detectionEdge c cycles) s = .next t ∧
         (t.canPort c).detect.alive = (s.canPort c).detect.alive.filter (fun i => edgeFits ((s.bitRates c).getD i (0, 0)).1 cycles) ∧
         t.int (canDet c + 3) = if 31 ≤ (s.canPort c).detect.edges then 2 else 1) ∧
  (∀ (s : State) (c : Fin 4), s.isReady = true → s.int (canDet c + 3) = 1 ∨ s.int (canDet c + 3) = 2 →
       exec (.detectionTimeout c) s = .next (((s.put (canDet c + 3) 4).put (canSt c + 1) 4).setCan c { s.canPort c with detect := {} })) ∧
  (∀ (s : State) (c : Fin 4), s.int (canDet c + 3) ≠ 1 → s.int (canDet c + 3) ≠ 2 → exec (.detectionTimeout c) s = .next s)

/-- NMT commands, heartbeats, EMCY and TIME of the node on CAN0. NMT commands for another node do nothing; for this node
they enter operational, stopped and pre-operational, and the resets take the configured node-ID, empty what waits and
enter the start-up state. HEARTBEAT_PRODUCE queues the state; HEARTBEAT_RECEIVED and HEARTBEAT_TIMEOUT move the
consumer entries; EMCY_INHIBIT_EXPIRED sends the next waiting EMCY; TIME_PRODUCE queues NT's time of day where the
node produces it. Rules R378, R449, R451, R453. -/
def Obligations.CanopenNodeStates : Prop :=
  (∀ (s : State) (node : Fin 128), node.val ≠ 0 → node.val ≠ s.canopen.nodeId →
       exec (.nmtStart node) s = .next s ∧ exec (.nmtStop node) s = .next s ∧ exec (.nmtEnterPreoperational node) s = .next s ∧
       exec (.nmtResetNode node) s = .next s ∧ exec (.nmtResetCommunication node) s = .next s) ∧
  (∀ (s : State) (node : Fin 128), s.isReady = true → node.val = 0 ∨ node.val = s.canopen.nodeId → s.int 0x330103 ≠ 0 →
       (∃ t, exec (.nmtStart node) s = .next t ∧ t.int 0x330103 = 5) ∧ (∃ t, exec (.nmtStop node) s = .next t ∧ t.int 0x330103 = 4) ∧
       (∃ t, exec (.nmtEnterPreoperational node) s = .next t ∧ t.int 0x330103 = 127)) ∧
  (∀ (s : State) (node : Fin 128), s.isReady = true → node.val = 0 ∨ node.val = s.canopen.nodeId → s.int 0x330103 ≠ 0 →
       (∃ t, exec (.nmtResetCommunication node) s = .next t ∧ t.canopen.nodeId = s.nat 0x330101 ∧ t.canopen.waiting = [] ∧ t.canopen.rpdo = [] ∧ t.canopen.tpdo = [] ∧
         t.int 0x330103 = (if s.int 0x330102 = 1 then 5 else 127)) ∧
       (∃ t, exec (.nmtResetNode node) s = .next t ∧ t.canopen.nodeId = s.nat 0x330101 ∧ t.canopen.waiting = [] ∧ t.canopen.rpdo = [] ∧ t.canopen.tpdo = [] ∧
         t.int 0x330103 = (if s.int 0x330102 = 1 then 5 else 127) ∧ t.int 0x100300 = 0 ∧ t.int 0x100301 = 0)) ∧
  (∀ (s : State), s.isReady = true → s.int 0x101700 ≠ 0 → s.int 0x330103 ≠ 0 → s.canOpenSends = true → (s.canPort 0).service.length < 16 →
       ∃ t, exec .heartbeatProduce s = .next t ∧
         (t.canPort 0).service = (s.canPort 0).service ++ [profileFrame (0x700 + s.canopen.nodeId) (le 1 (s.int 0x330103))] ∧ t.od = s.od) ∧
  (∀ (s : State), s.int 0x101700 = 0 ∨ s.int 0x330103 = 0 ∨ s.canOpenSends = false → exec .heartbeatProduce s = .next s) ∧
  (∀ (s : State) (node : Fin 128), s.isReady = true → node.val ≠ 0 →
       ∃ t, exec (.heartbeatReceived node) s = .next t ∧ (∀ i : Fin 4, t.int (Od.key 0x3302 (i + 1)) =
         if s.nat (Od.key 0x1016 (i + 1)) / 65536 % 256 = node ∧ s.nat (Od.key 0x1016 (i + 1)) % 65536 ≠ 0 then 2 else s.int (Od.key 0x3302 (i + 1)))) ∧
  (∀ (s : State) (i : Fin 4), s.isReady = true → s.int (Od.key 0x3302 (i + 1)) = 2 → s.int 0x102901 = 1 →
       ∃ t, exec (.heartbeatTimeout i) s = .next t ∧ t.int (Od.key 0x3302 (i + 1)) = 3 ∧ t.int 0x330205 = min (s.int 0x330205 + 1) 0xFFFFFFFF ∧
         t.int 0x330103 = s.int 0x330103) ∧
  (∀ (s : State) (i : Fin 4), s.int (Od.key 0x3302 (i + 1)) ≠ 2 → exec (.heartbeatTimeout i) s = .next s) ∧
  (∀ (s : State), s.isReady = true → s.canopen.waiting = [] →
       exec .emcyInhibitExpired s = .next { s with canopen := { s.canopen with inhibited := false } }) ∧
  (∀ (s : State) (f : Sys2Proof.CanFrame) (q : List Sys2Proof.CanFrame), s.isReady = true → s.canopen.waiting = f :: q → (s.canPort 0).service.length < 16 →
       ∃ t, exec .emcyInhibitExpired s = .next t ∧ t.canopen.waiting = q ∧ (t.canPort 0).service = (s.canPort 0).service ++ [f] ∧
         t.int 0x330105 = halfBump (s.int 0x330105) false ∧ t.canopen.inhibited = decide (s.int 0x101500 ≠ 0)) ∧
  (∀ (s : State), s.isReady = true → (s.nat 0x101200).testBit 30 = false → exec .timeProduce s = .next s) ∧
  (∀ (s : State), s.isReady = true → (s.nat 0x101200).testBit 30 = true → s.ntValid = true → s.int 0x330103 = 5 → s.canOpenSends = true → (s.canPort 0).service.length < 16 →
       5113 ≤ s.ntNow / 65536 / 1000000000 / 86400 → s.ntNow / 65536 / 1000000000 / 86400 ≤ 70648 →
       ∃ t, exec .timeProduce s = .next t ∧ t.od = s.od ∧ (t.canPort 0).service = (s.canPort 0).service ++ [profileFrame (s.nat 0x101200 % 2 ^ 30)
         (le 4 (s.ntNow / 65536 / 1000000000 % 86400 * 1000) ++ le 2 (s.ntNow / 65536 / 1000000000 / 86400 - 5113))])

/-- SYNC, RPDOs with their deadline, and event-driven TPDOs. SYNC counts in pre-operational and operational, where it
sends the cyclic TPDOs that are due and writes the RPDO that waits, refuses a data field of the wrong length with EMCY
0x8240, and is ignored when stopped; RPDO_RECEIVED is taken in operational alone, refused when short with EMCY 0x8210,
answered with EMCY 0x8220 when long, kept until the next SYNC or written at once by its type, its event timer started;
RPDO_TIMEOUT counts and sends EMCY 0x8250 while its deadline runs; TPDO_EVENT_TIMER sends the sampled event-driven PDO
in operational. Rules R374, R452. -/
def Obligations.PdosAndSync : Prop :=
  (∀ (s : State) (data : List Byte), s.isReady = true → s.inStep = false → s.int 0x330103 = 127 ∨ s.int 0x330103 = 5 →
       (data.length ≠ (if s.int 0x101900 = 0 then 0 else 1) → exec (.sync data) s = .next (s.emcy 0x8240 0)) ∧
       (data.length = (if s.int 0x101900 = 0 then 0 else 1) → s.int 0x330103 = 127 →
         exec (.sync data) s = .next { s.bump 0x330108 with canopen := { s.canopen with syncCounter := leNat data } }) ∧
       (data.length = (if s.int 0x101900 = 0 then 0 else 1) → s.int 0x330103 = 5 → s.canopen.rpdo = [] →
         ∃ t, exec (.sync data) s = .next t ∧ t.int 0x330108 = min (s.int 0x330108 + 1) 0xFFFFFFFF ∧ t.canopen.syncCounter = leNat data ∧ t.canopen.rpdo = [] ∧
           (∀ k : Fin 8, s.pdoOn (tpdoCom k) (tpdoMap k) = true → (s.tpdo k).sample ≠ [] → 1 ≤ s.nat (tpdoCom k + 2) → s.nat (tpdoCom k + 2) ≤ 240 →
             s.int 0x101900 = 0 ∨ s.nat (tpdoCom k + 6) = 0 ∨ (s.tpdo k).started = true →
             (s.nat (tpdoCom k + 2) ≤ (s.tpdo k).syncs + 1 → (t.tpdo k).sent = (s.tpdo k).sample ∧ (t.tpdo k).syncs = 0 ∧ (t.tpdo k).sentAt = some s.clock.counter) ∧
             ((s.tpdo k).syncs + 1 < s.nat (tpdoCom k + 2) → t.tpdo k = { s.tpdo k with syncs := (s.tpdo k).syncs + 1 })))) ∧
  (∀ (s : State) (data : List Byte) (k : Nat) (d : List Byte), s.isReady = true → s.inStep = false → s.int 0x330103 = 5 → data.length = (if s.int 0x101900 = 0 then 0 else 1) →
       s.canopen.rpdo = [(k, d)] → (∀ i : Fin 8, s.pdoOn (tpdoCom i) (tpdoMap i) = false) →
       exec (.sync data) s = .next (({ s.bump 0x330108 with canopen := { s.canopen with syncCounter := leNat data, rpdo := [] } } : State).applyRpdo k d)) ∧
  (∀ (s : State) (data : List Byte), s.isReady = true → s.inStep = false → s.int 0x330103 = 4 → exec (.sync data) s = .next s) ∧
  (∀ (s : State) (k : Fin 8) (data : List Byte), s.isReady = true → s.inStep = false →
       (s.int 0x330103 ≠ 5 ∨ s.pdoOn (rpdoCom k) (rpdoMap k) = false → exec (.rpdoReceived k data) s = .next s) ∧
       (s.int 0x330103 = 5 → s.pdoOn (rpdoCom k) (rpdoMap k) = true →
         (let u : State := if s.int (rpdoCom k + 5) = 0 then s else { s with canopen := { s.canopen with timing := s.canopen.timing ||| BitVec.ofNat 8 (2 ^ k.val) } };
          let n : Nat := (mappedBits (s.mapping (rpdoMap k)) + 7) / 8;
           (data.length < n → exec (.rpdoReceived k data) s = .next ((u.bump 0x330106).emcy 0x8210 0)) ∧
           (data.length = n → s.int (rpdoCom k + 2) ≤ 240 →
             exec (.rpdoReceived k data) s = .next { u with canopen := { u.canopen with rpdo := Tab.insert s.canopen.rpdo k data } }) ∧
           (data.length = n → 240 < s.int (rpdoCom k + 2) → exec (.rpdoReceived k data) s = .next (u.applyRpdo k data)) ∧
           (n < data.length → s.int (rpdoCom k + 2) ≤ 240 → ∃ t, exec (.rpdoReceived k data) s = .next t ∧ Tab.find? t.canopen.rpdo k = some data ∧
             t.canopen.timing = u.canopen.timing) ∧
           (n < data.length → 240 < s.int (rpdoCom k + 2) → exec (.rpdoReceived k data) s = .next ((u.emcy 0x8220 0).applyRpdo k data))))) ∧
  (∀ (s : State) (k : Fin 8), s.isReady = true → s.canopen.timing.getLsbD k = true → s.int 0x330103 = 5 →
       exec (.rpdoTimeout k) s = .next ((({ s with canopen := { s.canopen with timing := s.canopen.timing &&& ~~~ BitVec.ofNat 8 (2 ^ k.val) } } : State).bump 0x330107).emcy 0x8250 0)) ∧
  (∀ (s : State) (k : Fin 8), s.canopen.timing.getLsbD k = false ∨ s.int 0x330103 ≠ 5 → exec (.rpdoTimeout k) s = .next s) ∧
  (∀ (s : State) (k : Fin 8), s.isReady = true → s.int 0x330103 = 5 → s.pdoOn (tpdoCom k) (tpdoMap k) = true → 254 ≤ s.int (tpdoCom k + 2) → s.int (tpdoCom k + 5) ≠ 0 →
       (s.tpdo k).sample ≠ [] →
       ∃ t, exec (.tpdoEventTimer k) s = .next t ∧
         (t.tpdo k).sentAt = some s.clock.counter ∧ (t.tpdo k).changed = false ∧ (t.tpdo k).sample = (s.tpdo k).sample ∧ (t.tpdo k).sent = (s.tpdo k).sample ∧
         (s.canOpenSends = true → (s.canPort 0).service.length < 16 → t.od = s.od ∧
           (t.canPort 0).service = (s.canPort 0).service ++ [profileFrame (s.nat (tpdoCom k + 1)) (s.tpdo k).sample]) ∧
         (s.canOpenSends = false → (t.canPort 0).service = (s.canPort 0).service)) ∧
  (∀ (s : State) (k : Fin 8), s.int 0x330103 ≠ 5 ∨ s.pdoOn (tpdoCom k) (tpdoMap k) = false ∨ s.int (tpdoCom k + 2) < 254 ∨ s.int (tpdoCom k + 5) = 0 ∨ (s.tpdo k).sample = [] →
       exec (.tpdoEventTimer k) s = .next s)

/-- Output commands, retries, latched flags and the loss of the die link. COMMAND sets the command of a channel, which an
untripped output with a supply then applies, or is refused with 0x09 for a view-lost indicator; TRIP_RETRY ends a trip
that waits for its retry, counted, and does nothing for another; LATCHED_FLAG_CLEAR clears the flags named, and the
latched trip with bit 0; DIE_LINK_LOSS switches every output off and follows the link, the supplies unchanged, and in
a reset only drives the outputs anew. Rules R462, R463, R467, R472. -/
def Obligations.OutputsAreCommanded : Prop :=
  (∀ (s : State) (w : Writer) (k : Fin 16) (v : Byte), s.admits w (fioSt k + 1) [v] →
       (s.fioRole k = 5 → exec (.command w k v) s = .next (s.respond w 9 [])) ∧
       (s.fioRole k ≠ 5 → ∃ t, exec (.command w k v) s = .next t ∧ t.int (fioSt k + 1) = v.toNat ∧ t.fio.vf1 = s.fio.vf1 ∧ t.fio.vf2 = s.fio.vf2 ∧
         (s.fioMode k = 2 → s.fio.link = true → s.fio.preparing = false → s.parked = false → (s.supplyOf k).off = false → (s.chan k).thermal = false → (s.chan k).trip = 0 →
           t.applied k = decide (v.toNat ≠ 0) ∧ t.fio.drive.getLsbD k = decide (v.toNat ≠ 0)))) ∧
  (∀ (s : State) (k : Fin 16), s.isReady = true → (s.chan k).trip = 2 →
       ∃ t, exec (.tripRetry k) s = .next t ∧ (t.chan k).trip = 0 ∧ (s.commanded k = true → (t.chan k).retries = (s.chan k).retries + 1) ∧
         t.int (Od.key (0x3250 + k) 8) = min (s.int (Od.key (0x3250 + k) 8) + 1) 0xFFFFFFFF) ∧
  (∀ (s : State) (k : Fin 16), (s.chan k).trip ≠ 2 → exec (.tripRetry k) s = .next s) ∧
  (∀ (s : State) (w : Writer) (k : Fin 16) (m : BitVec 16), s.admits w (fioDiag k + 2) (le 2 m.toNat) →
       ∃ t, exec (.latchedFlagClear w k m) s = .next t ∧
         ((∀ j : Fin 16, (s.chan j).reverse = false) → t.int (fioDiag k + 2) = (s.nat (fioDiag k + 2) - Nat.land (s.nat (fioDiag k + 2)) m.toNat : Nat)) ∧
         (m.getLsbD 0 = true → (s.chan k).trip = 1 → (t.chan k).trip = 0 ∧ (t.chan k).retries = 0) ∧
         (m.getLsbD 0 = false → s.commanded k = true → (t.chan k).trip = (s.chan k).trip ∧ (t.chan k).retries = (s.chan k).retries)) ∧
  (∀ (s : State), s.isReady = false → exec (.dieLinkLoss true) s = .next s ∧ exec (.dieLinkLoss false) s = .next s.driveField) ∧
  (∀ (s : State), s.isReady = true →
       ∃ t u, exec (.dieLinkLoss false) s = .next t ∧ exec (.dieLinkLoss true) s = .next u ∧ t.fio.link = false ∧ u.fio.link = true ∧ t.fio.drive = 0 ∧
         t.fio.vf1 = s.fio.vf1 ∧ u.fio.vf1 = s.fio.vf1)

/-- Overcurrent, group overload and thermal shutdown. OVERCURRENT_TRIP does nothing on an output that is off, enters
current limit in phase 0 and trips in phase 1, latched and counted; GROUP_OVERLOAD reports the currents, clears within
4,000 mA, and past it trips the one output that is on; THERMAL_SHUTDOWN sets and counts the shutdown, clears it when
cool, and does nothing otherwise. Rules R463, R464, R465. -/
def Obligations.ProtectionsTrip : Prop :=
  (∀ (s : State) (k : Fin 16) (phase : Fin 3), s.applied k = false → exec (.overcurrentTrip k phase) s = .next s) ∧
  (∀ (s : State) (k : Fin 16), s.isReady = true → s.applied k = true → (s.chan k).limit = true → s.int (fioCfg k + 8) = 0 → (s.nat (fioDiag k + 2)).testBit 0 = false → (∀ j : Fin 16, (s.chan j).reverse = false) →
       ∃ t, exec (.overcurrentTrip k 1) s = .next t ∧ (t.chan k).trip = 1 ∧ (t.chan k).limit = false ∧ t.applied k = false ∧
         t.int (fioDiag k + 2) = (s.nat (fioDiag k + 2) + 1 : Nat) ∧ t.int (Od.key (0x3250 + k) 2) = min (s.int (Od.key (0x3250 + k) 2) + 1) 0xFFFFFFFF) ∧
  (∀ (s : State) (k : Fin 16), s.isReady = true → s.applied k = true → (s.chan k).limit = false →
       ∃ t, exec (.overcurrentTrip k 0) s = .next t ∧ (t.chan k).limit = true ∧ t.applied k = true ∧ (t.nat (fioDiag k + 2)).testBit 1 = true) ∧
  (∀ (s : State) (g : Fin 2) (l : List Nat), s.isReady = true → l.sum ≤ 4000 →
       ∃ t, exec (.groupOverload g l) s = .next t ∧ t.int (0x320005 + g) = l.sum ∧ (t.supply g).overload = false ∧ t.fio.drive = s.fio.drive ∧
         (∀ i : Fin 8, t.int (fioSt (8 * g + i) + 6) = (l.getD i 0 : Nat))) ∧
  (∀ (s : State) (g : Fin 2) (l : List Nat) (i : Fin 8), s.isReady = true → 4000 < l.sum → s.applied (8 * g + i) = true → (∀ j : Fin 8, j ≠ i → s.applied (8 * g + j) = false) →
       s.int (fioCfg (8 * g + i) + 8) = 0 →
       ∃ t, exec (.groupOverload g l) s = .next t ∧ (t.supply g).overload = true ∧ (t.chan (8 * g + i)).trip = 1 ∧ (t.chan (8 * g + i)).flags.getLsbD 9 = true) ∧
  (∀ (s : State) (k : Fin 16), s.isReady = true →
       ((s.chan k).thermal = false → ∃ t, exec (.thermalShutdown k true) s = .next t ∧ (t.chan k).thermal = true ∧ (t.nat (fioDiag k + 2)).testBit 2 = true ∧
         t.int (Od.key (0x3250 + k) 3) = min (s.int (Od.key (0x3250 + k) 3) + 1) 0xFFFFFFFF) ∧
       ((s.chan k).thermal = true → ∃ t, exec (.thermalShutdown k false) s = .next t ∧ (t.chan k).thermal = false)) ∧
  (∀ (s : State) (k : Fin 16), exec (.thermalShutdown k (s.chan k).thermal) s = .next s)

/-- Readback, open load, external drive, reverse current and inputs. READBACK_MISMATCH shows the level; the butty judges
it by the motor's command, another unit clears the mismatches on agreement and sets the one of its direction on a
difference that no limit, thermal shutdown or supply flag explains; OPEN_LOAD sets and clears its flag, counted;
EXTERNAL_DRIVE is not judged on an output that is on, is a short to supply where no other output switched and
cross-feed on both channels where one did, and ends; REVERSE is noted where an output is on; FIELD_INPUT_CHANGE shows
a changed level with its stamp, counted, and does nothing for the same level. Rules R468, R469, R470, R471, R473. -/
def Obligations.OutputsAreDiagnosed : Prop :=
  (∀ (s : State) (k : Fin 16) (high : Bool), s.isReady = true → s.fioMode k ≠ 2 →
       exec (.readbackMismatch k high) s = .next (s.putFlag (fioSt k + 3) high)) ∧
  (∀ (s : State) (k : Fin 16) (high : Bool), s.isReady = true → s.fioMode k = 2 →
       (s.isButty = true → exec (.readbackMismatch k high) s = .next ((s.putFlag (fioSt k + 3) high).setFlag k 12 (high != s.pair.reported.getLsbD k))) ∧
       (s.isButty = false → s.applied k ≠ high → (s.supplyOf k).sag = true ∨ (s.supplyOf k).off = true ∨ (s.chan k).limit = true ∨ (s.chan k).thermal = true →
         exec (.readbackMismatch k high) s = .next (s.putFlag (fioSt k + 3) high))) ∧
  (∀ (s : State) (k : Fin 16) (high : Bool), s.isReady = true → s.fioMode k = 2 → s.isButty = false → (s.supplyOf k).sag = false → (s.supplyOf k).off = false →
       (s.chan k).limit = false → (s.chan k).thermal = false →
       ∃ t, exec (.readbackMismatch k high) s = .next t ∧ t.int (fioSt k + 3) = (if high then 1 else 0) ∧
         (s.applied k = high → (t.chan k).flags.getLsbD 7 = false ∧ (t.chan k).flags.getLsbD 8 = false) ∧
         (s.applied k = true → high = false → (t.chan k).flags.getLsbD 7 = true) ∧ (s.applied k = false → high = true → (t.chan k).flags.getLsbD 8 = true) ∧
         (s.pairing = false → t.fio.drive = s.fio.drive)) ∧
  (∀ (s : State) (k : Fin 16), s.isReady = true → s.int (fioCfg k + 0x0B) ≠ 0 → s.applied k = true → (s.supplyOf k).sag = false → (s.chan k).flags.getLsbD 3 = false →
       ∃ t, exec (.openLoad k true) s = .next t ∧ (t.chan k).flags = (s.chan k).flags ||| 8 ∧ t.int (Od.key (0x3250 + k) 4) = min (s.int (Od.key (0x3250 + k) 4) + 1) 0xFFFFFFFF ∧
         (t.nat (fioDiag k + 2)).testBit 3 = true) ∧
  (∀ (s : State) (k : Fin 16), s.isReady = true → (s.chan k).flags.getLsbD 3 = true →
       ∃ t, exec (.openLoad k false) s = .next t ∧ (t.chan k).flags = (s.chan k).flags &&& ~~~ 8 ∧ t.od = s.od) ∧
  (∀ (s : State) (k : Fin 16) (present : Bool), s.fioMode k ≠ 2 ∨ s.applied k = true → exec (.externalDrive k present) s = .next s) ∧
  (∀ (s : State) (k : Fin 16), s.isReady = true → s.fioMode k = 2 → s.applied k = false → s.pairing = false → (s.supplyOf k).sag = false →
       (∀ j : Fin 16, s.recent (s.chan j).onAt = false) →
       ∃ t, exec (.externalDrive k true) s = .next t ∧ (t.chan k).flags.getLsbD 4 = true ∧ t.fio.drive = s.fio.drive) ∧
  (∀ (s : State) (k : Fin 16), s.isReady = true → s.fioMode k = 2 → s.applied k = false → s.pairing = false →
       (∀ j : Fin 16, s.recent (s.chan j).offAt = false) →
       ∃ t, exec (.externalDrive k false) s = .next t ∧ (t.chan k).flags.getLsbD 4 = false ∧ (t.chan k).flags.getLsbD 5 = false ∧ t.fio.drive = s.fio.drive ∧ t.od = s.od) ∧
  (∀ (s : State) (j k : Fin 16), s.isReady = true → s.fioMode j = 2 → s.applied j = false → s.pairing = false → s.overlapNear = false →
       (s.supplyOf j).sag = false → (s.supplyOf k).sag = false → ((List.range 16).filter (fun i => i ≠ j.val)).find? (fun i => s.recent (s.chan i).onAt) = some k.val →
       ∃ t, exec (.externalDrive j true) s = .next t ∧ (t.chan j).flags.getLsbD 5 = true ∧ (t.chan k).flags.getLsbD 5 = true ∧
         t.int (fioDiag j + 3) = (k.val + 1 : Nat) ∧ t.int (fioDiag k + 3) = (j.val + 1 : Nat) ∧ (t.chan j).flags.getLsbD 4 = (s.chan j).flags.getLsbD 4) ∧
  (∀ (s : State) (k : Fin 16), s.isReady = true → exec (.reverse k false) s = .next (s.setChan k { s.chan k with reverse := false }) ∧
       (s.applied k = false → exec (.reverse k true) s = .next s)) ∧
  (∀ (s : State) (k : Fin 16), s.isReady = true → s.applied k = true → (s.chan k).reverse = false → s.overlapNear = false →
       (∀ i : Fin 8, s.applied (8 * (1 - k.val / 8) + i) = false) →
       ∃ t, exec (.reverse k true) s = .next t ∧ (t.chan k).reverse = true ∧ (t.nat (fioDiag k + 2)).testBit 6 = true ∧ t.fio.drive = s.fio.drive) ∧
  (∀ (s : State) (k : Fin 16) (pin : Bool) (ago : Nat), s.isReady = true → s.inStep = false → s.flag (fioSt k + 4) ≠ (pin != s.flag (fioCfg k + 4)) →
       ∃ t, exec (.fieldInputChange k pin ago) s = .next t ∧ t.int (fioSt k + 4) = (if (pin != s.flag (fioCfg k + 4)) then 1 else 0) ∧
         t.int (fioSt k + 5) = (if s.ctValid then s.ctAt (s.clock.counter - ago) 0 / 65536 % 2 ^ 32 else 0) ∧
         t.int (Od.key (0x3250 + k) 1) = min (s.int (Od.key (0x3250 + k) 1) + 1) 0xFFFFFFFF ∧
         (s.fioRole k = 0 → s.int (fioCfg k + 5) = 0 → t.fio = s.fio ∧ t.mu = s.mu)) ∧
  (∀ (s : State) (k : Fin 16) (pin : Bool) (ago : Nat), s.isReady = true → s.inStep = false → s.fioRole k ≠ 6 → s.flag (fioSt k + 4) = (pin != s.flag (fioCfg k + 4)) →
       exec (.fieldInputChange k pin ago) s = .next s)

/-- Supply sag, supply off and restore of a field group. SUPPLY_SAG marks and counts a sag and flags its channels;
SUPPLY_OFF switches the group off, with a sag; SUPPLY_SAG_END ends it, and restores under policy 0; SUPPLY_RESTORE
ends a restore that runs, and does nothing otherwise; RESTORE_REQUEST is refused during a sag and restores after it;
OVERVOLTAGE shows the value and counts. Rules R474, R475. -/
def Obligations.SuppliesSwitchGroups : Prop :=
  (∀ (s : State) (g : Fin 2) (mv : Nat), s.isReady = true → (s.supply g).sag = false → (s.supply g).off = false →
       (∃ t, exec (.supplySag g mv) s = .next t ∧ (t.supply g).sag = true ∧ (t.supply g).off = false ∧ t.int (0x320201 + g) = mv ∧
         t.int (0x320203 + g) = min (s.int (0x320203 + g) + 1) 0xFFFFFFFF ∧ (∀ i : Fin 8, (t.nat (fioDiag (8 * g + i) + 2)).testBit 10 = true)) ∧
       (∃ t, exec (.supplyOff g mv) s = .next t ∧ (t.supply g).sag = true ∧ (t.supply g).off = true ∧ (t.supply g).restoring = false ∧ t.int (0x320201 + g) = mv ∧
         t.int (0x320205 + g) = min (s.int (0x320205 + g) + 1) 0xFFFFFFFF ∧ (∀ i : Fin 8, t.applied (8 * g + i) = false))) ∧
  (∀ (s : State) (g : Fin 2) (mv : Nat), s.isReady = true → (s.supply g).sag = true →
       ∃ t, exec (.supplySagEnd g mv) s = .next t ∧ (t.supply g).sag = false ∧ (t.supply g).off = (s.supply g).off ∧
         (t.supply g).restoring = ((s.supply g).off && decide (s.int 0x320102 = 0)) ∧ t.int (0x320201 + g) = mv) ∧
  (∀ (s : State) (g : Fin 2) (mv : Nat), s.isReady = true → (s.supply g).sag = false → exec (.supplySagEnd g mv) s = .next (s.put (0x320201 + g) mv)) ∧
  (∀ (s : State) (g : Fin 2), s.isReady = true → (s.supply g).off = true → (s.supply g).sag = false → (s.supply g).restoring = true →
       ∃ t, exec (.supplyRestore g) s = .next t ∧ (t.supply g).off = false ∧ (t.supply g).restoring = false ∧ (t.supply g).sag = false) ∧
  (∀ (s : State) (g : Fin 2), (s.supply g).off = false ∨ (s.supply g).restoring = false → exec (.supplyRestore g) s = .next s) ∧
  (∀ (s : State) (w : Writer), s.admits w 0x320104 [3] →
       (s.fio.vf1.sag = true ∨ s.fio.vf2.sag = true → exec (.restoreRequest w 3) s = .next (s.respond w 9 [])) ∧
       (s.fio.vf1.sag = false → s.fio.vf2.sag = false → ∃ t, exec (.restoreRequest w 3) s = .next t ∧ t.fio.vf1.off = false ∧ t.fio.vf2.off = false)) ∧
  (∀ (s : State) (g : Fin 2) (mv : Nat), s.isReady = true →
       exec (.overvoltage g mv) s = .next ((s.put (0x320201 + g) mv).bump 0x320207))

/-- Votes fall, the awake limit overrides, consents return and the PHYs sleep. VOTE_IDLE_EXPIRED drops a held vote and,
for a device alone without an override, consents once none is left, and does nothing while the source is active;
AWAKE_TIMER_EXPIRED overrides the limited votes and counts; CONSENT_RECEIVED is ignored off a keyed link, leaves its
vector at 0x3401:03 at a berth that does not lead, and agrees the mooring at the lead when all members consent and
nothing stands against it; PHY_SLEEP_COMPLETE enters MOORED in step 4 alone; COUPLER_PHY_SLEEP is noted while an
enabled port has still to report; once the entry record of a mooring is written, no report, histogram, stored entry or
commit is stored. Rules R259, R261, R263, R266, R268, R352, R354, R487, R492. -/
def Obligations.VotesAndConsent : Prop :=
  (∀ (s : State) (v : Fin 7), s.isReady = true → s.voteSources.testBit v = false → s.int 0x340101 ≠ 2 →
       ∃ t, exec (.voteIdleExpired v) s = .next t ∧ t.mooring.held.getLsbD v = false ∧
         t.int 0x340102 = (Nat.lor (s.mooring.held &&& ~~~ BitVec.ofNat 8 (2 ^ v.val)).toNat s.voteSources : Nat) ∧
         (s.pairing = false → s.mooring.override = false → t.int 0x340101 = if t.int 0x340102 = 0 then 1 else 0)) ∧
  (∀ (s : State) (v : Fin 7), s.voteSources.testBit v = true → exec (.voteIdleExpired v) s = .next s) ∧
  (∀ (s : State), s.isReady = true → Nat.land s.votes s.limited ≠ 0 → s.mooring.override = false →
       ∃ t, exec .awakeTimerExpired s = .next t ∧ t.mooring.override = true ∧ t.int 0x34010B = min (s.int 0x34010B + 1) 0xFFFFFFFF ∧
         t.int 0x340102 = (s.votes : Nat) ∧ t.wake = s.wake) ∧
  (∀ (s : State) (p : Cpl) (c : Consent), s.linkUpState p.no = false ∨ s.keyed p.no = false → exec (.consentReceived p c) s = .next s) ∧
  (∀ (s : State) (p : Cpl) (c : Consent), s.isReady = true → s.linkUpState p.no = true → s.keyed p.no = true → c.agreed = false → s.rearwardIn p.no = false → s.isLead = false →
       ∃ t, exec (.consentReceived p c) s = .next t ∧ t.int 0x340103 = c.vector.toNat ∧ t.int 0x340101 = s.int 0x340101 ∧ t.mooring = s.mooring) ∧
  (∀ (s : State) (p : Cpl) (c : Consent), s.isReady = true → s.linkUpState p.no = true → s.keyed p.no = true → c.agreed = false → s.rearwardIn p.no = false → s.isLead = true →
       Nat.land (s.nat 0x248101) c.vector.toNat = s.nat 0x248101 → s.nat 0x248101 ≠ 0 → s.muState = 0 → s.int 0x243004 = 0 → s.int 0x340101 ≠ 2 →
       s.mooring.returned.1 ≠ c.token.toNat → s.mooring.late = none →
       ∃ t, exec (.consentReceived p c) s = .next t ∧ t.int 0x340101 = 2 ∧ t.int 0x340103 = c.vector.toNat ∧ t.mooring.agreed = true ∧
         t.int 0x340105 = (((if s.passage = 63 then s.flight + 1 else s.flight) + 3) % 2 ^ 32 : Nat)) ∧
  (∀ (s : State), s.isReady = true → s.mooring.stage = 4 →
       ∃ t, exec .phySleepComplete s = .next t ∧ t.power.phase = .moored ∧ t.power.inh = false ∧ t.power.wakeOut = false ∧ t.wake.dwell = true ∧
         t.mram = s.mram ∧ t.out = s.out) ∧
  (∀ (s : State), s.isReady = true → s.mooring.stage ≠ 4 → exec .phySleepComplete s = .next s) ∧
  (∀ (s : State) (p : Cpl), s.isReady = true →
       ∃ t, exec (.couplerPhySleep p) s = .next t ∧
         ((∃ q : Nat, q < 4 ∧ s.int (Od.key (0x2410 + q) 1) ≠ 0 ∧ (s.mooring.slept ||| BitVec.ofNat 4 (2 ^ p.no)).getLsbD q = false) →
           t.mooring.slept = s.mooring.slept ||| BitVec.ofNat 4 (2 ^ p.no) ∧ t.od = s.od)) ∧
  (∀ (s : State), 3 ≤ s.mooring.stage → exec .reportWrite s = .next s ∧ exec .histogramStore s = .next s ∧
       exec .storedEntryWrite s = .next s ∧ exec .commitStoreDone s = .next s)

/-- Wake sources are accepted in MOORED, held in the dwell, and lead to a reset of cause 8. WAKE_IN_EDGE, REMOTE_WAKE,
CAN_WUP, CAN_WUF and FIELD_WAKE_REQUEST of an enabled source wake a MOORED device with their cause, wait through the
dwell, and do nothing once INH is high or when off; WAKE_DWELL_END takes what waited; WAKE_ACCEPTED records the cause,
counts it, pulses the couplers and leads out of MOORED to the reset of cause 8; WAKE_PROBE pulses a link that is down
while RUNNING. Rules R259, R269, R270, R271. -/
def Obligations.WakeSources : Prop :=
  (∀ (s : State), s.power.phase = .moored → s.power.inh = false → s.power.powerUp = false → s.wakeEnabled 0 = true →
       (s.wake.dwell = false → exec .wakeInEdge s = .next { s with
         wake := { s.wake with wakeIn := true, accepted := some (1, 0), waiting := none, late := none }
         power := { s.power with inh := true, wakeOut := true } }) ∧
       (s.wake.dwell = true → exec .wakeInEdge s = .next { s with wake := { s.wake with wakeIn := true, waiting := some (s.wake.waiting.getD (1, 0)) } })) ∧
  (∀ (s : State), s.power.phase = .off → exec .wakeInEdge s = .next s) ∧
  (∀ (s : State), exec .wakeInInactive s = .next { s with wake := { s.wake with wakeIn := false } }) ∧
  (∀ (s : State) (p : Cpl) (c : Fin 4) (f : Sys2Proof.CanFrame) (k : Fin 16), s.power.phase = .moored → s.power.inh = false → s.power.powerUp = false → s.wake.dwell = false →
       (let woken (cause detail : Nat) : State := { s with
           wake := { s.wake with accepted := some (cause, detail), waiting := none, late := none }
           power := { s.power with inh := true, wakeOut := true } };
        (s.wakeEnabled 1 = true → exec (.remoteWake p) s = .next (woken 2 p.no)) ∧
        (s.wakeEnabled 2 = true → s.int (Od.key (0x3410 + c) 1) = 1 → exec (.canWup c) s = .next (woken 3 c)) ∧
        (s.wakeEnabled 2 = true → s.int (Od.key (0x3410 + c) 1) = 2 → s.wufMatches c f = true → exec (.canWuf c f) s = .next (woken 4 c)) ∧
        (s.wakeEnabled 3 = true → s.fioRole k = 4 → exec (.fieldWakeRequest k) s = .next (woken 5 (k + 1))))) ∧
  (∀ (s : State) (p : Cpl) (c : Fin 4) (f : Sys2Proof.CanFrame) (k : Fin 16), s.power.inh = true →
       exec (.remoteWake p) s = .next s ∧ exec (.canWup c) s = .next s ∧ exec (.canWuf c f) s = .next s ∧ exec (.fieldWakeRequest k) s = .next s) ∧
  (∀ (s : State), s.wake.dwell = true →
       ∃ t, exec .wakeDwellEnd s = .next t ∧ t.wake.dwell = false ∧
         (∀ d : Nat, s.wake.late = some d → t.wake.accepted = some (6, d) ∧ t.power.inh = true ∧ t.power.wakeOut = true) ∧
         (∀ c d : Nat, s.wake.late = none → s.wake.waiting = some (c, d) → t.wake.accepted = some (c, d) ∧ t.power.inh = true ∧ t.power.wakeOut = true) ∧
         (s.wake.late = none → s.wake.waiting = none → t.wake.accepted = s.wake.accepted ∧ t.power = s.power)) ∧
  (∀ (s : State) (c d : Nat), s.wake.accepted = some (c, d) →
       ∃ t, exec .wakeAccepted s = .next t ∧ t.wake.accepted = none ∧ t.power.wakeOut = true ∧ t.out = s.out ++ [.wakePulse 15] ∧
         t.int 0x340106 = c ∧ t.int 0x340107 = d ∧ t.int 0x340109 = min (s.int 0x340109 + 1) 0xFFFFFFFF ∧
         (s.power.phase = .moored → c ≠ 0 → t.power.phase = .reset ∧ t.power.cause = 8)) ∧
  (∀ (s : State) (p : Cpl), s.isReady = true → s.isRunning = true → s.int 0x340007 ≠ 0 →
       (s.linkState p.no = 1 → exec (.wakeProbe p) s = .next (s.emit (.wakePulse (2 ^ p.no)))) ∧
       (s.linkState p.no ≠ 1 → exec (.wakeProbe p) s = .next s))

/-- The role and cross-disable pins of a pair. PAIR_ROLE_IN rising is noted, and makes unit B give a role it took less
than 1 µs before up; falling, it starts a takeover of cause 2 at an in-step butty, and none while the unit is
cross-disabled or cross-disables; XDIS_IN rising fails the unit with its reason and drops the role; the other edge is
noted; CLAIM_DELAY_EXPIRED claims the role once it has been low for 1 µs, and otherwise requests it;
PAIR_FORMING_TIMEOUT detaches a forming unit and does nothing otherwise. Rules R280, R281, R290, R293. -/
def Obligations.PairPins : Prop :=
  (∀ (s : State), exec .pairRoleInRise { s with pairing := false } = .next { s with pairing := false, pair := { s.pair with roleIn := true } }) ∧
  (∀ (s : State), s.pairing = true → s.int 0x300101 ≠ 1 → ∃ t, exec .pairRoleInRise s = .next t ∧ t.pair.roleIn = true ∧
       t.pair.roleOut = (s.pair.roleOut && !(s.pair.roleOut && decide (s.clock.counter < s.pair.outAt + ticks1us) && !s.unitA)) ∧
       t.int 0x300102 = (if t.pair.roleOut then 1 else 2) ∧ t.int 0x300101 = s.int 0x300101) ∧
  (∀ (s : State), s.pairing = true → s.pair.xdisOut = true → s.pair.takeover = none → ∃ t, exec .roleInFall s = .next t ∧ t.pair.roleIn = false ∧ t.pair.takeover = none ∧
       t.int 0x300102 = (if s.pair.roleOut then 1 else 0) ∧ (s.pair.xdisIn = false → t.pair.lowAt = s.clock.counter)) ∧
  (∀ (s : State), s.pairing = true → s.pair.roleIn = true → s.pair.xdisOut = false → s.int 0x300102 = 2 → s.int 0x300101 = 3 → s.pair.takeover = none →
       ∃ t, exec .roleInFall s = .next t ∧ t.pair.takeover = some (2, s.clock.counter) ∧ t.pair.overlap = true ∧ t.int 0x300108 = 2) ∧
  (∀ (s : State), s.pairing = true → s.pair.exchange ≠ 2 → s.pair.xdisOut = false → s.int 0x300101 ≠ 7 →
       ∃ t, exec .xdisInRise s = .next t ∧ t.pair.xdisIn = true ∧ t.pair.roleOut = false ∧ t.int 0x300101 = 7 ∧
         t.int 0x30010C = (match s.pair.own with | some 0 => 7 | some r => r | none => 7)) ∧
  (∀ (s : State), s.pairing = false → exec .xdisInRise s = .next { s with pair := { s.pair with xdisIn := true } }) ∧
  (∀ (s : State), ∃ t, exec .pairXdisInFall s = .next t ∧ t.pair.xdisIn = false ∧ (s.pair.roleIn = false → t.pair.lowAt = s.clock.counter) ∧ t.pair.roleOut = s.pair.roleOut) ∧
  (∀ (s : State), s.isReady = true → s.pairing = true → s.unitA = false → s.pair.roleIn = false → s.pair.roleOut = false → s.int 0x300101 ≠ 7 →
       ∃ t, exec .claimDelayExpired s = .next t ∧ (s.pair.xdisIn = false → s.pair.lowAt + ticks1us ≤ s.clock.counter →
           t.pair.roleOut = true ∧ t.pair.request = false ∧ t.pair.outAt = s.clock.counter ∧ t.int 0x300102 = 1) ∧
         (s.pair.xdisIn = true ∨ s.clock.counter < s.pair.lowAt + ticks1us → t = { s with pair := { s.pair with request := true } })) ∧
  (∀ (s : State), s.isReady = true → s.int 0x300101 = 1 → ∃ t, exec .pairFormingTimeout s = .next t ∧ t.int 0x300101 = 6 ∧
       (s.pair.xdisIn = true → t.pair.request = true ∧ t.pair.roleOut = s.pair.roleOut)) ∧
  (∀ (s : State), s.int 0x300101 ≠ 1 → exec .pairFormingTimeout s = .next s)

/-- The tow line comes, goes and carries the partner. TOW_LANE_LOSS reports the lanes left; TOW_LINE_LOST detaches a unit
in step or in doubt, counts it and leaves the outputs alone; TOW_LINE_UP needs two lanes and pairing;
TOW_INPUT_RECEIVED does nothing without pairing or the line, and otherwise takes the partner's digests, command word,
sum and inputs. Rules R278, R284, R290. -/
def Obligations.TowLine : Prop :=
  (∀ (s : State) (n : Fin 5), s.isReady = true → exec (.towLaneLoss n) s = .next (s.put 0x300106 n.val)) ∧
  (∀ (s : State), s.isReady = true → s.pair.up = true → s.int 0x300101 = 3 ∨ s.int 0x300101 = 4 →
       ∃ t, exec .towLineLost s = .next t ∧ t.int 0x300101 = 5 ∧ t.pair.up = false ∧ t.pair.unheard = 0 ∧ t.int 0x300106 = min 1 (s.int 0x300106) ∧
         t.int 0x300207 = min (s.int 0x300207 + 1) 0xFFFFFFFF ∧ t.fio = s.fio) ∧
  (∀ (s : State), s.pair.up = false → exec .towLineLost s = .next s) ∧
  (∀ (s : State) (n : Fin 5), n.val < 2 ∨ s.pairing = false → exec (.towLineUp n) s = .next s) ∧
  (∀ (s : State) (n : Fin 5), s.isReady = true → 2 ≤ n.val → s.pairing = true → s.int 0x300101 = 3 → exec (.towLineUp n) s =
       .next { s.put 0x300106 n.val with pair := { s.pair with up := true, missing := 0 } }) ∧
  (∀ (s : State) (x : TowInput), s.pairing = false ∨ s.pair.up = false → exec (.towInputReceived x) s = .next s) ∧
  (∀ (s : State) (d : Digests) (c : BitVec 16) (n : Nat) (ts : Int) (y : PairInput), s.isReady = true → s.pairing = true → s.pair.up = true →
       exec (.towInputReceived (.digests d)) s = .next { s with pair := { s.pair with theirs := some d } } ∧
       exec (.towInputReceived (.command c)) s = .next { s with pair := { s.pair with reported := c } } ∧
       exec (.towInputReceived (.ownSum n)) s = .next { s with mu := { s.mu with partnerOwn := n } } ∧
       exec (.towInputReceived (.input ts y)) s = .next { s with pair := { s.pair with inputs := insertInput { stamp := ts, unitA := !s.unitA, what := y } s.pair.inputs } })

/-- Digests, self-checks, takeovers, exchanges and resynchronisation of a pair. DIGEST_WINDOW_END with equal digests ends
the run of mismatches, and with unequal ones counts the mismatch and arbitrates after the confirmed number;
SELF_CHECK_RESULT does nothing out of arbitration, keeps the own result until the partner's is there, and ends in
doubt when both are good; MBB_OVERLAP_END ends a takeover with the roles, the counts and the time it took, or does
nothing; PLANNED_EXCHANGE starts in step and is refused with its reason otherwise; RESYNCHRONISATION_REQUEST is passed
by the butty to the motor and starts the resynchronisation there; SNAPSHOT_SENT and REPLAY_LEVEL report its progress.
Rules R289, R292, R296, R300, R301. -/
def Obligations.PairComparesAndSwaps : Prop :=
  (∀ (s : State) (own d : Digests), s.isReady = true → s.pairing = true → s.pair.up = true → s.int 0x300101 = 3 → s.pair.arbitrating = false → s.pair.takeover = none →
       s.pair.mine = some own → s.pair.theirs = some d → d.flight = own.flight → d.passage = own.passage → d.whole = own.whole →
       ∃ t, exec (.digestWindowEnd own.passage) s = .next t ∧ t.pair.run = 0 ∧ t.pair.missing = 0 ∧ t.pair.theirs = none ∧ t.int 0x300201 = s.int 0x300201 ∧
         t.int 0x300101 = 3 ∧ t.bytes 0x300301 = digestRecord own d) ∧
  (∀ (s : State) (own d : Digests), s.isReady = true → s.pairing = true → s.pair.up = true → s.int 0x300101 = 3 → s.pair.arbitrating = false → s.pair.takeover = none →
       s.pair.mine = some own → s.pair.theirs = some d → d.flight = own.flight → d.passage = own.passage → d.whole ≠ own.whole →
       ∃ t, exec (.digestWindowEnd own.passage) s = .next t ∧ t.int 0x300109 = (classesApart own d : Nat) ∧ t.int 0x300201 = min (s.int 0x300201 + 1) 0xFFFFFFFF ∧
         (s.pair.run + 1 < s.nat 0x300003 → t.pair.run = s.pair.run + 1 ∧ t.pair.arbitrating = false) ∧
         (s.nat 0x300003 ≤ s.pair.run + 1 → t.pair.run = 0 ∧ t.pair.arbitrating = true ∧ t.int 0x300202 = min (s.int 0x300202 + 1) 0xFFFFFFFF)) ∧
  (∀ (s : State) (a b c : Bool), s.pair.arbitrating = false → s.pair.exchange ≠ 3 → exec (.selfCheckResult a b c) s = .next s) ∧
  (∀ (s : State), s.isReady = true → s.pairing = true → s.pair.arbitrating = true → s.pair.exchange = 0 → s.pair.own = none → s.pair.other = none →
       s.pair.lockstep = false → s.pair.ecc = false →
       ∃ t, exec (.selfCheckResult true true false) s = .next t ∧ t.pair.own = some 0 ∧ t.pair.arbitrating = true ∧ t.od = s.od) ∧
  (∀ (s : State), s.isReady = true → s.pairing = true → s.pair.arbitrating = true → s.pair.exchange = 0 → s.pair.own = none → s.pair.other = some 0 →
       s.pair.lockstep = false → s.pair.ecc = false → s.int 0x300004 = 0 → s.int 0x300102 = 1 →
       ∃ t, exec (.selfCheckResult true true false) s = .next t ∧ t.pair.arbitrating = false ∧ t.int 0x300101 = 4 ∧ t.int 0x300107 = 4 ∧
         t.int 0x300206 = min (s.int 0x300206 + 1) 0xFFFFFFFF) ∧
  (∀ (s : State) (m : BitVec 16), s.pair.takeover = none → exec (.mbbOverlapEnd m) s = .next s) ∧
  (∀ (s : State) (m : BitVec 16) (cause began : Nat), s.isReady = true → s.pair.takeover = some (cause, began) → cause ≠ 4 → s.pair.xdisIn = false → s.lock.tx = [] →
       ∃ t, exec (.mbbOverlapEnd m) s = .next t ∧ t.pair.takeover = none ∧ t.pair.overlap = false ∧ t.pair.roleOut = true ∧ t.pair.xdisOut = true ∧
         t.pair.partnerFailed = true ∧ t.int 0x300101 = 6 ∧ t.int 0x300102 = 1 ∧ t.int 0x300204 = min (s.int 0x300204 + 1) 0xFFFFFFFF ∧
         t.int 0x30010B = ((s.clock.counter - began) * 32 / 10 : Nat) ∧ t.int 0x30010A = (if s.ctValid then s.ctNow else 0)) ∧
  (∀ (s : State) (w : Writer) (v : Byte), s.admits w 0x300502 [v] → s.pair.up = false →
       (s.int 0x300101 ≠ 3 → ∃ t, exec (.plannedExchange w v) s = .next t ∧ t.int 0x300503 = 2 ∧ t.pair.exchange = s.pair.exchange) ∧
       (s.int 0x300101 = 3 → s.pair.run ≠ 0 → ∃ t, exec (.plannedExchange w v) s = .next t ∧ t.int 0x300503 = 3 ∧ t.pair.exchange = s.pair.exchange) ∧
       (s.int 0x300101 = 3 → s.pair.run = 0 → s.pair.arbitrating = false → s.pair.takeover = none → s.pair.exchange = 0 →
         ∃ t, exec (.plannedExchange w v) s = .next t ∧ t.pair.exchange = 1 ∧ t.int 0x300101 = 3)) ∧
  (∀ (s : State) (w : Writer) (v : Byte), s.admits w 0x300501 [v] → s.pairing = false → exec (.resynchronisationRequest w v) s = .next (s.respond w 0 [])) ∧
  (∀ (s : State) (w : Writer) (v : Byte), s.admits w 0x300501 [v] → s.pairing = true → s.pair.up = true → s.int 0x300102 = 2 →
       exec (.resynchronisationRequest w v) s = .next ((s.emit (.tow (.control 1))).respond w 0 [])) ∧
  (∀ (s : State) (w : Writer) (v : Byte), s.admits w 0x300501 [v] → s.pairing = true → s.int 0x300102 = 1 → s.int 0x300101 = 4 →
       (s.pair.partnerFirmware : Int) = s.int 0x200006 → s.pair.xdisOut = false →
       ∃ t, exec (.resynchronisationRequest w v) s = .next t ∧ t.int 0x300101 = 2 ∧ t.int 0x300404 = 1 ∧ t.pair.clean = 0 ∧ t.pair.restarts = 0) ∧
  (∀ (s : State) (kib : Nat), s.isReady = true → s.int 0x300101 = 2 → s.int 0x300404 = 1 →
       ∃ t, exec (.snapshotSent kib false) s = .next t ∧ t.int 0x300401 = 7000 ∧ t.int 0x300402 = kib ∧ t.int 0x300403 = kib ∧ t.int 0x300404 = 2 ∧ t.int 0x300101 = 2) ∧
  (∀ (s : State), s.isReady = true → s.int 0x300101 = 2 → s.int 0x300404 = 2 →
       ∃ t, exec .replayLevel s = .next t ∧ t.int 0x300401 = 8000 ∧ t.int 0x300404 = 3 ∧ t.pair.clean = 0 ∧ t.int 0x300101 = 2) ∧
  (∀ (s : State) (kib : Nat) (b : Bool), s.int 0x300101 ≠ 2 → exec (.snapshotSent kib b) s = .next s ∧ exec .replayLevel s = .next s)
end

