-- ==== Sys2Proof/Laws/Dict.lean ====
section
/-!
SUPPORT. Laws of the sparse tables, the byte memories and the dictionary store: what is read after a write.
-/

namespace Sys2Proof.Machine

variable {α : Type}

/-! ### Sparse tables -/

theorem Tab.find?_erase_self (t : Tab α) (i : Nat) : Tab.find? (Tab.erase t i) i = none := by
  induction t with
  | nil => rfl
  | cons p t ih =>
    obtain ⟨j, w⟩ := p
    by_cases h : j = i <;> simp_all [Tab.erase, Tab.find?]

theorem Tab.find?_erase_ne (t : Tab α) {i j : Nat} (h : i ≠ j) : Tab.find? (Tab.erase t i) j = Tab.find? t j := by
  induction t with
  | nil => rfl
  | cons p t ih =>
    obtain ⟨k, w⟩ := p
    by_cases hk : k = i
    · subst hk
      simpa [Tab.erase, Tab.find?, h] using ih
    · by_cases hj : k = j <;> simp_all [Tab.erase, Tab.find?]

theorem Tab.find?_insert_self (t : Tab α) (i : Nat) (v : α) : Tab.find? (Tab.insert t i v) i = some v := by
  induction t with
  | nil => simp [Tab.insert, Tab.find?]
  | cons p t ih =>
    obtain ⟨j, w⟩ := p
    simp only [Tab.insert]
    split
    · simp [Tab.find?]
    · split
      · simp [Tab.find?]
      · rename_i h
        simp [Tab.find?, Ne.symm h, ih]

theorem Tab.find?_insert_ne (t : Tab α) {i j : Nat} (v : α) (h : i ≠ j) :
    Tab.find? (Tab.insert t i v) j = Tab.find? t j := by
  induction t with
  | nil => simp [Tab.insert, Tab.find?, h]
  | cons p t ih =>
    obtain ⟨k, w⟩ := p
    simp only [Tab.insert]
    split
    · simp [Tab.find?, h]
    · split
      · rename_i hk
        subst hk
        simp [Tab.find?, h]
      · by_cases hj : k = j <;> simp [Tab.find?, hj, ih]

/-- A number reads what was last written to it. -/
theorem Tab.get_set_self [DecidableEq α] (d : α) (t : Tab α) (i : Nat) (v : α) : Tab.get d (Tab.set d t i v) i = v := by
  simp only [Tab.get, Tab.set]
  split
  · rename_i h
    simp [Tab.find?_erase_self, h]
  · simp [Tab.find?_insert_self]

/-- A write leaves every other number alone. -/
theorem Tab.get_set_ne [DecidableEq α] (d : α) (t : Tab α) {i j : Nat} (v : α) (h : i ≠ j) :
    Tab.get d (Tab.set d t i v) j = Tab.get d t j := by
  simp only [Tab.get, Tab.set]
  split
  · rw [Tab.find?_erase_ne t h]
  · rw [Tab.find?_insert_ne t v h]

/-! ### The byte memories -/

theorem memRead_memWrite_self (m : List Host.Cell) (a : Nat) (b : Byte) : memRead (memWrite m a b) a = b :=
  Tab.get_set_self _ _ _ _

theorem memRead_memWrite_ne (m : List Host.Cell) {a a' : Nat} (b : Byte) (h : a ≠ a') :
    memRead (memWrite m a b) a' = memRead m a' := Tab.get_set_ne _ _ _ h

/-- Bytes written from `a` up leave every address outside them alone. -/
theorem memRead_memWriteAll (m : List Host.Cell) (a : Nat) (l : List Byte) (j : Nat) :
    memRead (memWriteAll m a l) j = if a ≤ j ∧ j < a + l.length then l.getD (j - a) 0 else memRead m j := by
  induction l generalizing m a with
  | nil =>
    have h : ¬ (a ≤ j ∧ j < a + ([] : List Byte).length) := by
      simp only [List.length_nil]
      omega
    simp only [memWriteAll, if_neg h]
  | cons b l ih =>
    simp only [memWriteAll, ih, List.length_cons]
    by_cases h : a = j
    · subst h
      simp [memRead_memWrite_self]
    · rw [memRead_memWrite_ne m b h]
      by_cases h' : a + 1 ≤ j ∧ j < a + 1 + l.length
      · have e : j - a = (j - (a + 1)) + 1 := by omega
        rw [if_pos h', if_pos (by omega), e, List.getD_cons_succ]
      · rw [if_neg h', if_neg (by omega)]

/-! ### The dictionary store -/

/-- The entries that derived defaults are computed from (R365, R491). -/
abbrev Feeds (k : Nat) : Prop :=
  k = 0x314002 ∨ k = 0x314003 ∨ k = 0x314006 ∨ (0x2E3000 ≤ k ∧ k < 0x2E4300)

theorem Store.find?_set_ne (t : Store) {k j : Nat} (v : Val) (h : k ≠ j) :
    Tab.find? (Store.set t k v) j = Tab.find? t j := by
  simp only [Store.set]
  split
  · exact Tab.find?_erase_ne t h
  · exact Tab.find?_insert_ne t v h

/-- The number a store holds for an entry with a static default. -/
def Store.num (t : Store) (k : Nat) : Int :=
  match Tab.find? t k with
  | some (.num v) => v
  | some (.bytes _) => 0
  | none => match Od.default? k with | some (.num v) => v | _ => 0

/-- What a store reads after a number was set in it. -/
theorem Store.num_set (t : Store) (k : Nat) (v : Int) (j : Nat) :
    Store.num (Store.set t k (.num v)) j = if k = j then v else Store.num t j := by
  by_cases h : k = j
  · subst h
    rw [if_pos rfl]
    by_cases hd : Od.default? k = some (.num v)
    · have e : Store.set t k (.num v) = Tab.erase t k := if_pos hd
      simp only [Store.num, e, Tab.find?_erase_self, hd]
    · have e : Store.set t k (.num v) = Tab.insert t k (.num v) := if_neg hd
      simp only [Store.num, e, Tab.find?_insert_self]
  · rw [if_neg h]
    simp only [Store.num, Store.find?_set_ne t _ h]

theorem Store.num_set_bytes (t : Store) {k j : Nat} (b : List Byte) (h : k ≠ j) :
    Store.num (Store.set t k (.bytes b)) j = Store.num t j := by
  simp only [Store.num, Store.find?_set_ne t _ h]

namespace State

/-- An entry with a static default reads what the store holds. -/
theorem int_eq_num {k : Nat} (hk : Od.default? k ≠ none) (s : State) : s.int k = Store.num s.od k := by
  unfold int get Store.num
  cases Tab.find? s.od k with
  | some v => cases v <;> rfl
  | none =>
    cases hd : Od.default? k with
    | some v => cases v <;> rfl
    | none => exact absurd hd hk

theorem rawInt_setVal_ne (s : State) {k j : Nat} (v : Val) (h : k ≠ j) : (s.setVal k v).rawInt j = s.rawInt j := by
  simp only [rawInt, raw, setVal, Store.find?_set_ne _ _ h]

/-- An entry reads what was last written to it. -/
@[simp] theorem get_setVal_self (s : State) (k : Nat) (v : Val) : (s.setVal k v).get k = v := by
  by_cases h : Od.default? k = some v
  · have e : (s.setVal k v).od = Tab.erase s.od k := if_pos h
    simp only [get, e, Tab.find?_erase_self, h]
  · have e : (s.setVal k v).od = Tab.insert s.od k v := if_neg h
    simp only [get, e, Tab.find?_insert_self]

/-- A write leaves every other entry alone, but for the derived defaults that it feeds. -/
theorem get_setVal_ne (s : State) {k j : Nat} (v : Val) (h : k ≠ j) (hf : ¬ Feeds k) : (s.setVal k v).get j = s.get j := by
  have h1 : k ≠ 0x314006 := fun e => hf (by simp [Feeds, e])
  have h2 : k ≠ 0x314003 := fun e => hf (by simp [Feeds, e])
  have h3 : k ≠ 0x314002 := fun e => hf (by simp [Feeds, e])
  have hd : (s.setVal k v).derived j = s.derived j := by
    by_cases hj : 0x35D0 ≤ Od.indexOf j ∧ Od.indexOf j < 0x35D0 + 24
    · have h4 : k ≠ Od.key (0x2E30 + (Od.indexOf j - 0x35D0 - 5)) 2 := by
        intro e
        refine hf ?_
        simp only [Od.key] at e
        simp only [Feeds]
        omega
      simp only [derived, rawInt_setVal_ne s v h1, rawInt_setVal_ne s v h2, rawInt_setVal_ne s v h3, rawInt_setVal_ne s v h4]
      rfl
    · simp only [derived, rawInt_setVal_ne s v h1, rawInt_setVal_ne s v h2, rawInt_setVal_ne s v h3, if_neg hj]
      rfl
  simp only [get, hd]
  simp only [setVal, Store.find?_set_ne _ _ h]

@[simp] theorem int_put_self (s : State) (k : Nat) (v : Int) : (s.put k v).int k = v := by simp [int, put]

theorem int_put_ne (s : State) {k j : Nat} (v : Int) (h : k ≠ j) (hf : ¬ Feeds k) : (s.put k v).int j = s.int j := by
  simp [int, put, get_setVal_ne s _ h hf]

theorem get_put_ne (s : State) {k j : Nat} (v : Int) (h : k ≠ j) (hf : ¬ Feeds k) : (s.put k v).get j = s.get j := by
  simp [put, get_setVal_ne s _ h hf]

@[simp] theorem int_bump_self (s : State) (k : Nat) : (s.bump k).int k = min (s.int k + 1) 0xFFFFFFFF := by
  simp [bump, bumpBy]

theorem int_bump_ne (s : State) {k j : Nat} (h : k ≠ j) (hf : ¬ Feeds k) : (s.bump k).int j = s.int j := by
  simp [bump, bumpBy, int_put_ne s _ h hf]

@[simp] theorem bytes_putBytes_self (s : State) (k : Nat) (b : List Byte) : (s.putBytes k b).bytes k = b := by
  simp [bytes, putBytes]

theorem int_putBytes_ne (s : State) {k j : Nat} (b : List Byte) (h : k ≠ j) (hf : ¬ Feeds k) :
    (s.putBytes k b).int j = s.int j := by
  simp [int, putBytes, get_setVal_ne s _ h hf]

theorem nat_eq (s : State) (k : Nat) : s.nat k = (s.int k).toNat := rfl
theorem flag_eq (s : State) (k : Nat) : s.flag k = decide (s.int k ≠ 0) := rfl

end State

end Sys2Proof.Machine
end

