-- ==== Sys2Proof/Laws/State.lean ====
section
/-!
SUPPORT. What the elementary updates leave alone, field by field, and what reading an entry makes of the update of a part.
-/

namespace Sys2Proof.Machine.State

variable (s : State)

@[simp] theorem setVal_pending (k : Nat) (v : Val) : (s.setVal k v).pending = s.pending := rfl
@[simp] theorem setVal_out (k : Nat) (v : Val) : (s.setVal k v).out = s.out := rfl
@[simp] theorem setVal_free (k : Nat) (v : Val) : (s.setVal k v).free = s.free := rfl
@[simp] theorem setVal_dict (k : Nat) (v : Val) : (s.setVal k v).dict = s.dict := rfl
@[simp] theorem setVal_mram (k : Nat) (v : Val) : (s.setVal k v).mram = s.mram := rfl
@[simp] theorem setVal_fuses (k : Nat) (v : Val) : (s.setVal k v).fuses = s.fuses := rfl
@[simp] theorem setVal_power (k : Nat) (v : Val) : (s.setVal k v).power = s.power := rfl
@[simp] theorem setVal_clock (k : Nat) (v : Val) : (s.setVal k v).clock = s.clock := rfl
@[simp] theorem setVal_mu (k : Nat) (v : Val) : (s.setVal k v).mu = s.mu := rfl
@[simp] theorem setVal_line (k : Nat) (v : Val) : (s.setVal k v).line = s.line := rfl
@[simp] theorem setVal_host (k : Nat) (v : Val) : (s.setVal k v).host = s.host := rfl
@[simp] theorem setVal_gate (k : Nat) (v : Val) : (s.setVal k v).gate = s.gate := rfl
@[simp] theorem setVal_log (k : Nat) (v : Val) : (s.setVal k v).log = s.log := rfl
@[simp] theorem setVal_trust (k : Nat) (v : Val) : (s.setVal k v).trust = s.trust := rfl
@[simp] theorem setVal_video (k : Nat) (v : Val) : (s.setVal k v).video = s.video := rfl
@[simp] theorem setVal_slices (k : Nat) (v : Val) : (s.setVal k v).slices = s.slices := rfl
@[simp] theorem setVal_canopen (k : Nat) (v : Val) : (s.setVal k v).canopen = s.canopen := rfl
@[simp] theorem setVal_wake (k : Nat) (v : Val) : (s.setVal k v).wake = s.wake := rfl
@[simp] theorem setVal_mooring (k : Nat) (v : Val) : (s.setVal k v).mooring = s.mooring := rfl
@[simp] theorem setVal_fio (k : Nat) (v : Val) : (s.setVal k v).fio = s.fio := rfl
@[simp] theorem setVal_pair (k : Nat) (v : Val) : (s.setVal k v).pair = s.pair := rfl
@[simp] theorem setVal_lock (k : Nat) (v : Val) : (s.setVal k v).lock = s.lock := rfl
@[simp] theorem setVal_pairing (k : Nat) (v : Val) : (s.setVal k v).pairing = s.pairing := rfl
@[simp] theorem setVal_unitA (k : Nat) (v : Val) : (s.setVal k v).unitA = s.unitA := rfl
@[simp] theorem setVal_acts (k : Nat) (v : Val) : (s.setVal k v).acts = s.acts := rfl
@[simp] theorem put_pending (k : Nat) (v : Int) : (s.put k v).pending = s.pending := rfl
@[simp] theorem put_out (k : Nat) (v : Int) : (s.put k v).out = s.out := rfl
@[simp] theorem put_free (k : Nat) (v : Int) : (s.put k v).free = s.free := rfl
@[simp] theorem put_dict (k : Nat) (v : Int) : (s.put k v).dict = s.dict := rfl
@[simp] theorem put_mram (k : Nat) (v : Int) : (s.put k v).mram = s.mram := rfl
@[simp] theorem put_fuses (k : Nat) (v : Int) : (s.put k v).fuses = s.fuses := rfl
@[simp] theorem put_power (k : Nat) (v : Int) : (s.put k v).power = s.power := rfl
@[simp] theorem put_clock (k : Nat) (v : Int) : (s.put k v).clock = s.clock := rfl
@[simp] theorem put_mu (k : Nat) (v : Int) : (s.put k v).mu = s.mu := rfl
@[simp] theorem put_line (k : Nat) (v : Int) : (s.put k v).line = s.line := rfl
@[simp] theorem put_host (k : Nat) (v : Int) : (s.put k v).host = s.host := rfl
@[simp] theorem put_gate (k : Nat) (v : Int) : (s.put k v).gate = s.gate := rfl
@[simp] theorem put_log (k : Nat) (v : Int) : (s.put k v).log = s.log := rfl
@[simp] theorem put_trust (k : Nat) (v : Int) : (s.put k v).trust = s.trust := rfl
@[simp] theorem put_video (k : Nat) (v : Int) : (s.put k v).video = s.video := rfl
@[simp] theorem put_slices (k : Nat) (v : Int) : (s.put k v).slices = s.slices := rfl
@[simp] theorem put_canopen (k : Nat) (v : Int) : (s.put k v).canopen = s.canopen := rfl
@[simp] theorem put_wake (k : Nat) (v : Int) : (s.put k v).wake = s.wake := rfl
@[simp] theorem put_mooring (k : Nat) (v : Int) : (s.put k v).mooring = s.mooring := rfl
@[simp] theorem put_fio (k : Nat) (v : Int) : (s.put k v).fio = s.fio := rfl
@[simp] theorem put_pair (k : Nat) (v : Int) : (s.put k v).pair = s.pair := rfl
@[simp] theorem put_lock (k : Nat) (v : Int) : (s.put k v).lock = s.lock := rfl
@[simp] theorem put_pairing (k : Nat) (v : Int) : (s.put k v).pairing = s.pairing := rfl
@[simp] theorem put_unitA (k : Nat) (v : Int) : (s.put k v).unitA = s.unitA := rfl
@[simp] theorem put_acts (k : Nat) (v : Int) : (s.put k v).acts = s.acts := rfl
@[simp] theorem putFlag_pending (k : Nat) (b : Bool) : (s.putFlag k b).pending = s.pending := rfl
@[simp] theorem putFlag_out (k : Nat) (b : Bool) : (s.putFlag k b).out = s.out := rfl
@[simp] theorem putFlag_free (k : Nat) (b : Bool) : (s.putFlag k b).free = s.free := rfl
@[simp] theorem putFlag_dict (k : Nat) (b : Bool) : (s.putFlag k b).dict = s.dict := rfl
@[simp] theorem putFlag_mram (k : Nat) (b : Bool) : (s.putFlag k b).mram = s.mram := rfl
@[simp] theorem putFlag_fuses (k : Nat) (b : Bool) : (s.putFlag k b).fuses = s.fuses := rfl
@[simp] theorem putFlag_power (k : Nat) (b : Bool) : (s.putFlag k b).power = s.power := rfl
@[simp] theorem putFlag_clock (k : Nat) (b : Bool) : (s.putFlag k b).clock = s.clock := rfl
@[simp] theorem putFlag_mu (k : Nat) (b : Bool) : (s.putFlag k b).mu = s.mu := rfl
@[simp] theorem putFlag_line (k : Nat) (b : Bool) : (s.putFlag k b).line = s.line := rfl
@[simp] theorem putFlag_host (k : Nat) (b : Bool) : (s.putFlag k b).host = s.host := rfl
@[simp] theorem putFlag_gate (k : Nat) (b : Bool) : (s.putFlag k b).gate = s.gate := rfl
@[simp] theorem putFlag_log (k : Nat) (b : Bool) : (s.putFlag k b).log = s.log := rfl
@[simp] theorem putFlag_trust (k : Nat) (b : Bool) : (s.putFlag k b).trust = s.trust := rfl
@[simp] theorem putFlag_video (k : Nat) (b : Bool) : (s.putFlag k b).video = s.video := rfl
@[simp] theorem putFlag_slices (k : Nat) (b : Bool) : (s.putFlag k b).slices = s.slices := rfl
@[simp] theorem putFlag_canopen (k : Nat) (b : Bool) : (s.putFlag k b).canopen = s.canopen := rfl
@[simp] theorem putFlag_wake (k : Nat) (b : Bool) : (s.putFlag k b).wake = s.wake := rfl
@[simp] theorem putFlag_mooring (k : Nat) (b : Bool) : (s.putFlag k b).mooring = s.mooring := rfl
@[simp] theorem putFlag_fio (k : Nat) (b : Bool) : (s.putFlag k b).fio = s.fio := rfl
@[simp] theorem putFlag_pair (k : Nat) (b : Bool) : (s.putFlag k b).pair = s.pair := rfl
@[simp] theorem putFlag_lock (k : Nat) (b : Bool) : (s.putFlag k b).lock = s.lock := rfl
@[simp] theorem putFlag_pairing (k : Nat) (b : Bool) : (s.putFlag k b).pairing = s.pairing := rfl
@[simp] theorem putFlag_unitA (k : Nat) (b : Bool) : (s.putFlag k b).unitA = s.unitA := rfl
@[simp] theorem putFlag_acts (k : Nat) (b : Bool) : (s.putFlag k b).acts = s.acts := rfl
@[simp] theorem putBytes_pending (k : Nat) (b : List Byte) : (s.putBytes k b).pending = s.pending := rfl
@[simp] theorem putBytes_out (k : Nat) (b : List Byte) : (s.putBytes k b).out = s.out := rfl
@[simp] theorem putBytes_free (k : Nat) (b : List Byte) : (s.putBytes k b).free = s.free := rfl
@[simp] theorem putBytes_dict (k : Nat) (b : List Byte) : (s.putBytes k b).dict = s.dict := rfl
@[simp] theorem putBytes_mram (k : Nat) (b : List Byte) : (s.putBytes k b).mram = s.mram := rfl
@[simp] theorem putBytes_fuses (k : Nat) (b : List Byte) : (s.putBytes k b).fuses = s.fuses := rfl
@[simp] theorem putBytes_power (k : Nat) (b : List Byte) : (s.putBytes k b).power = s.power := rfl
@[simp] theorem putBytes_clock (k : Nat) (b : List Byte) : (s.putBytes k b).clock = s.clock := rfl
@[simp] theorem putBytes_mu (k : Nat) (b : List Byte) : (s.putBytes k b).mu = s.mu := rfl
@[simp] theorem putBytes_line (k : Nat) (b : List Byte) : (s.putBytes k b).line = s.line := rfl
@[simp] theorem putBytes_host (k : Nat) (b : List Byte) : (s.putBytes k b).host = s.host := rfl
@[simp] theorem putBytes_gate (k : Nat) (b : List Byte) : (s.putBytes k b).gate = s.gate := rfl
@[simp] theorem putBytes_log (k : Nat) (b : List Byte) : (s.putBytes k b).log = s.log := rfl
@[simp] theorem putBytes_trust (k : Nat) (b : List Byte) : (s.putBytes k b).trust = s.trust := rfl
@[simp] theorem putBytes_video (k : Nat) (b : List Byte) : (s.putBytes k b).video = s.video := rfl
@[simp] theorem putBytes_slices (k : Nat) (b : List Byte) : (s.putBytes k b).slices = s.slices := rfl
@[simp] theorem putBytes_canopen (k : Nat) (b : List Byte) : (s.putBytes k b).canopen = s.canopen := rfl
@[simp] theorem putBytes_wake (k : Nat) (b : List Byte) : (s.putBytes k b).wake = s.wake := rfl
@[simp] theorem putBytes_mooring (k : Nat) (b : List Byte) : (s.putBytes k b).mooring = s.mooring := rfl
@[simp] theorem putBytes_fio (k : Nat) (b : List Byte) : (s.putBytes k b).fio = s.fio := rfl
@[simp] theorem putBytes_pair (k : Nat) (b : List Byte) : (s.putBytes k b).pair = s.pair := rfl
@[simp] theorem putBytes_lock (k : Nat) (b : List Byte) : (s.putBytes k b).lock = s.lock := rfl
@[simp] theorem putBytes_pairing (k : Nat) (b : List Byte) : (s.putBytes k b).pairing = s.pairing := rfl
@[simp] theorem putBytes_unitA (k : Nat) (b : List Byte) : (s.putBytes k b).unitA = s.unitA := rfl
@[simp] theorem putBytes_acts (k : Nat) (b : List Byte) : (s.putBytes k b).acts = s.acts := rfl
@[simp] theorem bumpBy_pending (k n : Nat) : (s.bumpBy k n).pending = s.pending := rfl
@[simp] theorem bumpBy_out (k n : Nat) : (s.bumpBy k n).out = s.out := rfl
@[simp] theorem bumpBy_free (k n : Nat) : (s.bumpBy k n).free = s.free := rfl
@[simp] theorem bumpBy_dict (k n : Nat) : (s.bumpBy k n).dict = s.dict := rfl
@[simp] theorem bumpBy_mram (k n : Nat) : (s.bumpBy k n).mram = s.mram := rfl
@[simp] theorem bumpBy_fuses (k n : Nat) : (s.bumpBy k n).fuses = s.fuses := rfl
@[simp] theorem bumpBy_power (k n : Nat) : (s.bumpBy k n).power = s.power := rfl
@[simp] theorem bumpBy_clock (k n : Nat) : (s.bumpBy k n).clock = s.clock := rfl
@[simp] theorem bumpBy_mu (k n : Nat) : (s.bumpBy k n).mu = s.mu := rfl
@[simp] theorem bumpBy_line (k n : Nat) : (s.bumpBy k n).line = s.line := rfl
@[simp] theorem bumpBy_host (k n : Nat) : (s.bumpBy k n).host = s.host := rfl
@[simp] theorem bumpBy_gate (k n : Nat) : (s.bumpBy k n).gate = s.gate := rfl
@[simp] theorem bumpBy_log (k n : Nat) : (s.bumpBy k n).log = s.log := rfl
@[simp] theorem bumpBy_trust (k n : Nat) : (s.bumpBy k n).trust = s.trust := rfl
@[simp] theorem bumpBy_video (k n : Nat) : (s.bumpBy k n).video = s.video := rfl
@[simp] theorem bumpBy_slices (k n : Nat) : (s.bumpBy k n).slices = s.slices := rfl
@[simp] theorem bumpBy_canopen (k n : Nat) : (s.bumpBy k n).canopen = s.canopen := rfl
@[simp] theorem bumpBy_wake (k n : Nat) : (s.bumpBy k n).wake = s.wake := rfl
@[simp] theorem bumpBy_mooring (k n : Nat) : (s.bumpBy k n).mooring = s.mooring := rfl
@[simp] theorem bumpBy_fio (k n : Nat) : (s.bumpBy k n).fio = s.fio := rfl
@[simp] theorem bumpBy_pair (k n : Nat) : (s.bumpBy k n).pair = s.pair := rfl
@[simp] theorem bumpBy_lock (k n : Nat) : (s.bumpBy k n).lock = s.lock := rfl
@[simp] theorem bumpBy_pairing (k n : Nat) : (s.bumpBy k n).pairing = s.pairing := rfl
@[simp] theorem bumpBy_unitA (k n : Nat) : (s.bumpBy k n).unitA = s.unitA := rfl
@[simp] theorem bumpBy_acts (k n : Nat) : (s.bumpBy k n).acts = s.acts := rfl
@[simp] theorem bump_pending (k : Nat) : (s.bump k).pending = s.pending := rfl
@[simp] theorem bump_out (k : Nat) : (s.bump k).out = s.out := rfl
@[simp] theorem bump_free (k : Nat) : (s.bump k).free = s.free := rfl
@[simp] theorem bump_dict (k : Nat) : (s.bump k).dict = s.dict := rfl
@[simp] theorem bump_mram (k : Nat) : (s.bump k).mram = s.mram := rfl
@[simp] theorem bump_fuses (k : Nat) : (s.bump k).fuses = s.fuses := rfl
@[simp] theorem bump_power (k : Nat) : (s.bump k).power = s.power := rfl
@[simp] theorem bump_clock (k : Nat) : (s.bump k).clock = s.clock := rfl
@[simp] theorem bump_mu (k : Nat) : (s.bump k).mu = s.mu := rfl
@[simp] theorem bump_line (k : Nat) : (s.bump k).line = s.line := rfl
@[simp] theorem bump_host (k : Nat) : (s.bump k).host = s.host := rfl
@[simp] theorem bump_gate (k : Nat) : (s.bump k).gate = s.gate := rfl
@[simp] theorem bump_log (k : Nat) : (s.bump k).log = s.log := rfl
@[simp] theorem bump_trust (k : Nat) : (s.bump k).trust = s.trust := rfl
@[simp] theorem bump_video (k : Nat) : (s.bump k).video = s.video := rfl
@[simp] theorem bump_slices (k : Nat) : (s.bump k).slices = s.slices := rfl
@[simp] theorem bump_canopen (k : Nat) : (s.bump k).canopen = s.canopen := rfl
@[simp] theorem bump_wake (k : Nat) : (s.bump k).wake = s.wake := rfl
@[simp] theorem bump_mooring (k : Nat) : (s.bump k).mooring = s.mooring := rfl
@[simp] theorem bump_fio (k : Nat) : (s.bump k).fio = s.fio := rfl
@[simp] theorem bump_pair (k : Nat) : (s.bump k).pair = s.pair := rfl
@[simp] theorem bump_lock (k : Nat) : (s.bump k).lock = s.lock := rfl
@[simp] theorem bump_pairing (k : Nat) : (s.bump k).pairing = s.pairing := rfl
@[simp] theorem bump_unitA (k : Nat) : (s.bump k).unitA = s.unitA := rfl
@[simp] theorem bump_acts (k : Nat) : (s.bump k).acts = s.acts := rfl
@[simp] theorem emit_pending (o : Out) : (s.emit o).pending = s.pending := rfl
@[simp] theorem emit_free (o : Out) : (s.emit o).free = s.free := rfl
@[simp] theorem emit_od (o : Out) : (s.emit o).od = s.od := rfl
@[simp] theorem emit_dict (o : Out) : (s.emit o).dict = s.dict := rfl
@[simp] theorem emit_mram (o : Out) : (s.emit o).mram = s.mram := rfl
@[simp] theorem emit_fuses (o : Out) : (s.emit o).fuses = s.fuses := rfl
@[simp] theorem emit_power (o : Out) : (s.emit o).power = s.power := rfl
@[simp] theorem emit_clock (o : Out) : (s.emit o).clock = s.clock := rfl
@[simp] theorem emit_mu (o : Out) : (s.emit o).mu = s.mu := rfl
@[simp] theorem emit_line (o : Out) : (s.emit o).line = s.line := rfl
@[simp] theorem emit_host (o : Out) : (s.emit o).host = s.host := rfl
@[simp] theorem emit_gate (o : Out) : (s.emit o).gate = s.gate := rfl
@[simp] theorem emit_log (o : Out) : (s.emit o).log = s.log := rfl
@[simp] theorem emit_trust (o : Out) : (s.emit o).trust = s.trust := rfl
@[simp] theorem emit_video (o : Out) : (s.emit o).video = s.video := rfl
@[simp] theorem emit_slices (o : Out) : (s.emit o).slices = s.slices := rfl
@[simp] theorem emit_canopen (o : Out) : (s.emit o).canopen = s.canopen := rfl
@[simp] theorem emit_wake (o : Out) : (s.emit o).wake = s.wake := rfl
@[simp] theorem emit_mooring (o : Out) : (s.emit o).mooring = s.mooring := rfl
@[simp] theorem emit_fio (o : Out) : (s.emit o).fio = s.fio := rfl
@[simp] theorem emit_pair (o : Out) : (s.emit o).pair = s.pair := rfl
@[simp] theorem emit_lock (o : Out) : (s.emit o).lock = s.lock := rfl
@[simp] theorem emit_pairing (o : Out) : (s.emit o).pairing = s.pairing := rfl
@[simp] theorem emit_unitA (o : Out) : (s.emit o).unitA = s.unitA := rfl
@[simp] theorem emit_acts (o : Out) : (s.emit o).acts = s.acts := rfl
@[simp] theorem tookFree_pending : (s.tookFree).pending = s.pending := rfl
@[simp] theorem tookFree_out : (s.tookFree).out = s.out := rfl
@[simp] theorem tookFree_od : (s.tookFree).od = s.od := rfl
@[simp] theorem tookFree_dict : (s.tookFree).dict = s.dict := rfl
@[simp] theorem tookFree_mram : (s.tookFree).mram = s.mram := rfl
@[simp] theorem tookFree_fuses : (s.tookFree).fuses = s.fuses := rfl
@[simp] theorem tookFree_power : (s.tookFree).power = s.power := rfl
@[simp] theorem tookFree_clock : (s.tookFree).clock = s.clock := rfl
@[simp] theorem tookFree_mu : (s.tookFree).mu = s.mu := rfl
@[simp] theorem tookFree_line : (s.tookFree).line = s.line := rfl
@[simp] theorem tookFree_host : (s.tookFree).host = s.host := rfl
@[simp] theorem tookFree_gate : (s.tookFree).gate = s.gate := rfl
@[simp] theorem tookFree_log : (s.tookFree).log = s.log := rfl
@[simp] theorem tookFree_trust : (s.tookFree).trust = s.trust := rfl
@[simp] theorem tookFree_video : (s.tookFree).video = s.video := rfl
@[simp] theorem tookFree_slices : (s.tookFree).slices = s.slices := rfl
@[simp] theorem tookFree_canopen : (s.tookFree).canopen = s.canopen := rfl
@[simp] theorem tookFree_wake : (s.tookFree).wake = s.wake := rfl
@[simp] theorem tookFree_mooring : (s.tookFree).mooring = s.mooring := rfl
@[simp] theorem tookFree_fio : (s.tookFree).fio = s.fio := rfl
@[simp] theorem tookFree_pair : (s.tookFree).pair = s.pair := rfl
@[simp] theorem tookFree_lock : (s.tookFree).lock = s.lock := rfl
@[simp] theorem tookFree_pairing : (s.tookFree).pairing = s.pairing := rfl
@[simp] theorem tookFree_unitA : (s.tookFree).unitA = s.unitA := rfl
@[simp] theorem tookFree_acts : (s.tookFree).acts = s.acts := rfl
@[simp] theorem emit_out (o : Out) : (s.emit o).out = s.out ++ [o] := rfl
@[simp] theorem setVal_od (k : Nat) (v : Val) : (s.setVal k v).od = Store.set s.od k v := rfl
@[simp] theorem put_od (k : Nat) (v : Int) : (s.put k v).od = Store.set s.od k (.num v) := rfl
@[simp] theorem putFlag_od (k : Nat) (b : Bool) : (s.putFlag k b).od = Store.set s.od k (.num (if b then 1 else 0)) := rfl
@[simp] theorem putBytes_od (k : Nat) (b : List Byte) : (s.putBytes k b).od = Store.set s.od k (.bytes b) := rfl
@[simp] theorem bumpBy_od (k n : Nat) : (s.bumpBy k n).od = Store.set s.od k (.num (min (s.int k + n) 0xFFFFFFFF)) := rfl
@[simp] theorem bump_od (k : Nat) : (s.bump k).od = Store.set s.od k (.num (min (s.int k + 1) 0xFFFFFFFF)) := rfl

/-! ### Entries read after the update of a part -/

@[simp] theorem get_with_pending (x : List Instr) (k : Nat) : State.get { s with pending := x } k = s.get k := rfl
@[simp] theorem get_with_out (x : List Out) (k : Nat) : State.get { s with out := x } k = s.get k := rfl
@[simp] theorem get_with_acts (x : List (Nat × List Byte)) (k : Nat) : State.get { s with acts := x } k = s.get k := rfl
@[simp] theorem get_with_free (x : Nat) (k : Nat) : State.get { s with free := x } k = s.get k := rfl
@[simp] theorem get_with_dict (x : Dict) (k : Nat) : State.get { s with dict := x } k = s.get k := rfl
@[simp] theorem get_with_mram (x : Mram) (k : Nat) : State.get { s with mram := x } k = s.get k := rfl
@[simp] theorem get_with_clock (x : Clock) (k : Nat) : State.get { s with clock := x } k = s.get k := rfl
@[simp] theorem get_with_mu (x : MakingUp) (k : Nat) : State.get { s with mu := x } k = s.get k := rfl
@[simp] theorem get_with_line (x : Line) (k : Nat) : State.get { s with line := x } k = s.get k := rfl
@[simp] theorem get_with_host (x : HostPort) (k : Nat) : State.get { s with host := x } k = s.get k := rfl
@[simp] theorem get_with_gate (x : Gate) (k : Nat) : State.get { s with gate := x } k = s.get k := rfl
@[simp] theorem get_with_log (x : Logbook) (k : Nat) : State.get { s with log := x } k = s.get k := rfl
@[simp] theorem get_with_trust (x : Trust) (k : Nat) : State.get { s with trust := x } k = s.get k := rfl
@[simp] theorem get_with_video (x : Video) (k : Nat) : State.get { s with video := x } k = s.get k := rfl
@[simp] theorem get_with_slices (x : Slices) (k : Nat) : State.get { s with slices := x } k = s.get k := rfl
@[simp] theorem get_with_wake (x : Wake) (k : Nat) : State.get { s with wake := x } k = s.get k := rfl
@[simp] theorem get_with_mooring (x : Mooring) (k : Nat) : State.get { s with mooring := x } k = s.get k := rfl
@[simp] theorem get_with_fio (x : Field) (k : Nat) : State.get { s with fio := x } k = s.get k := rfl
@[simp] theorem get_with_pair (x : Pair) (k : Nat) : State.get { s with pair := x } k = s.get k := rfl
@[simp] theorem get_with_lock (x : Lock) (k : Nat) : State.get { s with lock := x } k = s.get k := rfl
@[simp] theorem get_with_pairing (x : Bool) (k : Nat) : State.get { s with pairing := x } k = s.get k := rfl
@[simp] theorem get_with_unitA (x : Bool) (k : Nat) : State.get { s with unitA := x } k = s.get k := rfl
@[simp] theorem int_with_pending (x : List Instr) (k : Nat) : State.int { s with pending := x } k = s.int k := rfl
@[simp] theorem int_with_out (x : List Out) (k : Nat) : State.int { s with out := x } k = s.int k := rfl
@[simp] theorem int_with_acts (x : List (Nat × List Byte)) (k : Nat) : State.int { s with acts := x } k = s.int k := rfl
@[simp] theorem int_with_free (x : Nat) (k : Nat) : State.int { s with free := x } k = s.int k := rfl
@[simp] theorem int_with_dict (x : Dict) (k : Nat) : State.int { s with dict := x } k = s.int k := rfl
@[simp] theorem int_with_mram (x : Mram) (k : Nat) : State.int { s with mram := x } k = s.int k := rfl
@[simp] theorem int_with_clock (x : Clock) (k : Nat) : State.int { s with clock := x } k = s.int k := rfl
@[simp] theorem int_with_mu (x : MakingUp) (k : Nat) : State.int { s with mu := x } k = s.int k := rfl
@[simp] theorem int_with_line (x : Line) (k : Nat) : State.int { s with line := x } k = s.int k := rfl
@[simp] theorem int_with_host (x : HostPort) (k : Nat) : State.int { s with host := x } k = s.int k := rfl
@[simp] theorem int_with_gate (x : Gate) (k : Nat) : State.int { s with gate := x } k = s.int k := rfl
@[simp] theorem int_with_log (x : Logbook) (k : Nat) : State.int { s with log := x } k = s.int k := rfl
@[simp] theorem int_with_trust (x : Trust) (k : Nat) : State.int { s with trust := x } k = s.int k := rfl
@[simp] theorem int_with_video (x : Video) (k : Nat) : State.int { s with video := x } k = s.int k := rfl
@[simp] theorem int_with_slices (x : Slices) (k : Nat) : State.int { s with slices := x } k = s.int k := rfl
@[simp] theorem int_with_wake (x : Wake) (k : Nat) : State.int { s with wake := x } k = s.int k := rfl
@[simp] theorem int_with_mooring (x : Mooring) (k : Nat) : State.int { s with mooring := x } k = s.int k := rfl
@[simp] theorem int_with_fio (x : Field) (k : Nat) : State.int { s with fio := x } k = s.int k := rfl
@[simp] theorem int_with_pair (x : Pair) (k : Nat) : State.int { s with pair := x } k = s.int k := rfl
@[simp] theorem int_with_lock (x : Lock) (k : Nat) : State.int { s with lock := x } k = s.int k := rfl
@[simp] theorem int_with_pairing (x : Bool) (k : Nat) : State.int { s with pairing := x } k = s.int k := rfl
@[simp] theorem int_with_unitA (x : Bool) (k : Nat) : State.int { s with unitA := x } k = s.int k := rfl
@[simp] theorem get_emit (o : Out) (k : Nat) : (s.emit o).get k = s.get k := rfl
@[simp] theorem int_emit (o : Out) (k : Nat) : (s.emit o).int k = s.int k := rfl
@[simp] theorem int_setPl (p : Nat) (x : PortLine) (k : Nat) : (s.setPl p x).int k = s.int k := rfl
@[simp] theorem int_tookFree (k : Nat) : s.tookFree.int k = s.int k := rfl

/-! ### The records of a passage (R288) -/

@[simp] theorem act_pending (c : Nat) (r : List Byte) : (s.act c r).pending = s.pending := by unfold act; split <;> rfl
@[simp] theorem act_out (c : Nat) (r : List Byte) : (s.act c r).out = s.out := by unfold act; split <;> rfl
@[simp] theorem act_free (c : Nat) (r : List Byte) : (s.act c r).free = s.free := by unfold act; split <;> rfl
@[simp] theorem act_od (c : Nat) (r : List Byte) : (s.act c r).od = s.od := by unfold act; split <;> rfl
@[simp] theorem act_dict (c : Nat) (r : List Byte) : (s.act c r).dict = s.dict := by unfold act; split <;> rfl
@[simp] theorem act_mram (c : Nat) (r : List Byte) : (s.act c r).mram = s.mram := by unfold act; split <;> rfl
@[simp] theorem act_fuses (c : Nat) (r : List Byte) : (s.act c r).fuses = s.fuses := by unfold act; split <;> rfl
@[simp] theorem act_power (c : Nat) (r : List Byte) : (s.act c r).power = s.power := by unfold act; split <;> rfl
@[simp] theorem act_clock (c : Nat) (r : List Byte) : (s.act c r).clock = s.clock := by unfold act; split <;> rfl
@[simp] theorem act_mu (c : Nat) (r : List Byte) : (s.act c r).mu = s.mu := by unfold act; split <;> rfl
@[simp] theorem act_line (c : Nat) (r : List Byte) : (s.act c r).line = s.line := by unfold act; split <;> rfl
@[simp] theorem act_host (c : Nat) (r : List Byte) : (s.act c r).host = s.host := by unfold act; split <;> rfl
@[simp] theorem act_gate (c : Nat) (r : List Byte) : (s.act c r).gate = s.gate := by unfold act; split <;> rfl
@[simp] theorem act_log (c : Nat) (r : List Byte) : (s.act c r).log = s.log := by unfold act; split <;> rfl
@[simp] theorem act_trust (c : Nat) (r : List Byte) : (s.act c r).trust = s.trust := by unfold act; split <;> rfl
@[simp] theorem act_video (c : Nat) (r : List Byte) : (s.act c r).video = s.video := by unfold act; split <;> rfl
@[simp] theorem act_slices (c : Nat) (r : List Byte) : (s.act c r).slices = s.slices := by unfold act; split <;> rfl
@[simp] theorem act_canopen (c : Nat) (r : List Byte) : (s.act c r).canopen = s.canopen := by unfold act; split <;> rfl
@[simp] theorem act_wake (c : Nat) (r : List Byte) : (s.act c r).wake = s.wake := by unfold act; split <;> rfl
@[simp] theorem act_mooring (c : Nat) (r : List Byte) : (s.act c r).mooring = s.mooring := by unfold act; split <;> rfl
@[simp] theorem act_fio (c : Nat) (r : List Byte) : (s.act c r).fio = s.fio := by unfold act; split <;> rfl
@[simp] theorem act_pair (c : Nat) (r : List Byte) : (s.act c r).pair = s.pair := by unfold act; split <;> rfl
@[simp] theorem act_lock (c : Nat) (r : List Byte) : (s.act c r).lock = s.lock := by unfold act; split <;> rfl
@[simp] theorem act_pairing (c : Nat) (r : List Byte) : (s.act c r).pairing = s.pairing := by unfold act; split <;> rfl
@[simp] theorem act_unitA (c : Nat) (r : List Byte) : (s.act c r).unitA = s.unitA := by unfold act; split <;> rfl
@[simp] theorem get_act (c : Nat) (r : List Byte) (k : Nat) : (s.act c r).get k = s.get k := by unfold act; split <;> rfl
@[simp] theorem int_act (c : Nat) (r : List Byte) (k : Nat) : (s.act c r).int k = s.int k := by unfold act; split <;> rfl
@[simp] theorem nat_act (c : Nat) (r : List Byte) (k : Nat) : (s.act c r).nat k = s.nat k := by unfold act; split <;> rfl
@[simp] theorem bytes_act (c : Nat) (r : List Byte) (k : Nat) : (s.act c r).bytes k = s.bytes k := by unfold act; split <;> rfl
@[simp] theorem flag_act (c : Nat) (r : List Byte) (k : Nat) : (s.act c r).flag k = s.flag k := by unfold act; split <;> rfl
@[simp] theorem pendAct_pending (b : BitVec 256) : (s.pendAct b).pending = s.pending := by unfold pendAct; split <;> simp
@[simp] theorem pendAct_out (b : BitVec 256) : (s.pendAct b).out = s.out := by unfold pendAct; split <;> simp
@[simp] theorem pendAct_free (b : BitVec 256) : (s.pendAct b).free = s.free := by unfold pendAct; split <;> simp
@[simp] theorem pendAct_od (b : BitVec 256) : (s.pendAct b).od = s.od := by unfold pendAct; split <;> simp
@[simp] theorem pendAct_dict (b : BitVec 256) : (s.pendAct b).dict = s.dict := by unfold pendAct; split <;> simp
@[simp] theorem pendAct_mram (b : BitVec 256) : (s.pendAct b).mram = s.mram := by unfold pendAct; split <;> simp
@[simp] theorem pendAct_fuses (b : BitVec 256) : (s.pendAct b).fuses = s.fuses := by unfold pendAct; split <;> simp
@[simp] theorem pendAct_power (b : BitVec 256) : (s.pendAct b).power = s.power := by unfold pendAct; split <;> simp
@[simp] theorem pendAct_clock (b : BitVec 256) : (s.pendAct b).clock = s.clock := by unfold pendAct; split <;> simp
@[simp] theorem pendAct_mu (b : BitVec 256) : (s.pendAct b).mu = s.mu := by unfold pendAct; split <;> simp
@[simp] theorem pendAct_line (b : BitVec 256) : (s.pendAct b).line = s.line := by unfold pendAct; split <;> simp
@[simp] theorem pendAct_host (b : BitVec 256) : (s.pendAct b).host = s.host := by unfold pendAct; split <;> simp
@[simp] theorem pendAct_gate (b : BitVec 256) : (s.pendAct b).gate = s.gate := by unfold pendAct; split <;> simp
@[simp] theorem pendAct_log (b : BitVec 256) : (s.pendAct b).log = s.log := by unfold pendAct; split <;> simp
@[simp] theorem pendAct_trust (b : BitVec 256) : (s.pendAct b).trust = s.trust := by unfold pendAct; split <;> simp
@[simp] theorem pendAct_video (b : BitVec 256) : (s.pendAct b).video = s.video := by unfold pendAct; split <;> simp
@[simp] theorem pendAct_slices (b : BitVec 256) : (s.pendAct b).slices = s.slices := by unfold pendAct; split <;> simp
@[simp] theorem pendAct_canopen (b : BitVec 256) : (s.pendAct b).canopen = s.canopen := by unfold pendAct; split <;> simp
@[simp] theorem pendAct_wake (b : BitVec 256) : (s.pendAct b).wake = s.wake := by unfold pendAct; split <;> simp
@[simp] theorem pendAct_mooring (b : BitVec 256) : (s.pendAct b).mooring = s.mooring := by unfold pendAct; split <;> simp
@[simp] theorem pendAct_fio (b : BitVec 256) : (s.pendAct b).fio = s.fio := by unfold pendAct; split <;> simp
@[simp] theorem pendAct_pair (b : BitVec 256) : (s.pendAct b).pair = s.pair := by unfold pendAct; split <;> simp
@[simp] theorem pendAct_lock (b : BitVec 256) : (s.pendAct b).lock = s.lock := by unfold pendAct; split <;> simp
@[simp] theorem pendAct_pairing (b : BitVec 256) : (s.pendAct b).pairing = s.pairing := by unfold pendAct; split <;> simp
@[simp] theorem pendAct_unitA (b : BitVec 256) : (s.pendAct b).unitA = s.unitA := by unfold pendAct; split <;> simp
@[simp] theorem get_pendAct (b : BitVec 256) (k : Nat) : (s.pendAct b).get k = s.get k := by unfold pendAct; split <;> simp
@[simp] theorem int_pendAct (b : BitVec 256) (k : Nat) : (s.pendAct b).int k = s.int k := by unfold pendAct; split <;> simp
@[simp] theorem nat_pendAct (b : BitVec 256) (k : Nat) : (s.pendAct b).nat k = s.nat k := by unfold pendAct; split <;> simp
@[simp] theorem bytes_pendAct (b : BitVec 256) (k : Nat) : (s.pendAct b).bytes k = s.bytes k := by unfold pendAct; split <;> simp
@[simp] theorem flag_pendAct (b : BitVec 256) (k : Nat) : (s.pendAct b).flag k = s.flag k := by unfold pendAct; split <;> simp
/-- Without a pair nothing is recorded. -/
theorem act_unpaired (c : Nat) (r : List Byte) (h : s.pairing = false) : s.act c r = s := by simp [act, h]

end Sys2Proof.Machine.State
end

