-- ==== Sys2Proof/Laws/Ops.lean ====
section
/-!
SUPPORT. What raising a source, reporting and EMCY leave of the dictionary: each writes only entries of its own.
-/

namespace Sys2Proof.Machine.State

variable (s : State)

/-- A key that feeds no derived default lies outside the images and the stream bounds. -/
theorem not_feeds_of_ge {k : Nat} (h : 0x314007 ≤ k) : ¬ Feeds k := by
  simp only [Feeds]
  omega

theorem int_msixOne (t : Nat) (due : Bool) (k : Nat) : (s.msixOne t due).int k = s.int k := by
  unfold msixOne
  split <;> (try split) <;> rfl

theorem int_setGate (g : Gate) (k : Nat) : (s.setGate g).int k = s.int k := by
  simp only [setGate, int_msixOne, int_pendAct]
  rfl

/-- An event of a source writes only the counters of that source. -/
theorem int_gateEvent {k : Nat} (src : Nat) (h : k < 0x360000) : (s.gateEvent src).int k = s.int k := by
  have h3 : ∀ c, c ≤ 5 → Od.key (0x3600 + src) 0 + c ≠ k ∧ ¬ Feeds (Od.key (0x3600 + src) 0 + c) := by
    intro c hc
    refine ⟨by simp only [Od.key]; omega, not_feeds_of_ge (by simp only [Od.key]; omega)⟩
  have e3 : Od.key (0x3600 + src) 3 = Od.key (0x3600 + src) 0 + 3 := by simp [Od.key]
  simp only [gateEvent, e3, int_setGate]
  split
  · rw [int_bump_ne _ (h3 4 (by decide)).1 (h3 4 (by decide)).2, int_put_ne _ _ (h3 5 (by decide)).1 (h3 5 (by decide)).2,
      int_bump_ne _ (h3 3 (by decide)).1 (h3 3 (by decide)).2]
  · rw [int_put_ne _ _ (h3 5 (by decide)).1 (h3 5 (by decide)).2, int_bump_ne _ (h3 3 (by decide)).1 (h3 3 (by decide)).2]

/-- A report writes only the entries of the logbook. -/
theorem int_queueReport {k : Nat} (r : Record) (h : k < 0x350000) : (s.queueReport r).1.int k = s.int k := by
  have hb : ∀ (u : State) (j : Nat), 0x350000 ≤ j → (u.bump j).int k = u.int k := fun u j hj =>
    int_bump_ne u (by omega) (not_feeds_of_ge (by omega))
  have hp : ∀ (u : State) (j : Nat) (v : Int), 0x350000 ≤ j → (u.put j v).int k = u.int k := fun u j v hj =>
    int_put_ne u v (by omega) (not_feeds_of_ge (by omega))
  unfold queueReport
  simp only
  split
  · simp only [int_with_log]
    rw [hb _ _ (by decide), hb _ _ (by decide)]
  · split
    · simp only
      rw [hp _ _ _ (by decide), int_with_log, hb _ _ (by decide)]
    · simp only
      rw [hp _ _ _ (by decide), hb _ _ (by simp only [Od.key]; omega), hb _ _ (by decide), hb _ _ (by decide)]

theorem int_report {k : Nat} (cls code detail inst value : Nat) (h : k < 0x350000) :
    (s.report cls code detail inst value).int k = s.int k := by
  unfold report
  simp only
  split
  · rw [int_queueReport _ _ h, int_gateEvent _ _ (by omega), int_queueReport _ _ h]
  · rw [int_queueReport _ _ h]

/-- Raising a source writes only the entries of the logbook and of the source. -/
theorem int_raise {k : Nat} (src detail inst value : Nat) (h : k < 0x350000) :
    (s.raise src detail inst value).int k = s.int k := by
  unfold raise
  simp only
  split
  · rw [int_report _ _ _ _ _ _ h, int_gateEvent _ _ (by omega)]
  · rw [int_gateEvent _ _ (by omega)]

/-- A trust refusal writes, below the logbook, only its record and its counter. -/
theorem int_trustRefuse {k : Nat} (code : Nat) (h : k < 0x350000) (h6 : k ≠ 0x310006) (h7 : k ≠ 0x310007) :
    (s.trustRefuse code).int k = s.int k := by
  unfold trustRefuse
  rw [int_raise _ _ _ _ _ h, int_bump_ne _ (Ne.symm h7) (by simp [Feeds]), int_put_ne _ _ (Ne.symm h6) (by simp [Feeds])]

theorem derived_congr {t : State} (k : Nat) (ho : t.od = s.od) (hf : t.fuses = s.fuses) (hn : t.canopen.nodeId = s.canopen.nodeId)
    (hs : t.power.hostSel = s.power.hostSel) (hi : t.power.islands = s.power.islands) : t.derived k = s.derived k := by
  have hr : ∀ j, t.rawInt j = s.rawInt j := fun j => by simp only [rawInt, raw, ho]
  simp only [derived, hr, hf, hn, hs, hi]

/-- An entry reads the same where the store, and what derived defaults come from, are the same. -/
theorem int_congr {t : State} (k : Nat) (ho : t.od = s.od) (hf : t.fuses = s.fuses) (hn : t.canopen.nodeId = s.canopen.nodeId)
    (hs : t.power.hostSel = s.power.hostSel) (hi : t.power.islands = s.power.islands) : t.int k = s.int k := by
  simp only [int, get, ho, derived_congr s k ho hf hn hs hi]

/-- An entry with a static default reads the same where the store is the same. -/
theorem int_of_od {t : State} {k : Nat} (ho : t.od = s.od) (hk : Od.default? k ≠ none) : t.int k = s.int k := by
  unfold int get
  rw [ho]
  cases Tab.find? s.od k with
  | some v => rfl
  | none =>
    cases hd : Od.default? k with
    | some v => rfl
    | none => exact absurd hd hk

theorem int_with_power (x : Power) (k : Nat) (hs : x.hostSel = s.power.hostSel) (hi : x.islands = s.power.islands) :
    State.int { s with power := x } k = s.int k := int_congr s k rfl rfl rfl hs hi

theorem int_with_canopen (x : Canopen) (k : Nat) (hn : x.nodeId = s.canopen.nodeId) :
    State.int { s with canopen := x } k = s.int k := int_congr s k rfl rfl hn rfl rfl

/-- What an entry reads after a number was put into one. -/
theorem int_put {k : Nat} (v : Int) (j : Nat) (hf : ¬ Feeds k) : (s.put k v).int j = if k = j then v else s.int j := by
  by_cases h : k = j
  · subst h
    simp
  · rw [if_neg h, int_put_ne s v h hf]

/-- What an entry reads after one was counted up. -/
theorem int_bump {k : Nat} (j : Nat) (hf : ¬ Feeds k) :
    (s.bump k).int j = if k = j then min (s.int j + 1) 0xFFFFFFFF else s.int j := by
  by_cases h : k = j
  · subst h
    simp
  · rw [if_neg h, int_bump_ne s h hf]

@[simp] theorem int_setCan (c : Nat) (x : CanPort) (k : Nat) : (s.setCan c x).int k = s.int k :=
  int_congr s k rfl rfl rfl rfl rfl
/-- The stored area is written only while stores run (R268, step 3). -/
theorem storeStored_shut (h : s.storesRun = false) : s.storeStored = s := by simp [storeStored, h]
@[simp] theorem int_storeStored (k : Nat) : s.storeStored.int k = s.int k := by
  unfold storeStored; split <;> rfl
@[simp] theorem int_canPump (c k : Nat) : (s.canPump c).int k = s.int k := by
  unfold canPump
  simp only
  split
  · exact int_setCan _ _ _ _
  · rfl

/-- The entries EMCY writes: the error field, its counter, and the drops of CAN0's service queue. -/
abbrev emcyEntry (k : Nat) : Prop := (0x100300 ≤ k ∧ k ≤ 0x100308) ∨ k = 0x330105 ∨ k = 0x331809

@[simp] theorem int_canAct (c : Nat) (f : Sys2Proof.CanFrame) (k : Nat) : (s.canAct c f).int k = s.int k := int_act _ _ _ _

theorem int_queueFrame {c k : Nat} (f : Sys2Proof.CanFrame) (h : Od.key (0x3318 + c) 9 ≠ k) :
    (s.queueFrame c f).1.int k = s.int k := by
  unfold queueFrame
  simp only
  split
  · rw [int_canPump, int_setCan, int_canAct]
  · exact int_bump_ne _ h (not_feeds_of_ge (by simp only [Od.key]; omega))

theorem int_errorField {k : Nat} (v : Int) (h : ¬ emcyEntry k) : (s.errorField v).int k = s.int k := by
  have hp : ∀ (u : State) (j : Nat) (w : Int), 0x100300 ≤ j → j ≤ 0x100308 → (u.put j w).int k = u.int k := by
    intro u j w h1 h2
    exact int_put_ne u w (fun e => h (.inl ⟨e ▸ h1, e ▸ h2⟩)) (by simp only [Feeds]; omega)
  have hf : ∀ (l : List Nat) (u : State), (∀ i ∈ l, i < 7) →
      (l.foldl (fun s i => s.put (Od.key 0x1003 (8 - i)) (s.int (Od.key 0x1003 (7 - i)))) u).int k = u.int k := by
    intro l
    induction l with
    | nil => intro u _; rfl
    | cons i l ih =>
      intro u hl
      have hi := hl i (by simp)
      rw [List.foldl_cons, ih _ (fun j hj => hl j (by simp [hj])), hp _ _ _ (by simp only [Od.key]; omega) (by simp only [Od.key]; omega)]
  unfold errorField
  simp only
  rw [hp _ _ _ (by decide) (by decide), hp _ _ _ (by decide) (by decide), hf _ _ (by simp)]

theorem int_emcyOut {k : Nat} (f : Sys2Proof.CanFrame) (h : ¬ emcyEntry k) : (s.emcyOut f).int k = s.int k := by
  unfold emcyOut
  extract_lets -merge u w v
  have hw : w.int k = s.int k := by
    rw [show w.int k = u.int k from int_queueFrame _ _ (fun e => h (.inr (.inr e.symm)))]
    exact (int_put_ne _ _ (fun e => h (.inr (.inl e.symm))) (by simp [Feeds])).trans (int_errorField _ _ h)
  clear_value w
  exact (int_congr w k rfl rfl rfl rfl rfl).trans hw

theorem int_emcy {k : Nat} (code src : Nat) (h : ¬ emcyEntry k) : (s.emcy code src).int k = s.int k := by
  unfold emcy
  split
  · simp only
    split
    · split
      · exact int_congr _ k rfl rfl rfl rfl rfl
      · exact int_put_ne _ _ (fun e => h (.inr (.inl e.symm))) (by simp [Feeds])
    · exact int_emcyOut _ _ h
  · rfl

/-- Judging the conditions of EMCY writes only the entries of EMCY. -/
theorem int_emcyScan {k : Nat} (h : ¬ emcyEntry k) : s.emcyScan.int k = s.int k := by
  have hf : ∀ (g : Nat × Nat → Nat) (l : List (Nat × Nat)) (u : State),
      (l.foldl (fun s c => s.emcy (g c) c.2) u).int k = u.int k := by
    intro g l
    induction l with
    | nil => intro u; rfl
    | cons c l ih => intro u; rw [List.foldl_cons, ih, int_emcy _ _ _ h]
  have e : s.emcyScan.int k = ((s.canopen.conditions.filter (fun c => !s.emcyNow.any (fun o => decide (o.1 = c.1)))).foldl
      (fun s c => s.emcy 0 c.2) ((s.emcyNow.filter (fun c => !s.canopen.conditions.any (fun o => decide (o.1 = c.1)))).foldl
      (fun s c => s.emcy c.1 c.2) ({ s with canopen := { s.canopen with conditions := s.emcyNow } } : State))).int k := rfl
  rw [e, hf (fun _ => 0), hf (fun c => c.1)]
  exact int_congr _ k rfl rfl rfl rfl rfl

end Sys2Proof.Machine.State
end

