-- ==== Sys2Proof/Laws/Keep.lean ====
section
/-!
SUPPORT. Rules of `Keep` for the forms a meaning is written in: chains of operations, conditionals, local definitions,
folds, pairs of a state and a value, and updates of one part or several.
-/

namespace Sys2Proof.Machine

/-- Every part of a list is in another. -/
def sub (l m : List Part) : Bool := l.all (fun p => m.contains p)

theorem sub.mem {l m : List Part} (h : sub l m = true) {p : Part} (hp : p ∈ l) : p ∈ m := by
  have := List.all_eq_true.mp h p hp
  simpa using this

theorem sub.trans {l m n : List Part} (h : sub l m = true) (h' : sub m n = true) : sub l n = true := by
  refine List.all_eq_true.mpr fun p hp => ?_
  simpa using sub.mem h' (sub.mem h hp)

theorem Part.same_refl (s : State) (p : Part) : p.same s s := by cases p <;> rfl

theorem Part.same_trans {s t u : State} {p : Part} (h : p.same s t) (h' : p.same t u) : p.same s u := by
  cases p <;> exact Eq.trans h' h

theorem Fuses.burnt_refl (a : Fuses) : a.burnt a := ⟨rfl, Nat.le_refl _, id⟩

theorem Fuses.burnt_trans {a b c : Fuses} (h : a.burnt b) (h' : b.burnt c) : a.burnt c :=
  ⟨h'.1.trans h.1, h.2.1.trans h'.2.1, fun x => h'.2.2 (h.2.2 x)⟩

theorem Keep.refl (l : List Part) (s : State) : Keep l s s :=
  ⟨rfl, List.prefix_refl _, Nat.le_refl _, fun p _ => p.same_refl s, Fuses.burnt_refl _, id⟩

theorem Keep.trans {l : List Part} {s t u : State} (h : Keep l s t) (h' : Keep l t u) : Keep l s u :=
  ⟨h'.pending.trans h.pending, h.out.trans h'.out, h.free.trans h'.free,
   fun p hp => Part.same_trans (h.same p hp) (h'.same p hp), Fuses.burnt_trans h.fuses h'.fuses,
   fun x => h'.canonical (h.canonical x)⟩

theorem Keep.mono {l m : List Part} {s t : State} (hs : sub l m = true) (h : Keep l s t) : Keep m s t :=
  { h with same := fun p hp => h.same p (fun hl => hp (sub.mem hs hl)) }

/-- A command that ends in a next state which keeps all but the parts of `l`. -/
def Ends (l : List Part) (s : State) (o : Res) : Prop := ∃ t, o = .next t ∧ Keep l s t

/-- An optional pair: its state, if there is one, keeps all but the parts of `l`. -/
def KeepO {α : Type} (l : List Part) (s : State) (o : Option (State × α)) : Prop := ∀ p, o = some p → Keep l s p.1

variable {α β : Type} {L : List Part} {r : State}

theorem Keep.shav {v : α} {b : α → State} (h : ∀ x, Keep L r (b x)) : Keep L r (have x := v; b x) := h v
theorem Keep.phav {v : α} {b : α → State × β} (h : ∀ x, Keep L r (b x).1) : Keep L r (have x := v; b x).1 := h v
theorem Keep.rhav {v : α} {b : α → Res} (h : ∀ x, Ends L r (b x)) : Ends L r (have x := v; b x) := h v
theorem Keep.ohav {v : α} {b : α → Option (State × β)} (h : ∀ x, KeepO L r (b x)) : KeepO L r (have x := v; b x) := h v

theorem Keep.shavS {v : State} {b : State → State} (hv : Keep L r v) (h : ∀ x, Keep L r x → Keep L r (b x)) :
    Keep L r (have x := v; b x) := h v hv
theorem Keep.phavS {v : State} {b : State → State × β} (hv : Keep L r v) (h : ∀ x, Keep L r x → Keep L r (b x).1) :
    Keep L r (have x := v; b x).1 := h v hv
theorem Keep.rhavS {v : State} {b : State → Res} (hv : Keep L r v) (h : ∀ x, Keep L r x → Ends L r (b x)) :
    Ends L r (have x := v; b x) := h v hv

theorem Keep.shavP {v : State × α} {b : State × α → State} (hv : Keep L r v.1)
    (h : ∀ x : State × α, Keep L r x.1 → Keep L r (b x)) : Keep L r (have x := v; b x) := h v hv
theorem Keep.phavP {v : State × α} {b : State × α → State × β} (hv : Keep L r v.1)
    (h : ∀ x : State × α, Keep L r x.1 → Keep L r (b x).1) : Keep L r (have x := v; b x).1 := h v hv
theorem Keep.rhavP {v : State × α} {b : State × α → Res} (hv : Keep L r v.1)
    (h : ∀ x : State × α, Keep L r x.1 → Ends L r (b x)) : Ends L r (have x := v; b x) := h v hv

theorem Keep.szeta {v : α} {b : α → State} (h : Keep L r (b v)) : Keep L r (have x := v; b x) := h
theorem Keep.pzeta {v : α} {b : α → State × β} (h : Keep L r (b v).1) : Keep L r (have x := v; b x).1 := h
theorem Keep.rzeta {v : α} {b : α → Res} (h : Ends L r (b v)) : Ends L r (have x := v; b x) := h
theorem Keep.ozeta {v : α} {b : α → Option (State × β)} (h : KeepO L r (b v)) : KeepO L r (have x := v; b x) := h

theorem Keep.site {c : Prop} [Decidable c] {a b : State} (ha : Keep L r a) (hb : Keep L r b) :
    Keep L r (if c then a else b) := by split <;> assumption
theorem Keep.pite {c : Prop} [Decidable c] {a b : State × β} (ha : Keep L r a.1) (hb : Keep L r b.1) :
    Keep L r (if c then a else b).1 := by split <;> assumption
theorem Keep.rite {c : Prop} [Decidable c] {a b : Res} (ha : Ends L r a) (hb : Ends L r b) :
    Ends L r (if c then a else b) := by split <;> assumption
theorem Keep.oite {c : Prop} [Decidable c] {a b : Option (State × β)} (ha : KeepO L r a) (hb : KeepO L r b) :
    KeepO L r (if c then a else b) := by split <;> assumption

theorem Keep.pair {a : State} {b : β} (h : Keep L r a) : Keep L r (a, b).1 := h
theorem Keep.rnext {a : State} (h : Keep L r a) : Ends L r (.next a) := ⟨a, rfl, h⟩
theorem Keep.osome {a : State × β} (h : Keep L r a.1) : KeepO L r (some a) := fun _ e => Option.some.inj e ▸ h
theorem Keep.onone : KeepO L r (none : Option (State × β)) := fun _ e => nomatch e

theorem Keep.foldl {f : State → α → State} {as : List α} {x : State} (hf : ∀ y a, Keep L r y → Keep L r (f y a))
    (h : Keep L r x) : Keep L r (as.foldl f x) := by
  induction as generalizing x with
  | nil => exact h
  | cons a as ih => exact ih (hf _ _ h)

theorem Keep.pfoldl {f : State × β → α → State × β} {as : List α} {x : State × β}
    (hf : ∀ y a, Keep L r y.1 → Keep L r (f y a).1) (h : Keep L r x.1) : Keep L r (as.foldl f x).1 := by
  induction as generalizing x with
  | nil => exact h
  | cons a as ih => exact ih (hf _ _ h)

/-! ### The stores stay in canonical form -/

theorem Tab.rising_cons {i : Nat} {v : α} {t : Tab α} :
    Tab.rising ((i, v) :: t) = true ↔ (∀ p ∈ t, i < p.1) ∧ Tab.rising t = true := by
  induction t generalizing i v with
  | nil => simp [Tab.rising]
  | cons p t ih =>
    obtain ⟨j, w⟩ := p
    simp only [Tab.rising, Bool.and_eq_true, decide_eq_true_eq, List.mem_cons, forall_eq_or_imp]
    constructor
    · rintro ⟨h, ht⟩
      exact ⟨⟨h, fun p hp => Nat.lt_trans h ((ih.mp ht).1 p hp)⟩, ht⟩
    · rintro ⟨⟨h, _⟩, ht⟩
      exact ⟨h, ht⟩

theorem Tab.rising_erase {t : Tab α} {i : Nat} (h : Tab.rising t = true) : Tab.rising (Tab.erase t i) = true := by
  induction t with
  | nil => rfl
  | cons p t ih =>
    obtain ⟨j, w⟩ := p
    have h' := Tab.rising_cons.mp h
    simp only [Tab.erase, List.filter_cons]
    split
    · exact Tab.rising_cons.mpr ⟨fun p hp => h'.1 p (List.mem_of_mem_filter hp), ih h'.2⟩
    · exact ih h'.2

theorem Tab.mem_insert {t : Tab α} {i : Nat} {v : α} {p : Nat × α} (h : p ∈ Tab.insert t i v) : p = (i, v) ∨ p ∈ t := by
  induction t with
  | nil => simpa [Tab.insert] using h
  | cons q t ih =>
    obtain ⟨j, w⟩ := q
    simp only [Tab.insert] at h
    split at h
    · simpa using h
    · split at h
      · rcases List.mem_cons.mp h with h | h
        · exact .inl h
        · exact .inr (List.mem_cons_of_mem _ h)
      · rcases List.mem_cons.mp h with h | h
        · exact .inr (h ▸ List.mem_cons_self)
        · exact (ih h).imp id (List.mem_cons_of_mem _)

theorem Tab.rising_insert {t : Tab α} {i : Nat} {v : α} (h : Tab.rising t = true) :
    Tab.rising (Tab.insert t i v) = true := by
  induction t with
  | nil => rfl
  | cons q t ih =>
    obtain ⟨j, w⟩ := q
    have h' := Tab.rising_cons.mp h
    simp only [Tab.insert]
    split
    · rename_i hij
      refine Tab.rising_cons.mpr ⟨fun p hp => ?_, h⟩
      rcases List.mem_cons.mp hp with rfl | hp
      · exact hij
      · exact Nat.lt_trans hij (h'.1 p hp)
    · rename_i hij
      split
      · rename_i e
        subst e
        exact Tab.rising_cons.mpr h'
      · rename_i e
        refine Tab.rising_cons.mpr ⟨fun p hp => ?_, ih h'.2⟩
        rcases Tab.mem_insert hp with rfl | hp
        · simp only
          omega
        · exact h'.1 p hp

/-- Writing a sparse table keeps its canonical form. -/
theorem Tab.set_wf [DecidableEq α] {d : α} {t : Tab α} (h : Tab.wf d t = true) (i : Nat) (v : α) :
    Tab.wf d (Tab.set d t i v) = true := by
  simp only [Tab.wf, Bool.and_eq_true, List.all_eq_true, decide_eq_true_eq, Tab.set] at h ⊢
  split
  · exact ⟨Tab.rising_erase h.1, fun p hp => h.2 p (List.mem_of_mem_filter hp)⟩
  · rename_i hv
    refine ⟨Tab.rising_insert h.1, fun p hp => ?_⟩
    rcases Tab.mem_insert hp with rfl | hp
    · exact hv
    · exact h.2 p hp

/-- Writing an entry keeps the dictionary store canonical. -/
theorem Store.set_wf {t : Store} (h : Store.wf t = true) (k : Nat) (v : Val) : Store.wf (Store.set t k v) = true := by
  simp only [Store.wf, Bool.and_eq_true, List.all_eq_true, decide_eq_true_eq, Store.set] at h ⊢
  split
  · exact ⟨Tab.rising_erase h.1, fun p hp => h.2 p (List.mem_of_mem_filter hp)⟩
  · rename_i hv
    refine ⟨Tab.rising_insert h.1, fun p hp => ?_⟩
    rcases Tab.mem_insert hp with rfl | hp
    · exact hv
    · exact h.2 p hp

theorem Store.fold_wf {t : Store} (h : Store.wf t = true) (l : Store) :
    Store.wf (l.foldl (fun t e => Store.set t e.1 e.2) t) = true := by
  induction l generalizing t with
  | nil => exact h
  | cons e l ih => exact ih (Store.set_wf h _ _)

/-- The areas of the MRAM load into a canonical store. -/
theorem Mram.load_wf (m : Mram) : Store.wf m.load = true := Store.fold_wf (Store.fold_wf rfl _) _

theorem memWrite_wf {m : List Host.Cell} (h : Memory.wf m = true) (a : Nat) (b : Byte) : Memory.wf (memWrite m a b) = true :=
  Tab.set_wf h a b

theorem memWriteAll_wf {m : List Host.Cell} (h : Memory.wf m = true) (a : Nat) (l : List Byte) :
    Memory.wf (memWriteAll m a l) = true := by
  induction l generalizing m a with
  | nil => exact h
  | cons b l ih => exact ih (memWrite_wf h a b) _

/-! ### Updates of parts -/

theorem Keep.upd_acts {y : State} {v0} (hl : sub [.acts] L = true) (h : Keep L r y)  :
    Keep L r { y with acts := v0 } :=
  h.trans (Keep.mono hl ⟨rfl, List.prefix_refl _, Nat.le_refl _, fun p hp => by cases p <;> first | rfl | simp at hp,
    Fuses.burnt_refl _, fun w => ⟨w.1, w.2.1, w.2.2⟩⟩)

theorem Keep.upd_canopen {y : State} {v0} (hl : sub [.canopen] L = true) (h : Keep L r y)  :
    Keep L r { y with canopen := v0 } :=
  h.trans (Keep.mono hl ⟨rfl, List.prefix_refl _, Nat.le_refl _, fun p hp => by cases p <;> first | rfl | simp at hp,
    Fuses.burnt_refl _, fun w => ⟨w.1, w.2.1, w.2.2⟩⟩)

theorem Keep.upd_clock {y : State} {v0} (hl : sub [.clock] L = true) (h : Keep L r y)  :
    Keep L r { y with clock := v0 } :=
  h.trans (Keep.mono hl ⟨rfl, List.prefix_refl _, Nat.le_refl _, fun p hp => by cases p <;> first | rfl | simp at hp,
    Fuses.burnt_refl _, fun w => ⟨w.1, w.2.1, w.2.2⟩⟩)

theorem Keep.upd_clock_mu {y : State} {v0 v1} (hl : sub [.clock, .mu] L = true) (h : Keep L r y)  :
    Keep L r { y with clock := v0, mu := v1 } :=
  h.trans (Keep.mono hl ⟨rfl, List.prefix_refl _, Nat.le_refl _, fun p hp => by cases p <;> first | rfl | simp at hp,
    Fuses.burnt_refl _, fun w => ⟨w.1, w.2.1, w.2.2⟩⟩)

theorem Keep.upd_dict {y : State} {v0} (hl : sub [.dict] L = true) (h : Keep L r y)  :
    Keep L r { y with dict := v0 } :=
  h.trans (Keep.mono hl ⟨rfl, List.prefix_refl _, Nat.le_refl _, fun p hp => by cases p <;> first | rfl | simp at hp,
    Fuses.burnt_refl _, fun w => ⟨w.1, w.2.1, w.2.2⟩⟩)

theorem Keep.upd_dict_trust {y : State} {v0 v1} (hl : sub [.dict, .trust] L = true) (h : Keep L r y)  :
    Keep L r { y with dict := v0, trust := v1 } :=
  h.trans (Keep.mono hl ⟨rfl, List.prefix_refl _, Nat.le_refl _, fun p hp => by cases p <;> first | rfl | simp at hp,
    Fuses.burnt_refl _, fun w => ⟨w.1, w.2.1, w.2.2⟩⟩)

theorem Keep.upd_fio {y : State} {v0} (hl : sub [.fio] L = true) (h : Keep L r y)  :
    Keep L r { y with fio := v0 } :=
  h.trans (Keep.mono hl ⟨rfl, List.prefix_refl _, Nat.le_refl _, fun p hp => by cases p <;> first | rfl | simp at hp,
    Fuses.burnt_refl _, fun w => ⟨w.1, w.2.1, w.2.2⟩⟩)

theorem Keep.upd_free {y : State} {v0} (hl : sub [] L = true) (h : Keep L r y) (hn : y.free ≤ v0) :
    Keep L r { y with free := v0 } :=
  h.trans (Keep.mono hl ⟨rfl, List.prefix_refl _, hn, fun p hp => by cases p <;> rfl,
    Fuses.burnt_refl _, fun w => ⟨w.1, w.2.1, w.2.2⟩⟩)

theorem Keep.upd_free_trust {y : State} {v0 v1} (hl : sub [.trust] L = true) (h : Keep L r y) (hn : y.free ≤ v0) :
    Keep L r { y with free := v0, trust := v1 } :=
  h.trans (Keep.mono hl ⟨rfl, List.prefix_refl _, hn, fun p hp => by cases p <;> first | rfl | simp at hp,
    Fuses.burnt_refl _, fun w => ⟨w.1, w.2.1, w.2.2⟩⟩)

theorem Keep.upd_fuses {y : State} {v0} (hl : sub [.fuses] L = true) (h : Keep L r y) (hf : y.fuses.burnt v0) :
    Keep L r { y with fuses := v0 } :=
  h.trans (Keep.mono hl ⟨rfl, List.prefix_refl _, Nat.le_refl _, fun p hp => by cases p <;> first | rfl | simp at hp,
    hf, fun w => ⟨w.1, w.2.1, w.2.2⟩⟩)

theorem Keep.upd_fuses_trust {y : State} {v0 v1} (hl : sub [.fuses, .trust] L = true) (h : Keep L r y) (hf : y.fuses.burnt v0) :
    Keep L r { y with fuses := v0, trust := v1 } :=
  h.trans (Keep.mono hl ⟨rfl, List.prefix_refl _, Nat.le_refl _, fun p hp => by cases p <;> first | rfl | simp at hp,
    hf, fun w => ⟨w.1, w.2.1, w.2.2⟩⟩)

theorem Keep.upd_gate {y : State} {v0} (hl : sub [.gate] L = true) (h : Keep L r y)  :
    Keep L r { y with gate := v0 } :=
  h.trans (Keep.mono hl ⟨rfl, List.prefix_refl _, Nat.le_refl _, fun p hp => by cases p <;> first | rfl | simp at hp,
    Fuses.burnt_refl _, fun w => ⟨w.1, w.2.1, w.2.2⟩⟩)

theorem Keep.upd_host {y : State} {v0} (hl : sub [.host] L = true) (h : Keep L r y) (hb : Memory.wf y.host.buf = true → Memory.wf v0.buf = true) :
    Keep L r { y with host := v0 } :=
  h.trans (Keep.mono hl ⟨rfl, List.prefix_refl _, Nat.le_refl _, fun p hp => by cases p <;> first | rfl | simp at hp,
    Fuses.burnt_refl _, fun w => ⟨w.1, hb w.2.1, w.2.2⟩⟩)

theorem Keep.upd_host_gate {y : State} {v0 v1} (hl : sub [.host, .gate] L = true) (h : Keep L r y) (hb : Memory.wf y.host.buf = true → Memory.wf v0.buf = true) :
    Keep L r { y with host := v0, gate := v1 } :=
  h.trans (Keep.mono hl ⟨rfl, List.prefix_refl _, Nat.le_refl _, fun p hp => by cases p <;> first | rfl | simp at hp,
    Fuses.burnt_refl _, fun w => ⟨w.1, hb w.2.1, w.2.2⟩⟩)

theorem Keep.upd_line {y : State} {v0} (hl : sub [.line] L = true) (h : Keep L r y)  :
    Keep L r { y with line := v0 } :=
  h.trans (Keep.mono hl ⟨rfl, List.prefix_refl _, Nat.le_refl _, fun p hp => by cases p <;> first | rfl | simp at hp,
    Fuses.burnt_refl _, fun w => ⟨w.1, w.2.1, w.2.2⟩⟩)

theorem Keep.upd_lock {y : State} {v0} (hl : sub [.lock] L = true) (h : Keep L r y) (hx : Memory.wf y.lock.exchange = true → Memory.wf v0.exchange = true) :
    Keep L r { y with lock := v0 } :=
  h.trans (Keep.mono hl ⟨rfl, List.prefix_refl _, Nat.le_refl _, fun p hp => by cases p <;> first | rfl | simp at hp,
    Fuses.burnt_refl _, fun w => ⟨w.1, w.2.1, hx w.2.2⟩⟩)

theorem Keep.upd_log {y : State} {v0} (hl : sub [.log] L = true) (h : Keep L r y)  :
    Keep L r { y with log := v0 } :=
  h.trans (Keep.mono hl ⟨rfl, List.prefix_refl _, Nat.le_refl _, fun p hp => by cases p <;> first | rfl | simp at hp,
    Fuses.burnt_refl _, fun w => ⟨w.1, w.2.1, w.2.2⟩⟩)

theorem Keep.upd_mooring {y : State} {v0} (hl : sub [.mooring] L = true) (h : Keep L r y)  :
    Keep L r { y with mooring := v0 } :=
  h.trans (Keep.mono hl ⟨rfl, List.prefix_refl _, Nat.le_refl _, fun p hp => by cases p <;> first | rfl | simp at hp,
    Fuses.burnt_refl _, fun w => ⟨w.1, w.2.1, w.2.2⟩⟩)

theorem Keep.upd_mram {y : State} {v0} (hl : sub [.mram] L = true) (h : Keep L r y)  :
    Keep L r { y with mram := v0 } :=
  h.trans (Keep.mono hl ⟨rfl, List.prefix_refl _, Nat.le_refl _, fun p hp => by cases p <;> first | rfl | simp at hp,
    Fuses.burnt_refl _, fun w => ⟨w.1, w.2.1, w.2.2⟩⟩)

theorem Keep.upd_mram_pair {y : State} {v0 v1} (hl : sub [.mram, .pair] L = true) (h : Keep L r y)  :
    Keep L r { y with mram := v0, pair := v1 } :=
  h.trans (Keep.mono hl ⟨rfl, List.prefix_refl _, Nat.le_refl _, fun p hp => by cases p <;> first | rfl | simp at hp,
    Fuses.burnt_refl _, fun w => ⟨w.1, w.2.1, w.2.2⟩⟩)

theorem Keep.upd_mu {y : State} {v0} (hl : sub [.mu] L = true) (h : Keep L r y)  :
    Keep L r { y with mu := v0 } :=
  h.trans (Keep.mono hl ⟨rfl, List.prefix_refl _, Nat.le_refl _, fun p hp => by cases p <;> first | rfl | simp at hp,
    Fuses.burnt_refl _, fun w => ⟨w.1, w.2.1, w.2.2⟩⟩)

theorem Keep.upd_od {y : State} {v0} (hl : sub [.od] L = true) (h : Keep L r y) (ho : Store.wf y.od = true → Store.wf v0 = true) :
    Keep L r { y with od := v0 } :=
  h.trans (Keep.mono hl ⟨rfl, List.prefix_refl _, Nat.le_refl _, fun p hp => by cases p <;> first | rfl | simp at hp,
    Fuses.burnt_refl _, fun w => ⟨ho w.1, w.2.1, w.2.2⟩⟩)

theorem Keep.upd_od_dict {y : State} {v0 v1} (hl : sub [.od, .dict] L = true) (h : Keep L r y) (ho : Store.wf y.od = true → Store.wf v0 = true) :
    Keep L r { y with od := v0, dict := v1 } :=
  h.trans (Keep.mono hl ⟨rfl, List.prefix_refl _, Nat.le_refl _, fun p hp => by cases p <;> first | rfl | simp at hp,
    Fuses.burnt_refl _, fun w => ⟨ho w.1, w.2.1, w.2.2⟩⟩)

theorem Keep.upd_od_mu {y : State} {v0 v1} (hl : sub [.od, .mu] L = true) (h : Keep L r y) (ho : Store.wf y.od = true → Store.wf v0 = true) :
    Keep L r { y with od := v0, mu := v1 } :=
  h.trans (Keep.mono hl ⟨rfl, List.prefix_refl _, Nat.le_refl _, fun p hp => by cases p <;> first | rfl | simp at hp,
    Fuses.burnt_refl _, fun w => ⟨ho w.1, w.2.1, w.2.2⟩⟩)

theorem Keep.upd_od_power {y : State} {v0 v1} (hl : sub [.od, .power] L = true) (h : Keep L r y) (ho : Store.wf y.od = true → Store.wf v0 = true) :
    Keep L r { y with od := v0, power := v1 } :=
  h.trans (Keep.mono hl ⟨rfl, List.prefix_refl _, Nat.le_refl _, fun p hp => by cases p <;> first | rfl | simp at hp,
    Fuses.burnt_refl _, fun w => ⟨ho w.1, w.2.1, w.2.2⟩⟩)

theorem Keep.upd_out {y : State} {v0} (hl : sub [] L = true) (h : Keep L r y) (hp : y.out <+: v0) :
    Keep L r { y with out := v0 } :=
  h.trans (Keep.mono hl ⟨rfl, hp, Nat.le_refl _, fun p hp => by cases p <;> rfl,
    Fuses.burnt_refl _, fun w => ⟨w.1, w.2.1, w.2.2⟩⟩)

theorem Keep.upd_pair {y : State} {v0} (hl : sub [.pair] L = true) (h : Keep L r y)  :
    Keep L r { y with pair := v0 } :=
  h.trans (Keep.mono hl ⟨rfl, List.prefix_refl _, Nat.le_refl _, fun p hp => by cases p <;> first | rfl | simp at hp,
    Fuses.burnt_refl _, fun w => ⟨w.1, w.2.1, w.2.2⟩⟩)

theorem Keep.upd_pair_unitA {y : State} {v0 v1} (hl : sub [.pair, .unitA] L = true) (h : Keep L r y)  :
    Keep L r { y with pair := v0, unitA := v1 } :=
  h.trans (Keep.mono hl ⟨rfl, List.prefix_refl _, Nat.le_refl _, fun p hp => by cases p <;> first | rfl | simp at hp,
    Fuses.burnt_refl _, fun w => ⟨w.1, w.2.1, w.2.2⟩⟩)

theorem Keep.upd_power {y : State} {v0} (hl : sub [.power] L = true) (h : Keep L r y)  :
    Keep L r { y with power := v0 } :=
  h.trans (Keep.mono hl ⟨rfl, List.prefix_refl _, Nat.le_refl _, fun p hp => by cases p <;> first | rfl | simp at hp,
    Fuses.burnt_refl _, fun w => ⟨w.1, w.2.1, w.2.2⟩⟩)

theorem Keep.upd_power_clock {y : State} {v0 v1} (hl : sub [.power, .clock] L = true) (h : Keep L r y)  :
    Keep L r { y with power := v0, clock := v1 } :=
  h.trans (Keep.mono hl ⟨rfl, List.prefix_refl _, Nat.le_refl _, fun p hp => by cases p <;> first | rfl | simp at hp,
    Fuses.burnt_refl _, fun w => ⟨w.1, w.2.1, w.2.2⟩⟩)

theorem Keep.upd_power_trust {y : State} {v0 v1} (hl : sub [.power, .trust] L = true) (h : Keep L r y)  :
    Keep L r { y with power := v0, trust := v1 } :=
  h.trans (Keep.mono hl ⟨rfl, List.prefix_refl _, Nat.le_refl _, fun p hp => by cases p <;> first | rfl | simp at hp,
    Fuses.burnt_refl _, fun w => ⟨w.1, w.2.1, w.2.2⟩⟩)

theorem Keep.upd_power_trust_wake_fio {y : State} {v0 v1 v2 v3} (hl : sub [.power, .trust, .wake, .fio] L = true) (h : Keep L r y)  :
    Keep L r { y with power := v0, trust := v1, wake := v2, fio := v3 } :=
  h.trans (Keep.mono hl ⟨rfl, List.prefix_refl _, Nat.le_refl _, fun p hp => by cases p <;> first | rfl | simp at hp,
    Fuses.burnt_refl _, fun w => ⟨w.1, w.2.1, w.2.2⟩⟩)

theorem Keep.upd_power_wake {y : State} {v0 v1} (hl : sub [.power, .wake] L = true) (h : Keep L r y)  :
    Keep L r { y with power := v0, wake := v1 } :=
  h.trans (Keep.mono hl ⟨rfl, List.prefix_refl _, Nat.le_refl _, fun p hp => by cases p <;> first | rfl | simp at hp,
    Fuses.burnt_refl _, fun w => ⟨w.1, w.2.1, w.2.2⟩⟩)

theorem Keep.upd_power_wake_fio {y : State} {v0 v1 v2} (hl : sub [.power, .wake, .fio] L = true) (h : Keep L r y)  :
    Keep L r { y with power := v0, wake := v1, fio := v2 } :=
  h.trans (Keep.mono hl ⟨rfl, List.prefix_refl _, Nat.le_refl _, fun p hp => by cases p <;> first | rfl | simp at hp,
    Fuses.burnt_refl _, fun w => ⟨w.1, w.2.1, w.2.2⟩⟩)

theorem Keep.upd_slices {y : State} {v0} (hl : sub [.slices] L = true) (h : Keep L r y)  :
    Keep L r { y with slices := v0 } :=
  h.trans (Keep.mono hl ⟨rfl, List.prefix_refl _, Nat.le_refl _, fun p hp => by cases p <;> first | rfl | simp at hp,
    Fuses.burnt_refl _, fun w => ⟨w.1, w.2.1, w.2.2⟩⟩)

theorem Keep.upd_trust {y : State} {v0} (hl : sub [.trust] L = true) (h : Keep L r y)  :
    Keep L r { y with trust := v0 } :=
  h.trans (Keep.mono hl ⟨rfl, List.prefix_refl _, Nat.le_refl _, fun p hp => by cases p <;> first | rfl | simp at hp,
    Fuses.burnt_refl _, fun w => ⟨w.1, w.2.1, w.2.2⟩⟩)

theorem Keep.upd_video {y : State} {v0} (hl : sub [.video] L = true) (h : Keep L r y)  :
    Keep L r { y with video := v0 } :=
  h.trans (Keep.mono hl ⟨rfl, List.prefix_refl _, Nat.le_refl _, fun p hp => by cases p <;> first | rfl | simp at hp,
    Fuses.burnt_refl _, fun w => ⟨w.1, w.2.1, w.2.2⟩⟩)

theorem Keep.upd_wake {y : State} {v0} (hl : sub [.wake] L = true) (h : Keep L r y)  :
    Keep L r { y with wake := v0 } :=
  h.trans (Keep.mono hl ⟨rfl, List.prefix_refl _, Nat.le_refl _, fun p hp => by cases p <;> first | rfl | simp at hp,
    Fuses.burnt_refl _, fun w => ⟨w.1, w.2.1, w.2.2⟩⟩)

end Sys2Proof.Machine
end

