-- ==== Sys2Proof/Laws/KeepCore.lean ====
section
/-!
SUPPORT. What each operation may change: the shared operations, access, resets, power, the logbook, the host port and trust. One lemma per operation, by its name with `_keep`.
-/

set_option linter.unusedTactic false
set_option linter.unreachableTactic false
set_option linter.unusedVariables false

namespace Sys2Proof.Machine

theorem State.act_keep {L r s a1 a2} (hl : sub [.acts] L = true) (h : Keep L r s) :
    Keep L r (State.act s a1 a2) := by
  delta State.act
  exact Keep.site (Keep.upd_acts (sub.trans rfl hl) h) h


theorem State.setVal_keep {L r s a1 a2} (hl : sub [.od] L = true) (h : Keep L r s) :
    Keep L r (State.setVal s a1 a2) := by
  delta State.setVal
  exact Keep.upd_od (sub.trans rfl hl) h (fun w => by first | exact Store.set_wf w _ _ | exact Store.fold_wf w _)


theorem State.put_keep {L r s a1 a2} (hl : sub [.od] L = true) (h : Keep L r s) :
    Keep L r (State.put s a1 a2) := by
  delta State.put
  exact State.setVal_keep (sub.trans rfl hl) h


theorem State.bumpBy_keep {L r s a1 a2} (hl : sub [.od] L = true) (h : Keep L r s) :
    Keep L r (State.bumpBy s a1 a2) := by
  delta State.bumpBy
  exact State.put_keep (sub.trans rfl hl) h


theorem State.bump_keep {L r s a1} (hl : sub [.od] L = true) (h : Keep L r s) :
    Keep L r (State.bump s a1) := by
  delta State.bump
  exact State.bumpBy_keep (sub.trans rfl hl) h


theorem State.emit_keep {L r s a1} (hl : sub [] L = true) (h : Keep L r s) :
    Keep L r (State.emit s a1) := by
  delta State.emit
  exact Keep.upd_out (sub.trans rfl hl) h (List.prefix_append _ _)


theorem State.pendAct_keep {L r s a1} (hl : sub [.acts] L = true) (h : Keep L r s) :
    Keep L r (State.pendAct s a1) := by
  delta State.pendAct
  exact Keep.site h (State.act_keep (sub.trans rfl hl) h)


theorem State.msixOne_keep {L r s a1 a2} (hl : sub [.gate] L = true) (h : Keep L r s) :
    Keep L r (State.msixOne s a1 a2) := by
  delta State.msixOne
  extract_lets -merge -useContext x0
  exact Keep.site (Keep.site (Keep.upd_gate (sub.trans rfl hl) h) (State.emit_keep (sub.trans rfl hl) h)) h


theorem State.setGate_keep {L r s a1} (hl : sub [.gate, .acts] L = true) (h : Keep L r s) :
    Keep L r (State.setGate s a1) := by
  delta State.setGate
  extract_lets -merge -useContext x0 x1
  have h2 : Keep L r x1 := State.pendAct_keep (sub.trans rfl hl) (Keep.upd_gate (sub.trans rfl hl) h)
  exact State.msixOne_keep (sub.trans rfl hl) (State.msixOne_keep (sub.trans rfl hl) (State.msixOne_keep (sub.trans rfl hl) (State.msixOne_keep (sub.trans rfl hl) h2)))


theorem State.gateEvent_keep {L r s a1} (hl : sub [.od, .gate, .acts] L = true) (h : Keep L r s) :
    Keep L r (State.gateEvent s a1) := by
  delta State.gateEvent
  extract_lets -merge -useContext x0 x1 x3
  have h2 : Keep L r x1 := State.put_keep (sub.trans rfl hl) (State.bump_keep (sub.trans rfl hl) h)
  have h4 : Keep L r x3 := Keep.site (State.bump_keep (sub.trans rfl hl) h2) h2
  exact State.setGate_keep (sub.trans rfl hl) h4


theorem State.queueReport_keep {L r s a1} (hl : sub [.od, .log] L = true) (h : Keep L r s) :
    Keep L r (State.queueReport s a1).1 := by
  delta State.queueReport
  extract_lets -merge -useContext x0 x2 x4 x5 x6 x8
  have h1 : Keep L r x0 := State.bump_keep (sub.trans rfl hl) h
  have h3 : Keep L r x2 := State.bump_keep (sub.trans rfl hl) h1
  have h7 : Keep L r x6 := Keep.upd_log (sub.trans rfl hl) h1
  have h9 : Keep L r x8 := State.bump_keep (sub.trans rfl hl) (State.bump_keep (sub.trans rfl hl) h1)
  exact (by
   split
   · exact Keep.pair (Keep.upd_log (sub.trans rfl hl) h3)
   · exact Keep.pite (Keep.pair (State.put_keep (sub.trans rfl hl) h7)) (Keep.pair (State.put_keep (sub.trans rfl hl) h9)))


theorem State.report_keep {L r s a1 a2 a3 a4 a5} (hl : sub [.od, .gate, .log, .acts] L = true) (h : Keep L r s) :
    Keep L r (State.report s a1 a2 a3 a4 a5) := by
  delta State.report
  extract_lets -merge -useContext x0 x2
  have h1 : Keep L r x0.1 := State.queueReport_keep (sub.trans rfl hl) h
  have h3 : Keep L r x2 := State.gateEvent_keep (sub.trans rfl hl) h1
  exact Keep.site (State.queueReport_keep (sub.trans rfl hl) h3) h1


theorem State.raise_keep {L r s a1 a2 a3 a4} (hl : sub [.od, .gate, .log, .acts] L = true) (h : Keep L r s) :
    Keep L r (State.raise s a1 a2 a3 a4) := by
  delta State.raise
  extract_lets -merge -useContext x0
  have h1 : Keep L r x0 := State.gateEvent_keep (sub.trans rfl hl) h
  exact Keep.site (State.report_keep (sub.trans rfl hl) h1) h1


theorem State.opEnd_keep {L r s a1 a2 a3} (hl : sub [.od, .gate, .log, .acts] L = true) (h : Keep L r s) :
    Keep L r (State.opEnd s a1 a2 a3) := by
  delta State.opEnd
  extract_lets -merge -useContext x0
  exact State.raise_keep (sub.trans rfl hl) (State.put_keep (sub.trans rfl hl) (State.put_keep (sub.trans rfl hl) h))


theorem State.putBytes_keep {L r s a1 a2} (hl : sub [.od] L = true) (h : Keep L r s) :
    Keep L r (State.putBytes s a1 a2) := by
  delta State.putBytes
  exact State.setVal_keep (sub.trans rfl hl) h


theorem State.opProgress_keep {L r s a1 a2 a3 a4} (hl : sub [.od] L = true) (h : Keep L r s) :
    Keep L r (State.opProgress s a1 a2 a3 a4) := by
  delta State.opProgress
  extract_lets -merge -useContext x0 x1
  exact State.putBytes_keep (sub.trans rfl hl) (State.put_keep (sub.trans rfl hl) (State.put_keep (sub.trans rfl hl) (State.put_keep (sub.trans rfl hl) h)))


theorem State.opStart_keep {L r s a1 a2} (hl : sub [.od] L = true) (h : Keep L r s) :
    Keep L r (State.opStart s a1 a2) := by
  delta State.opStart
  extract_lets -merge -useContext x0 x1
  have h2 : Keep L r x1 := State.put_keep (sub.trans rfl hl) (State.put_keep (sub.trans rfl hl) (State.put_keep (sub.trans rfl hl) (State.put_keep (sub.trans rfl hl) h)))
  exact State.opProgress_keep (sub.trans rfl hl) (State.bump_keep (sub.trans rfl hl) h2)


theorem State.putFlag_keep {L r s a1 a2} (hl : sub [.od] L = true) (h : Keep L r s) :
    Keep L r (State.putFlag s a1 a2) := by
  delta State.putFlag
  exact State.put_keep (sub.trans rfl hl) h


theorem State.setDomain_keep {L r s a1 a2} (hl : sub [.clock] L = true) (h : Keep L r s) :
    Keep L r (State.setDomain s a1 a2) := by
  delta State.setDomain
  extract_lets -merge -useContext x0 x1
  exact (by
   split
   · exact Keep.upd_clock (sub.trans rfl hl) h
   · exact Keep.upd_clock (sub.trans rfl hl) h)


theorem State.setPl_keep {L r s a1 a2} (hl : sub [.line] L = true) (h : Keep L r s) :
    Keep L r (State.setPl s a1 a2) := by
  delta State.setPl
  extract_lets -merge -useContext x0
  exact Keep.upd_line (sub.trans rfl hl) h


theorem State.tookFree_keep {L r s} (hl : sub [] L = true) (h : Keep L r s) :
    Keep L r (State.tookFree s) := by
  delta State.tookFree
  exact Keep.upd_free (sub.trans rfl hl) h (by first | exact Nat.le_succ _ | exact Nat.le_add_right _ _)


theorem State.trustRefuse_keep {L r s a1} (hl : sub [.od, .gate, .log, .acts] L = true) (h : Keep L r s) :
    Keep L r (State.trustRefuse s a1) := by
  delta State.trustRefuse
  exact State.raise_keep (sub.trans rfl hl) (State.bump_keep (sub.trans rfl hl) (State.put_keep (sub.trans rfl hl) h))


theorem State.canAct_keep {L r s a1 a2} (hl : sub [.acts] L = true) (h : Keep L r s) :
    Keep L r (State.canAct s a1 a2) := by
  delta State.canAct
  exact State.act_keep (sub.trans rfl hl) h


theorem State.setCan_keep {L r s a1 a2} (hl : sub [.canopen] L = true) (h : Keep L r s) :
    Keep L r (State.setCan s a1 a2) := by
  delta State.setCan
  extract_lets -merge -useContext x0
  exact Keep.upd_canopen (sub.trans rfl hl) h


theorem State.canPump_keep {L r s a1} (hl : sub [.canopen] L = true) (h : Keep L r s) :
    Keep L r (State.canPump s a1) := by
  delta State.canPump
  extract_lets -merge -useContext x0
  exact Keep.site (State.setCan_keep (sub.trans rfl hl) h) h


theorem State.errorField_keep {L r s a1} (hl : sub [.od] L = true) (h : Keep L r s) :
    Keep L r (State.errorField s a1) := by
  delta State.errorField
  extract_lets -merge -useContext x0
  have h1 : Keep L r x0 := Keep.foldl (fun _ _ h2 => State.put_keep (sub.trans rfl hl) h2) h
  exact State.put_keep (sub.trans rfl hl) (State.put_keep (sub.trans rfl hl) h1)


theorem State.queueFrame_keep {L r s a1 a2} (hl : sub [.od, .canopen, .acts] L = true) (h : Keep L r s) :
    Keep L r (State.queueFrame s a1 a2).1 := by
  delta State.queueFrame
  extract_lets -merge -useContext x0
  exact Keep.pite (Keep.pair (State.canPump_keep (sub.trans rfl hl) (State.setCan_keep (sub.trans rfl hl) (State.canAct_keep (sub.trans rfl hl) h)))) (Keep.pair (State.bump_keep (sub.trans rfl hl) h))


theorem State.emcyOut_keep {L r s a1} (hl : sub [.od, .canopen, .acts] L = true) (h : Keep L r s) :
    Keep L r (State.emcyOut s a1) := by
  delta State.emcyOut
  extract_lets -merge -useContext x0 x2 x4
  have h1 : Keep L r x0 := State.put_keep (sub.trans rfl hl) (State.errorField_keep (sub.trans rfl hl) h)
  have h3 : Keep L r x2 := by unfold x2; exact State.queueFrame_keep (sub.trans rfl hl) h1
  exact Keep.upd_canopen (sub.trans rfl hl) h3


theorem State.emcy_keep {L r s a1 a2} (hl : sub [.od, .canopen, .acts] L = true) (h : Keep L r s) :
    Keep L r (State.emcy s a1 a2) := by
  delta State.emcy
  extract_lets -merge -useContext x0 x1 x2
  exact Keep.site (Keep.site (Keep.site (Keep.upd_canopen (sub.trans rfl hl) h) (State.put_keep (sub.trans rfl hl) h)) (State.emcyOut_keep (sub.trans rfl hl) h)) h


theorem State.emcyScan_keep {L r s} (hl : sub [.od, .canopen, .acts] L = true) (h : Keep L r s) :
    Keep L r (State.emcyScan s) := by
  delta State.emcyScan
  extract_lets -merge -useContext x0 x1 x2 x3 x4 x5 x7
  have h6 : Keep L r x5 := Keep.upd_canopen (sub.trans rfl hl) h
  have h8 : Keep L r x7 := Keep.foldl (fun _ _ h10 => State.emcy_keep (sub.trans rfl hl) h10) h6
  exact Keep.foldl (fun _ _ h9 => State.emcy_keep (sub.trans rfl hl) h9) h8


theorem State.latchFlag_keep {L r s a1 a2} (hl : sub [.od, .gate, .log, .acts] L = true) (h : Keep L r s) :
    Keep L r (State.latchFlag s a1 a2) := by
  delta State.latchFlag
  extract_lets -merge -useContext x0 x2 x3
  have h1 : Keep L r x0 := Keep.site h (State.bump_keep (sub.trans rfl hl) h)
  have h4 : Keep L r x3 := State.put_keep (sub.trans rfl hl) h1
  exact Keep.site h1 (Keep.site h4 (State.raise_keep (sub.trans rfl hl) h4))


theorem State.setChan_keep {L r s a1 a2} (hl : sub [.fio] L = true) (h : Keep L r s) :
    Keep L r (State.setChan s a1 a2) := by
  delta State.setChan
  extract_lets -merge -useContext x0
  exact Keep.upd_fio (sub.trans rfl hl) h


theorem State.setFlag_keep {L r s a1 a2 a3} (hl : sub [.od, .gate, .log, .fio, .acts] L = true) (h : Keep L r s) :
    Keep L r (State.setFlag s a1 a2 a3) := by
  delta State.setFlag
  extract_lets -merge -useContext x0
  exact Keep.site h (Keep.site (State.latchFlag_keep (sub.trans rfl hl) (State.setChan_keep (sub.trans rfl hl) h)) (State.setChan_keep (sub.trans rfl hl) h))


theorem State.crossFeed_keep {L r s a1 a2} (hl : sub [.od, .gate, .log, .fio, .acts] L = true) (h : Keep L r s) :
    Keep L r (State.crossFeed s a1 a2) := by
  delta State.crossFeed
  extract_lets -merge -useContext x0
  unfold x0
  beta_reduce
  exact Keep.site (Keep.site h (State.setFlag_keep (sub.trans rfl hl) (State.put_keep (sub.trans rfl hl) h))) (State.setFlag_keep (sub.trans rfl hl) (State.put_keep (sub.trans rfl hl) (Keep.site h (State.setFlag_keep (sub.trans rfl hl) (State.put_keep (sub.trans rfl hl) h)))))


theorem State.reverseMate_keep {L r s a1} (hl : sub [.od, .gate, .log, .fio, .acts] L = true) (h : Keep L r s) :
    Keep L r (State.reverseMate s a1) := by
  delta State.reverseMate
  extract_lets -merge -useContext x0
  exact (by
   split
   · exact Keep.site h (State.crossFeed_keep (sub.trans rfl hl) h)
   · exact h)


theorem State.driveEdge_keep {L r s a1} (hl : sub [.od, .gate, .log, .fio, .acts] L = true) (h : Keep L r s) :
    Keep L r (State.driveEdge s a1) := by
  delta State.driveEdge
  extract_lets -merge -useContext x0 x1 x2 x3 x4 x6 x8
  have h5 : Keep L r x4 := Keep.upd_fio (sub.trans rfl hl) h
  have h7 : Keep L r x6 := Keep.site (State.setChan_keep (sub.trans rfl hl) h5) (State.setChan_keep (sub.trans rfl hl) h5)
  have h9 : Keep L r x8 := Keep.site (State.reverseMate_keep (sub.trans rfl hl) (State.setFlag_keep (sub.trans rfl hl) h7)) (State.setFlag_keep (sub.trans rfl hl) h7)
  exact Keep.site h (State.emit_keep (sub.trans rfl hl) h9)


theorem State.toPartner_keep {L r s a1} (hl : sub [] L = true) (h : Keep L r s) :
    Keep L r (State.toPartner s a1) := by
  delta State.toPartner
  exact Keep.site (State.emit_keep (sub.trans rfl hl) h) h


theorem State.tellCommands_keep {L r s a1} (hl : sub [] L = true) (h : Keep L r s) :
    Keep L r (State.tellCommands s a1) := by
  delta State.tellCommands
  exact Keep.site (State.toPartner_keep (sub.trans rfl hl) h) h


theorem State.releaseTrip_keep {L r s a1} (hl : sub [.fio] L = true) (h : Keep L r s) :
    Keep L r (State.releaseTrip s a1) := by
  delta State.releaseTrip
  extract_lets -merge -useContext x0
  exact Keep.site (State.setChan_keep (sub.trans rfl hl) h) h


theorem State.orderAct_keep {L r s a1} (hl : sub [.fio, .acts] L = true) (h : Keep L r s) :
    Keep L r (State.orderAct s a1) := by
  delta State.orderAct
  extract_lets -merge -useContext x0 x1 x2
  exact Keep.site h (State.act_keep (sub.trans rfl hl) (Keep.upd_fio (sub.trans rfl hl) h))


theorem State.driveField_keep {L r s} (hl : sub [.od, .gate, .log, .fio, .acts] L = true) (h : Keep L r s) :
    Keep L r (State.driveField s) := by
  delta State.driveField
  exact State.tellCommands_keep (sub.trans rfl hl) (Keep.foldl (fun _ _ h0 => State.driveEdge_keep (sub.trans rfl hl) (State.releaseTrip_keep (sub.trans rfl hl) (State.orderAct_keep (sub.trans rfl hl) h0))) h)


theorem State.dropRole_keep {L r s} (hl : sub [.od, .gate, .log, .fio, .pair, .acts] L = true) (h : Keep L r s) :
    Keep L r (State.dropRole s) := by
  delta State.dropRole
  extract_lets -merge -useContext x0 x1
  have h2 : Keep L r x1 := Keep.upd_pair (sub.trans rfl hl) h
  exact State.driveField_keep (sub.trans rfl hl) (State.emit_keep (sub.trans rfl hl) h2)


theorem State.queueInput_keep {L r s a1 a2 a3} (hl : sub [.pair] L = true) (h : Keep L r s) :
    Keep L r (State.queueInput s a1 a2 a3) := by
  delta State.queueInput
  extract_lets -merge -useContext x0
  exact Keep.upd_pair (sub.trans rfl hl) h


theorem State.replicate_keep {L r s a1 a2 a3} (hl : sub [.pair] L = true) (h : Keep L r s) (hf4 : ∀ y0, Keep L r y0 → Keep L r (a3 y0)) :
    Keep L r (State.replicate s a1 a2 a3) := by
  delta State.replicate
  exact Keep.site (State.emit_keep (sub.trans rfl hl) (State.queueInput_keep (sub.trans rfl hl) h)) (hf4 _ h)


theorem State.replicateShared_keep {L r s a1 a2 a3} (hl : sub [.pair] L = true) (h : Keep L r s) (hf4 : ∀ y0, Keep L r y0 → Keep L r (a3 y0)) :
    Keep L r (State.replicateShared s a1 a2 a3) := by
  delta State.replicateShared
  exact Keep.site h (State.replicate_keep (sub.trans rfl hl) h (fun _ h0 => hf4 _ h0))


theorem State.setSupply_keep {L r s a1 a2} (hl : sub [.fio] L = true) (h : Keep L r s) :
    Keep L r (State.setSupply s a1 a2) := by
  delta State.setSupply
  extract_lets -merge -useContext x0 x1
  exact Keep.site (Keep.upd_fio (sub.trans rfl hl) h) (Keep.upd_fio (sub.trans rfl hl) h)


theorem State.settle_keep {L r s} (hl : sub [.od, .gate, .log, .canopen, .fio, .acts] L = true) (h : Keep L r s) :
    Keep L r (State.settle s) := by
  delta State.settle
  exact State.emcyScan_keep (sub.trans rfl hl) (State.driveField_keep (sub.trans rfl hl) h)


theorem State.asInput_keep {L r s a1 a2 a3 a4} (hl : sub [.pair] L = true) (h : Keep L r s) (hf5 : ∀ y0, Keep L r y0 → Keep L r (a4 y0)) :
    Keep L r (State.asInput s a1 a2 a3 a4) := by
  delta State.asInput
  exact Keep.site h (Keep.site (hf5 _ h) (State.replicate_keep (sub.trans rfl hl) h (fun _ h0 => hf5 _ h0)))


theorem State.mbDeliver_keep {L r s a1} (hl : sub [.od, .host, .gate, .log, .acts] L = true) (h : Keep L r s) :
    Keep L r (State.mbDeliver s a1) := by
  delta State.mbDeliver
  extract_lets -merge -useContext x0 x1 x2
  have h3 : Keep L r x2 := Keep.upd_host (sub.trans rfl hl) h (fun w => by first | exact w | rfl | exact memWriteAll_wf w _ _)
  exact State.raise_keep (sub.trans rfl hl) h3


theorem State.mbRespond_keep {L r s a1 a2} (hl : sub [.od, .host, .gate, .log, .acts] L = true) (h : Keep L r s) :
    Keep L r (State.mbRespond s a1 a2) := by
  delta State.mbRespond
  extract_lets -merge -useContext x0 x2
  have h1 : Keep L r x0 := State.act_keep (sub.trans rfl hl) (State.bump_keep (sub.trans rfl hl) h)
  exact State.mbDeliver_keep (sub.trans rfl hl) (Keep.upd_host (sub.trans rfl hl) h1 (fun w => by first | exact w | rfl | exact memWriteAll_wf w _ _))


theorem State.replyAct_keep {L r s a1 a2 a3} (hl : sub [.acts] L = true) (h : Keep L r s) :
    Keep L r (State.replyAct s a1 a2 a3) := by
  delta State.replyAct
  exact Keep.site (State.act_keep (sub.trans rfl hl) h) h


theorem State.answer_keep {L r s a1 a2 a3} (hl : sub [.od, .host, .gate, .log, .acts] L = true) (h : Keep L r s) :
    Keep L r (State.answer s a1 a2 a3) := by
  delta State.answer
  extract_lets -merge -useContext x0
  exact (by
   split
   · exact Keep.site (State.mbRespond_keep (sub.trans rfl hl) h) (Keep.site (Keep.upd_host (sub.trans rfl hl) h (fun w => by first | exact w | rfl | exact memWriteAll_wf w _ _)) (State.emit_keep (sub.trans rfl hl) h))
   · exact State.emit_keep (sub.trans rfl hl) (Keep.site (State.putBytes_keep (sub.trans rfl hl) h) h)
   · exact State.emit_keep (sub.trans rfl hl) (State.replyAct_keep (sub.trans rfl hl) h))


theorem State.respond_keep {L r s a1 a2 a3} (hl : sub [.od, .host, .gate, .log, .acts] L = true) (h : Keep L r s) :
    Keep L r (State.respond s a1 a2 a3) := by
  delta State.respond
  extract_lets -merge -useContext x0 x2
  have h1 : Keep L r x0 := Keep.site h (State.bump_keep (sub.trans rfl hl) h)
  have h3 : Keep L r x2 := Keep.site (State.trustRefuse_keep (sub.trans rfl hl) h1) h1
  exact State.answer_keep (sub.trans rfl hl) h3


theorem State.accessAct_keep {L r s a1 a2 a3 a4} (hl : sub [.od, .host, .gate, .log, .pair, .acts] L = true) (h : Keep L r s) (hf5 : ∀ y0, Keep L r y0 → Keep L r (a4 y0).1) :
    Keep L r (State.accessAct s a1 a2 a3 a4) := by
  delta State.accessAct
  exact State.asInput_keep (sub.trans rfl hl) h (fun _ h0 => (by
 extract_lets -merge -useContext x1 x2
 have h3 : Keep L r x2.1 := hf5 _ h0
 exact Keep.site (State.respond_keep (sub.trans rfl hl) h0) (State.respond_keep (sub.trans rfl hl) h3)))


theorem State.stage_keep {L r s a1 a2 a3} (hl : sub [.dict] L = true) (h : Keep L r s) :
    Keep L r (State.stage s a1 a2 a3) := by
  delta State.stage
  extract_lets -merge -useContext x0 x1
  exact Keep.upd_dict (sub.trans rfl hl) h


theorem State.storeStored_keep {L r s} (hl : sub [.mram] L = true) (h : Keep L r s) :
    Keep L r (State.storeStored s) := by
  delta State.storeStored
  extract_lets -merge -useContext x0 x1
  exact Keep.site h (Keep.upd_mram (sub.trans rfl hl) h)


theorem State.storeAct_keep {L r s a1 a2} (hl : sub [.acts] L = true) (h : Keep L r s) :
    Keep L r (State.storeAct s a1 a2) := by
  delta State.storeAct
  exact State.act_keep (sub.trans rfl hl) h


theorem State.plainWrite_keep {L r s a1 a2 a3} (hl : sub [.od, .dict, .mram, .acts] L = true) (h : Keep L r s) :
    Keep L r (State.plainWrite s a1 a2 a3) := by
  delta State.plainWrite
  split
  · exact State.stage_keep (sub.trans rfl hl) h
  · exact Keep.site h (State.storeStored_keep (sub.trans rfl hl) (State.storeAct_keep (sub.trans rfl hl) (State.setVal_keep (sub.trans rfl hl) h)))
  · exact State.setVal_keep (sub.trans rfl hl) h


theorem State.accessPlain_keep {L r s a1 a2 a3} (hl : sub [.od, .dict, .mram, .host, .gate, .log, .pair, .acts] L = true) (h : Keep L r s) :
    Keep L r (State.accessPlain s a1 a2 a3) := by
  delta State.accessPlain
  exact State.asInput_keep (sub.trans rfl hl) h (fun _ h0 => (by
 extract_lets -merge -useContext x1
 exact Keep.site (State.respond_keep (sub.trans rfl hl) h0) (Keep.site (State.respond_keep (sub.trans rfl hl) h0) (State.respond_keep (sub.trans rfl hl) (State.plainWrite_keep (sub.trans rfl hl) h0)))))


theorem State.asStaged_keep {L r s} (hl : sub [.od] L = true) (h : Keep L r s) :
    Keep L r (State.asStaged s) := by
  delta State.asStaged
  exact Keep.upd_od (sub.trans rfl hl) h (fun w => by first | exact Store.set_wf w _ _ | exact Store.fold_wf w _)


theorem State.dropMessage_keep {L r s a1} (hl : sub [.od, .host, .gate, .log, .acts] L = true) (h : Keep L r s) :
    Keep L r (State.dropMessage s a1) := by
  delta State.dropMessage
  split
  · exact State.respond_keep (sub.trans rfl hl) h
  · exact State.answer_keep (sub.trans rfl hl) (State.trustRefuse_keep (sub.trans rfl hl) h)
  · exact State.trustRefuse_keep (sub.trans rfl hl) h


theorem State.served_keep {L r s a1} (hl : sub [] L = true) (h : Keep L r s) (hf2 : ∀ y0, Keep L r y0 → Keep L r (a1 y0)) :
    Keep L r (State.served s a1) := by
  delta State.served
  exact Keep.site (hf2 _ h) h


theorem State.takeMessage_keep {L r s a1} (hl : sub [.od, .host, .gate, .log, .acts] L = true) (h : Keep L r s) :
    Keep L r (State.takeMessage s a1) := by
  delta State.takeMessage
  split
  · exact State.respond_keep (sub.trans rfl hl) h
  · exact State.respond_keep (sub.trans rfl hl) h
  · exact h


theorem State.logicReset_keep {L r s a1} (hl : sub [.od, .dict, .power, .clock, .mu, .line, .host, .gate, .log, .trust, .video, .slices, .canopen, .mooring, .fio, .pair, .lock, .pairing, .unitA, .acts] L = true) (h : Keep L r s) :
    Keep L r (State.logicReset s a1) :=
  h.trans (Keep.mono hl ⟨rfl, List.prefix_refl _, Nat.le_refl _, fun p hp => by cases p <;> first | rfl | simp at hp,
    Fuses.burnt_refl _, fun _ => ⟨Mram.load_wf _, rfl, rfl⟩⟩)


theorem State.releaseReset_keep {L r s} (hl : sub [.od, .mram, .power] L = true) (h : Keep L r s) :
    Keep L r (State.releaseReset s) := by
  delta State.releaseReset
  extract_lets -merge -useContext x0 x1 x3 x5 x7
  have h2 : Keep L r x1 := State.bump_keep (sub.trans rfl hl) (State.put_keep (sub.trans rfl hl) h)
  have h4 : Keep L r x3 := Keep.site (State.bump_keep (sub.trans rfl hl) h2) h2
  have h6 : Keep L r x5 := State.storeStored_keep (sub.trans rfl hl) h4
  exact Keep.upd_power (sub.trans rfl hl) h6


theorem State.resetAsked_keep {L r s a1} (hl : sub [.power] L = true) (h : Keep L r s) :
    Keep L r (State.resetAsked s a1).1 := by
  delta State.resetAsked
  extract_lets -merge -useContext x0
  exact Keep.pair (Keep.upd_power (sub.trans rfl hl) h)


theorem State.takeReset_keep {L r s a1} (hl : sub [.od, .dict, .power, .clock, .mu, .line, .host, .gate, .log, .trust, .video, .slices, .canopen, .mooring, .fio, .pair, .lock, .pairing, .unitA, .acts] L = true) (h : Keep L r s) :
    Keep L r (State.takeReset s a1) := by
  delta State.takeReset
  extract_lets -merge -useContext x0
  exact (by
   split
   · exact h
   · exact h
   · exact Keep.upd_power (sub.trans rfl hl) h
   · exact State.logicReset_keep (sub.trans rfl hl) h)


theorem State.takeDue_keep {L r s} (hl : sub [.od, .dict, .power, .clock, .mu, .line, .host, .gate, .log, .trust, .video, .slices, .canopen, .mooring, .fio, .pair, .lock, .pairing, .unitA, .acts] L = true) (h : Keep L r s) :
    Keep L r (State.takeDue s) := by
  delta State.takeDue
  extract_lets -merge -useContext x0
  exact (by
   split
   · exact State.takeReset_keep (sub.trans rfl hl) (Keep.upd_power (sub.trans rfl hl) h)
   · exact h)


theorem State.setPointLimits_keep {L r s a1} (hl : sub [.od] L = true) (h : Keep L r s) :
    Keep L r (State.setPointLimits s a1) := by
  delta State.setPointLimits
  exact State.put_keep (sub.trans rfl hl) (State.put_keep (sub.trans rfl hl) (State.put_keep (sub.trans rfl hl) (State.put_keep (sub.trans rfl hl) h)))


theorem State.avsStep_keep {L r s a1 a2} (hl : sub [.od] L = true) (h : Keep L r s) :
    Keep L r (State.avsStep s a1 a2) := by
  delta State.avsStep
  extract_lets -merge -useContext x0 x1
  exact Keep.site (State.setPointLimits_keep (sub.trans rfl hl) (State.put_keep (sub.trans rfl hl) (State.put_keep (sub.trans rfl hl) h))) h


theorem execAvsStep_keep {L r a0 a1 s} (hl : sub [.od] L = true) (h : Keep L r s) :
    Ends L r (execAvsStep a0 a1 s) := by
  delta execAvsStep
  exact Keep.rnext (State.avsStep_keep (sub.trans rfl hl) h)


theorem State.setImageState_keep {L r s a1 a2} (hl : sub [.od] L = true) (h : Keep L r s) :
    Keep L r (State.setImageState s a1 a2) := by
  delta State.setImageState
  extract_lets -merge -useContext x0
  exact State.put_keep (sub.trans rfl hl) h


theorem State.bootImageVerified_keep {L r s a1 a2} (hl : sub [.od, .mram, .power] L = true) (h : Keep L r s) :
    Keep L r (State.bootImageVerified s a1 a2) := by
  delta State.bootImageVerified
  extract_lets -merge -useContext x0 x1 x3 x5 x6
  have h2 : Keep L r x1 := Keep.site (State.storeStored_keep (sub.trans rfl hl) (State.setImageState_keep (sub.trans rfl hl) h)) h
  have h4 : Keep L r x3 := State.put_keep (sub.trans rfl hl) (State.put_keep (sub.trans rfl hl) (State.put_keep (sub.trans rfl hl) h2))
  exact Keep.site (Keep.site (Keep.upd_power (sub.trans rfl hl) h4) (Keep.upd_power (sub.trans rfl hl) h)) h


theorem execBootImageVerified_keep {L r a0 a1 s} (hl : sub [.od, .mram, .power] L = true) (h : Keep L r s) :
    Ends L r (execBootImageVerified a0 a1 s) := by
  delta execBootImageVerified
  exact Keep.rnext (State.bootImageVerified_keep (sub.trans rfl hl) h)


theorem execDebugReset_keep {L r s} (hl : sub [.od, .dict, .power, .clock, .mu, .line, .host, .gate, .log, .trust, .video, .slices, .canopen, .mooring, .fio, .pair, .lock, .pairing, .unitA, .acts] L = true) (h : Keep L r s) :
    Ends L r (execDebugReset s) := by
  delta execDebugReset
  exact Keep.rnext (Keep.site (State.takeReset_keep (sub.trans rfl hl) h) h)


theorem State.raiseLatched_keep {L r s a1} (hl : sub [.od, .power, .gate, .log, .acts] L = true) (h : Keep L r s) :
    Keep L r (State.raiseLatched s a1) := by
  delta State.raiseLatched
  extract_lets -merge -useContext x0 x2
  have h1 : Keep L r x0 := State.raise_keep (sub.trans rfl hl) (State.put_keep (sub.trans rfl hl) h)
  exact Keep.site (Keep.upd_power (sub.trans rfl hl) h1) h


theorem State.islandRestart_keep {L r s a1} (hl : sub [.od, .power, .gate, .log, .acts] L = true) (h : Keep L r s) :
    Keep L r (State.islandRestart s a1) := by
  delta State.islandRestart
  extract_lets -merge -useContext x0 x2 x3
  have h1 : Keep L r x0 := State.bump_keep (sub.trans rfl hl) h
  have h4 : Keep L r x3 := Keep.upd_power (sub.trans rfl hl) h1
  exact Keep.site (Keep.foldl (fun _ _ h5 => Keep.site (State.raiseLatched_keep (sub.trans rfl hl) h5) h5) h4) h


theorem execIslandRestart_keep {L r a0 s} (hl : sub [.od, .power, .gate, .log, .acts] L = true) (h : Keep L r s) :
    Ends L r (execIslandRestart a0 s) := by
  delta execIslandRestart
  exact Keep.rnext (State.islandRestart_keep (sub.trans rfl hl) h)


theorem State.times_keep {L r a0 a1 s} (hl : sub [] L = true) (h : Keep L r s) (hf2 : ∀ y0, Keep L r y0 → Keep L r (a1 y0)) :
    Keep L r (State.times a0 a1 s) := by
  induction a0 generalizing s with
  | zero => exact h
  | succ n ih => exact ih (hf2 _ h)


theorem State.mramBad_keep {L r s a1} (hl : sub [.od, .mram, .gate, .log, .pair, .acts] L = true) (h : Keep L r s) :
    Keep L r (State.mramBad s a1) := by
  delta State.mramBad
  extract_lets -merge -useContext x0 x2
  have h1 : Keep L r x0 := State.raise_keep (sub.trans rfl hl) (State.raise_keep (sub.trans rfl hl) (State.bump_keep (sub.trans rfl hl) h))
  exact Keep.upd_mram_pair (sub.trans rfl hl) h1


theorem State.mramScrubChunk_keep {L r s a1 a2} (hl : sub [.od, .mram, .power, .gate, .log, .pair, .acts] L = true) (h : Keep L r s) :
    Keep L r (State.mramScrubChunk s a1 a2) := by
  delta State.mramScrubChunk
  extract_lets -merge -useContext x0 x2 x4 x5 x7 x9
  have h1 : Keep L r x0 := State.times_keep (sub.trans rfl hl) h (fun _ h11 => State.raise_keep (sub.trans rfl hl) (State.bump_keep (sub.trans rfl hl) h11))
  have h3 : Keep L r x2 := Keep.foldl (fun _ _ h10 => State.mramBad_keep (sub.trans rfl hl) h10) h1
  have h6 : Keep L r x5 := State.storeStored_keep (sub.trans rfl hl) (State.opProgress_keep (sub.trans rfl hl) (State.put_keep (sub.trans rfl hl) (State.put_keep (sub.trans rfl hl) h3)))
  have h8 : Keep L r x7 := State.opEnd_keep (sub.trans rfl hl) h6
  exact Keep.site (Keep.site (State.storeStored_keep (sub.trans rfl hl) (State.opProgress_keep (sub.trans rfl hl) (State.put_keep (sub.trans rfl hl) h3))) (Keep.upd_power (sub.trans rfl hl) h8)) h


theorem execMramScrubChunk_keep {L r a0 a1 s} (hl : sub [.od, .mram, .power, .gate, .log, .pair, .acts] L = true) (h : Keep L r s) :
    Ends L r (execMramScrubChunk a0 a1 s) := by
  delta execMramScrubChunk
  exact Keep.rnext (State.mramScrubChunk_keep (sub.trans rfl hl) h)


theorem State.scrubRun_keep {L r s} (hl : sub [.od] L = true) (h : Keep L r s) :
    Keep L r (State.scrubRun s) := by
  delta State.scrubRun
  extract_lets -merge -useContext x0
  exact State.opProgress_keep (sub.trans rfl hl) (State.opStart_keep (sub.trans rfl hl) h)


theorem State.scrubStart_keep {L r s} (hl : sub [.od, .power] L = true) (h : Keep L r s) :
    Keep L r (State.scrubStart s) := by
  delta State.scrubStart
  extract_lets -merge -useContext x0 x2
  have h1 : Keep L r x0 := State.scrubRun_keep (sub.trans rfl hl) h
  exact Keep.site h (Keep.upd_power (sub.trans rfl hl) h1)


theorem State.mramScrubStart_keep {L r s} (hl : sub [.od, .power] L = true) (h : Keep L r s) :
    Keep L r (State.mramScrubStart s) := by
  delta State.mramScrubStart
  exact Keep.site (State.scrubStart_keep (sub.trans rfl hl) h) h


theorem execMramScrubStart_keep {L r s} (hl : sub [.od, .power] L = true) (h : Keep L r s) :
    Ends L r (execMramScrubStart s) := by
  delta execMramScrubStart
  exact Keep.rnext (State.mramScrubStart_keep (sub.trans rfl hl) h)


theorem State.porNLow_keep {L r s} (hl : sub [.od, .dict, .power, .clock, .mu, .line, .host, .gate, .log, .trust, .video, .slices, .canopen, .wake, .mooring, .fio, .pair, .lock, .pairing, .unitA, .acts] L = true) (h : Keep L r s) :
    Keep L r (State.porNLow s) := by
  delta State.porNLow
  extract_lets -merge -useContext x0 x2
  have h1 : Keep L r x0 := State.logicReset_keep (sub.trans rfl hl) h
  exact Keep.site h (Keep.upd_power_wake_fio (sub.trans rfl hl) h1)


theorem execPorNLow_keep {L r s} (hl : sub [.od, .dict, .power, .clock, .mu, .line, .host, .gate, .log, .trust, .video, .slices, .canopen, .wake, .mooring, .fio, .pair, .lock, .pairing, .unitA, .acts] L = true) (h : Keep L r s) :
    Ends L r (execPorNLow s) := by
  delta execPorNLow
  exact Keep.rnext (State.porNLow_keep (sub.trans rfl hl) h)


theorem State.windowStart_keep {L r s a1} (hl : sub [.power, .trust] L = true) (h : Keep L r s) :
    Keep L r (State.windowStart s a1) := by
  delta State.windowStart
  extract_lets -merge -useContext x0 x1
  exact Keep.upd_power_trust (sub.trans rfl hl) h


theorem State.porRelease_keep {L r s a1 a2} (hl : sub [.od, .mram, .power, .trust, .wake] L = true) (h : Keep L r s) :
    Keep L r (State.porRelease s a1 a2) := by
  delta State.porRelease
  extract_lets -merge -useContext x0 x1 x2 x3 x4
  have h5 : Keep L r x4 := Keep.upd_power_wake (sub.trans rfl hl) h
  exact Keep.site (State.releaseReset_keep (sub.trans rfl hl) (State.windowStart_keep (sub.trans rfl hl) h5)) h


theorem execPorRelease_keep {L r a0 a1 s} (hl : sub [.od, .mram, .power, .trust, .wake] L = true) (h : Keep L r s) :
    Ends L r (execPorRelease a0 a1 s) := by
  delta execPorRelease
  exact Keep.rnext (State.porRelease_keep (sub.trans rfl hl) h)


theorem State.railFailure_keep {L r s a1 a2} (hl : sub [.od, .dict, .mram, .power, .clock, .mu, .line, .host, .gate, .log, .trust, .video, .slices, .canopen, .mooring, .fio, .pair, .lock, .pairing, .unitA, .acts] L = true) (h : Keep L r s) :
    Keep L r (State.railFailure s a1 a2) := by
  delta State.railFailure
  extract_lets -merge -useContext x0 x1
  have h2 : Keep L r x1 := State.bump_keep (sub.trans rfl hl) (State.put_keep (sub.trans rfl hl) (State.put_keep (sub.trans rfl hl) h))
  exact State.takeReset_keep (sub.trans rfl hl) (State.raise_keep (sub.trans rfl hl) (State.storeStored_keep (sub.trans rfl hl) (State.emcyScan_keep (sub.trans rfl hl) h2)))


theorem execRailFailure_keep {L r a0 a1 s} (hl : sub [.od, .dict, .mram, .power, .clock, .mu, .line, .host, .gate, .log, .trust, .video, .slices, .canopen, .mooring, .fio, .pair, .lock, .pairing, .unitA, .acts] L = true) (h : Keep L r s) :
    Ends L r (execRailFailure a0 a1 s) := by
  delta execRailFailure
  exact Keep.rnext (Keep.site (State.railFailure_keep (sub.trans rfl hl) h) (State.takeReset_keep (sub.trans rfl hl) h))


theorem State.railWarning_keep {L r s a1 a2} (hl : sub [.od, .gate, .log, .acts] L = true) (h : Keep L r s) :
    Keep L r (State.railWarning s a1 a2) := by
  delta State.railWarning
  extract_lets -merge -useContext x0 x1 x2
  have h3 : Keep L r x2 := State.put_keep (sub.trans rfl hl) h
  exact Keep.site (State.put_keep (sub.trans rfl hl) h3) (State.raise_keep (sub.trans rfl hl) (State.bump_keep (sub.trans rfl hl) (State.put_keep (sub.trans rfl hl) h3)))


theorem execRailWarning_keep {L r a0 a1 s} (hl : sub [.od, .gate, .log, .canopen, .acts] L = true) (h : Keep L r s) :
    Ends L r (execRailWarning a0 a1 s) := by
  delta execRailWarning
  exact Keep.rnext (Keep.site (State.emcyScan_keep (sub.trans rfl hl) (State.railWarning_keep (sub.trans rfl hl) h)) h)


theorem State.leaveRunning_keep {L r s} (hl : sub [.od, .mu, .line] L = true) (h : Keep L r s) :
    Keep L r (State.leaveRunning s) := by
  delta State.leaveRunning
  extract_lets -merge -useContext x0 x2 x4
  have h1 : Keep L r x0 := Keep.site (State.put_keep (sub.trans rfl hl) h) h
  have h3 : Keep L r x2 := Keep.foldl (fun _ _ h5 => (by
   extract_lets -merge -useContext x6
   exact State.setPl_keep (sub.trans rfl hl) (State.put_keep (sub.trans rfl hl) h5))) h1
  exact Keep.upd_mu (sub.trans rfl hl) h3


theorem State.timeOut_keep {L r s} (hl : sub [.od, .mu, .line, .gate, .log, .acts] L = true) (h : Keep L r s) :
    Keep L r (State.timeOut s) := by
  delta State.timeOut
  extract_lets -merge -useContext x0
  have h1 : Keep L r x0 := State.raise_keep (sub.trans rfl hl) (State.bump_keep (sub.trans rfl hl) (State.putFlag_keep (sub.trans rfl hl) (State.put_keep (sub.trans rfl hl) h)))
  exact Keep.site h (State.leaveRunning_keep (sub.trans rfl hl) h1)


theorem State.referenceFault_keep {L r s a1} (hl : sub [.od, .mram, .power, .mu, .line, .gate, .log, .acts] L = true) (h : Keep L r s) :
    Keep L r (State.referenceFault s a1) := by
  delta State.referenceFault
  extract_lets -merge -useContext x0 x2 x4
  have h1 : Keep L r x0 := State.storeStored_keep (sub.trans rfl hl) (State.bump_keep (sub.trans rfl hl) (State.put_keep (sub.trans rfl hl) h))
  have h3 : Keep L r x2 := State.raise_keep (sub.trans rfl hl) h1
  exact Keep.site h (Keep.site (Keep.site (State.timeOut_keep (sub.trans rfl hl) h) h) (Keep.site h (Keep.upd_power (sub.trans rfl hl) h3)))


theorem execReferenceFault_keep {L r a0 s} (hl : sub [.od, .mram, .power, .mu, .line, .gate, .log, .acts] L = true) (h : Keep L r s) :
    Ends L r (execReferenceFault a0 s) := by
  delta execReferenceFault
  exact Keep.rnext (State.referenceFault_keep (sub.trans rfl hl) h)


theorem State.referenceLossReset_keep {L r s} (hl : sub [.od, .dict, .power, .clock, .mu, .line, .host, .gate, .log, .trust, .video, .slices, .canopen, .mooring, .fio, .pair, .lock, .pairing, .unitA, .acts] L = true) (h : Keep L r s) :
    Keep L r (State.referenceLossReset s) := by
  delta State.referenceLossReset
  exact Keep.site (State.takeReset_keep (sub.trans rfl hl) h) h


theorem execReferenceLossReset_keep {L r s} (hl : sub [.od, .dict, .power, .clock, .mu, .line, .host, .gate, .log, .trust, .video, .slices, .canopen, .mooring, .fio, .pair, .lock, .pairing, .unitA, .acts] L = true) (h : Keep L r s) :
    Ends L r (execReferenceLossReset s) := by
  delta execReferenceLossReset
  exact Keep.rnext (State.referenceLossReset_keep (sub.trans rfl hl) h)


theorem State.referenceRecovered_keep {L r s} (hl : sub [.od, .power] L = true) (h : Keep L r s) :
    Keep L r (State.referenceRecovered s) := by
  delta State.referenceRecovered
  extract_lets -merge -useContext x0
  exact Keep.site (Keep.upd_od_power (sub.trans rfl hl) h (fun w => by first | exact Store.set_wf w _ _ | exact Store.fold_wf w _)) h


theorem execReferenceRecovered_keep {L r s} (hl : sub [.od, .power] L = true) (h : Keep L r s) :
    Ends L r (execReferenceRecovered s) := by
  delta execReferenceRecovered
  exact Keep.rnext (State.referenceRecovered_keep (sub.trans rfl hl) h)


theorem State.resetRelease_keep {L r s a1} (hl : sub [.od, .mram, .power, .trust] L = true) (h : Keep L r s) :
    Keep L r (State.resetRelease s a1) := by
  delta State.resetRelease
  extract_lets -merge -useContext x0 x2 x4
  have h1 : Keep L r x0 := Keep.site (State.windowStart_keep (sub.trans rfl hl) h) h
  have h3 : Keep L r x2 := State.releaseReset_keep (sub.trans rfl hl) h1
  exact Keep.site (Keep.upd_trust (sub.trans rfl hl) h3) h


theorem execResetRelease_keep {L r a0 s} (hl : sub [.od, .mram, .power, .trust] L = true) (h : Keep L r s) :
    Ends L r (execResetRelease a0 s) := by
  delta execResetRelease
  exact Keep.rnext (State.resetRelease_keep (sub.trans rfl hl) h)


theorem execResetRequest_keep {L r a0 a1 s} (hl : sub [.od, .dict, .power, .clock, .mu, .line, .host, .gate, .log, .trust, .video, .slices, .canopen, .mooring, .fio, .pair, .lock, .pairing, .unitA, .acts] L = true) (h : Keep L r s) :
    Ends L r (execResetRequest a0 a1 s) := by
  delta execResetRequest
  exact Keep.rnext (State.served_keep (sub.trans rfl hl) h (fun _ h0 => State.takeDue_keep (sub.trans rfl hl) (State.accessAct_keep (sub.trans rfl hl) h0 (fun _ h1 => State.resetAsked_keep (sub.trans rfl hl) h1))))


theorem execScrubRequest_keep {L r a0 a1 s} (hl : sub [.od, .power, .host, .gate, .log, .pair, .acts] L = true) (h : Keep L r s) :
    Ends L r (execScrubRequest a0 a1 s) := by
  delta execScrubRequest
  exact Keep.rnext (State.served_keep (sub.trans rfl hl) h (fun _ h0 => State.accessAct_keep (sub.trans rfl hl) h0 (fun _ h1 => Keep.pite (Keep.pair h1) (Keep.pair (State.scrubStart_keep (sub.trans rfl hl) h1)))))


theorem State.temperatureSample_keep {L r s a1 a2} (hl : sub [.od, .gate, .log, .acts] L = true) (h : Keep L r s) :
    Keep L r (State.temperatureSample s a1 a2) := by
  delta State.temperatureSample
  extract_lets -merge -useContext x0 x1 x3 x4 x5 x6 x7 x8 x9 x11
  have h2 : Keep L r x1 := State.put_keep (sub.trans rfl hl) (State.put_keep (sub.trans rfl hl) (State.put_keep (sub.trans rfl hl) h))
  have h10 : Keep L r x9 := State.put_keep (sub.trans rfl hl) h2
  have h12 : Keep L r x11 := Keep.site (State.raise_keep (sub.trans rfl hl) (State.bump_keep (sub.trans rfl hl) h10)) h10
  exact Keep.site (Keep.site (State.raise_keep (sub.trans rfl hl) (State.bump_keep (sub.trans rfl hl) h12)) h12) h


theorem execTemperatureSample_keep {L r a0 a1 s} (hl : sub [.od, .gate, .log, .canopen, .acts] L = true) (h : Keep L r s) :
    Ends L r (execTemperatureSample a0 a1 s) := by
  delta execTemperatureSample
  exact Keep.rnext (State.emcyScan_keep (sub.trans rfl hl) (State.temperatureSample_keep (sub.trans rfl hl) h))


theorem State.vaonLoss_keep {L r s} (hl : sub [.od, .dict, .power, .clock, .mu, .line, .host, .gate, .log, .trust, .video, .slices, .canopen, .wake, .mooring, .fio, .pair, .lock, .pairing, .unitA, .acts] L = true) (h : Keep L r s) :
    Keep L r (State.vaonLoss s) := by
  delta State.vaonLoss
  extract_lets -merge -useContext x0 x2 x3
  have h1 : Keep L r x0 := State.logicReset_keep (sub.trans rfl hl) h
  exact Keep.upd_power_trust_wake_fio (sub.trans rfl hl) h1


theorem execVaonLoss_keep {L r s} (hl : sub [.od, .dict, .power, .clock, .mu, .line, .host, .gate, .log, .trust, .video, .slices, .canopen, .wake, .mooring, .fio, .pair, .lock, .pairing, .unitA, .acts] L = true) (h : Keep L r s) :
    Ends L r (execVaonLoss s) := by
  delta execVaonLoss
  exact Keep.rnext (State.vaonLoss_keep (sub.trans rfl hl) h)


theorem State.vaonRise_keep {L r s a1} (hl : sub [.power, .wake] L = true) (h : Keep L r s) :
    Keep L r (State.vaonRise s a1) := by
  delta State.vaonRise
  extract_lets -merge -useContext x0 x1
  exact Keep.site (Keep.upd_power_wake (sub.trans rfl hl) h) h


theorem execVaonRise_keep {L r a0 s} (hl : sub [.power, .wake] L = true) (h : Keep L r s) :
    Ends L r (execVaonRise a0 s) := by
  delta execVaonRise
  exact Keep.rnext (State.vaonRise_keep (sub.trans rfl hl) h)


theorem execWarmReset_keep {L r s} (hl : sub [.od, .dict, .power, .clock, .mu, .line, .host, .gate, .log, .trust, .video, .slices, .canopen, .mooring, .fio, .pair, .lock, .pairing, .unitA, .acts] L = true) (h : Keep L r s) :
    Ends L r (execWarmReset s) := by
  delta execWarmReset
  exact Keep.rnext (State.takeReset_keep (sub.trans rfl hl) h)


theorem execWatchdogExpiry_keep {L r s} (hl : sub [.od, .dict, .power, .clock, .mu, .line, .host, .gate, .log, .trust, .video, .slices, .canopen, .mooring, .fio, .pair, .lock, .pairing, .unitA, .acts] L = true) (h : Keep L r s) :
    Ends L r (execWatchdogExpiry s) := by
  delta execWatchdogExpiry
  exact Keep.rnext (State.takeReset_keep (sub.trans rfl hl) h)


theorem State.islandStop_keep {L r s a1} (hl : sub [.od, .power] L = true) (h : Keep L r s) :
    Keep L r (State.islandStop s a1) := by
  delta State.islandStop
  extract_lets -merge -useContext x0 x2
  have h1 : Keep L r x0 := State.bump_keep (sub.trans rfl hl) h
  exact Keep.site (Keep.upd_power (sub.trans rfl hl) h1) h


theorem State.safetyFault_keep {L r s a1 a2} (hl : sub [.od, .dict, .power, .clock, .mu, .line, .host, .gate, .log, .trust, .video, .slices, .canopen, .mooring, .fio, .pair, .lock, .pairing, .unitA, .acts] L = true) (h : Keep L r s) :
    Keep L r (State.safetyFault s a1 a2) := by
  delta State.safetyFault
  exact Keep.site (State.takeReset_keep (sub.trans rfl hl) (State.raise_keep (sub.trans rfl hl) h)) (State.takeReset_keep (sub.trans rfl hl) h)


theorem State.lockstepError_keep {L r s a1} (hl : sub [.od, .dict, .power, .clock, .mu, .line, .host, .gate, .log, .trust, .video, .slices, .canopen, .mooring, .fio, .pair, .lock, .pairing, .unitA, .acts] L = true) (h : Keep L r s) :
    Keep L r (State.lockstepError s a1) := by
  delta State.lockstepError
  extract_lets -merge -useContext x0 x1 x3 x4
  have h2 : Keep L r x1 := Keep.upd_pair (sub.trans rfl hl) h
  exact (by
   split
   · exact Keep.site (State.safetyFault_keep (sub.trans rfl hl) h2) (Keep.upd_power (sub.trans rfl hl) h2)
   · exact Keep.upd_power (sub.trans rfl hl) h2)


theorem State.scrubResume_keep {L r s} (hl : sub [.od] L = true) (h : Keep L r s) :
    Keep L r (State.scrubResume s) := by
  delta State.scrubResume
  exact Keep.site (State.scrubRun_keep (sub.trans rfl hl) h) h


theorem State.sramScrub_keep {L r s a1 a2 a3} (hl : sub [.od, .dict, .power, .clock, .mu, .line, .host, .gate, .log, .trust, .video, .slices, .canopen, .mooring, .fio, .pair, .lock, .pairing, .unitA, .acts] L = true) (h : Keep L r s) :
    Keep L r (State.sramScrub s a1 a2 a3) := by
  delta State.sramScrub
  extract_lets -merge -useContext x0 x2 x4 x5
  have h1 : Keep L r x0 := State.times_keep (sub.trans rfl hl) h (fun _ h8 => State.raise_keep (sub.trans rfl hl) (State.bump_keep (sub.trans rfl hl) h8))
  have h3 : Keep L r x2 := State.times_keep (sub.trans rfl hl) h1 (fun _ h7 => State.raise_keep (sub.trans rfl hl) (State.bump_keep (sub.trans rfl hl) h7))
  have h6 : Keep L r x5 := Keep.site h3 (Keep.upd_pair (sub.trans rfl hl) h3)
  exact Keep.site (Keep.site (State.safetyFault_keep (sub.trans rfl hl) h6) h6) h


theorem State.discardStaging_keep {L r s} (hl : sub [.dict, .trust] L = true) (h : Keep L r s) :
    Keep L r (State.discardStaging s) := by
  delta State.discardStaging
  extract_lets -merge -useContext x0 x1
  exact Keep.upd_dict_trust (sub.trans rfl hl) h


theorem State.endSession_keep {L r s a1} (hl : sub [.od, .dict, .trust] L = true) (h : Keep L r s) :
    Keep L r (State.endSession s a1) := by
  delta State.endSession
  extract_lets -merge -useContext x0 x1 x3
  have h2 : Keep L r x1 := Keep.upd_trust (sub.trans rfl hl) h
  exact (by
   split
   · exact h
   · exact (by
     split
     · exact Keep.site (Keep.site (Keep.upd_dict (sub.trans rfl hl) h2) (State.bump_keep (sub.trans rfl hl) (State.discardStaging_keep (sub.trans rfl hl) h2))) h2
     · exact h2))


theorem State.endPath_keep {L r s a1} (hl : sub [.od, .dict, .trust] L = true) (h : Keep L r s) :
    Keep L r (State.endPath s a1) := by
  delta State.endPath
  exact Keep.foldl (fun _ _ h0 => Keep.site (State.endSession_keep (sub.trans rfl hl) h0) h0) h


theorem State.frameLeaves_keep {L r s a1} (hl : sub [.od] L = true) (h : Keep L r s) :
    Keep L r (State.frameLeaves s a1) := by
  delta State.frameLeaves
  extract_lets -merge -useContext x0
  have h1 : Keep L r x0 := State.bump_keep (sub.trans rfl hl) h
  exact Keep.site (State.put_keep (sub.trans rfl hl) h1) h1


theorem State.leaves_keep {L r s a1 a2} (hl : sub [.od, .line] L = true) (h : Keep L r s) :
    Keep L r (State.leaves s a1 a2) := by
  delta State.leaves
  extract_lets -merge -useContext x0 x2 x3
  have h1 : Keep L r x0 := State.frameLeaves_keep (sub.trans rfl hl) h
  exact State.setPl_keep (sub.trans rfl hl) h1


theorem State.owQueueUp_keep {L r s a1 a2} (hl : sub [.od, .line] L = true) (h : Keep L r s) :
    Keep L r (State.owQueueUp s a1 a2) := by
  delta State.owQueueUp
  extract_lets -merge -useContext x0 x1 x2
  exact Keep.site (State.bump_keep (sub.trans rfl hl) h) (State.setPl_keep (sub.trans rfl hl) h)


theorem State.owSendTo_keep {L r s a1 a2 a3} (hl : sub [.od, .line] L = true) (h : Keep L r s) :
    Keep L r (State.owSendTo s a1 a2 a3) := by
  delta State.owSendTo
  exact Keep.foldl (fun _ _ h0 => State.owQueueUp_keep (sub.trans rfl hl) h0) h


theorem State.sendChunks_keep {L r s a1 a2 a3} (hl : sub [.od, .dict, .line] L = true) (h : Keep L r s) :
    Keep L r (State.sendChunks s a1 a2 a3) := by
  delta State.sendChunks
  extract_lets -merge -useContext x0 x1 x3
  have h2 : Keep L r x1 := Keep.foldl (fun _ _ h4 => State.owSendTo_keep (sub.trans rfl hl) h4) h
  exact Keep.upd_dict (sub.trans rfl hl) h2


theorem State.tookSequence_keep {L r s a1} (hl : sub [.trust] L = true) (h : Keep L r s) :
    Keep L r (State.tookSequence s a1) := by
  delta State.tookSequence
  extract_lets -merge -useContext x0
  exact Keep.upd_trust (sub.trans rfl hl) h


theorem State.sendCollect_keep {L r s a1 a2 a3 a4 a5 a6} (hl : sub [.od, .line, .trust] L = true) (h : Keep L r s) :
    Keep L r (State.sendCollect s a1 a2 a3 a4 a5 a6) := by
  delta State.sendCollect
  extract_lets -merge -useContext x0
  have h1 : Keep L r x0 := State.emit_keep (sub.trans rfl hl) h
  exact (by
   split
   · exact h1
   · exact State.tookSequence_keep (sub.trans rfl hl) (State.owSendTo_keep (sub.trans rfl hl) h1))


theorem State.slotAct_keep {L r s a1 a2} (hl : sub [.acts] L = true) (h : Keep L r s) :
    Keep L r (State.slotAct s a1 a2) := by
  delta State.slotAct
  exact Keep.site h (State.act_keep (sub.trans rfl hl) h)


theorem State.sendFrame_keep {L r s a1 a2 a3 a4} (hl : sub [.od, .line, .acts] L = true) (h : Keep L r s) :
    Keep L r (State.sendFrame s a1 a2 a3 a4) := by
  delta State.sendFrame
  extract_lets -merge -useContext x0 x1 x2 x4
  have h3 : Keep L r x2 := State.leaves_keep (sub.trans rfl hl) (State.slotAct_keep (sub.trans rfl hl) h)
  exact State.emit_keep (sub.trans rfl hl) (Keep.upd_line (sub.trans rfl hl) h3)


theorem State.sendNode_keep {L r s a1 a2 a3} (hl : sub [.od, .dict, .line, .trust] L = true) (h : Keep L r s) :
    Keep L r (State.sendNode s a1 a2 a3) := by
  delta State.sendNode
  split
  · exact h
  · exact State.tookSequence_keep (sub.trans rfl hl) (State.sendChunks_keep (sub.trans rfl hl) h)


theorem State.sendFree_keep {L r s a1} (hl : sub [.od, .dict, .line, .trust] L = true) (h : Keep L r s) :
    Keep L r (State.sendFree s a1) := by
  delta State.sendFree
  exact State.tookFree_keep (sub.trans rfl hl) (State.sendNode_keep (sub.trans rfl hl) h)


theorem State.sendMgmt_keep {L r s a1 a2 a3 a4} (hl : sub [.od, .dict, .line, .trust] L = true) (h : Keep L r s) :
    Keep L r (State.sendMgmt s a1 a2 a3 a4) := by
  delta State.sendMgmt
  extract_lets -merge -useContext x0
  exact Keep.foldl (fun _ _ h1 => State.sendNode_keep (sub.trans rfl hl) h1) (State.emit_keep (sub.trans rfl hl) h)


theorem State.advanceFloor_keep {L r s a1} (hl : sub [.fuses] L = true) (h : Keep L r s) :
    Keep L r (State.advanceFloor s a1).1 := by
  delta State.advanceFloor
  extract_lets -merge -useContext x0
  exact Keep.pite (Keep.pair h) (Keep.pair (Keep.upd_fuses (sub.trans rfl hl) h (by first | exact ⟨rfl, Nat.le_max_left _ _, id⟩ | exact ⟨rfl, Nat.le_refl _, fun _ => rfl⟩)))


theorem execAdvanceRollbackFloor_keep {L r a0 a1 s} (hl : sub [.od, .fuses, .host, .gate, .log, .pair, .acts] L = true) (h : Keep L r s) :
    Ends L r (execAdvanceRollbackFloor a0 a1 s) := by
  delta execAdvanceRollbackFloor
  exact Keep.rnext (State.served_keep (sub.trans rfl hl) h (fun _ h0 => State.accessAct_keep (sub.trans rfl hl) h0 (fun _ h1 => State.advanceFloor_keep (sub.trans rfl hl) h1)))


theorem State.setAu_keep {L r s a1 a2} (hl : sub [.trust] L = true) (h : Keep L r s) :
    Keep L r (State.setAu s a1 a2) := by
  delta State.setAu
  extract_lets -merge -useContext x0
  exact Keep.upd_trust (sub.trans rfl hl) h


theorem State.authSend_keep {L r s a1 a2 a3} (hl : sub [.line] L = true) (h : Keep L r s) :
    Keep L r (State.authSend s a1 a2 a3) := by
  delta State.authSend
  extract_lets -merge -useContext x0 x1 x3
  have h2 : Keep L r x1 := State.tookFree_keep (sub.trans rfl hl) h
  exact State.emit_keep (sub.trans rfl hl) (State.setPl_keep (sub.trans rfl hl) h2)


theorem State.authStart_keep {L r s a1} (hl : sub [.od, .line, .trust] L = true) (h : Keep L r s) :
    Keep L r (State.authStart s a1) := by
  delta State.authStart
  extract_lets -merge -useContext x0 x1
  have h2 : Keep L r x1 := State.setAu_keep (sub.trans rfl hl) (State.put_keep (sub.trans rfl hl) (State.put_keep (sub.trans rfl hl) (State.tookFree_keep (sub.trans rfl hl) h)))
  exact Keep.site (State.authSend_keep (sub.trans rfl hl) h2) h


theorem State.authRetry_keep {L r s a1} (hl : sub [.od, .line, .trust] L = true) (h : Keep L r s) :
    Keep L r (State.authRetry s a1) := by
  delta State.authRetry
  exact Keep.site (State.authStart_keep (sub.trans rfl hl) h) h


theorem execAuthRetryTimer_keep {L r a0 s} (hl : sub [.od, .line, .trust] L = true) (h : Keep L r s) :
    Ends L r (execAuthRetryTimer a0 s) := by
  delta execAuthRetryTimer
  exact Keep.rnext (State.served_keep (sub.trans rfl hl) h (fun _ h0 => State.authRetry_keep (sub.trans rfl hl) h0))


theorem State.cacheExpiry_keep {L r s a1} (hl : sub [.trust] L = true) (h : Keep L r s) :
    Keep L r (State.cacheExpiry s a1) := by
  delta State.cacheExpiry
  extract_lets -merge -useContext x0
  exact Keep.upd_trust (sub.trans rfl hl) h


theorem execCacheEntryExpiry_keep {L r a0 s} (hl : sub [.trust] L = true) (h : Keep L r s) :
    Ends L r (execCacheEntryExpiry a0 s) := by
  delta execCacheEntryExpiry
  exact Keep.rnext (State.served_keep (sub.trans rfl hl) h (fun _ h0 => State.cacheExpiry_keep (sub.trans rfl hl) h0))


theorem State.certs_keep {L r s a1 a2} (hl : sub [.line, .trust] L = true) (h : Keep L r s) :
    Keep L r (State.certs s a1 a2) := by
  delta State.certs
  extract_lets -merge -useContext x0
  exact Keep.site (State.authSend_keep (sub.trans rfl hl) (State.setAu_keep (sub.trans rfl hl) h)) h


theorem execCerts_keep {L r a0 a1 s} (hl : sub [.line, .trust] L = true) (h : Keep L r s) :
    Ends L r (execCerts a0 a1 s) := by
  delta execCerts
  exact Keep.rnext (State.served_keep (sub.trans rfl hl) h (fun _ h0 => State.certs_keep (sub.trans rfl hl) h0))


theorem State.challengeExpired_keep {L r s} (hl : sub [.od, .trust] L = true) (h : Keep L r s) :
    Keep L r (State.challengeExpired s) := by
  delta State.challengeExpired
  extract_lets -merge -useContext x0 x2
  have h1 : Keep L r x0 := State.putBytes_keep (sub.trans rfl hl) h
  exact Keep.upd_trust (sub.trans rfl hl) h1


theorem execChallengeExpired_keep {L r s} (hl : sub [.od, .trust] L = true) (h : Keep L r s) :
    Ends L r (execChallengeExpired s) := by
  delta execChallengeExpired
  exact Keep.rnext (State.served_keep (sub.trans rfl hl) h (fun _ h0 => State.challengeExpired_keep (sub.trans rfl hl) h0))


theorem State.countClaim_keep {L r s} (hl : sub [.od] L = true) (h : Keep L r s) :
    Keep L r (State.countClaim s) := by
  delta State.countClaim
  exact Keep.site (State.put_keep (sub.trans rfl hl) h) (State.tookFree_keep (sub.trans rfl hl) (State.put_keep (sub.trans rfl hl) h))


theorem State.claimCommand_keep {L r s a1 a2} (hl : sub [.od, .mram, .trust] L = true) (h : Keep L r s) :
    Keep L r (State.claimCommand s a1 a2).1 := by
  delta State.claimCommand
  extract_lets -merge -useContext x0 x2 x4 x5
  have h1 : Keep L r x0 := State.countClaim_keep (sub.trans rfl hl) (State.putBytes_keep (sub.trans rfl hl) (State.put_keep (sub.trans rfl hl) h))
  have h3 : Keep L r x2 := State.putBytes_keep (sub.trans rfl hl) h1
  have h6 : Keep L r x5 := Keep.upd_trust (sub.trans rfl hl) h3
  exact Keep.pite (Keep.pair h) (Keep.pite (Keep.pair h) (Keep.pite (Keep.pair h) (Keep.pite (Keep.pair h) (Keep.pite (Keep.pair h) (Keep.pair (State.storeStored_keep (sub.trans rfl hl) h6))))))


theorem execClaimCommand_keep {L r a0 a1 a2 a3 s} (hl : sub [.od, .mram, .host, .gate, .log, .trust, .pair, .acts] L = true) (h : Keep L r s) :
    Ends L r (execClaimCommand a0 a1 a2 a3 s) := by
  delta execClaimCommand
  exact Keep.rnext (State.served_keep (sub.trans rfl hl) h (fun _ h0 => State.accessAct_keep (sub.trans rfl hl) h0 (fun _ h1 => State.claimCommand_keep (sub.trans rfl hl) h1)))


theorem State.claimEnLow_keep {L r s} (hl : sub [.power, .trust] L = true) (h : Keep L r s) :
    Keep L r (State.claimEnLow s) := by
  delta State.claimEnLow
  extract_lets -merge -useContext x0 x1
  exact Keep.upd_power_trust (sub.trans rfl hl) h


theorem execClaimEnLow_keep {L r s} (hl : sub [.power, .trust] L = true) (h : Keep L r s) :
    Ends L r (execClaimEnLow s) := by
  delta execClaimEnLow
  exact Keep.rnext (State.claimEnLow_keep (sub.trans rfl hl) h)


theorem State.windowExpired_keep {L r s} (hl : sub [.trust] L = true) (h : Keep L r s) :
    Keep L r (State.windowExpired s) := by
  delta State.windowExpired
  extract_lets -merge -useContext x0
  exact Keep.upd_trust (sub.trans rfl hl) h


theorem execClaimWindowExpired_keep {L r s} (hl : sub [.trust] L = true) (h : Keep L r s) :
    Ends L r (execClaimWindowExpired s) := by
  delta execClaimWindowExpired
  exact Keep.rnext (State.windowExpired_keep (sub.trans rfl hl) h)


theorem State.closeArm_keep {L r s a1} (hl : sub [.od, .trust] L = true) (h : Keep L r s) :
    Keep L r (State.closeArm s a1).1 := by
  delta State.closeArm
  extract_lets -merge -useContext x0 x1 x3
  have h2 : Keep L r x1 := State.tookFree_keep (sub.trans rfl hl) (State.putBytes_keep (sub.trans rfl hl) h)
  exact Keep.pite (Keep.pair h) (Keep.pite (Keep.pair h) (Keep.pair (Keep.upd_trust (sub.trans rfl hl) h2)))


theorem execCloseArm_keep {L r a0 a1 s} (hl : sub [.od, .host, .gate, .log, .trust, .pair, .acts] L = true) (h : Keep L r s) :
    Ends L r (execCloseArm a0 a1 s) := by
  delta execCloseArm
  exact Keep.rnext (State.served_keep (sub.trans rfl hl) h (fun _ h0 => State.accessAct_keep (sub.trans rfl hl) h0 (fun _ h1 => State.closeArm_keep (sub.trans rfl hl) h1)))


theorem State.closeConfirm_keep {L r s a1 a2} (hl : sub [.od, .fuses, .trust] L = true) (h : Keep L r s) :
    Keep L r (State.closeConfirm s a1 a2).1 := by
  delta State.closeConfirm
  extract_lets -merge -useContext x0 x2 x3
  have h1 : Keep L r x0 := State.challengeExpired_keep (sub.trans rfl hl) h
  exact Keep.pite (Keep.pair h) (Keep.pite (Keep.pair h) (Keep.pite (Keep.pair h) (Keep.pite (Keep.pair h) (Keep.pair (Keep.upd_fuses_trust (sub.trans rfl hl) h1 (by first | exact ⟨rfl, Nat.le_max_left _ _, id⟩ | exact ⟨rfl, Nat.le_refl _, fun _ => rfl⟩))))))


theorem execCloseConfirm_keep {L r a0 a1 a2 s} (hl : sub [.od, .fuses, .host, .gate, .log, .trust, .pair, .acts] L = true) (h : Keep L r s) :
    Ends L r (execCloseConfirm a0 a1 a2 s) := by
  delta execCloseConfirm
  exact Keep.rnext (State.served_keep (sub.trans rfl hl) h (fun _ h0 => State.accessAct_keep (sub.trans rfl hl) h0 (fun _ h1 => State.closeConfirm_keep (sub.trans rfl hl) h1)))


theorem State.authInstall_keep {L r s a1} (hl : sub [.od, .trust] L = true) (h : Keep L r s) :
    Keep L r (State.authInstall s a1) := by
  delta State.authInstall
  extract_lets -merge -useContext x0 x1 x2 x3 x4 x5 x6 x8
  have h7 : Keep L r x6 := State.setAu_keep (sub.trans rfl hl) (State.put_keep (sub.trans rfl hl) (State.put_keep (sub.trans rfl hl) (State.put_keep (sub.trans rfl hl) (State.put_keep (sub.trans rfl hl) (State.put_keep (sub.trans rfl hl) h)))))
  exact Keep.site (Keep.upd_trust (sub.trans rfl hl) h7) h


theorem State.authRefuse_keep {L r s a1 a2} (hl : sub [.od, .line, .gate, .log, .trust, .acts] L = true) (h : Keep L r s) :
    Keep L r (State.authRefuse s a1 a2) := by
  delta State.authRefuse
  extract_lets -merge -useContext x0
  have h1 : Keep L r x0 := State.setAu_keep (sub.trans rfl hl) (State.bump_keep (sub.trans rfl hl) (State.put_keep (sub.trans rfl hl) (State.put_keep (sub.trans rfl hl) h)))
  exact State.authSend_keep (sub.trans rfl hl) (State.trustRefuse_keep (sub.trans rfl hl) h1)


theorem State.confirm_keep {L r s a1 a2} (hl : sub [.od, .line, .gate, .log, .trust, .acts] L = true) (h : Keep L r s) :
    Keep L r (State.confirm s a1 a2) := by
  delta State.confirm
  extract_lets -merge -useContext x0
  exact Keep.site (Keep.site (State.authInstall_keep (sub.trans rfl hl) (State.setAu_keep (sub.trans rfl hl) h)) (State.authRefuse_keep (sub.trans rfl hl) h)) h


theorem execConfirm_keep {L r a0 a1 s} (hl : sub [.od, .line, .gate, .log, .trust, .acts] L = true) (h : Keep L r s) :
    Ends L r (execConfirm a0 a1 s) := by
  delta execConfirm
  exact Keep.rnext (State.served_keep (sub.trans rfl hl) h (fun _ h0 => State.confirm_keep (sub.trans rfl hl) h0))


theorem State.debugUnlock_keep {L r s} (hl : sub [.trust] L = true) (h : Keep L r s) :
    Keep L r (State.debugUnlock s).1 := by
  delta State.debugUnlock
  extract_lets -merge -useContext x0
  exact Keep.pite (Keep.pair h) (Keep.pair (Keep.upd_trust (sub.trans rfl hl) h))


theorem execDebugUnlock_keep {L r a0 a1 s} (hl : sub [.od, .host, .gate, .log, .trust, .pair, .acts] L = true) (h : Keep L r s) :
    Ends L r (execDebugUnlock a0 a1 s) := by
  delta execDebugUnlock
  exact Keep.rnext (State.served_keep (sub.trans rfl hl) h (fun _ h0 => State.accessAct_keep (sub.trans rfl hl) h0 (fun _ h1 => State.debugUnlock_keep (sub.trans rfl hl) h1)))


theorem State.finishClient_keep {L r s a1 a2 a3 a4} (hl : sub [.od, .host, .gate, .log, .trust, .acts] L = true) (h : Keep L r s) :
    Keep L r (State.finishClient s a1 a2 a3 a4) := by
  delta State.finishClient
  extract_lets -merge -useContext x0 x1
  exact (by
   split
   · exact Keep.site (State.dropMessage_keep (sub.trans rfl hl) h) (Keep.site (State.takeMessage_keep (sub.trans rfl hl) (Keep.upd_trust (sub.trans rfl hl) h)) (State.respond_keep (sub.trans rfl hl) (Keep.upd_trust (sub.trans rfl hl) h)))
   · exact State.dropMessage_keep (sub.trans rfl hl) h)


theorem State.finishNode_keep {L r s a1 a2 a3} (hl : sub [.od, .gate, .log, .trust, .acts] L = true) (h : Keep L r s) :
    Keep L r (State.finishNode s a1 a2 a3) := by
  delta State.finishNode
  extract_lets -merge -useContext x0 x1 x3
  have h2 : Keep L r x1 := State.trustRefuse_keep (sub.trans rfl hl) h
  exact Keep.site (Keep.site (Keep.upd_trust (sub.trans rfl hl) h) (Keep.upd_trust (sub.trans rfl hl) h2)) (State.trustRefuse_keep (sub.trans rfl hl) h)


theorem execFinish_keep {L r a0 a1 a2 s} (hl : sub [.od, .host, .gate, .log, .trust, .acts] L = true) (h : Keep L r s) :
    Ends L r (execFinish a0 a1 a2 s) := by
  delta execFinish
  exact Keep.rnext (State.served_keep (sub.trans rfl hl) h (fun _ h0 => (by
 split
 · exact State.finishClient_keep (sub.trans rfl hl) h0
 · exact State.finishNode_keep (sub.trans rfl hl) h0)))


theorem State.flushCache_keep {L r s} (hl : sub [.trust] L = true) (h : Keep L r s) :
    Keep L r (State.flushCache s) := by
  delta State.flushCache
  extract_lets -merge -useContext x0
  exact Keep.upd_trust (sub.trans rfl hl) h


theorem execFlushCache_keep {L r a0 a1 s} (hl : sub [.od, .host, .gate, .log, .trust, .pair, .acts] L = true) (h : Keep L r s) :
    Ends L r (execFlushCache a0 a1 s) := by
  delta execFlushCache
  exact Keep.rnext (State.served_keep (sub.trans rfl hl) h (fun _ h0 => State.accessAct_keep (sub.trans rfl hl) h0 (fun _ h1 => Keep.pair (State.flushCache_keep (sub.trans rfl hl) h1))))


theorem State.healthTimeout_keep {L r s} (hl : sub [.od, .dict, .mram, .power, .clock, .mu, .line, .host, .gate, .log, .trust, .video, .slices, .canopen, .mooring, .fio, .pair, .lock, .pairing, .unitA, .acts] L = true) (h : Keep L r s) :
    Keep L r (State.healthTimeout s) := by
  delta State.healthTimeout
  extract_lets -merge -useContext x0 x2
  have h1 : Keep L r x0 := State.storeStored_keep (sub.trans rfl hl) (State.setImageState_keep (sub.trans rfl hl) h)
  exact Keep.site (State.takeReset_keep (sub.trans rfl hl) (Keep.upd_power (sub.trans rfl hl) h1)) h


theorem execHealthTimeout_keep {L r s} (hl : sub [.od, .dict, .mram, .power, .clock, .mu, .line, .host, .gate, .log, .trust, .video, .slices, .canopen, .mooring, .fio, .pair, .lock, .pairing, .unitA, .acts] L = true) (h : Keep L r s) :
    Ends L r (execHealthTimeout s) := by
  delta execHealthTimeout
  exact Keep.rnext (State.healthTimeout_keep (sub.trans rfl hl) h)


theorem State.helloClient_keep {L r s a1 a2} (hl : sub [.od, .host, .gate, .log, .trust, .acts] L = true) (h : Keep L r s) :
    Keep L r (State.helloClient s a1 a2) := by
  delta State.helloClient
  extract_lets -merge -useContext x0 x1 x3 x4 x5 x6 x7 x9 x10 x12
  have h2 : Keep L r x1 := Keep.upd_trust (sub.trans rfl hl) h
  have h8 : Keep L r x7 := State.tookFree_keep (sub.trans rfl hl) h2
  have h11 : Keep L r x10 := Keep.upd_trust (sub.trans rfl hl) h8
  have h13 : Keep L r x12 := Keep.site (State.putBytes_keep (sub.trans rfl hl) h11) h11
  exact Keep.site (State.respond_keep (sub.trans rfl hl) h2) (Keep.site (State.respond_keep (sub.trans rfl hl) h2) (State.emit_keep (sub.trans rfl hl) (State.respond_keep (sub.trans rfl hl) h13)))


theorem State.helloNode_keep {L r s a1} (hl : sub [.od, .dict, .line, .gate, .log, .trust, .acts] L = true) (h : Keep L r s) :
    Keep L r (State.helloNode s a1) := by
  delta State.helloNode
  extract_lets -merge -useContext x0 x1 x2 x3 x4
  have h5 : Keep L r x4 := State.emit_keep (sub.trans rfl hl) (Keep.upd_trust (sub.trans rfl hl) h)
  exact Keep.site (State.trustRefuse_keep (sub.trans rfl hl) h) (Keep.site (State.trustRefuse_keep (sub.trans rfl hl) h) (State.tookFree_keep (sub.trans rfl hl) (State.sendChunks_keep (sub.trans rfl hl) h5)))


theorem execHello_keep {L r a0 s} (hl : sub [.od, .dict, .line, .host, .gate, .log, .trust, .acts] L = true) (h : Keep L r s) :
    Ends L r (execHello a0 s) := by
  delta execHello
  exact Keep.rnext (State.served_keep (sub.trans rfl hl) h (fun _ h0 => (by
 split
 · exact State.helloClient_keep (sub.trans rfl hl) h0
 · exact State.helloNode_keep (sub.trans rfl hl) h0)))


theorem State.imageHealthy_keep {L r s} (hl : sub [.od, .mram, .power] L = true) (h : Keep L r s) :
    Keep L r (State.imageHealthy s) := by
  delta State.imageHealthy
  extract_lets -merge -useContext x0 x2
  have h1 : Keep L r x0 := State.storeStored_keep (sub.trans rfl hl) (State.setImageState_keep (sub.trans rfl hl) h)
  exact Keep.site (Keep.upd_power (sub.trans rfl hl) h1) h


theorem execImageHealthy_keep {L r s} (hl : sub [.od, .mram, .power] L = true) (h : Keep L r s) :
    Ends L r (execImageHealthy s) := by
  delta execImageHealthy
  exact Keep.rnext (State.imageHealthy_keep (sub.trans rfl hl) h)


theorem State.imageLoad_keep {L r s a1} (hl : sub [.od, .mram, .gate, .log, .acts] L = true) (h : Keep L r s) :
    Keep L r (State.imageLoad s a1).1 := by
  delta State.imageLoad
  extract_lets -merge -useContext x0 x1 x3
  have h2 : Keep L r x1 := State.opProgress_keep (sub.trans rfl hl) (Keep.site h (State.opStart_keep (sub.trans rfl hl) h))
  have h4 : Keep L r x3 := State.setImageState_keep (sub.trans rfl hl) (State.put_keep (sub.trans rfl hl) (State.put_keep (sub.trans rfl hl) h2))
  exact Keep.pite (Keep.pair (State.opEnd_keep (sub.trans rfl hl) h2)) (Keep.pite (Keep.pair (State.opEnd_keep (sub.trans rfl hl) h2)) (Keep.pair (State.opEnd_keep (sub.trans rfl hl) (State.storeStored_keep (sub.trans rfl hl) h4))))


theorem execImageLoad_keep {L r a0 a1 s} (hl : sub [.od, .mram, .host, .gate, .log, .acts] L = true) (h : Keep L r s) :
    Ends L r (execImageLoad a0 a1 s) := by
  delta execImageLoad
  exact Keep.rnext (Keep.site (Keep.site (State.respond_keep (sub.trans rfl hl) (State.imageLoad_keep (sub.trans rfl hl) h)) h) (State.served_keep (sub.trans rfl hl) h (fun _ h0 => (by
 extract_lets -merge -useContext x1
 exact Keep.site (State.respond_keep (sub.trans rfl hl) h0) (State.respond_keep (sub.trans rfl hl) (State.imageLoad_keep (sub.trans rfl hl) h0))))))


theorem State.storeTime_keep {L r s} (hl : sub [.od, .mram] L = true) (h : Keep L r s) :
    Keep L r (State.storeTime s) := by
  delta State.storeTime
  exact Keep.site (State.storeStored_keep (sub.trans rfl hl) (State.put_keep (sub.trans rfl hl) h)) h


theorem execLastKnownTimeStore_keep {L r s} (hl : sub [.od, .mram] L = true) (h : Keep L r s) :
    Ends L r (execLastKnownTimeStore s) := by
  delta execLastKnownTimeStore
  exact Keep.rnext (State.served_keep (sub.trans rfl hl) h (fun _ h0 => State.storeTime_keep (sub.trans rfl hl) h0))


theorem State.offer_keep {L r s a1 a2 a3 a4} (hl : sub [.od, .line, .trust] L = true) (h : Keep L r s) :
    Keep L r (State.offer s a1 a2 a3 a4) := by
  delta State.offer
  extract_lets -merge -useContext x0 x2 x3 x4
  have h1 : Keep L r x0 := Keep.site h (State.authStart_keep (sub.trans rfl hl) h)
  have h5 : Keep L r x4 := State.setAu_keep (sub.trans rfl hl) (State.put_keep (sub.trans rfl hl) h1)
  exact Keep.site (State.authSend_keep (sub.trans rfl hl) h5) h


theorem execOffer_keep {L r a0 a1 a2 a3 s} (hl : sub [.od, .line, .trust] L = true) (h : Keep L r s) :
    Ends L r (execOffer a0 a1 a2 a3 s) := by
  delta execOffer
  exact Keep.rnext (State.served_keep (sub.trans rfl hl) h (fun _ h0 => State.offer_keep (sub.trans rfl hl) h0))


theorem State.ownerRoot_keep {L r s a1} (hl : sub [.od, .mram] L = true) (h : Keep L r s) :
    Keep L r (State.ownerRoot s a1).1 := by
  delta State.ownerRoot
  exact Keep.pite (Keep.pair h) (Keep.pite (Keep.pair h) (Keep.pite (Keep.pair h) (Keep.pair (State.storeStored_keep (sub.trans rfl hl) (State.putBytes_keep (sub.trans rfl hl) h)))))


theorem execOwnerRootWrite_keep {L r a0 a1 s} (hl : sub [.od, .mram, .host, .gate, .log, .pair, .acts] L = true) (h : Keep L r s) :
    Ends L r (execOwnerRootWrite a0 a1 s) := by
  delta execOwnerRootWrite
  exact Keep.rnext (State.served_keep (sub.trans rfl hl) h (fun _ h0 => State.accessAct_keep (sub.trans rfl hl) h0 (fun _ h1 => State.ownerRoot_keep (sub.trans rfl hl) h1)))


theorem State.writeThen_keep {L r s a1 a2 a3 a4} (hl : sub [.od, .dict, .mram, .acts] L = true) (h : Keep L r s) (hf5 : ∀ y0, Keep L r y0 → Keep L r (a4 y0)) :
    Keep L r (State.writeThen s a1 a2 a3 a4).1 := by
  delta State.writeThen
  exact Keep.pite (Keep.pair h) (Keep.pair (hf5 _ (State.plainWrite_keep (sub.trans rfl hl) h)))


theorem execPeerOwnerWrite_keep {L r a0 a1 a2 s} (hl : sub [.od, .dict, .mram, .host, .gate, .log, .trust, .pair, .acts] L = true) (h : Keep L r s) :
    Ends L r (execPeerOwnerWrite a0 a1 a2 s) := by
  delta execPeerOwnerWrite
  exact Keep.rnext (State.served_keep (sub.trans rfl hl) h (fun _ h0 => State.accessAct_keep (sub.trans rfl hl) h0 (fun _ h1 => State.writeThen_keep (sub.trans rfl hl) h1 (fun _ h2 => State.flushCache_keep (sub.trans rfl hl) h2))))


theorem State.sendConfirm_keep {L r s a1} (hl : sub [.od, .line, .trust] L = true) (h : Keep L r s) :
    Keep L r (State.sendConfirm s a1) := by
  delta State.sendConfirm
  extract_lets -merge -useContext x0
  exact State.authInstall_keep (sub.trans rfl hl) (State.authSend_keep (sub.trans rfl hl) (State.setAu_keep (sub.trans rfl hl) h))


theorem State.proof_keep {L r s a1 a2} (hl : sub [.od, .line, .gate, .log, .trust, .acts] L = true) (h : Keep L r s) :
    Keep L r (State.proof s a1 a2) := by
  delta State.proof
  split
  · exact Keep.site h (Keep.site (State.authRefuse_keep (sub.trans rfl hl) h) (Keep.site (State.authRefuse_keep (sub.trans rfl hl) h) (State.sendConfirm_keep (sub.trans rfl hl) h)))
  · exact h


theorem execProof_keep {L r a0 a1 s} (hl : sub [.od, .line, .gate, .log, .trust, .acts] L = true) (h : Keep L r s) :
    Ends L r (execProof a0 a1 s) := by
  delta execProof
  exact Keep.rnext (State.served_keep (sub.trans rfl hl) h (fun _ h0 => State.proof_keep (sub.trans rfl hl) h0))


theorem State.refuseMsg_keep {L r s a1} (hl : sub [.od, .trust] L = true) (h : Keep L r s) :
    Keep L r (State.refuseMsg s a1) := by
  delta State.refuseMsg
  exact Keep.site h (State.setAu_keep (sub.trans rfl hl) (State.bump_keep (sub.trans rfl hl) (State.put_keep (sub.trans rfl hl) (State.put_keep (sub.trans rfl hl) h))))


theorem execRefuse_keep {L r a0 s} (hl : sub [.od, .trust] L = true) (h : Keep L r s) :
    Ends L r (execRefuse a0 s) := by
  delta execRefuse
  exact Keep.rnext (State.served_keep (sub.trans rfl hl) h (fun _ h0 => State.refuseMsg_keep (sub.trans rfl hl) h0))


theorem State.rekeyConfirm_keep {L r s a1 a2} (hl : sub [.line, .trust] L = true) (h : Keep L r s) :
    Keep L r (State.rekeyConfirm s a1 a2) := by
  delta State.rekeyConfirm
  extract_lets -merge -useContext x0 x1
  have h2 : Keep L r x1 := Keep.site h (State.authSend_keep (sub.trans rfl hl) h)
  exact Keep.site (State.setAu_keep (sub.trans rfl hl) h2) h


theorem execRekeyConfirm_keep {L r a0 a1 s} (hl : sub [.line, .trust] L = true) (h : Keep L r s) :
    Ends L r (execRekeyConfirm a0 a1 s) := by
  delta execRekeyConfirm
  exact Keep.rnext (State.served_keep (sub.trans rfl hl) h (fun _ h0 => State.rekeyConfirm_keep (sub.trans rfl hl) h0))


theorem State.rekeyOffer_keep {L r s a1 a2} (hl : sub [.od, .line, .trust] L = true) (h : Keep L r s) :
    Keep L r (State.rekeyOffer s a1 a2) := by
  delta State.rekeyOffer
  extract_lets -merge -useContext x0 x1
  have h2 : Keep L r x1 := State.setAu_keep (sub.trans rfl hl) (State.put_keep (sub.trans rfl hl) h)
  exact Keep.site h (State.authSend_keep (sub.trans rfl hl) (State.tookFree_keep (sub.trans rfl hl) h2))


theorem execRekeyOffer_keep {L r a0 a1 s} (hl : sub [.od, .line, .trust] L = true) (h : Keep L r s) :
    Ends L r (execRekeyOffer a0 a1 s) := by
  delta execRekeyOffer
  exact Keep.rnext (State.served_keep (sub.trans rfl hl) h (fun _ h0 => State.rekeyOffer_keep (sub.trans rfl hl) h0))


theorem State.rekeyTrigger_keep {L r s a1} (hl : sub [.od, .line, .trust] L = true) (h : Keep L r s) :
    Keep L r (State.rekeyTrigger s a1) := by
  delta State.rekeyTrigger
  extract_lets -merge -useContext x0
  exact Keep.site (State.authSend_keep (sub.trans rfl hl) (State.tookFree_keep (sub.trans rfl hl) (State.setAu_keep (sub.trans rfl hl) (State.put_keep (sub.trans rfl hl) h)))) h


theorem execRekeyTrigger_keep {L r a0 s} (hl : sub [.od, .line, .trust] L = true) (h : Keep L r s) :
    Ends L r (execRekeyTrigger a0 s) := by
  delta execRekeyTrigger
  exact Keep.rnext (State.served_keep (sub.trans rfl hl) h (fun _ h0 => State.rekeyTrigger_keep (sub.trans rfl hl) h0))


theorem State.release_keep {L r s a1} (hl : sub [.od, .mram, .power, .trust] L = true) (h : Keep L r s) :
    Keep L r (State.release s a1).1 := by
  delta State.release
  extract_lets -merge -useContext x0 x2 x4 x6 x7
  have h1 : Keep L r x0 := State.flushCache_keep (sub.trans rfl hl) h
  have h3 : Keep L r x2 := State.put_keep (sub.trans rfl hl) (State.putBytes_keep (sub.trans rfl hl) (State.putBytes_keep (sub.trans rfl hl) (State.putBytes_keep (sub.trans rfl hl) h1)))
  have h5 : Keep L r x4 := Keep.foldl (fun _ _ h9 => State.putBytes_keep (sub.trans rfl hl) h9) h3
  have h8 : Keep L r x7 := Keep.upd_trust (sub.trans rfl hl) h5
  exact Keep.pite (Keep.pair h) (State.resetAsked_keep (sub.trans rfl hl) (State.storeStored_keep (sub.trans rfl hl) h8))


theorem execRelease_keep {L r a0 a1 s} (hl : sub [.od, .dict, .mram, .power, .clock, .mu, .line, .host, .gate, .log, .trust, .video, .slices, .canopen, .mooring, .fio, .pair, .lock, .pairing, .unitA, .acts] L = true) (h : Keep L r s) :
    Ends L r (execRelease a0 a1 s) := by
  delta execRelease
  exact Keep.rnext (State.served_keep (sub.trans rfl hl) h (fun _ h0 => State.takeDue_keep (sub.trans rfl hl) (State.accessAct_keep (sub.trans rfl hl) h0 (fun _ h1 => State.release_keep (sub.trans rfl hl) h1))))


theorem State.resumeMsg_keep {L r s a1 a2} (hl : sub [.od, .line, .gate, .log, .trust, .acts] L = true) (h : Keep L r s) :
    Keep L r (State.resumeMsg s a1 a2) := by
  delta State.resumeMsg
  exact Keep.site (Keep.site (State.sendConfirm_keep (sub.trans rfl hl) h) (State.authRefuse_keep (sub.trans rfl hl) h)) h


theorem execResume_keep {L r a0 a1 s} (hl : sub [.od, .line, .gate, .log, .trust, .acts] L = true) (h : Keep L r s) :
    Ends L r (execResume a0 a1 s) := by
  delta execResume
  exact Keep.rnext (State.served_keep (sub.trans rfl hl) h (fun _ h0 => State.resumeMsg_keep (sub.trans rfl hl) h0))


theorem State.dropKey_keep {L r s a1} (hl : sub [.od, .line, .trust] L = true) (h : Keep L r s) :
    Keep L r (State.dropKey s a1) := by
  delta State.dropKey
  extract_lets -merge -useContext x0 x1 x3 x4 x6
  have h2 : Keep L r x1 := State.put_keep (sub.trans rfl hl) (State.put_keep (sub.trans rfl hl) (State.put_keep (sub.trans rfl hl) h))
  have h5 : Keep L r x4 := State.setPl_keep (sub.trans rfl hl) (State.put_keep (sub.trans rfl hl) h2)
  exact Keep.upd_trust (sub.trans rfl hl) h5


theorem State.revoke_keep {L r s} (hl : sub [.od, .dict, .line, .trust] L = true) (h : Keep L r s) :
    Keep L r (State.revoke s) := by
  delta State.revoke
  extract_lets -merge -useContext x0 x2 x3 x5
  have h1 : Keep L r x0 := Keep.foldl (fun _ _ h8 => Keep.site (State.endSession_keep (sub.trans rfl hl) h8) h8) h
  have h4 : Keep L r x3 := Keep.upd_trust (sub.trans rfl hl) h1
  have h6 : Keep L r x5 := Keep.foldl (fun _ _ h7 => Keep.site (State.dropKey_keep (sub.trans rfl hl) h7) h7) h4
  exact State.flushCache_keep (sub.trans rfl hl) h6


theorem execRevocationWrite_keep {L r a0 a1 s} (hl : sub [.od, .dict, .mram, .line, .host, .gate, .log, .trust, .pair, .acts] L = true) (h : Keep L r s) :
    Ends L r (execRevocationWrite a0 a1 s) := by
  delta execRevocationWrite
  exact Keep.rnext (State.served_keep (sub.trans rfl hl) h (fun _ h0 => State.accessAct_keep (sub.trans rfl hl) h0 (fun _ h1 => State.writeThen_keep (sub.trans rfl hl) h1 (fun _ h2 => State.revoke_keep (sub.trans rfl hl) h2))))


theorem State.selectImage_keep {L r s a1} (hl : sub [.power] L = true) (h : Keep L r s) :
    Keep L r (State.selectImage s a1).1 := by
  delta State.selectImage
  extract_lets -merge -useContext x0
  exact Keep.pair (Keep.upd_power (sub.trans rfl hl) h)


theorem execSelectImage_keep {L r a0 a1 s} (hl : sub [.od, .power, .host, .gate, .log, .pair, .acts] L = true) (h : Keep L r s) :
    Ends L r (execSelectImage a0 a1 s) := by
  delta execSelectImage
  exact Keep.rnext (State.served_keep (sub.trans rfl hl) h (fun _ h0 => State.accessAct_keep (sub.trans rfl hl) h0 (fun _ h1 => State.selectImage_keep (sub.trans rfl hl) h1)))


theorem State.sessionClose_keep {L r s a1 a2 a3 a4} (hl : sub [.od, .dict, .host, .gate, .log, .trust, .acts] L = true) (h : Keep L r s) :
    Keep L r (State.sessionClose s a1 a2 a3 a4) := by
  delta State.sessionClose
  exact Keep.site (State.takeMessage_keep (sub.trans rfl hl) (State.endSession_keep (sub.trans rfl hl) h)) (State.dropMessage_keep (sub.trans rfl hl) h)


theorem execSessionClose_keep {L r a0 a1 a2 a3 s} (hl : sub [.od, .dict, .host, .gate, .log, .trust, .acts] L = true) (h : Keep L r s) :
    Ends L r (execSessionClose a0 a1 a2 a3 s) := by
  delta execSessionClose
  exact Keep.rnext (State.served_keep (sub.trans rfl hl) h (fun _ h0 => State.sessionClose_keep (sub.trans rfl hl) h0))


theorem execSessionIdleTimeout_keep {L r a0 s} (hl : sub [.od, .dict, .trust] L = true) (h : Keep L r s) :
    Ends L r (execSessionIdleTimeout a0 s) := by
  delta execSessionIdleTimeout
  exact Keep.rnext (State.served_keep (sub.trans rfl hl) h (fun _ h0 => State.endSession_keep (sub.trans rfl hl) h0))


theorem State.publishKeys_keep {L r s} (hl : sub [.od] L = true) (h : Keep L r s) :
    Keep L r (State.publishKeys s) := by
  delta State.publishKeys
  exact Keep.foldl (fun _ _ h0 => (by
 extract_lets -merge -useContext x1 x2 x3 x4
 exact Keep.site h0 (State.putBytes_keep (sub.trans rfl hl) h0))) h


theorem State.moveStreams_keep {L r s a1} (hl : sub [.od, .dict, .line, .trust] L = true) (h : Keep L r s) :
    Keep L r (State.moveStreams s a1) := by
  delta State.moveStreams
  extract_lets -merge -useContext x0 x1 x2 x3 x4
  have h5 : Keep L r x4 := Keep.upd_free_trust (sub.trans rfl hl) h (by first | exact Nat.le_succ _ | exact Nat.le_add_right _ _)
  exact State.publishKeys_keep (sub.trans rfl hl) (Keep.foldl (fun _ _ h6 => Keep.site (State.sendFree_keep (sub.trans rfl hl) (State.emit_keep (sub.trans rfl hl) h6)) h6) h5)


theorem State.keyAck_keep {L r s a1 a2 a3 a4} (hl : sub [.od, .dict, .line, .trust] L = true) (h : Keep L r s) :
    Keep L r (State.keyAck s a1 a2 a3 a4) := by
  delta State.keyAck
  extract_lets -merge -useContext x0 x1 x2
  have h3 : Keep L r x2 := Keep.upd_trust (sub.trans rfl hl) h
  exact State.moveStreams_keep (sub.trans rfl hl) h3


theorem execStreamKeyAck_keep {L r a0 a1 a2 a3 s} (hl : sub [.od, .dict, .line, .trust] L = true) (h : Keep L r s) :
    Ends L r (execStreamKeyAck a0 a1 a2 a3 s) := by
  delta execStreamKeyAck
  exact Keep.rnext (State.served_keep (sub.trans rfl hl) h (fun _ h0 => Keep.site (State.keyAck_keep (sub.trans rfl hl) h0) h0))


theorem State.keyDelivery_keep {L r s a1 a2 a3 a4} (hl : sub [.od, .dict, .line, .trust] L = true) (h : Keep L r s) :
    Keep L r (State.keyDelivery s a1 a2 a3 a4) := by
  delta State.keyDelivery
  extract_lets -merge -useContext x0 x1 x2 x4 x5
  have h3 : Keep L r x2 := State.tookFree_keep (sub.trans rfl hl) h
  have h6 : Keep L r x5 := Keep.upd_trust (sub.trans rfl hl) h3
  exact Keep.site (State.publishKeys_keep (sub.trans rfl hl) (State.sendFree_keep (sub.trans rfl hl) (State.emit_keep (sub.trans rfl hl) h6))) h


theorem execStreamKeyDelivery_keep {L r a0 a1 a2 a3 s} (hl : sub [.od, .dict, .line, .trust] L = true) (h : Keep L r s) :
    Ends L r (execStreamKeyDelivery a0 a1 a2 a3 s) := by
  delta execStreamKeyDelivery
  exact Keep.rnext (State.served_keep (sub.trans rfl hl) h (fun _ h0 => State.keyDelivery_keep (sub.trans rfl hl) h0))


theorem State.endNodes_keep {L r s a1} (hl : sub [.trust] L = true) (h : Keep L r s) :
    Keep L r (State.endNodes s a1) := by
  delta State.endNodes
  extract_lets -merge -useContext x0
  exact Keep.upd_trust (sub.trans rfl hl) h


theorem State.rekeySwitch_keep {L r s a1} (hl : sub [.od, .trust] L = true) (h : Keep L r s) :
    Keep L r (State.rekeySwitch s a1) := by
  delta State.rekeySwitch
  extract_lets -merge -useContext x0 x1
  exact Keep.site (State.setAu_keep (sub.trans rfl hl) (State.bump_keep (sub.trans rfl hl) (State.put_keep (sub.trans rfl hl) (State.put_keep (sub.trans rfl hl) (State.put_keep (sub.trans rfl hl) (State.put_keep (sub.trans rfl hl) h)))))) (Keep.site (State.setAu_keep (sub.trans rfl hl) h) h)


theorem State.atMailbox_keep {L r s a1} (hl : sub [] L = true) (h : Keep L r s) (hf2 : ∀ y0, Keep L r y0 → Keep L r (a1 y0)) :
    Ends L r (State.atMailbox s a1) := by
  delta State.atMailbox
  exact Keep.rnext (Keep.site (hf2 _ h) h)


theorem State.mbAbort_keep {L r s} (hl : sub [.host] L = true) (h : Keep L r s) :
    Keep L r (State.mbAbort s) := by
  delta State.mbAbort
  extract_lets -merge -useContext x0
  exact Keep.upd_host (sub.trans rfl hl) h (fun w => by first | exact w | rfl | exact memWriteAll_wf w _ _)


theorem execAbort_keep {L r s} (hl : sub [.host] L = true) (h : Keep L r s) :
    Ends L r (execAbort s) := by
  delta execAbort
  exact State.atMailbox_keep (sub.trans rfl hl) h (fun _ h0 => State.mbAbort_keep (sub.trans rfl hl) h0)


theorem State.atHost_keep {L r s a1} (hl : sub [] L = true) (h : Keep L r s) (hf2 : ∀ y0, Keep L r y0 → Keep L r (a1 y0)) :
    Ends L r (State.atHost s a1) := by
  delta State.atHost
  exact Keep.rnext (Keep.site (hf2 _ h) h)


theorem State.egTake_keep {L r s a1} (hl : sub [.od, .gate, .acts] L = true) (h : Keep L r s) :
    Keep L r (State.egTake s a1).1 := by
  delta State.egTake
  extract_lets -merge -useContext x0 x1 x2
  exact Keep.pite (Keep.pair h) (Keep.pair (State.setGate_keep (sub.trans rfl hl) (State.bump_keep (sub.trans rfl hl) h)))


theorem State.hostAnswer_keep {L r s a1} (hl : sub [] L = true) (h : Keep L r s) :
    Keep L r (State.hostAnswer s a1) := by
  delta State.hostAnswer
  exact State.emit_keep (sub.trans rfl hl) h


theorem State.egClaim_keep {L r s a1} (hl : sub [.od, .gate, .acts] L = true) (h : Keep L r s) :
    Keep L r (State.egClaim s a1) := by
  delta State.egClaim
  extract_lets -merge -useContext x0
  have h1 : Keep L r x0.1 := State.egTake_keep (sub.trans rfl hl) h
  exact State.hostAnswer_keep (sub.trans rfl hl) h1


theorem execEgClaim_keep {L r a0 s} (hl : sub [.od, .gate, .acts] L = true) (h : Keep L r s) :
    Ends L r (execEgClaim a0 s) := by
  delta execEgClaim
  exact State.atHost_keep (sub.trans rfl hl) h (fun _ h0 => State.egClaim_keep (sub.trans rfl hl) h0)


theorem State.lockLevel_keep {L r s} (hl : sub [.gate, .acts] L = true) (h : Keep L r s) :
    Keep L r (State.lockLevel s) := by
  delta State.lockLevel
  extract_lets -merge -useContext x0 x1
  exact Keep.site (State.setGate_keep (sub.trans rfl hl) h) (Keep.site h (State.setGate_keep (sub.trans rfl hl) h))


theorem State.egDone_keep {L r s a1 a2} (hl : sub [.od, .gate, .acts] L = true) (h : Keep L r s) :
    Keep L r (State.egDone s a1 a2) := by
  delta State.egDone
  extract_lets -merge -useContext x0 x1 x2 x3
  have h4 : Keep L r x3 := State.msixOne_keep (sub.trans rfl hl) (State.setGate_keep (sub.trans rfl hl) h)
  exact Keep.site (Keep.site (State.lockLevel_keep (sub.trans rfl hl) h4) h4) (State.bump_keep (sub.trans rfl hl) h)


theorem execEgDone_keep {L r a0 a1 s} (hl : sub [.od, .gate, .acts] L = true) (h : Keep L r s) :
    Ends L r (execEgDone a0 a1 s) := by
  delta execEgDone
  exact State.atHost_keep (sub.trans rfl hl) h (fun _ h0 => State.egDone_keep (sub.trans rfl hl) h0)


theorem State.egMask_keep {L r s a1 a2 a3} (hl : sub [.gate, .acts] L = true) (h : Keep L r s) :
    Keep L r (State.egMask s a1 a2 a3) := by
  delta State.egMask
  extract_lets -merge -useContext x0
  exact State.setGate_keep (sub.trans rfl hl) h


theorem execEgMaskClr_keep {L r a0 a1 s} (hl : sub [.gate, .acts] L = true) (h : Keep L r s) :
    Ends L r (execEgMaskClr a0 a1 s) := by
  delta execEgMaskClr
  exact State.atHost_keep (sub.trans rfl hl) h (fun _ h0 => State.egMask_keep (sub.trans rfl hl) h0)


theorem execEgMaskSet_keep {L r a0 a1 s} (hl : sub [.gate, .acts] L = true) (h : Keep L r s) :
    Ends L r (execEgMaskSet a0 a1 s) := by
  delta execEgMaskSet
  exact State.atHost_keep (sub.trans rfl hl) h (fun _ h0 => State.egMask_keep (sub.trans rfl hl) h0)


theorem State.egOvr_keep {L r s a1 a2 a3} (hl : sub [.gate, .acts] L = true) (h : Keep L r s) :
    Keep L r (State.egOvr s a1 a2 a3) := by
  delta State.egOvr
  extract_lets -merge -useContext x0
  exact State.setGate_keep (sub.trans rfl hl) h


theorem execEgOvrClr_keep {L r a0 a1 s} (hl : sub [.gate, .acts] L = true) (h : Keep L r s) :
    Ends L r (execEgOvrClr a0 a1 s) := by
  delta execEgOvrClr
  exact State.atHost_keep (sub.trans rfl hl) h (fun _ h0 => State.egOvr_keep (sub.trans rfl hl) h0)


theorem execEgOvrSet_keep {L r a0 a1 s} (hl : sub [.gate, .acts] L = true) (h : Keep L r s) :
    Ends L r (execEgOvrSet a0 a1 s) := by
  delta execEgOvrSet
  exact State.atHost_keep (sub.trans rfl hl) h (fun _ h0 => State.egOvr_keep (sub.trans rfl hl) h0)


theorem State.egPendClr_keep {L r s a1 a2} (hl : sub [.gate, .acts] L = true) (h : Keep L r s) :
    Keep L r (State.egPendClr s a1 a2) := by
  delta State.egPendClr
  extract_lets -merge -useContext x0
  exact State.lockLevel_keep (sub.trans rfl hl) (State.setGate_keep (sub.trans rfl hl) h)


theorem execEgPendClr_keep {L r a0 a1 s} (hl : sub [.gate, .acts] L = true) (h : Keep L r s) :
    Ends L r (execEgPendClr a0 a1 s) := by
  delta execEgPendClr
  exact State.atHost_keep (sub.trans rfl hl) h (fun _ h0 => State.egPendClr_keep (sub.trans rfl hl) h0)


theorem State.egPendSet_keep {L r s a1 a2} (hl : sub [.od, .gate, .acts] L = true) (h : Keep L r s) :
    Keep L r (State.egPendSet s a1 a2) := by
  delta State.egPendSet
  extract_lets -merge -useContext x0 x1 x2 x4
  have h3 : Keep L r x2 := Keep.foldl (fun _ _ h5 => Keep.site (State.bump_keep (sub.trans rfl hl) h5) h5) h
  exact State.setGate_keep (sub.trans rfl hl) h3


theorem execEgPendSet_keep {L r a0 a1 s} (hl : sub [.od, .gate, .acts] L = true) (h : Keep L r s) :
    Ends L r (execEgPendSet a0 a1 s) := by
  delta execEgPendSet
  exact State.atHost_keep (sub.trans rfl hl) h (fun _ h0 => State.egPendSet_keep (sub.trans rfl hl) h0)


theorem State.egControl_keep {L r s a1 a2} (hl : sub [.gate, .acts] L = true) (h : Keep L r s) :
    Keep L r (State.egControl s a1 a2) := by
  delta State.egControl
  extract_lets -merge -useContext x0
  exact State.setGate_keep (sub.trans rfl hl) h


theorem execEgTctrl_keep {L r a0 a1 s} (hl : sub [.gate, .acts] L = true) (h : Keep L r s) :
    Ends L r (execEgTctrl a0 a1 s) := by
  delta execEgTctrl
  exact State.atHost_keep (sub.trans rfl hl) h (fun _ h0 => State.egControl_keep (sub.trans rfl hl) h0)


theorem State.flr_keep {L r s} (hl : sub [.od, .dict, .host, .gate, .trust] L = true) (h : Keep L r s) :
    Keep L r (State.flr s) := by
  delta State.flr
  extract_lets -merge -useContext x0 x2 x3
  have h1 : Keep L r x0 := State.endPath_keep (sub.trans rfl hl) (State.mbAbort_keep (sub.trans rfl hl) h)
  exact Keep.site h (Keep.upd_host_gate (sub.trans rfl hl) h1 (fun w => by first | exact w | rfl | exact memWriteAll_wf w _ _))


theorem execFunctionLevelReset_keep {L r s} (hl : sub [.od, .dict, .host, .gate, .trust] L = true) (h : Keep L r s) :
    Ends L r (execFunctionLevelReset s) := by
  delta execFunctionLevelReset
  exact Keep.rnext (State.flr_keep (sub.trans rfl hl) h)


theorem execHpErrClear_keep {L r a0 s} (hl : sub [.host] L = true) (h : Keep L r s) :
    Ends L r (execHpErrClear a0 s) := by
  delta execHpErrClear
  extract_lets -merge -useContext x0
  exact Keep.rnext (Keep.site (Keep.upd_host (sub.trans rfl hl) h (fun w => by first | exact w | rfl | exact memWriteAll_wf w _ _)) h)


theorem State.mbRack_keep {L r s a1} (hl : sub [.od, .host, .gate, .log, .acts] L = true) (h : Keep L r s) :
    Keep L r (State.mbRack s a1) := by
  delta State.mbRack
  extract_lets -merge -useContext x0 x1 x2 x4
  have h3 : Keep L r x2 := Keep.upd_host (sub.trans rfl hl) h (fun w => by first | exact w | rfl | exact memWriteAll_wf w _ _)
  exact Keep.site (Keep.site (State.mbDeliver_keep (sub.trans rfl hl) h3) (Keep.upd_host (sub.trans rfl hl) h3 (fun w => by first | exact w | rfl | exact memWriteAll_wf w _ _))) h


theorem execHpMbRack_keep {L r a0 s} (hl : sub [.od, .host, .gate, .log, .acts] L = true) (h : Keep L r s) :
    Ends L r (execHpMbRack a0 s) := by
  delta execHpMbRack
  exact State.atMailbox_keep (sub.trans rfl hl) h (fun _ h0 => State.mbRack_keep (sub.trans rfl hl) h0)


theorem State.mbRefuse_keep {L r s a1} (hl : sub [.od, .host, .gate, .log, .acts] L = true) (h : Keep L r s) :
    Keep L r (State.mbRefuse s a1) := by
  delta State.mbRefuse
  extract_lets -merge -useContext x0 x2
  have h1 : Keep L r x0 := State.bump_keep (sub.trans rfl hl) h
  exact State.raise_keep (sub.trans rfl hl) (Keep.upd_host (sub.trans rfl hl) h1 (fun w => by first | exact w | rfl | exact memWriteAll_wf w _ _))


theorem State.mbIdle_keep {L r s} (hl : sub [.od, .host, .gate, .log, .acts] L = true) (h : Keep L r s) :
    Keep L r (State.mbIdle s) := by
  delta State.mbIdle
  exact Keep.site (State.mbRefuse_keep (sub.trans rfl hl) (State.mbAbort_keep (sub.trans rfl hl) h)) (Keep.site (State.mbRefuse_keep (sub.trans rfl hl) (State.mbAbort_keep (sub.trans rfl hl) h)) h)


theorem execMailboxIdleTimeout_keep {L r s} (hl : sub [.od, .host, .gate, .log, .acts] L = true) (h : Keep L r s) :
    Ends L r (execMailboxIdleTimeout s) := by
  delta execMailboxIdleTimeout
  exact State.atMailbox_keep (sub.trans rfl hl) h (fun _ h0 => State.mbIdle_keep (sub.trans rfl hl) h0)


theorem State.msixUnmask_keep {L r s a1} (hl : sub [.gate] L = true) (h : Keep L r s) :
    Keep L r (State.msixUnmask s a1) := by
  delta State.msixUnmask
  extract_lets -merge -useContext x0 x1 x2 x3
  have h4 : Keep L r x3 := Keep.upd_gate (sub.trans rfl hl) h
  exact State.msixOne_keep (sub.trans rfl hl) h4


theorem execMsixVectorUnmask_keep {L r a0 s} (hl : sub [.gate] L = true) (h : Keep L r s) :
    Ends L r (execMsixVectorUnmask a0 s) := by
  delta execMsixVectorUnmask
  exact State.atHost_keep (sub.trans rfl hl) h (fun _ h0 => State.msixUnmask_keep (sub.trans rfl hl) h0)


theorem State.pcieLink_keep {L r s a1 a2} (hl : sub [.od, .power, .host, .gate, .log, .acts] L = true) (h : Keep L r s) :
    Keep L r (State.pcieLink s a1 a2) := by
  delta State.pcieLink
  extract_lets -merge -useContext x0 x1 x2 x4
  have h3 : Keep L r x2 := Keep.upd_host (sub.trans rfl hl) h (fun w => by first | exact w | rfl | exact memWriteAll_wf w _ _)
  exact Keep.site (Keep.site h3 (Keep.site (State.raise_keep (sub.trans rfl hl) h3) (Keep.upd_power (sub.trans rfl hl) h3))) h


theorem execPcieLinkChange_keep {L r a0 a1 s} (hl : sub [.od, .power, .host, .gate, .log, .acts] L = true) (h : Keep L r s) :
    Ends L r (execPcieLinkChange a0 a1 s) := by
  delta execPcieLinkChange
  exact Keep.rnext (State.pcieLink_keep (sub.trans rfl hl) h)


theorem State.egRoute_keep {L r s a1 a2} (hl : sub [.gate, .acts] L = true) (h : Keep L r s) :
    Keep L r (State.egRoute s a1 a2) := by
  delta State.egRoute
  exact State.setGate_keep (sub.trans rfl hl) h


theorem State.bar0Write_keep {L r s a1 a2} (hl : sub [.host, .gate, .acts] L = true) (h : Keep L r s) :
    Keep L r (State.bar0Write s a1 a2) := by
  delta State.bar0Write
  extract_lets -merge -useContext x0 x1 x2 x3
  exact Keep.site (Keep.upd_host (sub.trans rfl hl) h (fun w => by first | exact w | rfl | exact memWriteAll_wf w _ _)) (Keep.site (Keep.upd_host (sub.trans rfl hl) h (fun w => by first | exact w | rfl | exact memWriteAll_wf w _ _)) (Keep.site (Keep.upd_host (sub.trans rfl hl) h (fun w => by first | exact w | rfl | exact memWriteAll_wf w _ _)) (Keep.site (Keep.site h (Keep.upd_host (sub.trans rfl hl) h (fun w => by first | exact w | rfl | exact memWriteAll_wf w _ _))) (Keep.site (State.egRoute_keep (sub.trans rfl hl) h) h))))


theorem State.gateApply_keep {L r s a1} (hl : sub [.gate, .acts] L = true) (h : Keep L r s) :
    Keep L r (State.gateApply s a1) := by
  delta State.gateApply
  exact State.setGate_keep (sub.trans rfl hl) h


theorem State.gateRead_keep {L r s a1} (hl : sub [.od, .gate, .acts] L = true) (h : Keep L r s) :
    Keep L r (State.gateRead s a1).1 := by
  delta State.gateRead
  extract_lets -merge -useContext x0 x1 x2 x3 x4
  exact Keep.pite (Keep.pair h) (Keep.pite (Keep.pair h) (Keep.pite (Keep.pair h) (Keep.pite (Keep.pair h) (Keep.pite (Keep.pair h) (Keep.pite (Keep.pite (State.egTake_keep (sub.trans rfl hl) h) (Keep.pite (Keep.pair h) (Keep.pite (Keep.pair h) (Keep.pair h)))) (Keep.pite (Keep.pair h) (Keep.pite (Keep.pair h) (Keep.pite (Keep.pair h) (Keep.pite (Keep.pair h) (Keep.pite (Keep.pair h) (Keep.pair h)))))))))))


theorem State.gateReady_keep {L r s} (hl : sub [.gate, .acts] L = true) (h : Keep L r s) :
    Keep L r (State.gateReady s) := by
  delta State.gateReady
  extract_lets -merge -useContext x0 x1
  exact State.setGate_keep (sub.trans rfl hl) h


theorem State.hostIgnored_keep {L r s} (hl : sub [.od, .host] L = true) (h : Keep L r s) :
    Keep L r (State.hostIgnored s) := by
  delta State.hostIgnored
  extract_lets -merge -useContext x0 x2
  have h1 : Keep L r x0 := State.bump_keep (sub.trans rfl hl) h
  exact Keep.upd_host (sub.trans rfl hl) h1 (fun w => by first | exact w | rfl | exact memWriteAll_wf w _ _)


theorem State.mbChunk_keep {L r s a1} (hl : sub [.od, .host, .gate, .log, .acts] L = true) (h : Keep L r s) :
    Keep L r (State.mbChunk s a1).1 := by
  delta State.mbChunk
  extract_lets -merge -useContext x0 x1 x2 x3 x4 x5 x6 x8 x10
  have h7 : Keep L r x6 := Keep.upd_host (sub.trans rfl hl) h (fun w => by first | exact w | rfl | exact memWriteAll_wf w _ _)
  have h9 : Keep L r x8 := State.raise_keep (sub.trans rfl hl) h7
  exact Keep.pite (Keep.pair (State.mbRefuse_keep (sub.trans rfl hl) h)) (Keep.pite (Keep.pair (State.mbRefuse_keep (sub.trans rfl hl) (State.mbAbort_keep (sub.trans rfl hl) h))) (Keep.pite (Keep.pair (State.mbRefuse_keep (sub.trans rfl hl) (State.mbAbort_keep (sub.trans rfl hl) h))) (Keep.pite (Keep.pair (Keep.upd_host (sub.trans rfl hl) h9 (fun w => by first | exact w | rfl | exact memWriteAll_wf w _ _))) (Keep.pair h9))))


theorem State.logChanged_keep {L r s} (hl : sub [.od] L = true) (h : Keep L r s) :
    Keep L r (State.logChanged s) := by
  delta State.logChanged
  exact State.put_keep (sub.trans rfl hl) h


theorem State.writeRecord_keep {L r s a1} (hl : sub [.od, .log, .acts] L = true) (h : Keep L r s) :
    Keep L r (State.writeRecord s a1) := by
  delta State.writeRecord
  extract_lets -merge -useContext x0 x2 x4 x6
  have h1 : Keep L r x0 := State.act_keep (sub.trans rfl hl) h
  have h3 : Keep L r x2 := State.logChanged_keep (sub.trans rfl hl) (State.bump_keep (sub.trans rfl hl) h1)
  have h5 : Keep L r x4 := State.logChanged_keep (sub.trans rfl hl) (State.bump_keep (sub.trans rfl hl) h1)
  have h7 : Keep L r x6 := State.logChanged_keep (sub.trans rfl hl) (State.bump_keep (sub.trans rfl hl) h1)
  exact (by
   split
   · exact Keep.site (Keep.upd_log (sub.trans rfl hl) h3) (Keep.upd_log (sub.trans rfl hl) h5)
   · exact Keep.upd_log (sub.trans rfl hl) h7)


theorem State.clearApply_keep {L r s a1} (hl : sub [.od, .mram, .log, .acts] L = true) (h : Keep L r s) :
    Keep L r (State.clearApply s a1) := by
  delta State.clearApply
  extract_lets -merge -useContext x0 x1 x3 x4 x6 x8
  have h2 : Keep L r x1 := Keep.foldl (fun _ _ h12 => State.put_keep (sub.trans rfl hl) h12) h
  have h5 : Keep L r x4 := Keep.upd_log (sub.trans rfl hl) h2
  have h7 : Keep L r x6 := Keep.foldl (fun _ _ h10 => (by
   extract_lets -merge -useContext x11
   exact State.put_keep (sub.trans rfl hl) (State.put_keep (sub.trans rfl hl) (State.put_keep (sub.trans rfl hl) (State.put_keep (sub.trans rfl hl) (State.put_keep (sub.trans rfl hl) (State.put_keep (sub.trans rfl hl) (State.putBytes_keep (sub.trans rfl hl) h10)))))))) h5
  have h9 : Keep L r x8 := State.writeRecord_keep (sub.trans rfl hl) h7
  exact State.storeStored_keep (sub.trans rfl hl) h9


theorem State.clearToken_keep {L r s a1} (hl : sub [.od, .mram, .gate, .log, .acts] L = true) (h : Keep L r s) :
    Keep L r (State.clearToken s a1).1 := by
  delta State.clearToken
  extract_lets -merge -useContext x0 x1 x3 x4 x5
  have h2 : Keep L r x1 := State.report_keep (sub.trans rfl hl) (State.put_keep (sub.trans rfl hl) h)
  have h6 : Keep L r x5 := Keep.upd_log (sub.trans rfl hl) h
  exact Keep.pite (Keep.pair h) (Keep.pite (Keep.pair h2) (Keep.pair (State.clearApply_keep (sub.trans rfl hl) (State.logChanged_keep (sub.trans rfl hl) (State.put_keep (sub.trans rfl hl) (State.put_keep (sub.trans rfl hl) h6))))))


theorem execClearToken_keep {L r a0 a1 s} (hl : sub [.od, .mram, .host, .gate, .log, .acts] L = true) (h : Keep L r s) :
    Ends L r (execClearToken a0 a1 s) := by
  delta execClearToken
  exact Keep.rnext (State.served_keep (sub.trans rfl hl) h (fun _ h0 => State.respond_keep (sub.trans rfl hl) (State.clearToken_keep (sub.trans rfl hl) h0)))


theorem State.collectEnd_keep {L r s a1 a2} (hl : sub [.od, .gate, .log, .acts] L = true) (h : Keep L r s) :
    Keep L r (State.collectEnd s a1 a2) := by
  delta State.collectEnd
  extract_lets -merge -useContext x0 x1 x3 x5
  have h2 : Keep L r x1 := Keep.site (State.opProgress_keep (sub.trans rfl hl) (State.putBytes_keep (sub.trans rfl hl) h)) h
  have h4 : Keep L r x3 := State.opEnd_keep (sub.trans rfl hl) h2
  exact Keep.upd_log (sub.trans rfl hl) h4


theorem execCollectionTimeout_keep {L r s} (hl : sub [.od, .gate, .log, .acts] L = true) (h : Keep L r s) :
    Ends L r (execCollectionTimeout s) := by
  delta execCollectionTimeout
  exact Keep.rnext (State.served_keep (sub.trans rfl hl) h (fun _ h0 => Keep.site (State.collectEnd_keep (sub.trans rfl hl) h0) h0))


theorem State.histSample_keep {L r s a1 a2} (hl : sub [.od, .log] L = true) (h : Keep L r s) :
    Keep L r (State.histSample s a1 a2) := by
  delta State.histSample
  extract_lets -merge -useContext x0 x1 x2 x4 x5
  have h3 : Keep L r x2 := Keep.upd_log (sub.trans rfl hl) h
  have h6 : Keep L r x5 := Keep.site (State.logChanged_keep (sub.trans rfl hl) (State.put_keep (sub.trans rfl hl) (State.put_keep (sub.trans rfl hl) (State.put_keep (sub.trans rfl hl) h3)))) h3
  exact Keep.site (State.logChanged_keep (sub.trans rfl hl) (State.put_keep (sub.trans rfl hl) (State.put_keep (sub.trans rfl hl) (State.put_keep (sub.trans rfl hl) h6)))) h6


theorem execHistogramSample_keep {L r a0 a1 s} (hl : sub [.od, .log] L = true) (h : Keep L r s) :
    Ends L r (execHistogramSample a0 a1 s) := by
  delta execHistogramSample
  exact Keep.rnext (State.served_keep (sub.trans rfl hl) h (fun _ h0 => Keep.site h0 (State.histSample_keep (sub.trans rfl hl) h0)))


theorem State.histStore_keep {L r s} (hl : sub [.od, .mram, .log] L = true) (h : Keep L r s) :
    Keep L r (State.histStore s) := by
  delta State.histStore
  extract_lets -merge -useContext x0 x2
  have h1 : Keep L r x0 := Keep.foldl (fun _ _ h3 => (by
   extract_lets -merge -useContext x4
   exact State.putBytes_keep (sub.trans rfl hl) h3)) h
  exact Keep.site h (State.storeStored_keep (sub.trans rfl hl) (State.logChanged_keep (sub.trans rfl hl) (Keep.upd_log (sub.trans rfl hl) h1)))


theorem execHistogramStore_keep {L r s} (hl : sub [.od, .mram, .log] L = true) (h : Keep L r s) :
    Ends L r (execHistogramStore s) := by
  delta execHistogramStore
  exact Keep.rnext (State.served_keep (sub.trans rfl hl) h (fun _ h0 => State.histStore_keep (sub.trans rfl hl) h0))


theorem execLogCollectCancel_keep {L r a0 a1 s} (hl : sub [.log] L = true) (h : Keep L r s) :
    Ends L r (execLogCollectCancel a0 a1 s) := by
  delta execLogCollectCancel
  exact Keep.rnext (State.served_keep (sub.trans rfl hl) h (fun _ h0 => (by
 extract_lets -merge -useContext x1
 exact Keep.upd_log (sub.trans rfl hl) h0)))


theorem State.collectData_keep {L r s a1 a2 a3} (hl : sub [.od, .log] L = true) (h : Keep L r s) :
    Keep L r (State.collectData s a1 a2 a3) := by
  delta State.collectData
  extract_lets -merge -useContext x0 x1 x2 x4 x6
  have h3 : Keep L r x2 := Keep.upd_log (sub.trans rfl hl) h
  have h5 : Keep L r x4 := Keep.site (State.put_keep (sub.trans rfl hl) h3) h3
  exact Keep.site (State.opProgress_keep (sub.trans rfl hl) h5) h


theorem execLogCollectData_keep {L r a0 a1 a2 s} (hl : sub [.od, .log] L = true) (h : Keep L r s) :
    Ends L r (execLogCollectData a0 a1 a2 s) := by
  delta execLogCollectData
  exact Keep.rnext (State.served_keep (sub.trans rfl hl) h (fun _ h0 => State.collectData_keep (sub.trans rfl hl) h0))


theorem execLogCollectEnd_keep {L r a0 s} (hl : sub [.od, .gate, .log, .acts] L = true) (h : Keep L r s) :
    Ends L r (execLogCollectEnd a0 s) := by
  delta execLogCollectEnd
  exact Keep.rnext (State.served_keep (sub.trans rfl hl) h (fun _ h0 => Keep.site (State.collectEnd_keep (sub.trans rfl hl) h0) h0))


theorem execLogCollectRefused_keep {L r a0 a1 s} (hl : sub [.od, .gate, .log, .acts] L = true) (h : Keep L r s) :
    Ends L r (execLogCollectRefused a0 a1 s) := by
  delta execLogCollectRefused
  exact Keep.rnext (State.served_keep (sub.trans rfl hl) h (fun _ h0 => Keep.site (State.collectEnd_keep (sub.trans rfl hl) h0) h0))


theorem State.collectRequest_keep {L r s a1 a2 a3 a4} (hl : sub [.od, .line, .log, .trust] L = true) (h : Keep L r s) :
    Keep L r (State.collectRequest s a1 a2 a3 a4) := by
  delta State.collectRequest
  extract_lets -merge -useContext x0 x1 x3
  have h2 : Keep L r x1 := State.bump_keep (sub.trans rfl hl) h
  exact Keep.site (Keep.site h (Keep.site (State.sendCollect_keep (sub.trans rfl hl) (State.bump_keep (sub.trans rfl hl) h)) (Keep.upd_log (sub.trans rfl hl) h2))) h


theorem State.collectArrives_keep {L r s a1 a2 a3 a4 a5} (hl : sub [.od, .line, .log, .trust] L = true) (h : Keep L r s) :
    Keep L r (State.collectArrives s a1 a2 a3 a4 a5) := by
  delta State.collectArrives
  exact Keep.site (State.collectRequest_keep (sub.trans rfl hl) h) (Keep.site (State.toPartner_keep (sub.trans rfl hl) h) h)


theorem execLogCollectRequest_keep {L r a0 a1 a2 a3 s} (hl : sub [.od, .line, .log, .trust] L = true) (h : Keep L r s) :
    Ends L r (execLogCollectRequest a0 a1 a2 a3 s) := by
  delta execLogCollectRequest
  exact Keep.rnext (State.served_keep (sub.trans rfl hl) h (fun _ h0 => State.collectArrives_keep (sub.trans rfl hl) h0))


theorem State.reportWrite_keep {L r s} (hl : sub [.od, .log, .acts] L = true) (h : Keep L r s) :
    Keep L r (State.reportWrite s) := by
  delta State.reportWrite
  extract_lets -merge -useContext x0
  exact Keep.site h ((by
   split
   · exact h
   · exact State.writeRecord_keep (sub.trans rfl hl) (Keep.upd_log (sub.trans rfl hl) h)))


theorem execReportWrite_keep {L r s} (hl : sub [.od, .log, .acts] L = true) (h : Keep L r s) :
    Ends L r (execReportWrite s) := by
  delta execReportWrite
  exact Keep.rnext (State.served_keep (sub.trans rfl hl) h (fun _ h0 => State.reportWrite_keep (sub.trans rfl hl) h0))


theorem State.startCollection_keep {L r s} (hl : sub [.od, .line, .log, .trust] L = true) (h : Keep L r s) :
    Keep L r (State.startCollection s).1 := by
  delta State.startCollection
  extract_lets -merge -useContext x0 x1 x3 x4
  have h2 : Keep L r x1 := State.opStart_keep (sub.trans rfl hl) h
  have h5 : Keep L r x4 := Keep.upd_log (sub.trans rfl hl) h2
  exact Keep.pite (Keep.pair h) (Keep.pair (State.sendCollect_keep (sub.trans rfl hl) h5))


theorem execStartCollection_keep {L r a0 a1 s} (hl : sub [.od, .line, .host, .gate, .log, .trust, .pair, .acts] L = true) (h : Keep L r s) :
    Ends L r (execStartCollection a0 a1 s) := by
  delta execStartCollection
  exact Keep.rnext (State.served_keep (sub.trans rfl hl) h (fun _ h0 => State.accessAct_keep (sub.trans rfl hl) h0 (fun _ h1 => State.startCollection_keep (sub.trans rfl hl) h1)))


theorem State.collectServe_keep {L r s} (hl : sub [.od, .line, .log, .trust] L = true) (h : Keep L r s) :
    Keep L r (State.collectServe s) := by
  delta State.collectServe
  extract_lets -merge -useContext x0 x2 x3
  have h1 : Keep L r x0 := Keep.foldl (fun _ _ h4 => Keep.site (State.sendCollect_keep (sub.trans rfl hl) h4) (State.sendCollect_keep (sub.trans rfl hl) h4)) h
  exact Keep.upd_log (sub.trans rfl hl) h1


end Sys2Proof.Machine
end

