-- ==== Sys2Proof/Laws/Parts.lean ====
section
/-!
SUPPORT. The parts that the most used operations leave alone, part by part, for rewriting.
-/

namespace Sys2Proof.Machine.State

variable (s : State)

@[simp] theorem raise_dict {a1 a2 a3 a4} : (s.raise a1 a2 a3 a4).dict = s.dict :=
  (State.raise_keep (L := [.od, .gate, .log, .acts]) rfl (Keep.refl _ s)).same .dict (by decide)
@[simp] theorem raise_mram {a1 a2 a3 a4} : (s.raise a1 a2 a3 a4).mram = s.mram :=
  (State.raise_keep (L := [.od, .gate, .log, .acts]) rfl (Keep.refl _ s)).same .mram (by decide)
@[simp] theorem raise_fuses {a1 a2 a3 a4} : (s.raise a1 a2 a3 a4).fuses = s.fuses :=
  (State.raise_keep (L := [.od, .gate, .log, .acts]) rfl (Keep.refl _ s)).same .fuses (by decide)
@[simp] theorem raise_power {a1 a2 a3 a4} : (s.raise a1 a2 a3 a4).power = s.power :=
  (State.raise_keep (L := [.od, .gate, .log, .acts]) rfl (Keep.refl _ s)).same .power (by decide)
@[simp] theorem raise_clock {a1 a2 a3 a4} : (s.raise a1 a2 a3 a4).clock = s.clock :=
  (State.raise_keep (L := [.od, .gate, .log, .acts]) rfl (Keep.refl _ s)).same .clock (by decide)
@[simp] theorem raise_mu {a1 a2 a3 a4} : (s.raise a1 a2 a3 a4).mu = s.mu :=
  (State.raise_keep (L := [.od, .gate, .log, .acts]) rfl (Keep.refl _ s)).same .mu (by decide)
@[simp] theorem raise_line {a1 a2 a3 a4} : (s.raise a1 a2 a3 a4).line = s.line :=
  (State.raise_keep (L := [.od, .gate, .log, .acts]) rfl (Keep.refl _ s)).same .line (by decide)
@[simp] theorem raise_host {a1 a2 a3 a4} : (s.raise a1 a2 a3 a4).host = s.host :=
  (State.raise_keep (L := [.od, .gate, .log, .acts]) rfl (Keep.refl _ s)).same .host (by decide)
@[simp] theorem raise_trust {a1 a2 a3 a4} : (s.raise a1 a2 a3 a4).trust = s.trust :=
  (State.raise_keep (L := [.od, .gate, .log, .acts]) rfl (Keep.refl _ s)).same .trust (by decide)
@[simp] theorem raise_video {a1 a2 a3 a4} : (s.raise a1 a2 a3 a4).video = s.video :=
  (State.raise_keep (L := [.od, .gate, .log, .acts]) rfl (Keep.refl _ s)).same .video (by decide)
@[simp] theorem raise_slices {a1 a2 a3 a4} : (s.raise a1 a2 a3 a4).slices = s.slices :=
  (State.raise_keep (L := [.od, .gate, .log, .acts]) rfl (Keep.refl _ s)).same .slices (by decide)
@[simp] theorem raise_canopen {a1 a2 a3 a4} : (s.raise a1 a2 a3 a4).canopen = s.canopen :=
  (State.raise_keep (L := [.od, .gate, .log, .acts]) rfl (Keep.refl _ s)).same .canopen (by decide)
@[simp] theorem raise_wake {a1 a2 a3 a4} : (s.raise a1 a2 a3 a4).wake = s.wake :=
  (State.raise_keep (L := [.od, .gate, .log, .acts]) rfl (Keep.refl _ s)).same .wake (by decide)
@[simp] theorem raise_mooring {a1 a2 a3 a4} : (s.raise a1 a2 a3 a4).mooring = s.mooring :=
  (State.raise_keep (L := [.od, .gate, .log, .acts]) rfl (Keep.refl _ s)).same .mooring (by decide)
@[simp] theorem raise_fio {a1 a2 a3 a4} : (s.raise a1 a2 a3 a4).fio = s.fio :=
  (State.raise_keep (L := [.od, .gate, .log, .acts]) rfl (Keep.refl _ s)).same .fio (by decide)
@[simp] theorem raise_pair {a1 a2 a3 a4} : (s.raise a1 a2 a3 a4).pair = s.pair :=
  (State.raise_keep (L := [.od, .gate, .log, .acts]) rfl (Keep.refl _ s)).same .pair (by decide)
@[simp] theorem raise_lock {a1 a2 a3 a4} : (s.raise a1 a2 a3 a4).lock = s.lock :=
  (State.raise_keep (L := [.od, .gate, .log, .acts]) rfl (Keep.refl _ s)).same .lock (by decide)
@[simp] theorem raise_pairing {a1 a2 a3 a4} : (s.raise a1 a2 a3 a4).pairing = s.pairing :=
  (State.raise_keep (L := [.od, .gate, .log, .acts]) rfl (Keep.refl _ s)).same .pairing (by decide)
@[simp] theorem raise_unitA {a1 a2 a3 a4} : (s.raise a1 a2 a3 a4).unitA = s.unitA :=
  (State.raise_keep (L := [.od, .gate, .log, .acts]) rfl (Keep.refl _ s)).same .unitA (by decide)
@[simp] theorem gateEvent_dict {a1} : (s.gateEvent a1).dict = s.dict :=
  (State.gateEvent_keep (L := [.od, .gate, .acts]) rfl (Keep.refl _ s)).same .dict (by decide)
@[simp] theorem gateEvent_mram {a1} : (s.gateEvent a1).mram = s.mram :=
  (State.gateEvent_keep (L := [.od, .gate, .acts]) rfl (Keep.refl _ s)).same .mram (by decide)
@[simp] theorem gateEvent_fuses {a1} : (s.gateEvent a1).fuses = s.fuses :=
  (State.gateEvent_keep (L := [.od, .gate, .acts]) rfl (Keep.refl _ s)).same .fuses (by decide)
@[simp] theorem gateEvent_power {a1} : (s.gateEvent a1).power = s.power :=
  (State.gateEvent_keep (L := [.od, .gate, .acts]) rfl (Keep.refl _ s)).same .power (by decide)
@[simp] theorem gateEvent_clock {a1} : (s.gateEvent a1).clock = s.clock :=
  (State.gateEvent_keep (L := [.od, .gate, .acts]) rfl (Keep.refl _ s)).same .clock (by decide)
@[simp] theorem gateEvent_mu {a1} : (s.gateEvent a1).mu = s.mu :=
  (State.gateEvent_keep (L := [.od, .gate, .acts]) rfl (Keep.refl _ s)).same .mu (by decide)
@[simp] theorem gateEvent_line {a1} : (s.gateEvent a1).line = s.line :=
  (State.gateEvent_keep (L := [.od, .gate, .acts]) rfl (Keep.refl _ s)).same .line (by decide)
@[simp] theorem gateEvent_host {a1} : (s.gateEvent a1).host = s.host :=
  (State.gateEvent_keep (L := [.od, .gate, .acts]) rfl (Keep.refl _ s)).same .host (by decide)
@[simp] theorem gateEvent_log {a1} : (s.gateEvent a1).log = s.log :=
  (State.gateEvent_keep (L := [.od, .gate, .acts]) rfl (Keep.refl _ s)).same .log (by decide)
@[simp] theorem gateEvent_trust {a1} : (s.gateEvent a1).trust = s.trust :=
  (State.gateEvent_keep (L := [.od, .gate, .acts]) rfl (Keep.refl _ s)).same .trust (by decide)
@[simp] theorem gateEvent_video {a1} : (s.gateEvent a1).video = s.video :=
  (State.gateEvent_keep (L := [.od, .gate, .acts]) rfl (Keep.refl _ s)).same .video (by decide)
@[simp] theorem gateEvent_slices {a1} : (s.gateEvent a1).slices = s.slices :=
  (State.gateEvent_keep (L := [.od, .gate, .acts]) rfl (Keep.refl _ s)).same .slices (by decide)
@[simp] theorem gateEvent_canopen {a1} : (s.gateEvent a1).canopen = s.canopen :=
  (State.gateEvent_keep (L := [.od, .gate, .acts]) rfl (Keep.refl _ s)).same .canopen (by decide)
@[simp] theorem gateEvent_wake {a1} : (s.gateEvent a1).wake = s.wake :=
  (State.gateEvent_keep (L := [.od, .gate, .acts]) rfl (Keep.refl _ s)).same .wake (by decide)
@[simp] theorem gateEvent_mooring {a1} : (s.gateEvent a1).mooring = s.mooring :=
  (State.gateEvent_keep (L := [.od, .gate, .acts]) rfl (Keep.refl _ s)).same .mooring (by decide)
@[simp] theorem gateEvent_fio {a1} : (s.gateEvent a1).fio = s.fio :=
  (State.gateEvent_keep (L := [.od, .gate, .acts]) rfl (Keep.refl _ s)).same .fio (by decide)
@[simp] theorem gateEvent_pair {a1} : (s.gateEvent a1).pair = s.pair :=
  (State.gateEvent_keep (L := [.od, .gate, .acts]) rfl (Keep.refl _ s)).same .pair (by decide)
@[simp] theorem gateEvent_lock {a1} : (s.gateEvent a1).lock = s.lock :=
  (State.gateEvent_keep (L := [.od, .gate, .acts]) rfl (Keep.refl _ s)).same .lock (by decide)
@[simp] theorem gateEvent_pairing {a1} : (s.gateEvent a1).pairing = s.pairing :=
  (State.gateEvent_keep (L := [.od, .gate, .acts]) rfl (Keep.refl _ s)).same .pairing (by decide)
@[simp] theorem gateEvent_unitA {a1} : (s.gateEvent a1).unitA = s.unitA :=
  (State.gateEvent_keep (L := [.od, .gate, .acts]) rfl (Keep.refl _ s)).same .unitA (by decide)
@[simp] theorem report_dict {a1 a2 a3 a4 a5} : (s.report a1 a2 a3 a4 a5).dict = s.dict :=
  (State.report_keep (L := [.od, .gate, .log, .acts]) rfl (Keep.refl _ s)).same .dict (by decide)
@[simp] theorem report_mram {a1 a2 a3 a4 a5} : (s.report a1 a2 a3 a4 a5).mram = s.mram :=
  (State.report_keep (L := [.od, .gate, .log, .acts]) rfl (Keep.refl _ s)).same .mram (by decide)
@[simp] theorem report_fuses {a1 a2 a3 a4 a5} : (s.report a1 a2 a3 a4 a5).fuses = s.fuses :=
  (State.report_keep (L := [.od, .gate, .log, .acts]) rfl (Keep.refl _ s)).same .fuses (by decide)
@[simp] theorem report_power {a1 a2 a3 a4 a5} : (s.report a1 a2 a3 a4 a5).power = s.power :=
  (State.report_keep (L := [.od, .gate, .log, .acts]) rfl (Keep.refl _ s)).same .power (by decide)
@[simp] theorem report_clock {a1 a2 a3 a4 a5} : (s.report a1 a2 a3 a4 a5).clock = s.clock :=
  (State.report_keep (L := [.od, .gate, .log, .acts]) rfl (Keep.refl _ s)).same .clock (by decide)
@[simp] theorem report_mu {a1 a2 a3 a4 a5} : (s.report a1 a2 a3 a4 a5).mu = s.mu :=
  (State.report_keep (L := [.od, .gate, .log, .acts]) rfl (Keep.refl _ s)).same .mu (by decide)
@[simp] theorem report_line {a1 a2 a3 a4 a5} : (s.report a1 a2 a3 a4 a5).line = s.line :=
  (State.report_keep (L := [.od, .gate, .log, .acts]) rfl (Keep.refl _ s)).same .line (by decide)
@[simp] theorem report_host {a1 a2 a3 a4 a5} : (s.report a1 a2 a3 a4 a5).host = s.host :=
  (State.report_keep (L := [.od, .gate, .log, .acts]) rfl (Keep.refl _ s)).same .host (by decide)
@[simp] theorem report_trust {a1 a2 a3 a4 a5} : (s.report a1 a2 a3 a4 a5).trust = s.trust :=
  (State.report_keep (L := [.od, .gate, .log, .acts]) rfl (Keep.refl _ s)).same .trust (by decide)
@[simp] theorem report_video {a1 a2 a3 a4 a5} : (s.report a1 a2 a3 a4 a5).video = s.video :=
  (State.report_keep (L := [.od, .gate, .log, .acts]) rfl (Keep.refl _ s)).same .video (by decide)
@[simp] theorem report_slices {a1 a2 a3 a4 a5} : (s.report a1 a2 a3 a4 a5).slices = s.slices :=
  (State.report_keep (L := [.od, .gate, .log, .acts]) rfl (Keep.refl _ s)).same .slices (by decide)
@[simp] theorem report_canopen {a1 a2 a3 a4 a5} : (s.report a1 a2 a3 a4 a5).canopen = s.canopen :=
  (State.report_keep (L := [.od, .gate, .log, .acts]) rfl (Keep.refl _ s)).same .canopen (by decide)
@[simp] theorem report_wake {a1 a2 a3 a4 a5} : (s.report a1 a2 a3 a4 a5).wake = s.wake :=
  (State.report_keep (L := [.od, .gate, .log, .acts]) rfl (Keep.refl _ s)).same .wake (by decide)
@[simp] theorem report_mooring {a1 a2 a3 a4 a5} : (s.report a1 a2 a3 a4 a5).mooring = s.mooring :=
  (State.report_keep (L := [.od, .gate, .log, .acts]) rfl (Keep.refl _ s)).same .mooring (by decide)
@[simp] theorem report_fio {a1 a2 a3 a4 a5} : (s.report a1 a2 a3 a4 a5).fio = s.fio :=
  (State.report_keep (L := [.od, .gate, .log, .acts]) rfl (Keep.refl _ s)).same .fio (by decide)
@[simp] theorem report_pair {a1 a2 a3 a4 a5} : (s.report a1 a2 a3 a4 a5).pair = s.pair :=
  (State.report_keep (L := [.od, .gate, .log, .acts]) rfl (Keep.refl _ s)).same .pair (by decide)
@[simp] theorem report_lock {a1 a2 a3 a4 a5} : (s.report a1 a2 a3 a4 a5).lock = s.lock :=
  (State.report_keep (L := [.od, .gate, .log, .acts]) rfl (Keep.refl _ s)).same .lock (by decide)
@[simp] theorem report_pairing {a1 a2 a3 a4 a5} : (s.report a1 a2 a3 a4 a5).pairing = s.pairing :=
  (State.report_keep (L := [.od, .gate, .log, .acts]) rfl (Keep.refl _ s)).same .pairing (by decide)
@[simp] theorem report_unitA {a1 a2 a3 a4 a5} : (s.report a1 a2 a3 a4 a5).unitA = s.unitA :=
  (State.report_keep (L := [.od, .gate, .log, .acts]) rfl (Keep.refl _ s)).same .unitA (by decide)
@[simp] theorem trustRefuse_dict {a1} : (s.trustRefuse a1).dict = s.dict :=
  (State.trustRefuse_keep (L := [.od, .gate, .log, .acts]) rfl (Keep.refl _ s)).same .dict (by decide)
@[simp] theorem trustRefuse_mram {a1} : (s.trustRefuse a1).mram = s.mram :=
  (State.trustRefuse_keep (L := [.od, .gate, .log, .acts]) rfl (Keep.refl _ s)).same .mram (by decide)
@[simp] theorem trustRefuse_fuses {a1} : (s.trustRefuse a1).fuses = s.fuses :=
  (State.trustRefuse_keep (L := [.od, .gate, .log, .acts]) rfl (Keep.refl _ s)).same .fuses (by decide)
@[simp] theorem trustRefuse_power {a1} : (s.trustRefuse a1).power = s.power :=
  (State.trustRefuse_keep (L := [.od, .gate, .log, .acts]) rfl (Keep.refl _ s)).same .power (by decide)
@[simp] theorem trustRefuse_clock {a1} : (s.trustRefuse a1).clock = s.clock :=
  (State.trustRefuse_keep (L := [.od, .gate, .log, .acts]) rfl (Keep.refl _ s)).same .clock (by decide)
@[simp] theorem trustRefuse_mu {a1} : (s.trustRefuse a1).mu = s.mu :=
  (State.trustRefuse_keep (L := [.od, .gate, .log, .acts]) rfl (Keep.refl _ s)).same .mu (by decide)
@[simp] theorem trustRefuse_line {a1} : (s.trustRefuse a1).line = s.line :=
  (State.trustRefuse_keep (L := [.od, .gate, .log, .acts]) rfl (Keep.refl _ s)).same .line (by decide)
@[simp] theorem trustRefuse_host {a1} : (s.trustRefuse a1).host = s.host :=
  (State.trustRefuse_keep (L := [.od, .gate, .log, .acts]) rfl (Keep.refl _ s)).same .host (by decide)
@[simp] theorem trustRefuse_trust {a1} : (s.trustRefuse a1).trust = s.trust :=
  (State.trustRefuse_keep (L := [.od, .gate, .log, .acts]) rfl (Keep.refl _ s)).same .trust (by decide)
@[simp] theorem trustRefuse_video {a1} : (s.trustRefuse a1).video = s.video :=
  (State.trustRefuse_keep (L := [.od, .gate, .log, .acts]) rfl (Keep.refl _ s)).same .video (by decide)
@[simp] theorem trustRefuse_slices {a1} : (s.trustRefuse a1).slices = s.slices :=
  (State.trustRefuse_keep (L := [.od, .gate, .log, .acts]) rfl (Keep.refl _ s)).same .slices (by decide)
@[simp] theorem trustRefuse_canopen {a1} : (s.trustRefuse a1).canopen = s.canopen :=
  (State.trustRefuse_keep (L := [.od, .gate, .log, .acts]) rfl (Keep.refl _ s)).same .canopen (by decide)
@[simp] theorem trustRefuse_wake {a1} : (s.trustRefuse a1).wake = s.wake :=
  (State.trustRefuse_keep (L := [.od, .gate, .log, .acts]) rfl (Keep.refl _ s)).same .wake (by decide)
@[simp] theorem trustRefuse_mooring {a1} : (s.trustRefuse a1).mooring = s.mooring :=
  (State.trustRefuse_keep (L := [.od, .gate, .log, .acts]) rfl (Keep.refl _ s)).same .mooring (by decide)
@[simp] theorem trustRefuse_fio {a1} : (s.trustRefuse a1).fio = s.fio :=
  (State.trustRefuse_keep (L := [.od, .gate, .log, .acts]) rfl (Keep.refl _ s)).same .fio (by decide)
@[simp] theorem trustRefuse_pair {a1} : (s.trustRefuse a1).pair = s.pair :=
  (State.trustRefuse_keep (L := [.od, .gate, .log, .acts]) rfl (Keep.refl _ s)).same .pair (by decide)
@[simp] theorem trustRefuse_lock {a1} : (s.trustRefuse a1).lock = s.lock :=
  (State.trustRefuse_keep (L := [.od, .gate, .log, .acts]) rfl (Keep.refl _ s)).same .lock (by decide)
@[simp] theorem trustRefuse_pairing {a1} : (s.trustRefuse a1).pairing = s.pairing :=
  (State.trustRefuse_keep (L := [.od, .gate, .log, .acts]) rfl (Keep.refl _ s)).same .pairing (by decide)
@[simp] theorem trustRefuse_unitA {a1} : (s.trustRefuse a1).unitA = s.unitA :=
  (State.trustRefuse_keep (L := [.od, .gate, .log, .acts]) rfl (Keep.refl _ s)).same .unitA (by decide)
@[simp] theorem emcyScan_dict : (s.emcyScan).dict = s.dict :=
  (State.emcyScan_keep (L := [.od, .canopen, .acts]) rfl (Keep.refl _ s)).same .dict (by decide)
@[simp] theorem emcyScan_mram : (s.emcyScan).mram = s.mram :=
  (State.emcyScan_keep (L := [.od, .canopen, .acts]) rfl (Keep.refl _ s)).same .mram (by decide)
@[simp] theorem emcyScan_fuses : (s.emcyScan).fuses = s.fuses :=
  (State.emcyScan_keep (L := [.od, .canopen, .acts]) rfl (Keep.refl _ s)).same .fuses (by decide)
@[simp] theorem emcyScan_power : (s.emcyScan).power = s.power :=
  (State.emcyScan_keep (L := [.od, .canopen, .acts]) rfl (Keep.refl _ s)).same .power (by decide)
@[simp] theorem emcyScan_clock : (s.emcyScan).clock = s.clock :=
  (State.emcyScan_keep (L := [.od, .canopen, .acts]) rfl (Keep.refl _ s)).same .clock (by decide)
@[simp] theorem emcyScan_mu : (s.emcyScan).mu = s.mu :=
  (State.emcyScan_keep (L := [.od, .canopen, .acts]) rfl (Keep.refl _ s)).same .mu (by decide)
@[simp] theorem emcyScan_line : (s.emcyScan).line = s.line :=
  (State.emcyScan_keep (L := [.od, .canopen, .acts]) rfl (Keep.refl _ s)).same .line (by decide)
@[simp] theorem emcyScan_host : (s.emcyScan).host = s.host :=
  (State.emcyScan_keep (L := [.od, .canopen, .acts]) rfl (Keep.refl _ s)).same .host (by decide)
@[simp] theorem emcyScan_gate : (s.emcyScan).gate = s.gate :=
  (State.emcyScan_keep (L := [.od, .canopen, .acts]) rfl (Keep.refl _ s)).same .gate (by decide)
@[simp] theorem emcyScan_log : (s.emcyScan).log = s.log :=
  (State.emcyScan_keep (L := [.od, .canopen, .acts]) rfl (Keep.refl _ s)).same .log (by decide)
@[simp] theorem emcyScan_trust : (s.emcyScan).trust = s.trust :=
  (State.emcyScan_keep (L := [.od, .canopen, .acts]) rfl (Keep.refl _ s)).same .trust (by decide)
@[simp] theorem emcyScan_video : (s.emcyScan).video = s.video :=
  (State.emcyScan_keep (L := [.od, .canopen, .acts]) rfl (Keep.refl _ s)).same .video (by decide)
@[simp] theorem emcyScan_slices : (s.emcyScan).slices = s.slices :=
  (State.emcyScan_keep (L := [.od, .canopen, .acts]) rfl (Keep.refl _ s)).same .slices (by decide)
@[simp] theorem emcyScan_wake : (s.emcyScan).wake = s.wake :=
  (State.emcyScan_keep (L := [.od, .canopen, .acts]) rfl (Keep.refl _ s)).same .wake (by decide)
@[simp] theorem emcyScan_mooring : (s.emcyScan).mooring = s.mooring :=
  (State.emcyScan_keep (L := [.od, .canopen, .acts]) rfl (Keep.refl _ s)).same .mooring (by decide)
@[simp] theorem emcyScan_fio : (s.emcyScan).fio = s.fio :=
  (State.emcyScan_keep (L := [.od, .canopen, .acts]) rfl (Keep.refl _ s)).same .fio (by decide)
@[simp] theorem emcyScan_pair : (s.emcyScan).pair = s.pair :=
  (State.emcyScan_keep (L := [.od, .canopen, .acts]) rfl (Keep.refl _ s)).same .pair (by decide)
@[simp] theorem emcyScan_lock : (s.emcyScan).lock = s.lock :=
  (State.emcyScan_keep (L := [.od, .canopen, .acts]) rfl (Keep.refl _ s)).same .lock (by decide)
@[simp] theorem emcyScan_pairing : (s.emcyScan).pairing = s.pairing :=
  (State.emcyScan_keep (L := [.od, .canopen, .acts]) rfl (Keep.refl _ s)).same .pairing (by decide)
@[simp] theorem emcyScan_unitA : (s.emcyScan).unitA = s.unitA :=
  (State.emcyScan_keep (L := [.od, .canopen, .acts]) rfl (Keep.refl _ s)).same .unitA (by decide)
@[simp] theorem settle_dict : (s.settle).dict = s.dict :=
  (State.settle_keep (L := [.od, .gate, .log, .canopen, .fio, .acts]) rfl (Keep.refl _ s)).same .dict (by decide)
@[simp] theorem settle_mram : (s.settle).mram = s.mram :=
  (State.settle_keep (L := [.od, .gate, .log, .canopen, .fio, .acts]) rfl (Keep.refl _ s)).same .mram (by decide)
@[simp] theorem settle_fuses : (s.settle).fuses = s.fuses :=
  (State.settle_keep (L := [.od, .gate, .log, .canopen, .fio, .acts]) rfl (Keep.refl _ s)).same .fuses (by decide)
@[simp] theorem settle_power : (s.settle).power = s.power :=
  (State.settle_keep (L := [.od, .gate, .log, .canopen, .fio, .acts]) rfl (Keep.refl _ s)).same .power (by decide)
@[simp] theorem settle_clock : (s.settle).clock = s.clock :=
  (State.settle_keep (L := [.od, .gate, .log, .canopen, .fio, .acts]) rfl (Keep.refl _ s)).same .clock (by decide)
@[simp] theorem settle_mu : (s.settle).mu = s.mu :=
  (State.settle_keep (L := [.od, .gate, .log, .canopen, .fio, .acts]) rfl (Keep.refl _ s)).same .mu (by decide)
@[simp] theorem settle_line : (s.settle).line = s.line :=
  (State.settle_keep (L := [.od, .gate, .log, .canopen, .fio, .acts]) rfl (Keep.refl _ s)).same .line (by decide)
@[simp] theorem settle_host : (s.settle).host = s.host :=
  (State.settle_keep (L := [.od, .gate, .log, .canopen, .fio, .acts]) rfl (Keep.refl _ s)).same .host (by decide)
@[simp] theorem settle_trust : (s.settle).trust = s.trust :=
  (State.settle_keep (L := [.od, .gate, .log, .canopen, .fio, .acts]) rfl (Keep.refl _ s)).same .trust (by decide)
@[simp] theorem settle_video : (s.settle).video = s.video :=
  (State.settle_keep (L := [.od, .gate, .log, .canopen, .fio, .acts]) rfl (Keep.refl _ s)).same .video (by decide)
@[simp] theorem settle_slices : (s.settle).slices = s.slices :=
  (State.settle_keep (L := [.od, .gate, .log, .canopen, .fio, .acts]) rfl (Keep.refl _ s)).same .slices (by decide)
@[simp] theorem settle_wake : (s.settle).wake = s.wake :=
  (State.settle_keep (L := [.od, .gate, .log, .canopen, .fio, .acts]) rfl (Keep.refl _ s)).same .wake (by decide)
@[simp] theorem settle_mooring : (s.settle).mooring = s.mooring :=
  (State.settle_keep (L := [.od, .gate, .log, .canopen, .fio, .acts]) rfl (Keep.refl _ s)).same .mooring (by decide)
@[simp] theorem settle_pair : (s.settle).pair = s.pair :=
  (State.settle_keep (L := [.od, .gate, .log, .canopen, .fio, .acts]) rfl (Keep.refl _ s)).same .pair (by decide)
@[simp] theorem settle_lock : (s.settle).lock = s.lock :=
  (State.settle_keep (L := [.od, .gate, .log, .canopen, .fio, .acts]) rfl (Keep.refl _ s)).same .lock (by decide)
@[simp] theorem settle_pairing : (s.settle).pairing = s.pairing :=
  (State.settle_keep (L := [.od, .gate, .log, .canopen, .fio, .acts]) rfl (Keep.refl _ s)).same .pairing (by decide)
@[simp] theorem settle_unitA : (s.settle).unitA = s.unitA :=
  (State.settle_keep (L := [.od, .gate, .log, .canopen, .fio, .acts]) rfl (Keep.refl _ s)).same .unitA (by decide)
@[simp] theorem driveField_dict : (s.driveField).dict = s.dict :=
  (State.driveField_keep (L := [.od, .gate, .log, .fio, .acts]) rfl (Keep.refl _ s)).same .dict (by decide)
@[simp] theorem driveField_mram : (s.driveField).mram = s.mram :=
  (State.driveField_keep (L := [.od, .gate, .log, .fio, .acts]) rfl (Keep.refl _ s)).same .mram (by decide)
@[simp] theorem driveField_fuses : (s.driveField).fuses = s.fuses :=
  (State.driveField_keep (L := [.od, .gate, .log, .fio, .acts]) rfl (Keep.refl _ s)).same .fuses (by decide)
@[simp] theorem driveField_power : (s.driveField).power = s.power :=
  (State.driveField_keep (L := [.od, .gate, .log, .fio, .acts]) rfl (Keep.refl _ s)).same .power (by decide)
@[simp] theorem driveField_clock : (s.driveField).clock = s.clock :=
  (State.driveField_keep (L := [.od, .gate, .log, .fio, .acts]) rfl (Keep.refl _ s)).same .clock (by decide)
@[simp] theorem driveField_mu : (s.driveField).mu = s.mu :=
  (State.driveField_keep (L := [.od, .gate, .log, .fio, .acts]) rfl (Keep.refl _ s)).same .mu (by decide)
@[simp] theorem driveField_line : (s.driveField).line = s.line :=
  (State.driveField_keep (L := [.od, .gate, .log, .fio, .acts]) rfl (Keep.refl _ s)).same .line (by decide)
@[simp] theorem driveField_host : (s.driveField).host = s.host :=
  (State.driveField_keep (L := [.od, .gate, .log, .fio, .acts]) rfl (Keep.refl _ s)).same .host (by decide)
@[simp] theorem driveField_trust : (s.driveField).trust = s.trust :=
  (State.driveField_keep (L := [.od, .gate, .log, .fio, .acts]) rfl (Keep.refl _ s)).same .trust (by decide)
@[simp] theorem driveField_video : (s.driveField).video = s.video :=
  (State.driveField_keep (L := [.od, .gate, .log, .fio, .acts]) rfl (Keep.refl _ s)).same .video (by decide)
@[simp] theorem driveField_slices : (s.driveField).slices = s.slices :=
  (State.driveField_keep (L := [.od, .gate, .log, .fio, .acts]) rfl (Keep.refl _ s)).same .slices (by decide)
@[simp] theorem driveField_canopen : (s.driveField).canopen = s.canopen :=
  (State.driveField_keep (L := [.od, .gate, .log, .fio, .acts]) rfl (Keep.refl _ s)).same .canopen (by decide)
@[simp] theorem driveField_wake : (s.driveField).wake = s.wake :=
  (State.driveField_keep (L := [.od, .gate, .log, .fio, .acts]) rfl (Keep.refl _ s)).same .wake (by decide)
@[simp] theorem driveField_mooring : (s.driveField).mooring = s.mooring :=
  (State.driveField_keep (L := [.od, .gate, .log, .fio, .acts]) rfl (Keep.refl _ s)).same .mooring (by decide)
@[simp] theorem driveField_pair : (s.driveField).pair = s.pair :=
  (State.driveField_keep (L := [.od, .gate, .log, .fio, .acts]) rfl (Keep.refl _ s)).same .pair (by decide)
@[simp] theorem driveField_lock : (s.driveField).lock = s.lock :=
  (State.driveField_keep (L := [.od, .gate, .log, .fio, .acts]) rfl (Keep.refl _ s)).same .lock (by decide)
@[simp] theorem driveField_pairing : (s.driveField).pairing = s.pairing :=
  (State.driveField_keep (L := [.od, .gate, .log, .fio, .acts]) rfl (Keep.refl _ s)).same .pairing (by decide)
@[simp] theorem driveField_unitA : (s.driveField).unitA = s.unitA :=
  (State.driveField_keep (L := [.od, .gate, .log, .fio, .acts]) rfl (Keep.refl _ s)).same .unitA (by decide)
@[simp] theorem respond_dict {a1 a2 a3} : (s.respond a1 a2 a3).dict = s.dict :=
  (State.respond_keep (L := [.od, .host, .gate, .log, .acts]) rfl (Keep.refl _ s)).same .dict (by decide)
@[simp] theorem respond_mram {a1 a2 a3} : (s.respond a1 a2 a3).mram = s.mram :=
  (State.respond_keep (L := [.od, .host, .gate, .log, .acts]) rfl (Keep.refl _ s)).same .mram (by decide)
@[simp] theorem respond_fuses {a1 a2 a3} : (s.respond a1 a2 a3).fuses = s.fuses :=
  (State.respond_keep (L := [.od, .host, .gate, .log, .acts]) rfl (Keep.refl _ s)).same .fuses (by decide)
@[simp] theorem respond_power {a1 a2 a3} : (s.respond a1 a2 a3).power = s.power :=
  (State.respond_keep (L := [.od, .host, .gate, .log, .acts]) rfl (Keep.refl _ s)).same .power (by decide)
@[simp] theorem respond_clock {a1 a2 a3} : (s.respond a1 a2 a3).clock = s.clock :=
  (State.respond_keep (L := [.od, .host, .gate, .log, .acts]) rfl (Keep.refl _ s)).same .clock (by decide)
@[simp] theorem respond_mu {a1 a2 a3} : (s.respond a1 a2 a3).mu = s.mu :=
  (State.respond_keep (L := [.od, .host, .gate, .log, .acts]) rfl (Keep.refl _ s)).same .mu (by decide)
@[simp] theorem respond_line {a1 a2 a3} : (s.respond a1 a2 a3).line = s.line :=
  (State.respond_keep (L := [.od, .host, .gate, .log, .acts]) rfl (Keep.refl _ s)).same .line (by decide)
@[simp] theorem respond_trust {a1 a2 a3} : (s.respond a1 a2 a3).trust = s.trust :=
  (State.respond_keep (L := [.od, .host, .gate, .log, .acts]) rfl (Keep.refl _ s)).same .trust (by decide)
@[simp] theorem respond_video {a1 a2 a3} : (s.respond a1 a2 a3).video = s.video :=
  (State.respond_keep (L := [.od, .host, .gate, .log, .acts]) rfl (Keep.refl _ s)).same .video (by decide)
@[simp] theorem respond_slices {a1 a2 a3} : (s.respond a1 a2 a3).slices = s.slices :=
  (State.respond_keep (L := [.od, .host, .gate, .log, .acts]) rfl (Keep.refl _ s)).same .slices (by decide)
@[simp] theorem respond_canopen {a1 a2 a3} : (s.respond a1 a2 a3).canopen = s.canopen :=
  (State.respond_keep (L := [.od, .host, .gate, .log, .acts]) rfl (Keep.refl _ s)).same .canopen (by decide)
@[simp] theorem respond_wake {a1 a2 a3} : (s.respond a1 a2 a3).wake = s.wake :=
  (State.respond_keep (L := [.od, .host, .gate, .log, .acts]) rfl (Keep.refl _ s)).same .wake (by decide)
@[simp] theorem respond_mooring {a1 a2 a3} : (s.respond a1 a2 a3).mooring = s.mooring :=
  (State.respond_keep (L := [.od, .host, .gate, .log, .acts]) rfl (Keep.refl _ s)).same .mooring (by decide)
@[simp] theorem respond_fio {a1 a2 a3} : (s.respond a1 a2 a3).fio = s.fio :=
  (State.respond_keep (L := [.od, .host, .gate, .log, .acts]) rfl (Keep.refl _ s)).same .fio (by decide)
@[simp] theorem respond_pair {a1 a2 a3} : (s.respond a1 a2 a3).pair = s.pair :=
  (State.respond_keep (L := [.od, .host, .gate, .log, .acts]) rfl (Keep.refl _ s)).same .pair (by decide)
@[simp] theorem respond_lock {a1 a2 a3} : (s.respond a1 a2 a3).lock = s.lock :=
  (State.respond_keep (L := [.od, .host, .gate, .log, .acts]) rfl (Keep.refl _ s)).same .lock (by decide)
@[simp] theorem respond_pairing {a1 a2 a3} : (s.respond a1 a2 a3).pairing = s.pairing :=
  (State.respond_keep (L := [.od, .host, .gate, .log, .acts]) rfl (Keep.refl _ s)).same .pairing (by decide)
@[simp] theorem respond_unitA {a1 a2 a3} : (s.respond a1 a2 a3).unitA = s.unitA :=
  (State.respond_keep (L := [.od, .host, .gate, .log, .acts]) rfl (Keep.refl _ s)).same .unitA (by decide)
@[simp] theorem answer_dict {a1 a2 a3} : (s.answer a1 a2 a3).dict = s.dict :=
  (State.answer_keep (L := [.od, .host, .gate, .log, .acts]) rfl (Keep.refl _ s)).same .dict (by decide)
@[simp] theorem answer_mram {a1 a2 a3} : (s.answer a1 a2 a3).mram = s.mram :=
  (State.answer_keep (L := [.od, .host, .gate, .log, .acts]) rfl (Keep.refl _ s)).same .mram (by decide)
@[simp] theorem answer_fuses {a1 a2 a3} : (s.answer a1 a2 a3).fuses = s.fuses :=
  (State.answer_keep (L := [.od, .host, .gate, .log, .acts]) rfl (Keep.refl _ s)).same .fuses (by decide)
@[simp] theorem answer_power {a1 a2 a3} : (s.answer a1 a2 a3).power = s.power :=
  (State.answer_keep (L := [.od, .host, .gate, .log, .acts]) rfl (Keep.refl _ s)).same .power (by decide)
@[simp] theorem answer_clock {a1 a2 a3} : (s.answer a1 a2 a3).clock = s.clock :=
  (State.answer_keep (L := [.od, .host, .gate, .log, .acts]) rfl (Keep.refl _ s)).same .clock (by decide)
@[simp] theorem answer_mu {a1 a2 a3} : (s.answer a1 a2 a3).mu = s.mu :=
  (State.answer_keep (L := [.od, .host, .gate, .log, .acts]) rfl (Keep.refl _ s)).same .mu (by decide)
@[simp] theorem answer_line {a1 a2 a3} : (s.answer a1 a2 a3).line = s.line :=
  (State.answer_keep (L := [.od, .host, .gate, .log, .acts]) rfl (Keep.refl _ s)).same .line (by decide)
@[simp] theorem answer_trust {a1 a2 a3} : (s.answer a1 a2 a3).trust = s.trust :=
  (State.answer_keep (L := [.od, .host, .gate, .log, .acts]) rfl (Keep.refl _ s)).same .trust (by decide)
@[simp] theorem answer_video {a1 a2 a3} : (s.answer a1 a2 a3).video = s.video :=
  (State.answer_keep (L := [.od, .host, .gate, .log, .acts]) rfl (Keep.refl _ s)).same .video (by decide)
@[simp] theorem answer_slices {a1 a2 a3} : (s.answer a1 a2 a3).slices = s.slices :=
  (State.answer_keep (L := [.od, .host, .gate, .log, .acts]) rfl (Keep.refl _ s)).same .slices (by decide)
@[simp] theorem answer_canopen {a1 a2 a3} : (s.answer a1 a2 a3).canopen = s.canopen :=
  (State.answer_keep (L := [.od, .host, .gate, .log, .acts]) rfl (Keep.refl _ s)).same .canopen (by decide)
@[simp] theorem answer_wake {a1 a2 a3} : (s.answer a1 a2 a3).wake = s.wake :=
  (State.answer_keep (L := [.od, .host, .gate, .log, .acts]) rfl (Keep.refl _ s)).same .wake (by decide)
@[simp] theorem answer_mooring {a1 a2 a3} : (s.answer a1 a2 a3).mooring = s.mooring :=
  (State.answer_keep (L := [.od, .host, .gate, .log, .acts]) rfl (Keep.refl _ s)).same .mooring (by decide)
@[simp] theorem answer_fio {a1 a2 a3} : (s.answer a1 a2 a3).fio = s.fio :=
  (State.answer_keep (L := [.od, .host, .gate, .log, .acts]) rfl (Keep.refl _ s)).same .fio (by decide)
@[simp] theorem answer_pair {a1 a2 a3} : (s.answer a1 a2 a3).pair = s.pair :=
  (State.answer_keep (L := [.od, .host, .gate, .log, .acts]) rfl (Keep.refl _ s)).same .pair (by decide)
@[simp] theorem answer_lock {a1 a2 a3} : (s.answer a1 a2 a3).lock = s.lock :=
  (State.answer_keep (L := [.od, .host, .gate, .log, .acts]) rfl (Keep.refl _ s)).same .lock (by decide)
@[simp] theorem answer_pairing {a1 a2 a3} : (s.answer a1 a2 a3).pairing = s.pairing :=
  (State.answer_keep (L := [.od, .host, .gate, .log, .acts]) rfl (Keep.refl _ s)).same .pairing (by decide)
@[simp] theorem answer_unitA {a1 a2 a3} : (s.answer a1 a2 a3).unitA = s.unitA :=
  (State.answer_keep (L := [.od, .host, .gate, .log, .acts]) rfl (Keep.refl _ s)).same .unitA (by decide)
@[simp] theorem opStart_dict {a1 a2} : (s.opStart a1 a2).dict = s.dict :=
  (State.opStart_keep (L := [.od]) rfl (Keep.refl _ s)).same .dict (by decide)
@[simp] theorem opStart_mram {a1 a2} : (s.opStart a1 a2).mram = s.mram :=
  (State.opStart_keep (L := [.od]) rfl (Keep.refl _ s)).same .mram (by decide)
@[simp] theorem opStart_fuses {a1 a2} : (s.opStart a1 a2).fuses = s.fuses :=
  (State.opStart_keep (L := [.od]) rfl (Keep.refl _ s)).same .fuses (by decide)
@[simp] theorem opStart_power {a1 a2} : (s.opStart a1 a2).power = s.power :=
  (State.opStart_keep (L := [.od]) rfl (Keep.refl _ s)).same .power (by decide)
@[simp] theorem opStart_clock {a1 a2} : (s.opStart a1 a2).clock = s.clock :=
  (State.opStart_keep (L := [.od]) rfl (Keep.refl _ s)).same .clock (by decide)
@[simp] theorem opStart_mu {a1 a2} : (s.opStart a1 a2).mu = s.mu :=
  (State.opStart_keep (L := [.od]) rfl (Keep.refl _ s)).same .mu (by decide)
@[simp] theorem opStart_line {a1 a2} : (s.opStart a1 a2).line = s.line :=
  (State.opStart_keep (L := [.od]) rfl (Keep.refl _ s)).same .line (by decide)
@[simp] theorem opStart_host {a1 a2} : (s.opStart a1 a2).host = s.host :=
  (State.opStart_keep (L := [.od]) rfl (Keep.refl _ s)).same .host (by decide)
@[simp] theorem opStart_gate {a1 a2} : (s.opStart a1 a2).gate = s.gate :=
  (State.opStart_keep (L := [.od]) rfl (Keep.refl _ s)).same .gate (by decide)
@[simp] theorem opStart_log {a1 a2} : (s.opStart a1 a2).log = s.log :=
  (State.opStart_keep (L := [.od]) rfl (Keep.refl _ s)).same .log (by decide)
@[simp] theorem opStart_trust {a1 a2} : (s.opStart a1 a2).trust = s.trust :=
  (State.opStart_keep (L := [.od]) rfl (Keep.refl _ s)).same .trust (by decide)
@[simp] theorem opStart_video {a1 a2} : (s.opStart a1 a2).video = s.video :=
  (State.opStart_keep (L := [.od]) rfl (Keep.refl _ s)).same .video (by decide)
@[simp] theorem opStart_slices {a1 a2} : (s.opStart a1 a2).slices = s.slices :=
  (State.opStart_keep (L := [.od]) rfl (Keep.refl _ s)).same .slices (by decide)
@[simp] theorem opStart_canopen {a1 a2} : (s.opStart a1 a2).canopen = s.canopen :=
  (State.opStart_keep (L := [.od]) rfl (Keep.refl _ s)).same .canopen (by decide)
@[simp] theorem opStart_wake {a1 a2} : (s.opStart a1 a2).wake = s.wake :=
  (State.opStart_keep (L := [.od]) rfl (Keep.refl _ s)).same .wake (by decide)
@[simp] theorem opStart_mooring {a1 a2} : (s.opStart a1 a2).mooring = s.mooring :=
  (State.opStart_keep (L := [.od]) rfl (Keep.refl _ s)).same .mooring (by decide)
@[simp] theorem opStart_fio {a1 a2} : (s.opStart a1 a2).fio = s.fio :=
  (State.opStart_keep (L := [.od]) rfl (Keep.refl _ s)).same .fio (by decide)
@[simp] theorem opStart_pair {a1 a2} : (s.opStart a1 a2).pair = s.pair :=
  (State.opStart_keep (L := [.od]) rfl (Keep.refl _ s)).same .pair (by decide)
@[simp] theorem opStart_lock {a1 a2} : (s.opStart a1 a2).lock = s.lock :=
  (State.opStart_keep (L := [.od]) rfl (Keep.refl _ s)).same .lock (by decide)
@[simp] theorem opStart_pairing {a1 a2} : (s.opStart a1 a2).pairing = s.pairing :=
  (State.opStart_keep (L := [.od]) rfl (Keep.refl _ s)).same .pairing (by decide)
@[simp] theorem opStart_unitA {a1 a2} : (s.opStart a1 a2).unitA = s.unitA :=
  (State.opStart_keep (L := [.od]) rfl (Keep.refl _ s)).same .unitA (by decide)
@[simp] theorem opStart_acts {a1 a2} : (s.opStart a1 a2).acts = s.acts :=
  (State.opStart_keep (L := [.od]) rfl (Keep.refl _ s)).same .acts (by decide)
@[simp] theorem opProgress_dict {a1 a2 a3 a4} : (s.opProgress a1 a2 a3 a4).dict = s.dict :=
  (State.opProgress_keep (L := [.od]) rfl (Keep.refl _ s)).same .dict (by decide)
@[simp] theorem opProgress_mram {a1 a2 a3 a4} : (s.opProgress a1 a2 a3 a4).mram = s.mram :=
  (State.opProgress_keep (L := [.od]) rfl (Keep.refl _ s)).same .mram (by decide)
@[simp] theorem opProgress_fuses {a1 a2 a3 a4} : (s.opProgress a1 a2 a3 a4).fuses = s.fuses :=
  (State.opProgress_keep (L := [.od]) rfl (Keep.refl _ s)).same .fuses (by decide)
@[simp] theorem opProgress_power {a1 a2 a3 a4} : (s.opProgress a1 a2 a3 a4).power = s.power :=
  (State.opProgress_keep (L := [.od]) rfl (Keep.refl _ s)).same .power (by decide)
@[simp] theorem opProgress_clock {a1 a2 a3 a4} : (s.opProgress a1 a2 a3 a4).clock = s.clock :=
  (State.opProgress_keep (L := [.od]) rfl (Keep.refl _ s)).same .clock (by decide)
@[simp] theorem opProgress_mu {a1 a2 a3 a4} : (s.opProgress a1 a2 a3 a4).mu = s.mu :=
  (State.opProgress_keep (L := [.od]) rfl (Keep.refl _ s)).same .mu (by decide)
@[simp] theorem opProgress_line {a1 a2 a3 a4} : (s.opProgress a1 a2 a3 a4).line = s.line :=
  (State.opProgress_keep (L := [.od]) rfl (Keep.refl _ s)).same .line (by decide)
@[simp] theorem opProgress_host {a1 a2 a3 a4} : (s.opProgress a1 a2 a3 a4).host = s.host :=
  (State.opProgress_keep (L := [.od]) rfl (Keep.refl _ s)).same .host (by decide)
@[simp] theorem opProgress_gate {a1 a2 a3 a4} : (s.opProgress a1 a2 a3 a4).gate = s.gate :=
  (State.opProgress_keep (L := [.od]) rfl (Keep.refl _ s)).same .gate (by decide)
@[simp] theorem opProgress_log {a1 a2 a3 a4} : (s.opProgress a1 a2 a3 a4).log = s.log :=
  (State.opProgress_keep (L := [.od]) rfl (Keep.refl _ s)).same .log (by decide)
@[simp] theorem opProgress_trust {a1 a2 a3 a4} : (s.opProgress a1 a2 a3 a4).trust = s.trust :=
  (State.opProgress_keep (L := [.od]) rfl (Keep.refl _ s)).same .trust (by decide)
@[simp] theorem opProgress_video {a1 a2 a3 a4} : (s.opProgress a1 a2 a3 a4).video = s.video :=
  (State.opProgress_keep (L := [.od]) rfl (Keep.refl _ s)).same .video (by decide)
@[simp] theorem opProgress_slices {a1 a2 a3 a4} : (s.opProgress a1 a2 a3 a4).slices = s.slices :=
  (State.opProgress_keep (L := [.od]) rfl (Keep.refl _ s)).same .slices (by decide)
@[simp] theorem opProgress_canopen {a1 a2 a3 a4} : (s.opProgress a1 a2 a3 a4).canopen = s.canopen :=
  (State.opProgress_keep (L := [.od]) rfl (Keep.refl _ s)).same .canopen (by decide)
@[simp] theorem opProgress_wake {a1 a2 a3 a4} : (s.opProgress a1 a2 a3 a4).wake = s.wake :=
  (State.opProgress_keep (L := [.od]) rfl (Keep.refl _ s)).same .wake (by decide)
@[simp] theorem opProgress_mooring {a1 a2 a3 a4} : (s.opProgress a1 a2 a3 a4).mooring = s.mooring :=
  (State.opProgress_keep (L := [.od]) rfl (Keep.refl _ s)).same .mooring (by decide)
@[simp] theorem opProgress_fio {a1 a2 a3 a4} : (s.opProgress a1 a2 a3 a4).fio = s.fio :=
  (State.opProgress_keep (L := [.od]) rfl (Keep.refl _ s)).same .fio (by decide)
@[simp] theorem opProgress_pair {a1 a2 a3 a4} : (s.opProgress a1 a2 a3 a4).pair = s.pair :=
  (State.opProgress_keep (L := [.od]) rfl (Keep.refl _ s)).same .pair (by decide)
@[simp] theorem opProgress_lock {a1 a2 a3 a4} : (s.opProgress a1 a2 a3 a4).lock = s.lock :=
  (State.opProgress_keep (L := [.od]) rfl (Keep.refl _ s)).same .lock (by decide)
@[simp] theorem opProgress_pairing {a1 a2 a3 a4} : (s.opProgress a1 a2 a3 a4).pairing = s.pairing :=
  (State.opProgress_keep (L := [.od]) rfl (Keep.refl _ s)).same .pairing (by decide)
@[simp] theorem opProgress_unitA {a1 a2 a3 a4} : (s.opProgress a1 a2 a3 a4).unitA = s.unitA :=
  (State.opProgress_keep (L := [.od]) rfl (Keep.refl _ s)).same .unitA (by decide)
@[simp] theorem opProgress_acts {a1 a2 a3 a4} : (s.opProgress a1 a2 a3 a4).acts = s.acts :=
  (State.opProgress_keep (L := [.od]) rfl (Keep.refl _ s)).same .acts (by decide)
@[simp] theorem opEnd_dict {a1 a2 a3} : (s.opEnd a1 a2 a3).dict = s.dict :=
  (State.opEnd_keep (L := [.od, .gate, .log, .acts]) rfl (Keep.refl _ s)).same .dict (by decide)
@[simp] theorem opEnd_mram {a1 a2 a3} : (s.opEnd a1 a2 a3).mram = s.mram :=
  (State.opEnd_keep (L := [.od, .gate, .log, .acts]) rfl (Keep.refl _ s)).same .mram (by decide)
@[simp] theorem opEnd_fuses {a1 a2 a3} : (s.opEnd a1 a2 a3).fuses = s.fuses :=
  (State.opEnd_keep (L := [.od, .gate, .log, .acts]) rfl (Keep.refl _ s)).same .fuses (by decide)
@[simp] theorem opEnd_power {a1 a2 a3} : (s.opEnd a1 a2 a3).power = s.power :=
  (State.opEnd_keep (L := [.od, .gate, .log, .acts]) rfl (Keep.refl _ s)).same .power (by decide)
@[simp] theorem opEnd_clock {a1 a2 a3} : (s.opEnd a1 a2 a3).clock = s.clock :=
  (State.opEnd_keep (L := [.od, .gate, .log, .acts]) rfl (Keep.refl _ s)).same .clock (by decide)
@[simp] theorem opEnd_mu {a1 a2 a3} : (s.opEnd a1 a2 a3).mu = s.mu :=
  (State.opEnd_keep (L := [.od, .gate, .log, .acts]) rfl (Keep.refl _ s)).same .mu (by decide)
@[simp] theorem opEnd_line {a1 a2 a3} : (s.opEnd a1 a2 a3).line = s.line :=
  (State.opEnd_keep (L := [.od, .gate, .log, .acts]) rfl (Keep.refl _ s)).same .line (by decide)
@[simp] theorem opEnd_host {a1 a2 a3} : (s.opEnd a1 a2 a3).host = s.host :=
  (State.opEnd_keep (L := [.od, .gate, .log, .acts]) rfl (Keep.refl _ s)).same .host (by decide)
@[simp] theorem opEnd_trust {a1 a2 a3} : (s.opEnd a1 a2 a3).trust = s.trust :=
  (State.opEnd_keep (L := [.od, .gate, .log, .acts]) rfl (Keep.refl _ s)).same .trust (by decide)
@[simp] theorem opEnd_video {a1 a2 a3} : (s.opEnd a1 a2 a3).video = s.video :=
  (State.opEnd_keep (L := [.od, .gate, .log, .acts]) rfl (Keep.refl _ s)).same .video (by decide)
@[simp] theorem opEnd_slices {a1 a2 a3} : (s.opEnd a1 a2 a3).slices = s.slices :=
  (State.opEnd_keep (L := [.od, .gate, .log, .acts]) rfl (Keep.refl _ s)).same .slices (by decide)
@[simp] theorem opEnd_canopen {a1 a2 a3} : (s.opEnd a1 a2 a3).canopen = s.canopen :=
  (State.opEnd_keep (L := [.od, .gate, .log, .acts]) rfl (Keep.refl _ s)).same .canopen (by decide)
@[simp] theorem opEnd_wake {a1 a2 a3} : (s.opEnd a1 a2 a3).wake = s.wake :=
  (State.opEnd_keep (L := [.od, .gate, .log, .acts]) rfl (Keep.refl _ s)).same .wake (by decide)
@[simp] theorem opEnd_mooring {a1 a2 a3} : (s.opEnd a1 a2 a3).mooring = s.mooring :=
  (State.opEnd_keep (L := [.od, .gate, .log, .acts]) rfl (Keep.refl _ s)).same .mooring (by decide)
@[simp] theorem opEnd_fio {a1 a2 a3} : (s.opEnd a1 a2 a3).fio = s.fio :=
  (State.opEnd_keep (L := [.od, .gate, .log, .acts]) rfl (Keep.refl _ s)).same .fio (by decide)
@[simp] theorem opEnd_pair {a1 a2 a3} : (s.opEnd a1 a2 a3).pair = s.pair :=
  (State.opEnd_keep (L := [.od, .gate, .log, .acts]) rfl (Keep.refl _ s)).same .pair (by decide)
@[simp] theorem opEnd_lock {a1 a2 a3} : (s.opEnd a1 a2 a3).lock = s.lock :=
  (State.opEnd_keep (L := [.od, .gate, .log, .acts]) rfl (Keep.refl _ s)).same .lock (by decide)
@[simp] theorem opEnd_pairing {a1 a2 a3} : (s.opEnd a1 a2 a3).pairing = s.pairing :=
  (State.opEnd_keep (L := [.od, .gate, .log, .acts]) rfl (Keep.refl _ s)).same .pairing (by decide)
@[simp] theorem opEnd_unitA {a1 a2 a3} : (s.opEnd a1 a2 a3).unitA = s.unitA :=
  (State.opEnd_keep (L := [.od, .gate, .log, .acts]) rfl (Keep.refl _ s)).same .unitA (by decide)
@[simp] theorem storeStored_od : (s.storeStored).od = s.od :=
  (State.storeStored_keep (L := [.mram]) rfl (Keep.refl _ s)).same .od (by decide)
@[simp] theorem storeStored_dict : (s.storeStored).dict = s.dict :=
  (State.storeStored_keep (L := [.mram]) rfl (Keep.refl _ s)).same .dict (by decide)
@[simp] theorem storeStored_fuses : (s.storeStored).fuses = s.fuses :=
  (State.storeStored_keep (L := [.mram]) rfl (Keep.refl _ s)).same .fuses (by decide)
@[simp] theorem storeStored_power : (s.storeStored).power = s.power :=
  (State.storeStored_keep (L := [.mram]) rfl (Keep.refl _ s)).same .power (by decide)
@[simp] theorem storeStored_clock : (s.storeStored).clock = s.clock :=
  (State.storeStored_keep (L := [.mram]) rfl (Keep.refl _ s)).same .clock (by decide)
@[simp] theorem storeStored_mu : (s.storeStored).mu = s.mu :=
  (State.storeStored_keep (L := [.mram]) rfl (Keep.refl _ s)).same .mu (by decide)
@[simp] theorem storeStored_line : (s.storeStored).line = s.line :=
  (State.storeStored_keep (L := [.mram]) rfl (Keep.refl _ s)).same .line (by decide)
@[simp] theorem storeStored_host : (s.storeStored).host = s.host :=
  (State.storeStored_keep (L := [.mram]) rfl (Keep.refl _ s)).same .host (by decide)
@[simp] theorem storeStored_gate : (s.storeStored).gate = s.gate :=
  (State.storeStored_keep (L := [.mram]) rfl (Keep.refl _ s)).same .gate (by decide)
@[simp] theorem storeStored_log : (s.storeStored).log = s.log :=
  (State.storeStored_keep (L := [.mram]) rfl (Keep.refl _ s)).same .log (by decide)
@[simp] theorem storeStored_trust : (s.storeStored).trust = s.trust :=
  (State.storeStored_keep (L := [.mram]) rfl (Keep.refl _ s)).same .trust (by decide)
@[simp] theorem storeStored_video : (s.storeStored).video = s.video :=
  (State.storeStored_keep (L := [.mram]) rfl (Keep.refl _ s)).same .video (by decide)
@[simp] theorem storeStored_slices : (s.storeStored).slices = s.slices :=
  (State.storeStored_keep (L := [.mram]) rfl (Keep.refl _ s)).same .slices (by decide)
@[simp] theorem storeStored_canopen : (s.storeStored).canopen = s.canopen :=
  (State.storeStored_keep (L := [.mram]) rfl (Keep.refl _ s)).same .canopen (by decide)
@[simp] theorem storeStored_wake : (s.storeStored).wake = s.wake :=
  (State.storeStored_keep (L := [.mram]) rfl (Keep.refl _ s)).same .wake (by decide)
@[simp] theorem storeStored_mooring : (s.storeStored).mooring = s.mooring :=
  (State.storeStored_keep (L := [.mram]) rfl (Keep.refl _ s)).same .mooring (by decide)
@[simp] theorem storeStored_fio : (s.storeStored).fio = s.fio :=
  (State.storeStored_keep (L := [.mram]) rfl (Keep.refl _ s)).same .fio (by decide)
@[simp] theorem storeStored_pair : (s.storeStored).pair = s.pair :=
  (State.storeStored_keep (L := [.mram]) rfl (Keep.refl _ s)).same .pair (by decide)
@[simp] theorem storeStored_lock : (s.storeStored).lock = s.lock :=
  (State.storeStored_keep (L := [.mram]) rfl (Keep.refl _ s)).same .lock (by decide)
@[simp] theorem storeStored_pairing : (s.storeStored).pairing = s.pairing :=
  (State.storeStored_keep (L := [.mram]) rfl (Keep.refl _ s)).same .pairing (by decide)
@[simp] theorem storeStored_unitA : (s.storeStored).unitA = s.unitA :=
  (State.storeStored_keep (L := [.mram]) rfl (Keep.refl _ s)).same .unitA (by decide)
@[simp] theorem storeStored_acts : (s.storeStored).acts = s.acts :=
  (State.storeStored_keep (L := [.mram]) rfl (Keep.refl _ s)).same .acts (by decide)
@[simp] theorem toPartner_od {a1} : (s.toPartner a1).od = s.od :=
  (State.toPartner_keep (L := []) rfl (Keep.refl _ s)).same .od (by decide)
@[simp] theorem toPartner_dict {a1} : (s.toPartner a1).dict = s.dict :=
  (State.toPartner_keep (L := []) rfl (Keep.refl _ s)).same .dict (by decide)
@[simp] theorem toPartner_mram {a1} : (s.toPartner a1).mram = s.mram :=
  (State.toPartner_keep (L := []) rfl (Keep.refl _ s)).same .mram (by decide)
@[simp] theorem toPartner_fuses {a1} : (s.toPartner a1).fuses = s.fuses :=
  (State.toPartner_keep (L := []) rfl (Keep.refl _ s)).same .fuses (by decide)
@[simp] theorem toPartner_power {a1} : (s.toPartner a1).power = s.power :=
  (State.toPartner_keep (L := []) rfl (Keep.refl _ s)).same .power (by decide)
@[simp] theorem toPartner_clock {a1} : (s.toPartner a1).clock = s.clock :=
  (State.toPartner_keep (L := []) rfl (Keep.refl _ s)).same .clock (by decide)
@[simp] theorem toPartner_mu {a1} : (s.toPartner a1).mu = s.mu :=
  (State.toPartner_keep (L := []) rfl (Keep.refl _ s)).same .mu (by decide)
@[simp] theorem toPartner_line {a1} : (s.toPartner a1).line = s.line :=
  (State.toPartner_keep (L := []) rfl (Keep.refl _ s)).same .line (by decide)
@[simp] theorem toPartner_host {a1} : (s.toPartner a1).host = s.host :=
  (State.toPartner_keep (L := []) rfl (Keep.refl _ s)).same .host (by decide)
@[simp] theorem toPartner_gate {a1} : (s.toPartner a1).gate = s.gate :=
  (State.toPartner_keep (L := []) rfl (Keep.refl _ s)).same .gate (by decide)
@[simp] theorem toPartner_log {a1} : (s.toPartner a1).log = s.log :=
  (State.toPartner_keep (L := []) rfl (Keep.refl _ s)).same .log (by decide)
@[simp] theorem toPartner_trust {a1} : (s.toPartner a1).trust = s.trust :=
  (State.toPartner_keep (L := []) rfl (Keep.refl _ s)).same .trust (by decide)
@[simp] theorem toPartner_video {a1} : (s.toPartner a1).video = s.video :=
  (State.toPartner_keep (L := []) rfl (Keep.refl _ s)).same .video (by decide)
@[simp] theorem toPartner_slices {a1} : (s.toPartner a1).slices = s.slices :=
  (State.toPartner_keep (L := []) rfl (Keep.refl _ s)).same .slices (by decide)
@[simp] theorem toPartner_canopen {a1} : (s.toPartner a1).canopen = s.canopen :=
  (State.toPartner_keep (L := []) rfl (Keep.refl _ s)).same .canopen (by decide)
@[simp] theorem toPartner_wake {a1} : (s.toPartner a1).wake = s.wake :=
  (State.toPartner_keep (L := []) rfl (Keep.refl _ s)).same .wake (by decide)
@[simp] theorem toPartner_mooring {a1} : (s.toPartner a1).mooring = s.mooring :=
  (State.toPartner_keep (L := []) rfl (Keep.refl _ s)).same .mooring (by decide)
@[simp] theorem toPartner_fio {a1} : (s.toPartner a1).fio = s.fio :=
  (State.toPartner_keep (L := []) rfl (Keep.refl _ s)).same .fio (by decide)
@[simp] theorem toPartner_pair {a1} : (s.toPartner a1).pair = s.pair :=
  (State.toPartner_keep (L := []) rfl (Keep.refl _ s)).same .pair (by decide)
@[simp] theorem toPartner_lock {a1} : (s.toPartner a1).lock = s.lock :=
  (State.toPartner_keep (L := []) rfl (Keep.refl _ s)).same .lock (by decide)
@[simp] theorem toPartner_pairing {a1} : (s.toPartner a1).pairing = s.pairing :=
  (State.toPartner_keep (L := []) rfl (Keep.refl _ s)).same .pairing (by decide)
@[simp] theorem toPartner_unitA {a1} : (s.toPartner a1).unitA = s.unitA :=
  (State.toPartner_keep (L := []) rfl (Keep.refl _ s)).same .unitA (by decide)
@[simp] theorem toPartner_acts {a1} : (s.toPartner a1).acts = s.acts :=
  (State.toPartner_keep (L := []) rfl (Keep.refl _ s)).same .acts (by decide)
@[simp] theorem setPl_od {a1 a2} : (s.setPl a1 a2).od = s.od :=
  (State.setPl_keep (L := [.line]) rfl (Keep.refl _ s)).same .od (by decide)
@[simp] theorem setPl_dict {a1 a2} : (s.setPl a1 a2).dict = s.dict :=
  (State.setPl_keep (L := [.line]) rfl (Keep.refl _ s)).same .dict (by decide)
@[simp] theorem setPl_mram {a1 a2} : (s.setPl a1 a2).mram = s.mram :=
  (State.setPl_keep (L := [.line]) rfl (Keep.refl _ s)).same .mram (by decide)
@[simp] theorem setPl_fuses {a1 a2} : (s.setPl a1 a2).fuses = s.fuses :=
  (State.setPl_keep (L := [.line]) rfl (Keep.refl _ s)).same .fuses (by decide)
@[simp] theorem setPl_power {a1 a2} : (s.setPl a1 a2).power = s.power :=
  (State.setPl_keep (L := [.line]) rfl (Keep.refl _ s)).same .power (by decide)
@[simp] theorem setPl_clock {a1 a2} : (s.setPl a1 a2).clock = s.clock :=
  (State.setPl_keep (L := [.line]) rfl (Keep.refl _ s)).same .clock (by decide)
@[simp] theorem setPl_mu {a1 a2} : (s.setPl a1 a2).mu = s.mu :=
  (State.setPl_keep (L := [.line]) rfl (Keep.refl _ s)).same .mu (by decide)
@[simp] theorem setPl_host {a1 a2} : (s.setPl a1 a2).host = s.host :=
  (State.setPl_keep (L := [.line]) rfl (Keep.refl _ s)).same .host (by decide)
@[simp] theorem setPl_gate {a1 a2} : (s.setPl a1 a2).gate = s.gate :=
  (State.setPl_keep (L := [.line]) rfl (Keep.refl _ s)).same .gate (by decide)
@[simp] theorem setPl_log {a1 a2} : (s.setPl a1 a2).log = s.log :=
  (State.setPl_keep (L := [.line]) rfl (Keep.refl _ s)).same .log (by decide)
@[simp] theorem setPl_trust {a1 a2} : (s.setPl a1 a2).trust = s.trust :=
  (State.setPl_keep (L := [.line]) rfl (Keep.refl _ s)).same .trust (by decide)
@[simp] theorem setPl_video {a1 a2} : (s.setPl a1 a2).video = s.video :=
  (State.setPl_keep (L := [.line]) rfl (Keep.refl _ s)).same .video (by decide)
@[simp] theorem setPl_slices {a1 a2} : (s.setPl a1 a2).slices = s.slices :=
  (State.setPl_keep (L := [.line]) rfl (Keep.refl _ s)).same .slices (by decide)
@[simp] theorem setPl_canopen {a1 a2} : (s.setPl a1 a2).canopen = s.canopen :=
  (State.setPl_keep (L := [.line]) rfl (Keep.refl _ s)).same .canopen (by decide)
@[simp] theorem setPl_wake {a1 a2} : (s.setPl a1 a2).wake = s.wake :=
  (State.setPl_keep (L := [.line]) rfl (Keep.refl _ s)).same .wake (by decide)
@[simp] theorem setPl_mooring {a1 a2} : (s.setPl a1 a2).mooring = s.mooring :=
  (State.setPl_keep (L := [.line]) rfl (Keep.refl _ s)).same .mooring (by decide)
@[simp] theorem setPl_fio {a1 a2} : (s.setPl a1 a2).fio = s.fio :=
  (State.setPl_keep (L := [.line]) rfl (Keep.refl _ s)).same .fio (by decide)
@[simp] theorem setPl_pair {a1 a2} : (s.setPl a1 a2).pair = s.pair :=
  (State.setPl_keep (L := [.line]) rfl (Keep.refl _ s)).same .pair (by decide)
@[simp] theorem setPl_lock {a1 a2} : (s.setPl a1 a2).lock = s.lock :=
  (State.setPl_keep (L := [.line]) rfl (Keep.refl _ s)).same .lock (by decide)
@[simp] theorem setPl_pairing {a1 a2} : (s.setPl a1 a2).pairing = s.pairing :=
  (State.setPl_keep (L := [.line]) rfl (Keep.refl _ s)).same .pairing (by decide)
@[simp] theorem setPl_unitA {a1 a2} : (s.setPl a1 a2).unitA = s.unitA :=
  (State.setPl_keep (L := [.line]) rfl (Keep.refl _ s)).same .unitA (by decide)
@[simp] theorem setPl_acts {a1 a2} : (s.setPl a1 a2).acts = s.acts :=
  (State.setPl_keep (L := [.line]) rfl (Keep.refl _ s)).same .acts (by decide)

end Sys2Proof.Machine.State
end

