-- ==== Sys2Proof/Laws/Access.lean ====
section
/-!
SUPPORT. What an access that is admitted does: its action, then its response.
-/

namespace Sys2Proof.Machine.State

theorem asInput_of_admits {s : State} {w : Writer} {k : Nat} {d data : List Byte} {act : State → State}
    (h : s.admits w k data) : s.asInput w k d act = act s := by
  obtain ⟨_, hc, hp, _⟩ := h
  simp [asInput, hc, replicate, hp]

/-- An admitted action runs, and is answered with its own status. -/
theorem accessAct_of_admits {s : State} {w : Writer} {k : Nat} {data : List Byte} {act : State → State × Nat}
    (h : s.admits w k data) : s.accessAct w k data act = (act s).1.respond w (act s).2 [] := by
  rw [accessAct, asInput_of_admits h]
  simp [h.2.2.2]

/-- An admitted write of an entry without an action is made, and answered with status 0; a stored entry needs an MRAM
that takes the store. -/
theorem accessPlain_of_admits {s : State} {w : Writer} {k : Nat} {data : List Byte} (h : s.admits w k data)
    (hf : s.plainStatus k = 0) : s.accessPlain w k data = (s.plainWrite w k (written k data)).respond w 0 [] := by
  rw [accessPlain, asInput_of_admits h]
  simp [h.2.2.2, hf]

theorem served_of_ready {s : State} {f : State → State} (h : s.isReady = true) : s.served f = f s := by
  simp [served, h]

theorem served_accessAct {s : State} {w : Writer} {k : Nat} {data : List Byte} {act : State → State × Nat}
    (h : s.admits w k data) : (s.served fun s => s.accessAct w k data act) = (act s).1.respond w (act s).2 [] := by
  rw [served_of_ready h.1, accessAct_of_admits h]

theorem served_accessPlain {s : State} {w : Writer} {k : Nat} {data : List Byte} (h : s.admits w k data)
    (hf : s.plainStatus k = 0) :
    (s.served fun s => s.accessPlain w k data) = (s.plainWrite w k (written k data)).respond w 0 [] := by
  rw [served_of_ready h.1, accessPlain_of_admits h hf]

/-! ### What raising, responses and long operations leave of the dictionary -/

variable (s : State)

theorem ite_le {c : Prop} [Decidable c] {a b n : Nat} (ha : c → a ≤ n) (hb : b ≤ n) : (if c then a else b) ≤ n := by
  split
  · exact ha ‹_›
  · exact hb

theorem classOf_le (src : Nat) : classOf src ≤ 64 := by
  unfold classOf
  repeat' (refine ite_le (fun h => ?_) ?_)
  all_goals omega

theorem int_gateEvent_ne {k src : Nat} (hs : k / 256 ≠ 0x3600 + src) : (s.gateEvent src).int k = s.int k := by
  have h3 : ∀ c, c ≤ 5 → Od.key (0x3600 + src) 0 + c ≠ k ∧ ¬ Feeds (Od.key (0x3600 + src) 0 + c) := by
    intro c hc
    refine ⟨by simp only [Od.key]; omega, not_feeds_of_ge (by simp only [Od.key]; omega)⟩
  have e3 : Od.key (0x3600 + src) 3 = Od.key (0x3600 + src) 0 + 3 := by simp [Od.key]
  simp only [gateEvent, e3, int_setGate]
  split
  · rw [int_bump_ne _ (h3 4 (by decide)).1 (h3 4 (by decide)).2, int_put_ne _ _ (h3 5 (by decide)).1 (h3 5 (by decide)).2,
      int_bump_ne _ (h3 3 (by decide)).1 (h3 3 (by decide)).2]
  · rw [int_put_ne _ _ (h3 5 (by decide)).1 (h3 5 (by decide)).2, int_bump_ne _ (h3 3 (by decide)).1 (h3 3 (by decide)).2]

theorem int_queueReport_ne {k : Nat} (r : Record) (hc : r.cls ≤ 64) (h : k < 0x350000 ∨ 0x356000 ≤ k) :
    (s.queueReport r).1.int k = s.int k := by
  have hb : ∀ (u : State) (j : Nat), 0x350000 ≤ j → j < 0x356000 → (u.bump j).int k = u.int k := fun u j hj hk =>
    int_bump_ne u (by omega) (not_feeds_of_ge (by omega))
  have hp : ∀ (u : State) (j : Nat) (v : Int), 0x350000 ≤ j → j < 0x356000 → (u.put j v).int k = u.int k := fun u j v hj hk =>
    int_put_ne u v (by omega) (not_feeds_of_ge (by omega))
  unfold queueReport
  simp only
  split
  · simp only [int_with_log]
    rw [hb _ _ (by decide) (by decide), hb _ _ (by decide) (by decide)]
  · split
    · simp only
      rw [hp _ _ _ (by decide) (by decide), int_with_log, hb _ _ (by decide) (by decide)]
    · simp only
      rw [hp _ _ _ (by decide) (by decide), hb _ _ (by simp only [Od.key]; omega) (by simp only [Od.key]; omega),
        hb _ _ (by decide) (by decide), hb _ _ (by decide) (by decide)]

theorem int_report_ne {k cls code : Nat} (detail inst value : Nat) (hc : cls ≤ 64) (h : k < 0x350000 ∨ 0x356000 ≤ k)
    (h12 : k / 256 ≠ 0x360C) : (s.report cls code detail inst value).int k = s.int k := by
  unfold report
  simp only
  split
  · rw [int_queueReport_ne _ _ (by simp [mkReport]) h, int_gateEvent_ne _ h12,
      int_queueReport_ne _ _ (by simpa [mkReport] using hc) h]
  · rw [int_queueReport_ne _ _ (by simpa [mkReport] using hc) h]

/-- Raising a source writes only the records of the logbook, of the source, and of source 12 where a report is lost. -/
theorem int_raise_ne {k src : Nat} (detail inst value : Nat) (h : k < 0x350000 ∨ 0x356000 ≤ k)
    (hs : k / 256 ≠ 0x3600 + src) (h12 : k / 256 ≠ 0x360C) : (s.raise src detail inst value).int k = s.int k := by
  unfold raise
  simp only
  split
  · rw [int_report_ne _ _ _ _ (classOf_le _) h h12, int_gateEvent_ne _ hs]
  · rw [int_gateEvent_ne _ hs]

/-- The entries a response writes below the logbook: refusal counters, and the session response of CAN0. -/
abbrev respondEntry (k : Nat) : Prop := k = 0x200105 ∨ k = 0x310006 ∨ k = 0x310007 ∨ k = 0x312002

theorem int_answer {k : Nat} (w : Writer) (st : Nat) (data : List Byte) (h : k < 0x350000) (hr : ¬ respondEntry k) :
    (s.answer w st data).int k = s.int k := by
  have hm : (s.mbRespond st data).int k = s.int k := by
    unfold mbRespond mbDeliver
    simp only
    rw [int_raise _ _ _ _ _ h, int_with_host, int_with_host, int_act, int_bump_ne (k := 0x360002) _ (by omega) (by simp [Feeds])]
  unfold answer
  split
  · split
    · exact hm
    · split <;> rfl
  · split
    · exact Eq.trans rfl (int_putBytes_ne (k := 0x312002) s (le 1 st ++ data) (fun e => hr (.inr (.inr (.inr e.symm)))) (by simp [Feeds]))
    · rfl
  · unfold replyAct
    split
    · exact int_act s _ _ k
    · rfl

theorem int_respond {k : Nat} (w : Writer) (st : Nat) (data : List Byte) (h : k < 0x350000) (hr : ¬ respondEntry k) :
    (s.respond w st data).int k = s.int k := by
  simp only [respondEntry, not_or] at hr
  unfold respond
  simp only
  rw [int_answer _ _ _ _ h (by simp only [respondEntry]; omega)]
  split
  · rw [int_trustRefuse _ _ h hr.2.1 hr.2.2.1]
    split
    · rfl
    · exact int_bump_ne _ (Ne.symm hr.1) (by simp [Feeds])
  · split
    · rfl
    · exact int_bump_ne _ (Ne.symm hr.1) (by simp [Feeds])

/-! ### The gate -/

@[simp] theorem msixOne_gate_pend (t : Nat) (due : Bool) : (s.msixOne t due).gate.pend = s.gate.pend := by
  unfold msixOne
  split <;> (try split) <;> rfl
@[simp] theorem setGate_gate_pend (g : Gate) : (s.setGate g).gate.pend = g.pend := by simp [setGate]
@[simp] theorem msixOne_gate_ovr (t : Nat) (due : Bool) : (s.msixOne t due).gate.ovr = s.gate.ovr := by
  unfold msixOne
  split <;> (try split) <;> rfl
@[simp] theorem setGate_gate_ovr (g : Gate) : (s.setGate g).gate.ovr = g.ovr := by simp [setGate]
@[simp] theorem msixOne_gate_mask (t : Nat) (due : Bool) : (s.msixOne t due).gate.mask = s.gate.mask := by
  unfold msixOne
  split <;> (try split) <;> rfl
@[simp] theorem setGate_gate_mask (g : Gate) : (s.setGate g).gate.mask = g.mask := by simp [setGate]
@[simp] theorem msixOne_gate_inServ (t : Nat) (due : Bool) : (s.msixOne t due).gate.inServ = s.gate.inServ := by
  unfold msixOne
  split <;> (try split) <;> rfl
@[simp] theorem setGate_gate_inServ (g : Gate) : (s.setGate g).gate.inServ = g.inServ := by simp [setGate]
@[simp] theorem msixOne_gate_routeLo (t : Nat) (due : Bool) : (s.msixOne t due).gate.routeLo = s.gate.routeLo := by
  unfold msixOne
  split <;> (try split) <;> rfl
@[simp] theorem setGate_gate_routeLo (g : Gate) : (s.setGate g).gate.routeLo = g.routeLo := by simp [setGate]
@[simp] theorem msixOne_gate_routeHi (t : Nat) (due : Bool) : (s.msixOne t due).gate.routeHi = s.gate.routeHi := by
  unfold msixOne
  split <;> (try split) <;> rfl
@[simp] theorem setGate_gate_routeHi (g : Gate) : (s.setGate g).gate.routeHi = g.routeHi := by simp [setGate]
@[simp] theorem msixOne_gate_server (t : Nat) (due : Bool) : (s.msixOne t due).gate.server = s.gate.server := by
  unfold msixOne
  split <;> (try split) <;> rfl
@[simp] theorem setGate_gate_server (g : Gate) : (s.setGate g).gate.server = g.server := by simp [setGate]
@[simp] theorem msixOne_gate_ctrl (t : Nat) (due : Bool) : (s.msixOne t due).gate.ctrl = s.gate.ctrl := by
  unfold msixOne
  split <;> (try split) <;> rfl
@[simp] theorem setGate_gate_ctrl (g : Gate) : (s.setGate g).gate.ctrl = g.ctrl := by simp [setGate]
@[simp] theorem msixOne_gate_vecMask (t : Nat) (due : Bool) : (s.msixOne t due).gate.vecMask = s.gate.vecMask := by
  unfold msixOne
  split <;> (try split) <;> rfl
@[simp] theorem setGate_gate_vecMask (g : Gate) : (s.setGate g).gate.vecMask = g.vecMask := by simp [setGate]
@[simp] theorem msixOne_od (t : Nat) (due : Bool) : (s.msixOne t due).od = s.od := by
  unfold msixOne
  split <;> (try split) <;> rfl
@[simp] theorem setGate_od (g : Gate) : (s.setGate g).od = s.od := by simp [setGate]
@[simp] theorem msixOne_dict (t : Nat) (due : Bool) : (s.msixOne t due).dict = s.dict := by
  unfold msixOne
  split <;> (try split) <;> rfl
@[simp] theorem setGate_dict (g : Gate) : (s.setGate g).dict = s.dict := by simp [setGate]
@[simp] theorem msixOne_mram (t : Nat) (due : Bool) : (s.msixOne t due).mram = s.mram := by
  unfold msixOne
  split <;> (try split) <;> rfl
@[simp] theorem setGate_mram (g : Gate) : (s.setGate g).mram = s.mram := by simp [setGate]
@[simp] theorem msixOne_fuses (t : Nat) (due : Bool) : (s.msixOne t due).fuses = s.fuses := by
  unfold msixOne
  split <;> (try split) <;> rfl
@[simp] theorem setGate_fuses (g : Gate) : (s.setGate g).fuses = s.fuses := by simp [setGate]
@[simp] theorem msixOne_power (t : Nat) (due : Bool) : (s.msixOne t due).power = s.power := by
  unfold msixOne
  split <;> (try split) <;> rfl
@[simp] theorem setGate_power (g : Gate) : (s.setGate g).power = s.power := by simp [setGate]
@[simp] theorem msixOne_clock (t : Nat) (due : Bool) : (s.msixOne t due).clock = s.clock := by
  unfold msixOne
  split <;> (try split) <;> rfl
@[simp] theorem setGate_clock (g : Gate) : (s.setGate g).clock = s.clock := by simp [setGate]
@[simp] theorem msixOne_mu (t : Nat) (due : Bool) : (s.msixOne t due).mu = s.mu := by
  unfold msixOne
  split <;> (try split) <;> rfl
@[simp] theorem setGate_mu (g : Gate) : (s.setGate g).mu = s.mu := by simp [setGate]
@[simp] theorem msixOne_line (t : Nat) (due : Bool) : (s.msixOne t due).line = s.line := by
  unfold msixOne
  split <;> (try split) <;> rfl
@[simp] theorem setGate_line (g : Gate) : (s.setGate g).line = s.line := by simp [setGate]
@[simp] theorem msixOne_host (t : Nat) (due : Bool) : (s.msixOne t due).host = s.host := by
  unfold msixOne
  split <;> (try split) <;> rfl
@[simp] theorem setGate_host (g : Gate) : (s.setGate g).host = s.host := by simp [setGate]
@[simp] theorem msixOne_log (t : Nat) (due : Bool) : (s.msixOne t due).log = s.log := by
  unfold msixOne
  split <;> (try split) <;> rfl
@[simp] theorem setGate_log (g : Gate) : (s.setGate g).log = s.log := by simp [setGate]
@[simp] theorem msixOne_trust (t : Nat) (due : Bool) : (s.msixOne t due).trust = s.trust := by
  unfold msixOne
  split <;> (try split) <;> rfl
@[simp] theorem setGate_trust (g : Gate) : (s.setGate g).trust = s.trust := by simp [setGate]
@[simp] theorem msixOne_video (t : Nat) (due : Bool) : (s.msixOne t due).video = s.video := by
  unfold msixOne
  split <;> (try split) <;> rfl
@[simp] theorem setGate_video (g : Gate) : (s.setGate g).video = s.video := by simp [setGate]
@[simp] theorem msixOne_slices (t : Nat) (due : Bool) : (s.msixOne t due).slices = s.slices := by
  unfold msixOne
  split <;> (try split) <;> rfl
@[simp] theorem setGate_slices (g : Gate) : (s.setGate g).slices = s.slices := by simp [setGate]
@[simp] theorem msixOne_canopen (t : Nat) (due : Bool) : (s.msixOne t due).canopen = s.canopen := by
  unfold msixOne
  split <;> (try split) <;> rfl
@[simp] theorem setGate_canopen (g : Gate) : (s.setGate g).canopen = s.canopen := by simp [setGate]
@[simp] theorem msixOne_wake (t : Nat) (due : Bool) : (s.msixOne t due).wake = s.wake := by
  unfold msixOne
  split <;> (try split) <;> rfl
@[simp] theorem setGate_wake (g : Gate) : (s.setGate g).wake = s.wake := by simp [setGate]
@[simp] theorem msixOne_mooring (t : Nat) (due : Bool) : (s.msixOne t due).mooring = s.mooring := by
  unfold msixOne
  split <;> (try split) <;> rfl
@[simp] theorem setGate_mooring (g : Gate) : (s.setGate g).mooring = s.mooring := by simp [setGate]
@[simp] theorem msixOne_fio (t : Nat) (due : Bool) : (s.msixOne t due).fio = s.fio := by
  unfold msixOne
  split <;> (try split) <;> rfl
@[simp] theorem setGate_fio (g : Gate) : (s.setGate g).fio = s.fio := by simp [setGate]
@[simp] theorem msixOne_pair (t : Nat) (due : Bool) : (s.msixOne t due).pair = s.pair := by
  unfold msixOne
  split <;> (try split) <;> rfl
@[simp] theorem setGate_pair (g : Gate) : (s.setGate g).pair = s.pair := by simp [setGate]
@[simp] theorem msixOne_lock (t : Nat) (due : Bool) : (s.msixOne t due).lock = s.lock := by
  unfold msixOne
  split <;> (try split) <;> rfl
@[simp] theorem setGate_lock (g : Gate) : (s.setGate g).lock = s.lock := by simp [setGate]
@[simp] theorem msixOne_pairing (t : Nat) (due : Bool) : (s.msixOne t due).pairing = s.pairing := by
  unfold msixOne
  split <;> (try split) <;> rfl
@[simp] theorem setGate_pairing (g : Gate) : (s.setGate g).pairing = s.pairing := by simp [setGate]
@[simp] theorem msixOne_unitA (t : Nat) (due : Bool) : (s.msixOne t due).unitA = s.unitA := by
  unfold msixOne
  split <;> (try split) <;> rfl
@[simp] theorem setGate_unitA (g : Gate) : (s.setGate g).unitA = s.unitA := by simp [setGate]

end Sys2Proof.Machine.State
end

