-- ==== Sys2Proof/Laws/KeepLine.lean ====
section
/-!
SUPPORT. What each operation may change: time, making-up and the line. One lemma per operation, by its name with `_keep`.
-/

set_option linter.unusedTactic false
set_option linter.unreachableTactic false
set_option linter.unusedVariables false

namespace Sys2Proof.Machine

theorem State.setPulse_keep {L r s a1 a2} (hl : sub [.clock] L = true) (h : Keep L r s) :
    Keep L r (State.setPulse s a1 a2) := by
  delta State.setPulse
  extract_lets -merge -useContext x0
  exact Keep.upd_clock (sub.trans rfl hl) h


theorem State.pulseInvalid_keep {L r s a1 a2} (hl : sub [.od, .clock] L = true) (h : Keep L r s) :
    Keep L r (State.pulseInvalid s a1 a2) := by
  delta State.pulseInvalid
  extract_lets -merge -useContext x0
  exact State.setPulse_keep (sub.trans rfl hl) (State.put_keep (sub.trans rfl hl) h)


theorem State.arm_keep {L r s a1 a2} (hl : sub [.od, .clock] L = true) (h : Keep L r s) :
    Keep L r (State.arm s a1 a2) := by
  delta State.arm
  extract_lets -merge -useContext x0 x1 x2
  exact Keep.site h (Keep.site (State.pulseInvalid_keep (sub.trans rfl hl) h) (Keep.site (State.setPulse_keep (sub.trans rfl hl) (State.put_keep (sub.trans rfl hl) (State.bump_keep (sub.trans rfl hl) h))) (State.setPulse_keep (sub.trans rfl hl) (State.put_keep (sub.trans rfl hl) h))))


theorem execArm_keep {L r a0 a1 a2 s} (hl : sub [.od, .clock, .host, .gate, .log, .pair, .acts] L = true) (h : Keep L r s) :
    Ends L r (execArm a0 a1 a2 s) := by
  delta execArm
  exact Keep.rnext (State.served_keep (sub.trans rfl hl) h (fun _ h0 => State.accessAct_keep (sub.trans rfl hl) h0 (fun _ h1 => Keep.pair (State.arm_keep (sub.trans rfl hl) h1))))


theorem State.setDomState_keep {L r s a1 a2} (hl : sub [.od, .gate, .log, .acts] L = true) (h : Keep L r s) :
    Keep L r (State.setDomState s a1 a2) := by
  delta State.setDomState
  exact Keep.site h (State.raise_keep (sub.trans rfl hl) (State.put_keep (sub.trans rfl hl) h))


theorem State.domainAbsent_keep {L r s a1} (hl : sub [.od, .clock, .gate, .log, .acts] L = true) (h : Keep L r s) :
    Keep L r (State.domainAbsent s a1) := by
  delta State.domainAbsent
  extract_lets -merge -useContext x0 x2 x4
  have h1 : Keep L r x0 := State.setDomState_keep (sub.trans rfl hl) h
  have h3 : Keep L r x2 := State.put_keep (sub.trans rfl hl) h1
  exact Keep.site (Keep.site (Keep.upd_clock (sub.trans rfl hl) h3) h1) h


theorem execDomainAbsent_keep {L r a0 s} (hl : sub [.od, .clock, .gate, .log, .acts] L = true) (h : Keep L r s) :
    Ends L r (execDomainAbsent a0 s) := by
  delta execDomainAbsent
  exact Keep.rnext (State.served_keep (sub.trans rfl hl) h (fun _ h0 => State.domainAbsent_keep (sub.trans rfl hl) h0))


theorem State.relationStale_keep {L r s a1} (hl : sub [.od, .gate, .log, .acts] L = true) (h : Keep L r s) :
    Keep L r (State.relationStale s a1) := by
  delta State.relationStale
  exact Keep.site (State.setDomState_keep (sub.trans rfl hl) h) h


theorem execDomainRelationStale_keep {L r a0 s} (hl : sub [.od, .gate, .log, .acts] L = true) (h : Keep L r s) :
    Ends L r (execDomainRelationStale a0 s) := by
  delta execDomainRelationStale
  exact Keep.rnext (State.served_keep (sub.trans rfl hl) h (fun _ h0 => State.relationStale_keep (sub.trans rfl hl) h0))


theorem State.gptpAnnounce_keep {L r s a1 a2 a3} (hl : sub [.od] L = true) (h : Keep L r s) :
    Keep L r (State.gptpAnnounce s a1 a2 a3) := by
  delta State.gptpAnnounce
  split
  · exact State.put_keep (sub.trans rfl hl) h
  · exact h


theorem execGptpAnnounceReceived_keep {L r a0 a1 s} (hl : sub [.od] L = true) (h : Keep L r s) :
    Ends L r (execGptpAnnounceReceived a0 a1 s) := by
  delta execGptpAnnounceReceived
  exact Keep.rnext (State.served_keep (sub.trans rfl hl) h (fun _ h0 => State.gptpAnnounce_keep (sub.trans rfl hl) h0))


theorem State.setStar_keep {L r s a1 a2} (hl : sub [.clock] L = true) (h : Keep L r s) :
    Keep L r (State.setStar s a1 a2) := by
  delta State.setStar
  extract_lets -merge -useContext x0
  exact Keep.upd_clock (sub.trans rfl hl) h


theorem State.starLeaves_keep {L r s a1 a2} (hl : sub [.od, .clock] L = true) (h : Keep L r s) :
    Keep L r (State.starLeaves s a1 a2) := by
  delta State.starLeaves
  extract_lets -merge -useContext x0
  exact State.setStar_keep (sub.trans rfl hl) (State.bump_keep (sub.trans rfl hl) h)


theorem State.starQueue_keep {L r s a1 a2} (hl : sub [.clock] L = true) (h : Keep L r s) :
    Keep L r (State.starQueue s a1 a2) := by
  delta State.starQueue
  extract_lets -merge -useContext x0 x1 x2
  exact State.setStar_keep (sub.trans rfl hl) h


theorem State.setGp_keep {L r s a1 a2} (hl : sub [.clock] L = true) (h : Keep L r s) :
    Keep L r (State.setGp s a1 a2) := by
  delta State.setGp
  extract_lets -merge -useContext x0
  exact Keep.upd_clock (sub.trans rfl hl) h


theorem State.usedSequence_keep {L r s a1 a2} (hl : sub [.line] L = true) (h : Keep L r s) :
    Keep L r (State.usedSequence s a1 a2) := by
  delta State.usedSequence
  extract_lets -merge -useContext x0
  exact Keep.upd_line (sub.trans rfl hl) h


theorem State.starSend_keep {L r s a1 a2} (hl : sub [.od, .clock, .line] L = true) (h : Keep L r s) :
    Keep L r (State.starSend s a1 a2) := by
  delta State.starSend
  extract_lets -merge -useContext x0 x1 x2 x4 x5
  have h3 : Keep L r x2 := State.starLeaves_keep (sub.trans rfl hl) (State.tookFree_keep (sub.trans rfl hl) h)
  exact (by
   split
   · exact State.starQueue_keep (sub.trans rfl hl) (State.emit_keep (sub.trans rfl hl) (State.bump_keep (sub.trans rfl hl) h3))
   · exact State.emit_keep (sub.trans rfl hl) (State.setGp_keep (sub.trans rfl hl) h3)
   · exact State.starQueue_keep (sub.trans rfl hl) (State.emit_keep (sub.trans rfl hl) h3)
   · exact State.emit_keep (sub.trans rfl hl) h3
   · exact (by
     extract_lets -merge -useContext x6
     exact State.emit_keep (sub.trans rfl hl) (State.usedSequence_keep (sub.trans rfl hl) h3)))


theorem State.starPump_keep {L r s a1} (hl : sub [.od, .clock, .line] L = true) (h : Keep L r s) :
    Keep L r (State.starPump s a1) := by
  delta State.starPump
  extract_lets -merge -useContext x0
  exact (by
   split
   · exact h
   · exact Keep.site (State.starSend_keep (sub.trans rfl hl) (State.setStar_keep (sub.trans rfl hl) h)) h)


theorem State.starOffer_keep {L r s a1 a2} (hl : sub [.od, .clock, .line] L = true) (h : Keep L r s) :
    Keep L r (State.starOffer s a1 a2) := by
  delta State.starOffer
  exact State.starPump_keep (sub.trans rfl hl) (State.starQueue_keep (sub.trans rfl hl) h)


theorem State.gptpAnnounceSend_keep {L r s a1} (hl : sub [.od, .clock, .line] L = true) (h : Keep L r s) :
    Keep L r (State.gptpAnnounceSend s a1) := by
  delta State.gptpAnnounceSend
  extract_lets -merge -useContext x0 x1
  exact Keep.site (State.starOffer_keep (sub.trans rfl hl) (State.setGp_keep (sub.trans rfl hl) h)) h


theorem execGptpAnnounceSend_keep {L r a0 s} (hl : sub [.od, .clock, .line] L = true) (h : Keep L r s) :
    Ends L r (execGptpAnnounceSend a0 s) := by
  delta execGptpAnnounceSend
  exact Keep.rnext (State.served_keep (sub.trans rfl hl) h (fun _ h0 => State.gptpAnnounceSend_keep (sub.trans rfl hl) h0))


theorem State.gptpFollowUp_keep {L r s a1 a2 a3 a4} (hl : sub [.clock] L = true) (h : Keep L r s) :
    Keep L r (State.gptpFollowUp s a1 a2 a3 a4) := by
  delta State.gptpFollowUp
  extract_lets -merge -useContext x0 x1
  exact (by
   split
   · exact (by
     extract_lets -merge -useContext x2
     exact Keep.site h (State.setGp_keep (sub.trans rfl hl) h))
   · exact h)


theorem execGptpFollowUpReceived_keep {L r a0 a1 a2 s} (hl : sub [.clock] L = true) (h : Keep L r s) :
    Ends L r (execGptpFollowUpReceived a0 a1 a2 s) := by
  delta execGptpFollowUpReceived
  exact Keep.rnext (State.served_keep (sub.trans rfl hl) h (fun _ h0 => State.gptpFollowUp_keep (sub.trans rfl hl) h0))


theorem State.gptpPdelayReq_keep {L r s a1 a2 a3} (hl : sub [.od, .clock, .line] L = true) (h : Keep L r s) :
    Keep L r (State.gptpPdelayReq s a1 a2 a3) := by
  delta State.gptpPdelayReq
  exact Keep.site (State.starOffer_keep (sub.trans rfl hl) h) h


theorem execGptpPdelayReqReceived_keep {L r a0 a1 s} (hl : sub [.od, .clock, .line] L = true) (h : Keep L r s) :
    Ends L r (execGptpPdelayReqReceived a0 a1 s) := by
  delta execGptpPdelayReqReceived
  exact Keep.rnext (State.served_keep (sub.trans rfl hl) h (fun _ h0 => State.gptpPdelayReq_keep (sub.trans rfl hl) h0))


theorem State.gptpPdelayReqSend_keep {L r s a1} (hl : sub [.od, .clock, .line] L = true) (h : Keep L r s) :
    Keep L r (State.gptpPdelayReqSend s a1) := by
  delta State.gptpPdelayReqSend
  extract_lets -merge -useContext x0 x1
  exact Keep.site (State.starOffer_keep (sub.trans rfl hl) (State.setGp_keep (sub.trans rfl hl) h)) h


theorem execGptpPdelayReqSend_keep {L r a0 s} (hl : sub [.od, .clock, .line] L = true) (h : Keep L r s) :
    Ends L r (execGptpPdelayReqSend a0 s) := by
  delta execGptpPdelayReqSend
  exact Keep.rnext (State.served_keep (sub.trans rfl hl) h (fun _ h0 => State.gptpPdelayReqSend_keep (sub.trans rfl hl) h0))


theorem State.gptpPdelayResp_keep {L r s a1 a2 a3 a4} (hl : sub [.od, .clock] L = true) (h : Keep L r s) :
    Keep L r (State.gptpPdelayResp s a1 a2 a3 a4) := by
  delta State.gptpPdelayResp
  extract_lets -merge -useContext x0 x1
  exact (by
   split
   · exact h
   · exact (by
     extract_lets -merge -useContext x2 x3 x5
     have h4 : Keep L r x3 := State.put_keep (sub.trans rfl hl) h
     have h6 : Keep L r x5 := by unfold x5; exact (by
      split
      · exact Keep.site h4 (State.put_keep (sub.trans rfl hl) h4)
      · exact h4)
     exact State.setGp_keep (sub.trans rfl hl) h6))


theorem execGptpPdelayRespReceived_keep {L r a0 a1 a2 a3 s} (hl : sub [.od, .clock] L = true) (h : Keep L r s) :
    Ends L r (execGptpPdelayRespReceived a0 a1 a2 a3 s) := by
  delta execGptpPdelayRespReceived
  exact Keep.rnext (State.served_keep (sub.trans rfl hl) h (fun _ h0 => State.gptpPdelayResp_keep (sub.trans rfl hl) h0))


theorem State.gptpSync_keep {L r s a1 a2 a3 a4} (hl : sub [.clock] L = true) (h : Keep L r s) :
    Keep L r (State.gptpSync s a1 a2 a3 a4) := by
  delta State.gptpSync
  extract_lets -merge -useContext x0 x1
  have h2 : Keep L r x1 := Keep.site (State.setGp_keep (sub.trans rfl hl) h) h
  exact (by
   split
   · exact h
   · exact (by
     extract_lets -merge -useContext x3
     exact Keep.site h (State.setDomain_keep (sub.trans rfl hl) h2)))


theorem execGptpSyncReceived_keep {L r a0 a1 a2 s} (hl : sub [.clock] L = true) (h : Keep L r s) :
    Ends L r (execGptpSyncReceived a0 a1 a2 s) := by
  delta execGptpSyncReceived
  exact Keep.rnext (State.served_keep (sub.trans rfl hl) h (fun _ h0 => State.gptpSync_keep (sub.trans rfl hl) h0))


theorem State.gptpSyncSend_keep {L r s a1} (hl : sub [.od, .clock, .line] L = true) (h : Keep L r s) :
    Keep L r (State.gptpSyncSend s a1) := by
  delta State.gptpSyncSend
  extract_lets -merge -useContext x0 x1
  exact Keep.site (State.starOffer_keep (sub.trans rfl hl) (State.setGp_keep (sub.trans rfl hl) h)) h


theorem execGptpSyncSend_keep {L r a0 s} (hl : sub [.od, .clock, .line] L = true) (h : Keep L r s) :
    Ends L r (execGptpSyncSend a0 s) := by
  delta execGptpSyncSend
  exact Keep.rnext (State.served_keep (sub.trans rfl hl) h (fun _ h0 => State.gptpSyncSend_keep (sub.trans rfl hl) h0))


theorem State.gptpTimeout_keep {L r s a1} (hl : sub [.clock] L = true) (h : Keep L r s) :
    Keep L r (State.gptpTimeout s a1) := by
  delta State.gptpTimeout
  extract_lets -merge -useContext x0
  exact (by
   split
   · exact (by
     extract_lets -merge -useContext x1
     exact State.setDomain_keep (sub.trans rfl hl) (State.setGp_keep (sub.trans rfl hl) h))
   · exact h)


theorem execGptpSyncTimeout_keep {L r a0 s} (hl : sub [.clock] L = true) (h : Keep L r s) :
    Ends L r (execGptpSyncTimeout a0 s) := by
  delta execGptpSyncTimeout
  exact Keep.rnext (State.served_keep (sub.trans rfl hl) h (fun _ h0 => State.gptpTimeout_keep (sub.trans rfl hl) h0))


theorem State.holdoverLimit_keep {L r s} (hl : sub [.od, .gate, .log, .acts] L = true) (h : Keep L r s) :
    Keep L r (State.holdoverLimit s) := by
  delta State.holdoverLimit
  exact Keep.site (State.raise_keep (sub.trans rfl hl) (State.putFlag_keep (sub.trans rfl hl) h)) h


theorem execHoldoverLimitExpired_keep {L r s} (hl : sub [.od, .gate, .log, .acts] L = true) (h : Keep L r s) :
    Ends L r (execHoldoverLimitExpired s) := by
  delta execHoldoverLimitExpired
  exact Keep.rnext (State.served_keep (sub.trans rfl hl) h (fun _ h0 => State.holdoverLimit_keep (sub.trans rfl hl) h0))


theorem State.tellSelection_keep {L r s a1 a2} (hl : sub [.od, .dict, .line, .trust] L = true) (h : Keep L r s) :
    Keep L r (State.tellSelection s a1 a2) := by
  delta State.tellSelection
  exact State.sendMgmt_keep (sub.trans rfl hl) h


theorem State.ntDecide_keep {L r s a1} (hl : sub [.od, .dict, .clock, .line, .trust] L = true) (h : Keep L r s) :
    Keep L r (State.ntDecide s a1) := by
  delta State.ntDecide
  extract_lets -merge -useContext x0 x1 x3
  have h2 : Keep L r x1 := State.tellSelection_keep (sub.trans rfl hl) h
  exact Keep.upd_clock (sub.trans rfl hl) h2


theorem State.ntFallback_keep {L r s} (hl : sub [.od, .dict, .clock, .line, .trust] L = true) (h : Keep L r s) :
    Keep L r (State.ntFallback s) := by
  delta State.ntFallback
  extract_lets -merge -useContext x0
  exact Keep.site (State.ntDecide_keep (sub.trans rfl hl) h) h


theorem execNtFallback_keep {L r s} (hl : sub [.od, .dict, .clock, .line, .trust] L = true) (h : Keep L r s) :
    Ends L r (execNtFallback s) := by
  delta execNtFallback
  exact Keep.rnext (State.served_keep (sub.trans rfl hl) h (fun _ h0 => State.ntFallback_keep (sub.trans rfl hl) h0))


theorem State.ntSlewEnd_keep {L r s} (hl : sub [.od, .clock] L = true) (h : Keep L r s) :
    Keep L r (State.ntSlewEnd s) := by
  delta State.ntSlewEnd
  extract_lets -merge -useContext x0 x2
  have h1 : Keep L r x0 := Keep.site h (State.bump_keep (sub.trans rfl hl) h)
  exact (by
   split
   · exact (by
     extract_lets -merge -useContext x3
     have h4 : Keep L r x3 := State.put_keep (sub.trans rfl hl) h1
     exact Keep.site (Keep.upd_clock (sub.trans rfl hl) h4) h)
   · exact h)


theorem execNtSlewEnd_keep {L r s} (hl : sub [.od, .clock] L = true) (h : Keep L r s) :
    Ends L r (execNtSlewEnd s) := by
  delta execNtSlewEnd
  exact Keep.rnext (State.served_keep (sub.trans rfl hl) h (fun _ h0 => State.ntSlewEnd_keep (sub.trans rfl hl) h0))


theorem State.ntAnchor_keep {L r s a1 a2} (hl : sub [.clock] L = true) (h : Keep L r s) :
    Keep L r (State.ntAnchor s a1 a2) := by
  delta State.ntAnchor
  extract_lets -merge -useContext x0
  exact Keep.upd_clock (sub.trans rfl hl) h


theorem State.ntSlew_keep {L r s a1 a2 a3 a4 a5} (hl : sub [.od, .clock] L = true) (h : Keep L r s) :
    Keep L r (State.ntSlew s a1 a2 a3 a4 a5) := by
  delta State.ntSlew
  extract_lets -merge -useContext x0 x2 x3
  have h1 : Keep L r x0 := State.put_keep (sub.trans rfl hl) h
  have h4 : Keep L r x3 := Keep.upd_clock (sub.trans rfl hl) h1
  exact State.ntAnchor_keep (sub.trans rfl hl) h4


theorem State.ntApply_keep {L r s a1 a2 a3} (hl : sub [.od, .clock, .gate, .log, .acts] L = true) (h : Keep L r s) :
    Keep L r (State.ntApply s a1 a2 a3) := by
  delta State.ntApply
  extract_lets -merge -useContext x0 x1 x2 x3 x4
  have h5 : Keep L r x4 := Keep.upd_clock (sub.trans rfl hl) h
  exact State.raise_keep (sub.trans rfl hl) (State.ntSlew_keep (sub.trans rfl hl) (State.put_keep (sub.trans rfl hl) h5))


theorem State.ntAnnounce_keep {L r s a1 a2 a3} (hl : sub [.od, .clock, .gate, .log, .acts] L = true) (h : Keep L r s) :
    Keep L r (State.ntAnnounce s a1 a2 a3) := by
  delta State.ntAnnounce
  extract_lets -merge -useContext x0 x1
  exact Keep.site (Keep.upd_clock (sub.trans rfl hl) h) (Keep.site (State.ntApply_keep (sub.trans rfl hl) h) (Keep.upd_clock (sub.trans rfl hl) h))


theorem execNtSwitchAnnounce_keep {L r a0 a1 a2 s} (hl : sub [.od, .clock, .gate, .log, .acts] L = true) (h : Keep L r s) :
    Ends L r (execNtSwitchAnnounce a0 a1 a2 s) := by
  delta execNtSwitchAnnounce
  exact Keep.rnext (State.served_keep (sub.trans rfl hl) h (fun _ h0 => State.ntAnnounce_keep (sub.trans rfl hl) h0))


theorem State.ntInstant_keep {L r s} (hl : sub [.od, .clock, .gate, .log, .acts] L = true) (h : Keep L r s) :
    Keep L r (State.ntInstant s) := by
  delta State.ntInstant
  split
  · exact State.ntApply_keep (sub.trans rfl hl) h
  · exact h


theorem execNtSwitchInstant_keep {L r s} (hl : sub [.od, .clock, .gate, .log, .acts] L = true) (h : Keep L r s) :
    Ends L r (execNtSwitchInstant s) := by
  delta execNtSwitchInstant
  exact Keep.rnext (State.served_keep (sub.trans rfl hl) h (fun _ h0 => State.ntInstant_keep (sub.trans rfl hl) h0))


theorem State.keepVals_keep {L r s} (hl : sub [.clock] L = true) (h : Keep L r s) :
    Keep L r (State.keepVals s) := by
  delta State.keepVals
  extract_lets -merge -useContext x0 x1
  exact Keep.upd_clock (sub.trans rfl hl) h


theorem State.enterHoldover_keep {L r s} (hl : sub [.od, .clock, .gate, .log, .acts] L = true) (h : Keep L r s) :
    Keep L r (State.enterHoldover s) := by
  delta State.enterHoldover
  extract_lets -merge -useContext x0 x2
  have h1 : Keep L r x0 := State.raise_keep (sub.trans rfl hl) (State.put_keep (sub.trans rfl hl) h)
  exact Keep.upd_clock (sub.trans rfl hl) h1


theorem State.enterSync_keep {L r s} (hl : sub [.od] L = true) (h : Keep L r s) :
    Keep L r (State.enterSync s) := by
  delta State.enterSync
  exact State.putFlag_keep (sub.trans rfl hl) (State.put_keep (sub.trans rfl hl) h)


theorem State.avgState_keep {L r s a1 a2} (hl : sub [.od, .clock, .gate, .log, .acts] L = true) (h : Keep L r s) :
    Keep L r (State.avgState s a1 a2) := by
  delta State.avgState
  exact Keep.site (Keep.site (Keep.site (State.enterHoldover_keep (sub.trans rfl hl) h) (Keep.site (State.enterSync_keep (sub.trans rfl hl) h) h)) h) (Keep.site (Keep.site (State.enterHoldover_keep (sub.trans rfl hl) h) h) (Keep.site (Keep.site (State.enterSync_keep (sub.trans rfl hl) h) h) h))


theorem State.offsetCorrection_keep {L r s} (hl : sub [.od, .clock, .mu, .line, .gate, .log, .acts] L = true) (h : Keep L r s) :
    Keep L r (State.offsetCorrection s) := by
  delta State.offsetCorrection
  extract_lets -merge -useContext x0 x1 x2 x3 x4 x5 x6 x7 x9 x11 x13 x15 x17 x18
  have h8 : Keep L r x7 := State.put_keep (sub.trans rfl hl) (State.put_keep (sub.trans rfl hl) h)
  have h10 : Keep L r x9 := Keep.site (State.put_keep (sub.trans rfl hl) h8) h8
  have h12 : Keep L r x11 := Keep.site (State.bump_keep (sub.trans rfl hl) h10) h10
  have h14 : Keep L r x13 := Keep.site (State.bump_keep (sub.trans rfl hl) h12) h12
  have h16 : Keep L r x15 := State.keepVals_keep (sub.trans rfl hl) h14
  have h19 : Keep L r x18 := Keep.upd_clock (sub.trans rfl hl) h16
  exact Keep.site h (Keep.site (State.timeOut_keep (sub.trans rfl hl) h19) (State.avgState_keep (sub.trans rfl hl) h19))


theorem execOffsetCorrection_keep {L r s} (hl : sub [.od, .clock, .mu, .line, .gate, .log, .acts] L = true) (h : Keep L r s) :
    Ends L r (execOffsetCorrection s) := by
  delta execOffsetCorrection
  exact Keep.rnext (State.served_keep (sub.trans rfl hl) h (fun _ h0 => State.offsetCorrection_keep (sub.trans rfl hl) h0))


theorem State.peerDelayFailure_keep {L r s a1} (hl : sub [.od, .clock] L = true) (h : Keep L r s) :
    Keep L r (State.peerDelayFailure s a1) := by
  delta State.peerDelayFailure
  extract_lets -merge -useContext x0
  exact State.setGp_keep (sub.trans rfl hl) (State.bump_keep (sub.trans rfl hl) h)


theorem execPeerDelayFailure_keep {L r a0 s} (hl : sub [.od, .clock] L = true) (h : Keep L r s) :
    Ends L r (execPeerDelayFailure a0 s) := by
  delta execPeerDelayFailure
  exact Keep.rnext (State.served_keep (sub.trans rfl hl) h (fun _ h0 => State.peerDelayFailure_keep (sub.trans rfl hl) h0))


theorem State.relationWrite_keep {L r s a1 a2 a3 a4} (hl : sub [.od, .clock, .gate, .log, .acts] L = true) (h : Keep L r s) :
    Keep L r (State.relationWrite s a1 a2 a3 a4) := by
  delta State.relationWrite
  extract_lets -merge -useContext x0 x2
  have h1 : Keep L r x0 := State.bump_keep (sub.trans rfl hl) (State.put_keep (sub.trans rfl hl) (State.putBytes_keep (sub.trans rfl hl) (State.put_keep (sub.trans rfl hl) h)))
  exact Keep.site (State.setDomState_keep (sub.trans rfl hl) (State.setDomain_keep (sub.trans rfl hl) h1)) h


theorem execRelationWrite_keep {L r a0 a1 a2 a3 s} (hl : sub [.od, .clock, .gate, .log, .acts] L = true) (h : Keep L r s) :
    Ends L r (execRelationWrite a0 a1 a2 a3 s) := by
  delta execRelationWrite
  exact Keep.rnext (State.served_keep (sub.trans rfl hl) h (fun _ h0 => State.relationWrite_keep (sub.trans rfl hl) h0))


theorem State.setFifo_keep {L r s a1 a2} (hl : sub [.clock] L = true) (h : Keep L r s) :
    Keep L r (State.setFifo s a1 a2) := by
  delta State.setFifo
  extract_lets -merge -useContext x0
  exact Keep.upd_clock (sub.trans rfl hl) h


theorem execRemoveOldest_keep {L r a0 a1 a2 s} (hl : sub [.od, .clock, .host, .gate, .log, .pair, .acts] L = true) (h : Keep L r s) :
    Ends L r (execRemoveOldest a0 a1 a2 s) := by
  delta execRemoveOldest
  exact Keep.rnext (State.served_keep (sub.trans rfl hl) h (fun _ h0 => State.accessAct_keep (sub.trans rfl hl) h0 (fun _ h1 => Keep.pair (State.setFifo_keep (sub.trans rfl hl) h1))))


theorem State.selectionRequest_keep {L r s a1} (hl : sub [.od, .dict, .clock, .line, .trust] L = true) (h : Keep L r s) :
    Keep L r (State.selectionRequest s a1).1 := by
  delta State.selectionRequest
  extract_lets -merge -useContext x0
  exact Keep.pite (Keep.pair (State.ntDecide_keep (sub.trans rfl hl) h)) (Keep.pair (State.sendMgmt_keep (sub.trans rfl hl) h))


theorem execSelectionRequest_keep {L r a0 a1 s} (hl : sub [.od, .dict, .clock, .line, .host, .gate, .log, .trust, .pair, .acts] L = true) (h : Keep L r s) :
    Ends L r (execSelectionRequest a0 a1 s) := by
  delta execSelectionRequest
  exact Keep.rnext (State.served_keep (sub.trans rfl hl) h (fun _ h0 => State.accessAct_keep (sub.trans rfl hl) h0 (fun _ h1 => State.selectionRequest_keep (sub.trans rfl hl) h1)))


theorem State.capPush_keep {L r s a1 a2} (hl : sub [.od, .clock, .gate, .log, .acts] L = true) (h : Keep L r s) :
    Keep L r (State.capPush s a1 a2) := by
  delta State.capPush
  extract_lets -merge -useContext x0
  exact Keep.site (State.bump_keep (sub.trans rfl hl) h) (State.raise_keep (sub.trans rfl hl) (State.bump_keep (sub.trans rfl hl) (State.setFifo_keep (sub.trans rfl hl) h)))


theorem State.captureEdge_keep {L r s a1 a2 a3} (hl : sub [.od, .power, .clock, .gate, .log, .pair, .acts] L = true) (h : Keep L r s) :
    Keep L r (State.captureEdge s a1 a2 a3) := by
  delta State.captureEdge
  extract_lets -merge -useContext x0 x1 x2 x3 x4
  exact Keep.site (Keep.upd_power (sub.trans rfl hl) h) (Keep.site (State.replicate_keep (sub.trans rfl hl) h (fun _ h5 => State.capPush_keep (sub.trans rfl hl) h5)) h)


theorem execTimeCaptureEdge_keep {L r a0 a1 a2 s} (hl : sub [.od, .power, .clock, .gate, .log, .pair, .acts] L = true) (h : Keep L r s) :
    Ends L r (execTimeCaptureEdge a0 a1 a2 s) := by
  delta execTimeCaptureEdge
  exact Keep.rnext (State.captureEdge_keep (sub.trans rfl hl) h)


theorem State.placeEdge_keep {L r s a1 a2 a3 a4} (hl : sub [.clock, .acts] L = true) (h : Keep L r s) :
    Keep L r (State.placeEdge s a1 a2 a3 a4) := by
  delta State.placeEdge
  extract_lets -merge -useContext x0 x1
  exact State.setPulse_keep (sub.trans rfl hl) (State.act_keep (sub.trans rfl hl) h)


theorem State.pulseEdge_keep {L r s a1} (hl : sub [.od, .clock, .acts] L = true) (h : Keep L r s) :
    Keep L r (State.pulseEdge s a1) := by
  delta State.pulseEdge
  extract_lets -merge -useContext x0 x1
  exact (by
   split
   · exact h
   · exact (by
     extract_lets -merge -useContext x2 x4 x5
     have h3 : Keep L r x2 := State.placeEdge_keep (sub.trans rfl hl) (State.bump_keep (sub.trans rfl hl) h)
     exact Keep.site (State.pulseInvalid_keep (sub.trans rfl hl) h) (Keep.site (State.setPulse_keep (sub.trans rfl hl) (State.put_keep (sub.trans rfl hl) h3)) (State.setPulse_keep (sub.trans rfl hl) (State.put_keep (sub.trans rfl hl) h3)))))


theorem execTimePulseEdge_keep {L r a0 s} (hl : sub [.od, .clock, .acts] L = true) (h : Keep L r s) :
    Ends L r (execTimePulseEdge a0 s) := by
  delta execTimePulseEdge
  exact Keep.rnext (State.served_keep (sub.trans rfl hl) h (fun _ h0 => State.pulseEdge_keep (sub.trans rfl hl) h0))


theorem State.pulseEnd_keep {L r s a1} (hl : sub [.clock] L = true) (h : Keep L r s) :
    Keep L r (State.pulseEnd s a1) := by
  delta State.pulseEnd
  extract_lets -merge -useContext x0
  exact State.setPulse_keep (sub.trans rfl hl) h


theorem execTimePulseEnd_keep {L r a0 s} (hl : sub [.clock] L = true) (h : Keep L r s) :
    Ends L r (execTimePulseEnd a0 s) := by
  delta execTimePulseEnd
  exact Keep.rnext (State.served_keep (sub.trans rfl hl) h (fun _ h0 => State.pulseEnd_keep (sub.trans rfl hl) h0))


theorem State.tmSnap_keep {L r s} (hl : sub [.clock] L = true) (h : Keep L r s) :
    Keep L r (State.tmSnap s) := by
  delta State.tmSnap
  extract_lets -merge -useContext x0
  exact Keep.upd_clock (sub.trans rfl hl) h


theorem execTmSnap_keep {L r a0 s} (hl : sub [.clock] L = true) (h : Keep L r s) :
    Ends L r (execTmSnap a0 s) := by
  delta execTmSnap
  exact State.atHost_keep (sub.trans rfl hl) h (fun _ h0 => Keep.site (State.tmSnap_keep (sub.trans rfl hl) h0) h0)


theorem State.captureLatched_keep {L r s a1} (hl : sub [.od, .power, .clock, .gate, .log, .acts] L = true) (h : Keep L r s) :
    Keep L r (State.captureLatched s a1) := by
  delta State.captureLatched
  extract_lets -merge -useContext x0 x1
  have h2 : Keep L r x1 := Keep.upd_power (sub.trans rfl hl) h
  exact Keep.site (Keep.site (State.capPush_keep (sub.trans rfl hl) h2) h2) h


theorem State.ntStart_keep {L r s} (hl : sub [.od, .clock] L = true) (h : Keep L r s) :
    Keep L r (State.ntStart s) := by
  delta State.ntStart
  extract_lets -merge -useContext x0
  exact (by
   split
   · exact h
   · exact (by
     extract_lets -merge -useContext x1
     have h2 : Keep L r x1 := State.put_keep (sub.trans rfl hl) h
     exact Keep.site (Keep.upd_clock (sub.trans rfl hl) h2) h))


theorem State.domStep_keep {L r s a1 a2} (hl : sub [.od, .clock] L = true) (h : Keep L r s) :
    Keep L r (State.domStep s a1 a2) := by
  delta State.domStep
  extract_lets -merge -useContext x0 x1 x2 x3 x4 x5 x6 x8 x9
  have h7 : Keep L r x6 := State.setDomain_keep (sub.trans rfl hl) h
  have h10 : Keep L r x9 := Keep.upd_clock (sub.trans rfl hl) h7
  exact Keep.site (Keep.site (State.ntSlew_keep (sub.trans rfl hl) h10) (State.ntAnchor_keep (sub.trans rfl hl) h10)) h10


theorem State.domPassage_keep {L r s a1} (hl : sub [.od, .clock] L = true) (h : Keep L r s) :
    Keep L r (State.domPassage s a1) := by
  delta State.domPassage
  extract_lets -merge -useContext x0 x1 x2 x3 x4 x5 x6
  have h7 : Keep L r x6 := State.setDomain_keep (sub.trans rfl hl) h
  exact Keep.site h (Keep.site (State.domStep_keep (sub.trans rfl hl) h) (Keep.site (State.ntAnchor_keep (sub.trans rfl hl) h7) h7))


theorem State.clockPassage_keep {L r s a1} (hl : sub [.od, .clock] L = true) (h : Keep L r s) :
    Keep L r (State.clockPassage s a1) := by
  delta State.clockPassage
  extract_lets -merge -useContext x0 x1 x2 x4
  have h3 : Keep L r x2 := State.put_keep (sub.trans rfl hl) h
  have h5 : Keep L r x4 := Keep.upd_clock (sub.trans rfl hl) h3
  exact Keep.site (State.put_keep (sub.trans rfl hl) h) (State.ntStart_keep (sub.trans rfl hl) (State.domPassage_keep (sub.trans rfl hl) (State.domPassage_keep (sub.trans rfl hl) h5)))


theorem State.ctStep_keep {L r s a1 a2} (hl : sub [.od, .clock] L = true) (h : Keep L r s) :
    Keep L r (State.ctStep s a1 a2) := by
  delta State.ctStep
  extract_lets -merge -useContext x0 x1 x2 x3 x4 x5 x7
  have h6 : Keep L r x5 := Keep.upd_clock (sub.trans rfl hl) h
  have h8 : Keep L r x7 := by unfold x7; exact (by
   split
   · exact State.ntAnchor_keep (sub.trans rfl hl) h6
   · exact h6)
  exact State.bump_keep (sub.trans rfl hl) (State.put_keep (sub.trans rfl hl) (State.put_keep (sub.trans rfl hl) h8))


theorem State.dropDrifts_keep {L r s} (hl : sub [.clock] L = true) (h : Keep L r s) :
    Keep L r (State.dropDrifts s) := by
  delta State.dropDrifts
  extract_lets -merge -useContext x0
  exact Keep.upd_clock (sub.trans rfl hl) h


theorem State.pulseCommit_keep {L r s a1} (hl : sub [.od, .clock] L = true) (h : Keep L r s) :
    Keep L r (State.pulseCommit s a1) := by
  delta State.pulseCommit
  extract_lets -merge -useContext x0 x1 x2 x3 x4 x6 x7 x8 x9 x10 x11 x13
  have h5 : Keep L r x4 := State.setPulse_keep (sub.trans rfl hl) h
  have h12 : Keep L r x11 := Keep.site (State.bump_keep (sub.trans rfl hl) h5) h5
  exact Keep.site h (Keep.site (State.setPulse_keep (sub.trans rfl hl) (State.put_keep (sub.trans rfl hl) h)) (Keep.site (State.pulseInvalid_keep (sub.trans rfl hl) h5) (Keep.site (Keep.site (State.setPulse_keep (sub.trans rfl hl) (State.put_keep (sub.trans rfl hl) h5)) (Keep.site (State.setPulse_keep (sub.trans rfl hl) (State.put_keep (sub.trans rfl hl) (State.bump_keep (sub.trans rfl hl) h5))) (State.setPulse_keep (sub.trans rfl hl) (State.put_keep (sub.trans rfl hl) h5)))) (State.setPulse_keep (sub.trans rfl hl) (State.put_keep (sub.trans rfl hl) h12)))))


theorem State.pulseOwners_keep {L r s} (hl : sub [.od, .clock] L = true) (h : Keep L r s) :
    Keep L r (State.pulseOwners s) := by
  delta State.pulseOwners
  exact Keep.foldl (fun _ _ h0 => (by
 extract_lets -merge -useContext x1 x2
 exact State.setPulse_keep (sub.trans rfl hl) (State.put_keep (sub.trans rfl hl) h0))) h


theorem State.pulseReplace_keep {L r s a1} (hl : sub [.od, .clock] L = true) (h : Keep L r s) :
    Keep L r (State.pulseReplace s a1) := by
  delta State.pulseReplace
  extract_lets -merge -useContext x0 x1 x2
  exact Keep.site h (Keep.site (State.pulseInvalid_keep (sub.trans rfl hl) h) (Keep.site ((by
   split
   · exact Keep.site (State.put_keep (sub.trans rfl hl) h) h
   · exact Keep.site (State.setPulse_keep (sub.trans rfl hl) (State.put_keep (sub.trans rfl hl) h)) (State.put_keep (sub.trans rfl hl) h))) (State.setPulse_keep (sub.trans rfl hl) (State.put_keep (sub.trans rfl hl) h))))


theorem State.rateCorrection_keep {L r s} (hl : sub [.od, .clock, .mu, .line, .gate, .log, .acts] L = true) (h : Keep L r s) :
    Keep L r (State.rateCorrection s) := by
  delta State.rateCorrection
  extract_lets -merge -useContext x0 x1 x2 x3 x4 x6 x7
  have h5 : Keep L r x4 := State.put_keep (sub.trans rfl hl) (State.put_keep (sub.trans rfl hl) (State.put_keep (sub.trans rfl hl) h))
  have h8 : Keep L r x7 := State.dropDrifts_keep (sub.trans rfl hl) (Keep.upd_clock (sub.trans rfl hl) h5)
  exact Keep.site (Keep.site (State.timeOut_keep (sub.trans rfl hl) h8) h8) (State.dropDrifts_keep (sub.trans rfl hl) h)


theorem State.bootStep_keep {L r s a1} (hl : sub [.od] L = true) (h : Keep L r s) :
    Keep L r (State.bootStep s a1) := by
  delta State.bootStep
  exact Keep.site h (State.put_keep (sub.trans rfl hl) h)


theorem State.refreshTables_keep {L r s} (hl : sub [.od, .line] L = true) (h : Keep L r s) :
    Keep L r (State.refreshTables s) := by
  delta State.refreshTables
  extract_lets -merge -useContext x0 x1 x2 x3 x4 x5 x6 x7 x9 x11
  have h8 : Keep L r x7 := Keep.upd_line (sub.trans rfl hl) h
  have h10 : Keep L r x9 := State.put_keep (sub.trans rfl hl) (State.put_keep (sub.trans rfl hl) (State.put_keep (sub.trans rfl hl) (State.put_keep (sub.trans rfl hl) h8)))
  have h12 : Keep L r x11 := State.put_keep (sub.trans rfl hl) h10
  exact Keep.foldl (fun _ _ h13 => State.putBytes_keep (sub.trans rfl hl) h13) h12


theorem State.muProgress_keep {L r s a1} (hl : sub [.od] L = true) (h : Keep L r s) :
    Keep L r (State.muProgress s a1) := by
  delta State.muProgress
  exact State.opProgress_keep (sub.trans rfl hl) (State.put_keep (sub.trans rfl hl) h)


theorem State.stepGather_keep {L r s} (hl : sub [.od, .mu] L = true) (h : Keep L r s) :
    Keep L r (State.stepGather s) := by
  delta State.stepGather
  extract_lets -merge -useContext x0 x1 x2 x4 x5 x7
  have h3 : Keep L r x2 := State.muProgress_keep (sub.trans rfl hl) (State.put_keep (sub.trans rfl hl) h)
  have h6 : Keep L r x5 := State.muProgress_keep (sub.trans rfl hl) (State.put_keep (sub.trans rfl hl) (State.put_keep (sub.trans rfl hl) h3))
  exact Keep.site (Keep.upd_mu (sub.trans rfl hl) h6) h3


theorem State.schedule_keep {L r s a1} (hl : sub [.od, .mu] L = true) (h : Keep L r s) :
    Keep L r (State.schedule s a1) := by
  delta State.schedule
  extract_lets -merge -useContext x0 x2
  have h1 : Keep L r x0 := State.muProgress_keep (sub.trans rfl hl) (State.put_keep (sub.trans rfl hl) (State.put_keep (sub.trans rfl hl) h))
  exact Keep.upd_mu (sub.trans rfl hl) h1


theorem State.stepAgree_keep {L r s} (hl : sub [.od, .mu] L = true) (h : Keep L r s) :
    Keep L r (State.stepAgree s) := by
  delta State.stepAgree
  extract_lets -merge -useContext x0 x2
  have h1 : Keep L r x0 := State.muProgress_keep (sub.trans rfl hl) h
  exact (by
   split
   · exact h
   · exact (by
     extract_lets -merge -useContext x3 x4
     have h5 : Keep L r x4 := Keep.site (Keep.upd_mu (sub.trans rfl hl) h1) h
     exact Keep.site (Keep.site (State.schedule_keep (sub.trans rfl hl) h) h) ((by
      split
      · exact State.schedule_keep (sub.trans rfl hl) h5
      · exact h5))))


theorem State.evaluate_keep {L r s} (hl : sub [.od, .mu] L = true) (h : Keep L r s) :
    Keep L r (State.evaluate s) := by
  delta State.evaluate
  extract_lets -merge -useContext x0 x2
  have h1 : Keep L r x0 := State.put_keep (sub.trans rfl hl) h
  have h3 : Keep L r x2 := Keep.site (State.stepGather_keep (sub.trans rfl hl) h1) h1
  exact Keep.site (State.stepAgree_keep (sub.trans rfl hl) h3) h3


theorem State.clearHeard_keep {L r s} (hl : sub [.line] L = true) (h : Keep L r s) :
    Keep L r (State.clearHeard s) := by
  delta State.clearHeard
  exact Keep.foldl (fun _ _ h0 => (by
 extract_lets -merge -useContext x1
 exact State.setPl_keep (sub.trans rfl hl) h0)) h


theorem State.gather_keep {L r s a1} (hl : sub [.od, .mu, .line, .gate, .log, .acts] L = true) (h : Keep L r s) :
    Keep L r (State.gather s a1) := by
  delta State.gather
  extract_lets -merge -useContext x0 x1 x3 x5 x7 x8
  have h2 : Keep L r x1 := State.put_keep (sub.trans rfl hl) (State.put_keep (sub.trans rfl hl) (State.put_keep (sub.trans rfl hl) (State.put_keep (sub.trans rfl hl) h)))
  have h4 : Keep L r x3 := State.muProgress_keep (sub.trans rfl hl) (State.opStart_keep (sub.trans rfl hl) h2)
  have h6 : Keep L r x5 := State.clearHeard_keep (sub.trans rfl hl) h4
  have h9 : Keep L r x8 := Keep.upd_mu (sub.trans rfl hl) h6
  exact Keep.site h (Keep.site (State.raise_keep (sub.trans rfl hl) h9) h9)


theorem State.takeGeneration_keep {L r s a1} (hl : sub [.od, .mu, .line, .gate, .log, .acts] L = true) (h : Keep L r s) :
    Keep L r (State.takeGeneration s a1) := by
  delta State.takeGeneration
  extract_lets -merge -useContext x0
  exact Keep.site (Keep.site (Keep.upd_mu (sub.trans rfl hl) h) h) (State.gather_keep (sub.trans rfl hl) h)


theorem State.trigger_keep {L r s a1} (hl : sub [.od, .mu, .line, .gate, .log, .acts] L = true) (h : Keep L r s) :
    Keep L r (State.trigger s a1) := by
  delta State.trigger
  extract_lets -merge -useContext x0 x2 x3
  have h1 : Keep L r x0 := State.put_keep (sub.trans rfl hl) h
  have h4 : Keep L r x3 := Keep.upd_mu (sub.trans rfl hl) h1
  exact Keep.site h1 (State.takeGeneration_keep (sub.trans rfl hl) h4)


theorem State.trigEval_keep {L r s a1} (hl : sub [.od, .mu, .line, .gate, .log, .acts] L = true) (h : Keep L r s) :
    Keep L r (State.trigEval s a1) := by
  delta State.trigEval
  exact State.evaluate_keep (sub.trans rfl hl) (State.trigger_keep (sub.trans rfl hl) h)


theorem State.activeCab_keep {L r s a1} (hl : sub [.od, .mu, .line, .gate, .log, .acts] L = true) (h : Keep L r s) :
    Keep L r (State.activeCab s a1) := by
  delta State.activeCab
  extract_lets -merge -useContext x0 x1
  exact Keep.site h (State.trigEval_keep (sub.trans rfl hl) (Keep.upd_mu (sub.trans rfl hl) h))


theorem execActiveCabChange_keep {L r a0 s} (hl : sub [.od, .mu, .line, .gate, .log, .acts] L = true) (h : Keep L r s) :
    Ends L r (execActiveCabChange a0 s) := by
  delta execActiveCabChange
  exact Keep.rnext (State.served_keep (sub.trans rfl hl) h (fun _ h0 => State.activeCab_keep (sub.trans rfl hl) h0))


theorem State.holdAdoption_keep {L r s a1 a2} (hl : sub [.mu] L = true) (h : Keep L r s) :
    Keep L r (State.holdAdoption s a1 a2) := by
  delta State.holdAdoption
  extract_lets -merge -useContext x0
  exact Keep.upd_mu (sub.trans rfl hl) h


theorem State.adoptionMeasured_keep {L r s} (hl : sub [.mu] L = true) (h : Keep L r s) :
    Keep L r (State.adoptionMeasured s) := by
  delta State.adoptionMeasured
  extract_lets -merge -useContext x0 x1 x2 x3 x4 x5 x6 x8
  have h7 : Keep L r x6 := State.holdAdoption_keep (sub.trans rfl hl) h
  exact Keep.site h (Keep.upd_mu (sub.trans rfl hl) h7)


theorem execAdoptionMeasurementEnd_keep {L r s} (hl : sub [.mu] L = true) (h : Keep L r s) :
    Ends L r (execAdoptionMeasurementEnd s) := by
  delta execAdoptionMeasurementEnd
  exact Keep.rnext (State.served_keep (sub.trans rfl hl) h (fun _ h0 => State.adoptionMeasured_keep (sub.trans rfl hl) h0))


theorem State.firstOrder_keep {L r s} (hl : sub [.od] L = true) (h : Keep L r s) :
    Keep L r (State.firstOrder s) := by
  delta State.firstOrder
  exact Keep.site h (State.put_keep (sub.trans rfl hl) h)


theorem State.enterRunning_keep {L r s a1} (hl : sub [.od, .mu, .line, .gate, .log, .acts] L = true) (h : Keep L r s) :
    Keep L r (State.enterRunning s a1) := by
  delta State.enterRunning
  extract_lets -merge -useContext x0 x2 x3 x5
  have h1 : Keep L r x0 := State.bootStep_keep (sub.trans rfl hl) (State.put_keep (sub.trans rfl hl) h)
  have h4 : Keep L r x3 := Keep.upd_mu (sub.trans rfl hl) h1
  have h6 : Keep L r x5 := State.firstOrder_keep (sub.trans rfl hl) h4
  exact Keep.site (State.trigEval_keep (sub.trans rfl hl) h6) (State.evaluate_keep (sub.trans rfl hl) h6)


theorem State.attemptComplete_keep {L r s} (hl : sub [.od, .mu, .line, .gate, .log, .acts] L = true) (h : Keep L r s) :
    Keep L r (State.attemptComplete s) := by
  delta State.attemptComplete
  exact Keep.site (State.enterRunning_keep (sub.trans rfl hl) h) h


theorem execAttemptComplete_keep {L r s} (hl : sub [.od, .mu, .line, .gate, .log, .acts] L = true) (h : Keep L r s) :
    Ends L r (execAttemptComplete s) := by
  delta execAttemptComplete
  exact Keep.rnext (State.served_keep (sub.trans rfl hl) h (fun _ h0 => State.attemptComplete_keep (sub.trans rfl hl) h0))


theorem State.integrateTimeout_keep {L r s} (hl : sub [.od, .mu] L = true) (h : Keep L r s) :
    Keep L r (State.integrateTimeout s) := by
  delta State.integrateTimeout
  extract_lets -merge -useContext x0 x2
  have h1 : Keep L r x0 := State.put_keep (sub.trans rfl hl) h
  exact Keep.site (Keep.upd_mu (sub.trans rfl hl) h1) h


theorem execIntegrateTimeout_keep {L r s} (hl : sub [.od, .mu] L = true) (h : Keep L r s) :
    Ends L r (execIntegrateTimeout s) := by
  delta execIntegrateTimeout
  exact Keep.rnext (State.served_keep (sub.trans rfl hl) h (fun _ h0 => State.integrateTimeout_keep (sub.trans rfl hl) h0))


theorem State.linkLost_keep {L r s a1} (hl : sub [.od, .line, .trust] L = true) (h : Keep L r s) :
    Keep L r (State.linkLost s a1) := by
  delta State.linkLost
  extract_lets -merge -useContext x0 x1 x2 x4 x6 x8
  have h3 : Keep L r x2 := State.put_keep (sub.trans rfl hl) (State.dropKey_keep (sub.trans rfl hl) h)
  have h5 : Keep L r x4 := State.put_keep (sub.trans rfl hl) (State.put_keep (sub.trans rfl hl) (State.put_keep (sub.trans rfl hl) (State.put_keep (sub.trans rfl hl) (State.put_keep (sub.trans rfl hl) h3))))
  have h7 : Keep L r x6 := State.setPl_keep (sub.trans rfl hl) (State.put_keep (sub.trans rfl hl) h5)
  exact Keep.upd_line (sub.trans rfl hl) h7


theorem State.setLink_keep {L r s a1 a2} (hl : sub [.od, .gate, .log, .acts] L = true) (h : Keep L r s) :
    Keep L r (State.setLink s a1 a2) := by
  delta State.setLink
  exact Keep.site h (State.raise_keep (sub.trans rfl hl) (State.put_keep (sub.trans rfl hl) h))


theorem State.linkDown_keep {L r s a1} (hl : sub [.od, .mu, .line, .gate, .log, .trust, .acts] L = true) (h : Keep L r s) :
    Keep L r (State.linkDown s a1) := by
  delta State.linkDown
  extract_lets -merge -useContext x0 x1 x2
  have h3 : Keep L r x2 := Keep.site (State.emit_keep (sub.trans rfl hl) (State.bump_keep (sub.trans rfl hl) (State.bump_keep (sub.trans rfl hl) h))) h
  exact Keep.site (State.trigEval_keep (sub.trans rfl hl) (State.linkLost_keep (sub.trans rfl hl) (State.setLink_keep (sub.trans rfl hl) (State.bump_keep (sub.trans rfl hl) h3)))) h


theorem execLinkDown_keep {L r a0 s} (hl : sub [.od, .mu, .line, .gate, .log, .trust, .acts] L = true) (h : Keep L r s) :
    Ends L r (execLinkDown a0 s) := by
  delta execLinkDown
  exact Keep.rnext (State.served_keep (sub.trans rfl hl) h (fun _ h0 => State.linkDown_keep (sub.trans rfl hl) h0))


theorem State.limitCleared_keep {L r s a1} (hl : sub [.od, .gate, .log, .acts] L = true) (h : Keep L r s) :
    Keep L r (State.limitCleared s a1) := by
  delta State.limitCleared
  exact Keep.site (State.setLink_keep (sub.trans rfl hl) h) h


theorem execLinkLimitCleared_keep {L r a0 s} (hl : sub [.od, .gate, .log, .acts] L = true) (h : Keep L r s) :
    Ends L r (execLinkLimitCleared a0 s) := by
  delta execLinkLimitCleared
  exact Keep.rnext (State.served_keep (sub.trans rfl hl) h (fun _ h0 => State.limitCleared_keep (sub.trans rfl hl) h0))


theorem State.linkUp_keep {L r s a1 a2} (hl : sub [.od, .mu, .line, .gate, .log, .trust, .mooring, .acts] L = true) (h : Keep L r s) :
    Keep L r (State.linkUp s a1 a2) := by
  delta State.linkUp
  extract_lets -merge -useContext x0 x1 x3 x4 x6
  have h2 : Keep L r x1 := State.bump_keep (sub.trans rfl hl) (State.put_keep (sub.trans rfl hl) h)
  have h5 : Keep L r x4 := Keep.upd_mooring (sub.trans rfl hl) h2
  have h7 : Keep L r x6 := State.setLink_keep (sub.trans rfl hl) h5
  exact Keep.site h (State.trigEval_keep (sub.trans rfl hl) (State.authStart_keep (sub.trans rfl hl) h7))


theorem execLinkUp_keep {L r a0 a1 s} (hl : sub [.od, .mu, .line, .gate, .log, .trust, .mooring, .acts] L = true) (h : Keep L r s) :
    Ends L r (execLinkUp a0 a1 s) := by
  delta execLinkUp
  exact Keep.rnext (State.served_keep (sub.trans rfl hl) h (fun _ h0 => State.linkUp_keep (sub.trans rfl hl) h0))


theorem execMakeUpRequest_keep {L r a0 a1 s} (hl : sub [.od, .mu, .line, .host, .gate, .log, .pair, .acts] L = true) (h : Keep L r s) :
    Ends L r (execMakeUpRequest a0 a1 s) := by
  delta execMakeUpRequest
  exact Keep.rnext (State.served_keep (sub.trans rfl hl) h (fun _ h0 => State.accessAct_keep (sub.trans rfl hl) h0 (fun _ h1 => Keep.pair (State.trigEval_keep (sub.trans rfl hl) h1))))


theorem State.sendMakeUp_keep {L r s a1 a2} (hl : sub [.od, .line, .acts] L = true) (h : Keep L r s) :
    Keep L r (State.sendMakeUp s a1 a2) := by
  delta State.sendMakeUp
  extract_lets -merge -useContext x0 x1 x2 x3 x5
  have h4 : Keep L r x3 := State.sendFrame_keep (sub.trans rfl hl) (State.tookFree_keep (sub.trans rfl hl) h)
  exact Keep.site (State.emit_keep (sub.trans rfl hl) (State.setPl_keep (sub.trans rfl hl) h4)) h


theorem execMakeUpSend_keep {L r a0 s} (hl : sub [.od, .line, .acts] L = true) (h : Keep L r s) :
    Ends L r (execMakeUpSend a0 s) := by
  delta execMakeUpSend
  exact Keep.rnext (State.served_keep (sub.trans rfl hl) h (fun _ h0 => State.sendMakeUp_keep (sub.trans rfl hl) h0))


theorem State.restart_keep {L r s} (hl : sub [.od, .mu, .line, .gate, .log, .acts] L = true) (h : Keep L r s) :
    Keep L r (State.restart s) := by
  delta State.restart
  extract_lets -merge -useContext x0 x1 x3 x5 x7 x8
  have h2 : Keep L r x1 := State.bump_keep (sub.trans rfl hl) (State.put_keep (sub.trans rfl hl) h)
  have h4 : Keep L r x3 := State.put_keep (sub.trans rfl hl) (State.put_keep (sub.trans rfl hl) h2)
  have h6 : Keep L r x5 := State.bump_keep (sub.trans rfl hl) (State.put_keep (sub.trans rfl hl) (State.put_keep (sub.trans rfl hl) h4))
  have h9 : Keep L r x8 := State.raise_keep (sub.trans rfl hl) (Keep.upd_mu (sub.trans rfl hl) h6)
  exact Keep.site (State.put_keep (sub.trans rfl hl) h) (Keep.site (State.opEnd_keep (sub.trans rfl hl) h9) (State.trigger_keep (sub.trans rfl hl) h2))


theorem State.muTimeout_keep {L r s} (hl : sub [.od, .mu, .line, .gate, .log, .acts] L = true) (h : Keep L r s) :
    Keep L r (State.muTimeout s) := by
  delta State.muTimeout
  exact Keep.site (State.evaluate_keep (sub.trans rfl hl) (State.restart_keep (sub.trans rfl hl) h)) h


theorem execMakeUpTimeout_keep {L r s} (hl : sub [.od, .mu, .line, .gate, .log, .acts] L = true) (h : Keep L r s) :
    Ends L r (execMakeUpTimeout s) := by
  delta execMakeUpTimeout
  exact Keep.rnext (State.served_keep (sub.trans rfl hl) h (fun _ h0 => State.muTimeout_keep (sub.trans rfl hl) h0))


theorem State.mdioDone_keep {L r s a1} (hl : sub [.od, .line] L = true) (h : Keep L r s) :
    Keep L r (State.mdioDone s a1) := by
  delta State.mdioDone
  extract_lets -merge -useContext x0 x1
  have h2 : Keep L r x1 := Keep.upd_line (sub.trans rfl hl) h
  exact (by
   split
   · exact h
   · exact (by
     split
     · exact Keep.site (State.put_keep (sub.trans rfl hl) h2) (State.put_keep (sub.trans rfl hl) (State.put_keep (sub.trans rfl hl) h2))
     · exact State.put_keep (sub.trans rfl hl) h2))


theorem execMdioAccessDone_keep {L r a0 s} (hl : sub [.od, .line] L = true) (h : Keep L r s) :
    Ends L r (execMdioAccessDone a0 s) := by
  delta execMdioAccessDone
  exact Keep.rnext (State.served_keep (sub.trans rfl hl) h (fun _ h0 => State.mdioDone_keep (sub.trans rfl hl) h0))


theorem State.mdioPoll_keep {L r s a1 a2 a3} (hl : sub [.od] L = true) (h : Keep L r s) :
    Keep L r (State.mdioPoll s a1 a2 a3) := by
  delta State.mdioPoll
  extract_lets -merge -useContext x0 x1 x2
  have h3 : Keep L r x2 := State.emit_keep (sub.trans rfl hl) h
  exact Keep.site h ((by
   split
   · exact State.bump_keep (sub.trans rfl hl) h3
   · exact State.bump_keep (sub.trans rfl hl) h3
   · exact h3
   · exact h3))


theorem execMdioPoll_keep {L r a0 a1 a2 s} (hl : sub [.od] L = true) (h : Keep L r s) :
    Ends L r (execMdioPoll a0 a1 a2 s) := by
  delta execMdioPoll
  exact Keep.rnext (State.served_keep (sub.trans rfl hl) h (fun _ h0 => State.mdioPoll_keep (sub.trans rfl hl) h0))


theorem State.mdioQueue_keep {L r s a1} (hl : sub [.od, .line] L = true) (h : Keep L r s) :
    Keep L r (State.mdioQueue s a1).1 := by
  delta State.mdioQueue
  extract_lets -merge -useContext x0 x1 x3 x4
  have h2 : Keep L r x1 := State.put_keep (sub.trans rfl hl) h
  have h5 : Keep L r x4 := Keep.upd_line (sub.trans rfl hl) h2
  exact Keep.pite (Keep.pair (State.put_keep (sub.trans rfl hl) h)) (Keep.pair (State.emit_keep (sub.trans rfl hl) h5))


theorem execMdioRead_keep {L r a0 s} (hl : sub [.od, .line, .host, .gate, .log, .pair, .acts] L = true) (h : Keep L r s) :
    Ends L r (execMdioRead a0 s) := by
  delta execMdioRead
  exact Keep.rnext (State.served_keep (sub.trans rfl hl) h (fun _ h0 => State.accessAct_keep (sub.trans rfl hl) h0 (fun _ h1 => State.mdioQueue_keep (sub.trans rfl hl) h1)))


theorem execMdioWrite_keep {L r a0 s} (hl : sub [.od, .line, .host, .gate, .log, .pair, .acts] L = true) (h : Keep L r s) :
    Ends L r (execMdioWrite a0 s) := by
  delta execMdioWrite
  exact Keep.rnext (State.served_keep (sub.trans rfl hl) h (fun _ h0 => State.accessAct_keep (sub.trans rfl hl) h0 (fun _ h1 => State.mdioQueue_keep (sub.trans rfl hl) h1)))


theorem State.starLink_keep {L r s a1 a2} (hl : sub [.od, .clock] L = true) (h : Keep L r s) :
    Keep L r (State.starLink s a1 a2) := by
  delta State.starLink
  extract_lets -merge -useContext x0
  exact Keep.site (State.setStar_keep (sub.trans rfl hl) (State.put_keep (sub.trans rfl hl) h)) h


theorem execStarLinkChange_keep {L r a0 a1 s} (hl : sub [.od, .clock] L = true) (h : Keep L r s) :
    Ends L r (execStarLinkChange a0 a1 s) := by
  delta execStarLinkChange
  exact Keep.rnext (State.served_keep (sub.trans rfl hl) h (fun _ h0 => State.starLink_keep (sub.trans rfl hl) h0))


theorem State.abandon_keep {L r s} (hl : sub [.od] L = true) (h : Keep L r s) :
    Keep L r (State.abandon s) := by
  delta State.abandon
  exact Keep.site (State.bump_keep (sub.trans rfl hl) h) h


theorem State.checkTemplate_keep {L r s} (hl : sub [.od, .mu] L = true) (h : Keep L r s) :
    Keep L r (State.checkTemplate s) := by
  delta State.checkTemplate
  extract_lets -merge -useContext x0 x2 x3
  have h1 : Keep L r x0 := State.put_keep (sub.trans rfl hl) h
  exact Keep.site (Keep.upd_mu (sub.trans rfl hl) h1) (Keep.upd_mu (sub.trans rfl hl) h)


theorem State.takeFlight_keep {L r s a1 a2 a3 a4} (hl : sub [.od, .clock, .mu, .line] L = true) (h : Keep L r s) :
    Keep L r (State.takeFlight s a1 a2 a3 a4) := by
  delta State.takeFlight
  extract_lets -merge -useContext x0 x2
  have h1 : Keep L r x0 := State.put_keep (sub.trans rfl hl) (State.put_keep (sub.trans rfl hl) (State.put_keep (sub.trans rfl hl) h))
  exact State.checkTemplate_keep (sub.trans rfl hl) (State.refreshTables_keep (sub.trans rfl hl) (Keep.upd_clock (sub.trans rfl hl) h1))


theorem State.enterIntegrate_keep {L r s a1 a2 a3} (hl : sub [.od, .mu] L = true) (h : Keep L r s) :
    Keep L r (State.enterIntegrate s a1 a2 a3) := by
  delta State.enterIntegrate
  extract_lets -merge -useContext x0 x2
  have h1 : Keep L r x0 := State.put_keep (sub.trans rfl hl) h
  exact Keep.upd_mu (sub.trans rfl hl) h1


theorem State.setTimeLead_keep {L r s a1 a2} (hl : sub [.od, .mu] L = true) (h : Keep L r s) :
    Keep L r (State.setTimeLead s a1 a2) := by
  delta State.setTimeLead
  extract_lets -merge -useContext x0 x2
  have h1 : Keep L r x0 := State.put_keep (sub.trans rfl hl) h
  exact Keep.upd_mu (sub.trans rfl hl) h1


theorem State.takeTheirs_keep {L r s a1 a2} (hl : sub [.od, .clock, .mu, .line] L = true) (h : Keep L r s) :
    Keep L r (State.takeTheirs s a1 a2) := by
  delta State.takeTheirs
  extract_lets -merge -useContext x0 x1 x2 x3 x4 x5
  have h6 : Keep L r x5 := State.takeFlight_keep (sub.trans rfl hl) h
  exact State.enterIntegrate_keep (sub.trans rfl hl) (State.setTimeLead_keep (sub.trans rfl hl) h6)


theorem State.adopt_keep {L r s} (hl : sub [.od, .clock, .mu, .line] L = true) (h : Keep L r s) :
    Keep L r (State.adopt s) := by
  delta State.adopt
  extract_lets -merge -useContext x0 x1 x3 x4 x6 x8 x9 x11 x12 x14
  have h2 : Keep L r x1 := State.put_keep (sub.trans rfl hl) (State.ctStep_keep (sub.trans rfl hl) h)
  have h5 : Keep L r x4 := by unfold x4; exact (by
   split
   · exact h2
   · exact State.takeTheirs_keep (sub.trans rfl hl) h2)
  have h7 : Keep L r x6 := State.bump_keep (sub.trans rfl hl) (State.putFlag_keep (sub.trans rfl hl) (State.put_keep (sub.trans rfl hl) (State.put_keep (sub.trans rfl hl) h5)))
  have h10 : Keep L r x9 := Keep.upd_mu (sub.trans rfl hl) h7
  have h13 : Keep L r x12 := Keep.upd_clock (sub.trans rfl hl) h10
  have h15 : Keep L r x14 := State.put_keep (sub.trans rfl hl) h13
  exact (by
   split
   · exact h
   · exact Keep.foldl (fun _ _ h16 => State.put_keep (sub.trans rfl hl) h16) h15)


theorem State.applyPortEnable_keep {L r s a1} (hl : sub [.od, .mu, .line, .gate, .log, .trust, .acts] L = true) (h : Keep L r s) :
    Keep L r (State.applyPortEnable s a1) := by
  delta State.applyPortEnable
  extract_lets -merge -useContext x0 x1 x2
  have h3 : Keep L r x2 := State.emit_keep (sub.trans rfl hl) (State.linkLost_keep (sub.trans rfl hl) (State.setLink_keep (sub.trans rfl hl) (Keep.site (State.bump_keep (sub.trans rfl hl) h) h)))
  exact Keep.site (Keep.site (State.emit_keep (sub.trans rfl hl) (State.put_keep (sub.trans rfl hl) h)) h) (Keep.site h (Keep.site (State.trigEval_keep (sub.trans rfl hl) h3) h3))


theorem State.applyStarEnable_keep {L r s a1} (hl : sub [.od, .clock] L = true) (h : Keep L r s) :
    Keep L r (State.applyStarEnable s a1) := by
  delta State.applyStarEnable
  extract_lets -merge -useContext x0
  exact Keep.site (Keep.site (State.put_keep (sub.trans rfl hl) h) h) (State.setStar_keep (sub.trans rfl hl) (State.put_keep (sub.trans rfl hl) h))


theorem State.setCt_keep {L r s a1 a2} (hl : sub [.od, .clock, .mu] L = true) (h : Keep L r s) :
    Keep L r (State.setCt s a1 a2) := by
  delta State.setCt
  extract_lets -merge -useContext x0 x1 x2 x4 x6 x7
  have h3 : Keep L r x2 := Keep.site (State.ctStep_keep (sub.trans rfl hl) h) (Keep.upd_clock (sub.trans rfl hl) h)
  have h5 : Keep L r x4 := State.put_keep (sub.trans rfl hl) (State.put_keep (sub.trans rfl hl) h3)
  exact Keep.upd_clock_mu (sub.trans rfl hl) h5


theorem State.integrateFromColdStart_keep {L r s a1 a2 a3 a4} (hl : sub [.od, .clock, .mu, .line] L = true) (h : Keep L r s) :
    Keep L r (State.integrateFromColdStart s a1 a2 a3 a4) := by
  delta State.integrateFromColdStart
  extract_lets -merge -useContext x0 x2 x4 x6
  have h1 : Keep L r x0 := State.setCt_keep (sub.trans rfl hl) h
  have h3 : Keep L r x2 := State.takeFlight_keep (sub.trans rfl hl) h1
  have h5 : Keep L r x4 := State.enterIntegrate_keep (sub.trans rfl hl) (State.setTimeLead_keep (sub.trans rfl hl) h3)
  exact Keep.upd_mu (sub.trans rfl hl) h5


theorem State.coldStart_keep {L r s a1 a2 a3 a4 a5} (hl : sub [.od, .clock, .mu, .line] L = true) (h : Keep L r s) :
    Keep L r (State.coldStart s a1 a2 a3 a4 a5) := by
  delta State.coldStart
  extract_lets -merge -useContext x0 x1 x2 x4
  have h3 : Keep L r x2 := Keep.site (State.emit_keep (sub.trans rfl hl) (State.leaves_keep (sub.trans rfl hl) h)) h
  exact Keep.site h (Keep.site (State.bump_keep (sub.trans rfl hl) h) (Keep.site (State.integrateFromColdStart_keep (sub.trans rfl hl) h3) (Keep.site (Keep.site (State.integrateFromColdStart_keep (sub.trans rfl hl) (State.abandon_keep (sub.trans rfl hl) h3)) h3) (Keep.site (State.integrateFromColdStart_keep (sub.trans rfl hl) h3) (Keep.upd_mu (sub.trans rfl hl) h3)))))


theorem State.coldStartOut_keep {L r s a1 a2} (hl : sub [.od, .line, .acts] L = true) (h : Keep L r s) :
    Keep L r (State.coldStartOut s a1 a2) := by
  delta State.coldStartOut
  extract_lets -merge -useContext x0
  exact State.emit_keep (sub.trans rfl hl) (State.sendFrame_keep (sub.trans rfl hl) h)


theorem State.followNeighbour_keep {L r s a1 a2 a3} (hl : sub [.mu] L = true) (h : Keep L r s) :
    Keep L r (State.followNeighbour s a1 a2 a3) := by
  delta State.followNeighbour
  extract_lets -merge -useContext x0
  exact Keep.site (Keep.upd_mu (sub.trans rfl hl) h) h


theorem State.hearConflict_keep {L r s a1} (hl : sub [.od, .mu] L = true) (h : Keep L r s) :
    Keep L r (State.hearConflict s a1) := by
  delta State.hearConflict
  extract_lets -merge -useContext x0 x2
  have h1 : Keep L r x0 := State.bump_keep (sub.trans rfl hl) h
  exact Keep.site (Keep.site h (Keep.upd_mu (sub.trans rfl hl) h1)) h


theorem State.hearGeneration_keep {L r s a1} (hl : sub [.od, .mu, .line, .gate, .log, .acts] L = true) (h : Keep L r s) :
    Keep L r (State.hearGeneration s a1) := by
  delta State.hearGeneration
  extract_lets -merge -useContext x0
  exact Keep.site (Keep.site (State.takeGeneration_keep (sub.trans rfl hl) h) h) (Keep.site (Keep.site (State.takeGeneration_keep (sub.trans rfl hl) h) h) (Keep.site (State.takeGeneration_keep (sub.trans rfl hl) h) h))


theorem State.integrateFromMakeUp_keep {L r s a1 a2 a3 a4} (hl : sub [.od, .clock, .mu, .line] L = true) (h : Keep L r s) :
    Keep L r (State.integrateFromMakeUp s a1 a2 a3 a4) := by
  delta State.integrateFromMakeUp
  extract_lets -merge -useContext x0 x1 x2 x4 x5 x6 x8 x10
  have h3 : Keep L r x2 := State.setCt_keep (sub.trans rfl hl) h
  have h7 : Keep L r x6 := State.takeFlight_keep (sub.trans rfl hl) h3
  have h9 : Keep L r x8 := State.enterIntegrate_keep (sub.trans rfl hl) (State.setTimeLead_keep (sub.trans rfl hl) h7)
  exact Keep.upd_mu (sub.trans rfl hl) h9


theorem State.limitCheck_keep {L r s a1} (hl : sub [.od, .gate, .log, .acts] L = true) (h : Keep L r s) :
    Keep L r (State.limitCheck s a1) := by
  delta State.limitCheck
  exact Keep.site (State.setLink_keep (sub.trans rfl hl) h) h


theorem State.listenExpired_keep {L r s} (hl : sub [.od, .clock, .mu, .line] L = true) (h : Keep L r s) :
    Keep L r (State.listenExpired s) := by
  delta State.listenExpired
  extract_lets -merge -useContext x0 x1 x3 x5 x6
  have h2 : Keep L r x1 := State.setCt_keep (sub.trans rfl hl) (State.bump_keep (sub.trans rfl hl) (State.put_keep (sub.trans rfl hl) h))
  have h4 : Keep L r x3 := State.setTimeLead_keep (sub.trans rfl hl) (State.takeFlight_keep (sub.trans rfl hl) h2)
  exact Keep.site (Keep.upd_clock_mu (sub.trans rfl hl) h4) h


theorem State.provisional_keep {L r s a1 a2 a3} (hl : sub [.od, .line] L = true) (h : Keep L r s) :
    Keep L r (State.provisional s a1 a2 a3) := by
  delta State.provisional
  extract_lets -merge -useContext x0 x1
  have h2 : Keep L r x1 := State.setPl_keep (sub.trans rfl hl) h
  exact (by
   split
   · exact (by
     extract_lets -merge -useContext x3 x4
     exact Keep.site h2 (State.put_keep (sub.trans rfl hl) (State.setPl_keep (sub.trans rfl hl) h2)))
   · exact h2)


theorem State.measure_keep {L r s a1 a2 a3} (hl : sub [.mu] L = true) (h : Keep L r s) :
    Keep L r (State.measure s a1 a2 a3) := by
  delta State.measure
  extract_lets -merge -useContext x0 x1
  exact Keep.upd_mu (sub.trans rfl hl) h


theorem State.makeUpReceived_keep {L r s a1 a2 a3 a4} (hl : sub [.od, .clock, .mu, .line, .gate, .log, .acts] L = true) (h : Keep L r s) :
    Keep L r (State.makeUpReceived s a1 a2 a3 a4) := by
  delta State.makeUpReceived
  extract_lets -merge -useContext x0 x1 x2 x4 x6 x8 x9 x11 x13 x14 x16
  have h3 : Keep L r x2 := State.put_keep (sub.trans rfl hl) (State.put_keep (sub.trans rfl hl) (State.put_keep (sub.trans rfl hl) h))
  have h5 : Keep L r x4 := State.hearConflict_keep (sub.trans rfl hl) (State.provisional_keep (sub.trans rfl hl) h3)
  have h7 : Keep L r x6 := State.hearGeneration_keep (sub.trans rfl hl) h5
  have h10 : Keep L r x9 := State.setPl_keep (sub.trans rfl hl) h7
  have h12 : Keep L r x11 := State.followNeighbour_keep (sub.trans rfl hl) h10
  have h15 : Keep L r x14 := Keep.site (State.integrateFromMakeUp_keep (sub.trans rfl hl) (State.abandon_keep (sub.trans rfl hl) h12)) (Keep.site (Keep.upd_mu (sub.trans rfl hl) h12) (Keep.site (State.measure_keep (sub.trans rfl hl) h12) (Keep.site (State.holdAdoption_keep (sub.trans rfl hl) h12) h12)))
  exact Keep.site h (Keep.site (State.evaluate_keep (sub.trans rfl hl) (State.restart_keep (sub.trans rfl hl) h15)) (State.evaluate_keep (sub.trans rfl hl) h15))


theorem State.sendColdStart_keep {L r s} (hl : sub [.od, .mu, .line, .acts] L = true) (h : Keep L r s) :
    Keep L r (State.sendColdStart s) := by
  delta State.sendColdStart
  extract_lets -merge -useContext x0 x1 x3
  have h2 : Keep L r x1 := Keep.foldl (fun _ _ h4 => Keep.site (State.coldStartOut_keep (sub.trans rfl hl) h4) h4) h
  exact Keep.site (Keep.upd_mu (sub.trans rfl hl) h2) h


theorem execFilterUnblock_keep {L r a0 a1 a2 s} (hl : sub [.od, .host, .gate, .log, .pair, .acts] L = true) (h : Keep L r s) :
    Ends L r (execFilterUnblock a0 a1 a2 s) := by
  delta execFilterUnblock
  exact Keep.rnext (State.served_keep (sub.trans rfl hl) h (fun _ h0 => State.accessAct_keep (sub.trans rfl hl) h0 (fun _ h1 => Keep.pair (State.put_keep (sub.trans rfl hl) h1))))


theorem State.refuseSwitch_keep {L r s a1} (hl : sub [.od, .gate, .log, .acts] L = true) (h : Keep L r s) :
    Keep L r (State.refuseSwitch s a1) := by
  delta State.refuseSwitch
  exact State.raise_keep (sub.trans rfl hl) (State.put_keep (sub.trans rfl hl) (State.bump_keep (sub.trans rfl hl) h))


theorem State.propose_keep {L r s a1} (hl : sub [.od, .line, .gate, .log, .acts] L = true) (h : Keep L r s) :
    Keep L r (State.propose s a1) := by
  delta State.propose
  extract_lets -merge -useContext x0 x2 x3
  have h1 : Keep L r x0 := State.put_keep (sub.trans rfl hl) (State.put_keep (sub.trans rfl hl) h)
  exact Keep.site (State.refuseSwitch_keep (sub.trans rfl hl) h) (Keep.site (State.refuseSwitch_keep (sub.trans rfl hl) h) (Keep.upd_line (sub.trans rfl hl) h1))


theorem State.modeRequest_keep {L r s a1} (hl : sub [.od, .dict, .line, .gate, .log, .trust, .acts] L = true) (h : Keep L r s) :
    Keep L r (State.modeRequest s a1) := by
  delta State.modeRequest
  exact Keep.site (State.propose_keep (sub.trans rfl hl) h) (State.sendMgmt_keep (sub.trans rfl hl) h)


theorem execModeRequest_keep {L r a0 a1 s} (hl : sub [.od, .dict, .line, .host, .gate, .log, .trust, .pair, .acts] L = true) (h : Keep L r s) :
    Ends L r (execModeRequest a0 a1 s) := by
  delta execModeRequest
  exact Keep.rnext (State.served_keep (sub.trans rfl hl) h (fun _ h0 => State.accessAct_keep (sub.trans rfl hl) h0 (fun _ h1 => Keep.pair (State.modeRequest_keep (sub.trans rfl hl) h1))))


theorem State.quarantine_keep {L r s a1} (hl : sub [.od, .line, .gate, .log, .acts] L = true) (h : Keep L r s) :
    Keep L r (State.quarantine s a1) := by
  delta State.quarantine
  extract_lets -merge -useContext x0 x1 x3 x4 x5 x7
  have h2 : Keep L r x1 := State.raise_keep (sub.trans rfl hl) (State.bump_keep (sub.trans rfl hl) (State.put_keep (sub.trans rfl hl) h))
  have h6 : Keep L r x5 := State.setPl_keep (sub.trans rfl hl) h2
  exact Keep.site (State.raise_keep (sub.trans rfl hl) (State.setPl_keep (sub.trans rfl hl) (State.bump_keep (sub.trans rfl hl) (State.put_keep (sub.trans rfl hl) h6)))) h6


theorem State.violation_keep {L r s a1 a2 a3} (hl : sub [.od, .line, .gate, .log, .acts] L = true) (h : Keep L r s) :
    Keep L r (State.violation s a1 a2 a3) := by
  delta State.violation
  extract_lets -merge -useContext x0 x1 x2
  have h3 : Keep L r x2 := State.put_keep (sub.trans rfl hl) (State.put_keep (sub.trans rfl hl) (State.bump_keep (sub.trans rfl hl) (State.put_keep (sub.trans rfl hl) h)))
  exact Keep.site (State.quarantine_keep (sub.trans rfl hl) h3) h3


theorem State.missedApplication_keep {L r s a1} (hl : sub [.od, .mu, .line, .gate, .log, .acts] L = true) (h : Keep L r s) :
    Keep L r (State.missedApplication s a1) := by
  delta State.missedApplication
  extract_lets -merge -useContext x0 x2
  have h1 : Keep L r x0 := State.bump_keep (sub.trans rfl hl) h
  exact (by
   split
   · exact Keep.site (State.evaluate_keep (sub.trans rfl hl) (State.restart_keep (sub.trans rfl hl) (Keep.upd_mu (sub.trans rfl hl) h1))) h
   · exact h)


theorem State.owReceived_keep {L r s a1 a2 a3} (hl : sub [.od, .mu, .line, .gate, .log, .acts] L = true) (h : Keep L r s) :
    Keep L r (State.owReceived s a1 a2 a3) := by
  delta State.owReceived
  extract_lets -merge -useContext x0 x2 x3 x4 x6
  have h1 : Keep L r x0 := State.bump_keep (sub.trans rfl hl) h
  have h5 : Keep L r x4 := Keep.site h1 (State.bump_keep (sub.trans rfl hl) h1)
  have h7 : Keep L r x6 := Keep.site h5 (State.bump_keep (sub.trans rfl hl) h5)
  exact Keep.site h (Keep.site h1 (Keep.site (State.bump_keep (sub.trans rfl hl) h1) (Keep.site (State.violation_keep (sub.trans rfl hl) h1) (Keep.site (State.missedApplication_keep (sub.trans rfl hl) (State.bump_keep (sub.trans rfl hl) h1)) (Keep.site h7 (Keep.site (State.owQueueUp_keep (sub.trans rfl hl) h7) h7))))))


theorem execOpenWaterFrameReceived_keep {L r a0 a1 a2 s} (hl : sub [.od, .mu, .line, .gate, .log, .acts] L = true) (h : Keep L r s) :
    Ends L r (execOpenWaterFrameReceived a0 a1 a2 s) := by
  delta execOpenWaterFrameReceived
  exact Keep.rnext (State.served_keep (sub.trans rfl hl) h (fun _ h0 => State.owReceived_keep (sub.trans rfl hl) h0))


theorem State.owSend_keep {L r s a1} (hl : sub [.od, .line, .acts] L = true) (h : Keep L r s) :
    Keep L r (State.owSend s a1) := by
  delta State.owSend
  extract_lets -merge -useContext x0
  exact (by
   split
   · exact h
   · exact (by
     extract_lets -merge -useContext x1 x2
     have h3 : Keep L r x2 := State.setPl_keep (sub.trans rfl hl) h
     exact Keep.site ((by
      split
      · exact State.sendFrame_keep (sub.trans rfl hl) h3
      · exact State.emit_keep (sub.trans rfl hl) (State.leaves_keep (sub.trans rfl hl) h3))) h))


theorem execOpenWaterSend_keep {L r a0 s} (hl : sub [.od, .line, .acts] L = true) (h : Keep L r s) :
    Ends L r (execOpenWaterSend a0 s) := by
  delta execOpenWaterSend
  exact Keep.rnext (State.served_keep (sub.trans rfl hl) h (fun _ h0 => State.owSend_keep (sub.trans rfl hl) h0))


theorem State.markerFire_keep {L r s a1} (hl : sub [.od, .clock, .gate, .log, .acts] L = true) (h : Keep L r s) :
    Keep L r (State.markerFire s a1) := by
  delta State.markerFire
  extract_lets -merge -useContext x0 x1 x3
  have h2 : Keep L r x1 := State.raise_keep (sub.trans rfl hl) (State.bump_keep (sub.trans rfl hl) h)
  exact Keep.site (Keep.site (State.placeEdge_keep (sub.trans rfl hl) h2) h2) h


theorem execPassageMarkerFire_keep {L r a0 s} (hl : sub [.od, .clock, .gate, .log, .acts] L = true) (h : Keep L r s) :
    Ends L r (execPassageMarkerFire a0 s) := by
  delta execPassageMarkerFire
  exact Keep.rnext (State.served_keep (sub.trans rfl hl) h (fun _ h0 => State.markerFire_keep (sub.trans rfl hl) h0))


theorem State.gateRefuse_keep {L r s} (hl : sub [.od, .line, .gate, .log, .acts] L = true) (h : Keep L r s) :
    Keep L r (State.gateRefuse s) := by
  delta State.gateRefuse
  extract_lets -merge -useContext x0 x2 x4
  have h1 : Keep L r x0 := State.bump_keep (sub.trans rfl hl) h
  have h3 : Keep L r x2 := State.raise_keep (sub.trans rfl hl) h1
  exact Keep.site h1 (Keep.upd_line (sub.trans rfl hl) h3)


theorem State.stampSyncOut_keep {L r s a1 a2 a3} (hl : sub [.line] L = true) (h : Keep L r s) :
    Keep L r (State.stampSyncOut s a1 a2 a3) := by
  delta State.stampSyncOut
  extract_lets -merge -useContext x0 x1 x2
  exact Keep.site (State.setPl_keep (sub.trans rfl hl) h) h


theorem State.releaseSlot_keep {L r s a1 a2} (hl : sub [.od, .line, .gate, .log, .acts] L = true) (h : Keep L r s) :
    Keep L r (State.releaseSlot s a1 a2) := by
  delta State.releaseSlot
  extract_lets -merge -useContext x0
  exact (by
   split
   · exact h
   · exact (by
     extract_lets -merge -useContext x1 x3 x4 x5 x7 x8
     have h2 : Keep L r x1 := Keep.upd_line (sub.trans rfl hl) h
     have h6 : Keep L r x5 := State.tookFree_keep (sub.trans rfl hl) h2
     have h9 : Keep L r x8 := State.emit_keep (sub.trans rfl hl) (State.leaves_keep (sub.trans rfl hl) h6)
     exact Keep.site h6 (Keep.site (State.gateRefuse_keep (sub.trans rfl hl) h6) ((by
      split
      · exact State.emit_keep (sub.trans rfl hl) (State.stampSyncOut_keep (sub.trans rfl hl) h9)
      · exact h9)))))


theorem execSlotForwardRelease_keep {L r a0 a1 s} (hl : sub [.od, .line, .gate, .log, .acts] L = true) (h : Keep L r s) :
    Ends L r (execSlotForwardRelease a0 a1 s) := by
  delta execSlotForwardRelease
  exact Keep.rnext (State.served_keep (sub.trans rfl hl) h (fun _ h0 => State.releaseSlot_keep (sub.trans rfl hl) h0))


theorem State.cutSlot_keep {L r s a1 a2} (hl : sub [.od, .line] L = true) (h : Keep L r s) :
    Keep L r (State.cutSlot s a1 a2) := by
  delta State.cutSlot
  extract_lets -merge -useContext x0 x2
  have h1 : Keep L r x0 := State.bump_keep (sub.trans rfl hl) h
  exact Keep.site h (Keep.upd_line (sub.trans rfl hl) h1)


theorem execSlotFrameCut_keep {L r a0 a1 s} (hl : sub [.od, .line] L = true) (h : Keep L r s) :
    Ends L r (execSlotFrameCut a0 a1 s) := by
  delta execSlotFrameCut
  exact Keep.rnext (State.served_keep (sub.trans rfl hl) h (fun _ h0 => State.cutSlot_keep (sub.trans rfl hl) h0))


theorem State.starReceived_keep {L r s a1 a2 a3 a4} (hl : sub [.od] L = true) (h : Keep L r s) :
    Keep L r (State.starReceived s a1 a2 a3 a4) := by
  delta State.starReceived
  extract_lets -merge -useContext x0 x1 x2 x4
  have h3 : Keep L r x2 := State.bump_keep (sub.trans rfl hl) h
  have h5 : Keep L r x4 := State.bump_keep (sub.trans rfl hl) h3
  exact Keep.site h (Keep.site (State.bump_keep (sub.trans rfl hl) h3) ((by
   split
   · exact h3
   · exact State.bump_keep (sub.trans rfl hl) h3
   · exact (by
     split
     · exact State.bump_keep (sub.trans rfl hl) h3
     · exact Keep.site (State.bump_keep (sub.trans rfl hl) h3) (Keep.site (State.bump_keep (sub.trans rfl hl) h3) (Keep.site (Keep.site (State.put_keep (sub.trans rfl hl) h5) h5) (State.bump_keep (sub.trans rfl hl) h3)))))))


theorem execStarFrameReceived_keep {L r a0 a1 a2 a3 s} (hl : sub [.od] L = true) (h : Keep L r s) :
    Ends L r (execStarFrameReceived a0 a1 a2 a3 s) := by
  delta execStarFrameReceived
  exact Keep.rnext (State.served_keep (sub.trans rfl hl) h (fun _ h0 => State.starReceived_keep (sub.trans rfl hl) h0))


theorem State.statusHeard_keep {L r s a1} (hl : sub [.pair] L = true) (h : Keep L r s) :
    Keep L r (State.statusHeard s a1) := by
  delta State.statusHeard
  extract_lets -merge -useContext x0 x1 x2
  exact Keep.site (Keep.upd_pair (sub.trans rfl hl) h) h


theorem State.statusMode_keep {L r s a1} (hl : sub [.od, .mu] L = true) (h : Keep L r s) :
    Keep L r (State.statusMode s a1) := by
  delta State.statusMode
  extract_lets -merge -useContext x0 x1 x2 x3 x5 x6
  have h4 : Keep L r x3 := State.put_keep (sub.trans rfl hl) h
  exact Keep.site (Keep.site (Keep.upd_mu (sub.trans rfl hl) h4) (Keep.site (Keep.upd_mu (sub.trans rfl hl) h) h)) h


theorem State.switchHeld_keep {L r s a1 a2} (hl : sub [.od, .line] L = true) (h : Keep L r s) :
    Keep L r (State.switchHeld s a1 a2) := by
  delta State.switchHeld
  extract_lets -merge -useContext x0 x1 x2 x3 x4
  have h5 : Keep L r x4 := Keep.upd_line (sub.trans rfl hl) h
  exact Keep.site h (Keep.site (State.put_keep (sub.trans rfl hl) (State.put_keep (sub.trans rfl hl) h5)) h5)


theorem State.statusSwitch_keep {L r s a1} (hl : sub [.od, .line] L = true) (h : Keep L r s) :
    Keep L r (State.statusSwitch s a1) := by
  delta State.statusSwitch
  extract_lets -merge -useContext x0 x1 x3 x4 x5
  have h2 : Keep L r x1 := State.put_keep (sub.trans rfl hl) (State.put_keep (sub.trans rfl hl) h)
  have h6 : Keep L r x5 := Keep.site (Keep.upd_line (sub.trans rfl hl) h2) h
  exact Keep.site (State.switchHeld_keep (sub.trans rfl hl) h6) h6


theorem State.takeDelay_keep {L r s a1 a2 a3} (hl : sub [.od, .line, .gate, .log, .acts] L = true) (h : Keep L r s) :
    Keep L r (State.takeDelay s a1 a2 a3) := by
  delta State.takeDelay
  extract_lets -merge -useContext x0
  exact State.limitCheck_keep (sub.trans rfl hl) (State.setPl_keep (sub.trans rfl hl) (State.put_keep (sub.trans rfl hl) h))


theorem State.statusDelay_keep {L r s a1} (hl : sub [.od, .line, .gate, .log, .acts] L = true) (h : Keep L r s) :
    Keep L r (State.statusDelay s a1) := by
  delta State.statusDelay
  extract_lets -merge -useContext x0 x1 x2
  exact Keep.site ((by
   split
   · exact (by
     extract_lets -merge -useContext x3
     exact State.takeDelay_keep (sub.trans rfl hl) h)
   · exact h)) (Keep.site (State.takeDelay_keep (sub.trans rfl hl) h) h)


theorem State.statusReceived_keep {L r s a1} (hl : sub [.od, .mu, .line, .gate, .log, .pair, .acts] L = true) (h : Keep L r s) :
    Keep L r (State.statusReceived s a1) := by
  delta State.statusReceived
  extract_lets -merge -useContext x0 x1 x2 x3 x4 x5 x6 x7 x9 x11
  have h8 : Keep L r x7 := Keep.upd_line (sub.trans rfl hl) h
  have h10 : Keep L r x9 := State.statusHeard_keep (sub.trans rfl hl) h8
  have h12 : Keep L r x11 := Keep.site (State.put_keep (sub.trans rfl hl) (State.bump_keep (sub.trans rfl hl) h10)) h10
  exact Keep.site h (State.statusMode_keep (sub.trans rfl hl) (State.statusSwitch_keep (sub.trans rfl hl) (State.statusDelay_keep (sub.trans rfl hl) h12)))


theorem execStatusReceived_keep {L r a0 s} (hl : sub [.od, .mu, .line, .gate, .log, .pair, .acts] L = true) (h : Keep L r s) :
    Ends L r (execStatusReceived a0 s) := by
  delta execStatusReceived
  exact Keep.rnext (State.served_keep (sub.trans rfl hl) h (fun _ h0 => State.statusReceived_keep (sub.trans rfl hl) h0))


theorem State.dropSync_keep {L r s a1 a2} (hl : sub [.line] L = true) (h : Keep L r s) :
    Keep L r (State.dropSync s a1 a2) := by
  delta State.dropSync
  extract_lets -merge -useContext x0
  exact Keep.upd_line (sub.trans rfl hl) h


theorem State.syncReceived_keep {L r s a1 a2 a3} (hl : sub [.od, .clock, .mu, .line] L = true) (h : Keep L r s) :
    Keep L r (State.syncReceived s a1 a2 a3) := by
  delta State.syncReceived
  extract_lets -merge -useContext x0 x1 x2 x3 x4 x5 x7 x9 x10 x12 x13 x14 x15 x16 x17 x18 x19 x20 x22 x23 x25 x26 x27 x28 x29 x31
  have h6 : Keep L r x5 := Keep.site (Keep.upd_mu (sub.trans rfl hl) h) h
  have h8 : Keep L r x7 := State.dropSync_keep (sub.trans rfl hl) h6
  have h11 : Keep L r x10 := Keep.site (Keep.upd_mu (sub.trans rfl hl) h8) h6
  have h21 : Keep L r x20 := Keep.site (State.setPl_keep (sub.trans rfl hl) h11) h11
  have h24 : Keep L r x23 := Keep.upd_line (sub.trans rfl hl) h21
  have h30 : Keep L r x29 := State.bump_keep (sub.trans rfl hl) h24
  exact Keep.site h (Keep.site (State.dropSync_keep (sub.trans rfl hl) h6) (Keep.site (State.toPartner_keep (sub.trans rfl hl) (Keep.upd_clock (sub.trans rfl hl) h24)) (Keep.upd_clock (sub.trans rfl hl) h30)))


theorem execSyncReceived_keep {L r a0 a1 a2 s} (hl : sub [.od, .clock, .mu, .line] L = true) (h : Keep L r s) :
    Ends L r (execSyncReceived a0 a1 a2 s) := by
  delta execSyncReceived
  exact Keep.rnext (State.served_keep (sub.trans rfl hl) h (fun _ h0 => State.syncReceived_keep (sub.trans rfl hl) h0))


theorem State.hold_keep {L r s a1 a2 a3} (hl : sub [.line] L = true) (h : Keep L r s) :
    Keep L r (State.hold s a1 a2 a3) := by
  delta State.hold
  extract_lets -merge -useContext x0 x1 x2 x3 x4 x5 x7
  have h6 : Keep L r x5 := State.tookFree_keep (sub.trans rfl hl) (State.setPl_keep (sub.trans rfl hl) h)
  exact (by
   split
   · exact h
   · exact (by
     extract_lets -merge -useContext x8 x9
     exact Keep.site h (Keep.upd_line (sub.trans rfl hl) h6)))


theorem State.acceptSlot_keep {L r s a1 a2} (hl : sub [.od, .mu, .line, .gate, .log, .acts] L = true) (h : Keep L r s) :
    Keep L r (State.acceptSlot s a1 a2).1 := by
  delta State.acceptSlot
  extract_lets -merge -useContext x0 x1 x2 x3 x5 x7
  have h4 : Keep L r x3 := State.hold_keep (sub.trans rfl hl) h
  have h6 : Keep L r x5 := Keep.site h4 (State.bump_keep (sub.trans rfl hl) h4)
  have h8 : Keep L r x7 := Keep.site h6 (State.bump_keep (sub.trans rfl hl) h6)
  exact Keep.pite (Keep.pair (State.missedApplication_keep (sub.trans rfl hl) (State.bump_keep (sub.trans rfl hl) h))) (Keep.pite (Keep.pair h) (Keep.pair h8))


theorem State.clearSwitch_keep {L r s} (hl : sub [.od, .line] L = true) (h : Keep L r s) :
    Keep L r (State.clearSwitch s) := by
  delta State.clearSwitch
  extract_lets -merge -useContext x0 x2
  have h1 : Keep L r x0 := State.put_keep (sub.trans rfl hl) (State.put_keep (sub.trans rfl hl) (State.put_keep (sub.trans rfl hl) h))
  exact Keep.upd_line (sub.trans rfl hl) h1


theorem State.enterMode_keep {L r s a1} (hl : sub [.od, .line] L = true) (h : Keep L r s) :
    Keep L r (State.enterMode s a1) := by
  delta State.enterMode
  exact State.refreshTables_keep (sub.trans rfl hl) (State.put_keep (sub.trans rfl hl) h)


theorem State.formMembership_keep {L r s} (hl : sub [.od, .line, .gate, .log, .acts] L = true) (h : Keep L r s) :
    Keep L r (State.formMembership s) := by
  delta State.formMembership
  extract_lets -merge -useContext x0 x1 x2 x3 x4 x6 x8 x10 x11 x13 x15
  have h5 : Keep L r x4 := State.put_keep (sub.trans rfl hl) (State.put_keep (sub.trans rfl hl) (State.put_keep (sub.trans rfl hl) h))
  have h7 : Keep L r x6 := State.putBytes_keep (sub.trans rfl hl) h5
  have h9 : Keep L r x8 := Keep.site (State.raise_keep (sub.trans rfl hl) h7) (Keep.site (State.raise_keep (sub.trans rfl hl) h7) h7)
  have h12 : Keep L r x11 := Keep.site (State.raise_keep (sub.trans rfl hl) h9) h9
  have h14 : Keep L r x13 := State.put_keep (sub.trans rfl hl) h12
  exact Keep.upd_line (sub.trans rfl hl) h14


theorem State.keeperApplied_keep {L r s a1} (hl : sub [.od, .line] L = true) (h : Keep L r s) :
    Keep L r (State.keeperApplied s a1) := by
  delta State.keeperApplied
  extract_lets -merge -useContext x0 x1
  exact Keep.site (State.setPl_keep (sub.trans rfl hl) (State.put_keep (sub.trans rfl hl) h)) h


theorem State.keeperBoundary_keep {L r s a1} (hl : sub [.od, .line] L = true) (h : Keep L r s) :
    Keep L r (State.keeperBoundary s a1) := by
  delta State.keeperBoundary
  extract_lets -merge -useContext x0 x1 x3
  have h2 : Keep L r x1 := State.put_keep (sub.trans rfl hl) h
  exact Keep.site (State.setPl_keep (sub.trans rfl hl) (State.put_keep (sub.trans rfl hl) h2)) (Keep.site (State.put_keep (sub.trans rfl hl) h2) (Keep.site (State.put_keep (sub.trans rfl hl) h2) h2))


theorem State.missingFlights_keep {L r s a1} (hl : sub [.od, .mu, .line, .gate, .log, .acts] L = true) (h : Keep L r s) :
    Keep L r (State.missingFlights s a1) := by
  delta State.missingFlights
  extract_lets -merge -useContext x0 x1
  have h2 : Keep L r x1 := State.put_keep (sub.trans rfl hl) h
  exact Keep.site (State.put_keep (sub.trans rfl hl) h) (Keep.site (Keep.site (State.raise_keep (sub.trans rfl hl) (State.leaveRunning_keep (sub.trans rfl hl) (State.bump_keep (sub.trans rfl hl) h2))) h2) (State.put_keep (sub.trans rfl hl) h))


theorem State.modeApplied_keep {L r s a1 a2} (hl : sub [.od, .line, .gate, .log, .acts] L = true) (h : Keep L r s) :
    Keep L r (State.modeApplied s a1 a2) := by
  delta State.modeApplied
  extract_lets -merge -useContext x0 x1 x3 x5 x7 x8
  have h2 : Keep L r x1 := Keep.site (State.clearSwitch_keep (sub.trans rfl hl) (State.refuseSwitch_keep (sub.trans rfl hl) h)) h
  have h4 : Keep L r x3 := Keep.site (Keep.site (State.put_keep (sub.trans rfl hl) h2) (State.enterMode_keep (sub.trans rfl hl) h2)) (State.refreshTables_keep (sub.trans rfl hl) h2)
  have h6 : Keep L r x5 := State.propose_keep (sub.trans rfl hl) h4
  exact Keep.site (Keep.site (Keep.site h6 (Keep.upd_line (sub.trans rfl hl) h6)) (Keep.site (State.propose_keep (sub.trans rfl hl) h4) h4)) h4


theorem State.slotArrives_keep {L r s a1 a2 a3} (hl : sub [.od, .mu, .line, .gate, .log, .acts] L = true) (h : Keep L r s) :
    Keep L r (State.slotArrives s a1 a2 a3).1 := by
  delta State.slotArrives
  extract_lets -merge -useContext x0 x1 x3 x4 x5
  have h2 : Keep L r x1 := State.bump_keep (sub.trans rfl hl) h
  exact Keep.pite (Keep.pair h) (Keep.pite (Keep.pair h2) (Keep.pite (Keep.pair h2) (Keep.pite (Keep.pite (Keep.pair h2) (State.acceptSlot_keep (sub.trans rfl hl) h2)) (Keep.pite (Keep.pite (State.acceptSlot_keep (sub.trans rfl hl) h2) (Keep.pair (State.bump_keep (sub.trans rfl hl) h2))) (Keep.pite (Keep.pair (State.violation_keep (sub.trans rfl hl) h2)) (State.acceptSlot_keep (sub.trans rfl hl) h2))))))


theorem State.switchBoundary_keep {L r s} (hl : sub [.od, .line, .gate, .log, .acts] L = true) (h : Keep L r s) :
    Keep L r (State.switchBoundary s) := by
  delta State.switchBoundary
  extract_lets -merge -useContext x0 x1 x2 x4 x5 x6
  have h3 : Keep L r x2 := State.raise_keep (sub.trans rfl hl) (State.bump_keep (sub.trans rfl hl) (State.enterMode_keep (sub.trans rfl hl) (State.clearSwitch_keep (sub.trans rfl hl) h)))
  exact Keep.site (Keep.upd_line (sub.trans rfl hl) h3) (Keep.site (State.clearSwitch_keep (sub.trans rfl hl) (State.refuseSwitch_keep (sub.trans rfl hl) (State.put_keep (sub.trans rfl hl) h))) h)


end Sys2Proof.Machine
end

