-- ==== Sys2Proof/Laws/KeepVideo.lean ====
section
/-!
SUPPORT. What each operation may change: cameras, views, displays and mooring. One lemma per operation, by its name with `_keep`.
-/

set_option linter.unusedTactic false
set_option linter.unreachableTactic false
set_option linter.unusedVariables false

namespace Sys2Proof.Machine

theorem State.setCam_keep {L r s a1 a2} (hl : sub [.video] L = true) (h : Keep L r s) :
    Keep L r (State.setCam s a1 a2) := by
  delta State.setCam
  extract_lets -merge -useContext x0
  exact Keep.upd_video (sub.trans rfl hl) h


theorem State.startPulses_keep {L r s a1} (hl : sub [.od, .video] L = true) (h : Keep L r s) :
    Keep L r (State.startPulses s a1) := by
  delta State.startPulses
  extract_lets -merge -useContext x0 x1 x2 x4 x5
  have h3 : Keep L r x2 := State.setCam_keep (sub.trans rfl hl) h
  exact State.put_keep (sub.trans rfl hl) (State.setCam_keep (sub.trans rfl hl) h3)


theorem State.setCciPort_keep {L r s a1 a2} (hl : sub [.video] L = true) (h : Keep L r s) :
    Keep L r (State.setCciPort s a1 a2) := by
  delta State.setCciPort
  extract_lets -merge -useContext x0
  exact Keep.upd_video (sub.trans rfl hl) h


theorem State.assignAddress_keep {L r s a1 a2} (hl : sub [.video] L = true) (h : Keep L r s) :
    Keep L r (State.assignAddress s a1 a2) := by
  delta State.assignAddress
  extract_lets -merge -useContext x0 x1 x3 x4
  have h2 : Keep L r x1 := State.tookFree_keep (sub.trans rfl hl) h
  have h5 : Keep L r x4 := State.setCciPort_keep (sub.trans rfl hl) h2
  exact State.emit_keep (sub.trans rfl hl) h5


theorem State.busUp_keep {L r s a1 a2 a3} (hl : sub [.video] L = true) (h : Keep L r s) :
    Keep L r (State.busUp s a1 a2 a3) := by
  delta State.busUp
  extract_lets -merge -useContext x0 x1 x3
  have h2 : Keep L r x1 := Keep.site (State.emit_keep (sub.trans rfl hl) (State.setCciPort_keep (sub.trans rfl hl) h)) h
  have h4 : Keep L r x3 := State.assignAddress_keep (sub.trans rfl hl) h2
  exact Keep.site h (Keep.site (State.emit_keep (sub.trans rfl hl) h4) h4)


theorem State.setScript_keep {L r s a1 a2} (hl : sub [.video] L = true) (h : Keep L r s) :
    Keep L r (State.setScript s a1 a2) := by
  delta State.setScript
  extract_lets -merge -useContext x0
  exact Keep.upd_video (sub.trans rfl hl) h


theorem State.cciTransfer_keep {L r s a1 a2 a3 a4 a5 a6} (hl : sub [] L = true) (h : Keep L r s) :
    Keep L r (State.cciTransfer s a1 a2 a3 a4 a5 a6) := by
  delta State.cciTransfer
  extract_lets -merge -useContext x0
  exact State.emit_keep (sub.trans rfl hl) h


theorem State.busNext_keep {L r s a1} (hl : sub [.video] L = true) (h : Keep L r s) :
    Keep L r (State.busNext s a1) := by
  delta State.busNext
  extract_lets -merge -useContext x0 x1 x2
  exact Keep.site h ((by
   split
   · exact (by
     extract_lets -merge -useContext x3 x4
     have h5 : Keep L r x4 := State.setCciPort_keep (sub.trans rfl hl) (State.setCam_keep (sub.trans rfl hl) h)
     exact State.cciTransfer_keep (sub.trans rfl hl) h5)
   · exact (by
     split
     · exact (by
       extract_lets -merge -useContext x6 x7 x8
       exact State.cciTransfer_keep (sub.trans rfl hl) (State.setCciPort_keep (sub.trans rfl hl) h))
     · exact (by
       split
       · exact Keep.site (State.cciTransfer_keep (sub.trans rfl hl) (State.setCciPort_keep (sub.trans rfl hl) h)) h
       · exact h))))


theorem State.startEntry_keep {L r s a1 a2} (hl : sub [.video] L = true) (h : Keep L r s) :
    Keep L r (State.startEntry s a1 a2) := by
  delta State.startEntry
  extract_lets -merge -useContext x0
  exact Keep.site (State.busNext_keep (sub.trans rfl hl) (State.setScript_keep (sub.trans rfl hl) h)) (State.setScript_keep (sub.trans rfl hl) h)


theorem State.pump_keep {L r a0 s a2} (hl : sub [.od, .video] L = true) (h : Keep L r s) :
    Keep L r (State.pump a0 s a2) := by
  induction a0 generalizing s with
  | zero => exact h
  | succ n ih =>
    unfold State.pump
    split
    · extract_lets -merge -useContext x0
      have h0 : Keep L r x0 := State.setScript_keep (sub.trans rfl hl) h
      exact Keep.site (ih (Keep.site h0 (State.startPulses_keep (sub.trans rfl hl) h0))) (State.startEntry_keep (sub.trans rfl hl) h)
    · split
      · exact h
      · refine ih ?_
        extract_lets -merge -useContext x0 x1
        have h0 : Keep L r x0 := State.setScript_keep (sub.trans rfl hl) h
        exact Keep.upd_video (sub.trans rfl hl) h0


theorem State.initCamera_keep {L r s a1} (hl : sub [.od, .video] L = true) (h : Keep L r s) :
    Keep L r (State.initCamera s a1) := by
  delta State.initCamera
  extract_lets -merge -useContext x0 x2 x3 x4 x6 x7 x9
  have h1 : Keep L r x0 := State.put_keep (sub.trans rfl hl) h
  have h5 : Keep L r x4 := State.busUp_keep (sub.trans rfl hl) h1
  have h8 : Keep L r x7 := Keep.upd_video (sub.trans rfl hl) h5
  have h10 : Keep L r x9 := Keep.site (State.put_keep (sub.trans rfl hl) h8) h8
  exact Keep.site (State.startPulses_keep (sub.trans rfl hl) h1) (Keep.site h10 (State.pump_keep (sub.trans rfl hl) h10))


theorem State.reinit_keep {L r s a1 a2} (hl : sub [.od, .video] L = true) (h : Keep L r s) :
    Keep L r (State.reinit s a1 a2) := by
  delta State.reinit
  exact Keep.site (State.initCamera_keep (sub.trans rfl hl) (State.bump_keep (sub.trans rfl hl) (State.setCam_keep (sub.trans rfl hl) h))) h


theorem execCameraFaultTimeout_keep {L r a0 s} (hl : sub [.od, .video] L = true) (h : Keep L r s) :
    Ends L r (execCameraFaultTimeout a0 s) := by
  delta execCameraFaultTimeout
  exact Keep.rnext (State.served_keep (sub.trans rfl hl) h (fun _ h0 => State.reinit_keep (sub.trans rfl hl) h0))


theorem State.camFault_keep {L r s a1} (hl : sub [.od, .gate, .log, .video, .acts] L = true) (h : Keep L r s) :
    Keep L r (State.camFault s a1) := by
  delta State.camFault
  exact State.raise_keep (sub.trans rfl hl) (State.setCam_keep (sub.trans rfl hl) (State.put_keep (sub.trans rfl hl) h))


theorem State.lockTimeout_keep {L r s a1} (hl : sub [.od, .gate, .log, .video, .acts] L = true) (h : Keep L r s) :
    Keep L r (State.lockTimeout s a1) := by
  delta State.lockTimeout
  exact Keep.site (State.camFault_keep (sub.trans rfl hl) h) h


theorem execCameraLockTimeout_keep {L r a0 s} (hl : sub [.od, .gate, .log, .video, .acts] L = true) (h : Keep L r s) :
    Ends L r (execCameraLockTimeout a0 s) := by
  delta execCameraLockTimeout
  exact Keep.rnext (State.served_keep (sub.trans rfl hl) h (fun _ h0 => State.lockTimeout_keep (sub.trans rfl hl) h0))


theorem execCameraLostTimeout_keep {L r a0 s} (hl : sub [.od, .video] L = true) (h : Keep L r s) :
    Ends L r (execCameraLostTimeout a0 s) := by
  delta execCameraLostTimeout
  exact Keep.rnext (State.served_keep (sub.trans rfl hl) h (fun _ h0 => State.reinit_keep (sub.trans rfl hl) h0))


theorem State.busIdle_keep {L r s a1} (hl : sub [.video] L = true) (h : Keep L r s) :
    Keep L r (State.busIdle s a1) := by
  delta State.busIdle
  extract_lets -merge -useContext x0
  exact State.setCciPort_keep (sub.trans rfl hl) h


theorem State.exposureDone_keep {L r s a1 a2} (hl : sub [.od, .video] L = true) (h : Keep L r s) :
    Keep L r (State.exposureDone s a1 a2) := by
  delta State.exposureDone
  split
  · exact h
  · exact (by
    extract_lets -merge -useContext x0 x2 x3
    have h1 : Keep L r x0 := State.busIdle_keep (sub.trans rfl hl) h
    have h4 : Keep L r x3 := by unfold x3; exact (by
     split
     · exact Keep.site (State.setCam_keep (sub.trans rfl hl) h1) h1
     · exact State.bump_keep (sub.trans rfl hl) h1)
    exact State.busNext_keep (sub.trans rfl hl) h4)


theorem State.accessEnds_keep {L r s} (hl : sub [.video] L = true) (h : Keep L r s) :
    Keep L r (State.accessEnds s) := by
  delta State.accessEnds
  extract_lets -merge -useContext x0
  exact Keep.upd_video (sub.trans rfl hl) h


theorem State.accessDone_keep {L r s a1} (hl : sub [.od, .video] L = true) (h : Keep L r s) :
    Keep L r (State.accessDone s a1) := by
  delta State.accessDone
  split
  · exact h
  · exact (by
    extract_lets -merge -useContext x0 x2 x4 x5
    have h1 : Keep L r x0 := State.busIdle_keep (sub.trans rfl hl) h
    have h3 : Keep L r x2 := State.bump_keep (sub.trans rfl hl) h1
    have h6 : Keep L r x5 := by unfold x5; exact (by
     split
     · exact Keep.site (State.put_keep (sub.trans rfl hl) (State.accessEnds_keep (sub.trans rfl hl) h1)) (State.put_keep (sub.trans rfl hl) (State.put_keep (sub.trans rfl hl) (State.accessEnds_keep (sub.trans rfl hl) h1)))
     · exact State.put_keep (sub.trans rfl hl) (State.accessEnds_keep (sub.trans rfl hl) h1)
     · exact Keep.site (State.put_keep (sub.trans rfl hl) (State.accessEnds_keep (sub.trans rfl hl) h3)) (Keep.upd_video (sub.trans rfl hl) h3))
    exact Keep.site h (State.busNext_keep (sub.trans rfl hl) h6))


theorem State.cciDone_keep {L r s a1 a2} (hl : sub [.od, .video] L = true) (h : Keep L r s) :
    Keep L r (State.cciDone s a1 a2) := by
  delta State.cciDone
  split
  · exact State.exposureDone_keep (sub.trans rfl hl) h
  · exact State.accessDone_keep (sub.trans rfl hl) h


theorem execCciAccessDone_keep {L r a0 a1 s} (hl : sub [.od, .video] L = true) (h : Keep L r s) :
    Ends L r (execCciAccessDone a0 a1 s) := by
  delta execCciAccessDone
  exact Keep.rnext (State.served_keep (sub.trans rfl hl) h (fun _ h0 => State.cciDone_keep (sub.trans rfl hl) h0))


theorem State.cciQueue_keep {L r s a1} (hl : sub [.od, .video] L = true) (h : Keep L r s) :
    Keep L r (State.cciQueue s a1).1 := by
  delta State.cciQueue
  extract_lets -merge -useContext x0 x1 x3 x4
  have h2 : Keep L r x1 := State.put_keep (sub.trans rfl hl) h
  have h5 : Keep L r x4 := Keep.upd_video (sub.trans rfl hl) h2
  exact Keep.pite (Keep.pair (State.put_keep (sub.trans rfl hl) h)) (Keep.pair (State.busNext_keep (sub.trans rfl hl) h5))


theorem execCciAccessRead_keep {L r a0 s} (hl : sub [.od, .host, .gate, .log, .video, .pair, .acts] L = true) (h : Keep L r s) :
    Ends L r (execCciAccessRead a0 s) := by
  delta execCciAccessRead
  exact Keep.rnext (State.served_keep (sub.trans rfl hl) h (fun _ h0 => State.accessAct_keep (sub.trans rfl hl) h0 (fun _ h1 => State.cciQueue_keep (sub.trans rfl hl) h1)))


theorem execCciAccessWrite_keep {L r a0 s} (hl : sub [.od, .host, .gate, .log, .video, .pair, .acts] L = true) (h : Keep L r s) :
    Ends L r (execCciAccessWrite a0 s) := by
  delta execCciAccessWrite
  exact Keep.rnext (State.served_keep (sub.trans rfl hl) h (fun _ h0 => State.accessAct_keep (sub.trans rfl hl) h0 (fun _ h1 => State.cciQueue_keep (sub.trans rfl hl) h1)))


theorem State.hotJoin_keep {L r s a1} (hl : sub [.video] L = true) (h : Keep L r s) :
    Keep L r (State.hotJoin s a1) := by
  delta State.hotJoin
  exact Keep.site (State.assignAddress_keep (sub.trans rfl hl) h) h


theorem execCciHotJoin_keep {L r a0 s} (hl : sub [.video] L = true) (h : Keep L r s) :
    Ends L r (execCciHotJoin a0 s) := by
  delta execCciHotJoin
  exact Keep.rnext (State.served_keep (sub.trans rfl hl) h (fun _ h0 => State.hotJoin_keep (sub.trans rfl hl) h0))


theorem State.advance_keep {L r s a1 a2} (hl : sub [.od, .video] L = true) (h : Keep L r s) :
    Keep L r (State.advance s a1 a2) := by
  delta State.advance
  exact State.pump_keep (sub.trans rfl hl) (State.setScript_keep (sub.trans rfl hl) h)


theorem State.inBand_keep {L r s a1 a2 a3} (hl : sub [.od, .video] L = true) (h : Keep L r s) :
    Keep L r (State.inBand s a1 a2 a3) := by
  delta State.inBand
  extract_lets -merge -useContext x0 x2 x3
  have h1 : Keep L r x0 := State.put_keep (sub.trans rfl hl) (State.bump_keep (sub.trans rfl hl) h)
  have h4 : Keep L r x3 := State.setCciPort_keep (sub.trans rfl hl) h1
  exact (by
   split
   · exact Keep.site (State.advance_keep (sub.trans rfl hl) h4) h4
   · exact h4)


theorem execCciIbiReceived_keep {L r a0 s} (hl : sub [.od, .video, .pair] L = true) (h : Keep L r s) :
    Ends L r (execCciIbiReceived a0 s) := by
  delta execCciIbiReceived
  exact Keep.rnext (State.served_keep (sub.trans rfl hl) h (fun _ h0 => State.replicate_keep (sub.trans rfl hl) h0 (fun _ h1 => State.inBand_keep (sub.trans rfl hl) h1)))


theorem State.scriptDelay_keep {L r s a1} (hl : sub [.od, .video] L = true) (h : Keep L r s) :
    Keep L r (State.scriptDelay s a1) := by
  delta State.scriptDelay
  split
  · exact Keep.site (State.advance_keep (sub.trans rfl hl) h) h
  · exact h


theorem execCciScriptDelayExpired_keep {L r a0 s} (hl : sub [.od, .video] L = true) (h : Keep L r s) :
    Ends L r (execCciScriptDelayExpired a0 s) := by
  delta execCciScriptDelayExpired
  exact Keep.rnext (State.served_keep (sub.trans rfl hl) h (fun _ h0 => State.scriptDelay_keep (sub.trans rfl hl) h0))


theorem State.scriptFails_keep {L r s a1 a2} (hl : sub [.od, .gate, .log, .video, .acts] L = true) (h : Keep L r s) :
    Keep L r (State.scriptFails s a1 a2) := by
  delta State.scriptFails
  extract_lets -merge -useContext x0 x2
  have h1 : Keep L r x0 := State.setScript_keep (sub.trans rfl hl) h
  have h3 : Keep L r x2 := Keep.site h1 (State.camFault_keep (sub.trans rfl hl) h1)
  exact State.pump_keep (sub.trans rfl hl) h3


theorem State.scriptDone_keep {L r s a1 a2} (hl : sub [.od, .gate, .log, .video, .acts] L = true) (h : Keep L r s) :
    Keep L r (State.scriptDone s a1 a2) := by
  delta State.scriptDone
  extract_lets -merge -useContext x0 x2
  have h1 : Keep L r x0 := State.busIdle_keep (sub.trans rfl hl) h
  have h3 : Keep L r x2 := State.bump_keep (sub.trans rfl hl) h1
  exact (by
   split
   · exact h
   · exact (by
     extract_lets -merge -useContext x4 x5 x6
     exact Keep.site h ((by
      split
      · exact Keep.site (State.busNext_keep (sub.trans rfl hl) (State.scriptFails_keep (sub.trans rfl hl) h1)) (State.busNext_keep (sub.trans rfl hl) (State.advance_keep (sub.trans rfl hl) h1))
      · exact Keep.site (State.busNext_keep (sub.trans rfl hl) (State.scriptFails_keep (sub.trans rfl hl) h3)) (State.startEntry_keep (sub.trans rfl hl) h3)))))


theorem execCciScriptEntryDone_keep {L r a0 a1 s} (hl : sub [.od, .gate, .log, .video, .acts] L = true) (h : Keep L r s) :
    Ends L r (execCciScriptEntryDone a0 a1 s) := by
  delta execCciScriptEntryDone
  exact Keep.rnext (State.served_keep (sub.trans rfl hl) h (fun _ h0 => State.scriptDone_keep (sub.trans rfl hl) h0))


theorem State.scriptTimeout_keep {L r s a1} (hl : sub [.od, .gate, .log, .video, .acts] L = true) (h : Keep L r s) :
    Keep L r (State.scriptTimeout s a1) := by
  delta State.scriptTimeout
  split
  · exact Keep.site (State.scriptFails_keep (sub.trans rfl hl) h) h
  · exact h


theorem execCciScriptWaitTimeout_keep {L r a0 s} (hl : sub [.od, .gate, .log, .video, .acts] L = true) (h : Keep L r s) :
    Ends L r (execCciScriptWaitTimeout a0 s) := by
  delta execCciScriptWaitTimeout
  exact Keep.rnext (State.served_keep (sub.trans rfl hl) h (fun _ h0 => State.scriptTimeout_keep (sub.trans rfl hl) h0))


theorem State.spoil_keep {L r s a1} (hl : sub [.video] L = true) (h : Keep L r s) :
    Keep L r (State.spoil s a1) := by
  delta State.spoil
  extract_lets -merge -useContext x0
  exact (by
   split
   · exact Keep.site h (State.setCam_keep (sub.trans rfl hl) h)
   · exact h)


theorem State.headerEcc_keep {L r s a1 a2} (hl : sub [.od, .video] L = true) (h : Keep L r s) :
    Keep L r (State.headerEcc s a1 a2).1 := by
  delta State.headerEcc
  extract_lets -merge -useContext x0
  exact Keep.pite (Keep.pair (Keep.foldl (fun _ _ h1 => State.spoil_keep (sub.trans rfl hl) h1) (State.bump_keep (sub.trans rfl hl) h))) (Keep.pite (Keep.pair (State.bump_keep (sub.trans rfl hl) h)) (Keep.pair h))


theorem State.embeddedLine_keep {L r s a1 a2 a3} (hl : sub [.video] L = true) (h : Keep L r s) :
    Keep L r (State.embeddedLine s a1 a2 a3) := by
  delta State.embeddedLine
  extract_lets -merge -useContext x0 x1
  exact (by
   split
   · exact h
   · exact (by
     extract_lets -merge -useContext x2 x4 x5
     have h6 : Keep L r x5 := State.setCam_keep (sub.trans rfl hl) h
     exact Keep.site h6 (State.spoil_keep (sub.trans rfl hl) h6)))


theorem State.ingestRows_keep {L r s a1 a2 a3 a4 a5} (hl : sub [.video] L = true) (h : Keep L r s) :
    Keep L r (State.ingestRows s a1 a2 a3 a4 a5) := by
  delta State.ingestRows
  extract_lets -merge -useContext x0
  have h1 : Keep L r x0 := State.setCam_keep (sub.trans rfl hl) h
  exact Keep.site h1 (State.toPartner_keep (sub.trans rfl hl) h1)


theorem State.passGroup_keep {L r s a1 a2} (hl : sub [.od, .video] L = true) (h : Keep L r s) :
    Keep L r (State.passGroup s a1 a2) := by
  delta State.passGroup
  extract_lets -merge -useContext x0 x1 x2 x3 x4 x6 x7 x9 x10 x11 x12 x13
  have h5 : Keep L r x4 := State.bump_keep (sub.trans rfl hl) h
  exact Keep.site (State.ingestRows_keep (sub.trans rfl hl) h5) (Keep.site (State.ingestRows_keep (sub.trans rfl hl) h) (State.ingestRows_keep (sub.trans rfl hl) h))


theorem State.withFrame_keep {L r s a1 a2} (hl : sub [.od, .video] L = true) (h : Keep L r s) :
    Keep L r (State.withFrame s a1 a2) := by
  delta State.withFrame
  extract_lets -merge -useContext x0
  exact Keep.site (State.passGroup_keep (sub.trans rfl hl) h) (State.setCam_keep (sub.trans rfl hl) h)


theorem State.addLine_keep {L r s a1 a2 a3 a4} (hl : sub [.od, .video] L = true) (h : Keep L r s) :
    Keep L r (State.addLine s a1 a2 a3 a4) := by
  delta State.addLine
  split
  · exact h
  · exact (by
    extract_lets -merge -useContext x0 x1 x2 x3 x5
    have h4 : Keep L r x3 := Keep.site (State.bump_keep (sub.trans rfl hl) h) h
    exact Keep.site h (Keep.site (State.bump_keep (sub.trans rfl hl) h) (State.withFrame_keep (sub.trans rfl hl) h4)))


theorem State.csiPacket_keep {L r s a1 a2} (hl : sub [.od, .video] L = true) (h : Keep L r s) :
    Keep L r (State.csiPacket s a1 a2) := by
  delta State.csiPacket
  extract_lets -merge -useContext x0 x1 x3 x5 x6
  have h2 : Keep L r x1.1 := State.headerEcc_keep (sub.trans rfl hl) h
  have h4 : Keep L r x3 := by unfold x3; exact h2
  exact Keep.site h2 ((by
   split
   · exact State.bump_keep (sub.trans rfl hl) h4
   · exact (by
     extract_lets -merge -useContext x7
     have h8 : Keep L r x7 := Keep.site (State.bump_keep (sub.trans rfl hl) (State.bump_keep (sub.trans rfl hl) h4)) (Keep.site (State.bump_keep (sub.trans rfl hl) h4) h4)
     exact Keep.site (State.bump_keep (sub.trans rfl hl) h4) (Keep.site (State.bump_keep (sub.trans rfl hl) h4) (Keep.site (State.embeddedLine_keep (sub.trans rfl hl) h8) (State.addLine_keep (sub.trans rfl hl) h8))))))


theorem execCsiLongPacket_keep {L r a0 a1 s} (hl : sub [.od, .video] L = true) (h : Keep L r s) :
    Ends L r (execCsiLongPacket a0 a1 s) := by
  delta execCsiLongPacket
  exact Keep.rnext (State.served_keep (sub.trans rfl hl) h (fun _ h0 => State.csiPacket_keep (sub.trans rfl hl) h0))


theorem State.sotError_keep {L r s a1} (hl : sub [.od, .video] L = true) (h : Keep L r s) :
    Keep L r (State.sotError s a1) := by
  delta State.sotError
  exact Keep.foldl (fun _ _ h0 => State.spoil_keep (sub.trans rfl hl) h0) (State.bump_keep (sub.trans rfl hl) h)


theorem execCsiSotError_keep {L r a0 s} (hl : sub [.od, .video] L = true) (h : Keep L r s) :
    Ends L r (execCsiSotError a0 s) := by
  delta execCsiSotError
  exact Keep.rnext (State.served_keep (sub.trans rfl hl) h (fun _ h0 => State.sotError_keep (sub.trans rfl hl) h0))


theorem State.deskew_keep {L r s a1 a2} (hl : sub [.od] L = true) (h : Keep L r s) :
    Keep L r (State.deskew s a1 a2) := by
  delta State.deskew
  extract_lets -merge -useContext x0
  exact Keep.site (Keep.site (State.put_keep (sub.trans rfl hl) h) h) (State.put_keep (sub.trans rfl hl) h)


theorem execDeskewSequence_keep {L r a0 a1 s} (hl : sub [.od] L = true) (h : Keep L r s) :
    Ends L r (execDeskewSequence a0 a1 s) := by
  delta execDeskewSequence
  exact Keep.rnext (State.served_keep (sub.trans rfl hl) h (fun _ h0 => State.deskew_keep (sub.trans rfl hl) h0))


theorem State.fillLines_keep {L r s a1 a2 a3} (hl : sub [.od, .video] L = true) (h : Keep L r s) :
    Keep L r (State.fillLines s a1 a2 a3) := by
  delta State.fillLines
  split
  · exact h
  · exact Keep.foldl (fun _ _ h0 => State.addLine_keep (sub.trans rfl hl) h0) h


theorem State.frameAccepted_keep {L r s a1 a2} (hl : sub [.od, .video] L = true) (h : Keep L r s) :
    Keep L r (State.frameAccepted s a1 a2) := by
  delta State.frameAccepted
  extract_lets -merge -useContext x0 x1 x3
  have h2 : Keep L r x1 := State.setCam_keep (sub.trans rfl hl) h
  have h4 : Keep L r x3 := State.put_keep (sub.trans rfl hl) (State.put_keep (sub.trans rfl hl) (State.put_keep (sub.trans rfl hl) (State.bump_keep (sub.trans rfl hl) h2)))
  exact Keep.site (State.put_keep (sub.trans rfl hl) h4) h4


theorem State.frameStats_keep {L r s a1 a2} (hl : sub [.od, .video] L = true) (h : Keep L r s) :
    Keep L r (State.frameStats s a1 a2) := by
  delta State.frameStats
  extract_lets -merge -useContext x0 x1 x2 x4 x5 x7 x8 x9 x10 x11
  have h3 : Keep L r x2 := State.put_keep (sub.trans rfl hl) (State.put_keep (sub.trans rfl hl) (Keep.site h (State.bump_keep (sub.trans rfl hl) h)))
  have h6 : Keep L r x5 := State.setCam_keep (sub.trans rfl hl) h3
  have h12 : Keep L r x11 := State.setCam_keep (sub.trans rfl hl) h6
  exact Keep.site h (Keep.site (State.put_keep (sub.trans rfl hl) h6) (State.put_keep (sub.trans rfl hl) h12))


theorem State.markFailed_keep {L r s a1 a2} (hl : sub [.video, .slices] L = true) (h : Keep L r s) :
    Keep L r (State.markFailed s a1 a2) := by
  delta State.markFailed
  extract_lets -merge -useContext x0 x1 x3 x4
  have h2 : Keep L r x1 := State.setCam_keep (sub.trans rfl hl) h
  exact Keep.upd_slices (sub.trans rfl hl) h2


theorem State.frameEnd_keep {L r s a1} (hl : sub [.od, .video, .slices] L = true) (h : Keep L r s) :
    Keep L r (State.frameEnd s a1) := by
  delta State.frameEnd
  extract_lets -merge -useContext x0
  exact (by
   split
   · exact Keep.site (State.bump_keep (sub.trans rfl hl) h) h
   · exact (by
     extract_lets -merge -useContext x1 x2 x4 x6 x7 x8 x10 x12 x14 x15 x17 x18
     have h3 : Keep L r x2 := Keep.site (State.bump_keep (sub.trans rfl hl) h) h
     have h5 : Keep L r x4 := Keep.foldl (fun _ _ h20 => State.fillLines_keep (sub.trans rfl hl) h20) h3
     have h9 : Keep L r x8 := Keep.site (State.bump_keep (sub.trans rfl hl) h5) h5
     have h11 : Keep L r x10 := Keep.site (State.bump_keep (sub.trans rfl hl) h9) h9
     have h16 : Keep L r x15 := State.frameAccepted_keep (sub.trans rfl hl) (State.frameStats_keep (sub.trans rfl hl) h11)
     have h19 : Keep L r x18 := State.setCam_keep (sub.trans rfl hl) h16
     exact Keep.site (State.setCam_keep (sub.trans rfl hl) h) (Keep.site (State.markFailed_keep (sub.trans rfl hl) h19) h19)))


theorem State.csiFrameEnd_keep {L r s a1 a2 a3} (hl : sub [.od, .video, .slices] L = true) (h : Keep L r s) :
    Keep L r (State.csiFrameEnd s a1 a2 a3) := by
  delta State.csiFrameEnd
  extract_lets -merge -useContext x0
  have h1 : Keep L r x0.1 := State.headerEcc_keep (sub.trans rfl hl) h
  exact Keep.site h1 ((by
   split
   · exact State.bump_keep (sub.trans rfl hl) h1
   · exact Keep.site (State.frameEnd_keep (sub.trans rfl hl) h1) h1))


theorem execFrameEnd_keep {L r a0 a1 s} (hl : sub [.od, .video, .slices] L = true) (h : Keep L r s) :
    Ends L r (execFrameEnd a0 a1 s) := by
  delta execFrameEnd
  exact Keep.rnext (State.served_keep (sub.trans rfl hl) h (fun _ h0 => State.csiFrameEnd_keep (sub.trans rfl hl) h0))


theorem State.notAccepted_keep {L r s a1 a2} (hl : sub [.od, .gate, .log, .video, .acts] L = true) (h : Keep L r s) :
    Keep L r (State.notAccepted s a1 a2) := by
  delta State.notAccepted
  extract_lets -merge -useContext x0 x1 x2
  have h3 : Keep L r x2 := State.setCam_keep (sub.trans rfl hl) h
  exact Keep.site (State.raise_keep (sub.trans rfl hl) (State.put_keep (sub.trans rfl hl) h3)) h3


theorem State.discardFrame_keep {L r s a1 a2 a3} (hl : sub [.od, .gate, .log, .video, .acts] L = true) (h : Keep L r s) :
    Keep L r (State.discardFrame s a1 a2 a3) := by
  delta State.discardFrame
  extract_lets -merge -useContext x0 x2
  have h1 : Keep L r x0 := State.notAccepted_keep (sub.trans rfl hl) (State.bump_keep (sub.trans rfl hl) (State.bump_keep (sub.trans rfl hl) h))
  exact (by
   split
   · exact State.setCam_keep (sub.trans rfl hl) h1
   · exact h1)


theorem State.putPan_keep {L r s a1} (hl : sub [.od] L = true) (h : Keep L r s) :
    Keep L r (State.putPan s a1) := by
  delta State.putPan
  exact Keep.site (State.put_keep (sub.trans rfl hl) (State.put_keep (sub.trans rfl hl) h)) h


theorem State.keepAnswer_keep {L r s a1} (hl : sub [.slices] L = true) (h : Keep L r s) :
    Keep L r (State.keepAnswer s a1) := by
  delta State.keepAnswer
  extract_lets -merge -useContext x0
  exact Keep.upd_slices (sub.trans rfl hl) h


theorem State.answerView_keep {L r s a1 a2} (hl : sub [.od, .dict, .line, .trust, .slices] L = true) (h : Keep L r s) :
    Keep L r (State.answerView s a1 a2) := by
  delta State.answerView
  exact Keep.site (State.putPan_keep (sub.trans rfl hl) (State.keepAnswer_keep (sub.trans rfl hl) h)) (State.sendFree_keep (sub.trans rfl hl) (State.emit_keep (sub.trans rfl hl) h))


theorem State.panReports_keep {L r s a1 a2} (hl : sub [.od, .dict, .line, .trust, .slices] L = true) (h : Keep L r s) :
    Keep L r (State.panReports s a1 a2) := by
  delta State.panReports
  extract_lets -merge -useContext x0 x1 x2 x4
  have h3 : Keep L r x2 := Keep.foldl (fun _ _ h5 => State.answerView_keep (sub.trans rfl hl) h5) h
  exact Keep.upd_slices (sub.trans rfl hl) h3


theorem State.openFrame_keep {L r s a1 a2 a3 a4 a5} (hl : sub [.od, .dict, .line, .trust, .video, .slices] L = true) (h : Keep L r s) :
    Keep L r (State.openFrame s a1 a2 a3 a4 a5) := by
  delta State.openFrame
  extract_lets -merge -useContext x0 x2 x3 x5 x6 x7 x8
  have h1 : Keep L r x0 := State.panReports_keep (sub.trans rfl hl) h
  exact State.setCam_keep (sub.trans rfl hl) h1


theorem State.startFrame_keep {L r s a1 a2 a3} (hl : sub [.od, .dict, .line, .gate, .log, .trust, .video, .slices, .acts] L = true) (h : Keep L r s) (hf4 : ∀ y0 y1, Keep L r y0 → Keep L r (a3 y0 y1)) :
    Keep L r (State.startFrame s a1 a2 a3) := by
  delta State.startFrame
  extract_lets -merge -useContext x0 x1 x2
  exact Keep.site (State.openFrame_keep (sub.trans rfl hl) (State.bump_keep (sub.trans rfl hl) (State.bump_keep (sub.trans rfl hl) h))) ((by
   split
   · exact hf4 _ _ h
   · exact Keep.site (State.openFrame_keep (sub.trans rfl hl) (State.bump_keep (sub.trans rfl hl) h)) (State.openFrame_keep (sub.trans rfl hl) (State.discardFrame_keep (sub.trans rfl hl) h))))


theorem State.frameStart_keep {L r s a1 a2} (hl : sub [.od, .dict, .line, .gate, .log, .trust, .video, .slices, .acts] L = true) (h : Keep L r s) :
    Keep L r (State.frameStart s a1 a2) := by
  delta State.frameStart
  extract_lets -merge -useContext x0 x2 x3
  have h1 : Keep L r x0 := by unfold x0; exact (by
   split
   · exact Keep.site (State.bump_keep (sub.trans rfl hl) h) (State.discardFrame_keep (sub.trans rfl hl) h)
   · exact h)
  have h4 : Keep L r x3 := State.setCam_keep (sub.trans rfl hl) h1
  exact Keep.site h (State.startFrame_keep (sub.trans rfl hl) h4 (fun _ _ h5 => (by
   extract_lets -merge -useContext x6 x8 x9 x11
   have h10 : Keep L r x9 := State.put_keep (sub.trans rfl hl) h5
   exact Keep.site (State.openFrame_keep (sub.trans rfl hl) (State.discardFrame_keep (sub.trans rfl hl) h10)) (State.openFrame_keep (sub.trans rfl hl) h10))))


theorem State.csiFrameStart_keep {L r s a1 a2 a3 a4} (hl : sub [.od, .dict, .line, .gate, .log, .trust, .video, .slices, .acts] L = true) (h : Keep L r s) :
    Keep L r (State.csiFrameStart s a1 a2 a3 a4) := by
  delta State.csiFrameStart
  extract_lets -merge -useContext x0 x2 x4
  have h1 : Keep L r x0.1 := State.headerEcc_keep (sub.trans rfl hl) h
  have h3 : Keep L r x2 := by unfold x2; exact h1
  have h5 : Keep L r x4 := Keep.site (State.put_keep (sub.trans rfl hl) h3) h3
  exact Keep.site h1 ((by
   split
   · exact State.bump_keep (sub.trans rfl hl) h5
   · exact Keep.site (State.frameStart_keep (sub.trans rfl hl) h5) h5))


theorem execFrameStart_keep {L r a0 a1 a2 s} (hl : sub [.od, .dict, .line, .gate, .log, .trust, .video, .slices, .acts] L = true) (h : Keep L r s) :
    Ends L r (execFrameStart a0 a1 a2 s) := by
  delta execFrameStart
  exact Keep.rnext (State.served_keep (sub.trans rfl hl) h (fun _ h0 => State.csiFrameStart_keep (sub.trans rfl hl) h0))


theorem State.windowOver_keep {L r s a1} (hl : sub [.od, .gate, .log, .video, .acts] L = true) (h : Keep L r s) :
    Keep L r (State.windowOver s a1) := by
  delta State.windowOver
  extract_lets -merge -useContext x0
  exact (by
   split
   · exact Keep.site (State.notAccepted_keep (sub.trans rfl hl) (State.bump_keep (sub.trans rfl hl) (State.setCam_keep (sub.trans rfl hl) h))) h
   · exact h)


theorem execFrameStartWindowExpired_keep {L r a0 s} (hl : sub [.od, .gate, .log, .video, .acts] L = true) (h : Keep L r s) :
    Ends L r (execFrameStartWindowExpired a0 s) := by
  delta execFrameStartWindowExpired
  exact Keep.rnext (State.served_keep (sub.trans rfl hl) h (fun _ h0 => State.windowOver_keep (sub.trans rfl hl) h0))


theorem State.issueExposure_keep {L r s a1 a2 a3} (hl : sub [.video] L = true) (h : Keep L r s) :
    Keep L r (State.issueExposure s a1 a2 a3) := by
  delta State.issueExposure
  extract_lets -merge -useContext x0 x1 x2
  exact Keep.site (State.setCam_keep (sub.trans rfl hl) h) (State.busNext_keep (sub.trans rfl hl) (State.setCam_keep (sub.trans rfl hl) h))


theorem State.exposureWrite_keep {L r s a1 a2} (hl : sub [.od, .video] L = true) (h : Keep L r s) :
    Keep L r (State.exposureWrite s a1 a2) := by
  delta State.exposureWrite
  extract_lets -merge -useContext x0 x1 x2
  exact (by
   split
   · exact (by
     extract_lets -merge -useContext x3
     have h4 : Keep L r x3 := State.setCam_keep (sub.trans rfl hl) (State.bump_keep (sub.trans rfl hl) h)
     exact State.issueExposure_keep (sub.trans rfl hl) h4)
   · exact Keep.site h (State.issueExposure_keep (sub.trans rfl hl) h))


theorem State.framePulse_keep {L r s a1 a2} (hl : sub [.od, .video] L = true) (h : Keep L r s) :
    Keep L r (State.framePulse s a1 a2) := by
  delta State.framePulse
  extract_lets -merge -useContext x0 x1 x2 x4 x5 x6
  have h3 : Keep L r x2 := Keep.site (State.bump_keep (sub.trans rfl hl) h) h
  have h7 : Keep L r x6 := State.setCam_keep (sub.trans rfl hl) h3
  exact State.exposureWrite_keep (sub.trans rfl hl) h7


theorem State.genlockPulse_keep {L r s a1} (hl : sub [.od, .clock, .video, .acts] L = true) (h : Keep L r s) :
    Keep L r (State.genlockPulse s a1) := by
  delta State.genlockPulse
  extract_lets -merge -useContext x0 x1 x3
  have h2 : Keep L r x1 := State.emit_keep (sub.trans rfl hl) (State.framePulse_keep (sub.trans rfl hl) h)
  exact Keep.site (Keep.site (State.placeEdge_keep (sub.trans rfl hl) h2) h2) h


theorem execGenlockPulse_keep {L r a0 s} (hl : sub [.od, .clock, .video, .acts] L = true) (h : Keep L r s) :
    Ends L r (execGenlockPulse a0 s) := by
  delta execGenlockPulse
  exact Keep.rnext (State.served_keep (sub.trans rfl hl) h (fun _ h0 => State.genlockPulse_keep (sub.trans rfl hl) h0))


theorem State.rvfStart_keep {L r s a1 a2} (hl : sub [.od, .dict, .line, .gate, .log, .trust, .video, .slices, .acts] L = true) (h : Keep L r s) :
    Keep L r (State.rvfStart s a1 a2) := by
  delta State.rvfStart
  exact State.startFrame_keep (sub.trans rfl hl) h (fun _ _ h0 => (by
 extract_lets -merge -useContext x1 x3 x5
 have h4 : Keep L r x3 := State.put_keep (sub.trans rfl hl) h0
 exact Keep.site (State.openFrame_keep (sub.trans rfl hl) (State.discardFrame_keep (sub.trans rfl hl) h4)) (State.openFrame_keep (sub.trans rfl hl) h4)))


theorem State.rvfLines_keep {L r s a1 a2} (hl : sub [.od, .gate, .log, .video, .acts] L = true) (h : Keep L r s) :
    Keep L r (State.rvfLines s a1 a2) := by
  delta State.rvfLines
  split
  · exact h
  · exact (by
    extract_lets -merge -useContext x0
    exact Keep.site h (Keep.site (State.discardFrame_keep (sub.trans rfl hl) h) (Keep.foldl (fun _ _ h2 => State.addLine_keep (sub.trans rfl hl) h2) (State.fillLines_keep (sub.trans rfl hl) h))))


theorem State.rvf_keep {L r s a1 a2} (hl : sub [.od, .dict, .line, .gate, .log, .trust, .video, .slices, .acts] L = true) (h : Keep L r s) :
    Keep L r (State.rvf s a1 a2) := by
  delta State.rvf
  extract_lets -merge -useContext x0 x1 x3 x4 x6 x8
  have h2 : Keep L r x1 := Keep.site (State.bump_keep (sub.trans rfl hl) h) h
  have h5 : Keep L r x4 := State.setCam_keep (sub.trans rfl hl) h2
  have h7 : Keep L r x6 := by unfold x6; exact (by
   split
   · exact Keep.site (State.rvfStart_keep (sub.trans rfl hl) (State.frameEnd_keep (sub.trans rfl hl) h5)) h5
   · exact State.rvfStart_keep (sub.trans rfl hl) h5)
  have h9 : Keep L r x8 := State.rvfLines_keep (sub.trans rfl hl) h7
  exact Keep.site h (Keep.site (State.frameEnd_keep (sub.trans rfl hl) h9) h9)


theorem execRvfPacketReceived_keep {L r a0 a1 s} (hl : sub [.od, .dict, .line, .gate, .log, .trust, .video, .slices, .acts] L = true) (h : Keep L r s) :
    Ends L r (execRvfPacketReceived a0 a1 s) := by
  delta execRvfPacketReceived
  exact Keep.rnext (State.served_keep (sub.trans rfl hl) h (fun _ h0 => State.rvf_keep (sub.trans rfl hl) h0))


theorem State.triggerMsg_keep {L r s a1} (hl : sub [.od, .clock, .line, .video, .acts] L = true) (h : Keep L r s) :
    Keep L r (State.triggerMsg s a1) := by
  delta State.triggerMsg
  extract_lets -merge -useContext x0 x1 x2 x3 x5
  have h4 : Keep L r x3 := State.act_keep (sub.trans rfl hl) (State.framePulse_keep (sub.trans rfl hl) h)
  exact Keep.site (Keep.site h4 (State.starOffer_keep (sub.trans rfl hl) (State.setCam_keep (sub.trans rfl hl) h4))) h


theorem execTrigger_keep {L r a0 s} (hl : sub [.od, .clock, .line, .video, .acts] L = true) (h : Keep L r s) :
    Ends L r (execTrigger a0 s) := by
  delta execTrigger
  exact Keep.rnext (State.served_keep (sub.trans rfl hl) h (fun _ h0 => State.triggerMsg_keep (sub.trans rfl hl) h0))


theorem State.busDown_keep {L r s a1} (hl : sub [] L = true) (h : Keep L r s) :
    Keep L r (State.busDown s a1) := by
  delta State.busDown
  exact Keep.site (State.emit_keep (sub.trans rfl hl) h) h


theorem State.camOff_keep {L r s a1} (hl : sub [.od, .video] L = true) (h : Keep L r s) :
    Keep L r (State.camOff s a1) := by
  delta State.camOff
  extract_lets -merge -useContext x0 x1 x2 x4 x5 x7 x8 x10
  have h3 : Keep L r x2 := State.setCam_keep (sub.trans rfl hl) (State.put_keep (sub.trans rfl hl) h)
  have h6 : Keep L r x5 := Keep.upd_video (sub.trans rfl hl) h3
  have h9 : Keep L r x8 := State.busDown_keep (sub.trans rfl hl) h6
  have h11 : Keep L r x10 := State.put_keep (sub.trans rfl hl) h9
  exact Keep.site h (Keep.site (State.pump_keep (sub.trans rfl hl) (State.setScript_keep (sub.trans rfl hl) h11)) h6)


theorem State.applyCamera_keep {L r s a1} (hl : sub [.od, .video] L = true) (h : Keep L r s) :
    Keep L r (State.applyCamera s a1) := by
  delta State.applyCamera
  extract_lets -merge -useContext x0 x1
  exact Keep.site (Keep.site (State.initCamera_keep (sub.trans rfl hl) h) (Keep.site (State.setCam_keep (sub.trans rfl hl) h) h)) (State.camOff_keep (sub.trans rfl hl) h)


theorem State.ingestSummary_keep {L r s} (hl : sub [.od] L = true) (h : Keep L r s) :
    Keep L r (State.ingestSummary s) := by
  delta State.ingestSummary
  extract_lets -merge -useContext x0
  exact State.put_keep (sub.trans rfl hl) (State.put_keep (sub.trans rfl hl) h)


theorem State.rephaseCamera_keep {L r s a1} (hl : sub [.video, .slices] L = true) (h : Keep L r s) :
    Keep L r (State.rephaseCamera s a1) := by
  delta State.rephaseCamera
  extract_lets -merge -useContext x0 x1 x2 x3 x5
  have h4 : Keep L r x3 := State.setCam_keep (sub.trans rfl hl) h
  exact Keep.site (Keep.upd_slices (sub.trans rfl hl) h4) h


theorem State.rephaseCameras_keep {L r s} (hl : sub [.video, .slices] L = true) (h : Keep L r s) :
    Keep L r (State.rephaseCameras s) := by
  delta State.rephaseCameras
  exact Keep.foldl (fun _ _ h0 => State.rephaseCamera_keep (sub.trans rfl hl) h0) h


theorem State.panTimeout_keep {L r s a1 a2 a3} (hl : sub [.od, .gate, .log, .slices, .acts] L = true) (h : Keep L r s) :
    Keep L r (State.panTimeout s a1 a2 a3) := by
  delta State.panTimeout
  extract_lets -merge -useContext x0 x1
  have h2 : Keep L r x1 := Keep.upd_slices (sub.trans rfl hl) h
  exact Keep.site (State.raise_keep (sub.trans rfl hl) h2) h


theorem execPanTimeout_keep {L r a0 a1 a2 s} (hl : sub [.od, .gate, .log, .slices, .acts] L = true) (h : Keep L r s) :
    Ends L r (execPanTimeout a0 a1 a2 s) := by
  delta execPanTimeout
  exact Keep.rnext (State.served_keep (sub.trans rfl hl) h (fun _ h0 => State.panTimeout_keep (sub.trans rfl hl) h0))


theorem State.warpStatus_keep {L r s} (hl : sub [.od] L = true) (h : Keep L r s) :
    Keep L r (State.warpStatus s) := by
  delta State.warpStatus
  extract_lets -merge -useContext x0 x1
  exact State.put_keep (sub.trans rfl hl) (State.put_keep (sub.trans rfl hl) (State.put_keep (sub.trans rfl hl) (State.put_keep (sub.trans rfl hl) h)))


theorem State.judgeRequests_keep {L r s} (hl : sub [.od, .dict, .line, .trust, .slices] L = true) (h : Keep L r s) :
    Keep L r (State.judgeRequests s) := by
  delta State.judgeRequests
  extract_lets -merge -useContext x0 x1 x2 x3
  have h4 : Keep L r x3 := Keep.upd_slices (sub.trans rfl hl) h
  exact State.warpStatus_keep (sub.trans rfl hl) (Keep.foldl (fun _ _ h5 => (by
   extract_lets -merge -useContext x6
   exact Keep.site h5 (State.answerView_keep (sub.trans rfl hl) (Keep.site (State.bump_keep (sub.trans rfl hl) h5) h5)))) h4)


theorem State.viewDefinition_keep {L r s a1} (hl : sub [.od, .dict, .line, .trust, .slices] L = true) (h : Keep L r s) :
    Keep L r (State.viewDefinition s a1) := by
  delta State.viewDefinition
  extract_lets -merge -useContext x0 x1
  exact State.judgeRequests_keep (sub.trans rfl hl) (Keep.upd_slices (sub.trans rfl hl) h)


theorem execViewDefinitionReceived_keep {L r a0 s} (hl : sub [.od, .dict, .line, .trust, .slices] L = true) (h : Keep L r s) :
    Ends L r (execViewDefinitionReceived a0 s) := by
  delta execViewDefinitionReceived
  exact Keep.rnext (State.served_keep (sub.trans rfl hl) h (fun _ h0 => State.viewDefinition_keep (sub.trans rfl hl) h0))


theorem State.swapInstance_keep {L r s a1 a2 a3 a4 a5} (hl : sub [.slices] L = true) (h : Keep L r s) :
    Keep L r (State.swapInstance s a1 a2 a3 a4 a5) := by
  delta State.swapInstance
  extract_lets -merge -useContext x0
  exact Keep.upd_slices (sub.trans rfl hl) h


theorem State.warpProduce_keep {L r s a1 a2 a3} (hl : sub [.slices] L = true) (h : Keep L r s) :
    Keep L r (State.warpProduce s a1 a2 a3) := by
  delta State.warpProduce
  split
  · exact h
  · exact (by
    extract_lets -merge -useContext x0 x1 x2 x3 x4 x5 x6 x7 x8 x9 x10
    exact Keep.site h (Keep.site h (State.swapInstance_keep (sub.trans rfl hl) h)))


theorem execWarpSliceProduced_keep {L r a0 a1 a2 s} (hl : sub [.slices] L = true) (h : Keep L r s) :
    Ends L r (execWarpSliceProduced a0 a1 a2 s) := by
  delta execWarpSliceProduced
  exact Keep.rnext (State.served_keep (sub.trans rfl hl) h (fun _ h0 => State.warpProduce_keep (sub.trans rfl hl) h0))


theorem State.bindStream_keep {L r s a1} (hl : sub [.od, .dict, .line, .trust] L = true) (h : Keep L r s) :
    Keep L r (State.bindStream s a1) := by
  delta State.bindStream
  extract_lets -merge -useContext x0 x1 x2 x3 x4 x6 x7 x9 x10
  have h5 : Keep L r x4 := State.tookFree_keep (sub.trans rfl hl) h
  have h8 : Keep L r x7 := State.tookFree_keep (sub.trans rfl hl) (State.tookFree_keep (sub.trans rfl hl) h5)
  have h11 : Keep L r x10 := Keep.upd_trust (sub.trans rfl hl) h8
  exact Keep.site (State.moveStreams_keep (sub.trans rfl hl) h) (State.publishKeys_keep (sub.trans rfl hl) (Keep.site h11 (State.sendFree_keep (sub.trans rfl hl) (State.sendFree_keep (sub.trans rfl hl) (State.emit_keep (sub.trans rfl hl) (State.emit_keep (sub.trans rfl hl) h11))))))


theorem State.turnStream_keep {L r s a1 a2 a3 a4} (hl : sub [.od, .dict, .line, .trust] L = true) (h : Keep L r s) :
    Keep L r (State.turnStream s a1 a2 a3 a4) := by
  delta State.turnStream
  extract_lets -merge -useContext x0 x1
  exact (by
   split
   · exact h
   · exact (by
     extract_lets -merge -useContext x2 x4
     have h3 : Keep L r x2 := Keep.site (State.moveStreams_keep (sub.trans rfl hl) h) h
     exact Keep.upd_trust (sub.trans rfl hl) h3))


theorem State.takeWarped_keep {L r s a1 a2 a3 a4 a5} (hl : sub [.slices] L = true) (h : Keep L r s) :
    Keep L r (State.takeWarped s a1 a2 a3 a4 a5) := by
  delta State.takeWarped
  extract_lets -merge -useContext x0 x1
  exact Keep.upd_slices (sub.trans rfl hl) h


theorem State.flightOverflow_keep {L r s} (hl : sub [.od, .gate, .log, .acts] L = true) (h : Keep L r s) :
    Keep L r (State.flightOverflow s) := by
  delta State.flightOverflow
  exact State.raise_keep (sub.trans rfl hl) (State.bump_keep (sub.trans rfl hl) h)


theorem State.sliceAct_keep {L r s a1 a2} (hl : sub [.acts] L = true) (h : Keep L r s) :
    Keep L r (State.sliceAct s a1 a2) := by
  delta State.sliceAct
  exact State.act_keep (sub.trans rfl hl) h


theorem State.flightCount_keep {L r s} (hl : sub [.od] L = true) (h : Keep L r s) :
    Keep L r (State.flightCount s) := by
  delta State.flightCount
  extract_lets -merge -useContext x0
  exact State.put_keep (sub.trans rfl hl) (State.put_keep (sub.trans rfl hl) h)


theorem State.putOut_keep {L r s a1 a2 a3 a4} (hl : sub [.od, .slices, .acts] L = true) (h : Keep L r s) :
    Keep L r (State.putOut s a1 a2 a3 a4) := by
  delta State.putOut
  extract_lets -merge -useContext x0 x1 x2 x3 x4 x5 x7
  have h6 : Keep L r x5 := Keep.site h (State.toPartner_keep (sub.trans rfl hl) h)
  exact State.flightCount_keep (sub.trans rfl hl) (State.sliceAct_keep (sub.trans rfl hl) (Keep.upd_slices (sub.trans rfl hl) h6))


theorem State.encodeSlice_keep {L r s a1 a2 a3} (hl : sub [.od, .dict, .line, .gate, .log, .trust, .slices, .acts] L = true) (h : Keep L r s) :
    Keep L r (State.encodeSlice s a1 a2 a3).1 := by
  delta State.encodeSlice
  split
  · exact Keep.pair h
  · exact (by
    split
    · exact Keep.pair h
    · exact (by
      extract_lets -merge -useContext x0 x2
      have h1 : Keep L r x0 := State.bump_keep (sub.trans rfl hl) (State.turnStream_keep (sub.trans rfl hl) (State.takeWarped_keep (sub.trans rfl hl) h))
      exact (by
       split
       · exact Keep.pair h1
       · exact (by
         extract_lets -merge -useContext x3 x4
         exact Keep.pite (Keep.pair (State.bump_keep (sub.trans rfl hl) h1)) (Keep.pite (Keep.pite (Keep.pair (State.flightOverflow_keep (sub.trans rfl hl) h1)) (Keep.pair (State.sliceAct_keep (sub.trans rfl hl) h1))) ((by
          split
          · exact Keep.pair h1
          · exact Keep.pite (Keep.pair (State.flightOverflow_keep (sub.trans rfl hl) h1)) (Keep.pair (State.putOut_keep (sub.trans rfl hl) h1)))))))))


theorem State.stopInstances_keep {L r s a1} (hl : sub [.slices] L = true) (h : Keep L r s) :
    Keep L r (State.stopInstances s a1) := by
  delta State.stopInstances
  extract_lets -merge -useContext x0 x1
  exact Keep.upd_slices (sub.trans rfl hl) h


theorem State.instancesAtBoundary_keep {L r s a1 a2} (hl : sub [.od, .dict, .line, .trust, .slices] L = true) (h : Keep L r s) :
    Keep L r (State.instancesAtBoundary s a1 a2) := by
  delta State.instancesAtBoundary
  extract_lets -merge -useContext x0 x2 x3 x4 x5 x6 x7 x8 x9
  have h1 : Keep L r x0 := State.judgeRequests_keep (sub.trans rfl hl) (State.stopInstances_keep (sub.trans rfl hl) h)
  have h10 : Keep L r x9 := Keep.upd_slices (sub.trans rfl hl) h1
  exact State.flightCount_keep (sub.trans rfl hl) (State.warpStatus_keep (sub.trans rfl hl) (Keep.foldl (fun _ _ h11 => State.bindStream_keep (sub.trans rfl hl) h11) h10))


theorem State.panFrame_keep {L r s a1 a2 a3 a4} (hl : sub [.slices] L = true) (h : Keep L r s) :
    Keep L r (State.panFrame s a1 a2 a3 a4) := by
  delta State.panFrame
  extract_lets -merge -useContext x0
  exact Keep.upd_slices (sub.trans rfl hl) h


theorem State.sendDefinition_keep {L r s a1 a2 a3} (hl : sub [.od, .dict, .line, .trust, .slices] L = true) (h : Keep L r s) :
    Keep L r (State.sendDefinition s a1 a2 a3) := by
  delta State.sendDefinition
  extract_lets -merge -useContext x0 x1 x2 x3
  have h4 : Keep L r x3 := Keep.upd_slices (sub.trans rfl hl) h
  exact (by
   split
   · exact Keep.site ((by
     split
     · exact State.viewDefinition_keep (sub.trans rfl hl) h4
     · exact h4)) (State.sendFree_keep (sub.trans rfl hl) (State.emit_keep (sub.trans rfl hl) h4))
   · exact h4)


theorem State.announce_keep {L r s a1 a2 a3} (hl : sub [.od, .dict, .line, .trust, .slices] L = true) (h : Keep L r s) :
    Keep L r (State.announce s a1 a2 a3) := by
  delta State.announce
  exact Keep.foldl (fun _ _ h0 => (by
 extract_lets -merge -useContext x1 x2 x4
 have h3 : Keep L r x2 := State.sendDefinition_keep (sub.trans rfl hl) h0
 exact Keep.site h0 (Keep.upd_slices (sub.trans rfl hl) h3))) h


theorem State.bindOne_keep {L r s a1 a2 a3} (hl : sub [.od, .dict, .line, .gate, .log, .trust, .slices, .acts] L = true) (h : Keep L r s) :
    Keep L r (State.bindOne s a1 a2 a3) := by
  delta State.bindOne
  extract_lets -merge -useContext x0 x1 x2 x4 x5
  have h3 : Keep L r x2 := Keep.site (State.bump_keep (sub.trans rfl hl) h) h
  have h6 : Keep L r x5 := Keep.site (State.raise_keep (sub.trans rfl hl) (State.bump_keep (sub.trans rfl hl) h3)) h3
  exact (by
   split
   · exact Keep.site h6 (State.sendDefinition_keep (sub.trans rfl hl) h6)
   · exact h6)


theorem State.rebind_keep {L r s a1} (hl : sub [.od, .dict, .line, .gate, .log, .trust, .slices, .acts] L = true) (h : Keep L r s) :
    Keep L r (State.rebind s a1) := by
  delta State.rebind
  extract_lets -merge -useContext x0 x1 x2 x3 x4 x5 x6
  have h7 : Keep L r x6 := State.stopInstances_keep (sub.trans rfl hl) (Keep.upd_slices (sub.trans rfl hl) h)
  exact Keep.foldl (fun _ _ h8 => State.bindOne_keep (sub.trans rfl hl) h8) h7


theorem State.streamStatus_keep {L r s a1} (hl : sub [.od] L = true) (h : Keep L r s) :
    Keep L r (State.streamStatus s a1) := by
  delta State.streamStatus
  extract_lets -merge -useContext x0 x1 x2 x3 x4 x6 x8 x10 x12
  have h5 : Keep L r x4 := State.put_keep (sub.trans rfl hl) h
  have h7 : Keep L r x6 := State.put_keep (sub.trans rfl hl) (State.put_keep (sub.trans rfl hl) h5)
  have h9 : Keep L r x8 := State.put_keep (sub.trans rfl hl) (State.put_keep (sub.trans rfl hl) h7)
  have h11 : Keep L r x10 := State.put_keep (sub.trans rfl hl) (State.put_keep (sub.trans rfl hl) h9)
  exact State.put_keep (sub.trans rfl hl) (State.put_keep (sub.trans rfl hl) (State.put_keep (sub.trans rfl hl) h11))


theorem State.takeAnswers_keep {L r s} (hl : sub [.od, .gate, .log, .slices, .acts] L = true) (h : Keep L r s) :
    Keep L r (State.takeAnswers s) := by
  delta State.takeAnswers
  extract_lets -merge -useContext x0 x1 x2 x3
  have h4 : Keep L r x3 := Keep.upd_slices (sub.trans rfl hl) h
  exact Keep.foldl (fun _ _ h5 => State.raise_keep (sub.trans rfl hl) h5) h4


theorem State.viewAnswer_keep {L r s a1} (hl : sub [.od, .slices] L = true) (h : Keep L r s) :
    Keep L r (State.viewAnswer s a1) := by
  delta State.viewAnswer
  exact State.putPan_keep (sub.trans rfl hl) (State.keepAnswer_keep (sub.trans rfl hl) h)


theorem State.viewStatuses_keep {L r s} (hl : sub [.od] L = true) (h : Keep L r s) :
    Keep L r (State.viewStatuses s) := by
  delta State.viewStatuses
  extract_lets -merge -useContext x0
  have h1 : Keep L r x0 := Keep.foldl (fun _ _ h2 => State.streamStatus_keep (sub.trans rfl hl) h2) h
  exact State.put_keep (sub.trans rfl hl) h1


theorem State.setDisp_keep {L r s a1 a2} (hl : sub [.slices] L = true) (h : Keep L r s) :
    Keep L r (State.setDisp s a1 a2) := by
  delta State.setDisp
  extract_lets -merge -useContext x0
  exact Keep.upd_slices (sub.trans rfl hl) h


theorem State.setRegion_keep {L r s a1 a2 a3} (hl : sub [.slices] L = true) (h : Keep L r s) :
    Keep L r (State.setRegion s a1 a2 a3) := by
  delta State.setRegion
  extract_lets -merge -useContext x0
  exact State.setDisp_keep (sub.trans rfl hl) h


theorem State.frameLatency_keep {L r s a1 a2 a3} (hl : sub [.od, .gate, .log, .slices, .acts] L = true) (h : Keep L r s) :
    Keep L r (State.frameLatency s a1 a2 a3) := by
  delta State.frameLatency
  extract_lets -merge -useContext x0 x1 x2
  exact (by
   split
   · exact h
   · exact (by
     extract_lets -merge -useContext x3 x5 x7 x9
     have h4 : Keep L r x3 := State.put_keep (sub.trans rfl hl) h
     have h6 : Keep L r x5 := State.put_keep (sub.trans rfl hl) h4
     have h8 : Keep L r x7 := State.put_keep (sub.trans rfl hl) h6
     have h10 : Keep L r x9 := State.histSample_keep (sub.trans rfl hl) (State.setRegion_keep (sub.trans rfl hl) h8)
     exact Keep.site (State.raise_keep (sub.trans rfl hl) (State.bump_keep (sub.trans rfl hl) h10)) h10))


theorem State.countLost_keep {L r s a1} (hl : sub [.od] L = true) (h : Keep L r s) :
    Keep L r (State.countLost s a1) := by
  delta State.countLost
  exact State.put_keep (sub.trans rfl hl) h


theorem State.regionEnd_keep {L r s a1 a2 a3} (hl : sub [.od, .gate, .log, .slices, .acts] L = true) (h : Keep L r s) :
    Keep L r (State.regionEnd s a1 a2 a3) := by
  delta State.regionEnd
  extract_lets -merge -useContext x0 x1 x2 x3 x4 x5 x6 x7 x8 x9 x11 x12
  have h10 : Keep L r x9 := State.setRegion_keep (sub.trans rfl hl) h
  have h13 : Keep L r x12 := State.frameLatency_keep (sub.trans rfl hl) (State.act_keep (sub.trans rfl hl) (State.put_keep (sub.trans rfl hl) h10))
  exact Keep.site (State.raise_keep (sub.trans rfl hl) (State.countLost_keep (sub.trans rfl hl) h13)) h13


theorem State.displayFrameEnd_keep {L r s a1} (hl : sub [.od, .gate, .log, .slices, .acts] L = true) (h : Keep L r s) :
    Keep L r (State.displayFrameEnd s a1) := by
  delta State.displayFrameEnd
  extract_lets -merge -useContext x0 x2
  have h1 : Keep L r x0 := Keep.foldl (fun _ _ h3 => (by
   split
   · exact State.regionEnd_keep (sub.trans rfl hl) h3
   · exact h3)) h
  exact Keep.site h (State.setDisp_keep (sub.trans rfl hl) h1)


theorem execDisplayFrameEnd_keep {L r a0 s} (hl : sub [.od, .gate, .log, .slices, .canopen, .fio, .acts] L = true) (h : Keep L r s) :
    Ends L r (execDisplayFrameEnd a0 s) := by
  delta execDisplayFrameEnd
  exact Keep.rnext (State.served_keep (sub.trans rfl hl) h (fun _ h0 => State.settle_keep (sub.trans rfl hl) (State.displayFrameEnd_keep (sub.trans rfl hl) h0)))


theorem State.trim_keep {L r s a1} (hl : sub [.od] L = true) (h : Keep L r s) :
    Keep L r (State.trim s a1) := by
  delta State.trim
  exact State.tookFree_keep (sub.trans rfl hl) (State.put_keep (sub.trans rfl hl) h)


theorem State.resetRegion_keep {L r s a1 a2 a3} (hl : sub [.od, .slices] L = true) (h : Keep L r s) :
    Keep L r (State.resetRegion s a1 a2 a3) := by
  delta State.resetRegion
  extract_lets -merge -useContext x0
  have h1 : Keep L r x0 := Keep.foldl (fun _ _ h2 => State.put_keep (sub.trans rfl hl) h2) h
  exact (by
   split
   · exact State.countLost_keep (sub.trans rfl hl) (State.setRegion_keep (sub.trans rfl hl) h1)
   · exact State.countLost_keep (sub.trans rfl hl) (State.put_keep (sub.trans rfl hl) (State.put_keep (sub.trans rfl hl) (State.setRegion_keep (sub.trans rfl hl) h1))))


theorem State.layOut_keep {L r s a1} (hl : sub [.od, .slices] L = true) (h : Keep L r s) :
    Keep L r (State.layOut s a1) := by
  delta State.layOut
  extract_lets -merge -useContext x0
  exact (by
   split
   · exact h
   · exact Keep.foldl (fun _ _ h1 => State.resetRegion_keep (sub.trans rfl hl) h1) (State.setDisp_keep (sub.trans rfl hl) h))


theorem State.sendPixels_keep {L r s a1 a2 a3 a4} (hl : sub [] L = true) (h : Keep L r s) :
    Keep L r (State.sendPixels s a1 a2 a3 a4) := by
  delta State.sendPixels
  exact State.emit_keep (sub.trans rfl hl) h


theorem State.sendOutside_keep {L r s a1} (hl : sub [] L = true) (h : Keep L r s) :
    Keep L r (State.sendOutside s a1) := by
  delta State.sendOutside
  exact Keep.foldl (fun _ _ h0 => Keep.foldl (fun _ _ h1 => State.sendPixels_keep (sub.trans rfl hl) h1) h0) h


theorem State.linkSetup_keep {L r s a1} (hl : sub [] L = true) (h : Keep L r s) :
    Keep L r (State.linkSetup s a1) := by
  delta State.linkSetup
  extract_lets -merge -useContext x0
  exact Keep.site (State.emit_keep (sub.trans rfl hl) (State.emit_keep (sub.trans rfl hl) h)) h


theorem State.realign_keep {L r s a1} (hl : sub [.od, .gate, .log, .slices, .acts] L = true) (h : Keep L r s) :
    Keep L r (State.realign s a1) := by
  delta State.realign
  extract_lets -merge -useContext x0
  exact State.raise_keep (sub.trans rfl hl) (State.setDisp_keep (sub.trans rfl hl) (State.bump_keep (sub.trans rfl hl) (State.put_keep (sub.trans rfl hl) h)))


theorem State.displayFrameStart_keep {L r s a1 a2} (hl : sub [.od, .gate, .log, .slices, .acts] L = true) (h : Keep L r s) :
    Keep L r (State.displayFrameStart s a1 a2) := by
  delta State.displayFrameStart
  extract_lets -merge -useContext x0 x1 x2 x3 x4 x5 x6 x7 x9 x10 x12 x14
  have h8 : Keep L r x7 := State.put_keep (sub.trans rfl hl) (State.put_keep (sub.trans rfl hl) h)
  have h11 : Keep L r x10 := State.trim_keep (sub.trans rfl hl) (State.setDisp_keep (sub.trans rfl hl) h8)
  have h13 : Keep L r x12 := Keep.site (State.layOut_keep (sub.trans rfl hl) h11) h11
  have h15 : Keep L r x14 := Keep.site h13 (State.sendOutside_keep (sub.trans rfl hl) (State.emit_keep (sub.trans rfl hl) (State.linkSetup_keep (sub.trans rfl hl) h13)))
  exact Keep.site h (Keep.site (Keep.site (State.put_keep (sub.trans rfl hl) h15) h15) (Keep.site h15 (State.realign_keep (sub.trans rfl hl) h15)))


theorem execDisplayFrameStart_keep {L r a0 a1 s} (hl : sub [.od, .gate, .log, .slices, .acts] L = true) (h : Keep L r s) :
    Ends L r (execDisplayFrameStart a0 a1 s) := by
  delta execDisplayFrameStart
  exact Keep.rnext (State.served_keep (sub.trans rfl hl) h (fun _ h0 => State.displayFrameStart_keep (sub.trans rfl hl) h0))


theorem State.panelScriptEnd_keep {L r s a1} (hl : sub [.od, .slices] L = true) (h : Keep L r s) :
    Keep L r (State.panelScriptEnd s a1) := by
  delta State.panelScriptEnd
  extract_lets -merge -useContext x0
  exact Keep.site (State.setDisp_keep (sub.trans rfl hl) (State.put_keep (sub.trans rfl hl) h)) h


theorem execPanelScriptEnd_keep {L r a0 s} (hl : sub [.od, .slices] L = true) (h : Keep L r s) :
    Ends L r (execPanelScriptEnd a0 s) := by
  delta execPanelScriptEnd
  exact Keep.rnext (State.served_keep (sub.trans rfl hl) h (fun _ h0 => State.panelScriptEnd_keep (sub.trans rfl hl) h0))


theorem State.judgeHold_keep {L r s a1 a2 a3} (hl : sub [.od, .gate, .log, .slices, .acts] L = true) (h : Keep L r s) :
    Keep L r (State.judgeHold s a1 a2 a3) := by
  delta State.judgeHold
  extract_lets -merge -useContext x0 x1 x2 x4
  have h3 : Keep L r x2 := State.put_keep (sub.trans rfl hl) h
  have h5 : Keep L r x4 := State.setRegion_keep (sub.trans rfl hl) h3
  exact Keep.site (State.raise_keep (sub.trans rfl hl) (State.countLost_keep (sub.trans rfl hl) (State.bump_keep (sub.trans rfl hl) (State.put_keep (sub.trans rfl hl) h5)))) h3


theorem State.tellDecision_keep {L r s a1 a2 a3 a4} (hl : sub [] L = true) (h : Keep L r s) :
    Keep L r (State.tellDecision s a1 a2 a3 a4) := by
  delta State.tellDecision
  split
  · exact State.toPartner_keep (sub.trans rfl hl) h
  · exact h


theorem State.markSlice_keep {L r s a1 a2 a3 a4 a5 a6 a7 a8} (hl : sub [.slices] L = true) (h : Keep L r s) :
    Keep L r (State.markSlice s a1 a2 a3 a4 a5 a6 a7 a8) := by
  delta State.markSlice
  exact State.setRegion_keep (sub.trans rfl hl) h


theorem State.fallBack_keep {L r s a1 a2 a3 a4 a5 a6 a7} (hl : sub [.od, .slices] L = true) (h : Keep L r s) :
    Keep L r (State.fallBack s a1 a2 a3 a4 a5 a6 a7) := by
  delta State.fallBack
  split
  · exact Keep.site (State.markSlice_keep (sub.trans rfl hl) h) (State.markSlice_keep (sub.trans rfl hl) (State.bump_keep (sub.trans rfl hl) h))
  · exact State.markSlice_keep (sub.trans rfl hl) (State.bump_keep (sub.trans rfl hl) h)


theorem State.dropIncomplete_keep {L r s a1 a2 a3 a4} (hl : sub [.od, .slices] L = true) (h : Keep L r s) :
    Keep L r (State.dropIncomplete s a1 a2 a3 a4) := by
  delta State.dropIncomplete
  extract_lets -merge -useContext x0 x1
  exact Keep.site (State.flightCount_keep (sub.trans rfl hl) (Keep.upd_slices (sub.trans rfl hl) h)) h


theorem State.decideExpected_keep {L r s a1 a2 a3 a4 a5 a6} (hl : sub [.od, .slices] L = true) (h : Keep L r s) :
    Keep L r (State.decideExpected s a1 a2 a3 a4 a5 a6) := by
  delta State.decideExpected
  extract_lets -merge -useContext x0 x1 x3 x4 x5 x6 x7
  unfold x7
  beta_reduce
  exact (by
   split
   · exact State.fallBack_keep (sub.trans rfl hl) (Keep.site h (State.bump_keep (sub.trans rfl hl) h))
   · exact (by
     extract_lets -merge -useContext x8 x9 x10 x12
     have h11 : Keep L r x10 := State.put_keep (sub.trans rfl hl) h
     have h13 : Keep L r x12 := Keep.site (State.bootStep_keep (sub.trans rfl hl) h11) h11
     exact Keep.site (State.fallBack_keep (sub.trans rfl hl) (Keep.site h (State.bump_keep (sub.trans rfl hl) h))) (Keep.site (State.fallBack_keep (sub.trans rfl hl) h) (Keep.site (State.fallBack_keep (sub.trans rfl hl) (Keep.site h (State.bump_keep (sub.trans rfl hl) h))) (Keep.site (State.fallBack_keep (sub.trans rfl hl) (State.bump_keep (sub.trans rfl hl) h)) (State.markSlice_keep (sub.trans rfl hl) h13))))))


theorem State.decideSlice_keep {L r s a1 a2 a3 a4 a5} (hl : sub [.od, .slices] L = true) (h : Keep L r s) :
    Keep L r (State.decideSlice s a1 a2 a3 a4 a5) := by
  delta State.decideSlice
  extract_lets -merge -useContext x0 x1
  exact Keep.site (State.markSlice_keep (sub.trans rfl hl) h) ((by
   split
   · exact State.fallBack_keep (sub.trans rfl hl) h
   · exact State.dropIncomplete_keep (sub.trans rfl hl) (State.decideExpected_keep (sub.trans rfl hl) h)))


theorem State.sliceCutOff_keep {L r s a1 a2 a3 a4} (hl : sub [.od, .gate, .log, .slices, .acts] L = true) (h : Keep L r s) :
    Keep L r (State.sliceCutOff s a1 a2 a3 a4) := by
  delta State.sliceCutOff
  split
  · exact h
  · exact Keep.site h (Keep.site h (State.judgeHold_keep (sub.trans rfl hl) (State.tellDecision_keep (sub.trans rfl hl) (State.decideSlice_keep (sub.trans rfl hl) h))))


theorem execSliceCutOff_keep {L r a0 a1 a2 a3 s} (hl : sub [.od, .gate, .log, .slices, .canopen, .fio, .acts] L = true) (h : Keep L r s) :
    Ends L r (execSliceCutOff a0 a1 a2 a3 s) := by
  delta execSliceCutOff
  exact Keep.rnext (State.served_keep (sub.trans rfl hl) h (fun _ h0 => State.settle_keep (sub.trans rfl hl) (State.sliceCutOff_keep (sub.trans rfl hl) h0)))


theorem State.sendSlice_keep {L r s a1 a2 a3 a4} (hl : sub [] L = true) (h : Keep L r s) :
    Keep L r (State.sendSlice s a1 a2 a3 a4) := by
  delta State.sendSlice
  extract_lets -merge -useContext x0
  exact Keep.site h (Keep.foldl (fun _ _ h2 => State.sendPixels_keep (sub.trans rfl hl) h2) h)


theorem State.sliceLatency_keep {L r s a1 a2 a3 a4} (hl : sub [.slices] L = true) (h : Keep L r s) :
    Keep L r (State.sliceLatency s a1 a2 a3 a4) := by
  delta State.sliceLatency
  extract_lets -merge -useContext x0
  exact (by
   split
   · exact (by
     extract_lets -merge -useContext x1
     exact Keep.site (State.setRegion_keep (sub.trans rfl hl) h) h)
   · exact h)


theorem State.sliceEmitted_keep {L r s a1 a2 a3 a4} (hl : sub [.slices] L = true) (h : Keep L r s) :
    Keep L r (State.sliceEmitted s a1 a2 a3 a4) := by
  delta State.sliceEmitted
  split
  · exact Keep.site h (State.sendSlice_keep (sub.trans rfl hl) (State.sliceLatency_keep (sub.trans rfl hl) h))
  · exact h


theorem execSliceEmitted_keep {L r a0 a1 a2 a3 s} (hl : sub [.slices] L = true) (h : Keep L r s) :
    Ends L r (execSliceEmitted a0 a1 a2 a3 s) := by
  delta execSliceEmitted
  exact Keep.rnext (State.served_keep (sub.trans rfl hl) h (fun _ h0 => State.sliceEmitted_keep (sub.trans rfl hl) h0))


theorem State.storeCell_keep {L r s a1 a2 a3 a4} (hl : sub [.od, .slices] L = true) (h : Keep L r s) :
    Keep L r (State.storeCell s a1 a2 a3 a4) := by
  delta State.storeCell
  extract_lets -merge -useContext x0 x1 x2 x3 x5 x6 x7
  have h4 : Keep L r x3 := Keep.site (State.bump_keep (sub.trans rfl hl) h) h
  exact State.setRegion_keep (sub.trans rfl hl) h4


theorem State.queueForward_keep {L r s a1 a2 a3} (hl : sub [.od, .slices] L = true) (h : Keep L r s) :
    Keep L r (State.queueForward s a1 a2 a3) := by
  delta State.queueForward
  exact Keep.foldl (fun _ _ h0 => (by
 extract_lets -merge -useContext x1 x2 x4 x5
 have h3 : Keep L r x2 := Keep.site (State.bump_keep (sub.trans rfl hl) h0) h0
 exact Keep.site (Keep.upd_slices (sub.trans rfl hl) h3) h0)) h


theorem State.verified_keep {L r s a1 a2 a3 a4} (hl : sub [.od, .gate, .log, .slices, .acts] L = true) (h : Keep L r s) :
    Keep L r (State.verified s a1 a2 a3 a4) := by
  delta State.verified
  extract_lets -merge -useContext x0 x1 x2 x4 x6 x8
  have h3 : Keep L r x2 := Keep.upd_slices (sub.trans rfl hl) h
  have h5 : Keep L r x4 := State.bump_keep (sub.trans rfl hl) h3
  have h7 : Keep L r x6 := Keep.site (State.bump_keep (sub.trans rfl hl) h5) h5
  have h9 : Keep L r x8 := Keep.foldl (fun _ _ h10 => State.storeCell_keep (sub.trans rfl hl) h10) h7
  exact Keep.site (State.raise_keep (sub.trans rfl hl) (State.bump_keep (sub.trans rfl hl) h)) (Keep.site (State.bump_keep (sub.trans rfl hl) h) (State.queueForward_keep (sub.trans rfl hl) h9))


theorem State.checked_keep {L r s a1 a2 a3 a4} (hl : sub [.od, .gate, .log, .slices, .acts] L = true) (h : Keep L r s) :
    Keep L r (State.checked s a1 a2 a3 a4) := by
  delta State.checked
  extract_lets -merge -useContext x0
  have h1 : Keep L r x0 := State.verified_keep (sub.trans rfl hl) h
  exact Keep.site (State.toPartner_keep (sub.trans rfl hl) h1) h1


theorem State.encoded_keep {L r s a1 a2 a3} (hl : sub [.od, .dict, .line, .gate, .log, .trust, .slices, .acts] L = true) (h : Keep L r s) :
    Keep L r (State.encoded s a1 a2 a3) := by
  delta State.encoded
  extract_lets -merge -useContext x0
  have h1 : Keep L r x0.1 := State.encodeSlice_keep (sub.trans rfl hl) h
  exact (by
   split
   · exact h1
   · exact (by
     split
     · exact State.bump_keep (sub.trans rfl hl) h1
     · exact State.flightCount_keep (sub.trans rfl hl) (State.checked_keep (sub.trans rfl hl) h1)))


theorem execSliceEncoded_keep {L r a0 a1 a2 s} (hl : sub [.od, .dict, .line, .gate, .log, .trust, .slices, .acts] L = true) (h : Keep L r s) :
    Ends L r (execSliceEncoded a0 a1 a2 s) := by
  delta execSliceEncoded
  exact Keep.rnext (State.served_keep (sub.trans rfl hl) h (fun _ h0 => State.encoded_keep (sub.trans rfl hl) h0))


theorem State.fragmentForwarded_keep {L r s a1 a2} (hl : sub [.od, .slices] L = true) (h : Keep L r s) :
    Keep L r (State.fragmentForwarded s a1 a2) := by
  delta State.fragmentForwarded
  extract_lets -merge -useContext x0 x1 x2
  exact Keep.site (State.flightCount_keep (sub.trans rfl hl) (State.bump_keep (sub.trans rfl hl) (State.bump_keep (sub.trans rfl hl) (Keep.upd_slices (sub.trans rfl hl) h)))) (Keep.upd_slices (sub.trans rfl hl) h)


theorem State.forwardPump_keep {L r s a1} (hl : sub [.od, .clock, .line, .slices] L = true) (h : Keep L r s) :
    Keep L r (State.forwardPump s a1) := by
  delta State.forwardPump
  split
  · exact h
  · exact (by
    split
    · exact h
    · exact (by
      extract_lets -merge -useContext x0
      exact Keep.site h (State.fragmentForwarded_keep (sub.trans rfl hl) (State.emit_keep (sub.trans rfl hl) (State.usedSequence_keep (sub.trans rfl hl) (State.starLeaves_keep (sub.trans rfl hl) h))))))


theorem State.forwardSlice_keep {L r s a1} (hl : sub [.od, .clock, .line, .slices] L = true) (h : Keep L r s) :
    Keep L r (State.forwardSlice s a1) := by
  delta State.forwardSlice
  extract_lets -merge -useContext x0
  exact (by
   split
   · exact h
   · exact Keep.site (State.forwardPump_keep (sub.trans rfl hl) (Keep.upd_slices (sub.trans rfl hl) h)) h)


theorem execSliceForward_keep {L r a0 s} (hl : sub [.od, .clock, .line, .slices] L = true) (h : Keep L r s) :
    Ends L r (execSliceForward a0 s) := by
  delta execSliceForward
  exact Keep.rnext (State.served_keep (sub.trans rfl hl) h (fun _ h0 => State.forwardSlice_keep (sub.trans rfl hl) h0))


theorem State.malformedSlice_keep {L r s a1 a2} (hl : sub [.od, .slices] L = true) (h : Keep L r s) :
    Keep L r (State.malformedSlice s a1 a2) := by
  delta State.malformedSlice
  extract_lets -merge -useContext x0 x1
  exact State.bump_keep (sub.trans rfl hl) (State.flightCount_keep (sub.trans rfl hl) (Keep.upd_slices (sub.trans rfl hl) h))


theorem State.abandonOlder_keep {L r s a1 a2} (hl : sub [.slices] L = true) (h : Keep L r s) :
    Keep L r (State.abandonOlder s a1 a2) := by
  delta State.abandonOlder
  extract_lets -merge -useContext x0
  exact Keep.upd_slices (sub.trans rfl hl) h


theorem State.fragmentIn_keep {L r s a1 a2 a3 a4} (hl : sub [.od, .gate, .log, .slices, .acts] L = true) (h : Keep L r s) :
    Keep L r (State.fragmentIn s a1 a2 a3 a4) := by
  delta State.fragmentIn
  extract_lets -merge -useContext x0 x1 x2 x4 x5 x7
  have h3 : Keep L r x2 := Keep.upd_slices (sub.trans rfl hl) h
  have h6 : Keep L r x5 := State.abandonOlder_keep (sub.trans rfl hl) h
  exact (by
   split
   · exact State.bump_keep (sub.trans rfl hl) h
   · exact (by
     extract_lets -merge -useContext x8 x9
     exact Keep.site h (Keep.site (State.malformedSlice_keep (sub.trans rfl hl) h) ((by
      split
      · exact (by
        extract_lets -merge -useContext x10
        exact Keep.site h (Keep.site (Keep.upd_slices (sub.trans rfl hl) h3) (State.flightCount_keep (sub.trans rfl hl) (State.checked_keep (sub.trans rfl hl) h3))))
      · exact Keep.site h (Keep.site (State.flightOverflow_keep (sub.trans rfl hl) (State.flightCount_keep (sub.trans rfl hl) h6)) (Keep.site (State.flightCount_keep (sub.trans rfl hl) (State.checked_keep (sub.trans rfl hl) h6)) (State.flightCount_keep (sub.trans rfl hl) (Keep.upd_slices (sub.trans rfl hl) h6)))))))))


theorem execSliceFragmentReceived_keep {L r a0 a1 a2 a3 s} (hl : sub [.od, .gate, .log, .slices, .acts] L = true) (h : Keep L r s) :
    Ends L r (execSliceFragmentReceived a0 a1 a2 a3 s) := by
  delta execSliceFragmentReceived
  exact Keep.rnext (State.served_keep (sub.trans rfl hl) h (fun _ h0 => State.fragmentIn_keep (sub.trans rfl hl) h0))


theorem State.displayOff_keep {L r s a1} (hl : sub [.od] L = true) (h : Keep L r s) :
    Keep L r (State.displayOff s a1) := by
  delta State.displayOff
  exact Keep.site h (State.emit_keep (sub.trans rfl hl) (State.put_keep (sub.trans rfl hl) h))


theorem State.applyDisplay_keep {L r s a1} (hl : sub [.od, .slices] L = true) (h : Keep L r s) :
    Keep L r (State.applyDisplay s a1) := by
  delta State.applyDisplay
  extract_lets -merge -useContext x0 x1 x2
  have h3 : Keep L r x2 := State.emit_keep (sub.trans rfl hl) (State.setDisp_keep (sub.trans rfl hl) (State.put_keep (sub.trans rfl hl) h))
  exact Keep.site (Keep.site (State.layOut_keep (sub.trans rfl hl) (Keep.foldl (fun _ _ h4 => State.emit_keep (sub.trans rfl hl) h4) h3)) h) (State.displayOff_keep (sub.trans rfl hl) h)


theorem State.changeRegions_keep {L r s a1 a2 a3 a4} (hl : sub [.od, .slices] L = true) (h : Keep L r s) :
    Keep L r (State.changeRegions s a1 a2 a3 a4) := by
  delta State.changeRegions
  extract_lets -merge -useContext x0 x1 x2
  have h3 : Keep L r x2 := State.setDisp_keep (sub.trans rfl hl) h
  exact Keep.site (State.layOut_keep (sub.trans rfl hl) h3) h3


theorem State.displaysAdopt_keep {L r s} (hl : sub [.od, .gate, .log, .slices, .acts] L = true) (h : Keep L r s) :
    Keep L r (State.displaysAdopt s) := by
  delta State.displaysAdopt
  extract_lets -merge -useContext x0 x1 x2
  have h3 : Keep L r x2 := Keep.upd_slices (sub.trans rfl hl) h
  exact Keep.foldl (fun _ _ h4 => Keep.site (State.realign_keep (sub.trans rfl hl) h4) h4) h3


theorem State.followDecision_keep {L r s a1 a2 a3 a4 a5 a6 a7} (hl : sub [.od, .gate, .log, .slices, .acts] L = true) (h : Keep L r s) :
    Keep L r (State.followDecision s a1 a2 a3 a4 a5 a6 a7) := by
  delta State.followDecision
  extract_lets -merge -useContext x0 x1 x2 x4
  have h3 : Keep L r x2 := Keep.site h (State.bump_keep (sub.trans rfl hl) h)
  have h5 : Keep L r x4 := by unfold x4; exact (by
   split
   · exact Keep.site (State.markSlice_keep (sub.trans rfl hl) (State.put_keep (sub.trans rfl hl) h3)) (State.markSlice_keep (sub.trans rfl hl) h3)
   · exact State.markSlice_keep (sub.trans rfl hl) h3
   · exact State.markSlice_keep (sub.trans rfl hl) h3)
  exact (by
   split
   · exact h
   · exact Keep.site h (State.judgeHold_keep (sub.trans rfl hl) h5))


theorem State.regionFigures_keep {L r s a1} (hl : sub [.od] L = true) (h : Keep L r s) :
    Keep L r (State.regionFigures s a1) := by
  delta State.regionFigures
  extract_lets -merge -useContext x0
  have h1 : Keep L r x0 := State.put_keep (sub.trans rfl hl) h
  exact Keep.foldl (fun _ _ h2 => (by
   split
   · exact State.put_keep (sub.trans rfl hl) h2
   · exact h2)) h1


theorem State.installAdmission_keep {L r s} (hl : sub [.od] L = true) (h : Keep L r s) :
    Keep L r (State.installAdmission s) := by
  delta State.installAdmission
  extract_lets -merge -useContext x0 x1 x2
  have h3 : Keep L r x2 := Keep.foldl (fun _ _ h4 => (by
   extract_lets -merge -useContext x5 x6 x7
   have h8 : Keep L r x7 := State.put_keep (sub.trans rfl hl) (State.put_keep (sub.trans rfl hl) (State.put_keep (sub.trans rfl hl) (State.put_keep (sub.trans rfl hl) (State.put_keep (sub.trans rfl hl) (State.put_keep (sub.trans rfl hl) h4)))))
   exact State.putBytes_keep (sub.trans rfl hl) h8)) h
  exact State.put_keep (sub.trans rfl hl) (State.put_keep (sub.trans rfl hl) (State.put_keep (sub.trans rfl hl) (State.put_keep (sub.trans rfl hl) h3)))


theorem State.judgeVotes_keep {L r s} (hl : sub [.od, .mooring] L = true) (h : Keep L r s) :
    Keep L r (State.judgeVotes s) := by
  delta State.judgeVotes
  extract_lets -merge -useContext x0 x1 x2 x4 x5 x7
  have h3 : Keep L r x2 := State.put_keep (sub.trans rfl hl) h
  have h6 : Keep L r x5 := Keep.upd_mooring (sub.trans rfl hl) h3
  have h8 : Keep L r x7 := Keep.site (State.toPartner_keep (sub.trans rfl hl) h6) h6
  exact Keep.site h8 (State.put_keep (sub.trans rfl hl) h8)


theorem State.awakeExpired_keep {L r s} (hl : sub [.od, .gate, .log, .mooring, .acts] L = true) (h : Keep L r s) :
    Keep L r (State.awakeExpired s) := by
  delta State.awakeExpired
  extract_lets -merge -useContext x0 x2
  have h1 : Keep L r x0 := State.raise_keep (sub.trans rfl hl) (State.bump_keep (sub.trans rfl hl) h)
  exact Keep.site h (State.judgeVotes_keep (sub.trans rfl hl) (Keep.upd_mooring (sub.trans rfl hl) h1))


theorem execAwakeTimerExpired_keep {L r s} (hl : sub [.od, .gate, .log, .mooring, .acts] L = true) (h : Keep L r s) :
    Ends L r (execAwakeTimerExpired s) := by
  delta execAwakeTimerExpired
  exact Keep.rnext (State.served_keep (sub.trans rfl hl) h (fun _ h0 => State.awakeExpired_keep (sub.trans rfl hl) h0))


theorem State.acceptWake_keep {L r s a1 a2} (hl : sub [.power, .wake] L = true) (h : Keep L r s) :
    Keep L r (State.acceptWake s a1 a2) := by
  delta State.acceptWake
  extract_lets -merge -useContext x0 x1
  exact Keep.upd_power_wake (sub.trans rfl hl) h


theorem State.wakeSource_keep {L r s a1 a2 a3} (hl : sub [.power, .wake] L = true) (h : Keep L r s) :
    Keep L r (State.wakeSource s a1 a2 a3) := by
  delta State.wakeSource
  extract_lets -merge -useContext x0
  exact Keep.site (Keep.site (Keep.upd_wake (sub.trans rfl hl) h) (State.acceptWake_keep (sub.trans rfl hl) h)) h


theorem execCanWuf_keep {L r a0 a1 s} (hl : sub [.power, .wake] L = true) (h : Keep L r s) :
    Ends L r (execCanWuf a0 a1 s) := by
  delta execCanWuf
  exact Keep.rnext (Keep.site (State.wakeSource_keep (sub.trans rfl hl) h) h)


theorem execCanWup_keep {L r a0 s} (hl : sub [.power, .wake] L = true) (h : Keep L r s) :
    Ends L r (execCanWup a0 s) := by
  delta execCanWup
  exact Keep.rnext (Keep.site (State.wakeSource_keep (sub.trans rfl hl) h) h)


theorem State.latchLate_keep {L r s a1} (hl : sub [.od, .wake] L = true) (h : Keep L r s) :
    Keep L r (State.latchLate s a1) := by
  delta State.latchLate
  extract_lets -merge -useContext x0 x2
  have h1 : Keep L r x0 := State.bump_keep (sub.trans rfl hl) h
  exact Keep.upd_wake (sub.trans rfl hl) h1


theorem State.enterPreparing_keep {L r s a1 a2} (hl : sub [.od, .gate, .log, .wake, .mooring, .acts] L = true) (h : Keep L r s) :
    Keep L r (State.enterPreparing s a1 a2) := by
  delta State.enterPreparing
  extract_lets -merge -useContext x0 x2 x3 x4
  have h1 : Keep L r x0 := State.raise_keep (sub.trans rfl hl) (State.put_keep (sub.trans rfl hl) (State.put_keep (sub.trans rfl hl) h))
  have h5 : Keep L r x4 := Keep.upd_mooring (sub.trans rfl hl) h1
  exact Keep.site h ((by
   clear_value x2
   split
   · exact State.latchLate_keep (sub.trans rfl hl) h5
   · exact h5))


theorem State.takeNew_keep {L r s} (hl : sub [.od, .mooring] L = true) (h : Keep L r s) :
    Keep L r (State.takeNew s).1 := by
  delta State.takeNew
  extract_lets -merge -useContext x0 x2 x3
  have h1 : Keep L r x0 := State.judgeVotes_keep (sub.trans rfl hl) h
  exact Keep.pair (Keep.upd_mooring (sub.trans rfl hl) h1)


theorem State.takeBit_keep {L r s} (hl : sub [.od, .mooring] L = true) (h : Keep L r s) :
    Keep L r (State.takeBit s).1 := by
  delta State.takeBit
  split
  · exact Keep.pite (Keep.pair h) (State.takeNew_keep (sub.trans rfl hl) h)
  · exact State.takeNew_keep (sub.trans rfl hl) h


theorem State.keepToken_keep {L r s a1 a2} (hl : sub [.mooring] L = true) (h : Keep L r s) :
    Keep L r (State.keepToken s a1 a2) := by
  delta State.keepToken
  extract_lets -merge -useContext x0 x1
  exact Keep.upd_mooring (sub.trans rfl hl) h


theorem State.judgeReturned_keep {L r s a1 a2} (hl : sub [.od, .gate, .log, .wake, .mooring, .acts] L = true) (h : Keep L r s) :
    Keep L r (State.judgeReturned s a1 a2) := by
  delta State.judgeReturned
  extract_lets -merge -useContext x0 x1 x2 x3 x4 x6 x7 x9 x10
  have h5 : Keep L r x4 := State.put_keep (sub.trans rfl hl) h
  have h8 : Keep L r x7 := Keep.upd_mooring (sub.trans rfl hl) h5
  exact Keep.site (State.enterPreparing_keep (sub.trans rfl hl) h8) h8


theorem State.consentReceived_keep {L r s a1 a2} (hl : sub [.od, .gate, .log, .wake, .mooring, .acts] L = true) (h : Keep L r s) :
    Keep L r (State.consentReceived s a1 a2) := by
  delta State.consentReceived
  extract_lets -merge -useContext x0 x1 x3
  have h2 : Keep L r x1 := Keep.site (State.enterPreparing_keep (sub.trans rfl hl) h) h
  have h4 : Keep L r x3.1 := State.takeBit_keep (sub.trans rfl hl) h2
  exact Keep.site h (Keep.site (State.keepToken_keep (sub.trans rfl hl) h4) (Keep.site (State.judgeReturned_keep (sub.trans rfl hl) h2) (State.put_keep (sub.trans rfl hl) h2)))


theorem execConsentReceived_keep {L r a0 a1 s} (hl : sub [.od, .gate, .log, .wake, .mooring, .acts] L = true) (h : Keep L r s) :
    Ends L r (execConsentReceived a0 a1 s) := by
  delta execConsentReceived
  exact Keep.rnext (State.served_keep (sub.trans rfl hl) h (fun _ h0 => State.consentReceived_keep (sub.trans rfl hl) h0))


theorem State.phySlept_keep {L r s a1} (hl : sub [.od, .gate, .log, .wake, .mooring, .acts] L = true) (h : Keep L r s) :
    Keep L r (State.phySlept s a1) := by
  delta State.phySlept
  extract_lets -merge -useContext x0 x1 x2 x4 x5 x7 x9
  have h3 : Keep L r x2 := Keep.upd_mooring (sub.trans rfl hl) h
  have h6 : Keep L r x5 := State.judgeVotes_keep (sub.trans rfl hl) h3
  have h8 : Keep L r x7 := State.emit_keep (sub.trans rfl hl) h6
  exact Keep.site (Keep.site (State.enterPreparing_keep (sub.trans rfl hl) h6) (Keep.upd_mooring (sub.trans rfl hl) h8)) h3


theorem execCouplerPhySleep_keep {L r a0 s} (hl : sub [.od, .gate, .log, .wake, .mooring, .acts] L = true) (h : Keep L r s) :
    Ends L r (execCouplerPhySleep a0 s) := by
  delta execCouplerPhySleep
  exact Keep.rnext (State.served_keep (sub.trans rfl hl) h (fun _ h0 => State.phySlept_keep (sub.trans rfl hl) h0))


theorem execFieldWakeRequest_keep {L r a0 s} (hl : sub [.power, .wake] L = true) (h : Keep L r s) :
    Ends L r (execFieldWakeRequest a0 s) := by
  delta execFieldWakeRequest
  exact Keep.rnext (Keep.site (State.wakeSource_keep (sub.trans rfl hl) h) h)


theorem State.powerDown_keep {L r s} (hl : sub [.od, .dict, .power, .clock, .mu, .line, .host, .gate, .log, .trust, .video, .slices, .canopen, .wake, .mooring, .fio, .pair, .lock, .pairing, .unitA, .acts] L = true) (h : Keep L r s) :
    Keep L r (State.powerDown s) := by
  delta State.powerDown
  extract_lets -merge -useContext x0 x2 x3
  have h1 : Keep L r x0 := State.logicReset_keep (sub.trans rfl hl) h
  exact Keep.upd_power_wake (sub.trans rfl hl) h1


theorem execPhySleepComplete_keep {L r s} (hl : sub [.od, .dict, .power, .clock, .mu, .line, .host, .gate, .log, .trust, .video, .slices, .canopen, .wake, .mooring, .fio, .pair, .lock, .pairing, .unitA, .acts] L = true) (h : Keep L r s) :
    Ends L r (execPhySleepComplete s) := by
  delta execPhySleepComplete
  exact Keep.rnext (State.served_keep (sub.trans rfl hl) h (fun _ h0 => Keep.site (State.powerDown_keep (sub.trans rfl hl) h0) h0))


theorem execRemoteWake_keep {L r a0 s} (hl : sub [.power, .wake] L = true) (h : Keep L r s) :
    Ends L r (execRemoteWake a0 s) := by
  delta execRemoteWake
  exact Keep.rnext (State.wakeSource_keep (sub.trans rfl hl) h)


theorem State.voteIdle_keep {L r s a1} (hl : sub [.od, .mooring] L = true) (h : Keep L r s) :
    Keep L r (State.voteIdle s a1) := by
  delta State.voteIdle
  extract_lets -merge -useContext x0
  exact Keep.site h (State.judgeVotes_keep (sub.trans rfl hl) (Keep.upd_mooring (sub.trans rfl hl) h))


theorem execVoteIdleExpired_keep {L r a0 s} (hl : sub [.od, .mooring] L = true) (h : Keep L r s) :
    Ends L r (execVoteIdleExpired a0 s) := by
  delta execVoteIdleExpired
  exact Keep.rnext (State.served_keep (sub.trans rfl hl) h (fun _ h0 => State.voteIdle_keep (sub.trans rfl hl) h0))


theorem State.wakeAccepted_keep {L r s} (hl : sub [.od, .mram, .power, .wake] L = true) (h : Keep L r s) :
    Keep L r (State.wakeAccepted s) := by
  delta State.wakeAccepted
  split
  · exact h
  · exact (by
    extract_lets -merge -useContext x0 x2 x3 x4 x6
    have h1 : Keep L r x0 := State.emit_keep (sub.trans rfl hl) (State.storeStored_keep (sub.trans rfl hl) (State.bump_keep (sub.trans rfl hl) (State.put_keep (sub.trans rfl hl) (State.put_keep (sub.trans rfl hl) h))))
    have h5 : Keep L r x4 := Keep.upd_power_wake (sub.trans rfl hl) h1
    exact Keep.site (Keep.upd_power (sub.trans rfl hl) h5) h5)


theorem execWakeAccepted_keep {L r s} (hl : sub [.od, .mram, .power, .wake] L = true) (h : Keep L r s) :
    Ends L r (execWakeAccepted s) := by
  delta execWakeAccepted
  exact Keep.rnext (State.wakeAccepted_keep (sub.trans rfl hl) h)


theorem State.dwellEnd_keep {L r s} (hl : sub [.power, .wake] L = true) (h : Keep L r s) :
    Keep L r (State.dwellEnd s) := by
  delta State.dwellEnd
  extract_lets -merge -useContext x0 x1
  have h2 : Keep L r x1 := Keep.upd_wake (sub.trans rfl hl) h
  exact Keep.site ((by
   split
   · exact State.acceptWake_keep (sub.trans rfl hl) h2
   · exact State.acceptWake_keep (sub.trans rfl hl) h2
   · exact h2)) h


theorem execWakeDwellEnd_keep {L r s} (hl : sub [.power, .wake] L = true) (h : Keep L r s) :
    Ends L r (execWakeDwellEnd s) := by
  delta execWakeDwellEnd
  exact Keep.rnext (State.dwellEnd_keep (sub.trans rfl hl) h)


theorem State.sourceActive_keep {L r s a1 a2} (hl : sub [.od, .wake, .mooring] L = true) (h : Keep L r s) :
    Keep L r (State.sourceActive s a1 a2) := by
  delta State.sourceActive
  extract_lets -merge -useContext x0 x2
  have h1 : Keep L r x0 := State.judgeVotes_keep (sub.trans rfl hl) h
  exact Keep.site h1 (Keep.site (State.latchLate_keep (sub.trans rfl hl) h1) (Keep.site (Keep.upd_mooring (sub.trans rfl hl) h1) h1))


theorem State.wakeIn_keep {L r s} (hl : sub [.od, .power, .wake, .mooring] L = true) (h : Keep L r s) :
    Keep L r (State.wakeIn s) := by
  delta State.wakeIn
  extract_lets -merge -useContext x0 x1
  have h2 : Keep L r x1 := Keep.upd_wake (sub.trans rfl hl) h
  exact Keep.site h (Keep.site (State.sourceActive_keep (sub.trans rfl hl) h2) (State.wakeSource_keep (sub.trans rfl hl) h2))


theorem execWakeInEdge_keep {L r s} (hl : sub [.od, .power, .wake, .mooring] L = true) (h : Keep L r s) :
    Ends L r (execWakeInEdge s) := by
  delta execWakeInEdge
  exact Keep.rnext (State.wakeIn_keep (sub.trans rfl hl) h)


theorem execWakeInInactive_keep {L r s} (hl : sub [.wake] L = true) (h : Keep L r s) :
    Ends L r (execWakeInInactive s) := by
  delta execWakeInInactive
  extract_lets -merge -useContext x0
  exact Keep.rnext (Keep.upd_wake (sub.trans rfl hl) h)


theorem execWakeProbe_keep {L r a0 s} (hl : sub [] L = true) (h : Keep L r s) :
    Ends L r (execWakeProbe a0 s) := by
  delta execWakeProbe
  exact Keep.rnext (State.served_keep (sub.trans rfl hl) h (fun _ h0 => Keep.site (State.emit_keep (sub.trans rfl hl) h0) h0))


theorem State.sendConsent_keep {L r s a1 a2 a3 a4} (hl : sub [.od, .line, .acts] L = true) (h : Keep L r s) :
    Keep L r (State.sendConsent s a1 a2 a3 a4) := by
  delta State.sendConsent
  extract_lets -merge -useContext x0 x1 x2
  have h3 : Keep L r x2 := State.sendFrame_keep (sub.trans rfl hl) h
  exact Keep.site ((by
   split
   · exact State.emit_keep (sub.trans rfl hl) h3
   · exact h3)) h


theorem State.consentLeadward_keep {L r s a1 a2 a3} (hl : sub [.od, .line, .gate, .log, .wake, .mooring, .acts] L = true) (h : Keep L r s) :
    Keep L r (State.consentLeadward s a1 a2 a3) := by
  delta State.consentLeadward
  extract_lets -merge -useContext x0 x1 x2
  have h3 : Keep L r x2 := Keep.upd_mooring (sub.trans rfl hl) h
  exact (by
   split
   · exact Keep.site (State.sendConsent_keep (sub.trans rfl hl) h) (Keep.site (State.judgeReturned_keep (sub.trans rfl hl) h3) (State.sendConsent_keep (sub.trans rfl hl) (State.put_keep (sub.trans rfl hl) h3)))
   · exact State.sendConsent_keep (sub.trans rfl hl) h)


theorem State.makeToken_keep {L r s a1} (hl : sub [.od, .mooring] L = true) (h : Keep L r s) :
    Keep L r (State.makeToken s a1) := by
  delta State.makeToken
  extract_lets -merge -useContext x0 x2 x4
  have h1 : Keep L r x0.1 := State.takeBit_keep (sub.trans rfl hl) h
  have h3 : Keep L r x2 := by unfold x2; exact h1
  exact State.keepToken_keep (sub.trans rfl hl) h3


theorem State.consentRearward_keep {L r s a1 a2 a3} (hl : sub [.od, .line, .mooring, .acts] L = true) (h : Keep L r s) :
    Keep L r (State.consentRearward s a1 a2 a3) := by
  delta State.consentRearward
  extract_lets -merge -useContext x0 x1 x3
  have h2 : Keep L r x1 := Keep.site (State.makeToken_keep (sub.trans rfl hl) h) h
  exact (by
   split
   · exact State.sendConsent_keep (sub.trans rfl hl) (Keep.upd_mooring (sub.trans rfl hl) h2)
   · exact State.sendConsent_keep (sub.trans rfl hl) h2)


theorem State.prepareMooring_keep {L r s} (hl : sub [.od, .mram, .gate, .log, .video, .canopen, .mooring, .fio, .acts] L = true) (h : Keep L r s) :
    Keep L r (State.prepareMooring s) := by
  delta State.prepareMooring
  extract_lets -merge -useContext x0 x2 x4 x5 x7 x9
  have h1 : Keep L r x0 := Keep.foldl (fun _ _ h12 => State.camOff_keep (sub.trans rfl hl) h12) h
  have h3 : Keep L r x2 := Keep.foldl (fun _ _ h11 => State.displayOff_keep (sub.trans rfl hl) h11) h1
  have h6 : Keep L r x5 := State.settle_keep (sub.trans rfl hl) (Keep.upd_fio (sub.trans rfl hl) h3)
  have h8 : Keep L r x7 := State.storeStored_keep (sub.trans rfl hl) (State.histStore_keep (sub.trans rfl hl) (State.times_keep (sub.trans rfl hl) h6 (fun _ h10 => State.reportWrite_keep (sub.trans rfl hl) h10)))
  exact Keep.upd_mooring (sub.trans rfl hl) h8


theorem State.mooringRecord_keep {L r s} (hl : sub [.od, .mram, .gate, .log, .mooring, .acts] L = true) (h : Keep L r s) :
    Keep L r (State.mooringRecord s) := by
  delta State.mooringRecord
  extract_lets -merge -useContext x0 x2
  have h1 : Keep L r x0 := State.storeStored_keep (sub.trans rfl hl) (State.bump_keep (sub.trans rfl hl) (State.reportWrite_keep (sub.trans rfl hl) (State.report_keep (sub.trans rfl hl) h)))
  exact Keep.upd_mooring (sub.trans rfl hl) h1


theorem State.mooringEntry_keep {L r s} (hl : sub [.od, .mooring] L = true) (h : Keep L r s) :
    Keep L r (State.mooringEntry s) := by
  delta State.mooringEntry
  extract_lets -merge -useContext x0 x2 x4 x6
  have h1 : Keep L r x0 := Keep.foldl (fun _ _ h9 => State.emit_keep (sub.trans rfl hl) h9) h
  have h3 : Keep L r x2 := Keep.foldl (fun _ _ h8 => State.emit_keep (sub.trans rfl hl) h8) h1
  have h5 : Keep L r x4 := Keep.foldl (fun _ _ h7 => State.put_keep (sub.trans rfl hl) h7) h3
  exact Keep.upd_mooring (sub.trans rfl hl) h5


theorem State.mooringBoundary_keep {L r s} (hl : sub [.od, .mram, .gate, .log, .video, .canopen, .mooring, .fio, .acts] L = true) (h : Keep L r s) :
    Keep L r (State.mooringBoundary s) := by
  delta State.mooringBoundary
  extract_lets -merge -useContext x0 x1 x3
  have h2 : Keep L r x1 := Keep.site (State.prepareMooring_keep (sub.trans rfl hl) h) h
  have h4 : Keep L r x3 := Keep.site (State.mooringRecord_keep (sub.trans rfl hl) h2) h2
  exact Keep.site h (Keep.site (State.mooringEntry_keep (sub.trans rfl hl) h4) h4)


end Sys2Proof.Machine
end

