-- ==== Sys2Proof/Laws/KeepPorts.lean ====
section
/-!
SUPPORT. What each operation may change: CAN, the field channels, the lock and the pair. One lemma per operation, by its name with `_keep`.
-/

set_option linter.unusedTactic false
set_option linter.unreachableTactic false
set_option linter.unusedVariables false

namespace Sys2Proof.Machine

theorem exchangeWrite_wf {m : List Host.Cell} (h : Memory.wf m = true) (o : Nat) (data : List Byte) (e : List Bool) :
    Memory.wf (State.exchangeWrite m o data e) = true := by
  unfold State.exchangeWrite
  generalize List.range data.length = l
  induction l generalizing m with
  | nil => exact h
  | cons i l ih =>
    refine ih ?_
    by_cases he : enabled e i = true
    · simpa [he] using memWrite_wf h _ _
    · simpa [he] using h

theorem State.canIdle_keep {L r s a1} (hl : sub [.canopen] L = true) (h : Keep L r s) :
    Keep L r (State.canIdle s a1) := by
  delta State.canIdle
  extract_lets -merge -useContext x0
  exact State.setCan_keep (sub.trans rfl hl) h


theorem State.bufEnds_keep {L r s a1 a2 a3} (hl : sub [.od, .canopen] L = true) (h : Keep L r s) :
    Keep L r (State.bufEnds s a1 a2 a3) := by
  delta State.bufEnds
  extract_lets -merge -useContext x0
  exact State.setCan_keep (sub.trans rfl hl) (State.put_keep (sub.trans rfl hl) h)


theorem State.txLost_keep {L r s a1} (hl : sub [.od, .canopen] L = true) (h : Keep L r s) :
    Keep L r (State.txLost s a1) := by
  delta State.txLost
  extract_lets -merge -useContext x0 x1
  have h2 : Keep L r x1 := State.canIdle_keep (sub.trans rfl hl) h
  exact (by
   split
   · exact h
   · exact (by
     extract_lets -merge -useContext x3
     have h4 : Keep L r x3 := Keep.site (Keep.site (State.bufEnds_keep (sub.trans rfl hl) h2) (Keep.site (State.bufEnds_keep (sub.trans rfl hl) h2) h2)) h2
     exact State.canPump_keep (sub.trans rfl hl) h4))


theorem State.arbitrationLost_keep {L r s a1} (hl : sub [.od, .canopen] L = true) (h : Keep L r s) :
    Keep L r (State.arbitrationLost s a1) := by
  delta State.arbitrationLost
  exact Keep.site (State.txLost_keep (sub.trans rfl hl) (State.bump_keep (sub.trans rfl hl) h)) h


theorem execArbitrationLost_keep {L r a0 s} (hl : sub [.od, .canopen] L = true) (h : Keep L r s) :
    Ends L r (execArbitrationLost a0 s) := by
  delta execArbitrationLost
  exact Keep.rnext (State.served_keep (sub.trans rfl hl) h (fun _ h0 => State.arbitrationLost_keep (sub.trans rfl hl) h0))


theorem State.busOffRecovered_keep {L r s a1} (hl : sub [.od, .canopen, .acts] L = true) (h : Keep L r s) :
    Keep L r (State.busOffRecovered s a1) := by
  delta State.busOffRecovered
  extract_lets -merge -useContext x0 x2 x3 x5
  have h1 : Keep L r x0 := State.put_keep (sub.trans rfl hl) (State.put_keep (sub.trans rfl hl) (State.put_keep (sub.trans rfl hl) h))
  have h4 : Keep L r x3 := State.setCan_keep (sub.trans rfl hl) h1
  have h6 : Keep L r x5 := Keep.site (State.emcy_keep (sub.trans rfl hl) (State.emcyScan_keep (sub.trans rfl hl) h4)) h4
  exact Keep.site (State.canPump_keep (sub.trans rfl hl) h6) h


theorem execBusOffRecovered_keep {L r a0 s} (hl : sub [.od, .canopen, .acts] L = true) (h : Keep L r s) :
    Ends L r (execBusOffRecovered a0 s) := by
  delta execBusOffRecovered
  exact Keep.rnext (State.served_keep (sub.trans rfl hl) h (fun _ h0 => State.busOffRecovered_keep (sub.trans rfl hl) h0))


theorem State.detectFails_keep {L r s a1} (hl : sub [.od, .canopen] L = true) (h : Keep L r s) :
    Keep L r (State.detectFails s a1) := by
  delta State.detectFails
  extract_lets -merge -useContext x0
  exact State.setCan_keep (sub.trans rfl hl) (State.put_keep (sub.trans rfl hl) (State.put_keep (sub.trans rfl hl) h))


theorem State.measureFrom_keep {L r s a1 a2} (hl : sub [.od, .canopen] L = true) (h : Keep L r s) :
    Keep L r (State.measureFrom s a1 a2) := by
  delta State.measureFrom
  extract_lets -merge -useContext x0
  exact Keep.site (State.detectFails_keep (sub.trans rfl hl) h) (State.setCan_keep (sub.trans rfl hl) (State.put_keep (sub.trans rfl hl) (State.put_keep (sub.trans rfl hl) h)))


theorem State.trialBad_keep {L r s a1} (hl : sub [.od, .canopen] L = true) (h : Keep L r s) :
    Keep L r (State.trialBad s a1) := by
  delta State.trialBad
  extract_lets -merge -useContext x0
  exact (by
   split
   · exact h
   · exact State.measureFrom_keep (sub.trans rfl hl) h)


theorem State.sdoAbort_keep {L r s a1} (hl : sub [.od, .dict, .canopen, .acts] L = true) (h : Keep L r s) :
    Keep L r (State.sdoAbort s a1) := by
  delta State.sdoAbort
  extract_lets -merge -useContext x0 x1 x2 x4 x5
  have h3 : Keep L r x2 := State.tookFree_keep (sub.trans rfl hl) h
  have h6 : Keep L r x5 := Keep.upd_dict (sub.trans rfl hl) h3
  exact Keep.site (State.queueFrame_keep (sub.trans rfl hl) h6) h6


theorem State.nmtTo_keep {L r s a1} (hl : sub [.od, .dict, .gate, .log, .canopen, .acts] L = true) (h : Keep L r s) :
    Keep L r (State.nmtTo s a1) := by
  delta State.nmtTo
  extract_lets -merge -useContext x0
  have h1 : Keep L r x0 := Keep.site (State.sdoAbort_keep (sub.trans rfl hl) h) h
  exact Keep.site h (State.raise_keep (sub.trans rfl hl) (State.put_keep (sub.trans rfl hl) h1))


theorem State.commError_keep {L r s} (hl : sub [.od, .dict, .gate, .log, .canopen, .acts] L = true) (h : Keep L r s) :
    Keep L r (State.commError s) := by
  delta State.commError
  extract_lets -merge -useContext x0
  exact Keep.site (Keep.site (State.nmtTo_keep (sub.trans rfl hl) h) h) (Keep.site (State.nmtTo_keep (sub.trans rfl hl) h) h)


theorem State.raiseErrors_keep {L r s a1 a2} (hl : sub [.od, .dict, .gate, .log, .canopen, .acts] L = true) (h : Keep L r s) :
    Keep L r (State.raiseErrors s a1 a2) := by
  delta State.raiseErrors
  extract_lets -merge -useContext x0 x1 x2 x4
  have h3 : Keep L r x2 := State.put_keep (sub.trans rfl hl) (State.put_keep (sub.trans rfl hl) h)
  have h5 : Keep L r x4 := State.raise_keep (sub.trans rfl hl) (State.bump_keep (sub.trans rfl hl) (State.put_keep (sub.trans rfl hl) h3))
  exact Keep.site (Keep.site (State.commError_keep (sub.trans rfl hl) h5) h5) (Keep.site (State.raise_keep (sub.trans rfl hl) (State.bump_keep (sub.trans rfl hl) (State.put_keep (sub.trans rfl hl) h3))) h3)


theorem State.busError_keep {L r s a1 a2 a3 a4} (hl : sub [.od, .dict, .gate, .log, .canopen, .acts] L = true) (h : Keep L r s) :
    Keep L r (State.busError s a1 a2 a3 a4) := by
  delta State.busError
  extract_lets -merge -useContext x0 x1 x3
  have h2 : Keep L r x1 := State.put_keep (sub.trans rfl hl) h
  have h4 : Keep L r x3 := State.raiseErrors_keep (sub.trans rfl hl) (State.bump_keep (sub.trans rfl hl) h2)
  exact Keep.site h (Keep.site (Keep.site (State.trialBad_keep (sub.trans rfl hl) h2) h2) (Keep.site h2 (State.emcyScan_keep (sub.trans rfl hl) (Keep.site (State.txLost_keep (sub.trans rfl hl) h4) h4))))


theorem execCanBusError_keep {L r a0 a1 a2 a3 s} (hl : sub [.od, .dict, .gate, .log, .canopen, .acts] L = true) (h : Keep L r s) :
    Ends L r (execCanBusError a0 a1 a2 a3 s) := by
  delta execCanBusError
  exact Keep.rnext (State.served_keep (sub.trans rfl hl) h (fun _ h0 => State.busError_keep (sub.trans rfl hl) h0))


theorem State.measureDelay_keep {L r s a1 a2} (hl : sub [.od] L = true) (h : Keep L r s) :
    Keep L r (State.measureDelay s a1 a2) := by
  delta State.measureDelay
  extract_lets -merge -useContext x0
  exact Keep.site (State.tookFree_keep (sub.trans rfl hl) (State.put_keep (sub.trans rfl hl) h)) h


theorem State.fallActive_keep {L r s a1} (hl : sub [.od] L = true) (h : Keep L r s) :
    Keep L r (State.fallActive s a1) := by
  delta State.fallActive
  exact Keep.site (State.put_keep (sub.trans rfl hl) h) h


theorem State.txComplete_keep {L r s a1 a2} (hl : sub [.od, .gate, .log, .canopen, .acts] L = true) (h : Keep L r s) :
    Keep L r (State.txComplete s a1 a2) := by
  delta State.txComplete
  extract_lets -merge -useContext x0
  exact (by
   split
   · exact h
   · exact (by
     split
     · exact State.canIdle_keep (sub.trans rfl hl) h
     · exact (by
       extract_lets -merge -useContext x1 x3 x5 x6
       have h2 : Keep L r x1 := State.measureDelay_keep (sub.trans rfl hl) (State.bump_keep (sub.trans rfl hl) (State.bump_keep (sub.trans rfl hl) (State.emit_keep (sub.trans rfl hl) h)))
       have h4 : Keep L r x3 := State.fallActive_keep (sub.trans rfl hl) (State.put_keep (sub.trans rfl hl) h2)
       have h7 : Keep L r x6 := Keep.site (State.raise_keep (sub.trans rfl hl) (State.bufEnds_keep (sub.trans rfl hl) (State.put_keep (sub.trans rfl hl) h4))) (State.setCan_keep (sub.trans rfl hl) h4)
       exact State.emcyScan_keep (sub.trans rfl hl) (State.canPump_keep (sub.trans rfl hl) (State.canIdle_keep (sub.trans rfl hl) h7)))))


theorem execCanTxComplete_keep {L r a0 a1 s} (hl : sub [.od, .gate, .log, .canopen, .acts] L = true) (h : Keep L r s) :
    Ends L r (execCanTxComplete a0 a1 s) := by
  delta execCanTxComplete
  exact Keep.rnext (State.served_keep (sub.trans rfl hl) h (fun _ h0 => State.txComplete_keep (sub.trans rfl hl) h0))


theorem State.takeTiming_keep {L r s a1 a2} (hl : sub [.canopen] L = true) (h : Keep L r s) :
    Keep L r (State.takeTiming s a1 a2) := by
  delta State.takeTiming
  extract_lets -merge -useContext x0
  exact State.setCan_keep (sub.trans rfl hl) h


theorem State.detectionEdge_keep {L r s a1 a2} (hl : sub [.od, .canopen] L = true) (h : Keep L r s) :
    Keep L r (State.detectionEdge s a1 a2) := by
  delta State.detectionEdge
  extract_lets -merge -useContext x0 x1 x2 x3 x4
  exact Keep.site h ((by
   clear_value x2
   split
   · exact State.detectFails_keep (sub.trans rfl hl) h
   · exact Keep.site (State.takeTiming_keep (sub.trans rfl hl) (State.setCan_keep (sub.trans rfl hl) (State.put_keep (sub.trans rfl hl) h))) (State.setCan_keep (sub.trans rfl hl) h)))


theorem execDetectionEdge_keep {L r a0 a1 s} (hl : sub [.od, .canopen] L = true) (h : Keep L r s) :
    Ends L r (execDetectionEdge a0 a1 s) := by
  delta execDetectionEdge
  exact Keep.rnext (State.served_keep (sub.trans rfl hl) h (fun _ h0 => State.detectionEdge_keep (sub.trans rfl hl) h0))


theorem execDetectionTimeout_keep {L r a0 s} (hl : sub [.od, .canopen] L = true) (h : Keep L r s) :
    Ends L r (execDetectionTimeout a0 s) := by
  delta execDetectionTimeout
  exact Keep.rnext (State.served_keep (sub.trans rfl hl) h (fun _ h0 => Keep.site (State.detectFails_keep (sub.trans rfl hl) h0) h0))


theorem State.emcyNext_keep {L r s} (hl : sub [.od, .canopen, .acts] L = true) (h : Keep L r s) :
    Keep L r (State.emcyNext s) := by
  delta State.emcyNext
  extract_lets -merge -useContext x0 x1 x3
  have h2 : Keep L r x1 := Keep.upd_canopen (sub.trans rfl hl) h
  exact (by
   split
   · exact h2
   · exact State.emcyOut_keep (sub.trans rfl hl) (Keep.upd_canopen (sub.trans rfl hl) h2))


theorem execEmcyInhibitExpired_keep {L r s} (hl : sub [.od, .canopen, .acts] L = true) (h : Keep L r s) :
    Ends L r (execEmcyInhibitExpired s) := by
  delta execEmcyInhibitExpired
  exact Keep.rnext (State.served_keep (sub.trans rfl hl) h (fun _ h0 => State.emcyNext_keep (sub.trans rfl hl) h0))


theorem State.produceHeartbeat_keep {L r s} (hl : sub [.od, .canopen, .acts] L = true) (h : Keep L r s) :
    Keep L r (State.produceHeartbeat s) := by
  delta State.produceHeartbeat
  exact Keep.site h (State.queueFrame_keep (sub.trans rfl hl) h)


theorem execHeartbeatProduce_keep {L r s} (hl : sub [.od, .canopen, .acts] L = true) (h : Keep L r s) :
    Ends L r (execHeartbeatProduce s) := by
  delta execHeartbeatProduce
  exact Keep.rnext (State.served_keep (sub.trans rfl hl) h (fun _ h0 => State.produceHeartbeat_keep (sub.trans rfl hl) h0))


theorem State.heartbeat_keep {L r s a1} (hl : sub [.od, .canopen, .acts] L = true) (h : Keep L r s) :
    Keep L r (State.heartbeat s a1) := by
  delta State.heartbeat
  exact State.emcyScan_keep (sub.trans rfl hl) (Keep.foldl (fun _ _ h0 => (by
 extract_lets -merge -useContext x1
 exact Keep.site (State.put_keep (sub.trans rfl hl) h0) h0)) h)


theorem execHeartbeatReceived_keep {L r a0 s} (hl : sub [.od, .canopen, .acts] L = true) (h : Keep L r s) :
    Ends L r (execHeartbeatReceived a0 s) := by
  delta execHeartbeatReceived
  exact Keep.rnext (State.served_keep (sub.trans rfl hl) h (fun _ h0 => State.heartbeat_keep (sub.trans rfl hl) h0))


theorem State.heartbeatLost_keep {L r s a1} (hl : sub [.od, .dict, .gate, .log, .canopen, .acts] L = true) (h : Keep L r s) :
    Keep L r (State.heartbeatLost s a1) := by
  delta State.heartbeatLost
  extract_lets -merge -useContext x0 x1 x3
  have h2 : Keep L r x1 := State.raise_keep (sub.trans rfl hl) (State.bump_keep (sub.trans rfl hl) (State.put_keep (sub.trans rfl hl) h))
  have h4 : Keep L r x3 := Keep.site (State.emcy_keep (sub.trans rfl hl) h2) h2
  exact Keep.site h (State.commError_keep (sub.trans rfl hl) (State.emcyScan_keep (sub.trans rfl hl) h4))


theorem execHeartbeatTimeout_keep {L r a0 s} (hl : sub [.od, .dict, .gate, .log, .canopen, .acts] L = true) (h : Keep L r s) :
    Ends L r (execHeartbeatTimeout a0 s) := by
  delta execHeartbeatTimeout
  exact Keep.rnext (State.served_keep (sub.trans rfl hl) h (fun _ h0 => State.heartbeatLost_keep (sub.trans rfl hl) h0))


theorem State.startConsumers_keep {L r s} (hl : sub [.od] L = true) (h : Keep L r s) :
    Keep L r (State.startConsumers s) := by
  delta State.startConsumers
  exact Keep.foldl (fun _ _ h0 => (by
 extract_lets -merge -useContext x1
 exact State.put_keep (sub.trans rfl hl) h0)) h


theorem State.bootUp_keep {L r s} (hl : sub [.od, .dict, .gate, .log, .canopen, .acts] L = true) (h : Keep L r s) :
    Keep L r (State.bootUp s) := by
  delta State.bootUp
  extract_lets -merge -useContext x0 x2 x3 x5
  have h1 : Keep L r x0 := State.startConsumers_keep (sub.trans rfl hl) h
  have h4 : Keep L r x3 := Keep.upd_canopen (sub.trans rfl hl) h1
  have h6 : Keep L r x5 := Keep.site (State.bump_keep (sub.trans rfl hl) (State.queueFrame_keep (sub.trans rfl hl) h4)) h4
  exact State.nmtTo_keep (sub.trans rfl hl) h6


theorem State.resetCommunication_keep {L r s} (hl : sub [.od, .dict, .gate, .log, .canopen, .acts] L = true) (h : Keep L r s) :
    Keep L r (State.resetCommunication s) := by
  delta State.resetCommunication
  extract_lets -merge -useContext x0 x2 x3
  have h1 : Keep L r x0 := State.nmtTo_keep (sub.trans rfl hl) h
  have h4 : Keep L r x3 := Keep.upd_canopen (sub.trans rfl hl) h1
  exact State.bootUp_keep (sub.trans rfl hl) h4


theorem State.resetNode_keep {L r s} (hl : sub [.od, .dict, .gate, .log, .canopen, .acts] L = true) (h : Keep L r s) :
    Keep L r (State.resetNode s) := by
  delta State.resetNode
  extract_lets -merge -useContext x0
  have h1 : Keep L r x0 := Keep.foldl (fun _ _ h2 => State.put_keep (sub.trans rfl hl) h2) h
  exact State.resetCommunication_keep (sub.trans rfl hl) h1


theorem State.nmt_keep {L r s a1 a2} (hl : sub [.od, .dict, .gate, .log, .canopen, .acts] L = true) (h : Keep L r s) :
    Keep L r (State.nmt s a1 a2) := by
  delta State.nmt
  exact Keep.site h (Keep.site h (Keep.site (State.nmtTo_keep (sub.trans rfl hl) h) (Keep.site (State.nmtTo_keep (sub.trans rfl hl) h) (Keep.site (State.nmtTo_keep (sub.trans rfl hl) h) (Keep.site (State.resetNode_keep (sub.trans rfl hl) h) (Keep.site (State.resetCommunication_keep (sub.trans rfl hl) h) h))))))


theorem execNmtEnterPreoperational_keep {L r a0 s} (hl : sub [.od, .dict, .gate, .log, .canopen, .acts] L = true) (h : Keep L r s) :
    Ends L r (execNmtEnterPreoperational a0 s) := by
  delta execNmtEnterPreoperational
  exact Keep.rnext (State.served_keep (sub.trans rfl hl) h (fun _ h0 => State.nmt_keep (sub.trans rfl hl) h0))


theorem execNmtResetCommunication_keep {L r a0 s} (hl : sub [.od, .dict, .gate, .log, .canopen, .acts] L = true) (h : Keep L r s) :
    Ends L r (execNmtResetCommunication a0 s) := by
  delta execNmtResetCommunication
  exact Keep.rnext (State.served_keep (sub.trans rfl hl) h (fun _ h0 => State.nmt_keep (sub.trans rfl hl) h0))


theorem execNmtResetNode_keep {L r a0 s} (hl : sub [.od, .dict, .gate, .log, .canopen, .acts] L = true) (h : Keep L r s) :
    Ends L r (execNmtResetNode a0 s) := by
  delta execNmtResetNode
  exact Keep.rnext (State.served_keep (sub.trans rfl hl) h (fun _ h0 => State.nmt_keep (sub.trans rfl hl) h0))


theorem execNmtStart_keep {L r a0 s} (hl : sub [.od, .dict, .gate, .log, .canopen, .acts] L = true) (h : Keep L r s) :
    Ends L r (execNmtStart a0 s) := by
  delta execNmtStart
  exact Keep.rnext (State.served_keep (sub.trans rfl hl) h (fun _ h0 => State.nmt_keep (sub.trans rfl hl) h0))


theorem execNmtStop_keep {L r a0 s} (hl : sub [.od, .dict, .gate, .log, .canopen, .acts] L = true) (h : Keep L r s) :
    Ends L r (execNmtStop a0 s) := by
  delta execNmtStop
  exact Keep.rnext (State.served_keep (sub.trans rfl hl) h (fun _ h0 => State.nmt_keep (sub.trans rfl hl) h0))


theorem State.recoveryRequest_keep {L r s a1} (hl : sub [.canopen] L = true) (h : Keep L r s) :
    Keep L r (State.recoveryRequest s a1) := by
  delta State.recoveryRequest
  extract_lets -merge -useContext x0
  exact Keep.site (State.setCan_keep (sub.trans rfl hl) h) h


theorem execRecoveryRequest_keep {L r a0 a1 a2 s} (hl : sub [.od, .host, .gate, .log, .canopen, .pair, .acts] L = true) (h : Keep L r s) :
    Ends L r (execRecoveryRequest a0 a1 a2 s) := by
  delta execRecoveryRequest
  exact Keep.rnext (State.served_keep (sub.trans rfl hl) h (fun _ h0 => State.accessAct_keep (sub.trans rfl hl) h0 (fun _ h1 => Keep.pair (State.recoveryRequest_keep (sub.trans rfl hl) h1))))


theorem State.fillObject_keep {L r s a1 a2 a3 a4} (hl : sub [.od, .gate, .log, .acts] L = true) (h : Keep L r s) :
    Keep L r (State.fillObject s a1 a2 a3 a4) := by
  delta State.fillObject
  extract_lets -merge -useContext x0 x1 x2 x3 x4
  have h5 : Keep L r x4 := State.put_keep (sub.trans rfl hl) (State.putBytes_keep (sub.trans rfl hl) (State.put_keep (sub.trans rfl hl) (State.put_keep (sub.trans rfl hl) (State.put_keep (sub.trans rfl hl) (State.put_keep (sub.trans rfl hl) h)))))
  exact Keep.site (State.raise_keep (sub.trans rfl hl) h5) h5


theorem State.rxRelease_keep {L r s a1 a2} (hl : sub [.od, .gate, .log, .canopen, .acts] L = true) (h : Keep L r s) :
    Keep L r (State.rxRelease s a1 a2) := by
  delta State.rxRelease
  extract_lets -merge -useContext x0 x1
  exact (by
   split
   · exact State.fillObject_keep (sub.trans rfl hl) (State.setCan_keep (sub.trans rfl hl) h)
   · exact State.put_keep (sub.trans rfl hl) h)


theorem execRxRelease_keep {L r a0 a1 a2 a3 s} (hl : sub [.od, .host, .gate, .log, .canopen, .pair, .acts] L = true) (h : Keep L r s) :
    Ends L r (execRxRelease a0 a1 a2 a3 s) := by
  delta execRxRelease
  exact Keep.rnext (State.served_keep (sub.trans rfl hl) h (fun _ h0 => State.accessAct_keep (sub.trans rfl hl) h0 (fun _ h1 => Keep.pair (State.rxRelease_keep (sub.trans rfl hl) h1))))


theorem State.startDetection_keep {L r s a1} (hl : sub [.od, .canopen] L = true) (h : Keep L r s) :
    Keep L r (State.startDetection s a1) := by
  delta State.startDetection
  extract_lets -merge -useContext x0 x2 x3
  have h1 : Keep L r x0 := State.put_keep (sub.trans rfl hl) (State.put_keep (sub.trans rfl hl) (State.put_keep (sub.trans rfl hl) h))
  have h4 : Keep L r x3 := State.setCan_keep (sub.trans rfl hl) h1
  exact State.measureFrom_keep (sub.trans rfl hl) h4


theorem execStartDetection_keep {L r a0 a1 a2 s} (hl : sub [.od, .host, .gate, .log, .canopen, .pair, .acts] L = true) (h : Keep L r s) :
    Ends L r (execStartDetection a0 a1 a2 s) := by
  delta execStartDetection
  exact Keep.rnext (State.served_keep (sub.trans rfl hl) h (fun _ h0 => State.accessAct_keep (sub.trans rfl hl) h0 (fun _ h1 => Keep.pair (State.startDetection_keep (sub.trans rfl hl) h1))))


theorem State.produceTime_keep {L r s} (hl : sub [.od, .canopen, .acts] L = true) (h : Keep L r s) :
    Keep L r (State.produceTime s) := by
  delta State.produceTime
  extract_lets -merge -useContext x0 x1 x2
  exact Keep.site (State.queueFrame_keep (sub.trans rfl hl) h) h


theorem execTimeProduce_keep {L r s} (hl : sub [.od, .canopen, .acts] L = true) (h : Keep L r s) :
    Ends L r (execTimeProduce s) := by
  delta execTimeProduce
  exact Keep.rnext (State.served_keep (sub.trans rfl hl) h (fun _ h0 => State.produceTime_keep (sub.trans rfl hl) h0))


theorem State.offerObjects_keep {L r s a1 a2} (hl : sub [.od, .gate, .log, .canopen, .acts] L = true) (h : Keep L r s) :
    Keep L r (State.offerObjects s a1 a2) := by
  delta State.offerObjects
  split
  · exact State.bump_keep (sub.trans rfl hl) h
  · exact (by
    extract_lets -merge -useContext x0 x1 x2 x4
    have h3 : Keep L r x2 := Keep.site (State.bump_keep (sub.trans rfl hl) (State.bump_keep (sub.trans rfl hl) h)) h
    exact Keep.site (State.fillObject_keep (sub.trans rfl hl) h) (State.setCan_keep (sub.trans rfl hl) (State.put_keep (sub.trans rfl hl) h3)))


theorem State.ingressRoute_keep {L r s a1 a2 a3 a4} (hl : sub [.od, .canopen] L = true) (h : Keep L r s) :
    Keep L r (State.ingressRoute s a1 a2 a3 a4) := by
  delta State.ingressRoute
  extract_lets -merge -useContext x0 x1 x2 x3 x4
  exact Keep.site (Keep.site (State.bump_keep (sub.trans rfl hl) h) (Keep.upd_canopen (sub.trans rfl hl) h)) h


theorem State.offerFrame_keep {L r s a1 a2 a3 a4 a5} (hl : sub [.od, .gate, .log, .slices, .canopen, .wake, .mooring, .acts] L = true) (h : Keep L r s) :
    Keep L r (State.offerFrame s a1 a2 a3 a4 a5) := by
  delta State.offerFrame
  extract_lets -merge -useContext x0 x1 x3 x5
  have h2 : Keep L r x1 := State.panFrame_keep (sub.trans rfl hl) (State.offerObjects_keep (sub.trans rfl hl) h)
  have h4 : Keep L r x3 := Keep.site (Keep.foldl (fun _ _ h6 => State.ingressRoute_keep (sub.trans rfl hl) h6) h2) h2
  exact Keep.site (State.sourceActive_keep (sub.trans rfl hl) (Keep.upd_mooring (sub.trans rfl hl) h4)) h4


theorem State.releaseRecord_keep {L r s a1} (hl : sub [.od, .gate, .log, .slices, .canopen, .wake, .mooring, .acts] L = true) (h : Keep L r s) :
    Keep L r (State.releaseRecord s a1) := by
  delta State.releaseRecord
  extract_lets -merge -useContext x0 x1 x2
  have h3 : Keep L r x2.1 := State.queueFrame_keep (sub.trans rfl hl) h
  exact Keep.site (Keep.site (State.bump_keep (sub.trans rfl hl) h3) (State.offerFrame_keep (sub.trans rfl hl) (State.bump_keep (sub.trans rfl hl) h3))) (State.offerFrame_keep (sub.trans rfl hl) (State.bump_keep (sub.trans rfl hl) h))


theorem State.tunnelRelease_keep {L r s} (hl : sub [.od, .gate, .log, .slices, .canopen, .wake, .mooring, .acts] L = true) (h : Keep L r s) :
    Keep L r (State.tunnelRelease s) := by
  delta State.tunnelRelease
  extract_lets -merge -useContext x0
  exact (by
   split
   · exact h
   · exact Keep.site (State.releaseRecord_keep (sub.trans rfl hl) (Keep.upd_canopen (sub.trans rfl hl) h)) h)


theorem execTunnelRelease_keep {L r s} (hl : sub [.od, .gate, .log, .slices, .canopen, .wake, .mooring, .acts] L = true) (h : Keep L r s) :
    Ends L r (execTunnelRelease s) := by
  delta execTunnelRelease
  exact Keep.rnext (State.served_keep (sub.trans rfl hl) h (fun _ h0 => State.tunnelRelease_keep (sub.trans rfl hl) h0))


theorem State.txAbort_keep {L r s a1 a2} (hl : sub [.od, .canopen] L = true) (h : Keep L r s) :
    Keep L r (State.txAbort s a1 a2) := by
  delta State.txAbort
  extract_lets -merge -useContext x0
  exact Keep.site h (Keep.site (State.setCan_keep (sub.trans rfl hl) h) (State.bufEnds_keep (sub.trans rfl hl) h))


theorem execTxAbort_keep {L r a0 a1 a2 s} (hl : sub [.od, .host, .gate, .log, .canopen, .pair, .acts] L = true) (h : Keep L r s) :
    Ends L r (execTxAbort a0 a1 a2 s) := by
  delta execTxAbort
  exact Keep.rnext (State.served_keep (sub.trans rfl hl) h (fun _ h0 => State.accessAct_keep (sub.trans rfl hl) h0 (fun _ h1 => Keep.pair (State.txAbort_keep (sub.trans rfl hl) h1))))


theorem State.txRequest_keep {L r s a1 a2} (hl : sub [.od, .canopen, .acts] L = true) (h : Keep L r s) :
    Keep L r (State.txRequest s a1 a2).1 := by
  delta State.txRequest
  exact Keep.pite (Keep.pair h) (Keep.pair (State.canPump_keep (sub.trans rfl hl) (State.put_keep (sub.trans rfl hl) (State.canAct_keep (sub.trans rfl hl) h))))


theorem execTxRequest_keep {L r a0 a1 a2 s} (hl : sub [.od, .host, .gate, .log, .canopen, .pair, .acts] L = true) (h : Keep L r s) :
    Ends L r (execTxRequest a0 a1 a2 s) := by
  delta execTxRequest
  exact Keep.rnext (State.served_keep (sub.trans rfl hl) h (fun _ h0 => State.accessAct_keep (sub.trans rfl hl) h0 (fun _ h1 => State.txRequest_keep (sub.trans rfl hl) h1)))


theorem State.applyCan_keep {L r s a1 a2} (hl : sub [.od, .canopen] L = true) (h : Keep L r s) :
    Keep L r (State.applyCan s a1 a2) := by
  delta State.applyCan
  extract_lets -merge -useContext x0 x1 x2 x3 x5 x7
  have h4 : Keep L r x3 := Keep.site (State.setCan_keep (sub.trans rfl hl) h) h
  have h6 : Keep L r x5 := Keep.site (State.put_keep (sub.trans rfl hl) h4) h4
  have h8 : Keep L r x7 := State.takeTiming_keep (sub.trans rfl hl) h6
  exact Keep.site (Keep.site (State.startDetection_keep (sub.trans rfl hl) h) h) (Keep.site (State.canIdle_keep (sub.trans rfl hl) (State.put_keep (sub.trans rfl hl) h8)) (Keep.site (State.put_keep (sub.trans rfl hl) h8) (Keep.site h8 (State.canPump_keep (sub.trans rfl hl) (State.put_keep (sub.trans rfl hl) (State.put_keep (sub.trans rfl hl) (State.put_keep (sub.trans rfl hl) h8)))))))


theorem State.trialGood_keep {L r s a1} (hl : sub [.od, .gate, .log, .canopen, .acts] L = true) (h : Keep L r s) :
    Keep L r (State.trialGood s a1) := by
  delta State.trialGood
  extract_lets -merge -useContext x0 x1
  exact (by
   split
   · exact h
   · exact (by
     extract_lets -merge -useContext x2 x3 x5 x6
     have h4 : Keep L r x3 := State.put_keep (sub.trans rfl hl) (State.put_keep (sub.trans rfl hl) (State.put_keep (sub.trans rfl hl) (State.put_keep (sub.trans rfl hl) (State.put_keep (sub.trans rfl hl) h))))
     have h7 : Keep L r x6 := State.setCan_keep (sub.trans rfl hl) h4
     exact Keep.site (State.setCan_keep (sub.trans rfl hl) h) (State.canPump_keep (sub.trans rfl hl) (State.raise_keep (sub.trans rfl hl) h7))))


theorem State.seenOnBus_keep {L r s a1 a2} (hl : sub [.od, .canopen] L = true) (h : Keep L r s) :
    Keep L r (State.seenOnBus s a1 a2) := by
  delta State.seenOnBus
  extract_lets -merge -useContext x0
  exact Keep.site h (Keep.site (State.setCan_keep (sub.trans rfl hl) h) ((by
   split
   · exact State.bufEnds_keep (sub.trans rfl hl) (State.put_keep (sub.trans rfl hl) h)
   · exact h)))


theorem State.canReceived_keep {L r s a1 a2 a3} (hl : sub [.od, .gate, .log, .slices, .canopen, .wake, .mooring, .acts] L = true) (h : Keep L r s) :
    Keep L r (State.canReceived s a1 a2 a3) := by
  delta State.canReceived
  extract_lets -merge -useContext x0 x1 x3 x5 x6
  have h2 : Keep L r x1 := State.bump_keep (sub.trans rfl hl) (State.bump_keep (sub.trans rfl hl) h)
  have h4 : Keep L r x3 := Keep.site (State.trialGood_keep (sub.trans rfl hl) h2) h2
  have h7 : Keep L r x6 := Keep.site (State.put_keep (sub.trans rfl hl) h4) (State.tookFree_keep (sub.trans rfl hl) (State.put_keep (sub.trans rfl hl) h4))
  exact Keep.site h (State.emcyScan_keep (sub.trans rfl hl) (State.offerFrame_keep (sub.trans rfl hl) (State.seenOnBus_keep (sub.trans rfl hl) (State.fallActive_keep (sub.trans rfl hl) h7))))


theorem State.egressRoute_keep {L r s a1 a2 a3 a4} (hl : sub [.od, .gate, .log, .slices, .canopen, .wake, .mooring, .acts] L = true) (h : Keep L r s) :
    Keep L r (State.egressRoute s a1 a2 a3 a4) := by
  delta State.egressRoute
  extract_lets -merge -useContext x0 x1 x2 x3 x4
  exact Keep.site (Keep.site (State.releaseRecord_keep (sub.trans rfl hl) (State.bump_keep (sub.trans rfl hl) h)) (Keep.upd_canopen (sub.trans rfl hl) h)) h


theorem State.sendRecords_keep {L r s a1 a2} (hl : sub [.od, .canopen] L = true) (h : Keep L r s) :
    Keep L r (State.sendRecords s a1 a2).1 := by
  delta State.sendRecords
  extract_lets -merge -useContext x0 x1 x2 x4
  have h3 : Keep L r x2 := Keep.upd_canopen (sub.trans rfl hl) h
  have h5 : Keep L r x4 := Keep.foldl (fun _ _ h6 => State.bump_keep (sub.trans rfl hl) h6) h3
  exact Keep.pair h5


theorem State.tunnelFrame_keep {L r s a1 a2 a3} (hl : sub [.od, .gate, .log, .slices, .canopen, .wake, .mooring, .acts] L = true) (h : Keep L r s) :
    Keep L r (State.tunnelFrame s a1 a2 a3) := by
  delta State.tunnelFrame
  exact Keep.foldl (fun _ _ h0 => Keep.foldl (fun _ _ h1 => State.egressRoute_keep (sub.trans rfl hl) h1) h0) h


theorem State.command_keep {L r s a1 a2} (hl : sub [.od, .gate, .log, .canopen, .fio, .acts] L = true) (h : Keep L r s) :
    Keep L r (State.command s a1 a2).1 := by
  delta State.command
  exact Keep.pite (Keep.pair h) (Keep.pair (State.settle_keep (sub.trans rfl hl) (State.put_keep (sub.trans rfl hl) h)))


theorem execCommand_keep {L r a0 a1 a2 s} (hl : sub [.od, .host, .gate, .log, .canopen, .fio, .pair, .acts] L = true) (h : Keep L r s) :
    Ends L r (execCommand a0 a1 a2 s) := by
  delta execCommand
  exact Keep.rnext (State.served_keep (sub.trans rfl hl) h (fun _ h0 => State.accessAct_keep (sub.trans rfl hl) h0 (fun _ h1 => State.command_keep (sub.trans rfl hl) h1)))


theorem State.dieLink_keep {L r s a1} (hl : sub [.od, .gate, .log, .canopen, .fio, .acts] L = true) (h : Keep L r s) :
    Keep L r (State.dieLink s a1) := by
  delta State.dieLink
  extract_lets -merge -useContext x0
  exact State.settle_keep (sub.trans rfl hl) (Keep.upd_fio (sub.trans rfl hl) h)


theorem execDieLinkLoss_keep {L r a0 s} (hl : sub [.od, .gate, .log, .canopen, .fio, .acts] L = true) (h : Keep L r s) :
    Ends L r (execDieLinkLoss a0 s) := by
  delta execDieLinkLoss
  exact Keep.rnext (Keep.site (State.dieLink_keep (sub.trans rfl hl) h) (Keep.site h (State.driveField_keep (sub.trans rfl hl) h)))


theorem State.externalDrive_keep {L r s a1 a2} (hl : sub [.od, .gate, .log, .fio, .acts] L = true) (h : Keep L r s) :
    Keep L r (State.externalDrive s a1 a2) := by
  delta State.externalDrive
  extract_lets -merge -useContext x0 x1
  have h2 : Keep L r x1 := State.setFlag_keep (sub.trans rfl hl) h
  exact Keep.site h (Keep.site (Keep.site h ((by
   split
   · exact Keep.site h (State.crossFeed_keep (sub.trans rfl hl) h)
   · exact State.setFlag_keep (sub.trans rfl hl) h))) ((by
   split
   · exact Keep.site h2 (State.crossFeed_keep (sub.trans rfl hl) h2)
   · exact State.setFlag_keep (sub.trans rfl hl) h2)))


theorem execExternalDrive_keep {L r a0 a1 s} (hl : sub [.od, .gate, .log, .fio, .acts] L = true) (h : Keep L r s) :
    Ends L r (execExternalDrive a0 a1 s) := by
  delta execExternalDrive
  exact Keep.rnext (State.served_keep (sub.trans rfl hl) h (fun _ h0 => State.externalDrive_keep (sub.trans rfl hl) h0))


theorem State.claimRole_keep {L r s a1} (hl : sub [.trust] L = true) (h : Keep L r s) :
    Keep L r (State.claimRole s a1) := by
  delta State.claimRole
  extract_lets -merge -useContext x0
  exact Keep.site (Keep.site h (Keep.upd_trust (sub.trans rfl hl) h)) (Keep.upd_trust (sub.trans rfl hl) h)


theorem State.roleEffect_keep {L r s a1 a2} (hl : sub [.od, .mu, .line, .gate, .log, .wake, .mooring, .acts] L = true) (h : Keep L r s) :
    Keep L r (State.roleEffect s a1 a2) := by
  delta State.roleEffect
  extract_lets -merge -useContext x0
  exact Keep.site h (Keep.site (State.trigEval_keep (sub.trans rfl hl) h) (Keep.site (State.activeCab_keep (sub.trans rfl hl) h) (Keep.site (Keep.site (State.sourceActive_keep (sub.trans rfl hl) h) (State.judgeVotes_keep (sub.trans rfl hl) h)) h)))


theorem State.fieldInput_keep {L r s a1 a2 a3} (hl : sub [.od, .mu, .line, .gate, .log, .trust, .wake, .mooring, .acts] L = true) (h : Keep L r s) :
    Keep L r (State.fieldInput s a1 a2 a3) := by
  delta State.fieldInput
  extract_lets -merge -useContext x0 x1 x3 x5 x6
  have h2 : Keep L r x1 := Keep.site (State.claimRole_keep (sub.trans rfl hl) h) h
  have h4 : Keep L r x3 := State.bump_keep (sub.trans rfl hl) (State.put_keep (sub.trans rfl hl) (State.putFlag_keep (sub.trans rfl hl) h2))
  have h7 : Keep L r x6 := Keep.site (State.raise_keep (sub.trans rfl hl) h4) h4
  exact Keep.site h2 (State.roleEffect_keep (sub.trans rfl hl) h7)


theorem execFieldInputChange_keep {L r a0 a1 a2 s} (hl : sub [.od, .mu, .line, .gate, .log, .trust, .wake, .mooring, .pair, .acts] L = true) (h : Keep L r s) :
    Ends L r (execFieldInputChange a0 a1 a2 s) := by
  delta execFieldInputChange
  exact Keep.rnext (State.served_keep (sub.trans rfl hl) h (fun _ h0 => (by
 extract_lets -merge -useContext x1
 exact State.replicateShared_keep (sub.trans rfl hl) h0 (fun _ h2 => State.fieldInput_keep (sub.trans rfl hl) h2))))


theorem State.tripChannel_keep {L r s a1} (hl : sub [.od, .gate, .log, .fio, .acts] L = true) (h : Keep L r s) :
    Keep L r (State.tripChannel s a1) := by
  delta State.tripChannel
  extract_lets -merge -useContext x0 x1 x2 x3 x4
  have h5 : Keep L r x4 := State.setChan_keep (sub.trans rfl hl) h
  exact State.latchFlag_keep (sub.trans rfl hl) h5


theorem State.groupOverload_keep {L r s a1 a2} (hl : sub [.od, .gate, .log, .canopen, .fio, .acts] L = true) (h : Keep L r s) :
    Keep L r (State.groupOverload s a1 a2) := by
  delta State.groupOverload
  extract_lets -merge -useContext x0 x1 x3 x5 x6 x7 x9 x10
  have h2 : Keep L r x1 := State.put_keep (sub.trans rfl hl) h
  have h4 : Keep L r x3 := Keep.foldl (fun _ _ h13 => State.put_keep (sub.trans rfl hl) h13) h2
  have h8 : Keep L r x7 := State.setSupply_keep (sub.trans rfl hl) h4
  have h11 : Keep L r x10 := State.setSupply_keep (sub.trans rfl hl) h4
  exact Keep.site ((by
   clear_value x5
   split
   · exact State.settle_keep (sub.trans rfl hl) (State.setFlag_keep (sub.trans rfl hl) (State.tripChannel_keep (sub.trans rfl hl) h8))
   · exact h8)) (Keep.foldl (fun _ _ h12 => State.setFlag_keep (sub.trans rfl hl) h12) h11)


theorem execGroupOverload_keep {L r a0 a1 s} (hl : sub [.od, .gate, .log, .canopen, .fio, .acts] L = true) (h : Keep L r s) :
    Ends L r (execGroupOverload a0 a1 s) := by
  delta execGroupOverload
  exact Keep.rnext (State.served_keep (sub.trans rfl hl) h (fun _ h0 => State.groupOverload_keep (sub.trans rfl hl) h0))


theorem State.clearLatched_keep {L r s a1 a2} (hl : sub [.od, .gate, .log, .canopen, .fio, .acts] L = true) (h : Keep L r s) :
    Keep L r (State.clearLatched s a1 a2) := by
  delta State.clearLatched
  extract_lets -merge -useContext x0 x1 x3 x4
  have h2 : Keep L r x1 := State.put_keep (sub.trans rfl hl) h
  have h5 : Keep L r x4 := Keep.site (State.setChan_keep (sub.trans rfl hl) h2) h2
  exact State.settle_keep (sub.trans rfl hl) h5


theorem execLatchedFlagClear_keep {L r a0 a1 a2 s} (hl : sub [.od, .host, .gate, .log, .canopen, .fio, .pair, .acts] L = true) (h : Keep L r s) :
    Ends L r (execLatchedFlagClear a0 a1 a2 s) := by
  delta execLatchedFlagClear
  exact Keep.rnext (State.served_keep (sub.trans rfl hl) h (fun _ h0 => State.accessAct_keep (sub.trans rfl hl) h0 (fun _ h1 => Keep.pair (State.clearLatched_keep (sub.trans rfl hl) h1))))


theorem State.openLoad_keep {L r s a1 a2} (hl : sub [.od, .gate, .log, .fio, .acts] L = true) (h : Keep L r s) :
    Keep L r (State.openLoad s a1 a2) := by
  delta State.openLoad
  exact Keep.site (Keep.site (State.setFlag_keep (sub.trans rfl hl) h) h) (State.setFlag_keep (sub.trans rfl hl) h)


theorem execOpenLoad_keep {L r a0 a1 s} (hl : sub [.od, .gate, .log, .fio, .acts] L = true) (h : Keep L r s) :
    Ends L r (execOpenLoad a0 a1 s) := by
  delta execOpenLoad
  exact Keep.rnext (State.served_keep (sub.trans rfl hl) h (fun _ h0 => State.openLoad_keep (sub.trans rfl hl) h0))


theorem State.currentLimit_keep {L r s a1 a2} (hl : sub [.od, .gate, .log, .canopen, .fio, .acts] L = true) (h : Keep L r s) :
    Keep L r (State.currentLimit s a1 a2) := by
  delta State.currentLimit
  extract_lets -merge -useContext x0 x1 x3
  have h2 : Keep L r x1 := Keep.site h (State.latchFlag_keep (sub.trans rfl hl) h)
  exact Keep.site h (Keep.site (Keep.site h (State.settle_keep (sub.trans rfl hl) (State.latchFlag_keep (sub.trans rfl hl) (State.setChan_keep (sub.trans rfl hl) h)))) (Keep.site (State.settle_keep (sub.trans rfl hl) (State.tripChannel_keep (sub.trans rfl hl) h2)) (State.settle_keep (sub.trans rfl hl) (State.setChan_keep (sub.trans rfl hl) h))))


theorem execOvercurrentTrip_keep {L r a0 a1 s} (hl : sub [.od, .gate, .log, .canopen, .fio, .acts] L = true) (h : Keep L r s) :
    Ends L r (execOvercurrentTrip a0 a1 s) := by
  delta execOvercurrentTrip
  exact Keep.rnext (State.served_keep (sub.trans rfl hl) h (fun _ h0 => State.currentLimit_keep (sub.trans rfl hl) h0))


theorem execOvervoltage_keep {L r a0 a1 s} (hl : sub [.od] L = true) (h : Keep L r s) :
    Ends L r (execOvervoltage a0 a1 s) := by
  delta execOvervoltage
  exact Keep.rnext (State.served_keep (sub.trans rfl hl) h (fun _ h0 => State.bump_keep (sub.trans rfl hl) (State.put_keep (sub.trans rfl hl) h0)))


theorem State.readback_keep {L r s a1 a2} (hl : sub [.od, .gate, .log, .fio, .pair, .acts] L = true) (h : Keep L r s) :
    Keep L r (State.readback s a1 a2) := by
  delta State.readback
  extract_lets -merge -useContext x0 x2 x3 x4 x5
  have h1 : Keep L r x0 := State.putFlag_keep (sub.trans rfl hl) h
  have h6 : Keep L r x5 := Keep.site (State.setFlag_keep (sub.trans rfl hl) h1) (State.setFlag_keep (sub.trans rfl hl) h1)
  exact Keep.site h1 (Keep.site (State.setFlag_keep (sub.trans rfl hl) h1) (Keep.site (State.setFlag_keep (sub.trans rfl hl) (State.setFlag_keep (sub.trans rfl hl) h1)) (Keep.site h1 (Keep.site (State.dropRole_keep (sub.trans rfl hl) h6) h6))))


theorem execReadbackMismatch_keep {L r a0 a1 s} (hl : sub [.od, .gate, .log, .fio, .pair, .acts] L = true) (h : Keep L r s) :
    Ends L r (execReadbackMismatch a0 a1 s) := by
  delta execReadbackMismatch
  exact Keep.rnext (State.served_keep (sub.trans rfl hl) h (fun _ h0 => State.readback_keep (sub.trans rfl hl) h0))


theorem State.restoreGroup_keep {L r s a1} (hl : sub [.od, .gate, .log, .canopen, .fio, .acts] L = true) (h : Keep L r s) :
    Keep L r (State.restoreGroup s a1) := by
  delta State.restoreGroup
  extract_lets -merge -useContext x0
  exact State.settle_keep (sub.trans rfl hl) (State.setSupply_keep (sub.trans rfl hl) h)


theorem State.restoreRequest_keep {L r s a1} (hl : sub [.od, .gate, .log, .canopen, .fio, .acts] L = true) (h : Keep L r s) :
    Keep L r (State.restoreRequest s a1).1 := by
  delta State.restoreRequest
  extract_lets -merge -useContext x0
  have h1 : Keep L r x0 := Keep.site (State.restoreGroup_keep (sub.trans rfl hl) h) h
  exact Keep.pite (Keep.pair h) (Keep.pair (Keep.site (State.restoreGroup_keep (sub.trans rfl hl) h1) h1))


theorem execRestoreRequest_keep {L r a0 a1 s} (hl : sub [.od, .host, .gate, .log, .canopen, .fio, .pair, .acts] L = true) (h : Keep L r s) :
    Ends L r (execRestoreRequest a0 a1 s) := by
  delta execRestoreRequest
  exact Keep.rnext (State.served_keep (sub.trans rfl hl) h (fun _ h0 => State.accessAct_keep (sub.trans rfl hl) h0 (fun _ h1 => State.restoreRequest_keep (sub.trans rfl hl) h1)))


theorem State.reverseBlock_keep {L r s a1 a2} (hl : sub [.od, .gate, .log, .fio, .acts] L = true) (h : Keep L r s) :
    Keep L r (State.reverseBlock s a1 a2) := by
  delta State.reverseBlock
  extract_lets -merge -useContext x0 x1 x3
  have h2 : Keep L r x1 := State.latchFlag_keep (sub.trans rfl hl) (State.setChan_keep (sub.trans rfl hl) h)
  exact Keep.site (Keep.site h ((by
   split
   · exact State.crossFeed_keep (sub.trans rfl hl) h2
   · exact h2))) (State.setChan_keep (sub.trans rfl hl) h)


theorem execReverse_keep {L r a0 a1 s} (hl : sub [.od, .gate, .log, .fio, .acts] L = true) (h : Keep L r s) :
    Ends L r (execReverse a0 a1 s) := by
  delta execReverse
  exact Keep.rnext (State.served_keep (sub.trans rfl hl) h (fun _ h0 => State.reverseBlock_keep (sub.trans rfl hl) h0))


theorem State.onGroup_keep {L r s a1 a2} (hl : sub [] L = true) (h : Keep L r s) (hf3 : ∀ y0 y1, Keep L r y0 → Keep L r (a2 y0 y1)) :
    Keep L r (State.onGroup s a1 a2) := by
  delta State.onGroup
  exact Keep.foldl (fun _ _ h0 => hf3 _ _ h0) h


theorem State.sagBegins_keep {L r s a1} (hl : sub [.od, .gate, .log, .fio, .acts] L = true) (h : Keep L r s) :
    Keep L r (State.sagBegins s a1) := by
  delta State.sagBegins
  extract_lets -merge -useContext x0 x1
  have h2 : Keep L r x1 := State.bump_keep (sub.trans rfl hl) (State.setSupply_keep (sub.trans rfl hl) h)
  exact Keep.site h (State.onGroup_keep (sub.trans rfl hl) h2 (fun _ _ h3 => State.latchFlag_keep (sub.trans rfl hl) h3))


theorem State.supplyOff_keep {L r s a1 a2} (hl : sub [.od, .gate, .log, .canopen, .fio, .acts] L = true) (h : Keep L r s) :
    Keep L r (State.supplyOff s a1 a2) := by
  delta State.supplyOff
  extract_lets -merge -useContext x0 x2 x3
  have h1 : Keep L r x0 := State.sagBegins_keep (sub.trans rfl hl) (State.put_keep (sub.trans rfl hl) h)
  have h4 : Keep L r x3 := State.bump_keep (sub.trans rfl hl) (State.setSupply_keep (sub.trans rfl hl) h1)
  exact Keep.site h1 (State.settle_keep (sub.trans rfl hl) (State.onGroup_keep (sub.trans rfl hl) h4 (fun _ _ h5 => State.latchFlag_keep (sub.trans rfl hl) h5)))


theorem execSupplyOff_keep {L r a0 a1 s} (hl : sub [.od, .gate, .log, .canopen, .fio, .acts] L = true) (h : Keep L r s) :
    Ends L r (execSupplyOff a0 a1 s) := by
  delta execSupplyOff
  exact Keep.rnext (State.served_keep (sub.trans rfl hl) h (fun _ h0 => State.supplyOff_keep (sub.trans rfl hl) h0))


theorem State.supplyRestore_keep {L r s a1} (hl : sub [.od, .gate, .log, .canopen, .fio, .acts] L = true) (h : Keep L r s) :
    Keep L r (State.supplyRestore s a1) := by
  delta State.supplyRestore
  extract_lets -merge -useContext x0
  exact Keep.site (State.restoreGroup_keep (sub.trans rfl hl) h) h


theorem execSupplyRestore_keep {L r a0 s} (hl : sub [.od, .gate, .log, .canopen, .fio, .acts] L = true) (h : Keep L r s) :
    Ends L r (execSupplyRestore a0 s) := by
  delta execSupplyRestore
  exact Keep.rnext (State.served_keep (sub.trans rfl hl) h (fun _ h0 => State.supplyRestore_keep (sub.trans rfl hl) h0))


theorem State.supplySag_keep {L r s a1 a2} (hl : sub [.od, .gate, .log, .canopen, .fio, .acts] L = true) (h : Keep L r s) :
    Keep L r (State.supplySag s a1 a2) := by
  delta State.supplySag
  exact State.settle_keep (sub.trans rfl hl) (State.sagBegins_keep (sub.trans rfl hl) (State.put_keep (sub.trans rfl hl) h))


theorem execSupplySag_keep {L r a0 a1 s} (hl : sub [.od, .gate, .log, .canopen, .fio, .acts] L = true) (h : Keep L r s) :
    Ends L r (execSupplySag a0 a1 s) := by
  delta execSupplySag
  exact Keep.rnext (State.served_keep (sub.trans rfl hl) h (fun _ h0 => State.supplySag_keep (sub.trans rfl hl) h0))


theorem State.supplySagEnd_keep {L r s a1 a2} (hl : sub [.od, .gate, .log, .canopen, .fio, .acts] L = true) (h : Keep L r s) :
    Keep L r (State.supplySagEnd s a1 a2) := by
  delta State.supplySagEnd
  extract_lets -merge -useContext x0 x2
  have h1 : Keep L r x0 := State.put_keep (sub.trans rfl hl) h
  exact Keep.site (State.settle_keep (sub.trans rfl hl) (State.setSupply_keep (sub.trans rfl hl) h1)) h1


theorem execSupplySagEnd_keep {L r a0 a1 s} (hl : sub [.od, .gate, .log, .canopen, .fio, .acts] L = true) (h : Keep L r s) :
    Ends L r (execSupplySagEnd a0 a1 s) := by
  delta execSupplySagEnd
  exact Keep.rnext (State.served_keep (sub.trans rfl hl) h (fun _ h0 => State.supplySagEnd_keep (sub.trans rfl hl) h0))


theorem State.thermalShutdown_keep {L r s a1 a2} (hl : sub [.od, .gate, .log, .canopen, .fio, .acts] L = true) (h : Keep L r s) :
    Keep L r (State.thermalShutdown s a1 a2) := by
  delta State.thermalShutdown
  extract_lets -merge -useContext x0
  exact Keep.site h (Keep.site (State.settle_keep (sub.trans rfl hl) (State.latchFlag_keep (sub.trans rfl hl) (State.setChan_keep (sub.trans rfl hl) h))) (State.settle_keep (sub.trans rfl hl) (State.setChan_keep (sub.trans rfl hl) h)))


theorem execThermalShutdown_keep {L r a0 a1 s} (hl : sub [.od, .gate, .log, .canopen, .fio, .acts] L = true) (h : Keep L r s) :
    Ends L r (execThermalShutdown a0 a1 s) := by
  delta execThermalShutdown
  exact Keep.rnext (State.served_keep (sub.trans rfl hl) h (fun _ h0 => State.thermalShutdown_keep (sub.trans rfl hl) h0))


theorem State.tripRetry_keep {L r s a1} (hl : sub [.od, .gate, .log, .canopen, .fio, .acts] L = true) (h : Keep L r s) :
    Keep L r (State.tripRetry s a1) := by
  delta State.tripRetry
  extract_lets -merge -useContext x0
  exact Keep.site (State.settle_keep (sub.trans rfl hl) (State.bump_keep (sub.trans rfl hl) (State.setChan_keep (sub.trans rfl hl) h))) h


theorem execTripRetry_keep {L r a0 s} (hl : sub [.od, .gate, .log, .canopen, .fio, .acts] L = true) (h : Keep L r s) :
    Ends L r (execTripRetry a0 s) := by
  delta execTripRetry
  exact Keep.rnext (State.served_keep (sub.trans rfl hl) h (fun _ h0 => State.tripRetry_keep (sub.trans rfl hl) h0))


theorem State.startOutputs_keep {L r s} (hl : sub [.od, .gate, .log, .canopen, .fio, .acts] L = true) (h : Keep L r s) :
    Keep L r (State.startOutputs s) := by
  delta State.startOutputs
  extract_lets -merge -useContext x0
  have h1 : Keep L r x0 := Keep.foldl (fun _ _ h2 => Keep.site (State.put_keep (sub.trans rfl hl) h2) h2) h
  exact State.dieLink_keep (sub.trans rfl hl) h1


theorem State.setLock_keep {L r s a1} (hl : sub [.lock] L = true) (h : Keep L r s)
    (hx : Memory.wf s.lock.exchange = true → Memory.wf a1.exchange = true) : Keep L r (State.setLock s a1) :=
  Keep.upd_lock hl h hx


theorem State.lockMessage_keep {L r s a1 a2 a3} (hl : sub [.pair, .lock] L = true) (h : Keep L r s) (hf4 : ∀ y0, Keep L r y0 → Keep L r (a3 y0)) :
    Keep L r (State.lockMessage s a1 a2 a3) := by
  delta State.lockMessage
  extract_lets -merge -useContext x0 x1 x2
  have h3 : Keep L r x2 := State.setLock_keep (sub.trans rfl hl) h (fun w => by first | exact w | exact exchangeWrite_wf w _ _ _)
  exact Keep.site (Keep.site h (State.replicateShared_keep (sub.trans rfl hl) h3 (fun _ h4 => hf4 _ h4))) h


theorem State.completeRead_keep {L r s a1 a2 a3} (hl : sub [] L = true) (h : Keep L r s) :
    Keep L r (State.completeRead s a1 a2 a3) := by
  delta State.completeRead
  exact Keep.site (State.emit_keep (sub.trans rfl hl) h) h


theorem State.lockFailure_keep {L r s a1} (hl : sub [.od, .gate, .log, .lock, .acts] L = true) (h : Keep L r s) :
    Keep L r (State.lockFailure s a1) := by
  delta State.lockFailure
  extract_lets -merge -useContext x0 x2 x3 x4 x6
  have h1 : Keep L r x0 := State.report_keep (sub.trans rfl hl) (State.bump_keep (sub.trans rfl hl) h)
  have h5 : Keep L r x4 := State.setLock_keep (sub.trans rfl hl) h1 (fun w => by first | exact w | exact exchangeWrite_wf w _ _ _)
  exact Keep.site (Keep.site (State.gateEvent_keep (sub.trans rfl hl) h5) (State.lockLevel_keep (sub.trans rfl hl) h5)) (State.gateEvent_keep (sub.trans rfl hl) (State.setLock_keep (sub.trans rfl hl) (State.bump_keep (sub.trans rfl hl) h1) (fun w => by first | exact w | exact exchangeWrite_wf w _ _ _)))


theorem State.refuseHost_keep {L r s a1 a2 a3 a4 a5} (hl : sub [.od, .gate, .log, .lock, .acts] L = true) (h : Keep L r s) :
    Keep L r (State.refuseHost s a1 a2 a3 a4 a5) := by
  delta State.refuseHost
  extract_lets -merge -useContext x0 x2
  have h1 : Keep L r x0 := Keep.site (State.completeRead_keep (sub.trans rfl hl) h) h
  exact State.lockFailure_keep (sub.trans rfl hl) h1


theorem State.imageWrite_keep {L r s a1 a2} (hl : sub [.od, .clock, .gate, .acts] L = true) (h : Keep L r s) :
    Keep L r (State.imageWrite s a1 a2) := by
  delta State.imageWrite
  extract_lets -merge -useContext x0 x1
  exact Keep.site h (Keep.site (State.egPendSet_keep (sub.trans rfl hl) h) (Keep.site (State.egPendClr_keep (sub.trans rfl hl) h) (Keep.site h (Keep.site (State.egMask_keep (sub.trans rfl hl) h) (Keep.site (State.egMask_keep (sub.trans rfl hl) h) (Keep.site h (Keep.site (State.egOvr_keep (sub.trans rfl hl) h) (Keep.site (State.egOvr_keep (sub.trans rfl hl) h) (Keep.site h (Keep.site (State.egRoute_keep (sub.trans rfl hl) h) (Keep.site (Keep.site (State.egDone_keep (sub.trans rfl hl) h) (Keep.site (State.egControl_keep (sub.trans rfl hl) h) h)) (Keep.site (Keep.site (State.tmSnap_keep (sub.trans rfl hl) h) h) h))))))))))))


theorem State.localWrite_keep {L r s a1 a2 a3} (hl : sub [.od, .clock, .host, .gate, .lock, .acts] L = true) (h : Keep L r s) :
    Keep L r (State.localWrite s a1 a2 a3) := by
  delta State.localWrite
  extract_lets -merge -useContext x0 x1 x2
  exact Keep.site (State.setLock_keep (sub.trans rfl hl) h (fun w => by first | exact w | exact exchangeWrite_wf w _ _ _)) (Keep.foldl (fun _ _ h3 => (by
   extract_lets -merge -useContext x4 x5
   exact Keep.site (State.imageWrite_keep (sub.trans rfl hl) h3) (State.hostIgnored_keep (sub.trans rfl hl) h3))) h)


theorem State.discardLine_keep {L r s a1} (hl : sub [.od, .gate, .log, .lock, .acts] L = true) (h : Keep L r s) :
    Keep L r (State.discardLine s a1) := by
  delta State.discardLine
  extract_lets -merge -useContext x0 x1 x3
  have h2 : Keep L r x1 := State.setLock_keep (sub.trans rfl hl) h (fun w => by first | exact w | exact exchangeWrite_wf w _ _ _)
  have h4 : Keep L r x3 := Keep.site h2 (State.bump_keep (sub.trans rfl hl) h2)
  exact (by
   split
   · exact h4
   · exact (by
     extract_lets -merge -useContext x5
     exact State.gateEvent_keep (sub.trans rfl hl) (State.lockFailure_keep (sub.trans rfl hl) (State.bump_keep (sub.trans rfl hl) h4))))


theorem State.discardWritten_keep {L r s a1 a2 a3} (hl : sub [.od, .gate, .log, .lock, .acts] L = true) (h : Keep L r s) :
    Keep L r (State.discardWritten s a1 a2 a3) := by
  delta State.discardWritten
  exact Keep.foldl (fun _ _ h0 => State.discardLine_keep (sub.trans rfl hl) h0) h


theorem State.lockOpenWater_keep {L r s a1 a2 a3 a4 a5} (hl : sub [.od, .line] L = true) (h : Keep L r s) :
    Keep L r (State.lockOpenWater s a1 a2 a3 a4 a5) := by
  delta State.lockOpenWater
  extract_lets -merge -useContext x0 x1
  exact Keep.site (State.owQueueUp_keep (sub.trans rfl hl) (State.emit_keep (sub.trans rfl hl) h)) h


theorem State.sendLock_keep {L r s a1 a2 a3 a4} (hl : sub [.od, .line, .lock] L = true) (h : Keep L r s) :
    Keep L r (State.sendLock s a1 a2 a3 a4) := by
  delta State.sendLock
  extract_lets -merge -useContext x0 x1 x2 x4
  have h3 : Keep L r x2 := Keep.foldl (fun _ _ h5 => State.lockOpenWater_keep (sub.trans rfl hl) h5) h
  exact Keep.site h3 (State.setLock_keep (sub.trans rfl hl) h3 (fun w => by first | exact w | exact exchangeWrite_wf w _ _ _))


theorem State.sendTx_keep {L r s a1} (hl : sub [.od, .line, .lock, .acts] L = true) (h : Keep L r s) :
    Keep L r (State.sendTx s a1) := by
  delta State.sendTx
  extract_lets -merge -useContext x0
  exact State.sendLock_keep (sub.trans rfl hl) (State.act_keep (sub.trans rfl hl) h)


theorem State.bar2Write_keep {L r s a1 a2 a3} (hl : sub [.od, .clock, .line, .host, .gate, .log, .lock, .acts] L = true) (h : Keep L r s) :
    Keep L r (State.bar2Write s a1 a2 a3) := by
  delta State.bar2Write
  extract_lets -merge -useContext x0 x1 x2 x3 x4 x5 x7
  have h6 : Keep L r x5 := State.bump_keep (sub.trans rfl hl) (State.discardWritten_keep (sub.trans rfl hl) h)
  exact Keep.site (State.refuseHost_keep (sub.trans rfl hl) h) (Keep.site (Keep.site (State.localWrite_keep (sub.trans rfl hl) h) (State.refuseHost_keep (sub.trans rfl hl) h)) ((by
   split
   · exact h
   · exact (by
     extract_lets -merge -useContext x8
     exact State.sendTx_keep (sub.trans rfl hl) (State.setLock_keep (sub.trans rfl hl) h6 (fun w => by first | exact w | exact exchangeWrite_wf w _ _ _))))))


theorem State.localRead_keep {L r s a1 a2} (hl : sub [.od, .gate, .acts] L = true) (h : Keep L r s) :
    Keep L r (State.localRead s a1 a2).1 := by
  delta State.localRead
  extract_lets -merge -useContext x0 x1 x2
  have h3 : Keep L r x2.1 := Keep.pfoldl (fun _ _ h4 => (by
   extract_lets -merge -useContext x5
   have h6 : Keep L r x5.1 := State.gateRead_keep (sub.trans rfl hl) h4
   exact Keep.pair h6)) (Keep.pair h)
  exact Keep.pite (Keep.pair h) (Keep.pair h3)


theorem State.serveLine_keep {L r s a1 a2 a3 a4 a5} (hl : sub [.lock] L = true) (h : Keep L r s) :
    Keep L r (State.serveLine s a1 a2 a3 a4 a5) := by
  delta State.serveLine
  extract_lets -merge -useContext x0 x1
  exact State.completeRead_keep (sub.trans rfl hl) (State.setLock_keep (sub.trans rfl hl) h (fun w => by first | exact w | exact exchangeWrite_wf w _ _ _))


theorem State.issueRead_keep {L r s a1 a2 a3 a4 a5 a6} (hl : sub [.od, .line, .lock, .acts] L = true) (h : Keep L r s) :
    Keep L r (State.issueRead s a1 a2 a3 a4 a5 a6) := by
  delta State.issueRead
  extract_lets -merge -useContext x0
  exact (by
   split
   · exact h
   · exact (by
     extract_lets -merge -useContext x1
     exact State.sendTx_keep (sub.trans rfl hl) (State.setLock_keep (sub.trans rfl hl) (State.bump_keep (sub.trans rfl hl) h) (fun w => by first | exact w | exact exchangeWrite_wf w _ _ _))))


theorem State.bar2Read_keep {L r s a1 a2 a3} (hl : sub [.od, .line, .gate, .log, .lock, .acts] L = true) (h : Keep L r s) :
    Keep L r (State.bar2Read s a1 a2 a3) := by
  delta State.bar2Read
  extract_lets -merge -useContext x0 x1 x2 x3 x4 x6 x7 x8 x9
  have h5 : Keep L r x4.1 := State.localRead_keep (sub.trans rfl hl) h
  have h10 : Keep L r x9 := State.issueRead_keep (sub.trans rfl hl) h
  exact Keep.site (State.refuseHost_keep (sub.trans rfl hl) h) (Keep.site (Keep.site (State.completeRead_keep (sub.trans rfl hl) h5) (State.refuseHost_keep (sub.trans rfl hl) h)) ((by
   split
   · exact State.serveLine_keep (sub.trans rfl hl) h
   · exact (by
     split
     · exact Keep.site (Keep.site (State.issueRead_keep (sub.trans rfl hl) h10) h10) (State.issueRead_keep (sub.trans rfl hl) h)
     · exact State.issueRead_keep (sub.trans rfl hl) h))))


theorem State.bar2Take_keep {L r s a1 a2} (hl : sub [.od, .clock, .line, .host, .gate, .log, .lock, .acts] L = true) (h : Keep L r s) :
    Keep L r (State.bar2Take s a1 a2) := by
  delta State.bar2Take
  split
  · exact State.bar2Write_keep (sub.trans rfl hl) h
  · exact State.bar2Read_keep (sub.trans rfl hl) h


theorem State.releaseHeld_keep {L r s} (hl : sub [.od, .clock, .line, .host, .gate, .log, .lock, .acts] L = true) (h : Keep L r s) :
    Keep L r (State.releaseHeld s) := by
  delta State.releaseHeld
  exact Keep.foldl (fun _ _ h0 => (by
 extract_lets -merge -useContext x1
 exact (by
  split
  · exact h0
  · exact Keep.site h0 (State.bar2Take_keep (sub.trans rfl hl) (State.setLock_keep (sub.trans rfl hl) h0 (fun w => by first | exact w | exact exchangeWrite_wf w _ _ _)))))) h


theorem State.fenceCheck_keep {L r s} (hl : sub [.od, .gate, .lock, .acts] L = true) (h : Keep L r s) :
    Keep L r (State.fenceCheck s) := by
  delta State.fenceCheck
  extract_lets -merge -useContext x0
  exact Keep.site (State.gateEvent_keep (sub.trans rfl hl) (State.setLock_keep (sub.trans rfl hl) h (fun w => by first | exact w | exact exchangeWrite_wf w _ _ _))) h


theorem State.dropTx_keep {L r s a1} (hl : sub [.lock] L = true) (h : Keep L r s) :
    Keep L r (State.dropTx s a1) := by
  delta State.dropTx
  extract_lets -merge -useContext x0
  exact State.setLock_keep (sub.trans rfl hl) h (fun w => by first | exact w | exact exchangeWrite_wf w _ _ _)


theorem State.ackIn_keep {L r s a1} (hl : sub [.od, .clock, .line, .host, .gate, .log, .lock, .acts] L = true) (h : Keep L r s) :
    Keep L r (State.ackIn s a1) := by
  delta State.ackIn
  exact State.releaseHeld_keep (sub.trans rfl hl) (State.fenceCheck_keep (sub.trans rfl hl) (Keep.foldl (fun _ _ h0 => (by
 split
 · exact Keep.site h0 (State.dropTx_keep (sub.trans rfl hl) h0)
 · exact h0)) h))


theorem execAck_keep {L r a0 s} (hl : sub [.od, .clock, .line, .host, .gate, .log, .pair, .lock, .acts] L = true) (h : Keep L r s) :
    Ends L r (execAck a0 s) := by
  delta execAck
  exact Keep.rnext (State.served_keep (sub.trans rfl hl) h (fun _ h0 => State.lockMessage_keep (sub.trans rfl hl) h0 (fun _ h1 => State.ackIn_keep (sub.trans rfl hl) h1)))


theorem State.bar2Request_keep {L r s a1 a2} (hl : sub [.od, .clock, .line, .host, .gate, .log, .lock, .acts] L = true) (h : Keep L r s) :
    Keep L r (State.bar2Request s a1 a2) := by
  delta State.bar2Request
  extract_lets -merge -useContext x0
  exact Keep.site (State.bar2Take_keep (sub.trans rfl hl) h) (State.setLock_keep (sub.trans rfl hl) h (fun w => by first | exact w | exact exchangeWrite_wf w _ _ _))


theorem State.atBar2_keep {L r s a1} (hl : sub [.od, .clock, .line, .host, .gate, .log, .pair, .lock, .acts] L = true) (h : Keep L r s) :
    Ends L r (State.atBar2 s a1) := by
  delta State.atBar2
  exact Keep.rnext (Keep.site (State.replicate_keep (sub.trans rfl hl) h (fun _ h0 => State.bar2Request_keep (sub.trans rfl hl) h0)) h)


theorem execBar2Read_keep {L r a0 a1 s} (hl : sub [.od, .clock, .line, .host, .gate, .log, .pair, .lock, .acts] L = true) (h : Keep L r s) :
    Ends L r (execBar2Read a0 a1 s) := by
  delta execBar2Read
  exact State.atBar2_keep (sub.trans rfl hl) h


theorem execBar2Write_keep {L r a0 a1 a2 s} (hl : sub [.od, .clock, .line, .host, .gate, .log, .pair, .lock, .acts] L = true) (h : Keep L r s) :
    Ends L r (execBar2Write a0 a1 a2 s) := by
  delta execBar2Write
  exact State.atBar2_keep (sub.trans rfl hl) h


theorem State.declareIn_keep {L r s a1} (hl : sub [.od, .lock] L = true) (h : Keep L r s) :
    Keep L r (State.declareIn s a1) := by
  delta State.declareIn
  extract_lets -merge -useContext x0 x1 x2
  have h3 : Keep L r x2 := State.setLock_keep (sub.trans rfl hl) h (fun w => by first | exact w | exact exchangeWrite_wf w _ _ _)
  exact State.putBytes_keep (sub.trans rfl hl) h3


theorem execDeclare_keep {L r a0 s} (hl : sub [.od, .pair, .lock] L = true) (h : Keep L r s) :
    Ends L r (execDeclare a0 s) := by
  delta execDeclare
  exact Keep.rnext (State.served_keep (sub.trans rfl hl) h (fun _ h0 => State.lockMessage_keep (sub.trans rfl hl) h0 (fun _ h1 => State.declareIn_keep (sub.trans rfl hl) h1)))


theorem State.lockPop_keep {L r s} (hl : sub [.gate, .lock, .acts] L = true) (h : Keep L r s) :
    Keep L r (State.lockPop s) := by
  delta State.lockPop
  extract_lets -merge -useContext x0 x1
  exact State.lockLevel_keep (sub.trans rfl hl) (State.setLock_keep (sub.trans rfl hl) h (fun w => by first | exact w | exact exchangeWrite_wf w _ _ _))


theorem execLkErrPop_keep {L r a0 s} (hl : sub [.gate, .lock, .acts] L = true) (h : Keep L r s) :
    Ends L r (execLkErrPop a0 s) := by
  delta execLkErrPop
  exact State.atHost_keep (sub.trans rfl hl) h (fun _ h0 => Keep.site (State.lockPop_keep (sub.trans rfl hl) h0) h0)


theorem State.lockFence_keep {L r s} (hl : sub [.od, .gate, .lock, .acts] L = true) (h : Keep L r s) :
    Keep L r (State.lockFence s) := by
  delta State.lockFence
  extract_lets -merge -useContext x0
  exact State.fenceCheck_keep (sub.trans rfl hl) (State.setLock_keep (sub.trans rfl hl) h (fun w => by first | exact w | exact exchangeWrite_wf w _ _ _))


theorem execLkFence_keep {L r a0 s} (hl : sub [.od, .gate, .lock, .acts] L = true) (h : Keep L r s) :
    Ends L r (execLkFence a0 s) := by
  delta execLkFence
  exact State.atHost_keep (sub.trans rfl hl) h (fun _ h0 => Keep.site (State.lockFence_keep (sub.trans rfl hl) h0) h0)


theorem State.failTx_keep {L r s a1 a2} (hl : sub [.od, .gate, .log, .lock, .acts] L = true) (h : Keep L r s) :
    Keep L r (State.failTx s a1 a2) := by
  delta State.failTx
  extract_lets -merge -useContext x0 x2 x4 x5 x7
  have h1 : Keep L r x0 := State.dropTx_keep (sub.trans rfl hl) h
  have h3 : Keep L r x2 := by unfold x2; exact (by
   split
   · exact State.completeRead_keep (sub.trans rfl hl) h1
   · exact h1)
  have h6 : Keep L r x5 := Keep.site (State.setLock_keep (sub.trans rfl hl) h3 (fun w => by first | exact w | exact exchangeWrite_wf w _ _ _)) h3
  exact State.fenceCheck_keep (sub.trans rfl hl) (State.lockFailure_keep (sub.trans rfl hl) h6)


theorem execLockReadTimeout_keep {L r a0 s} (hl : sub [.od, .clock, .line, .host, .gate, .log, .lock, .acts] L = true) (h : Keep L r s) :
    Ends L r (execLockReadTimeout a0 s) := by
  delta execLockReadTimeout
  exact Keep.rnext (State.served_keep (sub.trans rfl hl) h (fun _ h0 => (by
 split
 · exact State.releaseHeld_keep (sub.trans rfl hl) (State.failTx_keep (sub.trans rfl hl) h0)
 · exact h0)))


theorem execLockWriteTimeout_keep {L r a0 s} (hl : sub [.od, .clock, .line, .host, .gate, .log, .lock, .acts] L = true) (h : Keep L r s) :
    Ends L r (execLockWriteTimeout a0 s) := by
  delta execLockWriteTimeout
  exact Keep.rnext (State.served_keep (sub.trans rfl hl) h (fun _ h0 => (by
 split
 · exact State.releaseHeld_keep (sub.trans rfl hl) (State.failTx_keep (sub.trans rfl hl) h0)
 · exact h0)))


theorem State.expireLines_keep {L r s} (hl : sub [.od, .gate, .log, .lock, .acts] L = true) (h : Keep L r s) :
    Keep L r (State.expireLines s) := by
  delta State.expireLines
  exact Keep.foldl (fun _ _ h0 => State.discardLine_keep (sub.trans rfl hl) h0) h


theorem execPrefetchLineExpiry_keep {L r s} (hl : sub [.od, .gate, .log, .lock, .acts] L = true) (h : Keep L r s) :
    Ends L r (execPrefetchLineExpiry s) := by
  delta execPrefetchLineExpiry
  exact Keep.rnext (State.served_keep (sub.trans rfl hl) h (fun _ h0 => State.expireLines_keep (sub.trans rfl hl) h0))


theorem State.reply_keep {L r s a1 a2 a3} (hl : sub [.od, .line, .lock] L = true) (h : Keep L r s) :
    Keep L r (State.reply s a1 a2 a3) := by
  delta State.reply
  extract_lets -merge -useContext x0
  exact State.sendLock_keep (sub.trans rfl hl) h


theorem State.batch_keep {L r s a1 a2} (hl : sub [.od, .line, .lock] L = true) (h : Keep L r s) :
    Keep L r (State.batch s a1 a2) := by
  delta State.batch
  extract_lets -merge -useContext x0 x1 x2
  exact Keep.site (State.setLock_keep (sub.trans rfl hl) h (fun w => by first | exact w | exact exchangeWrite_wf w _ _ _)) (State.reply_keep (sub.trans rfl hl) h)


theorem State.refuseLock_keep {L r s a1} (hl : sub [.od, .line, .lock] L = true) (h : Keep L r s) :
    Keep L r (State.refuseLock s a1) := by
  delta State.refuseLock
  extract_lets -merge -useContext x0 x1 x2
  have h3 : Keep L r x2 := State.setLock_keep (sub.trans rfl hl) h (fun w => by first | exact w | exact exchangeWrite_wf w _ _ _)
  exact State.batch_keep (sub.trans rfl hl) (State.bump_keep (sub.trans rfl hl) h3)


theorem State.admitLock_keep {L r s a1 a2 a3} (hl : sub [.od, .line, .lock] L = true) (h : Keep L r s) (hf4 : ∀ y0, Keep L r y0 → Keep L r (a3 y0)) :
    Keep L r (State.admitLock s a1 a2 a3) := by
  delta State.admitLock
  extract_lets -merge -useContext x0 x1 x2
  exact Keep.site (State.refuseLock_keep (sub.trans rfl hl) h) (hf4 _ (State.setLock_keep (sub.trans rfl hl) h (fun w => by first | exact w | exact exchangeWrite_wf w _ _ _)))


theorem State.reportLock_keep {L r s a1 a2} (hl : sub [.od, .line, .lock] L = true) (h : Keep L r s) :
    Keep L r (State.reportLock s a1 a2) := by
  delta State.reportLock
  exact State.reply_keep (sub.trans rfl hl) h


theorem State.readIn_keep {L r s a1 a2 a3} (hl : sub [.od, .line, .gate, .lock, .acts] L = true) (h : Keep L r s) :
    Keep L r (State.readIn s a1 a2 a3) := by
  delta State.readIn
  extract_lets -merge -useContext x0
  exact State.admitLock_keep (sub.trans rfl hl) h (fun _ h1 => (by
   extract_lets -merge -useContext x2 x3
   have h4 : Keep L r x3.1 := State.localRead_keep (sub.trans rfl hl) h1
   exact Keep.site (State.reportLock_keep (sub.trans rfl hl) h1) (State.reply_keep (sub.trans rfl hl) (State.bump_keep (sub.trans rfl hl) h4))))


theorem execRead_keep {L r a0 a1 a2 s} (hl : sub [.od, .line, .gate, .pair, .lock, .acts] L = true) (h : Keep L r s) :
    Ends L r (execRead a0 a1 a2 s) := by
  delta execRead
  exact Keep.rnext (State.served_keep (sub.trans rfl hl) h (fun _ h0 => State.lockMessage_keep (sub.trans rfl hl) h0 (fun _ h1 => State.readIn_keep (sub.trans rfl hl) h1)))


theorem State.readDataIn_keep {L r s a1} (hl : sub [.od, .clock, .line, .host, .gate, .log, .lock, .acts] L = true) (h : Keep L r s) :
    Keep L r (State.readDataIn s a1) := by
  delta State.readDataIn
  split
  · exact h
  · exact (by
    extract_lets -merge -useContext x0 x2 x4 x5 x6
    have h1 : Keep L r x0 := State.dropTx_keep (sub.trans rfl hl) h
    have h3 : Keep L r x2 := Keep.site h1 ((by
     split
     · exact State.discardLine_keep (sub.trans rfl hl) h1
     · exact h1))
    have h7 : Keep L r x6 := State.setLock_keep (sub.trans rfl hl) h3 (fun w => by first | exact w | exact exchangeWrite_wf w _ _ _)
    exact Keep.site h (Keep.site (State.releaseHeld_keep (sub.trans rfl hl) ((by
     split
     · exact State.serveLine_keep (sub.trans rfl hl) h7
     · exact h7))) (State.releaseHeld_keep (sub.trans rfl hl) ((by
     split
     · exact State.completeRead_keep (sub.trans rfl hl) h1
     · exact h1)))))


theorem execReadData_keep {L r a0 s} (hl : sub [.od, .clock, .line, .host, .gate, .log, .pair, .lock, .acts] L = true) (h : Keep L r s) :
    Ends L r (execReadData a0 s) := by
  delta execReadData
  exact Keep.rnext (State.served_keep (sub.trans rfl hl) h (fun _ h0 => State.lockMessage_keep (sub.trans rfl hl) h0 (fun _ h1 => State.readDataIn_keep (sub.trans rfl hl) h1)))


theorem State.reportIn_keep {L r s a1} (hl : sub [.od, .clock, .line, .host, .gate, .log, .lock, .acts] L = true) (h : Keep L r s) :
    Keep L r (State.reportIn s a1) := by
  delta State.reportIn
  split
  · exact State.releaseHeld_keep (sub.trans rfl hl) (State.failTx_keep (sub.trans rfl hl) h)
  · exact h


theorem execReport_keep {L r a0 s} (hl : sub [.od, .clock, .line, .host, .gate, .log, .pair, .lock, .acts] L = true) (h : Keep L r s) :
    Ends L r (execReport a0 s) := by
  delta execReport
  exact Keep.rnext (State.served_keep (sub.trans rfl hl) h (fun _ h0 => State.lockMessage_keep (sub.trans rfl hl) h0 (fun _ h1 => State.reportIn_keep (sub.trans rfl hl) h1)))


theorem State.retryIn_keep {L r s a1} (hl : sub [.od, .clock, .line, .host, .gate, .log, .lock, .acts] L = true) (h : Keep L r s) :
    Keep L r (State.retryIn s a1) := by
  delta State.retryIn
  exact State.releaseHeld_keep (sub.trans rfl hl) (Keep.foldl (fun _ _ h0 => (by
 extract_lets -merge -useContext x1
 exact (by
  split
  · exact h0
  · exact (by
    extract_lets -merge -useContext x2 x3
    have h4 : Keep L r x3 := State.setLock_keep (sub.trans rfl hl) (State.bump_keep (sub.trans rfl hl) h0) (fun w => by first | exact w | exact exchangeWrite_wf w _ _ _)
    exact Keep.site (State.failTx_keep (sub.trans rfl hl) h4) h4)))) h)


theorem execRetry_keep {L r a0 s} (hl : sub [.od, .clock, .line, .host, .gate, .log, .pair, .lock, .acts] L = true) (h : Keep L r s) :
    Ends L r (execRetry a0 s) := by
  delta execRetry
  exact Keep.rnext (State.served_keep (sub.trans rfl hl) h (fun _ h0 => State.lockMessage_keep (sub.trans rfl hl) h0 (fun _ h1 => State.retryIn_keep (sub.trans rfl hl) h1)))


theorem State.summaryIn_keep {L r s a1} (hl : sub [.lock] L = true) (h : Keep L r s) :
    Keep L r (State.summaryIn s a1) := by
  delta State.summaryIn
  extract_lets -merge -useContext x0 x1 x2
  exact State.setLock_keep (sub.trans rfl hl) h (fun w => by first | exact w | exact exchangeWrite_wf w _ _ _)


theorem execSummary_keep {L r a0 s} (hl : sub [.pair, .lock] L = true) (h : Keep L r s) :
    Ends L r (execSummary a0 s) := by
  delta execSummary
  exact Keep.rnext (State.served_keep (sub.trans rfl hl) h (fun _ h0 => State.lockMessage_keep (sub.trans rfl hl) h0 (fun _ h1 => State.summaryIn_keep (sub.trans rfl hl) h1)))


theorem State.pollIn_keep {L r s a1} (hl : sub [.od, .line, .lock] L = true) (h : Keep L r s) :
    Keep L r (State.pollIn s a1) := by
  delta State.pollIn
  exact State.reply_keep (sub.trans rfl hl) h


theorem execSummaryPoll_keep {L r a0 s} (hl : sub [.od, .line, .pair, .lock] L = true) (h : Keep L r s) :
    Ends L r (execSummaryPoll a0 s) := by
  delta execSummaryPoll
  exact Keep.rnext (State.served_keep (sub.trans rfl hl) h (fun _ h0 => State.lockMessage_keep (sub.trans rfl hl) h0 (fun _ h1 => State.pollIn_keep (sub.trans rfl hl) h1)))


theorem State.setSummary_keep {L r s a1} (hl : sub [.od, .gate, .lock, .acts] L = true) (h : Keep L r s) :
    Keep L r (State.setSummary s a1) := by
  delta State.setSummary
  extract_lets -merge -useContext x0 x1 x2
  have h3 : Keep L r x2 := State.setLock_keep (sub.trans rfl hl) h (fun w => by first | exact w | exact exchangeWrite_wf w _ _ _)
  exact Keep.site (State.gateEvent_keep (sub.trans rfl hl) h3) h3


theorem State.summaryStale_keep {L r s a1} (hl : sub [.od, .gate, .lock, .acts] L = true) (h : Keep L r s) :
    Keep L r (State.summaryStale s a1) := by
  delta State.summaryStale
  extract_lets -merge -useContext x0
  exact Keep.site (State.setSummary_keep (sub.trans rfl hl) (State.put_keep (sub.trans rfl hl) h)) h


theorem execSummaryStale_keep {L r a0 s} (hl : sub [.od, .gate, .lock, .acts] L = true) (h : Keep L r s) :
    Ends L r (execSummaryStale a0 s) := by
  delta execSummaryStale
  exact Keep.rnext (State.served_keep (sub.trans rfl hl) h (fun _ h0 => State.summaryStale_keep (sub.trans rfl hl) h0))


theorem State.writeIn_keep {L r s a1 a2 a3} (hl : sub [.od, .clock, .line, .host, .gate, .lock, .acts] L = true) (h : Keep L r s) :
    Keep L r (State.writeIn s a1 a2 a3) := by
  delta State.writeIn
  exact State.admitLock_keep (sub.trans rfl hl) h (fun _ h0 => (by
 extract_lets -merge -useContext x1
 exact Keep.site (State.reportLock_keep (sub.trans rfl hl) h0) (State.batch_keep (sub.trans rfl hl) (State.bump_keep (sub.trans rfl hl) (State.localWrite_keep (sub.trans rfl hl) h0)))))


theorem execWrite_keep {L r a0 a1 a2 s} (hl : sub [.od, .clock, .line, .host, .gate, .pair, .lock, .acts] L = true) (h : Keep L r s) :
    Ends L r (execWrite a0 a1 a2 s) := by
  delta execWrite
  exact Keep.rnext (State.served_keep (sub.trans rfl hl) h (fun _ h0 => State.lockMessage_keep (sub.trans rfl hl) h0 (fun _ h1 => State.writeIn_keep (sub.trans rfl hl) h1)))


theorem State.lockActed_keep {L r s a1 a2} (hl : sub [.od, .clock, .line, .host, .gate, .log, .lock, .acts] L = true) (h : Keep L r s) :
    Keep L r (State.lockActed s a1 a2) := by
  delta State.lockActed
  split
  · exact State.writeIn_keep (sub.trans rfl hl) h
  · exact State.readIn_keep (sub.trans rfl hl) h
  · exact State.readDataIn_keep (sub.trans rfl hl) h
  · exact State.ackIn_keep (sub.trans rfl hl) h
  · exact State.reportIn_keep (sub.trans rfl hl) h
  · exact State.retryIn_keep (sub.trans rfl hl) h
  · exact State.declareIn_keep (sub.trans rfl hl) h
  · exact State.pollIn_keep (sub.trans rfl hl) h
  · exact State.summaryIn_keep (sub.trans rfl hl) h


theorem State.lockApplied_keep {L r s a1} (hl : sub [.od, .line, .lock] L = true) (h : Keep L r s) :
    Keep L r (State.lockApplied s a1) := by
  delta State.lockApplied
  extract_lets -merge -useContext x0 x1
  have h2 : Keep L r x1 := Keep.site (State.putBytes_keep (sub.trans rfl hl) (State.setLock_keep (sub.trans rfl hl) h (fun w => by first | exact w | exact exchangeWrite_wf w _ _ _))) h
  exact State.sendLock_keep (sub.trans rfl hl) h2


theorem State.lockMembers_keep {L r s} (hl : sub [.od, .clock, .line, .host, .gate, .log, .lock, .acts] L = true) (h : Keep L r s) :
    Keep L r (State.lockMembers s) := by
  delta State.lockMembers
  exact State.releaseHeld_keep (sub.trans rfl hl) (Keep.foldl (fun _ _ h0 => State.failTx_keep (sub.trans rfl hl) h0) h)


theorem State.lockMooring_keep {L r s} (hl : sub [.od, .clock, .line, .host, .gate, .log, .lock, .acts] L = true) (h : Keep L r s) :
    Keep L r (State.lockMooring s) := by
  delta State.lockMooring
  exact State.releaseHeld_keep (sub.trans rfl hl) (Keep.foldl (fun _ _ h0 => State.failTx_keep (sub.trans rfl hl) h0) h)


theorem State.lockPassage_keep {L r s} (hl : sub [.od, .line, .gate, .lock, .acts] L = true) (h : Keep L r s) :
    Keep L r (State.lockPassage s) := by
  delta State.lockPassage
  extract_lets -merge -useContext x0 x1 x2 x3 x4 x6 x8 x9 x11 x12 x13 x15
  have h5 : Keep L r x4 := Keep.site (State.setSummary_keep (sub.trans rfl hl) h) h
  have h7 : Keep L r x6 := State.put_keep (sub.trans rfl hl) h5
  have h10 : Keep L r x9 := State.setLock_keep (sub.trans rfl hl) h7 (fun w => by first | exact w | exact exchangeWrite_wf w _ _ _)
  have h14 : Keep L r x13 := State.setLock_keep (sub.trans rfl hl) h10 (fun w => by first | exact w | exact exchangeWrite_wf w _ _ _)
  have h16 : Keep L r x15 := Keep.foldl (fun _ _ h17 => State.sendTx_keep (sub.trans rfl hl) h17) h14
  exact Keep.site (State.sendLock_keep (sub.trans rfl hl) h16) h16


theorem State.lockResend_keep {L r s} (hl : sub [.od, .line, .lock, .acts] L = true) (h : Keep L r s) :
    Keep L r (State.lockResend s) := by
  delta State.lockResend
  exact Keep.foldl (fun _ _ h0 => State.sendTx_keep (sub.trans rfl hl) h0) h


theorem State.lockSlot_keep {L r s a1 a2} (hl : sub [.lock] L = true) (h : Keep L r s) :
    Keep L r (State.lockSlot s a1 a2).1 := by
  delta State.lockSlot
  extract_lets -merge -useContext x0 x1 x2 x3 x4
  have h5 : Keep L r x4 := State.setLock_keep (sub.trans rfl hl) h (fun w => by first | exact w | exact exchangeWrite_wf w _ _ _)
  exact Keep.pair (Keep.foldl (fun _ _ h6 => Keep.site h6 (State.emit_keep (sub.trans rfl hl) h6)) h5)


theorem State.sramLost_keep {L r s a1} (hl : sub [.od, .clock, .line, .host, .gate, .log, .slices, .lock, .acts] L = true) (h : Keep L r s) :
    Keep L r (State.sramLost s a1) := by
  delta State.sramLost
  extract_lets -merge -useContext x0 x2
  have h1 : Keep L r x0 := State.bump_keep (sub.trans rfl hl) h
  exact (by
   split
   · exact h
   · exact (by
     split
     · exact State.releaseHeld_keep (sub.trans rfl hl) (State.failTx_keep (sub.trans rfl hl) h)
     · exact h)
   · exact (by
     extract_lets -merge -useContext x3 x4
     exact Keep.upd_slices (sub.trans rfl hl) h1))


theorem State.judgeRole_keep {L r s} (hl : sub [.od] L = true) (h : Keep L r s) :
    Keep L r (State.judgeRole s) := by
  delta State.judgeRole
  exact State.put_keep (sub.trans rfl hl) h


theorem State.interlock_keep {L r s} (hl : sub [.od, .gate, .log, .canopen, .fio, .acts] L = true) (h : Keep L r s) :
    Keep L r (State.interlock s) := by
  delta State.interlock
  extract_lets -merge -useContext x0
  have h1 : Keep L r x0 := State.settle_keep (sub.trans rfl hl) (State.emit_keep (sub.trans rfl hl) (State.judgeRole_keep (sub.trans rfl hl) h))
  exact Keep.foldl (fun _ _ h2 => State.canPump_keep (sub.trans rfl hl) h2) h1


theorem State.setPair_keep {L r s a1} (hl : sub [.pair] L = true) (h : Keep L r s) :
    Keep L r (State.setPair s a1) := by
  delta State.setPair
  exact Keep.upd_pair (sub.trans rfl hl) h


theorem State.claimNow_keep {L r s} (hl : sub [.od, .gate, .log, .canopen, .fio, .pair, .acts] L = true) (h : Keep L r s) :
    Keep L r (State.claimNow s) := by
  delta State.claimNow
  extract_lets -merge -useContext x0
  exact Keep.site (State.interlock_keep (sub.trans rfl hl) (State.setPair_keep (sub.trans rfl hl) h)) h


theorem State.requestRole_keep {L r s} (hl : sub [.od, .gate, .log, .canopen, .fio, .pair, .acts] L = true) (h : Keep L r s) :
    Keep L r (State.requestRole s) := by
  delta State.requestRole
  extract_lets -merge -useContext x0
  exact State.claimNow_keep (sub.trans rfl hl) (State.setPair_keep (sub.trans rfl hl) h)


theorem State.claimDelay_keep {L r s} (hl : sub [.od, .gate, .log, .canopen, .fio, .pair, .acts] L = true) (h : Keep L r s) :
    Keep L r (State.claimDelay s) := by
  delta State.claimDelay
  exact Keep.site (State.requestRole_keep (sub.trans rfl hl) h) h


theorem execClaimDelayExpired_keep {L r s} (hl : sub [.od, .gate, .log, .canopen, .fio, .pair, .acts] L = true) (h : Keep L r s) :
    Ends L r (execClaimDelayExpired s) := by
  delta execClaimDelayExpired
  exact Keep.rnext (State.served_keep (sub.trans rfl hl) h (fun _ h0 => State.claimDelay_keep (sub.trans rfl hl) h0))


theorem State.toPairState_keep {L r s a1} (hl : sub [.od] L = true) (h : Keep L r s) :
    Keep L r (State.toPairState s a1) := by
  delta State.toPairState
  exact State.put_keep (sub.trans rfl hl) h


theorem State.towLost_keep {L r s} (hl : sub [.od, .gate, .log, .pair, .acts] L = true) (h : Keep L r s) :
    Keep L r (State.towLost s) := by
  delta State.towLost
  extract_lets -merge -useContext x0 x1 x3 x5
  have h2 : Keep L r x1 := State.setPair_keep (sub.trans rfl hl) h
  have h4 : Keep L r x3 := State.bump_keep (sub.trans rfl hl) (State.put_keep (sub.trans rfl hl) h2)
  exact Keep.site (Keep.site (State.raise_keep (sub.trans rfl hl) (State.setPair_keep (sub.trans rfl hl) (State.toPairState_keep (sub.trans rfl hl) h4))) (Keep.site (State.put_keep (sub.trans rfl hl) h4) h4)) h


theorem State.missingWindow_keep {L r s} (hl : sub [.od, .gate, .log, .pair, .acts] L = true) (h : Keep L r s) :
    Keep L r (State.missingWindow s) := by
  delta State.missingWindow
  extract_lets -merge -useContext x0 x1 x3 x4
  have h2 : Keep L r x1 := Keep.site h (State.bump_keep (sub.trans rfl hl) h)
  have h5 : Keep L r x4 := State.setPair_keep (sub.trans rfl hl) h2
  exact Keep.site (State.towLost_keep (sub.trans rfl hl) h5) h5


theorem State.driveXdis_keep {L r s a1} (hl : sub [.od, .gate, .log, .canopen, .fio, .pair, .acts] L = true) (h : Keep L r s) :
    Keep L r (State.driveXdis s a1) := by
  delta State.driveXdis
  extract_lets -merge -useContext x0
  exact Keep.site h (Keep.site h (State.interlock_keep (sub.trans rfl hl) (State.setPair_keep (sub.trans rfl hl) h)))


theorem State.endResync_keep {L r s a1} (hl : sub [.od, .gate, .log, .acts] L = true) (h : Keep L r s) :
    Keep L r (State.endResync s a1) := by
  delta State.endResync
  exact Keep.site (State.opEnd_keep (sub.trans rfl hl) h) h


theorem State.failSelf_keep {L r s a1} (hl : sub [.od, .mram, .gate, .log, .canopen, .fio, .pair, .acts] L = true) (h : Keep L r s) :
    Keep L r (State.failSelf s a1) := by
  delta State.failSelf
  extract_lets -merge -useContext x0 x1 x2 x4
  have h3 : Keep L r x2 := State.setPair_keep (sub.trans rfl hl) h
  have h5 : Keep L r x4 := State.put_keep (sub.trans rfl hl) (State.put_keep (sub.trans rfl hl) (State.toPairState_keep (sub.trans rfl hl) h3))
  exact Keep.site h (State.interlock_keep (sub.trans rfl hl) (State.storeStored_keep (sub.trans rfl hl) (State.put_keep (sub.trans rfl hl) (State.endResync_keep (sub.trans rfl hl) h5))))


theorem State.buttyFails_keep {L r s a1} (hl : sub [.od, .mram, .gate, .log, .canopen, .fio, .pair, .acts] L = true) (h : Keep L r s) :
    Keep L r (State.buttyFails s a1) := by
  delta State.buttyFails
  extract_lets -merge -useContext x0 x2 x4 x5
  have h1 : Keep L r x0 := State.storeStored_keep (sub.trans rfl hl) (State.bump_keep (sub.trans rfl hl) h)
  have h3 : Keep L r x2 := State.raise_keep (sub.trans rfl hl) h1
  have h6 : Keep L r x5 := State.setPair_keep (sub.trans rfl hl) h3
  exact Keep.site (State.driveXdis_keep (sub.trans rfl hl) (State.toPairState_keep (sub.trans rfl hl) (State.put_keep (sub.trans rfl hl) (State.endResync_keep (sub.trans rfl hl) h6)))) (State.failSelf_keep (sub.trans rfl hl) h3)


theorem State.enterResync_keep {L r s} (hl : sub [.od, .mram, .gate, .log, .canopen, .fio, .pair, .acts] L = true) (h : Keep L r s) :
    Keep L r (State.enterResync s) := by
  delta State.enterResync
  extract_lets -merge -useContext x0 x2 x3 x5 x7
  have h1 : Keep L r x0 := State.driveXdis_keep (sub.trans rfl hl) (State.endResync_keep (sub.trans rfl hl) h)
  have h4 : Keep L r x3 := State.setPair_keep (sub.trans rfl hl) h1
  have h6 : Keep L r x5 := State.put_keep (sub.trans rfl hl) (State.put_keep (sub.trans rfl hl) (State.put_keep (sub.trans rfl hl) (State.put_keep (sub.trans rfl hl) (State.toPairState_keep (sub.trans rfl hl) h4))))
  have h8 : Keep L r x7 := State.toPartner_keep (sub.trans rfl hl) (State.opStart_keep (sub.trans rfl hl) h6)
  exact Keep.site (State.buttyFails_keep (sub.trans rfl hl) h8) h8


theorem State.restartResync_keep {L r s} (hl : sub [.od, .mram, .gate, .log, .canopen, .fio, .pair, .acts] L = true) (h : Keep L r s) :
    Keep L r (State.restartResync s) := by
  delta State.restartResync
  extract_lets -merge -useContext x0 x1 x2
  have h3 : Keep L r x2 := State.raise_keep (sub.trans rfl hl) (State.bump_keep (sub.trans rfl hl) (State.setPair_keep (sub.trans rfl hl) h))
  exact Keep.site (State.buttyFails_keep (sub.trans rfl hl) h3) (State.enterResync_keep (sub.trans rfl hl) h3)


theorem State.mismatch_keep {L r s a1} (hl : sub [.od, .mram, .gate, .log, .canopen, .fio, .pair, .acts] L = true) (h : Keep L r s) :
    Keep L r (State.mismatch s a1) := by
  delta State.mismatch
  extract_lets -merge -useContext x0 x2 x3 x5 x6 x7 x9
  have h1 : Keep L r x0 := State.put_keep (sub.trans rfl hl) h
  have h4 : Keep L r x3 := State.bump_keep (sub.trans rfl hl) h1
  have h8 : Keep L r x7 := State.raise_keep (sub.trans rfl hl) (State.bump_keep (sub.trans rfl hl) (State.setPair_keep (sub.trans rfl hl) h4))
  exact Keep.site (State.restartResync_keep (sub.trans rfl hl) h1) (Keep.site (State.raise_keep (sub.trans rfl hl) (State.setPair_keep (sub.trans rfl hl) h4)) (Keep.site (State.setPair_keep (sub.trans rfl hl) h8) h8))


theorem State.windowEnd_keep {L r s} (hl : sub [.od, .mram, .gate, .log, .canopen, .fio, .pair, .acts] L = true) (h : Keep L r s) :
    Keep L r (State.windowEnd s) := by
  delta State.windowEnd
  extract_lets -merge -useContext x0 x1 x2 x3 x4 x6
  have h5 : Keep L r x4 := State.setPair_keep (sub.trans rfl hl) h
  exact (by
   split
   · exact h5
   · exact Keep.site h5 ((by
     clear_value x2
     split
     · exact State.missingWindow_keep (sub.trans rfl hl) h5
     · exact (by
       extract_lets -merge -useContext x7 x9
       have h8 : Keep L r x7 := State.setPair_keep (sub.trans rfl hl) (State.putBytes_keep (sub.trans rfl hl) h5)
       exact Keep.site (State.missingWindow_keep (sub.trans rfl hl) h5) (Keep.site (State.setPair_keep (sub.trans rfl hl) h8) (State.mismatch_keep (sub.trans rfl hl) h8))))))


theorem execDigestWindowEnd_keep {L r a0 s} (hl : sub [.od, .mram, .gate, .log, .canopen, .fio, .pair, .acts] L = true) (h : Keep L r s) :
    Ends L r (execDigestWindowEnd a0 s) := by
  delta execDigestWindowEnd
  exact Keep.rnext (State.served_keep (sub.trans rfl hl) h (fun _ h0 => Keep.site (State.windowEnd_keep (sub.trans rfl hl) h0) h0))


theorem State.becomeMotor_keep {L r s a1 a2} (hl : sub [.od, .mram, .line, .gate, .log, .slices, .canopen, .fio, .pair, .lock, .acts] L = true) (h : Keep L r s) :
    Keep L r (State.becomeMotor s a1 a2) := by
  delta State.becomeMotor
  extract_lets -merge -useContext x0 x1 x2 x3 x5 x7 x9 x10 x12 x14
  have h4 : Keep L r x3 := State.setPair_keep (sub.trans rfl hl) h
  have h6 : Keep L r x5 := State.interlock_keep (sub.trans rfl hl) (State.bump_keep (sub.trans rfl hl) (State.bumpBy_keep (sub.trans rfl hl) h4))
  have h8 : Keep L r x7 := State.put_keep (sub.trans rfl hl) h6
  have h11 : Keep L r x10 := State.histSample_keep (sub.trans rfl hl) (State.put_keep (sub.trans rfl hl) h8)
  have h13 : Keep L r x12 := Keep.site h11 (State.toPairState_keep (sub.trans rfl hl) h11)
  have h15 : Keep L r x14 := Keep.foldl (fun _ _ h16 => (by
   extract_lets -merge -useContext x17
   exact State.setDisp_keep (sub.trans rfl hl) h16)) h13
  exact State.toPartner_keep (sub.trans rfl hl) (State.lockResend_keep (sub.trans rfl hl) (State.raise_keep (sub.trans rfl hl) (State.storeStored_keep (sub.trans rfl hl) h15)))


theorem State.overlapEnd_keep {L r s a1} (hl : sub [.od, .mram, .line, .gate, .log, .slices, .canopen, .fio, .pair, .lock, .acts] L = true) (h : Keep L r s) :
    Keep L r (State.overlapEnd s a1) := by
  delta State.overlapEnd
  extract_lets -merge -useContext x0 x2 x3
  have h1 : Keep L r x0 := Keep.foldl (fun _ _ h5 => Keep.site (State.setFlag_keep (sub.trans rfl hl) h5) h5) h
  have h4 : Keep L r x3 := State.setPair_keep (sub.trans rfl hl) h1
  exact (by
   split
   · exact h
   · exact Keep.site (State.settle_keep (sub.trans rfl hl) h4) (State.becomeMotor_keep (sub.trans rfl hl) h4))


theorem execMbbOverlapEnd_keep {L r a0 s} (hl : sub [.od, .mram, .line, .gate, .log, .slices, .canopen, .fio, .pair, .lock, .acts] L = true) (h : Keep L r s) :
    Ends L r (execMbbOverlapEnd a0 s) := by
  delta execMbbOverlapEnd
  exact Keep.rnext (State.served_keep (sub.trans rfl hl) h (fun _ h0 => State.overlapEnd_keep (sub.trans rfl hl) h0))


theorem State.formingTimeout_keep {L r s} (hl : sub [.od, .gate, .log, .canopen, .fio, .pair, .acts] L = true) (h : Keep L r s) :
    Keep L r (State.formingTimeout s) := by
  delta State.formingTimeout
  exact Keep.site (State.requestRole_keep (sub.trans rfl hl) (State.toPairState_keep (sub.trans rfl hl) h)) h


theorem execPairFormingTimeout_keep {L r s} (hl : sub [.od, .gate, .log, .canopen, .fio, .pair, .acts] L = true) (h : Keep L r s) :
    Ends L r (execPairFormingTimeout s) := by
  delta execPairFormingTimeout
  exact Keep.rnext (State.served_keep (sub.trans rfl hl) h (fun _ h0 => State.formingTimeout_keep (sub.trans rfl hl) h0))


theorem State.tryForm_keep {L r s} (hl : sub [.od, .mram, .gate, .log, .canopen, .fio, .pair, .acts] L = true) (h : Keep L r s) :
    Keep L r (State.tryForm s) := by
  delta State.tryForm
  extract_lets -merge -useContext x0
  exact Keep.site (State.enterResync_keep (sub.trans rfl hl) (State.setPair_keep (sub.trans rfl hl) h)) h


theorem State.roleInRise_keep {L r s} (hl : sub [.od, .mram, .gate, .log, .canopen, .fio, .pair, .acts] L = true) (h : Keep L r s) :
    Keep L r (State.roleInRise s) := by
  delta State.roleInRise
  extract_lets -merge -useContext x0 x1 x2
  have h3 : Keep L r x2 := State.setPair_keep (sub.trans rfl hl) h
  exact Keep.site (State.tryForm_keep (sub.trans rfl hl) (State.interlock_keep (sub.trans rfl hl) h3)) h3


theorem execPairRoleInRise_keep {L r s} (hl : sub [.od, .mram, .gate, .log, .canopen, .fio, .pair, .acts] L = true) (h : Keep L r s) :
    Ends L r (execPairRoleInRise s) := by
  delta execPairRoleInRise
  exact Keep.rnext (State.roleInRise_keep (sub.trans rfl hl) h)


theorem State.markLow_keep {L r s} (hl : sub [.pair] L = true) (h : Keep L r s) :
    Keep L r (State.markLow s) := by
  delta State.markLow
  extract_lets -merge -useContext x0
  exact Keep.site h (State.setPair_keep (sub.trans rfl hl) h)


theorem State.xdisInFall_keep {L r s} (hl : sub [.od, .gate, .log, .canopen, .fio, .pair, .acts] L = true) (h : Keep L r s) :
    Keep L r (State.xdisInFall s) := by
  delta State.xdisInFall
  extract_lets -merge -useContext x0 x1
  have h2 : Keep L r x1 := State.markLow_keep (sub.trans rfl hl) (State.setPair_keep (sub.trans rfl hl) h)
  exact Keep.site (State.interlock_keep (sub.trans rfl hl) h2) h2


theorem execPairXdisInFall_keep {L r s} (hl : sub [.od, .gate, .log, .canopen, .fio, .pair, .acts] L = true) (h : Keep L r s) :
    Ends L r (execPairXdisInFall s) := by
  delta execPairXdisInFall
  exact Keep.rnext (State.xdisInFall_keep (sub.trans rfl hl) h)


theorem State.exchangeWanted_keep {L r s} (hl : sub [.od, .gate, .log, .pair, .acts] L = true) (h : Keep L r s) :
    Keep L r (State.exchangeWanted s) := by
  delta State.exchangeWanted
  extract_lets -merge -useContext x0
  exact Keep.site (State.raise_keep (sub.trans rfl hl) (State.put_keep (sub.trans rfl hl) h)) (Keep.site (State.raise_keep (sub.trans rfl hl) (State.put_keep (sub.trans rfl hl) h)) (State.setPair_keep (sub.trans rfl hl) h))


theorem State.exchangeRequest_keep {L r s} (hl : sub [.od, .gate, .log, .pair, .acts] L = true) (h : Keep L r s) :
    Keep L r (State.exchangeRequest s) := by
  delta State.exchangeRequest
  exact State.exchangeWanted_keep (sub.trans rfl hl) (State.toPartner_keep (sub.trans rfl hl) h)


theorem execPlannedExchange_keep {L r a0 a1 s} (hl : sub [.od, .host, .gate, .log, .pair, .acts] L = true) (h : Keep L r s) :
    Ends L r (execPlannedExchange a0 a1 s) := by
  delta execPlannedExchange
  exact Keep.rnext (State.served_keep (sub.trans rfl hl) h (fun _ h0 => State.accessAct_keep (sub.trans rfl hl) h0 (fun _ h1 => Keep.pair (State.exchangeRequest_keep (sub.trans rfl hl) h1))))


theorem State.replayLevel_keep {L r s} (hl : sub [.od, .pair] L = true) (h : Keep L r s) :
    Keep L r (State.replayLevel s) := by
  delta State.replayLevel
  extract_lets -merge -useContext x0 x2
  have h1 : Keep L r x0 := State.put_keep (sub.trans rfl hl) (State.put_keep (sub.trans rfl hl) h)
  exact Keep.site (State.opProgress_keep (sub.trans rfl hl) (State.setPair_keep (sub.trans rfl hl) h1)) h


theorem execReplayLevel_keep {L r s} (hl : sub [.od, .pair] L = true) (h : Keep L r s) :
    Ends L r (execReplayLevel s) := by
  delta execReplayLevel
  exact Keep.rnext (State.served_keep (sub.trans rfl hl) h (fun _ h0 => State.replayLevel_keep (sub.trans rfl hl) h0))


theorem State.resyncWanted_keep {L r s} (hl : sub [.od, .mram, .gate, .log, .canopen, .fio, .pair, .acts] L = true) (h : Keep L r s) :
    Keep L r (State.resyncWanted s) := by
  delta State.resyncWanted
  extract_lets -merge -useContext x0 x1 x3 x4
  have h2 : Keep L r x1 := State.setPair_keep (sub.trans rfl hl) h
  have h5 : Keep L r x4 := State.setPair_keep (sub.trans rfl hl) h
  exact Keep.site (State.enterResync_keep (sub.trans rfl hl) (State.put_keep (sub.trans rfl hl) (State.put_keep (sub.trans rfl hl) h2))) (Keep.site (State.enterResync_keep (sub.trans rfl hl) (State.toPartner_keep (sub.trans rfl hl) h5)) h)


theorem State.resyncRequest_keep {L r s} (hl : sub [.od, .mram, .gate, .log, .canopen, .fio, .pair, .acts] L = true) (h : Keep L r s) :
    Keep L r (State.resyncRequest s) := by
  delta State.resyncRequest
  exact Keep.site (State.toPartner_keep (sub.trans rfl hl) h) (State.resyncWanted_keep (sub.trans rfl hl) h)


theorem execResynchronisationRequest_keep {L r a0 a1 s} (hl : sub [.od, .mram, .host, .gate, .log, .canopen, .fio, .pair, .acts] L = true) (h : Keep L r s) :
    Ends L r (execResynchronisationRequest a0 a1 s) := by
  delta execResynchronisationRequest
  exact Keep.rnext (State.served_keep (sub.trans rfl hl) h (fun _ h0 => State.accessAct_keep (sub.trans rfl hl) h0 (fun _ h1 => Keep.pair (Keep.site (State.resyncRequest_keep (sub.trans rfl hl) h1) h1))))


theorem State.loadReported_keep {L r s} (hl : sub [.od] L = true) (h : Keep L r s) :
    Keep L r (State.loadReported s) := by
  delta State.loadReported
  exact Keep.site h (Keep.foldl (fun _ _ h0 => Keep.site (State.putFlag_keep (sub.trans rfl hl) h0) h0) h)


theorem State.takeover_keep {L r s a1} (hl : sub [.od, .gate, .log, .canopen, .fio, .pair, .acts] L = true) (h : Keep L r s) :
    Keep L r (State.takeover s a1) := by
  delta State.takeover
  extract_lets -merge -useContext x0 x2 x3
  have h1 : Keep L r x0 := State.loadReported_keep (sub.trans rfl hl) (State.put_keep (sub.trans rfl hl) h)
  have h4 : Keep L r x3 := State.setPair_keep (sub.trans rfl hl) h1
  exact Keep.site (State.settle_keep (sub.trans rfl hl) (State.toPartner_keep (sub.trans rfl hl) h4)) h


theorem State.roleInFall_keep {L r s} (hl : sub [.od, .gate, .log, .canopen, .fio, .pair, .acts] L = true) (h : Keep L r s) :
    Keep L r (State.roleInFall s) := by
  delta State.roleInFall
  extract_lets -merge -useContext x0 x1 x3 x4
  have h2 : Keep L r x1 := Keep.site (State.takeover_keep (sub.trans rfl hl) h) h
  have h5 : Keep L r x4 := State.markLow_keep (sub.trans rfl hl) (State.setPair_keep (sub.trans rfl hl) h2)
  exact Keep.site (State.interlock_keep (sub.trans rfl hl) h5) h5


theorem execRoleInFall_keep {L r s} (hl : sub [.od, .gate, .log, .canopen, .fio, .pair, .acts] L = true) (h : Keep L r s) :
    Ends L r (execRoleInFall s) := by
  delta execRoleInFall
  exact Keep.rnext (State.roleInFall_keep (sub.trans rfl hl) h)


theorem State.exchangeEnd_keep {L r s a1} (hl : sub [.od, .gate, .log, .canopen, .fio, .pair, .acts] L = true) (h : Keep L r s) :
    Keep L r (State.exchangeEnd s a1) := by
  delta State.exchangeEnd
  extract_lets -merge -useContext x0 x1 x3 x5
  have h2 : Keep L r x1 := State.setPair_keep (sub.trans rfl hl) h
  have h4 : Keep L r x3 := State.raise_keep (sub.trans rfl hl) (State.put_keep (sub.trans rfl hl) h2)
  exact Keep.site h4 (Keep.site h4 (State.takeover_keep (sub.trans rfl hl) (State.setPair_keep (sub.trans rfl hl) h4)))


theorem State.outcome_keep {L r s a1 a2} (hl : sub [.od, .mram, .gate, .log, .canopen, .fio, .pair, .acts] L = true) (h : Keep L r s) :
    Keep L r (State.outcome s a1 a2) := by
  delta State.outcome
  extract_lets -merge -useContext x0 x1 x3 x4 x6 x7 x8 x10 x11 x13 x14
  have h2 : Keep L r x1 := State.setPair_keep (sub.trans rfl hl) h
  have h5 : Keep L r x4 := State.put_keep (sub.trans rfl hl) h2
  have h9 : Keep L r x8 := State.raise_keep (sub.trans rfl hl) (State.storeStored_keep (sub.trans rfl hl) (State.bump_keep (sub.trans rfl hl) (State.toPairState_keep (sub.trans rfl hl) h5)))
  have h12 : Keep L r x11 := State.setPair_keep (sub.trans rfl hl) h9
  have h15 : Keep L r x14 := State.buttyFails_keep (sub.trans rfl hl) h5
  exact Keep.site (State.takeover_keep (sub.trans rfl hl) h5) (Keep.site (Keep.site (State.enterResync_keep (sub.trans rfl hl) (State.setPair_keep (sub.trans rfl hl) h12)) h12) (Keep.site (State.raise_keep (sub.trans rfl hl) h15) h15))


theorem State.arbitrate_keep {L r s a1} (hl : sub [.od, .mram, .gate, .log, .canopen, .fio, .pair, .acts] L = true) (h : Keep L r s) :
    Keep L r (State.arbitrate s a1) := by
  delta State.arbitrate
  extract_lets -merge -useContext x0
  exact (by
   split
   · exact h
   · exact Keep.site h (Keep.site (State.outcome_keep (sub.trans rfl hl) h) (State.outcome_keep (sub.trans rfl hl) h)))


theorem State.selfCheck_keep {L r s a1 a2 a3} (hl : sub [.od, .mram, .gate, .log, .canopen, .fio, .pair, .acts] L = true) (h : Keep L r s) :
    Keep L r (State.selfCheck s a1 a2 a3) := by
  delta State.selfCheck
  extract_lets -merge -useContext x0 x1 x2 x4
  have h3 : Keep L r x2 := State.setPair_keep (sub.trans rfl hl) h
  have h5 : Keep L r x4 := State.toPartner_keep (sub.trans rfl hl) h3
  exact Keep.site (Keep.site (State.exchangeEnd_keep (sub.trans rfl hl) h5) (State.arbitrate_keep (sub.trans rfl hl) h5)) h


theorem execSelfCheckResult_keep {L r a0 a1 a2 s} (hl : sub [.od, .mram, .gate, .log, .canopen, .fio, .pair, .acts] L = true) (h : Keep L r s) :
    Ends L r (execSelfCheckResult a0 a1 a2 s) := by
  delta execSelfCheckResult
  exact Keep.rnext (State.served_keep (sub.trans rfl hl) h (fun _ h0 => Keep.site (State.selfCheck_keep (sub.trans rfl hl) h0) h0))


theorem State.snapshotSent_keep {L r s a1 a2} (hl : sub [.od, .mram, .gate, .log, .canopen, .fio, .pair, .acts] L = true) (h : Keep L r s) :
    Keep L r (State.snapshotSent s a1 a2) := by
  delta State.snapshotSent
  exact Keep.site (Keep.site (State.restartResync_keep (sub.trans rfl hl) h) (State.opProgress_keep (sub.trans rfl hl) (State.put_keep (sub.trans rfl hl) (State.put_keep (sub.trans rfl hl) (State.put_keep (sub.trans rfl hl) (State.put_keep (sub.trans rfl hl) h)))))) h


theorem execSnapshotSent_keep {L r a0 a1 s} (hl : sub [.od, .mram, .gate, .log, .canopen, .fio, .pair, .acts] L = true) (h : Keep L r s) :
    Ends L r (execSnapshotSent a0 a1 s) := by
  delta execSnapshotSent
  exact Keep.rnext (State.served_keep (sub.trans rfl hl) h (fun _ h0 => State.snapshotSent_keep (sub.trans rfl hl) h0))


theorem State.partnerCheck_keep {L r s a1} (hl : sub [.od, .mram, .gate, .log, .canopen, .fio, .pair, .acts] L = true) (h : Keep L r s) :
    Keep L r (State.partnerCheck s a1) := by
  delta State.partnerCheck
  extract_lets -merge -useContext x0
  exact Keep.site (State.exchangeEnd_keep (sub.trans rfl hl) h) (Keep.site (State.arbitrate_keep (sub.trans rfl hl) (State.setPair_keep (sub.trans rfl hl) h)) h)


theorem State.hello_keep {L r s a1 a2 a3 a4 a5 a6 a7} (hl : sub [.od, .mram, .gate, .log, .canopen, .fio, .pair, .unitA, .acts] L = true) (h : Keep L r s) :
    Keep L r (State.hello s a1 a2 a3 a4 a5 a6 a7) := by
  delta State.hello
  extract_lets -merge -useContext x0 x1 x2 x3 x4 x6 x8
  have h5 : Keep L r x4 := Keep.upd_pair_unitA (sub.trans rfl hl) h
  have h7 : Keep L r x6 := State.put_keep (sub.trans rfl hl) (State.put_keep (sub.trans rfl hl) (State.put_keep (sub.trans rfl hl) h5))
  exact Keep.site (Keep.site (State.tryForm_keep (sub.trans rfl hl) h7) (Keep.site (State.restartResync_keep (sub.trans rfl hl) h7) (Keep.site (State.enterResync_keep (sub.trans rfl hl) (State.setPair_keep (sub.trans rfl hl) h7)) h7))) h


theorem State.towReceived_keep {L r s a1} (hl : sub [.od, .mram, .clock, .mu, .line, .gate, .log, .trust, .video, .slices, .canopen, .mooring, .fio, .pair, .unitA, .acts] L = true) (h : Keep L r s) :
    Keep L r (State.towReceived s a1) := by
  delta State.towReceived
  extract_lets -merge -useContext x0 x1 x2 x3 x4 x5 x6 x7
  exact (by
   split
   · exact State.queueInput_keep (sub.trans rfl hl) h
   · exact State.setPair_keep (sub.trans rfl hl) h
   · exact State.judgeVotes_keep (sub.trans rfl hl) (Keep.upd_mooring (sub.trans rfl hl) h)
   · exact State.setPair_keep (sub.trans rfl hl) h
   · exact (by
     split
     · exact Keep.site h (State.flightCount_keep (sub.trans rfl hl) (State.verified_keep (sub.trans rfl hl) h))
     · exact h)
   · exact (by
     extract_lets -merge -useContext x8
     exact Keep.upd_clock (sub.trans rfl hl) h)
   · exact State.partnerCheck_keep (sub.trans rfl hl) h
   · exact State.hello_keep (sub.trans rfl hl) h
   · exact Keep.upd_mu (sub.trans rfl hl) h
   · exact State.evaluate_keep (sub.trans rfl hl) (Keep.upd_mu (sub.trans rfl hl) h)
   · exact Keep.site (State.opProgress_keep (sub.trans rfl hl) (State.put_keep (sub.trans rfl hl) h)) h
   · exact Keep.site (State.resyncWanted_keep (sub.trans rfl hl) h) (Keep.site (State.exchangeWanted_keep (sub.trans rfl hl) h) h)
   · exact State.collectRequest_keep (sub.trans rfl hl) h
   · exact Keep.site (State.followDecision_keep (sub.trans rfl hl) h) h
   · exact State.setPair_keep (sub.trans rfl hl) h
   · exact (by
     extract_lets -merge -useContext x9
     exact Keep.site (State.setCam_keep (sub.trans rfl hl) h) h))


theorem execTowInputReceived_keep {L r a0 s} (hl : sub [.od, .mram, .clock, .mu, .line, .gate, .log, .trust, .video, .slices, .canopen, .mooring, .fio, .pair, .unitA, .acts] L = true) (h : Keep L r s) :
    Ends L r (execTowInputReceived a0 s) := by
  delta execTowInputReceived
  exact Keep.rnext (State.served_keep (sub.trans rfl hl) h (fun _ h0 => Keep.site (State.towReceived_keep (sub.trans rfl hl) h0) h0))


theorem State.towLanes_keep {L r s a1} (hl : sub [.od] L = true) (h : Keep L r s) :
    Keep L r (State.towLanes s a1) := by
  delta State.towLanes
  exact State.put_keep (sub.trans rfl hl) h


theorem execTowLaneLoss_keep {L r a0 s} (hl : sub [.od] L = true) (h : Keep L r s) :
    Ends L r (execTowLaneLoss a0 s) := by
  delta execTowLaneLoss
  exact Keep.rnext (State.served_keep (sub.trans rfl hl) h (fun _ h0 => State.towLanes_keep (sub.trans rfl hl) h0))


theorem execTowLineLost_keep {L r s} (hl : sub [.od, .gate, .log, .pair, .acts] L = true) (h : Keep L r s) :
    Ends L r (execTowLineLost s) := by
  delta execTowLineLost
  exact Keep.rnext (State.served_keep (sub.trans rfl hl) h (fun _ h0 => State.towLost_keep (sub.trans rfl hl) h0))


theorem State.towUp_keep {L r s a1} (hl : sub [.od, .mram, .gate, .log, .canopen, .fio, .pair, .acts] L = true) (h : Keep L r s) :
    Keep L r (State.towUp s a1) := by
  delta State.towUp
  extract_lets -merge -useContext x0 x1 x3
  have h2 : Keep L r x1 := State.setPair_keep (sub.trans rfl hl) (State.towLanes_keep (sub.trans rfl hl) h)
  exact Keep.site h (Keep.site (State.raise_keep (sub.trans rfl hl) (State.enterResync_keep (sub.trans rfl hl) (State.setPair_keep (sub.trans rfl hl) h2))) (Keep.site (State.restartResync_keep (sub.trans rfl hl) h2) (State.tryForm_keep (sub.trans rfl hl) h2)))


theorem execTowLineUp_keep {L r a0 s} (hl : sub [.od, .mram, .gate, .log, .canopen, .fio, .pair, .acts] L = true) (h : Keep L r s) :
    Ends L r (execTowLineUp a0 s) := by
  delta execTowLineUp
  exact Keep.rnext (State.served_keep (sub.trans rfl hl) h (fun _ h0 => State.towUp_keep (sub.trans rfl hl) h0))


theorem State.xdisInRise_keep {L r s} (hl : sub [.od, .mram, .gate, .log, .canopen, .fio, .pair, .acts] L = true) (h : Keep L r s) :
    Keep L r (State.xdisInRise s) := by
  delta State.xdisInRise
  extract_lets -merge -useContext x0 x1 x2 x3 x4 x6
  have h5 : Keep L r x4 := State.setPair_keep (sub.trans rfl hl) h
  exact Keep.site (Keep.site (State.interlock_keep (sub.trans rfl hl) h5) (State.failSelf_keep (sub.trans rfl hl) (State.interlock_keep (sub.trans rfl hl) h5))) (State.setPair_keep (sub.trans rfl hl) h)


theorem execXdisInRise_keep {L r s} (hl : sub [.od, .mram, .gate, .log, .canopen, .fio, .pair, .acts] L = true) (h : Keep L r s) :
    Ends L r (execXdisInRise s) := by
  delta execXdisInRise
  exact Keep.rnext (State.xdisInRise_keep (sub.trans rfl hl) h)


theorem State.cleanFlight_keep {L r s} (hl : sub [.od, .gate, .log, .pair, .acts] L = true) (h : Keep L r s) :
    Keep L r (State.cleanFlight s) := by
  delta State.cleanFlight
  extract_lets -merge -useContext x0 x1 x2 x3 x4 x6 x7
  have h5 : Keep L r x4 := State.opProgress_keep (sub.trans rfl hl) (State.put_keep (sub.trans rfl hl) (State.setPair_keep (sub.trans rfl hl) h))
  have h8 : Keep L r x7 := State.setPair_keep (sub.trans rfl hl) h5
  exact Keep.site (Keep.site (State.setPair_keep (sub.trans rfl hl) h) (Keep.site h5 (State.raise_keep (sub.trans rfl hl) (State.opEnd_keep (sub.trans rfl hl) (State.bump_keep (sub.trans rfl hl) (State.put_keep (sub.trans rfl hl) (State.toPairState_keep (sub.trans rfl hl) h8))))))) h


theorem State.pairBoundary_keep {L r s} (hl : sub [.od, .gate, .log, .canopen, .fio, .pair, .acts] L = true) (h : Keep L r s) :
    Keep L r (State.pairBoundary s) := by
  delta State.pairBoundary
  extract_lets -merge -useContext x0 x2 x3 x4 x6 x7 x9 x10
  have h1 : Keep L r x0 := State.cleanFlight_keep (sub.trans rfl hl) h
  have h5 : Keep L r x4 := State.setPair_keep (sub.trans rfl hl) h1
  have h8 : Keep L r x7 := Keep.site (State.takeover_keep (sub.trans rfl hl) h5) h5
  exact Keep.site (Keep.site (State.takeover_keep (sub.trans rfl hl) (State.setPair_keep (sub.trans rfl hl) h8)) (Keep.site (State.setPair_keep (sub.trans rfl hl) h8) h8)) h


theorem State.passageDigests_keep {L r s} (hl : sub [.pair, .acts] L = true) (h : Keep L r s) :
    Keep L r (State.passageDigests s) := by
  delta State.passageDigests
  extract_lets -merge -useContext x0 x1 x2
  have h3 : Keep L r x2 := State.setPair_keep (sub.trans rfl hl) h
  exact Keep.site (State.toPartner_keep (sub.trans rfl hl) (Keep.upd_acts (sub.trans rfl hl) h3)) h


theorem State.startPair_keep {L r s} (hl : sub [.od, .gate, .log, .canopen, .fio, .pair, .acts] L = true) (h : Keep L r s) :
    Keep L r (State.startPair s) := by
  delta State.startPair
  extract_lets -merge -useContext x0 x2
  have h1 : Keep L r x0 := State.put_keep (sub.trans rfl hl) (State.put_keep (sub.trans rfl hl) h)
  have h3 : Keep L r x2 := State.interlock_keep (sub.trans rfl hl) (State.toPairState_keep (sub.trans rfl hl) h1)
  exact Keep.site (Keep.site (State.interlock_keep (sub.trans rfl hl) (State.toPairState_keep (sub.trans rfl hl) h1)) (Keep.site (State.requestRole_keep (sub.trans rfl hl) h3) h3)) h


end Sys2Proof.Machine
end

