-- ==== Sys2Proof/Laws/KeepService.lean ====
section
/-!
SUPPORT. What each operation may change: commits, the dictionary and its messages. One lemma per operation, by its name with `_keep`.
-/

set_option linter.unusedTactic false
set_option linter.unreachableTactic false
set_option linter.unusedVariables false

namespace Sys2Proof.Machine

theorem State.loseStaging_keep {L r s} (hl : sub [.od, .dict, .trust] L = true) (h : Keep L r s) :
    Keep L r (State.loseStaging s) := by
  delta State.loseStaging
  exact State.bump_keep (sub.trans rfl hl) (State.discardStaging_keep (sub.trans rfl hl) h)


theorem State.commitRefused_keep {L r s a1 a2 a3 a4} (hl : sub [.od, .dict, .gate, .log, .trust, .acts] L = true) (h : Keep L r s) :
    Keep L r (State.commitRefused s a1 a2 a3 a4) := by
  delta State.commitRefused
  extract_lets -merge -useContext x0 x2 x4
  have h1 : Keep L r x0 := State.put_keep (sub.trans rfl hl) (State.put_keep (sub.trans rfl hl) (State.put_keep (sub.trans rfl hl) (State.put_keep (sub.trans rfl hl) h)))
  have h3 : Keep L r x2 := State.bump_keep (sub.trans rfl hl) (State.put_keep (sub.trans rfl hl) (State.put_keep (sub.trans rfl hl) h1))
  have h5 : Keep L r x4 := State.opEnd_keep (sub.trans rfl hl) (State.opProgress_keep (sub.trans rfl hl) h3)
  exact Keep.site (State.loseStaging_keep (sub.trans rfl hl) h5) h5


theorem State.reportRefusal_keep {L r s} (hl : sub [.od] L = true) (h : Keep L r s) :
    Keep L r (State.reportRefusal s) := by
  delta State.reportRefusal
  extract_lets -merge -useContext x0 x1
  have h2 : Keep L r x1 := Keep.foldl (fun _ _ h3 => State.put_keep (sub.trans rfl hl) h3) h
  exact State.put_keep (sub.trans rfl hl) h2


theorem State.commitRun_keep {L r s a1} (hl : sub [.od, .dict, .gate, .log, .trust, .acts] L = true) (h : Keep L r s) :
    Keep L r (State.commitRun s a1) := by
  delta State.commitRun
  extract_lets -merge -useContext x0 x1 x3
  have h2 : Keep L r x1 := Keep.upd_dict (sub.trans rfl hl) h
  have h4 : Keep L r x3 := State.opStart_keep (sub.trans rfl hl) (State.put_keep (sub.trans rfl hl) (State.bump_keep (sub.trans rfl hl) h2))
  exact (by
   split
   · exact State.opProgress_keep (sub.trans rfl hl) (State.put_keep (sub.trans rfl hl) h4)
   · exact State.commitRefused_keep (sub.trans rfl hl) (Keep.site (State.reportRefusal_keep (sub.trans rfl hl) h4) h4))


theorem execCommit_keep {L r a0 s} (hl : sub [.od, .dict, .host, .gate, .log, .trust, .pair, .acts] L = true) (h : Keep L r s) :
    Ends L r (execCommit a0 s) := by
  delta execCommit
  exact Keep.rnext (State.served_keep (sub.trans rfl hl) h (fun _ h0 => State.accessAct_keep (sub.trans rfl hl) h0 (fun _ h1 => Keep.pair (State.commitRun_keep (sub.trans rfl hl) h1))))


theorem State.applyPorts_keep {L r s a1} (hl : sub [.od, .gate, .log, .canopen, .mooring, .fio, .acts] L = true) (h : Keep L r s) :
    Keep L r (State.applyPorts s a1) := by
  delta State.applyPorts
  extract_lets -merge -useContext x0 x2 x4
  have h1 : Keep L r x0 := Keep.foldl (fun _ _ h11 => (by
   extract_lets -merge -useContext x12
   exact Keep.site (State.applyCan_keep (sub.trans rfl hl) h11) h11)) h
  have h3 : Keep L r x2 := Keep.site (State.startConsumers_keep (sub.trans rfl hl) h1) h1
  have h5 : Keep L r x4 := Keep.foldl (fun _ _ h6 => (by
   extract_lets -merge -useContext x7 x8 x10
   have h9 : Keep L r x8 := Keep.site (Keep.upd_canopen (sub.trans rfl hl) h6) h6
   exact Keep.site (Keep.upd_canopen (sub.trans rfl hl) h9) h9)) h3
  exact State.judgeVotes_keep (sub.trans rfl hl) (State.settle_keep (sub.trans rfl hl) h5)


theorem State.applyVideo_keep {L r s a1 a2} (hl : sub [.od, .clock, .video, .slices] L = true) (h : Keep L r s) :
    Keep L r (State.applyVideo s a1 a2) := by
  delta State.applyVideo
  extract_lets -merge -useContext x0 x2 x4 x6 x8 x9
  have h1 : Keep L r x0 := Keep.site (State.pulseOwners_keep (sub.trans rfl hl) h) h
  have h3 : Keep L r x2 := Keep.foldl (fun _ _ h16 => Keep.site (State.pulseCommit_keep (sub.trans rfl hl) h16) h16) h1
  have h5 : Keep L r x4 := Keep.site h3 (Keep.foldl (fun _ _ h15 => Keep.site (State.applyCamera_keep (sub.trans rfl hl) h15) h15) h3)
  have h7 : Keep L r x6 := State.installAdmission_keep (sub.trans rfl hl) (State.ingestSummary_keep (sub.trans rfl hl) h5)
  have h10 : Keep L r x9 := Keep.foldl (fun _ _ h11 => (by
   extract_lets -merge -useContext x12 x13
   have h14 : Keep L r x13 := Keep.site h11 (State.changeRegions_keep (sub.trans rfl hl) h11)
   exact State.regionFigures_keep (sub.trans rfl hl) (Keep.site (State.applyDisplay_keep (sub.trans rfl hl) h14) h14))) h7
  exact Keep.site (State.publishKeys_keep (sub.trans rfl hl) h10) h10


theorem State.applyLine_keep {L r s a1} (hl : sub [.od, .dict, .clock, .mu, .line, .gate, .log, .trust, .acts] L = true) (h : Keep L r s) :
    Keep L r (State.applyLine s a1) := by
  delta State.applyLine
  extract_lets -merge -useContext x0 x2 x4 x6 x8 x9 x11 x12 x14 x15
  have h1 : Keep L r x0 := State.gateApply_keep (sub.trans rfl hl) h
  have h3 : Keep L r x2 := Keep.foldl (fun _ _ h20 => (by
   extract_lets -merge -useContext x21
   have h22 : Keep L r x21 := Keep.site (State.applyPortEnable_keep (sub.trans rfl hl) h20) h20
   exact Keep.site (State.limitCheck_keep (sub.trans rfl hl) h22) h22)) h1
  have h5 : Keep L r x4 := Keep.foldl (fun _ _ h17 => (by
   extract_lets -merge -useContext x18
   have h19 : Keep L r x18 := Keep.site (State.applyStarEnable_keep (sub.trans rfl hl) h17) h17
   exact Keep.site (State.put_keep (sub.trans rfl hl) h19) h19)) h3
  have h7 : Keep L r x6 := Keep.site (State.refreshTables_keep (sub.trans rfl hl) h5) h5
  have h10 : Keep L r x9 := Keep.site (State.setDomain_keep (sub.trans rfl hl) h7) h7
  have h13 : Keep L r x12 := Keep.site (State.setDomain_keep (sub.trans rfl hl) h10) h10
  have h16 : Keep L r x15 := Keep.site (State.ntDecide_keep (sub.trans rfl hl) h13) h13
  exact Keep.site (State.propose_keep (sub.trans rfl hl) h16) h16


theorem State.applyStaged_keep {L r s} (hl : sub [.od, .dict, .mram, .clock, .mu, .line, .gate, .log, .trust, .video, .slices, .canopen, .mooring, .fio, .acts] L = true) (h : Keep L r s) :
    Keep L r (State.applyStaged s) := by
  delta State.applyStaged
  extract_lets -merge -useContext x0 x1 x2 x3 x4 x6 x7 x9
  have h5 : Keep L r x4 := Keep.upd_od_dict (sub.trans rfl hl) h (fun w => by first | exact Store.set_wf w _ _ | exact Store.fold_wf w _)
  have h8 : Keep L r x7 := by unfold x7; exact (by
   split
   · exact (by
     extract_lets -merge -useContext x11
     have h12 : Keep L r x11 := State.put_keep (sub.trans rfl hl) h5
     exact State.storeStored_keep (sub.trans rfl hl) (Keep.upd_trust (sub.trans rfl hl) h12))
   · exact h5)
  have h10 : Keep L r x9 := State.opEnd_keep (sub.trans rfl hl) (State.opProgress_keep (sub.trans rfl hl) (State.put_keep (sub.trans rfl hl) h8))
  exact State.applyPorts_keep (sub.trans rfl hl) (State.applyVideo_keep (sub.trans rfl hl) (State.applyLine_keep (sub.trans rfl hl) h10))


theorem State.applyCommit_keep {L r s} (hl : sub [.od, .dict, .mram, .clock, .mu, .line, .gate, .log, .trust, .video, .slices, .canopen, .mooring, .fio, .acts] L = true) (h : Keep L r s) :
    Keep L r (State.applyCommit s) := by
  delta State.applyCommit
  exact State.viewStatuses_keep (sub.trans rfl hl) (State.rebind_keep (sub.trans rfl hl) (State.applyStaged_keep (sub.trans rfl hl) h))


theorem State.commitStored_keep {L r s} (hl : sub [.od, .dict, .mram, .clock, .mu, .line, .gate, .log, .trust, .video, .slices, .canopen, .mooring, .fio, .acts] L = true) (h : Keep L r s) :
    Keep L r (State.commitStored s) := by
  delta State.commitStored
  extract_lets -merge -useContext x0 x1 x2 x3 x4 x6 x8 x9 x10 x12
  have h5 : Keep L r x4 := Keep.upd_mram (sub.trans rfl hl) h
  have h7 : Keep L r x6 := State.opProgress_keep (sub.trans rfl hl) (State.put_keep (sub.trans rfl hl) (State.put_keep (sub.trans rfl hl) h5))
  have h11 : Keep L r x10 := Keep.site (State.trigEval_keep (sub.trans rfl hl) (Keep.upd_mu (sub.trans rfl hl) h7)) h7
  have h13 : Keep L r x12 := State.put_keep (sub.trans rfl hl) h11
  exact Keep.site h (Keep.site (State.commitRefused_keep (sub.trans rfl hl) h) (Keep.site (Keep.site h13 (State.announce_keep (sub.trans rfl hl) h13)) (State.applyCommit_keep (sub.trans rfl hl) h11)))


theorem execCommitStoreDone_keep {L r s} (hl : sub [.od, .dict, .mram, .clock, .mu, .line, .gate, .log, .trust, .video, .slices, .canopen, .mooring, .fio, .acts] L = true) (h : Keep L r s) :
    Ends L r (execCommitStoreDone s) := by
  delta execCommitStoreDone
  exact Keep.rnext (State.served_keep (sub.trans rfl hl) h (fun _ h0 => State.commitStored_keep (sub.trans rfl hl) h0))


theorem State.discard_keep {L r s} (hl : sub [.dict, .trust] L = true) (h : Keep L r s) :
    Keep L r (State.discard s) := by
  delta State.discard
  exact State.discardStaging_keep (sub.trans rfl hl) h


theorem execDiscard_keep {L r a0 s} (hl : sub [.od, .dict, .host, .gate, .log, .trust, .pair, .acts] L = true) (h : Keep L r s) :
    Ends L r (execDiscard a0 s) := by
  delta execDiscard
  exact Keep.rnext (State.served_keep (sub.trans rfl hl) h (fun _ h0 => State.accessAct_keep (sub.trans rfl hl) h0 (fun _ h1 => Keep.pair (State.discard_keep (sub.trans rfl hl) h1))))


theorem State.stagingIdle_keep {L r s} (hl : sub [.od, .dict, .trust] L = true) (h : Keep L r s) :
    Keep L r (State.stagingIdle s) := by
  delta State.stagingIdle
  exact Keep.site h (State.loseStaging_keep (sub.trans rfl hl) h)


theorem execStagingIdleTimeout_keep {L r s} (hl : sub [.od, .dict, .trust] L = true) (h : Keep L r s) :
    Ends L r (execStagingIdleTimeout s) := by
  delta execStagingIdleTimeout
  exact Keep.rnext (State.served_keep (sub.trans rfl hl) h (fun _ h0 => State.stagingIdle_keep (sub.trans rfl hl) h0))


theorem State.bundleWrite_keep {L r s a1} (hl : sub [.od, .dict, .gate, .log, .trust, .acts] L = true) (h : Keep L r s) :
    Keep L r (State.bundleWrite s a1).1 := by
  delta State.bundleWrite
  extract_lets -merge -useContext x0 x1 x2 x3 x4 x5 x7 x9 x10 x12
  have h6 : Keep L r x5 := State.opProgress_keep (sub.trans rfl hl) (State.opStart_keep (sub.trans rfl hl) (State.put_keep (sub.trans rfl hl) h))
  have h8 : Keep L r x7 := State.opEnd_keep (sub.trans rfl hl) (Keep.foldl (fun _ _ h13 => State.stage_keep (sub.trans rfl hl) h13) h6)
  have h11 : Keep L r x10 := Keep.upd_trust (sub.trans rfl hl) h8
  exact Keep.pite (Keep.pair (State.put_keep (sub.trans rfl hl) h)) (Keep.pite (Keep.pair h) (Keep.pite (Keep.pair h) ((by
   clear_value x3
   split
   · exact Keep.pair h
   · exact Keep.pite (Keep.pair (State.commitRun_keep (sub.trans rfl hl) h11)) (Keep.pair (Keep.upd_dict (sub.trans rfl hl) h11))))))


theorem execBundle_keep {L r a0 a1 s} (hl : sub [.od, .dict, .host, .gate, .log, .trust, .acts] L = true) (h : Keep L r s) :
    Ends L r (execBundle a0 a1 s) := by
  delta execBundle
  exact Keep.rnext (State.served_keep (sub.trans rfl hl) h (fun _ h0 => (by
 extract_lets -merge -useContext x1 x2
 have h3 : Keep L r x2.1 := State.bundleWrite_keep (sub.trans rfl hl) h0
 exact Keep.site (State.respond_keep (sub.trans rfl hl) h0) (State.respond_keep (sub.trans rfl hl) h3))))


theorem State.relay_keep {L r s a1 a2 a3} (hl : sub [.od, .dict, .line] L = true) (h : Keep L r s) :
    Keep L r (State.relay s a1 a2 a3).1 := by
  delta State.relay
  extract_lets -merge -useContext x0 x1 x3 x4
  have h2 : Keep L r x1 := State.sendChunks_keep (sub.trans rfl hl) (State.emit_keep (sub.trans rfl hl) h)
  exact Keep.pite (Keep.pair (Keep.upd_dict (sub.trans rfl hl) h2)) (Keep.pair (Keep.upd_dict (sub.trans rfl hl) h))


theorem State.islandScan_keep {L r s} (hl : sub [.od, .power, .gate, .log, .acts] L = true) (h : Keep L r s) :
    Keep L r (State.islandScan s) := by
  delta State.islandScan
  exact Keep.foldl (fun _ _ h0 => Keep.site (State.islandRestart_keep (sub.trans rfl hl) h0) (State.islandStop_keep (sub.trans rfl hl) h0)) h


theorem State.enterQuiet_keep {L r s} (hl : sub [.od, .power, .gate, .log, .video, .slices, .acts] L = true) (h : Keep L r s) :
    Keep L r (State.enterQuiet s) := by
  delta State.enterQuiet
  extract_lets -merge -useContext x0 x2 x4 x6 x7
  have h1 : Keep L r x0 := State.put_keep (sub.trans rfl hl) h
  have h3 : Keep L r x2 := Keep.foldl (fun _ _ h9 => State.camOff_keep (sub.trans rfl hl) h9) h1
  have h5 : Keep L r x4 := Keep.foldl (fun _ _ h8 => State.displayOff_keep (sub.trans rfl hl) h8) h3
  exact State.islandScan_keep (sub.trans rfl hl) (Keep.upd_slices (sub.trans rfl hl) h5)


theorem State.leaveQuiet_keep {L r s} (hl : sub [.od, .power, .gate, .log, .video, .slices, .acts] L = true) (h : Keep L r s) :
    Keep L r (State.leaveQuiet s) := by
  delta State.leaveQuiet
  extract_lets -merge -useContext x0 x2 x4 x6 x7
  have h1 : Keep L r x0 := State.put_keep (sub.trans rfl hl) h
  have h3 : Keep L r x2 := Keep.foldl (fun _ _ h9 => Keep.site (State.applyCamera_keep (sub.trans rfl hl) h9) h9) h1
  have h5 : Keep L r x4 := Keep.foldl (fun _ _ h8 => State.applyDisplay_keep (sub.trans rfl hl) h8) h3
  exact State.islandScan_keep (sub.trans rfl hl) (Keep.upd_slices (sub.trans rfl hl) h5)


theorem State.applyQuiet_keep {L r s} (hl : sub [.od, .power, .gate, .log, .video, .slices, .acts] L = true) (h : Keep L r s) :
    Keep L r (State.applyQuiet s) := by
  delta State.applyQuiet
  extract_lets -merge -useContext x0
  exact Keep.site h (Keep.site (State.enterQuiet_keep (sub.trans rfl hl) h) (State.leaveQuiet_keep (sub.trans rfl hl) h))


theorem State.quietRequest_keep {L r s a1} (hl : sub [.od, .power, .gate, .log, .video, .slices, .acts] L = true) (h : Keep L r s) :
    Keep L r (State.quietRequest s a1) := by
  delta State.quietRequest
  extract_lets -merge -useContext x0
  have h1 : Keep L r x0 := State.put_keep (sub.trans rfl hl) (State.put_keep (sub.trans rfl hl) h)
  exact Keep.site h1 (State.applyQuiet_keep (sub.trans rfl hl) h1)


theorem State.dropSegments_keep {L r s a1} (hl : sub [.dict] L = true) (h : Keep L r s) :
    Keep L r (State.dropSegments s a1) := by
  delta State.dropSegments
  extract_lets -merge -useContext x0
  exact Keep.upd_dict (sub.trans rfl hl) h


theorem State.cancelOp_keep {L r s a1} (hl : sub [.od, .dict, .line, .gate, .log, .trust, .acts] L = true) (h : Keep L r s) :
    Keep L r (State.cancelOp s a1).1 := by
  delta State.cancelOp
  exact Keep.pite (Keep.pair (Keep.site (State.opEnd_keep (sub.trans rfl hl) (State.dropSegments_keep (sub.trans rfl hl) h)) h)) (Keep.pite (Keep.pair (Keep.site (State.collectEnd_keep (sub.trans rfl hl) (State.sendCollect_keep (sub.trans rfl hl) h)) h)) (Keep.pair h))


theorem State.action_keep {L r s a1 a2 a3} (hl : sub [.od, .dict, .mram, .fuses, .power, .clock, .mu, .line, .gate, .log, .trust, .video, .slices, .canopen, .mooring, .fio, .pair, .acts] L = true) (h : Keep L r s) :
    KeepO L r (State.action s a1 a2 a3) := by
  delta State.action
  extract_lets -merge -useContext x0 x1 x2 x3 x4 x5 x6 x7 x8
  unfold x3
  beta_reduce
  exact Keep.oite (Keep.osome (Keep.pair (Keep.site (State.commitRun_keep (sub.trans rfl hl) h) (State.discard_keep (sub.trans rfl hl) h)))) (Keep.oite (Keep.osome (Keep.pair (Keep.upd_dict (sub.trans rfl hl) h))) (Keep.oite (Keep.osome (Keep.pair (State.relay_keep (sub.trans rfl hl) h))) (Keep.oite (Keep.osome (Keep.pair (Keep.foldl (fun _ _ h9 => State.put_keep (sub.trans rfl hl) h9) h))) (Keep.oite (Keep.osome (Keep.pair (State.quietRequest_keep (sub.trans rfl hl) h))) (Keep.oite (Keep.osome (State.resetAsked_keep (sub.trans rfl hl) h)) (Keep.oite (Keep.osome (Keep.pite (Keep.pair h) (Keep.pair (State.scrubStart_keep (sub.trans rfl hl) h)))) (Keep.oite (Keep.osome (Keep.pair (State.trigEval_keep (sub.trans rfl hl) h))) (Keep.oite (Keep.osome (State.mdioQueue_keep (sub.trans rfl hl) h)) (Keep.oite (Keep.osome (Keep.pair (State.modeRequest_keep (sub.trans rfl hl) h))) (Keep.oite (Keep.osome (Keep.pair (State.put_keep (sub.trans rfl hl) h))) (Keep.oite (Keep.osome (Keep.pair h)) (Keep.oite (Keep.osome (State.selectionRequest_keep (sub.trans rfl hl) h)) (Keep.oite (Keep.osome (Keep.pair (State.arm_keep (sub.trans rfl hl) h))) (Keep.oite (Keep.osome (Keep.pair (State.setFifo_keep (sub.trans rfl hl) h))) (Keep.oite (Keep.osome (State.cciQueue_keep (sub.trans rfl hl) h)) (Keep.oite (Keep.osome (Keep.pair (Keep.site (State.resyncRequest_keep (sub.trans rfl hl) h) h))) (Keep.oite (Keep.osome (Keep.pair (State.exchangeRequest_keep (sub.trans rfl hl) h))) (Keep.oite (Keep.osome (State.ownerRoot_keep (sub.trans rfl hl) h)) (Keep.oite (Keep.osome (State.claimCommand_keep (sub.trans rfl hl) h)) (Keep.oite (Keep.osome (State.release_keep (sub.trans rfl hl) h)) (Keep.oite (Keep.osome (State.writeThen_keep (sub.trans rfl hl) h (fun _ h10 => State.flushCache_keep (sub.trans rfl hl) h10))) (Keep.oite (Keep.osome (State.writeThen_keep (sub.trans rfl hl) h (fun _ h11 => State.revoke_keep (sub.trans rfl hl) h11))) (Keep.oite (Keep.osome (Keep.pair h)) (Keep.oite (Keep.osome (Keep.pair (State.flushCache_keep (sub.trans rfl hl) h))) (Keep.oite (Keep.osome ((by
   split
   · exact State.imageLoad_keep (sub.trans rfl hl) h
   · exact Keep.pair h))) (Keep.oite (Keep.osome (State.selectImage_keep (sub.trans rfl hl) h)) (Keep.oite (Keep.osome (State.advanceFloor_keep (sub.trans rfl hl) h)) (Keep.oite (Keep.osome ((by
   split
   · exact State.bundleWrite_keep (sub.trans rfl hl) h
   · exact Keep.pair (State.put_keep (sub.trans rfl hl) h)))) (Keep.oite (Keep.osome (State.closeArm_keep (sub.trans rfl hl) h)) (Keep.oite (Keep.osome ((by
   split
   · exact State.closeConfirm_keep (sub.trans rfl hl) h
   · exact Keep.pair h))) (Keep.oite (Keep.osome (State.debugUnlock_keep (sub.trans rfl hl) h)) (Keep.oite (Keep.osome (State.restoreRequest_keep (sub.trans rfl hl) h)) (Keep.oite (Keep.osome (State.command_keep (sub.trans rfl hl) h)) (Keep.oite (Keep.osome (Keep.pair (State.clearLatched_keep (sub.trans rfl hl) h))) (Keep.oite (Keep.osome (Keep.pair (State.recoveryRequest_keep (sub.trans rfl hl) h))) (Keep.oite (Keep.osome (Keep.pair (State.startDetection_keep (sub.trans rfl hl) h))) (Keep.oite (Keep.oite (Keep.osome (Keep.pite (State.txRequest_keep (sub.trans rfl hl) h) (Keep.pair (State.txAbort_keep (sub.trans rfl hl) h)))) (Keep.oite (Keep.osome (Keep.pair h)) (Keep.onone))) (Keep.oite (Keep.osome (Keep.pair (State.rxRelease_keep (sub.trans rfl hl) h))) (Keep.oite (Keep.osome (State.writeThen_keep (sub.trans rfl hl) h (fun _ h12 => State.judgeVotes_keep (sub.trans rfl hl) h12))) (Keep.oite (Keep.osome (State.clearToken_keep (sub.trans rfl hl) h)) (Keep.oite (Keep.osome (State.startCollection_keep (sub.trans rfl hl) h)) (Keep.oite (Keep.osome (State.cancelOp_keep (sub.trans rfl hl) h)) (Keep.onone)))))))))))))))))))))))))))))))))))))))))))


theorem State.performWrite_keep {L r s a1 a2 a3} (hl : sub [.od, .dict, .mram, .fuses, .power, .clock, .mu, .line, .gate, .log, .trust, .video, .slices, .canopen, .mooring, .fio, .pair, .acts] L = true) (h : Keep L r s) :
    Keep L r (State.performWrite s a1 a2 a3).1 := by
  delta State.performWrite
  extract_lets -merge -useContext x0
  exact Keep.pite (Keep.pair h) ((by
   split
   · exact (State.action_keep (sub.trans rfl hl) h  _ (by assumption))
   · exact Keep.pite (Keep.pair h) (Keep.pair (State.plainWrite_keep (sub.trans rfl hl) h))))


theorem State.writeEntry_keep {L r s a1 a2 a3} (hl : sub [.od, .dict, .mram, .fuses, .power, .clock, .mu, .line, .host, .gate, .log, .trust, .video, .slices, .canopen, .mooring, .fio, .pair, .lock, .pairing, .unitA, .acts] L = true) (h : Keep L r s) :
    Keep L r (State.writeEntry s a1 a2 a3) := by
  delta State.writeEntry
  exact State.takeDue_keep (sub.trans rfl hl) (State.asInput_keep (sub.trans rfl hl) h (fun _ h0 => (by
 extract_lets -merge -useContext x1
 have h2 : Keep L r x1.1 := State.performWrite_keep (sub.trans rfl hl) h0
 exact State.respond_keep (sub.trans rfl hl) (Keep.site (State.dropSegments_keep (sub.trans rfl hl) h2) h2))))


theorem execCounterClear_keep {L r a0 a1 s} (hl : sub [.od, .dict, .mram, .fuses, .power, .clock, .mu, .line, .host, .gate, .log, .trust, .video, .slices, .canopen, .mooring, .fio, .pair, .lock, .pairing, .unitA, .acts] L = true) (h : Keep L r s) :
    Ends L r (execCounterClear a0 a1 s) := by
  delta execCounterClear
  exact Keep.rnext (State.served_keep (sub.trans rfl hl) h (fun _ h0 => State.writeEntry_keep (sub.trans rfl hl) h0))


theorem execOperationCancel_keep {L r a0 a1 a2 s} (hl : sub [.od, .dict, .line, .host, .gate, .log, .trust, .pair, .acts] L = true) (h : Keep L r s) :
    Ends L r (execOperationCancel a0 a1 a2 s) := by
  delta execOperationCancel
  exact Keep.rnext (State.served_keep (sub.trans rfl hl) h (fun _ h0 => State.accessAct_keep (sub.trans rfl hl) h0 (fun _ h1 => State.cancelOp_keep (sub.trans rfl hl) h1)))


theorem execQuietRequest_keep {L r a0 a1 s} (hl : sub [.od, .power, .host, .gate, .log, .video, .slices, .pair, .acts] L = true) (h : Keep L r s) :
    Ends L r (execQuietRequest a0 a1 s) := by
  delta execQuietRequest
  exact Keep.rnext (State.served_keep (sub.trans rfl hl) h (fun _ h0 => State.accessAct_keep (sub.trans rfl hl) h0 (fun _ h1 => Keep.pair (State.quietRequest_keep (sub.trans rfl hl) h1))))


theorem execRelayRequest_keep {L r a0 a1 s} (hl : sub [.od, .dict, .line, .host, .gate, .log, .pair, .acts] L = true) (h : Keep L r s) :
    Ends L r (execRelayRequest a0 a1 s) := by
  delta execRelayRequest
  exact Keep.rnext (State.served_keep (sub.trans rfl hl) h (fun _ h0 => State.accessAct_keep (sub.trans rfl hl) h0 (fun _ h1 => Keep.pair (State.relay_keep (sub.trans rfl hl) h1))))


theorem State.segmentIdle_keep {L r s a1 a2 a3} (hl : sub [.od, .dict, .gate, .log, .acts] L = true) (h : Keep L r s) :
    Keep L r (State.segmentIdle s a1 a2 a3) := by
  delta State.segmentIdle
  extract_lets -merge -useContext x0 x1 x2 x3 x5
  have h4 : Keep L r x3 := Keep.upd_dict (sub.trans rfl hl) h
  exact Keep.site (Keep.site (State.opEnd_keep (sub.trans rfl hl) h4) h4) (Keep.upd_dict (sub.trans rfl hl) h)


theorem execSegmentTimeout_keep {L r a0 a1 s} (hl : sub [.od, .dict, .gate, .log, .acts] L = true) (h : Keep L r s) :
    Ends L r (execSegmentTimeout a0 a1 s) := by
  delta execSegmentTimeout
  exact Keep.rnext (State.served_keep (sub.trans rfl hl) h (fun _ h0 => State.segmentIdle_keep (sub.trans rfl hl) h0))


theorem execStoredEntryWrite_keep {L r s} (hl : sub [.mram] L = true) (h : Keep L r s) :
    Ends L r (execStoredEntryWrite s) := by
  delta execStoredEntryWrite
  exact Keep.rnext (State.served_keep (sub.trans rfl hl) h (fun _ h0 => Keep.site h0 (State.storeStored_keep (sub.trans rfl hl) h0)))


theorem State.endSpent_keep {L r s} (hl : sub [.od, .dict, .trust] L = true) (h : Keep L r s) :
    Keep L r (State.endSpent s) := by
  delta State.endSpent
  extract_lets -merge -useContext x0
  exact Keep.foldl (fun _ _ h1 => Keep.site (State.endSession_keep (sub.trans rfl hl) h1) h1) h


theorem State.loadProgress_keep {L r s a1 a2 a3} (hl : sub [.od] L = true) (h : Keep L r s) :
    Keep L r (State.loadProgress s a1 a2 a3) := by
  delta State.loadProgress
  exact Keep.site (State.opProgress_keep (sub.trans rfl hl) h) h


theorem State.readEntry_keep {L r s a1 a2 a3 a4} (hl : sub [.od, .dict, .host, .gate, .log, .acts] L = true) (h : Keep L r s) :
    Keep L r (State.readEntry s a1 a2 a3 a4) := by
  delta State.readEntry
  extract_lets -merge -useContext x0 x1 x2 x3 x4 x5
  exact Keep.site h (Keep.site (State.respond_keep (sub.trans rfl hl) h) (Keep.site (State.respond_keep (sub.trans rfl hl) h) (Keep.site (State.respond_keep (sub.trans rfl hl) (Keep.upd_dict (sub.trans rfl hl) h)) ((by
   split
   · exact State.respond_keep (sub.trans rfl hl) h
   · exact (by
     extract_lets -merge -useContext x6
     exact State.respond_keep (sub.trans rfl hl) (Keep.upd_dict (sub.trans rfl hl) h)))))))


theorem State.writeSegment_keep {L r s a1 a2 a3 a4 a5} (hl : sub [.od, .dict, .mram, .fuses, .power, .clock, .mu, .line, .host, .gate, .log, .trust, .video, .slices, .canopen, .mooring, .fio, .pair, .lock, .pairing, .unitA, .acts] L = true) (h : Keep L r s) :
    Keep L r (State.writeSegment s a1 a2 a3 a4 a5) := by
  delta State.writeSegment
  extract_lets -merge -useContext x0 x1 x2 x4 x5 x6 x8 x10
  have h3 : Keep L r x2 := State.dropSegments_keep (sub.trans rfl hl) h
  have h7 : Keep L r x6 := Keep.upd_dict (sub.trans rfl hl) h3
  have h9 : Keep L r x8 := Keep.site (State.opStart_keep (sub.trans rfl hl) h7) h7
  exact Keep.site h (Keep.site (State.respond_keep (sub.trans rfl hl) h) (Keep.site (Keep.site (State.respond_keep (sub.trans rfl hl) h) (Keep.site (State.writeEntry_keep (sub.trans rfl hl) (State.dropSegments_keep (sub.trans rfl hl) h)) (State.respond_keep (sub.trans rfl hl) (State.loadProgress_keep (sub.trans rfl hl) h9)))) ((by
   split
   · exact State.respond_keep (sub.trans rfl hl) h
   · exact (by
     extract_lets -merge -useContext x11 x12 x13
     have h14 : Keep L r x13 := Keep.upd_dict (sub.trans rfl hl) h
     exact Keep.site (State.respond_keep (sub.trans rfl hl) h) (Keep.site (State.writeEntry_keep (sub.trans rfl hl) (State.dropSegments_keep (sub.trans rfl hl) h)) (State.respond_keep (sub.trans rfl hl) (State.loadProgress_keep (sub.trans rfl hl) h14))))))))


theorem State.bar0Read_keep {L r s a1} (hl : sub [.od, .gate, .acts] L = true) (h : Keep L r s) :
    Keep L r (State.bar0Read s a1).1 := by
  delta State.bar0Read
  extract_lets -merge -useContext x0
  exact Keep.pite (Keep.pair h) (Keep.pite (Keep.pair h) (Keep.pite (Keep.pair h) (Keep.pite (Keep.pair h) (Keep.pite (Keep.pair h) (Keep.pite (Keep.pair h) (Keep.pite (Keep.pair h) (Keep.pite (Keep.pair h) (Keep.pite (Keep.pair h) (Keep.pite (Keep.pair h) (Keep.pite (Keep.pair h) (Keep.pite (Keep.pair h) (Keep.pite (Keep.pair h) (Keep.pite (Keep.pair h) (Keep.pite (Keep.pair h) (Keep.pite (State.gateRead_keep (sub.trans rfl hl) h) (Keep.pite (Keep.pair h) (Keep.pair h)))))))))))))))))


theorem State.hostRead_keep {L r s a1} (hl : sub [.od, .gate, .acts] L = true) (h : Keep L r s) :
    Keep L r (State.hostRead s a1) := by
  delta State.hostRead
  extract_lets -merge -useContext x0
  have h1 : Keep L r x0.1 := State.bar0Read_keep (sub.trans rfl hl) h
  exact Keep.site (State.hostAnswer_keep (sub.trans rfl hl) h1) h


theorem execDictRead_keep {L r a0 a1 s} (hl : sub [.od, .dict, .host, .gate, .log, .acts] L = true) (h : Keep L r s) :
    Ends L r (execDictRead a0 a1 s) := by
  delta execDictRead
  exact Keep.rnext ((by
 split
 · exact State.served_keep (sub.trans rfl hl) h (fun _ h0 => State.readEntry_keep (sub.trans rfl hl) h0)
 · exact State.served_keep (sub.trans rfl hl) h (fun _ h1 => State.readEntry_keep (sub.trans rfl hl) h1)
 · exact State.hostRead_keep (sub.trans rfl hl) h))


theorem State.clientWrite_keep {L r s a1 a2 a3 a4} (hl : sub [.od, .dict, .mram, .fuses, .power, .clock, .mu, .line, .host, .gate, .log, .trust, .video, .slices, .canopen, .mooring, .fio, .pair, .lock, .pairing, .unitA, .acts] L = true) (h : Keep L r s) (hf5 : ∀ y0, Keep L r y0 → Keep L r (a4 y0)) :
    Keep L r (State.clientWrite s a1 a2 a3 a4) := by
  delta State.clientWrite
  extract_lets -merge -useContext x0
  exact Keep.site (Keep.site h (Keep.site (State.respond_keep (sub.trans rfl hl) h) (hf5 _ (State.putBytes_keep (sub.trans rfl hl) h)))) (State.writeEntry_keep (sub.trans rfl hl) h)


theorem State.runOp_keep {L r s a1 a2} (hl : sub [.od, .dict, .mram, .fuses, .power, .clock, .mu, .line, .host, .gate, .log, .trust, .video, .slices, .canopen, .mooring, .fio, .pair, .lock, .pairing, .unitA, .acts] L = true) (h : Keep L r s) :
    Keep L r (State.runOp s a1 a2) := by
  delta State.runOp
  split
  · exact State.readEntry_keep (sub.trans rfl hl) h
  · exact State.writeEntry_keep (sub.trans rfl hl) h
  · exact State.writeSegment_keep (sub.trans rfl hl) h


theorem State.sessionRequest_keep {L r s a1 a2 a3 a4 a5} (hl : sub [.od, .dict, .mram, .fuses, .power, .clock, .mu, .line, .host, .gate, .log, .trust, .video, .slices, .canopen, .mooring, .fio, .pair, .lock, .pairing, .unitA, .acts] L = true) (h : Keep L r s) :
    Keep L r (State.sessionRequest s a1 a2 a3 a4 a5) := by
  delta State.sessionRequest
  extract_lets -merge -useContext x0 x2
  have h1 : Keep L r x0 := State.endSpent_keep (sub.trans rfl hl) h
  exact (by
   split
   · exact State.dropMessage_keep (sub.trans rfl hl) h1
   · exact (by
     extract_lets -merge -useContext x3 x4
     have h5 : Keep L r x4 := Keep.upd_trust (sub.trans rfl hl) h1
     exact Keep.site (State.dropMessage_keep (sub.trans rfl hl) h1) (State.runOp_keep (sub.trans rfl hl) h5)))


theorem State.sessionMsg_keep {L r s a1 a2} (hl : sub [.od, .dict, .mram, .fuses, .power, .clock, .mu, .line, .host, .gate, .log, .trust, .video, .slices, .canopen, .mooring, .fio, .pair, .lock, .pairing, .unitA, .acts] L = true) (h : Keep L r s) :
    Keep L r (State.sessionMsg s a1 a2) := by
  delta State.sessionMsg
  split
  · exact State.helloClient_keep (sub.trans rfl hl) h
  · exact State.finishClient_keep (sub.trans rfl hl) h
  · exact State.sessionRequest_keep (sub.trans rfl hl) h
  · exact State.sessionClose_keep (sub.trans rfl hl) h


theorem State.sessionBytes_keep {L r s a1 a2} (hl : sub [.od, .dict, .mram, .fuses, .power, .clock, .mu, .line, .host, .gate, .log, .trust, .video, .slices, .canopen, .mooring, .fio, .pair, .lock, .pairing, .unitA, .acts] L = true) (h : Keep L r s) :
    Keep L r (State.sessionBytes s a1 a2) := by
  delta State.sessionBytes
  split
  · exact State.sessionMsg_keep (sub.trans rfl hl) (State.tookFree_keep (sub.trans rfl hl) h)
  · exact State.dropMessage_keep (sub.trans rfl hl) (State.tookFree_keep (sub.trans rfl hl) h)


theorem State.anyWrite_keep {L r s a1 a2 a3} (hl : sub [.od, .dict, .mram, .fuses, .power, .clock, .mu, .line, .host, .gate, .log, .trust, .video, .slices, .canopen, .mooring, .fio, .pair, .lock, .pairing, .unitA, .acts] L = true) (h : Keep L r s) :
    Keep L r (State.anyWrite s a1 a2 a3) := by
  delta State.anyWrite
  exact State.clientWrite_keep (sub.trans rfl hl) h (fun _ h0 => State.sessionBytes_keep (sub.trans rfl hl) h0)


theorem State.plainRequestWrite_keep {L r s a1 a2 a3} (hl : sub [.od, .dict, .mram, .fuses, .power, .clock, .mu, .line, .host, .gate, .log, .trust, .video, .slices, .canopen, .mooring, .fio, .pair, .lock, .pairing, .unitA, .acts] L = true) (h : Keep L r s) :
    Keep L r (State.plainRequestWrite s a1 a2 a3) := by
  delta State.plainRequestWrite
  extract_lets -merge -useContext x0
  exact Keep.site (State.anyWrite_keep (sub.trans rfl hl) h) ((by
   split
   · exact State.writeSegment_keep (sub.trans rfl hl) h
   · exact State.respond_keep (sub.trans rfl hl) h))


theorem State.plainRequest_keep {L r s a1} (hl : sub [.od, .dict, .mram, .fuses, .power, .clock, .mu, .line, .host, .gate, .log, .trust, .video, .slices, .canopen, .mooring, .fio, .pair, .lock, .pairing, .unitA, .acts] L = true) (h : Keep L r s) :
    Keep L r (State.plainRequest s a1) := by
  delta State.plainRequest
  extract_lets -merge -useContext x0 x1
  exact Keep.site (State.respond_keep (sub.trans rfl hl) h) (Keep.site (State.readEntry_keep (sub.trans rfl hl) h) (Keep.site (State.plainRequestWrite_keep (sub.trans rfl hl) h) (State.respond_keep (sub.trans rfl hl) h)))


theorem State.relayMessage_keep {L r s a1} (hl : sub [.od, .dict, .line, .host, .gate, .log, .acts] L = true) (h : Keep L r s) :
    Keep L r (State.relayMessage s a1) := by
  delta State.relayMessage
  extract_lets -merge -useContext x0 x1
  have h2 : Keep L r x1.1 := State.relay_keep (sub.trans rfl hl) h
  exact Keep.site (State.respond_keep (sub.trans rfl hl) h) (Keep.site h2 (State.respond_keep (sub.trans rfl hl) h2))


theorem State.mbExecute_keep {L r s a1} (hl : sub [.od, .dict, .mram, .fuses, .power, .clock, .mu, .line, .host, .gate, .log, .trust, .video, .slices, .canopen, .mooring, .fio, .pair, .lock, .pairing, .unitA, .acts] L = true) (h : Keep L r s) :
    Keep L r (State.mbExecute s a1) := by
  delta State.mbExecute
  extract_lets -merge -useContext x0 x1
  exact Keep.site (Keep.site ((by
   split
   · exact State.respond_keep (sub.trans rfl hl) (State.imageLoad_keep (sub.trans rfl hl) h)
   · exact State.respond_keep (sub.trans rfl hl) h)) (State.respond_keep (sub.trans rfl hl) h)) (Keep.site (State.plainRequest_keep (sub.trans rfl hl) h) (Keep.site (State.sessionBytes_keep (sub.trans rfl hl) h) (State.relayMessage_keep (sub.trans rfl hl) h)))


theorem State.mbCommand_keep {L r s a1} (hl : sub [.od, .dict, .mram, .fuses, .power, .clock, .mu, .line, .host, .gate, .log, .trust, .video, .slices, .canopen, .mooring, .fio, .pair, .lock, .pairing, .unitA, .acts] L = true) (h : Keep L r s) :
    Keep L r (State.mbCommand s a1) := by
  delta State.mbCommand
  extract_lets -merge -useContext x0 x2
  have h1 : Keep L r x0 := Keep.site (State.mbAbort_keep (sub.trans rfl hl) h) h
  have h3 : Keep L r x2.1 := State.mbChunk_keep (sub.trans rfl hl) h1
  exact Keep.site ((by
   split
   · exact State.mbExecute_keep (sub.trans rfl hl) h3
   · exact h3)) h1


theorem State.bar0Store_keep {L r s a1 a2} (hl : sub [.od, .dict, .mram, .fuses, .power, .clock, .mu, .line, .host, .gate, .log, .trust, .video, .slices, .canopen, .mooring, .fio, .pair, .lock, .pairing, .unitA, .acts] L = true) (h : Keep L r s) :
    Keep L r (State.bar0Store s a1 a2) := by
  delta State.bar0Store
  extract_lets -merge -useContext x0 x1
  exact Keep.site (Keep.site (Keep.upd_host (sub.trans rfl hl) h (fun w => by first | exact w | rfl | exact memWriteAll_wf w _ _)) h) (Keep.site (Keep.site (State.mbCommand_keep (sub.trans rfl hl) h) h) (Keep.site (Keep.site (State.mbRack_keep (sub.trans rfl hl) h) h) (Keep.site (State.bar0Write_keep (sub.trans rfl hl) h) (Keep.site h (Keep.site (State.imageWrite_keep (sub.trans rfl hl) h) (Keep.site (Keep.site (State.lockFence_keep (sub.trans rfl hl) h) h) (Keep.site (Keep.site (State.lockPop_keep (sub.trans rfl hl) h) h) h)))))))


theorem State.hostWrite_keep {L r s a1 a2 a3} (hl : sub [.od, .dict, .mram, .fuses, .power, .clock, .mu, .line, .host, .gate, .log, .trust, .video, .slices, .canopen, .mooring, .fio, .pair, .lock, .pairing, .unitA, .acts] L = true) (h : Keep L r s) :
    Keep L r (State.hostWrite s a1 a2 a3) := by
  delta State.hostWrite
  exact Keep.site h (Keep.site (State.hostIgnored_keep (sub.trans rfl hl) h) (State.bar0Store_keep (sub.trans rfl hl) h))


theorem execGo_keep {L r a0 s} (hl : sub [.od, .dict, .mram, .fuses, .power, .clock, .mu, .line, .host, .gate, .log, .trust, .video, .slices, .canopen, .mooring, .fio, .pair, .lock, .pairing, .unitA, .acts] L = true) (h : Keep L r s) :
    Ends L r (execGo a0 s) := by
  delta execGo
  exact Keep.rnext (State.hostWrite_keep (sub.trans rfl hl) h)


theorem State.gatewayWrite_keep {L r s a1 a2 a3 a4} (hl : sub [.od, .clock, .gate, .log, .acts] L = true) (h : Keep L r s) :
    Keep L r (State.gatewayWrite s a1 a2 a3 a4).1 := by
  delta State.gatewayWrite
  exact Keep.pite (Keep.pair h) (Keep.pite (Keep.pair (Keep.site (State.setVal_keep (sub.trans rfl hl) h) h)) (Keep.pair (State.relationWrite_keep (sub.trans rfl hl) h)))


theorem State.nodeWrite_keep {L r s a1 a2 a3} (hl : sub [.od, .dict, .clock, .line, .gate, .log, .trust, .acts] L = true) (h : Keep L r s) :
    Keep L r (State.nodeWrite s a1 a2 a3).1 := by
  delta State.nodeWrite
  extract_lets -merge -useContext x0
  exact Keep.pite (State.gatewayWrite_keep (sub.trans rfl hl) h) (Keep.pite (State.gatewayWrite_keep (sub.trans rfl hl) h) (Keep.pite (Keep.pair (Keep.site (State.modeRequest_keep (sub.trans rfl hl) h) h)) (Keep.pite (Keep.pite (Keep.pair (Keep.site (State.selectionRequest_keep (sub.trans rfl hl) h) h)) (Keep.pite (Keep.pair (State.ntAnnounce_keep (sub.trans rfl hl) h)) (Keep.pair h))) (Keep.pair h))))


theorem State.nodeReply_keep {L r s a1 a2} (hl : sub [.od, .dict, .line, .host, .gate, .log, .trust, .acts] L = true) (h : Keep L r s) :
    Keep L r (State.nodeReply s a1 a2) := by
  delta State.nodeReply
  exact State.sendNode_keep (sub.trans rfl hl) (State.respond_keep (sub.trans rfl hl) h)


theorem State.relayAnswer_keep {L r s a1} (hl : sub [.od, .dict, .line] L = true) (h : Keep L r s) :
    Keep L r (State.relayAnswer s a1) := by
  delta State.relayAnswer
  exact State.tookFree_keep (sub.trans rfl hl) (State.sendChunks_keep (sub.trans rfl hl) h)


theorem State.relayedMessage_keep {L r s a1 a2} (hl : sub [.od, .dict, .mram, .fuses, .power, .clock, .mu, .line, .host, .gate, .log, .trust, .video, .slices, .canopen, .mooring, .fio, .pair, .lock, .pairing, .unitA, .acts] L = true) (h : Keep L r s) :
    Keep L r (State.relayedMessage s a1 a2) := by
  delta State.relayedMessage
  extract_lets -merge -useContext x0
  have h1 : Keep L r x0 := State.sessionBytes_keep (sub.trans rfl hl) h
  exact Keep.site (State.relayAnswer_keep (sub.trans rfl hl) h1) h1


theorem State.relayReply_keep {L r s a1 a2 a3} (hl : sub [.od, .dict, .host, .gate, .log, .acts] L = true) (h : Keep L r s) :
    Keep L r (State.relayReply s a1 a2 a3) := by
  delta State.relayReply
  extract_lets -merge -useContext x0
  exact (by
   split
   · exact h
   · exact (by
     extract_lets -merge -useContext x1 x3
     have h2 : Keep L r x1 := Keep.upd_dict (sub.trans rfl hl) h
     exact Keep.site (State.answer_keep (sub.trans rfl hl) h2) (Keep.upd_dict (sub.trans rfl hl) h2)))


theorem State.mgmtMessage_keep {L r s a1 a2} (hl : sub [.od, .dict, .mram, .fuses, .power, .clock, .mu, .line, .host, .gate, .log, .trust, .video, .slices, .canopen, .mooring, .fio, .pair, .lock, .pairing, .unitA, .acts] L = true) (h : Keep L r s) :
    Keep L r (State.mgmtMessage s a1 a2) := by
  delta State.mgmtMessage
  exact Keep.site (State.dropMessage_keep (sub.trans rfl hl) h) ((by
 split
 · exact (by
   extract_lets -merge -useContext x0
   have h1 : Keep L r x0.1 := State.nodeWrite_keep (sub.trans rfl hl) h
   exact State.nodeReply_keep (sub.trans rfl hl) h1)
 · exact State.nodeReply_keep (sub.trans rfl hl) h
 · exact Keep.site (State.viewAnswer_keep (sub.trans rfl hl) h) h
 · exact State.relayedMessage_keep (sub.trans rfl hl) h
 · exact State.relayReply_keep (sub.trans rfl hl) h))


theorem State.mgmtTake_keep {L r s a1} (hl : sub [.od, .dict, .mram, .fuses, .power, .clock, .mu, .line, .host, .gate, .log, .trust, .video, .slices, .canopen, .mooring, .fio, .pair, .lock, .pairing, .unitA, .acts] L = true) (h : Keep L r s) :
    Keep L r (State.mgmtTake s a1) := by
  delta State.mgmtTake
  extract_lets -merge -useContext x0 x1 x2 x3 x4 x6 x7 x8 x9 x10 x11
  have h5 : Keep L r x4 := Keep.upd_dict (sub.trans rfl hl) h
  exact Keep.site h (Keep.site h5 (Keep.site (State.mgmtMessage_keep (sub.trans rfl hl) (Keep.upd_dict (sub.trans rfl hl) h5)) (Keep.upd_dict (sub.trans rfl hl) h5)))


theorem State.mgmtFrame_keep {L r s a1} (hl : sub [.od, .dict, .mram, .fuses, .power, .clock, .mu, .line, .host, .gate, .log, .trust, .video, .slices, .canopen, .mooring, .fio, .pair, .lock, .pairing, .unitA, .acts] L = true) (h : Keep L r s) :
    Keep L r (State.mgmtFrame s a1) := by
  delta State.mgmtFrame
  extract_lets -merge -useContext x0
  exact Keep.site (State.replicate_keep (sub.trans rfl hl) h (fun _ h1 => State.mgmtTake_keep (sub.trans rfl hl) h1)) (Keep.site (State.toPartner_keep (sub.trans rfl hl) h) h)


theorem execMgmtFrameReceived_keep {L r a0 s} (hl : sub [.od, .dict, .mram, .fuses, .power, .clock, .mu, .line, .host, .gate, .log, .trust, .video, .slices, .canopen, .mooring, .fio, .pair, .lock, .pairing, .unitA, .acts] L = true) (h : Keep L r s) :
    Ends L r (execMgmtFrameReceived a0 s) := by
  delta execMgmtFrameReceived
  exact Keep.rnext (State.served_keep (sub.trans rfl hl) h (fun _ h0 => State.mgmtFrame_keep (sub.trans rfl hl) h0))


theorem execMgmtReassemblyTimeout_keep {L r a0 a1 s} (hl : sub [.dict] L = true) (h : Keep L r s) :
    Ends L r (execMgmtReassemblyTimeout a0 a1 s) := by
  delta execMgmtReassemblyTimeout
  exact Keep.rnext (State.served_keep (sub.trans rfl hl) h (fun _ h0 => (by
 extract_lets -merge -useContext x1
 exact Keep.upd_dict (sub.trans rfl hl) h0)))


theorem State.relayTimeout_keep {L r s a1} (hl : sub [.od, .dict, .host, .gate, .log, .acts] L = true) (h : Keep L r s) :
    Keep L r (State.relayTimeout s a1) := by
  delta State.relayTimeout
  extract_lets -merge -useContext x0
  exact (by
   split
   · exact h
   · exact (by
     extract_lets -merge -useContext x1 x3
     have h2 : Keep L r x1 := Keep.upd_dict (sub.trans rfl hl) h
     exact Keep.site (State.respond_keep (sub.trans rfl hl) h2) (Keep.upd_dict (sub.trans rfl hl) h2)))


theorem execMgmtResponseTimeout_keep {L r a0 s} (hl : sub [.od, .dict, .host, .gate, .log, .acts] L = true) (h : Keep L r s) :
    Ends L r (execMgmtResponseTimeout a0 s) := by
  delta execMgmtResponseTimeout
  exact Keep.rnext (State.served_keep (sub.trans rfl hl) h (fun _ h0 => State.relayTimeout_keep (sub.trans rfl hl) h0))


theorem execRegisterWrite_keep {L r a0 s} (hl : sub [.od, .dict, .mram, .fuses, .power, .clock, .mu, .line, .host, .gate, .log, .trust, .video, .slices, .canopen, .mooring, .fio, .pair, .lock, .pairing, .unitA, .acts] L = true) (h : Keep L r s) :
    Ends L r (execRegisterWrite a0 s) := by
  delta execRegisterWrite
  exact Keep.rnext ((by
 split
 · exact State.served_keep (sub.trans rfl hl) h (fun _ h0 => State.anyWrite_keep (sub.trans rfl hl) h0)
 · exact State.served_keep (sub.trans rfl hl) h (fun _ h1 => State.writeSegment_keep (sub.trans rfl hl) h1)
 · exact State.hostWrite_keep (sub.trans rfl hl) h
 · exact Keep.site (State.hostIgnored_keep (sub.trans rfl hl) h) h))


theorem execSdoTimeout_keep {L r s} (hl : sub [.od, .dict, .canopen, .acts] L = true) (h : Keep L r s) :
    Ends L r (execSdoTimeout s) := by
  delta execSdoTimeout
  exact Keep.rnext (State.served_keep (sub.trans rfl hl) h (fun _ h0 => State.sdoAbort_keep (sub.trans rfl hl) h0))


theorem execSessionRequest_keep {L r a0 a1 a2 a3 a4 s} (hl : sub [.od, .dict, .mram, .fuses, .power, .clock, .mu, .line, .host, .gate, .log, .trust, .video, .slices, .canopen, .mooring, .fio, .pair, .lock, .pairing, .unitA, .acts] L = true) (h : Keep L r s) :
    Ends L r (execSessionRequest a0 a1 a2 a3 a4 s) := by
  delta execSessionRequest
  exact Keep.rnext (State.served_keep (sub.trans rfl hl) h (fun _ h0 => State.sessionRequest_keep (sub.trans rfl hl) h0))


theorem State.setTpdo_keep {L r s a1 a2} (hl : sub [.canopen] L = true) (h : Keep L r s) :
    Keep L r (State.setTpdo s a1 a2) := by
  delta State.setTpdo
  extract_lets -merge -useContext x0
  exact Keep.upd_canopen (sub.trans rfl hl) h


theorem State.sendTpdo_keep {L r s a1} (hl : sub [.od, .canopen, .acts] L = true) (h : Keep L r s) :
    Keep L r (State.sendTpdo s a1) := by
  delta State.sendTpdo
  extract_lets -merge -useContext x0 x1
  have h2 : Keep L r x1 := State.setTpdo_keep (sub.trans rfl hl) h
  exact Keep.site (State.queueFrame_keep (sub.trans rfl hl) h2) h2


theorem State.syncTpdo_keep {L r s a1} (hl : sub [.od, .canopen, .acts] L = true) (h : Keep L r s) :
    Keep L r (State.syncTpdo s a1) := by
  delta State.syncTpdo
  extract_lets -merge -useContext x0 x1 x2
  exact Keep.site h (Keep.site (Keep.site (State.sendTpdo_keep (sub.trans rfl hl) h) h) (Keep.site (Keep.site (State.sendTpdo_keep (sub.trans rfl hl) h) h) (Keep.site (State.sendTpdo_keep (sub.trans rfl hl) h) (State.setTpdo_keep (sub.trans rfl hl) h))))


theorem State.writeAll_keep {L r a0 s} (hl : sub [.od, .dict, .mram, .fuses, .power, .clock, .mu, .line, .gate, .log, .trust, .video, .slices, .canopen, .mooring, .fio, .pair, .acts] L = true) (h : Keep L r s) :
    Keep L r (State.writeAll a0 s).1 := by
  induction a0 generalizing s with
  | nil => exact h
  | cons e t ih =>
    unfold State.writeAll
    have hp := State.performWrite_keep (a1 := { path := .rpdo }) (a2 := e.1) (a3 := e.2) hl h
    simp only
    exact Keep.pite (ih hp) hp


theorem State.applyRpdo_keep {L r s a1 a2} (hl : sub [.od, .dict, .mram, .fuses, .power, .clock, .mu, .line, .gate, .log, .trust, .video, .slices, .canopen, .mooring, .fio, .pair, .acts] L = true) (h : Keep L r s) :
    Keep L r (State.applyRpdo s a1 a2) := by
  delta State.applyRpdo
  extract_lets -merge -useContext x0 x2
  have h1 : Keep L r x0.1 := State.writeAll_keep (sub.trans rfl hl) h
  have h3 : Keep L r x2 := State.bump_keep (sub.trans rfl hl) h
  exact Keep.site (State.settle_keep (sub.trans rfl hl) h1) (Keep.site (State.trustRefuse_keep (sub.trans rfl hl) h3) h3)


theorem State.syncFrame_keep {L r s a1} (hl : sub [.od, .dict, .mram, .fuses, .power, .clock, .mu, .line, .gate, .log, .trust, .video, .slices, .canopen, .mooring, .fio, .pair, .acts] L = true) (h : Keep L r s) :
    Keep L r (State.syncFrame s a1) := by
  delta State.syncFrame
  extract_lets -merge -useContext x0 x1 x2 x4 x5 x7 x9 x10 x11
  have h3 : Keep L r x2 := State.bump_keep (sub.trans rfl hl) h
  have h6 : Keep L r x5 := Keep.upd_canopen (sub.trans rfl hl) h3
  have h8 : Keep L r x7 := Keep.foldl (fun _ _ h14 => State.syncTpdo_keep (sub.trans rfl hl) h14) h6
  have h12 : Keep L r x11 := Keep.upd_canopen (sub.trans rfl hl) h8
  exact Keep.site h (Keep.site (State.emcy_keep (sub.trans rfl hl) h) (Keep.site (Keep.foldl (fun _ _ h13 => State.applyRpdo_keep (sub.trans rfl hl) h13) h12) h6))


theorem State.rpdoReceived_keep {L r s a1 a2} (hl : sub [.od, .dict, .mram, .fuses, .power, .clock, .mu, .line, .gate, .log, .trust, .video, .slices, .canopen, .mooring, .fio, .pair, .acts] L = true) (h : Keep L r s) :
    Keep L r (State.rpdoReceived s a1 a2) := by
  delta State.rpdoReceived
  extract_lets -merge -useContext x0 x1 x2 x3 x5 x7
  have h4 : Keep L r x3 := Keep.site h (Keep.upd_canopen (sub.trans rfl hl) h)
  have h6 : Keep L r x5 := Keep.site (State.emcy_keep (sub.trans rfl hl) h4) h4
  exact Keep.site h (Keep.site (State.emcy_keep (sub.trans rfl hl) (State.bump_keep (sub.trans rfl hl) h4)) (Keep.site (Keep.upd_canopen (sub.trans rfl hl) h6) (State.applyRpdo_keep (sub.trans rfl hl) h6)))


theorem State.consume_keep {L r s a1} (hl : sub [.od, .dict, .mram, .fuses, .power, .clock, .mu, .line, .gate, .log, .trust, .video, .slices, .canopen, .mooring, .fio, .pair, .acts] L = true) (h : Keep L r s) :
    Keep L r (State.consume s a1) := by
  delta State.consume
  extract_lets -merge -useContext x0 x1 x3
  have h2 : Keep L r x1 := Keep.site h (Keep.site (Keep.site (State.nmt_keep (sub.trans rfl hl) h) h) (Keep.site (State.heartbeat_keep (sub.trans rfl hl) h) h))
  have h4 : Keep L r x3 := Keep.site (State.syncFrame_keep (sub.trans rfl hl) h2) h2
  exact Keep.site h (Keep.foldl (fun _ _ h5 => Keep.site (State.rpdoReceived_keep (sub.trans rfl hl) h5) h5) h4)


theorem State.canIn_keep {L r s a1 a2 a3} (hl : sub [.od, .dict, .mram, .fuses, .power, .clock, .mu, .line, .gate, .log, .trust, .video, .slices, .canopen, .wake, .mooring, .fio, .pair, .acts] L = true) (h : Keep L r s) :
    Keep L r (State.canIn s a1 a2 a3) := by
  delta State.canIn
  extract_lets -merge -useContext x0
  have h1 : Keep L r x0 := State.canReceived_keep (sub.trans rfl hl) h
  exact Keep.site (Keep.site (State.consume_keep (sub.trans rfl hl) h1) h1) h


theorem execCanFrameReceived_keep {L r a0 a1 a2 s} (hl : sub [.od, .dict, .mram, .fuses, .power, .clock, .mu, .line, .gate, .log, .trust, .video, .slices, .canopen, .wake, .mooring, .fio, .pair, .acts] L = true) (h : Keep L r s) :
    Ends L r (execCanFrameReceived a0 a1 a2 s) := by
  delta execCanFrameReceived
  exact Keep.rnext (State.served_keep (sub.trans rfl hl) h (fun _ h0 => (by
 extract_lets -merge -useContext x1
 exact State.replicateShared_keep (sub.trans rfl hl) h0 (fun _ h2 => State.canIn_keep (sub.trans rfl hl) h2))))


theorem execRpdoReceived_keep {L r a0 a1 s} (hl : sub [.od, .dict, .mram, .fuses, .power, .clock, .mu, .line, .gate, .log, .trust, .video, .slices, .canopen, .mooring, .fio, .pair, .acts] L = true) (h : Keep L r s) :
    Ends L r (execRpdoReceived a0 a1 s) := by
  delta execRpdoReceived
  exact Keep.rnext (State.served_keep (sub.trans rfl hl) h (fun _ h0 => State.replicateShared_keep (sub.trans rfl hl) h0 (fun _ h1 => State.rpdoReceived_keep (sub.trans rfl hl) h1)))


theorem State.rpdoTimeout_keep {L r s a1} (hl : sub [.od, .canopen, .acts] L = true) (h : Keep L r s) :
    Keep L r (State.rpdoTimeout s a1) := by
  delta State.rpdoTimeout
  extract_lets -merge -useContext x0 x1
  have h2 : Keep L r x1 := Keep.upd_canopen (sub.trans rfl hl) h
  exact Keep.site (State.emcy_keep (sub.trans rfl hl) (State.bump_keep (sub.trans rfl hl) h2)) h


theorem execRpdoTimeout_keep {L r a0 s} (hl : sub [.od, .canopen, .acts] L = true) (h : Keep L r s) :
    Ends L r (execRpdoTimeout a0 s) := by
  delta execRpdoTimeout
  exact Keep.rnext (State.served_keep (sub.trans rfl hl) h (fun _ h0 => State.rpdoTimeout_keep (sub.trans rfl hl) h0))


theorem execSync_keep {L r a0 s} (hl : sub [.od, .dict, .mram, .fuses, .power, .clock, .mu, .line, .gate, .log, .trust, .video, .slices, .canopen, .mooring, .fio, .pair, .acts] L = true) (h : Keep L r s) :
    Ends L r (execSync a0 s) := by
  delta execSync
  exact Keep.rnext (State.served_keep (sub.trans rfl hl) h (fun _ h0 => State.replicateShared_keep (sub.trans rfl hl) h0 (fun _ h1 => State.syncFrame_keep (sub.trans rfl hl) h1)))


theorem State.tpdoTimer_keep {L r s a1} (hl : sub [.od, .canopen, .acts] L = true) (h : Keep L r s) :
    Keep L r (State.tpdoTimer s a1) := by
  delta State.tpdoTimer
  exact Keep.site (State.sendTpdo_keep (sub.trans rfl hl) h) h


theorem execTpdoEventTimer_keep {L r a0 s} (hl : sub [.od, .canopen, .acts] L = true) (h : Keep L r s) :
    Ends L r (execTpdoEventTimer a0 s) := by
  delta execTpdoEventTimer
  exact Keep.rnext (State.served_keep (sub.trans rfl hl) h (fun _ h0 => State.tpdoTimer_keep (sub.trans rfl hl) h0))


theorem State.actInput_keep {L r s a1} (hl : sub [.od, .dict, .mram, .fuses, .power, .clock, .mu, .line, .host, .gate, .log, .trust, .video, .slices, .canopen, .wake, .mooring, .fio, .pair, .lock, .pairing, .unitA, .acts] L = true) (h : Keep L r s) :
    Keep L r (State.actInput s a1) := by
  delta State.actInput
  split
  · exact State.canIn_keep (sub.trans rfl hl) h
  · exact State.fieldInput_keep (sub.trans rfl hl) h
  · exact State.mgmtTake_keep (sub.trans rfl hl) h
  · exact State.lockActed_keep (sub.trans rfl hl) h
  · exact (by
    extract_lets -merge -useContext x0
    have h1 : Keep L r x0.1 := State.performWrite_keep (sub.trans rfl hl) h
    exact State.takeDue_keep (sub.trans rfl hl) (Keep.site (State.respond_keep (sub.trans rfl hl) h1) h1))
  · exact h
  · exact State.bar2Request_keep (sub.trans rfl hl) h
  · exact State.inBand_keep (sub.trans rfl hl) h
  · exact State.capPush_keep (sub.trans rfl hl) h


theorem State.actInputs_keep {L r s} (hl : sub [.od, .dict, .mram, .fuses, .power, .clock, .mu, .line, .host, .gate, .log, .trust, .video, .slices, .canopen, .wake, .mooring, .fio, .pair, .lock, .pairing, .unitA, .acts] L = true) (h : Keep L r s) :
    Keep L r (State.actInputs s) := by
  delta State.actInputs
  extract_lets -merge -useContext x0 x1 x2 x3 x5 x7
  have h4 : Keep L r x3 := State.setPair_keep (sub.trans rfl hl) h
  have h6 : Keep L r x5 := Keep.foldl (fun _ _ h8 => State.actInput_keep (sub.trans rfl hl) h8) h4
  exact State.setPair_keep (sub.trans rfl hl) h6


theorem State.sampleTpdo_keep {L r s a1} (hl : sub [.od, .canopen, .acts] L = true) (h : Keep L r s) :
    Keep L r (State.sampleTpdo s a1) := by
  delta State.sampleTpdo
  extract_lets -merge -useContext x0 x1 x2
  have h3 : Keep L r x2 := State.setTpdo_keep (sub.trans rfl hl) h
  exact Keep.site h (Keep.site (State.sendTpdo_keep (sub.trans rfl hl) h3) h3)


end Sys2Proof.Machine
end

