-- ==== Sys2Proof/Laws/KeepBoundary.lean ====
section
/-!
SUPPORT. What each operation may change: the boot, flight boundaries and the own slots. One lemma per operation, by its name with `_keep`.
-/

set_option linter.unusedTactic false
set_option linter.unreachableTactic false
set_option linter.unusedVariables false

namespace Sys2Proof.Machine

theorem execLockstepError_keep {L r a0 s} (hl : sub [.od, .dict, .power, .clock, .mu, .line, .host, .gate, .log, .trust, .video, .slices, .canopen, .mooring, .fio, .pair, .lock, .pairing, .unitA, .acts] L = true) (h : Keep L r s) :
    Ends L r (execLockstepError a0 s) := by
  delta execLockstepError
  exact Keep.rnext (Keep.site (State.lockstepError_keep (sub.trans rfl hl) h) h)


theorem State.fallback_keep {L r s a1 a2} (hl : sub [.od, .gate, .log, .acts] L = true) (h : Keep L r s) :
    Keep L r (State.fallback s a1 a2) := by
  delta State.fallback
  exact Keep.site h (State.raise_keep (sub.trans rfl hl) (State.bump_keep (sub.trans rfl hl) (State.put_keep (sub.trans rfl hl) h)))


theorem State.startRegions_keep {L r s} (hl : sub [.od, .slices] L = true) (h : Keep L r s) :
    Keep L r (State.startRegions s) := by
  delta State.startRegions
  exact Keep.foldl (fun _ _ h0 => State.regionFigures_keep (sub.trans rfl hl) (Keep.foldl (fun _ _ h1 => State.resetRegion_keep (sub.trans rfl hl) h1) h0)) h


theorem State.startServices_keep {L r s} (hl : sub [.od, .clock, .line, .slices] L = true) (h : Keep L r s) :
    Keep L r (State.startServices s) := by
  delta State.startServices
  extract_lets -merge -useContext x0 x2
  have h1 : Keep L r x0 := State.installAdmission_keep (sub.trans rfl hl) (State.ingestSummary_keep (sub.trans rfl hl) (State.refreshTables_keep (sub.trans rfl hl) h))
  have h3 : Keep L r x2 := State.publishKeys_keep (sub.trans rfl hl) (State.viewStatuses_keep (sub.trans rfl hl) (State.startRegions_keep (sub.trans rfl hl) h1))
  exact Keep.foldl (fun _ _ h4 => State.pulseCommit_keep (sub.trans rfl hl) h4) (State.pulseOwners_keep (sub.trans rfl hl) h3)


theorem State.startPorts_keep {L r s} (hl : sub [.od, .clock, .mu, .line, .gate, .log, .trust, .canopen, .acts] L = true) (h : Keep L r s) :
    Keep L r (State.startPorts s) := by
  delta State.startPorts
  extract_lets -merge -useContext x0 x2
  have h1 : Keep L r x0 := Keep.foldl (fun _ _ h6 => State.applyPortEnable_keep (sub.trans rfl hl) h6) h
  have h3 : Keep L r x2 := Keep.foldl (fun _ _ h5 => State.applyStarEnable_keep (sub.trans rfl hl) h5) h1
  exact Keep.foldl (fun _ _ h4 => State.applyCan_keep (sub.trans rfl hl) h4) h3


theorem State.startIslands_keep {L r s} (hl : sub [.power] L = true) (h : Keep L r s) :
    Keep L r (State.startIslands s) := by
  delta State.startIslands
  extract_lets -merge -useContext x0 x1
  exact Keep.upd_power (sub.trans rfl hl) h


theorem State.actLatched_keep {L r s} (hl : sub [.od, .power, .clock, .gate, .log, .acts] L = true) (h : Keep L r s) :
    Keep L r (State.actLatched s) := by
  delta State.actLatched
  extract_lets -merge -useContext x0
  have h1 : Keep L r x0 := Keep.foldl (fun _ _ h3 => State.captureLatched_keep (sub.trans rfl hl) h3) h
  exact Keep.foldl (fun _ _ h2 => State.raiseLatched_keep (sub.trans rfl hl) h2) h1


theorem State.ready_keep {L r s a1} (hl : sub [.od, .dict, .power, .clock, .mu, .line, .gate, .log, .trust, .slices, .canopen, .mooring, .fio, .pair, .acts] L = true) (h : Keep L r s) :
    Keep L r (State.ready s a1) := by
  delta State.ready
  extract_lets -merge -useContext x0 x1 x2 x4 x6 x8 x10
  have h3 : Keep L r x2 := Keep.upd_power_clock (sub.trans rfl hl) h
  have h5 : Keep L r x4 := State.gateReady_keep (sub.trans rfl hl) (State.put_keep (sub.trans rfl hl) (State.put_keep (sub.trans rfl hl) h3))
  have h7 : Keep L r x6 := State.fallback_keep (sub.trans rfl hl) (State.fallback_keep (sub.trans rfl hl) h5)
  have h9 : Keep L r x8 := State.startPair_keep (sub.trans rfl hl) (State.startServices_keep (sub.trans rfl hl) (State.startPorts_keep (sub.trans rfl hl) h7))
  have h11 : Keep L r x10 := State.startIslands_keep (sub.trans rfl hl) (State.bootUp_keep (sub.trans rfl hl) (State.startOutputs_keep (sub.trans rfl hl) h9))
  exact Keep.site (State.report_keep (sub.trans rfl hl) (State.scrubResume_keep (sub.trans rfl hl) (State.judgeVotes_keep (sub.trans rfl hl) (State.actLatched_keep (sub.trans rfl hl) h11)))) h


theorem execReady_keep {L r a0 s} (hl : sub [.od, .dict, .power, .clock, .mu, .line, .gate, .log, .trust, .slices, .canopen, .mooring, .fio, .pair, .acts] L = true) (h : Keep L r s) :
    Ends L r (execReady a0 s) := by
  delta execReady
  exact Keep.rnext (State.ready_keep (sub.trans rfl hl) h)


theorem execSafetyMonitorFault_keep {L r a0 a1 s} (hl : sub [.od, .dict, .power, .clock, .mu, .line, .host, .gate, .log, .trust, .video, .slices, .canopen, .mooring, .fio, .pair, .lock, .pairing, .unitA, .acts] L = true) (h : Keep L r s) :
    Ends L r (execSafetyMonitorFault a0 a1 s) := by
  delta execSafetyMonitorFault
  exact Keep.rnext (Keep.site (State.safetyFault_keep (sub.trans rfl hl) h) h)


theorem execSramScrub_keep {L r a0 a1 a2 s} (hl : sub [.od, .dict, .power, .clock, .mu, .line, .host, .gate, .log, .trust, .video, .slices, .canopen, .mooring, .fio, .pair, .lock, .pairing, .unitA, .acts] L = true) (h : Keep L r s) :
    Ends L r (execSramScrub a0 a1 a2 s) := by
  delta execSramScrub
  exact Keep.rnext (State.sramScrub_keep (sub.trans rfl hl) (Keep.site (State.sramLost_keep (sub.trans rfl hl) h) h))


theorem State.second_keep {L r s} (hl : sub [.od, .dict, .trust] L = true) (h : Keep L r s) :
    Keep L r (State.second s) := by
  delta State.second
  extract_lets -merge -useContext x0
  have h1 : Keep L r x0 := State.bump_keep (sub.trans rfl hl) h
  exact State.endSpent_keep (sub.trans rfl hl) (Keep.site (State.put_keep (sub.trans rfl hl) h1) h1)


theorem State.tick_keep {L r s} (hl : sub [.od, .dict, .clock, .line, .gate, .log, .trust, .slices, .canopen, .fio, .pair, .acts] L = true) (h : Keep L r s) :
    Keep L r (State.tick s) := by
  delta State.tick
  extract_lets -merge -useContext x0 x1 x3
  have h2 : Keep L r x1 := Keep.upd_clock (sub.trans rfl hl) h
  have h4 : Keep L r x3 := Keep.site (State.second_keep (sub.trans rfl hl) h2) h2
  exact Keep.site (State.claimNow_keep (sub.trans rfl hl) (Keep.foldl (fun _ _ h5 => State.forwardPump_keep (sub.trans rfl hl) (State.starPump_keep (sub.trans rfl hl) h5)) h4)) h


theorem State.replaceAll_keep {L r s} (hl : sub [.od, .dict, .clock, .line, .gate, .log, .trust, .video, .slices, .acts] L = true) (h : Keep L r s) :
    Keep L r (State.replaceAll s) := by
  delta State.replaceAll
  extract_lets -merge -useContext x0
  have h1 : Keep L r x0 := Keep.foldl (fun _ _ h2 => Keep.site (State.pulseReplace_keep (sub.trans rfl hl) h2) h2) (State.rephaseCameras_keep (sub.trans rfl hl) h)
  exact State.moveStreams_keep (sub.trans rfl hl) (State.displaysAdopt_keep (sub.trans rfl hl) h1)


theorem State.replacedSince_keep {L r s a1} (hl : sub [.od, .dict, .clock, .line, .gate, .log, .trust, .video, .slices, .acts] L = true) (h : Keep L r s) :
    Keep L r (State.replacedSince s a1) := by
  delta State.replacedSince
  exact Keep.site (State.replaceAll_keep (sub.trans rfl hl) h) h


theorem execColdStartReceived_keep {L r a0 a1 a2 a3 a4 s} (hl : sub [.od, .dict, .clock, .mu, .line, .gate, .log, .trust, .video, .slices, .acts] L = true) (h : Keep L r s) :
    Ends L r (execColdStartReceived a0 a1 a2 a3 a4 s) := by
  delta execColdStartReceived
  exact Keep.rnext (State.served_keep (sub.trans rfl hl) h (fun _ h0 => State.replacedSince_keep (sub.trans rfl hl) (State.coldStart_keep (sub.trans rfl hl) h0)))


theorem State.ctAdoption_keep {L r s} (hl : sub [.od, .dict, .clock, .mu, .line, .gate, .log, .trust, .video, .slices, .acts] L = true) (h : Keep L r s) :
    Keep L r (State.ctAdoption s) := by
  delta State.ctAdoption
  exact Keep.site (State.replaceAll_keep (sub.trans rfl hl) (State.adopt_keep (sub.trans rfl hl) h)) h


theorem execCtAdoption_keep {L r s} (hl : sub [.od, .dict, .clock, .mu, .line, .gate, .log, .trust, .video, .slices, .acts] L = true) (h : Keep L r s) :
    Ends L r (execCtAdoption s) := by
  delta execCtAdoption
  exact Keep.rnext (State.served_keep (sub.trans rfl hl) h (fun _ h0 => State.ctAdoption_keep (sub.trans rfl hl) h0))


theorem State.beginFlight_keep {L r s} (hl : sub [.od, .clock] L = true) (h : Keep L r s) :
    Keep L r (State.beginFlight s) := by
  delta State.beginFlight
  extract_lets -merge -useContext x0 x1 x3
  have h2 : Keep L r x1 := State.put_keep (sub.trans rfl hl) h
  exact Keep.upd_clock (sub.trans rfl hl) h2


theorem State.lostNodes_keep {L r s a1} (hl : sub [.trust] L = true) (h : Keep L r s) :
    Keep L r (State.lostNodes s a1) := by
  delta State.lostNodes
  extract_lets -merge -useContext x0 x1
  exact Keep.site h (State.endNodes_keep (sub.trans rfl hl) h)


theorem State.endFlight_keep {L r s} (hl : sub [.od, .clock, .mu, .line, .host, .gate, .log, .trust, .lock, .acts] L = true) (h : Keep L r s) :
    Keep L r (State.endFlight s) := by
  delta State.endFlight
  extract_lets -merge -useContext x0 x1 x2 x4 x5
  have h3 : Keep L r x2 := Keep.site (Keep.upd_clock (sub.trans rfl hl) h) (State.rateCorrection_keep (sub.trans rfl hl) h)
  have h6 : Keep L r x5 := State.missingFlights_keep (sub.trans rfl hl) (State.formMembership_keep (sub.trans rfl hl) h3)
  exact State.lockMembers_keep (sub.trans rfl hl) (State.lostNodes_keep (sub.trans rfl hl) h6)


theorem State.listenBoundary_keep {L r s} (hl : sub [.od, .mu, .line, .gate, .log, .acts] L = true) (h : Keep L r s) :
    Keep L r (State.listenBoundary s) := by
  delta State.listenBoundary
  extract_lets -merge -useContext x0 x1 x3 x4
  have h2 : Keep L r x1 := State.enterRunning_keep (sub.trans rfl hl) h
  exact Keep.site (Keep.site (Keep.upd_mu (sub.trans rfl hl) h) (Keep.site (Keep.upd_mu (sub.trans rfl hl) h2) h)) (Keep.site (Keep.upd_mu (sub.trans rfl hl) h) h)


theorem State.setGateway_keep {L r s a1} (hl : sub [.od, .clock] L = true) (h : Keep L r s) :
    Keep L r (State.setGateway s a1) := by
  delta State.setGateway
  extract_lets -merge -useContext x0 x1 x2 x3
  have h4 : Keep L r x3 := Keep.site (State.setDomain_keep (sub.trans rfl hl) h) h
  exact State.put_keep (sub.trans rfl hl) (State.put_keep (sub.trans rfl hl) h4)


theorem State.applyNumbers_keep {L r s a1 a2} (hl : sub [.od, .clock, .mu] L = true) (h : Keep L r s) :
    Keep L r (State.applyNumbers s a1 a2) := by
  delta State.applyNumbers
  extract_lets -merge -useContext x0 x1 x3 x4 x6 x8 x10 x12
  have h2 : Keep L r x1 := Keep.upd_od_mu (sub.trans rfl hl) h (fun w => by first | exact Store.set_wf w _ _ | exact Store.fold_wf w _)
  have h5 : Keep L r x4 := State.setGateway_keep (sub.trans rfl hl) (State.setGateway_keep (sub.trans rfl hl) (State.put_keep (sub.trans rfl hl) h2))
  have h7 : Keep L r x6 := Keep.site (State.bump_keep (sub.trans rfl hl) h5) h5
  have h9 : Keep L r x8 := State.put_keep (sub.trans rfl hl) (State.put_keep (sub.trans rfl hl) (State.put_keep (sub.trans rfl hl) (State.put_keep (sub.trans rfl hl) h7)))
  have h11 : Keep L r x10 := State.put_keep (sub.trans rfl hl) (State.put_keep (sub.trans rfl hl) (State.put_keep (sub.trans rfl hl) (State.put_keep (sub.trans rfl hl) h9)))
  have h13 : Keep L r x12 := State.put_keep (sub.trans rfl hl) (State.put_keep (sub.trans rfl hl) (State.put_keep (sub.trans rfl hl) h11))
  exact State.setTimeLead_keep (sub.trans rfl hl) (State.put_keep (sub.trans rfl hl) h13)


theorem State.applyPort_keep {L r s a1} (hl : sub [.od, .line] L = true) (h : Keep L r s) :
    Keep L r (State.applyPort s a1) := by
  delta State.applyPort
  extract_lets -merge -useContext x0
  exact State.keeperApplied_keep (sub.trans rfl hl) (State.setPl_keep (sub.trans rfl hl) h)


theorem State.leadSelects_keep {L r s a1} (hl : sub [.od, .dict, .clock, .line, .trust] L = true) (h : Keep L r s) :
    Keep L r (State.leadSelects s a1) := by
  delta State.leadSelects
  extract_lets -merge -useContext x0
  exact Keep.site h (Keep.site (State.ntDecide_keep (sub.trans rfl hl) h) ((by
   split
   · exact State.tellSelection_keep (sub.trans rfl hl) h
   · exact h)))


theorem State.makeUpDone_keep {L r s} (hl : sub [.od, .mu, .line, .gate, .log, .acts] L = true) (h : Keep L r s) :
    Keep L r (State.makeUpDone s) := by
  delta State.makeUpDone
  extract_lets -merge -useContext x0 x1 x3 x5 x6 x7
  have h2 : Keep L r x1 := State.muProgress_keep (sub.trans rfl hl) (State.bump_keep (sub.trans rfl hl) (State.put_keep (sub.trans rfl hl) (State.put_keep (sub.trans rfl hl) (State.put_keep (sub.trans rfl hl) h))))
  have h4 : Keep L r x3 := State.raise_keep (sub.trans rfl hl) (State.opEnd_keep (sub.trans rfl hl) h2)
  have h8 : Keep L r x7 := Keep.upd_mu (sub.trans rfl hl) h4
  exact (by
   clear_value x5
   split
   · exact State.evaluate_keep (sub.trans rfl hl) (State.gather_keep (sub.trans rfl hl) h8)
   · exact h8)


theorem State.applyMakeUp_keep {L r s a1 a2} (hl : sub [.od, .dict, .clock, .mu, .line, .gate, .log, .trust, .lock, .acts] L = true) (h : Keep L r s) :
    Keep L r (State.applyMakeUp s a1 a2) := by
  delta State.applyMakeUp
  extract_lets -merge -useContext x0 x1 x2 x3 x5 x7
  have h4 : Keep L r x3 := State.modeApplied_keep (sub.trans rfl hl) (State.refreshTables_keep (sub.trans rfl hl) (State.applyNumbers_keep (sub.trans rfl hl) h))
  have h6 : Keep L r x5 := Keep.foldl (fun _ _ h9 => State.applyPort_keep (sub.trans rfl hl) h9) h4
  have h8 : Keep L r x7 := State.endNodes_keep (sub.trans rfl hl) h6
  exact State.leadSelects_keep (sub.trans rfl hl) (State.makeUpDone_keep (sub.trans rfl hl) (State.lockApplied_keep (sub.trans rfl hl) h8))


theorem State.applyDue_keep {L r s a1} (hl : sub [.od, .dict, .mram, .clock, .mu, .line, .gate, .log, .trust, .video, .slices, .canopen, .mooring, .fio, .lock, .acts] L = true) (h : Keep L r s) :
    Keep L r (State.applyDue s a1) := by
  delta State.applyDue
  extract_lets -merge -useContext x0 x1 x2 x4 x6
  have h3 : Keep L r x2 := by unfold x2; exact (by
   clear_value x0
   split
   · exact State.applyMakeUp_keep (sub.trans rfl hl) h
   · exact h)
  have h5 : Keep L r x4 := Keep.site (State.applyStaged_keep (sub.trans rfl hl) h3) h3
  exact Keep.site (State.rebind_keep (sub.trans rfl hl) h5) (Keep.site h5 (Keep.upd_mu (sub.trans rfl hl) h5))


theorem State.portBoundary_keep {L r s a1} (hl : sub [.od, .line, .trust] L = true) (h : Keep L r s) :
    Keep L r (State.portBoundary s a1) := by
  delta State.portBoundary
  extract_lets -merge -useContext x0 x2 x3
  have h1 : Keep L r x0 := State.rekeySwitch_keep (sub.trans rfl hl) (State.keeperBoundary_keep (sub.trans rfl hl) h)
  exact State.setPl_keep (sub.trans rfl hl) (State.put_keep (sub.trans rfl hl) h1)


theorem State.sendRelation_keep {L r s a1} (hl : sub [.od, .dict, .clock, .line, .gate, .log, .trust, .acts] L = true) (h : Keep L r s) :
    Keep L r (State.sendRelation s a1) := by
  delta State.sendRelation
  extract_lets -merge -useContext x0 x1
  exact (by
   split
   · exact h
   · exact (by
     extract_lets -merge -useContext x2 x3
     have h4 : Keep L r x3 := State.sendMgmt_keep (sub.trans rfl hl) h
     exact Keep.site (State.relationWrite_keep (sub.trans rfl hl) (State.sendMgmt_keep (sub.trans rfl hl) h4)) h))


theorem State.ageDomain_keep {L r s a1} (hl : sub [.od, .clock] L = true) (h : Keep L r s) :
    Keep L r (State.ageDomain s a1) := by
  delta State.ageDomain
  extract_lets -merge -useContext x0 x2
  have h1 : Keep L r x0 := Keep.site (State.put_keep (sub.trans rfl hl) h) h
  exact State.setDomain_keep (sub.trans rfl hl) h1


theorem State.mooringSteps_keep {L r s} (hl : sub [.od, .mram, .clock, .line, .host, .gate, .log, .video, .slices, .canopen, .mooring, .fio, .lock, .acts] L = true) (h : Keep L r s) :
    Keep L r (State.mooringSteps s) := by
  delta State.mooringSteps
  extract_lets -merge -useContext x0 x1 x3 x5
  have h2 : Keep L r x1 := State.mooringBoundary_keep (sub.trans rfl hl) h
  have h4 : Keep L r x3 := State.lockMooring_keep (sub.trans rfl hl) h2
  exact Keep.site (State.flightCount_keep (sub.trans rfl hl) (Keep.upd_slices (sub.trans rfl hl) h4)) h2


theorem State.startVideo_keep {L r s} (hl : sub [.od, .video, .slices] L = true) (h : Keep L r s) :
    Keep L r (State.startVideo s) := by
  delta State.startVideo
  extract_lets -merge -useContext x0
  have h1 : Keep L r x0 := Keep.foldl (fun _ _ h3 => Keep.site (State.applyCamera_keep (sub.trans rfl hl) h3) h3) h
  exact Keep.site (Keep.foldl (fun _ _ h2 => Keep.site (State.applyDisplay_keep (sub.trans rfl hl) h2) h2) h1) h


theorem State.flightBoundary_keep {L r s a1 a2} (hl : sub [.od, .dict, .mram, .power, .clock, .mu, .line, .host, .gate, .log, .trust, .video, .slices, .canopen, .mooring, .fio, .pair, .lock, .acts] L = true) (h : Keep L r s) :
    Keep L r (State.flightBoundary s a1 a2) := by
  delta State.flightBoundary
  extract_lets -merge -useContext x0 x2 x4 x6 x8 x10
  have h1 : Keep L r x0 := State.beginFlight_keep (sub.trans rfl hl) (State.endFlight_keep (sub.trans rfl hl) (State.passageDigests_keep (sub.trans rfl hl) h))
  have h3 : Keep L r x2 := State.listenBoundary_keep (sub.trans rfl hl) (State.switchBoundary_keep (sub.trans rfl hl) (State.applyDue_keep (sub.trans rfl hl) h1))
  have h5 : Keep L r x4 := Keep.foldl (fun _ _ h12 => State.portBoundary_keep (sub.trans rfl hl) h12) h3
  have h7 : Keep L r x6 := State.sendRelation_keep (sub.trans rfl hl) (State.sendRelation_keep (sub.trans rfl hl) (State.ageDomain_keep (sub.trans rfl hl) (State.ageDomain_keep (sub.trans rfl hl) h5)))
  have h9 : Keep L r x8 := State.applyQuiet_keep (sub.trans rfl hl) (State.mooringSteps_keep (sub.trans rfl hl) (State.pairBoundary_keep (sub.trans rfl hl) h7))
  have h11 : Keep L r x10 := State.takeAnswers_keep (sub.trans rfl hl) (State.startVideo_keep (sub.trans rfl hl) h9)
  exact Keep.site (State.islandScan_keep (sub.trans rfl hl) (State.viewStatuses_keep (sub.trans rfl hl) (State.instancesAtBoundary_keep (sub.trans rfl hl) h11))) h


theorem execFlightBoundary_keep {L r a0 a1 s} (hl : sub [.od, .dict, .mram, .power, .clock, .mu, .line, .host, .gate, .log, .trust, .video, .slices, .canopen, .mooring, .fio, .pair, .lock, .acts] L = true) (h : Keep L r s) :
    Ends L r (execFlightBoundary a0 a1 s) := by
  delta execFlightBoundary
  exact Keep.rnext (State.served_keep (sub.trans rfl hl) h (fun _ h0 => State.flightBoundary_keep (sub.trans rfl hl) h0))


theorem execListenTimerExpired_keep {L r s} (hl : sub [.od, .dict, .clock, .mu, .line, .gate, .log, .trust, .video, .slices, .acts] L = true) (h : Keep L r s) :
    Ends L r (execListenTimerExpired s) := by
  delta execListenTimerExpired
  exact Keep.rnext (State.served_keep (sub.trans rfl hl) h (fun _ h0 => State.replacedSince_keep (sub.trans rfl hl) (State.listenExpired_keep (sub.trans rfl hl) h0)))


theorem execMakeUpReceived_keep {L r a0 a1 a2 a3 s} (hl : sub [.od, .dict, .clock, .mu, .line, .gate, .log, .trust, .video, .slices, .acts] L = true) (h : Keep L r s) :
    Ends L r (execMakeUpReceived a0 a1 a2 a3 s) := by
  delta execMakeUpReceived
  exact Keep.rnext (State.served_keep (sub.trans rfl hl) h (fun _ h0 => State.replacedSince_keep (sub.trans rfl hl) (State.makeUpReceived_keep (sub.trans rfl hl) h0)))


theorem State.pulseStepped_keep {L r s} (hl : sub [.od, .clock] L = true) (h : Keep L r s) :
    Keep L r (State.pulseStepped s) := by
  delta State.pulseStepped
  extract_lets -merge -useContext x0 x1
  have h2 : Keep L r x1 := Keep.upd_clock (sub.trans rfl hl) h
  exact Keep.site (Keep.foldl (fun _ _ h3 => Keep.site (State.pulseReplace_keep (sub.trans rfl hl) h3) h3) h2) h


theorem State.pulseCheck_keep {L r s a1} (hl : sub [.od, .clock] L = true) (h : Keep L r s) :
    Keep L r (State.pulseCheck s a1) := by
  delta State.pulseCheck
  extract_lets -merge -useContext x0
  exact Keep.site (State.pulseReplace_keep (sub.trans rfl hl) h) h


theorem State.leaveOrder_keep {L r s} (hl : sub [.od, .mu] L = true) (h : Keep L r s) :
    Keep L r (State.leaveOrder s) := by
  delta State.leaveOrder
  extract_lets -merge -useContext x0 x2
  have h1 : Keep L r x0 := State.put_keep (sub.trans rfl hl) h
  exact Keep.site (Keep.upd_mu (sub.trans rfl hl) h1) h


theorem State.dropChoices_keep {L r s} (hl : sub [.pair] L = true) (h : Keep L r s) :
    Keep L r (State.dropChoices s) := by
  delta State.dropChoices
  extract_lets -merge -useContext x0 x1
  exact State.setPair_keep (sub.trans rfl hl) h


theorem State.announceDue_keep {L r s} (hl : sub [.od, .dict, .line, .trust, .slices] L = true) (h : Keep L r s) :
    Keep L r (State.announceDue s) := by
  delta State.announceDue
  split
  · exact (by
    extract_lets -merge -useContext x0 x1 x3
    exact Keep.site h (State.announce_keep (sub.trans rfl hl) h))
  · exact h


theorem State.tellSides_keep {L r s} (hl : sub [] L = true) (h : Keep L r s) :
    Keep L r (State.tellSides s) := by
  delta State.tellSides
  exact State.toPartner_keep (sub.trans rfl hl) (State.toPartner_keep (sub.trans rfl hl) h)


theorem State.passageStarts_keep {L r s} (hl : sub [.od, .dict, .mram, .fuses, .power, .clock, .mu, .line, .host, .gate, .log, .trust, .video, .slices, .canopen, .wake, .mooring, .fio, .pair, .lock, .pairing, .unitA, .acts] L = true) (h : Keep L r s) :
    Keep L r (State.passageStarts s) := by
  delta State.passageStarts
  extract_lets -merge -useContext x0 x1 x3 x4 x6 x8 x10 x12
  have h2 : Keep L r x1 := Keep.site h (State.passageDigests_keep (sub.trans rfl hl) h)
  have h5 : Keep L r x4 := State.clockPassage_keep (sub.trans rfl hl) (Keep.upd_clock (sub.trans rfl hl) h2)
  have h7 : Keep L r x6 := State.pulseStepped_keep (sub.trans rfl hl) (Keep.foldl (fun _ _ h15 => State.pulseCheck_keep (sub.trans rfl hl) h15) (State.leaveOrder_keep (sub.trans rfl hl) h5))
  have h9 : Keep L r x8 := State.actInputs_keep (sub.trans rfl hl) (State.dropChoices_keep (sub.trans rfl hl) (State.lockPassage_keep (sub.trans rfl hl) (State.sendColdStart_keep (sub.trans rfl hl) h7)))
  have h11 : Keep L r x10 := State.announceDue_keep (sub.trans rfl hl) (State.tellSides_keep (sub.trans rfl hl) (State.toPartner_keep (sub.trans rfl hl) h9))
  have h13 : Keep L r x12 := Keep.foldl (fun _ _ h14 => State.sampleTpdo_keep (sub.trans rfl hl) h14) h11
  exact State.judgeVotes_keep (sub.trans rfl hl) (State.collectServe_keep (sub.trans rfl hl) h13)


theorem execPassageStart_keep {L r s} (hl : sub [.od, .dict, .mram, .fuses, .power, .clock, .mu, .line, .host, .gate, .log, .trust, .video, .slices, .canopen, .wake, .mooring, .fio, .pair, .lock, .pairing, .unitA, .acts] L = true) (h : Keep L r s) :
    Ends L r (execPassageStart s) := by
  delta execPassageStart
  exact Keep.rnext (State.served_keep (sub.trans rfl hl) h (fun _ h0 => State.passageStarts_keep (sub.trans rfl hl) h0))


theorem State.slotFrame_keep {L r s a1 a2 a3} (hl : sub [.od, .mu, .line, .gate, .log, .slices, .canopen, .wake, .mooring, .acts] L = true) (h : Keep L r s) :
    Keep L r (State.slotFrame s a1 a2 a3) := by
  delta State.slotFrame
  extract_lets -merge -useContext x0
  have h1 : Keep L r x0.1 := State.slotArrives_keep (sub.trans rfl hl) h
  exact Keep.site (State.tunnelFrame_keep (sub.trans rfl hl) h1) h1


theorem execSlotFrameReceived_keep {L r a0 a1 a2 s} (hl : sub [.od, .mu, .line, .gate, .log, .slices, .canopen, .wake, .mooring, .acts] L = true) (h : Keep L r s) :
    Ends L r (execSlotFrameReceived a0 a1 a2 s) := by
  delta execSlotFrameReceived
  exact Keep.rnext (State.served_keep (sub.trans rfl hl) h (fun _ h0 => State.slotFrame_keep (sub.trans rfl hl) h0))


theorem State.sendOwn_keep {L r s a1 a2 a3 a4} (hl : sub [.od, .line, .acts] L = true) (h : Keep L r s) :
    Keep L r (State.sendOwn s a1 a2 a3 a4) := by
  delta State.sendOwn
  exact Keep.site (State.sendFrame_keep (sub.trans rfl hl) h) h


theorem State.syncSlot_keep {L r s a1 a2 a3} (hl : sub [.od, .line, .acts] L = true) (h : Keep L r s) :
    Keep L r (State.syncSlot s a1 a2 a3) := by
  delta State.syncSlot
  extract_lets -merge -useContext x0 x1 x3 x4 x5 x6 x7
  have h2 : Keep L r x1 := State.tookFree_keep (sub.trans rfl hl) h
  have h8 : Keep L r x7 := State.stampSyncOut_keep (sub.trans rfl hl) (State.sendOwn_keep (sub.trans rfl hl) h2)
  exact Keep.site (State.emit_keep (sub.trans rfl hl) h8) h


theorem State.statusSlot_keep {L r s a1 a2 a3} (hl : sub [.od, .line, .acts] L = true) (h : Keep L r s) :
    Keep L r (State.statusSlot s a1 a2 a3) := by
  delta State.statusSlot
  extract_lets -merge -useContext x0 x1
  have h2 : Keep L r x1 := Keep.site (State.emit_keep (sub.trans rfl hl) (State.sendOwn_keep (sub.trans rfl hl) h)) h
  exact Keep.site (State.switchHeld_keep (sub.trans rfl hl) h2) h2


theorem State.consentSlot_keep {L r s a1 a2 a3} (hl : sub [.od, .line, .gate, .log, .wake, .mooring, .acts] L = true) (h : Keep L r s) :
    Keep L r (State.consentSlot s a1 a2 a3) := by
  delta State.consentSlot
  exact Keep.site (State.consentLeadward_keep (sub.trans rfl hl) h) (State.consentRearward_keep (sub.trans rfl hl) h)


theorem State.tunnelSlot_keep {L r s a1 a2 a3} (hl : sub [.od, .line, .canopen, .acts] L = true) (h : Keep L r s) :
    Keep L r (State.tunnelSlot s a1 a2 a3) := by
  delta State.tunnelSlot
  extract_lets -merge -useContext x0 x1 x3 x5 x6 x8 x10 x11
  have h2 : Keep L r x1.1 := State.sendRecords_keep (sub.trans rfl hl) h
  have h4 : Keep L r x3 := by unfold x3; exact h2
  have h7 : Keep L r x6.1 := State.sendRecords_keep (sub.trans rfl hl) h
  have h9 : Keep L r x8 := by unfold x8; exact h7
  have h12 : Keep L r x11 := by unfold x11; exact (by
   split
   · exact Keep.site h (Keep.upd_canopen (sub.trans rfl hl) h4)
   · exact Keep.upd_canopen (sub.trans rfl hl) h9)
  exact (by
   split
   · exact (by
     extract_lets -merge -useContext x13
     have h14 : Keep L r x13 := State.sendOwn_keep (sub.trans rfl hl) h12
     exact Keep.site (State.emit_keep (sub.trans rfl hl) h14) h14)
   · exact h12)


theorem State.fragmentGone_keep {L r s a1 a2 a3} (hl : sub [.od, .slices] L = true) (h : Keep L r s) :
    Keep L r (State.fragmentGone s a1 a2 a3) := by
  delta State.fragmentGone
  extract_lets -merge -useContext x0 x1 x2 x3
  exact State.flightCount_keep (sub.trans rfl hl) (Keep.upd_slices (sub.trans rfl hl) h)


theorem State.sliceSlot_keep {L r s a1 a2 a3} (hl : sub [.od, .line, .slices, .acts] L = true) (h : Keep L r s) :
    Keep L r (State.sliceSlot s a1 a2 a3) := by
  delta State.sliceSlot
  extract_lets -merge -useContext x0
  exact (by
   split
   · exact (by
     extract_lets -merge -useContext x1 x2 x3 x4 x6
     have h5 : Keep L r x4 := State.sendOwn_keep (sub.trans rfl hl) h
     have h7 : Keep L r x6 := Keep.site (State.emit_keep (sub.trans rfl hl) h5) h5
     exact State.fragmentGone_keep (sub.trans rfl hl) h7)
   · exact State.sendOwn_keep (sub.trans rfl hl) (Keep.site (State.bump_keep (sub.trans rfl hl) h) h))


theorem State.lockOut_keep {L r s a1 a2 a3} (hl : sub [.od, .line, .lock, .acts] L = true) (h : Keep L r s) :
    Keep L r (State.lockOut s a1 a2 a3) := by
  delta State.lockOut
  extract_lets -merge -useContext x0
  have h1 : Keep L r x0.1 := State.lockSlot_keep (sub.trans rfl hl) h
  exact State.sendOwn_keep (sub.trans rfl hl) h1


theorem State.originate_keep {L r s a1 a2} (hl : sub [.od, .line, .gate, .log, .slices, .canopen, .wake, .mooring, .lock, .acts] L = true) (h : Keep L r s) :
    Keep L r (State.originate s a1 a2) := by
  delta State.originate
  split
  · exact h
  · exact Keep.site h (Keep.site (Keep.site (State.gateRefuse_keep (sub.trans rfl hl) h) (State.sendMakeUp_keep (sub.trans rfl hl) h)) (Keep.site (State.gateRefuse_keep (sub.trans rfl hl) h) (Keep.site (State.syncSlot_keep (sub.trans rfl hl) h) (Keep.site (State.statusSlot_keep (sub.trans rfl hl) h) (Keep.site (State.consentSlot_keep (sub.trans rfl hl) h) (Keep.site (State.tunnelSlot_keep (sub.trans rfl hl) h) (Keep.site (State.sendOwn_keep (sub.trans rfl hl) h) (Keep.site (State.sliceSlot_keep (sub.trans rfl hl) h) (State.lockOut_keep (sub.trans rfl hl) h)))))))))


theorem execSlotOriginate_keep {L r a0 a1 s} (hl : sub [.od, .line, .gate, .log, .slices, .canopen, .wake, .mooring, .lock, .acts] L = true) (h : Keep L r s) :
    Ends L r (execSlotOriginate a0 a1 s) := by
  delta execSlotOriginate
  exact Keep.rnext (State.served_keep (sub.trans rfl hl) h (fun _ h0 => State.originate_keep (sub.trans rfl hl) h0))


end Sys2Proof.Machine
end

