-- ==== Sys2Proof/WellFormed.lean ====
section
/-!
DEFINITION. Which commands the outside world can bring: operands that fit the fields and lengths the spec gives them.
Meanings do not rest on it: every command has a meaning, whatever its operands are.
-/

namespace Sys2Proof

/-- A backbone header as R160 lays it out: berth, slot index and payload length within their ranges. -/
def Header.wellFormed (h : Header) : Bool := decide (h.berth ≤ 64 ∧ h.slotIndex < 256 ∧ h.length ≤ 9216)

/-- The data length a DLC stands for (ISO 11898-1). -/
def dlcLength (fd : Bool) (dlc : Nat) : Nat :=
  if dlc ≤ 8 then dlc
  else if fd then [12, 16, 20, 24, 32, 48, 64].getD (dlc - 9) 64
  else 8

/-- A CAN frame (R439): data as long as the DLC says, none in a remote frame, no FD bits in a classical frame, and an
identifier of 11 bits, or of 29 with bit 31 set. -/
def CanFrame.wellFormed (f : CanFrame) : Bool :=
  decide (f.data.length = (if f.remote then 0 else dlcLength f.fd f.dlc.val)) &&
  (f.fd || (!f.brs && !f.esi)) && !(f.fd && f.remote) &&
  (if f.ident.getLsbD 31 then !f.ident.getLsbD 30 && !f.ident.getLsbD 29 else decide (f.ident.toNat < 2048))

/-- A slice header (R92): the fragment lies below the count, the counts and indexes in their ranges. -/
def SliceHeader.wellFormed (h : SliceHeader) : Bool :=
  decide (h.fragment < h.fragments ∧ h.fragments ≤ 255 ∧ h.index < 200 ∧ 1 ≤ h.perFrame ∧ h.perFrame ≤ 200 ∧
          h.stream < 65536 ∧ 1 ≤ h.instanceNo ∧ h.instanceNo ≤ 32)

/-- A MGMT chunk lies within its message (R358). -/
def MgmtFrame.wellFormed (f : MgmtFrame) : Bool := decide (f.offset + f.length ≤ f.total ∧ f.number < 65536)

/-- A segment lies within the entry it writes, and an index and a sub-index fit their fields (R343, R348). -/
def DictOp.wellFormed : DictOp → Bool
  | .read i u o => decide (i < 65536 ∧ u < 256 ∧ o < 2 ^ 32)
  | .write i u _ => decide (i < 65536 ∧ u < 256)
  | .segment i u t o d => decide (i < 65536 ∧ u < 256 ∧ o + d.length ≤ t)

/-- The address of an access fits its fields (R343). -/
def Access.wellFormed (a : Access) : Bool := decide (a.index < 65536 ∧ a.sub < 256)

/-- A register write (R399, R401): an offset within BAR0, on a 32-bit boundary. -/
def WriteTarget.wellFormed : WriteTarget → Bool
  | .entry a _ => a.wellFormed
  | .segment a t o d => a.wellFormed && decide (o + d.length ≤ t)
  | .bar0 o _ _ => decide (o < 4096 ∧ o % 4 = 0)
  | .qspiMalformed => true

/-- A read (R348, R399). -/
def ReadTarget.wellFormed : ReadTarget → Bool
  | .entry i u => decide (i < 65536 ∧ u < 256)
  | .segment i u o => decide (i < 65536 ∧ u < 256 ∧ o < 2 ^ 32)
  | .bar0 o => decide (o < 4096 ∧ o % 4 = 0)

/-- A lock message (R422): tag, cause, length and offset fit their fields, and no byte enable stands beyond the data. -/
def LockMsg.wellFormed (m : LockMsg) : Bool :=
  decide (m.tag < 320 ∧ m.cause < 256 ∧ m.length < 65536 ∧ m.offset < 2 ^ 32 ∧ m.originBerth ≤ 64 ∧
          m.enables.length ≤ m.data.length)

/-- A roster lists its berths in rising order, from `n` at the lowest to 64 (R15, R17). -/
def rosterFrom : Nat → List Berthed → Bool
  | _, [] => true
  | n, b :: t => decide (n ≤ b.berth ∧ b.berth ≤ 64 ∧ b.rank ≤ 4) && rosterFrom (b.berth + 1) t

/-- A MAKE_UP payload (R217): ranks 0 to 4, positions 0 or 1 to 64. -/
def MakeUp.wellFormed (m : MakeUp) : Bool := decide (m.rank ≤ 4 ∧ m.endRank ≤ 4 ∧ m.timeLeadRank ≤ 4 ∧ m.positions ≤ 64)

/-- A STATUS payload (R161): a berth, and a percentage. -/
def Status.wellFormed (x : Status) : Bool := decide (x.berth ≤ 64 ∧ x.resync ≤ 100)

/-- An access of BAR2 stays inside the window (R418), and a write has one enable for each byte. -/
def bar2WellFormed (offset n enables : Nat) : Bool := decide (offset + n ≤ 67108864 ∧ enables ≤ n)

/-- The operands of a command are ones the outside world can bring. -/
def Instr.wellFormed : Instr → Bool
  | .flightBoundary roster _ => rosterFrom 1 roster
  | .registerWrite t => t.wellFormed
  | .dictRead _ t => t.wellFormed
  | .counterClear a _ | .segmentTimeout a _ => a.wellFormed
  | .makeUpReceived _ h m _ => h.wellFormed && m.wellFormed
  | .coldStartReceived _ _ f _ _ => decide (1 ≤ f.rank ∧ f.rank ≤ 4)
  | .slotFrameReceived _ f _ => f.hdr.wellFormed && f.tunnel.all (fun r => r.frame.wellFormed)
  | .openWaterFrameReceived _ f _ => f.hdr.wellFormed
  | .statusReceived x => x.wellFormed
  | .syncReceived _ f _ => decide (f.order ≤ 15 ∧ f.senderBerth ≤ 64)
  | .sliceFragmentReceived _ h _ _ => h.wellFormed
  | .mgmtFrameReceived f => f.wellFormed
  | .sessionRequest _ _ _ _ op => op.wellFormed
  | .write m _ _ | .read m _ _ => m.wellFormed
  | .readData m | .ack m | .report m | .retry m | .declare m | .summaryPoll m | .summary m => m.wellFormed
  | .canWuf _ f | .canFrameReceived _ f _ => f.wellFormed
  | .bar2Write o d e => bar2WellFormed o.val d.length e.length
  | .bar2Read o n => bar2WellFormed o.val n 0
  | .passageStart | .commit .. | .commitStoreDone | .discard .. | .stagingIdleTimeout | .operationCancel ..
  | .storedEntryWrite | .activeCabChange .. | .makeUpRequest .. | .makeUpSend .. | .makeUpTimeout
  | .listenTimerExpired | .attemptComplete | .integrateTimeout | .adoptionMeasurementEnd | .ctAdoption | .linkUp ..
  | .linkDown .. | .linkLimitCleared .. | .starLinkChange .. | .mdioPoll .. | .mdioRead .. | .mdioWrite ..
  | .mdioAccessDone .. | .slotFrameCut .. | .slotForwardRelease .. | .slotOriginate .. | .openWaterSend ..
  | .modeRequest .. | .passageMarkerFire .. | .starFrameReceived .. | .filterUnblock .. | .offsetCorrection
  | .holdoverLimitExpired | .gptpSyncReceived .. | .gptpFollowUpReceived .. | .gptpPdelayReqReceived ..
  | .gptpPdelayRespReceived .. | .gptpAnnounceReceived .. | .gptpSyncTimeout .. | .gptpSyncSend ..
  | .gptpAnnounceSend .. | .gptpPdelayReqSend .. | .domainRelationStale .. | .domainAbsent .. | .relationWrite ..
  | .selectionRequest .. | .ntSwitchAnnounce .. | .ntSwitchInstant | .ntSlewEnd | .ntFallback | .tmSnap ..
  | .arm .. | .timePulseEdge .. | .timePulseEnd .. | .timeCaptureEdge .. | .removeOldest .. | .genlockPulse ..
  | .trigger .. | .frameStart .. | .csiLongPacket .. | .frameEnd .. | .csiSotError .. | .frameStartWindowExpired ..
  | .rvfPacketReceived .. | .cameraLockTimeout .. | .cameraLostTimeout .. | .cameraFaultTimeout ..
  | .cciScriptEntryDone .. | .cciScriptDelayExpired .. | .cciScriptWaitTimeout .. | .cciIbiReceived ..
  | .cciHotJoin .. | .cciAccessRead .. | .cciAccessWrite .. | .cciAccessDone .. | .panTimeout ..
  | .viewDefinitionReceived .. | .warpSliceProduced .. | .sliceEncoded .. | .sliceForward .. | .panelScriptEnd ..
  | .displayFrameStart .. | .sliceCutOff .. | .sliceEmitted .. | .displayFrameEnd .. | .consentReceived ..
  | .voteIdleExpired .. | .awakeTimerExpired | .phySleepComplete | .wakeInEdge | .remoteWake .. | .canWup ..
  | .fieldWakeRequest .. | .wakeDwellEnd | .wakeAccepted | .wakeProbe .. | .towLaneLoss .. | .towLineLost
  | .towLineUp .. | .towInputReceived .. | .digestWindowEnd .. | .selfCheckResult .. | .roleInFall | .xdisInRise
  | .mbbOverlapEnd .. | .claimDelayExpired | .pairFormingTimeout | .resynchronisationRequest ..
  | .plannedExchange .. | .snapshotSent .. | .replayLevel | .claimEnLow | .claimWindowExpired | .ownerRootWrite ..
  | .claimCommand .. | .release .. | .hello .. | .finish .. | .sessionClose .. | .sessionIdleTimeout ..
  | .revocationWrite .. | .peerOwnerWrite .. | .flushCache .. | .cacheEntryExpiry .. | .offer .. | .certs ..
  | .proof .. | .resume .. | .confirm .. | .refuse .. | .authRetryTimer .. | .rekeyTrigger .. | .rekeyOffer ..
  | .rekeyConfirm .. | .streamKeyDelivery .. | .streamKeyAck .. | .imageLoad .. | .selectImage .. | .healthTimeout
  | .advanceRollbackFloor .. | .bundle .. | .closeArm .. | .closeConfirm .. | .challengeExpired | .debugUnlock ..
  | .lastKnownTimeStore | .mgmtReassemblyTimeout .. | .mgmtResponseTimeout .. | .relayRequest .. | .sdoTimeout
  | .go .. | .abort | .hpMbRack .. | .mailboxIdleTimeout | .hpErrClear .. | .functionLevelReset
  | .pcieLinkChange .. | .egClaim .. | .egDone .. | .egPendSet .. | .egPendClr .. | .egMaskSet .. | .egMaskClr ..
  | .egOvrSet .. | .egOvrClr .. | .egTctrl .. | .summaryStale .. | .lockWriteTimeout .. | .lockReadTimeout ..
  | .prefetchLineExpiry | .lkFence .. | .lkErrPop .. | .tunnelRelease | .txRequest .. | .txAbort ..
  | .canTxComplete .. | .canBusError .. | .recoveryRequest .. | .busOffRecovered .. | .rxRelease ..
  | .startDetection .. | .detectionTimeout .. | .nmtStart .. | .nmtStop .. | .nmtEnterPreoperational ..
  | .nmtResetNode .. | .nmtResetCommunication .. | .sync .. | .rpdoReceived .. | .rpdoTimeout ..
  | .tpdoEventTimer .. | .timeProduce | .heartbeatProduce | .heartbeatReceived .. | .heartbeatTimeout ..
  | .emcyInhibitExpired | .command .. | .overcurrentTrip .. | .tripRetry .. | .groupOverload ..
  | .thermalShutdown .. | .readbackMismatch .. | .openLoad .. | .externalDrive .. | .reverse ..
  | .latchedFlagClear .. | .fieldInputChange .. | .supplySag .. | .supplySagEnd .. | .supplyOff ..
  | .supplyRestore .. | .restoreRequest .. | .overvoltage .. | .dieLinkLoss .. | .reportWrite | .clearToken ..
  | .startCollection .. | .logCollectRequest .. | .logCollectData .. | .logCollectEnd .. | .logCollectRefused ..
  | .logCollectCancel .. | .collectionTimeout | .histogramSample .. | .histogramStore | .porRelease ..
  | .bootImageVerified .. | .ready .. | .railWarning .. | .railFailure .. | .vaonLoss | .quietRequest ..
  | .islandRestart .. | .referenceFault .. | .referenceLossReset | .warmReset | .watchdogExpiry
  | .safetyMonitorFault .. | .resetRequest .. | .debugReset | .avsStep .. | .sramScrub .. | .scrubRequest ..
  | .mramScrubStart | .mramScrubChunk .. | .temperatureSample .. | .vaonRise .. | .porNLow | .resetRelease ..
  | .pairRoleInRise | .pairXdisInFall | .wakeInInactive | .couplerPhySleep .. | .msixVectorUnmask ..
  | .imageHealthy | .referenceRecovered | .lockstepError .. | .arbitrationLost .. | .deskewSequence ..
  | .peerDelayFailure .. | .detectionEdge ..
    => true

end Sys2Proof
end

