-- ==== Sys2Proof/Tests/Slice0.lean ====
section
/-!
SUPPORT. Small states, and one theorem for each statement that has hypotheses: states and operands that meet them together,
clause by clause.
-/

namespace Sys2Proof.Tests

set_option maxRecDepth 10000
set_option Elab.async false

open Sys2Proof Sys2Proof.Machine Sys2Proof.Machine.State

/-- The next state of an outcome. -/
def nx (o : Host.Outcome State Fault Refusal) : State := match o with | .next t => t | _ => State.reset
/-- READY, with some entries of the dictionary. -/
def W (l : List (Nat × Val) := []) : State :=
  { fuses := { identity := 5 }, power := { phase := .ready }, od := l.foldl (fun t e => Store.set t e.1 e.2) [] }
/-- A number of the dictionary. -/
def n (v : Int) : Val := .num v
/-- The client of session 0 on the host path. -/
def Wr : Writer := { path := .host, session := some 0 }
/-- READY and running on the line: link of FA up and keyed, berth 2, time state SYNC. -/
def WL (l : List (Nat × Val) := []) (x : List Slot := []) : State :=
  { W ([(0x241004, .num 2), (0x312401, .num 2), (0x222002, .num 2), (0x260001, .num 2), (0x260007, .num 1)] ++ l) with
    line := { tables := [(0, x), (1, x)], ports := [(0, { joined := true }), (2, { joined := true })] }, mu := { applied := true, integrated := true } }
/-- A slot of a payload type. -/
def sl (ty : Nat) : Slot := { start := 0, length := 100, ptype := ty, mask := 3, group := 255, copy := 0, size := 64 }
/-- A header of a payload type. -/
def hd (ty : Nat) : Header := { ptype := BitVec.ofNat 4 ty, channel := .a, dir := .rearward, berth := 1, mode := 0, flight := 0, passage := 0, slotIndex := 0, length := 32, hash := 0 }
/-- A chain of role 4. -/
def chn : Chain := { wellFormed := true, role := 4, scope := [], intermediates := 0, rootHash := List.replicate 32 0, signaturesVerify := true, serials := [], notBefore := 0, notAfter := 1 }
/-- READY and claimed, with a client session of role 4 on the host path. -/
def WA (l : List (Nat × Val) := []) : State :=
  { W ([(0x310001, .num 1)] ++ l) with trust := { sessions := [(0, { path := .host, role := 4, established := true, chain := chn })] } }
/-- READY, with camera 0 on CSI port 0. -/
def WV (l : List (Nat × Val) := []) (c : Camera := {}) : State :=
  { W ([(0x281003, .num 1), (0x281005, .num 1), (0x282001, .num 3), (0x260001, .num 2)] ++ l) with video := { cameras := [(0, c)] } }
/-- A frame in progress. -/
def fr : FrameIn := { k := 3, exposure := 5, width := 2, height := 4, group := 2, format := 1, exposures := 1 }
/-- Camera 0's entries in WV, an expected frame, and a frame in progress, under them. -/
def cfgV : Store := (WV [(0x28101E, n 100)]).slotCfg 0
def ex : Expected := { k := 3, at_ := 9, exposure := 5, cfg := [] }
def exv : Expected := { k := 3, at_ := 0, exposure := 5, cfg := cfgV }
def frv : FrameIn := { fr with cfg := cfgV }
/-- Bytes of the dictionary. -/
def opb (l : List Nat) : Val := .bytes (l.map (BitVec.ofNat 8))
/-- READY, with controller state and one CAN port. -/
def WC (c : Nat) (l : List (Nat × Val) := []) (x : CanPort := {}) : State :=
  { W ([(Od.key (0x3314 + c) 1, .num 1)] ++ l) with canopen := { nodeId := 9, ports := [(c, x)] } }
/-- A CAN frame. -/
def cf : Sys2Proof.CanFrame := { ident := 0x123, dlc := 1, data := [7] }
/-- As WC, claimed and with the client session. -/
def WAC (c : Nat) (l : List (Nat × Val) := []) (x : CanPort := {}) : State :=
  { WA ([(Od.key (0x3314 + c) 1, .num 1)] ++ l) with canopen := { nodeId := 9, ports := [(c, x)] } }
/-- MOORED. -/
def WM (l : List (Nat × Val) := []) (k : Wake := {}) : State :=
  { W ([(0x340005, .num 15)] ++ l) with power := { phase := .moored, inh := false }, wake := k }
/-- A consent token. -/
def tok : Consent := { channel := .a, dir := .leadward, agreed := false, override := false, token := 5, vector := 3, flight := 0 }
/-- READY, a camera of 8 by 8 and a window of its rows, and views of 8 by 8. -/
def WD (l : List (Nat × Val) := []) (x : Slices := {}) : State :=
  { W ([(0x281003, .num 1), (0x282001, .num 3), (0x281006, .num 8), (0x281007, .num 8), (0x28100C, .num 1), (0x288030, .num 8), (0x288031, .num 8), (0x260001, .num 2), (0x281009, .num 33333333)] ++ l) with
    slices := x, video := { cameras := [(0, { rows := (List.range 8).map (fun r => { k := 0, row := r, px := [1,2,3,4,5,6,7,8] }) })] } }
/-- A view definition. -/
def vd : ViewDef :=
  { requester := 77, requesterBerth := 1, view := 2, instanceNo := 1, slot := 0, width := 8, height := 8, mesh := [], bicubic := false, window := 32, fill := 0, panMode := 0, panPort := 0, panIdent := 0, panStart := 0, panLength := 0, panSigned := false, panScale := 0, panOffset := 0, panGain := 0, panLimit := 0, panRate := 0, panTimeout := 0, panFallback := 9, sliceHeight := 8, bitsPerPixel := 128, streamNumber := 4, lineTime := 4294967295, maxExposure := 4294967295, readDelay := 0, groupHeight := 1, rowTolerance := 65535, anchor := ((WD).nat 0x281014), period := ((WD).nat 0x281009), fraction := 43691, phase := 0, local_ := false }
/-- An active instance. -/
def ins : Instance := { d := vd, engine := 0, encoder := 0, need := 9, active := true }
/-- A slice header. -/
def shd : SliceHeader := { heightCode := 0, slicesPerLine := 0, damaged := false, checkFailed := false, bitsPerPixel := 128, epoch := 3, source := 9, stream := 0, instanceNo := 1, frame := 0, index := 0, perFrame := 1, fragment := 0, fragments := 1, exposure := 0, encode := 0 }
/-- View 2 bound to a source, on a stream of number 4. -/
def WB (l : List (Nat × Val) := []) (x : Slices := {}) : State :=
  WD ([(0x2C1201, .num 1), (0x2C1204, .num 8), (0x2C1205, .num 8), (0x2E1202, .num 8), (0x2E1203, .num 128), (0x2E1205, .num 4)] ++ l) { x with bound := [{ view := 2, inst := 1, source := 9, state := 2 }] }
/-- READY, the field die linked, channel 2 an output commanded on. -/
def WF (l : List (Nat × Val) := []) (c : Channel := {}) (x : Field := {}) : State :=
  { W ([(0x321201, .num 2), (0x323201, .num 1)] ++ l) with fio := { x with link := true, chans := [(2, c)], drive := 4 } }
/-- As WF, claimed and with the client session. -/
def WAF (l : List (Nat × Val) := []) (c : Channel := {}) (x : Field := {}) : State :=
  { WA ([(0x321201, .num 2), (0x323201, .num 1)] ++ l) with fio := { x with link := true, chans := [(2, c)], drive := 4 } }
/-- READY, with a gate and a host port. -/
def WG (g : Gate := {}) (h : HostPort := {}) : State := { W with gate := g, host := h }
/-- A frame held for the port across. -/
def hl (p i : Nat) : Held := { inPort := p, outPort := (p + 2) % 4, hdr := { hd 6 with slotIndex := i }, egress := 0 }
/-- A STATUS of berth 3. -/
def stt : Status := { channel := .a, berth := 3, accepted := true, membership := 7, hash := 0, activeMode := 0, proposedMode := 0, proposal := false, holds := false, makingUp := false, syncCapable := false, templateHash := 0, proposalFlight := 0, progress := 0, leadDelay := 0, rearDelay := 0, identity := 44, timeState := 2, valuesUsed := 0, lastCorrection := 0, rearLoop := 0, muState := 0, muGeneration := 0, muFlight := 0, paired := false, motor := false, leadHeardA := false, leadHeardB := false, rearHeardA := false, rearHeardB := false, port := some .fa }
/-- READY at berth 1, a neighbour of identity 7 at berth 2, the whole exchange memory a region for reads and writes. -/
def WK (x : Lock := {}) (l : List (Nat × Val) := []) : State :=
  { W ([(0x222002, .num 1), (0x223001, .bytes (State.le 8 5 ++ State.le 8 7)), (0x360088, .num (0x40000 * 2 ^ 20 + 2 ^ 40 + 2 ^ 41)), (0x360080, .num 1)] ++ l) with lock := x }
/-- A lock message of berth 2 to this device. -/
def lm : LockMsg := { origin := 7, originBerth := 2, length := 4, tag := 3, offset := 16, destination := 5, data := [1, 2, 3, 4] }
/-- A lock transaction outstanding. -/
def ltx : LockTx := { tag := 3, read := false, dest := 7, berth := 2, offset := 16, length := 4, at_ := 0 }
/-- A record waiting in the queue. -/
def rec_ : Record := { cls := 3, ctInvalid := false, opSec := 100, cycles := 1, stamp := 5, code := 0x0007 }
/-- READY, with a logbook. -/
def WLg (x : Logbook := {}) (l : List (Nat × Val) := []) : State := { W l with log := x }
/-- A MAKE_UP of the neighbour 44. -/
def mkup : MakeUp := { integrated := false, joining := false, cab := false, syncCapable := false, paired := false, conflict := false, generation := 0, sender := 44, partner := 0, vehicle := 9, set := 1, position := 2, rank := 0, aftPort := false, berth := 0, complete := false, agree := false, beyondLimit := false, positions := 0, vehicles := 0, sets := 0, sum := 0, endIdentity := 0, endCab := false, endWasLead := false, endRank := 0, endCabTime := 0, hash := 0, appFlight := 0, appValid := false, timeLead := 0, timeLeadRank := 0, passageCode := 1, mode := 0, timeState := 0, egressCt := 0, flight := 0, localDiff := 0, exchange := 0, adoptAt := 0, adoptStep := 0, adoptValid := false, asymmetry := 0 }
/-- READY, a unit of a pair that is in step. -/
def WP (x : Pair := {}) (l : List (Nat × Val) := []) : State :=
  { W ([(0x300101, .num 3), (0x300102, .num 1)] ++ l) with pair := { x with }, pairing := true }
/-- As WP, claimed and with the client session. -/
def WAP (x : Pair := {}) (l : List (Nat × Val) := []) : State :=
  { WA ([(0x300101, .num 3), (0x300102, .num 1)] ++ l) with pair := { x with }, pairing := true }
/-- Digests of one passage. -/
def dg : Digests := { flight := 3, passage := 4, whole := 5, classes := [1, 2, 3, 4, 5, 6, 7, 8] }
/-- A state of the power logic. -/
def WPw (p : Power) (l : List (Nat × Val) := []) : State := { W l with power := p }
/-- READY, cluster time valid; star port 3 the input of TA, star port 4 serving CT. -/
def WT : State := W [(0x260001, n 2), (domCfg .ta + 1, n 1), (domCfg .ta + 3, n 0x13), (Od.key 0x241B 4, n 2), (Od.key 0x241C 4, n 2), (Od.key 0x2624 1, n 1)]
/-- READY, the link of port AB up and not keyed. -/
def WN (x : Auth := {}) (l : List (Nat × Val) := []) : State :=
  { W ([(0x241304, n 2)] ++ l) with trust := { auth := [(3, x)] } }
/-- The certificate of device 7. -/
def dcert : DeviceCert := { identity := 7, chainsToGwynrex := true, serial := [1], ownerHash := [], claimed := false }
/-- The egress of port AA nearly full of open water. -/
def WLQ : State := { WL [(0x248401, n 1), (0x241204, n 2)] with line := { (WL).line with ports := [(0, { joined := true }), (2, { joined := true, owQueue := [{ otype := .mgmt, bytes := 262100 }] })] } }

/-- The bytes of the first own frame told. -/
def ownBytes (t : State) : List Byte := t.out.findSome? (fun o => match o with | .own _ _ _ _ _ f => some f | _ => none) |>.getD []

theorem witness_StepTakesTheFrontCommand :
    (∃ (s : State), s.pending = [] ∧ (s.clock.running = false ∨ s.isReady = false)) ∧
    (∃ (s : State), s.pending = [] ∧ (s.clock.running = false ∨ s.isReady = false)) := by
  refine ⟨⟨W, ?_⟩,
   ⟨State.reset, ?_⟩⟩ <;> decide +kernel

theorem witness_BytesChangeOnlyWhereStored :
    (∃ (s : State) (t : State) (o : Fin 67108864) (data : List Byte) (e : List Bool) (x : Nat), exec (.bar2Write o data e) s = .next t ∧ (x < o.val % 2 ^ 20 ∨ o.val % 2 ^ 20 + data.length ≤ x)) ∧
    (∃ (s : State) (t : State) (o : Fin 67108864) (data : List Byte) (e : List Bool) (x : Nat), exec (.bar2Write o data e) s = .next t ∧ (x < o.val % 2 ^ 20 ∨ o.val % 2 ^ 20 + data.length ≤ x)) ∧
    (∃ (s : State) (t : State) (m : LockMsg) (free : Bool) (ecc : Bool) (x : Nat), exec (.write m free ecc) s = .next t ∧ (x < m.offset ∨ m.offset + m.data.length ≤ x)) ∧
    (∃ (s : State) (t : State) (m : LockMsg) (free : Bool) (ecc : Bool) (x : Nat), exec (.write m free ecc) s = .next t ∧ (x < m.offset ∨ m.offset + m.data.length ≤ x)) ∧
    (∃ (s : State) (t : State) (o : Fin 67108864) (n : Nat) (m : LockMsg) (free : Bool) (ecc : Bool), (exec (.bar2Read o n) s = .next t ∨ exec (.read m free ecc) s = .next t ∨ exec (.readData m) s = .next t ∨ exec (.ack m) s = .next t ∨ exec (.report m) s = .next t ∨ exec (.retry m) s = .next t ∨ exec (.declare m) s = .next t ∨ exec (.summaryPoll m) s = .next t ∨ exec (.summary m) s = .next t)) ∧
    (∃ (s : State) (t : State) (o : Nat) (v : Word32) (x : Nat), exec (.registerWrite (.bar0 o 0xF v)) s = .next t ∧ 0x100 ≤ o ∧ o < 0x500 ∧ (x < o ∨ o + 4 ≤ x)) ∧
    (∃ (s : State) (o : Nat), s.bar0Up = true ∧ o % 4 = 0 ∧ 0x100 ≤ o ∧ o < 0x500 ∧ s.host.busy = false ∧ s.host.resp = false) ∧
    (∃ (s : State) (o : Nat), s.bar0Up = true ∧ o % 4 = 0 ∧ 0x100 ≤ o ∧ o < 0x500 ∧ s.host.busy = false ∧ s.host.resp = false) := by
  refine ⟨⟨WK, nx (execBar2Write 16 [1,2,3] [] WK), 16, [1,2,3], [], 15, rfl, ?_⟩,
   ⟨WK { exchange := [(19, 7)] }, nx (execBar2Write 16 [1,2,3] [] (WK { exchange := [(19, 7)] })), 16, [1,2,3], [], 19, rfl, ?_⟩,
   ⟨WK, nx (execWrite lm true false WK), lm, true, false, 15, rfl, ?_⟩,
   ⟨WK { exchange := [(20, 7)] }, nx (execWrite lm true false (WK { exchange := [(20, 7)] })), lm, true, false, 20, rfl, ?_⟩,
   ⟨WK, nx (execBar2Read 16 4 WK), 16, 4, lm, true, false, .inl rfl⟩,
   ⟨W, nx (execRegisterWrite (.bar0 0x100 0xF 7) W), 0x100, 7, 0x104, rfl, ?_⟩,
   ⟨W, 0x4FC, ?_⟩,
   ⟨W, 0x100, ?_⟩⟩ <;> decide +kernel

theorem witness_OnlyTheListedIndicesExist :
    (∃ (s : State) (w : Writer) (i : Nat) (sub : Nat), s.isReady = true ∧ s.sdoClosed w = false ∧ s.inStep = false ∧ s.power.resetDue = none ∧ Od.record? i = none ∧ sub < 256) ∧
    (∃ (s : State) (w : Writer) (i : Nat) (sub : Nat), s.isReady = true ∧ s.sdoClosed w = false ∧ s.inStep = false ∧ s.power.resetDue = none ∧ Od.record? i = none ∧ sub < 256) := by
  refine ⟨⟨W, { path := .host }, 0x2700, 255, ?_⟩,
   ⟨W, { path := .mgmt }, 0x100000, 0, ?_⟩⟩ <;> decide +kernel

theorem witness_InBandInterruptsAreStampedAndCounted :
    (∃ (s : State) (p : Fin 4), s.isReady = true ∧ s.inStep = false ∧ s.script? p = none) := by
  refine ⟨WV, 3, ?_⟩ <;> decide +kernel

theorem witness_OpenLoadIsJudgedOnOutputsThatAreOn :
    (∃ (s : State) (k : Fin 16) (j : Nat), s.isReady = true ∧ s.int (fioCfg k + 0x0B) ≠ 0 ∧ s.applied k = true ∧ (s.supplyOf k).sag = false ∧ j ≠ k.val) ∧
    (∃ (s : State) (k : Fin 16) (j : Nat), s.isReady = true ∧ j ≠ k.val) ∧
    (∃ (s : State) (k : Fin 16) (j : Nat), s.isReady = true ∧ j ≠ k.val) ∧
    (∃ (s : State) (k : Fin 16), (s.applied k = false ∨ s.int (fioCfg k + 0x0B) = 0)) ∧
    (∃ (s : State) (k : Fin 16), (s.applied k = false ∨ s.int (fioCfg k + 0x0B) = 0)) := by
  refine ⟨⟨WF [(0x32120B, n 1)], 2, 3, ?_⟩,
   ⟨WF [] { flags := 8 }, 2, 3, ?_⟩,
   ⟨WF, 15, 3, ?_⟩,
   ⟨WF, 2, ?_⟩,
   ⟨WF [(0x32130B, n 1)], 3, ?_⟩⟩ <;> decide +kernel

theorem witness_OpenWaterBuffersAreBounded :
    (∃ (s : State) (u : State) (p : Cpl) (f : OwFrame) (fine : Fin 32), s.isReady = true ∧ s.linkUpState p.no = true ∧ u = s.bump (Od.key (0x2410 + p.no) 9) ∧ u.keyed p.no = true ∧ u.keeper p.no = 1 ∧ u.owJudge p.no f (u.ctAt u.clock.counter fine) = 0 ∧ (u.mu.applied = false ∨ (f.hdr.hash.toNat : Int) = u.int 0x222001) ∧ f.fcsOk = true ∧ f.icvOk = true ∧ f.destination.toNat ≠ u.fuses.identity ∧ u.linkUpState (acrossPort p.no) = true ∧ u.owHeld (acrossPort p.no) + (f.bytes + 90) ≤ 262144) ∧
    (∃ (s : State) (u : State) (p : Cpl) (f : OwFrame) (fine : Fin 32), s.isReady = true ∧ s.linkUpState p.no = true ∧ u = s.bump (Od.key (0x2410 + p.no) 9) ∧ u.keyed p.no = true ∧ u.keeper p.no = 1 ∧ u.owJudge p.no f (u.ctAt u.clock.counter fine) = 0 ∧ (u.mu.applied = false ∨ (f.hdr.hash.toNat : Int) = u.int 0x222001) ∧ f.fcsOk = true ∧ f.icvOk = true ∧ f.destination.toNat ≠ u.fuses.identity ∧ u.linkUpState (acrossPort p.no) = true ∧ 262144 < u.owHeld (acrossPort p.no) + (f.bytes + 90)) := by
  refine ⟨⟨WL [(0x248401, n 1), (0x241204, n 2)], (WL [(0x248401, n 1), (0x241204, n 2)]).bump 0x241009, .fa, { otype := .mgmt, hdr := hd 0xA, bytes := 60, destination := 6 }, 0, ?_⟩,
   ⟨WLQ, WLQ.bump 0x241009, .fa, { otype := .mgmt, hdr := hd 0xA, bytes := 60, destination := 6 }, 0, ?_⟩⟩ <;> decide +kernel

theorem witness_FlightsAndPassages :
    (∃ (s : State), s.ctValid = false) ∧
    (∃ (s : State), s.isReady = true ∧ s.ctValid = true) ∧
    (∃ (s : State), s.isReady = true ∧ s.pair.inputs = [] ∧ s.startState = 1) ∧
    (∃ (s : State), s.isReady = true ∧ s.pair.inputs = []) ∧
    (∃ (s : State), s.isReady = true ∧ s.pair.inputs = []) ∧
    (∃ (s : State), s.isReady = true ∧ s.mu.adoptAt ≠ none) ∧
    (∃ (s : State), s.mu.adoptAt = none) := by
  refine ⟨⟨W, ?_⟩,
   ⟨W [(0x260001, n 2)], ?_⟩,
   ⟨W [(0x22100B, n 1)], ?_⟩,
   ⟨{ W [(0x240004, n 63)] with clock := { fresh := true } }, ?_⟩,
   ⟨{ W [(0x240004, n 63), (0x22100B, n 3), (0x260001, n 2)] with lock := { got := 5, silent := [(1,2)] } }, ?_⟩,
   ⟨{ W [(0x260001,n 2)] with mu := { adoptAt := some 5, adoptStep := 7 }, clock := { vals := [{ order := 1, chan := .a, d := 3 }] } }, ?_⟩,
   ⟨W, ?_⟩⟩ <;> decide +kernel

theorem witness_SlotsAreOriginated :
    (∃ (s : State) (p : Cpl) (idx : Fin 256) (x : Slot), s.isReady = true ∧ s.entry? (s.tableOut p.no) idx = some x ∧ s.isSender p.no x = true ∧ x.ptype = 1 ∧ s.gateStops p.no x = false ∧ s.mayCross p.no true = true) ∧
    (∃ (s : State) (p : Cpl) (idx : Fin 256) (x : Slot), s.isReady = true ∧ s.entry? (s.tableOut p.no) idx = some x ∧ s.isSender p.no x = true ∧ x.ptype = 2 ∧ s.gateStops p.no x = false ∧ s.mayCross p.no true = true) ∧
    (∃ (s : State) (p : Cpl) (idx : Fin 256) (x : Slot), s.isReady = true ∧ s.entry? (s.tableOut p.no) idx = some x ∧ s.isSender p.no x = true ∧ x.ptype ≠ 4 ∧ s.gateStops p.no x = true ∧ s.line.gateRefusedIn = some s.flight) ∧
    (∃ (s : State) (p : Cpl) (idx : Fin 256), (s.entry? (s.tableOut p.no) idx = none ∨ (∃ x, s.entry? (s.tableOut p.no) idx = some x ∧ s.isSender p.no x = false))) ∧
    (∃ (s : State) (p : Cpl) (idx : Fin 256), (s.entry? (s.tableOut p.no) idx = none ∨ (∃ x, s.entry? (s.tableOut p.no) idx = some x ∧ s.isSender p.no x = false))) ∧
    (∃ (s : State) (p : Cpl), s.linkUpState p.no = false) ∧
    (∃ (s : State) (u : State) (p : Cpl) (f : SlotFrame) (fine : Fin 32) (w : Int), s.isReady = true ∧ s.linkUpState p.no = true ∧ u = s.bump (Od.key (0x2410 + p.no) 9) ∧ u.keyed p.no = true ∧ u.linkState p.no = 2 ∧ u.keeper p.no = 1 ∧ f.hdr.ptype ≠ 4 ∧ u.mu.applied = true ∧ u.judge p.no f.hdr (u.ctAt u.clock.counter fine) = (0, w) ∧ (f.hdr.hash.toNat : Int) ≠ u.int 0x222001 ∧ u.mu.consist = none) ∧
    (∃ (s : State) (u : State) (p : Cpl) (f : SlotFrame) (fine : Fin 32) (w : Int), s.isReady = true ∧ s.linkUpState p.no = true ∧ u = s.bump (Od.key (0x2410 + p.no) 9) ∧ u.keyed p.no = true ∧ u.linkState p.no = 2 ∧ u.keeper p.no = 1 ∧ f.hdr.ptype ≠ 4 ∧ u.mu.applied = true ∧ u.judge p.no f.hdr (u.ctAt u.clock.counter fine) = (0, w) ∧ (f.hdr.hash.toNat : Int) = u.int 0x222001 ∧ f.hdr.passive = true ∧ isHead f.hdr.ptype.toNat = false) ∧
    (∃ (s : State) (u : State) (p : Cpl) (f : SlotFrame) (fine : Fin 32) (w : Int), s.isReady = true ∧ s.linkUpState p.no = true ∧ u = s.bump (Od.key (0x2410 + p.no) 9) ∧ u.keyed p.no = true ∧ u.linkState p.no = 2 ∧ u.keeper p.no = 1 ∧ f.hdr.ptype ≠ 4 ∧ u.mu.applied = true ∧ u.judge p.no f.hdr (u.ctAt u.clock.counter fine) = (0, w) ∧ (f.hdr.hash.toNat : Int) = u.int 0x222001 ∧ f.hdr.passive = false ∧ f.hdr.ptype ≠ 7 ∧ f.fcsOk = true ∧ f.icvOk = true) ∧
    (∃ (s : State) (u : State) (p : Cpl) (f : SlotFrame), s.isReady = true ∧ s.linkUpState p.no = true ∧ u = s.bump (Od.key (0x2410 + p.no) 9) ∧ u.keyed p.no = true ∧ u.linkState p.no ≠ 3 ∧ 2 ≤ u.keeper p.no ∧ f.hdr.ptype ≠ 4) := by
  refine ⟨⟨WL [] [sl 1], .fa, 0, sl 1, ?_⟩,
   ⟨WL [(0x222002, n 1)] [sl 2], .fa, 0, sl 2, ?_⟩,
   ⟨{ WL [(0x260001, n 4)] [sl 1] with line := { (WL [] [sl 1]).line with gateRefusedIn := some 0 } }, .fa, 0, sl 1, ?_⟩,
   ⟨WL [] [], .fa, 0, ?_⟩,
   ⟨WL [(0x260007, n 2)] [sl 1], .fa, 0, ?_⟩,
   ⟨W, .fa, ?_⟩,
   ⟨WL [(0x248401, n 1)] [sl 6], (WL [(0x248401, n 1)] [sl 6]).bump 0x241009, .fa, { hdr := { hd 6 with hash := 9 }, sender := 7 }, 0, 0, ?_⟩,
   ⟨WL [(0x248401, n 1)] [{ sl 6 with owner := 7 }], (WL [(0x248401, n 1)] [{ sl 6 with owner := 7 }]).bump 0x241009, .fa, { hdr := { hd 6 with passive := true }, sender := 7 }, 0, 0, ?_⟩,
   ⟨WL [(0x248401, n 1)] [sl 6], (WL [(0x248401, n 1)] [sl 6]).bump 0x241009, .fa, { hdr := hd 6, sender := 7 }, 0, 0, ?_⟩,
   ⟨WL [(0x248401, n 2)] [sl 6], (WL [(0x248401, n 2)] [sl 6]).bump 0x241009, .fa, { hdr := hd 6, sender := 7 }, ?_⟩⟩ <;> decide +kernel

theorem witness_FramesCrossTheLine :
    (∃ (s : State) (p : Cpl), s.isReady = true ∧ s.linkUpState p.no = true ∧ s.keyed p.no = true) ∧
    (∃ (s : State) (p : Cpl) (idx : Fin 256) (x : Held), s.isReady = true ∧ s.line.heldFrames.find? (fun x => decide (x.outPort = p.no ∧ x.hdr.slotIndex = idx.val)) = some x ∧ s.linkUpState p.no = true ∧ s.mayTransmit (isHead x.hdr.ptype.toNat) = true ∧ s.ctNow - x.egress ≤ s.guardUnits / 2 ∧ x.sync = none) ∧
    (∃ (s : State) (p : Cpl) (idx : Fin 256), s.isReady = true ∧ s.line.heldFrames.find? (fun x => decide (x.outPort = p.no ∧ x.hdr.slotIndex = idx.val)) = none) ∧
    (∃ (s : State) (p : Cpl) (f : SyncFrame) (w : Nat), s.isReady = true ∧ s.linkUpState p.no = true ∧ s.ctValid = true ∧ s.mu.applied = true ∧ f.slot ≠ 0 ∧ s.syncOk p.no f = true ∧ ((s.entry? (s.tableIn p.no) f.slot).map (·.start)).getD 0 = w) ∧
    (∃ (s : State) (p : Cpl) (x : OwItem) (q : List OwItem), s.isReady = true ∧ (s.pl p.no).owQueue = x :: q ∧ s.linkUpState p.no = true ∧ s.keyed p.no = true ∧ s.owFits p.no (wireTicks (s.nat (linkRec p.no + 5)) (90 + x.bytes)) = true ∧ s.silenced = false ∧ x.own = none) ∧
    (∃ (s : State) (u : State) (p : Cpl) (f : OwFrame) (fine : Fin 32), s.isReady = true ∧ s.linkUpState p.no = true ∧ u = s.bump (Od.key (0x2410 + p.no) 9) ∧ u.keyed p.no = true ∧ u.keeper p.no = 1 ∧ u.owJudge p.no f (u.ctAt u.clock.counter fine) = 0 ∧ (u.mu.applied = false ∨ (f.hdr.hash.toNat : Int) = u.int 0x222001) ∧ f.fcsOk = true ∧ f.icvOk = true) ∧
    (∃ (s : State) (u : State) (p : Cpl) (f : OwFrame) (fine : Fin 32), s.isReady = true ∧ s.linkUpState p.no = true ∧ u = s.bump (Od.key (0x2410 + p.no) 9) ∧ u.keyed p.no = true ∧ u.keeper p.no = 1 ∧ u.owJudge p.no f (u.ctAt u.clock.counter fine) = 0 ∧ (u.mu.applied = false ∨ (f.hdr.hash.toNat : Int) = u.int 0x222001) ∧ f.fcsOk = true ∧ f.icvOk = true) := by
  refine ⟨⟨{ WL with line := { (WL).line with heldFrames := [hl 0 3, hl 0 4] } }, .fa, ?_⟩,
   ⟨{ WL [(0x241204, n 2)] with line := { (WL).line with heldFrames := [hl 0 3, hl 0 4] } }, .aa, 4, hl 0 4, ?_⟩,
   ⟨WL, .aa, 4, ?_⟩,
   ⟨{ WL [] [sl 1, sl 1, sl 1] with line := { (WL [] [sl 1, sl 1, sl 1]).line with ports := [(0, { measured := true })] } }, .fa, { channel := .a, dir := .rearward, slot := 2, order := 3, senderInSync := true, coldStartNode := false, correction := 5, hops := 62, streamId := 9, senderBerth := 1, frameOk := true, length := 32 }, 0, ?_⟩,
   ⟨{ WL [(0x241005, n 3)] with line := { (WL).line with ports := [(0, { owQueue := [{ otype := .mgmt, bytes := 100 }, { otype := .lock, bytes := 3 }] })] } }, .fa, { otype := .mgmt, bytes := 100 }, [{ otype := .lock, bytes := 3 }], ?_⟩,
   ⟨WL [(0x248401, n 1), (0x241204, n 2)], (WL [(0x248401, n 1), (0x241204, n 2)]).bump 0x241009, .fa, { otype := .mgmt, hdr := hd 0xA, bytes := 60, destination := 5 }, 0, ?_⟩,
   ⟨WL [(0x248401, n 1), (0x241204, n 2)], (WL [(0x248401, n 1), (0x241204, n 2)]).bump 0x241009, .fa, { otype := .mgmt, hdr := hd 0xA, bytes := 60, destination := 6 }, 0, ?_⟩⟩ <;> decide +kernel

theorem witness_StatusFormsMembership :
    (∃ (s : State) (x : Status), s.isReady = true ∧ x.accepted = true ∧ 1 ≤ x.berth ∧ x.berth ≤ 64 ∧ x.viaTow = false ∧ x.channel = .a) ∧
    (∃ (s : State) (x : Status), s.isReady = true ∧ x.accepted = true ∧ 1 ≤ x.berth ∧ x.berth ≤ 64 ∧ x.viaTow = false ∧ x.channel = .b) ∧
    (∃ (x : Status), (x.accepted = false ∨ x.berth = 0 ∨ 64 < x.berth)) ∧
    (∃ (s : State) (w : Writer) (v : Byte), s.admits w 0x243003 [v] ∧ s.isLead = true ∧ s.int 0x243004 = 0 ∧ v ≠ 0 ∧ s.template v.toNat ≠ []) ∧
    (∃ (s : State) (w : Writer) (v : Byte), s.admits w 0x243003 [v] ∧ s.isLead = true ∧ s.int 0x243004 = 0 ∧ v ≠ 0 ∧ s.template v.toNat ≠ []) ∧
    (∃ (s : State) (w : Writer) (v : Byte), s.admits w 0x243003 [v] ∧ s.isLead = false) := by
  refine ⟨⟨WL, stt, ?_⟩,
   ⟨WL, { stt with channel := .b, berth := 64 }, ?_⟩,
   ⟨{ stt with berth := 65 }, ?_⟩,
   ⟨WA [(0x22200B, n 1), (0x244501, .bytes (List.replicate 32 1)), (0x222002, n 1), (0x248101, n 1)], Wr, 5, ?_⟩,
   ⟨WA [(0x22200B, n 1), (0x244501, .bytes (List.replicate 32 1)), (0x222002, n 1), (0x248101, n 3)], Wr, 5, ?_⟩,
   ⟨WA [(0x222007, n 99)], Wr, 5, ?_⟩⟩ <;> (try unfold State.admits) <;> decide +kernel

theorem witness_MarkersAndStarPorts :
    (∃ (s : State) (i : Fin 8), s.isReady = true ∧ s.int (Od.key (0x2468 + i) 1) ≠ 0 ∧ s.int (Od.key (0x2468 + i) 2) < s.passageLen ∧ (s.int (Od.key (0x2468 + i) 3) = 0xFF ∨ s.int (Od.key (0x2468 + i) 3) = s.passage) ∧ s.ctValid = true ∧ s.nat (Od.key (0x2468 + i) 4) < 12) ∧
    (∃ (s : State) (p : Fin 8), s.isReady = true ∧ s.starUp p = true) ∧
    (∃ (s : State) (u : State) (p : Fin 8) (id : BitVec 64) (bytes : Nat) (n : Nat) (fine : Fin 32), s.isReady = true ∧ s.starUp p = true ∧ u = s.bump (Od.key (0x2418 + p) 7) ∧ u.streamOf p id.toNat = some n ∧ u.starOpen p (u.ctAt u.clock.counter fine) = true ∧ u.int (Od.key (0x2498 + p) 5) = 0 ∧ u.int (Od.key (0x2498 + p) 3) < bytes ∧ u.int (Od.key (0x2498 + p) 4) ≠ 0) ∧
    (∃ (s : State) (u : State) (p : Fin 8) (id : BitVec 64) (bytes : Nat) (n : Nat) (fine : Fin 32), s.isReady = true ∧ s.starUp p = true ∧ u = s.bump (Od.key (0x2418 + p) 7) ∧ u.streamOf p id.toNat = some n ∧ u.starOpen p (u.ctAt u.clock.counter fine) = true ∧ u.int (Od.key (0x2498 + p) 5) = 0 ∧ bytes ≤ u.int (Od.key (0x2498 + p) 3)) ∧
    (∃ (s : State) (w : Writer) (p : Fin 8) (v : Byte), s.admits w (Od.key (0x2498 + p) 5) [v]) := by
  refine ⟨⟨W [(0x246901, n 1), (0x246902, n 249999), (0x246903, n 0xFF), (0x246904, n 4), (0x246905, n 900), (0x260001, n 2), (0x240005, n 250000)], 1, ?_⟩,
   ⟨W [(0x241904, n 2)], 1, ?_⟩,
   ⟨W [(0x241904, n 2), (0x249902, n 0), (0x249903, n 100), (0x249904, n 1), (0x281101, n 1), (0x281128, n 77), (0x281103, n 0x11)], (W [(0x241904, n 2), (0x249902, n 0), (0x249903, n 100), (0x249904, n 1), (0x281101, n 1), (0x281128, n 77), (0x281103, n 0x11)]).bump 0x241907, 1, 77, 101, 1, 0, ?_⟩,
   ⟨W [(0x241904, n 2), (0x249902, n 0), (0x249903, n 100), (0x249904, n 1), (0x281101, n 1), (0x281128, n 77), (0x281103, n 0x11)], (W [(0x241904, n 2), (0x249902, n 0), (0x249903, n 100), (0x249904, n 1), (0x281101, n 1), (0x281128, n 77), (0x281103, n 0x11)]).bump 0x241907, 1, 77, 100, 1, 0, ?_⟩,
   ⟨WA [(0x249905, n 1)], Wr, 1, 0, ?_⟩⟩ <;> (try unfold State.admits) <;> decide +kernel

theorem witness_MakingUpIsTriggered :
    (∃ (s : State) (on : Bool), s.isReady = true ∧ s.mu.cab ≠ on ∧ s.int 0x340101 ≠ 2 ∧ s.muState ≠ 3 ∧ s.mu.held = none) ∧
    (∃ (s : State) (w : Writer) (v : Byte), s.admits w 0x221101 [v] ∧ s.int 0x340101 ≠ 2 ∧ s.muState ≠ 3 ∧ s.mu.held = none) ∧
    (∃ (s : State), s.isReady = true ∧ (s.muState = 1 ∨ s.muState = 2) ∧ s.int 0x22100A + 1 < 4 ∧ s.int 0x340101 ≠ 2 ∧ s.mu.held = none) ∧
    (∃ (s : State), s.isReady = true ∧ (s.muState = 1 ∨ s.muState = 2) ∧ 4 ≤ s.int 0x22100A + 1 ∧ s.sleepAgreed = false) ∧
    (∃ (s : State) (p : Cpl), s.isReady = true ∧ s.linkUpState p.no = true ∧ s.drives (if portB p.no then .b else .a) = true) ∧
    (∃ (s : State) (p : Cpl) (m : MakeUp), s.isReady = true ∧ s.linkUpState p.no = true ∧ m.frameOk = true ∧ m.protectedFrame = s.keyed p.no) ∧
    (∃ (s : State) (p : Cpl) (m : MakeUp), (s.linkUpState p.no = false ∨ m.frameOk = false ∨ m.protectedFrame ≠ s.keyed p.no)) := by
  refine ⟨⟨W [(0x221002, n 0xFFFF)], true, ?_⟩,
   ⟨WA, Wr, 1, ?_⟩,
   ⟨W [(0x221001, n 1), (0x22100A, n 2)], ?_⟩,
   ⟨W [(0x221001, n 2), (0x22100A, n 3)], ?_⟩,
   ⟨W [(0x241004, n 2)], .fa, ?_⟩,
   ⟨W [(0x241004, n 2)], .fa, { mkup with protectedFrame := false }, ?_⟩,
   ⟨W, .fa, { mkup with protectedFrame := false }, ?_⟩⟩ <;> (try unfold State.admits) <;> decide +kernel

theorem witness_ClusterTimeStartsAndIsCorrected :
    (∃ (s : State), s.isReady = true ∧ s.startState = 0 ∧ s.nat 0x220004 ≠ 0 ∧ s.clock.running = true ∧ s.ctValid = false) ∧
    (∃ (s : State) (p : Cpl) (f : ColdStart), s.isReady = true ∧ s.coldLink p.no = true ∧ f.valid = true ∧ s.isRunning = true) ∧
    (∃ (s : State) (p : Cpl) (f : ColdStart), s.isReady = true ∧ s.coldLink p.no = true ∧ f.valid = true ∧ s.startState = 0) ∧
    (∃ (s : State), s.isReady = true ∧ s.startState = 1) ∧
    (∃ (s : State), s.isReady = true ∧ s.startState = 2) ∧
    (∃ (s : State), s.isReady = true ∧ s.mu.measuring ≠ 0 ∧ s.mu.adoptAt = none ∧ s.mu.lastAt = s.mu.firstAt) ∧
    (∃ (s : State), s.isReady = true ∧ s.timeState = 2 ∧ 4 ≤ s.avgVals.length ∧ s.deltaRejected = false) ∧
    (∃ (s : State), s.isReady = true ∧ s.timeState = 2 ∧ s.avgVals.length < 4 ∧ s.clock.rejects < 2) ∧
    (∃ (s : State), s.isReady = true ∧ s.timeState = 2 ∧ 4 ≤ s.avgVals.length ∧ s.deltaRejected = true ∧ s.clock.rejects = 1) ∧
    (∃ (s : State), s.isReady = true ∧ s.timeState = 3 ∧ s.nat 0x260104 * 64 ≤ s.clock.holdPassages ∧ s.int 0x26000D = 0) := by
  refine ⟨⟨{ W [(0x220004, n 2), (0x22100B, n 0)] with clock := { running := true, counter := 77 } }, ?_⟩,
   ⟨W [(0x241004, n 2), (0x312401, n 2), (0x22100B, n 3)], .fa, { rank := 1, passage := 3, sender := 9, egress := 100, hops := 0, pathDelay := 0 }, ?_⟩,
   ⟨W [(0x241004, n 2), (0x312401, n 2)], .fa, { rank := 1, passage := 3, sender := 9, egress := 100, hops := 0, pathDelay := 0 }, ?_⟩,
   ⟨{ W [(0x22100B, n 1)] with mu := { attempt := 64, listen := 2 } }, ?_⟩,
   ⟨{ W [(0x22100B, n 2)] with mu := { silent := 4, listen := 2 } }, ?_⟩,
   ⟨{ W [(0x240005, n 250000)] with mu := { measuring := 1, firstAt := 7, lastAt := 7, lastDiff := 9 } }, ?_⟩,
   ⟨{ W [(0x260001, n 2), (0x260102, n 100)] with clock := { vals := [{ order := 1, chan := .a, d := 5 }, { order := 2, chan := .a, d := 5 }, { order := 3, chan := .a, d := 5 }, { order := 1, chan := .b, d := 700 }] } }, ?_⟩,
   ⟨W [(0x260001, n 2)], ?_⟩,
   ⟨{ W [(0x260001, n 2), (0x260102, n 0)] with clock := { rejects := 1, vals := [{ order := 1, chan := .a, d := 5000 }, { order := 2, chan := .a, d := 5000 }, { order := 3, chan := .a, d := 5000 }, { order := 1, chan := .b, d := 70000 }] } }, ?_⟩,
   ⟨{ W [(0x260001, n 3), (0x260104, n 2)] with clock := { holdPassages := 128 } }, ?_⟩⟩ <;> decide +kernel

theorem witness_LinksAndManagedRegisters :
    (∃ (s : State) (p : Cpl) (rate : Fin 4), s.isReady = true ∧ s.int (Od.key (0x2410 + p.no) 4) = 1 ∧ (rate.val : Int) ≤ s.int (Od.key (0x2410 + p.no) 3) ∧ (s.pl p.no).measured = false) ∧
    (∃ (s : State) (p : Cpl) (rate : Fin 4), s.isReady = true ∧ s.int (Od.key (0x2410 + p.no) 4) = 1 ∧ (rate.val : Int) ≤ s.int (Od.key (0x2410 + p.no) 3) ∧ (s.pl p.no).measured = false) ∧
    (∃ (s : State) (p : Cpl), s.isReady = true ∧ s.linkUpState p.no = true) ∧
    (∃ (s : State) (p : Cpl), s.isReady = true ∧ s.linkState p.no = 3 ∧ s.limitsMet p.no = true) ∧
    (∃ (s : State) (p : Fin 8), s.isReady = true ∧ s.int (Od.key (0x2418 + p) 1) ≠ 0) ∧
    (∃ (s : State) (p : Fin 8), s.isReady = true ∧ s.int (Od.key (0x2410 + p.val % 4) 1) ≠ 0) ∧
    (∃ (s : State) (p : Fin 8), s.isReady = true ∧ s.int (Od.key (0x2418 + p) 1) ≠ 0) ∧
    (∃ (s : State) (w : Writer) (j : MdioJob), s.line.mdio = none ∧ j = { write := false, master := s.nat 0x242801, phy := s.nat 0x242802, dev := s.nat 0x242803, reg := s.nat 0x242804, value := s.nat 0x242805 } ∧ s.admits w 0x242806 [1] ∧ s.admits w 0x242806 [2]) ∧
    (∃ (s : State) (w : Writer), s.line.mdio ≠ none ∧ s.admits w 0x242806 [1] ∧ s.admits w 0x242806 [2]) ∧
    (∃ (s : State) (j : MdioJob), s.isReady = true ∧ s.line.mdio = some j ∧ j.write = true) ∧
    (∃ (s : State) (j : MdioJob), s.isReady = true ∧ s.line.mdio = some j ∧ j.write = false) := by
  refine ⟨⟨W [(0x241004, n 1), (0x241003, n 3), (0x2E0004, n 2)], .fa, 2, ?_⟩,
   ⟨W [(0x241004, n 1), (0x241003, n 3), (0x2E0004, n 2)], .fa, 1, ?_⟩,
   ⟨W [(0x241004, n 3), (0x312401, n 3)], .fa, ?_⟩,
   ⟨W [(0x241004, n 3), (0x241005, n 3)], .fa, ?_⟩,
   ⟨W [(0x241801, n 1)], 0, ?_⟩,
   ⟨W [(0x241101, n 1), (0x241102, n 6)], 1, ?_⟩,
   ⟨W [(0x241801, n 1)], 0, ?_⟩,
   ⟨WA [(0x242801, n 1), (0x242805, n 9)], Wr, { write := false, master := 1, phy := (WA.nat 0x242802), dev := (WA.nat 0x242803), reg := (WA.nat 0x242804), value := 9 }, ?_⟩,
   ⟨{ WA with line := { mdio := some { write := true, master := 0, phy := 0, dev := 0, reg := 0, value := 0 } } }, Wr, ?_⟩,
   ⟨{ W with line := { mdio := some { write := true, master := 0, phy := 0, dev := 0, reg := 0, value := 0 } } }, { write := true, master := 0, phy := 0, dev := 0, reg := 0, value := 0 }, ?_⟩,
   ⟨{ W with line := { mdio := some { write := false, master := 0, phy := 0, dev := 0, reg := 0, value := 0 } } }, { write := false, master := 0, phy := 0, dev := 0, reg := 0, value := 0 }, ?_⟩⟩ <;> (try unfold State.admits) <;> decide +kernel

theorem witness_GptpPorts :
    (∃ (s : State) (p : Fin 8) (number : Fin 128) (d : Dom), s.isReady = true ∧ s.inputIn p number = some d ∧ s.starUp p = true ∧ s.ctValid = true) ∧
    (∃ (s : State) (p : Fin 8) (number : Fin 128), s.inputIn p number = none) ∧
    (∃ (s : State) (p : Fin 8) (number : Fin 128) (seqNo : Nat) (ct : Int) (d : Dom), s.isReady = true ∧ s.inputIn p number = some d ∧ (s.gp p).sync = some (seqNo, ct)) ∧
    (∃ (s : State) (p : Fin 8), s.isReady = true ∧ s.gptpMeasures p = true ∧ (s.star p).queue = [] ∧ s.starFree p 68 = true) ∧
    (∃ (s : State) (p : Fin 8), s.isReady = true ∧ s.clock.counter < (s.star p).busyUntil ∧ s.gptpMeasures p = true ∧ s.starUp p = true ∧ s.servedValid p = true ∧ s.gptpServes p = true) ∧
    (∃ (s : State) (p : Fin 8) (t1 : Int), s.isReady = true ∧ (s.gp p).reqAt = some t1) ∧
    (∃ (s : State) (p : Fin 8) (number : Fin 128) (d : Dom), s.isReady = true ∧ s.inputIn p number = some d) ∧
    (∃ (s : State) (p : Fin 8) (d : Dom), s.isReady = true ∧ s.inputOf p = some d) ∧
    (∃ (s : State) (p : Fin 8), s.isReady = true ∧ s.starUp p = true ∧ s.servedValid p = true ∧ (s.star p).queue = [] ∧ s.starFree p 58 = true) ∧
    (∃ (s : State) (p : Fin 8), s.isReady = true ∧ s.gptpServes p = true ∧ (s.star p).queue = [] ∧ s.starFree p 90 = true ∧ s.sliceWaits p = false) ∧
    (∃ (s : State) (p : Fin 8), s.isReady = true ∧ s.gptpMeasures p = true ∧ (s.star p).queue = [] ∧ s.starFree p 68 = true) ∧
    (∃ (s : State), s.isReady = true) := by
  refine ⟨⟨WT, 3, 0, .ta, ?_⟩,
   ⟨WT, 3, 5, ?_⟩,
   ⟨{ WT with clock := { gptp := [(3, { sync := some (7, 99) })] } }, 3, 0, 7, 99, .ta, ?_⟩,
   ⟨WT, 3, ?_⟩,
   ⟨{ WT with clock := { star := [(4, { busyUntil := 9 })] } }, 4, ?_⟩,
   ⟨{ WT with clock := { gptp := [(3, { reqAt := some 5 })], counter := 400 } }, 3, 5, ?_⟩,
   ⟨WT, 3, 0, .ta, ?_⟩,
   ⟨{ WT with clock := { gptp := [(3, { sync := some (7, 99) })], ta := { offers := true } } }, 3, .ta, ?_⟩,
   ⟨WT, 4, ?_⟩,
   ⟨WT, 4, ?_⟩,
   ⟨WT, 4, ?_⟩,
   ⟨WT, ?_⟩⟩ <;> decide +kernel

theorem witness_DomainsAndNetworkTime :
    (∃ (s : State) (d : Dom), s.isReady = true ∧ s.int (domSt d + 1) = 1 ∧ 4 < s.int (domSt d + 7)) ∧
    (∃ (s : State) (d : Dom), s.isReady = true ∧ 64 ≤ (s.domain d).orphan ∧ s.int (domSt d + 1) ≠ 0 ∧ s.clock.ntDom = some d) ∧
    (∃ (s : State) (d : Dom) (origin : BitVec 64) (rel : List Byte), s.isReady = true ∧ (s.nodeOpen origin.toNat = true ∨ origin.toNat = s.fuses.identity) ∧ s.int (domSt d + 3) = origin.toNat ∧ rel.length = 14) ∧
    (∃ (s : State) (w : Writer) (v : Byte), s.admits w 0x261805 [v] ∧ s.isLead = true) ∧
    (∃ (s : State) (d : Dom) (tsw : Int), s.isReady = true ∧ s.ctNow ≤ tsw ∧ (s.clock.ntDom ≠ some d ∨ s.clock.ntNext ≠ none)) ∧
    (∃ (s : State) (d : Dom), s.isReady = true ∧ s.clock.ntDom = some d ∧ s.clock.ntNext = none) ∧
    (∃ (s : State) (d : Dom) (tsw : Int), s.isReady = true ∧ s.clock.ntNext = some (d, tsw)) ∧
    (∃ (s : State) (d : Dom), s.isReady = true ∧ s.clock.ntDom = some d ∧ s.clock.ntSlewing = true ∧ s.slewAt s.ctNow = 0) ∧
    (∃ (s : State) (d : Dom), s.isReady = true ∧ s.clock.ntDom = some d ∧ s.clock.ntSlewing = true ∧ s.slewAt s.ctNow = 0) ∧
    (∃ (s : State) (d : Dom), s.isReady = true ∧ s.isLead = true ∧ s.int 0x261803 = 1 ∧ s.clock.ntDom = some d ∧ s.int (domSt d + 1) ≠ 1 ∧ s.int (domSt (otherDom d) + 1) = 1) ∧
    (∃ (s : State), s.hostServed = true ∧ s.ctValid = true) := by
  refine ⟨⟨W [(domSt .ta + 1, n 1), (domSt .ta + 7, n 5)], .ta, ?_⟩,
   ⟨{ W [(domSt .ta + 1, n 2)] with clock := { ntDom := some .ta, ta := { orphan := 64 } } }, .ta, ?_⟩,
   ⟨W [(domSt .tb + 3, n 5)], .tb, 5, List.replicate 14 1, ?_⟩,
   ⟨WA [(0x22200B, n 1)], Wr, 2, ?_⟩,
   ⟨W, .tb, 5000, ?_⟩,
   ⟨{ W with clock := { ntDom := some .tb } }, .tb, ?_⟩,
   ⟨{ W with clock := { ntNext := some (.tb, 500) } }, .tb, 500, ?_⟩,
   ⟨{ W with clock := { ntDom := some .tb, ntSlewing := true, ntS0 := 0 } }, .tb, ?_⟩,
   ⟨{ W with clock := { ntDom := some .tb, ntSlewing := true, ntS0 := 0, ntCounted := false } }, .tb, ?_⟩,
   ⟨{ W [(0x22200B, n 1), (0x261803, n 1), (domSt .tb + 1, n 1)] with clock := { ntDom := some .ta } }, .ta, ?_⟩,
   ⟨{ W [(0x260001, n 2)] with clock := { counter := 55 } }, ?_⟩⟩ <;> (try unfold State.admits) <;> decide +kernel

theorem witness_PulsesAndCaptures :
    (∃ (s : State) (w : Writer) (i : Fin 12) (data : List Byte) (x : Int), s.admits w (Od.key (0x2630 + i) 0x0A) data ∧ written (Od.key (0x2630 + i) 0x0A) data = .num x ∧ s.int (Od.key (0x2630 + i) 1) ≠ 0 ∧ s.int (Od.key (0x2630 + i) 2) = 0 ∧ s.int (Od.key (0x2630 + i) 0x13) = 0 ∧ s.baseValid (s.int (Od.key (0x2630 + i) 3)) = true ∧ s.pulseNow i + 65536000 ≤ x) ∧
    (∃ (s : State) (i : Fin 12) (x : Int), s.isReady = true ∧ (s.pulse i).next = some x ∧ s.baseValid (s.int (Od.key (0x2630 + i) 3)) = true ∧ s.int (Od.key (0x2630 + i) 2) = 0) ∧
    (∃ (s : State) (i : Fin 12) (j : Nat), s.isReady = true ∧ j ≠ i) ∧
    (∃ (s : State) (c : Fin 4), s.clock.running = true ∧ s.inStep = false ∧ s.int (Od.key (0x2650 + c) 1) ≠ 0 ∧ s.int (Od.key (0x2650 + c) 2) = 3 ∧ s.baseValid (s.int (Od.key (0x2650 + c) 3)) = true ∧ (s.fifo c).length < 16) ∧
    (∃ (s : State), s.clock.running = false) ∧
    (∃ (s : State) (w : Writer) (c : Fin 4) (v : Byte), s.admits w (Od.key (0x2650 + c) 0x13) [v]) := by
  refine ⟨⟨WA [(Od.key 0x2633 1, n 1), (Od.key 0x2633 2, n 0), (0x260001, n 2)], Wr, 3, [0, 0, 0, 0, 1, 0, 0, 0, 0, 0], (match written (Od.key 0x2633 0x0A) [0, 0, 0, 0, 1, 0, 0, 0, 0, 0] with | .num x => x | _ => 0), ?_⟩,
   ⟨{ W [(Od.key 0x2633 1, n 1), (Od.key 0x2633 2, n 0), (0x260001, n 2)] with clock := { pulses := [(3, { next := some 5 })] } }, 3, 5, ?_⟩,
   ⟨{ W with clock := { pulses := [(3, { high := true })] } }, 3, 4, ?_⟩,
   ⟨{ W [(Od.key 0x2652 1, n 1), (Od.key 0x2652 2, n 3), (0x260001, n 2)] with clock := { running := true } }, 2, ?_⟩,
   ⟨State.reset, ?_⟩,
   ⟨{ WA with clock := { captures := [(2, [{ stamp := 5, rising := true, invalid := false }])] } }, Wr, 2, 1, ?_⟩⟩ <;> (try unfold State.admits) <;> decide +kernel

theorem witness_PowerOnReachesReady :
    (∃ (s : State), s.power.phase = .reset ∧ (s.power.cause = 1 ∨ s.power.cause = 8)) ∧
    (∃ (s : State), s.power.phase = .reset ∧ (s.power.cause = 1 ∨ s.power.cause = 8)) ∧
    (∃ (s : State), s.power.phase = .off) ∧
    (∃ (s : State), s.power.phase ≠ .off) ∧
    (∃ (s : State) (image : Fin 3), s.power.phase = .booting ∧ s.power.refFault = false ∧ image ≠ 0) ∧
    (∃ (s : State), s.power.phase = .booting ∧ s.power.refFault = false) ∧
    (∃ (s : State), s.power.phase = .verified) ∧
    (∃ (s : State), s.power.phase = .reset ∧ 2 ≤ s.power.cause ∧ (s.power.cause ≤ 7 ∨ s.power.cause = 9)) ∧
    (∃ (s : State), s.power.phase = .reset ∧ 2 ≤ s.power.cause ∧ (s.power.cause ≤ 7 ∨ s.power.cause = 9)) := by
  refine ⟨⟨WPw { phase := .reset, cause := 1 }, ?_⟩,
   ⟨WPw { phase := .reset, cause := 8 }, ?_⟩,
   ⟨WPw { phase := .off }, ?_⟩,
   ⟨W, ?_⟩,
   ⟨WPw { phase := .booting }, 2, ?_⟩,
   ⟨WPw { phase := .booting }, ?_⟩,
   ⟨WPw { phase := .verified }, ?_⟩,
   ⟨{ WPw { phase := .reset, cause := 7 } with trust := { released := true } }, ?_⟩,
   ⟨WPw { phase := .reset, cause := 9 }, ?_⟩⟩ <;> decide +kernel

theorem witness_ResetsTakeTheirCause :
    (∃ (s : State), (s.power.phase = .booting ∨ s.power.phase = .verified ∨ s.power.phase = .noImage ∨ s.power.phase = .ready)) ∧
    (∃ (s : State), (s.power.phase = .booting ∨ s.power.phase = .verified ∨ s.power.phase = .noImage ∨ s.power.phase = .ready)) ∧
    (∃ (s : State), (s.power.phase = .booting ∨ s.power.phase = .verified ∨ s.power.phase = .noImage ∨ s.power.phase = .ready) ∧ s.fuses.debugClosed = false ∧ (s.int 0x310001 ≠ 1 ∨ s.trust.debugUnlocked = true)) ∧
    (∃ (s : State), (s.power.phase = .booting ∨ s.power.phase = .verified ∨ s.power.phase = .noImage ∨ s.power.phase = .ready) ∧ s.power.refFault = true) ∧
    (∃ (s : State), s.power.phase = .reset) ∧
    (∃ (s : State), s.power.phase = .ready) ∧
    (∃ (s : State) (pair : Fin 8) (c : Nat), s.power.phase = .ready ∧ Tab.find? s.power.lockstep pair = some c ∧ s.clock.counter < c + 312500000) ∧
    (∃ (s : State) (pair : Fin 8), s.power.phase = .ready ∧ Tab.find? s.power.lockstep pair = none) ∧
    (∃ (s : State), s.power.phase = .ready) ∧
    (∃ (s : State) (w : Writer) (v : Byte), s.admits w 0x21020B [v]) := by
  refine ⟨⟨W, ?_⟩,
   ⟨WPw { phase := .noImage }, ?_⟩,
   ⟨W, ?_⟩,
   ⟨WPw { phase := .ready, refFault := true }, ?_⟩,
   ⟨WPw { phase := .reset, cause := 4 }, ?_⟩,
   ⟨W, ?_⟩,
   ⟨{ WPw { phase := .ready, lockstep := [(3, 0)] } with clock := { counter := 312499999 } }, 3, 0, ?_⟩,
   ⟨W, 3, ?_⟩,
   ⟨W, ?_⟩,
   ⟨WA, Wr, 1, ?_⟩⟩ <;> (try unfold State.admits) <;> decide +kernel

theorem witness_SuppliesAndMemoriesAreWatched :
    (∃ (s : State), s.isReady = true) ∧
    (∃ (s : State), s.isReady = true) ∧
    (∃ (s : State) (target : Nat), s.isReady = true ∧ 720 ≤ s.int 0x210101 ∧ s.int 0x210101 ≤ 900 ∧ 720 ≤ (target : Int) ∧ (target : Int) ≤ 900 ∧ s.int 0x210101 ≤ target + 5 ∧ (target : Int) ≤ s.int 0x210101 + 5) ∧
    (∃ (s : State), s.isReady = true ∧ 720 ≤ s.int 0x210101 ∧ s.int 0x210101 ≤ 900) ∧
    (∃ (s : State) (x : Fin 8) (v : Int), s.isReady = true ∧ s.int (Od.key (0x2110 + x) 5) = 0 ∧ s.int (Od.key (0x2110 + x) 4) < v ∧ v ≤ 1500) ∧
    (∃ (s : State) (i : Fin 30), s.isReady = true ∧ s.power.islands.getLsbD i = false) ∧
    (∃ (s : State), s.power.phase ≠ .off ∧ s.power.phase ≠ .moored ∧ s.power.refFault = false) ∧
    (∃ (s : State), s.power.phase ≠ .off ∧ s.power.phase ≠ .moored ∧ s.power.refFault = true ∧ s.timeState ≠ 4 ∧ s.timeState ≠ 0) ∧
    (∃ (s : State), (s.power.phase = .off ∨ s.power.phase = .moored)) ∧
    (∃ (s : State) (k : Nat), s.power.refFault = true ∧ k ≠ 0x210401) ∧
    (∃ (s : State) (corrected : Nat) (uncorrectable : Nat), s.isReady = true ∧ corrected = 1 ∧ uncorrectable = 0) ∧
    (∃ (s : State), s.isReady = true) ∧
    (∃ (s : State) (uncorrectable : Nat), s.isReady = true ∧ uncorrectable ≠ 0) ∧
    (∃ (s : State), s.isReady = true) ∧
    (∃ (s : State) (w : Writer) (v : Byte), s.admits w 0x210505 [v] ∧ s.power.scrubbing = false) ∧
    (∃ (s : State), s.isReady = true ∧ s.int 0x210501 ≤ s.int 0x210502 ∧ s.power.scrubbing = false) ∧
    (∃ (s : State), s.isReady = true ∧ s.power.scrubbing = true ∧ s.int 0x210506 + 64 < 8192) ∧
    (∃ (s : State), s.isReady = true ∧ s.power.scrubbing = true ∧ s.int 0x210506 + 64 < 8192) ∧
    (∃ (s : State), s.isReady = true ∧ s.power.scrubbing = true ∧ 8192 ≤ s.int 0x210506 + 64) := by
  refine ⟨⟨W [(0x210904, n 7)], ?_⟩,
   ⟨W [(0x210904, n 7)], ?_⟩,
   ⟨W [(0x210101, n 899)], 900, ?_⟩,
   ⟨W [(0x210101, n 800)], ?_⟩,
   ⟨W [(0x211304, n 1000)], 3, 1200, ?_⟩,
   ⟨WPw { phase := .ready, latched := 1 <<< 104 }, 1, ?_⟩,
   ⟨W, ?_⟩,
   ⟨{ WPw { phase := .ready, refFault := true } [(0x260001, n 2), (0x22100B, n 3)] with mu := { integrated := true } }, ?_⟩,
   ⟨{ W with power := { phase := .moored, refFault := true } }, ?_⟩,
   ⟨WPw { phase := .ready, refFault := true } [(0x210401, n 2)], 0x210403, ?_⟩,
   ⟨W, 1, 0, ?_⟩,
   ⟨W, ?_⟩,
   ⟨W, 1, ?_⟩,
   ⟨{ W with slices := { incoming := [{ h := shd, chan := .a, got := [] }] } }, ?_⟩,
   ⟨WA, Wr, 1, ?_⟩,
   ⟨W [(0x210501, n 100), (0x210502, n 100)], ?_⟩,
   ⟨WPw { phase := .ready, scrubbing := true } [(0x210506, n 64)], ?_⟩,
   ⟨WPw { phase := .ready, scrubbing := true } [(0x210506, n 64), (0x210503, n 3)], ?_⟩,
   ⟨WPw { phase := .ready, scrubbing := true } [(0x210506, n 8128), (0x210502, n 100)], ?_⟩⟩ <;> (try unfold State.admits) <;> decide +kernel

theorem witness_CommitsAreChecked :
    (∃ (s : State) (u : State) (w : Writer) (c : Nat) (f : Nat × Nat), s.admits w 0x201001 [1] ∧ u = ((({ s with dict := { s.dict with holder := some w } } : State).bump 0x201003).put 0x201002 1).opStart 1 18 ∧ u.commitFault = some (c, f)) ∧
    (∃ (s : State) (u : State) (w : Writer), s.admits w 0x201001 [1] ∧ u = ((({ s with dict := { s.dict with holder := some w } } : State).bump 0x201003).put 0x201002 1).opStart 1 18 ∧ u.commitFault = none) ∧
    (∃ (s : State) (w : Writer), s.admits w 0x201001 [2]) ∧
    (∃ (s : State), s.int 0x201002 ≠ 2) ∧
    (∃ (s : State), s.isReady = true ∧ s.storesRun = true ∧ s.int 0x201002 = 2 ∧ s.mram.storeFails = true ∧ s.dict.holder ≠ none) ∧
    (∃ (s : State), s.isReady = true ∧ s.storesRun = true ∧ s.int 0x201002 = 2 ∧ s.mram.storeFails = false ∧ s.isRunning = true ∧ s.dict.staging.any (fun e => isInstallation e.1) = false) ∧
    (∃ (s : State), s.isReady = true ∧ s.committing = false ∧ s.dict.holder ≠ none) ∧
    (∃ (s : State), (s.committing = true ∨ s.dict.holder = none)) ∧
    (∃ (s : State), s.isReady = true ∧ s.storesRun = true ∧ s.mram.storeFails = false) ∧
    (∃ (s : State), s.mram.storeFails = true) := by
  refine ⟨⟨WA [(0x2010FF, n 0)], ((({ (WA [(0x2010FF, n 0)]) with dict := { (WA [(0x2010FF, n 0)]).dict with holder := some Wr } } : State).bump 0x201003).put 0x201002 1).opStart 1 18, Wr, 1, (0, 0), ?_⟩,
   ⟨{ WA with dict := { staging := [(0x240105, .num 5)] } }, ((({ ({ WA with dict := { staging := [(0x240105, .num 5)] } }) with dict := { ({ WA with dict := { staging := [(0x240105, .num 5)] } }).dict with holder := some Wr } } : State).bump 0x201003).put 0x201002 1).opStart 1 18, Wr, ?_⟩,
   ⟨{ WA with dict := { staging := [(0x240105, .num 5)], holder := some Wr } }, Wr, ?_⟩,
   ⟨W, ?_⟩,
   ⟨{ W [(0x201002, n 2)] with mram := { storeFails := true }, dict := { holder := some Wr } }, ?_⟩,
   ⟨{ W [(0x201002, n 2), (0x22100B, n 3)] with dict := { staging := [(0x240105, .num 5)], holder := some Wr } }, ?_⟩,
   ⟨{ WA with dict := { staging := [(0x240105, .num 5)], holder := some Wr } }, ?_⟩,
   ⟨W, ?_⟩,
   ⟨WA, ?_⟩,
   ⟨{ W with mram := { storeFails := true } }, ?_⟩⟩ <;> (try unfold State.admits) <;> decide +kernel

theorem witness_EntriesAreWritten :
    (∃ (s : State) (a : Access) (data : List Byte), s.admits a.writer (Od.key a.index a.sub) data ∧ s.action a.writer (Od.key a.index a.sub) data = none ∧ s.plainStatus (Od.key a.index a.sub) = 0 ∧ s.power.resetDue = none ∧ Od.key a.index a.sub ≠ 0x312001) ∧
    (∃ (s : State) (a : Access) (data : List Byte), s.isReady = true ∧ s.sdoClosed a.writer = false ∧ s.inStep = false ∧ s.writeStatus a.writer (Od.key a.index a.sub) data ≠ 0 ∧ s.power.resetDue = none ∧ Od.key a.index a.sub ≠ 0x312001) ∧
    (∃ (s : State) (e : BitVec 4), s.bar0Up = true ∧ e ≠ 0xF) ∧
    (∃ (s : State), s.bar0Up = false) ∧
    (∃ (s : State) (w : Writer), s.isReady = true ∧ s.sdoClosed w = false) ∧
    (∃ (s : State) (w : Writer), s.isReady = true ∧ s.sdoClosed w = false) ∧
    (∃ (s : State), s.bar0Up = true) ∧
    (∃ (s : State) (a : Access), s.isReady = true ∧ Od.key a.index a.sub ≠ 0x314001) ∧
    (∃ (s : State) (a : Access), s.isReady = true ∧ Od.key a.index a.sub = 0x314001 ∧ s.opRunning 2 = true ∧ s.dict.segWrites.any (fun x => decide (x.writer = a.writer) && decide (x.key = Od.key a.index a.sub)) = true) ∧
    (∃ (s : State) (w : Writer) (k : Fin 7) (v : Byte), s.admits w (Od.key (0x3F01 + k) 0x0A) [v] ∧ k ≠ 1 ∧ k ≠ 4) ∧
    (∃ (s : State) (w : Writer) (k : Fin 7) (v : Byte), s.admits w (Od.key (0x3F01 + k) 0x0A) [v] ∧ (k = 1 ∨ k = 4) ∧ s.opRunning (k + 1) = false) ∧
    (∃ (s : State) (w : Writer) (k : Fin 7) (v : Byte), s.admits w (Od.key (0x3F01 + k) 0x0A) [v] ∧ (k = 1 ∨ k = 4) ∧ s.opRunning (k + 1) = false) ∧
    (∃ (s : State) (w : Writer) (v : Byte), s.admits w 0x3F020A [v] ∧ s.opRunning 2 = true) ∧
    (∃ (s : State) (w : Writer) (v : Byte), s.admits w 0x210003 [v] ∧ s.isRunning = true) ∧
    (∃ (s : State) (w : Writer), s.admits w 0x210003 [1] ∧ s.isRunning = false ∧ s.int 0x210001 = 0) := by
  refine ⟨⟨WA, { writer := Wr, index := 0x2102, sub := 2 }, [0, 0, 0, 0], ?_⟩,
   ⟨WA, { writer := Wr, index := 0x2102, sub := 2 }, [5], ?_⟩,
   ⟨W, 3, ?_⟩,
   ⟨State.reset, ?_⟩,
   ⟨W, { path := .host }, ?_⟩,
   ⟨W, { path := .host }, ?_⟩,
   ⟨W, ?_⟩,
   ⟨{ WA with dict := { segWrites := [{ writer := Wr, key := 0x350001, total := 9, data := [1] }] } }, { writer := Wr, index := 0x3500, sub := 1 }, ?_⟩,
   ⟨{ WA [(0x3F0201, n 1)] with dict := { segWrites := [{ writer := Wr, key := 0x314001, total := 9, data := [1] }] } }, { writer := Wr, index := 0x3140, sub := 1 }, ?_⟩,
   ⟨WA, Wr, 0, 1, ?_⟩,
   ⟨WA, Wr, 1, 1, ?_⟩,
   ⟨WA, Wr, 4, 1, ?_⟩,
   ⟨WA [(0x3F0201, n 1)], Wr, 1, ?_⟩,
   ⟨WA [(0x22100B, n 3)], Wr, 1, ?_⟩,
   ⟨WA, Wr, ?_⟩⟩ <;> (try unfold State.admits) <;> decide +kernel

theorem witness_MessagesCarryAccesses :
    (∃ (s : State) (w : Writer) (data : List Byte) (d : Nat), s.admits w 0x201802 data ∧ d = Tab.get 0 s.dict.relayDest (pathNo w.path) ∧ s.reachable d = false) ∧
    (∃ (s : State) (w : Writer) (data : List Byte) (d : Nat), s.admits w 0x201802 data ∧ d = Tab.get 0 s.dict.relayDest (pathNo w.path) ∧ s.reachable d = true) ∧
    (∃ (s : State) (w : Writer) (b : BundleObj), s.isReady = true ∧ s.writeStatus w 0x315001 [] = 0 ∧ s.bundleResult b ≠ 0) ∧
    (∃ (s : State) (w : Writer), s.isReady = true ∧ s.writeStatus w 0x315001 [] ≠ 0) ∧
    (∃ (s : State) (w : Writer) (b : BundleObj), s.isReady = true ∧ s.writeStatus w 0x315001 [] = 0 ∧ s.bundleResult b = 0 ∧ s.committing = false ∧ s.dict.holder = none ∧ (∀ e ∈ b.entries, s.writeStatus { path := .bundle } (Od.key e.index e.sub) e.data = 0) ∧ b.commit = false) ∧
    (∃ (s : State) (w : Writer) (b : BundleObj), s.isReady = true ∧ s.writeStatus w 0x315001 [] = 0 ∧ s.bundleResult b = 0 ∧ s.committing = false ∧ s.dict.holder = none ∧ (∀ e ∈ b.entries, s.writeStatus { path := .bundle } (Od.key e.index e.sub) e.data = 0) ∧ b.commit = false ∧ b.entries = []) ∧
    (∃ (s : State), s.isReady = true ∧ s.trust.sessions = []) ∧
    (∃ (s : State) (n : Fin 8) (seq : Nat) (x : Session), s.isReady = true ∧ s.trust.sessions = [(n.val, x)] ∧ x.established = true ∧ x.path = .host ∧ seq = x.seqIn + 1 ∧ s.secondsSince x.openedAt < 86400 ∧ s.trustTime ≤ x.chain.notAfter ∧ s.host.exec = 0) ∧
    (∃ (s : State) (cmd : Word32), s.bar0Up = true ∧ s.isReady = true ∧ cmd.getLsbD 30 = false ∧ s.host.busy = false ∧ s.host.resp = false ∧ s.host.request = none ∧ s.host.mbOff = 0 ∧ cmd.toNat % 2 ^ 11 ≠ 0 ∧ cmd.toNat % 2 ^ 11 ≤ 1024 ∧ cmd.toNat % 2 ^ 11 < s.host.mbLen ∧ s.host.mbLen ≤ 4194368 ∧ cmd.toNat / 2 ^ 12 % 4 ≤ 2) ∧
    (∃ (s : State), s.bar0Up = false) ∧
    (∃ (s : State) (f : MgmtFrame), s.isReady = true ∧ s.inStep = false ∧ s.ownDestination f.destination.toNat = true ∧ s.dict.seen = [] ∧ s.dict.reassembly = [] ∧ f.length < f.total) ∧
    (∃ (s : State) (f : MgmtFrame), s.ownDestination f.destination.toNat = false ∧ s.isButty = false) ∧
    (∃ (s : State), s.isReady = true) ∧
    (∃ (s : State) (p : Path) (x : Nat × Path), s.isReady = true ∧ s.dict.awaiting.find? (fun x => decide (x.2 = p)) = some x ∧ (p ≠ .host ∨ s.host.exec = 0)) ∧
    (∃ (s : State) (p : Path), s.dict.awaiting.find? (fun x => decide (x.2 = p)) = none) ∧
    (∃ (s : State), s.isReady = true ∧ (s.canPort 0).service.length < 16) := by
  refine ⟨⟨WA, Wr, [1, 2], 0, ?_⟩,
   ⟨{ WA with dict := { relayDest := [(1, 7)] }, trust := { (WA).trust with nodes := [{ peer := 7, established := true, serial := [], seqIn := 1 }] } }, Wr, [1, 2], 7, ?_⟩,
   ⟨WA, Wr, { sequence := 0, scope := none, commit := false, entries := [], chain := chn, signatureOk := true }, ?_⟩,
   ⟨W, Wr, ?_⟩,
   ⟨WA [(0x310002, .bytes (List.replicate 32 0))], Wr, { sequence := 3, scope := none, commit := false, entries := [{ index := 0x1017, sub := 0, data := [1, 0] }], chain := { chn with notAfter := 2^80 }, signatureOk := true }, ?_⟩,
   ⟨WA, Wr, { sequence := 3, scope := none, commit := false, entries := [], chain := { chn with notAfter := 2^80 }, signatureOk := true }, ?_⟩,
   ⟨W, ?_⟩,
   ⟨WA, 0, 1, { path := .host, role := 4, established := true, chain := chn }, ?_⟩,
   ⟨{ W with host := { mbLen := 8, buf := [(0x100, 3)] } }, 4, ?_⟩,
   ⟨State.reset, ?_⟩,
   ⟨W, { destination := 5, origin := 7, number := 1, total := 20, offset := 0, length := 10, content := .relayed [1] }, ?_⟩,
   ⟨W, { destination := 6, origin := 7, number := 1, total := 20, offset := 0, length := 10, content := .relayed [1] }, ?_⟩,
   ⟨{ W with dict := { reassembly := [{ origin := 7, number := 1, kind := 0, total := 20, got := [(0, 10)] }] } }, ?_⟩,
   ⟨{ W with dict := { awaiting := [(7, .host), (8, .mgmt)] } }, .mgmt, (8, .mgmt), ?_⟩,
   ⟨W, .mgmt, ?_⟩,
   ⟨WC 0, ?_⟩⟩ <;> (try unfold State.admits) <;> decide +kernel

theorem witness_ClaimWindowsClose :
    (∃ (s : State) (w : Writer) (cert : List Byte), s.admits w 0x311001 cert ∧ s.claimed = false ∧ s.windowOpen = true ∧ s.mram.storeFails = false) ∧
    (∃ (s : State) (w : Writer) (cert : List Byte), s.admits w 0x311001 cert ∧ s.claimed = false ∧ s.windowOpen = false) ∧
    (∃ (s : State) (w : Writer) (cert : List Byte) (v : Byte), s.claimed = true ∧ s.admits w 0x311001 cert ∧ s.admits w 0x311002 [v]) ∧
    (∃ (s : State) (w : Writer) (v : Byte), s.admits w 0x311002 [v] ∧ s.claimed = false ∧ s.windowOpen = true ∧ s.bytes 0x311001 ≠ [] ∧ s.mram.storeFails = false ∧ s.int 0x310003 < 255) ∧
    (∃ (s : State) (w : Writer) (v : Byte) (ca : Bool), s.admits w 0x311002 [v] ∧ s.claimed = false ∧ s.windowOpen = true ∧ (s.bytes 0x311001 = [] ∨ ca = false)) ∧
    (∃ (s : State) (w : Writer) (v : Byte) (ca : Bool) (self : Bool), s.admits w 0x311002 [v] ∧ s.claimed = false ∧ s.windowOpen = true ∧ s.bytes 0x311001 ≠ [] ∧ ca = true ∧ self = false) ∧
    (∃ (s : State) (w : Writer) (v : Byte), s.admits w 0x311002 [v] ∧ s.claimed = false ∧ s.windowOpen = false) ∧
    (∃ (s : State) (w : Writer) (data : List Byte), s.admits w 0x311004 data ∧ written 0x311004 data = .num s.fuses.identity) ∧
    (∃ (s : State) (w : Writer) (data : List Byte), s.admits w 0x311004 data ∧ written 0x311004 data ≠ .num s.fuses.identity ∧ s.power.resetDue = none) := by
  refine ⟨⟨{ W with trust := { windowPin := true } }, { path := .host }, [1, 2], ?_⟩,
   ⟨W, { path := .host }, [1, 2], ?_⟩,
   ⟨WA, Wr, [1], 1, ?_⟩,
   ⟨{ W [(0x311001, .bytes [1, 2])] with trust := { windowPin := true, windowRole := true } }, { path := .host }, 1, ?_⟩,
   ⟨{ W with trust := { windowPin := true } }, { path := .host }, 1, true, ?_⟩,
   ⟨{ W [(0x311001, .bytes [1, 2])] with trust := { windowPin := true } }, { path := .host }, 1, true, false, ?_⟩,
   ⟨W, { path := .host }, 1, ?_⟩,
   ⟨WA, Wr, [5, 0, 0, 0, 0, 0, 0, 0], ?_⟩,
   ⟨WA, Wr, [6, 0, 0, 0, 0, 0, 0, 0], ?_⟩⟩ <;> (try unfold State.admits) <;> decide +kernel

theorem witness_SessionsOpenAndClose :
    (∃ (s : State) (u : State) (p : Path) (c : Chain), s.isReady = true ∧ u = { s with trust := { s.trust with sessions := s.trust.sessions.filter (fun e => !(decide (e.2.path = p) && !e.2.established)) } } ∧ u.sessionsOf p < pathLimit p ∧ u.sessionsAll < 8 ∧ u.freeSession < 8 ∧ u.chainResult c = 0) ∧
    (∃ (s : State) (u : State) (p : Path) (c : Chain), s.isReady = true ∧ u = { s with trust := { s.trust with sessions := s.trust.sessions.filter (fun e => !(decide (e.2.path = p) && !e.2.established)) } } ∧ u.sessionsOf p < pathLimit p ∧ u.sessionsAll < 8 ∧ u.freeSession < 8 ∧ u.chainResult c = 0) ∧
    (∃ (s : State) (c : DeviceCert), s.isReady = true ∧ s.peerResult c = 0 ∧ (s.trust.nodes.filter (fun x => decide (x.peer ≠ c.identity.toNat))).length < 64) ∧
    (∃ (s : State) (p : Path) (n : Fin 8) (seq : Nat) (x : Session), s.isReady = true ∧ Tab.find? s.trust.sessions n = some x ∧ x.established = false ∧ x.path = p ∧ seq = x.seqIn + 1) ∧
    (∃ (s : State) (id : BitVec 64) (seq : Nat), s.isReady = true ∧ s.trust.nodes.any (fun x => decide (x.peer = id.toNat) && !x.established && decide (seq = x.seqIn + 1)) = true) ∧
    (∃ (s : State) (p : Path) (n : Fin 8) (seq : Nat) (x : Session), s.isReady = true ∧ Tab.find? s.trust.sessions n = some x ∧ x.path = p ∧ seq = x.seqIn + 1) ∧
    (∃ (s : State) (n : Fin 8) (x : Session), s.isReady = true ∧ Tab.find? s.trust.sessions n = some x ∧ s.dict.holder = none) ∧
    (∃ (s : State) (n : Fin 8) (x : Session), s.isReady = true ∧ Tab.find? s.trust.sessions n = some x ∧ s.committing = false ∧ s.dict.holder = some { path := x.path, session := some n }) ∧
    (∃ (s : State) (w : Writer) (data : List Byte), s.admits w 0x311201 data ∧ s.mram.storeFails = false) ∧
    (∃ (s : State) (w : Writer) (i : Fin 8) (data : List Byte), s.admits w (0x311101 + i) data ∧ s.mram.storeFails = false) ∧
    (∃ (s : State) (w : Writer) (v : Byte), s.admits w 0x312202 [v]) ∧
    (∃ (s : State), s.isReady = true) := by
  refine ⟨⟨WA [(0x310002, .bytes [7])], { (WA [(0x310002, .bytes [7])]) with trust := { (WA).trust with sessions := (WA).trust.sessions.filter (fun e => !(decide (e.2.path = Path.host) && !e.2.established)) } }, .host, { chn with rootHash := [7], notAfter := 2^80 }, ?_⟩,
   ⟨WA [(0x310002, .bytes [7])], { (WA [(0x310002, .bytes [7])]) with trust := { (WA).trust with sessions := (WA).trust.sessions.filter (fun e => !(decide (e.2.path = Path.can) && !e.2.established)) } }, .can, { chn with rootHash := [7], notAfter := 2^80 }, ?_⟩,
   ⟨W, { identity := 7, chainsToGwynrex := true, serial := [1], ownerHash := [], claimed := false }, ?_⟩,
   ⟨{ W with trust := { sessions := [(3, { path := .host, role := 4, seqIn := 1, chain := chn })] } }, .host, 3, 2, { path := .host, role := 4, seqIn := 1, chain := chn }, ?_⟩,
   ⟨{ W with trust := { nodes := [{ peer := 7, serial := [], seqIn := 1 }] } }, 7, 2, ?_⟩,
   ⟨WA, .host, 0, 1, { path := .host, role := 4, established := true, chain := chn }, ?_⟩,
   ⟨WA, 0, { path := .host, role := 4, established := true, chain := chn }, ?_⟩,
   ⟨{ WA with dict := { holder := some Wr, staging := [(0x101700, n 5)] } }, 0, { path := .host, role := 4, established := true, chain := chn }, ?_⟩,
   ⟨{ WA with trust := { (WA).trust with cache := [{ identity := 7, ownerHash := [], expiry := 5 }] } }, Wr, [1], ?_⟩,
   ⟨{ WA with trust := { (WA).trust with cache := [{ identity := 7, ownerHash := [], expiry := 5 }] } }, Wr, 7, List.replicate 32 1, ?_⟩,
   ⟨{ WA with trust := { (WA).trust with cache := [{ identity := 7, ownerHash := [], expiry := 5 }] } }, Wr, 1, ?_⟩,
   ⟨{ W with trust := { cache := [{ identity := 7, ownerHash := [], expiry := 0 }, { identity := 7, ownerHash := [], expiry := 5 }] } }, ?_⟩⟩ <;> (try unfold State.admits) <;> decide +kernel

theorem witness_NeighboursAuthenticate :
    (∃ (s : State) (p : Cpl), s.isReady = true ∧ s.linkUpState p.no = true ∧ s.keyed p.no = false ∧ (s.au p.no).offered = true) ∧
    (∃ (s : State) (p : Cpl), s.isReady = true ∧ s.linkUpState p.no = true ∧ s.keyed p.no = false ∧ (s.au p.no).offered = true) ∧
    (∃ (s : State) (p : Cpl), s.isReady = true ∧ (s.au p.no).gotOffer = true ∧ s.keyed p.no = false) ∧
    (∃ (s : State) (p : Cpl) (c : DeviceCert), s.isReady = true ∧ (s.au p.no).certs = some c ∧ s.keyed p.no = false ∧ s.peerResult c = 0 ∧ (s.au p.no).gotConfirm = false) ∧
    (∃ (s : State) (p : Cpl) (c : DeviceCert), s.isReady = true ∧ (s.au p.no).certs = some c ∧ s.keyed p.no = false) ∧
    (∃ (s : State) (p : Cpl), s.isReady = true ∧ (s.au p.no).resume = true ∧ s.keyed p.no = false ∧ (s.au p.no).gotConfirm = false) ∧
    (∃ (s : State) (p : Cpl), s.isReady = true ∧ (s.au p.no).gotOffer = true ∧ s.keyed p.no = false ∧ (s.au p.no).sentConfirm = true) ∧
    (∃ (s : State) (p : Cpl), s.isReady = true ∧ (s.au p.no).gotOffer = true ∧ s.keyed p.no = false ∧ (s.au p.no).sentConfirm = true) ∧
    (∃ (s : State) (p : Cpl), s.isReady = true ∧ s.keyed p.no = false) ∧
    (∃ (s : State) (p : Cpl), s.isReady = true ∧ s.int (Od.key (0x2240 + p.no) 2) = 4 ∧ s.linkUpState p.no = true ∧ s.keyed p.no = false) := by
  refine ⟨⟨WN { offered := true, own := 4 }, .ab, ?_⟩,
   ⟨{ WN { offered := true, own := 4 } with trust := { (WN { offered := true, own := 4 }).trust with cache := [{ identity := 7, ownerHash := [], expiry := 5 }] } }, .ab, ?_⟩,
   ⟨WN { offered := true, gotOffer := true, own := 4 }, .ab, ?_⟩,
   ⟨WN { offered := true, gotOffer := true, own := 4, certs := some dcert }, .ab, dcert, ?_⟩,
   ⟨WN { offered := true, gotOffer := true, own := 4, certs := some dcert }, .ab, dcert, ?_⟩,
   ⟨WN { offered := true, gotOffer := true, own := 4, resume := true }, .ab, ?_⟩,
   ⟨WN { offered := true, gotOffer := true, own := 4, resume := true, sentConfirm := true, accepted := true }, .ab, ?_⟩,
   ⟨WN { offered := true, gotOffer := true, own := 4, certs := some dcert, sentConfirm := true, accepted := true }, .ab, ?_⟩,
   ⟨WN { offered := true }, .ab, ?_⟩,
   ⟨WN {} [(0x224302, n 4)], .ab, ?_⟩⟩ <;> decide +kernel

theorem witness_LinksRekey :
    (∃ (s : State) (p : Cpl), s.isReady = true ∧ s.int (Od.key (0x3124 + p.no) 1) = 2) ∧
    (∃ (s : State) (p : Cpl) (identity : BitVec 64), s.isReady = true ∧ s.keyed p.no = true ∧ (s.au p.no).rekeySent = false ∨ identity.toNat ≤ s.fuses.identity) ∧
    (∃ (s : State) (p : Cpl) (identity : BitVec 64), s.isReady = true ∧ s.keyed p.no = true ∧ (s.au p.no).rekeySent = false ∨ identity.toNat ≤ s.fuses.identity) ∧
    (∃ (s : State) (p : Cpl), s.isReady = true ∧ s.int (Od.key (0x3124 + p.no) 1) = 3 ∧ (s.au p.no).rekeySent = true ∨ (s.au p.no).rekeyGot = true) ∧
    (∃ (s : State) (p : Cpl), s.isReady = true ∧ s.int (Od.key (0x3124 + p.no) 1) = 3 ∧ (s.au p.no).rekeySent = true ∨ (s.au p.no).rekeyGot = true) ∧
    (∃ (s : State) (source : BitVec 64), s.isReady = true ∧ s.nodeOpen source.toNat = true) ∧
    (∃ (s : State) (sink : BitVec 64) (view : Fin 16) (inst : Nat) (epoch : Nat) (x : Epochs), s.isReady = true ∧ s.nodeOpen sink.toNat = true ∧ x ∈ s.trust.streams ∧ x.source = 0 ∧ x.sink = sink.toNat ∧ x.view = view.val ∧ x.instanceNo = inst ∧ x.delivered = epoch ∧ x.waiting = false) := by
  refine ⟨⟨WN {} [(0x312701, n 2)], .ab, ?_⟩,
   ⟨WN {} [(0x312701, n 2)], .ab, 9, ?_⟩,
   ⟨WN { rekeySent := true } [(0x312701, n 3)], .ab, 5, ?_⟩,
   ⟨WN { rekeySent := true } [(0x312701, n 3)], .ab, ?_⟩,
   ⟨WN { rekeyGot := true, rkConfirmSent := true } [(0x312701, n 3)], .ab, ?_⟩,
   ⟨{ W with trust := { nodes := [{ peer := 7, serial := [], seqIn := 1, established := true }] } }, 7, ?_⟩,
   ⟨{ W with trust := { nodes := [{ peer := 7, serial := [], seqIn := 1, established := true }], streams := [{ view := 2, instanceNo := 1, sink := 7, epoch := 4, delivered := 5 }] } }, 7, 2, 1, 5, { view := 2, instanceNo := 1, sink := 7, epoch := 4, delivered := 5 }, ?_⟩⟩ <;> decide +kernel

theorem witness_ImagesAndFloor :
    (∃ (s : State) (w : Writer) (img : Image), s.isReady = true ∧ s.writeStatus w 0x314001 [] = 0 ∧ img.signatureOk = true ∧ s.fuses.rollback ≤ img.security) ∧
    (∃ (s : State) (w : Writer), s.power.phase = .noImage ∧ w.path ≠ .host) ∧
    (∃ (s : State) (w : Writer) (v : Byte), s.admits w 0x314007 [v]) ∧
    (∃ (s : State), s.power.pendingImage = true) ∧
    (∃ (s : State), s.power.pendingImage = true ∧ s.power.phase = .ready) ∧
    (∃ (s : State) (w : Writer) (v : Byte), s.admits w 0x314008 [v] ∧ v.toNat ≤ s.imageSecurity (s.nat 0x314006)) ∧
    (∃ (s : State) (w : Writer) (v : Byte), s.admits w 0x314008 [v] ∧ s.imageSecurity (s.nat 0x314006) < v.toNat) := by
  refine ⟨⟨WA, Wr, { version := 8, security := 3, bytes := 100, signatureOk := true }, ?_⟩,
   ⟨{ W with power := { phase := .noImage } }, { path := .can }, ?_⟩,
   ⟨WA, Wr, 2, ?_⟩,
   ⟨{ W [(0x314006, n 2)] with power := { phase := .ready, pendingImage := true } }, ?_⟩,
   ⟨{ W [(0x314006, n 2)] with power := { phase := .ready, pendingImage := true } }, ?_⟩,
   ⟨WA [(0x314006, n 2), (0x314005, n 3)], Wr, 3, ?_⟩,
   ⟨WA [(0x314006, n 2), (0x314005, n 3)], Wr, 4, ?_⟩⟩ <;> (try unfold State.admits) <;> decide +kernel

theorem witness_DebugAndTrustTime :
    (∃ (s : State) (w : Writer) (data : List Byte), s.admits w 0x316001 data ∧ s.fuses.debugClosed = false ∧ written 0x316001 data = .num s.fuses.identity) ∧
    (∃ (s : State) (w : Writer) (c : Chain), s.admits w 0x316003 [] ∧ s.fuses.debugClosed = false ∧ s.trust.challenge ≠ none ∧ s.chainResult c = 0 ∧ c.role = 4) ∧
    (∃ (s : State) (w : Writer) (data : List Byte) (v : Byte), s.fuses.debugClosed = true ∧ s.admits w 0x316003 [] ∧ s.admits w 0x316001 data ∧ s.admits w 0x316004 [v]) ∧
    (∃ (s : State), s.isReady = true) ∧
    (∃ (s : State) (w : Writer) (v : Byte), s.admits w 0x316004 [v] ∧ s.fuses.debugClosed = false) ∧
    (∃ (s : State), s.isReady = true ∧ s.ntValid = true) := by
  refine ⟨⟨WA, Wr, [5, 0, 0, 0, 0, 0, 0, 0], ?_⟩,
   ⟨{ WA [(0x310002, .bytes [7])] with trust := { (WA).trust with challenge := some [1] } }, Wr, { chn with rootHash := [7], notAfter := 2^80 }, ?_⟩,
   ⟨{ WA with fuses := { identity := 5, debugClosed := true } }, Wr, [5, 0, 0, 0, 0, 0, 0, 0], 1, ?_⟩,
   ⟨W, ?_⟩,
   ⟨WA, Wr, 1, ?_⟩,
   ⟨{ W [(0x261901, n 1)] with clock := { ntDom := some .ta, counter := 55 } }, ?_⟩⟩ <;> (try unfold State.admits) <;> decide +kernel

theorem witness_LogbookWritesReports :
    (∃ (s : State) (r : Record) (q : List Record), s.isReady = true ∧ s.storesRun = true ∧ s.log.queue = r :: q ∧ (∀ a : Record, s.log.newest r.cls = some a → s.mergesAtWriting r a = false)) ∧
    (∃ (s : State) (r : Record) (q : List Record), s.isReady = true ∧ s.storesRun = true ∧ s.log.queue = r :: q ∧ (∀ a : Record, s.log.newest r.cls = some a → s.mergesAtWriting r a = false)) ∧
    (∃ (s : State) (r : Record) (q : List Record), s.isReady = true ∧ s.storesRun = true ∧ s.log.queue = r :: q ∧ s.log.newest r.cls = none ∧ (s.log.permOf r.cls).length < s.log.permCap r.cls) ∧
    (∃ (s : State) (r : Record) (a : Record) (q : List Record), s.isReady = true ∧ s.storesRun = true ∧ s.log.queue = r :: q ∧ s.log.newest r.cls = some a ∧ a.sameKey r = true ∧ a.code ≠ 0x0103 ∧ r.opSec < a.opSec + s.nat (Od.key (0x3510 + r.cls) 3)) ∧
    (∃ (s : State) (h : Fin 24) (v : Int), s.isReady = true ∧ (h ≠ 21 ∨ s.int 0x260001 = 2 ∨ s.int 0x260001 = 3) ∧ v < s.int (Od.key (0x35E8 + h) 1) ∧ s.int (Od.key (0x35E8 + h) 4) < v) ∧
    (∃ (s : State), s.int 0x260001 ≠ 2 ∧ s.int 0x260001 ≠ 3) ∧
    (∃ (s : State), s.isReady = true ∧ s.storesRun = true ∧ s.log.counts ≠ []) ∧
    (∃ (s : State) (x : ClearTokenObj), s.isReady = true ∧ s.claimed = true ∧ s.clearResult x = 0) ∧
    (∃ (s : State) (x : ClearTokenObj), s.isReady = true ∧ s.claimed = true ∧ s.clearResult x ≠ 0) ∧
    (∃ (s : State) (x : ClearTokenObj), s.isReady = true ∧ s.claimed = true ∧ s.clearResult x ≠ 0) := by
  refine ⟨⟨WLg { queue := [rec_] } [(0x350001, n 0xFFFFFFFF)], rec_, [], ?_⟩,
   ⟨WLg { queue := [{ rec_ with code := 9 }], perm := [(3, [{ rec_ with opSec := 99 }])], permSize := [(3, 1)] } [(0x351303, n 10)], { rec_ with code := 9 }, [], ?_⟩,
   ⟨WLg { queue := [rec_] }, rec_, [], ?_⟩,
   ⟨WLg { queue := [rec_], perm := [(3, [{ rec_ with opSec := 99 }])] } [(0x351303, n 10)], rec_, { rec_ with opSec := 99 }, [], ?_⟩,
   ⟨WLg {} [(0x35E801, n 100), (0x35E804, n 3), (0x200101, n 55), (0x200102, n 2)], 0, 50, ?_⟩,
   ⟨WLg, ?_⟩,
   ⟨WLg { counts := [(3, 7)] }, ?_⟩,
   ⟨WA, { wellFormed := true, identity := 5, number := 1, mask := 3, chain := chn, signatureOk := true }, ?_⟩,
   ⟨WA, { wellFormed := true, identity := 6, number := 1, mask := 3, chain := chn, signatureOk := true }, ?_⟩,
   ⟨{ WA with log := { history := List.replicate 16 { number := 0, mask := 0, opSec := 0, cycles := 0, serial := [] } } }, { wellFormed := true, identity := 5, number := 1, mask := 3, chain := chn, signatureOk := true }, ?_⟩⟩ <;> decide +kernel

theorem witness_LogbookIsCollected :
    (∃ (s : State) (w : Writer) (v : Byte), s.admits w 0x350304 [v] ∧ s.int 0x3F0501 ≠ 1) ∧
    (∃ (s : State) (origin : BitVec 64) (destination : BitVec 64) (number : BitVec 32), s.isReady = true ∧ destination.toNat = s.fuses.identity ∧ s.nodeOpen origin.toNat = true ∧ s.log.served.length < 4 ∧ s.log.served.any (fun x => decide (x.collector = origin.toNat ∧ x.number = number.toNat)) = false) ∧
    (∃ (s : State) (origin : BitVec 64) (destination : BitVec 64) (number : BitVec 32), s.isReady = true ∧ destination.toNat = s.fuses.identity ∧ s.nodeOpen origin.toNat = true ∧ 4 ≤ s.log.served.length ∧ s.log.served.any (fun x => decide (x.collector = origin.toNat ∧ x.number = number.toNat)) = false) ∧
    (∃ (s : State) (origin : BitVec 64) (destination : BitVec 64) (number : BitVec 32), s.isReady = true ∧ destination.toNat = s.fuses.identity ∧ (s.nodeOpen origin.toNat = false ∨ s.log.served.any (fun x => decide (x.collector = origin.toNat ∧ x.number = number.toNat)) = true)) ∧
    (∃ (s : State) (number : BitVec 32) (offset : BitVec 32), s.isReady = true ∧ s.log.collecting = some number.toNat ∧ offset.toNat = s.log.collected.length) ∧
    (∃ (s : State) (number : BitVec 32), s.isReady = true ∧ s.log.collecting = some number.toNat) ∧
    (∃ (s : State) (number : BitVec 32), s.isReady = true ∧ s.log.collecting = some number.toNat) ∧
    (∃ (s : State), s.isReady = true ∧ s.log.collecting ≠ none) ∧
    (∃ (s : State), s.isReady = true) := by
  refine ⟨⟨WA [(0x350301, n 9)], Wr, 1, ?_⟩,
   ⟨{ W with trust := { nodes := [{ peer := 44, serial := [], established := true }] } }, 44, 5, 3, ?_⟩,
   ⟨{ W with trust := { nodes := [{ peer := 44, serial := [], established := true }] }, log := { served := List.replicate 4 { collector := 1, number := 2, image := [] } } }, 44, 5, 3, ?_⟩,
   ⟨{ W with trust := { nodes := [{ peer := 44, serial := [], established := true }] }, log := { served := List.replicate 4 { collector := 44, number := 3, image := [] } } }, 44, 5, 3, ?_⟩,
   ⟨WLg { collecting := some 3, collected := [7] }, 3, 1, ?_⟩,
   ⟨WLg { collecting := some 3, collected := [7] } [(0x3F0501, n 1)], 3, ?_⟩,
   ⟨WLg { collecting := some 3, collected := [7] } [(0x3F0501, n 1)], 3, ?_⟩,
   ⟨WLg { collecting := some 3, collected := [7] } [(0x3F0501, n 1)], ?_⟩,
   ⟨WLg { served := [{ collector := 1, number := 2, image := [] }] }, ?_⟩⟩ <;> (try unfold State.admits) <;> decide +kernel

theorem witness_GateOffersSources :
    (∃ (s : State) (x : Fin 4), s.hostServed = true ∧ s.gate.asleep x = false ∧ Gate.highest (s.gate.claimable x) ≠ 0) ∧
    (∃ (s : State) (x : Fin 4), s.hostServed = true ∧ (s.gate.asleep x = true ∨ s.gate.claimable x = 0)) ∧
    (∃ (s : State) (x : Fin 4), s.hostServed = true ∧ (s.gate.asleep x = true ∨ s.gate.claimable x = 0)) ∧
    (∃ (s : State) (x : Fin 4) (v : Word32), s.hostServed = true ∧ Gate.has s.gate.inServ (v.toNat % 256) = true ∧ Tab.get 0 s.gate.server (v.toNat % 256) = x ∧ v.toNat % 256 ≠ 195) ∧
    (∃ (s : State) (x : Fin 4) (v : Word32), s.hostServed = true ∧ (Gate.has s.gate.inServ (v.toNat % 256) = false ∨ Tab.get 0 s.gate.server (v.toNat % 256) ≠ x)) ∧
    (∃ (s : State) (x : Fin 4) (v : Word32), s.hostServed = true ∧ (Gate.has s.gate.inServ (v.toNat % 256) = false ∨ Tab.get 0 s.gate.server (v.toNat % 256) ≠ x)) ∧
    (∃ (s : State), s.hostServed = true) ∧
    (∃ (s : State), s.hostServed = true ∧ s.lock.errs = []) ∧
    (∃ (s : State), s.hostServed = true) ∧
    (∃ (s : State), s.hostServed = true) ∧
    (∃ (s : State) (x : Fin 4) (y : Nat), s.hostServed = true ∧ y ≠ x) ∧
    (∃ (s : State) (x : Fin 4), s.hostServed = true ∧ s.gate.vecPend.getLsbD x = true ∧ s.gate.claimable x ≠ 0 ∧ s.pcie = true ∧ s.gate.msixEn x = true) ∧
    (∃ (s : State) (x : Fin 4), s.hostServed = true ∧ s.gate.vecPend.getLsbD x = false) := by
  refine ⟨⟨WG { pend := 5 <<< 7, mask := 0, routeLo := 0xFFF, routeHi := 0xFFF }, 3, ?_⟩,
   ⟨WG { pend := 5 <<< 7, mask := 0, ctrl := [(0, 1)] }, 0, ?_⟩,
   ⟨WG, 0, ?_⟩,
   ⟨WG { inServ := 1 <<< 9, server := [(9, 2)] }, 2, 0x109, ?_⟩,
   ⟨WG, 2, 9, ?_⟩,
   ⟨WG { inServ := 1 <<< 9, server := [(9, 2)] }, 1, 9, ?_⟩,
   ⟨WG { inServ := 1 <<< 40 }, ?_⟩,
   ⟨WG { inServ := 1 <<< 40, pend := 1 <<< 195 }, ?_⟩,
   ⟨WG { mask := 0xFF <<< 40 }, ?_⟩,
   ⟨WG { ovr := 0xFF <<< 40 }, ?_⟩,
   ⟨WG { ctrl := [(2, 7)] }, 1, 2, ?_⟩,
   ⟨WG { vecPend := 2, mask := 0, pend := 1 <<< 8, routeLo := 1 <<< 8 } { msixEnabled := true }, 1, ?_⟩,
   ⟨WG { vecPend := 2 }, 0, ?_⟩⟩ <;> decide +kernel

theorem witness_HostPortControl :
    (∃ (s : State), s.mailboxUp = true) ∧
    (∃ (s : State), s.mailboxUp = true) ∧
    (∃ (s : State), s.mailboxUp = true ∧ s.host.resp = true ∧ s.host.response.length ≤ s.host.roff + s.host.rchk) ∧
    (∃ (s : State), s.mailboxUp = true ∧ s.host.resp = true ∧ s.host.roff + s.host.rchk < s.host.response.length) ∧
    (∃ (s : State), s.mailboxUp = true ∧ s.host.resp = false ∧ s.host.request ≠ none) ∧
    (∃ (s : State), s.bar0Up = true) ∧
    (∃ (s : State), s.bar0Up = true ∧ s.power.hostSel = 0) ∧
    (∃ (s : State) (up : Bool), s.power.hostSel = 0 ∧ s.isReady = true ∧ s.host.linkUp ≠ up) ∧
    (∃ (s : State) (up : Bool), s.power.hostSel = 0 ∧ s.power.phase ≠ .off ∧ s.isReady = false ∧ s.host.linkUp ≠ up) := by
  refine ⟨⟨WG {} { exec := 1, resp := true, request := some { length := 4, kind := 0, data := [] } }, ?_⟩,
   ⟨WG {} { next := true, resp := true, response := [1] }, ?_⟩,
   ⟨WG {} { resp := true, response := [1, 2], roff := 0, rchk := 2 }, ?_⟩,
   ⟨WG {} { resp := true, response := List.replicate 1500 7, roff := 0, rchk := 1024 }, ?_⟩,
   ⟨WG {} { request := some { length := 4, kind := 0, data := [] } }, ?_⟩,
   ⟨WG {} { err := 7 }, ?_⟩,
   ⟨WG {} { resp := true, mbLen := 4, response := [1] }, ?_⟩,
   ⟨W, true, ?_⟩,
   ⟨{ W with power := { phase := .booting } }, true, ?_⟩⟩ <;> decide +kernel

theorem witness_HostRequestsOfTheLock :
    (∃ (s : State) (o : Fin 67108864) (data : List Byte), s.isReady = true ∧ s.power.hostSel = 0 ∧ s.inStep = false ∧ s.lock.held = [] ∧ (o.val / 2 ^ 20 + 1 : Int) = s.ownBerth ∧ data ≠ [] ∧ o.val % 2 ^ 20 + data.length ≤ 0x40000 ∧ data.length ≤ 256 ∧ s.regionCause (o.val % 2 ^ 20) data.length true = 0) ∧
    (∃ (s : State) (o : Fin 67108864) (data : List Byte) (tag : Nat), s.isReady = true ∧ s.power.hostSel = 0 ∧ s.inStep = false ∧ s.lock.held = [] ∧ (o.val / 2 ^ 20 + 1 : Int) ≠ s.ownBerth ∧ s.berthIdentity (o.val / 2 ^ 20 + 1) ≠ 0 ∧ s.mooring.stage = 0 ∧ data ≠ [] ∧ data.length ≤ 256 ∧ o.val % 2 ^ 20 + data.length ≤ 2 ^ 20 ∧ s.freeTag false = some tag ∧ s.lock.lines = []) ∧
    (∃ (s : State) (o : Fin 67108864) (data : List Byte) (tag : Nat), s.isReady = true ∧ s.power.hostSel = 0 ∧ s.inStep = false ∧ s.lock.held = [] ∧ (o.val / 2 ^ 20 + 1 : Int) ≠ s.ownBerth ∧ s.berthIdentity (o.val / 2 ^ 20 + 1) ≠ 0 ∧ s.mooring.stage = 0 ∧ data ≠ [] ∧ data.length ≤ 256 ∧ o.val % 2 ^ 20 + data.length ≤ 2 ^ 20 ∧ s.freeTag false = some tag ∧ s.lock.lines = []) ∧
    (∃ (s : State) (o : Fin 67108864) (data : List Byte), s.isReady = true ∧ s.power.hostSel = 0 ∧ s.inStep = false ∧ (o.val / 2 ^ 20 + 1 : Int) ≠ s.ownBerth ∧ s.berthIdentity (o.val / 2 ^ 20 + 1) ≠ 0 ∧ s.mooring.stage = 0 ∧ data ≠ [] ∧ data.length ≤ 256 ∧ o.val % 2 ^ 20 + data.length ≤ 2 ^ 20 ∧ s.freeTag false = none) ∧
    (∃ (s : State) (o : Fin 67108864) (n : Nat), s.isReady = true ∧ s.power.hostSel = 0 ∧ s.inStep = false ∧ (o.val / 2 ^ 20 + 1 : Int) ≠ s.ownBerth ∧ s.berthIdentity (o.val / 2 ^ 20 + 1) ≠ 0 ∧ s.mooring.stage = 0 ∧ n ≠ 0 ∧ n ≤ 256 ∧ o.val % 2 ^ 20 + n ≤ 2 ^ 20 ∧ s.freeTag true = none) ∧
    (∃ (s : State), s.power.hostSel ≠ 0) ∧
    (∃ (s : State) (o : Fin 67108864) (n : Nat), s.isReady = true ∧ s.power.hostSel = 0 ∧ s.inStep = false ∧ s.lock.held = [] ∧ (o.val / 2 ^ 20 + 1 : Int) = s.ownBerth ∧ n ≠ 0 ∧ o.val % 2 ^ 20 + n ≤ 0x40000 ∧ n ≤ 256 ∧ s.regionCause (o.val % 2 ^ 20) n false = 0) ∧
    (∃ (s : State) (o : Fin 67108864) (n : Nat), s.isReady = true ∧ s.power.hostSel = 0 ∧ s.inStep = false ∧ s.lock.held = [] ∧ (o.val / 2 ^ 20 + 1 : Int) ≠ s.ownBerth ∧ s.berthIdentity (o.val / 2 ^ 20 + 1) = 0 ∧ n ≠ 0 ∧ n ≤ 256 ∧ o.val % 2 ^ 20 + n ≤ 2 ^ 20) ∧
    (∃ (s : State), s.lock.tx = []) ∧
    (∃ (s : State) (a : Fin 256) (x : LockTx), s.isReady = true ∧ s.lock.tx = [x] ∧ s.lock.held = [] ∧ x.tag = a ∧ x.host = none ∧ x.fence = false ∧ s.lock.fencePending = false ∧ s.lock.errs = []) ∧
    (∃ (s : State) (b : Fin 64) (x : LockTx) (o : Nat) (n : Nat), s.isReady = true ∧ s.lock.tx = [x] ∧ s.lock.held = [] ∧ x.tag = b.val + 256 ∧ x.host = some (o, n) ∧ x.fence = false ∧ s.lock.fencePending = false ∧ s.lock.errs = []) ∧
    (∃ (s : State), s.hostServed = true ∧ (s.lock.tx.any (fun t => !t.read)) = true) ∧
    (∃ (s : State), s.hostServed = true ∧ s.lock.tx = [] ∧ s.lock.fencePending = false) ∧
    (∃ (s : State) (e : LockErr) (q : List LockErr), s.hostServed = true ∧ s.lock.errs = e :: q) ∧
    (∃ (s : State), s.isReady = true ∧ (∀ l ∈ s.lock.lines, s.lineAge l < 2)) ∧
    (∃ (s : State) (l : LockLine), s.isReady = true ∧ s.lock.lines = [l] ∧ 2 ≤ s.lineAge l ∧ l.sensitive = false ∧ l.used = false) := by
  refine ⟨⟨WK, 16, [1,2,3], ?_⟩,
   ⟨WK, 0x100010, [1,2,3], 0, ?_⟩,
   ⟨WK { tx := [{ ltx with tag := 0 }] }, 0x100010, [1,2,3], 1, ?_⟩,
   ⟨WK { tx := (List.range 256).map (fun i => { ltx with tag := i }) }, 0x100010, [1,2,3], ?_⟩,
   ⟨WK { tx := (List.range 64).map (fun i => { ltx with tag := i + 256, read := true }) }, 0x100010, 4, ?_⟩,
   ⟨{ W with power := { phase := .ready, hostSel := 1 } }, ?_⟩,
   ⟨WK { exchange := [(17, 9)] }, 16, 4, ?_⟩,
   ⟨WK, 0x200010, 4, ?_⟩,
   ⟨WK, ?_⟩,
   ⟨WK { tx := [ltx] }, 3, ltx, ?_⟩,
   ⟨WK { tx := [{ ltx with tag := 259, read := true, host := some (0x100010, 4) }] }, 3, { ltx with tag := 259, read := true, host := some (0x100010, 4) }, 0x100010, 4, ?_⟩,
   ⟨WK { tx := [ltx, { ltx with read := true }] }, ?_⟩,
   ⟨WK { fenceFailed := true }, ?_⟩,
   ⟨WK { errs := [{ tag := 3, read := false, prefetch := false, berth := 2, offset := 0, cause := 6, retries := 0 }], overflow := true }, { tag := 3, read := false, prefetch := false, berth := 2, offset := 0, cause := 6, retries := 0 }, [], ?_⟩,
   ⟨WK, ?_⟩,
   ⟨WK { lines := [{ berth := 2, dest := 7, base := 0, data := [1], sensitive := false, flight := 0, passage := 0, tag := 256 }] } [(0x240004, n 2)], { berth := 2, dest := 7, base := 0, data := [1], sensitive := false, flight := 0, passage := 0, tag := 256 }, ?_⟩⟩ <;> decide +kernel

theorem witness_LockMessagesAct :
    (∃ (s : State) (m : LockMsg), s.lockForMe m = false) ∧
    (∃ (s : State) (m : LockMsg), s.isReady = true ∧ s.inStep = false ∧ s.lockForMe m = true ∧ s.lock.seen = [] ∧ Tab.get [] s.lock.refused m.origin.toNat = [] ∧ s.lockOpen = true ∧ s.regionCause m.offset m.data.length true = 0 ∧ m.offset + m.data.length ≤ 0x40000) ∧
    (∃ (s : State) (m : LockMsg), s.isReady = true ∧ s.inStep = false ∧ s.lockForMe m = true ∧ s.lock.seen = [] ∧ Tab.get [] s.lock.refused m.origin.toNat = []) ∧
    (∃ (s : State) (m : LockMsg), s.isReady = true ∧ s.inStep = false ∧ s.lockForMe m = true ∧ s.lock.seen = [] ∧ Tab.get [] s.lock.refused m.origin.toNat = [] ∧ s.lockOpen = true ∧ s.regionCause m.offset m.length false = 0 ∧ m.offset + m.length ≤ 0x40000 ∧ s.lockLanes m.originBerth = [0] ∧ s.ownsLock 0 = true) ∧
    (∃ (s : State) (m : LockMsg) (x : LockTx) (o : Nat) (n : Nat), s.isReady = true ∧ s.inStep = false ∧ s.lockForMe m = true ∧ s.lock.seen = [] ∧ s.lock.tx = [x] ∧ s.lock.held = [] ∧ x.tag = m.tag ∧ x.dest = m.origin.toNat ∧ x.read = true ∧ x.prefetch = false ∧ x.host = some (o, n)) ∧
    (∃ (s : State) (m : LockMsg) (x : LockTx), s.isReady = true ∧ s.inStep = false ∧ s.lockForMe m = true ∧ s.lock.seen = [] ∧ s.lock.tx = [x] ∧ s.lock.held = [] ∧ m.tags = [x.tag] ∧ x.dest = m.origin.toNat ∧ x.read = false ∧ s.lock.fencePending = false) ∧
    (∃ (s : State) (m : LockMsg) (x : LockTx), s.isReady = true ∧ s.inStep = false ∧ s.lockForMe m = true ∧ s.lock.seen = [] ∧ s.lock.tx = [x] ∧ s.lock.held = [] ∧ x.tag = m.tag ∧ x.dest = m.origin.toNat ∧ x.host = none ∧ x.fence = false ∧ s.lock.fencePending = false ∧ s.lock.errs = []) ∧
    (∃ (s : State) (m : LockMsg) (x : LockTx), s.isReady = true ∧ s.inStep = false ∧ s.lockForMe m = true ∧ s.lock.seen = [] ∧ s.lock.tx = [x] ∧ s.lock.held = [] ∧ m.tags = [x.tag] ∧ x.dest = m.origin.toNat ∧ x.retries + 1 ≤ s.nat 0x360083) ∧
    (∃ (s : State) (m : LockMsg) (b : Nat), s.isReady = true ∧ s.inStep = false ∧ s.lockForMe m = true ∧ s.lock.seen = [] ∧ b ≠ m.originBerth) ∧
    (∃ (s : State) (m : LockMsg), s.isReady = true ∧ s.inStep = false ∧ s.lockForMe m = true ∧ s.lock.seen = [] ∧ s.lockLanes m.originBerth = [0] ∧ s.ownsLock 0 = true) ∧
    (∃ (s : State) (m : LockMsg), s.isReady = true ∧ s.inStep = false ∧ s.lockForMe m = true ∧ s.lock.seen = []) ∧
    (∃ (s : State) (m : LockMsg), s.isReady = true ∧ s.inStep = false ∧ s.lockForMe m = true ∧ s.lock.seen = []) ∧
    (∃ (s : State) (b : Fin 64), s.isReady = true ∧ 4 ≤ Tab.get 0 s.lock.silent (b + 1)) ∧
    (∃ (s : State) (b : Fin 64), s.isReady = true ∧ Tab.get 0 s.lock.silent (b + 1) < 4) := by
  refine ⟨⟨WK, { lm with destination := 6 }, ?_⟩,
   ⟨WK { exchange := [(17, 9)] }, lm, ?_⟩,
   ⟨WK, lm, ?_⟩,
   ⟨{ WK { exchange := [(17, 9)] } with line := { tables := [(0, [{ sl 6 with repl := 2 }])] }, pairing := true }, lm, ?_⟩,
   ⟨WK { tx := [{ ltx with read := true, host := some (0x100010, 4) }] }, lm, { ltx with read := true, host := some (0x100010, 4) }, 0x100010, 4, ?_⟩,
   ⟨WK { tx := [ltx] }, { lm with tags := [3] }, ltx, ?_⟩,
   ⟨WK { tx := [ltx] }, { lm with cause := 2 }, ltx, ?_⟩,
   ⟨WK { tx := [ltx] }, { lm with tags := [3] }, ltx, ?_⟩,
   ⟨WK, lm, 3, ?_⟩,
   ⟨{ WK with line := { tables := [(0, [{ sl 6 with repl := 2 }])] }, pairing := true }, lm, ?_⟩,
   ⟨WK, lm, ?_⟩,
   ⟨WK { got := 2 }, { lm with data := [0] }, ?_⟩,
   ⟨WK { silent := [(2, 4)], summary := 3 }, 1, ?_⟩,
   ⟨WK { silent := [(2, 3)], summary := 3 }, 1, ?_⟩⟩ <;> decide +kernel

theorem witness_CamerasAreTimed :
    (∃ (s : State) (n : Fin 8), s.isReady = true ∧ s.pulsing n = true ∧ s.isNetwork n = false ∧ s.int (camDef n + 0x10) = 1 ∧ s.ctValid = true ∧ s.nat (camDef n + 0x11) < 12) ∧
    (∃ (s : State) (n : Fin 8), s.isReady = true ∧ s.pulsing n = true ∧ s.isNetwork n = true ∧ s.ctValid = true ∧ s.parked = false) ∧
    (∃ (s : State) (n : Fin 8), s.isReady = true ∧ s.pulsing n = true ∧ s.isNetwork n = true ∧ s.ctValid = true ∧ s.parked = false ∧ s.starFree (s.camSource n - 0x10) 86 = true ∧ (s.star (s.camSource n - 0x10)).queue = []) ∧
    (∃ (s : State) (n : Fin 8) (e : Expected), s.isReady = true ∧ (s.cam n).expect = some e ∧ s.pulsing n = true ∧ s.camState n = 3 ∧ 3 ≤ (s.cam n).bad + 1) ∧
    (∃ (s : State) (n : Fin 8) (e : Expected), s.isReady = true ∧ (s.cam n).expect = some e ∧ s.pulsing n = true ∧ (s.cam n).bad + 1 < 3) ∧
    (∃ (s : State) (p : Fin 4), s.isReady = true ∧ s.int (Od.key (0x2840 + p) 0x10) ≠ 2) ∧
    (∃ (s : State) (p : Fin 4), s.isReady = true ∧ s.int (Od.key (0x2840 + p) 0x10) = 2) ∧
    (∃ (s : State) (n : Fin 8), s.isReady = true ∧ s.camState n = 2 ∧ (s.cam n).good = 0) ∧
    (∃ (s : State) (n : Fin 8), (s.camState n ≠ 2 ∨ (s.cam n).good ≠ 0)) ∧
    (∃ (s : State) (n : Fin 8) (p : Nat), s.isReady = true ∧ s.isNetwork n = false ∧ s.camSource n = p + 1 ∧ p < 4 ∧ (s.script? p).isSome = true ∧ s.camState n = 4) ∧
    (∃ (s : State) (n : Fin 8) (p : Nat), s.isReady = true ∧ s.isNetwork n = false ∧ s.camSource n = p + 1 ∧ p < 4 ∧ (s.script? p).isSome = true ∧ s.camState n = 5) := by
  refine ⟨⟨WV [(0x281011, n 2), (0x281012, n 7), (0x281010, n 1)] { nextK := 4 }, 0, ?_⟩,
   ⟨WV [(0x281003, n 0x11)] { nextK := 4 }, 0, ?_⟩,
   ⟨WV [(0x281003, n 0x11), (0x241904, n 2)] { nextK := 4 }, 0, ?_⟩,
   ⟨WV [] { expect := some ex, bad := 2, good := 4 }, 0, ex, ?_⟩,
   ⟨WV [] { expect := some ex, bad := 1, good := 4 }, 0, ex, ?_⟩,
   ⟨W, 2, ?_⟩,
   ⟨W [(0x284210, n 2)], 2, ?_⟩,
   ⟨WV [(0x282001, n 2)], 0, ?_⟩,
   ⟨W, 0, ?_⟩,
   ⟨{ WV [(0x282001, n 4)] with video := { scripts := [(0, { slot := 1, stop := false })], cameras := [(0, { bad := 3 })] } }, 0, 0, ?_⟩,
   ⟨{ WV [(0x282001, n 5)] with video := { scripts := [(0, { slot := 1, stop := false })], cameras := [(0, { bad := 3 })] } }, 0, 0, ?_⟩⟩ <;> decide +kernel

theorem witness_FramesAreIngested :
    (∃ (s : State) (p : Fin 4) (vc : Fin 16) (ecc : Fin 3) (fine : Fin 32) (n : Fin 8) (e : Expected), s.isReady = true ∧ ecc.val < 2 ∧ s.int (Od.key (0x2840 + p) 0x10) ≠ 0 ∧ s.camAt p vc true = some (n.val, 0) ∧ s.pulsing n = true ∧ (s.cam n).frame = none ∧ (s.cam n).rephaseUntil = none ∧ (s.cam n).expect = some e ∧ (s.under e.cfg).beyondEnvelope n e.exposure (s.ctAt s.clock.counter fine - e.at_) = false ∧ (s.under e.cfg).int (camDef n + 0x1D) * 65536 ≤ s.ctAt s.clock.counter fine - e.at_ ∧ s.ctAt s.clock.counter fine - e.at_ ≤ (s.under e.cfg).int (camDef n + 0x1E) * 65536) ∧
    (∃ (s : State) (p : Fin 4) (vc : Fin 16) (ecc : Fin 3) (fine : Fin 32) (n : Fin 8) (e : Expected), s.isReady = true ∧ ecc.val < 2 ∧ s.int (Od.key (0x2840 + p) 0x10) ≠ 0 ∧ s.camAt p vc true = some (n.val, 0) ∧ s.pulsing n = true ∧ (s.cam n).frame = none ∧ (s.cam n).rephaseUntil = none ∧ (s.cam n).expect = some e ∧ (s.under e.cfg).beyondEnvelope n e.exposure (s.ctAt s.clock.counter fine - e.at_) = false ∧ (s.under e.cfg).int (camDef n + 0x1D) * 65536 ≤ s.ctAt s.clock.counter fine - e.at_ ∧ s.ctAt s.clock.counter fine - e.at_ ≤ (s.under e.cfg).int (camDef n + 0x1E) * 65536) ∧
    (∃ (s : State) (p : Fin 4) (vc : Fin 16), s.isReady = true ∧ s.camAt p vc true = none ∧ s.int (Od.key (0x2840 + p) 0x10) ≠ 0) ∧
    (∃ (s : State) (p : Fin 4) (k : CsiPacket) (n : Nat) (x : Nat) (f : FrameIn), s.isReady = true ∧ k.ecc = 0 ∧ k.extensionBits = false ∧ s.camAt p k.vc = some (n, x) ∧ (s.cam n).frame = some f ∧ k.dataType ≠ 0x12 ∧ k.dataType.toNat = formatType ((s.under f.cfg).nat (camDef n + 5)) ∧ k.fifoFull = false ∧ k.crcOk = true ∧ f.discard = false ∧ f.height ≤ Tab.get 0 f.rows x) ∧
    (∃ (s : State) (p : Fin 4) (k : CsiPacket) (n : Nat) (x : Nat) (f : FrameIn), s.isReady = true ∧ k.ecc = 0 ∧ k.extensionBits = false ∧ s.camAt p k.vc = some (n, x) ∧ (s.cam n).frame = some f ∧ k.dataType ≠ 0x12 ∧ k.dataType.toNat = formatType ((s.under f.cfg).nat (camDef n + 5)) ∧ k.fifoFull = false ∧ k.crcOk = true ∧ f.discard = false ∧ Tab.get 0 f.rows x < f.height ∧ k.samples.length = (if isRaw f.format then f.width else 2 * f.width)) ∧
    (∃ (s : State) (p : Fin 4) (k : CsiPacket), s.isReady = true ∧ k.ecc = 0 ∧ s.camAt p k.vc = none) ∧
    (∃ (s : State) (p : Fin 4) (k : CsiPacket) (n : Fin 8) (x : Nat) (f : FrameIn), s.isReady = true ∧ k.ecc = 0 ∧ k.extensionBits = false ∧ s.camAt p k.vc = some (n.val, x) ∧ (s.cam n).frame = some f ∧ k.dataType = 0x12 ∧ k.fifoFull = false ∧ k.crcOk = false ∧ f.discard = false) ∧
    (∃ (s : State), s.isReady = true) ∧
    (∃ (s : State) (p : Fin 4) (vc : Fin 16) (n : Nat) (x : Nat) (f : FrameIn), s.isReady = true ∧ s.camAt p vc = some (n, x) ∧ x + 1 = (s.under f.cfg).nat (camDef n + 8) ∧ (s.cam n).frame = some f ∧ f.discard = true) ∧
    (∃ (s : State) (p : Fin 4) (vc : Fin 16) (n : Nat) (x : Nat) (f : FrameIn), s.isReady = true ∧ n < 8 ∧ s.camAt p vc = some (n, x) ∧ x + 1 = (s.under f.cfg).nat (camDef n + 8) ∧ (s.cam n).frame = some f ∧ f.discard = false ∧ isRaw f.format = false ∧ (∀ e < f.exposures, f.height ≤ Tab.get 0 f.rows e) ∧ (s.under f.cfg).int (camDef n + 0x20) = 0 ∧ (s.under f.cfg).int (camDef n + 0x24) = 0 ∧ (s.camState n = 2 ∨ s.camState n = 4) ∧ 2 ≤ (s.cam n).good + 1) ∧
    (∃ (s : State) (n : Fin 8), (s.pulsing n = false ∨ (s.packetView n).isNetwork n = false)) ∧
    (∃ (s : State) (n : Fin 8) (k : RvfPacket), s.isReady = true ∧ s.pulsing n = true ∧ s.isNetwork n = true ∧ (s.cam n).frame = none ∧ (s.cam n).expect = none ∧ k.lastOfFrame = false ∧ (∃ q, (s.cam n).sequence = some q ∧ q ≠ k.sequence.toNat)) := by
  refine ⟨⟨WV [(0x284010, n 1), (0x28101E, n 100)] { expect := some exv }, 0, 0, 0, 0, 0, exv, ?_⟩,
   ⟨WV [(0x284010, n 1), (0x28101E, n 100)] { expect := some exv }, 0, 0, 1, 0, 0, exv, ?_⟩,
   ⟨W [(0x284010, n 1)], 0, 0, ?_⟩,
   ⟨WV [] { frame := some { frv with rows := [(0, 4)] } }, 0, { vc := 0, dataType := BitVec.ofNat 6 (formatType 1), samples := [] }, 0, 0, { frv with rows := [(0, 4)] }, ?_⟩,
   ⟨WV [] { frame := some frv }, 0, { vc := 0, dataType := BitVec.ofNat 6 (formatType 1), samples := [1,2] }, 0, 0, frv, ?_⟩,
   ⟨W, 0, { vc := 0, dataType := 0, samples := [] }, ?_⟩,
   ⟨WV [] { frame := some frv }, 0, { vc := 0, dataType := 0x12, samples := [3], crcOk := false }, 0, 0, frv, ?_⟩,
   ⟨WV [] { frame := some fr }, ?_⟩,
   ⟨WV [] { frame := some { frv with discard := true } }, 0, 0, 0, 0, { frv with discard := true }, ?_⟩,
   ⟨WV [(0x282001, n 2)] { frame := some { frv with rows := [(0, 4)], format := 6, passed := 2 }, good := 1, bad := 2 }, 0, 0, 0, 0, { frv with rows := [(0, 4)], format := 6, passed := 2 }, ?_⟩,
   ⟨W, 0, ?_⟩,
   ⟨WV [(0x281003, n 0x11)] { sequence := some 5 }, 0, { sequence := 0, timestamp := 0, firstLine := 0, lines := [], lastOfFrame := false }, ?_⟩⟩ <;> decide +kernel

theorem witness_ScriptsAndRegisterAccesses :
    (∃ (s : State) (p : Fin 4) (x : Script), s.isReady = true ∧ s.script? p = some x ∧ x.waiting = 0 ∧ (s.cciPort p).use = some .script ∧ x.tries < 2 ∧ (s.scriptOp p x = 1 ∨ s.scriptOp p x = 2)) ∧
    (∃ (s : State) (p : Fin 4) (x : Script), s.isReady = true ∧ s.script? p = some x ∧ x.waiting = 0 ∧ (s.cciPort p).use = some .script ∧ s.scriptOp p x = 1 ∧ (s.scriptOp p { x with pos := x.pos + 1, tries := 0, waiting := 0 } = 1 ∨ s.scriptOp p { x with pos := x.pos + 1, tries := 0, waiting := 0 } = 2)) ∧
    (∃ (s : State) (p : Fin 4) (x : Script), s.isReady = true ∧ s.script? p = some x ∧ x.waiting = 1 ∧ (s.cciPort p).use = none ∧ s.scriptOp p { x with pos := x.pos + 1, tries := 0, waiting := 0 } = 1) ∧
    (∃ (s : State) (p : Fin 4) (x : Script), s.isReady = true ∧ s.script? p = some x ∧ x.waiting = 2 ∧ x.stop = false ∧ x.slot < 8 ∧ s.camState x.slot = 1 ∧ s.video.waiting = []) ∧
    (∃ (s : State) (p : Fin 4), s.isReady = true ∧ s.int (cciRec p + 1) ≠ 0) ∧
    (∃ (s : State) (p : Fin 4), s.isReady = true ∧ s.int (cciRec p + 1) = 0) ∧
    (∃ (s : State) (p : Fin 4), s.isReady = true ∧ s.int (cciRec p + 1) ≠ 0) ∧
    (∃ (s : State) (w : Writer), s.admits w 0x286006 [1] ∧ s.video.access = none) ∧
    (∃ (s : State) (w : Writer), s.admits w 0x286006 [2] ∧ s.video.access = none) ∧
    (∃ (s : State) (j : CciJob), s.isReady = true ∧ s.video.access = some j ∧ (s.cciPort j.port).use = some .access ∧ 2 ≤ j.tries ∧ j.port < 4) ∧
    (∃ (s : State) (n : Fin 8) (p : Nat) (k : Nat) (w : ExposureWrite), s.isReady = true ∧ s.exposureBus n = some (p, k) ∧ (s.cam n).write = some w ∧ w.frame = k) ∧
    (∃ (s : State) (n : Fin 8), s.exposureBus n = none) := by
  refine ⟨⟨{ WV [(0x285804, opb [1,0,0x10,0,7,0,0,0])] with video := { scripts := [(0, { slot := 0, stop := false })], ports := [(0, { use := some .script })] } }, 0, { slot := 0, stop := false }, ?_⟩,
   ⟨{ WV [(0x285804, opb [1,0,0x10,0,7,0,0,0,2,0,0x10,0,7,0,0,0])] with video := { scripts := [(0, { slot := 0, stop := false })], ports := [(0, { use := some .script })] } }, 0, { slot := 0, stop := false }, ?_⟩,
   ⟨{ WV [(0x285804, opb [3,0,0x10,0,7,0,0,0,1,0,0x10,0,7,0,0,0])] with video := { scripts := [(0, { slot := 0, stop := false, waiting := 1 })] } }, 0, { slot := 0, stop := false, waiting := 1 }, ?_⟩,
   ⟨{ WV [(0x282001, n 1), (0x285804, opb [4,0,0x10,0,7,0,0,0,1,0,0x10,0,7,0,0,0])] with video := { scripts := [(0, { slot := 0, stop := false, waiting := 2 })] } }, 0, { slot := 0, stop := false, waiting := 2 }, ?_⟩,
   ⟨W, 0, ?_⟩,
   ⟨W [(0x285801, n 0)], 0, ?_⟩,
   ⟨W [(0x285801, n 1)], 0, ?_⟩,
   ⟨WA, Wr, ?_⟩,
   ⟨WA, Wr, ?_⟩,
   ⟨{ W with video := { access := some { write := false, port := 1, addr := 2, reg := 3, width := 1, value := 0, tries := 2 }, ports := [(1, { use := some .access })] } }, { write := false, port := 1, addr := 2, reg := 3, width := 1, value := 0, tries := 2 }, ?_⟩,
   ⟨{ WV with video := { cameras := [(0, { write := some { frame := 6, eff := 4, sent := true } })], ports := [(0, { use := some (.exposure 0 6) })] } }, 0, 0, 6, { frame := 6, eff := 4, sent := true }, ?_⟩,
   ⟨W, 0, ?_⟩⟩ <;> (try unfold State.admits) <;> decide +kernel

theorem witness_ViewsAtTheSource :
    (∃ (s : State) (req : BitVec 64) (view : Fin 16) (inst : Nat), s.isReady = true ∧ s.slices.instances.any (fun i => i.is req.toNat view inst && i.d.panOn && decide (i.signal ≠ 3)) = true) ∧
    (∃ (s : State) (d : ViewDef), s.isReady = true ∧ s.slices.requests = [] ∧ s.refusalOf d = 0 ∧ s.breachOf d = 0) ∧
    (∃ (s : State) (d : ViewDef), s.isReady = true ∧ s.slices.requests = [] ∧ s.refusalOf d ≠ 0) ∧
    (∃ (s : State) (req : BitVec 64) (view : Fin 16) (inst : Nat) (i : Instance) (k : Nat) (j : Nat) (lo : Int) (hi : Int) (row : Row), s.isReady = true ∧ s.slices.instances = [i] ∧ i.is req.toNat view inst = true ∧ i.active = true ∧ s.spent i = false ∧ s.nextSlice i = (k, j) ∧ i.from_ ≤ s.camInstant i.d.slot.val k ∧ s.reserved i.d = true ∧ s.slicerows i k j = some (lo, hi) ∧ s.windowRow i.d.slot.val k hi = some row) ∧
    (∃ (s : State) (req : BitVec 64) (view : Fin 16) (inst : Nat), (∀ i ∈ s.slices.instances, i.is req.toNat view inst = false)) := by
  refine ⟨⟨WD [] { instances := [{ ins with d := { vd with panMode := 1 } }] }, 77, 2, 1, ?_⟩,
   ⟨WD, vd, ?_⟩,
   ⟨WD [] { instances := [{ ins with active := true }] }, { vd with window := 0 }, ?_⟩,
   ⟨WD [] { instances := [ins] }, 77, 2, 1, ins, 0, 0, 0, 7, { k := 0, row := 7, px := [1,2,3,4,5,6,7,8] }, ?_⟩,
   ⟨WD, 77, 2, 1, ?_⟩⟩ <;> decide +kernel

theorem witness_SlicesAreCodedAndReceived :
    (∃ (s : State) (req : BitVec 64) (view : Fin 16) (inst : Nat) (i : Instance) (w : Warped) (rest : List Warped) (e : Epochs) (f : Nat), s.isReady = true ∧ s.slices.instances = [i] ∧ i.is req.toNat view inst = true ∧ i.warped = w :: rest ∧ s.spent { i with warped := rest } = false ∧ s.ownStream req.toNat view inst = some e ∧ e.waiting = false ∧ (e.turn = none ∨ e.turn = some (w.k / 2 ^ 32)) ∧ i.d.local_ = false ∧ s.fragmentSize i.d.streamNumber req.toNat = some f ∧ s.flightFull (sliceBytes i.d.width i.d.bitsPerPixel w.rows) = false ∧ s.pairing = false) ∧
    (∃ (s : State) (c : Chan) (h : SliceHeader) (b : Bound), s.isReady = true ∧ s.boundFor h = some b ∧ s.slices.bad.any (fun x => decide (x.1 = c) && sameSlice x.2 h) = true) ∧
    (∃ (s : State) (h : SliceHeader), s.isReady = true ∧ s.boundFor h = none) ∧
    (∃ (s : State) (c : Chan) (h : SliceHeader) (b : Bound), s.isReady = true ∧ s.boundFor h = some b ∧ s.slices.bad.any (fun x => decide (x.1 = c) && sameSlice x.2 h) = false ∧ s.malformed b.view h = true) ∧
    (∃ (s : State) (c : Chan) (h : SliceHeader) (b : Bound), s.isReady = true ∧ s.boundFor h = some b ∧ s.malformed b.view h = false ∧ s.slices.bad.any (fun x => decide (x.1 = c) && sameSlice x.2 h) = false ∧ s.slices.incoming.find? (fun x => decide (x.chan = c) && sameSlice x.h h) = none ∧ h.fragment = 0 ∧ 1 < h.fragments ∧ (s.abandonOlder c h).flightFull (sliceBytes (s.viewW b.view) h.bitsPerPixel (sliceRows (s.viewH b.view) (s.sliceH b.view) h.index)) = false) ∧
    (∃ (s : State) (c : Chan) (h : SliceHeader) (b : Bound), s.isReady = true ∧ s.boundFor h = some b ∧ s.malformed b.view h = false ∧ s.slices.bad.any (fun x => decide (x.1 = c) && sameSlice x.2 h) = false ∧ s.slices.incoming = [] ∧ h.fragment = 0 ∧ h.fragments = 1 ∧ s.flightFull (sliceBytes (s.viewW b.view) h.bitsPerPixel (sliceRows (s.viewH b.view) (s.sliceH b.view) h.index)) = false) ∧
    (∃ (s : State) (n : Fin 8) (x : Forward) (data : List Byte), s.isReady = true ∧ s.slices.forward = [x] ∧ x.display = n.val ∧ x.left = [data] ∧ s.starUp (s.forwardPort n) = true ∧ s.parked = false ∧ (s.star (s.forwardPort n)).queue = [] ∧ s.starFree (s.forwardPort n) (s.forwardFrame x data).length = true) ∧
    (∃ (s : State) (n : Fin 8), s.slices.forward.find? (fun x => decide (x.display = n.val)) = none) := by
  refine ⟨⟨{ WD [] { instances := [{ ins with warped := [{ k := 0, j := 0, rows := 8, damaged := false, stamp := 0, px := [1] }] }] } with trust := { streams := [{ view := 2, instanceNo := 1, sink := 77, epoch := 3 }] }, line := { tables := [(0, [{ sl 5 with stream := 4, owner := 77, group := 1 }])] } }, 77, 2, 1, { ins with warped := [{ k := 0, j := 0, rows := 8, damaged := false, stamp := 0, px := [1] }] }, { k := 0, j := 0, rows := 8, damaged := false, stamp := 0, px := [1] }, [], { view := 2, instanceNo := 1, sink := 77, epoch := 3 }, 64, ?_⟩,
   ⟨WB [] { bad := [(.a, { shd with index := 1 })] }, .a, { shd with index := 1 }, ({ view := 2, inst := 1, source := 9, state := 2 } : Bound), ?_⟩,
   ⟨WD, shd, ?_⟩,
   ⟨WB, .a, { shd with index := 1 }, ({ view := 2, inst := 1, source := 9, state := 2 } : Bound), ?_⟩,
   ⟨WB, .a, { shd with fragments := 2 }, ({ view := 2, inst := 1, source := 9, state := 2 } : Bound), ?_⟩,
   ⟨WB, .a, shd, ({ view := 2, inst := 1, source := 9, state := 2 } : Bound), ?_⟩,
   ⟨WD [(0x2C7803, n 0x11), (0x241904, n 2), (0x260001, n 0)] { forward := [{ display := 0, h := shd, left := [[7]], bytes := 33 }] }, 0, { display := 0, h := shd, left := [[7]], bytes := 33 }, [7], ?_⟩,
   ⟨WD, 0, ?_⟩⟩ <;> decide +kernel

theorem witness_DisplaysShowSlices :
    (∃ (s : State) (d : Fin 2), s.isReady = true ∧ s.dispState d = 1) ∧
    (∃ (s : State) (d : Fin 2), s.dispState d < 2) ∧
    (∃ (s : State) (d : Fin 2) (fine : Fin 32) (m : Nat) (err : Int), s.isReady = true ∧ s.dispState d = 2 ∧ m = ((2 * (s.ctAt s.clock.counter fine - s.dispPhase d) + max 1 (s.dispPeriod d)) / (2 * max 1 (s.dispPeriod d))).toNat ∧ err = s.ctAt s.clock.counter fine - s.frameInstant d m ∧ -655360 ≤ err ∧ err ≤ 655360) ∧
    (∃ (s : State) (d : Fin 2) (fine : Fin 32) (m : Nat) (err : Int), s.isReady = true ∧ s.dispState d = 2 ∧ m = ((2 * (s.ctAt s.clock.counter fine - s.dispPhase d) + max 1 (s.dispPeriod d)) / (2 * max 1 (s.dispPeriod d))).toNat ∧ err = s.ctAt s.clock.counter fine - s.frameInstant d m ∧ 655360 < err) ∧
    (∃ (s : State) (d : Fin 2) (i : Fin 6) (j : Nat) (m : Nat) (v : Nat) (k : Nat) (c : Cell), s.isReady = true ∧ (s.laid d).regionView d (i + 1) = some v ∧ v < 16 ∧ 2 ≤ s.dispState d ∧ j < (s.laid d).viewSlices v ∧ s.pairing = false ∧ (s.region d (i + 1)).marks = [] ∧ (s.disp d).hold = 0 ∧ s.isLocal v = false ∧ Tab.find? (s.region d (i + 1)).incoming j = some c ∧ Tab.find? (s.region d (i + 1)).held j = none ∧ s.expected v j ((s.laid d).cutOff d (i + 1) v m j) = some k ∧ c.h.frame.toNat = k % 2 ^ 32 ∧ c.stored ≤ (s.laid d).cutOff d (i + 1) v m j ∧ c.h.damaged = false ∧ (s.region d (i + 1)).checkFailed = [] ∧ (s.laid d).sliceLast d (i + 1) v m j - c.exposed ≤ s.int (streamSt v + 2) * 65536 ∧ (s.region d (i + 1)).lost = true) ∧
    (∃ (s : State) (d : Fin 2) (i : Fin 6), s.isReady = true ∧ (s.laid d).regionView d (i + 1) = none) ∧
    (∃ (s : State) (d : Fin 2) (i : Fin 6) (j : Nat) (v : Nat) (c : Cell), s.isReady = true ∧ (s.laid d).regionView d (i + 1) = some v ∧ 2 ≤ s.dispState d ∧ s.parked = false ∧ Tab.find? (s.region d (i + 1)).held j = some c ∧ (s.region d (i + 1)).marks.any (fun x => decide (x.m = (s.disp d).m ∧ x.j = j) && x.first) = true) ∧
    (∃ (s : State) (d : Fin 2) (i : Fin 6), (s.laid d).regionView d (i + 1) = none ∨ s.dispState d < 2) ∧
    (∃ (s : State) (d : Fin 2), s.isReady = true ∧ s.dispState d < 2) ∧
    (∃ (s : State) (d : Fin 2), s.isReady = true ∧ 2 ≤ s.dispState d ∧ (∀ i : Fin 7, (s.laid d).regionView d i = none)) := by
  refine ⟨⟨WD [(0x2C5801, n 1)], 0, ?_⟩,
   ⟨WD, 0, ?_⟩,
   ⟨WD [(0x2C5801, n 2), (0x2C500C, n 4), (0x2C5010, n 2), (0x2C5014, n 16666666)] { displays := [(0, { aligned := 3 })] }, 0, 0, 0, 0, ?_⟩,
   ⟨{ WD [(0x2C5801, n 2), (0x2C500C, n 4), (0x2C5010, n 2), (0x2C5014, n 16666666)] { displays := [(0, { aligned := 3 })] } with clock := { counter := 1000 } }, 0, 0, 0, 3200*65536, ?_⟩,
   ⟨{ WB [(0x2C5801, n 3), (0x2C5014, n 16666666), (0x2C3011, .bytes [65]), (0x2C1202, .bytes [65]), (0x2E1216, n 33333333), (0x2E3202, n 100000000)] { displays := [(0, { m := 6, regions := [(1, { incoming := [(0, { h := { shd with frame := 2 }, exposed := 65536*1000000, stored := 65536*2000000, data := [] })], lost := true })] })] } with clock := { counter := 30000000 } }, 0, 0, 0, 6, 2, 2, { h := { shd with frame := 2 }, exposed := 65536*1000000, stored := 65536*2000000, data := [] }, ?_⟩,
   ⟨WD, 0, 0, ?_⟩,
   ⟨WB [(0x2C5801, n 3), (0x2C3011, .bytes [65]), (0x2C1202, .bytes [65])] { displays := [(0, { regions := [(1, { held := [(0, { h := shd, exposed := 5, stored := 9, data := [] })], marks := [{ m := 0, j := 0, current := true, first := true }] })] })] }, 0, 0, 0, 2, { h := shd, exposed := 5, stored := 9, data := [] }, ?_⟩,
   ⟨WD, 0, 0, ?_⟩,
   ⟨WD, 0, ?_⟩,
   ⟨WD [(0x2C5801, n 3)] { displays := [(0, { hold := 2 })] }, 0, ?_⟩⟩ <;> decide +kernel

theorem witness_BuffersAreSent :
    (∃ (s : State) (w : Writer) (c : Fin 4) (b : Fin 3), s.admits w (bufRec c b + 5) [1] ∧ s.int (bufRec c b + 6) = 1) ∧
    (∃ (s : State) (w : Writer) (c : Fin 4) (b : Fin 3), s.admits w (bufRec c b + 5) [1] ∧ s.int (bufRec c b + 6) ≠ 1) ∧
    (∃ (s : State) (w : Writer) (c : Fin 4) (b : Fin 3), s.admits w (bufRec c b + 5) [2] ∧ s.int (bufRec c b + 6) ≠ 1) ∧
    (∃ (s : State) (w : Writer) (c : Fin 4) (b : Fin 3), s.admits w (bufRec c b + 5) [2] ∧ s.int (bufRec c b + 6) = 1 ∧ (s.canPort c).onBus ≠ some b.val) ∧
    (∃ (s : State) (w : Writer) (c : Fin 4) (b : Fin 3), s.admits w (bufRec c b + 5) [2] ∧ s.int (bufRec c b + 6) = 1 ∧ (s.canPort c).onBus = some b.val) ∧
    (∃ (s : State) (c : Fin 4) (n : Nat), s.isReady = true ∧ (s.canPort c).onBus = some n ∧ n < 3) ∧
    (∃ (s : State) (c : Fin 4) (n : Nat), s.isReady = true ∧ (s.canPort c).onBus = some n ∧ n < 3) ∧
    (∃ (s : State) (c : Fin 4), (s.canPort c).onBus = none) ∧
    (∃ (s : State) (c : Fin 4) (n : Fin 3), s.isReady = true ∧ (s.canPort c).onBus = some n.val) ∧
    (∃ (s : State) (c : Fin 4) (n : Fin 3), s.isReady = true ∧ (s.canPort c).onBus = some n.val) ∧
    (∃ (s : State) (c : Fin 4) (n : Fin 3), s.isReady = true ∧ (s.canPort c).onBus = some n.val ∧ s.maySend c = false) ∧
    (∃ (s : State) (c : Fin 4), (s.canPort c).onBus = none) := by
  refine ⟨⟨WAC 1 [(0x332306, n 1)], Wr, 1, 0, ?_⟩,
   ⟨WAC 1, Wr, 1, 0, ?_⟩,
   ⟨WAC 1, Wr, 1, 0, ?_⟩,
   ⟨WAC 1 [(0x332306, n 1)] { onBus := some 1 }, Wr, 1, 0, ?_⟩,
   ⟨WAC 1 [(0x332306, n 1)] { onBus := some 0 }, Wr, 1, 0, ?_⟩,
   ⟨WC 1 [(0x332306, n 1), (0x331402, n 0), (0x331502, n 5), (0x332301, n 0x80001234)] { onBus := some 0 }, 1, 0, ?_⟩,
   ⟨WC 0 [(0x332106, n 1), (0x332206, n 1), (0x331402, n 5)] { onBus := some 1, service := [cf] }, 0, 1, ?_⟩,
   ⟨WC 1, 1, ?_⟩,
   ⟨WC 1 [(0x332306, n 1)] { onBus := some 0, abort := 1 }, 1, 0, ?_⟩,
   ⟨WC 1 [(0x332306, n 1), (0x332308, n 1)] { onBus := some 0 }, 1, 0, ?_⟩,
   ⟨WC 1 [(0x332306, n 1), (0x331501, n 3)] { onBus := some 0 }, 1, 0, ?_⟩,
   ⟨WC 1, 1, ?_⟩⟩ <;> (try unfold State.admits) <;> decide +kernel

theorem witness_FramesAreReceived :
    (∃ (s : State) (w : Writer) (c : Fin 4) (o : Fin 24) (v : Byte), s.admits w (objRec c o + 0x0B) [v] ∧ Tab.find? (s.canPort c).shadow o = none) ∧
    (∃ (s : State) (w : Writer) (c : Fin 4) (o : Fin 24) (v : Byte) (x : RxFrame), s.admits w (objRec c o + 0x0B) [v] ∧ Tab.find? (s.canPort c).shadow o = some x) ∧
    (∃ (s : State) (c : Fin 4), s.isReady = true ∧ s.inStep = false ∧ s.canHears c = false) ∧
    (∃ (s : State) (c : Fin 4), s.isReady = true ∧ s.inStep = false ∧ s.canHears c = true ∧ c ≠ 0 ∧ s.canState c ≠ 5 ∧ s.int (canSt c + 3) ≤ 127) ∧
    (∃ (s : State) (c : Fin 4), s.isReady = true ∧ s.inStep = false ∧ s.canHears c = true ∧ c ≠ 0 ∧ s.canState c ≠ 5 ∧ 127 < s.int (canSt c + 3)) ∧
    (∃ (s : State) (e : Egress) (q : List Egress), s.isReady = true ∧ s.canopen.egress = e :: q ∧ e.at_ ≤ s.ctNow ∧ e.route < 64 ∧ s.nat (routeRec e.route + 3) ≤ 3 ∧ s.int (routeRec e.route + 8) = 0 ∧ (s.canPort (s.nat (routeRec e.route + 3))).service.length < 16) ∧
    (∃ (s : State) (e : Egress) (q : List Egress), s.isReady = true ∧ s.canopen.egress = e :: q ∧ s.ctNow < e.at_) ∧
    (∃ (s : State), s.canopen.egress = []) := by
  refine ⟨⟨WAC 1 [(0x335805, n 1)], Wr, 1, 0, 1, ?_⟩,
   ⟨WAC 1 [(0x335805, n 1)] { shadow := [(2, { frame := cf, stamp := 77 })] }, Wr, 1, 2, 1, { frame := cf, stamp := 77 }, ?_⟩,
   ⟨W, 1, ?_⟩,
   ⟨WC 1 [(0x331503, n 3)], 1, ?_⟩,
   ⟨WC 1 [(0x331503, n 130)], 1, ?_⟩,
   ⟨{ WC 1 [(0x33A003, n 1)] with canopen := { egress := [{ route := 0, sender := 3, at_ := 0, what := { stamp := 0, port := 1, frame := cf } }] } }, { route := 0, sender := 3, at_ := 0, what := { stamp := 0, port := 1, frame := cf } }, [], ?_⟩,
   ⟨{ WC 1 [(0x33A003, n 1)] with canopen := { egress := [{ route := 0, sender := 3, at_ := 1, what := { stamp := 0, port := 1, frame := cf } }] } }, { route := 0, sender := 3, at_ := 1, what := { stamp := 0, port := 1, frame := cf } }, [], ?_⟩,
   ⟨W, ?_⟩⟩ <;> (try unfold State.admits) <;> decide +kernel

theorem witness_CanErrorsAndDetection :
    (∃ (s : State) (c : Fin 4) (tx : Bool), s.isReady = true ∧ (s.canState c = 1 ∨ s.canState c = 2) ∧ s.int (canSt c + 2) + (if tx then 8 else 0) ≤ 255 ∧ s.canState c = 1 ∧ (127 < s.int (canSt c + 2) + (if tx then 8 else 0) ∨ 127 < s.int (canSt c + 3) + (if tx then 0 else 1))) ∧
    (∃ (s : State) (c : Fin 4) (tx : Bool), s.isReady = true ∧ (s.canState c = 1 ∨ s.canState c = 2) ∧ s.int (canSt c + 2) + (if tx then 8 else 0) ≤ 255 ∧ s.canState c = 1 ∧ (127 < s.int (canSt c + 2) + (if tx then 8 else 0) ∨ 127 < s.int (canSt c + 3) + (if tx then 0 else 1))) ∧
    (∃ (s : State) (c : Fin 4) (tx : Bool), s.isReady = true ∧ (s.canState c = 1 ∨ s.canState c = 2) ∧ s.int (canSt c + 2) + (if tx then 8 else 0) ≤ 255 ∧ s.canState c = 1 ∧ (127 < s.int (canSt c + 2) + (if tx then 8 else 0) ∨ 127 < s.int (canSt c + 3) + (if tx then 0 else 1))) ∧
    (∃ (s : State) (c : Fin 4) (tx : Bool), s.isReady = true ∧ (s.canState c = 1 ∨ s.canState c = 2) ∧ s.int (canSt c + 2) + (if tx then 8 else 0) ≤ 255 ∧ s.canState c = 1 ∧ s.int (canSt c + 2) + (if tx then 8 else 0) ≤ 127 ∧ s.int (canSt c + 3) + (if tx then 0 else 1) ≤ 127) ∧
    (∃ (s : State) (c : Fin 4) (tx : Bool), s.isReady = true ∧ (s.canState c = 1 ∨ s.canState c = 2) ∧ s.int (canSt c + 2) + (if tx then 8 else 0) ≤ 255 ∧ s.canState c = 2) ∧
    (∃ (s : State) (c : Fin 4), s.isReady = true ∧ (s.canState c = 1 ∨ s.canState c = 2) ∧ 247 < s.int (canSt c + 2)) ∧
    (∃ (s : State) (c : Fin 4), s.isReady = true ∧ (s.canState c = 1 ∨ s.canState c = 2) ∧ 247 < s.int (canSt c + 2)) ∧
    (∃ (s : State) (c : Fin 4), s.isReady = true ∧ (s.canState c = 4 ∨ (s.canState c = 5 ∧ s.int (canDet c + 3) ≠ 2))) ∧
    (∃ (s : State) (c : Fin 4) (i : Nat), s.isReady = true ∧ s.canState c = 5 ∧ s.int (canDet c + 3) = 2 ∧ (s.canPort c).detect.trial = some i ∧ (s.canPort c).detect.alive.filter (fun j => j ≠ i) ≠ []) ∧
    (∃ (s : State) (c : Fin 4), (s.canState c = 0 ∨ s.canState c = 3)) ∧
    (∃ (s : State) (w : Writer) (c : Fin 4) (v : Byte), s.admits w (canSt c + 6) [v] ∧ s.canState c = 3) ∧
    (∃ (s : State) (w : Writer) (c : Fin 4) (v : Byte), s.admits w (canSt c + 6) [v] ∧ s.canState c ≠ 3) ∧
    (∃ (s : State) (c : Fin 4), s.isReady = true ∧ s.canState c = 3 ∧ (s.int (canCfg c + 0x0D) ≠ 0 ∨ (s.canPort c).recovering = true)) ∧
    (∃ (s : State) (c : Fin 4), s.isReady = true ∧ s.canState c = 3 ∧ (s.int (canCfg c + 0x0D) ≠ 0 ∨ (s.canPort c).recovering = true)) ∧
    (∃ (s : State) (c : Fin 4), (s.canState c ≠ 3 ∨ (s.int (canCfg c + 0x0D) = 0 ∧ (s.canPort c).recovering = false))) ∧
    (∃ (s : State) (w : Writer) (c : Fin 4) (v : Byte), s.admits w (canDet c + 7) [v] ∧ 8 ≤ (s.bytes (canDet c + 1)).length) ∧
    (∃ (s : State) (w : Writer) (c : Fin 4) (v : Byte), s.admits w (canDet c + 7) [v] ∧ (s.bytes (canDet c + 1)).length < 8) ∧
    (∃ (s : State) (c : Fin 4), s.int (canDet c + 3) ≠ 1) ∧
    (∃ (s : State) (c : Fin 4) (cycles : Nat), s.isReady = true ∧ s.int (canDet c + 3) = 1 ∧ (∀ i ∈ (s.canPort c).detect.alive, edgeFits ((s.bitRates c).getD i (0, 0)).1 cycles = false)) ∧
    (∃ (s : State) (c : Fin 4) (cycles : Nat), s.isReady = true ∧ s.int (canDet c + 3) = 1 ∧ (∃ i ∈ (s.canPort c).detect.alive, edgeFits ((s.bitRates c).getD i (0, 0)).1 cycles = true)) ∧
    (∃ (s : State) (c : Fin 4) (cycles : Nat), s.isReady = true ∧ s.int (canDet c + 3) = 1 ∧ (∃ i ∈ (s.canPort c).detect.alive, edgeFits ((s.bitRates c).getD i (0, 0)).1 cycles = true)) ∧
    (∃ (s : State) (c : Fin 4), s.isReady = true ∧ (s.int (canDet c + 3) = 1 ∨ s.int (canDet c + 3) = 2)) ∧
    (∃ (s : State) (c : Fin 4), s.int (canDet c + 3) ≠ 1 ∧ s.int (canDet c + 3) ≠ 2) := by
  refine ⟨⟨WC 1 [(0x331502, n 120)], 1, true, ?_⟩,
   ⟨WC 0 [(0x331402, n 121), (0x331403, n 5)] { onBus := some 0 }, 0, true, ?_⟩,
   ⟨WC 2 [(0x331603, n 127)], 2, false, ?_⟩,
   ⟨WC 2 [(0x331603, n 3)], 2, false, ?_⟩,
   ⟨WC 1 [(0x331501, n 2), (0x331503, n 255)], 1, false, ?_⟩,
   ⟨WC 0 [(0x331401, n 2), (0x331402, n 248), (0x330103, n 5), (0x332006, n 1)] { onBus := some 0 }, 0, ?_⟩,
   ⟨WC 1 [(0x331501, n 2), (0x331502, n 248)], 1, ?_⟩,
   ⟨WC 1 [(0x331501, n 4)], 1, ?_⟩,
   ⟨WC 1 [(0x331501, n 5), (0x331D03, n 2)] { detect := { alive := [0, 2], trial := some 0 } }, 1, 0, ?_⟩,
   ⟨WC 1 [(0x331501, n 3)], 1, ?_⟩,
   ⟨WAC 1 [(0x331501, n 3)], Wr, 1, 1, ?_⟩,
   ⟨WAC 1, Wr, 1, 1, ?_⟩,
   ⟨WC 0 [(0x331401, n 3), (0x331402, n 255), (0x33100D, n 1), (0x330103, n 127)], 0, ?_⟩,
   ⟨WC 1 [(0x331501, n 3)] { recovering := true }, 1, ?_⟩,
   ⟨WC 1, 1, ?_⟩,
   ⟨WAC 1 [(0x331D01, opb [0,0,1,0,0,0,2,0])] { rates := some (1,2) }, Wr, 1, 1, ?_⟩,
   ⟨WAC 1 [(0x331D01, opb [])] { rates := some (1,2) }, Wr, 1, 1, ?_⟩,
   ⟨WC 1, 1, ?_⟩,
   ⟨WC 1 [(0x331D01, opb [0x20,0xA1,7,0,0x20,0xA1,7,0]), (0x331D03, n 1)] { detect := { alive := [0], edges := 3 } }, 1, 7, ?_⟩,
   ⟨WC 1 [(0x331D01, opb [0x20,0xA1,7,0,0x20,0xA1,7,0]), (0x331D03, n 1)] { detect := { alive := [0], edges := 31 } }, 1, 160, ?_⟩,
   ⟨WC 1 [(0x331D01, opb [0x20,0xA1,7,0,0x20,0xA1,7,0]), (0x331D03, n 1)] { detect := { alive := [0], edges := 30 } }, 1, 160, ?_⟩,
   ⟨WC 1 [(0x331D03, n 2)], 1, ?_⟩,
   ⟨WC 1, 1, ?_⟩⟩ <;> (try unfold State.admits) <;> decide +kernel

theorem witness_CanopenNodeStates :
    (∃ (s : State) (node : Fin 128), node.val ≠ 0 ∧ node.val ≠ s.canopen.nodeId) ∧
    (∃ (s : State) (node : Fin 128), s.isReady = true ∧ (node.val = 0 ∨ node.val = s.canopen.nodeId) ∧ s.int 0x330103 ≠ 0) ∧
    (∃ (s : State) (node : Fin 128), s.isReady = true ∧ (node.val = 0 ∨ node.val = s.canopen.nodeId) ∧ s.int 0x330103 ≠ 0) ∧
    (∃ (s : State) (node : Fin 128), s.isReady = true ∧ (node.val = 0 ∨ node.val = s.canopen.nodeId) ∧ s.int 0x330103 ≠ 0) ∧
    (∃ (s : State) (node : Fin 128), s.isReady = true ∧ (node.val = 0 ∨ node.val = s.canopen.nodeId) ∧ s.int 0x330103 ≠ 0) ∧
    (∃ (s : State), s.isReady = true ∧ s.int 0x101700 ≠ 0 ∧ s.int 0x330103 ≠ 0 ∧ s.canOpenSends = true ∧ (s.canPort 0).service.length < 16) ∧
    (∃ (s : State), (s.int 0x101700 = 0 ∨ s.int 0x330103 = 0 ∨ s.canOpenSends = false)) ∧
    (∃ (s : State) (node : Fin 128), s.isReady = true ∧ node.val ≠ 0) ∧
    (∃ (s : State) (i : Fin 4), s.isReady = true ∧ s.int (Od.key 0x3302 (i + 1)) = 2 ∧ s.int 0x102901 = 1) ∧
    (∃ (s : State) (i : Fin 4), s.int (Od.key 0x3302 (i + 1)) ≠ 2) ∧
    (∃ (s : State), s.isReady = true ∧ s.canopen.waiting = []) ∧
    (∃ (s : State) (f : Sys2Proof.CanFrame) (q : List Sys2Proof.CanFrame), s.isReady = true ∧ s.canopen.waiting = f :: q ∧ (s.canPort 0).service.length < 16) ∧
    (∃ (s : State), s.isReady = true ∧ (s.nat 0x101200).testBit 30 = false) ∧
    (∃ (s : State), s.isReady = true ∧ (s.nat 0x101200).testBit 30 = true ∧ s.ntValid = true ∧ s.int 0x330103 = 5 ∧ s.canOpenSends = true ∧ (s.canPort 0).service.length < 16 ∧ 5113 ≤ s.ntNow / 65536 / 1000000000 / 86400 ∧ s.ntNow / 65536 / 1000000000 / 86400 ≤ 70648) := by
  refine ⟨⟨WC 0, 7, ?_⟩,
   ⟨WC 0 [(0x330103, n 5)], 9, ?_⟩,
   ⟨WC 0 [(0x330103, n 127)], 0, ?_⟩,
   ⟨WC 0 [(0x330103, n 5), (0x100300, n 2), (0x100301, n 2), (0x330102, n 1)], 9, ?_⟩,
   ⟨WC 0 [(0x330103, n 4), (0x100300, n 2), (0x100301, n 2)], 0, ?_⟩,
   ⟨WC 0 [(0x330103, n 5), (0x101700, n 100), (0x331001, n 1)], ?_⟩,
   ⟨W [(0x101700, n 0)], ?_⟩,
   ⟨WC 0 [(0x101602, n 0x70064)], 7, ?_⟩,
   ⟨WC 0 [(0x330202, n 2), (0x102901, n 1), (0x330103, n 127), (0x331001, n 1)], 1, ?_⟩,
   ⟨WC 0, 1, ?_⟩,
   ⟨WC 0, ?_⟩,
   ⟨{ WC 0 [(0x330105, n 65535)] with canopen := { waiting := [cf] } }, cf, [], ?_⟩,
   ⟨W [(0x101200, n 0x80000100)], ?_⟩,
   ⟨{ WC 0 [(0x101200, n 0x40000100), (0x330103, n 5), (0x261901, n 1), (0x331001, n 1)] with clock := { ntDom := some .ta, nt := { base := 65536*1000000000*86400*20000 + 65536*5000000 } } }, ?_⟩⟩ <;> decide +kernel

theorem witness_PdosAndSync :
    (∃ (s : State) (data : List Byte), s.isReady = true ∧ s.inStep = false ∧ (s.int 0x330103 = 127 ∨ s.int 0x330103 = 5) ∧ data.length = (if s.int 0x101900 = 0 then 0 else 1) ∧ s.int 0x330103 = 127) ∧
    (∃ (s : State) (data : List Byte), s.isReady = true ∧ s.inStep = false ∧ (s.int 0x330103 = 127 ∨ s.int 0x330103 = 5) ∧ data.length ≠ (if s.int 0x101900 = 0 then 0 else 1)) ∧
    (∃ (s : State) (data : List Byte) (k : Fin 8), s.isReady = true ∧ s.inStep = false ∧ (s.int 0x330103 = 127 ∨ s.int 0x330103 = 5) ∧ data.length = (if s.int 0x101900 = 0 then 0 else 1) ∧ s.int 0x330103 = 5 ∧ s.canopen.rpdo = [] ∧ s.pdoOn (tpdoCom k) (tpdoMap k) = true ∧ (s.tpdo k).sample ≠ [] ∧ 1 ≤ s.nat (tpdoCom k + 2) ∧ s.nat (tpdoCom k + 2) ≤ 240 ∧ (s.int 0x101900 = 0 ∨ s.nat (tpdoCom k + 6) = 0 ∨ (s.tpdo k).started = true)) ∧
    (∃ (s : State) (data : List Byte) (k : Fin 8), s.isReady = true ∧ s.inStep = false ∧ (s.int 0x330103 = 127 ∨ s.int 0x330103 = 5) ∧ data.length = (if s.int 0x101900 = 0 then 0 else 1) ∧ s.int 0x330103 = 5 ∧ s.canopen.rpdo = [] ∧ s.pdoOn (tpdoCom k) (tpdoMap k) = true ∧ (s.tpdo k).sample ≠ [] ∧ 1 ≤ s.nat (tpdoCom k + 2) ∧ s.nat (tpdoCom k + 2) ≤ 240 ∧ (s.int 0x101900 = 0 ∨ s.nat (tpdoCom k + 6) = 0 ∨ (s.tpdo k).started = true)) ∧
    (∃ (s : State) (data : List Byte) (k : Nat) (d : List Byte), s.isReady = true ∧ s.inStep = false ∧ s.int 0x330103 = 5 ∧ data.length = (if s.int 0x101900 = 0 then 0 else 1) ∧ s.canopen.rpdo = [(k, d)] ∧ (∀ i : Fin 8, s.pdoOn (tpdoCom i) (tpdoMap i) = false)) ∧
    (∃ (s : State), s.isReady = true ∧ s.inStep = false ∧ s.int 0x330103 = 4) ∧
    (∃ (s : State) (k : Fin 8), s.isReady = true ∧ s.inStep = false ∧ (s.int 0x330103 ≠ 5 ∨ s.pdoOn (rpdoCom k) (rpdoMap k) = false)) ∧
    (∃ (s : State) (k : Fin 8), s.isReady = true ∧ s.inStep = false ∧ s.int 0x330103 = 5 ∧ s.pdoOn (rpdoCom k) (rpdoMap k) = true) ∧
    (∃ (s : State) (k : Fin 8), s.isReady = true ∧ s.inStep = false ∧ s.int 0x330103 = 5 ∧ s.pdoOn (rpdoCom k) (rpdoMap k) = true) ∧
    (∃ (s : State) (k : Fin 8), s.isReady = true ∧ s.inStep = false ∧ s.int 0x330103 = 5 ∧ s.pdoOn (rpdoCom k) (rpdoMap k) = true) ∧
    (∃ (s : State) (k : Fin 8), s.isReady = true ∧ s.inStep = false ∧ s.int 0x330103 = 5 ∧ s.pdoOn (rpdoCom k) (rpdoMap k) = true) ∧
    (∃ (s : State) (k : Fin 8), s.isReady = true ∧ s.inStep = false ∧ s.int 0x330103 = 5 ∧ s.pdoOn (rpdoCom k) (rpdoMap k) = true) ∧
    (∃ (s : State) (k : Fin 8), s.isReady = true ∧ s.canopen.timing.getLsbD k = true ∧ s.int 0x330103 = 5) ∧
    (∃ (s : State) (k : Fin 8), (s.canopen.timing.getLsbD k = false ∨ s.int 0x330103 ≠ 5)) ∧
    (∃ (s : State) (k : Fin 8), s.isReady = true ∧ s.int 0x330103 = 5 ∧ s.pdoOn (tpdoCom k) (tpdoMap k) = true ∧ 254 ≤ s.int (tpdoCom k + 2) ∧ s.int (tpdoCom k + 5) ≠ 0 ∧ (s.tpdo k).sample ≠ [] ∧ s.canOpenSends = true ∧ (s.canPort 0).service.length < 16) ∧
    (∃ (s : State) (k : Fin 8), (s.int 0x330103 ≠ 5 ∨ s.pdoOn (tpdoCom k) (tpdoMap k) = false ∨ s.int (tpdoCom k + 2) < 254 ∨ s.int (tpdoCom k + 5) = 0 ∨ (s.tpdo k).sample = [])) := by
  refine ⟨⟨WC 0 [(0x330103, n 127), (0x331001, n 1)], [], ?_⟩,
   ⟨WC 0 [(0x330103, n 127), (0x331001, n 1)], [1], ?_⟩,
   ⟨{ WC 0 [(0x330103, n 5), (0x331001, n 1), (0x101900, n 10), (0x180101, n 0x185), (0x1A0100, n 1), (0x1A0101, n 0x32010110), (0x180102, n 2)] with canopen := { tpdo := [(1, { sample := [4,5], syncs := 1 })] } }, [9], 1, ?_⟩,
   ⟨{ WC 0 [(0x330103, n 5), (0x331001, n 1), (0x180101, n 0x185), (0x1A0100, n 1), (0x1A0101, n 0x32010110), (0x180102, n 3)] with canopen := { tpdo := [(1, { sample := [4,5], syncs := 1 })] } }, [], 1, ?_⟩,
   ⟨{ WC 0 [(0x330103, n 5), (0x331001, n 1), (0x160101, n 0x32010110)] with canopen := { rpdo := [(1, [3, 4])] } }, [], 1, [3, 4], ?_⟩,
   ⟨WC 0 [(0x330103, n 4), (0x331001, n 1)], ?_⟩,
   ⟨WC 0 [(0x330103, n 4), (0x331001, n 1)], 1, ?_⟩,
   ⟨WC 0 [(0x330103, n 5), (0x331001, n 1), (0x140101, n 0x205), (0x160100, n 1), (0x160101, n 0x32010110), (0x140102, n 241)], 1, ?_⟩,
   ⟨WC 0 [(0x330103, n 5), (0x331001, n 1), (0x140101, n 0x205), (0x160100, n 1), (0x160101, n 0x32010110), (0x140102, n 240)], 1, ?_⟩,
   ⟨WC 0 [(0x330103, n 5), (0x331001, n 1), (0x140101, n 0x205), (0x160100, n 1), (0x160101, n 0x32010110), (0x140102, n 241)], 1, ?_⟩,
   ⟨WC 0 [(0x330103, n 5), (0x331001, n 1), (0x140101, n 0x205), (0x160100, n 1), (0x160101, n 0x32010110), (0x140102, n 240), (0x140105, n 7)], 1, ?_⟩,
   ⟨WC 0 [(0x330103, n 5), (0x331001, n 1), (0x140101, n 0x205), (0x160100, n 1), (0x160101, n 0x32010110), (0x140102, n 241)], 1, ?_⟩,
   ⟨{ WC 0 [(0x330103, n 5)] with canopen := { timing := 2 } }, 1, ?_⟩,
   ⟨W, 1, ?_⟩,
   ⟨{ WC 0 [(0x330103, n 5), (0x331001, n 1), (0x180101, n 0x185), (0x1A0100, n 1), (0x1A0101, n 0x32010110), (0x180102, n 254), (0x180105, n 5)] with canopen := { tpdo := [(1, { sample := [4,5], changed := true })] } }, 1, ?_⟩,
   ⟨W, 1, ?_⟩⟩ <;> decide +kernel

theorem witness_OutputsAreCommanded :
    (∃ (s : State) (w : Writer) (k : Fin 16) (v : Byte), s.admits w (fioSt k + 1) [v] ∧ s.fioRole k = 5) ∧
    (∃ (s : State) (w : Writer) (k : Fin 16) (v : Byte), s.admits w (fioSt k + 1) [v] ∧ s.fioRole k ≠ 5 ∧ s.fioMode k = 2 ∧ s.fio.link = true ∧ s.fio.preparing = false ∧ s.parked = false ∧ (s.supplyOf k).off = false ∧ (s.chan k).thermal = false ∧ (s.chan k).trip = 0) ∧
    (∃ (s : State) (k : Fin 16), s.isReady = true ∧ (s.chan k).trip = 2 ∧ s.commanded k = true) ∧
    (∃ (s : State) (k : Fin 16), s.isReady = true ∧ (s.chan k).trip = 2) ∧
    (∃ (s : State) (k : Fin 16), (s.chan k).trip ≠ 2) ∧
    (∃ (s : State) (w : Writer) (k : Fin 16) (m : BitVec 16), s.admits w (fioDiag k + 2) (le 2 m.toNat) ∧ (∀ j : Fin 16, (s.chan j).reverse = false) ∧ m.getLsbD 0 = true ∧ (s.chan k).trip = 1) ∧
    (∃ (s : State) (w : Writer) (k : Fin 16) (m : BitVec 16), s.admits w (fioDiag k + 2) (le 2 m.toNat) ∧ (∀ j : Fin 16, (s.chan j).reverse = false) ∧ m.getLsbD 0 = true ∧ (s.chan k).trip = 1) ∧
    (∃ (s : State) (w : Writer) (k : Fin 16) (m : BitVec 16), s.admits w (fioDiag k + 2) (le 2 m.toNat) ∧ (∀ j : Fin 16, (s.chan j).reverse = false) ∧ m.getLsbD 0 = false ∧ s.commanded k = true) ∧
    (∃ (s : State), s.isReady = false) ∧
    (∃ (s : State), s.isReady = true) := by
  refine ⟨⟨WAF [(0x322201, n 5)], Wr, 2, 1, ?_⟩,
   ⟨WAF, Wr, 2, 0, ?_⟩,
   ⟨WF [] { trip := 2, retries := 1 }, 2, ?_⟩,
   ⟨WF [(0x323201, n 0)] { trip := 2, retries := 1 }, 2, ?_⟩,
   ⟨WF, 2, ?_⟩,
   ⟨WAF [(0x324202, n 7)] { trip := 1, retries := 1 }, Wr, 2, 3, ?_⟩,
   ⟨WAF [(0x324202, n 7)] { trip := 1, retries := 1 }, Wr, 2, 0xFFFF, ?_⟩,
   ⟨WAF [(0x324202, n 7)] { trip := 2, retries := 1 }, Wr, 2, 2, ?_⟩,
   ⟨{ WF with power := { phase := .off } }, ?_⟩,
   ⟨WF, ?_⟩⟩ <;> (try unfold State.admits) <;> decide +kernel

theorem witness_ProtectionsTrip :
    (∃ (s : State) (k : Fin 16), s.applied k = false) ∧
    (∃ (s : State) (k : Fin 16), s.isReady = true ∧ s.applied k = true ∧ (s.chan k).limit = true ∧ s.int (fioCfg k + 8) = 0 ∧ (s.nat (fioDiag k + 2)).testBit 0 = false ∧ (∀ j : Fin 16, (s.chan j).reverse = false)) ∧
    (∃ (s : State) (k : Fin 16), s.isReady = true ∧ s.applied k = true ∧ (s.chan k).limit = false) ∧
    (∃ (s : State) (l : List Nat), s.isReady = true ∧ l.sum ≤ 4000) ∧
    (∃ (s : State) (g : Fin 2) (l : List Nat) (i : Fin 8), s.isReady = true ∧ 4000 < l.sum ∧ s.applied (8 * g + i) = true ∧ (∀ j : Fin 8, j ≠ i → s.applied (8 * g + j) = false) ∧ s.int (fioCfg (8 * g + i) + 8) = 0) ∧
    (∃ (s : State) (k : Fin 16), s.isReady = true ∧ (s.chan k).thermal = false) ∧
    (∃ (s : State) (k : Fin 16), s.isReady = true ∧ (s.chan k).thermal = true) := by
  refine ⟨⟨WF [(0x323201, n 0)], 2, ?_⟩,
   ⟨WF [(0x321208, n 0)] { limit := true }, 2, ?_⟩,
   ⟨WF, 2, ?_⟩,
   ⟨WF [] {} { vf1 := { overload := true } }, [1000, 3000], ?_⟩,
   ⟨WF [(0x321208, n 0)], 0, [0, 0, 4001], 2, ?_⟩,
   ⟨WF, 2, ?_⟩,
   ⟨WF [] { thermal := true }, 2, ?_⟩⟩ <;> decide +kernel

theorem witness_OutputsAreDiagnosed :
    (∃ (s : State) (k : Fin 16), s.isReady = true ∧ s.fioMode k ≠ 2) ∧
    (∃ (s : State) (k : Fin 16), s.isReady = true ∧ s.fioMode k = 2 ∧ s.isButty = true) ∧
    (∃ (s : State) (k : Fin 16) (high : Bool), s.isReady = true ∧ s.fioMode k = 2 ∧ s.isButty = false ∧ s.applied k ≠ high ∧ (s.supplyOf k).sag = true ∨ (s.supplyOf k).off = true ∨ (s.chan k).limit = true ∨ (s.chan k).thermal = true) ∧
    (∃ (s : State) (k : Fin 16) (high : Bool), s.isReady = true ∧ s.fioMode k = 2 ∧ s.isButty = false ∧ (s.supplyOf k).sag = false ∧ (s.supplyOf k).off = false ∧ (s.chan k).limit = false ∧ (s.chan k).thermal = false ∧ s.applied k = high ∧ s.pairing = false) ∧
    (∃ (s : State) (k : Fin 16) (high : Bool), s.isReady = true ∧ s.fioMode k = 2 ∧ s.isButty = false ∧ (s.supplyOf k).sag = false ∧ (s.supplyOf k).off = false ∧ (s.chan k).limit = false ∧ (s.chan k).thermal = false ∧ s.applied k = true ∧ high = false ∧ s.pairing = false) ∧
    (∃ (s : State) (k : Fin 16) (high : Bool), s.isReady = true ∧ s.fioMode k = 2 ∧ s.isButty = false ∧ (s.supplyOf k).sag = false ∧ (s.supplyOf k).off = false ∧ (s.chan k).limit = false ∧ (s.chan k).thermal = false ∧ s.applied k = false ∧ high = true ∧ s.pairing = false) ∧
    (∃ (s : State) (k : Fin 16), s.isReady = true ∧ s.int (fioCfg k + 0x0B) ≠ 0 ∧ s.applied k = true ∧ (s.supplyOf k).sag = false ∧ (s.chan k).flags.getLsbD 3 = false) ∧
    (∃ (s : State) (k : Fin 16), s.isReady = true ∧ (s.chan k).flags.getLsbD 3 = true) ∧
    (∃ (s : State) (k : Fin 16), (s.fioMode k ≠ 2 ∨ s.applied k = true)) ∧
    (∃ (s : State) (k : Fin 16), s.isReady = true ∧ s.fioMode k = 2 ∧ s.applied k = false ∧ s.pairing = false ∧ (s.supplyOf k).sag = false ∧ (∀ j : Fin 16, s.recent (s.chan j).onAt = false)) ∧
    (∃ (s : State) (k : Fin 16), s.isReady = true ∧ s.fioMode k = 2 ∧ s.applied k = false ∧ s.pairing = false ∧ (∀ j : Fin 16, s.recent (s.chan j).offAt = false)) ∧
    (∃ (s : State) (j : Fin 16) (k : Fin 16), s.isReady = true ∧ s.fioMode j = 2 ∧ s.applied j = false ∧ s.pairing = false ∧ s.overlapNear = false ∧ (s.supplyOf j).sag = false ∧ (s.supplyOf k).sag = false ∧ ((List.range 16).filter (fun i => i ≠ j.val)).find? (fun i => s.recent (s.chan i).onAt) = some k.val) ∧
    (∃ (s : State), s.isReady = true) ∧
    (∃ (s : State) (k : Fin 16), s.isReady = true ∧ s.applied k = false) ∧
    (∃ (s : State) (k : Fin 16), s.isReady = true ∧ s.applied k = true ∧ (s.chan k).reverse = false ∧ s.overlapNear = false ∧ (∀ i : Fin 8, s.applied (8 * (1 - k.val / 8) + i) = false)) ∧
    (∃ (s : State) (k : Fin 16) (pin : Bool), s.isReady = true ∧ s.inStep = false ∧ s.flag (fioSt k + 4) ≠ (pin != s.flag (fioCfg k + 4)) ∧ s.fioRole k = 0 ∧ s.int (fioCfg k + 5) = 0) ∧
    (∃ (s : State) (k : Fin 16) (pin : Bool), s.isReady = true ∧ s.inStep = false ∧ s.fioRole k ≠ 6 ∧ s.flag (fioSt k + 4) = (pin != s.flag (fioCfg k + 4))) := by
  refine ⟨⟨WF [(0x321201, n 1)], 2, ?_⟩,
   ⟨{ WF [(0x300102, n 2)] with pairing := true }, 2, ?_⟩,
   ⟨WF [] { thermal := true }, 2, true, ?_⟩,
   ⟨WF [] { flags := 0x180 }, 2, true, ?_⟩,
   ⟨WF, 2, false, ?_⟩,
   ⟨WF [(0x323201, n 0)], 2, true, ?_⟩,
   ⟨WF [(0x32120B, n 1)], 2, ?_⟩,
   ⟨WF [] { flags := 8 }, 2, ?_⟩,
   ⟨WF, 2, ?_⟩,
   ⟨WF [(0x323201, n 0)], 2, ?_⟩,
   ⟨WF [(0x323201, n 0)] { flags := 0x30 }, 2, ?_⟩,
   ⟨{ WF [(0x323201, n 0)] with fio := { link := true, chans := [(2, {}), (5, { onAt := some 0 })], drive := 0 } }, 2, 5, ?_⟩,
   ⟨WF [] { reverse := true }, ?_⟩,
   ⟨WF [(0x323201, n 0)] { reverse := true }, 2, ?_⟩,
   ⟨WF, 2, ?_⟩,
   ⟨WF [(0x321301, n 1)], 3, true, ?_⟩,
   ⟨WF [(0x321301, n 1)], 3, false, ?_⟩⟩ <;> decide +kernel

theorem witness_SuppliesSwitchGroups :
    (∃ (s : State) (g : Fin 2), s.isReady = true ∧ (s.supply g).sag = false ∧ (s.supply g).off = false) ∧
    (∃ (s : State) (g : Fin 2), s.isReady = true ∧ (s.supply g).sag = true) ∧
    (∃ (s : State) (g : Fin 2), s.isReady = true ∧ (s.supply g).sag = true) ∧
    (∃ (s : State) (g : Fin 2), s.isReady = true ∧ (s.supply g).sag = false) ∧
    (∃ (s : State) (g : Fin 2), s.isReady = true ∧ (s.supply g).off = true ∧ (s.supply g).sag = false ∧ (s.supply g).restoring = true) ∧
    (∃ (s : State) (g : Fin 2), (s.supply g).off = false ∨ (s.supply g).restoring = false) ∧
    (∃ (s : State) (w : Writer), s.admits w 0x320104 [3] ∧ (s.fio.vf1.sag = true ∨ s.fio.vf2.sag = true)) ∧
    (∃ (s : State) (w : Writer), s.admits w 0x320104 [3] ∧ s.fio.vf1.sag = false ∧ s.fio.vf2.sag = false) ∧
    (∃ (s : State), s.isReady = true) := by
  refine ⟨⟨WF, 0, ?_⟩,
   ⟨WF [] {} { vf1 := { sag := true, off := true } }, 0, ?_⟩,
   ⟨WF [] {} { vf2 := { sag := true } }, 1, ?_⟩,
   ⟨WF, 1, ?_⟩,
   ⟨WF [] {} { vf1 := { off := true, restoring := true } }, 0, ?_⟩,
   ⟨WF, 0, ?_⟩,
   ⟨WAF [] {} { vf2 := { sag := true, off := true } }, Wr, ?_⟩,
   ⟨WAF [] {} { vf2 := { off := true }, vf1 := { off := true } }, Wr, ?_⟩,
   ⟨WF, ?_⟩⟩ <;> (try unfold State.admits) <;> decide +kernel

theorem witness_VotesAndConsent :
    (∃ (s : State) (v : Fin 7), s.isReady = true ∧ s.voteSources.testBit v = false ∧ s.int 0x340101 ≠ 2 ∧ s.pairing = false ∧ s.mooring.override = false) ∧
    (∃ (s : State) (v : Fin 7), s.isReady = true ∧ s.voteSources.testBit v = false ∧ s.int 0x340101 ≠ 2 ∧ s.pairing = false ∧ s.mooring.override = false) ∧
    (∃ (s : State) (v : Fin 7), s.voteSources.testBit v = true) ∧
    (∃ (s : State), s.isReady = true ∧ Nat.land s.votes s.limited ≠ 0 ∧ s.mooring.override = false) ∧
    (∃ (s : State) (p : Cpl), (s.linkUpState p.no = false ∨ s.keyed p.no = false)) ∧
    (∃ (s : State) (p : Cpl) (c : Consent), s.isReady = true ∧ s.linkUpState p.no = true ∧ s.keyed p.no = true ∧ c.agreed = false ∧ s.rearwardIn p.no = false ∧ s.isLead = false) ∧
    (∃ (s : State) (p : Cpl) (c : Consent), s.isReady = true ∧ s.linkUpState p.no = true ∧ s.keyed p.no = true ∧ c.agreed = false ∧ s.rearwardIn p.no = false ∧ s.isLead = true ∧ Nat.land (s.nat 0x248101) c.vector.toNat = s.nat 0x248101 ∧ s.nat 0x248101 ≠ 0 ∧ s.muState = 0 ∧ s.int 0x243004 = 0 ∧ s.int 0x340101 ≠ 2 ∧ s.mooring.returned.1 ≠ c.token.toNat ∧ s.mooring.late = none) ∧
    (∃ (s : State) (p : Cpl) (c : Consent), s.isReady = true ∧ s.linkUpState p.no = true ∧ s.keyed p.no = true ∧ c.agreed = false ∧ s.rearwardIn p.no = false ∧ s.isLead = true ∧ Nat.land (s.nat 0x248101) c.vector.toNat = s.nat 0x248101 ∧ s.nat 0x248101 ≠ 0 ∧ s.muState = 0 ∧ s.int 0x243004 = 0 ∧ s.int 0x340101 ≠ 2 ∧ s.mooring.returned.1 ≠ c.token.toNat ∧ s.mooring.late = none) ∧
    (∃ (s : State), s.isReady = true ∧ s.mooring.stage = 4) ∧
    (∃ (s : State), s.isReady = true ∧ s.mooring.stage ≠ 4) ∧
    (∃ (s : State) (p : Cpl), s.isReady = true ∧ (∃ q : Nat, q < 4 ∧ s.int (Od.key (0x2410 + q) 1) ≠ 0 ∧ (s.mooring.slept ||| BitVec.ofNat 4 (2 ^ p.no)).getLsbD q = false)) ∧
    (∃ (s : State), 3 ≤ s.mooring.stage) := by
  refine ⟨⟨{ W [(0x340001, n 1)] with mooring := { held := 3 } }, 1, ?_⟩,
   ⟨{ W [(0x340001, n 1)] with mooring := { held := 2 } }, 1, ?_⟩,
   ⟨{ W [(0x340001, n 1)] with mu := { cab := true } }, 0, ?_⟩,
   ⟨{ W [(0x340001, n 1), (0x340004, n 1)] with mu := { cab := true } }, ?_⟩,
   ⟨W, .fa, ?_⟩,
   ⟨WL [(0x241006, n 2), (0x312601, n 2), (0x241204, n 2)], .aa, tok, ?_⟩,
   ⟨WL [(0x312601, n 2), (0x241204, n 2), (0x22200B, n 1), (0x222002, n 1), (0x248101, n 3)], .aa, tok, ?_⟩,
   ⟨WL [(0x312601, n 2), (0x241204, n 2), (0x22200B, n 1), (0x222002, n 1), (0x248101, n 3), (0x240003, n 0xFFFFFFFD), (0x240004, n 63)], .aa, tok, ?_⟩,
   ⟨{ W with mooring := { stage := 4 } }, ?_⟩,
   ⟨W, ?_⟩,
   ⟨W [(0x241201, n 1)], .fa, ?_⟩,
   ⟨{ W [(0x201002, n 2)] with mooring := { stage := 3 } }, ?_⟩⟩ <;> decide +kernel

theorem witness_WakeSources :
    (∃ (s : State), s.power.phase = .moored ∧ s.power.inh = false ∧ s.power.powerUp = false ∧ s.wakeEnabled 0 = true ∧ s.wake.dwell = false) ∧
    (∃ (s : State), s.power.phase = .moored ∧ s.power.inh = false ∧ s.power.powerUp = false ∧ s.wakeEnabled 0 = true ∧ s.wake.dwell = true) ∧
    (∃ (s : State), s.power.phase = .off) ∧
    (∃ (s : State), s.power.phase = .moored ∧ s.power.inh = false ∧ s.power.powerUp = false ∧ s.wake.dwell = false) ∧
    (∃ (s : State), s.power.phase = .moored ∧ s.power.inh = false ∧ s.power.powerUp = false ∧ s.wake.dwell = false) ∧
    (∃ (s : State), s.power.inh = true) ∧
    (∃ (s : State) (d : Nat), s.wake.dwell = true ∧ s.wake.late = some d) ∧
    (∃ (s : State) (c : Nat) (d : Nat), s.wake.dwell = true ∧ s.wake.late = none ∧ s.wake.waiting = some (c, d)) ∧
    (∃ (s : State), s.wake.dwell = true ∧ s.wake.late = none ∧ s.wake.waiting = none) ∧
    (∃ (s : State) (c : Nat) (d : Nat), s.wake.accepted = some (c, d) ∧ s.power.phase = .moored ∧ c ≠ 0) ∧
    (∃ (s : State) (p : Cpl), s.isReady = true ∧ s.isRunning = true ∧ s.int 0x340007 ≠ 0 ∧ s.linkState p.no = 1) ∧
    (∃ (s : State) (p : Cpl), s.isReady = true ∧ s.isRunning = true ∧ s.int 0x340007 ≠ 0 ∧ s.linkState p.no ≠ 1) := by
  refine ⟨⟨WM, ?_⟩,
   ⟨WM [] { dwell := true }, ?_⟩,
   ⟨{ W with power := { phase := .off } }, ?_⟩,
   ⟨WM [(0x341001, n 1), (0x322101, n 4)], ?_⟩,
   ⟨WM [(0x341001, n 2), (0x341002, n 0x123), (0x341003, n 0x7FF), (0x341004, n 1), (0x341005, n 1)], ?_⟩,
   ⟨W, ?_⟩,
   ⟨WM [] { dwell := true, late := some 4, waiting := some (2, 7) }, 4, ?_⟩,
   ⟨WM [] { dwell := true, waiting := some (2, 7) }, 2, 7, ?_⟩,
   ⟨WM [] { dwell := true }, ?_⟩,
   ⟨WM [] { accepted := some (2, 7) }, 2, 7, ?_⟩,
   ⟨W [(0x22100B, n 3), (0x340007, n 1), (0x241004, n 1)], .fa, ?_⟩,
   ⟨W [(0x22100B, n 3), (0x340007, n 1), (0x241004, n 2)], .fa, ?_⟩⟩ <;> decide +kernel

theorem witness_PairPins :
    (∃ (s : State), s.pairing = true ∧ s.int 0x300101 ≠ 1) ∧
    (∃ (s : State), s.pairing = true ∧ s.int 0x300101 ≠ 1) ∧
    (∃ (s : State), s.pairing = true ∧ s.int 0x300101 ≠ 1) ∧
    (∃ (s : State), s.pairing = true ∧ s.pair.xdisOut = true ∧ s.pair.takeover = none ∧ s.pair.xdisIn = false) ∧
    (∃ (s : State), s.pairing = true ∧ s.pair.roleIn = true ∧ s.pair.xdisOut = false ∧ s.int 0x300102 = 2 ∧ s.int 0x300101 = 3 ∧ s.pair.takeover = none) ∧
    (∃ (s : State), s.pairing = true ∧ s.pair.exchange ≠ 2 ∧ s.pair.xdisOut = false ∧ s.int 0x300101 ≠ 7) ∧
    (∃ (s : State), s.pairing = true ∧ s.pair.exchange ≠ 2 ∧ s.pair.xdisOut = false ∧ s.int 0x300101 ≠ 7) ∧
    (∃ (s : State), s.pairing = false) ∧
    (∃ (s : State), s.pair.roleIn = false) ∧
    (∃ (s : State), s.isReady = true ∧ s.pairing = true ∧ s.unitA = false ∧ s.pair.roleIn = false ∧ s.pair.roleOut = false ∧ s.int 0x300101 ≠ 7 ∧ s.pair.xdisIn = false ∧ s.pair.lowAt + ticks1us ≤ s.clock.counter) ∧
    (∃ (s : State), s.isReady = true ∧ s.pairing = true ∧ s.unitA = false ∧ s.pair.roleIn = false ∧ s.pair.roleOut = false ∧ s.int 0x300101 ≠ 7 ∧ (s.pair.xdisIn = true ∨ s.clock.counter < s.pair.lowAt + ticks1us)) ∧
    (∃ (s : State), s.isReady = true ∧ s.int 0x300101 = 1 ∧ s.pair.xdisIn = true) ∧
    (∃ (s : State), s.int 0x300101 ≠ 1) := by
  refine ⟨⟨WP { roleOut := true }, ?_⟩,
   ⟨{ WP { roleOut := true } with unitA := false }, ?_⟩,
   ⟨{ WP { roleOut := true } with unitA := false, clock := { counter := 313 } }, ?_⟩,
   ⟨WP { xdisOut := true, roleIn := true, roleOut := true }, ?_⟩,
   ⟨WP { roleIn := true } [(0x300102, n 2)], ?_⟩,
   ⟨WP { roleOut := true, own := some 3 }, ?_⟩,
   ⟨WP { roleOut := true, own := some 0 }, ?_⟩,
   ⟨W, ?_⟩,
   ⟨WP { xdisIn := true }, ?_⟩,
   ⟨{ WP with unitA := false, clock := { counter := 313 } }, ?_⟩,
   ⟨{ WP with unitA := false, clock := { counter := 312 } }, ?_⟩,
   ⟨WP { xdisIn := true } [(0x300101, n 1)], ?_⟩,
   ⟨W, ?_⟩⟩ <;> decide +kernel

theorem witness_TowLine :
    (∃ (s : State), s.isReady = true) ∧
    (∃ (s : State), s.isReady = true ∧ s.pair.up = true ∧ (s.int 0x300101 = 3 ∨ s.int 0x300101 = 4)) ∧
    (∃ (s : State), s.pair.up = false) ∧
    (∃ (s : State) (n : Fin 5), (n.val < 2 ∨ s.pairing = false)) ∧
    (∃ (s : State) (n : Fin 5), s.isReady = true ∧ 2 ≤ n.val ∧ s.pairing = true ∧ s.int 0x300101 = 3) ∧
    (∃ (s : State), (s.pairing = false ∨ s.pair.up = false)) ∧
    (∃ (s : State), s.isReady = true ∧ s.pairing = true ∧ s.pair.up = true) := by
  refine ⟨⟨W, ?_⟩,
   ⟨WP { up := true, unheard := 3 } [(0x300106, n 4)], ?_⟩,
   ⟨W, ?_⟩,
   ⟨W, 1, ?_⟩,
   ⟨WP { missing := 3 }, 2, ?_⟩,
   ⟨W, ?_⟩,
   ⟨WP { up := true }, ?_⟩⟩ <;> decide +kernel

theorem witness_PairComparesAndSwaps :
    (∃ (s : State) (own : Digests) (d : Digests), s.isReady = true ∧ s.pairing = true ∧ s.pair.up = true ∧ s.int 0x300101 = 3 ∧ s.pair.arbitrating = false ∧ s.pair.takeover = none ∧ s.pair.mine = some own ∧ s.pair.theirs = some d ∧ d.flight = own.flight ∧ d.passage = own.passage ∧ d.whole = own.whole) ∧
    (∃ (s : State) (own : Digests) (d : Digests), s.isReady = true ∧ s.pairing = true ∧ s.pair.up = true ∧ s.int 0x300101 = 3 ∧ s.pair.arbitrating = false ∧ s.pair.takeover = none ∧ s.pair.mine = some own ∧ s.pair.theirs = some d ∧ d.flight = own.flight ∧ d.passage = own.passage ∧ d.whole ≠ own.whole ∧ s.pair.run + 1 < s.nat 0x300003) ∧
    (∃ (s : State) (own : Digests) (d : Digests), s.isReady = true ∧ s.pairing = true ∧ s.pair.up = true ∧ s.int 0x300101 = 3 ∧ s.pair.arbitrating = false ∧ s.pair.takeover = none ∧ s.pair.mine = some own ∧ s.pair.theirs = some d ∧ d.flight = own.flight ∧ d.passage = own.passage ∧ d.whole ≠ own.whole ∧ s.nat 0x300003 ≤ s.pair.run + 1) ∧
    (∃ (s : State), s.pair.arbitrating = false ∧ s.pair.exchange ≠ 3) ∧
    (∃ (s : State), s.isReady = true ∧ s.pairing = true ∧ s.pair.arbitrating = true ∧ s.pair.exchange = 0 ∧ s.pair.own = none ∧ s.pair.other = none ∧ s.pair.lockstep = false ∧ s.pair.ecc = false) ∧
    (∃ (s : State), s.isReady = true ∧ s.pairing = true ∧ s.pair.arbitrating = true ∧ s.pair.exchange = 0 ∧ s.pair.own = none ∧ s.pair.other = some 0 ∧ s.pair.lockstep = false ∧ s.pair.ecc = false ∧ s.int 0x300004 = 0 ∧ s.int 0x300102 = 1) ∧
    (∃ (s : State), s.pair.takeover = none) ∧
    (∃ (s : State) (cause : Nat) (began : Nat), s.isReady = true ∧ s.pair.takeover = some (cause, began) ∧ cause ≠ 4 ∧ s.pair.xdisIn = false ∧ s.lock.tx = []) ∧
    (∃ (s : State) (w : Writer) (v : Byte), s.admits w 0x300502 [v] ∧ s.pair.up = false ∧ s.int 0x300101 ≠ 3) ∧
    (∃ (s : State) (w : Writer) (v : Byte), s.admits w 0x300502 [v] ∧ s.pair.up = false ∧ s.int 0x300101 = 3 ∧ s.pair.run ≠ 0) ∧
    (∃ (s : State) (w : Writer) (v : Byte), s.admits w 0x300502 [v] ∧ s.pair.up = false ∧ s.int 0x300101 = 3 ∧ s.pair.run = 0 ∧ s.pair.arbitrating = false ∧ s.pair.takeover = none ∧ s.pair.exchange = 0) ∧
    (∃ (s : State) (w : Writer) (v : Byte), s.admits w 0x300501 [v] ∧ s.pairing = false) ∧
    (∃ (s : State) (w : Writer) (v : Byte), s.admits w 0x300501 [v] ∧ s.pairing = true ∧ s.pair.up = true ∧ s.int 0x300102 = 2) ∧
    (∃ (s : State) (w : Writer) (v : Byte), s.admits w 0x300501 [v] ∧ s.pairing = true ∧ s.int 0x300102 = 1 ∧ s.int 0x300101 = 4 ∧ (s.pair.partnerFirmware : Int) = s.int 0x200006 ∧ s.pair.xdisOut = false) ∧
    (∃ (s : State), s.isReady = true ∧ s.int 0x300101 = 2 ∧ s.int 0x300404 = 1) ∧
    (∃ (s : State), s.isReady = true ∧ s.int 0x300101 = 2 ∧ s.int 0x300404 = 2) ∧
    (∃ (s : State), s.int 0x300101 ≠ 2) := by
  refine ⟨⟨WP { up := true, mine := some dg, theirs := some dg, run := 2 }, dg, dg, ?_⟩,
   ⟨WP { up := true, mine := some dg, theirs := some { dg with whole := 6, classes := [0,2] }, run := 0 } [(0x300003, n 2)], dg, { dg with whole := 6, classes := [0,2] }, ?_⟩,
   ⟨WP { up := true, mine := some dg, theirs := some { dg with whole := 6, classes := [0,2] }, run := 1 } [(0x300003, n 2)], dg, { dg with whole := 6, classes := [0,2] }, ?_⟩,
   ⟨WP, ?_⟩,
   ⟨WP { arbitrating := true, up := true }, ?_⟩,
   ⟨WP { arbitrating := true, other := some 0 } [(0x300004, n 0)], ?_⟩,
   ⟨WP, ?_⟩,
   ⟨WP { takeover := some (1, 0), overlap := true }, 1, 0, ?_⟩,
   ⟨WAP {} [(0x300101, n 4)], Wr, 1, ?_⟩,
   ⟨WAP { run := 1 }, Wr, 1, ?_⟩,
   ⟨WAP, Wr, 1, ?_⟩,
   ⟨WA, Wr, 1, ?_⟩,
   ⟨WAP { up := true } [(0x300101, n 1), (0x300102, n 2)], Wr, 1, ?_⟩,
   ⟨WAP { clean := 2, restarts := 2 } [(0x300101, n 4)], Wr, 1, ?_⟩,
   ⟨WP {} [(0x300101, n 2), (0x300404, n 1)], ?_⟩,
   ⟨WP { clean := 2 } [(0x300101, n 2), (0x300404, n 2)], ?_⟩,
   ⟨WP, ?_⟩⟩ <;> (try unfold State.admits) <;> decide +kernel

theorem witness_ResetLeavesTheStatedValues :
    ∃ (k : Nat) (r : OdRec) (e : OdEnt) (v : Val), Od.find? k = some (r, e) ∧ Od.default? k = some v :=
  ⟨0x101700, _, _, _, rfl, rfl⟩

theorem witness_EveryStepKeepsCanonicalForm : ∃ (s t : State), s.canonical ∧ step s = .next t := by
  refine ⟨{ W with pending := [.claimEnLow] }, _, ⟨?_, ?_, ?_⟩, rfl⟩ <;> decide +kernel

theorem witness_FusesOnlyBurn :
    (∃ (s t : State), step s = .next t) ∧ (∃ (s t : State) (c : Instr), exec c s = .next t ∧ t.fuses ≠ s.fuses) := by
  refine ⟨⟨{ W with pending := [.claimEnLow] }, _, rfl⟩,
    ⟨WA [(0x314006, n 2), (0x314005, n 3)], _, .advanceRollbackFloor Wr 3, rfl, ?_⟩⟩
  show (nx (execAdvanceRollbackFloor Wr 3 (WA [(0x314006, n 2), (0x314005, n 3)]))).fuses ≠ _
  decide +kernel

theorem witness_CommandsTouchOnlyTheirParts : ∃ (c : Instr) (p : Part), p ∉ touches c :=
  ⟨.storedEntryWrite, .od, by decide⟩

/-! ### Ill-formed operands are refused (WellFormed) -/

theorem wellFormed_takes :
    Instr.wellFormed (.flightBoundary [] []) = true ∧ Instr.wellFormed (.canFrameReceived 0 cf 0) = true ∧
    Instr.wellFormed (.bar2Write 0 [1] [true]) = true ∧ Instr.wellFormed (.write { lm with enables := [] } true false) = true := by
  decide

theorem wellFormed_roster_refused :
    rosterFrom 2 [{ berth := 1, identity := 0, pairId := 0, vehicle := 0, set := 0, position := 0, forward := true, rank := 0, syncCapable := false, offersTa := false, offersTb := false, cameras := [] }] = false ∧
    rosterFrom 1 [{ berth := 65, identity := 0, pairId := 0, vehicle := 0, set := 0, position := 0, forward := true, rank := 0, syncCapable := false, offersTa := false, offersTb := false, cameras := [] }] = false := by decide

theorem wellFormed_targets_refused :
    WriteTarget.wellFormed (.bar0 2 15 0) = false ∧ WriteTarget.wellFormed (.bar0 4096 15 0) = false ∧
    WriteTarget.wellFormed (.entry { writer := Wr, index := 65536, sub := 0 } []) = false ∧
    WriteTarget.wellFormed (.segment { writer := Wr, index := 0x3140, sub := 1 } 2 2 [1]) = false ∧
    ReadTarget.wellFormed (.entry 0 256) = false ∧ ReadTarget.wellFormed (.segment 0 0 (2 ^ 32)) = false ∧
    ReadTarget.wellFormed (.bar0 3) = false ∧ Access.wellFormed { writer := Wr, index := 0, sub := 256 } = false ∧
    DictOp.wellFormed (.read 0 256 0) = false ∧ DictOp.wellFormed (.write 65536 0 []) = false ∧
    DictOp.wellFormed (.segment 0 0 1 1 [1]) = false := by decide

theorem wellFormed_frames_refused :
    Header.wellFormed { hd 6 with berth := 65 } = false ∧ Header.wellFormed { hd 6 with slotIndex := 256 } = false ∧
    CanFrame.wellFormed { cf with data := [] } = false ∧ CanFrame.wellFormed { cf with ident := 0x800 } = false ∧
    CanFrame.wellFormed { cf with brs := true } = false ∧
    SliceHeader.wellFormed { shd with fragment := shd.fragments } = false ∧
    MgmtFrame.wellFormed { destination := 0, origin := 0, number := 0, total := 1, offset := 1, length := 1, content := .relayed [] } = false ∧
    Status.wellFormed { stt with resync := 101 } = false ∧ MakeUp.wellFormed { mkup with rank := 5 } = false ∧
    LockMsg.wellFormed { lm with tag := 320 } = false ∧ bar2WellFormed 67108863 2 0 = false ∧ bar2WellFormed 0 1 2 = false := by decide

/-! ### Worked values of the spec -/

/-- R178 and R175: a counter tick is 3.2 ns, 10 ticks are 32 ns of CT (2,097,152 units of 1/65536 ns). -/
theorem test_ct_of_ten_ticks : ({} : View).read 10 0 = 2097152 := by decide

/-- R346: an index that does not exist answers 0x01, a sub-index 0x02, a read-only entry 0x03. -/
theorem test_write_statuses :
    (WA).writeStatus Wr 0x270001 [0] = 1 ∧ (WA).writeStatus Wr 0x200063 [0] = 2 ∧ (WA).writeStatus Wr 0x210201 [0] = 3 := by
  decide +kernel

/-- R142: the default passage is 250,000 ns. -/
theorem test_default_passage : State.reset.int 0x240005 = 250000 := by decide +kernel

/-- R519: the 3,600th operating second is an operating hour since the last scrub; the one before is not. -/
theorem test_scrub_hours :
    (W [(0x200101, n 3599)]).second.int 0x210502 = 1 ∧ (W [(0x200101, n 3598)]).second.int 0x210502 = 0 := by decide +kernel

/-- R244: an arrival just before the next passage belongs to that passage. -/
theorem test_nearest : nearest (fun k => 100 + 250 * k) 340 = 1 ∧ nearest (fun k => 100 + 250 * k) 120 = 0 ∧
    nearest (fun k => 100 + 250 * k) (-140) = -1 := by decide

end Sys2Proof.Tests
end

/-!
SUPPORT. In-band interrupts of the CCI ports (R30, R31): an input of a unit that acts alone is acted on at once, and an
interrupt leads nowhere on a port whose script is not running.
-/

namespace Sys2Proof.Machine.State

/-- Outside a pair in step an input is acted on at once (R284). -/
theorem replicate_of_not_inStep {s : State} (h : s.inStep = false) (stamp : Int) (x : PairInput) (act : State → State) :
    s.replicate stamp x act = act s := by
  simp [replicate, h]

@[simp] theorem script?_put (s : State) (k : Nat) (v : Int) (p : Nat) : (s.put k v).script? p = s.script? p := rfl

@[simp] theorem script?_bump (s : State) (k p : Nat) : (s.bump k).script? p = s.script? p := rfl

@[simp] theorem script?_setCciPort (s : State) (q : Nat) (x : CciPort) (p : Nat) :
    (s.setCciPort q x).script? p = s.script? p := rfl

@[simp] theorem cciPort_put (s : State) (k : Nat) (v : Int) (p : Nat) : (s.put k v).cciPort p = s.cciPort p := rfl

@[simp] theorem cciPort_bump (s : State) (k p : Nat) : (s.bump k).cciPort p = s.cciPort p := rfl

/-- With no script to wake (R32), an in-band interrupt is counted and stamped and its payload kept, and that is all. -/
theorem inBand_of_no_script {s : State} {p : Nat} (h : s.script? p = none) (stamp : Int) (payload : List Byte) :
    s.inBand p stamp payload =
      ((s.bump (cciRec p + 0x11)).put (cciRec p + 0x12) stamp).setCciPort p
        { s.cciPort p with payload := payload.take 4 } := by
  simp [inBand, h]

end Sys2Proof.Machine.State

namespace Sys2Proof.Machine

open State

/-- CCI_IBI_RECEIVED of a READY unit that acts alone is the interrupt itself, stamped with the CT32 of now (R31). -/
theorem exec_cciIbiReceived_alone {s : State} (hready : s.isReady = true) (halone : s.inStep = false)
    (x : InBandInterrupt) : exec (.cciIbiReceived x) s = .next (s.inBand x.port s.ct32 x.payload) :=
  calc exec (.cciIbiReceived x) s
    _ = .next (s.served fun s =>
          s.replicate s.ctNow (.ibi x.port s.ct32 x.payload) (·.inBand x.port s.ct32 x.payload)) := rfl
    _ = .next (s.inBand x.port s.ct32 x.payload) := by
      rw [served_of_ready hready, replicate_of_not_inStep halone]

/-- Settles O9: acting alone the interrupt is not queued for a partner, and with no script on the port it wakes none. -/
theorem inBandInterruptsAreStampedAndCounted : Obligations.InBandInterruptsAreStampedAndCounted := by
  intro s p payload hready halone hscript
  rw [exec_cciIbiReceived_alone hready halone, inBand_of_no_script hscript]

end Sys2Proof.Machine

/-!
SUPPORT. Open water (R155, R156): what one egress holds after a frame is queued at it, and where a frame that is accepted
at an ingress goes.
-/

namespace Sys2Proof.Machine.State

@[simp] theorem pl_setPl_self (s : State) (p : Nat) (x : PortLine) : (s.setPl p x).pl p = x := Tab.get_set_self _ _ _ _

/-- A frame that would take the egress past its bound is dropped whole and counted (R156). -/
theorem owQueueUp_of_overfull {s : State} {p : Nat} {x : OwItem} (h : 262144 < s.owHeld p + (x.bytes + 90)) :
    s.owQueueUp p x = s.bump 0x24000B := if_pos h

/-- A frame that fits is queued behind the frames served no later than its class (R155). -/
theorem owQueueUp_of_fits {s : State} {p : Nat} {x : OwItem} (h : s.owHeld p + (x.bytes + 90) ≤ 262144) :
    let before := (s.pl p).owQueue.takeWhile (fun y => decide (owClass y.otype ≤ owClass x.otype))
    s.owQueueUp p x =
      s.setPl p { s.pl p with owQueue := before ++ [x] ++ (s.pl p).owQueue.drop before.length } :=
  if_neg (Nat.not_lt.mpr h)

/-- Queueing a frame that fits changes no entry. -/
theorem owQueueUp_od_of_fits {s : State} {p : Nat} {x : OwItem} (h : s.owHeld p + (x.bytes + 90) ≤ 262144) :
    (s.owQueueUp p x).od = s.od := by
  rw [owQueueUp_of_fits h, setPl_od]

/-- A frame put in by its class neither displaces nor duplicates another: the queue is the old one and the frame. -/
theorem owQueueUp_queue_perm {s : State} {p : Nat} {x : OwItem} (h : s.owHeld p + (x.bytes + 90) ≤ 262144) :
    ((s.owQueueUp p x).pl p).owQueue.Perm (x :: (s.pl p).owQueue) := by
  rw [owQueueUp_of_fits h, pl_setPl_self]
  generalize hb : (s.pl p).owQueue.takeWhile (fun y => decide (owClass y.otype ≤ owClass x.otype)) = before
  have hprefix : before <+: (s.pl p).owQueue := hb ▸ List.takeWhile_prefix _
  have hsplit : before ++ (s.pl p).owQueue.drop before.length = (s.pl p).owQueue :=
    List.prefix_iff_eq_append.mp hprefix
  calc before ++ [x] ++ (s.pl p).owQueue.drop before.length
    _ = before ++ x :: (s.pl p).owQueue.drop before.length := List.append_cons .. |>.symm
    List.Perm _ (x :: (before ++ (s.pl p).owQueue.drop before.length)) := List.perm_middle
    _ = x :: (s.pl p).owQueue := by rw [hsplit]

/-- A frame that fits is held whole: its payload and the 90 bytes about it (R158). -/
theorem owHeld_owQueueUp_of_fits {s : State} {p : Nat} {x : OwItem} (h : s.owHeld p + (x.bytes + 90) ≤ 262144) :
    (s.owQueueUp p x).owHeld p = s.owHeld p + (x.bytes + 90) :=
  calc (s.owQueueUp p x).owHeld p
    _ = ((x :: (s.pl p).owQueue).map (fun y => y.bytes + 90)).sum := ((owQueueUp_queue_perm h).map _).sum_eq
    _ = s.owHeld p + (x.bytes + 90) := by simp [owHeld, Nat.add_comm]

/-- The entries of a coupler port's link record. -/
theorem linkRec_add (p n : Nat) : linkRec p + n = Od.key (0x2410 + p) n := by
  simp [linkRec, Od.key]

/-- A sound frame without a violation, under the hash in force, is taken by the device it is for, and else crosses to the
far egress while that link is up (R155, R243, R245). -/
theorem owReceived_of_accepted {s u : State} {p : Nat} {f : OwFrame} {fine : Nat} (hlink : s.linkUpState p = true)
    (hu : u = s.bump (Od.key (0x2410 + p) 9)) (hkey : u.keyed p = true) (hkeeper : u.keeper p < 2)
    (hjudge : u.owJudge p f (u.ctAt u.clock.counter fine) = 0)
    (hhash : u.mu.applied = false ∨ (f.hdr.hash.toNat : Int) = u.int 0x222001) (hfcs : f.fcsOk = true)
    (hicv : f.icvOk = true) :
    s.owReceived p f fine =
      if f.destination.toNat = u.fuses.identity then u
      else if u.linkUpState (acrossPort p) then
        u.owQueueUp (acrossPort p) { otype := f.otype, bytes := f.bytes, header := some f.hdr }
      else u := by
  rw [← linkRec_add] at hu
  have hagrees : ¬(u.mu.applied = true ∧ (f.hdr.hash.toNat : Int) ≠ u.int 0x222001) := by
    rintro ⟨happlied, hdiffers⟩
    exact hhash.elim (by simp [happlied]) hdiffers
  simp only [owReceived, ← hu, hlink, hkey, hjudge, hfcs, hicv, if_neg hagrees, if_neg (Int.not_le.mpr hkeeper),
    ne_eq, not_true_eq_false, and_false, Bool.true_eq_false, false_or, if_true, if_false]

end Sys2Proof.Machine.State

namespace Sys2Proof.Machine

open State

/-- OPEN_WATER_FRAME_RECEIVED of a READY unit is the reception itself. -/
theorem exec_openWaterFrameReceived {s : State} (hready : s.isReady = true) (p : Cpl) (f : OwFrame) (fine : Fin 32) :
    exec (.openWaterFrameReceived p f fine) s = .next (s.owReceived p.no f fine) :=
  calc exec (.openWaterFrameReceived p f fine) s
    _ = .next (s.served (·.owReceived p.no f fine)) := rfl
    _ = .next (s.owReceived p.no f fine) := by rw [served_of_ready hready]

/-- Settles O11: a frame for another device is queued at the far egress, which drops it or holds it by R156. -/
theorem openWaterBuffersAreBounded : Obligations.OpenWaterBuffersAreBounded := by
  intro s u p f fine hready hlink hu hkey hkeeper hjudge hhash hfcs hicv hdest hacross
  have hqueued : exec (.openWaterFrameReceived p f fine) s =
      .next (u.owQueueUp (acrossPort p.no) { otype := f.otype, bytes := f.bytes, header := some f.hdr }) := by
    rw [exec_openWaterFrameReceived hready,
      owReceived_of_accepted hlink hu hkey (by omega) hjudge hhash hfcs hicv, if_neg hdest, if_pos hacross]
  constructor
  · intro hover
    rw [hqueued, owQueueUp_of_overfull hover]
  · intro hfits
    exact ⟨_, hqueued, owHeld_owQueueUp_of_fits hfits, owQueueUp_od_of_fits hfits⟩

end Sys2Proof.Machine

/-!
SUPPORT. The indices of the dictionary (R368): a record covers a range of indices, adjoining records fuse to the ranges
of the index tables, and an access to an index no record covers is refused with status 0x01 (R346, R362).
-/

namespace Sys2Proof.Machine.Od

/-- `i` lies in one of the ranges, each given as its first index and its length. -/
def Covered (ranges : List (Nat × Nat)) (i : Nat) : Prop := ∃ r ∈ ranges, r.1 ≤ i ∧ i < r.1 + r.2

/-- A range put before others, as one with the first of them where it ends at that one's start. -/
def fuse (r : Nat × Nat) : List (Nat × Nat) → List (Nat × Nat)
  | [] => [r]
  | q :: rest => if r.1 + r.2 = q.1 then (r.1, r.2 + q.2) :: rest else r :: q :: rest

theorem covered_cons {r : Nat × Nat} {rest : List (Nat × Nat)} {i : Nat} :
    Covered (r :: rest) i ↔ (r.1 ≤ i ∧ i < r.1 + r.2) ∨ Covered rest i :=
  List.exists_mem_cons_iff ..

theorem covered_fuse {r : Nat × Nat} {rest : List (Nat × Nat)} {i : Nat} :
    Covered (fuse r rest) i ↔ Covered (r :: rest) i := by
  cases rest with
  | nil => rfl
  | cons q rest =>
    rw [fuse]
    split
    case isTrue hadjoin =>
      have hunion : (r.1 ≤ i ∧ i < r.1 + (r.2 + q.2)) ↔ (r.1 ≤ i ∧ i < r.1 + r.2) ∨ (q.1 ≤ i ∧ i < q.1 + q.2) := by
        omega
      rw [covered_cons, covered_cons, covered_cons, hunion, or_assoc]
    case isFalse => rfl

theorem covered_foldr_fuse {ranges : List (Nat × Nat)} {i : Nat} :
    Covered (ranges.foldr fuse []) i ↔ Covered ranges i := by
  induction ranges with
  | nil => rfl
  | cons r rest ih => rw [List.foldr_cons, covered_fuse, covered_cons, covered_cons, ih]

theorem record?_isSome_iff {i : Nat} : (record? i).isSome = true ↔ ∃ r ∈ table, r.base ≤ i ∧ i < r.base + r.count := by
  simp [record?, List.find?_isSome]

/-- Ranges that are the records' own with adjoining ones fused are the indices that have a record. -/
theorem record?_isSome_iff_covered {ranges : List (Nat × Nat)}
    (h : (table.map fun r => (r.base, r.count)).foldr fuse [] = ranges) (i : Nat) :
    (record? i).isSome = true ↔ Covered ranges i := by
  rw [record?_isSome_iff, ← h, covered_foldr_fuse]
  simp [Covered]

/-- An index in a gap that no record reaches into has no record. -/
theorem record?_of_gap {first last i : Nat} (hgap : ∀ r ∈ table, r.base + r.count ≤ first ∨ last < r.base)
    (hin : first ≤ i ∧ i ≤ last) : record? i = none := by
  rw [← Option.not_isSome_iff_eq_none, record?_isSome_iff]
  rintro ⟨r, hr, hcovers⟩
  have hclear := hgap r hr
  omega

theorem indexOf_key {sub : Nat} (h : sub < 256) (i : Nat) : indexOf (key i sub) = i := by
  simp only [indexOf, key]
  omega

end Sys2Proof.Machine.Od

namespace Sys2Proof.Machine.State

theorem takeDue_of_none {s : State} (h : s.power.resetDue = none) : s.takeDue = s := by
  simp [takeDue, h]

/-- A write the SDO server takes is acted on at once outside a pair in step (R284, R449). -/
theorem asInput_alone {s : State} {w : Writer} (hopen : s.sdoClosed w = false) (halone : s.inStep = false)
    (k : Nat) (data : List Byte) (act : State → State) : s.asInput w k data act = act s := by
  simp [asInput, hopen, replicate_of_not_inStep halone]

section
variable {s : State} {k : Nat} (hnone : Od.record? (Od.indexOf k) = none)
include hnone

/-- The first check of a write, whatever the value (R346). -/
theorem writeStatus_of_no_record (w : Writer) (data : List Byte) : s.writeStatus w k data = 1 := by
  simp [writeStatus, writeChecks, hnone]

/-- The first check of a read (R346). -/
theorem readStatus_of_no_record (w : Writer) : s.readStatus w k = 1 := by
  simp [readStatus, hnone]

theorem readEntry_of_no_record {w : Writer} (hopen : s.sdoClosed w = false) (offset : Nat) (whole : Bool) :
    s.readEntry w k offset whole = s.respond w 1 [] := by
  simp [readEntry, hopen, readStatus_of_no_record hnone]

/-- The write is refused before any effect, and with no reset due none follows the answer. -/
theorem writeEntry_of_no_record {w : Writer} (hopen : s.sdoClosed w = false) (halone : s.inStep = false)
    (hdue : s.power.resetDue = none) (data : List Byte) : s.writeEntry w k data = s.respond w 1 [] := by
  have hrefused : s.performWrite w k data = (s, 1) := by simp [performWrite, writeStatus_of_no_record hnone]
  have hnoReset : (s.respond w 1 []).power.resetDue = none := by rw [respond_power, hdue]
  rw [writeEntry, asInput_alone hopen halone]
  simp [hrefused, writeStatus_of_no_record hnone, takeDue_of_none hnoReset]

/-- The write is an entry's own: 0x3120:01, the entry that takes session messages (R357), has a record. -/
theorem anyWrite_of_no_record (w : Writer) (data : List Byte) : s.anyWrite w k data = s.writeEntry w k data := by
  have hrecord : (Od.record? (Od.indexOf 0x312001)).isSome = true := by decide
  have hk : k ≠ 0x312001 := by
    rintro rfl
    simp [hnone] at hrecord
  simp [anyWrite, clientWrite, hk]

end

end Sys2Proof.Machine.State

namespace Sys2Proof.Machine

open State

/-- DICT_READ of a READY unit is the read itself; an SDO upload carries the value whole (R348). -/
theorem exec_dictRead_entry {s : State} (hready : s.isReady = true) (w : Writer) (i sub : Nat) :
    exec (.dictRead w (.entry i sub)) s = .next (s.readEntry w (Od.key i sub) 0 true) :=
  calc exec (.dictRead w (.entry i sub)) s
    _ = .next (s.served (·.readEntry w (Od.key i sub) 0 true)) := rfl
    _ = .next (s.readEntry w (Od.key i sub) 0 true) := by rw [served_of_ready hready]

/-- REGISTER_WRITE of an entry of a READY unit is the client's write itself. -/
theorem exec_registerWrite_entry {s : State} (hready : s.isReady = true) (a : Access) (data : List Byte) :
    exec (.registerWrite (.entry a data)) s = .next (s.anyWrite a.writer (Od.key a.index a.sub) data) :=
  calc exec (.registerWrite (.entry a data)) s
    _ = .next (s.served (·.anyWrite a.writer (Od.key a.index a.sub) data)) := rfl
    _ = .next (s.anyWrite a.writer (Od.key a.index a.sub) data) := by rw [served_of_ready hready]

/-- Settles O8: the statement's ranges are the records' ranges with adjoining ones fused, and no record reaches into its
gaps; an access to an index without a record fails the first check, before any effect (R346, R368). -/
theorem onlyTheListedIndicesExist : Obligations.OnlyTheListedIndicesExist := by
  refine ⟨Od.record?_isSome_iff_covered (by decide +kernel), ?_, ?_⟩
  · intro s w i sub data hready hopen halone hdue hnone hsub
    rw [← Od.indexOf_key hsub i] at hnone
    constructor
    · rw [exec_dictRead_entry hready, readEntry_of_no_record hnone hopen]
    · rw [exec_registerWrite_entry hready, anyWrite_of_no_record hnone,
        writeEntry_of_no_record hnone hopen halone hdue]
  · rintro i (hin | hin | hin)
    · exact Od.record?_of_gap (by decide +kernel) hin
    · exact Od.record?_of_gap (by decide +kernel) hin
    · exact Od.record?_of_gap (by decide +kernel) hin

end Sys2Proof.Machine

/-!
SUPPORT. What every command and every step keep: each meaning's own `_keep` rule, gathered over the commands.
-/

namespace Sys2Proof.Machine

/-- Every command ends in a next state that keeps all but the parts listed for it. -/
theorem exec_ends (c : Instr) (s : State) : Ends (touches c) s (exec c s) := by
  cases c with
  | flightBoundary => exact execFlightBoundary_keep rfl (Keep.refl _ _)
  | passageStart => exact execPassageStart_keep rfl (Keep.refl _ _)
  | registerWrite => exact execRegisterWrite_keep rfl (Keep.refl _ _)
  | dictRead => exact execDictRead_keep rfl (Keep.refl _ _)
  | counterClear => exact execCounterClear_keep rfl (Keep.refl _ _)
  | segmentTimeout => exact execSegmentTimeout_keep rfl (Keep.refl _ _)
  | commit => exact execCommit_keep rfl (Keep.refl _ _)
  | commitStoreDone => exact execCommitStoreDone_keep rfl (Keep.refl _ _)
  | discard => exact execDiscard_keep rfl (Keep.refl _ _)
  | stagingIdleTimeout => exact execStagingIdleTimeout_keep rfl (Keep.refl _ _)
  | operationCancel => exact execOperationCancel_keep rfl (Keep.refl _ _)
  | storedEntryWrite => exact execStoredEntryWrite_keep rfl (Keep.refl _ _)
  | activeCabChange => exact execActiveCabChange_keep rfl (Keep.refl _ _)
  | makeUpRequest => exact execMakeUpRequest_keep rfl (Keep.refl _ _)
  | makeUpSend => exact execMakeUpSend_keep rfl (Keep.refl _ _)
  | makeUpReceived => exact execMakeUpReceived_keep rfl (Keep.refl _ _)
  | makeUpTimeout => exact execMakeUpTimeout_keep rfl (Keep.refl _ _)
  | listenTimerExpired => exact execListenTimerExpired_keep rfl (Keep.refl _ _)
  | coldStartReceived => exact execColdStartReceived_keep rfl (Keep.refl _ _)
  | attemptComplete => exact execAttemptComplete_keep rfl (Keep.refl _ _)
  | integrateTimeout => exact execIntegrateTimeout_keep rfl (Keep.refl _ _)
  | adoptionMeasurementEnd => exact execAdoptionMeasurementEnd_keep rfl (Keep.refl _ _)
  | ctAdoption => exact execCtAdoption_keep rfl (Keep.refl _ _)
  | linkUp => exact execLinkUp_keep rfl (Keep.refl _ _)
  | linkDown => exact execLinkDown_keep rfl (Keep.refl _ _)
  | linkLimitCleared => exact execLinkLimitCleared_keep rfl (Keep.refl _ _)
  | starLinkChange => exact execStarLinkChange_keep rfl (Keep.refl _ _)
  | mdioPoll => exact execMdioPoll_keep rfl (Keep.refl _ _)
  | mdioRead => exact execMdioRead_keep rfl (Keep.refl _ _)
  | mdioWrite => exact execMdioWrite_keep rfl (Keep.refl _ _)
  | mdioAccessDone => exact execMdioAccessDone_keep rfl (Keep.refl _ _)
  | slotFrameReceived => exact execSlotFrameReceived_keep rfl (Keep.refl _ _)
  | slotFrameCut => exact execSlotFrameCut_keep rfl (Keep.refl _ _)
  | slotForwardRelease => exact execSlotForwardRelease_keep rfl (Keep.refl _ _)
  | slotOriginate => exact execSlotOriginate_keep rfl (Keep.refl _ _)
  | openWaterFrameReceived => exact execOpenWaterFrameReceived_keep rfl (Keep.refl _ _)
  | openWaterSend => exact execOpenWaterSend_keep rfl (Keep.refl _ _)
  | statusReceived => exact execStatusReceived_keep rfl (Keep.refl _ _)
  | modeRequest => exact execModeRequest_keep rfl (Keep.refl _ _)
  | passageMarkerFire => exact execPassageMarkerFire_keep rfl (Keep.refl _ _)
  | starFrameReceived => exact execStarFrameReceived_keep rfl (Keep.refl _ _)
  | filterUnblock => exact execFilterUnblock_keep rfl (Keep.refl _ _)
  | syncReceived => exact execSyncReceived_keep rfl (Keep.refl _ _)
  | offsetCorrection => exact execOffsetCorrection_keep rfl (Keep.refl _ _)
  | holdoverLimitExpired => exact execHoldoverLimitExpired_keep rfl (Keep.refl _ _)
  | gptpSyncReceived => exact execGptpSyncReceived_keep rfl (Keep.refl _ _)
  | gptpFollowUpReceived => exact execGptpFollowUpReceived_keep rfl (Keep.refl _ _)
  | gptpPdelayReqReceived => exact execGptpPdelayReqReceived_keep rfl (Keep.refl _ _)
  | gptpPdelayRespReceived => exact execGptpPdelayRespReceived_keep rfl (Keep.refl _ _)
  | gptpAnnounceReceived => exact execGptpAnnounceReceived_keep rfl (Keep.refl _ _)
  | gptpSyncTimeout => exact execGptpSyncTimeout_keep rfl (Keep.refl _ _)
  | gptpSyncSend => exact execGptpSyncSend_keep rfl (Keep.refl _ _)
  | gptpAnnounceSend => exact execGptpAnnounceSend_keep rfl (Keep.refl _ _)
  | gptpPdelayReqSend => exact execGptpPdelayReqSend_keep rfl (Keep.refl _ _)
  | domainRelationStale => exact execDomainRelationStale_keep rfl (Keep.refl _ _)
  | domainAbsent => exact execDomainAbsent_keep rfl (Keep.refl _ _)
  | relationWrite => exact execRelationWrite_keep rfl (Keep.refl _ _)
  | selectionRequest => exact execSelectionRequest_keep rfl (Keep.refl _ _)
  | ntSwitchAnnounce => exact execNtSwitchAnnounce_keep rfl (Keep.refl _ _)
  | ntSwitchInstant => exact execNtSwitchInstant_keep rfl (Keep.refl _ _)
  | ntSlewEnd => exact execNtSlewEnd_keep rfl (Keep.refl _ _)
  | ntFallback => exact execNtFallback_keep rfl (Keep.refl _ _)
  | tmSnap => exact execTmSnap_keep rfl (Keep.refl _ _)
  | arm => exact execArm_keep rfl (Keep.refl _ _)
  | timePulseEdge => exact execTimePulseEdge_keep rfl (Keep.refl _ _)
  | timePulseEnd => exact execTimePulseEnd_keep rfl (Keep.refl _ _)
  | timeCaptureEdge => exact execTimeCaptureEdge_keep rfl (Keep.refl _ _)
  | removeOldest => exact execRemoveOldest_keep rfl (Keep.refl _ _)
  | genlockPulse => exact execGenlockPulse_keep rfl (Keep.refl _ _)
  | trigger => exact execTrigger_keep rfl (Keep.refl _ _)
  | frameStart => exact execFrameStart_keep rfl (Keep.refl _ _)
  | csiLongPacket => exact execCsiLongPacket_keep rfl (Keep.refl _ _)
  | frameEnd => exact execFrameEnd_keep rfl (Keep.refl _ _)
  | csiSotError => exact execCsiSotError_keep rfl (Keep.refl _ _)
  | frameStartWindowExpired => exact execFrameStartWindowExpired_keep rfl (Keep.refl _ _)
  | rvfPacketReceived => exact execRvfPacketReceived_keep rfl (Keep.refl _ _)
  | cameraLockTimeout => exact execCameraLockTimeout_keep rfl (Keep.refl _ _)
  | cameraLostTimeout => exact execCameraLostTimeout_keep rfl (Keep.refl _ _)
  | cameraFaultTimeout => exact execCameraFaultTimeout_keep rfl (Keep.refl _ _)
  | cciScriptEntryDone => exact execCciScriptEntryDone_keep rfl (Keep.refl _ _)
  | cciScriptDelayExpired => exact execCciScriptDelayExpired_keep rfl (Keep.refl _ _)
  | cciScriptWaitTimeout => exact execCciScriptWaitTimeout_keep rfl (Keep.refl _ _)
  | cciIbiReceived => exact execCciIbiReceived_keep rfl (Keep.refl _ _)
  | cciHotJoin => exact execCciHotJoin_keep rfl (Keep.refl _ _)
  | cciAccessRead => exact execCciAccessRead_keep rfl (Keep.refl _ _)
  | cciAccessWrite => exact execCciAccessWrite_keep rfl (Keep.refl _ _)
  | cciAccessDone => exact execCciAccessDone_keep rfl (Keep.refl _ _)
  | panTimeout => exact execPanTimeout_keep rfl (Keep.refl _ _)
  | viewDefinitionReceived => exact execViewDefinitionReceived_keep rfl (Keep.refl _ _)
  | warpSliceProduced => exact execWarpSliceProduced_keep rfl (Keep.refl _ _)
  | sliceEncoded => exact execSliceEncoded_keep rfl (Keep.refl _ _)
  | sliceFragmentReceived => exact execSliceFragmentReceived_keep rfl (Keep.refl _ _)
  | sliceForward => exact execSliceForward_keep rfl (Keep.refl _ _)
  | panelScriptEnd => exact execPanelScriptEnd_keep rfl (Keep.refl _ _)
  | displayFrameStart => exact execDisplayFrameStart_keep rfl (Keep.refl _ _)
  | sliceCutOff => exact execSliceCutOff_keep rfl (Keep.refl _ _)
  | sliceEmitted => exact execSliceEmitted_keep rfl (Keep.refl _ _)
  | displayFrameEnd => exact execDisplayFrameEnd_keep rfl (Keep.refl _ _)
  | consentReceived => exact execConsentReceived_keep rfl (Keep.refl _ _)
  | voteIdleExpired => exact execVoteIdleExpired_keep rfl (Keep.refl _ _)
  | awakeTimerExpired => exact execAwakeTimerExpired_keep rfl (Keep.refl _ _)
  | phySleepComplete => exact execPhySleepComplete_keep rfl (Keep.refl _ _)
  | wakeInEdge => exact execWakeInEdge_keep rfl (Keep.refl _ _)
  | remoteWake => exact execRemoteWake_keep rfl (Keep.refl _ _)
  | canWup => exact execCanWup_keep rfl (Keep.refl _ _)
  | canWuf => exact execCanWuf_keep rfl (Keep.refl _ _)
  | fieldWakeRequest => exact execFieldWakeRequest_keep rfl (Keep.refl _ _)
  | wakeDwellEnd => exact execWakeDwellEnd_keep rfl (Keep.refl _ _)
  | wakeAccepted => exact execWakeAccepted_keep rfl (Keep.refl _ _)
  | wakeProbe => exact execWakeProbe_keep rfl (Keep.refl _ _)
  | towLaneLoss => exact execTowLaneLoss_keep rfl (Keep.refl _ _)
  | towLineLost => exact execTowLineLost_keep rfl (Keep.refl _ _)
  | towLineUp => exact execTowLineUp_keep rfl (Keep.refl _ _)
  | towInputReceived => exact execTowInputReceived_keep rfl (Keep.refl _ _)
  | digestWindowEnd => exact execDigestWindowEnd_keep rfl (Keep.refl _ _)
  | selfCheckResult => exact execSelfCheckResult_keep rfl (Keep.refl _ _)
  | roleInFall => exact execRoleInFall_keep rfl (Keep.refl _ _)
  | xdisInRise => exact execXdisInRise_keep rfl (Keep.refl _ _)
  | mbbOverlapEnd => exact execMbbOverlapEnd_keep rfl (Keep.refl _ _)
  | claimDelayExpired => exact execClaimDelayExpired_keep rfl (Keep.refl _ _)
  | pairFormingTimeout => exact execPairFormingTimeout_keep rfl (Keep.refl _ _)
  | resynchronisationRequest => exact execResynchronisationRequest_keep rfl (Keep.refl _ _)
  | plannedExchange => exact execPlannedExchange_keep rfl (Keep.refl _ _)
  | snapshotSent => exact execSnapshotSent_keep rfl (Keep.refl _ _)
  | replayLevel => exact execReplayLevel_keep rfl (Keep.refl _ _)
  | claimEnLow => exact execClaimEnLow_keep rfl (Keep.refl _ _)
  | claimWindowExpired => exact execClaimWindowExpired_keep rfl (Keep.refl _ _)
  | ownerRootWrite => exact execOwnerRootWrite_keep rfl (Keep.refl _ _)
  | claimCommand => exact execClaimCommand_keep rfl (Keep.refl _ _)
  | release => exact execRelease_keep rfl (Keep.refl _ _)
  | hello => exact execHello_keep rfl (Keep.refl _ _)
  | finish => exact execFinish_keep rfl (Keep.refl _ _)
  | sessionRequest => exact execSessionRequest_keep rfl (Keep.refl _ _)
  | sessionClose => exact execSessionClose_keep rfl (Keep.refl _ _)
  | sessionIdleTimeout => exact execSessionIdleTimeout_keep rfl (Keep.refl _ _)
  | revocationWrite => exact execRevocationWrite_keep rfl (Keep.refl _ _)
  | peerOwnerWrite => exact execPeerOwnerWrite_keep rfl (Keep.refl _ _)
  | flushCache => exact execFlushCache_keep rfl (Keep.refl _ _)
  | cacheEntryExpiry => exact execCacheEntryExpiry_keep rfl (Keep.refl _ _)
  | offer => exact execOffer_keep rfl (Keep.refl _ _)
  | certs => exact execCerts_keep rfl (Keep.refl _ _)
  | proof => exact execProof_keep rfl (Keep.refl _ _)
  | resume => exact execResume_keep rfl (Keep.refl _ _)
  | confirm => exact execConfirm_keep rfl (Keep.refl _ _)
  | refuse => exact execRefuse_keep rfl (Keep.refl _ _)
  | authRetryTimer => exact execAuthRetryTimer_keep rfl (Keep.refl _ _)
  | rekeyTrigger => exact execRekeyTrigger_keep rfl (Keep.refl _ _)
  | rekeyOffer => exact execRekeyOffer_keep rfl (Keep.refl _ _)
  | rekeyConfirm => exact execRekeyConfirm_keep rfl (Keep.refl _ _)
  | streamKeyDelivery => exact execStreamKeyDelivery_keep rfl (Keep.refl _ _)
  | streamKeyAck => exact execStreamKeyAck_keep rfl (Keep.refl _ _)
  | imageLoad => exact execImageLoad_keep rfl (Keep.refl _ _)
  | selectImage => exact execSelectImage_keep rfl (Keep.refl _ _)
  | healthTimeout => exact execHealthTimeout_keep rfl (Keep.refl _ _)
  | advanceRollbackFloor => exact execAdvanceRollbackFloor_keep rfl (Keep.refl _ _)
  | bundle => exact execBundle_keep rfl (Keep.refl _ _)
  | closeArm => exact execCloseArm_keep rfl (Keep.refl _ _)
  | closeConfirm => exact execCloseConfirm_keep rfl (Keep.refl _ _)
  | challengeExpired => exact execChallengeExpired_keep rfl (Keep.refl _ _)
  | debugUnlock => exact execDebugUnlock_keep rfl (Keep.refl _ _)
  | lastKnownTimeStore => exact execLastKnownTimeStore_keep rfl (Keep.refl _ _)
  | mgmtFrameReceived => exact execMgmtFrameReceived_keep rfl (Keep.refl _ _)
  | mgmtReassemblyTimeout => exact execMgmtReassemblyTimeout_keep rfl (Keep.refl _ _)
  | mgmtResponseTimeout => exact execMgmtResponseTimeout_keep rfl (Keep.refl _ _)
  | relayRequest => exact execRelayRequest_keep rfl (Keep.refl _ _)
  | sdoTimeout => exact execSdoTimeout_keep rfl (Keep.refl _ _)
  | go => exact execGo_keep rfl (Keep.refl _ _)
  | abort => exact execAbort_keep rfl (Keep.refl _ _)
  | hpMbRack => exact execHpMbRack_keep rfl (Keep.refl _ _)
  | mailboxIdleTimeout => exact execMailboxIdleTimeout_keep rfl (Keep.refl _ _)
  | hpErrClear => exact execHpErrClear_keep rfl (Keep.refl _ _)
  | functionLevelReset => exact execFunctionLevelReset_keep rfl (Keep.refl _ _)
  | pcieLinkChange => exact execPcieLinkChange_keep rfl (Keep.refl _ _)
  | egClaim => exact execEgClaim_keep rfl (Keep.refl _ _)
  | egDone => exact execEgDone_keep rfl (Keep.refl _ _)
  | egPendSet => exact execEgPendSet_keep rfl (Keep.refl _ _)
  | egPendClr => exact execEgPendClr_keep rfl (Keep.refl _ _)
  | egMaskSet => exact execEgMaskSet_keep rfl (Keep.refl _ _)
  | egMaskClr => exact execEgMaskClr_keep rfl (Keep.refl _ _)
  | egOvrSet => exact execEgOvrSet_keep rfl (Keep.refl _ _)
  | egOvrClr => exact execEgOvrClr_keep rfl (Keep.refl _ _)
  | egTctrl => exact execEgTctrl_keep rfl (Keep.refl _ _)
  | bar2Write => exact execBar2Write_keep rfl (Keep.refl _ _)
  | bar2Read => exact execBar2Read_keep rfl (Keep.refl _ _)
  | write => exact execWrite_keep rfl (Keep.refl _ _)
  | read => exact execRead_keep rfl (Keep.refl _ _)
  | readData => exact execReadData_keep rfl (Keep.refl _ _)
  | ack => exact execAck_keep rfl (Keep.refl _ _)
  | report => exact execReport_keep rfl (Keep.refl _ _)
  | retry => exact execRetry_keep rfl (Keep.refl _ _)
  | declare => exact execDeclare_keep rfl (Keep.refl _ _)
  | summaryPoll => exact execSummaryPoll_keep rfl (Keep.refl _ _)
  | summary => exact execSummary_keep rfl (Keep.refl _ _)
  | summaryStale => exact execSummaryStale_keep rfl (Keep.refl _ _)
  | lockWriteTimeout => exact execLockWriteTimeout_keep rfl (Keep.refl _ _)
  | lockReadTimeout => exact execLockReadTimeout_keep rfl (Keep.refl _ _)
  | prefetchLineExpiry => exact execPrefetchLineExpiry_keep rfl (Keep.refl _ _)
  | lkFence => exact execLkFence_keep rfl (Keep.refl _ _)
  | lkErrPop => exact execLkErrPop_keep rfl (Keep.refl _ _)
  | canFrameReceived => exact execCanFrameReceived_keep rfl (Keep.refl _ _)
  | tunnelRelease => exact execTunnelRelease_keep rfl (Keep.refl _ _)
  | txRequest => exact execTxRequest_keep rfl (Keep.refl _ _)
  | txAbort => exact execTxAbort_keep rfl (Keep.refl _ _)
  | canTxComplete => exact execCanTxComplete_keep rfl (Keep.refl _ _)
  | canBusError => exact execCanBusError_keep rfl (Keep.refl _ _)
  | recoveryRequest => exact execRecoveryRequest_keep rfl (Keep.refl _ _)
  | busOffRecovered => exact execBusOffRecovered_keep rfl (Keep.refl _ _)
  | rxRelease => exact execRxRelease_keep rfl (Keep.refl _ _)
  | startDetection => exact execStartDetection_keep rfl (Keep.refl _ _)
  | detectionTimeout => exact execDetectionTimeout_keep rfl (Keep.refl _ _)
  | nmtStart => exact execNmtStart_keep rfl (Keep.refl _ _)
  | nmtStop => exact execNmtStop_keep rfl (Keep.refl _ _)
  | nmtEnterPreoperational => exact execNmtEnterPreoperational_keep rfl (Keep.refl _ _)
  | nmtResetNode => exact execNmtResetNode_keep rfl (Keep.refl _ _)
  | nmtResetCommunication => exact execNmtResetCommunication_keep rfl (Keep.refl _ _)
  | sync => exact execSync_keep rfl (Keep.refl _ _)
  | rpdoReceived => exact execRpdoReceived_keep rfl (Keep.refl _ _)
  | rpdoTimeout => exact execRpdoTimeout_keep rfl (Keep.refl _ _)
  | tpdoEventTimer => exact execTpdoEventTimer_keep rfl (Keep.refl _ _)
  | timeProduce => exact execTimeProduce_keep rfl (Keep.refl _ _)
  | heartbeatProduce => exact execHeartbeatProduce_keep rfl (Keep.refl _ _)
  | heartbeatReceived => exact execHeartbeatReceived_keep rfl (Keep.refl _ _)
  | heartbeatTimeout => exact execHeartbeatTimeout_keep rfl (Keep.refl _ _)
  | emcyInhibitExpired => exact execEmcyInhibitExpired_keep rfl (Keep.refl _ _)
  | command => exact execCommand_keep rfl (Keep.refl _ _)
  | overcurrentTrip => exact execOvercurrentTrip_keep rfl (Keep.refl _ _)
  | tripRetry => exact execTripRetry_keep rfl (Keep.refl _ _)
  | groupOverload => exact execGroupOverload_keep rfl (Keep.refl _ _)
  | thermalShutdown => exact execThermalShutdown_keep rfl (Keep.refl _ _)
  | readbackMismatch => exact execReadbackMismatch_keep rfl (Keep.refl _ _)
  | openLoad => exact execOpenLoad_keep rfl (Keep.refl _ _)
  | externalDrive => exact execExternalDrive_keep rfl (Keep.refl _ _)
  | reverse => exact execReverse_keep rfl (Keep.refl _ _)
  | latchedFlagClear => exact execLatchedFlagClear_keep rfl (Keep.refl _ _)
  | fieldInputChange => exact execFieldInputChange_keep rfl (Keep.refl _ _)
  | supplySag => exact execSupplySag_keep rfl (Keep.refl _ _)
  | supplySagEnd => exact execSupplySagEnd_keep rfl (Keep.refl _ _)
  | supplyOff => exact execSupplyOff_keep rfl (Keep.refl _ _)
  | supplyRestore => exact execSupplyRestore_keep rfl (Keep.refl _ _)
  | restoreRequest => exact execRestoreRequest_keep rfl (Keep.refl _ _)
  | overvoltage => exact execOvervoltage_keep rfl (Keep.refl _ _)
  | dieLinkLoss => exact execDieLinkLoss_keep rfl (Keep.refl _ _)
  | reportWrite => exact execReportWrite_keep rfl (Keep.refl _ _)
  | clearToken => exact execClearToken_keep rfl (Keep.refl _ _)
  | startCollection => exact execStartCollection_keep rfl (Keep.refl _ _)
  | logCollectRequest => exact execLogCollectRequest_keep rfl (Keep.refl _ _)
  | logCollectData => exact execLogCollectData_keep rfl (Keep.refl _ _)
  | logCollectEnd => exact execLogCollectEnd_keep rfl (Keep.refl _ _)
  | logCollectRefused => exact execLogCollectRefused_keep rfl (Keep.refl _ _)
  | logCollectCancel => exact execLogCollectCancel_keep rfl (Keep.refl _ _)
  | collectionTimeout => exact execCollectionTimeout_keep rfl (Keep.refl _ _)
  | histogramSample => exact execHistogramSample_keep rfl (Keep.refl _ _)
  | histogramStore => exact execHistogramStore_keep rfl (Keep.refl _ _)
  | porRelease => exact execPorRelease_keep rfl (Keep.refl _ _)
  | bootImageVerified => exact execBootImageVerified_keep rfl (Keep.refl _ _)
  | ready => exact execReady_keep rfl (Keep.refl _ _)
  | railWarning => exact execRailWarning_keep rfl (Keep.refl _ _)
  | railFailure => exact execRailFailure_keep rfl (Keep.refl _ _)
  | vaonLoss => exact execVaonLoss_keep rfl (Keep.refl _ _)
  | quietRequest => exact execQuietRequest_keep rfl (Keep.refl _ _)
  | islandRestart => exact execIslandRestart_keep rfl (Keep.refl _ _)
  | referenceFault => exact execReferenceFault_keep rfl (Keep.refl _ _)
  | referenceLossReset => exact execReferenceLossReset_keep rfl (Keep.refl _ _)
  | warmReset => exact execWarmReset_keep rfl (Keep.refl _ _)
  | watchdogExpiry => exact execWatchdogExpiry_keep rfl (Keep.refl _ _)
  | safetyMonitorFault => exact execSafetyMonitorFault_keep rfl (Keep.refl _ _)
  | resetRequest => exact execResetRequest_keep rfl (Keep.refl _ _)
  | debugReset => exact execDebugReset_keep rfl (Keep.refl _ _)
  | avsStep => exact execAvsStep_keep rfl (Keep.refl _ _)
  | sramScrub => exact execSramScrub_keep rfl (Keep.refl _ _)
  | scrubRequest => exact execScrubRequest_keep rfl (Keep.refl _ _)
  | mramScrubStart => exact execMramScrubStart_keep rfl (Keep.refl _ _)
  | mramScrubChunk => exact execMramScrubChunk_keep rfl (Keep.refl _ _)
  | temperatureSample => exact execTemperatureSample_keep rfl (Keep.refl _ _)
  | vaonRise => exact execVaonRise_keep rfl (Keep.refl _ _)
  | porNLow => exact execPorNLow_keep rfl (Keep.refl _ _)
  | resetRelease => exact execResetRelease_keep rfl (Keep.refl _ _)
  | pairRoleInRise => exact execPairRoleInRise_keep rfl (Keep.refl _ _)
  | pairXdisInFall => exact execPairXdisInFall_keep rfl (Keep.refl _ _)
  | wakeInInactive => exact execWakeInInactive_keep rfl (Keep.refl _ _)
  | couplerPhySleep => exact execCouplerPhySleep_keep rfl (Keep.refl _ _)
  | msixVectorUnmask => exact execMsixVectorUnmask_keep rfl (Keep.refl _ _)
  | imageHealthy => exact execImageHealthy_keep rfl (Keep.refl _ _)
  | referenceRecovered => exact execReferenceRecovered_keep rfl (Keep.refl _ _)
  | lockstepError => exact execLockstepError_keep rfl (Keep.refl _ _)
  | arbitrationLost => exact execArbitrationLost_keep rfl (Keep.refl _ _)
  | deskewSequence => exact execDeskewSequence_keep rfl (Keep.refl _ _)
  | peerDelayFailure => exact execPeerDelayFailure_keep rfl (Keep.refl _ _)
  | detectionEdge => exact execDetectionEdge_keep rfl (Keep.refl _ _)

/-- What a command answers is a state that keeps all but its parts. -/
theorem exec_keep {c : Instr} {s t : State} (h : exec c s = .next t) : Keep (touches c) s t := by
  obtain ⟨u, hu, hkeep⟩ := exec_ends c s
  rw [hu] at h
  cases h
  exact hkeep

/-- A step is a tick, or the front command on the state with the rest of the queue. -/
theorem step_cases {s t : State} (h : step s = .next t) :
    (s.pending = [] ∧ t = s.tick) ∨ ∃ c rest, s.pending = c :: rest ∧ exec c { s with pending := rest } = .next t := by
  unfold step at h
  split at h
  case h_1 hnil => exact .inl ⟨hnil, by cases h; rfl⟩
  case h_2 c rest hcons => exact .inr ⟨c, rest, hcons, h⟩

/-- The parts a tick of the local counter may change. -/
def tickParts : List Part := [.od, .dict, .clock, .line, .gate, .log, .trust, .slices, .canopen, .fio, .pair, .acts]

theorem tick_keeps (s : State) : Keep tickParts s s.tick := State.tick_keep rfl (Keep.refl _ _)

/-- A step burns fuses at most. -/
theorem step_burns {s t : State} (h : step s = .next t) : s.fuses.burnt t.fuses := by
  obtain ⟨-, rfl⟩ | ⟨c, rest, -, hexec⟩ := step_cases h
  · exact (tick_keeps s).fuses
  · exact (exec_keep hexec).fuses

/-- A step keeps the stores in canonical form. -/
theorem step_canonical {s t : State} (hs : s.canonical) (h : step s = .next t) : t.canonical := by
  obtain ⟨-, rfl⟩ | ⟨c, rest, -, hexec⟩ := step_cases h
  · exact (tick_keeps s).canonical hs
  · exact (exec_keep hexec).canonical hs

/-- Settles O4: every command, and the tick, keep the canonical form of the stores. -/
theorem everyStepKeepsCanonicalForm : Obligations.EveryStepKeepsCanonicalForm := by
  intro s t hs h
  exact step_canonical hs h

/-- Settles O5: every command, and the tick, burn fuses at most, and a command that does not list them leaves them. -/
theorem fusesOnlyBurn : Obligations.FusesOnlyBurn := by
  refine ⟨fun s t h => step_burns h, fun s t c h hne => ?_⟩
  by_contra hmem
  exact hne ((exec_keep h).same .fuses hmem)

/-- Settles O6: the frame of a command is what its meaning keeps. -/
theorem commandsTouchOnlyTheirParts : Obligations.CommandsTouchOnlyTheirParts := by
  intro c s
  obtain ⟨t, ht, hkeep⟩ := exec_ends c s
  exact ⟨t, ht, hkeep.pending, hkeep.out, hkeep.free, hkeep.same⟩

/-- The stores of the machine at reset list nothing. -/
theorem reset_canonical : State.reset.canonical := ⟨rfl, rfl, rfl⟩

/-- Settles O3. -/
theorem resetIsCanonical : Obligations.ResetIsCanonical := reset_canonical

end Sys2Proof.Machine

/-!
SUPPORT. The machine at reset, and the order in which a step takes commands.
-/

namespace Sys2Proof.Machine

open State

/-- A store that lists nothing holds every static default. -/
theorem raw_of_empty {s : State} (hod : s.od = []) {k : Nat} {v : Val} (hdefault : Od.default? k = some v) : s.raw k = v := by
  simp [raw, hod, Tab.find?, hdefault]

theorem reset_od : State.reset.od = [] := rfl

/-- Settles O1: the parts of the reset state stand at their first values, and its dictionary store is empty. -/
theorem resetLeavesTheStatedValues : Obligations.ResetLeavesTheStatedValues := by
  refine ⟨⟨rfl, rfl, rfl, rfl, rfl, rfl, rfl, rfl, rfl⟩,
    ⟨rfl, rfl, rfl, rfl, rfl, rfl, fun x => rfl, rfl, rfl⟩, ?_, ?_, ?_, ?_, ?_⟩
  case _ => decide +kernel
  case _ => decide +kernel
  case _ => decide +kernel
  case _ => decide +kernel
  case _ => exact fun k r e v _ hdefault => raw_of_empty reset_od hdefault

/-- Without a running counter, or before READY, a tick changes nothing (R175, R516). -/
theorem tick_of_idle {s : State} (h : s.clock.running = false ∨ s.isReady = false) : s.tick = s := by
  unfold tick
  refine if_neg ?_
  rintro ⟨hrunning, hready⟩
  rcases h with h | h
  · simp [h] at hrunning
  · simp [h] at hready

/-- Settles O2: the queue decides between its front command and the tick. -/
theorem stepTakesTheFrontCommand : Obligations.StepTakesTheFrontCommand := by
  refine ⟨fun s c rest => rfl, fun s hnil => ⟨?_, tick_of_idle⟩⟩
  simp only [step, hnil]

end Sys2Proof.Machine

/-!
SUPPORT. Held BAR2 requests (R425): a message that frees tags lets them go on, and with them a write of the own host to
the own exchange memory.
-/

namespace Sys2Proof.Machine

open State

/-- READY at berth 1, the exchange memory a region that permits writes, and a write of one byte to it held: it had come
behind a request without a tag. -/
def heldWriteState : State where
  fuses := { identity := 5 }
  power := { phase := .ready }
  od := [(0x222002, .num 1), (0x360088, .num (0x40000 * 2 ^ 20 + 2 ^ 41))]
  lock := { held := [(true, .write 16 [7] [])] }

/-- An ACK of berth 2 to every berth, of no tag. -/
def emptyAck : LockMsg where
  origin := 7
  originBerth := 2
  length := 0
  tag := 3
  offset := 0
  destination := 0
  data := []

/-- The ACK lets the held write go on (R425), which stores its byte. -/
theorem ack_runs_heldWrite :
    ∃ t, exec (.ack emptyAck) heldWriteState = .next t ∧ t.lock.exchange = [(16, 7)] :=
  ⟨_, rfl, by decide +kernel⟩

/-- Refutes O7: an ACK changes the exchange memory where a held write of the own host goes on. -/
theorem not_bytesChangeOnlyWhereStored : ¬ Obligations.BytesChangeOnlyWhereStored := by
  rintro ⟨-, -, hothers, -, -⟩
  obtain ⟨t, hexec, hstored⟩ := ack_runs_heldWrite
  have hkept : t.lock.exchange = heldWriteState.lock.exchange :=
    hothers heldWriteState t 0 0 emptyAck false false (.inr (.inr (.inr (.inl hexec))))
  rw [hstored] at hkept
  exact absurd hkept (by decide)

end Sys2Proof.Machine

/-!
SUPPORT. A flight boundary lets held BAR2 requests go on (R435), and one that the image of BAR0 ignores is counted at the
host port (R399).
-/

namespace Sys2Proof.Machine

open State

/-- READY at berth 1 with CT valid, the image of the EG_ registers a region that permits writes, and a write of one byte
of a DW of it held. -/
def heldImageWriteState : State where
  fuses := { identity := 5 }
  power := { phase := .ready }
  od := [(0x222002, .num 1), (0x260001, .num 2), (0x360088, .num (0x40800 + 0x300 * 2 ^ 20 + 2 ^ 41))]
  lock := { held := [(true, .write 0x40800 [7] [])] }

/-- The write goes on at the boundary, and is ignored as no whole DW. -/
theorem flightBoundary_ignores_heldWrite :
    ∃ t, exec (.flightBoundary [] []) heldImageWriteState = .next t ∧ t.host.err = 1 :=
  ⟨_, rfl, by decide +kernel⟩

/-- Refutes O12: a flight boundary changes the host port where a held write to the image of BAR0 goes on and is ignored. -/
theorem not_flightsAndPassages : ¬ Obligations.FlightsAndPassages := by
  rintro ⟨-, hboundary, -, -, -⟩
  obtain ⟨t, hexec, herr⟩ := flightBoundary_ignores_heldWrite
  obtain ⟨u, huexec, -, -, -, hhost, -⟩ :=
    hboundary heldImageWriteState [] [] (by decide +kernel) (by decide +kernel)
  have htu : t = u := by
    rw [hexec] at huexec
    cases huexec
    rfl
  rw [htu, hhost] at herr
  exact absurd herr (by decide)

end Sys2Proof.Machine

/-!
SUPPORT. Slot frames (R158 to R160, R245, R553): what an own frame that leaves a port records and counts, and where the
lock-keeper leads a frame that arrives.
-/

namespace Sys2Proof.Machine.State

/-- An operation that would change nothing changes nothing, served or not. -/
theorem served_eq_self {s : State} {f : State → State} (h : f s = s) : s.served f = s := by
  unfold served
  split
  · exact h
  · rfl

/-! ### Own frames -/

@[simp] theorem slotAct_out (s : State) (h : Header) (l : List Byte) : (s.slotAct h l).out = s.out := by
  unfold slotAct
  split
  · rfl
  · exact act_out ..

@[simp] theorem slotAct_line (s : State) (h : Header) (l : List Byte) : (s.slotAct h l).line = s.line := by
  unfold slotAct
  split
  · rfl
  · exact act_line ..

@[simp] theorem frameLeaves_out (s : State) (p : Nat) : (s.frameLeaves p).out = s.out := by
  unfold frameLeaves
  simp only
  split <;> rfl

@[simp] theorem frameLeaves_line (s : State) (p : Nat) : (s.frameLeaves p).line = s.line := by
  unfold frameLeaves
  simp only
  split <;> rfl

@[simp] theorem leaves_out (s : State) (p n : Nat) : (s.leaves p n).out = s.out := frameLeaves_out s p

@[simp] theorem leaves_seqNos (s : State) (p n : Nat) : (s.leaves p n).line.seqNos = s.line.seqNos := by
  simp [leaves, setPl]

/-- An own frame is told with its number and its bytes (R159). -/
theorem sendFrame_out (s : State) (p : Nat) (h : Header) (stamp : Int) (payload : List Byte) :
    (s.sendFrame p h stamp payload).out = s.out ++ [.own p h s.fuses.identity (s.sequenceOf p h.ptype.toNat)
      (stamp / 65536 % 2 ^ 32) (s.frameOf p h (stamp / 65536) payload)] := by
  simp [sendFrame, emit]

/-- The numbers of a channel and payload type go on with each own frame (R159). -/
theorem sendFrame_seqNos (s : State) (p : Nat) (h : Header) (stamp : Int) (payload : List Byte) :
    Tab.get (α := Nat) 0 (s.sendFrame p h stamp payload).line.seqNos (chanNo p * 16 + h.ptype.toNat) =
      (s.sequenceOf p h.ptype.toNat + 1) % 256 :=
  Tab.get_set_self ..

/-- An own frame of a slot leaves where the link may carry it. -/
theorem sendOwn_of_mayCross {s : State} {p : Nat} {x : Slot} (h : s.mayCross p (isHead x.ptype) = true) (idx : Nat)
    (payload : List Byte) :
    s.sendOwn p idx x payload = s.sendFrame p (s.ownHeader p idx x payload.length) (s.ownEgress p x) payload := if_pos h

@[simp] theorem stampSyncOut_out (s : State) (p idx : Nat) (t : Int) : (s.stampSyncOut p idx t).out = s.out := by
  unfold stampSyncOut
  split <;> rfl

@[simp] theorem stampSyncOut_seqNos (s : State) (p idx : Nat) (t : Int) :
    (s.stampSyncOut p idx t).line.seqNos = s.line.seqNos := by
  unfold stampSyncOut
  split <;> rfl

@[simp] theorem switchHeld_out (s : State) (b f : Nat) : (s.switchHeld b f).out = s.out := by
  unfold switchHeld
  extract_lets
  split
  · rfl
  · split <;> rfl

theorem syncPayload_length (order : Nat) (inSync cold : Bool) (c : Int) (hops : Nat) (e : Int) :
    (syncPayload order inSync cold c hops e).length = 32 := by
  simp [syncPayload, beInt, beTime, be]

theorem statusPayload_length (x : Status) : (statusPayload x).length = 64 := by
  simp [statusPayload, beInt, be]

/-! ### Slots originated -/

section

variable {s : State} {p idx : Nat} {x : Slot}

/-- A slot that is none of the node's own originates nothing (R553). -/
theorem originate_of_not_own
    (h : s.entry? (s.tableOut p) idx = none ∨ ∃ x, s.entry? (s.tableOut p) idx = some x ∧ s.isSender p x = false) :
    s.originate p idx = s := by
  obtain hnone | ⟨x, hx, hsender⟩ := h
  · simp [originate, hnone]
  · simp [originate, hx, hsender]

/-- The own gate refuses a slot it stops, but for a MAKE_UP slot (R249). -/
theorem originate_of_stopped (hx : s.entry? (s.tableOut p) idx = some x) (hsender : s.isSender p x = true)
    (htype : x.ptype ≠ 4) (hstops : s.gateStops p x = true) : s.originate p idx = s.gateRefuse := by
  simp [originate, hx, hsender, htype, hstops]

theorem originate_of_sync (hx : s.entry? (s.tableOut p) idx = some x) (hsender : s.isSender p x = true)
    (htype : x.ptype = 1) (hstops : s.gateStops p x = false) : s.originate p idx = s.syncSlot p idx x := by
  simp [originate, hx, hsender, htype, hstops]

theorem originate_of_status (hx : s.entry? (s.tableOut p) idx = some x) (hsender : s.isSender p x = true)
    (htype : x.ptype = 2) (hstops : s.gateStops p x = false) : s.originate p idx = s.statusSlot p idx x := by
  simp [originate, hx, hsender, htype, hstops]

/-- A refusal is raised once in a flight, and counted each time (R249). -/
theorem gateRefuse_again (h : s.line.gateRefusedIn = some s.flight) : s.gateRefuse = s.bump 0x248106 := by
  have hflight : (s.bump 0x248106).flight = s.flight := by
    simp only [flight, nat_eq, int_bump_ne s (k := 0x248106) (j := 0x240003) (by decide) (by simp [Feeds])]
  simp [gateRefuse, hflight, h]

end

/-! ### Slot frames that arrive -/

section

variable {s u : State} {p : Nat} {f : SlotFrame} {fine : Nat}

theorem linkRec_count (p : Nat) : linkRec p + 9 = Od.key (0x2410 + p) 9 := by simp [linkRec, Od.key]

theorem slotFrame_of_down (h : s.linkUpState p = false) : s.slotFrame p f fine = s := by
  simp [slotFrame, slotArrives, h]

/-- A frame that passes a guarding lock-keeper is accepted (R243, R245). -/
theorem slotArrives_of_judged {w : Int} (hlink : s.linkUpState p = true) (hu : u = s.bump (Od.key (0x2410 + p) 9))
    (hkey : u.keyed p = true) (hstate : u.linkState p = 2) (hkeeper : u.keeper p = 1)
    (hjudge : u.judge p f.hdr (u.ctAt u.clock.counter fine) = (0, w)) : s.slotArrives p f fine = u.acceptSlot p f := by
  simp [slotArrives, hlink, linkRec_count, ← hu, hkey, hstate, hkeeper, hjudge]

/-- On a quarantined or isolated port a frame that is no MAKE_UP is counted as dropped (R243). -/
theorem slotFrame_of_quarantined (hlink : s.linkUpState p = true) (hu : u = s.bump (Od.key (0x2410 + p) 9))
    (hkey : u.keyed p = true) (hstate : u.linkState p ≠ 3) (hkeeper : 2 ≤ u.keeper p) (htype : f.hdr.ptype ≠ 4#4) :
    s.slotFrame p f fine = u.bump (Od.key (0x2484 + p) 0x0B) := by
  have hkept : u.keeper p ≠ 0 := by omega
  have hkey' : keeperRec p + 0xB = Od.key (0x2484 + p) 0x0B := by simp [keeperRec, Od.key]
  simp [slotFrame, slotArrives, hlink, linkRec_count, ← hu, hkey, hstate, hkept, hkeeper, htype, hkey']

/-- A frame under a foreign hash is dropped and counted (R246). -/
theorem acceptSlot_of_foreign (happlied : s.mu.applied = true) (htype : f.hdr.ptype ≠ 4#4)
    (hhash : (f.hdr.hash.toNat : Int) ≠ s.int 0x222001) (hconsist : s.mu.consist = none) :
    s.acceptSlot p f = (s.bump 0x248109, false) := by
  simp [acceptSlot, happlied, htype, hhash, missedApplication, hconsist]

/-- A passive frame that is no head frame is ignored (R246). -/
theorem acceptSlot_of_passive (hhash : (f.hdr.hash.toNat : Int) = s.int 0x222001) (htype : f.hdr.ptype ≠ 4#4)
    (hpassive : f.hdr.passive = true) (hhead : isHead f.hdr.ptype.toNat = false) : s.acceptSlot p f = (s, false) := by
  simp [acceptSlot, hhash, htype, hpassive, hhead]

/-- A sound frame under the hash in force is held for its egress, and the device keeps its copy (R246). -/
theorem acceptSlot_of_sound (hhash : (f.hdr.hash.toNat : Int) = s.int 0x222001) (hpassive : f.hdr.passive = false)
    (hfcs : f.fcsOk = true) (hicv : f.icvOk = true) : s.acceptSlot p f = (s.hold p f.hdr true, true) := by
  simp [acceptSlot, hhash, hpassive, hfcs, hicv]

end

end Sys2Proof.Machine.State

namespace Sys2Proof.Machine

open State

theorem exec_slotOriginate {s : State} (hready : s.isReady = true) (p : Cpl) (idx : Fin 256) :
    exec (.slotOriginate p idx) s = .next (s.originate p.no idx) :=
  congrArg Host.Outcome.next (served_of_ready hready)

theorem exec_slotFrameReceived {s : State} (hready : s.isReady = true) (p : Cpl) (f : SlotFrame) (fine : Fin 32) :
    exec (.slotFrameReceived p f fine) s = .next (s.slotFrame p.no f fine) :=
  congrArg Host.Outcome.next (served_of_ready hready)

/-- A SYNC slot tells its frame, then the SYNC it carries (R182, R184). -/
theorem syncSlot_out {s : State} {p idx : Nat} {x : Slot} (htype : x.ptype = 1) (hcross : s.mayCross p true = true) :
    ∃ frame, (s.syncSlot p idx x).out = s.out ++ [.own p (s.ownHeader p idx x 32) s.fuses.identity (s.sequenceOf p 1)
        (s.ownEgress p x / 65536 % 2 ^ 32) frame,
      .syncOwn p (x.copy + 1) (decide (s.timeState = 2 ∨ s.timeState = 3)) (decide (s.int 0x220004 ≠ 0))
        (-((s.ctAt s.clock.counter (s.freeNat % 32) - s.ownEgress p x) / 256)) 0 (s.ownEgress p x)] := by
  have hcross' : s.tookFree.mayCross p (isHead x.ptype) = true := by rw [htype]; exact hcross
  have hptype : (s.tookFree.ownHeader p idx x 32).ptype.toNat = 1 := by simp [ownHeader, headerOf, htype]
  simp only [syncSlot, hcross, if_true, sendOwn_of_mayCross hcross', emit_out, stampSyncOut_out, sendFrame_out,
    syncPayload_length, hptype, List.append_assoc, List.cons_append, List.nil_append]
  exact ⟨_, rfl⟩

/-- A STATUS slot tells its frame, then the STATUS it carries (R161). -/
theorem statusSlot_out {s : State} {p idx : Nat} {x : Slot} (htype : x.ptype = 2) (hcross : s.mayCross p true = true) :
    ∃ frame, (s.statusSlot p idx x).out = s.out ++ [.own p (s.ownHeader p idx x 64) s.fuses.identity (s.sequenceOf p 2)
      (s.ownEgress p x / 65536 % 2 ^ 32) frame, .status p (s.statusOf (chanOf p))] := by
  have hcross' : s.mayCross p (isHead x.ptype) = true := by rw [htype]; exact hcross
  have hptype : (s.ownHeader p idx x 64).ptype.toNat = 2 := by simp [ownHeader, headerOf, htype]
  simp only [statusSlot, hcross, if_true, apply_ite State.out, switchHeld_out, ite_self, sendOwn_of_mayCross hcross',
    emit_out, sendFrame_out, statusPayload_length, hptype, List.append_assoc, List.cons_append, List.nil_append]
  exact ⟨_, rfl⟩

/-- A SYNC frame takes the next number of its channel and type (R159). -/
theorem syncSlot_seqNos {s : State} {p idx : Nat} {x : Slot} (htype : x.ptype = 1) (hcross : s.mayCross p true = true) :
    Tab.get (α := Nat) 0 (s.syncSlot p idx x).line.seqNos (chanNo p * 16 + 1) = (s.sequenceOf p 1 + 1) % 256 := by
  have hcross' : s.tookFree.mayCross p (isHead x.ptype) = true := by rw [htype]; exact hcross
  have hptype : (s.tookFree.ownHeader p idx x 32).ptype.toNat = 1 := by simp [ownHeader, headerOf, htype]
  have hnext := fun payload => sendFrame_seqNos s.tookFree p (s.tookFree.ownHeader p idx x 32) (s.ownEgress p x) payload
  rw [hptype] at hnext
  simp only [syncSlot, hcross, if_true, sendOwn_of_mayCross hcross', emit_line, stampSyncOut_seqNos, syncPayload_length]
  exact hnext _

/-- Settles O13: an own slot goes out as its type says or the own gate refuses it, and a frame that arrives ends where the
lock-keeper, its hash and its passive bit lead it. -/
theorem slotsAreOriginated : Obligations.SlotsAreOriginated := by
  refine ⟨?_, ?_, ?_, ?_, ?_, ?_, ?_⟩
  · intro s p idx x hready hx hsender htype hstops hcross
    obtain ⟨frame, hout⟩ := syncSlot_out (idx := idx.val) htype hcross
    refine ⟨_, frame, ?_, hout, syncSlot_seqNos htype hcross⟩
    rw [exec_slotOriginate hready, originate_of_sync hx hsender htype hstops]
  · intro s p idx x hready hx hsender htype hstops hcross
    obtain ⟨frame, hout⟩ := statusSlot_out (idx := idx.val) htype hcross
    refine ⟨_, frame, ?_, hout⟩
    rw [exec_slotOriginate hready, originate_of_status hx hsender htype hstops]
  · intro s p idx x hready hx hsender htype hstops hrefused
    rw [exec_slotOriginate hready, originate_of_stopped hx hsender htype hstops, gateRefuse_again hrefused]
  · intro s p idx hnot
    exact congrArg Host.Outcome.next (served_eq_self (originate_of_not_own hnot))
  · intro s p f fine hdown
    exact congrArg Host.Outcome.next (served_eq_self (slotFrame_of_down hdown))
  · intro s u p f fine w hready hlink hu hkey hstate hkeeper htype happlied hjudge
    have harrives : s.slotArrives p.no f fine = u.acceptSlot p.no f :=
      slotArrives_of_judged hlink hu hkey hstate hkeeper hjudge
    refine ⟨fun hhash hconsist => ?_, fun hhash hpassive hhead => ?_, fun hhash hpassive htunnel hfcs hicv => ?_⟩
    · rw [exec_slotFrameReceived hready, slotFrame, harrives, acceptSlot_of_foreign happlied htype hhash hconsist]
      rfl
    · rw [exec_slotFrameReceived hready, slotFrame, harrives, acceptSlot_of_passive hhash htype hpassive hhead]
      rfl
    · rw [exec_slotFrameReceived hready, slotFrame, harrives, acceptSlot_of_sound hhash hpassive hfcs hicv]
      exact congrArg Host.Outcome.next (if_neg (fun h => htunnel h.2))
  · intro s u p f fine hready hlink hu hkey hstate hkeeper htype
    rw [exec_slotFrameReceived hready, slotFrame_of_quarantined hlink hu hkey hstate hkeeper htype]

end Sys2Proof.Machine

/-!
SUPPORT. Mode requests (R161), whose answer the mailbox counts (R402); passage markers, star frames and filters (R138,
R165, R255).
-/

namespace Sys2Proof.Machine

open State

/-! ### Mode requests -/

/-- READY and claimed off the lead, a client of role 4 on the host path with its request executing in the mailbox. -/
def executingModeState : State where
  fuses := { identity := 5 }
  power := { phase := .ready }
  od := [(0x310001, .num 1)]
  trust := { sessions := [(0, { path := .host, role := 4, established := true, chain :=
    { wellFormed := true, role := 4, scope := [], intermediates := 0, rootHash := [], signaturesVerify := true,
      serials := [], notBefore := 0, notAfter := 0 } })] }
  host := { exec := 1 }

/-- The client of session 0 on the host path. -/
def executingModeWriter : Writer where
  path := .host
  session := some 0

theorem executingModeState_admits : executingModeState.admits executingModeWriter 0x243003 [1] :=
  ⟨by decide +kernel, by decide +kernel, by decide +kernel, by decide +kernel⟩

/-- The request goes to the lead, and the mailbox counts its answer at 0x3600:02. -/
theorem modeRequest_counts_response :
    ∃ t, exec (.modeRequest executingModeWriter 1) executingModeState = .next t ∧ t.int 0x360002 = 1 :=
  ⟨_, rfl, by decide +kernel⟩

/-- Refutes O15: off the lead, the answer to a mode request of the mailbox changes the dictionary. -/
theorem not_statusFormsMembership : ¬ Obligations.StatusFormsMembership := by
  rintro ⟨-, -, -, hsent⟩
  obtain ⟨t, hexec, hcount⟩ := modeRequest_counts_response
  obtain ⟨u, huexec, -, -, -, hod⟩ :=
    hsent executingModeState executingModeWriter 1 executingModeState_admits (by decide +kernel)
  have htu : t = u := by
    rw [hexec] at huexec
    cases huexec
    rfl
  rw [htu, int_of_od executingModeState hod (by decide +kernel)] at hcount
  exact absurd hcount (by decide +kernel)

/-! ### Markers and star ports -/

namespace State

/-- The entry at a sub-index of a record, counted from the record's first. -/
theorem key_add (x n : Nat) : Od.key x 0 + n = Od.key x n := by simp [Od.key]

theorem pulse_setPulse_self (s : State) (i : Nat) (x : Pulse) : (s.setPulse i x).pulse i = x := Tab.get_set_self ..

/-- A marker that is enabled, in the passage and due counts, and drives its time pulse (R165). -/
theorem markerFire_of_due {s : State} {i : Nat} (hon : s.int (Od.key (0x2468 + i) 1) ≠ 0)
    (hin : s.int (Od.key (0x2468 + i) 2) < s.passageLen)
    (hnow : s.int (Od.key (0x2468 + i) 3) = 0xFF ∨ s.int (Od.key (0x2468 + i) 3) = s.passage) (hct : s.ctValid = true) :
    s.markerFire i =
      let u := (s.bump (Od.key (0x2468 + i) 6)).raise (96 + i) 0 i 0
      let tp := u.nat (Od.key (0x2468 + i) 4)
      if tp < 12 then u.placeEdge tp u.clock.ct (u.passageStart + u.int (Od.key (0x2468 + i) 2) * 65536) (u.nat (Od.key (0x2468 + i) 5))
      else u := by
  unfold markerFire
  simp only [key_add]
  exact if_pos ⟨decide_eq_true hon, hin, hnow, hct⟩

theorem int_placeEdge (s : State) (i : Nat) (v : View) (t : Int) (width k : Nat) :
    (s.placeEdge i v t width).int k = s.int k := int_act ..

theorem pulse_placeEdge (s : State) (i : Nat) (v : View) (t : Int) (width : Nat) :
    ((s.placeEdge i v t width).pulse i).high = true ∧ ((s.placeEdge i v t width).pulse i).width = width := by
  unfold placeEdge
  simp only [pulse_setPulse_self, and_self]

theorem not_feeds_key {x n : Nat} (h : x < 0x2E30 ∨ 0x2E43 ≤ x ∧ x < 0x3140 ∨ 0x3141 ≤ x) (hn : n < 256) :
    ¬ Feeds (Od.key x n) := by
  simp only [Feeds, Od.key]
  omega

theorem exec_passageMarkerFire {s : State} {i : Fin 8} (hready : s.isReady = true)
    (hon : s.int (Od.key (0x2468 + i) 1) ≠ 0) (hin : s.int (Od.key (0x2468 + i) 2) < s.passageLen)
    (hnow : s.int (Od.key (0x2468 + i) 3) = 0xFF ∨ s.int (Od.key (0x2468 + i) 3) = s.passage) (hct : s.ctValid = true) :
    ∃ t, exec (.passageMarkerFire i) s = .next t ∧
      t.int (Od.key (0x2468 + i) 6) = min (s.int (Od.key (0x2468 + i) 6) + 1) 0xFFFFFFFF ∧
      (s.nat (Od.key (0x2468 + i) 4) < 12 → (t.pulse (s.nat (Od.key (0x2468 + i) 4))).high = true ∧
        (t.pulse (s.nat (Od.key (0x2468 + i) 4))).width = s.nat (Od.key (0x2468 + i) 5)) := by
  refine ⟨s.markerFire i, congrArg Host.Outcome.next (served_of_ready hready), ?_⟩
  have hlow : ∀ n, n < 256 → Od.key (0x2468 + i) n < 0x350000 := fun n hn => by simp only [Od.key]; omega
  have hraise : ∀ n < 256, ((s.bump (Od.key (0x2468 + i) 6)).raise (96 + i) 0 i 0).int (Od.key (0x2468 + i) n) =
      (s.bump (Od.key (0x2468 + i) 6)).int (Od.key (0x2468 + i) n) := fun n hn => int_raise _ _ _ _ _ (hlow n hn)
  have hother : ∀ n < 6, ((s.bump (Od.key (0x2468 + i) 6)).raise (96 + i) 0 i 0).nat (Od.key (0x2468 + i) n) =
      s.nat (Od.key (0x2468 + i) n) := fun n hn => by
    rw [nat, hraise n (by omega), int_bump_ne _ (by simp only [Od.key]; omega) (not_feeds_key (by omega) (by omega)), nat]
  rw [markerFire_of_due hon hin hnow hct]
  simp only [hother 4 (by omega), hother 5 (by omega)]
  split
  case isTrue htp =>
    exact ⟨by rw [int_placeEdge, hraise 6 (by omega), int_bump_self], fun _ => pulse_placeEdge ..⟩
  case isFalse htp =>
    exact ⟨by rw [hraise 6 (by omega), int_bump_self], fun h => absurd h htp⟩

/-- A frame at an enabled, linked star port counts; what follows goes by its check sequence and kind (R138). -/
theorem starReceived_of_up {s : State} {p : Nat} (h : s.starUp p = true) (fine : Nat) (f : StarFrame) :
    s.starReceived p f false fine = (s.bump (Od.key (0x2418 + p) 7)).bump (Od.key (0x2418 + p) 9) ∧
    s.starReceived p .gptp true fine = s.bump (Od.key (0x2418 + p) 7) ∧
    s.starReceived p .other true fine = (s.bump (Od.key (0x2418 + p) 7)).bump (Od.key (0x2418 + p) 0x0A) := by
  simp [starReceived, h, key_add]

/-- A stream frame in its window, the filter open, is judged by its size (R255). -/
theorem starReceived_stream {s u : State} {p n : Nat} {id : BitVec 64} {bytes fine : Nat} (h : s.starUp p = true)
    (hu : u = s.bump (Od.key (0x2418 + p) 7)) (hs : u.streamOf p id.toNat = some n)
    (ho : u.starOpen p (u.ctAt u.clock.counter fine) = true) (hf : u.int (Od.key (0x2498 + p) 5) = 0) :
    s.starReceived p (.stream id bytes) true fine =
      if u.int (Od.key (0x2498 + p) 3) < bytes then
        let v := u.bump (Od.key (0x2498 + p) 8)
        if v.flag (Od.key (0x2498 + p) 4) then v.put (Od.key (0x2498 + p) 5) 1 else v
      else u.bump (Od.key (0x2498 + p) 6) := by
  simp [starReceived, h, key_add, ← hu, hs, ho, hf]

end State

/-- Settles O16, by the branch each frame takes at the star port. -/
theorem markersAndStarPorts : Obligations.MarkersAndStarPorts := by
  refine ⟨fun s i hready hon hin hnow hct => exec_passageMarkerFire hready hon hin hnow hct, ?_, ?_, ?_⟩
  · intro s p f fine hready hup
    obtain ⟨hbad, hgptp, hother⟩ := starReceived_of_up hup fine f
    exact ⟨congrArg Host.Outcome.next ((served_of_ready hready).trans hbad),
      congrArg Host.Outcome.next ((served_of_ready hready).trans hgptp),
      congrArg Host.Outcome.next ((served_of_ready hready).trans hother)⟩
  · intro s u p id bytes n fine hready hup hu hs ho hf
    have hstream := starReceived_stream (bytes := bytes) hup hu hs ho hf
    refine ⟨fun hbig hblock => ?_, fun hfits => ?_⟩
    · have hkey : (u.bump (Od.key (0x2498 + p) 8)).int (Od.key (0x2498 + p) 4) = u.int (Od.key (0x2498 + p) 4) :=
        int_bump_ne _ (by simp only [Od.key]; omega) (not_feeds_key (by omega) (by omega))
      refine congrArg Host.Outcome.next ((served_of_ready hready).trans (hstream.trans ?_))
      simp [hbig, flag_eq, hkey, hblock]
    · refine congrArg Host.Outcome.next ((served_of_ready hready).trans (hstream.trans ?_))
      rw [if_neg (by omega)]
  · intro s w p v h
    exact congrArg Host.Outcome.next (served_accessAct h)

end Sys2Proof.Machine

/-!
SUPPORT. What long operations and a making-up leave of the dictionary (R215 to R233, R363): each operation is given the
entries it can write, and leaves every other as it was.
-/

namespace Sys2Proof.Machine

open State

/-- Where neither the store nor what derived defaults come from changed, every entry reads the same. -/
theorem Keep.int {L : List Part} {s t : State} (h : Keep L s t)
    (hL : [Part.od, .fuses, .canopen, .power].all (fun p => !L.contains p) = true) (k : Nat) : t.int k = s.int k := by
  have same : ∀ p ∈ [Part.od, .fuses, .canopen, .power], p.same s t := fun p hp =>
    h.same p (by simpa using List.all_eq_true.mp hL p hp)
  have hcanopen : t.canopen = s.canopen := same .canopen (by decide)
  have hpower : t.power = s.power := same .power (by decide)
  exact int_congr s k (same .od (by decide)) (same .fuses (by decide)) (by rw [hcanopen]) (by rw [hpower]) (by rw [hpower])

namespace State

variable (s : State)

theorem int_ite (c : Prop) [Decidable c] (a b : State) (k : Nat) :
    (if c then a else b).int k = if c then a.int k else b.int k := apply_ite (State.int · k) c a b

theorem int_opProgress {k j : Nat} (p d t : Int) (h : j / 256 ≠ 0x3F00 + k) : (s.opProgress k p d t).int j = s.int j := by
  unfold opProgress
  simp (disch := omega) only [Od.key, int_putBytes_ne, int_put_ne]

theorem int_opStart {k j : Nat} (t : Int) (h : j / 256 ≠ 0x3F00 + k) : (s.opStart k t).int j = s.int j := by
  unfold opStart
  simp (disch := omega) only [Od.key, int_opProgress, int_bump_ne, int_put_ne]

theorem int_opEnd {k j st r : Nat} (h : j < 0x350000) (_ : j / 256 ≠ 0x3F00 + k) : (s.opEnd k st r).int j = s.int j := by
  unfold opEnd
  simp (disch := omega) only [Od.key, int_raise, int_put_ne]

/-- What the record of a long operation holds once it has ended (R363). -/
theorem int_opEnd_state (k st r : Nat) (h : k < 256) : (s.opEnd k st r).int (Od.key (0x3F00 + k) 1) = st := by
  unfold opEnd
  simp (disch := omega) only [Od.key, int_raise_ne, int_put_ne, int_put_self, Nat.add_zero]

theorem int_opEnd_result (k st r : Nat) (h : k < 256) : (s.opEnd k st r).int (Od.key (0x3F00 + k) 6) = r := by
  unfold opEnd
  simp (disch := omega) only [Od.key, int_raise_ne, int_put_self, Nat.add_zero]

/-! ### The making-up -/

/-- The entries an evaluation of the making-up writes: its state, progress, counts and flight, and its long operation. -/
abbrev evalEntry (k : Nat) : Prop :=
  k = 0x221001 ∨ (0x221003 ≤ k ∧ k ≤ 0x221005) ∨ k = 0x221007 ∨ k = 0x221009 ∨ k / 256 = 0x3F04

/-- The entries a GATHER writes, with what raising writes. -/
abbrev gatherEntry (k : Nat) : Prop := (0x221001 ≤ k ∧ k ≤ 0x221005) ∨ 0x350000 ≤ k

/-- The entries of the making-up state machine: 0x2210, its counters, its long operation, and what raising writes. -/
abbrev muEntry (k : Nat) : Prop := k / 256 = 0x2210 ∨ k / 256 = 0x2250 ∨ 0x350000 ≤ k

@[simp] theorem int_clearHeard (k : Nat) : s.clearHeard.int k = s.int k := by
  simp [clearHeard, List.range_succ]

variable {k : Nat}

theorem int_muProgress (v : Int) (_ : k ≠ 0x221003 ∧ k / 256 ≠ 0x3F04) : (s.muProgress v).int k = s.int k := by
  unfold muProgress
  simp (disch := omega) only [int_opProgress, int_put_ne]

theorem int_gather (g : Nat) (h : ¬ gatherEntry k) : (s.gather g).int k = s.int k := by
  unfold gather
  simp (disch := omega) only [int_ite, int_with_mu, int_clearHeard, int_raise, int_muProgress, int_opStart, int_put_ne, ite_self]

theorem int_takeGeneration (g : Nat) (h : ¬ gatherEntry k) : (s.takeGeneration g).int k = s.int k := by
  unfold takeGeneration
  simp (disch := omega) only [int_ite, int_with_mu, int_gather, ite_self]

theorem int_trigger (c : Nat) (h : ¬ gatherEntry k) (_ : k ≠ 0x221006) : (s.trigger c).int k = s.int k := by
  unfold trigger
  simp (disch := omega) only [int_ite, int_with_mu, int_takeGeneration, int_put_ne, ite_self]

theorem int_restart (h : ¬ muEntry k) : s.restart.int k = s.int k := by
  unfold restart
  simp (disch := omega) only [int_ite, int_with_mu, int_trigger, int_opEnd, int_raise, int_bump_ne, int_put_ne, ite_self]

theorem int_schedule (f : Nat) (h : ¬ evalEntry k) : (s.schedule f).int k = s.int k := by
  unfold schedule
  simp (disch := omega) only [int_with_mu, int_muProgress, int_put_ne]

theorem int_stepGather (h : ¬ evalEntry k) : s.stepGather.int k = s.int k := by
  unfold stepGather
  simp (disch := omega) only [int_ite, int_with_mu, int_muProgress, int_put_ne, ite_self]

theorem int_stepAgree (h : ¬ evalEntry k) : s.stepAgree.int k = s.int k := by
  unfold stepAgree
  split
  · rfl
  · simp only
    split
    · simp (disch := omega) only [int_ite, int_schedule, ite_self]
    · split <;> simp (disch := omega) only [int_ite, int_with_mu, int_schedule, int_muProgress, ite_self]

theorem int_evaluate (h : ¬ evalEntry k) : s.evaluate.int k = s.int k := by
  unfold evaluate
  simp (disch := omega) only [int_ite, int_stepAgree, int_stepGather, int_put_ne, ite_self]

theorem int_trigEval (c : Nat) (h : ¬ muEntry k) : (s.trigEval c).int k = s.int k :=
  (int_evaluate _ (by omega)).trans (int_trigger _ c (by omega) (by omega))

@[simp] theorem muProgress_mu (v : Int) : (s.muProgress v).mu = s.mu :=
  (State.muProgress_keep (L := [.od]) rfl (Keep.refl _ s)).same .mu (by decide)

@[simp] theorem clearHeard_mu : s.clearHeard.mu = s.mu :=
  (State.clearHeard_keep (L := [.line]) rfl (Keep.refl _ s)).same .mu (by decide)

/-- What a making-up that gathers, agrees and schedules leaves of its part: all but the consist computed, F, a generation
held, and two marks. -/
def muCore (m : MakingUp) : MakingUp :=
  { m with consist := none, f := none, held := none, agreeSent := false, conflict := false }

theorem muCore_with (m : MakingUp) (c f h) (a x : Bool) :
    muCore { m with consist := c, f := f, held := h, agreeSent := a, conflict := x } = muCore m := rfl

theorem muCore_ite (c : Prop) [Decidable c] (a b : State) :
    muCore (if c then a else b).mu = if c then muCore a.mu else muCore b.mu := apply_ite (muCore ·.mu) c a b

theorem trigAt_of_muCore {m n : MakingUp} (h : muCore m = muCore n) : m.trigAt = n.trigAt := by
  simpa only [muCore] using congrArg MakingUp.trigAt h

theorem cab_of_muCore {m n : MakingUp} (h : muCore m = muCore n) : m.cab = n.cab := by
  simpa only [muCore] using congrArg MakingUp.cab h

@[simp] theorem muCore_gather (g : Nat) : muCore (s.gather g).mu = muCore s.mu := by
  unfold gather
  simp only [muCore_ite, muCore_with, raise_mu, clearHeard_mu, muProgress_mu, opStart_mu, put_mu, ite_self]

@[simp] theorem muCore_schedule (f : Nat) : muCore (s.schedule f).mu = muCore s.mu := by
  unfold schedule
  simp only [muCore_with, muProgress_mu, put_mu]

@[simp] theorem muCore_stepGather : muCore s.stepGather.mu = muCore s.mu := by
  unfold stepGather
  simp only [muCore_ite, muCore_with, muProgress_mu, put_mu, ite_self]

@[simp] theorem muCore_stepAgree : muCore s.stepAgree.mu = muCore s.mu := by
  unfold stepAgree
  split
  · rfl
  · simp only [muCore_ite]
    split
    · simp only [muCore_schedule, ite_self]
    · split <;> simp only [muCore_schedule, muCore_ite, muCore_with, muProgress_mu, ite_self]

@[simp] theorem muCore_evaluate : muCore s.evaluate.mu = muCore s.mu := by
  unfold evaluate
  simp only [muCore_ite, muCore_stepAgree, muCore_stepGather, put_mu, ite_self]

variable {s}

/-- A GATHER that is not kept back by an agreed mooring takes its generation (R223). -/
theorem int_gather_generation (g : Nat) (h : s.sleepAgreed = false) : (s.gather g).int 0x221002 = (g % 65536 : Nat) := by
  unfold gather
  simp (disch := omega) only [h, Bool.and_false, Bool.false_eq_true, if_false, int_ite, int_with_mu, int_clearHeard,
    int_raise, int_muProgress, int_opStart, int_put_ne, int_put_self, ite_self]
  omega

theorem takeGeneration_of_ne (g : Nat) (h : s.muState ≠ 3) : s.takeGeneration g = s.gather g := if_neg h

theorem sleepAgreed_of_ne (h : s.int 0x340101 ≠ 2) : s.sleepAgreed = false := by simp [sleepAgreed, h]

/-- A trigger recorded: its cause, and when it came (R215). -/
def triggered (s : State) (c : Nat) : State :=
  { s.put 0x221006 c with mu := { s.mu with trigAt := s.clock.counter } }

theorem int_triggered (c j : Nat) : (s.triggered c).int j = if 0x221006 = j then (c : Int) else s.int j :=
  (int_congr (s.put 0x221006 c) j rfl rfl rfl rfl rfl).trans (int_put s c j (by decide))

theorem trigger_of_awake {c : Nat} (h : s.int 0x340101 ≠ 2) :
    s.trigger c = (s.triggered c).takeGeneration (s.mu.held.getD (s.put 0x221006 c).generation + 1) := by
  have hput : (s.put 0x221006 c).sleepAgreed = false :=
    sleepAgreed_of_ne (by rw [int_put_ne _ _ (by decide) (by decide)]; exact h)
  unfold trigger
  simp only [hput, Bool.false_eq_true, if_false]
  rfl

/-- A trigger outside SCHEDULED with no mooring agreed records its cause, and gathers under the next generation (R215). -/
theorem trigger_of_unscheduled {c : Nat} (hc : s.int 0x340101 ≠ 2) (hs : s.muState ≠ 3) (hh : s.mu.held = none) :
    s.trigger c = (s.triggered c).gather (s.generation + 1) := by
  have hgen : (s.put 0x221006 c).generation = s.generation := by
    rw [generation, nat, int_put_ne _ _ (by decide) (by decide)]; rfl
  rw [trigger_of_awake hc, hh, hgen, takeGeneration_of_ne]
  · rfl
  · rw [muState, int_triggered]; exact hs

/-- What a trigger outside SCHEDULED, and the evaluation that follows, leave (R215). -/
theorem trigEval_of_unscheduled {c : Nat} (hc : s.int 0x340101 ≠ 2) (hs : s.muState ≠ 3) (hh : s.mu.held = none) :
    (s.trigEval c).int 0x221006 = c ∧ (s.trigEval c).int 0x221002 = ((s.generation + 1) % 65536 : Nat) ∧
      muCore (s.trigEval c).mu = muCore (s.triggered c).mu := by
  have hawake : (s.triggered c).sleepAgreed = false := sleepAgreed_of_ne (by rw [int_triggered]; exact hc)
  unfold trigEval
  rw [trigger_of_unscheduled hc hs hh, int_evaluate _ (by decide), int_evaluate _ (by decide),
    int_gather_generation _ hawake, int_gather _ _ (by decide), int_triggered]
  exact ⟨rfl, rfl, (muCore_evaluate _).trans (muCore_gather ..)⟩

theorem trigEval_clock (c : Nat) : (s.trigEval c).clock = s.clock :=
  (State.trigEval_keep (L := [.od, .mu, .line, .gate, .log, .acts]) rfl (Keep.refl _ s)).same .clock (by decide)

/-! ### The making-up's commands -/

theorem exec_activeCabChange {on : Bool} (hready : s.isReady = true) (hon : s.mu.cab ≠ on) (hc : s.int 0x340101 ≠ 2)
    (hs : s.muState ≠ 3) (hh : s.mu.held = none) :
    ∃ t, exec (.activeCabChange on) s = .next t ∧ t.mu.cab = on ∧ t.int 0x221006 = 4 ∧
      t.int 0x221002 = ((s.generation + 1) % 65536 : Nat) ∧ t.mu.trigAt = s.clock.counter ∧ t.clock = s.clock := by
  refine ⟨s.activeCab on, congrArg Host.Outcome.next (served_of_ready hready), ?_⟩
  unfold activeCab
  rw [if_neg hon]
  extract_lets at_
  obtain ⟨hcause, hgen, hcore⟩ := trigEval_of_unscheduled (c := 4)
    (s := { s with mu := { s.mu with cab := on, cabAt := at_ } }) hc hs hh
  exact ⟨cab_of_muCore hcore, hcause, hgen, trigAt_of_muCore hcore, trigEval_clock 4⟩

end State

end Sys2Proof.Machine

/-!
SUPPORT. What messages, an integration and a step of CT leave of the dictionary (R181, R220 to R222, R320, R359): each
operation is given the entries it can write, and leaves every other as it was.
-/

namespace Sys2Proof.Machine.State

variable (s : State)

/-- A fold reads as its start where every step leaves the entry. -/
theorem int_foldl {α : Type} {f : State → α → State} {k : Nat} (l : List α)
    (hf : ∀ a ∈ l, ∀ u : State, (f u a).int k = u.int k) : (l.foldl f s).int k = s.int k := by
  induction l generalizing s with
  | nil => rfl
  | cons a l ih =>
    rw [List.foldl_cons, ih _ fun b hb => hf b (List.mem_cons_of_mem a hb)]
    exact hf a List.mem_cons_self s

/-! ### Own messages -/

variable {k : Nat}

theorem int_owQueueUp (p : Nat) (x : OwItem) (h : k ≠ 0x24000B) : (s.owQueueUp p x).int k = s.int k := by
  unfold owQueueUp
  simp (disch := omega) only [int_ite, int_bump_ne, int_setPl, ite_self]

theorem int_owSendTo (dest : Nat) (t : OwType) (l : List Byte) (h : k ≠ 0x24000B) : (s.owSendTo dest t l).int k = s.int k :=
  int_foldl _ _ fun _ _ u => int_owQueueUp u _ _ h

theorem int_sendChunks (kind dest : Nat) (l : List Byte) (h : k ≠ 0x24000B) : (s.sendChunks kind dest l).int k = s.int k :=
  (int_with_dict ..).trans (int_foldl _ _ fun _ _ u => int_owSendTo u _ _ _ h)

theorem int_sendNode (dest t : Nat) (l : List Byte) (h : k ≠ 0x24000B) : (s.sendNode dest t l).int k = s.int k := by
  unfold sendNode
  split
  · rfl
  · exact (int_with_trust ..).trans (int_sendChunks s _ _ _ h)

theorem int_sendMgmt (dest i j : Nat) (l : List Byte) (h : k ≠ 0x24000B) : (s.sendMgmt dest i j l).int k = s.int k :=
  (int_foldl _ _ fun _ _ u => int_sendNode u _ _ _ h).trans (int_emit ..)

theorem int_sendFree (dest : Nat) (h : k ≠ 0x24000B) : (s.sendFree dest).int k = s.int k :=
  (int_tookFree ..).trans (int_sendNode s _ _ _ h)

/-! ### Cluster time set anew -/

@[simp] theorem int_ntAnchor (d : Dom) (old : Int) (k : Nat) : (s.ntAnchor d old).int k = s.int k := int_with_clock ..

/-- The entries a step of CT writes: the relations' instants, and the counter of adoptions (R181). -/
abbrev stepEntry (k : Nat) : Prop := k = 0x261205 ∨ k = 0x261305 ∨ k = 0x260008

theorem int_ctStep (step : Int) (rho : Rate) (h : ¬ stepEntry k) : (s.ctStep step rho).int k = s.int k := by
  unfold ctStep
  simp (disch := omega) only [int_bump_ne, int_put_ne]
  split <;> simp only [int_ntAnchor, int_with_clock]

theorem int_setCt (v : Int) (fine : Nat) (h : ¬ stepEntry k) (_ : k ≠ 0x260001 ∧ k ≠ 0x260004) :
    (s.setCt v fine).int k = s.int k := by
  unfold setCt
  extract_lets b src u
  refine (int_congr ((u.put 0x260001 1).put 0x260004 0) k rfl rfl rfl rfl rfl).trans ?_
  simp (disch := omega) only [u, int_with_clock, int_put_ne, int_ite, int_ctStep, ite_self]

/-- The entries of the tables of a mode: what 0x2400 and 0x2460 report of them (R152, R173). -/
abbrev tableEntry (k : Nat) : Prop := (0x240005 ≤ k ∧ k ≤ 0x24000A) ∨ (0x246001 ≤ k ∧ k ≤ 0x246004)

theorem int_refreshTables (h : ¬ tableEntry k) : s.refreshTables.int k = s.int k := by
  unfold refreshTables
  extract_lets f tmpl p l tabs cost src u v w
  have hv : v.int k = u.int k := by simp (disch := omega) only [v, int_put_ne]
  have hw : w.int k = v.int k := int_put_ne _ _ (by omega) (by decide)
  refine (int_foldl w tabs fun x hx y => ?_).trans (hw.trans (hv.trans (int_with_line ..)))
  obtain ⟨i, hi, rfl⟩ := List.mem_map.mp hx
  have := List.mem_range.mp hi
  exact int_putBytes_ne _ _ (by omega) (by omega)

theorem int_checkTemplate (h : k ≠ 0x243009) : s.checkTemplate.int k = s.int k := by
  unfold checkTemplate
  simp (disch := omega) only [int_ite, int_with_mu, int_put_ne, ite_self]

theorem int_takeFlight (m f p : Nat) (start : Int) (h : ¬ tableEntry k)
    (_ : k ≠ 0x240002 ∧ k ≠ 0x240003 ∧ k ≠ 0x240004 ∧ k ≠ 0x243009) : (s.takeFlight m f p start).int k = s.int k := by
  unfold takeFlight
  extract_lets u
  have hu : u.int k = s.int k := by simp (disch := omega) only [u, int_put_ne]
  exact (int_checkTemplate _ (by omega)).trans ((int_refreshTables _ h).trans ((int_with_clock ..).trans hu))

theorem int_setTimeLead (id rank : Nat) (h : k ≠ 0x22200D) : (s.setTimeLead id rank).int k = s.int k := by
  unfold setTimeLead
  simp (disch := omega) only [int_with_mu, int_put_ne]

theorem int_enterIntegrate (p : Nat) (r : Bool) (b : Int) (h : k ≠ 0x22100B) : (s.enterIntegrate p r b).int k = s.int k := by
  unfold enterIntegrate
  simp (disch := omega) only [int_with_mu, int_put_ne]

theorem int_abandon (h : k ≠ 0x225007) : s.abandon.int k = s.int k := by
  unfold abandon
  simp (disch := omega) only [int_ite, int_bump_ne, ite_self]

/-- The entries a device that integrates takes over: CT's, the flight's, the tables' and the lead's of time (R222). -/
abbrev integrateEntry (k : Nat) : Prop :=
  stepEntry k ∨ tableEntry k ∨ k = 0x260001 ∨ k = 0x260004 ∨ k = 0x240002 ∨ k = 0x240003 ∨ k = 0x240004 ∨ k = 0x243009 ∨
    k = 0x22200D ∨ k = 0x22100B

theorem int_integrateFromMakeUp (p : Nat) (h : Header) (m : MakeUp) (fine : Nat) (hk : ¬ integrateEntry k) :
    (s.integrateFromMakeUp p h m fine).int k = s.int k := by
  unfold integrateFromMakeUp
  extract_lets
  exact (int_with_mu ..).trans ((int_enterIntegrate _ _ _ _ (by omega)).trans ((int_setTimeLead _ _ _ (by omega)).trans
    ((int_takeFlight _ _ _ _ _ (by omega) (by omega)).trans (int_setCt s _ _ (by omega) (by omega)))))

/-! ### What follows a step of CT (R181) -/

theorem int_pulseInvalid (i : Nat) (next : Option Int) (h : k ≠ Od.key (0x2630 + i) 0x10) (hi : i < 12) :
    (s.pulseInvalid i next).int k = s.int k := by
  unfold pulseInvalid setPulse
  exact (int_with_clock ..).trans (int_put_ne s _ (Ne.symm h) (not_feeds_key (by omega) (by omega)))

theorem int_pulseReplace (i : Nat) (h : k / 256 ≠ 0x2630 + i) (hi : i < 12) : (s.pulseReplace i).int k = s.int k := by
  have hput : ∀ v, (s.put (Od.key (0x2630 + i) 0x10) v).int k = s.int k := fun v =>
    int_put_ne s v (by simp only [Od.key]; omega) (not_feeds_key (by omega) (by omega))
  have hinvalid : ∀ x, (s.pulseInvalid i x).int k = s.int k := fun x =>
    int_pulseInvalid s i x (by simp only [Od.key]; omega) hi
  unfold pulseReplace setPulse
  simp only [key_add]
  split
  · rfl
  · split
    · exact hinvalid _
    · split
      · split <;> simp only [int_ite, int_with_clock, hput, ite_self]
      · exact (int_with_clock ..).trans (hput 2)

@[simp] theorem int_rephaseCamera (n k : Nat) : (s.rephaseCamera n).int k = s.int k := by
  unfold rephaseCamera setCam
  split
  · exact (int_with_slices ..).trans (int_with_video ..)
  · rfl

@[simp] theorem int_rephaseCameras (k : Nat) : s.rephaseCameras.int k = s.int k :=
  int_foldl s _ fun _ _ u => int_rephaseCamera u _ k

theorem int_realign (d : Nat) (h : k < 0x350000) (_ : k / 256 ≠ 0x2C58 + d) (_ : d < 2) : (s.realign d).int k = s.int k := by
  unfold realign setDisp dsiSt
  simp (disch := omega) only [Od.key, int_raise, int_with_slices, int_bump_ne, int_put_ne]

theorem int_displaysAdopt (h : k < 0x350000) (_ : k / 256 ≠ 0x2C58 ∧ k / 256 ≠ 0x2C59) : s.displaysAdopt.int k = s.int k := by
  unfold displaysAdopt
  refine (int_foldl _ _ fun d hd u => ?_).trans (int_with_slices ..)
  have := List.mem_range.mp hd
  simp (disch := omega) only [int_ite, int_realign, ite_self]

theorem int_publishKeys (h : k / 256 < 0x3130 ∨ 0x3137 < k / 256) : s.publishKeys.int k = s.int k := by
  refine int_foldl s _ fun n hn u => ?_
  have := List.mem_range.mp hn
  simp only
  split
  · rfl
  · exact int_putBytes_ne _ _ (by simp only [Od.key]; omega) (not_feeds_key (by omega) (by omega))

theorem int_moveStreams (test : Epochs → Bool) (h : k / 256 < 0x3130 ∨ 0x3137 < k / 256) (_ : k ≠ 0x24000B) :
    (s.moveStreams test).int k = s.int k := by
  unfold moveStreams
  extract_lets own l hit src u
  rw [int_publishKeys _ h]
  refine (int_foldl u hit fun x _ v => ?_).trans (int_congr s k rfl rfl rfl rfl rfl)
  simp (disch := omega) only [int_ite, int_sendFree, int_emit, ite_self]

/-- The entries that pulses, displays and stream keys write where CT has been set anew, with what raising writes. -/
abbrev replaceEntry (k : Nat) : Prop :=
  (0x2630 ≤ k / 256 ∧ k / 256 < 0x263C) ∨ k / 256 = 0x2C58 ∨ k / 256 = 0x2C59 ∨ (0x3130 ≤ k / 256 ∧ k / 256 ≤ 0x3137) ∨
    k = 0x24000B ∨ 0x350000 ≤ k

theorem int_replaceAll (h : ¬ replaceEntry k) : s.replaceAll.int k = s.int k := by
  unfold replaceAll
  simp (disch := omega) only [int_moveStreams, int_displaysAdopt]
  refine (int_foldl _ _ fun i hi u => ?_).trans (int_rephaseCameras ..)
  have := List.mem_range.mp hi
  simp (disch := omega) only [int_ite, int_pulseReplace, ite_self]

theorem int_replacedSince (t : State) (h : ¬ replaceEntry k) : (t.replacedSince s).int k = t.int k := by
  unfold replacedSince
  simp (disch := omega) only [int_ite, int_replaceAll, ite_self]

end Sys2Proof.Machine.State

/-!
SUPPORT. MAKE_UP frames (R217, R218): what an own frame notes of its port, and what a neighbour's frame leaves.
-/

namespace Sys2Proof.Machine

open State

namespace State

variable (s : State) {k : Nat}

/-! ### A frame received -/

theorem int_provisional (p : Nat) (m : MakeUp) (t : Int) (h : k ≠ Od.key (0x2240 + p) 5) (hp : p < 4) :
    (s.provisional p m t).int k = s.int k := by
  unfold provisional
  extract_lets x u
  have hu : u.int k = s.int k := int_setPl ..
  split
  · split
    · exact hu
    · exact (int_put_ne _ _ (Ne.symm h) (not_feeds_key (by omega) (by omega))).trans ((int_setPl ..).trans hu)
  · exact hu

theorem int_hearConflict (m : MakeUp) (h : k ≠ 0x225004) : (s.hearConflict m).int k = s.int k := by
  unfold hearConflict
  simp (disch := omega) only [int_ite, int_with_mu, int_bump_ne, ite_self]

theorem int_hearGeneration (m : MakeUp) (h : ¬ gatherEntry k) : (s.hearGeneration m).int k = s.int k := by
  unfold hearGeneration
  simp (disch := omega) only [int_ite, int_takeGeneration, ite_self]

@[simp] theorem int_followNeighbour (p : Nat) (r : Bool) (m : MakeUp) : (s.followNeighbour p r m).int k = s.int k := by
  unfold followNeighbour
  simp only [int_ite, int_with_mu, ite_self]

@[simp] theorem int_measure (p : Nat) (m : MakeUp) (fine : Nat) : (s.measure p m fine).int k = s.int k := int_with_mu ..

@[simp] theorem int_holdAdoption (t step : Int) : (s.holdAdoption t step).int k = s.int k := int_with_mu ..

/-- What a MAKE_UP that is taken leaves: a neighbour's identity, vehicle and position as the frame shows them (R217). -/
theorem int_makeUpReceived {p : Nat} (hp : p < 4) (h : Header) (m : MakeUp) (fine : Nat)
    (hup : s.linkUpState p = true) (hok : m.frameOk = true) (hprot : m.protectedFrame = s.keyed p)
    (hk : k / 256 = 0x2240 + p) (h5 : k ≠ Od.key (0x2240 + p) 5) :
    (s.makeUpReceived p h m fine).int k =
      (((s.put (Od.key (0x2240 + p) 1) m.sender.toNat).put (Od.key (0x2240 + p) 3) m.vehicle.toNat).put
        (Od.key (0x2240 + p) 4) m.position).int k := by
  unfold makeUpReceived
  rw [if_neg (by simp [hup, hok, hprot])]
  extract_lets t b u u1 u2 x u3 u4 src u5 mismatch
  have hu2 : u2.int k = u.int k := by
    simp (disch := omega) only [u2, u1, int_hearGeneration, int_hearConflict]
    exact int_provisional u p m t h5 hp
  have hu4 : u4.int k = u.int k := by simp only [u4, u3, int_followNeighbour, int_setPl, hu2]
  have hu5 : u5.int k = u.int k := by
    simp (disch := omega) only [u5, int_ite, int_integrateFromMakeUp, int_abandon, int_with_mu, int_measure,
      int_holdAdoption, ite_self, hu4]
  simp (disch := omega) only [int_ite, int_evaluate, int_restart, ite_self, hu5, u, b, key_add]

/-! ### A frame of its own -/

theorem makeUpSent_muSent (x : PortLine) (stamp : Int) : (makeUpSent x stamp).muSent = some stamp := by
  unfold makeUpSent
  split <;> rfl

theorem makeUpSent_muHeardAt (x : PortLine) (stamp : Int) : (makeUpSent x stamp).muHeardAt = none := by
  unfold makeUpSent
  split
  · rfl
  · assumption

theorem makeUpSent_authOut (x : PortLine) (stamp : Int) : (makeUpSent x stamp).authOut = x.authOut := by
  unfold makeUpSent
  split <;> rfl

theorem sendFrame_authOut (p : Nat) (h : Header) (stamp : Int) (l : List Byte) :
    ((s.sendFrame p h stamp l).pl p).authOut = (s.pl p).authOut := by
  have hleaves : ((s.slotAct h l).leaves p l.length).pl p =
      { (s.slotAct h l).frameLeaves p |>.pl p with
        txUntil := ((s.slotAct h l).leaves p l.length).pl p |>.txUntil } := by
    unfold leaves
    rw [pl_setPl_self]
  have hpl : ((s.sendFrame p h stamp l).pl p) = ((s.slotAct h l).leaves p l.length).pl p := rfl
  rw [hpl, hleaves]
  simp only [pl, frameLeaves_line, slotAct_line]

theorem sendMakeUp_out {p : Nat} (slot : Option Nat) (hup : s.linkUpState p = true) (hdrive : s.drives (chanOf p) = true) :
    ∃ frame, (s.sendMakeUp p slot).out = s.out ++ [.own p (s.headerOf p 4 slot 256) s.fuses.identity (s.sequenceOf p 4)
      ((s.makeUpOf p).egressCt / 65536 % 2 ^ 32) frame, .makeUp p (s.makeUpOf p)] := by
  refine ⟨s.tookFree.frameOf p (s.headerOf p 4 slot 256) ((s.makeUpOf p).egressCt / 65536)
    (makeUpPayload (s.makeUpOf p) ((s.pl p).authOut.headD (List.replicate 128 0))), ?_⟩
  unfold sendMakeUp
  rw [if_pos ⟨hup, hdrive⟩]
  extract_lets m fragment stamp t x
  have hout := sendFrame_out s.tookFree p (s.headerOf p 4 slot 256) m.egressCt (makeUpPayload m fragment)
  refine (congrArg (· ++ [Out.makeUp p m]) hout).trans ?_
  rw [List.append_assoc]
  rfl

/-- What an own MAKE_UP tells and notes (R217). -/
theorem exec_makeUpSend {s : State} {p : Cpl} (hready : s.isReady = true) (hup : s.linkUpState p.no = true)
    (hdrive : s.drives (if portB p.no then .b else .a) = true) :
    ∃ t frame, exec (.makeUpSend p) s = .next t ∧
      t.out = s.out ++ [.own p.no (s.headerOf p.no 4 none 256) s.fuses.identity (s.sequenceOf p.no 4)
          ((s.makeUpOf p.no).egressCt / 65536 % 2 ^ 32) frame, .makeUp p.no (s.makeUpOf p.no)] ∧
      (t.pl p.no).muSent = some ((s.clock.counter : Int) * 32 + (s.freeNat % 32 : Nat)) ∧ (t.pl p.no).muHeardAt = none ∧
      (t.pl p.no).authOut = (s.pl p.no).authOut.tail ∧ t.mu = s.mu := by
  have hmu : (s.sendMakeUp p.no none).mu = s.mu :=
    (State.sendMakeUp_keep (L := [.od, .line, .acts]) rfl (Keep.refl _ s)).same .mu (by decide)
  obtain ⟨frame, hout⟩ := s.sendMakeUp_out none hup hdrive
  refine ⟨s.sendMakeUp p.no none, frame, congrArg Host.Outcome.next (served_of_ready hready), hout, ?_, ?_, ?_, hmu⟩
  all_goals
    unfold sendMakeUp
    rw [if_pos ⟨hup, hdrive⟩]
    extract_lets m fragment stamp t x
  · exact (congrArg PortLine.muSent (pl_setPl_self t p.no _)).trans (makeUpSent_muSent ..)
  · exact (congrArg PortLine.muHeardAt (pl_setPl_self t p.no _)).trans (makeUpSent_muHeardAt ..)
  · refine (congrArg PortLine.authOut (pl_setPl_self t p.no _)).trans ?_
    exact congrArg List.tail ((makeUpSent_authOut ..).trans (sendFrame_authOut s.tookFree ..))

/-! ### Requests and timeouts -/

theorem exec_makeUpRequest {s : State} {w : Writer} {v : Byte} (hw : s.admits w 0x221101 [v]) (hc : s.int 0x340101 ≠ 2)
    (hs : s.muState ≠ 3) (hh : s.mu.held = none) :
    ∃ t, exec (.makeUpRequest w v) s = .next t ∧ t.int 0x221006 = 5 ∧
      t.int 0x221002 = ((s.generation + 1) % 65536 : Nat) ∧ t.mu.trigAt = s.clock.counter ∧ t.clock = s.clock := by
  obtain ⟨hcause, hgen, hcore⟩ := trigEval_of_unscheduled (c := 5) hc hs hh
  refine ⟨(s.trigEval 5).respond w 0 [], congrArg Host.Outcome.next (served_accessAct hw), ?_⟩
  rw [int_respond _ _ _ _ (by decide) (by decide), int_respond _ _ _ _ (by decide) (by decide), respond_mu, respond_clock]
  exact ⟨hcause, hgen, trigAt_of_muCore hcore, trigEval_clock 5⟩

theorem exec_makeUpTimeout_restarts {s : State} (hready : s.isReady = true) (hs : s.muState = 1 ∨ s.muState = 2)
    (hn : s.int 0x22100A + 1 < 4) (hc : s.int 0x340101 ≠ 2) (hh : s.mu.held = none) :
    ∃ t, exec .makeUpTimeout s = .next t ∧ t.int 0x22100A = s.int 0x22100A + 1 ∧ t.int 0x221006 = 7 ∧
      t.int 0x225002 = min (s.int 0x225002 + 1) 0xFFFFFFFF ∧ t.int 0x221002 = ((s.generation + 1) % 65536 : Nat) := by
  refine ⟨s.muTimeout, congrArg Host.Outcome.next (served_of_ready hready), ?_⟩
  unfold muTimeout restart
  rw [if_pos hs]
  simp only [sleepAgreed_of_ne hc, Bool.false_eq_true, if_false]
  rw [if_neg (by omega)]
  set u := (s.put 0x22100A (s.int 0x22100A + 1)).bump 0x225002 with hu
  have hread : ∀ j, j ≠ 0x22100A → j ≠ 0x225002 → u.int j = s.int j := fun j h1 h2 => by
    simp (disch := omega) only [hu, int_bump_ne, int_put_ne]
  have hmu : u.mu = s.mu := rfl
  have hst : u.muState ≠ 3 := by
    have := hread 0x221001 (by decide) (by decide)
    simp only [muState] at hs ⊢
    omega
  have hgen : u.generation = s.generation := congrArg Int.toNat (hread 0x221002 (by decide) (by decide))
  have hawake : u.int 0x340101 ≠ 2 := by rw [hread _ (by decide) (by decide)]; exact hc
  obtain ⟨hcause, hg, -⟩ := trigEval_of_unscheduled (c := 7) hawake hst (by rw [hmu]; exact hh)
  have hkept : ∀ j, j = 0x22100A ∨ j = 0x225002 → (u.trigEval 7).int j = u.int j := fun j hj => by
    rw [trigEval, int_evaluate _ (by omega), int_trigger _ _ (by omega) (by omega)]
  refine ⟨(hkept _ (.inl rfl)).trans ?_, hcause, (hkept _ (.inr rfl)).trans ?_, by rw [← hgen]; exact hg⟩
  · simp (disch := omega) only [hu, int_bump_ne, int_put_self]
  · simp (disch := omega) only [hu, int_bump_self, int_put_ne]

/-- A failed making-up is evaluated to nothing but the number of links without a key (R223). -/
theorem evaluate_of_failed (h : s.muState = 4) : s.evaluate = s.put 0x221009 s.pendingAuth := by
  have hs : (s.put 0x221009 s.pendingAuth).muState = 4 := (int_put_ne _ _ (by decide) (by decide)).trans h
  unfold evaluate
  simp [hs]

/-- A making-up that has failed (R223): its operation has ended with cause 7. -/
def failed (s : State) : State :=
  let u := (s.put 0x221006 7).put 0x221002 ((s.generation + 1) % 65536 : Nat)
  let v := ((u.put 0x221001 4).put 0x22100A 0).bump 0x225003
  (({ v with mu := { v.mu with consist := none, f := none } } : State).raise 128 v.generation 0 0).opEnd 4 3 7

theorem restart_of_fourth {s : State} (hn : 4 ≤ s.int 0x22100A + 1) (ha : s.sleepAgreed = false) :
    s.restart = ((s.put 0x22100A (s.int 0x22100A + 1)).bump 0x225002).failed := by
  unfold restart
  simp only [ha, Bool.false_eq_true, if_false]
  exact if_pos hn

theorem failed_reads : s.failed.int 0x221001 = 4 ∧ s.failed.int 0x22100A = 0 ∧
    s.failed.int 0x225003 = min (s.int 0x225003 + 1) 0xFFFFFFFF ∧ s.failed.int 0x3F0401 = 3 ∧ s.failed.int 0x3F0406 = 7 ∧
    s.failed.mu.consist = none := by
  have hstate : s.failed.int 0x3F0401 = 3 := int_opEnd_state _ 4 3 7 (by decide)
  have hresult : s.failed.int 0x3F0406 = 7 := int_opEnd_result _ 4 3 7 (by decide)
  refine ⟨?_, ?_, ?_, hstate, hresult, ?_⟩
  all_goals unfold failed
  · simp (disch := omega) only [int_opEnd, int_raise, int_with_mu, int_bump_ne, int_put_ne, int_put_self]
  · simp (disch := omega) only [int_opEnd, int_raise, int_with_mu, int_bump_ne, int_put_self]
  · simp (disch := omega) only [int_opEnd, int_raise, int_with_mu, int_bump_self, int_put_ne]
  · simp only [opEnd_mu, raise_mu]

/-- The fourth restart fails the making-up, with its operation ended as failed with cause 7 (R223). -/
theorem exec_makeUpTimeout_fails {s : State} (hready : s.isReady = true) (hs : s.muState = 1 ∨ s.muState = 2)
    (hn : 4 ≤ s.int 0x22100A + 1) (ha : s.sleepAgreed = false) :
    ∃ t, exec .makeUpTimeout s = .next t ∧ t.int 0x221001 = 4 ∧ t.int 0x22100A = 0 ∧
      t.int 0x225003 = min (s.int 0x225003 + 1) 0xFFFFFFFF ∧ t.int 0x3F0401 = 3 ∧ t.int 0x3F0406 = 7 ∧ t.mu.consist = none := by
  refine ⟨s.muTimeout, congrArg Host.Outcome.next (served_of_ready hready), ?_⟩
  obtain ⟨hstate, hcount, hfails, hop, hresult, hconsist⟩ := failed_reads ((s.put 0x22100A (s.int 0x22100A + 1)).bump 0x225002)
  unfold muTimeout
  rw [if_pos hs, restart_of_fourth hn ha, evaluate_of_failed _ hstate]
  simp (disch := omega) only [int_put_ne, put_mu]
  refine ⟨hstate, hcount, hfails.trans ?_, hop, hresult, hconsist⟩
  simp (disch := omega) only [int_bump_ne, int_put_ne]

theorem exec_makeUpReceived {s : State} {p : Cpl} {h : Header} {m : MakeUp} {fine : Fin 32} (hready : s.isReady = true)
    (hup : s.linkUpState p.no = true) (hok : m.frameOk = true) (hprot : m.protectedFrame = s.keyed p.no) :
    ∃ t, exec (.makeUpReceived p h m fine) s = .next t ∧ t.int (Od.key (0x2240 + p.no) 1) = m.sender.toNat ∧
      t.int (Od.key (0x2240 + p.no) 3) = m.vehicle.toNat ∧ t.int (Od.key (0x2240 + p.no) 4) = m.position := by
  have hp : p.no < 4 := by cases p <;> decide
  refine ⟨_, congrArg Host.Outcome.next (served_of_ready hready), ?_⟩
  have hread : ∀ n, n < 5 → ((s.makeUpReceived p.no h m fine).replacedSince s).int (Od.key (0x2240 + p.no) n) =
      (((s.put (Od.key (0x2240 + p.no) 1) m.sender.toNat).put (Od.key (0x2240 + p.no) 3) m.vehicle.toNat).put
        (Od.key (0x2240 + p.no) 4) m.position).int (Od.key (0x2240 + p.no) n) := fun n hn => by
    rw [int_replacedSince _ _ (by simp only [Od.key]; omega),
      int_makeUpReceived s hp h m fine hup hok hprot (by simp only [Od.key]; omega) (by simp only [Od.key]; omega)]
  rw [hread 1 (by decide), hread 3 (by decide), hread 4 (by decide)]
  simp (disch := omega) only [Od.key, int_put_ne, int_put_self, and_self]

theorem makeUpReceived_ignored {s : State} {p : Nat} {m : MakeUp} (h : Header) (fine : Nat)
    (hc : s.linkUpState p = false ∨ m.frameOk = false ∨ m.protectedFrame ≠ s.keyed p) :
    (s.makeUpReceived p h m fine).replacedSince s = s := by
  unfold makeUpReceived replacedSince
  simp [if_pos hc]

end State

/-- Settles O17, by what a trigger and the evaluation after it write. -/
theorem makingUpIsTriggered : Obligations.MakingUpIsTriggered :=
  ⟨fun _ _ hready hon hc hs hh => exec_activeCabChange hready hon hc hs hh,
    fun _ _ _ hw hc hs hh => exec_makeUpRequest hw hc hs hh,
    fun _ hready hs hn hc hh => exec_makeUpTimeout_restarts hready hs hn hc hh,
    fun _ hready hs hn ha => exec_makeUpTimeout_fails hready hs hn ha,
    fun _ _ hready hup hdrive => exec_makeUpSend hready hup hdrive,
    fun _ _ _ _ _ hready hup hok hprot => exec_makeUpReceived hready hup hok hprot,
    fun _ _ h _ fine hc => congrArg Host.Outcome.next (served_eq_self (makeUpReceived_ignored h fine hc))⟩

end Sys2Proof.Machine

/-!
SUPPORT. Cluster time at start-up and its correction (R187, R189, R220 to R222, R235): what a cold start, an integration
and an offset correction leave.
-/

namespace Sys2Proof.Machine

open State

namespace State

variable {s : State}

/-! ### Cold start and integration -/

@[simp] theorem checkTemplate_clock : s.checkTemplate.clock = s.clock :=
  (State.checkTemplate_keep (L := [.od, .mu]) rfl (Keep.refl _ s)).same .clock (by decide)

@[simp] theorem refreshTables_clock : s.refreshTables.clock = s.clock :=
  (State.refreshTables_keep (L := [.od, .line]) rfl (Keep.refl _ s)).same .clock (by decide)

/-- The mode, the flight and the passage that are taken over (R222). -/
theorem takeFlight_reads (m f p : Nat) (start : Int) :
    (s.takeFlight m f p start).int 0x240002 = m ∧ (s.takeFlight m f p start).int 0x240003 = f ∧
      (s.takeFlight m f p start).int 0x240004 = p := by
  have hread : ∀ k, k = 0x240002 ∨ k = 0x240003 ∨ k = 0x240004 → (s.takeFlight m f p start).int k =
      (((s.put 0x240002 m).put 0x240003 f).put 0x240004 p).int k := by
    intro k hk
    unfold takeFlight
    extract_lets u
    exact (int_checkTemplate _ (by omega)).trans ((int_refreshTables _ (by omega)).trans (int_with_clock ..))
  rw [hread _ (.inl rfl), hread _ (.inr (.inl rfl)), hread _ (.inr (.inr rfl))]
  simp (disch := omega) only [int_put_self, int_put_ne, and_self]

theorem takeFlight_ct (m f p : Nat) (start : Int) : (s.takeFlight m f p start).clock.ct = s.clock.ct := by
  unfold takeFlight
  extract_lets u
  rw [checkTemplate_clock, refreshTables_clock]
  show u.clock.ct = s.clock.ct
  simp only [u, put_clock]

/-- CT set at the stamp is not synchronised yet (R189). -/
theorem int_setCt_state (v : Int) (fine : Nat) : (s.setCt v fine).int 0x260001 = 1 := by
  unfold setCt
  extract_lets b src u
  refine (int_congr ((u.put 0x260001 1).put 0x260004 0) _ rfl rfl rfl rfl rfl).trans ?_
  simp (disch := omega) only [int_put_self, int_put_ne]

/-- CT set for the first time, or again by a device that is not integrating, begins at the value (R222). -/
theorem setCt_ct (v : Int) (h : ¬ (s.ctValid = true ∧ s.startState = 2)) :
    (s.setCt v 0).clock.ct = { anchor := s.clock.counter, base := v } := by
  unfold setCt
  extract_lets b src u
  have hu : u.clock.ct = { anchor := s.clock.counter, base := b } := by
    simp only [u, if_neg h]
  have hct : ((u.put 0x260001 1).put 0x260004 0).clock.ct = u.clock.ct := by rw [put_clock, put_clock]
  refine hct.trans (hu.trans ?_)
  simp [b]

theorem int_setTimeLead_self (id rank : Nat) : (s.setTimeLead id rank).int 0x22200D = id :=
  (int_with_mu ..).trans (int_put_self ..)

theorem setTimeLead_clock (id rank : Nat) : (s.setTimeLead id rank).clock = s.clock :=
  (State.setTimeLead_keep (L := [.od, .mu]) rfl (Keep.refl _ s)).same .clock (by decide)

theorem setTimeLead_rank (id rank : Nat) : (s.setTimeLead id rank).mu.timeLeadRank = rank := rfl

/-- An attempt begins: the device is active, and its first passage fresh (R220). -/
def attempting (s : State) : State :=
  { s with mu := { s.mu with attempt := 0, passive := false, adopted := false, working := none },
           clock := { s.clock with fresh := true } }

theorem int_attempting (k : Nat) : s.attempting.int k = s.int k := int_congr s k rfl rfl rfl rfl rfl

theorem attempting_attempt : s.attempting.mu.attempt = 0 := rfl

theorem attempting_passive : s.attempting.mu.passive = false := rfl

theorem attempting_rank : s.attempting.mu.timeLeadRank = s.mu.timeLeadRank := rfl

theorem attempting_ct : s.attempting.clock.ct = s.clock.ct := rfl

/-- A ranked device whose timer expires in LISTEN sets CT 0 with flight 0, under its own lead of time (R220). -/
theorem listenExpired_of_ranked (hs : s.startState = 0) (hr : s.nat 0x220004 ≠ 0) (hrun : s.clock.running = true) :
    s.listenExpired = (((((s.put 0x22100B 1).bump 0x225006).setCt 0 0).takeFlight 0 0 0 0).setTimeLead
      (((s.put 0x22100B 1).bump 0x225006).setCt 0 0).fuses.identity (s.nat 0x220004)).attempting :=
  if_pos ⟨hs, hr, hrun⟩

theorem setCt_fuses (v : Int) (fine : Nat) : (s.setCt v fine).fuses = s.fuses :=
  (State.setCt_keep (L := [.od, .clock, .mu]) rfl (Keep.refl _ s)).same .fuses (by decide)

theorem exec_listenTimerExpired (hready : s.isReady = true) (hs : s.startState = 0) (hr : s.nat 0x220004 ≠ 0)
    (hrun : s.clock.running = true) (hct : s.ctValid = false) :
    ∃ t, exec .listenTimerExpired s = .next t ∧ t.int 0x22100B = 1 ∧
      t.int 0x225006 = min (s.int 0x225006 + 1) 0xFFFFFFFF ∧ t.int 0x260001 = 1 ∧ t.int 0x240002 = 0 ∧ t.int 0x240003 = 0 ∧
      t.int 0x240004 = 0 ∧ t.int 0x22200D = s.fuses.identity ∧ t.clock.ct = { anchor := s.clock.counter, base := 0 } ∧
      t.mu.attempt = 0 ∧ t.mu.passive = false ∧ t.mu.timeLeadRank = s.nat 0x220004 := by
  refine ⟨s.listenExpired, congrArg Host.Outcome.next ((served_of_ready hready).trans ?_), ?_⟩
  · simp [replacedSince, hct]
  have hstart : ((s.put 0x22100B 1).bump 0x225006).startState = 1 := by
    rw [startState, int_bump_ne _ (by decide) (by decide), int_put_self]
  have hct := setCt_ct (s := (s.put 0x22100B 1).bump 0x225006) 0 (by simp [hstart])
  rw [bump_clock, put_clock] at hct
  have hint : ∀ k, ¬ stepEntry k → (k ≠ 0x260001 ∧ k ≠ 0x260004) →
      (((s.put 0x22100B 1).bump 0x225006).setCt 0 0).int k = ((s.put 0x22100B 1).bump 0x225006).int k :=
    fun k h1 h2 => int_setCt _ _ _ h1 h2
  have htime := int_setCt_state (s := (s.put 0x22100B 1).bump 0x225006) 0 0
  have hid := (setCt_fuses (s := (s.put 0x22100B 1).bump 0x225006) 0 0).trans ((bump_fuses ..).trans (put_fuses ..))
  rw [listenExpired_of_ranked hs hr hrun]
  generalize ((s.put 0x22100B 1).bump 0x225006).setCt 0 0 = u at *
  obtain ⟨hmode, hflight, hpassage⟩ := takeFlight_reads (s := u) 0 0 0 0
  have hu : ∀ k, ¬ tableEntry k → (k < 0x240002 ∨ 0x243009 < k) → (u.takeFlight 0 0 0 0).int k = u.int k :=
    fun k h1 h2 => int_takeFlight _ _ _ _ _ h1 (by omega)
  have hlead := int_setTimeLead_self (s := u.takeFlight 0 0 0 0) u.fuses.identity (s.nat 0x220004)
  rw [hid] at hlead ⊢
  have hv : ∀ k, k ≠ 0x22200D → ((u.takeFlight 0 0 0 0).setTimeLead s.fuses.identity (s.nat 0x220004)).int k =
      (u.takeFlight 0 0 0 0).int k := fun k hk => int_setTimeLead _ _ _ hk
  have hvct : ((u.takeFlight 0 0 0 0).setTimeLead s.fuses.identity (s.nat 0x220004)).clock.ct = u.clock.ct := by
    rw [setTimeLead_clock, takeFlight_ct]
  have hrank := setTimeLead_rank (s := u.takeFlight 0 0 0 0) s.fuses.identity (s.nat 0x220004)
  generalize (u.takeFlight 0 0 0 0).setTimeLead s.fuses.identity (s.nat 0x220004) = v at *
  simp only [int_attempting]
  refine ⟨?_, ?_, ?_, ?_, ?_, ?_, hlead, attempting_ct.trans (hvct.trans hct), attempting_attempt, attempting_passive,
    attempting_rank.trans hrank⟩
  · rw [hv _ (by decide), hu _ (by decide) (by decide), hint _ (by decide) (by decide)]
    simp (disch := omega) only [int_bump_ne, int_put_self]
  · rw [hv _ (by decide), hu _ (by decide) (by decide), hint _ (by decide) (by decide)]
    simp (disch := omega) only [int_bump_self, int_put_ne]
  · rw [hv _ (by decide), hu _ (by decide) (by decide), htime]
  · exact (hv _ (by decide)).trans hmode
  · exact (hv _ (by decide)).trans hflight
  · exact (hv _ (by decide)).trans hpassage

theorem replacedSince_of_ct {t : State} (h : t.clock.ct = s.clock.ct) : t.replacedSince s = t :=
  if_neg (fun hc => hc.2 h)

theorem coldStart_of_running {p : Nat} (dir : Dir) {f : ColdStart} (res fine : Nat) (hc : s.coldLink p = true)
    (hv : f.valid = true) (hr : s.isRunning = true) : s.coldStart p dir f res fine = s.bump 0x225008 := by
  simp [coldStart, hc, hv, hr]

theorem exec_coldStartReceived_running {p : Cpl} {dir : Dir} {f : ColdStart} {res : Nat} {fine : Fin 32}
    (hready : s.isReady = true) (hc : s.coldLink p.no = true) (hv : f.valid = true) (hr : s.isRunning = true) :
    exec (.coldStartReceived p dir f res fine) s = .next (s.bump 0x225008) := by
  refine congrArg Host.Outcome.next ((served_of_ready hready).trans ?_)
  rw [coldStart_of_running dir res fine hc hv hr]
  exact replacedSince_of_ct (congrArg Clock.ct (bump_clock ..))

/-- A COLD_START that goes on to the other side (R221). -/
def coldStartForwarded (s : State) (p : Nat) (f : ColdStart) (res : Nat) : State :=
  if s.coldLink (acrossPort p) ∧ f.sender.toNat ≠ s.fuses.identity then
    (s.leaves (acrossPort p) 32).emit (.coldStart (acrossPort p)
      { f with hops := f.hops + 1, pathDelay := f.pathDelay + res + (s.linkDelay p * 256 / 1000).toNat })
  else s

theorem int_frameLeaves {k : Nat} (p : Nat) (h1 : k ≠ Od.key (0x2410 + p) 0xA) (h2 : k ≠ Od.key (0x3124 + p) 3) (hp : p < 4) :
    (s.frameLeaves p).int k = s.int k := by
  unfold frameLeaves
  simp only
  split
  · rw [int_put_ne _ _ (Ne.symm h2) (not_feeds_key (by omega) (by omega)),
      int_bump_ne _ (Ne.symm h1) (not_feeds_key (by omega) (by omega))]
  · exact int_bump_ne _ (Ne.symm h1) (not_feeds_key (by omega) (by omega))

theorem int_leaves {k : Nat} (p n : Nat) (h1 : k ≠ Od.key (0x2410 + p) 0xA) (h2 : k ≠ Od.key (0x3124 + p) 3) (hp : p < 4) :
    (s.leaves p n).int k = s.int k := (int_setPl ..).trans (int_frameLeaves p h1 h2 hp)

theorem int_coldStartForwarded {k : Nat} (p : Nat) (f : ColdStart) (res : Nat) (h : k < 0x241000) :
    (s.coldStartForwarded p f res).int k = s.int k := by
  unfold coldStartForwarded
  split
  · have hp : acrossPort p < 4 := by unfold acrossPort; omega
    exact (int_emit ..).trans (int_leaves _ _ (by simp only [Od.key]; omega) (by simp only [Od.key]; omega) hp)
  · rfl

theorem coldStart_of_listening {p : Nat} (dir : Dir) {f : ColdStart} (res fine : Nat) (hc : s.coldLink p = true)
    (hv : f.valid = true) (hs : s.startState = 0) :
    s.coldStart p dir f res fine = (s.coldStartForwarded p f res).integrateFromColdStart p dir f fine := by
  have hr : s.isRunning = false := by
    have hs : s.int 0x22100B = 0 := hs
    simp [isRunning, hs]
  have hfs : (s.coldStartForwarded p f res).startState = 0 := (int_coldStartForwarded p f res (by decide)).trans hs
  unfold coldStart
  rw [if_neg (by simp [hc, hv]), if_neg (by simp [hr])]
  exact if_pos hfs

theorem int_enterIntegrate_self (p : Nat) (r : Bool) (b : Int) : (s.enterIntegrate p r b).int 0x22100B = 2 :=
  (int_with_mu ..).trans (int_put_self ..)

theorem enterIntegrate_listen (p : Nat) (r : Bool) (b : Int) : (s.enterIntegrate p r b).mu.listen = 1 := rfl

theorem enterIntegrate_integrated (p : Nat) (r : Bool) (b : Int) : (s.enterIntegrate p r b).mu.integrated = false := rfl

theorem enterIntegrate_rank (p : Nat) (r : Bool) (b : Int) :
    (s.enterIntegrate p r b).mu.timeLeadRank = s.mu.timeLeadRank := rfl

/-- An adoption of the time's lead is marked or not (R222). -/
def markAdopted (s : State) (b : Bool) : State := { s with mu := { s.mu with adopted := b } }

theorem int_markAdopted (b : Bool) (k : Nat) : (s.markAdopted b).int k = s.int k := int_with_mu ..

theorem markAdopted_listen (b : Bool) : (s.markAdopted b).mu.listen = s.mu.listen := rfl

theorem markAdopted_integrated (b : Bool) : (s.markAdopted b).mu.integrated = s.mu.integrated := rfl

theorem markAdopted_rank (b : Bool) : (s.markAdopted b).mu.timeLeadRank = s.mu.timeLeadRank := rfl

theorem integrateFromColdStart_eq (p : Nat) (dir : Dir) (f : ColdStart) (fine : Nat) :
    s.integrateFromColdStart p dir f fine =
      (((((s.setCt ((f.egress : Int) + (f.pathDelay : Int) * 256 + psToUnits (s.linkDelay p)) fine).takeFlight 0 0 f.passage 0
        ).setTimeLead f.sender.toNat f.rank).enterIntegrate p (decide (dir = .rearward))
        (((((s.setCt ((f.egress : Int) + (f.pathDelay : Int) * 256 + psToUnits (s.linkDelay p)) fine).takeFlight 0 0 f.passage 0
        ).pl p).heard.map (·.berth)).getD 0))).markAdopted false := by
  unfold integrateFromColdStart
  rfl

theorem replacedSince_mu (t : State) : (t.replacedSince s).mu = t.mu := by
  unfold replacedSince
  split
  · exact (State.replaceAll_keep (L := [.od, .dict, .clock, .line, .gate, .log, .trust, .video, .slices, .acts]) rfl
      (Keep.refl _ t)).same .mu (by decide)
  · rfl

/-- What an integration from a COLD_START leaves: the flight, the lead of time, and the state INTEGRATE (R222). -/
theorem integrateFromColdStart_reads (p : Nat) (dir : Dir) (f : ColdStart) (fine : Nat) :
    ∃ t, s.integrateFromColdStart p dir f fine = t ∧ t.int 0x22100B = 2 ∧ t.int 0x260001 = 1 ∧ t.int 0x240002 = 0 ∧
      t.int 0x240003 = 0 ∧ t.int 0x240004 = f.passage ∧ t.int 0x22200D = f.sender.toNat ∧ t.mu.listen = 1 ∧
      t.mu.integrated = false ∧ t.mu.timeLeadRank = f.rank := by
  refine ⟨_, s.integrateFromColdStart_eq p dir f fine, ?_⟩
  have htime := int_setCt_state (s := s) ((f.egress : Int) + (f.pathDelay : Int) * 256 + psToUnits (s.linkDelay p)) fine
  generalize s.setCt ((f.egress : Int) + (f.pathDelay : Int) * 256 + psToUnits (s.linkDelay p)) fine = u at *
  obtain ⟨hmode, hflight, hpassage⟩ := takeFlight_reads (s := u) 0 0 f.passage 0
  have hu : (u.takeFlight 0 0 f.passage 0).int 0x260001 = 1 :=
    (int_takeFlight _ _ _ _ _ (by decide) (by decide)).trans htime
  generalize u.takeFlight 0 0 f.passage 0 = v at *
  have hlead := int_setTimeLead_self (s := v) f.sender.toNat f.rank
  have hrank := setTimeLead_rank (s := v) f.sender.toNat f.rank
  have hv : ∀ k, k ≠ 0x22200D → (v.setTimeLead f.sender.toNat f.rank).int k = v.int k := fun k hk => int_setTimeLead _ _ _ hk
  generalize v.setTimeLead f.sender.toNat f.rank = x at *
  have hx : ∀ k, k ≠ 0x22100B → ∀ r b, ((x.enterIntegrate p r b).markAdopted false).int k = x.int k :=
    fun k hk r b => (int_markAdopted ..).trans (int_enterIntegrate _ _ _ _ hk)
  exact ⟨(int_markAdopted ..).trans (int_enterIntegrate_self ..),
    (hx _ (by decide) _ _).trans ((hv _ (by decide)).trans hu), (hx _ (by decide) _ _).trans ((hv _ (by decide)).trans hmode),
    (hx _ (by decide) _ _).trans ((hv _ (by decide)).trans hflight),
    (hx _ (by decide) _ _).trans ((hv _ (by decide)).trans hpassage), (hx _ (by decide) _ _).trans hlead,
    (markAdopted_listen _).trans (enterIntegrate_listen ..), (markAdopted_integrated _).trans (enterIntegrate_integrated ..),
    (markAdopted_rank _).trans ((enterIntegrate_rank ..).trans hrank)⟩

theorem exec_coldStartReceived_listening {p : Cpl} {dir : Dir} {f : ColdStart} {res : Nat} {fine : Fin 32}
    (hready : s.isReady = true) (hc : s.coldLink p.no = true) (hv : f.valid = true) (hs : s.startState = 0) :
    ∃ t, exec (.coldStartReceived p dir f res fine) s = .next t ∧ t.int 0x22100B = 2 ∧ t.int 0x260001 = 1 ∧
      t.int 0x240002 = 0 ∧ t.int 0x240003 = 0 ∧ t.int 0x240004 = f.passage ∧ t.int 0x22200D = f.sender.toNat ∧
      t.mu.listen = 1 ∧ t.mu.integrated = false ∧ t.mu.timeLeadRank = f.rank := by
  obtain ⟨t, ht, hreads⟩ := (s.coldStartForwarded p.no f res).integrateFromColdStart_reads p.no dir f fine
  refine ⟨t.replacedSince s, congrArg Host.Outcome.next ((served_of_ready hready).trans ?_), ?_⟩
  · rw [coldStart_of_listening dir res fine hc hv hs, ht]
  · simp (disch := omega) only [int_replacedSince, replacedSince_mu]
    exact hreads

/-! ### RUNNING, and the end of an attempt -/

theorem int_bootStep {k : Nat} (n : Nat) (h : k ≠ 0x210300 + n) (hn : n < 256) : (s.bootStep n).int k = s.int k := by
  unfold bootStep
  simp (disch := omega) only [int_ite, int_put_ne, ite_self]

theorem int_firstOrder {k : Nat} (h : k ≠ 0x260007) : s.firstOrder.int k = s.int k := by
  unfold firstOrder
  split
  · rfl
  · exact int_put_ne _ _ (Ne.symm h) (by decide)

theorem int_trigger_cause (c : Nat) : (s.trigger c).int 0x221006 = c := by
  unfold trigger
  simp (disch := omega) only [int_ite, int_takeGeneration, int_with_mu, int_put_self, ite_self]

theorem int_trigEval_cause (c : Nat) : (s.trigEval c).int 0x221006 = c :=
  (int_evaluate _ (by decide)).trans (int_trigger_cause c)

/-- RUNNING as an integrated, active device (R220). -/
def integratedNow (s : State) : State :=
  { s with mu := { s.mu with integrated := true, listen := 0, silent := 0, passive := false } }

theorem int_integratedNow (k : Nat) : s.integratedNow.int k = s.int k := int_with_mu ..

theorem enterRunning_always :
    s.enterRunning true = ((((s.put 0x22100B 3).bootStep 4).integratedNow).firstOrder).trigEval 1 := by
  unfold enterRunning
  exact if_pos (.inl rfl)

theorem firstOrder_mu : s.firstOrder.mu = s.mu :=
  (State.firstOrder_keep (L := [.od]) rfl (Keep.refl _ s)).same .mu (by decide)

theorem muCore_takeGeneration (g : Nat) : muCore (s.takeGeneration g).mu = muCore s.mu := by
  unfold takeGeneration
  simp only [muCore_ite, muCore_gather, muCore_with, ite_self]

/-- The marks of a device that runs. -/
def runMarks (m : MakingUp) : Bool × Bool × Nat := (m.integrated, m.passive, m.listen)

theorem runMarks_muCore (m : MakingUp) : runMarks (muCore m) = runMarks m := rfl

theorem runMarks_of_muCore {m n : MakingUp} (h : muCore m = muCore n) : runMarks m = runMarks n := by
  rw [← runMarks_muCore m, h, runMarks_muCore]

theorem runMarks_integratedNow : runMarks s.integratedNow.mu = (true, false, 0) := rfl

theorem runMarks_with_trigAt (m : MakingUp) (c : Nat) : runMarks { m with trigAt := c } = runMarks m := rfl

/-- A trigger leaves the marks of a device that runs (R215). -/
theorem runMarks_trigEval (c : Nat) : runMarks (s.trigEval c).mu = runMarks s.mu := by
  refine (runMarks_of_muCore (muCore_evaluate (s.trigger c))).trans ?_
  unfold trigger
  extract_lets u v w
  split
  · exact congrArg runMarks (put_mu ..)
  · refine (runMarks_of_muCore (muCore_takeGeneration _)).trans ?_
    exact (runMarks_with_trigAt ..).trans (congrArg runMarks (put_mu ..))

theorem exec_attemptComplete (hready : s.isReady = true) (hs : s.startState = 1) :
    ∃ t, exec .attemptComplete s = .next t ∧ t.int 0x22100B = 3 ∧ t.int 0x221006 = 1 ∧ t.mu.integrated = true ∧
      t.mu.passive = false ∧ t.mu.listen = 0 := by
  refine ⟨s.enterRunning true, congrArg Host.Outcome.next ((served_of_ready hready).trans (if_pos hs)), ?_⟩
  rw [enterRunning_always]
  have hint : ∀ k, k = 0x22100B → (((s.put 0x22100B 3).bootStep 4).integratedNow.firstOrder).int k = 3 := fun k hk => by
    subst hk
    rw [int_firstOrder (by decide), int_integratedNow, int_bootStep _ (by decide) (by decide), int_put_self]
  have hmarks := (runMarks_trigEval (s := (((s.put 0x22100B 3).bootStep 4).integratedNow).firstOrder) 1).trans
    ((congrArg runMarks firstOrder_mu).trans runMarks_integratedNow)
  generalize ((s.put 0x22100B 3).bootStep 4).integratedNow.firstOrder = u at *
  simp only [runMarks, Prod.mk.injEq] at hmarks
  refine ⟨?_, int_trigEval_cause 1, hmarks⟩
  rw [trigEval, int_evaluate _ (by decide), int_trigger _ _ (by decide) (by decide), hint _ rfl]

theorem exec_integrateTimeout (hready : s.isReady = true) (hs : s.startState = 2) :
    exec .integrateTimeout s =
      .next { s.put 0x22100B 0 with mu := { s.mu with listen := 0, working := none, silent := 0 } } :=
  congrArg Host.Outcome.next ((served_of_ready hready).trans (if_pos hs))

theorem adoptionMeasured_of_measuring (hm : s.mu.measuring ≠ 0) (ha : s.mu.adoptAt = none) :
    ∃ t, s.adoptionMeasured = t ∧ t.mu.adoptAt = some (s.clock.flightStart + 2 * 64 * s.passageLen * 65536) ∧
      t.mu.joining = true ∧ t.mu.passive = true ∧ t.mu.measuring = 0 ∧
      (s.mu.lastAt = s.mu.firstAt → t.mu.adoptStep = s.mu.lastDiff) := by
  refine ⟨_, rfl, ?_⟩
  unfold adoptionMeasured holdAdoption
  rw [if_neg (by simp [hm, ha])]
  refine ⟨rfl, rfl, rfl, rfl, fun h => ?_⟩
  simp [h]

theorem exec_adoptionMeasurementEnd (hready : s.isReady = true) (hm : s.mu.measuring ≠ 0) (ha : s.mu.adoptAt = none) :
    ∃ t, exec .adoptionMeasurementEnd s = .next t ∧
      t.mu.adoptAt = some (s.clock.flightStart + 2 * 64 * s.passageLen * 65536) ∧ t.mu.joining = true ∧
      t.mu.passive = true ∧ t.mu.measuring = 0 ∧ t.od = s.od ∧ t.clock = s.clock ∧
      (s.mu.lastAt = s.mu.firstAt → t.mu.adoptStep = s.mu.lastDiff) := by
  obtain ⟨t, ht, hat, hjoin, hpass, hmeas, hstep⟩ := adoptionMeasured_of_measuring hm ha
  have hkeep := State.adoptionMeasured_keep (L := [.mu]) rfl (Keep.refl _ s)
  rw [ht] at hkeep
  exact ⟨t, congrArg Host.Outcome.next ((served_of_ready hready).trans ht), hat, hjoin, hpass, hmeas,
    hkeep.same .od (by decide), hkeep.same .clock (by decide), hstep⟩

/-! ### The offset correction -/

/-- What an averaging in SYNC reports (R187): how many values, the correction in ps, the spread, a rejection. -/
def averageReported (s : State) (δ : Int) (rej : Bool) : State :=
  let u := (s.put 0x260002 s.avgVals.length).put 0x260003 (Int.tdiv (δ * 1000) 256)
  let v := if 4 ≤ s.avgVals.length then
    u.put 0x260006 (unitsToPs ((trimmed s.avgVals).getLastD 0 - (trimmed s.avgVals).headD 0)) else u
  if rej then v.bump 0x26000B else v

/-- The correction in force, and the values judged (R187, R188). -/
def averaged (s : State) (δ : Int) (rejects : Nat) : State :=
  { s.keepVals with clock := { s.keepVals.clock with
    delta := δ, rejects := rejects, holdPassages := s.clock.holdPassages } }

theorem int_keepVals (k : Nat) : s.keepVals.int k = s.int k := int_with_clock ..

theorem int_averaged (δ : Int) (n k : Nat) : (s.averaged δ n).int k = s.int k := (int_with_clock ..).trans (int_keepVals k)

theorem averaged_delta (δ : Int) (n : Nat) : (s.averaged δ n).clock.delta = δ := rfl
theorem averaged_rejects (δ : Int) (n : Nat) : (s.averaged δ n).clock.rejects = n := rfl
theorem averaged_vals (δ : Int) (n : Nat) : (s.averaged δ n).clock.vals = [] := rfl

theorem int_averageReported {k : Nat} (δ : Int) (rej : Bool) (h : k ≠ 0x260002 ∧ k ≠ 0x260003 ∧ k ≠ 0x260006 ∧ k ≠ 0x26000B) :
    (s.averageReported δ rej).int k = s.int k := by
  unfold averageReported
  simp (disch := omega) only [int_ite, int_bump_ne, int_put_ne, ite_self]

theorem averageReported_count (δ : Int) (rej : Bool) : (s.averageReported δ rej).int 0x260002 = s.avgVals.length := by
  unfold averageReported
  simp (disch := omega) only [int_ite, int_bump_ne, int_put_ne, int_put_self, ite_self]

theorem averageReported_correction (δ : Int) (rej : Bool) :
    (s.averageReported δ rej).int 0x260003 = Int.tdiv (δ * 1000) 256 := by
  unfold averageReported
  simp (disch := omega) only [int_ite, int_bump_ne, int_put_ne, int_put_self, ite_self]

theorem offsetCorrection_of_good (ht : s.timeState = 2) (hn : 4 ≤ s.avgVals.length) (hr : s.deltaRejected = false) :
    s.offsetCorrection = ((s.averageReported s.rawDelta false).averaged s.rawDelta 0).avgState s.avgVals.length true := by
  unfold offsetCorrection averageReported averaged
  simp [ht, hr, hn]

theorem offsetCorrection_of_few (ht : s.timeState = 2) (hn : s.avgVals.length < 4) :
    s.offsetCorrection = ((s.averageReported 0 false).averaged 0 0).avgState s.avgVals.length false := by
  have h4 : ¬ 4 ≤ s.avgVals.length := by omega
  unfold offsetCorrection averageReported averaged
  simp [ht, h4]

theorem offsetCorrection_of_rejected (ht : s.timeState = 2) (hn : 4 ≤ s.avgVals.length) (hr : s.deltaRejected = true)
    (h1 : s.clock.rejects = 1) : s.offsetCorrection = ((s.averageReported 0 true).averaged 0 2).timeOut := by
  unfold offsetCorrection averageReported averaged
  simp [ht, hr, hn, h1]

theorem averaged_mu (δ : Int) (n : Nat) : (s.averaged δ n).mu = s.mu := rfl

theorem averageReported_keep (δ : Int) (rej : Bool) : Keep [.od] s (s.averageReported δ rej) := by
  unfold averageReported
  extract_lets u v
  have hu : Keep [.od] s u := State.put_keep rfl (State.put_keep rfl (Keep.refl _ s))
  have hv : Keep [.od] s v := Keep.site (State.put_keep rfl hu) hu
  exact Keep.site (State.bump_keep rfl hv) hv

theorem averageReported_mu (δ : Int) (rej : Bool) : (s.averageReported δ rej).mu = s.mu :=
  (averageReported_keep δ rej).same .mu (by decide)

theorem avgState_of_good {n : Nat} (ht : s.timeState = 2) (hn : 4 ≤ n) : s.avgState n true = s := by
  unfold avgState
  rw [if_neg (by rw [ht]; decide), if_pos ht, if_neg (by omega)]

theorem avgState_of_few {n : Nat} (ht : s.timeState = 2) (hn : n < 4) : s.avgState n false = s.enterHoldover := by
  unfold avgState
  rw [if_neg (by rw [ht]; decide), if_pos ht, if_pos hn]

theorem timeState_averaged (ht : s.timeState = 2) (δ : Int) (rej : Bool) (n : Nat) :
    ((s.averageReported δ rej).averaged δ n).timeState = 2 :=
  (int_averaged ..).trans ((int_averageReported δ rej (by decide)).trans ht)

theorem exec_offsetCorrection_good (hready : s.isReady = true) (ht : s.timeState = 2) (hn : 4 ≤ s.avgVals.length)
    (hr : s.deltaRejected = false) :
    ∃ t, exec .offsetCorrection s = .next t ∧ t.clock.delta = s.rawDelta ∧ t.clock.rejects = 0 ∧ t.clock.vals = [] ∧
      t.int 0x260001 = 2 ∧ t.int 0x260002 = s.avgVals.length ∧ t.int 0x260003 = Int.tdiv (s.rawDelta * 1000) 256 ∧
      t.mu = s.mu := by
  refine ⟨(s.averageReported s.rawDelta false).averaged s.rawDelta 0, congrArg Host.Outcome.next ?_, averaged_delta ..,
    averaged_rejects .., averaged_vals .., timeState_averaged ht .., (int_averaged ..).trans (averageReported_count ..),
    (int_averaged ..).trans (averageReported_correction ..), (averaged_mu ..).trans (averageReported_mu ..)⟩
  exact (served_of_ready hready).trans
    ((offsetCorrection_of_good ht hn hr).trans (avgState_of_good (timeState_averaged ht ..) hn))

theorem int_enterHoldover_state : s.enterHoldover.int 0x260001 = 3 :=
  (int_with_clock ..).trans ((int_raise _ _ _ _ _ (by decide)).trans (int_put_self ..))

theorem enterHoldover_delta : s.enterHoldover.clock.delta = s.clock.delta := by
  unfold enterHoldover
  simp only [raise_clock, put_clock]

theorem enterHoldover_mu : s.enterHoldover.mu = s.mu :=
  (State.enterHoldover_keep (L := [.od, .clock, .gate, .log, .acts]) rfl (Keep.refl _ s)).same .mu (by decide)

theorem exec_offsetCorrection_few (hready : s.isReady = true) (ht : s.timeState = 2) (hn : s.avgVals.length < 4) :
    ∃ t, exec .offsetCorrection s = .next t ∧ t.clock.delta = 0 ∧ t.clock.holdPassages = 0 ∧ t.int 0x260001 = 3 ∧
      t.mu = s.mu := by
  refine ⟨((s.averageReported 0 false).averaged 0 0).enterHoldover, congrArg Host.Outcome.next ?_,
    enterHoldover_delta.trans (averaged_delta ..), rfl, int_enterHoldover_state,
    enterHoldover_mu.trans ((averaged_mu ..).trans (averageReported_mu ..))⟩
  exact (served_of_ready hready).trans
    ((offsetCorrection_of_few ht hn).trans (avgState_of_few (timeState_averaged ht ..) hn))

/-! ### OUT, and the holdover limit -/

theorem int_leaveRunning {k : Nat} (h : k ≠ 0x22100B) (h4 : k < 0x248400 ∨ 0x248800 ≤ k) : s.leaveRunning.int k = s.int k := by
  unfold leaveRunning
  extract_lets u v mu
  have hu : u.int k = s.int k := by simp (disch := omega) only [u, int_ite, int_put_ne, ite_self]
  refine (int_with_mu v _ k).trans ((int_foldl u _ fun p hp x => ?_).trans hu)
  have := List.mem_range.mp hp
  exact (int_setPl ..).trans (int_put_ne _ _ (by simp only [Od.key]; omega) (not_feeds_key (by omega) (by omega)))

theorem leaveRunning_passive : s.leaveRunning.mu.passive = true := rfl

theorem leaveRunning_clock : s.leaveRunning.clock = s.clock :=
  (State.leaveRunning_keep (L := [.od, .mu, .line]) rfl (Keep.refl _ s)).same .clock (by decide)

/-- OUT as reported (R189). -/
theorem timeOut_of_sync (ht : s.timeState = 2) : s.timeOut =
    (((((s.put 0x260001 4).putFlag 0x26000D false).bump 0x260009).raise 109 4 0 0).leaveRunning) := by
  unfold timeOut
  rw [if_neg (by rw [ht]; decide)]

theorem timeOut_reads (ht : s.timeState = 2) : s.timeOut.int 0x260001 = 4 ∧ s.timeOut.clock = s.clock ∧
    s.timeOut.mu.passive = true := by
  rw [timeOut_of_sync ht, int_leaveRunning (by decide) (by decide), leaveRunning_clock]
  refine ⟨?_, ?_, leaveRunning_passive⟩
  · simp (disch := omega) only [putFlag, int_raise, int_bump_ne, int_put_ne, int_put_self]
  · simp only [putFlag, raise_clock, bump_clock, put_clock]

theorem exec_offsetCorrection_rejected (hready : s.isReady = true) (ht : s.timeState = 2) (hn : 4 ≤ s.avgVals.length)
    (hr : s.deltaRejected = true) (h1 : s.clock.rejects = 1) :
    ∃ t, exec .offsetCorrection s = .next t ∧ t.int 0x260001 = 4 ∧ t.clock.delta = 0 ∧ t.mu.passive = true := by
  obtain ⟨hstate, hclock, hpassive⟩ := timeOut_reads (timeState_averaged ht 0 true 2)
  exact ⟨_, congrArg Host.Outcome.next ((served_of_ready hready).trans (offsetCorrection_of_rejected ht hn hr h1)), hstate,
    by rw [hclock, averaged_delta], hpassive⟩

theorem exec_holdoverLimitExpired (hready : s.isReady = true) (ht : s.timeState = 3)
    (hl : s.nat 0x260104 * 64 ≤ s.clock.holdPassages) (hf : s.int 0x26000D = 0) :
    ∃ t, exec .holdoverLimitExpired s = .next t ∧ t.int 0x26000D = 1 ∧ t.int 0x260001 = s.int 0x260001 ∧ t.clock = s.clock := by
  refine ⟨(s.putFlag 0x26000D true).raise 135 0 0 0,
    congrArg Host.Outcome.next ((served_of_ready hready).trans (if_pos ⟨ht, hl, by simp [flag_eq, hf]⟩)), ?_⟩
  simp (disch := omega) only [putFlag, int_raise, int_put_ne, int_put_self, raise_clock, put_clock, if_true, and_self]

end State

/-- Settles O18, by what each command writes of the time and the start state. -/
theorem clusterTimeStartsAndIsCorrected : Obligations.ClusterTimeStartsAndIsCorrected :=
  ⟨fun _ hready hs hr hrun hct => exec_listenTimerExpired hready hs hr hrun hct,
    fun _ _ _ _ _ _ hready hc hv hr => exec_coldStartReceived_running hready hc hv hr,
    fun _ _ _ _ _ _ hready hc hv hs => exec_coldStartReceived_listening hready hc hv hs,
    fun _ hready hs => exec_attemptComplete hready hs,
    fun _ hready hs => exec_integrateTimeout hready hs,
    fun _ hready hm ha => exec_adoptionMeasurementEnd hready hm ha,
    fun _ hready ht hn hr => exec_offsetCorrection_good hready ht hn hr,
    fun _ hready ht hn _ => exec_offsetCorrection_few hready ht hn,
    fun _ hready ht hn hr h1 => exec_offsetCorrection_rejected hready ht hn hr h1,
    fun _ hready ht hl hf => exec_holdoverLimitExpired hready ht hl hf⟩
end Sys2Proof.Machine

/-!
SUPPORT. Coupler and star links, and MDIO (R135 to R140, R170): what a link that comes up or goes down writes, and the
queue of register accesses.
-/

namespace Sys2Proof.Machine

open State

namespace State

variable {s : State} {k : Nat}

/-! ### Entries -/

theorem int_setLink_ne {p v : Nat} (h : k ≠ Od.key (0x2410 + p) 4) (hk : k < 0x350000) (hp : p < 4) :
    (s.setLink p v).int k = s.int k := by
  unfold setLink
  split
  · rfl
  · rw [int_raise _ _ _ _ _ hk, int_put_ne _ _ (Ne.symm h) (not_feeds_key (by omega) (by omega))]

/-- The state a link takes (R136). -/
theorem int_setLink_self {p : Nat} (v : Nat) (hp : p < 4) : (s.setLink p v).int (Od.key (0x2410 + p) 4) = v := by
  unfold setLink
  split
  · assumption
  · rw [int_raise _ _ _ _ _ (by simp only [Od.key]; omega), int_put_self]

theorem int_authSend (p kind code : Nat) : (s.authSend p kind code).int k = s.int k := by
  unfold authSend
  exact (int_emit ..).trans ((int_setPl ..).trans (int_tookFree ..))

theorem int_setAu (p : Nat) (a : Auth) : (s.setAu p a).int k = s.int k := int_with_trust ..

theorem int_authStart {p : Nat} (h1 : k ≠ Od.key (0x3124 + p) 1) (h2 : k ≠ Od.key (0x2240 + p) 2) (hp : p < 4) :
    (s.authStart p).int k = s.int k := by
  unfold authStart
  split
  · refine (int_authSend ..).trans ((int_setAu ..).trans ?_)
    rw [int_put_ne _ _ (Ne.symm h2) (not_feeds_key (by omega) (by omega)),
      int_put_ne _ _ (Ne.symm h1) (not_feeds_key (by omega) (by omega)), int_tookFree]
  · rfl

/-! ### A link comes up, and is lost -/

theorem limitsMet_of_unmeasured {p : Nat} (h : (s.pl p).measured = false) :
    s.limitsMet p = decide (s.int 0x2E0004 ≤ s.int (Od.key (0x2410 + p) 5)) := by
  simp [limitsMet, h]

/-- A port's PHY is no longer one that has reported sleep (R266). -/
def phyAwake (s : State) (p : Nat) : State :=
  { s with mooring := { s.mooring with slept := s.mooring.slept &&& ~~~ BitVec.ofNat 4 (2 ^ p) } }

theorem int_phyAwake (p : Nat) : (s.phyAwake p).int k = s.int k := int_with_mooring ..

theorem phyAwake_pl (p q : Nat) : (s.phyAwake p).pl q = s.pl q := rfl

theorem linkUp_of_down {p rate : Nat} (h4 : s.int (Od.key (0x2410 + p) 4) = 1)
    (h3 : (rate : Int) ≤ s.int (Od.key (0x2410 + p) 3)) :
    ∃ u, u = ((s.put (Od.key (0x2410 + p) 5) rate).bump (Od.key (0x2410 + p) 7)).phyAwake p ∧
      s.linkUp p rate = ((u.setLink p (if u.limitsMet p then 2 else 3)).authStart p).trigEval 2 := by
  refine ⟨_, rfl, ?_⟩
  unfold linkUp
  simp only [key_add]
  rw [if_neg (by omega)]
  rfl

theorem exec_linkUp {p : Cpl} {rate : Fin 4} (hready : s.isReady = true) (h4 : s.int (Od.key (0x2410 + p.no) 4) = 1)
    (h3 : (rate.val : Int) ≤ s.int (Od.key (0x2410 + p.no) 3)) (hm : (s.pl p.no).measured = false) :
    ∃ t, exec (.linkUp p rate) s = .next t ∧ t.int (Od.key (0x2410 + p.no) 5) = rate.val ∧
      t.int (Od.key (0x2410 + p.no) 4) = (if s.int 0x2E0004 ≤ rate.val then 2 else 3) ∧
      t.int (Od.key (0x2410 + p.no) 7) = min (s.int (Od.key (0x2410 + p.no) 7) + 1) 0xFFFFFFFF ∧ t.int 0x221006 = 2 := by
  have hp : p.no < 4 := by cases p <;> decide
  obtain ⟨u, hu, hup⟩ := linkUp_of_down h4 h3
  have hmu : (u.pl p.no).measured = false := by rw [hu, phyAwake_pl]; exact hm
  have hread : ∀ n, n < 256 → u.int (Od.key (0x2410 + p.no) n) =
      ((s.put (Od.key (0x2410 + p.no) 5) rate.val).bump (Od.key (0x2410 + p.no) 7)).int (Od.key (0x2410 + p.no) n) :=
    fun n _ => by rw [hu, int_phyAwake]
  have hrate : u.int (Od.key (0x2410 + p.no) 5) = rate.val := by
    rw [hread 5 (by decide)]
    simp (disch := omega) only [Od.key, int_bump_ne, int_put_self]
  have hleast : u.int 0x2E0004 = s.int 0x2E0004 := by
    rw [hu, int_phyAwake]
    simp (disch := omega) only [Od.key, int_bump_ne, int_put_ne]
  have hcount : u.int (Od.key (0x2410 + p.no) 7) = min (s.int (Od.key (0x2410 + p.no) 7) + 1) 0xFFFFFFFF := by
    rw [hread 7 (by decide)]
    simp (disch := omega) only [Od.key, int_bump_self, int_put_ne]
  have hafter : ∀ (x : State) n, n < 256 → ((x.authStart p.no).trigEval 2).int (Od.key (0x2410 + p.no) n) =
      x.int (Od.key (0x2410 + p.no) n) := fun x n hn =>
    (int_trigEval _ _ (by simp only [Od.key]; omega)).trans
      (int_authStart (by simp only [Od.key]; omega) (by simp only [Od.key]; omega) hp)
  refine ⟨s.linkUp p.no rate, congrArg Host.Outcome.next (served_of_ready hready), ?_⟩
  rw [hup, hafter _ 5 (by decide), hafter _ 4 (by decide), hafter _ 7 (by decide), int_trigEval_cause,
    int_setLink_self _ hp, int_setLink_ne (by simp only [Od.key]; omega) (by simp only [Od.key]; omega) hp,
    int_setLink_ne (by simp only [Od.key]; omega) (by simp only [Od.key]; omega) hp, limitsMet_of_unmeasured hmu, hrate, hleast]
  refine ⟨rfl, ?_, hcount, rfl⟩
  simp only [decide_eq_true_eq]
  split <;> rfl

theorem int_dropKey_ne {p : Nat} (h1 : k / 256 ≠ 0x3124 + p) (h2 : k / 256 ≠ 0x2484 + p) (hp : p < 4) :
    (s.dropKey p).int k = s.int k := by
  unfold dropKey
  extract_lets b u v x
  refine (int_with_trust ..).trans ((int_setPl ..).trans ?_)
  simp (disch := omega) only [u, b, Od.key, int_put_ne]

/-- A link without its key has none to report (R317). -/
theorem int_dropKey_state {p : Nat} (hp : p < 4) : (s.dropKey p).int (Od.key (0x3124 + p) 1) = 0 := by
  unfold dropKey
  extract_lets b u v x
  refine (int_with_trust ..).trans ((int_setPl ..).trans ?_)
  simp (disch := omega) only [u, b, Od.key, int_put_ne, Nat.add_zero, int_put_self]

/-- What a lost link reports, but for its line (R136). -/
def lostEntries (s : State) (p : Nat) : State :=
  let u := (s.dropKey p).put (Od.key (0x2410 + p) 6) 0
  let v := ((((u.put (Od.key (0x2240 + p) 1) 0).put (Od.key (0x2240 + p) 2) 0).put (Od.key (0x2240 + p) 3) 0).put
    (Od.key (0x2240 + p) 4) 0).put (Od.key (0x2240 + p) 5) 0
  v.put (Od.key (0x2484 + p) 1) 0

theorem int_linkLost (p : Nat) : (s.linkLost p).int k = (s.lostEntries p).int k := by
  unfold linkLost
  simp only [key_add]
  exact (int_with_line ..).trans (int_setPl ..)

theorem int_linkLost_key {p : Nat} (hp : p < 4) : (s.linkLost p).int (Od.key (0x3124 + p) 1) = 0 := by
  rw [int_linkLost, lostEntries]
  have hdrop := int_dropKey_state (s := s) hp
  generalize s.dropKey p = u at *
  simp only [Od.key] at *
  simp (disch := omega) only [int_put_ne, hdrop]

theorem int_linkLost_neighbour {p : Nat} (hp : p < 4) : (s.linkLost p).int (Od.key (0x2240 + p) 1) = 0 := by
  rw [int_linkLost, lostEntries]
  simp (disch := omega) only [Od.key, int_put_ne, int_put_self]

theorem int_linkLost_ne {p : Nat} (hp : p < 4) (h : k / 256 = 0x2410 + p) (h6 : k % 256 ≠ 6) :
    (s.linkLost p).int k = s.int k := by
  rw [int_linkLost, lostEntries]
  simp (disch := omega) only [Od.key, int_put_ne, int_dropKey_ne]

/-- The frame on its way as a link is lost ends with an inverted FCS (R136). -/
def cutFrame (s : State) (p : Nat) : State :=
  if s.clock.counter < (s.pl p).txUntil then ((s.bump (Od.key (0x2410 + p) 0xC)).bump 0x24000C).emit (.truncated p) else s

theorem int_cutFrame {p : Nat} (hp : p < 4) (h : k ≠ Od.key (0x2410 + p) 0xC) (h2 : k ≠ 0x24000C) :
    (s.cutFrame p).int k = s.int k := by
  unfold cutFrame
  split
  · rw [int_emit, int_bump_ne _ (Ne.symm h2) (by decide), int_bump_ne _ (Ne.symm h) (not_feeds_key (by omega) (by omega))]
  · rfl

theorem linkDown_of_up {p : Nat} (h : s.linkUpState p = true) :
    s.linkDown p = ((((s.cutFrame p).bump (Od.key (0x2410 + p) 8)).setLink p 1).linkLost p).trigEval 2 := by
  unfold linkDown cutFrame
  simp only [key_add, decide_eq_true_eq]
  exact if_pos h

theorem exec_linkDown {p : Cpl} (hready : s.isReady = true) (h : s.linkUpState p.no = true) :
    ∃ t, exec (.linkDown p) s = .next t ∧ t.int (Od.key (0x2410 + p.no) 4) = 1 ∧
      t.int (Od.key (0x2410 + p.no) 8) = min (s.int (Od.key (0x2410 + p.no) 8) + 1) 0xFFFFFFFF ∧
      t.int (Od.key (0x2240 + p.no) 1) = 0 ∧ t.int (Od.key (0x3124 + p.no) 1) = 0 ∧ t.int 0x221006 = 2 := by
  have hp : p.no < 4 := by cases p <;> decide
  have htrig : ∀ (u : State) x n, n < 256 → 0x2240 ≤ x → x < 0x3200 → x ≠ 0x2250 → (u.trigEval 2).int (Od.key x n) = u.int (Od.key x n) :=
    fun u x n h1 h2 h3 h4 => int_trigEval _ _ (by simp only [Od.key]; omega)
  have hlost : ∀ (u : State) n, n < 256 → n ≠ 6 → (u.linkLost p.no).int (Od.key (0x2410 + p.no) n) = u.int (Od.key (0x2410 + p.no) n) :=
    fun u n h1 h6 => int_linkLost_ne hp (by simp only [Od.key]; omega) (by simp only [Od.key]; omega)
  refine ⟨s.linkDown p.no, congrArg Host.Outcome.next (served_of_ready hready), ?_⟩
  rw [linkDown_of_up h, int_trigEval_cause, htrig _ (0x2410 + p.no) 4 (by decide) (by omega) (by omega) (by omega),
    htrig _ (0x2410 + p.no) 8 (by decide) (by omega) (by omega) (by omega),
    htrig _ (0x2240 + p.no) 1 (by decide) (by omega) (by omega) (by omega),
    htrig _ (0x3124 + p.no) 1 (by decide) (by omega) (by omega) (by omega), int_linkLost_key hp, int_linkLost_neighbour hp,
    hlost _ 4 (by decide) (by decide), hlost _ 8 (by decide) (by decide), int_setLink_self _ hp,
    int_setLink_ne (by simp only [Od.key]; omega) (by simp only [Od.key]; omega) hp, int_bump_self,
    int_cutFrame hp (by simp only [Od.key]; omega) (by simp only [Od.key]; omega)]
  exact ⟨rfl, rfl, rfl, rfl, rfl⟩

/-! ### The other link commands, and MDIO -/

theorem exec_linkLimitCleared {p : Cpl} (hready : s.isReady = true) (h3 : s.linkState p.no = 3)
    (hm : s.limitsMet p.no = true) :
    exec (.linkLimitCleared p) s = .next ((s.put (Od.key (0x2410 + p.no) 4) 2).raise (129 + p.no) 2 p.no 0) := by
  refine congrArg Host.Outcome.next ((served_of_ready hready).trans ?_)
  unfold limitCleared setLink
  rw [if_pos ⟨h3, hm⟩, if_neg (by rw [h3]; decide)]
  rfl

theorem exec_starLinkChange {p : Fin 8} {up : Bool} (hready : s.isReady = true) (hon : s.int (Od.key (0x2418 + p) 1) ≠ 0) :
    exec (.starLinkChange p up) s = .next ((s.put (Od.key (0x2418 + p) 4) (if up then 2 else 1)).setStar p {}) := by
  refine congrArg Host.Outcome.next ((served_of_ready hready).trans ?_)
  unfold starLink
  simp only [key_add]
  exact if_pos (decide_eq_true hon)

theorem mdioPoll_coupler {p : Nat} (r : BusResult) (hon : s.int (Od.key (0x2410 + p) 1) ≠ 0) :
    s.mdioPoll false p r =
      (match r with
        | .ok _ => s.emit (.mdio false 0 (s.nat (Od.key (0x2410 + p) 2)) 1 1 0)
        | _ => (s.emit (.mdio false 0 (s.nat (Od.key (0x2410 + p) 2)) 1 1 0)).bump (Od.key (0x2410 + p) 0x0D)) := by
  unfold mdioPoll
  simp only [Bool.false_eq_true, if_false, key_add, flag_eq, decide_eq_false_iff_not]
  rw [if_neg (by simpa using hon)]
  cases r <;> rfl

theorem mdioPoll_star {p : Nat} (r : BusResult) (hon : s.int (Od.key (0x2418 + p) 1) ≠ 0) :
    s.mdioPoll true p r = s.emit (.mdio false 1 (s.nat (Od.key (0x2418 + p) 3)) 1 1 0) := by
  unfold mdioPoll
  simp only [if_true, key_add, flag_eq, decide_eq_false_iff_not]
  rw [if_neg (by simpa using hon)]

/-- An access is queued with the record's fields, its result open (R140, R170). -/
theorem mdioQueue_of_idle {j : MdioJob} (write : Bool) (hn : s.line.mdio = none)
    (hj : j = { write := write, master := s.nat 0x242801, phy := s.nat 0x242802, dev := s.nat 0x242803, reg := s.nat 0x242804, value := s.nat 0x242805 }) :
    (s.mdioQueue write).2 = 0 ∧ (s.mdioQueue write).1.line = { s.line with mdio := some j } ∧
      (s.mdioQueue write).1.int 0x242807 = 0 := by
  unfold mdioQueue
  simp only [hn, Option.isSome_none, Bool.false_eq_true, if_false, ← hj, emit_line, int_emit, true_and]
  exact (int_with_line ..).trans (int_put_self ..)

theorem mdioQueue_of_busy (write : Bool) (hn : s.line.mdio ≠ none) : s.mdioQueue write = (s.put 0x242807 4, 0) :=
  if_pos (Option.isSome_iff_ne_none.mpr hn)

theorem exec_mdioQueue {w : Writer} {j : MdioJob} (hn : s.line.mdio = none)
    (hj : j = { write := false, master := s.nat 0x242801, phy := s.nat 0x242802, dev := s.nat 0x242803, reg := s.nat 0x242804, value := s.nat 0x242805 }) :
    (s.admits w 0x242806 [1] → ∃ t, exec (.mdioRead w) s = .next t ∧ t.line = { s.line with mdio := some j } ∧ t.int 0x242807 = 0) ∧
    (s.admits w 0x242806 [2] →
      ∃ t, exec (.mdioWrite w) s = .next t ∧ t.line = { s.line with mdio := some { j with write := true } } ∧ t.int 0x242807 = 0) := by
  obtain ⟨hok, hline, hresult⟩ := mdioQueue_of_idle false hn hj
  obtain ⟨hok', hline', hresult'⟩ := mdioQueue_of_idle (j := { j with write := true }) true hn (by rw [hj])
  refine ⟨fun hw => ⟨_, congrArg Host.Outcome.next (served_accessAct hw), ?_, ?_⟩,
    fun hw => ⟨_, congrArg Host.Outcome.next (served_accessAct hw), ?_, ?_⟩⟩
  · rw [respond_line, hline]
  · rw [int_respond _ _ _ _ (by decide) (by decide), hresult]
  · rw [respond_line, hline']
  · rw [int_respond _ _ _ _ (by decide) (by decide), hresult']

theorem exec_mdioQueue_busy {w : Writer} (hn : s.line.mdio ≠ none) :
    (s.admits w 0x242806 [1] → exec (.mdioRead w) s = .next ((s.put 0x242807 4).respond w 0 [])) ∧
    (s.admits w 0x242806 [2] → exec (.mdioWrite w) s = .next ((s.put 0x242807 4).respond w 0 [])) := by
  refine ⟨fun hw => congrArg Host.Outcome.next ((served_accessAct hw).trans ?_),
    fun hw => congrArg Host.Outcome.next ((served_accessAct hw).trans ?_)⟩
  · rw [mdioQueue_of_busy false hn]
  · rw [mdioQueue_of_busy true hn]

theorem mdioDone_of_running {j : MdioJob} (hj : s.line.mdio = some j) (r : BusResult) :
    s.mdioDone r =
      match r with
      | .ok v => if j.write then ({ s with line := { s.line with mdio := none } } : State).put 0x242807 1
        else (({ s with line := { s.line with mdio := none } } : State).put 0x242805 (v % 65536 : Nat)).put 0x242807 1
      | _ => ({ s with line := { s.line with mdio := none } } : State).put 0x242807 3 := by
  unfold mdioDone
  rw [hj] <;> rfl

end State

/-- Settles O19, by the branch each link and register command takes. -/
theorem linksAndManagedRegisters : Obligations.LinksAndManagedRegisters := by
  refine ⟨fun _ _ _ hready h4 h3 hm => exec_linkUp hready h4 h3 hm, fun _ _ hready h => exec_linkDown hready h,
    fun _ _ hready h3 hm => exec_linkLimitCleared hready h3 hm, fun _ _ _ hready hon => exec_starLinkChange hready hon,
    ?_, ?_, fun _ _ _ hn hj => exec_mdioQueue hn hj, fun _ _ hn => exec_mdioQueue_busy hn, ?_⟩
  · intro s p v hready hon
    exact ⟨congrArg Host.Outcome.next ((served_of_ready hready).trans (mdioPoll_coupler (.ok v) hon)),
      congrArg Host.Outcome.next ((served_of_ready hready).trans (mdioPoll_coupler .nack hon)),
      congrArg Host.Outcome.next ((served_of_ready hready).trans (mdioPoll_coupler .timeout hon))⟩
  · intro s p r hready hon
    exact congrArg Host.Outcome.next ((served_of_ready hready).trans (mdioPoll_star r hon))
  · intro s j v hready hj
    have hdone := fun r => (served_of_ready (f := (·.mdioDone r)) hready).trans (mdioDone_of_running hj r)
    exact ⟨fun hr => congrArg Host.Outcome.next ((hdone (.ok v)).trans (by rw [hr]; rfl)),
      fun hw => congrArg Host.Outcome.next ((hdone (.ok v)).trans (by rw [hw]; rfl)),
      congrArg Host.Outcome.next (hdone .nack), congrArg Host.Outcome.next (hdone .timeout)⟩

end Sys2Proof.Machine

/-!
SUPPORT. The star ports' egress and gPTP on it (R139, R192, R193, R198, R211): what a message offered to a port leaves in
its queue, sends, counts and stamps.
-/

namespace Sys2Proof.Machine

open State

namespace State

variable {s : State} {p : Nat}

/-! ### The star port's part -/

theorem star_setStar_self (x : StarLine) : (s.setStar p x).star p = x := Tab.get_set_self ..

@[simp] theorem int_setStar (x : StarLine) (k : Nat) : (s.setStar p x).int k = s.int k := int_with_clock ..

@[simp] theorem setStar_out (x : StarLine) : (s.setStar p x).out = s.out := rfl
@[simp] theorem setStar_od (x : StarLine) : (s.setStar p x).od = s.od := rfl
@[simp] theorem setStar_fuses (x : StarLine) : (s.setStar p x).fuses = s.fuses := rfl
@[simp] theorem setStar_free (x : StarLine) : (s.setStar p x).free = s.free := rfl
@[simp] theorem setStar_slices (x : StarLine) : (s.setStar p x).slices = s.slices := rfl
@[simp] theorem setStar_gp (x : StarLine) (q : Nat) : (s.setStar p x).gp q = s.gp q := rfl
@[simp] theorem setStar_counter (x : StarLine) : (s.setStar p x).clock.counter = s.clock.counter := rfl
@[simp] theorem setStar_starFits (x : StarLine) (n : Nat) : (s.setStar p x).starFits p n = s.starFits p n := rfl
@[simp] theorem setStar_sliceWaits (x : StarLine) : (s.setStar p x).sliceWaits p = s.sliceWaits p := rfl
@[simp] theorem setStar_starTicks (x : StarLine) (n : Nat) : (s.setStar p x).starTicks p n = s.starTicks p n := rfl
@[simp] theorem setStar_servedStamp (x : StarLine) (f : Nat) : (s.setStar p x).servedStamp p f = s.servedStamp p f := rfl
@[simp] theorem setStar_counterStamp (x : StarLine) (f : Nat) : (s.setStar p x).counterStamp f = s.counterStamp f := rfl

/-- What a queue keeps open of a port: whether it may start a frame. -/
theorem starFree_setStar {x : StarLine} (h : x.busyUntil = (s.star p).busyUntil) (n : Nat) :
    (s.setStar p x).starFree p n = s.starFree p n := by
  have hup : (s.setStar p x).starUp p = s.starUp p := rfl
  unfold starFree
  rw [star_setStar_self, setStar_counter, setStar_starFits, setStar_starTicks, hup, h]

@[simp] theorem setGp_out (g : Gptp) : (s.setGp p g).out = s.out := rfl
@[simp] theorem setGp_od (g : Gptp) : (s.setGp p g).od = s.od := rfl
@[simp] theorem setGp_fuses (g : Gptp) : (s.setGp p g).fuses = s.fuses := rfl
@[simp] theorem setGp_free (g : Gptp) : (s.setGp p g).free = s.free := rfl
@[simp] theorem setGp_star (g : Gptp) (q : Nat) : (s.setGp p g).star q = s.star q := rfl
@[simp] theorem setGp_counter (g : Gptp) : (s.setGp p g).clock.counter = s.clock.counter := rfl
@[simp] theorem int_setGp (g : Gptp) (k : Nat) : (s.setGp p g).int k = s.int k := int_with_clock ..
@[simp] theorem setGp_starFree (g : Gptp) (q n : Nat) : (s.setGp p g).starFree q n = s.starFree q n := rfl
@[simp] theorem setGp_sliceWaits (g : Gptp) (q : Nat) : (s.setGp p g).sliceWaits q = s.sliceWaits q := rfl
@[simp] theorem setGp_servedStamp (g : Gptp) (q f : Nat) : (s.setGp p g).servedStamp q f = s.servedStamp q f := rfl
@[simp] theorem setGp_counterStamp (g : Gptp) (f : Nat) : (s.setGp p g).counterStamp f = s.counterStamp f := rfl

theorem gp_setGp_self (g : Gptp) : (s.setGp p g).gp p = g := Tab.get_set_self ..

/-! ### The egress -/

theorem starFree_of_busy (h : s.clock.counter < (s.star p).busyUntil) (n : Nat) : s.starFree p n = false := by
  simp [starFree, Nat.not_le.mpr h]

theorem mem_starQueue (x : StarItem) : x ∈ ((s.starQueue p x).star p).queue := by
  unfold starQueue
  rw [star_setStar_self]
  simp

theorem starQueue_of_empty {x : StarItem} (h : (s.star p).queue = []) :
    s.starQueue p x = s.setStar p { s.star p with queue := [x] } := by
  unfold starQueue
  simp [h]

theorem starQueue_busyUntil (x : StarItem) : ((s.starQueue p x).star p).busyUntil = (s.star p).busyUntil := by
  unfold starQueue
  rw [star_setStar_self]

theorem starPump_of_busy (h : s.clock.counter < (s.star p).busyUntil) : s.starPump p = s := by
  unfold starPump
  split
  · rfl
  · rw [starFree_of_busy h, if_neg (by simp)]

/-- A message offered to a port that sends waits there, and nothing else happens (R139). -/
theorem starOffer_of_busy (x : StarItem) (h : s.clock.counter < (s.star p).busyUntil) : s.starOffer p x = s.starQueue p x :=
  starPump_of_busy (by rw [starQueue_busyUntil]; exact h)

theorem starPump_of_free {x : StarItem} {l : List StarItem} (hq : (s.star p).queue = x :: l)
    (hf : s.starFree p (starBytes x) = true) (hs : starClass x = 3 → s.sliceWaits p = false) :
    s.starPump p = (s.setStar p { s.star p with queue := l }).starSend p x := by
  unfold starPump
  rw [hq]
  exact if_pos ⟨hf, fun h => by simp [hs h.1] at h⟩

/-- A port whose queue a message has left (R139). -/
def starEmptied (s : State) (p : Nat) (x : StarItem) : State :=
  (s.setStar p { s.star p with queue := [x] }).setStar p
    { (s.setStar p { s.star p with queue := [x] }).star p with queue := [] }

/-- A message offered to a free port with nothing waiting leaves at once (R139). -/
theorem starOffer_of_free {x : StarItem} (hq : (s.star p).queue = []) (hf : s.starFree p (starBytes x) = true)
    (hs : starClass x = 3 → s.sliceWaits p = false) : s.starOffer p x = (s.starEmptied p x).starSend p x := by
  unfold starOffer starEmptied
  rw [starQueue_of_empty hq]
  refine starPump_of_free (l := []) (by rw [star_setStar_self]) ?_ (by simpa using hs)
  exact (starFree_setStar (x := { s.star p with queue := [x] }) rfl _).trans hf

@[simp] theorem int_starEmptied (x : StarItem) (k : Nat) : (s.starEmptied p x).int k = s.int k := by simp [starEmptied]
@[simp] theorem starEmptied_out (x : StarItem) : (s.starEmptied p x).out = s.out := rfl
@[simp] theorem starEmptied_fuses (x : StarItem) : (s.starEmptied p x).fuses = s.fuses := rfl
@[simp] theorem starEmptied_free (x : StarItem) : (s.starEmptied p x).free = s.free := rfl
@[simp] theorem starEmptied_gp (x : StarItem) (q : Nat) : (s.starEmptied p x).gp q = s.gp q := rfl
@[simp] theorem starEmptied_counter (x : StarItem) : (s.starEmptied p x).clock.counter = s.clock.counter := rfl
@[simp] theorem starEmptied_starTicks (x : StarItem) (n : Nat) : (s.starEmptied p x).starTicks p n = s.starTicks p n := rfl
@[simp] theorem starEmptied_servedStamp (x : StarItem) (f : Nat) : (s.starEmptied p x).servedStamp p f = s.servedStamp p f := rfl
@[simp] theorem starEmptied_counterStamp (x : StarItem) (f : Nat) : (s.starEmptied p x).counterStamp f = s.counterStamp f := rfl

theorem starEmptied_queue (x : StarItem) : ((s.starEmptied p x).star p).queue = [] := by
  unfold starEmptied
  rw [star_setStar_self]

/-! ### A message that leaves -/

theorem starLeaves_out (n : Nat) : (s.starLeaves p n).out = s.out := rfl
theorem starLeaves_gp (n q : Nat) : (s.starLeaves p n).gp q = s.gp q := rfl
theorem starLeaves_counterStamp (n f : Nat) : (s.starLeaves p n).counterStamp f = s.counterStamp f := rfl

theorem starLeaves_queue (n : Nat) : ((s.starLeaves p n).star p).queue = (s.star p).queue := by
  unfold starLeaves
  rw [star_setStar_self]

theorem starLeaves_busyUntil (n : Nat) : ((s.starLeaves p n).star p).busyUntil = s.clock.counter + s.starTicks p n := by
  unfold starLeaves
  rw [star_setStar_self]

theorem int_starLeaves (n k : Nat) (hp : p < 8) :
    (s.starLeaves p n).int k = if Od.key (0x2418 + p) 8 = k then min (s.int k + 1) 0xFFFFFFFF else s.int k := by
  unfold starLeaves
  rw [int_setStar, int_bump _ _ (not_feeds_key (by omega) (by omega))]

theorem int_starLeaves_ne {k : Nat} (n : Nat) (hp : p < 8) (h : k ≠ Od.key (0x2418 + p) 8) :
    (s.starLeaves p n).int k = s.int k := by
  rw [int_starLeaves _ _ hp, if_neg (Ne.symm h)]

theorem servedStamp_starLeaves (n f : Nat) (hp : p < 8) : (s.starLeaves p n).servedStamp p f = s.servedStamp p f := by
  have hct : ∀ c, (s.starLeaves p n).ctAt c f = s.ctAt c f := fun _ => rfl
  have hnt : ∀ c, (s.starLeaves p n).ntAt c f = s.ntAt c f := fun _ => rfl
  have hc : (s.starLeaves p n).clock.counter = s.clock.counter := rfl
  unfold servedStamp baseAt baseValid ctValid timeState ntValid
  rw [int_starLeaves_ne n hp (by simp only [Od.key]; omega), int_starLeaves_ne n hp (by simp only [Od.key]; omega),
    int_starLeaves_ne n hp (by simp only [Od.key]; omega), int_starLeaves_ne n hp (by simp only [Od.key]; omega), hc, hct, hnt]

@[simp] theorem starQueue_out (x : StarItem) : (s.starQueue p x).out = s.out := rfl
@[simp] theorem starQueue_od (x : StarItem) : (s.starQueue p x).od = s.od := rfl
@[simp] theorem starQueue_gp (x : StarItem) (q : Nat) : (s.starQueue p x).gp q = s.gp q := rfl
@[simp] theorem int_starQueue (x : StarItem) (k : Nat) : (s.starQueue p x).int k = s.int k := int_setStar ..

theorem emit_star (o : Out) (q : Nat) : (s.emit o).star q = s.star q := rfl
theorem emit_gp (o : Out) (q : Nat) : (s.emit o).gp q = s.gp q := rfl
theorem bump_star (k q : Nat) : (s.bump k).star q = s.star q := rfl
theorem bump_gp (k q : Nat) : (s.bump k).gp q = s.gp q := rfl
theorem tookFree_gp (q : Nat) : s.tookFree.gp q = s.gp q := rfl
theorem tookFree_counterStamp (f : Nat) : s.tookFree.counterStamp f = s.counterStamp f := rfl
theorem tookFree_starTicks (n : Nat) : s.tookFree.starTicks p n = s.starTicks p n := rfl
theorem tookFree_servedStamp (f : Nat) : s.tookFree.servedStamp p f = s.servedStamp p f := rfl

theorem starSend_sync_eq (n q : Nat) : s.starSend p (.gptp (.sync n q)) =
    (((s.tookFree.starLeaves p 58).bump (Od.key (0x2620 + p) 9)).emit (.gptp p s.fuses.identity (.sync n q))).starQueue p
      (.gptp (.followUp n q ((s.tookFree.starLeaves p 58).servedStamp p (s.freeNat % 32)))) := rfl

theorem starSend_pdelayReq_eq (q : Nat) : s.starSend p (.gptp (.pdelayReq q)) =
    (((s.tookFree.starLeaves p 68).setGp p { (s.tookFree.starLeaves p 68).gp p with
      reqAt := some ((s.tookFree.starLeaves p 68).counterStamp (s.freeNat % 32)) }).emit (.gptp p s.fuses.identity (.pdelayReq q))) := rfl

theorem starSend_pdelayResp_eq (q : Nat) (t2 : Int) : s.starSend p (.gptp (.pdelayResp q t2)) =
    ((s.tookFree.starLeaves p 68).emit (.gptp p s.fuses.identity (.pdelayResp q t2))).starQueue p
      (.gptp (.pdelayRespFollowUp q ((s.tookFree.starLeaves p 68).counterStamp (s.freeNat % 32)))) := rfl

theorem starSend_announce_eq (n q : Nat) : s.starSend p (.gptp (.announce n q)) =
    (s.tookFree.starLeaves p 90).emit (.gptp p s.fuses.identity (.announce n q)) := rfl

theorem queue_emit_starLeaves (n : Nat) (o : Out) (hq : (s.star p).queue = []) :
    ((((s.tookFree.starLeaves p n).emit o)).star p).queue = [] := by
  rw [emit_star, starLeaves_queue]
  exact hq

/-- A Sync that leaves is told, counted, and followed by its Follow_Up (R198). -/
theorem starSend_sync (n q : Nat) (hp : p < 8) (hq : (s.star p).queue = []) :
    ∃ t, s.starSend p (.gptp (.sync n q)) = t ∧ t.out = s.out ++ [.gptp p s.fuses.identity (.sync n q)] ∧
      (t.star p).queue = [.gptp (.followUp n q (s.servedStamp p (s.freeNat % 32)))] ∧ t.gp p = s.gp p ∧
      t.int (Od.key (0x2620 + p) 9) = min (s.int (Od.key (0x2620 + p) 9) + 1) 0xFFFFFFFF ∧
      t.int (Od.key (0x2418 + p) 8) = min (s.int (Od.key (0x2418 + p) 8) + 1) 0xFFFFFFFF := by
  have hstamp := (servedStamp_starLeaves (s := s.tookFree) 58 (s.freeNat % 32) hp).trans (tookFree_servedStamp ..)
  have hempty : ((((s.tookFree.starLeaves p 58).bump (Od.key (0x2620 + p) 9)).emit
      (.gptp p s.fuses.identity (.sync n q))).star p).queue = [] := by
    rw [emit_star, bump_star, starLeaves_queue]
    exact hq
  refine ⟨_, starSend_sync_eq n q, ?_, ?_, ?_, ?_, ?_⟩
  · rw [starQueue_out, emit_out, bump_out, starLeaves_out, tookFree_out]
  · rw [starQueue_of_empty hempty, star_setStar_self, hstamp]
  · rw [starQueue_gp, emit_gp, bump_gp, starLeaves_gp, tookFree_gp]
  · rw [int_starQueue, int_emit, int_bump_self, int_starLeaves_ne _ hp (by simp only [Od.key]; omega), int_tookFree]
  · rw [int_starQueue, int_emit, int_bump_ne _ (by simp only [Od.key]; omega) (not_feeds_key (by omega) (by omega)),
      int_starLeaves _ _ hp, if_pos rfl, int_tookFree]

/-! ### gPTP -/

@[simp] theorem setDomain_gp (d : Dom) (x : Domain) (q : Nat) : (s.setDomain d x).gp q = s.gp q := by cases d <;> rfl
@[simp] theorem setDomain_od (d : Dom) (x : Domain) : (s.setDomain d x).od = s.od := by cases d <;> rfl
theorem domain_setDomain_self (d : Dom) (x : Domain) : (s.setDomain d x).domain d = x := by cases d <;> rfl

theorem exec_gptpSyncReceived {p : Fin 8} {number : Fin 128} {q : Nat} {fine : Fin 32} {d : Dom} (hready : s.isReady = true)
    (hi : s.inputIn p number = some d) (hup : s.starUp p = true) :
    ∃ t, exec (.gptpSyncReceived p ⟨number, q⟩ fine) s = .next t ∧
      (s.ctValid = true → (t.gp p).sync = some (q, s.ctAt s.clock.counter fine)) ∧ (t.domain d).offers = true ∧ t.od = s.od := by
  refine ⟨s.gptpSync p number q fine, congrArg Host.Outcome.next (served_of_ready hready), ?_⟩
  unfold gptpSync
  rw [hi]
  simp only [hup, Bool.true_eq_false, if_false]
  refine ⟨fun hct => ?_, ?_, ?_⟩
  · rw [setDomain_gp, if_pos hct, gp_setGp_self]
  · rw [domain_setDomain_self]
  · rw [setDomain_od]
    split <;> rfl

theorem gptp_of_no_input {number q fine gm : Nat} (origin : Int) (h : s.inputIn p number = none) :
    s.gptpSync p number q fine = s ∧ s.gptpFollowUp p number q origin = s ∧ s.gptpAnnounce p number gm = s := by
  simp [gptpSync, gptpFollowUp, gptpAnnounce, h]

theorem exec_gptpFollowUpReceived {p : Fin 8} {number : Fin 128} {q : Nat} {origin ct : Int} {d : Dom}
    (hready : s.isReady = true) (hi : s.inputIn p number = some d) (hs : (s.gp p).sync = some (q, ct)) :
    ∃ t, exec (.gptpFollowUpReceived p ⟨number, q⟩ origin) s = .next t ∧ (t.gp p).sync = none ∧
      (t.gp p).last = some (ct, origin + psToUnits (s.int (Od.key (0x2620 + p) 7))) ∧ (t.gp p).ctRef = ct ∧
      (t.gp p).domRef = origin + psToUnits (s.int (Od.key (0x2620 + p) 7)) ∧
      (t.gp p).rates.length ≤ max 8 (s.gp p).rates.length := by
  refine ⟨s.gptpFollowUp p number q origin, congrArg Host.Outcome.next (served_of_ready hready), ?_⟩
  unfold gptpFollowUp
  simp only [hi, hs, ne_eq, not_true_eq_false, if_false, gp_setGp_self, true_and]
  split
  · split
    · omega
    · simp only [List.length_take]
      omega
  · omega

theorem gptpPdelayReq_of_measures (q f : Nat) (h : s.gptpMeasures p = true) :
    s.gptpPdelayReq p q f = s.starOffer p (.gptp (.pdelayResp q (s.counterStamp f))) := if_pos h

theorem gptpSyncSend_of_serving (h : s.starUp p = true) (hv : s.servedValid p = true) :
    s.gptpSyncSend p = (s.setGp p { s.gp p with seqNo := ((s.gp p).seqNo + 1) % 65536 }).starOffer p
      (.gptp (.sync (s.nat (Od.key (0x2620 + p) 2)) (s.gp p).seqNo)) := if_pos ⟨h, hv⟩

theorem gptpAnnounceSend_of_serving (h : s.gptpServes p = true) :
    s.gptpAnnounceSend p = (s.setGp p { s.gp p with announceNo := ((s.gp p).announceNo + 1) % 65536 }).starOffer p
      (.gptp (.announce (s.nat (Od.key (0x2620 + p) 2)) (s.gp p).announceNo)) := if_pos h

theorem gptpPdelayReqSend_of_measures (h : s.gptpMeasures p = true) :
    s.gptpPdelayReqSend p = (s.setGp p { s.gp p with reqNo := ((s.gp p).reqNo + 1) % 65536 }).starOffer p
      (.gptp (.pdelayReq (s.gp p).reqNo)) := if_pos h

theorem exec_gptpPdelayReqReceived {p : Fin 8} {q : Nat} {fine : Fin 32} (hready : s.isReady = true)
    (hm : s.gptpMeasures p = true) (hq : (s.star p).queue = []) (hf : s.starFree p 68 = true) :
    ∃ t, exec (.gptpPdelayReqReceived p ⟨q, fine⟩) s = .next t ∧
      t.out = s.out ++ [.gptp p s.fuses.identity (.pdelayResp q (s.counterStamp fine))] ∧
      (t.star p).queue = [.gptp (.pdelayRespFollowUp q (s.counterStamp (s.freeNat % 32)))] ∧
      (t.star p).busyUntil = s.clock.counter + s.starTicks p 68 := by
  have hsend := (gptpPdelayReq_of_measures q fine.val hm).trans
    ((starOffer_of_free (x := .gptp (.pdelayResp q (s.counterStamp fine.val))) hq hf (by simp [starClass])).trans
      (starSend_pdelayResp_eq q (s.counterStamp fine.val)))
  refine ⟨s.gptpPdelayReq p q fine.val, congrArg Host.Outcome.next (served_of_ready hready), ?_, ?_, ?_⟩
  · rw [hsend, starQueue_out, emit_out, starLeaves_out, tookFree_out, starEmptied_out, starEmptied_fuses]
  · rw [hsend, starQueue_of_empty (queue_emit_starLeaves _ _ (starEmptied_queue _)), star_setStar_self, starLeaves_counterStamp,
      tookFree_counterStamp, starEmptied_counterStamp]
    rfl
  · rw [hsend, starQueue_busyUntil, emit_star, starLeaves_busyUntil, tookFree_starTicks, starEmptied_starTicks, tookFree_clock,
      starEmptied_counter]

/-- While a port sends, what is offered to it waits (R139). -/
theorem exec_gptp_waits {p : Fin 8} {q : Nat} {fine : Fin 32} (hready : s.isReady = true)
    (hb : s.clock.counter < (s.star p).busyUntil) :
    (s.gptpMeasures p = true → ∃ t, exec (.gptpPdelayReqReceived p ⟨q, fine⟩) s = .next t ∧ t.out = s.out ∧ t.od = s.od ∧
      .gptp (.pdelayResp q (s.counterStamp fine)) ∈ (t.star p).queue) ∧
    (s.starUp p = true → s.servedValid p = true → ∃ t, exec (.gptpSyncSend p) s = .next t ∧ t.out = s.out ∧ t.od = s.od ∧
      .gptp (.sync (s.nat (Od.key (0x2620 + p) 2)) (s.gp p).seqNo) ∈ (t.star p).queue) ∧
    (s.gptpServes p = true → ∃ t, exec (.gptpAnnounceSend p) s = .next t ∧ t.out = s.out ∧ t.od = s.od ∧
      .gptp (.announce (s.nat (Od.key (0x2620 + p) 2)) (s.gp p).announceNo) ∈ (t.star p).queue) ∧
    (s.gptpMeasures p = true → ∃ t, exec (.gptpPdelayReqSend p) s = .next t ∧ t.out = s.out ∧ t.od = s.od ∧
      .gptp (.pdelayReq (s.gp p).reqNo) ∈ (t.star p).queue) := by
  have hgp : ∀ g, (s.setGp p g).clock.counter < ((s.setGp p g).star p).busyUntil := fun _ => hb
  refine ⟨fun hm => ⟨s.gptpPdelayReq p q fine.val, congrArg Host.Outcome.next (served_of_ready hready), ?_⟩,
    fun hup hv => ⟨s.gptpSyncSend p, congrArg Host.Outcome.next (served_of_ready hready), ?_⟩,
    fun hm => ⟨s.gptpAnnounceSend p, congrArg Host.Outcome.next (served_of_ready hready), ?_⟩,
    fun hm => ⟨s.gptpPdelayReqSend p, congrArg Host.Outcome.next (served_of_ready hready), ?_⟩⟩
  · rw [gptpPdelayReq_of_measures _ _ hm, starOffer_of_busy _ hb]
    exact ⟨starQueue_out _, starQueue_od _, mem_starQueue _⟩
  · rw [gptpSyncSend_of_serving hup hv, starOffer_of_busy _ (hgp _)]
    exact ⟨(starQueue_out _).trans (setGp_out _), (starQueue_od _).trans (setGp_od _), mem_starQueue _⟩
  · rw [gptpAnnounceSend_of_serving hm, starOffer_of_busy _ (hgp _)]
    exact ⟨(starQueue_out _).trans (setGp_out _), (starQueue_od _).trans (setGp_od _), mem_starQueue _⟩
  · rw [gptpPdelayReqSend_of_measures hm, starOffer_of_busy _ (hgp _)]
    exact ⟨(starQueue_out _).trans (setGp_out _), (starQueue_od _).trans (setGp_od _), mem_starQueue _⟩

theorem exec_gptpPdelayRespReceived {p : Fin 8} {t1 t2 t3 : Int} {fine : Fin 32} (hready : s.isReady = true)
    (hr : (s.gp p).reqAt = some t1) :
    ∃ t, exec (.gptpPdelayRespReceived p t2 t3 fine) s = .next t ∧ (t.gp p).reqAt = none ∧
      t.int (Od.key (0x2620 + p) 7) =
        max 0 (unitsToPs (((((s.clock.counter * 32 + fine.val : Nat) : Int) * 65536 / 10 - t1) - (t3 - t2)) / 2)) := by
  refine ⟨s.gptpPdelayResp p t2 t3 fine.val, congrArg Host.Outcome.next (served_of_ready hready), ?_⟩
  unfold gptpPdelayResp
  simp only [hr, gp_setGp_self, true_and, int_setGp]
  have hrate : ∀ (u : State) v, (u.put (Od.key (0x2620 + p) 8) v).int (Od.key (0x2620 + p) 7) = u.int (Od.key (0x2620 + p) 7) :=
    fun u v => int_put_ne u v (by simp only [Od.key]; omega) (not_feeds_key (by omega) (by omega))
  split
  · simp only [int_ite, hrate, int_put_self, ite_self]
  · exact int_put_self ..

theorem exec_gptpAnnounceReceived {p : Fin 8} {number : Fin 128} {gm : BitVec 64} {d : Dom} (hready : s.isReady = true)
    (hi : s.inputIn p number = some d) :
    exec (.gptpAnnounceReceived p ⟨number, gm⟩) s = .next (s.put (domSt d + 4) gm.toNat) := by
  refine congrArg Host.Outcome.next ((served_of_ready hready).trans ?_)
  simp [gptpAnnounce, hi]

theorem exec_gptpSyncTimeout {p : Fin 8} {d : Dom} (hready : s.isReady = true) (hi : s.inputOf p = some d) :
    ∃ t, exec (.gptpSyncTimeout p) s = .next t ∧ (t.domain d).offers = false ∧ (t.gp p).sync = none ∧ t.od = s.od := by
  refine ⟨s.gptpTimeout p, congrArg Host.Outcome.next (served_of_ready hready), ?_⟩
  simp only [gptpTimeout, hi, domain_setDomain_self, setDomain_gp, gp_setGp_self, setDomain_od, setGp_od, and_self]

/-- A port that is free and has nothing waiting, its next number taken (R198). -/
theorem setGp_free_to_send {g : Gptp} {x : StarItem} (hq : (s.star p).queue = []) (hf : s.starFree p (starBytes x) = true)
    (hs : starClass x = 3 → s.sliceWaits p = false) :
    (s.setGp p g).starOffer p x = ((s.setGp p g).starEmptied p x).starSend p x :=
  starOffer_of_free (s := s.setGp p g) hq ((setGp_starFree ..).trans hf) (fun h => (setGp_sliceWaits ..).trans (hs h))

theorem exec_gptpSyncSend {p : Fin 8} (hready : s.isReady = true) (hup : s.starUp p = true) (hv : s.servedValid p = true)
    (hq : (s.star p).queue = []) (hf : s.starFree p 58 = true) :
    ∃ t, exec (.gptpSyncSend p) s = .next t ∧
      t.out = s.out ++ [.gptp p s.fuses.identity (.sync (s.nat (Od.key (0x2620 + p) 2)) (s.gp p).seqNo)] ∧
      (t.star p).queue = [.gptp (.followUp (s.nat (Od.key (0x2620 + p) 2)) (s.gp p).seqNo
        (s.baseAt (if s.int (Od.key (0x2620 + p) 1) = 1 then 0 else 1) s.clock.counter (s.freeNat % 32) +
          psToUnits (s.int (Od.key (0x2620 + p) 5))))] ∧
      (t.gp p).seqNo = ((s.gp p).seqNo + 1) % 65536 ∧
      t.int (Od.key (0x2620 + p) 9) = min (s.int (Od.key (0x2620 + p) 9) + 1) 0xFFFFFFFF ∧
      t.int (Od.key (0x2418 + p) 8) = min (s.int (Od.key (0x2418 + p) 8) + 1) 0xFFFFFFFF := by
  have hoffer := (gptpSyncSend_of_serving hup hv).trans
    (setGp_free_to_send (x := .gptp (.sync (s.nat (Od.key (0x2620 + p) 2)) (s.gp p).seqNo)) hq hf (by simp [starClass]))
  refine ⟨s.gptpSyncSend p, congrArg Host.Outcome.next (served_of_ready hready), ?_⟩
  obtain ⟨t, ht, hout, hqueue, hgp, hcount, hframes⟩ := starSend_sync
    (s := (s.setGp p { s.gp p with seqNo := ((s.gp p).seqNo + 1) % 65536 }).starEmptied p
      (.gptp (.sync (s.nat (Od.key (0x2620 + p) 2)) (s.gp p).seqNo))) (s.nat (Od.key (0x2620 + p) 2)) (s.gp p).seqNo p.isLt
    (starEmptied_queue _)
  rw [hoffer, ht, hout, hqueue, hgp, hcount, hframes, starEmptied_servedStamp, setGp_servedStamp, starEmptied_gp, gp_setGp_self,
    int_starEmptied, int_starEmptied, int_setGp, int_setGp, starEmptied_out, starEmptied_fuses, setGp_out, setGp_fuses]
  exact ⟨rfl, rfl, rfl, rfl, rfl⟩

theorem exec_gptpAnnounceSend {p : Fin 8} (hready : s.isReady = true) (hm : s.gptpServes p = true)
    (hq : (s.star p).queue = []) (hf : s.starFree p 90 = true) (hs : s.sliceWaits p = false) :
    ∃ t, exec (.gptpAnnounceSend p) s = .next t ∧
      t.out = s.out ++ [.gptp p s.fuses.identity (.announce (s.nat (Od.key (0x2620 + p) 2)) (s.gp p).announceNo)] ∧
      (t.star p).queue = [] ∧ t.int (Od.key (0x2418 + p) 8) = min (s.int (Od.key (0x2418 + p) 8) + 1) 0xFFFFFFFF := by
  have hoffer := (gptpAnnounceSend_of_serving hm).trans
    (setGp_free_to_send (x := .gptp (.announce (s.nat (Od.key (0x2620 + p) 2)) (s.gp p).announceNo)) hq hf (fun _ => hs))
  refine ⟨s.gptpAnnounceSend p, congrArg Host.Outcome.next (served_of_ready hready), ?_⟩
  rw [hoffer, starSend_announce_eq, emit_out, starLeaves_out, tookFree_out, starEmptied_out, setGp_out, starEmptied_fuses,
    setGp_fuses, queue_emit_starLeaves _ _ (starEmptied_queue _), int_emit, int_starLeaves _ _ p.isLt, if_pos rfl, int_tookFree,
    int_starEmptied, int_setGp]
  exact ⟨rfl, rfl, rfl⟩

theorem exec_gptpPdelayReqSend {p : Fin 8} (hready : s.isReady = true) (hm : s.gptpMeasures p = true)
    (hq : (s.star p).queue = []) (hf : s.starFree p 68 = true) :
    ∃ t, exec (.gptpPdelayReqSend p) s = .next t ∧ (t.gp p).reqAt = some (s.counterStamp (s.freeNat % 32)) ∧
      t.out = s.out ++ [.gptp p s.fuses.identity (.pdelayReq (s.gp p).reqNo)] ∧
      (t.gp p).reqNo = ((s.gp p).reqNo + 1) % 65536 := by
  have hoffer := (gptpPdelayReqSend_of_measures hm).trans
    (setGp_free_to_send (x := .gptp (.pdelayReq (s.gp p).reqNo)) hq hf (by simp [starClass]))
  refine ⟨s.gptpPdelayReqSend p, congrArg Host.Outcome.next (served_of_ready hready), ?_⟩
  rw [hoffer, starSend_pdelayReq_eq, emit_gp, gp_setGp_self, emit_out, setGp_out, starLeaves_out, tookFree_out, starEmptied_out,
    setGp_out, starEmptied_fuses, setGp_fuses, starLeaves_counterStamp, tookFree_counterStamp, starEmptied_counterStamp,
    setGp_counterStamp, starLeaves_gp, tookFree_gp, starEmptied_gp, gp_setGp_self]
  exact ⟨rfl, rfl, rfl⟩

theorem exec_peerDelayFailure {p : Fin 8} (hready : s.isReady = true) :
    ∃ t, exec (.peerDelayFailure p) s = .next t ∧ (t.gp p).reqAt = none ∧ (t.gp p).failed = true ∧
      t.int (Od.key (0x2620 + p) 0x0A) = min (s.int (Od.key (0x2620 + p) 0x0A) + 1) 0xFFFFFFFF := by
  refine ⟨s.peerDelayFailure p, congrArg Host.Outcome.next (served_of_ready hready), ?_⟩
  unfold peerDelayFailure
  rw [gp_setGp_self, int_setGp, int_bump_self]
  exact ⟨rfl, rfl, rfl⟩

end State

/-- Settles O20, by what a message offered to a star port's egress does. -/
theorem gptpPorts : Obligations.GptpPorts := by
  refine ⟨fun _ _ _ _ _ _ hready hi hup => exec_gptpSyncReceived hready hi hup, ?_,
    fun _ _ _ _ _ _ _ hready hi hs => exec_gptpFollowUpReceived hready hi hs,
    fun _ _ _ _ hready hm hq hf => exec_gptpPdelayReqReceived hready hm hq hf, fun _ _ _ _ hready hb => exec_gptp_waits hready hb,
    fun _ _ _ _ _ _ hready hr => exec_gptpPdelayRespReceived hready hr, fun _ _ _ _ _ hready hi => exec_gptpAnnounceReceived hready hi,
    fun _ _ _ hready hi => exec_gptpSyncTimeout hready hi, fun _ _ hready hup hv hq hf => exec_gptpSyncSend hready hup hv hq hf,
    fun _ _ hready hm hq hf hs => exec_gptpAnnounceSend hready hm hq hf hs,
    fun _ _ hready hm hq hf => exec_gptpPdelayReqSend hready hm hq hf, fun _ _ hready => exec_peerDelayFailure hready⟩
  intro s p number q origin gm fine hi
  obtain ⟨hsync, hfollow, hannounce⟩ := gptp_of_no_input (q := q) (fine := fine.val) (gm := gm.toNat) origin hi
  exact ⟨congrArg Host.Outcome.next (served_eq_self hsync), congrArg Host.Outcome.next (served_eq_self hfollow),
    congrArg Host.Outcome.next (served_eq_self hannounce)⟩

end Sys2Proof.Machine

/-!
SUPPORT. Network-time domains, the selected network time and the host's time snapshot (R194 to R196, R201).
-/

namespace Sys2Proof.Machine

open State

namespace State

variable {s : State} {k : Nat}

/-! ### Domains -/

theorem domSt_cases (d : Dom) : domSt d = 0x261200 ∨ domSt d = 0x261300 := by cases d <;> simp [domSt]

/-- The state a domain takes (R194). -/
theorem int_setDomState_self (d : Dom) (v : Nat) : (s.setDomState d v).int (domSt d + 1) = v := by
  have := domSt_cases d
  unfold setDomState
  split
  · assumption
  · rw [int_raise _ _ _ _ _ (by omega), int_put_self]

theorem int_setDomState_ne {d : Dom} {v : Nat} (h : k ≠ domSt d + 1) (hk : k < 0x350000) :
    (s.setDomState d v).int k = s.int k := by
  have := domSt_cases d
  unfold setDomState
  split
  · rfl
  · rw [int_raise _ _ _ _ _ hk, int_put_ne _ _ (Ne.symm h) (by omega)]

@[simp] theorem setDomState_clock (d : Dom) (v : Nat) : (s.setDomState d v).clock = s.clock :=
  (State.setDomState_keep (L := [.od, .gate, .log, .acts]) rfl (Keep.refl _ s)).same .clock (by decide)

theorem domain_setDomState (d e : Dom) (v : Nat) : (s.setDomState d v).domain e = s.domain e := by
  unfold domain
  rw [setDomState_clock]

theorem exec_domainRelationStale {d : Dom} (hready : s.isReady = true) (h1 : s.int (domSt d + 1) = 1)
    (h7 : 4 < s.int (domSt d + 7)) :
    exec (.domainRelationStale d) s = .next ((s.put (domSt d + 1) 2).raise (111 + domNo d) 2 0 0) := by
  refine congrArg Host.Outcome.next ((served_of_ready hready).trans ((if_pos ⟨h1, h7⟩).trans ?_))
  exact if_neg (by rw [h1]; decide)

theorem domainAbsent_of_followed {d : Dom} (ho : 64 ≤ (s.domain d).orphan) (h1 : s.int (domSt d + 1) ≠ 0)
    (hd : s.clock.ntDom = some d) :
    ∃ t, s.domainAbsent d = t ∧ t.int (domSt d + 1) = 0 ∧ t.int 0x261901 = 0 ∧ t.clock.ntDom = none ∧ t.clock.ntSlewing = false := by
  have hc := domSt_cases d
  refine ⟨_, rfl, ?_⟩
  unfold domainAbsent
  rw [if_pos ⟨ho, h1⟩]
  simp only [setDomState_clock, hd, if_true]
  refine ⟨?_, ?_, trivial, trivial⟩
  · rw [int_with_clock, int_put_ne _ _ (by omega) (by decide), int_setDomState_self]
    rfl
  · rw [int_with_clock, int_put_self]

@[simp] theorem int_setDomain (d : Dom) (x : Domain) : (s.setDomain d x).int k = s.int k := by
  cases d <;> exact int_with_clock ..

theorem relationWrite_of_gateway {d : Dom} {origin : Nat} {ref : Int} {rel : List Byte}
    (ho : s.nodeOpen origin = true ∨ origin = s.fuses.identity) (h3 : s.int (domSt d + 3) = origin) (hl : rel.length = 14) :
    ∃ t, s.relationWrite d origin ref rel = t ∧ t.int (domSt d + 5) = ref ∧ t.int (domSt d + 7) = 0 ∧ t.int (domSt d + 1) = 1 ∧
      t.int (domSt d + 8) = min (s.int (domSt d + 8) + 1) 0xFFFFFFFF ∧ (t.domain d).fresh = true ∧ (t.domain d).known = true := by
  have hc := domSt_cases d
  refine ⟨_, rfl, ?_⟩
  unfold relationWrite
  rw [if_pos ⟨ho, h3, hl⟩]
  extract_lets u x
  rw [domain_setDomState, domain_setDomain_self, int_setDomState_self, int_setDomState_ne (by omega) (by omega),
    int_setDomState_ne (by omega) (by omega), int_setDomState_ne (by omega) (by omega), int_setDomain, int_setDomain, int_setDomain]
  refine ⟨?_, ?_, rfl, ?_, rfl, rfl⟩
  · simp (disch := omega) only [u, int_bump_ne, int_put_ne, int_putBytes_ne, int_put_self]
  · simp (disch := omega) only [u, int_bump_ne, int_put_self]
  · simp (disch := omega) only [u, int_bump_self, int_put_ne, int_putBytes_ne]

/-! ### The selected network time -/

/-- A switch is decided: it is announced for the start of flight f + 3, at the lead's slew rate (R195). -/
theorem ntDecide_clock (d : Dom) : (s.ntDecide d).clock =
    { s.clock with ntNext := some (d, s.clock.flightStart + 3 * 64 * s.passageLen * 65536), ntSigma := s.nat 0x261802 } := by
  have hclock : ∀ x, (s.tellSelection d x).clock = s.clock := fun x =>
    (State.tellSelection_keep (L := [.od, .dict, .line, .trust]) rfl (Keep.refl _ s)).same .clock (by decide)
  have hsigma : ∀ x, (s.tellSelection d x).nat 0x261802 = s.nat 0x261802 := fun x =>
    congrArg Int.toNat (int_sendMgmt s _ _ _ _ (by decide))
  unfold ntDecide
  simp only [hclock, hsigma]

theorem int_ntDecide (d : Dom) (h : k ≠ 0x24000B) : (s.ntDecide d).int k = s.int k :=
  (int_with_clock ..).trans (int_sendMgmt s _ _ _ _ h)

theorem exec_selectionRequest {w : Writer} {v : Byte} (hw : s.admits w 0x261805 [v]) (hl : s.isLead = true) :
    ∃ t, exec (.selectionRequest w v) s = .next t ∧
      t.clock = { s.clock with
        ntNext := some (if v = 2 then .tb else .ta, s.clock.flightStart + 3 * 64 * s.passageLen * 65536), ntSigma := s.nat 0x261802 } := by
  have hv : (v.toNat = 2) = (v = 2) := propext ⟨fun h => BitVec.eq_of_toNat_eq h, fun h => by rw [h]; rfl⟩
  have hsel : s.selectionRequest v.toNat = (s.ntDecide (if v = 2 then .tb else .ta), 0) := by
    unfold selectionRequest
    simp only [hl, if_true, hv]
  refine ⟨_, congrArg Host.Outcome.next (served_accessAct hw), ?_⟩
  rw [respond_clock, hsel, ntDecide_clock]

theorem ntAnnounce_of_ahead {d : Dom} {tsw : Int} (sigma : Nat) (h : s.ctNow ≤ tsw)
    (hd : s.clock.ntDom ≠ some d ∨ s.clock.ntNext ≠ none) :
    s.ntAnnounce d tsw sigma = { s with clock := { s.clock with ntNext := some (d, tsw), ntSigma := sigma } } := by
  unfold ntAnnounce
  rw [if_neg (by tauto), if_neg (by omega)]

/-- What a switch at T_sw leaves (R195, step 2). -/
theorem ntApply_reads (d : Dom) (tsw : Int) (sigma : Nat) :
    ∃ t, s.ntApply d tsw sigma = t ∧ t.clock.ntNext = none ∧ t.clock.ntDom = some d ∧ t.clock.ntTsw = tsw ∧
      t.clock.ntSlewing = true ∧ t.clock.ntSel = some d ∧ t.int 0x261903 = tsw ∧ t.int 0x261901 = ntCode d true := by
  refine ⟨_, rfl, ?_⟩
  unfold ntApply ntSlew
  simp only [raise_clock, int_raise _ _ _ _ _ (by decide : 0x261903 < 0x350000),
    int_raise _ _ _ _ _ (by decide : 0x261901 < 0x350000), int_ntAnchor, int_with_clock, int_put_self,
    int_put_ne _ _ (by decide : 0x261901 ≠ 0x261903) (by decide)]
  simp [ntAnchor]

theorem ntSlewEnd_of_over {d : Dom} (hd : s.clock.ntDom = some d) (hs : s.clock.ntSlewing = true) (h0 : s.slewAt s.ctNow = 0) :
    ∃ t, s.ntSlewEnd = t ∧ t.int 0x261901 = ntCode d false ∧
      t.clock = { s.clock with ntSlewing := false, ntS0 := 0, ntCounted := true, nt := (s.domain d).view } ∧
      t.int 0x261904 = (if s.clock.ntCounted then s.int 0x261904 else min (s.int 0x261904 + 1) 0xFFFFFFFF) := by
  have hend : s.ntSlewEnd = { (if s.clock.ntCounted then s else s.bump 0x261904).put 0x261901 (ntCode d false) with
      clock := { s.clock with ntSlewing := false, ntS0 := 0, ntCounted := true, nt := (s.domain d).view } } := by
    unfold ntSlewEnd
    rw [hd]
    refine (if_pos ⟨hs, h0⟩).trans ?_
    split <;> rfl
  refine ⟨_, hend, (int_with_clock ..).trans (int_put_self ..), rfl, ?_⟩
  rw [int_with_clock, int_put_ne _ _ (by decide) (by decide)]
  split
  · rfl
  · exact int_bump_self ..

theorem ntFallback_of_lost {d : Dom} (hl : s.isLead = true) (hf : s.int 0x261803 = 1) (hd : s.clock.ntDom = some d)
    (h1 : s.int (domSt d + 1) ≠ 1) (h2 : s.int (domSt (otherDom d) + 1) = 1) : s.ntFallback = s.ntDecide (otherDom d) := by
  unfold ntFallback
  simp only [hd, Option.getD_some]
  exact if_pos ⟨hl, by rw [flag_eq, hf]; rfl, h1, h2⟩

end State

/-- Settles O21, by the branch each command of the domains and of NT takes. -/
theorem domainsAndNetworkTime : Obligations.DomainsAndNetworkTime := by
  refine ⟨fun _ _ hready h1 h7 => exec_domainRelationStale hready h1 h7, ?_, ?_, fun _ _ _ hw hl => exec_selectionRequest hw hl,
    ?_, ?_, ?_, ?_, ?_, ?_⟩
  · intro s d hready ho h1 hd
    obtain ⟨t, ht, hreads⟩ := domainAbsent_of_followed ho h1 hd
    exact ⟨t, congrArg Host.Outcome.next ((served_of_ready hready).trans ht), hreads⟩
  · intro s d origin ref rel hready ho h3 hl
    obtain ⟨t, ht, hreads⟩ := relationWrite_of_gateway ho h3 hl
    exact ⟨t, congrArg Host.Outcome.next ((served_of_ready hready).trans ht), hreads⟩
  · intro s d tsw sigma hready h hd
    exact congrArg Host.Outcome.next ((served_of_ready hready).trans (ntAnnounce_of_ahead sigma h hd))
  · intro s d tsw sigma hready hd hn
    exact ⟨_, congrArg Host.Outcome.next ((served_of_ready hready).trans (if_pos ⟨hd, hn⟩)), rfl, hn, hd, rfl⟩
  · intro s d tsw hready hn
    obtain ⟨t, ht, hreads⟩ := s.ntApply_reads d tsw s.clock.ntSigma
    refine ⟨t, congrArg Host.Outcome.next ((served_of_ready hready).trans ?_), hreads⟩
    rw [ntInstant, hn]
    exact ht
  · intro s d hready hd hs h0
    obtain ⟨t, ht, hreads⟩ := ntSlewEnd_of_over hd hs h0
    exact ⟨t, congrArg Host.Outcome.next ((served_of_ready hready).trans ht), hreads⟩
  · intro s d hready hl hf hd h1 h2
    refine ⟨s.ntDecide (otherDom d), congrArg Host.Outcome.next ((served_of_ready hready).trans (ntFallback_of_lost hl hf hd h1 h2)),
      ?_, ?_, ?_, int_ntDecide _ (by decide)⟩
    all_goals rw [ntDecide_clock]
    exact hd
  · intro s hh hct
    refine ⟨s.tmSnap, congrArg Host.Outcome.next (if_pos hh), ?_⟩
    simp [tmSnap, hct]

end Sys2Proof.Machine

/-!
SUPPORT. Time pulses and captures (R203 to R206): what an edge drives and counts, and what a capture keeps.
-/

namespace Sys2Proof.Machine

open State

namespace State

variable {s : State}

theorem pulse_setPulse_ne {i j : Nat} (x : Pulse) (h : i ≠ j) : (s.setPulse i x).pulse j = s.pulse j := Tab.get_set_ne _ _ _ h

@[simp] theorem int_setPulse (i : Nat) (x : Pulse) (k : Nat) : (s.setPulse i x).int k = s.int k := int_with_clock ..

theorem setPulse_clock_congr {t : State} (i : Nat) (x : Pulse) (h : t.clock = s.clock) :
    (t.setPulse i x).clock = (s.setPulse i x).clock := by
  unfold setPulse
  rw [h]

/-- A one-shot far enough ahead is armed (R204). -/
theorem armed_of_ahead {i : Nat} {x : Int} (hon : s.int (Od.key (0x2630 + i) 1) ≠ 0) (h2 : s.int (Od.key (0x2630 + i) 2) = 0)
    (h13 : s.int (Od.key (0x2630 + i) 0x13) = 0) (hb : s.baseValid (s.int (Od.key (0x2630 + i) 3)) = true)
    (hx : s.pulseNow i + 65536000 ≤ x) :
    s.arm i x = (s.put (Od.key (0x2630 + i) 0x10) 1).setPulse i { s.pulse i with next := some x } := by
  unfold arm
  simp only [key_add]
  rw [if_neg (by simp [flag_eq, hon, h2, h13]), if_neg (by simp [hb]), if_neg (by omega)]

theorem exec_arm {w : Writer} {i : Fin 12} {data : List Byte} {x : Int} (hw : s.admits w (Od.key (0x2630 + i) 0x0A) data)
    (hx : written (Od.key (0x2630 + i) 0x0A) data = .num x) (hon : s.int (Od.key (0x2630 + i) 1) ≠ 0)
    (h2 : s.int (Od.key (0x2630 + i) 2) = 0) (h13 : s.int (Od.key (0x2630 + i) 0x13) = 0)
    (hb : s.baseValid (s.int (Od.key (0x2630 + i) 3)) = true) (hn : s.pulseNow i + 65536000 ≤ x) :
    ∃ t, exec (.arm w i data) s = .next t ∧ t.clock = (s.setPulse i { s.pulse i with next := some x }).clock ∧
      (t.pulse i).next = some x ∧ t.int (Od.key (0x2630 + i) 0x10) = 1 := by
  have harm := armed_of_ahead hon h2 h13 hb hn
  refine ⟨_, congrArg Host.Outcome.next (served_accessAct hw), ?_⟩
  simp only [hx, harm]
  set u := (s.put (Od.key (0x2630 + i) 0x10) 1).setPulse i { s.pulse i with next := some x } with hu
  have hclock : (u.respond w 0 []).clock = (s.setPulse i { s.pulse i with next := some x }).clock := by
    rw [respond_clock, hu]
    exact setPulse_clock_congr i _ (put_clock ..)
  refine ⟨hclock, ?_, ?_⟩
  · unfold pulse
    rw [hclock]
    exact congrArg Pulse.next (pulse_setPulse_self ..)
  · rw [int_respond _ _ _ _ (by simp only [Od.key]; omega) (by simp only [Od.key]; omega), hu, int_setPulse, int_put_self]

/-- An edge that is counted and driven (R203). -/
def edgeDriven (s : State) (i : Nat) (x : Int) : State :=
  (s.bump (Od.key (0x2630 + i) 0x11)).placeEdge i (s.pulseView i) (x - psToUnits (s.int (Od.key (0x2630 + i) 9)))
    (s.nat (Od.key (0x2630 + i) 7))

theorem int_edgeDriven (i : Nat) (x : Int) (k : Nat) : (s.edgeDriven i x).int k = (s.bump (Od.key (0x2630 + i) 0x11)).int k :=
  int_placeEdge ..

/-- A one-shot's edge is its last (R203). -/
theorem pulseEdge_of_oneShot {i : Nat} {x : Int} (hx : (s.pulse i).next = some x)
    (hb : s.baseValid (s.int (Od.key (0x2630 + i) 3)) = true) (h2 : s.int (Od.key (0x2630 + i) 2) = 0) (hi : i < 12) :
    s.pulseEdge i = ((s.edgeDriven i x).put (Od.key (0x2630 + i) 0x10) 3).setPulse i
      { (s.edgeDriven i x).pulse i with next := none } := by
  have hshot : (s.edgeDriven i x).int (Od.key (0x2630 + i) 2) = 0 := by
    rw [int_edgeDriven, int_bump_ne _ (by simp only [Od.key]; omega) (not_feeds_key (by omega) (by omega)), h2]
  unfold pulseEdge
  simp only [hx, key_add]
  rw [if_neg (by simp [hb])]
  exact if_pos hshot

theorem exec_timePulseEdge {i : Fin 12} {x : Int} (hready : s.isReady = true) (hx : (s.pulse i).next = some x)
    (hb : s.baseValid (s.int (Od.key (0x2630 + i) 3)) = true) (h2 : s.int (Od.key (0x2630 + i) 2) = 0) :
    ∃ t, exec (.timePulseEdge i) s = .next t ∧ (t.pulse i).high = true ∧ (t.pulse i).next = none ∧
      t.int (Od.key (0x2630 + i) 0x10) = 3 ∧
      t.int (Od.key (0x2630 + i) 0x11) = min (s.int (Od.key (0x2630 + i) 0x11) + 1) 0xFFFFFFFF := by
  refine ⟨s.pulseEdge i, congrArg Host.Outcome.next (served_of_ready hready), ?_⟩
  rw [pulseEdge_of_oneShot hx hb h2 i.isLt, pulse_setPulse_self, int_setPulse, int_setPulse, int_put_self,
    int_put_ne _ _ (by simp only [Od.key]; omega) (not_feeds_key (by omega) (by omega)), int_edgeDriven, int_bump_self]
  exact ⟨(pulse_placeEdge ..).1, rfl, rfl, rfl⟩

theorem exec_timePulseEnd {i : Fin 12} (hready : s.isReady = true) :
    ∃ t, exec (.timePulseEnd i) s = .next t ∧ t.pulse i = { s.pulse i with high := false } ∧
      (∀ j : Nat, j ≠ i → t.pulse j = s.pulse j) ∧ t.od = s.od :=
  ⟨s.pulseEnd i, congrArg Host.Outcome.next (served_of_ready hready), pulse_setPulse_self .., fun _ hj => pulse_setPulse_ne _ hj.symm,
    rfl⟩

/-! ### Captures -/

theorem fifo_setFifo_self (c : Nat) (l : List CapEntry) : (s.setFifo c l).fifo c = l := Tab.get_set_self ..

theorem fifo_of_clock {t : State} (c : Nat) (h : t.clock = s.clock) : t.fifo c = s.fifo c := by
  unfold fifo
  rw [h]

theorem capPush_of_room {c : Nat} {e : CapEntry} (h : (s.fifo c).length < 16) (hc : c < 4) :
    (s.capPush c e).fifo c = s.fifo c ++ [e] ∧
      (s.capPush c e).int (Od.key (0x2650 + c) 0x15) = min (s.int (Od.key (0x2650 + c) 0x15) + 1) 0xFFFFFFFF := by
  unfold capPush
  simp only [key_add]
  rw [if_neg (by omega)]
  refine ⟨?_, ?_⟩
  · rw [fifo_of_clock c ((raise_clock ..).trans (bump_clock ..)), fifo_setFifo_self]
  · rw [int_raise _ _ _ _ _ (by simp only [Od.key]; omega), int_bump_self]
    rfl

theorem captureEdge_of_stopped (c : Nat) (rising : Bool) (fine : Nat) (h : s.clock.running = false) :
    s.captureEdge c rising fine =
      { s with power := { s.power with captureLatch := s.power.captureLatch ||| BitVec.ofNat 4 (2 ^ c) } } := if_pos h

/-- An edge at an input that takes both is stamped in its time base (R205). -/
theorem captureEdge_of_enabled {c : Nat} (rising : Bool) (fine : Nat) (hr : s.clock.running = true) (hp : s.inStep = false)
    (hon : s.int (Od.key (0x2650 + c) 1) ≠ 0) (h3 : s.int (Od.key (0x2650 + c) 2) = 3)
    (hb : s.baseValid (s.int (Od.key (0x2650 + c) 3)) = true) :
    s.captureEdge c rising fine = s.capPush c
      { stamp := s.baseAt (s.int (Od.key (0x2650 + c) 3)) s.clock.counter fine - psToUnits (s.int (Od.key (0x2650 + c) 4)),
        rising := rising, invalid := false } := by
  unfold captureEdge
  simp only [hr, key_add, hb, if_true]
  rw [if_neg (by decide), if_pos ⟨by simp [flag_eq, hon], .inl h3⟩, replicate_of_not_inStep hp]
  rfl

end State

/-- Settles O22, by what a pulse record and a capture FIFO hold after each command. -/
theorem pulsesAndCaptures : Obligations.PulsesAndCaptures := by
  refine ⟨fun _ _ _ _ _ hw hx hon h2 h13 hb hn => exec_arm hw hx hon h2 h13 hb hn,
    fun _ _ _ hready hx hb h2 => exec_timePulseEdge hready hx hb h2, fun _ _ hready => exec_timePulseEnd hready, ?_, ?_, ?_⟩
  · intro s c rising fine hr hp hon h3 hb hroom
    exact ⟨_, congrArg Host.Outcome.next (captureEdge_of_enabled rising fine.val hr hp hon h3 hb), capPush_of_room hroom c.isLt⟩
  · intro s c rising fine h
    exact congrArg Host.Outcome.next (captureEdge_of_stopped c.val rising fine.val h)
  · intro s w c v hw
    exact congrArg Host.Outcome.next (served_accessAct hw)

end Sys2Proof.Machine

/-!
SUPPORT. Power-on, the boot and the release of a reset (R503, R506, R514, R516): what each step of the boot leaves of the
power state, of TIME and of the stored entries.
-/

namespace Sys2Proof.Machine

open State

namespace State

variable {s : State}

/-! ### The release of a reset -/

/-- The entries a release writes: the cause, its count, and the power cycles (R514). -/
def released (s : State) (c : Nat) : State :=
  let u := (s.put 0x210201 c).bump (0x210201 + c)
  if c = 1 ∨ c = 8 then u.bump 0x200102 else u

theorem int_released_cause {c : Nat} (h1 : 1 ≤ c) (h9 : c ≤ 9) : (s.released c).int 0x210201 = c := by
  unfold released
  simp (disch := omega) only [int_ite, int_bump_ne, int_put_self, ite_self]

theorem int_released_count {c : Nat} (h1 : 1 ≤ c) (h9 : c ≤ 9) :
    (s.released c).int (0x210201 + c) = min (s.int (0x210201 + c) + 1) 0xFFFFFFFF := by
  unfold released
  simp (disch := omega) only [int_ite, int_bump_ne, int_bump_self, int_put_ne, ite_self]

theorem int_released_cycles {c : Nat} (h : c = 1 ∨ c = 8) :
    (s.released c).int 0x200102 = min (s.int 0x200102 + 1) 0xFFFFFFFF := by
  unfold released
  rw [if_pos h]
  simp (disch := omega) only [int_bump_self, int_bump_ne, int_put_ne]

theorem int_released_other {c : Nat} (h1 : 1 ≤ c) (h9 : c ≤ 9) (hc : ¬ (c = 1 ∨ c = 8)) :
    (s.released c).int 0x200102 = s.int 0x200102 := by
  unfold released
  rw [if_neg hc]
  simp (disch := omega) only [int_bump_ne, int_put_ne]

theorem releaseReset_eq : s.releaseReset =
    { (s.released s.power.cause).storeStored with
      power := { (s.released s.power.cause).power with phase := .booting } } := by
  unfold releaseReset released
  simp only

theorem released_keep (c : Nat) : Keep [.od] s (s.released c) := by
  have hu : Keep [.od] s ((s.put 0x210201 c).bump (0x210201 + c)) := State.bump_keep rfl (State.put_keep rfl (Keep.refl _ s))
  exact Keep.site (State.bump_keep rfl hu) hu

theorem int_releaseReset (k : Nat) : s.releaseReset.int k = (s.released s.power.cause).int k := by
  have hpower : (s.released s.power.cause).storeStored.power = (s.released s.power.cause).power := storeStored_power ..
  rw [releaseReset_eq]
  refine (int_with_power (s.released s.power.cause).storeStored _ k ?_ ?_).trans (int_storeStored ..)
  all_goals rw [hpower]

theorem releaseReset_power : s.releaseReset.power = { s.power with phase := .booting } := by
  have h : (s.released s.power.cause).power = s.power := (released_keep s.power.cause).same .power (by decide)
  rw [releaseReset_eq, h]

theorem releaseReset_trust : s.releaseReset.trust = s.trust := by
  have h : (s.released s.power.cause).trust = s.trust := (released_keep s.power.cause).same .trust (by decide)
  have hstore : (s.released s.power.cause).storeStored.trust = (s.released s.power.cause).trust := storeStored_trust ..
  rw [releaseReset_eq]
  exact hstore.trans h

/-- The straps and CLAIM_EN are sampled at POR release (R503, R310). -/
def strapped (s : State) (hs : BitVec 2) (ce : Bool) : State :=
  ({ s with power := { s.power with cause := s.power.cause, hostSel := hs, porN := true, inh := true, powerUp := false } } :
    State).windowStart ce

theorem strapped_power (hs : BitVec 2) (ce : Bool) : (s.strapped hs ce).power =
    { s.power with hostSel := hs, porN := true, inh := true, powerUp := false, claimEn := ce } := rfl

theorem strapped_trust (hs : BitVec 2) (ce : Bool) : (s.strapped hs ce).trust =
    { s.trust with windowPin := ce, windowRole := false, windowLive := true, roleJudged := false } := rfl

theorem porRelease_of_reset (hs : BitVec 2) (ce : Bool) (hp : s.power.phase = .reset)
    (hc : s.power.cause = 1 ∨ s.power.cause = 8) : s.porRelease hs ce = (s.strapped hs ce).releaseReset := by
  have hpend : s.porPending = true := by simp [porPending, hp, hc]
  unfold porRelease strapped
  simp [hpend, hp]

theorem int_strapped {k : Nat} (hs : BitVec 2) (ce : Bool) (hk : Od.default? k ≠ none) : (s.strapped hs ce).int k = s.int k :=
  int_of_od s rfl hk

theorem exec_porRelease {hs : BitVec 2} {ce : Bool} (hp : s.power.phase = .reset)
    (hc : s.power.cause = 1 ∨ s.power.cause = 8) :
    ∃ t, exec (.porRelease hs ce) s = .next t ∧ t.power.phase = .booting ∧ t.power.cause = s.power.cause ∧ t.power.hostSel = hs ∧
      t.power.claimEn = ce ∧ t.trust.windowPin = ce ∧ t.trust.windowRole = false ∧ t.int 0x210201 = s.power.cause ∧
      t.int (0x210201 + s.power.cause) = min (s.int (0x210201 + s.power.cause) + 1) 0xFFFFFFFF ∧
      t.int 0x200102 = min (s.int 0x200102 + 1) 0xFFFFFFFF := by
  have hcause : (s.strapped hs ce).power.cause = s.power.cause := by rw [strapped_power]
  have hdefault : Od.default? (0x210201 + s.power.cause) ≠ none := by
    rcases hc with hc | hc <;> rw [hc] <;> decide +kernel
  refine ⟨s.porRelease hs ce, rfl, ?_⟩
  rw [porRelease_of_reset hs ce hp hc, releaseReset_power, releaseReset_trust, strapped_power, strapped_trust,
    int_releaseReset, int_releaseReset, int_releaseReset, hcause, int_released_cause (by omega) (by omega),
    int_released_count (by omega) (by omega), int_released_cycles hc, int_strapped hs ce hdefault,
    int_strapped hs ce (by decide +kernel)]
  exact ⟨rfl, rfl, rfl, rfl, rfl, rfl, rfl, rfl, rfl⟩

/-- The window of a release by CLAIM_EN opens with the reset's end (R310, R313). -/
def windowJudged (s : State) (ce : Bool) : State :=
  if s.power.cause = 7 ∧ s.trust.released then s.windowStart ce else s

theorem windowJudged_cause (ce : Bool) : (s.windowJudged ce).power.cause = s.power.cause := by
  unfold windowJudged
  split <;> rfl

theorem windowJudged_pin (ce : Bool) :
    (s.windowJudged ce).trust.windowPin = if s.power.cause = 7 ∧ s.trust.released then ce else s.trust.windowPin := by
  unfold windowJudged
  split <;> rfl

theorem int_windowJudged (ce : Bool) (k : Nat) : (s.windowJudged ce).int k = s.int k := by
  unfold windowJudged
  split
  · exact int_congr s k rfl rfl rfl rfl rfl
  · rfl

theorem exec_resetRelease {ce : Bool} (hp : s.power.phase = .reset) (h2 : 2 ≤ s.power.cause)
    (hc : s.power.cause ≤ 7 ∨ s.power.cause = 9) :
    ∃ t, exec (.resetRelease ce) s = .next t ∧ t.power.phase = .booting ∧ t.power.cause = s.power.cause ∧
      t.int 0x210201 = s.power.cause ∧
      t.int (0x210201 + s.power.cause) = min (s.int (0x210201 + s.power.cause) + 1) 0xFFFFFFFF ∧
      t.int 0x200102 = s.int 0x200102 ∧ t.trust.released = false ∧
      t.trust.windowPin = (if s.power.cause = 7 ∧ s.trust.released then ce else s.trust.windowPin) := by
  have hrelease : s.resetRelease ce = { (s.windowJudged ce).releaseReset with
      trust := { (s.windowJudged ce).releaseReset.trust with released := false } } :=
    if_pos ⟨hp, by omega, by omega⟩
  have hint : ∀ k, (s.resetRelease ce).int k = ((s.windowJudged ce).released s.power.cause).int k := fun k => by
    rw [hrelease, ← windowJudged_cause (s := s) ce]
    exact (int_with_trust ..).trans (int_releaseReset k)
  have hpower : (s.resetRelease ce).power = { (s.windowJudged ce).power with phase := .booting } := by
    rw [hrelease]
    exact releaseReset_power
  have htrust : (s.resetRelease ce).trust = { (s.windowJudged ce).trust with released := false } := by
    rw [hrelease]
    exact congrArg (fun x : Trust => { x with released := false }) releaseReset_trust
  refine ⟨s.resetRelease ce, rfl, ?_⟩
  rw [hint, hint, hint, hpower, htrust, int_released_cause (by omega) (by omega), int_released_count (by omega) (by omega),
    int_released_other (by omega) (by omega) (by omega), int_windowJudged, int_windowJudged]
  exact ⟨rfl, windowJudged_cause ce, rfl, rfl, rfl, rfl, windowJudged_pin ce⟩

/-! ### VAON and POR_N -/

theorem exec_vaonRise {porN : Bool} (hp : s.power.phase = .off) :
    ∃ t, exec (.vaonRise porN) s = .next t ∧ t.power.phase = .moored ∧ t.power.powerUp = true ∧ t.power.porN = porN ∧
      t.power.inh = porN ∧ t.wake.accepted = (if porN then some (0, 0) else none) ∧
      t.power.islands.getLsbD 0 = true ∧ t.power.islands.getLsbD 29 = true :=
  ⟨_, congrArg Host.Outcome.next (if_pos hp), rfl, rfl, rfl, rfl, rfl,
    (by decide : (BitVec.ofNat 30 (1 + 2 ^ 29)).getLsbD 0 = true), (by decide : (BitVec.ofNat 30 (1 + 2 ^ 29)).getLsbD 29 = true)⟩

theorem exec_vaonLoss : ∃ t, exec .vaonLoss s = .next t ∧ t.power.phase = .off ∧ t.power.islands = 0 ∧ t.power.inh = false ∧
    t.od = s.mram.load ∧ t.mram = s.mram ∧ t.wake = {} ∧ t.fio = {} :=
  ⟨_, rfl, rfl, rfl, rfl, rfl, rfl, rfl, rfl⟩

theorem exec_porNLow (hp : s.power.phase ≠ .off) :
    ∃ t, exec .porNLow s = .next t ∧ t.power.phase = .reset ∧ t.power.cause = 1 ∧ t.power.porN = false ∧ t.od = s.mram.load ∧
      t.mram = s.mram ∧ t.wake = {} ∧ t.fio = {} :=
  ⟨_, congrArg Host.Outcome.next (if_neg hp), rfl, rfl, rfl, rfl, rfl, rfl, rfl⟩

/-! ### The boot -/

/-- The image entries of a boot, whatever it stored of a slot that failed (R332, R516). -/
theorem bootImageVerified_of_image {image micros : Nat} (hp : s.power.phase = .booting) (hr : s.power.refFault = false)
    (hi : image = 1 ∨ image = 2) :
    ∃ t, s.bootImageVerified image micros = t ∧ t.power.phase = .verified ∧ t.int 0x314006 = image ∧
      t.int 0x210301 = image ∧ t.int 0x210302 = micros := by
  refine ⟨_, rfl, ?_⟩
  unfold bootImageVerified
  rw [if_pos ⟨hp, hr⟩, if_pos hi]
  extract_lets sel u v
  have hv : ∀ k, k = 0x314006 ∨ k = 0x210301 ∨ k = 0x210302 → ∀ x : Power, x.hostSel = v.power.hostSel → x.islands = v.power.islands →
      State.int { v with power := x } k = v.int k := fun k _ x h1 h2 => int_with_power v x k h1 h2
  refine ⟨rfl, (hv _ (.inl rfl) _ rfl rfl).trans ?_, (hv _ (.inr (.inl rfl)) _ rfl rfl).trans ?_, (hv _ (.inr (.inr rfl)) _ rfl rfl).trans ?_⟩
  all_goals simp (disch := omega) only [v, int_put_ne, int_put_self]

theorem exec_bootImageVerified {image : Fin 3} {micros : Nat} (hp : s.power.phase = .booting) (hr : s.power.refFault = false)
    (hi : image ≠ 0) :
    ∃ t, exec (.bootImageVerified image micros) s = .next t ∧ t.power.phase = .verified ∧ t.int 0x314006 = image.val ∧
      t.int 0x210301 = image.val ∧ t.int 0x210302 = micros := by
  have hv : image.val = 1 ∨ image.val = 2 := by
    have : image.val ≠ 0 := fun h => hi (Fin.ext h)
    omega
  obtain ⟨t, ht, hreads⟩ := bootImageVerified_of_image (micros := micros) hp hr hv
  exact ⟨t, congrArg Host.Outcome.next ht, hreads⟩

theorem exec_bootImageVerified_none {micros : Nat} (hp : s.power.phase = .booting) (hr : s.power.refFault = false) :
    exec (.bootImageVerified 0 micros) s = .next { s with power := { s.power with phase := .noImage } } :=
  congrArg Host.Outcome.next (if_pos ⟨hp, hr⟩)

/-! ### READY -/

theorem foldl_proj {α β : Type} {f : State → α → State} (π : State → β) (l : List α) (hf : ∀ u a, π (f u a) = π u) (s : State) :
    π (l.foldl f s) = π s := by
  induction l generalizing s with
  | nil => rfl
  | cons a l ih => exact (ih (f s a)).trans (hf s a)

/-- The phase of the logic die and whether TIME runs. -/
def upMark (s : State) : Phase × Bool := (s.power.phase, s.clock.running)

theorem upMark_of_same {t : State} (hp : t.power = s.power) (hc : t.clock = s.clock) : t.upMark = s.upMark := by
  simp [upMark, hp, hc]

theorem Keep.upMark {L : List Part} {t : State} (h : Keep L s t) (hp : Part.power ∉ L) (hc : Part.clock ∉ L) :
    t.upMark = s.upMark := upMark_of_same (h.same .power hp) (h.same .clock hc)

theorem upMark_ite (c : Prop) [Decidable c] (a b : State) : (if c then a else b).upMark = if c then a.upMark else b.upMark :=
  apply_ite upMark c a b

@[simp] theorem upMark_put (k : Nat) (v : Int) : (s.put k v).upMark = s.upMark := rfl
@[simp] theorem upMark_bump (k : Nat) : (s.bump k).upMark = s.upMark := rfl
@[simp] theorem upMark_emit (o : Out) : (s.emit o).upMark = s.upMark := rfl
@[simp] theorem upMark_setStar (p : Nat) (x : StarLine) : (s.setStar p x).upMark = s.upMark := rfl
@[simp] theorem upMark_setPulse (i : Nat) (x : Pulse) : (s.setPulse i x).upMark = s.upMark := rfl
@[simp] theorem upMark_setFifo (c : Nat) (l : List CapEntry) : (s.setFifo c l).upMark = s.upMark := rfl
@[simp] theorem upMark_raise (a b c d : Nat) : (s.raise a b c d).upMark = s.upMark :=
  upMark_of_same (raise_power ..) (raise_clock ..)

@[simp] theorem upMark_capPush (c : Nat) (e : CapEntry) : (s.capPush c e).upMark = s.upMark := by
  unfold capPush
  simp only [upMark_ite, upMark_raise, upMark_bump, upMark_setFifo, ite_self]

/-- A latch of an input cleared: neither the phase nor TIME follows it (R411). -/
@[simp] theorem upMark_with_latched (x : BitVec 256) : ({ s with power := { s.power with latched := x } } : State).upMark = s.upMark := rfl

@[simp] theorem upMark_with_captureLatch (x : BitVec 4) :
    ({ s with power := { s.power with captureLatch := x } } : State).upMark = s.upMark := rfl

@[simp] theorem upMark_captureLatched (c : Nat) : (s.captureLatched c).upMark = s.upMark := by
  unfold captureLatched
  simp only [upMark_ite, upMark_capPush, upMark_with_captureLatch, ite_self]

@[simp] theorem upMark_raiseLatched (src : Nat) : (s.raiseLatched src).upMark = s.upMark := by
  unfold raiseLatched
  simp only [upMark_ite]
  split
  · exact (upMark_with_latched _).trans ((upMark_raise ..).trans (upMark_put ..))
  · rfl

@[simp] theorem upMark_actLatched : s.actLatched.upMark = s.upMark :=
  (foldl_proj upMark _ (fun _ _ => upMark_raiseLatched _) _).trans (foldl_proj upMark _ (fun _ _ => upMark_captureLatched _) s)

@[simp] theorem upMark_startIslands : s.startIslands.upMark = s.upMark := rfl

theorem upMark_pulseInvalid (i : Nat) (x : Option Int) : (s.pulseInvalid i x).upMark = s.upMark := rfl

@[simp] theorem upMark_pulseCommit (i : Nat) : (s.pulseCommit i).upMark = s.upMark := by
  unfold pulseCommit
  simp only [upMark_ite, upMark_pulseInvalid, upMark_setPulse, upMark_put, upMark_bump, ite_self]

@[simp] theorem upMark_pulseOwners : s.pulseOwners.upMark = s.upMark :=
  foldl_proj upMark _ (fun _ _ => (upMark_setPulse ..).trans (upMark_put ..)) s

@[simp] theorem upMark_startServices : s.startServices.upMark = s.upMark := by
  have h1 : s.refreshTables.ingestSummary.installAdmission.upMark = s.upMark :=
    Keep.upMark (L := [.od, .line]) (State.installAdmission_keep rfl (State.ingestSummary_keep rfl (State.refreshTables_keep rfl
      (Keep.refl _ s)))) (by decide) (by decide)
  have h2 : ∀ u : State, u.startRegions.viewStatuses.publishKeys.upMark = u.upMark := fun u =>
    Keep.upMark (L := [.od, .slices]) (State.publishKeys_keep rfl (State.viewStatuses_keep rfl (State.startRegions_keep rfl
      (Keep.refl _ u)))) (by decide) (by decide)
  exact (foldl_proj upMark _ (fun _ _ => upMark_pulseCommit _) _).trans ((upMark_pulseOwners).trans ((h2 _).trans h1))

@[simp] theorem upMark_applyStarEnable (p : Nat) : (s.applyStarEnable p).upMark = s.upMark := by
  unfold applyStarEnable
  simp only [upMark_ite, upMark_setStar, upMark_put, ite_self]

@[simp] theorem upMark_startPorts : s.startPorts.upMark = s.upMark := by
  have h1 : ∀ u p, (applyPortEnable u p).upMark = u.upMark := fun u p =>
    Keep.upMark (L := [.od, .mu, .line, .gate, .log, .trust, .acts]) (State.applyPortEnable_keep rfl (Keep.refl _ u)) (by decide) (by decide)
  have h3 : ∀ (u : State) c, (u.applyCan c true).upMark = u.upMark := fun u c =>
    Keep.upMark (L := [.od, .canopen]) (State.applyCan_keep rfl (Keep.refl _ u)) (by decide) (by decide)
  exact (foldl_proj upMark _ h3 _).trans ((foldl_proj upMark _ (fun _ _ => upMark_applyStarEnable _) _).trans (foldl_proj upMark _ h1 s))

/-- Nothing that the boot starts at step 4 leaves READY or stops TIME (R516). -/
theorem ready_upMark {micros : Nat} (hp : s.power.phase = .verified) : (s.ready micros).upMark = (.ready, true) := by
  unfold ready
  rw [if_pos hp]
  extract_lets src1 src2 u v w x y
  have hu : u.upMark = (.ready, true) := rfl
  have hv : v.upMark = u.upMark :=
    Keep.upMark (L := [.od, .gate, .acts]) (State.gateReady_keep rfl (State.put_keep rfl (State.put_keep rfl (Keep.refl _ u))))
      (by decide) (by decide)
  have hw : w.upMark = v.upMark :=
    Keep.upMark (L := [.od, .gate, .log, .acts]) (State.fallback_keep rfl (State.fallback_keep rfl (Keep.refl _ v)))
      (by decide) (by decide)
  have hx : x.upMark = w.upMark :=
    (Keep.upMark (L := [.od, .gate, .log, .canopen, .fio, .pair, .acts]) (State.startPair_keep rfl (Keep.refl _ _))
      (by decide) (by decide)).trans (upMark_startServices.trans upMark_startPorts)
  have hy : y.upMark = x.upMark :=
    upMark_startIslands.trans (Keep.upMark (L := [.od, .dict, .gate, .log, .canopen, .fio, .acts])
      (State.bootUp_keep rfl (State.startOutputs_keep rfl (Keep.refl _ x))) (by decide) (by decide))
  have hz : (y.actLatched.judgeVotes.scrubResume.report 0 0x0102 0 0 0).upMark = y.upMark :=
    (Keep.upMark (L := [.od, .mooring, .gate, .log, .acts]) (State.report_keep rfl (State.scrubResume_keep rfl
      (State.judgeVotes_keep rfl (Keep.refl _ _)))) (by decide) (by decide)).trans upMark_actLatched
  rw [hz, hy, hx, hw, hv, hu]

theorem exec_ready {micros : Nat} (hp : s.power.phase = .verified) :
    ∃ t, exec (.ready micros) s = .next t ∧ t.power.phase = .ready ∧ t.clock.running = true ∧ t.mram = s.mram := by
  have hmark := ready_upMark (micros := micros) hp
  simp only [upMark, Prod.mk.injEq] at hmark
  exact ⟨s.ready micros, rfl, hmark.1, hmark.2,
    (State.ready_keep (L := [.od, .dict, .power, .clock, .mu, .line, .gate, .log, .trust, .slices, .canopen, .mooring, .fio, .pair,
      .acts]) rfl (Keep.refl _ s)).same .mram (by decide)⟩

end State

/-- Settles O23, by what each step of power-on and of the boot leaves. -/
theorem powerOnReachesReady : Obligations.PowerOnReachesReady :=
  ⟨fun _ _ _ hp hc => exec_porRelease hp hc, fun _ _ hp => exec_vaonRise hp, fun _ => exec_vaonLoss, fun _ hp => exec_porNLow hp,
    fun _ _ _ hp hr hi => exec_bootImageVerified hp hr hi, fun _ _ hp hr => exec_bootImageVerified_none hp hr,
    fun _ _ hp => exec_ready hp, fun _ _ hp h2 hc => exec_resetRelease hp h2 hc⟩

end Sys2Proof.Machine

/-!
SUPPORT. Resets (R504, R513 to R515, R521): the cause each takes, and what a reset of the logic die leaves.
-/

namespace Sys2Proof.Machine

open State

namespace State

variable {s : State}

/-- The logic die runs: a reset is taken at once (R514). -/
def runs (s : State) : Prop :=
  s.power.phase = .booting ∨ s.power.phase = .verified ∨ s.power.phase = .noImage ∨ s.power.phase = .ready

theorem takeReset_of_runs (h : s.runs) (c : Nat) : s.takeReset c = s.logicReset c := by
  unfold takeReset
  rcases h with h | h | h | h <;> rw [h]

theorem takeReset_of_reset (h : s.power.phase = .reset) (c : Nat) :
    s.takeReset c = { s with power := { s.power with cause := min s.power.cause c } } := by
  unfold takeReset
  rw [h]

theorem runs_of_ready (h : s.power.phase = .ready) : s.runs := .inr (.inr (.inr h))

theorem coresRun_of_ready (h : s.power.phase = .ready) : s.coresRun = true := by simp [coresRun, h]

theorem isReady_of_ready (h : s.power.phase = .ready) : s.isReady = true := by simp [isReady, h]

/-- What a reset of the logic die leaves (R514). -/
theorem logicReset_parts (c : Nat) :
    (s.logicReset c).power.phase = .reset ∧ (s.logicReset c).power.cause = c ∧ (s.logicReset c).pending = s.pending ∧
    (s.logicReset c).out = s.out ∧ (s.logicReset c).mram = s.mram ∧ (s.logicReset c).fuses = s.fuses ∧
    (s.logicReset c).od = s.mram.load ∧ (s.logicReset c).dict = {} ∧ (s.logicReset c).clock = {} ∧ (s.logicReset c).mu = {} ∧
    (s.logicReset c).line = {} ∧ (s.logicReset c).host = {} ∧ (s.logicReset c).gate = {} ∧ (s.logicReset c).video = {} ∧
    (s.logicReset c).slices = {} ∧ (s.logicReset c).lock = {} ∧ (s.logicReset c).wake = s.wake ∧
    (s.logicReset c).fio = { s.fio with link := false, preparing := false } ∧
    (s.logicReset c).log.perm = s.log.perm ∧ (s.logicReset c).trust.sessions = [] ∧ (s.logicReset c).trust.cache = s.trust.cache :=
  ⟨rfl, rfl, rfl, rfl, rfl, rfl, rfl, rfl, rfl, rfl, rfl, rfl, rfl, rfl, rfl, rfl, rfl, rfl, rfl, rfl, rfl⟩

theorem safetyFault_of_ready (h : s.power.phase = .ready) (kind inst : Nat) :
    s.safetyFault kind inst = (s.raise 255 kind inst 0).logicReset 6 := by
  unfold safetyFault
  rw [if_pos (isReady_of_ready h), takeReset_of_runs (runs_of_ready (by rw [raise_power]; exact h))]

theorem lockstepError_again {pair c : Nat} (h : s.power.phase = .ready) (hc : Tab.find? s.power.lockstep pair = some c)
    (hn : s.clock.counter < c + 312500000) :
    s.lockstepError pair = (({ s with pair := { s.pair with lockstep := true } } : State).raise 255 1 pair 0).logicReset 6 := by
  unfold lockstepError
  simp only [hc, if_pos hn]
  exact safetyFault_of_ready (s := { s with pair := { s.pair with lockstep := true } }) h 1 pair

theorem lockstepError_first {pair : Nat} (hc : Tab.find? s.power.lockstep pair = none) :
    s.lockstepError pair = { s with
      pair := { s.pair with lockstep := true },
      power := { s.power with lockstep := Tab.insert s.power.lockstep pair s.clock.counter } } := by
  unfold lockstepError
  simp only [hc]

theorem storeStored_config : s.storeStored.mram.config0 = s.mram.config0 ∧ s.storeStored.mram.config1 = s.mram.config1 := by
  unfold storeStored
  split <;> exact ⟨rfl, rfl⟩

/-- A rail's failure is reported and stored before the reset (R504). -/
def railReported (s : State) (r : Nat) (mv : Int) : State :=
  (((((s.put (Od.key (0x2108 + r) 1) mv).put (Od.key (0x2108 + r) 4) (s.int (Od.key (0x2108 + r) 4) % 4 + 4)).bump
    (Od.key (0x2108 + r) 6)).emcyScan).storeStored).raise 253 4 r mv.toNat

theorem railReported_power (r : Nat) (mv : Int) : (s.railReported r mv).power = s.power := by
  simp only [railReported, raise_power, storeStored_power, emcyScan_power, bump_power, put_power]

theorem railReported_mram (r : Nat) (mv : Int) :
    (s.railReported r mv).mram.config0 = s.mram.config0 ∧ (s.railReported r mv).mram.config1 = s.mram.config1 := by
  unfold railReported
  rw [raise_mram, storeStored_config.1, storeStored_config.2, emcyScan_mram, bump_mram, put_mram, put_mram]
  exact ⟨rfl, rfl⟩

theorem railFailure_of_ready (h : s.power.phase = .ready) (r : Nat) (mv : Int) :
    s.railFailure r mv = (s.railReported r mv).logicReset 3 := by
  unfold railFailure
  simp only [key_add]
  exact takeReset_of_runs (s := s.railReported r mv) (runs_of_ready (by rw [railReported_power]; exact h)) 3

theorem takeDue_of_due {c : Nat} (h : s.power.phase = .ready) (hd : s.power.resetDue = some c) :
    s.takeDue = ({ s with power := { s.power with resetDue := none } } : State).logicReset c := by
  unfold takeDue
  rw [hd]
  exact takeReset_of_runs (s := { s with power := { s.power with resetDue := none } }) (runs_of_ready h) c

/-- A reset that a command asked for comes once it is answered (R521). -/
theorem resetRequest_of_admits {w : Writer} {v : Byte} (hw : s.admits w 0x21020B [v]) :
    ∃ u : State, (s.served fun s => (s.accessAct w 0x21020B [v] (·.resetAsked 7)).takeDue) = u.logicReset 7 ∧ u.mram = s.mram := by
  have hready : s.power.phase = .ready := by simpa [isReady] using hw.1
  have hanswer : s.accessAct w 0x21020B [v] (·.resetAsked 7) =
      ({ s with power := { s.power with resetDue := some 7 } } : State).respond w 0 [] := accessAct_of_admits hw
  have hpower : (({ s with power := { s.power with resetDue := some 7 } } : State).respond w 0 []).power =
      { s.power with resetDue := some 7 } := respond_power ..
  have hmram : (({ s with power := { s.power with resetDue := some 7 } } : State).respond w 0 []).mram = s.mram := respond_mram ..
  generalize ({ s with power := { s.power with resetDue := some 7 } } : State).respond w 0 [] = a at *
  refine ⟨{ a with power := { a.power with resetDue := none } }, ?_, hmram⟩
  rw [served_of_ready hw.1, hanswer]
  exact takeDue_of_due (by rw [hpower]; exact hready) (by rw [hpower])

end State

/-- Settles O24, by the one reset that every cause leads to. -/
theorem resetsTakeTheirCause : Obligations.ResetsTakeTheirCause := by
  refine ⟨fun s h => ⟨congrArg Host.Outcome.next (takeReset_of_runs h 2), congrArg Host.Outcome.next (takeReset_of_runs h 5)⟩, ?_,
    fun s h hr => congrArg Host.Outcome.next ((if_pos hr).trans (takeReset_of_runs h 4)),
    fun s h => ⟨congrArg Host.Outcome.next (takeReset_of_reset h 2), congrArg Host.Outcome.next (takeReset_of_reset h 5)⟩,
    ?_, ?_, ?_, ?_, ?_, fun s c => logicReset_parts c⟩
  · intro s h hclosed hopen
    have hdebug : s.debugOpen = true := by
      rcases hopen with hopen | hopen <;> simp [debugOpen, claimed, hclosed, hopen]
    exact congrArg Host.Outcome.next ((if_pos hdebug).trans (takeReset_of_runs h 9))
  · intro s kind inst h
    refine ⟨_, congrArg Host.Outcome.next ((if_pos (coresRun_of_ready h)).trans (safetyFault_of_ready h kind.val inst)), rfl, rfl,
      congrArg Mram.load (raise_mram ..), raise_mram .., rfl, rfl, rfl⟩
  · intro s pair c h hc hn
    exact ⟨_, congrArg Host.Outcome.next ((if_pos (coresRun_of_ready h)).trans (lockstepError_again h hc hn)), rfl, rfl,
      congrArg Mram.load (raise_mram ..)⟩
  · intro s pair h hc
    exact congrArg Host.Outcome.next ((if_pos (coresRun_of_ready h)).trans (lockstepError_first hc))
  · intro s r mv h
    obtain ⟨h0, h1⟩ := railReported_mram (s := s) r mv
    exact ⟨_, congrArg Host.Outcome.next ((if_pos (isReady_of_ready h)).trans (railFailure_of_ready h r.val mv)), rfl, rfl, rfl, h0, h1,
      rfl, rfl⟩
  · intro s w v hw
    obtain ⟨u, hu, hmram⟩ := resetRequest_of_admits hw
    exact ⟨_, congrArg Host.Outcome.next hu, rfl, rfl, congrArg Mram.load hmram, hmram, rfl, rfl, rfl⟩

end Sys2Proof.Machine

/-!
SUPPORT. What watches supplies and memories (R504, R505, R509, R513, R518, R519, R537): what each operation leaves of
the parts and of the dictionary.
-/

namespace Sys2Proof.Machine

open State

namespace State

variable {s : State}

/-! ### Rails, set point and temperatures -/

theorem railWarning_reads (r : Nat) (mv : Int) (h : r < 7) :
    (s.railWarning r mv).int (Od.key (0x2108 + r) 1) = mv ∧
    (s.railWarning r mv).int (Od.key (0x2108 + r) 4) = s.int (Od.key (0x2108 + r) 4) / 4 * 4 +
      (if mv < s.int (Od.key (0x2108 + r) 2) then 1 else 0) + (if s.int (Od.key (0x2108 + r) 3) < mv then 2 else 0) := by
  unfold railWarning
  simp only [key_add]
  generalize (if mv < s.int (Od.key (0x2108 + r) 2) then (1 : Int) else 0) = low
  generalize (if s.int (Od.key (0x2108 + r) 3) < mv then (2 : Int) else 0) = high
  have h4 : (s.put (Od.key (0x2108 + r) 1) mv).int (Od.key (0x2108 + r) 4) = s.int (Od.key (0x2108 + r) 4) :=
    int_put_ne _ _ (by simp only [Od.key]; omega) (not_feeds_key (by omega) (by omega))
  rw [h4]
  split <;> simp (disch := omega) only [Od.key, int_raise, int_bump_ne, int_put_ne, int_put_self, true_and]
  · omega
  · omega

/-- A temperature as kept: the value and its extremes (R537). -/
def sampled (s : State) (x : Nat) (v : Int) : State :=
  ((s.put (Od.key (0x2110 + x) 1) v).put (Od.key (0x2110 + x) 2) (min v (s.int (Od.key (0x2110 + x) 2)))).put
    (Od.key (0x2110 + x) 3) (max v (s.int (Od.key (0x2110 + x) 3)))

theorem sampled_limit (x : Nat) (v : Int) (hx : x < 8) :
    (s.sampled x v).int (Od.key (0x2110 + x) 4) = s.int (Od.key (0x2110 + x) 4) ∧
    (s.sampled x v).int (Od.key (0x2110 + x) 5) = s.int (Od.key (0x2110 + x) 5) := by
  unfold sampled
  simp (disch := omega) only [Od.key, int_put_ne, and_self]

/-- A temperature above its limit for the first time is a warning (R537). -/
theorem temperatureSample_of_warning (x : Nat) (v : Int) (hx : x < 8) (hready : s.isReady = true)
    (hf : s.int (Od.key (0x2110 + x) 5) = 0) (hv : s.int (Od.key (0x2110 + x) 4) < v) (hm : v ≤ 1500) :
    s.temperatureSample x v =
      (((s.sampled x v).put (Od.key (0x2110 + x) 5) 1).bump (Od.key (0x2110 + x) 6)).raise 13 1 x v.toNat := by
  obtain ⟨h4, h5⟩ := sampled_limit (s := s) x v hx
  rw [← h4] at hv
  rw [hf] at h5
  have hcold : ¬ 1550 < v := by omega
  unfold temperatureSample
  rw [if_pos hready]
  simp only [key_add]
  unfold sampled at *
  simp [nat, h5, hv, hcold, hm]

theorem temperatureSample_reads (x : Nat) (v : Int) (hx : x < 8) :
    let t := (((s.sampled x v).put (Od.key (0x2110 + x) 5) 1).bump (Od.key (0x2110 + x) 6)).raise 13 1 x v.toNat
    t.int (Od.key (0x2110 + x) 1) = v ∧
    t.int (Od.key (0x2110 + x) 2) = min v (s.int (Od.key (0x2110 + x) 2)) ∧
    t.int (Od.key (0x2110 + x) 3) = max v (s.int (Od.key (0x2110 + x) 3)) ∧
    t.int (Od.key (0x2110 + x) 5) = 1 ∧
    t.int (Od.key (0x2110 + x) 6) = min (s.int (Od.key (0x2110 + x) 6) + 1) 0xFFFFFFFF := by
  unfold sampled
  simp (disch := omega) only [Od.key, int_raise, int_bump_ne, int_bump_self, int_put_ne, int_put_self, and_self]

theorem avsStep_reads (target measured : Int) (hready : s.isReady = true) :
    (s.avsStep target measured).int 0x210102 = measured ∧
    (s.avsStep target measured).int 0x210101 = max 720 (min 900 (if s.int 0x210101 < target then min target (s.int 0x210101 + 5)
      else max target (s.int 0x210101 - 5))) ∧
    (s.avsStep target measured).int 0x210802 = (s.avsStep target measured).int 0x210101 * 97 / 100 ∧
    (s.avsStep target measured).int 0x210803 = (s.avsStep target measured).int 0x210101 * 103 / 100 ∧
    (s.avsStep target measured).int 0x210A02 = (s.avsStep target measured).int 0x210101 * 97 / 100 ∧
    (s.avsStep target measured).int 0x210A03 = (s.avsStep target measured).int 0x210101 * 103 / 100 := by
  unfold avsStep setPointLimits
  rw [if_pos hready]
  simp (disch := omega) only [int_put_ne, int_put_self, and_self]

/-! ### Clock islands -/

theorem raiseLatched_int {src : Nat} {k : Nat} (hk : k < 0x350000) : (s.raiseLatched src).int k = s.int k := by
  unfold raiseLatched
  split
  · have h : ((s.put (Od.key (0x3600 + src) 6) 1).raise src 0 0 0).int k = s.int k := by
      rw [int_raise _ _ _ _ _ hk]
      exact int_put_ne _ _ (by simp only [Od.key]; omega) (by simp only [Od.key, Feeds]; omega)
    exact (int_with_power _ _ k rfl rfl).trans h
  · rfl

theorem raiseLatched_islands (src : Nat) : (s.raiseLatched src).power.islands = s.power.islands := by
  unfold raiseLatched
  split
  · have h : ((s.put (Od.key (0x3600 + src) 6) 1).raise src 0 0 0).power = s.power := (raise_power ..).trans (put_power ..)
    rw [← congrArg Power.islands h]
  · rfl

theorem restarts_default : ∀ i : Fin 30, Od.default? (Od.key (0x2120 + i) 4) ≠ none := by decide +kernel

/-- An island marked as running (R509). -/
def islandOn (s : State) (i : Nat) : State :=
  { s with power := { s.power with islands := s.power.islands ||| BitVec.ofNat 30 (2 ^ i) } }

theorem islandOn_od (i : Nat) : (s.islandOn i).od = s.od := rfl

theorem islandOn_islands (i : Nat) : (s.islandOn i).power.islands = s.power.islands ||| BitVec.ofNat 30 (2 ^ i) := rfl

theorem islandRestart_reads (i : Fin 30) (hready : s.isReady = true) (hi : s.power.islands.getLsbD i = false) :
    (s.islandRestart i).power.islands = s.power.islands ||| BitVec.ofNat 30 (2 ^ i.val) ∧
    (s.islandRestart i).int (Od.key (0x2120 + i) 4) = min (s.int (Od.key (0x2120 + i) 4) + 1) 0xFFFFFFFF := by
  have hrestart : s.islandRestart i = (List.range 256).foldl (fun s src => if islandOf src = i then s.raiseLatched src else s)
      ((s.bump (Od.key (0x2120 + i) 4)).islandOn i) := if_pos ⟨hready, hi⟩
  have hkey : Od.key (0x2120 + i) 4 < 0x350000 := by simp only [Od.key]; omega
  rw [hrestart]
  constructor
  · rw [foldl_proj (fun u => u.power.islands)]
    · rw [islandOn_islands, bump_power]
    · intro u src
      split
      · exact raiseLatched_islands src
      · rfl
  · rw [int_foldl]
    · exact (int_of_od _ (islandOn_od i.val) (restarts_default i)).trans (int_bump_self ..)
    · intro src _ u
      split
      · exact raiseLatched_int hkey
      · rfl

/-! ### The reference clock -/

theorem referenceFault_short (hoff : s.power.phase ≠ .off) (hm : s.power.phase ≠ .moored) (hr : s.power.refFault = false) :
    ∃ u : State, s.referenceFault false = { u with power := { u.power with refFault := true } } ∧ u.int 0x210401 = 2 ∧
      u.int 0x210403 = min (s.int 0x210403 + 1) 0xFFFFFFFF ∧ u.clock = s.clock ∧ u.mu = s.mu := by
  refine ⟨(((s.put 0x210401 2).bump 0x210403).storeStored).raise 15 2 0 0, ?_, ?_, ?_, ?_, ?_⟩
  · simp [referenceFault, hoff, hm, hr]
  · simp (disch := omega) only [int_raise, int_storeStored, int_bump_ne, int_put_self]
  · simp (disch := omega) only [int_raise, int_storeStored, int_bump_self, int_put_ne]
  · rw [raise_clock, storeStored_clock, bump_clock, put_clock]
  · rw [raise_mu, storeStored_mu, bump_mu, put_mu]

theorem referenceFault_lasting (hoff : s.power.phase ≠ .off) (hm : s.power.phase ≠ .moored) (hr : s.power.refFault = true) :
    s.referenceFault true = s.timeOut := by
  simp [referenceFault, hoff, hm, hr]

theorem leaveRunning_integrated : s.leaveRunning.mu.integrated = false := rfl

theorem timeOut_lasting_reads (h4 : s.timeState ≠ 4) (h0 : s.timeState ≠ 0) :
    s.timeOut.int 0x260001 = 4 ∧ s.timeOut.int 0x26000D = 0 ∧ s.timeOut.int 0x260009 = min (s.int 0x260009 + 1) 0xFFFFFFFF ∧
    s.timeOut.mu.passive = true ∧ s.timeOut.mu.integrated = false := by
  have hout : s.timeOut = (((((s.put 0x260001 4).putFlag 0x26000D false).bump 0x260009).raise 109 4 0 0).leaveRunning) :=
    if_neg (by simp [h4, h0])
  rw [hout, int_leaveRunning (by decide) (by decide), int_leaveRunning (by decide) (by decide),
    int_leaveRunning (by decide) (by decide)]
  refine ⟨?_, ?_, ?_, leaveRunning_passive, leaveRunning_integrated⟩ <;>
    simp (disch := omega) [putFlag, int_raise, int_bump_ne, int_put_ne]

theorem referenceRecovered_of_fault (hr : s.power.refFault = true) :
    s.referenceRecovered = { s.put 0x210401 1 with power := { s.power with refFault := false } } := if_pos hr

/-! ### Scrubs -/

theorem times_proj {β : Type} {f : State → State} (π : State → β) (hf : ∀ u, π (f u) = π u) (n : Nat) : π (times n f s) = π s := by
  induction n generalizing s with
  | zero => rfl
  | succ n ih => exact ih.trans (hf s)

/-- The errors a patrol scrub found, counted and raised one by one (R518). -/
def scrubFound (s : State) (corrected uncorrectable : Nat) : State :=
  times uncorrectable (fun s => (s.bump 0x210508).raise 234 0 0 0) (times corrected (fun s => (s.bump 0x210507).raise 233 0 0 0) s)

theorem scrubFound_proj {β : Type} (π : State → β) (hf : ∀ (u : State) (k src : Nat), π ((u.bump k).raise src 0 0 0) = π u)
    (c n : Nat) : π (s.scrubFound c n) = π s :=
  (times_proj π (fun u => hf u _ _) n).trans (times_proj π (fun u => hf u _ _) c)

theorem scrubFound_power (c n : Nat) : (s.scrubFound c n).power = s.power :=
  scrubFound_proj State.power (fun _ _ _ => (raise_power ..).trans (bump_power ..)) c n

theorem scrubFound_mram (c n : Nat) : (s.scrubFound c n).mram = s.mram :=
  scrubFound_proj State.mram (fun _ _ _ => (raise_mram ..).trans (bump_mram ..)) c n

theorem scrubFound_pair (c n : Nat) : (s.scrubFound c n).pair = s.pair :=
  scrubFound_proj State.pair (fun _ _ _ => (raise_pair ..).trans (bump_pair ..)) c n

theorem scrubFound_slices (c n : Nat) : (s.scrubFound c n).slices = s.slices :=
  scrubFound_proj State.slices (fun _ _ _ => (raise_slices ..).trans (bump_slices ..)) c n

theorem scrubFound_counts : (s.scrubFound 1 0).int 0x210507 = min (s.int 0x210507 + 1) 0xFFFFFFFF ∧
    (s.scrubFound 0 1).int 0x210508 = min (s.int 0x210508 + 1) 0xFFFFFFFF ∧
    (s.scrubFound 0 1).int 0x2C000A = s.int 0x2C000A := by
  unfold scrubFound times times times
  simp (disch := omega) only [int_raise, int_bump_self, int_bump_ne, and_self]

/-- An uncorrectable error is noted for the partner. -/
def eccNoted (s : State) (n : Nat) : State := if n = 0 then s else { s with pair := { s.pair with ecc := true } }

theorem eccNoted_power (n : Nat) : (s.eccNoted n).power = s.power := by unfold eccNoted; split <;> rfl

theorem eccNoted_mram (n : Nat) : (s.eccNoted n).mram = s.mram := by unfold eccNoted; split <;> rfl

theorem eccNoted_slices (n : Nat) : (s.eccNoted n).slices = s.slices := by unfold eccNoted; split <;> rfl

theorem eccNoted_int (n k : Nat) : (s.eccNoted n).int k = s.int k := by unfold eccNoted; split <;> rfl

theorem eccNoted_ecc (n : Nat) : (s.eccNoted n).pair.ecc = (s.pair.ecc || decide (n ≠ 0)) := by
  unfold eccNoted
  split
  case isTrue h => simp [h]
  case isFalse h => simp [h]

theorem sramScrub_of_data (hready : s.isReady = true) (c n : Nat) : s.sramScrub c n false = (s.scrubFound c n).eccNoted n := by
  unfold sramScrub
  rw [if_pos hready]
  exact if_neg (by simp)

theorem sramScrub_of_firmware (hready : s.isReady = true) (c : Nat) {n : Nat} (hn : n ≠ 0) :
    s.sramScrub c n true = ((s.scrubFound c n).eccNoted n).safetyFault 3 0 := by
  unfold sramScrub
  rw [if_pos hready]
  exact if_pos ⟨rfl, Nat.pos_of_ne_zero hn⟩

/-- The parts that what a scrub lost leaves. -/
theorem sramLost_leaves (x : SramData) : (s.sramLost x).power = s.power ∧ (s.sramLost x).mram = s.mram ∧
    (s.sramLost x).pair = s.pair := by
  have h := State.sramLost_keep (a1 := x) (L := [.od, .clock, .line, .host, .gate, .log, .slices, .lock, .acts]) rfl (Keep.refl _ s)
  exact ⟨h.same .power (by decide), h.same .mram (by decide), h.same .pair (by decide)⟩

/-- What a scrub with an uncorrectable error lost, before it is counted. -/
def scrubLost (s : State) (n : Nat) (x : SramData) : State := if s.isReady ∧ 0 < n then s.sramLost x else s

theorem scrubLost_leaves (n : Nat) (x : SramData) : (s.scrubLost n x).power = s.power ∧ (s.scrubLost n x).mram = s.mram ∧
    (s.scrubLost n x).pair = s.pair := by
  unfold scrubLost
  split
  · exact sramLost_leaves x
  · exact ⟨rfl, rfl, rfl⟩

theorem scrubLost_ready (hready : s.isReady = true) (n : Nat) (x : SramData) : (s.scrubLost n x).isReady = true := by
  obtain ⟨hpower, -, -⟩ := scrubLost_leaves (s := s) n x
  unfold isReady at *
  rw [hpower]
  exact hready

theorem sramLost_slice_reads (stream inst frame index : Nat) :
    (s.sramLost (.slice stream inst frame index)).int 0x2C000A = min (s.int 0x2C000A + 1) 0xFFFFFFFF ∧
    (s.sramLost (.slice stream inst frame index)).int 0x210508 = s.int 0x210508 ∧
    ∀ x ∈ (s.sramLost (.slice stream inst frame index)).slices.incoming,
      ¬ (x.h.stream = stream ∧ x.h.instanceNo = inst ∧ x.h.frame.toNat = frame ∧ x.h.index = index) := by
  unfold sramLost
  refine ⟨int_bump_self .., int_bump_ne _ (by decide) (by decide), fun x hx => ?_⟩
  have hkept := (List.mem_filter.mp hx).2
  rw [Bool.not_eq_true', decide_eq_false_iff_not] at hkept
  exact hkept

theorem scrubRun_power : s.scrubRun.power = s.power :=
  (State.scrubRun_keep (L := [.od]) rfl (Keep.refl _ s)).same .power (by decide)

theorem scrubRun_mram : s.scrubRun.mram = s.mram :=
  (State.scrubRun_keep (L := [.od]) rfl (Keep.refl _ s)).same .mram (by decide)

theorem scrubRun_runs : s.scrubRun.int 0x3F0701 = 1 := by
  unfold scrubRun opStart opProgress
  simp (disch := omega) only [Od.key, int_putBytes_ne, int_put_ne, int_bump_ne, int_put_self]

/-- A scrub marked as running. -/
def scrubOn (s : State) : State := { s with power := { s.power with scrubbing := true } }

theorem scrubOn_power : s.scrubOn.power = { s.power with scrubbing := true } := rfl

theorem scrubOn_mram : s.scrubOn.mram = s.mram := rfl

theorem scrubOn_int (k : Nat) : s.scrubOn.int k = s.int k := int_with_power s { s.power with scrubbing := true } k rfl rfl

theorem scrubStart_reads (h : s.power.scrubbing = false) : s.scrubStart.power = { s.power with scrubbing := true } ∧
    s.scrubStart.mram = s.mram ∧ s.scrubStart.int 0x3F0701 = 1 := by
  have hstart : s.scrubStart = s.scrubRun.scrubOn := if_neg (by simp [h])
  rw [hstart, scrubOn_power, scrubOn_mram, scrubOn_int, scrubRun_power]
  exact ⟨rfl, scrubRun_mram, scrubRun_runs⟩

/-- The words of a chunk that were corrected, counted and raised (R519). -/
def chunkFound (s : State) (c : Nat) : State := times c (fun s => (s.bump 0x210503).raise 233 1 0 0) s

theorem chunkFound_power (c : Nat) : (s.chunkFound c).power = s.power :=
  times_proj State.power (fun _ => (raise_power ..).trans (bump_power ..)) c

theorem chunkFound_position (c : Nat) : (s.chunkFound c).int 0x210506 = s.int 0x210506 :=
  times_proj (State.int · 0x210506) (fun _ => (int_raise _ _ _ _ _ (by decide)).trans (int_bump_ne _ (by decide) (by decide))) c

theorem chunkFound_counts : (s.chunkFound 1).int 0x210503 = min (s.int 0x210503 + 1) 0xFFFFFFFF := by
  unfold chunkFound times times
  simp (disch := omega) only [int_raise, int_bump_self]

/-- A chunk that is not the last: its position is stored (R519). -/
theorem mramScrubChunk_of_more (c : Nat) (hready : s.isReady = true) (hs : s.power.scrubbing = true)
    (h : s.int 0x210506 + 64 < 8192) : s.mramScrubChunk c [] =
      (((s.chunkFound c).put 0x210506 (s.int 0x210506 + 64)).opProgress 7 ((s.int 0x210506 + 64) * 10000 / 8192)
        (s.int 0x210506 + 64) 8192).storeStored := by
  rw [← chunkFound_position c] at h ⊢
  unfold mramScrubChunk
  rw [if_pos ⟨hready, hs⟩]
  exact if_pos h

theorem mramScrubChunk_reads (c : Nat) (pos : Int) :
    let t := (((s.chunkFound c).put 0x210506 pos).opProgress 7 (pos * 10000 / 8192) pos 8192).storeStored
    t.int 0x210506 = pos ∧ t.int 0x3F0703 = pos ∧ t.int 0x210503 = (s.chunkFound c).int 0x210503 ∧ t.power = s.power := by
  refine ⟨?_, ?_, ?_, ?_⟩
  · simp (disch := omega) only [int_storeStored, int_opProgress, int_put_self]
  · unfold opProgress
    simp (disch := omega) only [int_storeStored, Od.key, int_putBytes_ne, int_put_ne, int_put_self]
  · simp (disch := omega) only [int_storeStored, int_opProgress, int_put_ne]
  · simp only [storeStored_power, opProgress_power, put_power, chunkFound_power]

/-- The last chunk ends the scrub, and the hours start again (R519). -/
theorem mramScrubChunk_of_last (hready : s.isReady = true) (hs : s.power.scrubbing = true) (h : 8192 ≤ s.int 0x210506 + 64) :
    ∃ u : State, s.mramScrubChunk 0 [] = { u with power := { u.power with scrubbing := false } } ∧ u.power = s.power ∧
      u.int 0x210506 = 0 ∧ u.int 0x210502 = 0 ∧ u.int 0x3F0701 = 2 := by
  refine ⟨((((s.put 0x210506 0).put 0x210502 0).opProgress 7 10000 8192 8192).storeStored).opEnd 7 2 0, ?_, ?_, ?_, ?_, ?_⟩
  · unfold mramScrubChunk
    rw [if_pos ⟨hready, hs⟩]
    exact if_neg (not_lt.mpr h)
  · simp only [opEnd_power, storeStored_power, opProgress_power, put_power]
  · simp (disch := omega) only [int_opEnd, int_storeStored, int_opProgress, int_put_ne, int_put_self]
  · simp (disch := omega) only [int_opEnd, int_storeStored, int_opProgress, int_put_self]
  · exact int_opEnd_state _ 7 2 0 (by decide)

end State

/-- Settles O25, by what each watch writes: the entries by the rules of `put` and `bump`, the parts by their frames. -/
theorem suppliesAndMemoriesAreWatched : Obligations.SuppliesAndMemoriesAreWatched := by
  refine ⟨?_, ?_, ?_, ?_, ?_, ?_, ?_, ?_, ?_, ?_, ?_, ?_, ?_, ?_, ?_, ?_⟩
  · intro s r mv hready
    obtain ⟨h1, h4⟩ := railWarning_reads (s := s) r mv r.isLt
    have hr : ∀ i, i < 10 → ¬ emcyEntry (Od.key (0x2108 + r.val) i) := by
      intro i hi
      simp only [Od.key]
      omega
    have hexec : exec (.railWarning r mv) s = .next (s.railWarning r mv).emcyScan := congrArg Host.Outcome.next (if_pos hready)
    have hkeep : Keep [.od, .gate, .log, .canopen, .acts] s _ := exec_keep hexec
    exact ⟨_, hexec, (int_emcyScan _ (hr 1 (by decide))).trans h1, (int_emcyScan _ (hr 4 (by decide))).trans h4,
      hkeep.same .power (by decide), hkeep.same .mram (by decide)⟩
  · intro s target measured hready hlow hhigh
    obtain ⟨h2, h1, h3, h4, h5, h6⟩ := avsStep_reads (s := s) target measured hready
    have hexec : exec (.avsStep target measured) s = .next (s.avsStep target measured) := rfl
    have hkeep : Keep [.od] s _ := exec_keep hexec
    refine ⟨_, hexec, h2, ?_, ?_, ?_, ?_, ?_, h3, h4, h5, h6, hkeep.same .power (by decide)⟩ <;> rw [h1] <;> omega
  · intro s x v hready hf hv hm
    obtain ⟨h1, h2, h3, h5, h6⟩ := temperatureSample_reads (s := s) x v x.isLt
    rw [← temperatureSample_of_warning x v x.isLt hready hf hv hm] at h1 h2 h3 h5 h6
    have hx : ∀ i, i < 10 → ¬ emcyEntry (Od.key (0x2110 + x.val) i) := by
      intro i hi
      simp only [Od.key]
      omega
    have hexec : exec (.temperatureSample x v) s = .next (s.temperatureSample x v).emcyScan := rfl
    have hkeep : Keep [.od, .gate, .log, .canopen, .acts] s _ := exec_keep hexec
    exact ⟨_, hexec, (int_emcyScan _ (hx 1 (by decide))).trans h1,
      (int_emcyScan _ (hx 2 (by decide))).trans h2, (int_emcyScan _ (hx 3 (by decide))).trans h3,
      (int_emcyScan _ (hx 5 (by decide))).trans h5, (int_emcyScan _ (hx 6 (by decide))).trans h6,
      hkeep.same .power (by decide), hkeep.same .mram (by decide)⟩
  · exact fun s i hready hi => ⟨s.islandRestart i, rfl, islandRestart_reads i hready hi⟩
  · intro s hoff hm hr
    obtain ⟨u, hu, h1, h3, hclock, hmu⟩ := referenceFault_short hoff hm hr
    exact ⟨_, congrArg Host.Outcome.next hu, rfl, (int_with_power u _ _ rfl rfl).trans h1,
      (int_with_power u _ _ rfl rfl).trans h3, hclock, hmu⟩
  · exact fun s hoff hm hr h4 h0 => ⟨s.timeOut, congrArg Host.Outcome.next (referenceFault_lasting hoff hm hr),
      timeOut_lasting_reads h4 h0⟩
  · exact fun s lasting h => congrArg Host.Outcome.next (if_pos h)
  · intro s hr
    exact ⟨_, congrArg Host.Outcome.next (referenceRecovered_of_fault hr), rfl,
      (int_with_power (s.put 0x210401 1) _ _ rfl rfl).trans (int_put_self ..), fun k hk =>
        (int_with_power (s.put 0x210401 1) _ _ rfl rfl).trans (int_put_ne _ _ (Ne.symm hk) (by decide))⟩
  · intro s corrected uncorrectable lost hready
    have hready' := scrubLost_ready hready uncorrectable lost
    obtain ⟨hpower, -, hpair⟩ := scrubLost_leaves (s := s) uncorrectable lost
    refine ⟨_, congrArg Host.Outcome.next (sramScrub_of_data hready' corrected uncorrectable), ?_, ?_, ?_⟩
    · rw [eccNoted_power, scrubFound_power, hpower]
    · rw [eccNoted_ecc, scrubFound_pair, hpair]
    · rintro rfl rfl
      have hlost : s.scrubLost 0 lost = s := if_neg (by simp)
      rw [eccNoted_int, ← scrubFound_counts.1]
      exact congrArg (fun u => (State.scrubFound u 1 0).int 0x210507) hlost
  · intro s corrected uncorrectable lost hready hn
    have hready' := scrubLost_ready hready uncorrectable lost
    obtain ⟨hpower, hmram, -⟩ := scrubLost_leaves (s := s) uncorrectable lost
    refine ⟨_, congrArg Host.Outcome.next ((sramScrub_of_firmware hready' corrected hn).trans (safetyFault_of_ready ?_ 3 0)),
      rfl, rfl, ?_⟩
    · rw [eccNoted_power, scrubFound_power, hpower]
      simpa [isReady] using hready
    · rw [show ∀ u : State, (u.logicReset 6).od = u.mram.load from fun _ => rfl, raise_mram, eccNoted_mram, scrubFound_mram, hmram]
  · intro s stream inst frame index hready
    have hready' := scrubLost_ready hready 1 (.slice stream inst frame index)
    have hlost : s.scrubLost 1 (.slice stream inst frame index) = s.sramLost (.slice stream inst frame index) :=
      if_pos ⟨hready, by decide⟩
    obtain ⟨h10, h8, hgone⟩ := sramLost_slice_reads (s := s) stream inst frame index
    rw [← hlost] at h10 h8 hgone
    refine ⟨_, congrArg Host.Outcome.next (sramScrub_of_data hready' 0 1), ?_, ?_, ?_⟩
    · rw [eccNoted_int, ← h10]
      exact scrubFound_counts.2.2
    · rw [eccNoted_int, ← h8]
      exact scrubFound_counts.2.1
    · rw [eccNoted_slices, scrubFound_slices]
      exact hgone
  · intro s w v hw hs
    obtain ⟨hpower, hmram, -⟩ := scrubStart_reads hs
    refine ⟨s.scrubStart.respond w 0 [], congrArg Host.Outcome.next ((served_accessAct hw).trans ?_), ?_, ?_⟩
    · rw [hs]
      rfl
    · rw [respond_power, hpower]
    · rw [respond_mram, hmram]
  · intro s hready hdue hs
    obtain ⟨hpower, hmram, h1⟩ := scrubStart_reads hs
    exact ⟨s.scrubStart, congrArg Host.Outcome.next (if_pos ⟨hready, hdue⟩), hpower, h1, hmram⟩
  · intro s hready hs h
    obtain ⟨h6, h3, -, hpower⟩ := mramScrubChunk_reads (s := s) 0 (s.int 0x210506 + 64)
    exact ⟨_, congrArg Host.Outcome.next (mramScrubChunk_of_more 0 hready hs h), h6, hpower, h3⟩
  · intro s hready hs h
    obtain ⟨h6, -, h3, hpower⟩ := mramScrubChunk_reads (s := s) 1 (s.int 0x210506 + 64)
    exact ⟨_, congrArg Host.Outcome.next (mramScrubChunk_of_more 1 hready hs h), h3.trans chunkFound_counts, h6, hpower⟩
  · intro s hready hs h
    obtain ⟨u, hu, hpower, h6, h2, h1⟩ := mramScrubChunk_of_last hready hs h
    exact ⟨_, congrArg Host.Outcome.next hu, (int_with_power u _ _ rfl rfl).trans h6, (int_with_power u _ _ rfl rfl).trans h2,
      by rw [← hpower], (int_with_power u _ _ rfl rfl).trans h1⟩

end Sys2Proof.Machine

/-!
SUPPORT. Commits (R352 to R355): what announcing the definitions of views leaves of the dictionary and of the staging copy,
and what the storing of an area leaves in force.
-/

namespace Sys2Proof.Machine

open State

/-! ### The two copies of an area (R350, R351) -/

theorem newerGen_next (g : Nat) : newerGen ((g + 1) % 2 ^ 32) g = true ∧ newerGen g ((g + 1) % 2 ^ 32) = false := by
  simp only [newerGen, decide_eq_true_eq, decide_eq_false_iff_not]
  omega

/-- The copy in force is a valid one of the two; where both are valid, the newer. -/
theorem inForce_cases (a b : Copy) :
    (inForce a b = none ∧ b.valid = false) ∨
    (inForce a b = some a ∧ a.valid = true) ∨ (inForce a b = some b ∧ b.valid = true) := by
  cases ha : a.valid <;> cases hb : b.valid
  · simp [inForce, ha, hb]
  · simp [inForce, ha, hb]
  · simp [inForce, ha, hb]
  · by_cases hn : newerGen a.generation b.generation = true <;> simp [inForce, ha, hb, hn]

/-- The copy that a store writes is the one in force after it. -/
theorem inForce_storeCopy (a b : Copy) (data : Store) :
    ∃ c, inForce (storeCopy a b data).1 (storeCopy a b data).2 = some c ∧ c.data = data ∧ c.valid = true := by
  unfold storeCopy
  rcases inForce_cases a b with ⟨hf, hb⟩ | hf
  · rw [hf]
    exact ⟨{ generation := 1, valid := true, data := data }, by simp [inForce, hb], rfl, rfl⟩
  · obtain ⟨c, hf, hc, hab⟩ : ∃ c, inForce a b = some c ∧ c.valid = true ∧ (c = a ∨ c = b) := by
      rcases hf with ⟨hf, ha⟩ | ⟨hf, hb⟩
      · exact ⟨a, hf, ha, .inl rfl⟩
      · exact ⟨b, hf, hb, .inr rfl⟩
    obtain ⟨hnew, hold⟩ := newerGen_next c.generation
    rw [hf]
    dsimp only
    generalize (c.generation + 1) % 2 ^ 32 = g at *
    refine ⟨{ generation := g, valid := true, data := data }, ?_, rfl, rfl⟩
    by_cases hca : c = a
    · rw [if_pos hca]
      simp [inForce, ← hca, hc, hold]
    · rw [if_neg hca]
      simp [inForce, ← hab.resolve_left hca, hc, hnew]

namespace State

variable {s : State}

/-- An entry with a static default reads the same after another was written, whichever that is. -/
theorem int_put_of_default {k j : Nat} (v : Int) (h : k ≠ j) (hj : Od.default? j ≠ none) : (s.put k v).int j = s.int j := by
  unfold int get
  rw [put_od, Store.find?_set_ne _ _ h]
  cases Tab.find? s.od j with
  | some v => rfl
  | none =>
    cases hd : Od.default? j with
    | some v => rfl
    | none => exact absurd hd hj

/-! ### Announcing the definitions of views (R76) -/

theorem int_putPan {k : Nat} (a : Answer) (h : k < 0x280000) (hk : Od.default? k ≠ none) : (s.putPan a).int k = s.int k := by
  unfold putPan
  split
  · rw [int_put_of_default _ (by simp only [Od.key]; omega) hk, int_put_of_default _ (by simp only [Od.key]; omega) hk]
  · rfl

theorem int_answerView {k : Nat} (r : Nat) (a : Answer) (h : k < 0x280000) (h0 : k ≠ 0x24000B) (hk : Od.default? k ≠ none) :
    (s.answerView r a).int k = s.int k := by
  unfold answerView
  split
  · exact (int_putPan a h hk).trans (int_with_slices ..)
  · exact (int_sendFree _ _ h0).trans (int_emit ..)

theorem int_warpStatus {k : Nat} (h : k < 0x280000) : s.warpStatus.int k = s.int k := by
  unfold warpStatus
  simp (disch := omega) only [int_put_ne]

theorem int_judgeRequests {k : Nat} (h : k < 0x280000) (h0 : k ≠ 0x24000B) (hk : Od.default? k ≠ none) :
    s.judgeRequests.int k = s.int k := by
  unfold judgeRequests
  extract_lets l told __src u
  refine (int_warpStatus h).trans ((int_foldl _ _ fun x _ v => ?_).trans (int_with_slices ..))
  dsimp only
  split
  · rfl
  · refine (int_answerView _ _ h h0 hk).trans ?_
    split
    · exact int_bump_ne _ (by omega) (by decide)
    · rfl

theorem int_viewDefinition {k : Nat} (d : ViewDef) (h : k < 0x280000) (h0 : k ≠ 0x24000B) (hk : Od.default? k ≠ none) :
    (s.viewDefinition d).int k = s.int k :=
  (int_judgeRequests h h0 hk).trans (int_with_slices ..)

theorem int_sendDefinition {k : Nat} (t : State) (b : Bound) (flight : Nat) (h : k < 0x280000) (h0 : k ≠ 0x24000B)
    (hk : Od.default? k ≠ none) : (s.sendDefinition t b flight).int k = s.int k := by
  unfold sendDefinition
  extract_lets d __src __src2 u
  have hu : u.int k = s.int k := int_with_slices ..
  split
  · split
    · split
      · exact (int_viewDefinition _ h h0 hk).trans hu
      · exact hu
    · exact (int_sendFree _ _ h0).trans ((int_emit ..).trans hu)
  · exact hu

theorem int_announce {k : Nat} (t : State) (flight : Nat) (m : Bool) (h : k < 0x280000) (h0 : k ≠ 0x24000B)
    (hk : Od.default? k ≠ none) : (s.announce t flight m).int k = s.int k :=
  int_foldl _ _ fun b _ u => by
    dsimp only
    split
    · rfl
    · exact (int_with_slices ..).trans (int_sendDefinition t b flight h h0 hk)

/-! The staging copy (R353) is left by what a source or a client is sent. -/

theorem owSendTo_dict (dest : Nat) (t : OwType) (l : List Byte) : (s.owSendTo dest t l).dict = s.dict :=
  (State.owSendTo_keep (L := [.od, .line]) rfl (Keep.refl _ s)).same .dict (by decide)

theorem sendChunks_staging (kind dest : Nat) (l : List Byte) : (s.sendChunks kind dest l).dict.staging = s.dict.staging := by
  unfold sendChunks
  extract_lets n t
  have ht : t.dict = s.dict := foldl_proj State.dict _ (fun _ _ => owSendTo_dict ..) s
  rw [← ht]

theorem sendNode_staging (dest t : Nat) (l : List Byte) : (s.sendNode dest t l).dict.staging = s.dict.staging := by
  unfold sendNode
  split
  · rfl
  · exact sendChunks_staging ..

theorem sendFree_staging (dest : Nat) : (s.sendFree dest).dict.staging = s.dict.staging := sendNode_staging ..

theorem answerView_staging (r : Nat) (a : Answer) : (s.answerView r a).dict.staging = s.dict.staging := by
  unfold answerView
  split
  · unfold putPan
    split <;> rfl
  · exact sendFree_staging ..

theorem judgeRequests_staging : s.judgeRequests.dict.staging = s.dict.staging := by
  unfold judgeRequests
  extract_lets l told __src u
  refine (foldl_proj (fun v => v.dict.staging) _ (fun v x => ?_) u)
  dsimp only
  split
  · rfl
  · refine (answerView_staging ..).trans ?_
    split <;> rfl

theorem sendDefinition_staging (t : State) (b : Bound) (flight : Nat) :
    (s.sendDefinition t b flight).dict.staging = s.dict.staging := by
  unfold sendDefinition
  extract_lets d __src __src2 u
  split
  · split
    · split
      · exact judgeRequests_staging
      · rfl
    · exact sendFree_staging ..
  · rfl

theorem announce_staging (t : State) (flight : Nat) (m : Bool) : (s.announce t flight m).dict.staging = s.dict.staging :=
  foldl_proj (fun v => v.dict.staging) _ (fun v b => by
    dsimp only
    split
    · rfl
    · exact sendDefinition_staging t b flight) s

/-! ### Commits -/

/-- The record of a refused commit (R354, R355). -/
def refusedRecord (s : State) (code key detail done : Nat) : State :=
  let s := (((s.put 0x201002 5).put 0x201101 code).put 0x201102 (Od.indexOf key : Nat)).put 0x201103 (Od.subOf key : Nat)
  let s := ((s.put 0x201104 (s.int 0x201003)).put 0x201105 detail).bump 0x201106
  (s.opProgress 1 (6000 * done / commitChecks) done commitChecks).opEnd 1 3 code

theorem refusedRecord_dict (code key detail done : Nat) : (s.refusedRecord code key detail done).dict = s.dict := by
  simp only [refusedRecord, opEnd_dict, opProgress_dict, bump_dict, put_dict]

theorem commitRefused_of_held (h : s.dict.holder ≠ none) (code key detail done : Nat) :
    s.commitRefused code key detail done = s.refusedRecord code key detail done := by
  have hheld : (s.refusedRecord code key detail done).dict.holder.isNone = false := by
    rw [refusedRecord_dict]
    exact Option.isNone_eq_false_iff.mpr (Option.isSome_iff_ne_none.mpr h)
  exact if_neg (by rw [← refusedRecord, hheld]; decide)

theorem refusedRecord_reads (code key detail done : Nat) :
    (s.refusedRecord code key detail done).int 0x201002 = 5 ∧ (s.refusedRecord code key detail done).int 0x201101 = code ∧
    (s.refusedRecord code key detail done).int 0x201003 = s.int 0x201003 := by
  unfold refusedRecord
  simp (disch := omega) only [int_opEnd, int_opProgress, int_bump_ne, int_put_ne, int_put_self, and_self]

theorem refusedRecord_mram (code key detail done : Nat) : (s.refusedRecord code key detail done).mram = s.mram := by
  simp only [refusedRecord, opEnd_mram, opProgress_mram, bump_mram, put_mram]

theorem reportRefusal_dict : s.reportRefusal.dict = s.dict :=
  (State.reportRefusal_keep (L := [.od]) rfl (Keep.refl _ s)).same .dict (by decide)

theorem int_reportRefusal {k : Nat} (h : k < 0x280000) (hk : Od.default? k ≠ none) : s.reportRefusal.int k = s.int k := by
  unfold reportRefusal
  rw [int_put_ne _ _ (by omega) (by decide)]
  exact int_foldl _ _ fun x _ u => int_put_of_default _ (by simp only [streamSt, Od.key]; omega) hk

/-- A commit as it begins: held by its writer, counted, and checking (R354). -/
def commitBegun (s : State) (w : Writer) : State :=
  ((({ s with dict := { s.dict with holder := some w } } : State).bump 0x201003).put 0x201002 1).opStart 1 18

theorem commitBegun_dict (w : Writer) : (s.commitBegun w).dict = { s.dict with holder := some w } := by
  unfold commitBegun
  rw [opStart_dict, put_dict, bump_dict]

theorem commitBegun_counted (w : Writer) : (s.commitBegun w).int 0x201003 = min (s.int 0x201003 + 1) 0xFFFFFFFF := by
  unfold commitBegun
  simp (disch := omega) only [int_opStart, int_put_ne, int_bump_self, int_with_dict]

theorem commitRun_of_pass {w : Writer} (h : (s.commitBegun w).commitFault = none) :
    s.commitRun w = ((s.commitBegun w).put 0x201002 2).opProgress 1 6000 commitChecks commitChecks := by
  show (match (s.commitBegun w).commitFault with
    | none => ((s.commitBegun w).put 0x201002 2).opProgress 1 6000 commitChecks commitChecks
    | some (code, key, detail) =>
      (if code = 0x12 then (s.commitBegun w).reportRefusal else s.commitBegun w).commitRefused code key detail (code - 1)) = _
  rw [h]

theorem commitRun_of_fault {w : Writer} {c : Nat} {f : Nat × Nat} (h : (s.commitBegun w).commitFault = some (c, f)) :
    s.commitRun w =
      (if c = 0x12 then (s.commitBegun w).reportRefusal else s.commitBegun w).refusedRecord c f.1 f.2 (c - 1) := by
  rw [← commitRefused_of_held]
  · show (match (s.commitBegun w).commitFault with
      | none => ((s.commitBegun w).put 0x201002 2).opProgress 1 6000 commitChecks commitChecks
      | some (code, key, detail) =>
        (if code = 0x12 then (s.commitBegun w).reportRefusal else s.commitBegun w).commitRefused code key detail (code - 1)) = _
    rw [h]
  · split
    · rw [reportRefusal_dict, commitBegun_dict]
      exact Option.some_ne_none w
    · rw [commitBegun_dict]
      exact Option.some_ne_none w

/-- What a commit's checks leave: the copy held by the writer, the commit counted, and its state (R354, R355). -/
theorem commitRun_reads (w : Writer) : (s.commitRun w).dict = { s.dict with holder := some w } ∧
    (s.commitRun w).int 0x201003 = min (s.int 0x201003 + 1) 0xFFFFFFFF ∧
    ((s.commitBegun w).commitFault = none → (s.commitRun w).int 0x201002 = 2) ∧
    (∀ (c : Nat) (f : Nat × Nat), (s.commitBegun w).commitFault = some (c, f) →
      (s.commitRun w).int 0x201002 = 5 ∧ (s.commitRun w).int 0x201101 = c) := by
  have hbegun := commitBegun_dict (s := s) w
  have hcount := commitBegun_counted (s := s) w
  cases hf : (s.commitBegun w).commitFault with
  | none =>
    rw [commitRun_of_pass hf, opProgress_dict, put_dict, hbegun]
    refine ⟨rfl, ?_, fun _ => ?_, fun c f h => nomatch h⟩
    · rw [← hcount]
      simp (disch := omega) only [int_opProgress, int_put_ne]
    · simp (disch := omega) only [int_opProgress, int_put_self]
  | some cf =>
    obtain ⟨c, f⟩ := cf
    obtain ⟨h2, h1, h3⟩ := refusedRecord_reads
      (s := if c = 0x12 then (s.commitBegun w).reportRefusal else s.commitBegun w) c f.1 f.2 (c - 1)
    rw [commitRun_of_fault hf, refusedRecord_dict, h3, h2, h1]
    refine ⟨?_, ?_, nofun, fun c' f' h => ?_⟩
    · split
      · rw [reportRefusal_dict, hbegun]
      · exact hbegun
    · split
      · rw [int_reportRefusal (by decide) (by decide +kernel), hcount]
      · exact hcount
    · cases h
      exact ⟨rfl, rfl⟩

/-- A commit as its configuration area is stored (R354). -/
def commitKept (s : State) (p : Copy × Copy) : State :=
  ((({ s with mram := { s.mram with config0 := p.1, config1 := p.2 } } : State).put 0x201008
    ((inForce p.1 p.2).elim 0 (·.generation) : Nat)).put 0x201002 3).opProgress 1 9000 commitChecks commitChecks

theorem commitKept_mram (p : Copy × Copy) : (s.commitKept p).mram = { s.mram with config0 := p.1, config1 := p.2 } := by
  unfold commitKept
  rw [opProgress_mram, put_mram, put_mram]

theorem commitKept_dict (p : Copy × Copy) : (s.commitKept p).dict = s.dict := by
  unfold commitKept
  rw [opProgress_dict, put_dict, put_dict]

theorem commitKept_clock (p : Copy × Copy) : (s.commitKept p).clock = s.clock := by
  unfold commitKept
  rw [opProgress_clock, put_clock, put_clock]

theorem commitKept_reads (p : Copy × Copy) : (s.commitKept p).int 0x201002 = 3 ∧
    (s.commitKept p).int 0x201008 = ((inForce p.1 p.2).elim 0 (·.generation) : Nat) := by
  unfold commitKept
  simp (disch := omega) only [int_opProgress, int_put_ne, int_put_self, and_self]

theorem int_commitKept {k : Nat} (p : Copy × Copy) (h : 0x220000 ≤ k) (h' : k < 0x3F0000) : (s.commitKept p).int k = s.int k := by
  unfold commitKept
  simp (disch := omega) only [int_opProgress, int_put_ne, int_with_mram]

theorem commitKept_flight (p : Copy × Copy) : (s.commitKept p).commitFlight = s.commitFlight := by
  have hnow : (s.commitKept p).ctNow = s.ctNow := by unfold ctNow ctAt; rw [commitKept_clock]
  have hlen : (s.commitKept p).passageLen = s.passageLen := int_commitKept p (by decide) (by decide)
  have hflight : (s.commitKept p).flight = s.flight := congrArg Int.toNat (int_commitKept p (by decide) (by decide))
  unfold commitFlight
  rw [hnow, hlen, hflight, commitKept_clock]

/-- The flight at which a stored commit applies, as shown (R354). -/
def commitTimed (s : State) : State := s.put 0x201004 s.commitFlight

/-- What a commit stores: the staged entries, with the installation records that are due (R354, R214). -/
def commitData (s : State) : Store :=
  let inst := (s.dict.staging.filter (fun e => isInstallation e.1)).foldl (fun t e => Tab.insert t e.1 e.2)
    (if s.muState = 3 then s.mu.heldInst else s.mu.newInst)
  ofPers (inst.foldl (fun t e => Store.set t e.1 e.2) (s.mu.newInst.foldl (fun t e => Store.set t e.1 e.2) s.asStaged.od)) .staged

/-- A commit without installation records, in RUNNING, waits for its flight (R354). -/
theorem commitStored_of_running {u : State} (hm : s.storesRun = true) (h2 : s.int 0x201002 = 2) (hf : s.mram.storeFails = false)
    (hrun : s.isRunning = true) (hinst : s.dict.staging.any (fun e => isInstallation e.1) = false)
    (hu : u = (s.commitKept (storeCopy s.mram.config0 s.mram.config1 s.commitData)).commitTimed) :
    s.commitStored = if u.muState = 3 then u else u.announce u.asStaged u.commitFlight false := by
  subst hu
  have hrun' : (s.commitKept (storeCopy s.mram.config0 s.mram.config1 s.commitData)).isRunning = true := by
    unfold isRunning at *
    rwa [int_commitKept _ (by decide) (by decide)]
  have hinst' : (s.commitKept (storeCopy s.mram.config0 s.mram.config1 s.commitData)).dict.staging.any
      (fun e => isInstallation e.1) = false := by
    rwa [commitKept_dict]
  unfold commitStored
  rw [if_neg (by simp [h2, hm]), if_neg (by simp [hf])]
  extract_lets inst od p __src u v __src2 w x
  have hv : v = s.commitKept (storeCopy s.mram.config0 s.mram.config1 s.commitData) := rfl
  have hw : w = v := by
    simp only [w]
    rw [hv, hinst']
    exact if_neg Bool.false_ne_true
  have hx : x = (s.commitKept (storeCopy s.mram.config0 s.mram.config1 s.commitData)).commitTimed := by
    simp only [x]
    rw [hw, hv]
    rfl
  rw [← hx, hw, hv, hrun', if_pos rfl]

theorem commitStored_reads (hm : s.storesRun = true) (h2 : s.int 0x201002 = 2) (hf : s.mram.storeFails = false)
    (hrun : s.isRunning = true) (hinst : s.dict.staging.any (fun e => isInstallation e.1) = false) :
    s.commitStored.int 0x201002 = 3 ∧ s.commitStored.int 0x201004 = s.commitFlight ∧
    s.commitStored.dict.staging = s.dict.staging ∧ s.commitStored.mram.stored0 = s.mram.stored0 ∧
    s.commitStored.mram.stored1 = s.mram.stored1 ∧ (∃ c, inForce s.commitStored.mram.config0 s.commitStored.mram.config1 = some c ∧
      s.commitStored.int 0x201008 = c.generation) := by
  obtain ⟨c, hc, -, -⟩ := inForce_storeCopy s.mram.config0 s.mram.config1 s.commitData
  obtain ⟨u, hu⟩ : ∃ u, u = (s.commitKept (storeCopy s.mram.config0 s.mram.config1 s.commitData)).commitTimed := ⟨_, rfl⟩
  obtain ⟨h3, h8⟩ := commitKept_reads (s := s) (storeCopy s.mram.config0 s.mram.config1 s.commitData)
  have hu2 : u.int 0x201002 = 3 := by rw [hu, commitTimed, int_put_ne _ _ (by decide) (by decide), h3]
  have hu4 : u.int 0x201004 = s.commitFlight := by rw [hu, commitTimed, int_put_self, commitKept_flight]
  have hu8 : u.int 0x201008 = c.generation := by
    rw [hu, commitTimed, int_put_ne _ _ (by decide) (by decide), h8, hc]
    rfl
  have hmram : u.mram = { s.mram with
      config0 := (storeCopy s.mram.config0 s.mram.config1 s.commitData).1
      config1 := (storeCopy s.mram.config0 s.mram.config1 s.commitData).2 } := by
    rw [hu, commitTimed, put_mram, commitKept_mram]
  have hdict : u.dict = s.dict := by rw [hu, commitTimed, put_dict, commitKept_dict]
  have hann : ∀ k, k < 0x210000 → Od.default? k ≠ none → s.commitStored.int k = u.int k := by
    intro k hk hd
    rw [commitStored_of_running hm h2 hf hrun hinst hu]
    split
    · rfl
    · exact int_announce _ _ _ (by omega) (by omega) hd
  have hkeep : s.commitStored.mram = u.mram ∧ s.commitStored.dict.staging = u.dict.staging := by
    rw [commitStored_of_running hm h2 hf hrun hinst hu]
    split
    · exact ⟨rfl, rfl⟩
    · exact ⟨(State.announce_keep (L := [.od, .dict, .line, .trust, .slices]) rfl (Keep.refl _ u)).same .mram (by decide),
        announce_staging ..⟩
  rw [hann _ (by decide) (by decide +kernel), hann _ (by decide) (by decide +kernel), hann _ (by decide) (by decide +kernel),
    hkeep.1, hkeep.2, hu2, hu4, hu8, hdict, hmram]
  exact ⟨rfl, rfl, rfl, rfl, rfl, c, hc, rfl⟩

theorem stagingIdle_of_held (hc : s.committing = false) (hh : s.dict.holder ≠ none) :
    s.stagingIdle = s.discardStaging.bump 0x201009 := by
  refine if_neg ?_
  simp [hc, hh]

theorem stagingIdle_of_idle (h : s.committing = true ∨ s.dict.holder = none) : s.stagingIdle = s := by
  refine if_pos ?_
  rcases h with h | h
  · exact .inl h
  · exact .inr (by rw [h]; rfl)

theorem discardStaging_reads (k : Nat) : s.discardStaging.int k = s.int k ∧ s.discardStaging.dict.staging = [] ∧
    s.discardStaging.dict.holder = none ∧ s.discardStaging.trust.bundleSeq = none := ⟨rfl, rfl, rfl, rfl⟩

theorem storeStored_writes (hm : s.storesRun = true) : ∃ c, inForce s.storeStored.mram.stored0 s.storeStored.mram.stored1 = some c ∧
    c.data = ofPers s.od .stored ∧ c.valid = true := by
  have h : s.storeStored.mram = { s.mram with
      stored0 := (storeCopy s.mram.stored0 s.mram.stored1 (ofPers s.od .stored)).1
      stored1 := (storeCopy s.mram.stored0 s.mram.stored1 (ofPers s.od .stored)).2 } := by
    unfold storeStored
    rw [if_neg (by simp [hm])]
  rw [h]
  exact inForce_storeCopy ..

end State

/-- Settles O26, by the copy a store leaves in force, and by what checking, storing and announcing a commit leave. -/
theorem commitsAreChecked : Obligations.CommitsAreChecked := by
  refine ⟨?_, fun s w hw => congrArg Host.Outcome.next (served_accessAct hw), fun s h => congrArg Host.Outcome.next
    (served_eq_self (if_pos (.inl h))), ?_, ?_, ?_, fun s h => congrArg Host.Outcome.next (served_eq_self (stagingIdle_of_idle h)), ?_,
    fun s h => congrArg Host.Outcome.next (served_eq_self (if_pos h))⟩
  · rintro s u w hw rfl
    obtain ⟨hdict, h3, hpass, hfault⟩ := commitRun_reads (s := s) w
    refine ⟨(s.commitRun w).respond w 0 [], congrArg Host.Outcome.next (served_accessAct hw), ?_⟩
    rw [respond_dict, int_respond _ _ _ _ (by decide) (by decide), int_respond _ _ _ _ (by decide) (by decide),
      int_respond _ _ _ _ (by decide) (by decide), hdict]
    exact ⟨rfl, rfl, h3, hpass, hfault⟩
  · intro s hready hm h2 hf hh
    obtain ⟨h5, h1, -⟩ := refusedRecord_reads (s := s) 0x13 0 0 commitChecks
    have hstored : s.commitStored = s.refusedRecord 0x13 0 0 commitChecks := by
      unfold commitStored
      rw [if_neg (by simp [h2, hm]), if_pos hf]
      exact commitRefused_of_held hh ..
    exact ⟨_, congrArg Host.Outcome.next ((served_of_ready hready).trans hstored), h5, h1, by rw [refusedRecord_dict],
      refusedRecord_mram ..⟩
  · intro s hready hm h2 hf hrun hinst
    exact ⟨s.commitStored, congrArg Host.Outcome.next (served_of_ready hready), commitStored_reads hm h2 hf hrun hinst⟩
  · intro s hready hc hh
    obtain ⟨hint, hstaging, hholder, hseq⟩ := discardStaging_reads (s := s) 0x201009
    refine ⟨_, congrArg Host.Outcome.next ((served_of_ready hready).trans (stagingIdle_of_held hc hh)), ?_⟩
    rw [bump_dict, bump_trust, int_bump_self, hint]
    exact ⟨hstaging, hholder, hseq, rfl⟩
  · intro s hready hm hf
    obtain ⟨c, hc, hdata, hvalid⟩ := storeStored_writes hm
    exact ⟨s.storeStored, c, congrArg Host.Outcome.next ((served_of_ready hready).trans (if_neg (by simp [hf]))), hc, hdata, hvalid,
      storeStored_config.1, storeStored_config.2, storeStored_od ..⟩

end Sys2Proof.Machine

/-!
SUPPORT. Writes of entries (R346, R348): a whole write from offset 0 discards an incomplete segmented one of its entry, by
whichever command it is made.
-/

namespace Sys2Proof.Machine

open State

/-- READY and claimed, a client of role 4 on the host path, and a segmented write of the refusal counter left incomplete. -/
def segmentedCounterState : State where
  fuses := { identity := 5 }
  power := { phase := .ready }
  od := [(0x310001, .num 1)]
  dict := { segWrites := [{ writer := executingModeWriter, key := 0x200105, total := 4, data := [0] }] }
  trust := { sessions := [(0, { path := .host, role := 4, established := true, chain :=
    { wellFormed := true, role := 4, scope := [], intermediates := 0, rootHash := [], signaturesVerify := true,
      serials := [], notBefore := 0, notAfter := 0 } })] }

/-- The access to the refusal counter. -/
def refusalCounterAccess : Access where
  writer := executingModeWriter
  index := 0x2001
  sub := 5

theorem segmentedCounterState_admits : segmentedCounterState.admits executingModeWriter 0x200105 [0, 0, 0, 0] :=
  ⟨by decide +kernel, by decide +kernel, by decide +kernel, by decide +kernel⟩

/-- The counter's own write discards the segments (R348). -/
theorem counterClear_dropsSegments :
    ∃ t, exec (.counterClear refusalCounterAccess [0, 0, 0, 0]) segmentedCounterState = .next t ∧ t.dict.segWrites = [] :=
  ⟨_, rfl, by decide +kernel⟩

theorem counterClear_action : segmentedCounterState.action executingModeWriter 0x200105 [0, 0, 0, 0] = none := by
  rfl

/-- Refutes O27: COUNTER_CLEAR, a whole write of its entry, discards an incomplete segmented write of it too. -/
theorem not_entriesAreWritten : ¬ Obligations.EntriesAreWritten := by
  rintro ⟨hwritten, -⟩
  obtain ⟨hclear, -⟩ := hwritten segmentedCounterState refusalCounterAccess [0, 0, 0, 0] segmentedCounterState_admits
    counterClear_action (by decide +kernel) rfl
  obtain ⟨t, hexec, hnone⟩ := counterClear_dropsSegments
  rw [hclear] at hexec
  cases hexec
  exact absurd hnone (by decide +kernel)

end Sys2Proof.Machine

/-!
SUPPORT. The SDO transfer aborted (R449): the abort message goes only where the node on CAN0 may send.
-/

namespace Sys2Proof.Machine

open State

/-- READY, with CAN0 off. -/
def can0OffState : State where
  fuses := { identity := 5 }
  power := { phase := .ready }
  od := [(0x331001, .num 0)]

/-- Nothing is queued on a port that is off. -/
theorem sdoTimeout_sendsNothing :
    ∃ t, exec .sdoTimeout can0OffState = .next t ∧ (t.canPort 0).service = [] :=
  ⟨_, rfl, by decide +kernel⟩

/-- Refutes O28: with CAN0 off, an SDO timeout queues no abort message. -/
theorem not_messagesCarryAccesses : ¬ Obligations.MessagesCarryAccesses := by
  rintro ⟨-, -, -, -, -, -, -, -, -, -, -, -, hsdo⟩
  obtain ⟨t, hexec, hnone⟩ := sdoTimeout_sendsNothing
  obtain ⟨u, huexec, -, -, hservice, -⟩ := hsdo can0OffState (by decide +kernel) (by decide +kernel)
  rw [hexec] at huexec
  cases huexec
  rw [hnone] at hservice
  exact absurd hservice (by simp)

end Sys2Proof.Machine

/-!
SUPPORT. Claiming (R310, R311, R313): what each answer of an owner root, a claim and a release is, and what they change.
-/

namespace Sys2Proof.Machine

open State

namespace State

variable {s : State}

/-! ### The owner root and the claim -/

theorem ownerRoot_of_open (cert : List Byte) (hc : s.claimed = false) (hw : s.windowOpen = true) (hf : s.mram.storeFails = false) :
    s.ownerRoot cert = ((s.putBytes 0x311001 cert).storeStored, 0) := by
  simp [ownerRoot, hc, hw, hf]

theorem ownerRoot_of_shut (cert : List Byte) (hc : s.claimed = false) (hw : s.windowOpen = false) :
    s.ownerRoot cert = (s, 0x47) := by
  simp [ownerRoot, hc, hw]

theorem ownerRoot_of_claimed (cert : List Byte) (hc : s.claimed = true) : s.ownerRoot cert = (s, 0x48) := if_pos hc

/-- The refusals of a claim, in their order (R311). -/
theorem claimCommand_refused (ca self : Bool) :
    (s.claimed = true → s.claimCommand ca self = (s, 0x48)) ∧
    (s.claimed = false → s.windowOpen = false → s.claimCommand ca self = (s, 0x47)) ∧
    (s.claimed = false → s.windowOpen = true → s.bytes 0x311001 = [] ∨ ca = false → s.claimCommand ca self = (s, 0x4F)) ∧
    (s.claimed = false → s.windowOpen = true → s.bytes 0x311001 ≠ [] → ca = true → self = false →
      s.claimCommand ca self = (s, 0x41)) := by
  refine ⟨fun hc => if_pos hc, fun hc hw => ?_, fun hc hw hbad => ?_, fun hc hw hroot hca hself => ?_⟩
  · simp [claimCommand, hc, hw]
  · unfold claimCommand
    rw [if_neg (by simp [hc]), if_neg (by simp [hw]), if_pos hbad]
  · simp [claimCommand, hc, hw, hroot, hca, hself]

/-- A claim made (R311): the state, the owner hash, the count and the receipt. -/
def claimMade (s : State) : State :=
  let s := ((s.put 0x310001 1).putBytes 0x310002 (Config.sha256 (s.bytes 0x311001))).countClaim
  s.putBytes 0x311003 (s.receiptText ++ Config.deviceSign s.receiptText)

/-- The windows of a claim closed (R310, R311). -/
def windowsShut (s : State) : State := { s with trust := { s.trust with windowPin := false, windowRole := false } }

theorem windowsShut_int (k : Nat) : s.windowsShut.int k = s.int k := int_with_trust ..

theorem windowsShut_trust : s.windowsShut.trust = { s.trust with windowPin := false, windowRole := false } := rfl

theorem windowsShut_fuses : s.windowsShut.fuses = s.fuses := rfl

theorem windowsShut_mram : s.windowsShut.mram = s.mram := rfl

theorem claimCommand_of_good (hc : s.claimed = false) (hw : s.windowOpen = true) (hroot : s.bytes 0x311001 ≠ [])
    (hf : s.mram.storeFails = false) : s.claimCommand true true = (s.claimMade.windowsShut.storeStored, 0) := by
  unfold claimCommand
  rw [if_neg (by simp [hc]), if_neg (by simp [hw]), if_neg (by simp [hroot]), if_neg (by simp), if_neg (by simp [hf])]
  rfl

theorem int_countClaim {k : Nat} (h : k ≠ 0x310003) : s.countClaim.int k = s.int k := by
  unfold countClaim
  split
  · exact int_put_ne _ _ (Ne.symm h) (by decide)
  · exact (int_tookFree ..).trans (int_put_ne _ _ (Ne.symm h) (by decide))

theorem countClaim_counts (h : s.int 0x310003 < 255) : s.countClaim.int 0x310003 = s.int 0x310003 + 1 := by
  unfold countClaim
  rw [if_pos h, int_put_self]

/-- A claim leaves the trust state, the fuses and the MRAM. -/
theorem countClaim_leaves : s.countClaim.trust = s.trust ∧ s.countClaim.fuses = s.fuses ∧ s.countClaim.mram = s.mram := by
  unfold countClaim
  split <;> exact ⟨rfl, rfl, rfl⟩

theorem claimMade_leaves : s.claimMade.trust = s.trust ∧ s.claimMade.fuses = s.fuses ∧ s.claimMade.mram = s.mram := by
  unfold claimMade
  simp only [putBytes_trust, putBytes_fuses, putBytes_mram, countClaim_leaves, put_trust, put_fuses, put_mram, and_self]

theorem claimMade_reads : s.claimMade.int 0x310001 = 1 ∧
    (s.int 0x310003 < 255 → s.claimMade.int 0x310003 = s.int 0x310003 + 1) := by
  unfold claimMade
  constructor
  · simp (disch := omega) only [int_putBytes_ne, int_countClaim, int_put_self]
  · intro h
    have hsame : ((s.put 0x310001 1).putBytes 0x310002 (Config.sha256 (s.bytes 0x311001))).int 0x310003 = s.int 0x310003 := by
      simp (disch := omega) only [int_putBytes_ne, int_put_ne]
    rw [int_putBytes_ne _ _ (by decide) (by decide), countClaim_counts (by rwa [hsame]), hsame]

/-! ### A release -/

/-- The owner's entries emptied by a release (R313). -/
def ownerEmptied (s : State) : State :=
  (((s.putBytes 0x311001 []).putBytes 0x310002 (List.replicate 32 0)).putBytes 0x311201 []).put 0x310001 2

/-- The peer owners emptied by a release (R313). -/
def peersEmptied (s : State) : State := (List.range 8).foldl (fun s i => s.putBytes (0x311101 + i) (List.replicate 32 0)) s

/-- Every session and key ended by a release (R313). -/
def trustReleased (s : State) : State :=
  { s with trust := { s.trust with sessions := [], nodes := [], streams := [], auth := [], released := true } }

theorem trustReleased_power : s.trustReleased.power = s.power := rfl
theorem trustReleased_mram : s.trustReleased.mram = s.mram := rfl
theorem trustReleased_fuses : s.trustReleased.fuses = s.fuses := rfl
theorem trustReleased_released : s.trustReleased.trust.released = true := rfl
theorem trustReleased_cache : s.trustReleased.trust.cache = s.trust.cache := rfl

theorem peersEmptied_proj {β : Type} (π : State → β) (h : ∀ (x : State) (k : Nat) (b : List Byte), π (x.putBytes k b) = π x) :
    π s.peersEmptied = π s := foldl_proj π _ (fun x _ => h x _ _) s

/-- What a release empties (R313). -/
def releaseMade (s : State) : State := s.flushCache.ownerEmptied.peersEmptied.trustReleased

theorem release_of_own {data : List Byte} (h : written 0x311004 data = .num s.fuses.identity) :
    s.release data = s.releaseMade.storeStored.resetAsked 7 := if_neg (not_not.mpr h)

theorem release_of_other {data : List Byte} (h : written 0x311004 data ≠ .num s.fuses.identity) :
    s.release data = (s, 0x46) := if_pos h

theorem flushCache_leaves : s.flushCache.power = s.power ∧ s.flushCache.mram = s.mram ∧ s.flushCache.fuses = s.fuses ∧
    s.flushCache.trust.cache = [] := ⟨rfl, rfl, rfl, rfl⟩

theorem releaseMade_leaves : s.releaseMade.power = s.power ∧ s.releaseMade.mram = s.mram ∧ s.releaseMade.fuses = s.fuses ∧
    s.releaseMade.trust.released = true ∧ s.releaseMade.trust.cache = [] := by
  obtain ⟨hpower, hmram, hfuses, hcache⟩ := flushCache_leaves (s := s)
  unfold releaseMade
  rw [trustReleased_power, trustReleased_mram, trustReleased_fuses, trustReleased_released, trustReleased_cache,
    peersEmptied_proj State.power (fun _ _ _ => putBytes_power ..), peersEmptied_proj State.mram (fun _ _ _ => putBytes_mram ..),
    peersEmptied_proj State.fuses (fun _ _ _ => putBytes_fuses ..), peersEmptied_proj State.trust (fun _ _ _ => putBytes_trust ..)]
  simp only [ownerEmptied, put_power, putBytes_power, put_mram, putBytes_mram, put_fuses, putBytes_fuses, put_trust, putBytes_trust,
    hpower, hmram, hfuses, hcache, and_self]

/-- What a release leaves once its reset is taken (R313). -/
theorem release_resets {w : Writer} {data : List Byte} (hw : s.admits w 0x311004 data)
    (h : written 0x311004 data = .num s.fuses.identity) :
    ∃ u : State, (s.served fun s => (s.accessAct w 0x311004 data (·.release data)).takeDue) = u.logicReset 7 ∧
      u.mram.config0 = s.mram.config0 ∧ u.mram.config1 = s.mram.config1 ∧ u.fuses = s.fuses ∧
      u.trust.released = true ∧ u.trust.cache = [] := by
  have hready : s.power.phase = .ready := by simpa [isReady] using hw.1
  obtain ⟨hpower, hmram, hfuses, hreleased, hcache⟩ := releaseMade_leaves (s := s)
  obtain ⟨h0, h1⟩ := storeStored_config (s := s.releaseMade)
  have hanswer : s.accessAct w 0x311004 data (·.release data) =
      ({ s.releaseMade.storeStored with power := { s.releaseMade.storeStored.power with resetDue := some 7 } } : State).respond w 0 [] := by
    rw [accessAct_of_admits hw, release_of_own h]
    rfl
  have hstored : s.releaseMade.storeStored.power = s.power := (storeStored_power ..).trans hpower
  rw [hstored] at hanswer
  rw [hmram] at h0 h1
  have hapower : (s.accessAct w 0x311004 data (·.release data)).power = { s.power with resetDue := some 7 } := by
    rw [hanswer, respond_power]
  have hamram : (s.accessAct w 0x311004 data (·.release data)).mram = s.releaseMade.storeStored.mram := by
    rw [hanswer, respond_mram]
  have hafuses : (s.accessAct w 0x311004 data (·.release data)).fuses = s.fuses := by
    rw [hanswer, respond_fuses]
    exact (storeStored_fuses ..).trans hfuses
  have hatrust : (s.accessAct w 0x311004 data (·.release data)).trust = s.releaseMade.trust := by
    rw [hanswer, respond_trust]
    exact storeStored_trust ..
  rw [served_of_ready hw.1]
  generalize s.accessAct w 0x311004 data (·.release data) = a at *
  exact ⟨{ a with power := { a.power with resetDue := none } }, takeDue_of_due (by rw [hapower]; exact hready) (by rw [hapower]),
    (congrArg Mram.config0 hamram).trans h0, (congrArg Mram.config1 hamram).trans h1, hafuses,
    (congrArg Trust.released hatrust).trans hreleased, (congrArg Trust.cache hatrust).trans hcache⟩

end State

/-- Settles O29, by the answer each check gives and by what a claim and a release leave. -/
theorem claimWindowsClose : Obligations.ClaimWindowsClose := by
  refine ⟨fun s => rfl, fun s => rfl, ?_, ?_, ?_, ?_, ?_, ?_, ?_⟩
  · intro s w cert hw hc hopen hf
    refine congrArg Host.Outcome.next ((served_accessAct hw).trans ?_)
    rw [ownerRoot_of_open cert hc hopen hf]
  · intro s w cert hw hc hopen
    refine congrArg Host.Outcome.next ((served_accessAct hw).trans ?_)
    rw [ownerRoot_of_shut cert hc hopen]
  · intro s w cert v ca self hc
    refine ⟨fun hw => congrArg Host.Outcome.next ((served_accessAct hw).trans ?_),
      fun hw => congrArg Host.Outcome.next ((served_accessAct hw).trans ?_)⟩
    · rw [ownerRoot_of_claimed cert hc]
    · rw [(claimCommand_refused ca self).1 hc]
  · intro s w v hw hc hopen hroot hf
    obtain ⟨htrust, hfuses, hmram⟩ := claimMade_leaves (s := s)
    obtain ⟨h1, h3⟩ := claimMade_reads (s := s)
    have hstored := storeStored_config (s := s.claimMade.windowsShut)
    refine ⟨s.claimMade.windowsShut.storeStored.respond w 0 [], congrArg Host.Outcome.next ((served_accessAct hw).trans ?_), ?_⟩
    · rw [claimCommand_of_good hc hopen hroot hf]
    · rw [int_respond _ _ _ _ (by decide) (by decide), int_respond _ _ _ _ (by decide) (by decide), respond_trust, respond_fuses,
        respond_mram, int_storeStored, int_storeStored, storeStored_trust, storeStored_fuses, hstored.1, hstored.2, windowsShut_int,
        windowsShut_int, windowsShut_trust, windowsShut_fuses, windowsShut_mram, htrust, hfuses, hmram]
      exact ⟨h1, h3, rfl, rfl, rfl, rfl⟩
  · intro s w v ca self hw hc
    obtain ⟨-, h47, h4F, h41⟩ := claimCommand_refused (s := s) ca self
    refine ⟨fun hopen => congrArg Host.Outcome.next ((served_accessAct hw).trans ?_),
      fun hopen hbad => congrArg Host.Outcome.next ((served_accessAct hw).trans ?_),
      fun hopen hroot hca hself => congrArg Host.Outcome.next ((served_accessAct hw).trans ?_)⟩
    · rw [h47 hc hopen]
    · rw [h4F hc hopen hbad]
    · rw [h41 hc hopen hroot hca hself]
  · intro s w data hw h
    obtain ⟨u, hu, h0, h1, hfuses, hreleased, hcache⟩ := release_resets hw h
    exact ⟨_, congrArg Host.Outcome.next hu, rfl, rfl, rfl, h0, h1, hreleased, hcache, rfl, hfuses⟩
  · intro s w data hw h hdue
    refine congrArg Host.Outcome.next ((served_of_ready hw.1).trans ?_)
    rw [accessAct_of_admits hw, release_of_other h]
    exact takeDue_of_none (by rw [respond_power]; exact hdue)

end Sys2Proof.Machine

/-!
SUPPORT. Sessions (R317, R319, R320, R325, R340): what opening, finishing and ending one does, and what empties the
neighbour cache.
-/

namespace Sys2Proof.Machine

open State

namespace State

variable {s : State}

/-! ### Opening a session -/

/-- The handshakes of a path that were not finished give way to a new one (R319). -/
def handshakesDropped (s : State) (p : Path) : State :=
  { s with trust := { s.trust with sessions := s.trust.sessions.filter (fun e => !(decide (e.2.path = p) && !e.2.established)) } }

theorem handshakesDropped_parts (p : Path) : (s.handshakesDropped p).trust.nodes = s.trust.nodes ∧
    (s.handshakesDropped p).fuses = s.fuses ∧ (s.handshakesDropped p).dict = s.dict := ⟨rfl, rfl, rfl⟩

/-- A session opened on the lowest free number (R319). -/
def sessionOpened (s : State) (p : Path) (c : Chain) : State :=
  { s.tookFree with trust := { s.trust with
    sessions := Tab.insert s.trust.sessions s.freeSession { path := p, role := c.role, seqIn := 1, seqOut := 1, chain := c } } }

theorem sessionOpened_parts (p : Path) (c : Chain) : (s.sessionOpened p c).trust = { s.trust with
      sessions := Tab.insert s.trust.sessions s.freeSession { path := p, role := c.role, seqIn := 1, seqOut := 1, chain := c } } ∧
    (s.sessionOpened p c).fuses = s.fuses ∧ (s.sessionOpened p c).dict = s.dict := ⟨rfl, rfl, rfl⟩

/-- The reply of a HELLO as CAN0 keeps it. -/
def replyKept (s : State) (p : Path) (reply : List Byte) : State := if p = .can then s.putBytes 0x312002 reply else s

theorem replyKept_parts (p : Path) (reply : List Byte) : (s.replyKept p reply).trust = s.trust ∧
    (s.replyKept p reply).fuses = s.fuses ∧ (s.replyKept p reply).dict = s.dict := by
  unfold replyKept
  split <;> exact ⟨rfl, rfl, rfl⟩

theorem helloClient_of_good {u : State} {p : Path} {c : Chain} (hu : u = s.handshakesDropped p) (hp : u.sessionsOf p < pathLimit p)
    (hall : u.sessionsAll < 8) (hfree : u.freeSession < 8) (hc : u.chainResult c = 0) :
    s.helloClient p c = (((u.sessionOpened p c).replyKept p (u.helloReply (BitVec.ofNat 8 u.freeSession))).respond { path := p } 0
      (u.helloReply (BitVec.ofNat 8 u.freeSession))).emit (.auth 2 u.freeSession 0) := by
  subst hu
  have hroom : ¬ (pathLimit p ≤ (s.handshakesDropped p).sessionsOf p ∨ 8 ≤ (s.handshakesDropped p).sessionsAll ∨
      8 ≤ (s.handshakesDropped p).freeSession) := by omega
  exact (if_neg hroom).trans (if_neg (not_not.mpr hc))

theorem helloClient_opens {u : State} {p : Path} {c : Chain} (hu : u = s.handshakesDropped p) (hp : u.sessionsOf p < pathLimit p)
    (hall : u.sessionsAll < 8) (hfree : u.freeSession < 8) (hc : u.chainResult c = 0) :
    (s.helloClient p c).trust.sessions =
      Tab.insert u.trust.sessions u.freeSession { path := p, role := c.role, seqIn := 1, seqOut := 1, chain := c } ∧
    (s.helloClient p c).trust.nodes = s.trust.nodes ∧ .auth 2 u.freeSession 0 ∈ (s.helloClient p c).out ∧
    (s.helloClient p c).fuses = s.fuses ∧ (s.helloClient p c).dict.staging = s.dict.staging := by
  obtain ⟨hnodes, hfuses, hdict⟩ := handshakesDropped_parts (s := s) p
  obtain ⟨htrust2, hfuses2, hdict2⟩ := sessionOpened_parts (s := u) p c
  obtain ⟨htrust3, hfuses3, hdict3⟩ :=
    replyKept_parts (s := u.sessionOpened p c) p (u.helloReply (BitVec.ofNat 8 u.freeSession))
  rw [← hu] at hnodes hfuses hdict
  rw [helloClient_of_good hu hp hall hfree hc, emit_trust, emit_fuses, emit_dict, emit_out, respond_trust, respond_fuses,
    respond_dict, htrust3, hfuses3, hdict3, htrust2, hfuses2, hdict2, hfuses, hdict]
  exact ⟨rfl, hnodes, List.mem_append_right _ (List.mem_singleton_self _), rfl, rfl⟩

/-- A node session opened (R321, R322). -/
def nodeOpened (s : State) (c : DeviceCert) : State :=
  ({ s with trust := { s.trust with nodes := s.trust.nodes.filter (fun x => decide (x.peer ≠ c.identity.toNat)) ++
      [{ peer := c.identity.toNat, serial := c.serial, seqIn := 1, seqOut := 1 }] } } : State).emit (.auth 2 c.identity.toNat 1)

theorem nodeOpened_parts (c : DeviceCert) : (s.nodeOpened c).trust = { s.trust with
      nodes := s.trust.nodes.filter (fun x => decide (x.peer ≠ c.identity.toNat)) ++
        [{ peer := c.identity.toNat, serial := c.serial, seqIn := 1, seqOut := 1 }] } ∧
    .auth 2 c.identity.toNat 1 ∈ (s.nodeOpened c).out := by
  refine ⟨rfl, ?_⟩
  unfold nodeOpened
  rw [emit_out]
  exact List.mem_append_right _ (List.mem_singleton_self _)

theorem helloNode_of_good {c : DeviceCert} (hc : s.peerResult c = 0)
    (hn : (s.trust.nodes.filter (fun x => decide (x.peer ≠ c.identity.toNat))).length < 64) :
    s.helloNode c = ((s.nodeOpened c).sendChunks 1 c.identity.toNat
      ((s.nodeOpened c).helloReply (Config.sessionNumber c.identity.toNat))).tookFree :=
  (if_neg (not_not.mpr hc)).trans (if_neg (not_le.mpr hn))

theorem sendChunks_trust (kind dest : Nat) (l : List Byte) : (s.sendChunks kind dest l).trust = s.trust :=
  (State.sendChunks_keep (L := [.od, .dict, .line]) rfl (Keep.refl _ s)).same .trust (by decide)

theorem sendChunks_out (kind dest : Nat) (l : List Byte) : s.out <+: (s.sendChunks kind dest l).out :=
  (State.sendChunks_keep (L := [.od, .dict, .line]) rfl (Keep.refl _ s)).out

theorem helloNode_opens {c : DeviceCert} (hc : s.peerResult c = 0)
    (hn : (s.trust.nodes.filter (fun x => decide (x.peer ≠ c.identity.toNat))).length < 64) :
    (s.helloNode c).trust.nodes = s.trust.nodes.filter (fun x => decide (x.peer ≠ c.identity.toNat)) ++
      [{ peer := c.identity.toNat, serial := c.serial, seqIn := 1, seqOut := 1 }] ∧
    (s.helloNode c).trust.sessions = s.trust.sessions ∧ .auth 2 c.identity.toNat 1 ∈ (s.helloNode c).out := by
  obtain ⟨htrust, hout⟩ := nodeOpened_parts (s := s) c
  rw [helloNode_of_good hc hn, tookFree_trust, sendChunks_trust, tookFree_out, htrust]
  exact ⟨rfl, rfl, (sendChunks_out ..).subset hout⟩

/-! ### Finishing and ending a session -/

theorem takeMessage_trust (p : Path) : (s.takeMessage p).trust = s.trust :=
  (State.takeMessage_keep (L := [.od, .host, .gate, .log, .acts]) rfl (Keep.refl _ s)).same .trust (by decide)

theorem finishClient_of_good {n : Nat} {x : Session} (hx : Tab.find? s.trust.sessions n = some x) (hnew : x.established = false) :
    s.finishClient x.path n (x.seqIn + 1) true = ({ s with trust := { s.trust with sessions := Tab.insert s.trust.sessions n { x with
      established := true, seqIn := x.seqIn + 1, openedAt := s.clock.counter, lastAt := s.clock.counter } } } : State).takeMessage x.path := by
  unfold finishClient
  rw [hx]
  exact (if_neg (by simp [hnew])).trans (if_pos rfl)

/-- A session ended, its holding apart (R320). -/
def sessionDropped (s : State) (n : Nat) : State :=
  { s with trust := { s.trust with sessions := Tab.erase s.trust.sessions n } }

theorem sessionDropped_parts (n : Nat) : (s.sessionDropped n).trust.sessions = Tab.erase s.trust.sessions n ∧
    (s.sessionDropped n).dict = s.dict ∧ (s.sessionDropped n).od = s.od ∧
    (s.sessionDropped n).committing = s.committing := ⟨rfl, rfl, rfl, rfl⟩

/-- The end of a session, with what becomes of the staging copy it holds (R320, R353). -/
theorem endSession_of_found {n : Nat} {x : Session} (hx : Tab.find? s.trust.sessions n = some x) :
    s.endSession n = match s.dict.holder with
      | some h =>
        if h.path = x.path ∧ h.session.map (·.val) = some n then
          if s.committing then { s.sessionDropped n with dict := { s.dict with holder := none } }
          else (s.sessionDropped n).discardStaging.bump 0x201009
        else s.sessionDropped n
      | none => s.sessionDropped n := by
  unfold endSession
  rw [hx] <;> rfl

theorem endSession_sessions {n : Nat} {x : Session} (hx : Tab.find? s.trust.sessions n = some x) :
    (s.endSession n).trust.sessions = Tab.erase s.trust.sessions n := by
  obtain ⟨hsessions, -⟩ := sessionDropped_parts (s := s) n
  rw [endSession_of_found hx]
  split
  · split
    · split
      · exact hsessions
      · rw [bump_trust]
        exact hsessions
    · exact hsessions
  · exact hsessions

theorem endSession_unheld {n : Nat} {x : Session} (hx : Tab.find? s.trust.sessions n = some x) (hh : s.dict.holder = none) :
    (s.endSession n).dict = s.dict ∧ (s.endSession n).od = s.od := by
  obtain ⟨-, hdict, hod, -⟩ := sessionDropped_parts (s := s) n
  rw [endSession_of_found hx, hh]
  exact ⟨hdict, hod⟩

theorem discardStaging_dict : s.discardStaging.dict = { s.dict with staging := [], holder := none } := rfl

theorem endSession_held {n : Fin 8} {x : Session} (hx : Tab.find? s.trust.sessions n = some x) (hc : s.committing = false)
    (hh : s.dict.holder = some { path := x.path, session := some n }) :
    (s.endSession n).dict = { s.dict with staging := [], holder := none } := by
  obtain ⟨-, hdict, -, -⟩ := sessionDropped_parts (s := s) n
  rw [endSession_of_found hx, hh]
  dsimp only
  rw [if_pos ⟨rfl, rfl⟩, if_neg (by simp [hc]), bump_dict, discardStaging_dict, hdict]

theorem sessionClose_of_good {n : Nat} {x : Session} (hx : Tab.find? s.trust.sessions n = some x) :
    s.sessionClose x.path n (x.seqIn + 1) true = (s.endSession n).takeMessage x.path := by
  refine if_pos ?_
  unfold messageOk
  rw [hx]
  simp

/-! ### The neighbour cache -/

theorem writeThen_of_good {w : Writer} {k : Nat} {data : List Byte} {f : State → State} (hf : s.mram.storeFails = false) :
    s.writeThen w k data f = (f (s.plainWrite w k (written k data)), 0) := by
  refine if_neg ?_
  simp [plainStatus, hf]

theorem revoke_cache : s.revoke.trust.cache = [] := rfl

end State

/-- Settles O30, by the branch each message of a session takes. -/
theorem sessionsOpenAndClose : Obligations.SessionsOpenAndClose := by
  refine ⟨?_, ?_, ?_, ?_, ?_, ?_, ?_, ?_, ?_, ?_⟩
  · intro s u p c hready hu hp hall hfree hc
    exact ⟨s.helloClient p c, congrArg Host.Outcome.next (served_of_ready hready), helloClient_opens hu hp hall hfree hc⟩
  · intro s c hready hc hn
    exact ⟨s.helloNode c, congrArg Host.Outcome.next (served_of_ready hready), helloNode_opens hc hn⟩
  · rintro s p n seq x hready hx hnew rfl rfl
    exact ⟨_, congrArg Host.Outcome.next ((served_of_ready hready).trans (finishClient_of_good hx hnew)), takeMessage_trust ..⟩
  · intro s id seq hready hn
    exact congrArg Host.Outcome.next ((served_of_ready hready).trans ((if_pos hn).trans (if_pos rfl)))
  · rintro s p n seq x hready hx rfl rfl
    exact ⟨_, congrArg Host.Outcome.next ((served_of_ready hready).trans (sessionClose_of_good hx)),
      (congrArg Trust.sessions (takeMessage_trust ..)).trans (endSession_sessions hx)⟩
  · intro s n x hready hx
    exact ⟨s.endSession n, congrArg Host.Outcome.next (served_of_ready hready), endSession_sessions hx, endSession_unheld hx,
      endSession_held hx⟩
  · intro s w data hw hf
    refine ⟨_, congrArg Host.Outcome.next (served_accessAct hw), ?_⟩
    rw [writeThen_of_good hf, respond_trust]
    exact revoke_cache
  · intro s w i data hw hf
    refine congrArg Host.Outcome.next ((served_accessAct hw).trans ?_)
    rw [writeThen_of_good hf]
    rfl
  · exact fun s w v hw => congrArg Host.Outcome.next (served_accessAct hw)
  · exact fun s id hready => congrArg Host.Outcome.next (served_of_ready hready)

end Sys2Proof.Machine

/-!
SUPPORT. Neighbour authentication (R323 to R325): what a message sent and a port's record leave, and what each message of
the exchange does.
-/

namespace Sys2Proof.Machine

open State

theorem cplNo_lt (p : Cpl) : p.no < 4 := by cases p <;> decide

namespace State

variable {s : State} {p : Nat}

/-! ### A port's record, and a message sent -/

theorem au_setAu (a : Auth) : (s.setAu p a).au p = a := Tab.get_set_self ..

theorem setAu_out (a : Auth) : (s.setAu p a).out = s.out := rfl

theorem setAu_od (a : Auth) : (s.setAu p a).od = s.od := rfl

theorem authSend_au (q kind code : Nat) : (s.authSend p kind code).au q = s.au q := rfl

theorem authSend_out (kind code : Nat) : (s.authSend p kind code).out = s.out ++ [.auth kind p code] := rfl

theorem authSend_od (kind code : Nat) : (s.authSend p kind code).od = s.od := rfl

theorem setAu_keyed (a : Auth) (q : Nat) : (s.setAu p a).keyed q = s.keyed q := by
  unfold keyed keyState
  rw [int_setAu]

/-! ### OFFER, CERTS and PROOF -/

theorem offer_of_offered {identity exchange : Nat} {flag : Bool} (hup : s.linkUpState p = true) (hk : s.keyed p = false)
    (ho : (s.au p).offered = true) : s.offer p identity exchange flag =
      ((s.put (Od.key (0x2240 + p) 1) identity).setAu p { s.au p with
        gotOffer := true, peer := exchange, resume := flag && s.cached identity }).authSend p
          (if flag && s.cached identity then 4 else 2) (s.au p).own := by
  unfold offer
  rw [if_pos ⟨hup, hk⟩, if_pos ho]

theorem certs_of_offer {c : DeviceCert} (hg : (s.au p).gotOffer = true) (hk : s.keyed p = false) :
    s.certs p c = (s.setAu p { s.au p with certs := some c }).authSend p 3 (s.au p).own := if_pos ⟨hg, hk⟩

theorem authInstall_of_unanswered (h : (s.au p).gotConfirm = false) : s.authInstall p = s := if_neg (by simp [h])

/-- The own CONFIRM, the other still to come (R324, step 5). -/
theorem sendConfirm_of_first (h : (s.au p).gotConfirm = false) : s.sendConfirm p =
    (s.setAu p { s.au p with accepted := true, sentConfirm := true }).authSend p 5 (s.au p).own := by
  refine authInstall_of_unanswered ?_
  rw [authSend_au, au_setAu]
  exact h

theorem sendConfirm_sends (h : (s.au p).gotConfirm = false) :
    (s.sendConfirm p).au p = { s.au p with accepted := true, sentConfirm := true } ∧
    (s.sendConfirm p).out = s.out ++ [.auth 5 p (s.au p).own] ∧ (s.sendConfirm p).od = s.od := by
  rw [sendConfirm_of_first h, authSend_au, au_setAu, authSend_out, setAu_out, authSend_od, setAu_od]
  exact ⟨rfl, rfl, rfl⟩

theorem proof_of_certs {c : DeviceCert} (hc : (s.au p).certs = some c) (hk : s.keyed p = false) :
    s.proof p false = s.authRefuse p 0x01 ∧ (s.peerResult c = 0 → s.proof p true = s.sendConfirm p) := by
  constructor
  · simp [proof, hc, hk]
  · intro hp
    simp [proof, hc, hk, hp]

theorem resumeMsg_of_resume (hr : (s.au p).resume = true) (hk : s.keyed p = false) :
    s.resumeMsg p true = s.sendConfirm p ∧ s.resumeMsg p false = s.authRefuse p 0x01 := by
  simp [resumeMsg, hr, hk]

/-! ### CONFIRM -/

/-- The entries of a link whose key was installed (R324, step 6). -/
def keyInstalled (s : State) (p : Nat) : State :=
  ((((s.put (Od.key (0x3124 + p) 1) 2).put (Od.key (0x3124 + p) 2) 0).put (Od.key (0x3124 + p) 3) 0).put (Od.key (0x3124 + p) 4) 0).put
    (Od.key (0x2240 + p) 2) (if (s.au p).resume then 2 else 3)

theorem keyInstalled_reads (hp : p < 4) : (s.keyInstalled p).int (Od.key (0x3124 + p) 1) = 2 ∧
    (s.keyInstalled p).int (Od.key (0x3124 + p) 2) = 0 ∧ (s.keyInstalled p).int (Od.key (0x3124 + p) 3) = 0 ∧
    (s.keyInstalled p).int (Od.key (0x2240 + p) 2) = if (s.au p).resume then 2 else 3 := by
  unfold keyInstalled
  simp (disch := omega) only [Od.key, int_put_ne, int_put_self, and_self]

/-- The neighbour as it is cached (R325). -/
def cacheEntryOf (s : State) (p : Nat) : CacheEntry :=
  match (s.au p).resume, s.trust.cache.find? (fun e => decide (e.identity = s.nat (Od.key (0x2240 + p) 1))) with
  | true, some e => e
  | _, _ => { identity := s.nat (Od.key (0x2240 + p) 1), ownerHash := ((s.au p).certs.map (·.ownerHash)).getD [],
              expiry := s.nat 0x200101 + 2592000 }

/-- The neighbour cached, the least recently used out (R324, step 6). -/
def cachePut (s : State) (id : Nat) (entry : CacheEntry) (old : List CacheEntry) : State :=
  { s with trust := { s.trust with cache :=
    (old.filter (fun e => decide (e.identity ≠ id))).drop ((old.filter (fun e => decide (e.identity ≠ id))).length - 15) ++ [entry] } }

theorem cachePut_int (id : Nat) (e : CacheEntry) (old : List CacheEntry) (k : Nat) : (s.cachePut id e old).int k = s.int k :=
  int_with_trust ..

theorem cachePut_length (id : Nat) (e : CacheEntry) (old : List CacheEntry) : (s.cachePut id e old).trust.cache.length ≤ 16 := by
  simp only [cachePut, List.length_append, List.length_drop, List.length_singleton]
  omega

theorem authInstall_of_both (hs : (s.au p).sentConfirm = true) (hg : (s.au p).gotConfirm = true) (hk : s.keyed p = false) :
    s.authInstall p = ((s.keyInstalled p).setAu p { installedAt := s.clock.counter, certs := (s.au p).certs }).cachePut
      (s.nat (Od.key (0x2240 + p) 1)) (s.cacheEntryOf p) s.trust.cache := by
  unfold authInstall
  simp only [key_add]
  exact if_pos ⟨hs, hg, hk⟩

theorem confirm_installs (hp : p < 4) (hg : (s.au p).gotOffer = true) (hk : s.keyed p = false) (hs : (s.au p).sentConfirm = true) :
    (s.confirm p true).int (Od.key (0x3124 + p) 1) = 2 ∧ (s.confirm p true).int (Od.key (0x3124 + p) 2) = 0 ∧
    (s.confirm p true).int (Od.key (0x3124 + p) 3) = 0 ∧
    (s.confirm p true).int (Od.key (0x2240 + p) 2) = (if (s.au p).resume then 2 else 3) ∧
    (s.confirm p true).trust.cache.length ≤ 16 := by
  have hau : (s.setAu p { s.au p with gotConfirm := true }).au p = { s.au p with gotConfirm := true } := au_setAu _
  have hconfirm : s.confirm p true = (s.setAu p { s.au p with gotConfirm := true }).authInstall p :=
    (if_pos ⟨hg, hk⟩).trans (if_pos rfl)
  rw [hconfirm, authInstall_of_both (by rw [hau]; exact hs) (by rw [hau]) (by rw [setAu_keyed]; exact hk)]
  obtain ⟨h1, h2, h3, h4⟩ := keyInstalled_reads (s := s.setAu p { s.au p with gotConfirm := true }) hp
  rw [hau] at h4
  simp only [cachePut_int, int_setAu]
  exact ⟨h1, h2, h3, h4, cachePut_length ..⟩

/-! ### Refusals and retries -/

theorem refuseMsg_of_unkeyed (hk : s.keyed p = false) : s.refuseMsg p =
    (((s.put (Od.key (0x2240 + p) 2) 4).put (Od.key (0x3124 + p) 1) 0).bump (Od.key (0x3124 + p) 6)).setAu p {} :=
  if_neg (by simp [hk])

theorem refuseMsg_reads (hp : p < 4) (hk : s.keyed p = false) : (s.refuseMsg p).int (Od.key (0x2240 + p) 2) = 4 ∧
    (s.refuseMsg p).int (Od.key (0x3124 + p) 1) = 0 ∧
    (s.refuseMsg p).int (Od.key (0x3124 + p) 6) = min (s.int (Od.key (0x3124 + p) 6) + 1) 0xFFFFFFFF ∧
    (s.refuseMsg p).au p = {} := by
  rw [refuseMsg_of_unkeyed hk, au_setAu]
  simp (disch := omega) only [int_setAu, Od.key, int_bump_ne, int_bump_self, int_put_ne, int_put_self, and_self]

theorem authStart_of_up (hup : s.linkUpState p = true) (hk : s.keyed p = false) : s.authStart p =
    ((((s.tookFree.put (Od.key (0x3124 + p) 1) 1).put (Od.key (0x2240 + p) 2) 1).setAu p
      { offered := true, own := s.freeNat % 2 ^ 32 }).authSend p 1 (s.freeNat % 2 ^ 32)) := if_pos ⟨hup, hk⟩

theorem authStart_starts (hp : p < 4) (hup : s.linkUpState p = true) (hk : s.keyed p = false) :
    (s.authStart p).int (Od.key (0x3124 + p) 1) = 1 ∧ (s.authStart p).int (Od.key (0x2240 + p) 2) = 1 ∧
    (s.authStart p).au p = { offered := true, own := s.freeNat % 2 ^ 32 } ∧
    (s.authStart p).out = s.out ++ [.auth 1 p (s.freeNat % 2 ^ 32)] := by
  rw [authStart_of_up hup hk, authSend_au, au_setAu, authSend_out, setAu_out, put_out, put_out, tookFree_out]
  simp (disch := omega) only [int_authSend, int_setAu, Od.key, int_put_ne, int_put_self, and_self]

end State

/-- Settles O31, by the answer of each message of the exchange. -/
theorem neighboursAuthenticate : Obligations.NeighboursAuthenticate := by
  refine ⟨?_, ?_, ?_, ?_, ?_, ?_, ?_, ?_⟩
  · intro s p identity exchange flag hready hup hk ho
    refine ⟨_, congrArg Host.Outcome.next ((served_of_ready hready).trans (offer_of_offered hup hk ho)), ?_⟩
    rw [int_authSend, int_setAu, int_put_self, authSend_au, au_setAu, authSend_out, setAu_out, put_out]
    exact ⟨rfl, rfl, rfl⟩
  · intro s p c hready hg hk
    refine ⟨_, congrArg Host.Outcome.next ((served_of_ready hready).trans (certs_of_offer hg hk)), ?_⟩
    rw [authSend_au, au_setAu, authSend_out, setAu_out, authSend_od, setAu_od]
    exact ⟨rfl, rfl, rfl⟩
  · intro s p c hready hc hk hp hgot
    exact ⟨_, congrArg Host.Outcome.next ((served_of_ready hready).trans ((proof_of_certs hc hk).2 hp)), sendConfirm_sends hgot⟩
  · exact fun s p c hready hc hk => congrArg Host.Outcome.next ((served_of_ready hready).trans (proof_of_certs hc hk).1)
  · intro s p hready hr hk hgot
    obtain ⟨hgood, hbad⟩ := resumeMsg_of_resume hr hk
    exact ⟨⟨_, congrArg Host.Outcome.next ((served_of_ready hready).trans hgood), sendConfirm_sends hgot⟩,
      congrArg Host.Outcome.next ((served_of_ready hready).trans hbad)⟩
  · exact fun s p hready hg hk hs => ⟨_, congrArg Host.Outcome.next (served_of_ready hready), confirm_installs (cplNo_lt p) hg hk hs⟩
  · exact fun s p hready hk => ⟨_, congrArg Host.Outcome.next (served_of_ready hready), refuseMsg_reads (cplNo_lt p) hk⟩
  · exact fun s p hready h4 hup hk => ⟨_, congrArg Host.Outcome.next ((served_of_ready hready).trans (if_pos h4)),
      authStart_starts (cplNo_lt p) hup hk⟩

end Sys2Proof.Machine

/-!
SUPPORT. Rekeying of a link and stream keys (R327 to R329).
-/

namespace Sys2Proof.Machine

open State

namespace State

variable {s : State} {p : Nat}

/-! ### Rekeying a link -/

theorem rekeyTrigger_of_keyed (h : s.int (Od.key (0x3124 + p) 1) = 2) : s.rekeyTrigger p =
    ((s.put (Od.key (0x3124 + p) 1) 3).setAu p { s.au p with rekeySent := true, own := s.freeNat % 2 ^ 32 }).tookFree.authSend p 7 0 :=
  if_pos h

theorem rekeyOffer_of_standing {identity : Nat} (hk : s.keyed p = true)
    (h : (s.au p).rekeySent = false ∨ identity ≤ s.fuses.identity) : s.rekeyOffer p identity =
      ((s.put (Od.key (0x3124 + p) 1) 3).setAu p { s.au p with
        rekeySent := false, rekeyGot := true, rkConfirmSent := true, own := s.freeNat % 2 ^ 32 }).tookFree.authSend p 8 0 := by
  refine if_neg ?_
  rintro (h' | ⟨hsent, hless⟩)
  · simp [hk] at h'
  · rcases h with h | h
    · simp [hsent] at h
    · omega

theorem tookFree_au (q : Nat) : s.tookFree.au q = s.au q := rfl

/-- A rekey message under a fresh exchange number: the record of the port, and what is sent. -/
theorem rekeySends (a : Auth) (kind : Nat) :
    let t := ((s.put (Od.key (0x3124 + p) 1) 3).setAu p a).tookFree.authSend p kind 0
    t.int (Od.key (0x3124 + p) 1) = 3 ∧ t.au p = a ∧ t.out = s.out ++ [.auth kind p 0] := by
  dsimp only
  rw [int_authSend, int_tookFree, int_setAu, int_put_self, authSend_au, tookFree_au, au_setAu, authSend_out, tookFree_out,
    setAu_out, put_out]
  exact ⟨rfl, rfl, rfl⟩

theorem rekeyConfirm_of_rekeying (h3 : s.int (Od.key (0x3124 + p) 1) = 3) (h : (s.au p).rekeySent = true ∨ (s.au p).rekeyGot = true) :
    s.rekeyConfirm p true = (if (s.au p).rkConfirmSent then s else s.authSend p 8 0).setAu p
      { s.au p with rkConfirmSent := true, rkConfirmGot := true } := if_pos ⟨h3, rfl, h⟩

theorem rekeyConfirm_answers (h3 : s.int (Od.key (0x3124 + p) 1) = 3) (h : (s.au p).rekeySent = true ∨ (s.au p).rekeyGot = true) :
    (s.rekeyConfirm p true).au p = { s.au p with rkConfirmSent := true, rkConfirmGot := true } ∧
    (s.rekeyConfirm p true).out = s.out ++ (if (s.au p).rkConfirmSent then [] else [.auth 8 p 0]) ∧
    (s.rekeyConfirm p true).od = s.od := by
  rw [rekeyConfirm_of_rekeying h3 h, au_setAu, setAu_out, setAu_od]
  split
  · exact ⟨rfl, (List.append_nil _).symm, rfl⟩
  · rw [authSend_out, authSend_od]
    exact ⟨rfl, rfl, rfl⟩

/-! ### Stream keys -/

theorem tookSequence_streams (x : NodeSession) : (s.tookSequence x).trust.streams = s.trust.streams := rfl

theorem sendNode_streams (dest t : Nat) (l : List Byte) : (s.sendNode dest t l).trust.streams = s.trust.streams := by
  unfold sendNode
  split
  · rfl
  · rw [tookSequence_streams, sendChunks_trust]

theorem sendFree_streams (dest : Nat) : (s.sendFree dest).trust.streams = s.trust.streams := sendNode_streams ..

theorem publishKeys_trust : s.publishKeys.trust = s.trust :=
  (State.publishKeys_keep (L := [.od]) rfl (Keep.refl _ s)).same .trust (by decide)

theorem publishKeys_out : s.out <+: s.publishKeys.out := (State.publishKeys_keep (L := [.od]) rfl (Keep.refl _ s)).out

theorem sendFree_out (dest : Nat) : s.out <+: (s.sendFree dest).out :=
  (State.sendFree_keep (a1 := dest) (L := [.od, .dict, .line, .trust]) rfl (Keep.refl _ s)).out

/-- The record of a stream from a source, as a delivery leaves it (R328). -/
def deliveredEpochs (s : State) (source view inst epoch : Nat) : Epochs :=
  match s.trust.streams.find? (fun (x : Epochs) => decide (x.source = source ∧ x.view = view ∧ x.instanceNo = inst)) with
  | some old => { old with epoch := old.delivered, delivered := epoch, acked := true, key := old.next, next := s.free }
  | none => { view := view, instanceNo := inst, source := source, epoch := epoch, delivered := epoch, acked := true, key := s.free,
              next := s.free }

theorem deliveredEpochs_fields (source view inst epoch : Nat) :
    (s.deliveredEpochs source view inst epoch).source = source ∧ (s.deliveredEpochs source view inst epoch).view = view ∧
    (s.deliveredEpochs source view inst epoch).instanceNo = inst ∧ (s.deliveredEpochs source view inst epoch).delivered = epoch ∧
    (s.deliveredEpochs source view inst epoch).acked = true := by
  unfold deliveredEpochs
  split
  case h_1 old h =>
    have hold := List.find?_some h
    rw [decide_eq_true_eq] at hold
    obtain ⟨hsource, hview, hinst⟩ := hold
    exact ⟨hsource, hview, hinst, rfl, rfl⟩
  case h_2 => exact ⟨rfl, rfl, rfl, rfl, rfl⟩

/-- A delivery kept, before it is acknowledged. -/
def deliveryKept (s : State) (source view inst epoch : Nat) : State :=
  { s.tookFree with trust := { s.trust with
    streams := s.trust.streams.filter (fun y => !(decide (y.source = source ∧ y.view = view ∧ y.instanceNo = inst))) ++
      [s.deliveredEpochs source view inst epoch] } }

theorem deliveryKept_mem (source view inst epoch : Nat) :
    s.deliveredEpochs source view inst epoch ∈ (s.deliveryKept source view inst epoch).trust.streams :=
  List.mem_append_right _ (List.mem_singleton_self _)

theorem keyDelivery_of_open {source view inst epoch : Nat} (h : s.nodeOpen source = true) : s.keyDelivery source view inst epoch =
    (((s.deliveryKept source view inst epoch).emit (.auth 11 source epoch)).sendFree source).publishKeys := if_pos h

theorem keyDelivery_keeps {source view inst epoch : Nat} (h : s.nodeOpen source = true) :
    s.deliveredEpochs source view inst epoch ∈ (s.keyDelivery source view inst epoch).trust.streams ∧
    .auth 11 source epoch ∈ (s.keyDelivery source view inst epoch).out := by
  rw [keyDelivery_of_open h, publishKeys_trust, sendFree_streams, emit_trust]
  refine ⟨deliveryKept_mem .., publishKeys_out.subset ((sendFree_out source).subset ?_)⟩
  rw [emit_out]
  exact List.mem_append_right _ (List.mem_singleton_self _)

/-- A stream that no event is about stays as it is. -/
theorem mem_movedStreams {own : Nat} {test : Epochs → Bool} {x : Epochs} (hx : test x = false) {l : List Epochs} (h : x ∈ l) (n : Nat) :
    x ∈ movedStreams own test n l := by
  induction l generalizing n with
  | nil => exact absurd h List.not_mem_nil
  | cons y l ih =>
    rcases List.mem_cons.mp h with rfl | h
    · rw [movedStreams, if_neg (by simp [hx])]
      exact List.mem_cons_self
    · exact List.mem_cons_of_mem _ (ih h (n + 1))

theorem moveStreams_streams (test : Epochs → Bool) :
    (s.moveStreams test).trust.streams = movedStreams s.sliceSource test s.free s.trust.streams := by
  unfold moveStreams
  extract_lets own l hit __src u
  rw [publishKeys_trust]
  refine foldl_proj (fun v => v.trust.streams) _ (fun v x => ?_) u
  split
  · exact sendFree_streams ..
  · rfl

/-- The acknowledgements of a sink marked (R329). -/
def ackMarked (s : State) (sink view inst epoch : Nat) : State :=
  { s with trust := { s.trust with streams := s.trust.streams.map (fun (x : Epochs) =>
    if x.source = 0 ∧ decide (x.sink = sink ∧ x.view = view ∧ x.instanceNo = inst ∧ x.delivered = epoch) = true
    then { x with acked := true } else x) } }

theorem keyAck_eq (sink view inst epoch : Nat) : s.keyAck sink view inst epoch = (s.ackMarked sink view inst epoch).moveStreams
    (fun x => decide (x.sink = sink ∧ x.view = view ∧ x.instanceNo = inst ∧ x.delivered = epoch) && x.waiting) := rfl

theorem keyAck_marks {x : Epochs} (hx : x ∈ s.trust.streams) (h0 : x.source = 0) (hw : x.waiting = false) :
    { x with acked := true } ∈ (s.keyAck x.sink x.view x.instanceNo x.delivered).trust.streams := by
  rw [keyAck_eq, moveStreams_streams]
  refine mem_movedStreams (by simp [hw]) (List.mem_map.mpr ⟨x, hx, ?_⟩) _
  exact if_pos ⟨h0, by simp⟩

end State

/-- Settles O32, by the record of the port and of the stream that each message leaves. -/
theorem linksRekey : Obligations.LinksRekey := by
  refine ⟨?_, ?_, ?_, ?_, ?_⟩
  · exact fun s p hready h => ⟨_, congrArg Host.Outcome.next ((served_of_ready hready).trans (rekeyTrigger_of_keyed h)),
      rekeySends _ 7⟩
  · exact fun s p identity hready hk h =>
      ⟨_, congrArg Host.Outcome.next ((served_of_ready hready).trans (rekeyOffer_of_standing hk h)), rekeySends _ 8⟩
  · exact fun s p hready h3 h => ⟨_, congrArg Host.Outcome.next (served_of_ready hready), rekeyConfirm_answers h3 h⟩
  · intro s source view inst epoch hready hopen
    obtain ⟨hmem, hout⟩ := keyDelivery_keeps (view := view.val) (inst := inst) (epoch := epoch) hopen
    obtain ⟨hsource, hview, hinst, hdelivered, hacked⟩ := deliveredEpochs_fields (s := s) source.toNat view.val inst epoch
    exact ⟨_, _, congrArg Host.Outcome.next (served_of_ready hready), hmem, hsource, hview, hinst, hdelivered, hacked, hout⟩
  · rintro s sink view inst epoch x hready hopen hx h0 hsink hview rfl rfl hw
    refine ⟨_, congrArg Host.Outcome.next ((served_of_ready hready).trans (if_pos hopen)), ?_⟩
    rw [← hsink, ← hview]
    exact keyAck_marks hx h0 hw

end Sys2Proof.Machine

/-!
SUPPORT. Images, the rollback floor and debug (R316, R332, R333, R336), and what an answer with status 0 leaves of the
records past the logbook.
-/

namespace Sys2Proof.Machine

open State

namespace State

variable {s : State}

/-! ### An answer with status 0 -/

theorem int_mbRespond_past {k : Nat} (st : Nat) (data : List Byte) (h : 0x370000 ≤ k) :
    (s.mbRespond st data).int k = s.int k := by
  unfold mbRespond mbDeliver
  simp only
  rw [int_raise_ne _ _ _ _ (by omega) (by omega) (by omega), int_with_host, int_with_host, int_act,
    int_bump_ne (k := 0x360002) _ (by omega) (by decide)]

theorem int_respond_past {k : Nat} (w : Writer) (data : List Byte) (h : 0x370000 ≤ k) :
    (s.respond w 0 data).int k = s.int k := by
  change (s.answer w 0 data).int k = s.int k
  unfold answer
  split
  · split
    · exact int_mbRespond_past _ _ h
    · split <;> rfl
  · split
    · exact (int_emit ..).trans (int_putBytes_ne (k := 0x312002) s _ (by omega) (by decide))
    · rfl
  · unfold replyAct
    split
    · exact int_act ..
    · rfl

/-! ### Images -/

/-- An image taken into a slot (R332). -/
def imageTaken (s : State) (slot : Nat) (img : Image) : State :=
  ((s.put (0x314001 + slot) img.version.toNat).put (0x314003 + slot) img.security).setImageState slot 2

theorem imageTaken_reads {slot : Nat} (img : Image) (h : slot = 1 ∨ slot = 2) :
    (s.imageTaken slot img).int (0x314001 + slot) = img.version.toNat ∧
    (s.imageTaken slot img).int (0x314003 + slot) = img.security := by
  unfold imageTaken setImageState
  rcases h with rfl | rfl <;> simp (disch := omega) only [int_put_ne, int_put_self, Nat.reduceAdd, and_self]

theorem imageTaken_parts (slot : Nat) (img : Image) : (s.imageTaken slot img).fuses = s.fuses ∧
    (s.imageTaken slot img).power = s.power := ⟨rfl, rfl⟩

theorem otherImage_cases : s.otherImage = 1 ∨ s.otherImage = 2 := by
  unfold otherImage
  split
  · exact .inr rfl
  · exact .inl rfl

/-- An image load as it runs (R363). -/
def loadRun (s : State) (n : Nat) : State :=
  (if s.opRunning 2 then s else s.opStart 2 n).opProgress 2 10000 n n

theorem loadRun_parts (n : Nat) : (s.loadRun n).fuses = s.fuses ∧ (s.loadRun n).power = s.power := by
  unfold loadRun
  split
  · rw [opProgress_fuses, opProgress_power]
    exact ⟨rfl, rfl⟩
  · rw [opProgress_fuses, opProgress_power, opStart_fuses, opStart_power]
    exact ⟨rfl, rfl⟩

theorem imageLoad_of_good {img : Image} (hs : img.signatureOk = true) (hf : s.fuses.rollback ≤ img.security) :
    s.imageLoad img = ((((s.loadRun img.bytes).imageTaken s.otherImage img).storeStored).opEnd 2 2 0, 0) := by
  have hfloor : ¬ img.security < (s.loadRun img.bytes).fuses.rollback := by
    rw [(loadRun_parts img.bytes).1]
    omega
  exact (if_neg (by simp [hs])).trans (if_neg hfloor)

theorem imageLoad_loads (w : Writer) {img : Image} (hs : img.signatureOk = true) (hf : s.fuses.rollback ≤ img.security) :
    let t := (s.imageLoad img).1.respond w (s.imageLoad img).2 []
    t.int (0x314001 + s.otherImage) = img.version.toNat ∧ t.int (0x314003 + s.otherImage) = img.security ∧ t.int 0x3F0201 = 2 ∧
    t.fuses = s.fuses ∧ t.power = s.power := by
  obtain ⟨hv, hsec⟩ := imageTaken_reads (s := s.loadRun img.bytes) img (otherImage_cases (s := s))
  obtain ⟨hfuses, hpower⟩ := loadRun_parts (s := s) img.bytes
  obtain ⟨hfuses', hpower'⟩ := imageTaken_parts (s := s.loadRun img.bytes) s.otherImage img
  have hslot := otherImage_cases (s := s)
  rw [imageLoad_of_good hs hf]
  generalize s.otherImage = slot at *
  dsimp only
  refine ⟨?_, ?_, (int_respond_past _ _ (by decide)).trans (int_opEnd_state _ 2 2 0 (by decide)), ?_, ?_⟩
  · rw [int_respond _ _ _ _ (by omega) (by omega), int_opEnd _ (by omega) (by omega), int_storeStored, hv]
  · rw [int_respond _ _ _ _ (by omega) (by omega), int_opEnd _ (by omega) (by omega), int_storeStored, hsec]
  · rw [respond_fuses, opEnd_fuses, storeStored_fuses, hfuses', hfuses]
  · rw [respond_power, opEnd_power, storeStored_power, hpower', hpower]

/-- The pending image judged, and what MRAM holds of it (R332). -/
def imageJudged (s : State) (v : Nat) : State := (s.setImageState (s.nat 0x314006) v).storeStored

theorem imageJudged_power (v : Nat) : (s.imageJudged v).power = s.power := storeStored_power ..

theorem imageJudged_od (v : Nat) : (s.imageJudged v).od = (s.setImageState (s.nat 0x314006) v).od := storeStored_od ..

theorem imageJudged_other (v : Nat) : (s.imageJudged v).otherImage = s.otherImage := by
  have h : (s.imageJudged v).int 0x314006 = s.int 0x314006 := by
    unfold imageJudged setImageState
    rw [int_storeStored, int_put_ne _ _ (by decide) (by decide)]
  unfold otherImage
  rw [h]

theorem imageHealthy_of_pending (h : s.power.pendingImage = true) : s.imageHealthy =
    { s.imageJudged 1 with power := { (s.imageJudged 1).power with pendingImage := false } } := if_pos h

theorem healthTimeout_of_pending (h : s.power.pendingImage = true) : s.healthTimeout =
    ({ s.imageJudged 3 with power := { (s.imageJudged 3).power with selectedImage := (s.imageJudged 3).otherImage } } : State).takeReset 7 :=
  if_pos h

theorem advanceFloor_cases (v : Nat) :
    (v ≤ s.imageSecurity (s.nat 0x314006) →
      s.advanceFloor v = ({ s with fuses := { s.fuses with rollback := max s.fuses.rollback v } }, 0)) ∧
    (s.imageSecurity (s.nat 0x314006) < v → s.advanceFloor v = (s, 0x49)) :=
  ⟨fun h => if_neg (not_lt.mpr h), fun h => if_pos h⟩

/-! ### Debug -/

theorem closeArm_of_own {data : List Byte} (hc : s.fuses.debugClosed = false) (h : written 0x316001 data = .num s.fuses.identity) :
    s.closeArm data = ({ (s.putBytes 0x316002 (Config.freeBytes s.free 16)).tookFree with
      trust := { s.trust with challenge := some (Config.freeBytes s.free 16) } }, 0) :=
  (if_neg (by simp [hc])).trans (if_neg (not_not.mpr h))

/-- Debug burned closed (R336). -/
def debugShut (s : State) : State :=
  { s with fuses := { s.fuses with debugClosed := true }, trust := { s.trust with debugUnlocked := false } }

theorem closeConfirm_of_good {c : Chain} (hc : s.fuses.debugClosed = false) (hch : s.trust.challenge ≠ none)
    (hchain : s.chainResult c = 0) (hrole : c.role = 4) : s.closeConfirm c true = (s.challengeExpired.debugShut, 0) := by
  have hopen : ¬ (s.fuses.debugClosed = true ∨ s.trust.challenge.isNone = true) := by
    simp [hc, hch]
  unfold closeConfirm
  rw [if_neg hopen, if_neg (not_not.mpr hchain), if_neg (not_not.mpr hrole), if_neg (by decide)]
  rfl

theorem debugShut_parts : s.challengeExpired.debugShut.fuses = { s.fuses with debugClosed := true } ∧
    s.challengeExpired.debugShut.trust.debugUnlocked = false ∧ s.challengeExpired.debugShut.trust.challenge = none :=
  ⟨rfl, rfl, rfl⟩

/-- Once debug is closed every debug write is refused (R336). -/
theorem debug_refused (hc : s.fuses.debugClosed = true) (c : Chain) (sigOk : Bool) (data : List Byte) :
    s.closeConfirm c sigOk = (s, 0x4E) ∧ s.closeArm data = (s, 0x4E) ∧ s.debugUnlock = (s, 0x4E) :=
  ⟨if_pos (.inl hc), if_pos hc, if_pos hc⟩

end State

/-- Settles O33, by the branch each image command takes and what it writes. -/
theorem imagesAndFloor : Obligations.ImagesAndFloor := by
  refine ⟨?_, ?_, ?_, ?_, ?_, ?_, ?_⟩
  · intro s w img hready hst hs hf
    have hphase : s.power.phase ≠ .noImage := by
      rw [show s.power.phase = .ready by simpa [isReady] using hready]
      decide
    exact ⟨_, congrArg Host.Outcome.next ((if_neg hphase).trans ((served_of_ready hready).trans (if_neg (not_not.mpr hst)))),
      imageLoad_loads w hs hf⟩
  · exact fun s w img hphase hw => congrArg Host.Outcome.next ((if_pos hphase).trans (if_neg hw))
  · exact fun s w v hw => congrArg Host.Outcome.next (served_accessAct hw)
  · intro s hp
    exact ⟨_, congrArg Host.Outcome.next (imageHealthy_of_pending hp), by rw [imageJudged_power], imageJudged_od 1⟩
  · intro s hp hphase
    have hruns : ({ s.imageJudged 3 with power :=
        { (s.imageJudged 3).power with selectedImage := (s.imageJudged 3).otherImage } } : State).runs :=
      runs_of_ready (by rw [imageJudged_power]; exact hphase)
    exact ⟨_, congrArg Host.Outcome.next ((healthTimeout_of_pending hp).trans (takeReset_of_runs hruns 7)), rfl, rfl,
      imageJudged_other 3, rfl⟩
  · intro s w v hw h
    refine congrArg Host.Outcome.next ((served_accessAct hw).trans ?_)
    rw [(advanceFloor_cases v.toNat).1 h]
  · intro s w v hw h
    refine congrArg Host.Outcome.next ((served_accessAct hw).trans ?_)
    rw [(advanceFloor_cases v.toNat).2 h]

/-- Settles O34, by the branch each debug command takes. -/
theorem debugAndTrustTime : Obligations.DebugAndTrustTime := by
  refine ⟨?_, ?_, ?_, ?_, ?_, ?_⟩
  · intro s w data hw hc h
    refine congrArg Host.Outcome.next ((served_accessAct hw).trans ?_)
    rw [closeArm_of_own hc h]
  · intro s w c hw hc hch hchain hrole
    obtain ⟨hfuses, hlocked, hnone⟩ := debugShut_parts (s := s)
    refine ⟨_, congrArg Host.Outcome.next (served_accessAct hw), ?_⟩
    rw [closeConfirm_of_good hc hch hchain hrole, respond_fuses, respond_trust]
    exact ⟨hfuses, hlocked, hnone⟩
  · intro s w c sigOk data v hc
    obtain ⟨hconfirm, harm, hunlock⟩ := debug_refused hc c sigOk data
    refine ⟨fun hw => congrArg Host.Outcome.next ((served_accessAct hw).trans ?_),
      fun hw => congrArg Host.Outcome.next ((served_accessAct hw).trans ?_),
      fun hw => congrArg Host.Outcome.next ((served_accessAct hw).trans ?_)⟩
    · rw [hconfirm]
    · rw [harm]
    · rw [hunlock]
  · exact fun s hready => congrArg Host.Outcome.next (served_of_ready hready)
  · intro s w v hw hc
    refine congrArg Host.Outcome.next ((served_accessAct hw).trans ?_)
    rw [debugUnlock, if_neg (by simp [hc])]
  · exact fun s hready hnt => congrArg Host.Outcome.next ((served_of_ready hready).trans (if_pos hnt))

end Sys2Proof.Machine

/-!
SUPPORT. Collections of the logbook (R364, R496, R497): what raising a source leaves of a published image, what a
collection's frame leaves, and how a run starts and ends.
-/

namespace Sys2Proof.Machine

open State

namespace State

variable {s : State}

/-! ### The image of a collection past the raising of a source -/

theorem get_bump_ne {k j : Nat} (h : k ≠ j) (hf : ¬ Feeds k) : (s.bump k).get j = s.get j := get_put_ne s _ h hf

theorem get_msixOne (t : Nat) (due : Bool) (k : Nat) : (s.msixOne t due).get k = s.get k := by
  unfold msixOne
  split <;> (try split) <;> rfl

theorem get_setGate (g : Gate) (k : Nat) : (s.setGate g).get k = s.get k := by
  simp only [setGate, get_msixOne, get_pendAct]
  rfl

theorem get_gateEvent (src : Nat) {k : Nat} (h : k < 0x360000) : (s.gateEvent src).get k = s.get k := by
  have hfree : ∀ n, ¬ Feeds (Od.key (0x3600 + src) n) := fun n => not_feeds_of_ge (by simp only [Od.key]; omega)
  have hne : ∀ n, Od.key (0x3600 + src) n ≠ k := fun n => by simp only [Od.key]; omega
  unfold gateEvent
  extract_lets k3 u v
  have hk : ∀ n, k3 + n = Od.key (0x3600 + src) (3 + n) := fun n => by simp only [k3, Od.key]; omega
  have hu : u.get k = s.get k := by
    simp only [u]
    rw [hk 2, get_put_ne _ _ (hne _) (hfree _), get_bump_ne (hne _) (hfree _)]
  rw [get_setGate]
  simp only [v]
  split
  · rw [hk 1, get_bump_ne (hne _) (hfree _), hu]
  · exact hu

/-- The image that a collection published is none of the entries that a report writes. -/
theorem get_queueReport_image (r : Record) : (s.queueReport r).1.get 0x350305 = s.get 0x350305 := by
  unfold queueReport
  dsimp only
  split
  · rw [get_with_log, get_bump_ne (by decide) (by decide), get_bump_ne (by decide) (by decide)]
  · split
    · dsimp only
      rw [get_put_ne _ _ (by decide) (by decide), get_with_log, get_bump_ne (by decide) (by decide)]
    · dsimp only
      rw [get_put_ne _ _ (by decide) (by decide),
        get_bump_ne (by simp only [Od.key]; omega) (not_feeds_of_ge (by simp only [Od.key]; omega)),
        get_bump_ne (by decide) (by decide), get_bump_ne (by decide) (by decide)]

theorem get_raise_image (src detail inst value : Nat) : (s.raise src detail inst value).get 0x350305 = s.get 0x350305 := by
  unfold raise
  dsimp only
  split
  · unfold report
    dsimp only
    split
    · rw [get_queueReport_image, get_gateEvent _ (by decide), get_queueReport_image, get_gateEvent _ (by decide)]
    · rw [get_queueReport_image, get_gateEvent _ (by decide)]
  · exact get_gateEvent _ (by decide)

theorem bytes_opEnd_image (k st r : Nat) : (s.opEnd k st r).bytes 0x350305 = s.bytes 0x350305 := by
  unfold opEnd bytes
  have hfree : ∀ n, ¬ Feeds (Od.key (0x3F00 + k) 0 + n) := fun n => not_feeds_of_ge (by simp only [Od.key]; omega)
  have hne : ∀ n, Od.key (0x3F00 + k) 0 + n ≠ 0x350305 := fun n => by simp only [Od.key]; omega
  rw [get_raise_image, get_put_ne _ _ (hne _) (hfree _), get_put_ne _ _ (hne _) (hfree _)]

theorem bytes_opProgress_image (k : Nat) (p d t : Int) : (s.opProgress k p d t).bytes 0x350305 = s.bytes 0x350305 := by
  unfold opProgress bytes
  have hfree : ∀ n, ¬ Feeds (Od.key (0x3F00 + k) 0 + n) := fun n => not_feeds_of_ge (by simp only [Od.key]; omega)
  have hne : ∀ n, Od.key (0x3F00 + k) 0 + n ≠ 0x350305 := fun n => by simp only [Od.key]; omega
  dsimp only
  rw [putBytes, get_setVal_ne _ _ (hne _) (hfree _), get_put_ne _ _ (hne _) (hfree _), get_put_ne _ _ (hne _) (hfree _),
    get_put_ne _ _ (hne _) (hfree _)]

/-! ### The frames of a collection -/

/-- A collection's frame is noted, and goes out where a node session with its destination is open (R496). -/
theorem sendCollect_cases (kind dest n o c : Nat) (l : List Byte) :
    s.sendCollect kind dest n o c l = s.emit (.log kind dest n c) ∨
    ∃ x payload, s.sendCollect kind dest n o c l =
      ((s.emit (.log kind dest n c)).owSendTo dest .logCollect payload).tookSequence x := by
  unfold sendCollect
  extract_lets u
  cases u.peerOf dest with
  | none => exact .inl rfl
  | some x => exact .inr ⟨x, _, rfl⟩

theorem int_tookSequence (x : NodeSession) (k : Nat) : (s.tookSequence x).int k = s.int k := int_with_trust ..

theorem tookSequence_out (x : NodeSession) : (s.tookSequence x).out = s.out := rfl

theorem int_sendCollect {k : Nat} (kind dest n o c : Nat) (l : List Byte) (h : k ≠ 0x24000B) :
    (s.sendCollect kind dest n o c l).int k = s.int k := by
  rcases sendCollect_cases (s := s) kind dest n o c l with hs | ⟨x, payload, hs⟩ <;> rw [hs]
  · exact int_emit ..
  · rw [int_tookSequence, int_owSendTo _ _ _ _ h, int_emit]

theorem sendCollect_log (kind dest n o c : Nat) (l : List Byte) : (s.sendCollect kind dest n o c l).log = s.log :=
  (State.sendCollect_keep (L := [.od, .line, .trust]) rfl (Keep.refl _ s)).same .log (by decide)

theorem owSendTo_out (dest : Nat) (t : OwType) (l : List Byte) : s.out <+: (s.owSendTo dest t l).out :=
  (State.owSendTo_keep (L := [.od, .line]) rfl (Keep.refl _ s)).out

theorem sendCollect_out (kind dest n o c : Nat) (l : List Byte) :
    s.out ++ [.log kind dest n c] <+: (s.sendCollect kind dest n o c l).out := by
  rcases sendCollect_cases (s := s) kind dest n o c l with hs | ⟨x, payload, hs⟩ <;> rw [hs, ← emit_out]
  rw [tookSequence_out]
  exact owSendTo_out ..

/-! ### A run of a collection -/

theorem mbRespond_log (st : Nat) (data : List Byte) : (s.mbRespond st data).log = s.log := by
  unfold mbRespond mbDeliver raise
  simp only [show ¬ classOf 193 < 64 by decide, if_false, gateEvent_log, act_log, bump_log]

/-- An answer with status 0 makes no report. -/
theorem respond_done_log (w : Writer) (data : List Byte) : (s.respond w 0 data).log = s.log := by
  change (s.answer w 0 data).log = s.log
  unfold answer
  split
  · split
    · exact mbRespond_log ..
    · split <;> rfl
  · split <;> rfl
  · unfold replyAct
    split
    · exact act_log ..
    · rfl

theorem respond_out (w : Writer) (st : Nat) (data : List Byte) : s.out <+: (s.respond w st data).out :=
  (State.respond_keep (L := [.od, .host, .gate, .log, .acts]) rfl (Keep.refl _ s)).out

/-- A run noted in the logbook (R496). -/
def runNoted (s : State) (n : Nat) : State :=
  { s with log := { s.log with collecting := some n, collected := [], collections := n } }

theorem runNoted_parts (n : Nat) : (s.runNoted n).out = s.out ∧
    (s.runNoted n).log = { s.log with collecting := some n, collected := [], collections := n } := ⟨rfl, rfl⟩

theorem runNoted_int (n k : Nat) : (s.runNoted n).int k = s.int k := int_with_log ..

/-- A collection begun, its request still to be sent (R496). -/
def collectionBegun (s : State) : State := (s.opStart 5 0).runNoted (s.log.collections + 1)

theorem opStart_out (k : Nat) (t : Int) : (s.opStart k t).out = s.out := by
  simp only [opStart, opProgress, putBytes_out, put_out, bump_out]

theorem collectionBegun_parts : s.collectionBegun.out = s.out ∧ s.collectionBegun.log = { s.log with
    collecting := some (s.log.collections + 1), collected := [], collections := s.log.collections + 1 } := by
  obtain ⟨hout, hlog⟩ := runNoted_parts (s := s.opStart 5 0) (s.log.collections + 1)
  exact ⟨hout.trans (opStart_out ..), hlog.trans (by rw [opStart_log])⟩

theorem int_opStart_runs (k : Nat) (t : Int) (h : k < 256) : (s.opStart k t).int (Od.key (0x3F00 + k) 1) = 1 := by
  unfold opStart opProgress
  simp (disch := omega) only [Od.key, Nat.add_zero, int_putBytes_ne, int_put_ne, int_bump_ne, int_put_self]

theorem collectionBegun_reads : s.collectionBegun.int 0x3F0501 = 1 ∧ s.collectionBegun.int 0x350301 = s.int 0x350301 := by
  unfold collectionBegun
  rw [runNoted_int, runNoted_int, int_opStart (k := 5) (j := 0x350301) s 0 (by decide)]
  exact ⟨int_opStart_runs 5 0 (by decide), rfl⟩

theorem startCollection_of_idle (h : s.int 0x3F0501 ≠ 1) : ∃ text, s.startCollection =
    (s.collectionBegun.sendCollect 1 (s.nat 0x350301) (s.log.collections + 1) 0 0 text, 0) := by
  have hidle : ¬ s.opRunning 5 = true := fun hr => h (of_decide_eq_true hr)
  have hdest : s.collectionBegun.nat 0x350301 = s.nat 0x350301 := congrArg Int.toNat collectionBegun_reads.2
  rw [← hdest]
  exact ⟨_, if_neg hidle⟩

theorem startCollection_starts (w : Writer) (h : s.int 0x3F0501 ≠ 1) :
    let t := s.startCollection.1.respond w s.startCollection.2 []
    t.log.collecting = some (s.log.collections + 1) ∧ t.log.collected = [] ∧ t.log.collections = s.log.collections + 1 ∧
    t.int 0x3F0501 = 1 ∧ ∃ l, t.out = (s.out ++ [.log 1 (s.nat 0x350301) (s.log.collections + 1) 0]) ++ l := by
  obtain ⟨text, hstart⟩ := startCollection_of_idle h
  obtain ⟨hout, hlog⟩ := collectionBegun_parts (s := s)
  rw [hstart]
  dsimp only
  rw [respond_done_log, sendCollect_log, hlog, int_respond_past _ _ (by decide), int_sendCollect _ _ _ _ _ _ (by decide)]
  refine ⟨rfl, rfl, rfl, collectionBegun_reads.1, ?_⟩
  obtain ⟨l, hl⟩ := (sendCollect_out (s := s.collectionBegun) 1 (s.nat 0x350301) (s.log.collections + 1) 0 0 text).trans
    (respond_out w 0 [])
  exact ⟨l, by rw [← hl, hout]⟩

/-- A collection closed. -/
def collectionClosed (s : State) : State := { s with log := { s.log with collecting := none, collected := [] } }

theorem collectionClosed_int (k : Nat) : s.collectionClosed.int k = s.int k := int_with_log ..

theorem collectionClosed_bytes (k : Nat) : s.collectionClosed.bytes k = s.bytes k := rfl

theorem collectEnd_of_failed {st : Nat} (r : Nat) (h : st ≠ 2) : s.collectEnd st r = (s.opEnd 5 st r).collectionClosed := by
  unfold collectEnd
  rw [if_neg h]
  rfl

theorem collectEnd_of_done (r : Nat) : s.collectEnd 2 r = (((s.putBytes 0x350305 s.log.collected).opProgress 5 10000
    (s.int (Od.key 0x3F05 3)) (s.int (Od.key 0x3F05 3))).opEnd 5 2 r).collectionClosed := by
  unfold collectEnd
  rw [if_pos rfl]
  rfl

theorem collectEnd_fails {st : Nat} (r : Nat) (h : st ≠ 2) : (s.collectEnd st r).log.collecting = none ∧
    (s.collectEnd st r).log.collected = [] ∧ (s.collectEnd st r).int 0x3F0501 = st ∧ (s.collectEnd st r).int 0x3F0506 = r := by
  rw [collectEnd_of_failed r h, collectionClosed_int, collectionClosed_int]
  exact ⟨rfl, rfl, int_opEnd_state _ 5 st r (by decide), int_opEnd_result _ 5 st r (by decide)⟩

theorem collectEnd_publishes (r : Nat) : (s.collectEnd 2 r).log.collecting = none ∧ (s.collectEnd 2 r).log.collected = [] ∧
    (s.collectEnd 2 r).bytes 0x350305 = s.log.collected ∧ (s.collectEnd 2 r).int 0x3F0501 = 2 ∧
    (s.collectEnd 2 r).int 0x3F0506 = r := by
  rw [collectEnd_of_done r, collectionClosed_int, collectionClosed_int, collectionClosed_bytes, bytes_opEnd_image,
    bytes_opProgress_image, bytes_putBytes_self]
  exact ⟨rfl, rfl, rfl, int_opEnd_state _ 5 2 r (by decide), int_opEnd_result _ 5 2 r (by decide)⟩

/-- A chunk taken, before what it shows is counted. -/
def chunkTaken (s : State) (data : List Byte) : State := { s with log := { s.log with collected := s.log.collected ++ data } }

theorem chunkTaken_parts (data : List Byte) : (s.chunkTaken data).log = { s.log with collected := s.log.collected ++ data } ∧
    (s.chunkTaken data).gate = s.gate := ⟨rfl, rfl⟩

theorem collectData_takes {number offset : Nat} (data : List Byte) (hc : s.log.collecting = some number)
    (ho : offset = s.log.collected.length) :
    (s.collectData number offset data).log = { s.log with collected := s.log.collected ++ data } ∧
    (s.collectData number offset data).gate = s.gate := by
  obtain ⟨hlog, hgate⟩ := chunkTaken_parts (s := s) data
  have hput : ∀ (c : Prop) [Decidable c] (v : Int), (if c then (s.chunkTaken data).put 0x350306 v else s.chunkTaken data).log =
      (s.chunkTaken data).log ∧ (if c then (s.chunkTaken data).put 0x350306 v else s.chunkTaken data).gate = s.gate := by
    intro c _ v
    split <;> exact ⟨rfl, rfl⟩
  unfold collectData
  rw [if_pos ⟨hc, ho⟩, opProgress_log, opProgress_gate, ← hlog]
  exact hput _ _

theorem collectArrives_of_own {dest : Nat} (h : dest = s.fuses.identity) (o n m p : Nat) :
    s.collectArrives dest o n m p = s.collectRequest o n m p := if_pos (.inl h)

end State

/-- Settles O36, by how a run starts and ends, and by what a target answers. -/
theorem logbookIsCollected : Obligations.LogbookIsCollected := by
  refine ⟨?_, ?_, ?_, ?_, ?_, ?_, ?_, ?_, ?_⟩
  · exact fun s w v hw h => ⟨_, congrArg Host.Outcome.next (served_accessAct hw), startCollection_starts w h⟩
  · intro s origin destination number mask parts hready hd hopen hroom hnew
    refine congrArg Host.Outcome.next ((served_of_ready hready).trans ((collectArrives_of_own hd ..).trans ?_))
    unfold collectRequest
    rw [if_pos hopen, if_neg (by rw [hnew]; exact Bool.false_ne_true), if_neg (not_le.mpr hroom)]
  · intro s origin destination number mask parts hready hd hopen hfull hnew
    have hrefused : s.collectRequest origin.toNat number.toNat mask.toNat parts.toNat =
        (s.bump 0x350308).sendCollect 4 origin.toNat number.toNat 0 0 [] := by
      unfold collectRequest
      rw [if_pos hopen, if_neg (by rw [hnew]; exact Bool.false_ne_true), if_pos hfull]
    refine ⟨_, congrArg Host.Outcome.next ((served_of_ready hready).trans ((collectArrives_of_own hd ..).trans hrefused)), ?_, ?_, ?_⟩
    · rw [sendCollect_log, bump_log]
    · rw [int_sendCollect _ _ _ _ _ _ (by decide), int_bump_self]
    · exact (sendCollect_out ..).subset (List.mem_append_right _ (List.mem_singleton_self _))
  · intro s origin destination number mask parts hready hd h
    refine congrArg Host.Outcome.next ((served_of_ready hready).trans ((collectArrives_of_own hd ..).trans ?_))
    unfold collectRequest
    rcases h with h | h
    · rw [if_neg (by simp [h])]
    · rw [if_pos h, ite_self]
  · exact fun s number offset data hready hc ho => ⟨_, congrArg Host.Outcome.next (served_of_ready hready), collectData_takes data hc ho⟩
  · exact fun s number hready hc => ⟨_, congrArg Host.Outcome.next ((served_of_ready hready).trans (if_pos hc)), collectEnd_publishes 0⟩
  · exact fun s number code hready hc => ⟨_, congrArg Host.Outcome.next ((served_of_ready hready).trans (if_pos hc)),
      collectEnd_fails code.toNat (by decide)⟩
  · exact fun s hready hc => ⟨_, congrArg Host.Outcome.next ((served_of_ready hready).trans
      (if_pos (Option.isSome_iff_ne_none.mpr hc))), collectEnd_fails 0x10 (by decide)⟩
  · exact fun s origin number hready => congrArg Host.Outcome.next (served_of_ready hready)

end Sys2Proof.Machine

/-!
SUPPORT. The host port (R398, R402, R405 to R410): what a claim, a bit array and the mailbox's handshake write.
-/

namespace Sys2Proof.Machine

open State

theorem highest_zero : Gate.highest 0 = 0 := if_pos rfl

/-- An unmasked vector is not masked. -/
theorem vecMask_unmasked (m : BitVec 4) (x : Fin 4) : (m &&& ~~~ BitVec.ofNat 4 (2 ^ x.val)).getLsbD x.val = false := by
  have hbit : (BitVec.ofNat 4 (2 ^ x.val)).getLsbD x.val = true := by revert x; decide
  rw [BitVec.getLsbD_and, BitVec.getLsbD_not, hbit, Bool.not_true, Bool.and_false, Bool.and_false]

namespace State

variable {s : State}

/-! ### The event gate -/

/-- The gate as a claim of a source leaves it (R407). -/
def claimedGate (g : Gate) (src t : Nat) : Gate :=
  { g with pend := g.pend &&& ~~~ Gate.one src, inServ := g.inServ ||| Gate.one src, server := Tab.set 0 g.server src t }

theorem egTake_of_awake {t : Nat} (ha : s.gate.asleep t = false) (hh : Gate.highest (s.gate.claimable t) ≠ 0) :
    s.egTake t = ((s.bump (0x360014 + t)).setGate (claimedGate s.gate (Gate.highest (s.gate.claimable t)) t),
      Gate.highest (s.gate.claimable t)) := by
  unfold egTake
  rw [ha, if_neg Bool.false_ne_true]
  exact if_neg hh

theorem egTake_of_none {t : Nat} (h : s.gate.asleep t = true ∨ s.gate.claimable t = 0) : s.egTake t = (s, 0) := by
  refine if_pos ?_
  rcases h with h | h
  · exact if_pos h
  · rw [h, highest_zero, ite_self]

theorem egClaim_takes {x : Fin 4} (ha : s.gate.asleep x = false) (hh : Gate.highest (s.gate.claimable x) ≠ 0) :
    (s.egClaim x).gate.pend = s.gate.pend &&& ~~~ Gate.one (Gate.highest (s.gate.claimable x)) ∧
    (s.egClaim x).gate.inServ = s.gate.inServ ||| Gate.one (Gate.highest (s.gate.claimable x)) ∧
    Tab.get 0 (s.egClaim x).gate.server (Gate.highest (s.gate.claimable x)) = x ∧ (s.egClaim x).gate.mask = s.gate.mask ∧
    (s.egClaim x).gate.ovr = s.gate.ovr ∧ (s.egClaim x).int (0x360014 + x) = min (s.int (0x360014 + x) + 1) 0xFFFFFFFF ∧
    (s.egClaim x).out.getLast? = some (.response .host 0 (le 4 (Gate.highest (s.gate.claimable x)))) := by
  unfold egClaim hostAnswer
  rw [egTake_of_awake ha hh]
  dsimp only
  rw [emit_gate, emit_out, int_emit, int_setGate, int_bump_self, setGate_gate_pend, setGate_gate_inServ, setGate_gate_server,
    setGate_gate_mask, setGate_gate_ovr]
  exact ⟨rfl, rfl, Tab.get_set_self .., rfl, rfl, rfl, List.getLast?_concat⟩

theorem egDone_of_server {t src : Nat} (hs : Gate.has s.gate.inServ src = true) (ht : Tab.get 0 s.gate.server src = t)
    (h195 : src ≠ 195) : (s.egDone t src).gate.inServ = s.gate.inServ &&& ~~~ Gate.one src ∧
    (s.egDone t src).gate.pend = s.gate.pend ∧ (s.egDone t src).gate.mask = s.gate.mask ∧ (s.egDone t src).od = s.od := by
  unfold egDone
  rw [if_pos ⟨hs, ht⟩]
  simp only [if_neg h195, msixOne_gate_inServ, msixOne_gate_pend, msixOne_gate_mask, msixOne_od, setGate_gate_inServ,
    setGate_gate_pend, setGate_gate_mask, setGate_od, and_self]

theorem egDone_of_stray {t src : Nat} (h : Gate.has s.gate.inServ src = false ∨ Tab.get 0 s.gate.server src ≠ t) :
    s.egDone t src = s.bump 0x360018 := by
  refine if_neg ?_
  rintro ⟨hs, ht⟩
  rcases h with h | h
  · rw [h] at hs
    exact Bool.false_ne_true hs
  · exact h ht

theorem egPendSet_sets (word : Nat) (v : Word32) :
    (s.egPendSet word v).gate.pend = s.gate.pend ||| (egBits word v &&& ~~~ s.gate.inServ) ∧
    (s.egPendSet word v).gate.ovr = s.gate.ovr ||| (egBits word v &&& s.gate.inServ) ∧
    (s.egPendSet word v).gate.mask = s.gate.mask ∧ (s.egPendSet word v).gate.inServ = s.gate.inServ := by
  unfold egPendSet
  extract_lets m lost u g
  have hgate : g = s.gate := by
    refine foldl_proj State.gate _ (fun x i => ?_) s
    split
    · exact bump_gate ..
    · rfl
  rw [setGate_gate_pend, setGate_gate_ovr, setGate_gate_mask, setGate_gate_inServ]
  dsimp only
  rw [show u.gate = s.gate from hgate, hgate]
  exact ⟨rfl, rfl, rfl, rfl⟩

theorem lockLevel_of_none (h : s.lock.errs = []) :
    s.lockLevel = s.setGate { s.gate with pend := s.gate.pend &&& ~~~ Gate.one 195 } := if_pos h

theorem egPendClr_clears (word : Nat) (v : Word32) (h : s.lock.errs = []) :
    (s.egPendClr word v).gate.pend = s.gate.pend &&& ~~~ egBits word v &&& ~~~ Gate.one 195 ∧
    (s.egPendClr word v).gate.ovr = s.gate.ovr ∧ (s.egPendClr word v).gate.mask = s.gate.mask ∧
    (s.egPendClr word v).gate.inServ = s.gate.inServ ∧ (s.egPendClr word v).od = s.od := by
  unfold egPendClr
  rw [lockLevel_of_none (by rw [setGate_lock]; exact h)]
  simp only [setGate_gate_pend, setGate_gate_ovr, setGate_gate_mask, setGate_gate_inServ, setGate_od, and_self]

theorem egControl_sets (t : Nat) (v : Word32) : (s.egControl t v).gate.tctrl t = v.toNat % 64 ∧
    (∀ y : Nat, y ≠ t → (s.egControl t v).gate.tctrl y = s.gate.tctrl y) ∧ (s.egControl t v).gate.pend = s.gate.pend ∧
    (s.egControl t v).gate.mask = s.gate.mask := by
  unfold egControl Gate.tctrl
  rw [setGate_gate_ctrl, setGate_gate_pend, setGate_gate_mask]
  exact ⟨Tab.get_set_self .., fun y hy => Tab.get_set_ne _ _ _ (Ne.symm hy), rfl, rfl⟩

/-- A vector of the table unmasked, its message still to be sent. -/
def vectorOpened (s : State) (t : Nat) : State :=
  { s with gate := { s.gate with vecMask := s.gate.vecMask &&& ~~~ BitVec.ofNat 4 (2 ^ t)
                                 vecPend := s.gate.vecPend &&& ~~~ BitVec.ofNat 4 (2 ^ t) } }

theorem vectorOpened_parts (t : Nat) : (s.vectorOpened t).gate.vecMask = s.gate.vecMask &&& ~~~ BitVec.ofNat 4 (2 ^ t) ∧
    (s.vectorOpened t).pcie = s.pcie ∧ (s.vectorOpened t).gate.msixEn t = s.gate.msixEn t ∧ (s.vectorOpened t).out = s.out :=
  ⟨rfl, rfl, rfl, rfl⟩

theorem msixUnmask_eq (t : Nat) : s.msixUnmask t =
    (s.vectorOpened t).msixOne t (s.gate.vecPend.getLsbD t && decide (s.gate.claimable t ≠ 0)) := rfl

theorem msixUnmask_sends (x : Fin 4) : (s.msixUnmask x).gate.vecMask = s.gate.vecMask &&& ~~~ BitVec.ofNat 4 (2 ^ x.val) ∧
    (s.gate.vecPend.getLsbD x = true → s.gate.claimable x ≠ 0 → s.pcie = true → s.gate.msixEn x = true →
      (s.msixUnmask x).out = s.out ++ [.msix x.val]) ∧
    (s.gate.vecPend.getLsbD x = false → (s.msixUnmask x).out = s.out) := by
  obtain ⟨hmask, hpcie, hen, hout⟩ := vectorOpened_parts (s := s) x
  rw [msixUnmask_eq]
  refine ⟨by rw [msixOne_gate_vecMask, hmask], fun hp hc hpc he => ?_, fun hp => ?_⟩
  · unfold msixOne
    rw [hp, hpcie, hpc, hen, he, hmask, vecMask_unmasked, decide_eq_true hc, if_pos (by decide), if_neg Bool.false_ne_true, emit_out, hout]
  · rw [hp]
    exact hout

/-! ### The mailbox and the endpoint -/

theorem mbRack_of_last (hr : s.host.resp = true) (hl : s.host.response.length ≤ s.host.roff + s.host.rchk) :
    s.mbRack 1 = { s with host := { s.host with resp := false, proto := false, status := 0, next := false, response := [] } } := by
  unfold mbRack
  rw [if_pos ⟨rfl, hr⟩]
  exact if_neg (not_lt.mpr hl)

/-- A response chunk released, the next still to be delivered. -/
def chunkReleased (s : State) : State := { s with host := { s.host with resp := false, proto := false, status := 0 } }

theorem chunkReleased_response : s.chunkReleased.host.response = s.host.response := rfl

theorem mbRack_of_more (hr : s.host.resp = true) (hl : s.host.roff + s.host.rchk < s.host.response.length) :
    s.mbRack 1 = s.chunkReleased.mbDeliver (s.host.roff + s.host.rchk) := by
  unfold mbRack
  rw [if_pos ⟨rfl, hr⟩]
  exact if_pos hl

theorem mbDeliver_host (o : Nat) : (s.mbDeliver o).host.resp = true ∧ (s.mbDeliver o).host.roff = o ∧
    (s.mbDeliver o).host.rchk = min 1024 (s.host.response.length - o) ∧ (s.mbDeliver o).host.response = s.host.response := by
  unfold mbDeliver
  rw [raise_host]
  refine ⟨rfl, rfl, ?_, rfl⟩
  simp only [List.length_take, List.length_drop]

/-- A step of the handshake marked as refused (R406). -/
def stepRefused (s : State) (status : Nat) : State := { s with host := { s.host with proto := true, status := status } }

theorem mbRefuse_eq (status : Nat) : s.mbRefuse status = ((s.bump 0x360004).stepRefused status).raise 194 status 0 0 := rfl

theorem stepRefused_parts (status : Nat) : (s.stepRefused status).host = { s.host with proto := true, status := status } ∧
    (s.stepRefused status).trust = s.trust ∧ (s.stepRefused status).dict = s.dict := ⟨rfl, rfl, rfl⟩

theorem mbAbort_parts : s.mbAbort.host.request = none ∧ s.mbAbort.host.next = false ∧ s.mbAbort.host.resp = false ∧
    s.mbAbort.host.response = [] ∧ s.mbAbort.trust = s.trust ∧ s.mbAbort.dict = s.dict ∧ s.mbAbort.gate = s.gate ∧
    s.mbAbort.power = s.power ∧ ∀ k, s.mbAbort.int k = s.int k := ⟨rfl, rfl, rfl, rfl, rfl, rfl, rfl, rfl, fun _ => rfl⟩

theorem mbIdle_of_request (hr : s.host.resp = false) (hq : s.host.request ≠ none) :
    s.mbIdle.host.request = none ∧ s.mbIdle.host.proto = true ∧ s.mbIdle.host.status = 0x0D ∧ s.mbIdle.host.next = false ∧
    s.mbIdle.int 0x360004 = min (s.int 0x360004 + 1) 0xFFFFFFFF ∧ s.mbIdle.trust = s.trust ∧ s.mbIdle.dict = s.dict := by
  obtain ⟨hrequest, hnext, -, -, htrust, hdict, -, -, hint⟩ := mbAbort_parts (s := s)
  obtain ⟨hhost, htrust', hdict'⟩ := stepRefused_parts (s := s.mbAbort.bump 0x360004) 0x0D
  have hidle : s.mbIdle = s.mbAbort.mbRefuse 0x0D :=
    (if_neg (by rw [hr]; exact Bool.false_ne_true)).trans (if_pos (Option.isSome_iff_ne_none.mpr hq))
  have hcount : ((s.mbAbort.bump 0x360004).stepRefused 0x0D).int 0x360004 = (s.mbAbort.bump 0x360004).int 0x360004 :=
    int_with_host ..
  rw [hidle, mbRefuse_eq, raise_host, raise_trust, raise_dict, hhost, htrust', hdict', bump_host, bump_trust, bump_dict,
    int_raise_ne _ _ _ _ (by decide) (by decide) (by decide), hcount, int_bump_self, hint, htrust, hdict]
  exact ⟨hrequest, rfl, rfl, hnext, rfl, rfl, rfl⟩

/-- The endpoint reset: its registers and its MSI-X state (R398). -/
def endpointCleared (s : State) : State :=
  { s with host := { s.host with mbLen := 0, mbOff := 0, proto := false, status := 0, rlen := 0, roff := 0, rchk := 0, buf := [],
                                 msixEnabled := false },
           gate := { s.gate with vecMask := 0xF, vecPend := 0 } }

theorem endpointCleared_parts : s.endpointCleared.host = { s.host with
      mbLen := 0, mbOff := 0, proto := false, status := 0, rlen := 0, roff := 0, rchk := 0, buf := [], msixEnabled := false } ∧
    s.endpointCleared.gate = { s.gate with vecMask := 0xF, vecPend := 0 } ∧ s.endpointCleared.power = s.power := ⟨rfl, rfl, rfl⟩

theorem flr_of_up (hup : s.bar0Up = true) (h0 : s.power.hostSel = 0) : s.flr = (s.mbAbort.endPath .host).endpointCleared := by
  unfold flr
  rw [if_neg (by simp [hup, h0])]
  rfl

theorem endPath_parts (p : Path) : (s.endPath p).host = s.host ∧ (s.endPath p).gate = s.gate ∧ (s.endPath p).power = s.power := by
  have h := State.endPath_keep (a1 := p) (L := [.od, .dict, .trust]) rfl (Keep.refl _ s)
  exact ⟨h.same .host (by decide), h.same .gate (by decide), h.same .power (by decide)⟩

theorem flr_clears (hup : s.bar0Up = true) (h0 : s.power.hostSel = 0) : s.flr.host.request = none ∧ s.flr.host.resp = false ∧
    s.flr.host.response = [] ∧ s.flr.host.mbLen = 0 ∧ s.flr.host.mbOff = 0 ∧ s.flr.host.buf = [] ∧ s.flr.host.msixEnabled = false ∧
    s.flr.gate.vecMask = 0xF ∧ s.flr.gate.vecPend = 0 ∧ s.flr.power = s.power ∧ s.flr.gate.pend = s.gate.pend ∧
    s.flr.gate.mask = s.gate.mask := by
  obtain ⟨hrequest, -, hresp, hresponse, -, -, hgate, hpower, -⟩ := mbAbort_parts (s := s)
  obtain ⟨hhost', hgate', hpower'⟩ := endPath_parts (s := s.mbAbort) .host
  obtain ⟨hhost'', hgate'', hpower''⟩ := endpointCleared_parts (s := s.mbAbort.endPath .host)
  rw [flr_of_up hup h0, hhost'', hgate'', hpower'', hhost', hgate', hpower', hgate, hpower]
  dsimp only
  exact ⟨hrequest, hresp, hresponse, rfl, rfl, rfl, rfl, rfl, rfl, rfl, rfl, rfl⟩

/-- The state of the link as the endpoint reports it (R398). -/
def linkTaken (s : State) (up msix : Bool) : State := { s with host := { s.host with linkUp := up, msixEnabled := msix } }

theorem linkTaken_parts (up msix : Bool) : (s.linkTaken up msix).host = { s.host with linkUp := up, msixEnabled := msix } ∧
    (s.linkTaken up msix).power = s.power ∧ (s.linkTaken up msix).dict = s.dict := ⟨rfl, rfl, rfl⟩

theorem pcieLink_of_change {up msix : Bool} (h0 : s.power.hostSel = 0) (hoff : s.power.phase ≠ .off) (hc : s.host.linkUp ≠ up) :
    s.pcieLink up msix = if s.isReady then (s.linkTaken up msix).raise 200 (if up then 1 else 0) 0 0
      else { s.linkTaken up msix with power := { s.power with latched := s.power.latched ||| Gate.one 200 } } := by
  unfold pcieLink
  rw [if_pos ⟨h0, hoff⟩]
  exact if_neg (by simp [hc])

end State

/-- Settles O37, by what each register of the gate writes. -/
theorem gateOffersSources : Obligations.GateOffersSources := by
  refine ⟨?_, ?_, ?_, ?_, ?_, ?_, ?_, ?_, ?_, ?_⟩
  · exact fun s x h ha hh => ⟨s.egClaim x, congrArg Host.Outcome.next (if_pos h), egClaim_takes ha hh⟩
  · intro s x h hn
    refine congrArg Host.Outcome.next ((if_pos h).trans ?_)
    change s.egClaim x = _
    unfold egClaim
    rw [egTake_of_none hn]
    rfl
  · exact fun s x v h hs ht h195 => ⟨_, congrArg Host.Outcome.next (if_pos h), egDone_of_server hs ht h195⟩
  · exact fun s x v h hs => congrArg Host.Outcome.next ((if_pos h).trans (egDone_of_stray hs))
  · exact fun s word v h => ⟨_, congrArg Host.Outcome.next (if_pos h), egPendSet_sets word v⟩
  · exact fun s word v h he => ⟨_, congrArg Host.Outcome.next (if_pos h), egPendClr_clears word v he⟩
  · intro s word v h
    refine ⟨_, _, congrArg Host.Outcome.next (if_pos h), congrArg Host.Outcome.next (if_pos h), ?_⟩
    unfold egMask
    simp only [setGate_gate_mask, setGate_gate_pend, setGate_gate_inServ, if_true, Bool.false_eq_true, if_false, and_self]
  · intro s word v h
    refine ⟨_, _, congrArg Host.Outcome.next (if_pos h), congrArg Host.Outcome.next (if_pos h), ?_⟩
    unfold egOvr
    simp only [setGate_gate_mask, setGate_gate_pend, setGate_gate_ovr, if_true, Bool.false_eq_true, if_false, and_self]
  · exact fun s x v h => ⟨_, congrArg Host.Outcome.next (if_pos h), egControl_sets x v⟩
  · exact fun s x h => ⟨_, congrArg Host.Outcome.next (if_pos h), msixUnmask_sends x⟩

/-- Settles O38, by the branch each step of the handshake takes. -/
theorem hostPortControl : Obligations.HostPortControl := by
  refine ⟨fun s h => congrArg Host.Outcome.next (if_pos h), ?_, ?_, ?_, fun s h => congrArg Host.Outcome.next (if_pos ⟨h, rfl⟩), ?_, ?_, ?_⟩
  · exact fun s h hr hl => congrArg Host.Outcome.next ((if_pos h).trans (mbRack_of_last hr hl))
  · intro s h hr hl
    refine ⟨_, congrArg Host.Outcome.next ((if_pos h).trans (mbRack_of_more hr hl)), ?_⟩
    rw [← chunkReleased_response (s := s)]
    exact mbDeliver_host _
  · exact fun s h hr hq => ⟨_, congrArg Host.Outcome.next (if_pos h), mbIdle_of_request hr hq⟩
  · exact fun s hup h0 => ⟨_, rfl, flr_clears hup h0⟩
  · intro s up msix h0 hready hc
    have hoff : s.power.phase ≠ .off := by
      rw [show s.power.phase = .ready by simpa [isReady] using hready]
      decide
    obtain ⟨hhost, hpower, hdict⟩ := linkTaken_parts (s := s) up msix
    refine ⟨_, congrArg Host.Outcome.next ((pcieLink_of_change h0 hoff hc).trans (if_pos hready)), ?_⟩
    rw [raise_host, raise_power, raise_dict, hhost, hpower, hdict]
    exact ⟨rfl, rfl, rfl, rfl⟩
  · exact fun s up msix h0 hoff hready hc => congrArg Host.Outcome.next ((pcieLink_of_change h0 hoff hc).trans
      (if_neg (by rw [hready]; exact Bool.false_ne_true)))

end Sys2Proof.Machine

/-!
SUPPORT. The rules of the lock (R422 to R433): what sending a message, a failure and a request that gives its tag back
leave of the lock's record and of the dictionary.
-/

namespace Sys2Proof.Machine

open State

namespace State

variable {s : State}

/-! ### The lock's record -/

@[simp] theorem setLock_lock (x : Lock) : (s.setLock x).lock = x := rfl

@[simp] theorem setLock_out (x : Lock) : (s.setLock x).out = s.out := rfl

@[simp] theorem setLock_od (x : Lock) : (s.setLock x).od = s.od := rfl

@[simp] theorem setLock_gate (x : Lock) : (s.setLock x).gate = s.gate := rfl

@[simp] theorem setLock_int (x : Lock) (k : Nat) : (s.setLock x).int k = s.int k := int_with_lock ..

theorem lockLevel_lock : s.lockLevel.lock = s.lock :=
  (State.lockLevel_keep (L := [.gate, .acts]) rfl (Keep.refl _ s)).same .lock (by decide)

theorem int_lockLevel (k : Nat) : s.lockLevel.int k = s.int k := by
  unfold lockLevel
  simp only [int_ite, int_setGate, ite_self]

/-! ### Sending a message -/

theorem lockOpenWater_lock (kind : LockType) (d b : Nat) (m : LockMsg) (k : Nat) : (s.lockOpenWater kind d b m k).lock = s.lock :=
  (State.lockOpenWater_keep (L := [.od, .line]) rfl (Keep.refl _ s)).same .lock (by decide)

theorem int_lockOpenWater {j : Nat} (kind : LockType) (d b : Nat) (m : LockMsg) (k : Nat) (h : j ≠ 0x24000B) :
    (s.lockOpenWater kind d b m k).int j = s.int j := by
  unfold lockOpenWater
  extract_lets p payload
  split
  · exact (int_owQueueUp _ _ _ h).trans (int_emit ..)
  · rfl

/-- A message sent changes the queue alone of the lock's record. -/
theorem sendLock_lock (kind : LockType) (d b : Nat) (m : LockMsg) :
    ∃ q, (s.sendLock kind d b m).lock = { s.lock with outbox := q } := by
  unfold sendLock
  extract_lets lanes slots u record
  have hu : u.lock = s.lock := foldl_proj State.lock _ (fun _ _ => lockOpenWater_lock ..) s
  have hrecord : record = s.lock := hu
  split
  · exact ⟨s.lock.outbox, hu⟩
  · rw [setLock_lock, hrecord]
    exact ⟨_, rfl⟩

theorem int_sendLock {j : Nat} (kind : LockType) (d b : Nat) (m : LockMsg) (h : j ≠ 0x24000B) :
    (s.sendLock kind d b m).int j = s.int j := by
  unfold sendLock
  extract_lets lanes slots u record
  have hu : u.int j = s.int j := int_foldl _ _ fun _ _ _ => int_lockOpenWater _ _ _ _ _ h
  split
  · exact hu
  · exact (setLock_int ..).trans hu

/-- Where every lane has a slot of this node, a message only joins the queue. -/
theorem sendLock_of_slots {kind : LockType} {d b : Nat} {m : LockMsg} (h : s.lockLanes b = [0]) (ho : s.ownsLock 0 = true) :
    s.sendLock kind d b m =
      s.setLock { s.lock with outbox := s.lock.outbox ++ [{ kind := kind, dest := d, berth := b, m := m, left := [0] }] } := by
  unfold sendLock
  simp [h, ho]

theorem sendTx_lock (t : LockTx) : ∃ q, (s.sendTx t).lock = { s.lock with outbox := q } := by
  unfold sendTx
  extract_lets kind
  obtain ⟨q, hq⟩ := sendLock_lock (s := s.act 7 (Sys2Proof.Machine.lockMessage kind t.dest t.berth (s.txMessage t))) kind t.dest t.berth (s.txMessage t)
  exact ⟨q, hq.trans (by rw [act_lock])⟩

theorem int_sendTx {j : Nat} (t : LockTx) (h : j ≠ 0x24000B) : (s.sendTx t).int j = s.int j :=
  (int_sendLock _ _ _ _ h).trans (int_act ..)

/-- A tag batched changes the queue alone. -/
theorem batch_lock (kind : LockType) (m : LockMsg) : ∃ q, (s.batch kind m).lock = { s.lock with outbox := q } := by
  unfold batch
  extract_lets same box
  split
  · exact ⟨_, rfl⟩
  · exact sendLock_lock ..

theorem int_batch {j : Nat} (kind : LockType) (m : LockMsg) (h : j ≠ 0x24000B) : (s.batch kind m).int j = s.int j := by
  unfold batch
  extract_lets same box
  split
  · exact setLock_int ..
  · exact int_sendLock _ _ _ _ h

/-! ### Failures -/

/-- A failure counted and reported (R432). -/
def failureNoted (s : State) (e : LockErr) : State := (s.bump 0x360097).report 37 0x0105 e.cause e.berth e.offset

theorem failureNoted_lock (e : LockErr) : (s.failureNoted e).lock = s.lock := (report_lock ..).trans (bump_lock ..)

theorem failureNoted_count (e : LockErr) : (s.failureNoted e).int 0x360097 = min (s.int 0x360097 + 1) 0xFFFFFFFF :=
  (int_report_ne (k := 0x360097) _ _ _ _ (by decide) (by decide) (by decide)).trans (int_bump_self ..)

theorem lockFailure_eq (e : LockErr) : s.lockFailure e =
    let u := s.failureNoted e
    if u.lock.errs.length < 64 then
      if u.lock.errs = [] then (u.setLock { u.lock with errs := u.lock.errs ++ [e] }).gateEvent 195
      else (u.setLock { u.lock with errs := u.lock.errs ++ [e] }).lockLevel
    else ((u.bump 0x360098).setLock { u.lock with overflow := true }).gateEvent 196 := by
  unfold lockFailure
  simp only [decide_eq_true_eq]
  rfl

/-- A failure is counted, whatever the FIFO takes. -/
theorem lockFailure_count (e : LockErr) : (s.lockFailure e).int 0x360097 = min (s.int 0x360097 + 1) 0xFFFFFFFF := by
  have hcount := failureNoted_count (s := s) e
  rw [lockFailure_eq]
  dsimp only
  generalize s.failureNoted e = u at *
  split
  · split
    · rw [int_gateEvent_ne _ (by decide), setLock_int, hcount]
    · rw [int_lockLevel, setLock_int, hcount]
  · rw [int_gateEvent_ne _ (by decide), setLock_int, int_bump_ne _ (by decide) (by decide), hcount]

/-- A failure leaves the requests. -/
theorem lockFailure_tx (e : LockErr) : (s.lockFailure e).lock.tx = s.lock.tx := by
  rw [← failureNoted_lock (s := s) e, lockFailure_eq]
  dsimp only
  generalize s.failureNoted e = u
  split
  · split
    · rw [gateEvent_lock, setLock_lock]
    · rw [lockLevel_lock, setLock_lock]
  · rw [gateEvent_lock, setLock_lock]

/-- The first failure of an empty FIFO. -/
theorem lockFailure_lock_of_none (e : LockErr) (h : s.lock.errs = []) : (s.lockFailure e).lock = { s.lock with errs := [e] } := by
  have hl := failureNoted_lock (s := s) e
  rw [lockFailure_eq]
  dsimp only
  generalize s.failureNoted e = u at *
  rw [hl, h, if_pos (by decide), if_pos rfl, gateEvent_lock, setLock_lock]
  rfl

theorem lockFailure_out (e : LockErr) : s.out <+: (s.lockFailure e).out :=
  (State.lockFailure_keep (a1 := e) (L := [.od, .gate, .log, .lock, .acts]) rfl (Keep.refl _ s)).out

/-! ### Requests that end -/

theorem fenceCheck_of_idle (h : s.lock.fencePending = false) : s.fenceCheck = s := if_neg (by simp [h])

theorem releaseHeld_of_none (h : s.lock.held = []) : s.releaseHeld = s := by
  unfold releaseHeld
  rw [h]
  rfl

/-- The only request gives its tag back. -/
theorem dropTx_lock_of_one {x : LockTx} (h : s.lock.tx = [x]) : ∃ q, (s.dropTx x).lock = { s.lock with tx := [], outbox := q } := by
  have hnone : [x].filter (fun y => decide (y.tag ≠ x.tag)) = [] := by simp
  unfold dropTx
  rw [setLock_lock, h, hnone]
  exact ⟨_, rfl⟩

theorem dropTx_int (x : LockTx) (k : Nat) : (s.dropTx x).int k = s.int k := setLock_int ..

/-- What a host read that fails answers (R418). -/
def readFailed (s : State) (t : LockTx) : State :=
  match t.host with | some (o, n) => s.completeRead true o (allOnes n) | none => s

theorem completeRead_lock (own : Bool) (o : Nat) (l : List Byte) : (s.completeRead own o l).lock = s.lock := by
  unfold completeRead
  split <;> rfl

theorem completeRead_int (own : Bool) (o : Nat) (l : List Byte) (k : Nat) : (s.completeRead own o l).int k = s.int k := by
  unfold completeRead
  split
  · exact int_emit ..
  · rfl

theorem completeRead_own (o : Nat) (l : List Byte) : s.completeRead true o l = s.emit (.bar2 o l) := if_pos rfl

theorem readFailed_lock (t : LockTx) : (s.readFailed t).lock = s.lock := by
  unfold readFailed
  split
  · exact completeRead_lock ..
  · rfl

theorem readFailed_int (t : LockTx) (k : Nat) : (s.readFailed t).int k = s.int k := by
  unfold readFailed
  split
  · exact completeRead_int ..
  · rfl

/-- The entry of a request that failed (R432). -/
def errorOf (t : LockTx) (cause : Nat) : LockErr :=
  { tag := t.tag, read := t.read, prefetch := t.prefetch, berth := t.berth,
    offset := ((t.berth - 1) * 2 ^ 20 + t.offset) % 2 ^ 26, cause := cause, retries := t.retries }

theorem failTx_of_unfenced {t : LockTx} (cause : Nat) (hf : t.fence = false) :
    s.failTx cause t = (((s.dropTx t).readFailed t).lockFailure (errorOf t cause)).fenceCheck := by
  unfold failTx
  rw [hf]
  simp only [Bool.false_eq_true, if_false]
  rfl

/-- The only request fails, with no fence and no error standing (R431, R432). -/
theorem failTx_of_one {x : LockTx} (cause : Nat) (htx : s.lock.tx = [x]) (hf : x.fence = false)
    (hp : s.lock.fencePending = false) (he : s.lock.errs = []) :
    s.failTx cause x = ((s.dropTx x).readFailed x).lockFailure (errorOf x cause) ∧
    (s.failTx cause x).lock.tx = [] ∧ (s.failTx cause x).lock.errs = [errorOf x cause] ∧
    (s.failTx cause x).lock.held = s.lock.held ∧ (s.failTx cause x).int 0x360097 = min (s.int 0x360097 + 1) 0xFFFFFFFF := by
  obtain ⟨q, hdrop⟩ := dropTx_lock_of_one htx
  have hread : ((s.dropTx x).readFailed x).lock = { s.lock with tx := [], outbox := q } := (readFailed_lock x).trans hdrop
  have hlock := lockFailure_lock_of_none (s := (s.dropTx x).readFailed x) (errorOf x cause) (by rw [hread]; exact he)
  rw [hread] at hlock
  rw [failTx_of_unfenced cause hf, fenceCheck_of_idle (by rw [hlock]; exact hp), lockFailure_count, readFailed_int, dropTx_int, hlock]
  exact ⟨rfl, rfl, rfl, rfl, rfl⟩

end State

end Sys2Proof.Machine

/-!
SUPPORT. The host requests of the lock (R425, R427 to R433): what a request to BAR2 does once it is accepted, waits or is
refused, and what ends one.
-/

namespace Sys2Proof.Machine

open State

namespace State

variable {s : State}

/-! ### Requests of the host -/

theorem atBar2_of_ready {x : Bar2Access} (hready : s.isReady = true) (h0 : s.power.hostSel = 0) (hi : s.inStep = false) :
    s.atBar2 x = .next (s.bar2Request true x) := by
  refine congrArg Host.Outcome.next ((if_pos ⟨hready, h0⟩).trans (if_neg ?_))
  rw [hi]
  exact Bool.false_ne_true

theorem bar2Request_acts {x : Bar2Access} (hh : s.lock.held = []) (hw : s.bar2Waits x = false) :
    s.bar2Request true x = s.bar2Take true x := if_pos ⟨hh, hw⟩

theorem bar2Request_waits {x : Bar2Access} (hw : s.bar2Waits x = true) :
    s.bar2Request true x = s.setLock { s.lock with held := s.lock.held ++ [(true, x)] } :=
  if_neg (by rintro ⟨-, h⟩; rw [hw] at h; exact Bool.false_ne_true h.symm)

/-- A request that R418 accepts: of 1 to 256 bytes within one berth's space. -/
theorem acceptCause_of_range {o n : Nat} (hn : n ≠ 0) (hm : n ≤ 256) (hr : o % 2 ^ 20 + n ≤ 2 ^ 20) : s.acceptCause o n =
    if ((o / 2 ^ 20 + 1 : Nat) : Int) = s.ownBerth then 0 else if s.berthIdentity (o / 2 ^ 20 + 1) = 0 then 3
    else if 1 ≤ s.mooring.stage then 8 else 0 := by
  refine if_neg ?_
  omega

theorem acceptCause_own {o n : Nat} (hn : n ≠ 0) (hm : n ≤ 256) (hr : o % 2 ^ 20 + n ≤ 2 ^ 20)
    (hb : ((o / 2 ^ 20 + 1 : Nat) : Int) = s.ownBerth) : s.acceptCause o n = 0 := by
  rw [acceptCause_of_range hn hm hr, if_pos hb]

theorem acceptCause_other {o n : Nat} (hn : n ≠ 0) (hm : n ≤ 256) (hr : o % 2 ^ 20 + n ≤ 2 ^ 20)
    (hb : ((o / 2 ^ 20 + 1 : Nat) : Int) ≠ s.ownBerth) (hid : s.berthIdentity (o / 2 ^ 20 + 1) ≠ 0) (hst : s.mooring.stage = 0) :
    s.acceptCause o n = 0 := by
  rw [acceptCause_of_range hn hm hr, if_neg hb, if_neg hid, if_neg (by omega)]

theorem acceptCause_empty {o n : Nat} (hn : n ≠ 0) (hm : n ≤ 256) (hr : o % 2 ^ 20 + n ≤ 2 ^ 20)
    (hb : ((o / 2 ^ 20 + 1 : Nat) : Int) ≠ s.ownBerth) (hid : s.berthIdentity (o / 2 ^ 20 + 1) = 0) :
    s.acceptCause o n = 3 := by
  rw [acceptCause_of_range hn hm hr, if_neg hb, if_pos hid]

theorem bar2Waits_own {o : Nat} (hb : ((o / 2 ^ 20 + 1 : Nat) : Int) = s.ownBerth) (data : List Byte) (e : List Bool) (n : Nat) :
    s.bar2Waits (.write o data e) = false ∧ s.bar2Waits (.read o n) = false := by
  unfold bar2Waits
  simp only [ne_eq, hb, not_true_eq_false, and_false, decide_false, Bool.false_and, and_self]

theorem bar2Waits_refused {o n : Nat} (hc : s.acceptCause o n ≠ 0) : s.bar2Waits (.read o n) = false := by
  unfold bar2Waits
  simp only [hc, false_and, decide_false, Bool.false_and]

theorem bar2Waits_write {o : Nat} {data : List Byte} (e : List Bool) (hc : s.acceptCause o data.length = 0)
    (hb : ((o / 2 ^ 20 + 1 : Nat) : Int) ≠ s.ownBerth) : s.bar2Waits (.write o data e) = (s.freeTag false).isNone := by
  unfold bar2Waits
  simp only [hc, ne_eq, hb, not_false_eq_true, and_self, decide_true, Bool.true_and]

theorem bar2Waits_read {o n : Nat} (hc : s.acceptCause o n = 0) (hb : ((o / 2 ^ 20 + 1 : Nat) : Int) ≠ s.ownBerth) :
    s.bar2Waits (.read o n) = (s.freeTag true).isNone := by
  unfold bar2Waits
  simp only [hc, ne_eq, hb, not_false_eq_true, and_self, decide_true, Bool.true_and]

/-! ### The own exchange memory -/

theorem localWrite_exchange {o : Nat} {data : List Byte} (e : List Bool) (h : o + data.length ≤ 0x40000) :
    s.localWrite o data e = s.setLock { s.lock with exchange := exchangeWrite s.lock.exchange o data e } := if_pos (decide_eq_true h)

theorem localRead_exchange {o n : Nat} (h : o + n ≤ 0x40000) : s.localRead o n = (s, memReadAll s.lock.exchange o n) :=
  if_pos (decide_eq_true h)

theorem bar2Write_own {o : Nat} {data : List Byte} (e : List Bool) (hc : s.acceptCause o data.length = 0)
    (hb : ((o / 2 ^ 20 + 1 : Nat) : Int) = s.ownBerth) (hr : s.regionCause (o % 2 ^ 20) data.length true = 0)
    (h : o % 2 ^ 20 + data.length ≤ 0x40000) : s.bar2Write o data e =
      s.setLock { s.lock with exchange := exchangeWrite s.lock.exchange (o % 2 ^ 20) data e } := by
  unfold bar2Write
  rw [if_neg (not_not.mpr hc), if_pos hb, if_pos hr, localWrite_exchange e h]

theorem bar2Read_own {o n : Nat} (hc : s.acceptCause o n = 0) (hb : ((o / 2 ^ 20 + 1 : Nat) : Int) = s.ownBerth)
    (hr : s.regionCause (o % 2 ^ 20) n false = 0) (h : o % 2 ^ 20 + n ≤ 0x40000) : s.bar2Read true o n =
      s.emit (.bar2 o (memReadAll s.lock.exchange (o % 2 ^ 20) n)) := by
  unfold bar2Read
  rw [if_neg (not_not.mpr hc), if_pos hb, if_pos hr, localRead_exchange h]
  exact completeRead_own ..

/-! ### A write to another berth, and a read of an empty one -/

/-- The request of a host write (R425). -/
def writeTx (s : State) (tag o : Nat) (data : List Byte) (e : List Bool) : LockTx :=
  { tag := tag, read := false, dest := s.berthIdentity (o / 2 ^ 20 + 1), berth := o / 2 ^ 20 + 1, offset := o % 2 ^ 20,
    length := data.length, data := data, enables := e, at_ := s.clock.counter }

theorem discardWritten_of_none (h : s.lock.lines = []) (d o n : Nat) : s.discardWritten d o n = s := by
  unfold discardWritten
  rw [h]
  rfl

theorem bar2Write_other {o tag : Nat} {data : List Byte} (e : List Bool) (hc : s.acceptCause o data.length = 0)
    (hb : ((o / 2 ^ 20 + 1 : Nat) : Int) ≠ s.ownBerth) (ht : s.freeTag false = some tag) (hl : s.lock.lines = []) :
    s.bar2Write o data e = ((s.bump 0x360093).setLock { s.lock with tx := s.lock.tx ++ [s.writeTx tag o data e] }).sendTx
      (s.writeTx tag o data e) := by
  unfold bar2Write
  rw [if_neg (not_not.mpr hc), if_neg hb, ht]
  simp only [discardWritten_of_none hl]
  rfl

theorem bar2Write_other_reads {o tag : Nat} {data : List Byte} (e : List Bool) (hc : s.acceptCause o data.length = 0)
    (hb : ((o / 2 ^ 20 + 1 : Nat) : Int) ≠ s.ownBerth) (ht : s.freeTag false = some tag) (hl : s.lock.lines = []) :
    (s.bar2Write o data e).lock.tx = s.lock.tx ++ [s.writeTx tag o data e] ∧
    (s.bar2Write o data e).int 0x360093 = min (s.int 0x360093 + 1) 0xFFFFFFFF ∧
    (s.bar2Write o data e).lock.exchange = s.lock.exchange := by
  rw [bar2Write_other e hc hb ht hl]
  obtain ⟨q, hq⟩ := sendTx_lock
    (s := (s.bump 0x360093).setLock { s.lock with tx := s.lock.tx ++ [s.writeTx tag o data e] }) (s.writeTx tag o data e)
  rw [hq, setLock_lock, int_sendTx _ (by decide), setLock_int, int_bump_self]
  exact ⟨rfl, rfl, rfl⟩

theorem bar2Read_empty {o n : Nat} (hc : s.acceptCause o n = 3) : .bar2 o (List.replicate n 0xFF) ∈ (s.bar2Read true o n).out ∧
    (s.bar2Read true o n).lock.tx = s.lock.tx ∧ (s.bar2Read true o n).int 0x360097 = min (s.int 0x360097 + 1) 0xFFFFFFFF := by
  have hrefused : s.bar2Read true o n = s.refuseHost true true o n 3 := by
    unfold bar2Read
    rw [hc]
    exact if_pos (by decide)
  rw [hrefused]
  unfold refuseHost
  rw [if_pos rfl, completeRead_own, lockFailure_tx, lockFailure_count, int_emit, emit_lock]
  refine ⟨(lockFailure_out _).subset ?_, rfl, rfl⟩
  rw [emit_out]
  exact List.mem_append_right _ (List.mem_singleton_self _)

/-! ### Timeouts -/

/-- A request whose answer does not come fails (R431). -/
def timedOut (s : State) (tag : Nat) : State :=
  match s.lock.tx.find? (fun t => decide (t.tag = tag)) with | some t => (s.failTx 6 t).releaseHeld | none => s

theorem timedOut_of_none (h : s.lock.tx = []) (tag : Nat) : s.timedOut tag = s := by
  unfold timedOut
  rw [h]
  rfl

theorem timedOut_of_one {x : LockTx} (htx : s.lock.tx = [x]) (hh : s.lock.held = []) (hf : x.fence = false)
    (hp : s.lock.fencePending = false) (he : s.lock.errs = []) : s.timedOut x.tag = s.failTx 6 x := by
  obtain ⟨-, -, -, hheld, -⟩ := failTx_of_one 6 htx hf hp he
  have hfind : s.lock.tx.find? (fun t => decide (t.tag = x.tag)) = some x := by simp [htx]
  unfold timedOut
  rw [hfind]
  exact releaseHeld_of_none (hheld.trans hh)

theorem failTx_answers {x : LockTx} {o n : Nat} (cause : Nat) (htx : s.lock.tx = [x]) (hf : x.fence = false)
    (hp : s.lock.fencePending = false) (he : s.lock.errs = []) (hx : x.host = some (o, n)) :
    .bar2 o (List.replicate n 0xFF) ∈ (s.failTx cause x).out := by
  rw [(failTx_of_one cause htx hf hp he).1]
  refine (lockFailure_out _).subset ?_
  unfold readFailed
  rw [hx]
  exact List.mem_append_right _ (List.mem_singleton_self _)

/-! ### The fence, the error FIFO and lines -/

/-- The writes outstanding covered by a fence (R433). -/
def fenced (s : State) : Lock :=
  { s.lock with
    fencePending := true, fenceBad := s.lock.fencePending && s.lock.fenceBad
    tx := s.lock.tx.map (fun t => if t.read then t else { t with fence := true }) }

theorem lockFence_eq : s.lockFence = (s.setLock s.fenced).fenceCheck := rfl

theorem lockFence_waits (h : s.lock.tx.any (fun t => !t.read) = true) : s.lockFence = s.setLock s.fenced := by
  have hany : s.fenced.tx.any (fun t => t.fence) = true := by
    obtain ⟨t, ht, hw⟩ := List.any_eq_true.mp h
    rw [Bool.not_eq_true'] at hw
    exact List.any_eq_true.mpr ⟨{ t with fence := true }, List.mem_map.mpr ⟨t, ht, by rw [hw]; rfl⟩, rfl⟩
  rw [lockFence_eq]
  refine if_neg ?_
  rw [setLock_lock, hany]
  exact fun h => Bool.false_ne_true h.2.symm

theorem lockFence_ends (h : s.lock.tx = []) (hp : s.lock.fencePending = false) : s.lockFence.lock.fencePending = false ∧
    s.lockFence.lock.fenceFailed = false ∧ s.lockFence.lock.tx = [] := by
  have htx : s.fenced.tx = [] := by simp [fenced, h]
  have hbad : s.fenced.fenceBad = false := by simp [fenced, hp]
  have hends : s.lockFence = ((s.setLock s.fenced).setLock
      { s.fenced with fencePending := false, fenceFailed := s.fenced.fenceBad, fenceBad := false }).gateEvent 197 := by
    rw [lockFence_eq]
    refine if_pos ⟨rfl, ?_⟩
    rw [setLock_lock, htx]
    rfl
  rw [hends, gateEvent_lock, setLock_lock]
  exact ⟨rfl, hbad, htx⟩

theorem lockPop_pops {e : LockErr} {q : List LockErr} (h : s.lock.errs = e :: q) : s.lockPop.lock.errs = q ∧
    s.lockPop.lock.overflow = (s.lock.overflow && decide (q ≠ [])) ∧ s.lockPop.lock.tx = s.lock.tx := by
  unfold lockPop
  rw [lockLevel_lock, setLock_lock, h]
  exact ⟨rfl, rfl, rfl⟩

theorem expireLines_of_young (h : ∀ l ∈ s.lock.lines, s.lineAge l < 2) : s.expireLines = s := by
  have hnone : s.lock.lines.filter (fun l => decide (2 ≤ s.lineAge l)) = [] :=
    List.filter_eq_nil_iff.mpr fun l hl => by simpa using h l hl
  unfold expireLines
  rw [hnone]
  rfl

theorem expireLines_of_one {l : LockLine} (h : s.lock.lines = [l]) (ha : 2 ≤ s.lineAge l) (hs : l.sensitive = false)
    (hu : l.used = false) : s.expireLines = (s.setLock { s.lock with lines := [] }).bump 0x360099 := by
  have hkept : unserved l = none := if_neg (by simp [hs])
  have hold : [l].filter (fun l => decide (2 ≤ s.lineAge l)) = [l] := by simp [ha]
  have hdiscard : s.discardLine l = (s.setLock { s.lock with lines := [] }).bump 0x360099 := by
    unfold discardLine
    rw [hkept, hu, h]
    simp
  unfold expireLines
  rw [h, hold]
  exact hdiscard

end State

/-- Settles O39, by the branch that each request, timeout and register takes. -/
theorem hostRequestsOfTheLock : Obligations.HostRequestsOfTheLock := by
  refine ⟨?_, ?_, ?_, ?_, ?_, ?_, ?_, ?_, ?_, ?_, ?_, ?_, ?_, ?_⟩
  · intro s o data e hready h0 hi hh hb hdata hx hm hr
    have hc := acceptCause_own (n := data.length) (by simpa using hdata) hm (by omega) hb
    refine (atBar2_of_ready hready h0 hi).trans (congrArg Host.Outcome.next ?_)
    exact (bar2Request_acts hh (bar2Waits_own hb data e 0).1).trans (bar2Write_own e hc hb hr hx)
  · intro s o data e tag hready h0 hi hh hb hid hst hdata hm hx ht hl
    have hc := acceptCause_other (n := data.length) (by simpa using hdata) hm hx hb hid hst
    refine ⟨s.bar2Write o data e, (atBar2_of_ready hready h0 hi).trans (congrArg Host.Outcome.next ?_), bar2Write_other_reads e hc hb ht hl⟩
    exact bar2Request_acts hh ((bar2Waits_write e hc hb).trans (by rw [ht]; rfl))
  · intro s o data e n hready h0 hi hb hid hst
    refine ⟨fun hdata hm hx ht => ?_, fun hn hm hx ht => ?_⟩
    · have hc := acceptCause_other (n := data.length) (by simpa using hdata) hm hx hb hid hst
      exact (atBar2_of_ready hready h0 hi).trans (congrArg Host.Outcome.next
        (bar2Request_waits ((bar2Waits_write e hc hb).trans (by rw [ht]; rfl))))
    · have hc := acceptCause_other hn hm hx hb hid hst
      exact (atBar2_of_ready hready h0 hi).trans (congrArg Host.Outcome.next
        (bar2Request_waits ((bar2Waits_read hc hb).trans (by rw [ht]; rfl))))
  · intro s o data e n h0
    exact ⟨congrArg Host.Outcome.next (if_neg fun h => h0 h.2), congrArg Host.Outcome.next (if_neg fun h => h0 h.2)⟩
  · intro s o n hready h0 hi hh hb hn hx hm hr
    have hc := acceptCause_own hn hm (by omega) hb
    refine (atBar2_of_ready hready h0 hi).trans (congrArg Host.Outcome.next ?_)
    exact (bar2Request_acts hh (bar2Waits_own hb [] [] n).2).trans (bar2Read_own hc hb hr hx)
  · intro s o n hready h0 hi hh hb hid hn hm hx
    have hc := acceptCause_empty hn hm hx hb hid
    refine ⟨s.bar2Read true o n, (atBar2_of_ready hready h0 hi).trans (congrArg Host.Outcome.next ?_), bar2Read_empty hc⟩
    exact bar2Request_acts hh (bar2Waits_refused (by rw [hc]; decide))
  · exact fun s a b h => ⟨congrArg Host.Outcome.next (served_eq_self (timedOut_of_none h _)),
      congrArg Host.Outcome.next (served_eq_self (timedOut_of_none h _))⟩
  · intro s a x hready htx hh ha hx hf hp he
    obtain ⟨-, htx', herrs, -, hcount⟩ := failTx_of_one 6 htx hf hp he
    refine ⟨s.failTx 6 x, congrArg Host.Outcome.next ((served_of_ready hready).trans ?_), htx', herrs, hcount⟩
    rw [← ha]
    exact timedOut_of_one htx hh hf hp he
  · intro s b x o n hready htx hh hb hx hf hp he
    obtain ⟨-, htx', herrs, -, -⟩ := failTx_of_one 6 htx hf hp he
    refine ⟨s.failTx 6 x, congrArg Host.Outcome.next ((served_of_ready hready).trans ?_), htx', by rw [herrs]; rfl,
      failTx_answers 6 htx hf hp he hx⟩
    rw [← hb]
    exact timedOut_of_one htx hh hf hp he
  · exact fun s h ha => ⟨_, congrArg Host.Outcome.next ((if_pos h).trans ((if_pos rfl).trans (lockFence_waits ha))), rfl, rfl, rfl, rfl⟩
  · exact fun s h htx hp => ⟨_, congrArg Host.Outcome.next ((if_pos h).trans (if_pos rfl)), lockFence_ends htx hp⟩
  · exact fun s e q h he => ⟨_, congrArg Host.Outcome.next ((if_pos h).trans (if_pos rfl)), lockPop_pops he⟩
  · exact fun s hready h => congrArg Host.Outcome.next ((served_of_ready hready).trans (expireLines_of_young h))
  · intro s l hready hl ha hs hu
    refine ⟨_, congrArg Host.Outcome.next ((served_of_ready hready).trans (expireLines_of_one hl ha hs hu)), ?_⟩
    rw [bump_lock, int_bump_self, setLock_lock, setLock_int]
    exact ⟨rfl, rfl, rfl⟩

end Sys2Proof.Machine

/-!
SUPPORT. The lock messages that arrive (R421, R424, R426, R427, R430, R431, R434): a message for this berth that comes for
the first time acts on the state that has noted it.
-/

namespace Sys2Proof.Machine

open State

namespace State

variable {s : State}

/-! ### The first copy of a message -/

/-- The record of the lock with a message noted, in a passage that has seen none before (R424). -/
def sawMessage (s : State) (t : LockType) (m : LockMsg) : State :=
  s.setLock { s.lock with seen := [(m.origin.toNat, t, m.tag)] }

theorem inStep_setLock (x : Lock) : (s.setLock x).inStep = s.inStep := by
  unfold inStep
  rw [setLock_int]
  rfl

theorem lockMessage_foreign {t : LockType} {m : LockMsg} {act : State → State} (h : s.lockForMe m = false) :
    s.lockMessage t m act = s := if_neg (by rw [h]; exact Bool.false_ne_true)

theorem lockMessage_first {t : LockType} {m : LockMsg} {act : State → State} (hi : s.inStep = false)
    (hm : s.lockForMe m = true) (hs : s.lock.seen = []) : s.lockMessage t m act = act (s.sawMessage t m) := by
  unfold lockMessage
  rw [if_pos hm, hs]
  dsimp only [List.contains_nil]
  refine (if_neg Bool.false_ne_true).trans ?_
  have hact : (s.sawMessage t m).replicateShared (s.sawMessage t m).ctNow (.lock t m) act = act (s.sawMessage t m) := by
    unfold replicateShared replicate
    rw [sawMessage, inStep_setLock, hi]
    rfl
  exact hact

theorem served_first {t : LockType} {m : LockMsg} {act : State → State} (hready : s.isReady = true) (hi : s.inStep = false)
    (hm : s.lockForMe m = true) (hs : s.lock.seen = []) :
    s.served (fun s => s.lockMessage t m act) = act (s.sawMessage t m) :=
  (served_of_ready hready).trans (lockMessage_first hi hm hs)

@[simp] theorem sawMessage_int (t : LockType) (m : LockMsg) (k : Nat) : (s.sawMessage t m).int k = s.int k := setLock_int ..

@[simp] theorem sawMessage_out (t : LockType) (m : LockMsg) : (s.sawMessage t m).out = s.out := rfl

@[simp] theorem sawMessage_od (t : LockType) (m : LockMsg) : (s.sawMessage t m).od = s.od := rfl

/-! ### What a change of the lock's record leaves to be read -/

theorem nat_setLock (x : Lock) (k : Nat) : (s.setLock x).nat k = s.nat k := congrArg Int.toNat (setLock_int x k)

theorem regionCause_setLock (x : Lock) (o n : Nat) (w : Bool) : (s.setLock x).regionCause o n w = s.regionCause o n w := by
  unfold regionCause
  simp only [nat_setLock]

theorem lockOpen_setLock (x : Lock) : (s.setLock x).lockOpen = s.lockOpen := by
  unfold lockOpen isPassive
  simp only [flag_eq, setLock_int]
  rfl

theorem inboundCause_of_open {m : LockMsg} {n : Nat} {w : Bool} (x : Lock) (ho : s.lockOpen = true)
    (hr : s.regionCause m.offset n w = 0) : (s.setLock x).inboundCause m n w false = 0 := by
  unfold inboundCause
  rw [lockOpen_setLock, regionCause_setLock, ho, hr]
  rfl

/-! ### Requests in -/

/-- The record of the lock with nothing refused of the origin but what stood before. -/
def admitted (s : State) (m : LockMsg) : State :=
  s.setLock { s.lock with refused := Tab.set [] s.lock.refused m.origin.toNat [] }

theorem admitLock_takes {m : LockMsg} {act : State → State} (h : Tab.get [] s.lock.refused m.origin.toNat = []) :
    s.admitLock m true act = act (s.admitted m) := by
  unfold admitLock
  rw [h]
  rfl

theorem admitLock_refuses {m : LockMsg} {act : State → State} : s.admitLock m false act = s.refuseLock m := by
  unfold admitLock
  exact if_pos (Or.inl rfl)

/-- A write accepted (R426). -/
theorem writeIn_takes {m : LockMsg} (hr : Tab.get [] s.lock.refused m.origin.toNat = []) (ho : s.lockOpen = true)
    (hc : s.regionCause m.offset m.data.length true = 0) (hx : m.offset + m.data.length ≤ 0x40000) :
    s.writeIn m true false = ((((s.admitted m).setLock { (s.admitted m).lock with
      exchange := exchangeWrite s.lock.exchange m.offset m.data m.enables }).bump 0x36009B).batch .ack m) := by
  unfold writeIn
  rw [admitLock_takes hr]
  dsimp only
  have hcause : (s.admitted m).inboundCause m m.data.length true false = 0 := inboundCause_of_open _ ho hc
  rw [hcause, if_neg (not_not.mpr rfl), localWrite_exchange m.enables hx]
  rfl

theorem writeIn_reads {m : LockMsg} (hr : Tab.get [] s.lock.refused m.origin.toNat = []) (ho : s.lockOpen = true)
    (hc : s.regionCause m.offset m.data.length true = 0) (hx : m.offset + m.data.length ≤ 0x40000) :
    (s.writeIn m true false).lock.exchange = exchangeWrite s.lock.exchange m.offset m.data m.enables ∧
    (s.writeIn m true false).int 0x36009B = min (s.int 0x36009B + 1) 0xFFFFFFFF ∧
    (s.writeIn m true false).lock.seen = s.lock.seen := by
  rw [writeIn_takes hr ho hc hx]
  obtain ⟨q, hq⟩ := batch_lock (s := ((s.admitted m).setLock { (s.admitted m).lock with
      exchange := exchangeWrite s.lock.exchange m.offset m.data m.enables }).bump 0x36009B) .ack m
  rw [hq, int_batch _ _ (by decide), int_bump_self, setLock_int, bump_lock, setLock_lock]
  refine ⟨rfl, ?_, rfl⟩
  rw [admitted, setLock_int]

theorem refuseLock_reads {m : LockMsg} (hr : Tab.get [] s.lock.refused m.origin.toNat = []) :
    (s.refuseLock m).lock.exchange = s.lock.exchange ∧ Tab.get [] (s.refuseLock m).lock.refused m.origin.toNat = [m.tag] ∧
    (s.refuseLock m).int 0x360096 = min (s.int 0x360096 + 1) 0xFFFFFFFF := by
  have hset : s.refuseLock m =
      ((s.setLock { s.lock with refused := Tab.set [] s.lock.refused m.origin.toNat [m.tag] }).bump 0x360096).batch .retry m := by
    unfold refuseLock
    rw [hr]
    rfl
  obtain ⟨q, hq⟩ := batch_lock
    (s := (s.setLock { s.lock with refused := Tab.set [] s.lock.refused m.origin.toNat [m.tag] }).bump 0x360096) .retry m
  rw [hset, hq, int_batch _ _ (by decide), int_bump_self, setLock_int, bump_lock, setLock_lock]
  exact ⟨rfl, Tab.get_set_self [] s.lock.refused m.origin.toNat [m.tag], rfl⟩

/-! ### Lanes -/

/-- The counter of inbound requests apart, everything that lanes and slots are judged by is as it was. -/
def SameLine (s t : State) : Prop :=
  (t.pairing = s.pairing ∧ t.unitA = s.unitA ∧ t.pair = s.pair ∧ t.mu = s.mu ∧ t.line = s.line) ∧
  ∀ k, k ≠ 0x36009B → t.int k = s.int k

theorem sameLine_setLock (x : Lock) : SameLine s (s.setLock x) := ⟨⟨rfl, rfl, rfl, rfl, rfl⟩, fun k _ => setLock_int x k⟩

theorem sameLine_bump : SameLine s (s.bump 0x36009B) :=
  ⟨⟨rfl, rfl, rfl, rfl, rfl⟩, fun _ h => int_bump_ne s h.symm (by decide)⟩

theorem SameLine.trans {t u : State} (h : SameLine s t) (g : SameLine t u) : SameLine s u := by
  obtain ⟨⟨hp, hu, hx, hm, hl⟩, hint⟩ := h
  obtain ⟨⟨gp, gu, gx, gm, gl⟩, gint⟩ := g
  exact ⟨⟨gp.trans hp, gu.trans hu, gx.trans hx, gm.trans hm, gl.trans hl⟩, fun k hk => (gint k hk).trans (hint k hk)⟩

theorem SameLine.ownBerth {t : State} (h : SameLine s t) : t.ownBerth = s.ownBerth := by
  obtain ⟨⟨-, -, -, hm, -⟩, hint⟩ := h
  unfold State.ownBerth
  rw [hm, hint _ (by decide)]

theorem SameLine.lockLanes {t : State} (h : SameLine s t) (b : Nat) : t.lockLanes b = s.lockLanes b := by
  have hown := h.ownBerth
  obtain ⟨⟨hp, hu, hx, -, -⟩, hint⟩ := h
  have hdrives : t.drives = s.drives := by
    funext c
    unfold drives silenced
    rw [hp, hu, hx, hint _ (by decide)]
  unfold State.lockLanes
  rw [hown, hdrives]

theorem SameLine.ownsLock {t : State} (h : SameLine s t) (k : Nat) : t.ownsLock k = s.ownsLock k := by
  have hown := h.ownBerth
  obtain ⟨⟨hp, hu, hx, hm, hl⟩, hint⟩ := h
  have hnat (j : Nat) (hj : j ≠ 0x36009B) : t.nat j = s.nat j := congrArg Int.toNat (hint j hj)
  have hpassage : t.passageLen = s.passageLen := hint _ (by decide)
  have hat (i : Int) : t.passageAt i = s.passageAt i := by
    unfold passageAt passage
    rw [hnat _ (by decide)]
  have hframe : t.frameNow = s.frameNow := by
    unfold frameNow frameFor vehicleLimit berthLimit rateCode guardBand
    simp only [hnat _ (show 0x222009 ≠ 0x36009B by decide), hnat _ (show 0x222008 ≠ 0x36009B by decide),
      hnat _ (show 0x2E0001 ≠ 0x36009B by decide), hnat _ (show 0x2E0002 ≠ 0x36009B by decide),
      hnat _ (show 0x2E0004 ≠ 0x36009B by decide), hnat _ (show 0x240006 ≠ 0x36009B by decide)]
  have hlead (p : Nat) : t.leadward p = s.leadward p := by
    unfold leadward leadFore
    rw [hm, hint _ (by decide), hint _ (by decide)]
  have hneighbour (p : Nat) : t.neighbourBerth p = s.neighbourBerth p := by
    unfold neighbourBerth pl
    rw [hl, hlead, hown]
  have hsender (p : Nat) (x : Slot) (i : Int) : t.senderBerth p x i = s.senderBerth p x i := by
    unfold senderBerth rearwardIn
    simp only [hframe, hpassage, hm, hat, hneighbour, hlead]
  unfold State.ownsLock tableAt
  rw [hl, hown]
  simp only [hsender]

/-- An answer to a message goes to its origin, where the lane has a slot of this node. -/
theorem reply_of_slots {u : State} {kind : LockType} {m : LockMsg} {f : LockMsg → LockMsg} (h : SameLine s u)
    (hl : s.lockLanes m.originBerth = [0]) (ho : s.ownsLock 0 = true) :
    u.reply kind m f = u.setLock { u.lock with outbox := u.lock.outbox ++ [{
      kind := kind, dest := m.origin.toNat, berth := m.originBerth, left := [0], m := f {
        origin := BitVec.ofNat 64 u.fuses.identity, originBerth := u.ownBerth.toNat, length := 0, tag := m.tag,
        offset := m.offset, destination := BitVec.ofNat 64 (m.origin.toNat % 2 ^ 32), data := [] } }] } :=
  sendLock_of_slots ((h.lockLanes _).trans hl) ((h.ownsLock 0).trans ho)

/-- A read accepted (R427). -/
theorem readIn_reads {m : LockMsg} (hr : Tab.get [] s.lock.refused m.origin.toNat = []) (ho : s.lockOpen = true)
    (hc : s.regionCause m.offset m.length false = 0) (hx : m.offset + m.length ≤ 0x40000)
    (hl : s.lockLanes m.originBerth = [0]) (hown : s.ownsLock 0 = true) :
    (s.readIn m true false).lock.exchange = s.lock.exchange ∧
    (∃ o, (s.readIn m true false).lock.outbox = s.lock.outbox ++ [o] ∧ o.kind = .readData ∧
      o.m.data = memReadAll s.lock.exchange m.offset m.length ∧ o.m.tag = m.tag ∧ o.dest = m.origin.toNat) ∧
    (s.readIn m true false).int 0x36009B = min (s.int 0x36009B + 1) 0xFFFFFFFF := by
  have hcause : (s.admitted m).inboundCause m m.length false false = 0 := inboundCause_of_open _ ho hc
  have hline : SameLine s ((s.admitted m).bump 0x36009B) := (sameLine_setLock _).trans sameLine_bump
  unfold readIn
  rw [admitLock_takes hr]
  dsimp only
  rw [hcause, if_neg (not_not.mpr rfl), localRead_exchange hx, reply_of_slots hline hl hown, setLock_lock, setLock_int,
    int_bump_self, bump_lock, admitted, setLock_int, setLock_lock]
  exact ⟨rfl, ⟨_, rfl, rfl, rfl, rfl, rfl⟩, rfl⟩

/-! ### Answers -/

theorem txOf_of_one {m : LockMsg} {x : LockTx} {tag : Nat} (h : s.lock.tx = [x]) (ht : x.tag = tag) (hd : x.dest = m.origin.toNat) :
    s.txOf m tag = some x := by
  unfold txOf
  rw [h]
  exact List.find?_cons_of_pos (by simp [ht, hd])

/-- The bytes a host read waits for (R427). -/
theorem readDataIn_answers {m : LockMsg} {x : LockTx} {o n : Nat} (htx : s.lock.tx = [x]) (hh : s.lock.held = [])
    (ht : x.tag = m.tag) (hd : x.dest = m.origin.toNat) (hr : x.read = true) (hp : x.prefetch = false)
    (hx : x.host = some (o, n)) : s.readDataIn m = (s.dropTx x).emit (.bar2 o m.data) := by
  obtain ⟨q, hdrop⟩ := dropTx_lock_of_one htx
  unfold readDataIn
  rw [txOf_of_one htx ht hd]
  dsimp only
  rw [hr, hp, hx, if_neg (by decide), if_neg (by decide)]
  dsimp only
  rw [completeRead_own]
  exact releaseHeld_of_none (by rw [emit_lock, hdrop]; exact hh)

/-- A write acknowledged (R426). -/
theorem ackIn_ends {m : LockMsg} {x : LockTx} (htx : s.lock.tx = [x]) (hh : s.lock.held = []) (ht : m.tags = [x.tag])
    (hd : x.dest = m.origin.toNat) (hr : x.read = false) (hf : s.lock.fencePending = false) : s.ackIn m = s.dropTx x := by
  obtain ⟨q, hdrop⟩ := dropTx_lock_of_one htx
  unfold ackIn
  rw [ht, List.foldl_cons, List.foldl_nil, txOf_of_one htx rfl hd]
  dsimp only
  rw [hr, if_neg Bool.false_ne_true, fenceCheck_of_idle (by rw [hdrop]; exact hf), releaseHeld_of_none (by rw [hdrop]; exact hh)]

/-- A request reported as failed (R431). -/
theorem reportIn_fails {m : LockMsg} {x : LockTx} (htx : s.lock.tx = [x]) (hh : s.lock.held = []) (ht : x.tag = m.tag)
    (hd : x.dest = m.origin.toNat) (hf : x.fence = false) (hp : s.lock.fencePending = false) (he : s.lock.errs = []) :
    s.reportIn m = s.failTx m.cause x := by
  obtain ⟨-, -, -, hheld, -⟩ := failTx_of_one m.cause htx hf hp he
  unfold reportIn
  rw [txOf_of_one htx ht hd]
  exact releaseHeld_of_none (hheld.trans hh)

/-- A request refused once more, within the limit (R430). -/
theorem retryIn_keeps {m : LockMsg} {x : LockTx} (htx : s.lock.tx = [x]) (hh : s.lock.held = []) (ht : m.tags = [x.tag])
    (hd : x.dest = m.origin.toNat) (hl : x.retries + 1 ≤ s.nat 0x360083) : s.retryIn m =
      (s.bump 0x360095).setLock { s.lock with tx := [{ x with retries := x.retries + 1, refused := true }] } := by
  have hlimit (y : Lock) : ((s.bump 0x360095).setLock y).nat 0x360083 = s.nat 0x360083 := by
    rw [nat_setLock, nat_eq, int_bump_ne _ (by decide) (by decide), ← nat_eq]
  unfold retryIn
  rw [ht, List.foldl_cons, List.foldl_nil, txOf_of_one htx rfl hd]
  dsimp only
  rw [hlimit, if_neg (by omega), htx, List.map_cons, List.map_nil, if_pos rfl]
  exact releaseHeld_of_none hh

/-! ### Declarations and summaries -/

theorem declareIn_reads (m : LockMsg) : (Tab.get [] (s.declareIn m).lock.declared m.originBerth).length = 8 ∧
    (∀ b : Nat, b ≠ m.originBerth → Tab.get [] (s.declareIn m).lock.declared b = Tab.get [] s.lock.declared b) ∧
    (s.declareIn m).lock.tx = s.lock.tx := by
  unfold declareIn
  rw [putBytes_lock, setLock_lock]
  exact ⟨by rw [Tab.get_set_self, List.length_map, List.length_range], fun b h => by rw [Tab.get_set_ne _ _ _ h.symm], rfl⟩

theorem setSummary_lock (v : Nat) : (s.setSummary v).lock = { s.lock with summary := v } := by
  unfold setSummary
  dsimp only
  split
  · rw [gateEvent_lock, setLock_lock]
  · rfl

theorem setSummary_int {k : Nat} (v : Nat) (h : k / 256 ≠ 0x36C6) : (s.setSummary v).int k = s.int k := by
  unfold setSummary
  dsimp only
  split
  · rw [int_gateEvent_ne _ h, setLock_int]
  · exact setLock_int ..

theorem summaryStale_of_silent {b : Nat} (h : 4 ≤ Tab.get 0 s.lock.silent b) : s.summaryStale b =
    (s.put 0x36009D (Nat.lor (s.nat 0x36009D) (2 ^ (b - 1)) : Nat)).setSummary (s.lock.summary - Nat.land s.lock.summary (2 ^ (b - 1))) :=
  if_pos h

end State

/-- Settles O40: the first copy of a message acts on the state that has noted it, by the rule of its type. -/
theorem lockMessagesAct : Obligations.LockMessagesAct := by
  refine ⟨?_, ?_, ?_, ?_, ?_, ?_, ?_, ?_, ?_, ?_, ?_, ?_⟩
  · intro s m free ecc h
    have hforeign (t : LockType) (act : State → State) :
        (Host.Outcome.next (s.served fun s => s.lockMessage t m act) : Res) = .next s :=
      congrArg Host.Outcome.next (served_eq_self (lockMessage_foreign h))
    exact ⟨hforeign .write _, hforeign .read _, hforeign .readData _, hforeign .ack _, hforeign .report _, hforeign .retry _,
      hforeign .declare _, hforeign .summaryPoll _, hforeign .summary _⟩
  · intro s m hready hi hm hs hr ho hc hx
    obtain ⟨hex, hcount, hseen⟩ := writeIn_reads (s := s.sawMessage .write m) hr ((lockOpen_setLock _).trans ho)
      ((regionCause_setLock ..).trans hc) hx
    exact ⟨_, congrArg Host.Outcome.next (served_first hready hi hm hs), hex, hcount.trans (by rw [sawMessage_int]), hseen⟩
  · intro s m ecc hready hi hm hs hr
    obtain ⟨hex, href, hcount⟩ := refuseLock_reads (s := s.sawMessage .write m) hr
    exact ⟨_, congrArg Host.Outcome.next ((served_first hready hi hm hs).trans admitLock_refuses), hex, href,
      hcount.trans (by rw [sawMessage_int])⟩
  · intro s m hready hi hm hs hr ho hc hx hl hown
    have hline : SameLine s (s.sawMessage .read m) := sameLine_setLock _
    obtain ⟨hex, ⟨o, hbox, hkind, hdata, htag, hdest⟩, hcount⟩ := readIn_reads (s := s.sawMessage .read m) hr
      ((lockOpen_setLock _).trans ho) ((regionCause_setLock ..).trans hc) hx ((hline.lockLanes _).trans hl) ((hline.ownsLock 0).trans hown)
    exact ⟨_, o, congrArg Host.Outcome.next (served_first hready hi hm hs), hex, hbox, hkind, hdata, htag, hdest,
      hcount.trans (by rw [sawMessage_int])⟩
  · intro s m x o n hready hi hm hs htx hh ht hd hr hp hx
    obtain ⟨q, hdrop⟩ := dropTx_lock_of_one (s := s.sawMessage .readData m) htx
    refine ⟨_, congrArg Host.Outcome.next ((served_first hready hi hm hs).trans (readDataIn_answers htx hh ht hd hr hp hx)), ?_, rfl, rfl⟩
    rw [emit_lock, hdrop]
  · intro s m x hready hi hm hs htx hh ht hd hr hf
    obtain ⟨q, hdrop⟩ := dropTx_lock_of_one (s := s.sawMessage .ack m) htx
    refine ⟨_, congrArg Host.Outcome.next ((served_first hready hi hm hs).trans (ackIn_ends htx hh ht hd hr hf)), ?_, ?_, rfl, rfl⟩
    all_goals rw [hdrop]
    rfl
  · intro s m x hready hi hm hs htx hh ht hd hhost hf hp he
    obtain ⟨-, htx', herrs, -, hcount⟩ := failTx_of_one (s := s.sawMessage .report m) m.cause htx hf hp he
    exact ⟨_, congrArg Host.Outcome.next ((served_first hready hi hm hs).trans (reportIn_fails htx hh ht hd hf hp he)), htx',
      by rw [herrs]; rfl, hcount.trans (by rw [sawMessage_int])⟩
  · intro s m x hready hi hm hs htx hh ht hd hl
    have hretry := retryIn_keeps (s := s.sawMessage .retry m) htx hh ht hd (by rw [sawMessage, nat_setLock]; exact hl)
    refine ⟨_, congrArg Host.Outcome.next ((served_first hready hi hm hs).trans hretry), rfl, ?_⟩
    rw [setLock_int, int_bump_self, sawMessage_int]
  · exact fun s m hready hi hm hs => ⟨_, congrArg Host.Outcome.next (served_first hready hi hm hs),
      declareIn_reads (s := s.sawMessage .declare m) m⟩
  · intro s m hready hi hm hs hl hown
    have hreply := reply_of_slots (kind := .summary) (f := fun r => { r with
      data := [if (s.sawMessage .summaryPoll m).summaryBit then 1 else 0], length := 1 })
      (sameLine_setLock { s.lock with seen := [(m.origin.toNat, .summaryPoll, m.tag)] }) hl hown
    refine ⟨_, _, congrArg Host.Outcome.next ((served_first hready hi hm hs).trans hreply), rfl, rfl, rfl, rfl, rfl, rfl⟩
  · exact fun s m hready hi hm hs => congrArg Host.Outcome.next (served_first hready hi hm hs)
  · intro s b hready
    refine ⟨fun h => ?_, fun h => congrArg Host.Outcome.next (served_eq_self (if_neg (by omega)))⟩
    refine ⟨_, congrArg Host.Outcome.next ((served_of_ready hready).trans (summaryStale_of_silent h)), ?_, ?_⟩
    · rw [setSummary_lock]
      rfl
    · rw [setSummary_int _ (by decide), int_put_self]
      rfl

end Sys2Proof.Machine

/-!
SUPPORT. Cameras between frames (R27, R34, R41, R48, R50): what a pulse, its exposure write and a change of the camera's
state leave of its record, of the dictionary and of the bus.
-/

namespace Sys2Proof.Machine

open State

namespace State

variable {s : State}

/-! ### The record of a camera -/

@[simp] theorem cam_setCam_self (n : Nat) (c : Camera) : (s.setCam n c).cam n = c := Tab.get_set_self ..

theorem cam_setCam_ne {m n : Nat} (c : Camera) (h : n ≠ m) : (s.setCam n c).cam m = s.cam m := Tab.get_set_ne _ _ _ h

@[simp] theorem setCam_int (n : Nat) (c : Camera) (k : Nat) : (s.setCam n c).int k = s.int k := int_with_video ..

@[simp] theorem setCam_out (n : Nat) (c : Camera) : (s.setCam n c).out = s.out := rfl

@[simp] theorem setCam_od (n : Nat) (c : Camera) : (s.setCam n c).od = s.od := rfl

theorem cam_of_video {t : State} (h : t.video = s.video) (n : Nat) : t.cam n = s.cam n := by
  unfold cam
  rw [h]

theorem cam_put (k : Nat) (v : Int) (n : Nat) : (s.put k v).cam n = s.cam n := cam_of_video (put_video ..) n

theorem cam_bump (k n : Nat) : (s.bump k).cam n = s.cam n := rfl

theorem cam_raise (a b c d n : Nat) : (s.raise a b c d).cam n = s.cam n := cam_of_video (raise_video ..) n

/-! ### The entries of a camera -/

theorem not_feeds_camSt {n c : Nat} (hn : n < 8) (hc : c < 256) : ¬ Feeds (camSt n + c) := by
  rw [camSt, key_add]
  exact not_feeds_key (by omega) hc

theorem not_feeds_camCnt {n c : Nat} (hn : n < 8) (hc : c < 256) : ¬ Feeds (camCnt n + c) := by
  rw [camCnt, key_add]
  exact not_feeds_key (by omega) hc

theorem not_feeds_pipeSt {n c : Nat} (hn : n < 8) (hc : c < 256) : ¬ Feeds (pipeSt n + c) := by
  rw [pipeSt, key_add]
  exact not_feeds_key (by omega) hc

/-- A camera with its exposure write and schedule alone changed (R34). -/
def Rescheduled (c d : Camera) : Prop := ∃ w l, d = { c with write := w, schedule := l }

theorem Rescheduled.refl (c : Camera) : Rescheduled c c := ⟨c.write, c.schedule, rfl⟩

theorem Rescheduled.trans {a b c : Camera} (h : Rescheduled a b) (g : Rescheduled b c) : Rescheduled a c := by
  obtain ⟨w, l, rfl⟩ := h
  obtain ⟨w', l', rfl⟩ := g
  exact ⟨w', l', rfl⟩

theorem rescheduled_setCam (n m : Nat) {d : Camera} (h : Rescheduled (s.cam n) d) : Rescheduled (s.cam m) ((s.setCam n d).cam m) := by
  by_cases hm : n = m
  · subst hm
    rw [cam_setCam_self]
    exact h
  · rw [cam_setCam_ne _ hm]
    exact .refl _

/-! ### The bus -/

/-- A free bus that takes what waits changes an exposure write alone of a camera. -/
theorem busNext_cam (p m : Nat) : Rescheduled (s.cam m) ((s.busNext p).cam m) := by
  unfold busNext
  split
  · exact .refl _
  · split
    · next n w _ => exact rescheduled_setCam n m ⟨some { w with sent := true }, (s.cam n).schedule, rfl⟩
    · split
      · exact .refl _
      · split
        · split
          · exact .refl _
          · exact .refl _
        · exact .refl _

theorem int_busNext (p k : Nat) : (s.busNext p).int k = s.int k := by
  unfold busNext
  split
  · rfl
  · split
    · rfl
    · split
      · rfl
      · split
        · split
          · rfl
          · rfl
        · rfl

/-! ### The exposure write of a pulse -/

theorem issueExposure_cam (n frame eff : Nat) : Rescheduled (s.cam n) ((s.issueExposure n frame eff).cam n) := by
  unfold issueExposure
  extract_lets c keep c'
  split
  · rw [cam_setCam_self]
    exact ⟨none, c'.schedule, rfl⟩
  · refine Rescheduled.trans ?_ (busNext_cam _ n)
    rw [cam_setCam_self]
    exact ⟨some { frame := frame, eff := eff }, c'.schedule, rfl⟩

theorem int_issueExposure (n frame eff k : Nat) : (s.issueExposure n frame eff).int k = s.int k := by
  unfold issueExposure
  extract_lets c keep c'
  split
  · exact setCam_int ..
  · rw [int_busNext, setCam_int]

theorem issueExposure_network {n : Nat} (frame eff : Nat) (h : s.isNetwork n = true) : (s.issueExposure n frame eff).out = s.out := by
  unfold issueExposure
  extract_lets c keep c'
  rw [if_pos h, setCam_out]

theorem exposureWrite_cam (n k : Nat) : Rescheduled (s.cam n) ((s.exposureWrite n k).cam n) := by
  unfold exposureWrite
  extract_lets c last want
  split
  · refine Rescheduled.trans ?_ (issueExposure_cam ..)
    rw [cam_setCam_self]
    exact ⟨c.write, _, rfl⟩
  · split
    · exact .refl _
    · exact issueExposure_cam ..

theorem int_exposureWrite {n j : Nat} (k : Nat) (hn : n < 8) (h : j ≠ camCnt n + 0xD) : (s.exposureWrite n k).int j = s.int j := by
  unfold exposureWrite
  extract_lets c last want
  split
  · rw [int_issueExposure, setCam_int, int_bump_ne _ h.symm (not_feeds_camCnt hn (by decide))]
  · split
    · rfl
    · exact int_issueExposure ..

theorem isNetwork_of_int {t : State} {n : Nat} (h : t.int (camDef n + 3) = s.int (camDef n + 3)) : t.isNetwork n = s.isNetwork n := by
  unfold isNetwork camSource
  rw [nat_eq, h, nat_eq]

theorem exposureWrite_network {n : Nat} (k : Nat) (hn : n < 8) (h : s.isNetwork n = true) : (s.exposureWrite n k).out = s.out := by
  unfold exposureWrite
  extract_lets c last want
  split
  · refine (issueExposure_network _ _ ?_).trans ?_
    · refine (isNetwork_of_int ?_).trans h
      rw [setCam_int, int_bump_ne _ ?_ (not_feeds_camCnt hn (by decide))]
      simp only [camCnt, camDef, Od.key]
      omega
    · rfl
  · split
    · rfl
    · exact issueExposure_network _ _ h

/-! ### The pulse of a frame -/

theorem filter_insert_of_not {p : Nat × Val → Bool} {k : Nat} {v : Val} (h : ∀ w, p (k, w) = false) :
    ∀ l : Store, (Tab.insert l k v).filter p = l.filter p
  | [] => by simp [Tab.insert, h]
  | (j, w) :: t => by
    unfold Tab.insert
    split
    · rw [List.filter_cons_of_neg (by simp [h])]
    · split
      · next hj =>
        subst hj
        rw [List.filter_cons_of_neg (by simp [h]), List.filter_cons_of_neg (by simp [h])]
      · rw [List.filter_cons, List.filter_cons, filter_insert_of_not h t]

theorem filter_set_of_not {p : Nat × Val → Bool} {k : Nat} {v : Val} (h : ∀ w, p (k, w) = false) (l : Store) :
    (Store.set l k v).filter p = l.filter p := by
  unfold Store.set
  split
  · unfold Tab.erase
    rw [List.filter_filter]
    refine List.filter_congr fun e _ => ?_
    obtain ⟨j, w⟩ := e
    by_cases hj : j = k
    · subst hj
      simp [h]
    · simp [hj]
  · exact filter_insert_of_not h l

/-- The count of exposures held short is no setting of a slot. -/
theorem slotCfg_bump (n : Nat) : (s.bump (pipeSt n + 3)).slotCfg n = s.slotCfg n := by
  unfold slotCfg
  rw [bump_od]
  refine filter_set_of_not (fun w => ?_) _
  have hindex : Od.indexOf (pipeSt n + 3) = 0x28A0 + n := by
    simp only [Od.indexOf, pipeSt, Od.key]
    omega
  simp only [hindex, decide_eq_false_iff_not]
  omega

/-- The frame that a pulse expects (R41). -/
def awaited (s : State) (n : Nat) (at_ : Int) : Expected :=
  { k := (s.cam n).nextK, at_ := at_, exposure := s.exposureOf n (s.cam n).nextK, cfg := s.slotCfg n }

/-- The camera once the pulse of its next frame has gone out. -/
def pulsed (s : State) (n : Nat) (at_ : Int) : Camera :=
  { s.cam n with expect := some (s.awaited n at_), overdue := false, nextK := (s.cam n).nextK + 1 }

theorem framePulse_cam (n : Nat) (at_ : Int) : Rescheduled (s.pulsed n at_) ((s.framePulse n at_).cam n) := by
  unfold framePulse
  extract_lets k e u x src v
  have hcam : u.cam n = s.cam n := by
    unfold u
    split
    · exact cam_bump ..
    · rfl
  have hcfg : u.slotCfg n = s.slotCfg n := by
    unfold u
    split
    · exact slotCfg_bump n
    · rfl
  have hx : x = s.awaited n at_ := by
    unfold x awaited
    rw [hcfg]
  have hv : v.cam n = s.pulsed n at_ := by
    unfold v src pulsed
    rw [cam_setCam_self, hcam, hx]
  rw [← hv]
  exact exposureWrite_cam ..

theorem int_framePulse {n j : Nat} (at_ : Int) (hn : n < 8) (hp : j ≠ pipeSt n + 3) (hc : j ≠ camCnt n + 0xD) :
    (s.framePulse n at_).int j = s.int j := by
  unfold framePulse
  extract_lets k e u x v
  have hu : u.int j = s.int j := by
    unfold u
    split
    · exact int_bump_ne _ hp.symm (not_feeds_pipeSt hn (by decide))
    · rfl
  rw [int_exposureWrite k hn hc]
  exact (setCam_int ..).trans hu

theorem framePulse_network {n : Nat} (at_ : Int) (hn : n < 8) (h : s.isNetwork n = true) : (s.framePulse n at_).out = s.out := by
  unfold framePulse
  extract_lets k e u x v
  have hint : u.int (camDef n + 3) = s.int (camDef n + 3) := by
    unfold u
    split
    · refine int_bump_ne _ ?_ (not_feeds_pipeSt hn (by decide))
      simp only [pipeSt, camDef, Od.key]
      omega
    · rfl
  have hout : u.out = s.out := by
    unfold u
    split
    · rfl
    · rfl
  refine (exposureWrite_network k hn ?_).trans ((setCam_out ..).trans hout)
  exact (isNetwork_of_int ((setCam_int ..).trans hint)).trans h

theorem framePulse_clock (n : Nat) (at_ : Int) : (s.framePulse n at_).clock = s.clock :=
  (State.framePulse_keep (a1 := n) (a2 := at_) (L := [.od, .video]) rfl (Keep.refl _ s)).same .clock (by decide)

/-! ### The pulse of a local camera (R41) -/

theorem placeEdge_out (i : Nat) (v : View) (t : Int) (w : Nat) : (s.placeEdge i v t w).out = s.out := act_out ..

theorem placeEdge_cam (i : Nat) (v : View) (t : Int) (w n : Nat) : (s.placeEdge i v t w).cam n = s.cam n :=
  cam_of_video (act_video ..) n

theorem placeEdge_instant (i : Nat) (v : View) (t : Int) (w : Nat) :
    ((s.placeEdge i v t w).pulse i).tick = (v.steps t).toNat / 32 ∧ ((s.placeEdge i v t w).pulse i).fine = (v.steps t).toNat % 32 := by
  unfold placeEdge
  dsimp only
  rw [pulse_setPulse_self]
  exact ⟨rfl, rfl⟩

/-- The pulse sent (R41). -/
def pulseSent (s : State) (n : Nat) : State :=
  (s.framePulse n (s.pulseInstant n (s.cam n).nextK)).emit (.genlock n (s.pulseInstant n (s.cam n).nextK))

theorem genlockPulse_eq {n : Nat} (hp : s.pulsing n = true) (hl : s.isNetwork n = false) (hg : s.int (camDef n + 0x10) = 1)
    (hct : s.ctValid = true) (hn : n < 8) : s.genlockPulse n =
      if s.nat (camDef n + 0x11) < 12 then
        (s.pulseSent n).placeEdge (s.nat (camDef n + 0x11)) s.clock.ct (s.pulseInstant n (s.cam n).nextK) (s.nat (camDef n + 0x12))
      else s.pulseSent n := by
  have hnat (c : Nat) (hc : c < 256) : (s.pulseSent n).nat (camDef n + c) = s.nat (camDef n + c) := by
    refine congrArg Int.toNat ((int_emit ..).trans (int_framePulse _ hn ?_ ?_))
    · simp only [camDef, pipeSt, Od.key]
      omega
    · simp only [camDef, camCnt, Od.key]
      omega
  have hclock : (s.pulseSent n).clock = s.clock := (emit_clock ..).trans (framePulse_clock ..)
  unfold genlockPulse
  rw [if_pos ⟨hp, hl, hg, hct⟩]
  change (if (s.pulseSent n).nat (camDef n + 0x11) < 12 then (s.pulseSent n).placeEdge ((s.pulseSent n).nat (camDef n + 0x11))
    (s.pulseSent n).clock.ct (s.pulseInstant n (s.cam n).nextK) ((s.pulseSent n).nat (camDef n + 0x12)) else s.pulseSent n) = _
  rw [hnat 0x11 (by decide), hnat 0x12 (by decide), hclock]

theorem pulseSent_cam (n : Nat) : Rescheduled (s.pulsed n (s.pulseInstant n (s.cam n).nextK)) ((s.pulseSent n).cam n) := framePulse_cam ..

/-- The camera and the last message, with the chosen time pulse output driven or not. -/
theorem genlockPulse_parts {n : Nat} (hp : s.pulsing n = true) (hl : s.isNetwork n = false) (hg : s.int (camDef n + 0x10) = 1)
    (hct : s.ctValid = true) (hn : n < 8) :
    (s.genlockPulse n).out = (s.pulseSent n).out ∧ (s.genlockPulse n).cam n = (s.pulseSent n).cam n := by
  rw [genlockPulse_eq hp hl hg hct hn]
  split
  · exact ⟨placeEdge_out .., placeEdge_cam ..⟩
  · exact ⟨rfl, rfl⟩

/-! ### The trigger of a network camera (R37) -/

/-- The trigger message as it leaves the star port (R159). -/
def triggerOut (s : State) (p n : Nat) (payload : List Byte) : Out :=
  .star p 1 (starFrame (Config.endpointAddress n) (s.starHeader 0xA payload.length) s.fuses.identity s.fuses.identity
    (s.starSequence p 0xA) s.ct32 payload)

theorem starSend_trigger (p n : Nat) (payload : List Byte) : (s.starSend p (.trigger n payload)).out =
    s.out ++ [(s.tookFree.starLeaves p 86).triggerOut p n payload] := rfl

theorem int_bump_of_default {k j : Nat} (h : k ≠ j) (hd : Od.default? j ≠ none) : (s.bump k).int j = s.int j :=
  int_put_of_default _ h hd

/-- What the header of a message on a star port is made of. -/
def HeaderEntry (k : Nat) : Prop :=
  k = 0x222001 ∨ k = 0x222002 ∨ k = 0x240002 ∨ k = 0x240003 ∨ k = 0x240004 ∨ k = 0x260001

theorem ct32_of_reads {t : State} (hcounter : t.clock.counter = s.clock.counter) (hct : t.clock.ct = s.clock.ct)
    (hint : t.int 0x260001 = s.int 0x260001) : t.ct32 = s.ct32 := by
  unfold ct32 ct32At ctValid timeState ctAt
  rw [hcounter, hct, hint]

theorem triggerOut_of_reads {t : State} (p n : Nat) (payload : List Byte) (hparts : t.mu = s.mu ∧ t.fuses = s.fuses ∧ t.line = s.line)
    (hclock : t.clock.counter = s.clock.counter ∧ t.clock.ct = s.clock.ct) (hint : ∀ k, HeaderEntry k → t.int k = s.int k) :
    t.triggerOut p n payload = s.triggerOut p n payload := by
  obtain ⟨hmu, hfuses, hline⟩ := hparts
  have hnat (k : Nat) (hk : HeaderEntry k) : t.nat k = s.nat k := congrArg Int.toNat (hint k hk)
  have hct : t.ct32 = s.ct32 := ct32_of_reads hclock.1 hclock.2 (hint _ (by unfold HeaderEntry; decide))
  have hheader (a b : Nat) : t.starHeader a b = s.starHeader a b := by
    unfold starHeader isPassive flight passage
    rw [hmu, hnat 0x222001 (by unfold HeaderEntry; decide), hnat 0x222002 (by unfold HeaderEntry; decide),
      hnat 0x240002 (by unfold HeaderEntry; decide), hnat 0x240003 (by unfold HeaderEntry; decide),
      hnat 0x240004 (by unfold HeaderEntry; decide)]
  unfold triggerOut starSequence
  rw [hheader, hfuses, hline, hct]

theorem triggerOut_starLeaves (p n b : Nat) (payload : List Byte) :
    (s.tookFree.starLeaves p b).triggerOut p n payload = s.triggerOut p n payload := by
  refine triggerOut_of_reads p n payload ⟨rfl, rfl, rfl⟩ ⟨rfl, rfl⟩ fun k hk => ?_
  unfold starLeaves
  have hdefault : Od.default? k ≠ none := by
    rcases hk with rfl | rfl | rfl | rfl | rfl | rfl
    all_goals decide +kernel
  rw [int_setStar, int_bump_of_default ?_ hdefault, int_tookFree]
  unfold HeaderEntry at hk
  simp only [Od.key]
  omega

theorem triggerOut_starEmptied (p n q : Nat) (x : StarItem) (payload : List Byte) :
    (s.starEmptied q x).triggerOut p n payload = s.triggerOut p n payload :=
  triggerOut_of_reads p n payload ⟨rfl, rfl, rfl⟩ ⟨rfl, rfl⟩ fun k _ => int_starEmptied x k

/-- Everything but the counts of a camera's pulse that the sending of a trigger message reads. -/
def SamePort (s t : State) (n : Nat) : Prop :=
  (t.mu = s.mu ∧ t.fuses = s.fuses ∧ t.line = s.line ∧ t.clock = s.clock) ∧
  ∀ j, j ≠ pipeSt n + 3 → j ≠ camCnt n + 0xD → t.int j = s.int j

theorem SamePort.starFree {t : State} {n : Nat} (h : SamePort s t n) (p b : Nat) : t.starFree p b = s.starFree p b := by
  obtain ⟨⟨-, -, -, hclock⟩, hint⟩ := h
  have hkey (x c : Nat) (hc : c < 0xD ∧ c ≠ 3) : t.int (Od.key x c) = s.int (Od.key x c) := by
    refine hint _ ?_ ?_
    · simp only [pipeSt, Od.key]
      omega
    · simp only [camCnt, Od.key]
      omega
  have hnat (k : Nat) (hk : t.int k = s.int k) : t.nat k = s.nat k := congrArg Int.toNat hk
  have hlen : t.passageLen = s.passageLen := hkey 0x2400 5 (by decide)
  have hstate : t.timeState = s.timeState := hkey 0x2600 1 (by decide)
  have hct : t.ctValid = s.ctValid := by
    unfold ctValid
    rw [hstate]
  have hnow : t.ctNow = s.ctNow := by
    unfold ctNow ctAt
    rw [hclock]
  have hstart : t.passageStart = s.passageStart := by
    unfold passageStart passage
    rw [hclock, hlen, hnat 0x240004 (hkey 0x2400 4 (by decide))]
  have hticks : t.starTicks p b = s.starTicks p b := by
    unfold starTicks
    rw [hnat _ (hkey (0x2418 + p) 2 (by decide))]
  have hfits (m : Nat) : t.starFits p m = s.starFits p m := by
    unfold starFits
    simp only [key_add, hkey (0x2418 + p) 5 (by decide), hkey (0x2418 + p) 6 (by decide), hlen, hct, hnow, hstart]
  unfold State.starFree starUp star
  rw [hkey _ 4 (by decide), hclock, hticks, hfits]

theorem SamePort.star {t : State} {n : Nat} (h : SamePort s t n) (p : Nat) : t.star p = s.star p := by
  obtain ⟨⟨-, -, -, hclock⟩, -⟩ := h
  unfold State.star
  rw [hclock]

theorem SamePort.triggerOut {t : State} {n : Nat} (h : SamePort s t n) (hn : n < 8) (p m : Nat) (payload : List Byte) :
    t.triggerOut p m payload = s.triggerOut p m payload := by
  obtain ⟨⟨hmu, hfuses, hline, hclock⟩, hint⟩ := h
  refine triggerOut_of_reads p m payload ⟨hmu, hfuses, hline⟩ ⟨by rw [hclock], by rw [hclock]⟩ fun k hk => hint k ?_ ?_
  · unfold HeaderEntry at hk
    simp only [pipeSt, Od.key]
    omega
  · unfold HeaderEntry at hk
    simp only [camCnt, Od.key]
    omega

/-- A trigger message offered to a free port goes out at once (R37, R139). -/
theorem starOffer_trigger {t : State} {n p m : Nat} {payload : List Byte} (h : SamePort s t n) (hn : n < 8)
    (hf : s.starFree p 86 = true) (hq : (s.star p).queue = []) :
    (t.starOffer p (.trigger m payload)).out = t.out ++ [s.triggerOut p m payload] := by
  have hfree : t.starFree p (starBytes (.trigger m payload)) = true := (h.starFree p 86).trans hf
  rw [starOffer_of_free ((congrArg StarLine.queue (h.star p)).trans hq) hfree (fun h => absurd h (show ¬ (1 : Nat) = 3 by decide)), starSend_trigger,
    triggerOut_starLeaves, starEmptied_out, triggerOut_starEmptied, h.triggerOut hn]

/-- The state that offers its trigger message to the star port. -/
def triggerSent (s : State) (n : Nat) : State :=
  let u := (s.framePulse n (s.exposureStart n (s.cam n).nextK)).act 5 (s.triggerMessage n (s.cam n).nextK)
  u.setCam n { u.cam n with lastSent := some (s.exposureOf n (s.cam n).nextK / 1000) }

theorem int_triggerSent {n j : Nat} (hn : n < 8) (hp : j ≠ pipeSt n + 3) (hc : j ≠ camCnt n + 0xD) :
    (s.triggerSent n).int j = s.int j := by
  unfold triggerSent
  dsimp only
  rw [setCam_int, int_act, int_framePulse _ hn hp hc]

theorem triggerSent_out {n : Nat} (hn : n < 8) (h : s.isNetwork n = true) : (s.triggerSent n).out = s.out := by
  unfold triggerSent
  dsimp only
  rw [setCam_out, act_out, framePulse_network _ hn h]

theorem triggerSent_keep (n : Nat) : Keep [.od, .video, .acts] s (s.triggerSent n) :=
  State.setCam_keep rfl (State.act_keep rfl (State.framePulse_keep rfl (Keep.refl _ s)))

theorem samePort_triggerSent {n : Nat} (hn : n < 8) : SamePort s (s.triggerSent n) n := by
  have hkeep := triggerSent_keep (s := s) n
  exact ⟨⟨hkeep.same .mu (by decide), hkeep.same .fuses (by decide), hkeep.same .line (by decide), hkeep.same .clock (by decide)⟩,
    fun _ => int_triggerSent hn⟩

theorem triggerSent_cam (n : Nat) : ∃ w l, (s.triggerSent n).cam n =
    { s.pulsed n (s.exposureStart n (s.cam n).nextK) with
      write := w, schedule := l, lastSent := some (s.exposureOf n (s.cam n).nextK / 1000) } := by
  obtain ⟨w, l, hcam⟩ := framePulse_cam (s := s) n (s.exposureStart n (s.cam n).nextK)
  refine ⟨w, l, ?_⟩
  unfold triggerSent
  dsimp only
  rw [cam_setCam_self, cam_of_video (act_video ..) n, hcam]

theorem triggerMsg_eq {n : Nat} (hp : s.pulsing n = true) (hnet : s.isNetwork n = true) (hct : s.ctValid = true)
    (hpark : s.parked = false) (hn : n < 8) : s.triggerMsg n =
      (s.triggerSent n).starOffer (s.camSource n - 0x10) (.trigger n (s.triggerMessage n (s.cam n).nextK)) := by
  have hsource : (s.triggerSent n).camSource n = s.camSource n := by
    refine congrArg Int.toNat (int_triggerSent hn ?_ ?_)
    · simp only [camDef, pipeSt, Od.key]
      omega
    · simp only [camDef, camCnt, Od.key]
      omega
  have hparked : ((s.framePulse n (s.exposureStart n (s.cam n).nextK)).act 5 (s.triggerMessage n (s.cam n).nextK)).parked = false := by
    have hkeep : Keep [.od, .video, .acts] s
        ((s.framePulse n (s.exposureStart n (s.cam n).nextK)).act 5 (s.triggerMessage n (s.cam n).nextK)) :=
      State.act_keep rfl (State.framePulse_keep rfl (Keep.refl _ s))
    have hpairing := hkeep.same .pairing (by decide)
    have hpair := hkeep.same .pair (by decide)
    rw [← hpark]
    unfold parked silenced
    rw [hpairing, hpair, int_act, int_framePulse _ hn]
    · simp only [pipeSt, Od.key]
      omega
    · simp only [camCnt, Od.key]
      omega
  unfold triggerMsg
  rw [if_pos ⟨hp, hnet, hct⟩]
  dsimp only
  rw [hparked, if_neg Bool.false_ne_true, ← hsource]
  rfl

/-! ### Frames that do not come, and the states of a camera (R48, R50) -/

theorem camState_raise {n : Nat} (a b c d : Nat) (hn : n < 8) : (s.raise a b c d).camState n = s.camState n :=
  int_raise _ _ _ _ _ (by simp only [camSt, Od.key]; omega)

theorem camState_put {n : Nat} (v : Int) : (s.put (camSt n + 1) v).camState n = v := int_put_self ..

theorem notAccepted_wanted {n : Nat} (hn : n < 8) :
    (s.notAccepted n true).cam n = { s.cam n with good := 0, bad := (s.cam n).bad + 1, stats := none } ∧
    (s.camState n = 3 → 3 ≤ (s.cam n).bad + 1 → (s.notAccepted n true).camState n = 4) ∧
    ((s.cam n).bad + 1 < 3 → (s.notAccepted n true).camState n = s.camState n) ∧
    (s.notAccepted n true).int (camCnt n + 2) = s.int (camCnt n + 2) := by
  have heq : s.notAccepted n true =
      if s.camState n = 3 ∧ true ∧ 3 ≤ (s.cam n).bad + 1 then
        ((s.setCam n { s.cam n with good := 0, bad := (s.cam n).bad + 1, stats := none }).put (camSt n + 1) 4).raise (32 + n) 0 n 0
      else s.setCam n { s.cam n with good := 0, bad := (s.cam n).bad + 1, stats := none } := rfl
  rw [heq]
  split
  · next h =>
    refine ⟨by rw [cam_raise, cam_put, cam_setCam_self], fun _ _ => by rw [camState_raise _ _ _ _ hn, camState_put],
      fun hfew => by omega, ?_⟩
    rw [int_raise _ _ _ _ _ (by simp only [camCnt, Od.key]; omega),
      int_put_ne _ _ (by simp only [camCnt, camSt, Od.key]; omega) (not_feeds_camSt hn (by decide)), setCam_int]
  · next h =>
    exact ⟨cam_setCam_self .., fun h3 hbad => absurd ⟨h3, rfl, hbad⟩ h, fun _ => setCam_int .., setCam_int ..⟩

/-- A frame whose start has not come counts as missing. -/
theorem windowOver_eq {n : Nat} {e : Expected} (he : (s.cam n).expect = some e) (hp : s.pulsing n = true) : s.windowOver n =
    ((s.setCam n { s.cam n with expect := none, overdue := true }).bump (camCnt n + 2)).notAccepted n true := by
  unfold windowOver
  rw [he]
  exact if_pos hp

theorem windowOver_parts {n : Nat} {e : Expected} (he : (s.cam n).expect = some e) (hp : s.pulsing n = true) (hn : n < 8) :
    (s.windowOver n).cam n =
      { s.cam n with expect := none, overdue := true, good := 0, bad := (s.cam n).bad + 1, stats := none } ∧
    (s.windowOver n).int (camCnt n + 2) = min (s.int (camCnt n + 2) + 1) 0xFFFFFFFF ∧
    (s.camState n = 3 → 3 ≤ (s.cam n).bad + 1 → (s.windowOver n).camState n = 4) ∧
    ((s.cam n).bad + 1 < 3 → (s.windowOver n).camState n = s.camState n) := by
  obtain ⟨hcam, hlost, hkept, hcount⟩ := notAccepted_wanted
    (s := (s.setCam n { s.cam n with expect := none, overdue := true }).bump (camCnt n + 2)) hn
  have hrec : ((s.setCam n { s.cam n with expect := none, overdue := true }).bump (camCnt n + 2)).cam n =
      { s.cam n with expect := none, overdue := true } := cam_setCam_self ..
  have hstate : ((s.setCam n { s.cam n with expect := none, overdue := true }).bump (camCnt n + 2)).camState n = s.camState n := by
    refine (int_bump_ne _ ?_ (not_feeds_camCnt hn (by decide))).trans (setCam_int ..)
    simp only [camCnt, camSt, Od.key]
    omega
  rw [hrec] at hcam hlost hkept
  rw [hstate] at hlost hkept
  rw [windowOver_eq he hp]
  exact ⟨hcam, hcount.trans ((int_bump_self ..).trans (by rw [setCam_int])), hlost, hkept⟩

theorem camFault_parts {n : Nat} (hn : n < 8) :
    (s.camFault n).camState n = 5 ∧ (s.camFault n).cam n = {} ∧ (s.camFault n).clock = s.clock := by
  unfold camFault
  rw [camState_raise _ _ _ _ hn, cam_raise, raise_clock]
  exact ⟨(setCam_int ..).trans (int_put_self ..), cam_setCam_self .., rfl⟩

/-! ### A camera that starts again (R50) -/

/-- The bus in use leaves the cameras, those that wait and the scripts. -/
theorem busUp_video (p n : Nat) (first : Bool) : (s.busUp p n first).video.cameras = s.video.cameras ∧
    (s.busUp p n first).video.waiting = s.video.waiting ∧ (s.busUp p n first).video.scripts = s.video.scripts := by
  unfold busUp
  split
  · exact ⟨rfl, rfl, rfl⟩
  · cases first
    · exact ⟨rfl, rfl, rfl⟩
    · exact ⟨rfl, rfl, rfl⟩

theorem int_busUp (p n : Nat) (first : Bool) (k : Nat) : (s.busUp p n first).int k = s.int k := by
  unfold busUp
  split
  · rfl
  · cases first
    · rfl
    · rfl

/-- The end of an initialisation whose port runs another script: the slot waits, and the port's deskew may be due. -/
def queued (s : State) (n p : Nat) : State :=
  let u : State := { s with video := { s.video with waiting := s.video.waiting ++ [n] } }
  if 1500 < u.int (Od.key (0x2840 + p) 2) ∧ u.int (Od.key (0x2840 + p) 0x10) = 0 then u.put (Od.key (0x2840 + p) 0x10) 2 else u

theorem queued_video (n p : Nat) : (s.queued n p).video = { s.video with waiting := s.video.waiting ++ [n] } := by
  unfold queued
  dsimp only
  split
  · exact put_video ..
  · rfl

theorem int_queued {p k : Nat} (n : Nat) (hp : p < 4) (h : k < 0x284000) : (s.queued n p).int k = s.int k := by
  unfold queued
  dsimp only
  split
  · refine (int_put_ne _ _ ?_ (not_feeds_key (by omega) (by decide))).trans (int_with_video ..)
    simp only [Od.key]
    omega
  · exact int_with_video ..

theorem initCamera_queued {n p : Nat} (hl : s.isNetwork n = false) (hs : s.camSource n = p + 1) (hn : n < 8)
    (hscript : (s.script? p).isSome = true) : ∃ first, s.initCamera n = ((s.put (camSt n + 1) 1).busUp p n first).queued n p := by
  have hsource : (s.put (camSt n + 1) 1).int (camDef n + 3) = s.int (camDef n + 3) := by
    refine int_put_ne _ _ ?_ (not_feeds_camSt hn (by decide))
    simp only [camDef, camSt, Od.key]
    omega
  have hlocal : (s.put (camSt n + 1) 1).isNetwork n = false := (isNetwork_of_int hsource).trans hl
  have hport : (s.put (camSt n + 1) 1).camSource n - 1 = p := by
    unfold camSource at hs ⊢
    rw [nat_eq, hsource, ← nat_eq, hs, Nat.add_sub_cancel]
  unfold initCamera
  dsimp only
  rw [hlocal, if_neg Bool.false_ne_true, hport]
  refine ⟨_, if_pos ?_⟩
  have hscripts (first : Bool) : (((s.put (camSt n + 1) 1).busUp p n first).queued n p).video.scripts = s.video.scripts := by
    rw [queued_video]
    exact (busUp_video ..).2.2.trans (congrArg Video.scripts (put_video ..))
  unfold script? at hscript
  rw [← hscript]
  exact congrArg (fun t => (Tab.find? t p).isSome) (hscripts _)

theorem initCamera_parts {n p : Nat} (hl : s.isNetwork n = false) (hs : s.camSource n = p + 1) (hn : n < 8) (hp : p < 4)
    (hscript : (s.script? p).isSome = true) : (s.initCamera n).camState n = 1 ∧ (s.initCamera n).cam n = s.cam n ∧
    (s.initCamera n).int (camSt n + 6) = s.int (camSt n + 6) ∧ (s.initCamera n).video.waiting = s.video.waiting ++ [n] := by
  obtain ⟨first, heq⟩ := initCamera_queued hl hs hn hscript
  have hkey (c : Nat) (hc : c < 256) : camSt n + c < 0x284000 := by
    simp only [camSt, Od.key]
    omega
  obtain ⟨hcams, hwaiting, -⟩ := busUp_video (s := s.put (camSt n + 1) 1) p n first
  rw [heq]
  refine ⟨?_, ?_, ?_, ?_⟩
  · exact (int_queued n hp (hkey 1 (by decide))).trans ((int_busUp ..).trans (int_put_self ..))
  · unfold cam
    rw [queued_video]
    dsimp only
    rw [hcams, put_video]
  · refine (int_queued n hp (hkey 6 (by decide))).trans ((int_busUp ..).trans (int_put_ne _ _ (by omega) (not_feeds_camSt hn (by decide))))
  · rw [queued_video]
    dsimp only
    rw [hwaiting, put_video]

theorem reinit_parts {n p : Nat} {v : Int} (hl : s.isNetwork n = false) (hs : s.camSource n = p + 1) (hn : n < 8) (hp : p < 4)
    (hscript : (s.script? p).isSome = true) (hv : s.camState n = v) : (s.reinit n v).camState n = 1 ∧
    (s.reinit n v).cam n = { rows := (s.cam n).rows, shots := (s.cam n).shots } ∧
    (s.reinit n v).int (camSt n + 6) = min (s.int (camSt n + 6) + 1) 0xFFFFFFFF ∧
    (s.reinit n v).video.waiting = s.video.waiting ++ [n] := by
  have heq : s.reinit n v =
      ((s.setCam n { rows := (s.cam n).rows, shots := (s.cam n).shots }).bump (camSt n + 6)).initCamera n := if_pos hv
  have hsource : ((s.setCam n { rows := (s.cam n).rows, shots := (s.cam n).shots }).bump (camSt n + 6)).int (camDef n + 3) =
      s.int (camDef n + 3) := by
    refine (int_bump_ne _ ?_ (not_feeds_camSt hn (by decide))).trans (setCam_int ..)
    simp only [camDef, camSt, Od.key]
    omega
  obtain ⟨hstate, hcam, hcount, hwaiting⟩ := initCamera_parts
    (s := (s.setCam n { rows := (s.cam n).rows, shots := (s.cam n).shots }).bump (camSt n + 6)) (p := p)
    ((isNetwork_of_int hsource).trans hl) ((congrArg Int.toNat hsource).trans hs) hn hp hscript
  rw [heq]
  refine ⟨hstate, hcam.trans (cam_setCam_self ..), hcount.trans ?_, hwaiting⟩
  rw [int_bump_self, setCam_int]

end State

/-- Settles O41: a pulse and a trigger expect their frame whatever their exposure write does, and the states of a camera
follow its own record. -/
theorem camerasAreTimed : Obligations.CamerasAreTimed := by
  refine ⟨?_, ?_, ?_, ?_, ?_, ?_, ?_⟩
  · intro s n hready hp hl hg hct
    obtain ⟨hout, hcam⟩ := genlockPulse_parts hp hl hg hct n.isLt
    obtain ⟨w, l, hpulsed⟩ := pulseSent_cam (s := s) n
    refine ⟨_, congrArg Host.Outcome.next (served_of_ready hready), ?_, ?_, ?_, ?_, fun htp => ?_⟩
    · rw [hout]
      exact List.getLast?_concat
    · rw [hcam, hpulsed]
      rfl
    · rw [hcam, hpulsed]
      rfl
    · rw [hcam, hpulsed]
      rfl
    · rw [genlockPulse_eq hp hl hg hct n.isLt, if_pos htp]
      exact ⟨(pulse_placeEdge ..).1, (pulse_placeEdge ..).2, (placeEdge_instant ..).1, (placeEdge_instant ..).2⟩
  · intro s n hready hp hnet hct hpark
    have heq := triggerMsg_eq hp hnet hct hpark n.isLt
    obtain ⟨w, l, hcam⟩ := triggerSent_cam (s := s) n
    have hsame := samePort_triggerSent (s := s) n.isLt
    have hvideo (x : StarItem) : ((s.triggerSent n).starOffer (s.camSource n - 0x10) x).cam n = (s.triggerSent n).cam n :=
      cam_of_video ((State.starOffer_keep (L := [.od, .clock, .line]) rfl (Keep.refl _ _)).same .video (by decide)) n
    refine ⟨_, congrArg Host.Outcome.next ((served_of_ready hready).trans heq), ?_, ?_, ?_, fun hfree hq => ?_⟩
    · rw [hvideo, hcam]
      rfl
    · rw [hvideo, hcam]
      rfl
    · rw [hvideo, hcam]
    · rw [starOffer_trigger hsame n.isLt hfree hq, triggerSent_out n.isLt hnet]
      rfl
  · intro s n e hready he hp
    obtain ⟨hcam, hcount, hlost, hkept⟩ := windowOver_parts he hp n.isLt
    exact ⟨_, congrArg Host.Outcome.next (served_of_ready hready), by rw [hcam], by rw [hcam], by rw [hcam], by rw [hcam], hcount, hlost, hkept⟩
  · exact fun s p hready => ⟨congrArg Host.Outcome.next (served_of_ready hready),
      fun h => congrArg Host.Outcome.next ((served_of_ready hready).trans (if_pos h)),
      fun h => congrArg Host.Outcome.next ((served_of_ready hready).trans (if_neg h))⟩
  · exact fun s n hready h2 hg => ⟨_, congrArg Host.Outcome.next ((served_of_ready hready).trans (if_pos ⟨h2, hg⟩)), camFault_parts n.isLt⟩
  · intro s n h
    exact congrArg Host.Outcome.next (served_eq_self (if_neg fun hboth => h.elim (fun h2 => h2 hboth.1) fun hg => hg hboth.2))
  · exact fun s n p hready hl hs hp hscript =>
      ⟨fun h4 => ⟨_, congrArg Host.Outcome.next (served_of_ready hready), reinit_parts hl hs n.isLt hp hscript h4⟩,
        fun h5 => ⟨_, congrArg Host.Outcome.next (served_of_ready hready), reinit_parts hl hs n.isLt hp hscript h5⟩⟩

end Sys2Proof.Machine

/-!
SUPPORT. Frames at their camera (R26, R28, R38, R44 to R48, R50): what a frame that opens, a line that enters and a frame that ends
change of the camera and count, and which entries the settings of a frame are read from.
-/

namespace Sys2Proof.Machine

open State

namespace State

variable {s : State}

/-! ### The settings a frame is read by (R26) -/

/-- The parts beside the store that an entry without a value of its own is derived from. -/
def SameDerived (s t : State) : Prop := t.power = s.power ∧ t.canopen = s.canopen ∧ t.fuses = s.fuses

theorem int_under_of_same {t : State} (cfg : Store) (h : SameDerived s t) (k : Nat) : (t.under cfg).int k = (s.under cfg).int k := by
  obtain ⟨⟩ := t
  obtain ⟨⟩ := s
  obtain ⟨hpower, hcanopen, hfuses⟩ := h
  cases hpower
  cases hcanopen
  cases hfuses
  rfl

theorem nat_under_of_same {t : State} (cfg : Store) (h : SameDerived s t) (k : Nat) : (t.under cfg).nat k = (s.under cfg).nat k :=
  congrArg Int.toNat (int_under_of_same cfg h k)

theorem packetView_of_frame {n : Nat} {f : FrameIn} (h : (s.cam n).frame = some f) : s.packetView n = s.under f.cfg := by
  unfold packetView
  rw [h]

theorem packetView_of_none {n : Nat} (hf : (s.cam n).frame = none) (he : (s.cam n).expect = none) : s.packetView n = s := by
  unfold packetView startView
  rw [hf, he]

theorem int_bumpView {k j : Nat} (start : Bool) (n : Nat) (hj : k ≠ j) (hf : ¬ Feeds k) :
    ((s.bump k).readBy start n).int j = (s.readBy start n).int j := by
  have hstart : ((s.bump k).startView n).int j = (s.startView n).int j := by
    unfold startView
    rw [cam_bump]
    split
    · rfl
    · exact int_bump_ne _ hj hf
  have hpacket : ((s.bump k).packetView n).int j = (s.packetView n).int j := by
    unfold packetView
    rw [cam_bump]
    split
    · rfl
    · exact hstart
  cases start
  · exact hpacket
  · exact hstart

/-- The slot a packet belongs to does not hang on a count of its port. -/
theorem camAt_bump {p : Nat} (q vc : Nat) (start : Bool) (hp : p < 4) :
    (s.bump (Od.key (0x2848 + p) 2)).camAt q vc start = s.camAt q vc start := by
  have hf : ¬ Feeds (Od.key (0x2848 + p) 2) := not_feeds_key (by omega) (by decide)
  have hread (n c : Nat) (hc : c < 256 ∧ c ≠ 2) :
      ((s.bump (Od.key (0x2848 + p) 2)).readBy start n).nat (camDef n + c) = (s.readBy start n).nat (camDef n + c) := by
    refine congrArg Int.toNat (int_bumpView start n ?_ hf)
    simp only [camDef, Od.key]
    omega
  have hstate (n : Nat) : (s.bump (Od.key (0x2848 + p) 2)).camState n = s.camState n := by
    refine int_bump_ne _ ?_ hf
    simp only [camSt, Od.key]
    omega
  unfold camAt camsOn
  simp only [camSource, hread _ 3 (by decide), hread _ 4 (by decide), hread _ 8 (by decide), hstate, cam_bump] <;> rfl

/-! ### Reports of the pan (R86) -/

theorem int_answerView_below {k : Nat} (r : Nat) {a : Answer} (ha : a.view < 16) (h : k < 0x2C2000) (h0 : k ≠ 0x24000B) :
    (s.answerView r a).int k = s.int k := by
  unfold answerView
  split
  · unfold putPan
    split
    · rw [int_put_ne _ _ (by simp only [Od.key]; omega) (not_feeds_key (by omega) (by decide)),
        int_put_ne _ _ (by simp only [Od.key]; omega) (not_feeds_key (by omega) (by decide))]
      exact int_with_slices ..
    · exact int_with_slices ..
  · exact (int_sendFree _ _ h0).trans (int_emit ..)

theorem int_panReports {j : Nat} (n k : Nat) (h : j < 0x2C2000) (h0 : j ≠ 0x24000B) : (s.panReports n k).int j = s.int j := by
  unfold panReports
  extract_lets now hit src u
  refine (int_with_slices ..).trans (int_foldl _ _ fun i _ v => ?_)
  exact int_answerView_below _ i.d.view.isLt h h0

theorem panReports_keep_parts (n k : Nat) : (s.panReports n k).video = s.video ∧ SameDerived s (s.panReports n k) := by
  have hkeep : Keep [.od, .dict, .line, .trust, .slices] s (s.panReports n k) := State.panReports_keep rfl (Keep.refl _ s)
  exact ⟨hkeep.same .video (by decide), hkeep.same .power (by decide), hkeep.same .canopen (by decide), hkeep.same .fuses (by decide)⟩

/-! ### A frame opens -/

/-- The frame that opens under its settings, without the lines it will take (R26). -/
def opened (s : State) (n k e : Nat) (cfg : Store) (discard : Bool) : FrameIn :=
  { k := k, exposure := e, cfg := cfg, width := (s.under cfg).nat (camDef n + 6), height := (s.under cfg).nat (camDef n + 7),
    group := max 1 ((s.under cfg).nat (camDef n + 0xC)), format := (s.under cfg).nat (camDef n + 5),
    exposures := max 1 ((s.under cfg).nat (camDef n + 8)), discard := discard }

theorem openFrame_cam (n k e : Nat) (cfg : Store) (discard : Bool) : ∃ shots, (s.openFrame n k e cfg discard).cam n =
    { s.cam n with frame := some (s.opened n k e cfg discard), shots := shots, expect := none, overdue := false } := by
  obtain ⟨hvideo, hsame⟩ := panReports_keep_parts (s := s) n k
  have hopened : (s.panReports n k).opened n k e cfg discard = s.opened n k e cfg discard := by
    unfold opened
    simp only [nat_under_of_same cfg hsame]
  unfold openFrame
  dsimp only
  rw [cam_setCam_self, cam_of_video hvideo n]
  exact ⟨_, by rw [← hopened]; rfl⟩

theorem int_openFrame {j : Nat} (n k e : Nat) (cfg : Store) (discard : Bool) (h : j < 0x2C2000) (h0 : j ≠ 0x24000B) :
    (s.openFrame n k e cfg discard).int j = s.int j := by
  unfold openFrame
  dsimp only
  rw [setCam_int, int_panReports n k h h0]

/-! ### A Frame Start of the expected frame (R48) -/

/-- The state in which a Frame Start is judged: its slot receives no frame. -/
def cleared (s : State) (n : Nat) : State := s.setCam n { s.cam n with frame := none }

theorem cleared_cam (n : Nat) : (s.cleared n).cam n = { s.cam n with frame := none } := cam_setCam_self ..

theorem int_cleared (n k : Nat) : (s.cleared n).int k = s.int k := setCam_int ..

/-- A Frame Start in its window, with the offset it shows at 0x2820:04 (R48). -/
theorem frameStart_expected {n : Nat} {t : Int} {e : Expected} (hp : s.pulsing n = true) (hf : (s.cam n).frame = none)
    (hr : (s.cam n).rephaseUntil = none) (he : (s.cam n).expect = some e)
    (hb : (s.under e.cfg).beyondEnvelope n e.exposure (t - e.at_) = false)
    (hlo : (s.under e.cfg).int (camDef n + 0x1D) * 65536 ≤ t - e.at_)
    (hhi : t - e.at_ ≤ (s.under e.cfg).int (camDef n + 0x1E) * 65536) : s.frameStart n t =
      ((s.cleared n).put (camSt n + 4) (Int.tdiv (t - e.at_) 65536)).openFrame n e.k e.exposure e.cfg false := by
  have hview (k : Nat) : ((s.cleared n).under e.cfg).int k = (s.under e.cfg).int k := int_under_of_same _ ⟨rfl, rfl, rfl⟩ k
  have hbeyond : ((s.cleared n).under e.cfg).beyondEnvelope n e.exposure (t - e.at_) = false := by
    rw [← hb]
    unfold beyondEnvelope
    rw [hview]
    rfl
  have hin : (decide (t - e.at_ < ((s.cleared n).under e.cfg).int (camDef n + 0x1D) * 65536) ||
      decide (((s.cleared n).under e.cfg).int (camDef n + 0x1E) * 65536 < t - e.at_) ||
      ((s.cleared n).under e.cfg).beyondEnvelope n e.exposure (t - e.at_)) = false := by
    rw [hbeyond, hview, hview, decide_eq_false (by omega), decide_eq_false (by omega)]
    rfl
  unfold frameStart
  rw [hp, if_neg Bool.noConfusion, hf]
  change (s.cleared n).startFrame n t _ = _
  unfold startFrame
  rw [cleared_cam]
  dsimp only
  rw [hr, he, if_neg Bool.noConfusion]
  dsimp only
  rw [hin, if_neg Bool.noConfusion]

/-! ### Headers (R27) -/

/-- The state a header that stands leaves: a corrected one is counted. -/
def headed (s : State) (p ecc : Nat) : State := if ecc = 1 then s.bump (Od.key (0x2848 + p) 2) else s

theorem headerEcc_stands {p ecc : Nat} (h : ecc < 2) : s.headerEcc p ecc = (s.headed p ecc, true) := by
  unfold headerEcc headed
  dsimp only
  rw [if_neg (by omega), key_add]
  split
  · rfl
  · rfl

theorem headerEcc_good (p : Nat) : s.headerEcc p 0 = (s, true) := headerEcc_stands (ecc := 0) (by decide)

theorem int_headed_ne {p ecc k : Nat} (hp : p < 4) (h : k ≠ Od.key (0x2848 + p) 2) : (s.headed p ecc).int k = s.int k := by
  unfold headed
  split
  · exact int_bump_ne _ h.symm (not_feeds_key (by omega) (by decide))
  · rfl

theorem headed_count (p ecc : Nat) : (s.headed p ecc).int (Od.key (0x2848 + p) 2) =
    if ecc = 1 then min (s.int (Od.key (0x2848 + p) 2) + 1) 0xFFFFFFFF else s.int (Od.key (0x2848 + p) 2) := by
  unfold headed
  split
  · exact int_bump_self ..
  · rfl

theorem headed_cam (p ecc n : Nat) : (s.headed p ecc).cam n = s.cam n := by
  unfold headed
  split
  · rfl
  · rfl

theorem camAt_headed {p ecc : Nat} (q vc : Nat) (start : Bool) (hp : p < 4) :
    (s.headed p ecc).camAt q vc start = s.camAt q vc start := by
  unfold headed
  split
  · exact camAt_bump q vc start hp
  · rfl

/-- The frame that a Frame Start in its window opens (R48). -/
theorem csiFrameStart_opens {p vc ecc fine n : Nat} {e : Expected} (hp : p < 4)
    (hn : n < 8) (hpulse : s.pulsing n = true) (hf : (s.cam n).frame = none) (hr : (s.cam n).rephaseUntil = none)
    (hx : (s.cam n).expect = some e)
    (hb : (s.under e.cfg).beyondEnvelope n e.exposure (s.ctAt s.clock.counter fine - e.at_) = false)
    (hlo : (s.under e.cfg).int (camDef n + 0x1D) * 65536 ≤ s.ctAt s.clock.counter fine - e.at_)
    (hhi : s.ctAt s.clock.counter fine - e.at_ ≤ (s.under e.cfg).int (camDef n + 0x1E) * 65536)
    (hstart : s.csiFrameStart p vc ecc fine = (s.headed p ecc).frameStart n (s.ctAt s.clock.counter fine)) :
    ∃ shots, (s.csiFrameStart p vc ecc fine).cam n =
        { s.cam n with frame := some (s.opened n e.k e.exposure e.cfg false), shots := shots, expect := none, overdue := false } ∧
      (s.csiFrameStart p vc ecc fine).int (camSt n + 4) = Int.tdiv (s.ctAt s.clock.counter fine - e.at_) 65536 ∧
      (s.csiFrameStart p vc ecc fine).int (Od.key (0x2848 + p) 2) =
        if ecc = 1 then min (s.int (Od.key (0x2848 + p) 2) + 1) 0xFFFFFFFF else s.int (Od.key (0x2848 + p) 2) := by
  have hcam := headed_cam (s := s) p ecc n
  have hparts : SameDerived s (s.headed p ecc) ∧ (s.headed p ecc).slices = s.slices := by
    unfold headed
    split
    · exact ⟨⟨rfl, rfl, rfl⟩, rfl⟩
    · exact ⟨⟨rfl, rfl, rfl⟩, rfl⟩
  obtain ⟨hsame, hslices⟩ := hparts
  have hpulse' : (s.headed p ecc).pulsing n = true := by
    rw [← hpulse]
    unfold pulsing camState
    rw [int_headed_ne hp (by simp only [camSt, Od.key]; omega)]
  have hbeyond : ((s.headed p ecc).under e.cfg).beyondEnvelope n e.exposure (s.ctAt s.clock.counter fine - e.at_) = false := by
    rw [← hb]
    unfold beyondEnvelope
    rw [int_under_of_same _ hsame]
    unfold readDelayOf under
    rw [hslices]
  have heq := frameStart_expected (s := s.headed p ecc) hpulse' (by rw [hcam]; exact hf) (by rw [hcam]; exact hr)
    (by rw [hcam]; exact hx) hbeyond (by rw [int_under_of_same _ hsame]; exact hlo) (by rw [int_under_of_same _ hsame]; exact hhi)
  have hview : SameDerived s
      (((s.headed p ecc).cleared n).put (camSt n + 4) (Int.tdiv (s.ctAt s.clock.counter fine - e.at_) 65536)) := hsame
  obtain ⟨shots, hopen⟩ := openFrame_cam
    (s := ((s.headed p ecc).cleared n).put (camSt n + 4) (Int.tdiv (s.ctAt s.clock.counter fine - e.at_) 65536)) n e.k e.exposure e.cfg false
  rw [hstart, heq, hopen, cam_put, cleared_cam, hcam]
  refine ⟨shots, ?_, ?_, ?_⟩
  · have hopened : (((s.headed p ecc).cleared n).put (camSt n + 4) (Int.tdiv (s.ctAt s.clock.counter fine - e.at_) 65536)).opened
        n e.k e.exposure e.cfg false = s.opened n e.k e.exposure e.cfg false := by
      unfold opened
      simp only [nat_under_of_same _ hview]
    rw [hopened]
  · rw [int_openFrame _ _ _ _ _ (by simp only [camSt, Od.key]; omega) (by simp only [camSt, Od.key]; omega), int_put_self]
  · rw [int_openFrame _ _ _ _ _ (by simp only [Od.key]; omega) (by simp only [Od.key]; omega),
      int_put_ne _ _ (by simp only [camSt, Od.key]; omega) (not_feeds_camSt hn (by decide)), int_cleared, headed_count]

theorem headed_clock (p ecc : Nat) : (s.headed p ecc).clock = s.clock := by
  unfold headed
  split
  · rfl
  · rfl

theorem headed_deskewed {p ecc : Nat} (hp : p < 4) (hd : s.int (Od.key (0x2840 + p) 0x10) ≠ 0) :
    (s.headed p ecc).int (Od.key (0x2840 + p) 0x10) ≠ 0 := by
  rw [int_headed_ne hp (by simp only [Od.key]; omega)]
  exact hd

theorem csiFrameStart_first {p vc ecc fine n : Nat} (hp : p < 4) (he : ecc < 2) (hd : s.int (Od.key (0x2840 + p) 0x10) ≠ 0)
    (hc : s.camAt p vc true = some (n, 0)) :
    s.csiFrameStart p vc ecc fine = (s.headed p ecc).frameStart n (s.ctAt s.clock.counter fine) := by
  unfold csiFrameStart
  rw [headerEcc_stands he]
  dsimp only
  rw [if_neg Bool.noConfusion, if_neg (headed_deskewed hp hd), camAt_headed _ _ _ hp, hc]
  dsimp only
  unfold ctAt
  rw [headed_clock]
  exact if_pos rfl

theorem csiFrameStart_nobody {p vc fine : Nat} (hd : s.int (Od.key (0x2840 + p) 0x10) ≠ 0) (hc : s.camAt p vc true = none) :
    s.csiFrameStart p vc 0 fine = s.bump (Od.key (0x2848 + p) 4) := by
  unfold csiFrameStart
  rw [headerEcc_good]
  dsimp only
  rw [if_neg Bool.noConfusion, if_neg hd, hc]

/-! ### Lines (R48) -/

theorem packetHeader_good {p : Nat} {k : CsiPacket} (h : k.ecc = 0) : s.headerEcc p k.ecc = (s, true) := by
  rw [h]
  exact headerEcc_good p

theorem csiPacket_nobody {p : Nat} {k : CsiPacket} (he : k.ecc = 0) (hc : s.camAt p k.vc = none) :
    s.csiPacket p k = s.bump (Od.key (0x2848 + p) 4) := by
  unfold csiPacket
  rw [packetHeader_good he]
  dsimp only
  rw [if_neg Bool.noConfusion, hc]
  dsimp only
  rw [key_add]

theorem csiPacket_line {p : Nat} {k : CsiPacket} {n x : Nat} {f : FrameIn} (he : k.ecc = 0) (hx : k.extensionBits = false)
    (hc : s.camAt p k.vc = some (n, x)) (hf : (s.cam n).frame = some f) (ht : k.dataType ≠ 0x12)
    (hty : k.dataType.toNat = formatType ((s.under f.cfg).nat (camDef n + 5))) (hfull : k.fifoFull = false) (hcrc : k.crcOk = true) :
    s.csiPacket p k = s.addLine n x true k.samples := by
  unfold csiPacket
  rw [packetHeader_good he]
  dsimp only
  rw [if_neg Bool.noConfusion, hc]
  dsimp only
  rw [hx, packetView_of_frame hf, decide_eq_false ht, hfull, hcrc, if_neg Bool.noConfusion, if_neg (fun h => h.2 hty)]
  rfl

theorem addLine_beyond {n x : Nat} {f : FrameIn} {l : List Nat} (hf : (s.cam n).frame = some f) (hd : f.discard = false)
    (h : f.height ≤ Tab.get 0 f.rows x) (good : Bool) : s.addLine n x good l = s.bump (camCnt n + 5) := by
  unfold addLine
  rw [hf]
  dsimp only
  rw [hd, if_neg Bool.noConfusion, if_pos h]

/-- The frame with a good line of an exposure (R48). -/
def lined (s : State) (n x : Nat) (f : FrameIn) (l : List Nat) : FrameIn :=
  { f with
    rows := Tab.set 0 f.rows x (Tab.get 0 f.rows x + 1), testBit := (s.under f.cfg).testPixel n f x (Tab.get 0 f.rows x) l,
    lines := f.lines ++ [{ exposure := x, row := Tab.get 0 f.rows x, samples := l }] }

theorem addLine_fits {n x : Nat} {f : FrameIn} {l : List Nat} (hf : (s.cam n).frame = some f) (hd : f.discard = false)
    (h : Tab.get 0 f.rows x < f.height) (hl : l.length = if isRaw f.format then f.width else 2 * f.width) :
    s.addLine n x true l = s.withFrame n (s.lined n x f l) := by
  unfold addLine
  rw [hf]
  dsimp only
  rw [if_neg (by simp [hd]), if_neg (by omega), decide_eq_true hl]
  unfold lined
  simp only [Bool.not_true, Bool.and_false, Bool.false_eq_true, if_false, Bool.and_self, if_true, Bool.or_false]

/-! ### Embedded lines and spoilt groups (R28, R48) -/

theorem spoil_frame {n : Nat} {f : FrameIn} (hf : (s.cam n).frame = some f) (hd : f.discard = false) :
    ((s.spoil n).cam n).frame = some { f with groupBad := true } := by
  unfold spoil
  rw [hf]
  dsimp only
  rw [hd, if_neg Bool.noConfusion, cam_setCam_self]

theorem int_spoil (n k : Nat) : (s.spoil n).int k = s.int k := by
  unfold spoil
  split
  · split
    · rfl
    · exact setCam_int ..
  · rfl

theorem csiPacket_embedded {p : Nat} {k : CsiPacket} {n x : Nat} (he : k.ecc = 0) (hx : k.extensionBits = false)
    (hc : s.camAt p k.vc = some (n, x)) (ht : k.dataType = 0x12) (hfull : k.fifoFull = false) (hcrc : k.crcOk = false) :
    s.csiPacket p k = (s.bump (camCnt n + 4)).embeddedLine n false k.samples := by
  unfold csiPacket
  rw [packetHeader_good he]
  dsimp only
  rw [if_neg Bool.noConfusion, hc]
  dsimp only
  rw [hx, decide_eq_true ht, hfull, hcrc, if_neg Bool.noConfusion, if_neg (fun h => Bool.noConfusion h.1)]
  rfl

theorem embeddedLine_lost {n : Nat} {f : FrameIn} {l : List Nat} (hf : (s.cam n).frame = some f) (hd : f.discard = false) :
    ((s.embeddedLine n false l).cam n).frame = some { f with embedded := f.embedded ++ [[]], groupBad := true } := by
  have hbit (b : Prop) [Decidable b] (x : Option Bool) : (if false = true ∧ b then x else f.testBit) = f.testBit :=
    if_neg fun h => Bool.noConfusion h.1
  unfold embeddedLine
  rw [hf]
  dsimp only
  rw [if_neg Bool.noConfusion, hbit, if_neg Bool.noConfusion]
  exact spoil_frame (f := { f with embedded := f.embedded ++ [[]] }) (by rw [cam_setCam_self]) hd

theorem int_embeddedLine (n : Nat) (good : Bool) (l : List Nat) (k : Nat) : (s.embeddedLine n good l).int k = s.int k := by
  unfold embeddedLine
  split
  · rfl
  · dsimp only
    split
    · exact setCam_int ..
    · exact (int_spoil ..).trans (setCam_int ..)

theorem sotError_count (p : Nat) : (s.sotError p).int (Od.key (0x2848 + p) 1) =
    min (s.int (Od.key (0x2848 + p) 1) + 1) 0xFFFFFFFF :=
  (int_foldl _ _ fun n _ _ => int_spoil n _).trans (int_bump_self ..)

theorem sotError_frame {p n : Nat} {f : FrameIn} (h : s.camsOn p = [n]) (hf : (s.cam n).frame = some f) (hd : f.discard = false) :
    ((s.sotError p).cam n).frame = some { f with groupBad := true } := by
  unfold sotError
  rw [h]
  exact spoil_frame (s := s.bump (Od.key (0x2848 + p) 1)) hf hd

/-! ### Frames end (R48, R50) -/

theorem csiFrameEnd_good {p vc n x : Nat} {f : FrameIn} (hc : s.camAt p vc = some (n, x))
    (hx : x + 1 = (s.under f.cfg).nat (camDef n + 8)) (hf : (s.cam n).frame = some f) : s.csiFrameEnd p vc 0 = s.frameEnd n := by
  unfold csiFrameEnd
  rw [headerEcc_good]
  dsimp only
  rw [if_neg Bool.noConfusion, hc]
  dsimp only
  rw [packetView_of_frame hf]
  exact if_pos hx

theorem frameEnd_discarded {n : Nat} {f : FrameIn} (hf : (s.cam n).frame = some f) (hd : f.discard = true) :
    s.frameEnd n = s.cleared n := by
  unfold frameEnd
  rw [hf]
  exact if_pos hd

theorem fillLines_none {n x upto : Nat} {f : FrameIn} (hf : (s.cam n).frame = some f) (h : upto ≤ Tab.get 0 f.rows x) :
    s.fillLines n x upto = s := by
  unfold fillLines
  rw [hf]
  dsimp only
  rw [Nat.sub_eq_zero_of_le h]
  rfl

theorem fillAll_none {n : Nat} {f : FrameIn} (hf : (s.cam n).frame = some f) :
    ∀ l : List Nat, (∀ x ∈ l, f.height ≤ Tab.get 0 f.rows x) → l.foldl (fun s x => s.fillLines n x f.height) s = s
  | [], _ => rfl
  | x :: l, h => by
    rw [List.foldl_cons, fillLines_none hf (h x List.mem_cons_self)]
    exact fillAll_none hf l fun y hy => h y (List.mem_cons_of_mem _ hy)

theorem frameChecks_off {n : Nat} {f : FrameIn} (hp : (s.under f.cfg).int (camDef n + 0x20) = 0)
    (hs : (s.under f.cfg).int (camDef n + 0x24) = 0) : s.frameChecks n f = (false, false) := by
  unfold frameChecks
  dsimp only
  rw [hp, flag_eq, hs]
  rfl

/-- A camera after its frame: none in progress, with what the frame leaves for the checks of the next. -/
def framed (s : State) (n : Nat) (f : FrameIn) : State :=
  s.setCam n { s.cam n with frame := none, lastBit := f.testBit, lastCounter := none }

/-- A complete frame of YUV data whose checks are off is accepted. -/
theorem frameEnd_complete {n : Nat} {f : FrameIn} (hf : (s.cam n).frame = some f) (hd : f.discard = false) (hraw : isRaw f.format = false)
    (hrows : ∀ e < f.exposures, f.height ≤ Tab.get 0 f.rows e) (hp : (s.under f.cfg).int (camDef n + 0x20) = 0)
    (hs : (s.under f.cfg).int (camDef n + 0x24) = 0) : s.frameEnd n = (s.frameAccepted n f).framed n f := by
  have hshort : (List.range f.exposures).any (fun x => decide (Tab.get 0 f.rows x < f.height)) = false := by
    rw [List.any_eq_false]
    intro x hx
    have := hrows x (List.mem_range.mp hx)
    simpa using this
  have hfill : (List.range f.exposures).foldl (fun s x => s.fillLines n x f.height) s = s :=
    fillAll_none hf _ fun x hx => hrows x (List.mem_range.mp hx)
  have hstats : s.frameStats n f = s := if_pos hraw
  have hcounter : (s.under f.cfg).flag (camDef n + 0x24) = false := by
    rw [flag_eq, hs]
    rfl
  unfold frameEnd
  rw [hf]
  dsimp only
  rw [if_neg (by simp [hd]), hshort]
  simp only [Bool.false_eq_true, if_false, hfill, hf, Option.getD_some, frameChecks_off hp hs, hstats, hcounter, Bool.or_self]
  rfl

/-- The camera of an accepted frame (R50). -/
def acceptedCam (s : State) (n : Nat) (f : FrameIn) : State :=
  s.setCam n { s.cam n with good := (s.cam n).good + 1, bad := 0, lastK := some f.k }

/-- The status of an accepted frame (R50). -/
def acceptedShown (s : State) (n : Nat) (f : FrameIn) : State :=
  ((((s.acceptedCam n f).bump (camCnt n + 1)).put (camSt n + 2) (f.k % 2 ^ 32 : Nat)).put (camSt n + 3)
    ((s.under f.cfg).stampOf n f.k f.exposure 0)).put (camSt n + 5) (f.exposure / 1000)

theorem frameAccepted_eq (n : Nat) (f : FrameIn) : s.frameAccepted n f =
    if ((s.acceptedShown n f).camState n = 2 ∨ (s.acceptedShown n f).camState n = 4) ∧ 2 ≤ (s.cam n).good + 1 then
      (s.acceptedShown n f).put (camSt n + 1) 3
    else s.acceptedShown n f := rfl

theorem acceptedShown_cam (n : Nat) (f : FrameIn) : (s.acceptedShown n f).cam n =
    { s.cam n with good := (s.cam n).good + 1, bad := 0, lastK := some f.k } := by
  unfold acceptedShown acceptedCam
  rw [cam_put, cam_put, cam_put, cam_bump, cam_setCam_self]

theorem acceptedShown_reads {n : Nat} (f : FrameIn) (hn : n < 8) : (s.acceptedShown n f).camState n = s.camState n ∧
    (s.acceptedShown n f).int (camCnt n + 1) = min (s.int (camCnt n + 1) + 1) 0xFFFFFFFF ∧
    (s.acceptedShown n f).int (camSt n + 2) = (f.k % 2 ^ 32 : Nat) ∧
    (s.acceptedShown n f).int (camSt n + 3) = (s.under f.cfg).stampOf n f.k f.exposure 0 := by
  have hst (c : Nat) (hc : c < 256) : ¬ Feeds (camSt n + c) := not_feeds_camSt hn hc
  have hcount : ¬ Feeds (camCnt n + 1) := not_feeds_camCnt hn (by decide)
  have hapart (a b : Nat) (ha : a < 256) (hb : b < 256) : camSt n + a ≠ camCnt n + b := by
    simp only [camSt, camCnt, Od.key]
    omega
  unfold acceptedShown acceptedCam
  refine ⟨?_, ?_, ?_, ?_⟩
  · unfold camState
    rw [int_put_ne _ _ (by omega) (hst 5 (by decide)), int_put_ne _ _ (by omega) (hst 3 (by decide)),
      int_put_ne _ _ (by omega) (hst 2 (by decide)), int_bump_ne _ (hapart 1 1 (by decide) (by decide)).symm hcount, setCam_int]
  · rw [int_put_ne _ _ (hapart _ _ (by decide) (by decide)) (hst 5 (by decide)),
      int_put_ne _ _ (hapart _ _ (by decide) (by decide)) (hst 3 (by decide)),
      int_put_ne _ _ (hapart _ _ (by decide) (by decide)) (hst 2 (by decide)), int_bump_self, setCam_int]
  · rw [int_put_ne _ _ (by omega) (hst 5 (by decide)), int_put_ne _ _ (by omega) (hst 3 (by decide)), int_put_self]
  · rw [int_put_ne _ _ (by omega) (hst 5 (by decide)), int_put_self]

theorem frameAccepted_reads {n : Nat} (f : FrameIn) (hn : n < 8) :
    (s.frameAccepted n f).cam n = { s.cam n with good := (s.cam n).good + 1, bad := 0, lastK := some f.k } ∧
    (s.frameAccepted n f).int (camCnt n + 1) = min (s.int (camCnt n + 1) + 1) 0xFFFFFFFF ∧
    (s.frameAccepted n f).int (camSt n + 2) = (f.k % 2 ^ 32 : Nat) ∧
    (s.frameAccepted n f).int (camSt n + 3) = (s.under f.cfg).stampOf n f.k f.exposure 0 ∧
    (s.camState n = 2 ∨ s.camState n = 4 → 2 ≤ (s.cam n).good + 1 → (s.frameAccepted n f).camState n = 3) := by
  have hcam := acceptedShown_cam (s := s) n f
  obtain ⟨hstate, hcount, hk, hstamp⟩ := acceptedShown_reads (s := s) f hn
  rw [frameAccepted_eq, hstate]
  split
  · next h =>
    refine ⟨(cam_put ..).trans hcam, ?_, ?_, ?_, fun _ _ => camState_put _⟩
    · refine (int_put_ne _ _ ?_ (not_feeds_camSt hn (by decide))).trans hcount
      simp only [camSt, camCnt, Od.key]
      omega
    · exact (int_put_ne _ _ (by omega) (not_feeds_camSt hn (by decide))).trans hk
    · exact (int_put_ne _ _ (by omega) (not_feeds_camSt hn (by decide))).trans hstamp
  · next h => exact ⟨hcam, hcount, hk, hstamp, fun hs hg => absurd ⟨hs, hg⟩ h⟩

/-! ### Packets of network cameras (R38) -/

/-- A packet whose sequence number breaks the count (R38). -/
def breaks (s : State) (n : Nat) (x : RvfPacket) : Bool :=
  match (s.cam n).sequence with | some q => decide (q ≠ x.sequence.toNat) | none => false

/-- A break of the sequence counted (R38). -/
def gapped (s : State) (n : Nat) (x : RvfPacket) : State := if s.breaks n x then s.bump (camCnt n + 0xB) else s

theorem gapped_cam (n : Nat) (x : RvfPacket) : (s.gapped n x).cam n = s.cam n := by
  unfold gapped
  split
  · rfl
  · rfl

/-- The sequence number of an RVF packet noted, a break of it counted (R38). -/
def sequenced (s : State) (n : Nat) (x : RvfPacket) : State :=
  (s.gapped n x).setCam n { (s.gapped n x).cam n with sequence := some ((x.sequence.toNat + 1) % 256) }

theorem sequenced_cam (n : Nat) (x : RvfPacket) :
    (s.sequenced n x).cam n = { s.cam n with sequence := some ((x.sequence.toNat + 1) % 256) } := by
  unfold sequenced
  rw [cam_setCam_self, gapped_cam]

theorem int_sequenced_ne {n k : Nat} (x : RvfPacket) (hn : n < 8) (h : k ≠ camCnt n + 0xB) : (s.sequenced n x).int k = s.int k := by
  unfold sequenced gapped
  rw [setCam_int]
  split
  · exact int_bump_ne _ h.symm (not_feeds_camCnt hn (by decide))
  · rfl

theorem sequenced_break {n q : Nat} {x : RvfPacket} (hq : (s.cam n).sequence = some q) (h : q ≠ x.sequence.toNat) :
    (s.sequenced n x).int (camCnt n + 0xB) = min (s.int (camCnt n + 0xB) + 1) 0xFFFFFFFF := by
  have hbreaks : s.breaks n x = true := by
    unfold breaks
    rw [hq]
    exact decide_eq_true h
  unfold sequenced gapped
  rw [setCam_int, hbreaks, if_pos rfl, int_bump_self]

/-- A frame opened as discarded, its counts apart: the sequence number stays. -/
def OpenedDiscarded (s t : State) (n : Nat) : Prop :=
  (t.cam n).sequence = (s.cam n).sequence ∧ (∃ f, (t.cam n).frame = some f ∧ f.discard = true) ∧
  t.int (camCnt n + 0xB) = s.int (camCnt n + 0xB) ∧
  (∀ u, (s.cam n).rephaseUntil = some u → s.ctNow ≤ u → t.int (camCnt n + 0xE) = min (s.int (camCnt n + 0xE) + 1) 0xFFFFFFFF)

theorem int_openFrame_camCnt {n c : Nat} (hn : n < 8) (hc : c < 256) (k e : Nat) (cfg : Store) (discard : Bool) :
    (s.openFrame n k e cfg discard).int (camCnt n + c) = s.int (camCnt n + c) :=
  int_openFrame _ _ _ _ _ (by simp only [camCnt, Od.key]; omega) (by simp only [camCnt, Od.key]; omega)

theorem openFrame_discarded (n k e : Nat) (cfg : Store) : ((s.openFrame n k e cfg true).cam n).sequence = (s.cam n).sequence ∧
    ∃ f, ((s.openFrame n k e cfg true).cam n).frame = some f ∧ f.discard = true := by
  obtain ⟨shots, h⟩ := openFrame_cam (s := s) n k e cfg true
  rw [h]
  exact ⟨rfl, _, rfl, rfl⟩

theorem discardFrame_unwanted {n : Nat} (sub : Nat) (hf : (s.cam n).frame = none) : s.discardFrame n sub false =
    ((s.bump (camCnt n + sub)).bump (camCnt n + 2)).setCam n { s.cam n with good := 0, stats := none } := by
  have hnone : (((s.bump (camCnt n + sub)).bump (camCnt n + 2)).notAccepted n false) =
      ((s.bump (camCnt n + sub)).bump (camCnt n + 2)).setCam n { s.cam n with good := 0, stats := none } :=
    if_neg fun h => Bool.noConfusion h.2.1
  unfold discardFrame
  dsimp only
  rw [hnone, cam_setCam_self]
  dsimp only
  rw [hf]

theorem openedDiscarded_of {v : State} {n : Nat} (cfg : Store) (hn : n < 8) (hseq : (v.cam n).sequence = (s.cam n).sequence)
    (hb : v.int (camCnt n + 0xB) = s.int (camCnt n + 0xB))
    (he : ∀ u, (s.cam n).rephaseUntil = some u → s.ctNow ≤ u → v.int (camCnt n + 0xE) = min (s.int (camCnt n + 0xE) + 1) 0xFFFFFFFF) :
    OpenedDiscarded s (v.openFrame n 0 0 cfg true) n := by
  obtain ⟨hs, hframe⟩ := openFrame_discarded (s := v) n 0 0 cfg
  exact ⟨hs.trans hseq, hframe, (int_openFrame_camCnt hn (by decide) ..).trans hb,
    fun u hu ht => (int_openFrame_camCnt hn (by decide) ..).trans (he u hu ht)⟩

/-- A frame that none expects opens as discarded (R45, R48). -/
theorem startFrame_unexpected {n : Nat} (act : State → Expected → State) (hn : n < 8) (hf : (s.cam n).frame = none)
    (he : (s.cam n).expect = none) : OpenedDiscarded s (s.startFrame n s.ctNow act) n := by
  have hcnt (c : Nat) (hc : c < 256) : ¬ Feeds (camCnt n + c) := not_feeds_camCnt hn hc
  have hlate : OpenedDiscarded s (if (s.cam n).overdue then (s.bump (camCnt n + 7)).openFrame n 0 0 ((s.startView n).slotCfg n) true
      else (s.discardFrame n 7 false).openFrame n 0 0 ((s.startView n).slotCfg n) true) n ∨
      ∃ u, (s.cam n).rephaseUntil = some u ∧ s.ctNow ≤ u := by
    by_cases hr : ∃ u, (s.cam n).rephaseUntil = some u ∧ s.ctNow ≤ u
    · exact .inr hr
    · refine .inl ?_
      have hno : ∀ u, (s.cam n).rephaseUntil = some u → s.ctNow ≤ u → False := fun u hu ht => hr ⟨u, hu, ht⟩
      split
      · exact openedDiscarded_of _ hn rfl (int_bump_ne _ (by omega) (hcnt 7 (by decide))) fun u hu ht => (hno u hu ht).elim
      · refine openedDiscarded_of _ hn ?_ ?_ fun u hu ht => (hno u hu ht).elim
        · rw [discardFrame_unwanted 7 hf, cam_setCam_self]
        · rw [discardFrame_unwanted 7 hf, setCam_int, int_bump_ne _ (by omega) (hcnt 2 (by decide)),
            int_bump_ne _ (by omega) (hcnt 7 (by decide))]
  have hrephase : OpenedDiscarded s
      (((s.bump (camCnt n + 0xE)).bump (camCnt n + 2)).openFrame n 0 0 ((s.startView n).slotCfg n) true) n := by
    refine openedDiscarded_of _ hn rfl ?_ fun _ _ _ => ?_
    · rw [int_bump_ne _ (by omega) (hcnt 2 (by decide)), int_bump_ne _ (by omega) (hcnt 0xE (by decide))]
    · rw [int_bump_ne _ (by omega) (hcnt 2 (by decide)), int_bump_self]
  unfold startFrame
  dsimp only
  rw [he]
  dsimp only
  cases hr : (s.cam n).rephaseUntil with
  | none =>
    obtain h | ⟨u, hu, -⟩ := hlate
    · exact h
    · rw [hr] at hu
      exact (Option.some_ne_none _ hu.symm).elim
  | some u =>
    dsimp only
    split
    · exact hrephase
    · next ht =>
      obtain h | ⟨w, hw, hle⟩ := hlate
      · exact h
      · rw [hr] at hw
        cases hw
        exact absurd (decide_eq_true hle) ht

theorem rvfLines_discarded {n : Nat} {f : FrameIn} (x : RvfPacket) (hf : (s.cam n).frame = some f) (hd : f.discard = true) :
    s.rvfLines n x = s := by
  unfold rvfLines
  rw [hf]
  exact if_pos hd

/-- A packet that none expects, with no frame in progress (R38). -/
theorem rvf_unexpected {n : Nat} {x : RvfPacket} (hn : n < 8) (hp : s.pulsing n = true) (hnet : s.isNetwork n = true)
    (hf : (s.cam n).frame = none) (he : (s.cam n).expect = none) :
    ∃ u f, OpenedDiscarded (s.sequenced n x) u n ∧ (u.cam n).frame = some f ∧ f.discard = true ∧
      s.rvf n x = if x.lastOfFrame then u.cleared n else u := by
  have hnone : ((s.sequenced n x).cam n).frame = none := by
    rw [sequenced_cam]
    exact hf
  have hopen : OpenedDiscarded (s.sequenced n x) ((s.sequenced n x).rvfStart n x) n :=
    startFrame_unexpected _ hn hnone (by rw [sequenced_cam]; exact he)
  obtain ⟨f, hframe, hd⟩ := hopen.2.1
  refine ⟨_, f, hopen, hframe, hd, ?_⟩
  unfold rvf
  rw [if_neg (by rw [hp, packetView_of_none hf he, hnet]; simp)]
  change (let u := match ((s.sequenced n x).cam n).frame with
    | some f => if (s.sequenced n x).rvfNextFrame n f (s.breaks n x) x then ((s.sequenced n x).frameEnd n).rvfStart n x else s.sequenced n x
    | none => (s.sequenced n x).rvfStart n x
    let v := u.rvfLines n x
    if x.lastOfFrame then v.frameEnd n else v) = _
  rw [hnone]
  dsimp only
  rw [rvfLines_discarded x hframe hd, frameEnd_discarded hframe hd]

end State

/-- Settles O42, by the branch each packet takes: what the header, the slot and its frame decide. -/
theorem framesAreIngested : Obligations.FramesAreIngested := by
  refine ⟨?_, ?_, ?_, ?_, ?_, ?_, ?_, ?_, ?_, ?_, ?_⟩
  · intro s p vc ecc fine n e hready hecc hd hc hp hf hr he hb hlo hhi
    obtain ⟨shots, hcam, hoff, hcount⟩ := csiFrameStart_opens (ecc := ecc) p.isLt n.isLt hp hf hr he hb hlo hhi
      (csiFrameStart_first p.isLt hecc hd hc)
    refine ⟨_, s.opened n e.k e.exposure e.cfg false, congrArg Host.Outcome.next (served_of_ready hready), ?_, rfl, rfl, rfl, rfl, rfl, rfl,
      ?_, hoff, hcount⟩
    · rw [hcam]
    · rw [hcam]
  · exact fun s p vc fine hready hc hd => congrArg Host.Outcome.next ((served_of_ready hready).trans (csiFrameStart_nobody hd hc))
  · intro s p k n x f hready he hx hc hf ht hty hfull hcrc hd h
    exact congrArg Host.Outcome.next ((served_of_ready hready).trans
      ((csiPacket_line he hx hc hf ht hty hfull hcrc).trans (addLine_beyond hf hd h true)))
  · intro s p k n x f hready he hx hc hf ht hty hfull hcrc hd h hl g hg
    exact congrArg Host.Outcome.next ((served_of_ready hready).trans
      ((csiPacket_line he hx hc hf ht hty hfull hcrc).trans ((addLine_fits hf hd h hl).trans (if_neg (by rw [show s.lined n x f k.samples = g from rfl, hg]; simp)))))
  · exact fun s p k hready he hc => congrArg Host.Outcome.next ((served_of_ready hready).trans (csiPacket_nobody he hc))
  · intro s p k n x f hready he hx hc hf ht hfull hcrc hd
    refine ⟨_, congrArg Host.Outcome.next ((served_of_ready hready).trans (csiPacket_embedded he hx hc ht hfull hcrc)), ?_,
      embeddedLine_lost (s := s.bump (camCnt n + 4)) hf hd⟩
    rw [int_embeddedLine, int_bump_self]
  · exact fun s p hready => ⟨_, congrArg Host.Outcome.next (served_of_ready hready), sotError_count p, fun n f h hf hd => sotError_frame h hf hd⟩
  · intro s p vc n x f hready hc hx hf hd
    exact congrArg Host.Outcome.next ((served_of_ready hready).trans ((csiFrameEnd_good hc hx hf).trans (frameEnd_discarded hf hd)))
  · intro s p vc n x f hready hn hc hx hf hd hraw hrows hp hs
    obtain ⟨hcam, hcount, hk, hstamp, hlocked⟩ := frameAccepted_reads (s := s) f hn
    refine ⟨_, congrArg Host.Outcome.next ((served_of_ready hready).trans
      ((csiFrameEnd_good hc hx hf).trans (frameEnd_complete hf hd hraw hrows hp hs))), ?_⟩
    unfold framed camState
    rw [cam_setCam_self, hcam, setCam_int, setCam_int, setCam_int, setCam_int]
    exact ⟨rfl, rfl, rfl, rfl, hcount, hk, hstamp, hlocked⟩
  · exact fun s n k h => congrArg Host.Outcome.next (served_eq_self (if_pos h))
  · intro s n k hready hp hnet hf he
    obtain ⟨u, f, ⟨hseq, -, hbreak, hrephase⟩, hframe, hd, heq⟩ := rvf_unexpected (x := k) n.isLt hp hnet hf he
    have hnow : (s.sequenced n k).ctNow = s.ctNow := by
      unfold sequenced gapped
      split
      · rfl
      · rfl
    rw [sequenced_cam] at hseq hrephase
    rw [hnow, int_sequenced_ne k n.isLt (by omega)] at hrephase
    refine ⟨_, congrArg Host.Outcome.next ((served_of_ready hready).trans heq), ?_, ?_, ?_, ?_, ?_⟩
    · split
      · rw [cleared_cam]
        exact hseq
      · exact hseq
    · intro hlast
      rw [if_pos hlast, cleared_cam]
    · intro hlast
      rw [if_neg (by simp [hlast]), hframe, Option.map_some, hd]
    · rintro ⟨q, hq, hne⟩
      have hcount := hbreak.trans (sequenced_break hq hne)
      split
      · exact (int_cleared ..).trans hcount
      · exact hcount
    · intro w hw hle
      split
      · exact (int_cleared ..).trans (hrephase w hw hle)
      · exact hrephase w hw hle

end Sys2Proof.Machine

/-!
SUPPORT. The CCI buses (R30 to R35, R57): what a transfer, a script entry and an access of 0x2860 leave of the port, the
script that runs and the dictionary.
-/

namespace Sys2Proof.Machine

open State

namespace State

variable {s : State} {p : Nat}

/-! ### Ports and scripts -/

@[simp] theorem cciPort_setCciPort_self (x : CciPort) : (s.setCciPort p x).cciPort p = x := Tab.get_set_self ..

@[simp] theorem script_setScript_some (x : Script) : (s.setScript p (some x)).script? p = some x := Tab.find?_insert_self ..

@[simp] theorem script_setScript_none : (s.setScript p none).script? p = none := Tab.find?_erase_self ..

theorem int_setScript (x : Option Script) (k : Nat) : (s.setScript p x).int k = s.int k := int_with_video ..

theorem int_setCciPort (x : CciPort) (k : Nat) : (s.setCciPort p x).int k = s.int k := int_with_video ..

theorem script_of_video {t : State} (h : t.video.scripts = s.video.scripts) : t.script? p = s.script? p := by
  unfold script?
  rw [h]

/-- The entry a script is at hangs on the bytes of the port, and on the place and the kind of the script. -/
theorem scriptOp_of_reads {t : State} {x y : Script} (hb : ∀ k, k = cciRec p + 4 ∨ k = cciRec p + 5 → t.get k = s.get k)
    (hpos : y.pos = x.pos) (hstop : y.stop = x.stop) : t.scriptOp p y = s.scriptOp p x := by
  have hbytes : t.scriptBytes p y = s.scriptBytes p x := by
    unfold scriptBytes bytes
    rw [hstop, hb _ (by split <;> simp)]
  unfold scriptOp
  rw [hbytes, hpos]

/-! ### A free bus takes what waits (R34, R35) -/

/-- The bus has taken one transfer: one message went out, the scripts and the dictionary are as they were. -/
def BusTaken (s t : State) (p : Nat) : Prop :=
  t.out.length = s.out.length + 1 ∧ t.video.scripts = s.video.scripts ∧ t.od = s.od ∧ (t.cciPort p).use.isSome = true

theorem busNext_busy (h : (s.cciPort p).use.isSome = true) : s.busNext p = s := if_pos h

theorem busTaken_transfer {u : State} (write : Bool) (addr reg width value : Nat) (hout : u.out = s.out)
    (hscripts : u.video.scripts = s.video.scripts) (hod : u.od = s.od) (huse : (u.cciPort p).use.isSome = true) :
    BusTaken s (u.cciTransfer p write addr reg width value) p := by
  refine ⟨?_, hscripts, hod, huse⟩
  unfold cciTransfer
  rw [emit_out, hout, List.length_append]
  rfl

theorem busNext_takes {x : Script} (hfree : (s.cciPort p).use = none) (hx : s.entryWaiting p = some x) :
    BusTaken s (s.busNext p) p := by
  unfold busNext
  rw [hfree, if_neg Bool.noConfusion]
  split
  · exact busTaken_transfer _ _ _ _ _ rfl rfl rfl (by rw [cciPort_setCciPort_self]; rfl)
  · rw [hx]
    exact busTaken_transfer _ _ _ _ _ rfl rfl rfl (by rw [cciPort_setCciPort_self]; rfl)

theorem busNext_access_part : (s.busNext p).video.access = s.video.access := by
  unfold busNext
  split
  · rfl
  · split
    · rfl
    · split
      · rfl
      · split
        · split
          · rfl
          · rfl
        · rfl

theorem busNext_od : (s.busNext p).od = s.od := by
  unfold busNext
  split
  · rfl
  · split
    · rfl
    · split
      · rfl
      · split
        · split
          · rfl
          · rfl
        · rfl

/-- An exposure write that a bus takes was one that waits: a camera without a write keeps its record. -/
theorem busNext_cam_idle {n : Nat} (h : (s.cam n).write = none) : (s.busNext p).cam n = s.cam n := by
  unfold busNext
  split
  · rfl
  · split
    · next m w hw =>
      have hne : m ≠ n := by
        rintro rfl
        have hmem := List.mem_of_mem_head? (Option.mem_def.mpr hw)
        obtain ⟨j, -, hj⟩ := List.mem_filterMap.mp hmem
        split at hj
        · split at hj
          · next w' hw' =>
            split at hj
            · cases hj
            · cases hj
              rw [h] at hw'
              cases hw'
          · cases hj
        · cases hj
      exact cam_setCam_ne _ hne
    · split
      · rfl
      · split
        · split
          · rfl
          · rfl
        · rfl

/-! ### Script entries (R32, R33) -/

/-- An entry of a transfer starts on a free bus. -/
theorem startEntry_takes {x : Script} (hfree : (s.cciPort p).use = none) (hop : s.scriptOp p x = 1 ∨ s.scriptOp p x = 2) :
    (s.startEntry p x).script? p = some { x with waiting := 0 } ∧ (s.startEntry p x).out.length = s.out.length + 1 ∧
    (s.startEntry p x).od = s.od ∧ ((s.startEntry p x).cciPort p).use.isSome = true := by
  have hscript : (s.setScript p (some { x with waiting := 0 })).script? p = some { x with waiting := 0 } := script_setScript_some _
  have hop' : (s.setScript p (some { x with waiting := 0 })).scriptOp p { x with waiting := 0 } = s.scriptOp p x :=
    scriptOp_of_reads (fun _ _ => get_with_video ..) rfl rfl
  have hwait : (s.setScript p (some { x with waiting := 0 })).entryWaiting p = some { x with waiting := 0 } := by
    unfold entryWaiting
    rw [hscript]
    exact if_pos ⟨rfl, by rw [hop']; exact hop⟩
  obtain ⟨hout, hscripts, hod, huse⟩ := busNext_takes (s := s.setScript p (some { x with waiting := 0 })) (p := p) hfree hwait
  have heq : s.startEntry p x = (s.setScript p (some { x with waiting := 0 })).busNext p := if_pos hop
  rw [heq]
  exact ⟨(script_of_video hscripts).trans hscript, hout, hod, huse⟩

/-- The entry after one that is done. -/
def nextEntry (x : Script) : Script := { x with pos := x.pos + 1, tries := 0, waiting := 0 }

theorem advance_takes {x : Script} (hfree : (s.cciPort p).use = none) (hop : s.scriptOp p (nextEntry x) = 1 ∨ s.scriptOp p (nextEntry x) = 2) :
    (s.advance p x).script? p = some (nextEntry x) ∧ (s.advance p x).out.length = s.out.length + 1 ∧ (s.advance p x).od = s.od ∧
    ((s.advance p x).cciPort p).use.isSome = true := by
  have hop' : (s.setScript p (some (nextEntry x))).scriptOp p (nextEntry x) = s.scriptOp p (nextEntry x) :=
    scriptOp_of_reads (fun _ _ => get_with_video ..) rfl rfl
  have heq : s.advance p x = (s.setScript p (some (nextEntry x))).startEntry p (nextEntry x) := by
    unfold advance
    change pump 18 (s.setScript p (some (nextEntry x))) p = _
    unfold pump
    rw [script_setScript_some]
    exact if_neg (by rw [hop']; omega)
  obtain ⟨hscript, hout, hod, huse⟩ := startEntry_takes (s := s.setScript p (some (nextEntry x))) (p := p) (x := nextEntry x) hfree
    (by rw [hop']; exact hop)
  rw [heq]
  exact ⟨hscript, hout, hod, huse⟩

theorem busIdle_free : ((s.busIdle p).cciPort p).use = none := by
  unfold busIdle
  rw [cciPort_setCciPort_self]

/-- An entry that is done well (R33). -/
theorem scriptDone_ok {x : Script} (v : Nat) (hx : s.script? p = some x) (hw : x.waiting = 0) (hu : (s.cciPort p).use = some .script)
    (h1 : s.scriptOp p x = 1) (hop : s.scriptOp p (nextEntry x) = 1 ∨ s.scriptOp p (nextEntry x) = 2) :
    s.scriptDone p (.ok v) = (s.busIdle p).advance p x := by
  have hop1 : (s.busIdle p).scriptOp p x = 1 := (scriptOp_of_reads (fun _ _ => get_with_video ..) rfl rfl).trans h1
  have hop2 : (s.busIdle p).scriptOp p (nextEntry x) = s.scriptOp p (nextEntry x) :=
    scriptOp_of_reads (fun _ _ => get_with_video ..) rfl rfl
  obtain ⟨-, -, -, huse⟩ := advance_takes (s := s.busIdle p) (x := x) busIdle_free (by rw [hop2]; exact hop)
  unfold scriptDone
  rw [hx]
  dsimp only
  rw [if_neg (by simp [hw, hu]), if_neg (by rw [hop1]; omega)]
  exact busNext_busy huse

/-- An entry that is not acknowledged is tried again (R33). -/
theorem scriptDone_nack {x : Script} (hx : s.script? p = some x) (hw : x.waiting = 0) (hu : (s.cciPort p).use = some .script)
    (ht : x.tries < 2) : s.scriptDone p .nack = ((s.busIdle p).bump (cciRec p + 0x10)).startEntry p { x with tries := x.tries + 1 } := by
  unfold scriptDone
  rw [hx]
  dsimp only
  rw [if_neg (by simp [hw, hu]), if_neg (by omega)]

theorem not_feeds_cciRec {c : Nat} (hp : p < 4) (hc : c < 256) : ¬ Feeds (cciRec p + c) := by
  rw [cciRec, key_add]
  exact not_feeds_key (by omega) hc

theorem int_startEntry (x : Script) (k : Nat) : (s.startEntry p x).int k = s.int k := by
  unfold startEntry
  dsimp only
  split
  · exact (int_busNext ..).trans (int_setScript ..)
  · exact int_setScript ..

/-- A script that fails with nothing waiting on the ports ends, and faults its camera in INIT (R33, R50). -/
theorem scriptFails_ends {x : Script} (hstop : x.stop = false) (hs : s.camState x.slot = 1) (hw : s.video.waiting = []) (hn : x.slot < 8) :
    (s.scriptFails p x).script? p = none ∧ (s.scriptFails p x).camState x.slot = 5 := by
  have hnone : (s.setScript p none).camState x.slot = 1 := (int_setScript ..).trans hs
  have hvideo : ((s.setScript p none).camFault x.slot).video.scripts = (s.setScript p none).video.scripts ∧
      ((s.setScript p none).camFault x.slot).video.waiting = [] := by
    unfold camFault
    rw [raise_video]
    exact ⟨rfl, hw⟩
  have hscript : ((s.setScript p none).camFault x.slot).script? p = none := (script_of_video hvideo.1).trans script_setScript_none
  have hnext : ((s.setScript p none).camFault x.slot).nextWaiting p = none := by
    unfold nextWaiting
    rw [hvideo.2]
    rfl
  have heq : s.scriptFails p x = (s.setScript p none).camFault x.slot := by
    unfold scriptFails
    dsimp only
    rw [if_neg (by simp [hstop, hnone])]
    unfold pump
    rw [hscript]
    dsimp only
    rw [hnext]
  rw [heq]
  exact ⟨hscript, (camFault_parts hn).1⟩

/-! ### Accesses of 0x2860 (R57) -/

/-- The access that the record asks for (R57). -/
def asked (s : State) (write : Bool) : CciJob :=
  { write := write, port := s.nat 0x286001, addr := s.nat 0x286002, reg := s.nat 0x286003, width := s.nat 0x286004, value := s.nat 0x286005 }

theorem cciQueue_takes (write : Bool) (h : s.video.access = none) : s.cciQueue write =
    (({ s.put 0x286007 0 with video := { s.video with access := some (s.asked write) } } : State).busNext (s.nat 0x286001), 0) := by
  unfold cciQueue
  rw [h]
  rfl

theorem cciQueue_reads (w : Writer) (write : Bool) (h : s.video.access = none) :
    (((s.cciQueue write).1.respond w (s.cciQueue write).2 []).int 0x286007 = 0) ∧
    ((s.cciQueue write).1.respond w (s.cciQueue write).2 []).video.access = some (s.asked write) := by
  rw [cciQueue_takes write h]
  refine ⟨?_, ?_⟩
  · exact (int_respond _ _ _ _ (by decide) (by decide)).trans ((int_busNext ..).trans ((int_with_video ..).trans (int_put_self ..)))
  · rw [respond_video, busNext_access_part]

/-- An access that ends with the bus free again (R57). -/
theorem accessDone_ok {j : CciJob} (v : Nat) (hj : s.video.access = some j) (hu : (s.cciPort j.port).use = some .access) :
    (s.accessDone (.ok v)).video.access = none ∧ (s.accessDone (.ok v)).int 0x286007 = 1 ∧
    (s.accessDone (.ok v)).int 0x286005 = if j.write then s.int 0x286005 else (v % 256 ^ j.width : Nat) := by
  have heq : s.accessDone (.ok v) =
      (if j.write then (s.busIdle j.port).accessEnds.put 0x286007 1
        else ((s.busIdle j.port).accessEnds.put 0x286005 (v % 256 ^ j.width : Nat)).put 0x286007 1).busNext j.port := by
    unfold accessDone
    rw [hj]
    exact if_neg (not_not.mpr hu)
  have hidle (k : Nat) : (s.busIdle j.port).accessEnds.int k = s.int k := (int_with_video ..).trans (int_setCciPort ..)
  rw [heq, busNext_access_part, int_busNext, int_busNext]
  split
  · exact ⟨rfl, int_put_self .., (int_put_ne _ _ (by decide) (by decide)).trans (hidle _)⟩
  · exact ⟨rfl, int_put_self .., (int_put_ne _ _ (by decide) (by decide)).trans (int_put_self ..)⟩

theorem accessDone_timeout {j : CciJob} (hj : s.video.access = some j) (hu : (s.cciPort j.port).use = some .access) :
    (s.accessDone .timeout).video.access = none ∧ (s.accessDone .timeout).int 0x286007 = 3 := by
  have heq : s.accessDone .timeout = ((s.busIdle j.port).accessEnds.put 0x286007 3).busNext j.port := by
    unfold accessDone
    rw [hj]
    exact if_neg (not_not.mpr hu)
  rw [heq, busNext_access_part, int_busNext]
  exact ⟨rfl, int_put_self ..⟩

theorem accessDone_nack {j : CciJob} (hj : s.video.access = some j) (hu : (s.cciPort j.port).use = some .access) (ht : 2 ≤ j.tries) :
    (s.accessDone .nack).video.access = none ∧ (s.accessDone .nack).int 0x286007 = 2 := by
  have heq : s.accessDone .nack =
      (((s.busIdle j.port).bump (cciRec j.port + 0x10)).accessEnds.put 0x286007 2).busNext j.port := by
    unfold accessDone
    rw [hj]
    dsimp only
    rw [if_neg (not_not.mpr hu), if_pos ht]
  rw [heq, busNext_access_part, int_busNext]
  exact ⟨rfl, int_put_self ..⟩

/-! ### Exposure writes (R34) -/

theorem exposureDone_ok {n k v : Nat} {w : ExposureWrite} (hb : s.exposureBus n = some (p, k)) (hw : (s.cam n).write = some w)
    (hk : w.frame = k) : ((s.exposureDone n (.ok v)).cam n).write = none ∧
      ((s.exposureDone n (.ok v)).cam n).schedule = (s.cam n).schedule ∧ (s.exposureDone n (.ok v)).od = s.od := by
  have hcam : (s.busIdle p).cam n = s.cam n := rfl
  have heq : s.exposureDone n (.ok v) = ((s.busIdle p).setCam n { s.cam n with write := none }).busNext p := by
    unfold exposureDone
    rw [hb]
    dsimp only
    rw [hcam, hw, Option.map_some, hk, if_pos rfl]
  rw [heq, busNext_cam_idle (by rw [cam_setCam_self]), cam_setCam_self, busNext_od]
  exact ⟨rfl, rfl, rfl⟩

/-! ### Hot joins (R30) -/

theorem hotJoin_assigns (h : s.int (cciRec p + 1) = 0) : s.hotJoin p = s.assignAddress p 0 := if_pos (decide_eq_true h)

theorem hotJoin_other (h : s.int (cciRec p + 1) ≠ 0) : s.hotJoin p = s :=
  if_neg (by unfold i3c; rw [decide_eq_false h]; exact Bool.false_ne_true)

theorem assignAddress_joined : (s.assignAddress p 0).out = s.out ++ [.ccc p 0x07 0x7E none] ∧
    ((s.assignAddress p 0).cciPort p).dynamic.getLast? = some (0, s.freeNat % 128) ∧ (s.assignAddress p 0).free = s.free + 1 ∧
    (s.assignAddress p 0).od = s.od := by
  refine ⟨rfl, ?_, rfl, rfl⟩
  unfold assignAddress
  dsimp only
  change ((s.tookFree.setCciPort p _).cciPort p).dynamic.getLast? = _
  rw [cciPort_setCciPort_self]
  exact List.getLast?_concat

end State

/-- Settles O43, by what each transfer of a script, each access and each exposure write that ends lets start next. -/
theorem scriptsAndRegisterAccesses : Obligations.ScriptsAndRegisterAccesses := by
  refine ⟨?_, ?_, ?_, ?_, ?_, ?_, ?_, ?_, ?_, ?_⟩
  · intro s p x hready hx hw hu ht hop
    have hbytes (k : Nat) (hk : k = cciRec p + 4 ∨ k = cciRec p + 5) : ((s.busIdle p).bump (cciRec p + 0x10)).get k = s.get k := by
      refine (get_bump_ne ?_ (not_feeds_cciRec p.isLt (by decide))).trans (get_with_video ..)
      omega
    have hop' : ((s.busIdle p).bump (cciRec p + 0x10)).scriptOp p { x with tries := x.tries + 1 } = s.scriptOp p x :=
      scriptOp_of_reads hbytes rfl rfl
    obtain ⟨hscript, hout, -, -⟩ := startEntry_takes (s := (s.busIdle p).bump (cciRec p + 0x10)) (p := p)
      (x := { x with tries := x.tries + 1 }) busIdle_free (by rw [hop']; exact hop)
    refine ⟨_, congrArg Host.Outcome.next ((served_of_ready hready).trans (scriptDone_nack hx hw hu ht)), ?_, ?_, hout⟩
    · rw [hscript, ← hw]
    · rw [int_startEntry, int_bump_self]
      exact congrArg (fun v => min (v + 1) _) (int_setCciPort ..)
  · intro s p x v hready hx hw hu h1 hop
    have hop' : (s.busIdle p).scriptOp p (nextEntry x) = s.scriptOp p (nextEntry x) := scriptOp_of_reads (fun _ _ => get_with_video ..) rfl rfl
    obtain ⟨hscript, hout, hod, -⟩ := advance_takes (s := s.busIdle p) (x := x) busIdle_free (by rw [hop']; exact hop)
    exact ⟨_, congrArg Host.Outcome.next ((served_of_ready hready).trans (scriptDone_ok v hx hw hu h1 hop)), hscript, hout, hod⟩
  · intro s p x hready hx hw hu hop
    obtain ⟨hscript, hout, hod, -⟩ := advance_takes hu (x := x) (.inl hop)
    refine ⟨_, congrArg Host.Outcome.next ((served_of_ready hready).trans ?_), hscript, hout, hod⟩
    unfold scriptDelay
    rw [hx]
    exact if_pos hw
  · intro s p x hready hx hw hstop hn hs hwait
    refine ⟨_, congrArg Host.Outcome.next ((served_of_ready hready).trans ?_), scriptFails_ends hstop hs hwait hn⟩
    unfold scriptTimeout
    rw [hx]
    exact if_pos hw
  · exact fun s p hready => ⟨fun h => ⟨_, congrArg Host.Outcome.next ((served_of_ready hready).trans (hotJoin_assigns h)), assignAddress_joined⟩,
      fun h => congrArg Host.Outcome.next ((served_of_ready hready).trans (hotJoin_other h))⟩
  · exact fun s w hw h => ⟨_, congrArg Host.Outcome.next (served_accessAct hw), cciQueue_reads w false h⟩
  · exact fun s w hw h => ⟨_, congrArg Host.Outcome.next (served_accessAct hw), cciQueue_reads w true h⟩
  · exact fun s j v hready hj hu => ⟨⟨_, congrArg Host.Outcome.next (served_of_ready hready), accessDone_ok v hj hu⟩,
      ⟨_, congrArg Host.Outcome.next (served_of_ready hready), accessDone_timeout hj hu⟩,
      fun ht _ => ⟨_, congrArg Host.Outcome.next (served_of_ready hready), accessDone_nack hj hu ht⟩⟩
  · exact fun s n p k v w hready hb hw hk => ⟨_, congrArg Host.Outcome.next (served_of_ready hready), exposureDone_ok (v := v) hb hw hk⟩
  · intro s n r h
    refine congrArg Host.Outcome.next (served_eq_self ?_)
    change s.exposureDone n r = s
    unfold exposureDone
    rw [h]

end Sys2Proof.Machine

/-!
SUPPORT. Views at their source (R70, R74, R76, R84): a definition that is the only one to wait is judged beside the instances
that go on, and the warp produces the next slice of a view.
-/

namespace Sys2Proof.Machine

open State

theorem same_comm (a b : ViewDef) : a.same b = b.same a := by
  unfold ViewDef.same
  simp only [eq_comm, and_comm]

namespace State

variable {s : State}

/-! ### The pan timeout (R74) -/

theorem panTimeout_parts {r v n : Nat}
    (h : s.slices.instances.any (fun i => i.is r v n && i.d.panOn && decide (i.signal ≠ 3)) = true) :
    (s.panTimeout r v n).slices.instances = s.slices.instances.map (fun i => if i.is r v n && i.d.panOn then
      { retarget (s.nextInstant i.d.slot.val s.ctNow) i.d.panFallback i with signal := 3 } else i) ∧
    (s.panTimeout r v n).video = s.video ∧ (s.panTimeout r v n).line = s.line := by
  unfold panTimeout
  rw [if_pos h]
  dsimp only
  rw [raise_slices, raise_video, raise_line]
  exact ⟨rfl, rfl, rfl⟩

/-! ### A definition judged alone (R76) -/

/-- The state in which one definition waits and no other. -/
def asking (s : State) (d : ViewDef) : State := { s with slices := { s.slices with requests := [{ d := d }] } }

theorem stays_asking {d : ViewDef} (h : s.slices.requests = []) : (s.asking d).stays = s.otherInstances d := by
  unfold stays otherInstances asking
  rw [h]
  refine List.filter_congr fun i _ => ?_
  simp only [List.any_cons, List.any_nil, Bool.or_false, Bool.not_false, Bool.and_true, same_comm d i.d]

/-- The verdict on one definition, and the running view it gives. -/
def verdict (s : State) (d : ViewDef) : Answer × List Instance := s.judgeDefinition (s.otherInstances d) d

/-- The state in which the verdict on one definition stands (R76). -/
def judged (s : State) (d : ViewDef) : State :=
  { s with slices := { s.slices with
      requests := [{ d := d, answer := some (s.verdict d).1 }],
      instances := s.slices.instances.filter (·.active) ++ (s.verdict d).2 } }

/-- The state that answers: a refusal counted. -/
def counted (s : State) (d : ViewDef) : State := if (s.verdict d).1.reason ≠ 0 then (s.judged d).bump 0x28B005 else s.judged d

theorem viewDefinition_alone {d : ViewDef} (h : s.slices.requests = []) :
    s.viewDefinition d = ((s.counted d).answerView d.requester.toNat (s.verdict d).1).warpStatus := by
  have hreq : (s.asking d).slices.requests = [{ d := d }] := rfl
  have hall : (s.asking d).judgeAll (s.asking d).slices.requests (s.asking d).stays = [(d, s.verdict d)] := by
    rw [stays_asking h]
    rfl
  have hask : s.viewDefinition d = (s.asking d).judgeRequests := by
    unfold viewDefinition
    rw [h]
    rfl
  rw [hask]
  unfold judgeRequests
  dsimp only
  rw [hall, hreq, List.zip_cons_cons, List.zip_nil_left, List.foldl_cons, List.foldl_nil, if_neg (by exact fun e => Option.some_ne_none _ e.symm),
    List.flatMap_cons, List.flatMap_nil, List.append_nil]
  rfl

theorem counted_slices (d : ViewDef) : (s.counted d).slices = (s.judged d).slices := by
  unfold counted
  split
  · rfl
  · rfl

theorem answerView_parts (r : Nat) (a : Answer) : (s.answerView r a).slices.instances = s.slices.instances ∧
    (s.answerView r a).slices.requests = s.slices.requests := by
  unfold answerView
  split
  · unfold putPan
    split
    · exact ⟨rfl, rfl⟩
    · exact ⟨rfl, rfl⟩
  · have hkeep : Keep [.od, .dict, .line, .trust] s ((s.emit (.viewAnswer r a.view a.inst a.reason a.breach a.need a.pan a.signal)).sendFree r) :=
      State.sendFree_keep rfl (State.emit_keep rfl (Keep.refl _ s))
    rw [hkeep.same .slices (by decide)]
    exact ⟨rfl, rfl⟩

theorem warpStatus_slices : s.warpStatus.slices = s.slices := rfl

theorem viewDefinition_parts {d : ViewDef} (h : s.slices.requests = []) :
    (s.viewDefinition d).slices.instances = s.slices.instances.filter (·.active) ++ (s.verdict d).2 ∧
    (s.viewDefinition d).slices.requests = [{ d := d, answer := some (s.verdict d).1 }] := by
  obtain ⟨hinst, hreq⟩ := answerView_parts (s := s.counted d) d.requester.toNat (s.verdict d).1
  rw [viewDefinition_alone h, warpStatus_slices, hinst, hreq, counted_slices]
  exact ⟨rfl, rfl⟩

/-- A definition that nothing speaks against becomes a running view. -/
theorem verdict_admitted {d : ViewDef} (hr : s.refusalOf d = 0) (hb : s.breachOf d = 0) : (s.verdict d).1.reason = 0 ∧ (s.verdict d).1.breach = 0 ∧
    ∃ i, (s.verdict d).2 = [i] ∧ i.d = d ∧ i.active = false ∧ i.engine = s.engineAmong (s.otherInstances d) d ∧
      i.encoder = s.encoderAmong (s.otherInstances d) d := by
  have hrefusal : s.refusalAmong (s.otherInstances d) d = 0 := hr
  unfold verdict judgeDefinition
  dsimp only
  rw [hrefusal, if_pos rfl, hb, if_pos ⟨rfl, rfl⟩]
  exact ⟨rfl, rfl, _, rfl, rfl, rfl, rfl, rfl⟩

theorem verdict_refused {d : ViewDef} (hr : s.refusalOf d ≠ 0) :
    (s.verdict d).1.reason = s.refusalOf d ∧ (s.verdict d).1.breach = 0 ∧ (s.verdict d).1.view < 16 ∧ (s.verdict d).2 = [] := by
  have hrefusal : s.refusalAmong (s.otherInstances d) d ≠ 0 := hr
  unfold verdict judgeDefinition
  dsimp only
  rw [if_neg hrefusal, if_neg (fun h => hrefusal h.1)]
  exact ⟨rfl, rfl, d.view.isLt, rfl⟩

theorem viewDefinition_refused_count {d : ViewDef} (h : s.slices.requests = []) (hr : s.refusalOf d ≠ 0) :
    (s.viewDefinition d).int 0x28B005 = min (s.int 0x28B005 + 1) 0xFFFFFFFF := by
  obtain ⟨hreason, -, hview, -⟩ := verdict_refused hr
  have hcounted : s.counted d = (s.judged d).bump 0x28B005 := if_pos (by rw [hreason]; exact hr)
  rw [viewDefinition_alone h]
  unfold warpStatus
  dsimp only
  rw [int_put_ne _ _ (by decide) (by decide), int_put_ne _ _ (by decide) (by decide), int_put_ne _ _ (by decide) (by decide),
    int_put_ne _ _ (by decide) (by decide), int_answerView_below _ hview (by decide) (by decide), hcounted, int_bump_self]
  rfl

/-! ### The warp (R70) -/

theorem warpProduce_none {r v n : Nat} (h : ∀ i ∈ s.slices.instances, i.is r v n = false) : s.warpProduce r v n = s := by
  have hnone : s.slices.instances.find? (fun i => i.is r v n && i.active && !(s.spent i)) = none := by
    rw [List.find?_eq_none]
    intro i hi
    simp [h i hi]
  unfold warpProduce
  rw [hnone]

/-- The slice of a running view warped next: its window's rows reach to the last it reads. -/
theorem warpProduce_next {r v n k j : Nat} {i : Instance} {lo hi : Int} {row : Row} (hl : s.slices.instances = [i])
    (his : i.is r v n = true) (ha : i.active = true) (hs : s.spent i = false) (hn : s.nextSlice i = (k, j))
    (hf : i.from_ ≤ s.camInstant i.d.slot.val k) (hr : s.reserved i.d = true) (hrows : s.slicerows i k j = some (lo, hi))
    (hw : s.windowRow i.d.slot.val k hi = some row) :
    ∃ w x, s.warpProduce r v n = s.swapInstance i r v n x ∧ x.warped = i.warped ++ [w] ∧ w.k = k ∧ w.j = j ∧
      w.px = (s.warpSlice i k j).1 ∧ w.damaged = (s.warpSlice i k j).2 := by
  have hfind : s.slices.instances.find? (fun i => i.is r v n && i.active && !(s.spent i)) = some i := by
    rw [hl]
    exact List.find?_cons_of_pos (by simp [his, ha, hs])
  unfold warpProduce
  rw [hfind]
  dsimp only
  rw [hn]
  dsimp only
  rw [if_neg (by rw [hr]; simp [hf]), hrows]
  dsimp only
  rw [if_neg (by simp [hw])]
  exact ⟨_, _, rfl, rfl, rfl, rfl, rfl, rfl⟩

theorem swapInstance_one {r v n : Nat} {i x : Instance} (hl : s.slices.instances = [i]) (his : i.is r v n = true) (ha : i.active = true) :
    (s.swapInstance i r v n x).slices.instances = [x] := by
  unfold swapInstance
  dsimp only
  rw [hl, List.map_cons, List.map_nil, if_pos (by simp [his, ha])]

end State

/-- Settles O44, by the verdict on the only definition that waits, and the branch of the warp that its rows open. -/
theorem viewsAtTheSource : Obligations.ViewsAtTheSource := by
  refine ⟨?_, ?_, ?_, ?_, ?_⟩
  · exact fun s req view inst hready h => ⟨_, congrArg Host.Outcome.next (served_of_ready hready), panTimeout_parts h⟩
  · intro s d hready hq hr hb
    obtain ⟨hinst, hreq⟩ := viewDefinition_parts (d := d) hq
    obtain ⟨hreason, hbreach, i, hi, hd, hactive, hengine, hencoder⟩ := verdict_admitted hr hb
    refine ⟨_, i, congrArg Host.Outcome.next (served_of_ready hready), by rw [hinst, hi], hd, hactive, hengine, hencoder, ?_⟩
    rw [hreq, List.map_cons, List.map_nil, Option.map_some, hreason, hbreach]
  · intro s d hready hq hr
    obtain ⟨hinst, hreq⟩ := viewDefinition_parts (d := d) hq
    obtain ⟨hreason, hbreach, -, hnone⟩ := verdict_refused hr
    refine ⟨_, congrArg Host.Outcome.next (served_of_ready hready), by rw [hinst, hnone, List.append_nil],
      viewDefinition_refused_count hq hr, ?_⟩
    rw [hreq, List.map_cons, List.map_nil, Option.map_some, hreason, hbreach]
  · intro s req view inst i k j lo hi row hready hl his ha hs hn hf hr hrows hw
    obtain ⟨w, x, heq, hwarped, hk, hj, hpx, hdamaged⟩ := warpProduce_next hl his ha hs hn hf hr hrows hw
    refine ⟨_, w, congrArg Host.Outcome.next ((served_of_ready hready).trans heq), ?_, hk, hj, hpx, hdamaged, rfl, rfl⟩
    rw [swapInstance_one hl his ha, List.map_cons, List.map_nil, hwarped]
  · exact fun s req view inst h => congrArg Host.Outcome.next (served_eq_self (warpProduce_none h))

end Sys2Proof.Machine

/-!
SUPPORT. Slices at their encoder, at their sink and toward network displays (R91 to R98, R112): what is in flight, and what a
fragment that arrives does by its binding, its header and what has come before.
-/

namespace Sys2Proof.Machine

open State

namespace State

variable {s : State}

/-! ### Slices in flight (R96) -/

theorem int_flightCount_ne {k : Nat} (h4 : k ≠ 0x2C0004) (h5 : k ≠ 0x2C0005) : s.flightCount.int k = s.int k :=
  (int_put_ne _ _ h5.symm (by decide)).trans (int_put_ne _ _ h4.symm (by decide))

theorem flightCount_shown : s.flightCount.int 0x2C0004 = s.inFlight :=
  (int_put_ne _ _ (by decide) (by decide)).trans (int_put_self ..)

theorem flightCount_slices : s.flightCount.slices = s.slices := rfl

/-! ### The encoder (R91 to R94) -/

/-- The key epochs of an own stream. -/
def mineStream (r v n : Nat) (x : Epochs) : Bool := decide (x.source = 0 ∧ x.sink = r ∧ x.view = v ∧ x.instanceNo = n)

theorem ownStream_eq (r v n : Nat) : s.ownStream r v n = s.trust.streams.find? (mineStream r v n) := rfl

/-- The streams with the turn of an own one noted (R95). -/
def turnNoted (s : State) (r v n t : Nat) : State :=
  { s with trust := { s.trust with streams := s.trust.streams.map (fun (y : Epochs) => if mineStream r v n y then { y with turn := some t } else y) } }

theorem turnStream_kept {r v n k : Nat} {e : Epochs} (he : s.ownStream r v n = some e)
    (ht : e.turn = none ∨ e.turn = some (k / 2 ^ 32)) : s.turnStream r v n k = s.turnNoted r v n (k / 2 ^ 32) := by
  have hstay : ¬(e.turn.isSome = true ∧ e.turn ≠ some (k / 2 ^ 32)) := by
    rintro ⟨hsome, hne⟩
    obtain h | h := ht
    · simp [h] at hsome
    · exact hne h
  unfold turnStream
  rw [he]
  dsimp only
  rw [if_neg hstay]
  rfl

theorem find_turnNoted (r v n t : Nat) : ∀ l : List Epochs,
    (l.map (fun (y : Epochs) => if mineStream r v n y then { y with turn := some t } else y)).find? (mineStream r v n) =
      (l.find? (mineStream r v n)).map (fun y => { y with turn := some t })
  | [] => rfl
  | y :: l => by
    by_cases h : mineStream r v n y = true
    · rw [List.map_cons, if_pos h, List.find?_cons_of_pos h, List.find?_cons_of_pos (by exact h)]
      rfl
    · rw [List.map_cons, if_neg h, List.find?_cons_of_neg h, List.find?_cons_of_neg h]
      exact find_turnNoted r v n t l

theorem ownStream_turnNoted {r v n t : Nat} {e : Epochs} (he : s.ownStream r v n = some e) :
    (s.turnNoted r v n t).ownStream r v n = some { e with turn := some t } := by
  rw [ownStream_eq] at he ⊢
  unfold turnNoted
  dsimp only
  rw [find_turnNoted, he, Option.map_some]

/-- The state that codes a slice: it has left the warp and is counted, and its stream's turn is noted (R91, R95). -/
def coding (s : State) (i : Instance) (r v n : Nat) (w : Warped) (rest : List Warped) : State :=
  ((s.takeWarped i r v n rest).turnNoted r v n (w.k / 2 ^ 32)).bump 0x2C0006

theorem takeWarped_one {r v n : Nat} {i : Instance} {rest : List Warped} (hl : s.slices.instances = [i]) (his : i.is r v n = true)
    (hs : s.spent { i with warped := rest } = false) :
    s.takeWarped i r v n rest = { s with slices := { s.slices with instances := [{ i with warped := rest }] } } := by
  unfold takeWarped
  rw [hl, List.map_cons, List.map_nil, if_pos (by simp [his]), List.filter_cons_of_pos (by rw [hs]; rfl), List.filter_nil]

theorem encodeSlice_out {r v n f : Nat} {i : Instance} {w : Warped} {rest : List Warped} {e : Epochs} (hl : s.slices.instances = [i])
    (his : i.is r v n = true) (hwarped : i.warped = w :: rest)
    (he : s.ownStream r v n = some e) (hw : e.waiting = false) (ht : e.turn = none ∨ e.turn = some (w.k / 2 ^ 32))
    (hlocal : i.d.local_ = false) (hf : s.fragmentSize i.d.streamNumber r = some f)
    (hfull : s.flightFull (sliceBytes i.d.width i.d.bitsPerPixel w.rows) = false) : s.encodeSlice r v n =
      ((s.coding i r v n w rest).putOut i w { e with turn := some (w.k / 2 ^ 32) } f, none) := by
  have hfind : s.slices.instances.find? (fun i => i.is r v n && !i.warped.isEmpty) = some i := by
    rw [hl]
    exact List.find?_cons_of_pos (by simp [his, hwarped])
  have htake : (s.takeWarped i r v n rest).ownStream r v n = some e := he
  have hown : (s.coding i r v n w rest).ownStream r v n = some { e with turn := some (w.k / 2 ^ 32) } := ownStream_turnNoted htake
  have hsize : (s.coding i r v n w rest).fragmentSize i.d.streamNumber r = some f := hf
  have hfull' : (s.coding i r v n w rest).flightFull (sliceBytes i.d.width i.d.bitsPerPixel w.rows) = false := hfull
  unfold encodeSlice
  rw [hfind]
  dsimp only
  rw [hwarped]
  dsimp only
  rw [turnStream_kept htake ht, show ((s.takeWarped i r v n rest).turnNoted r v n (w.k / 2 ^ 32)).bump 0x2C0006 =
    s.coding i r v n w rest from rfl, hown]
  dsimp only
  rw [if_neg (by simp [hw]), if_neg (by simp [hlocal]), hsize]
  dsimp only
  rw [if_neg (by simp [hfull'])]

theorem codedData_length (i : Instance) (w : Warped) : (codedData i w).length = sliceBytes i.d.width i.d.bitsPerPixel w.rows := by
  unfold codedData
  rw [List.length_map, List.length_range]

/-- A header hangs on the shots of the camera, on the source and on the time alone (R92). -/
theorem sliceHeader_of_reads {t : State} (i : Instance) (w : Warped) (epoch m : Nat) (hvideo : t.video = s.video)
    (hsource : t.sliceSource = s.sliceSource) (hvalid : t.ctValid = s.ctValid) (hct : t.ct32 = s.ct32) :
    t.sliceHeader i w epoch m = s.sliceHeader i w epoch m := by
  have hshot : (t.shotOf i.d.slot.val w.k).failed = (s.shotOf i.d.slot.val w.k).failed := by
    unfold shotOf
    rw [cam_of_video hvideo]
    cases (s.cam i.d.slot.val).shots.find? (fun x => decide (x.k = w.k)) with
    | none => rfl
    | some x => rfl
  unfold sliceHeader
  rw [hshot, hsource, hvalid, hct]

/-- The slice as it is put in flight (R92 to R94). -/
def outSlice (s : State) (i : Instance) (w : Warped) (e : Epochs) (f : Nat) : OutSlice :=
  { h := s.sliceHeader i w e.epoch (fragmentsIn (sliceBytes i.d.width i.d.bitsPerPixel w.rows) f), view := i.d.view.val,
    sink := i.d.requester.toNat, data := codedData i w,
    tag := sliceTag e.key (s.sliceHeader i w e.epoch (fragmentsIn (sliceBytes i.d.width i.d.bitsPerPixel w.rows) f)) (codedData i w),
    key := e.key, slots := [] }

/-- A unit without a pair puts a slice in flight. -/
theorem putOut_alone {i : Instance} {w : Warped} {e : Epochs} {f : Nat} (hp : s.pairing = false) : s.putOut i w e f =
    ({ s with slices := { s.slices with out := s.slices.out ++ [s.outSlice i w e f] } } : State).flightCount := by
  have hact (u : State) (hu : u.pairing = false) (c : Nat) (l : List Byte) : u.act c l = u := by
    unfold act
    rw [hu, if_neg Bool.noConfusion]
  have hno : ¬ ((s.pairing && s.pair.up && decide (s.int 0x300102 = 1)) = true) := by simp [hp]
  unfold putOut
  dsimp only
  rw [if_neg hno, if_pos rfl, codedData_length]
  unfold sliceAct
  rw [hact _ (by exact hp)]
  rfl

theorem encodeSlice_parts {r v n f : Nat} {i : Instance} {w : Warped} {rest : List Warped} {e : Epochs}
    (hl : s.slices.instances = [i]) (his : i.is r v n = true) (hs : s.spent { i with warped := rest } = false) (hp : s.pairing = false) :
    ((s.coding i r v n w rest).putOut i w { e with turn := some (w.k / 2 ^ 32) } f).slices.instances = [{ i with warped := rest }] ∧
    ((s.coding i r v n w rest).putOut i w { e with turn := some (w.k / 2 ^ 32) } f).slices.out = s.slices.out ++ [s.outSlice i w e f] ∧
    ((s.coding i r v n w rest).putOut i w { e with turn := some (w.k / 2 ^ 32) } f).int 0x2C0006 = min (s.int 0x2C0006 + 1) 0xFFFFFFFF ∧
    ((s.coding i r v n w rest).putOut i w { e with turn := some (w.k / 2 ^ 32) } f).int 0x2C0004 = s.inFlight + 1 := by
  have hcoding : s.coding i r v n w rest =
      (({ s with slices := { s.slices with instances := [{ i with warped := rest }] } } : State).turnNoted r v n (w.k / 2 ^ 32)).bump 0x2C0006 := by
    unfold coding
    rw [takeWarped_one hl his hs]
  have hpairing : (s.coding i r v n w rest).pairing = false := hp
  have htime : (s.coding i r v n w rest).int 0x260001 = s.int 0x260001 := int_bump_ne _ (by decide) (by decide)
  have hvalid : (s.coding i r v n w rest).ctValid = s.ctValid := by
    unfold ctValid timeState
    rw [htime]
  have hsource : (s.coding i r v n w rest).sliceSource = s.sliceSource := by
    unfold sliceSource
    rw [hpairing, hp]
    rfl
  have hout : (s.coding i r v n w rest).outSlice i w { e with turn := some (w.k / 2 ^ 32) } f = s.outSlice i w e f := by
    unfold outSlice
    rw [sliceHeader_of_reads (s := s) (t := s.coding i r v n w rest) i w e.epoch _ rfl hsource hvalid (ct32_of_reads (s := s) (t := s.coding i r v n w rest) rfl rfl htime)]
  have hcount : (s.coding i r v n w rest).int 0x2C0006 = min (s.int 0x2C0006 + 1) 0xFFFFFFFF := int_bump_self ..
  have hslices : (s.coding i r v n w rest).slices = { s.slices with instances := [{ i with warped := rest }] } := by
    rw [hcoding]
    rfl
  rw [putOut_alone hpairing, hout]
  refine ⟨?_, ?_, ?_, ?_⟩
  · rw [flightCount_slices, hslices]
  · rw [flightCount_slices, hslices]
  · rw [int_flightCount_ne (by decide) (by decide)]
    exact hcount
  · rw [flightCount_shown]
    unfold inFlight forwarded
    dsimp only
    rw [hslices, List.length_append, List.length_singleton]
    push_cast
    omega

/-! ### Fragments that arrive (R96 to R98) -/

theorem fragmentIn_unbound {c : Chan} {h : SliceHeader} {data : List Byte} {ok : Bool} (hb : s.boundFor h = none) :
    s.fragmentIn c h data ok = s.bump 0x2C000B := by
  unfold fragmentIn
  rw [hb]

theorem fragmentIn_ignored {c : Chan} {h : SliceHeader} {data : List Byte} {ok : Bool} {b : Bound} (hb : s.boundFor h = some b)
    (hbad : s.slices.bad.any (fun x => decide (x.1 = c) && sameSlice x.2 h) = true) : s.fragmentIn c h data ok = s := by
  unfold fragmentIn
  rw [hb]
  exact if_pos hbad

theorem fragmentIn_malformed {c : Chan} {h : SliceHeader} {data : List Byte} {ok : Bool} {b : Bound} (hb : s.boundFor h = some b)
    (hbad : s.slices.bad.any (fun x => decide (x.1 = c) && sameSlice x.2 h) = false) (hm : s.malformed b.view h = true) :
    s.fragmentIn c h data ok = s.malformedSlice c h := by
  unfold fragmentIn
  rw [hb]
  dsimp only
  rw [if_neg (by simp [hbad]), if_pos (.inl hm)]

theorem malformedSlice_parts (c : Chan) (h : SliceHeader) : (s.malformedSlice c h).int 0x2C000A = min (s.int 0x2C000A + 1) 0xFFFFFFFF ∧
    (s.malformedSlice c h).slices.bad.getLast? = some (c, shared h) ∧ (s.malformedSlice c h).slices.seen = s.slices.seen ∧
    (s.malformedSlice c h).slices.displays = s.slices.displays := by
  unfold malformedSlice
  dsimp only
  rw [int_bump_self, int_flightCount_ne (by decide) (by decide)]
  exact ⟨rfl, List.getLast?_concat, rfl, rfl⟩

/-- The bytes a slice of a view takes in flight. -/
def sliceLength (s : State) (b : Bound) (h : SliceHeader) : Nat :=
  sliceBytes (s.viewW b.view) h.bitsPerPixel (sliceRows (s.viewH b.view) (s.sliceH b.view) h.index)

/-- The first fragment of a slice whose buffer is free (R96). -/
theorem fragmentIn_first {c : Chan} {h : SliceHeader} {data : List Byte} {ok : Bool} {b : Bound} (hb : s.boundFor h = some b)
    (hm : s.malformed b.view h = false) (hbad : s.slices.bad.any (fun x => decide (x.1 = c) && sameSlice x.2 h) = false)
    (hnew : s.slices.incoming.find? (fun x => decide (x.chan = c) && sameSlice x.h h) = none) (hf : h.fragment = 0)
    (hfull : (s.abandonOlder c h).flightFull (s.sliceLength b h) = false) : s.fragmentIn c h data ok =
      if h.fragments = 1 then ((s.abandonOlder c h).checked b.view h [data] ok).flightCount
      else ({ s.abandonOlder c h with slices := { (s.abandonOlder c h).slices with
        incoming := (s.abandonOlder c h).slices.incoming ++ [{ chan := c, h := h, got := [(0, data)], bytes := s.sliceLength b h + 48 }] } } : State).flightCount := by
  have hclean : s.slices.incoming.any (fun x => (decide (x.chan = c) && sameSlice x.h h) && decide (shared x.h ≠ shared h)) = false := by
    rw [List.any_eq_false]
    intro x hx
    have := List.find?_eq_none.mp hnew x hx
    simp only [Bool.and_eq_true, not_and] at this ⊢
    exact fun hc => absurd hc.2 (this hc.1)
  unfold fragmentIn
  rw [hb]
  dsimp only
  rw [if_neg (by simp [hbad]), if_neg (by rw [hm, hclean]; simp), hnew]
  dsimp only
  rw [if_neg (not_not.mpr hf)]
  change (if (s.abandonOlder c h).flightFull (s.sliceLength b h) = true then _ else _) = _
  rw [if_neg (by rw [hfull]; exact Bool.false_ne_true)]
  rfl

/-- A slice whose tag fails is counted, and nothing of it is shown (R98). -/
theorem checked_failed (v : Nat) (h : SliceHeader) (l : List (List Byte)) :
    (s.checked v h l false) = (s.bump 0x2C0008).raise 86 0 v 0 := by
  have hverified : s.verified v h l false = (s.bump 0x2C0008).raise 86 0 v 0 := if_pos (.inl rfl)
  have hsame : ((s.bump 0x2C0008).raise 86 0 v 0).int 0x2C0007 = s.int 0x2C0007 :=
    (int_raise _ _ _ _ _ (by decide)).trans (int_bump_ne _ (by decide) (by decide))
  unfold checked
  rw [hverified]
  exact if_neg (not_not.mpr hsame)

theorem checked_failed_parts (v : Nat) (h : SliceHeader) (l : List (List Byte)) :
    (s.checked v h l false).flightCount.int 0x2C0008 = min (s.int 0x2C0008 + 1) 0xFFFFFFFF ∧
    (s.checked v h l false).flightCount.int 0x2C0007 = s.int 0x2C0007 ∧ (s.checked v h l false).flightCount.slices = s.slices := by
  rw [int_flightCount_ne (by decide) (by decide), int_flightCount_ne (by decide) (by decide), flightCount_slices, checked_failed,
    int_raise _ _ _ _ _ (by decide), int_raise _ _ _ _ _ (by decide), raise_slices, int_bump_self,
    int_bump_ne _ (by decide) (by decide)]
  exact ⟨rfl, rfl, rfl⟩

/-! ### Network displays (R112) -/

/-- A slice that has begun to go out. -/
def going (s : State) (x : Forward) : State := { s with slices := { s.slices with forward := [{ x with going := true }] } }

theorem forwardSlice_begins {n : Nat} {x : Forward} (hl : s.slices.forward = [x]) (hx : x.display = n)
    (hup : s.starUp (s.forwardPort n) = true) (hpark : s.parked = false) :
    s.forwardSlice n = (s.going x).forwardPump (s.forwardPort n) := by
  have hfind : s.slices.forward.find? (fun x => decide (x.display = n)) = some x := by
    rw [hl]
    exact List.find?_cons_of_pos (decide_eq_true hx)
  unfold forwardSlice
  rw [hfind]
  dsimp only
  rw [hup, hpark, if_pos (by rfl), hl, List.map_cons, List.map_nil, if_pos rfl]
  rfl

/-- The state in which the last fragment has left (R112, R139). -/
def fragmentLeft (s : State) (x : Forward) (data : List Byte) : State :=
  (((s.going x).starLeaves (s.forwardPort x.display) (s.forwardFrame x data).length).usedSequence (s.forwardPort x.display) 5).emit
    (.star (s.forwardPort x.display) 2 (s.forwardFrame x data))

theorem forwardPump_last {x : Forward} {data : List Byte} (hd : x.left = [data]) (hpark : s.parked = false)
    (hq : (s.star (s.forwardPort x.display)).queue = [])
    (hfree : s.starFree (s.forwardPort x.display) (s.forwardFrame x data).length = true) :
    (s.going x).forwardPump (s.forwardPort x.display) = (s.fragmentLeft x data).fragmentForwarded { x with going := true } [] := by
  have hfind : (s.going x).slices.forward.find? (fun y => y.going && decide ((s.going x).forwardPort y.display = s.forwardPort x.display)) =
      some { x with going := true } := by
    refine List.find?_cons_of_pos ?_
    rw [Bool.true_and]
    exact decide_eq_true rfl
  have hready : ¬ (((s.going x).star (s.forwardPort x.display)).queue.any (fun y => decide (starClass y ≤ 1)) = true ∨
      (s.going x).starFree (s.forwardPort x.display) ((s.going x).forwardFrame { x with going := true } data).length = false ∨
      (s.going x).parked = true) := by
    change ¬ ((s.star (s.forwardPort x.display)).queue.any (fun y => decide (starClass y ≤ 1)) = true ∨
      s.starFree (s.forwardPort x.display) (s.forwardFrame x data).length = false ∨ s.parked = true)
    rw [hq, hfree, hpark]
    simp
  unfold forwardPump
  rw [hfind]
  dsimp only
  split
  · next h =>
    rw [hd] at h
    cases h
  · next y rest h =>
    rw [hd] at h
    cases h
    exact if_neg hready

theorem fragmentForwarded_last {x : Forward} (hl : s.slices.forward = [x]) : s.fragmentForwarded x [] =
    ((({ s with slices := { s.slices with forward := [] } } : State).bump (Od.key (0x2C78 + x.display) 0x10)).bump 0x2C000D).flightCount := by
  unfold fragmentForwarded
  dsimp only
  rw [if_pos rfl, hl, List.erase_cons_head]

/-- The last fragment gone, the slice is counted as forwarded. -/
theorem forwardSlice_last {n : Nat} {x : Forward} {data : List Byte} (hn : n < 8) (hl : s.slices.forward = [x]) (hx : x.display = n)
    (hd : x.left = [data]) (hup : s.starUp (s.forwardPort n) = true) (hpark : s.parked = false)
    (hq : (s.star (s.forwardPort n)).queue = []) (hfree : s.starFree (s.forwardPort n) (s.forwardFrame x data).length = true) :
    (s.forwardSlice n).slices.forward = [] ∧
    (s.forwardSlice n).out = s.out ++ [.star (s.forwardPort n) 2 (s.forwardFrame x data)] ∧
    (s.forwardSlice n).int (Od.key (0x2C78 + n) 0x10) = min (s.int (Od.key (0x2C78 + n) 0x10) + 1) 0xFFFFFFFF ∧
    (s.forwardSlice n).int 0x2C000D = min (s.int 0x2C000D + 1) 0xFFFFFFFF := by
  subst hx
  have hdefault : ∀ m : Fin 8, Od.default? (Od.key (0x2C78 + m.val) 0x10) ≠ none := by decide +kernel
  have hgone (k : Nat) (h : Od.key (0x2418 + s.forwardPort x.display) 8 ≠ k) (hk : Od.default? k ≠ none) :
      (s.fragmentLeft x data).int k = s.int k := by
    refine (int_emit ..).trans ((int_with_line ..).trans ?_)
    unfold starLeaves
    exact (int_setStar ..).trans ((int_bump_of_default h hk).trans (int_with_slices ..))
  have hkeys : Od.key (0x2C78 + x.display) 0x10 ≠ 0x2C000D ∧ 0x2C000D ≠ Od.key (0x2C78 + x.display) 0x10 := by
    simp only [Od.key]
    omega
  have hfeeds : ¬ Feeds (Od.key (0x2C78 + x.display) 0x10) := not_feeds_key (by omega) (by decide)
  have hleft : ∀ k, ({ s.fragmentLeft x data with slices := { (s.fragmentLeft x data).slices with forward := [] } } : State).int k =
      (s.fragmentLeft x data).int k := fun k => int_with_slices ..
  rw [forwardSlice_begins hl rfl hup hpark, forwardPump_last hd hpark hq hfree, fragmentForwarded_last rfl]
  refine ⟨rfl, rfl, ?_, ?_⟩
  · rw [int_flightCount_ne (by simp only [Od.key]; omega) (by simp only [Od.key]; omega), int_bump_ne _ hkeys.2 (by decide), int_bump_self,
      hleft, hgone _ (by simp only [Od.key]; omega) (hdefault ⟨x.display, hn⟩)]
  · rw [int_flightCount_ne (by decide) (by decide), int_bump_self, int_bump_ne _ hkeys.1 hfeeds, hleft,
      hgone _ (by simp only [Od.key]; omega) (by decide +kernel)]

end State

/-- Settles O45, by what each slice and fragment finds: its stream, its buffer, its binding and its port. -/
theorem slicesAreCodedAndReceived : Obligations.SlicesAreCodedAndReceived := by
  refine ⟨?_, ?_, ?_, ?_, ?_, ?_⟩
  · intro s req view inst i w rest e f hready hl his hwarped hs he hw ht hlocal hf hfull hp
    have hreq : i.d.requester.toNat = req.toNat := by
      unfold Instance.is at his
      exact (of_decide_eq_true his).1
    obtain ⟨hinst, hout, hcount, hflight⟩ := encodeSlice_parts (w := w) (e := e) (f := f) hl his hs hp
    have hencoded : s.encoded req.toNat view.val inst =
        (s.coding i req.toNat view.val inst w rest).putOut i w { e with turn := some (w.k / 2 ^ 32) } f := by
      unfold encoded
      rw [encodeSlice_out hl his hwarped he hw ht hlocal hf hfull]
    exact ⟨_, s.outSlice i w e f, congrArg Host.Outcome.next ((served_of_ready hready).trans hencoded), hinst, hout, rfl, rfl,
      codedData_length i w, rfl, hreq, hcount, hflight⟩
  · intro s c h data ok hready
    refine ⟨fun hb => congrArg Host.Outcome.next ((served_of_ready hready).trans (fragmentIn_unbound hb)),
      fun b hb hbad => congrArg Host.Outcome.next ((served_of_ready hready).trans (fragmentIn_ignored hb hbad)), fun b hb hbad hm => ?_⟩
    exact ⟨_, congrArg Host.Outcome.next ((served_of_ready hready).trans (fragmentIn_malformed hb hbad hm)), malformedSlice_parts c h⟩
  · intro s c h data ok b hready hb hm hbad hnew hf hmany hfull
    have hfirst := fragmentIn_first (data := data) (ok := ok) hb hm hbad hnew hf hfull
    rw [if_neg (by omega)] at hfirst
    refine ⟨_, congrArg Host.Outcome.next ((served_of_ready hready).trans hfirst), rfl, ?_⟩
    rw [flightCount_shown]
    unfold inFlight forwarded
    dsimp only
    rw [List.length_append, List.length_singleton]
    push_cast
    omega
  · intro s c h data b hready hb hm hbad hnone hf hone hfull
    have halone : s.abandonOlder c h = s := by
      unfold abandonOlder
      rw [hnone, List.filter_nil, ← hnone]
    have hfirst := fragmentIn_first (data := data) (ok := false) hb hm hbad (by rw [hnone]; rfl) hf (by rw [halone]; exact hfull)
    rw [if_pos hone, halone] at hfirst
    obtain ⟨h8, h7, hslices⟩ := checked_failed_parts (s := s) b.view h [data]
    exact ⟨_, congrArg Host.Outcome.next ((served_of_ready hready).trans hfirst), h8, h7, by rw [hslices], by rw [hslices]⟩
  · exact fun s n x data hready hl hx hd hup hpark hq hfree => ⟨_, congrArg Host.Outcome.next (served_of_ready hready),
      forwardSlice_last n.isLt hl hx hd hup hpark hq hfree⟩
  · intro s n h
    refine congrArg Host.Outcome.next (served_eq_self ?_)
    unfold forwardSlice
    rw [h]

end Sys2Proof.Machine

/-!
SUPPORT. The field die's drivers (R462, R470 to R472, R477): which entries a change of the drivers can write.
-/

namespace Sys2Proof.Machine

open State

namespace State

variable {s : State}

/-! ### Entries below the flags of a channel -/

theorem not_feeds_above {x n : Nat} (h : 0x3141 ≤ x) (hn : n < 256) : ¬ Feeds (Od.key x n) := not_feeds_key (.inr (.inr h)) hn

theorem flagCounter_le (bit : Nat) : flagCounter bit ≤ 7 := by
  unfold flagCounter
  split_ifs <;> decide

theorem int_latchFlag {k bit j : Nat} (hk : k < 16) (h : j < 0x324000) : (s.latchFlag k bit).int j = s.int j := by
  have hcount := flagCounter_le bit
  unfold latchFlag
  extract_lets u l v
  have hu : u.int j = s.int j := by
    unfold u
    split
    · rfl
    · exact int_bump_ne _ (by simp only [Od.key]; omega) (not_feeds_above (by omega) (by omega))
  have hv : v.int j = s.int j :=
    (int_put_ne _ _ (by simp only [Od.key]; omega) (not_feeds_above (by omega) (by omega))).trans hu
  split
  · exact hu
  · split
    · exact hv
    · exact (int_raise _ _ _ _ _ (by omega)).trans hv

theorem int_setChan (k : Nat) (x : Channel) (j : Nat) : (s.setChan k x).int j = s.int j := int_with_fio ..

theorem int_setFlag {k bit j : Nat} (on : Bool) (hk : k < 16) (h : j < 0x324000) : (s.setFlag k bit on).int j = s.int j := by
  unfold setFlag
  dsimp only
  split
  · rfl
  · split
    · exact (int_latchFlag hk h).trans (int_setChan ..)
    · exact int_setChan ..

/-- Cross-feed set on one channel that names another (R470). -/
def crossOne (s : State) (a b : Nat) : State :=
  if (s.supplyOf a).sag then s else (s.put (Od.key (0x3240 + a) 3) (b + 1 : Nat)).setFlag a 5 true

theorem crossFeed_eq (j k : Nat) : s.crossFeed j k = (s.crossOne j k).crossOne k j := rfl

theorem int_crossOne {a b j : Nat} (ha : a < 16) (h : j < 0x324000) : (s.crossOne a b).int j = s.int j := by
  unfold crossOne
  split
  · rfl
  · exact (int_setFlag _ ha h).trans (int_put_ne _ _ (by simp only [Od.key]; omega) (not_feeds_above (by omega) (by omega)))

theorem int_crossFeed {a b j : Nat} (ha : a < 16) (hb : b < 16) (h : j < 0x324000) : (s.crossFeed a b).int j = s.int j := by
  rw [crossFeed_eq, int_crossOne hb h, int_crossOne ha h]

theorem int_reverseMate {k j : Nat} (hk : k < 16) (h : j < 0x324000) : (s.reverseMate k).int j = s.int j := by
  unfold reverseMate
  extract_lets g
  split
  · next m hm =>
    obtain ⟨i, hi, rfl⟩ := List.mem_map.mp (List.mem_of_find?_eq_some hm)
    have hlt := List.mem_range.mp hi
    split
    · rfl
    · exact int_crossFeed (by unfold g; omega) hk h
  · rfl

theorem int_driveEdge {k j : Nat} (hk : k < 16) (h : j < 0x324000) : (s.driveEdge k).int j = s.int j := by
  unfold driveEdge
  dsimp only
  split
  · rfl
  · split
    · exact (int_emit ..).trans ((int_reverseMate hk h).trans ((int_setFlag _ hk h).trans ((int_setChan ..).trans (int_with_fio ..))))
    · exact (int_emit ..).trans ((int_setFlag _ hk h).trans ((int_setChan ..).trans (int_with_fio ..)))

theorem int_releaseTrip (k j : Nat) : (s.releaseTrip k).int j = s.int j := by
  unfold releaseTrip
  dsimp only
  split
  · exact int_setChan ..
  · rfl

theorem int_orderAct (k j : Nat) : (s.orderAct k).int j = s.int j := by
  unfold orderAct
  dsimp only
  split
  · rfl
  · exact (int_act ..).trans (int_with_fio ..)

theorem int_toPartner (x : TowInput) (j : Nat) : (s.toPartner x).int j = s.int j := by
  unfold toPartner
  split
  · exact int_emit ..
  · rfl

theorem int_tellCommands (was : BitVec 16) (j : Nat) : (s.tellCommands was).int j = s.int j := by
  unfold tellCommands
  split
  · exact int_toPartner ..
  · rfl

/-- The drivers write the entries of their flags alone, and what an event writes. -/
theorem int_driveField {j : Nat} (h : j < 0x324000) : s.driveField.int j = s.int j := by
  unfold driveField
  rw [int_tellCommands]
  have hfold : ∀ (l : List Nat) (u : State), (∀ k ∈ l, k < 16) →
      (l.foldl (fun s k => ((s.orderAct k).releaseTrip k).driveEdge k) u).int j = u.int j := by
    intro l
    induction l with
    | nil => exact fun _ _ => rfl
    | cons k l ih =>
      intro u hl
      rw [List.foldl_cons, ih _ fun m hm => hl m (List.mem_cons_of_mem _ hm), int_driveEdge (hl k List.mem_cons_self) h,
        int_releaseTrip, int_orderAct]
  exact hfold _ _ fun k hk => List.mem_range.mp hk

theorem int_settle {j : Nat} (h : j < 0x324000) (he : ¬ emcyEntry j) : s.settle.int j = s.int j :=
  (int_emcyScan _ he).trans (int_driveField h)

end State

end Sys2Proof.Machine

/-!
SUPPORT. Displays (R101 to R103, R107 to R113): what the start and the end of a display frame, a cut-off and an emission change of
a display's record and its status.
-/

namespace Sys2Proof.Machine

open State

namespace State

variable {s : State} {d : Nat}

/-! ### The record of a display -/

@[simp] theorem disp_setDisp_self (x : Display) : (s.setDisp d x).disp d = x := Tab.get_set_self ..

theorem int_setDisp (x : Display) (k : Nat) : (s.setDisp d x).int k = s.int k := int_with_slices ..

theorem disp_of_slices {t : State} (h : t.slices = s.slices) (e : Nat) : t.disp e = s.disp e := by
  unfold disp
  rw [h]

theorem region_of_slices {t : State} (h : t.slices = s.slices) (e i : Nat) : t.region e i = s.region e i := by
  unfold region
  rw [disp_of_slices h]

theorem region_setRegion_self (i : Nat) (x : Region) : (s.setRegion d i x).region d i = x := by
  unfold region setRegion
  rw [disp_setDisp_self]
  exact Tab.get_set_self ..

theorem int_setRegion (i : Nat) (x : Region) (k : Nat) : (s.setRegion d i x).int k = s.int k := int_setDisp ..

theorem disp_setRegion (i : Nat) (x : Region) :
    (s.setRegion d i x).disp d = { s.disp d with regions := Tab.set {} (s.disp d).regions i x } := disp_setDisp_self _

theorem not_feeds_dsiSt {c : Nat} (hd : d < 2) (hc : c < 256) : ¬ Feeds (dsiSt d + c) := by
  rw [dsiSt, key_add]
  exact not_feeds_key (by omega) hc

/-! ### A display laid out anew (R107) -/

/-- What a display counts over its frames: the frame number and the frames aligned. -/
def SameCount (x y : Display) : Prop := y.m = x.m ∧ y.aligned = x.aligned

theorem SameCount.trans {x y z : Display} (h : SameCount x y) (g : SameCount y z) : SameCount x z := by
  obtain ⟨hm, ha⟩ := h
  obtain ⟨gm, ga⟩ := g
  exact ⟨gm.trans hm, ga.trans ha⟩

/-- The status of a display that an empty region leaves: the state, the frame number, the phase error and the trim. -/
def FrameStatus (d k : Nat) : Prop := k = dsiSt d + 1 ∨ k = dsiSt d + 2 ∨ k = dsiSt d + 3 ∨ k = dsiSt d + 4

theorem frameStatus_default {k : Nat} (hd : d < 2) (h : FrameStatus d k) : Od.default? k ≠ none := by
  have hall : ∀ e : Fin 2, ∀ c : Fin 4, Od.default? (dsiSt e + (c.val + 1)) ≠ none := by decide +kernel
  rcases h with rfl | rfl | rfl | rfl
  · exact hall ⟨d, hd⟩ 0
  · exact hall ⟨d, hd⟩ 1
  · exact hall ⟨d, hd⟩ 2
  · exact hall ⟨d, hd⟩ 3

theorem int_countLost {k : Nat} (hd : d < 2) (h : FrameStatus d k) : (s.countLost d).int k = s.int k := by
  refine int_put_ne _ _ ?_ (not_feeds_dsiSt hd (by decide))
  unfold FrameStatus at h
  omega

/-- The status of a region emptied (R117). -/
def regionZeroed (s : State) (d i : Nat) : State :=
  ((List.range 14).map (· + 1)).foldl (fun s x => s.put (regSt d i + x) (if x = 4 then 0xFFFFFFFF else 0)) s

theorem int_regionZeroed {k : Nat} (i : Nat) (hd : d < 2) (h : FrameStatus d k) : (s.regionZeroed d i).int k = s.int k := by
  refine int_foldl _ _ fun x _ u => int_put_of_default _ ?_ (frameStatus_default hd h)
  unfold FrameStatus at h
  simp only [regSt, dsiSt, Od.key] at h ⊢
  omega

theorem regionZeroed_slices (i : Nat) : (s.regionZeroed d i).slices = s.slices :=
  foldl_proj State.slices _ (fun _ _ => put_slices ..) s

theorem int_put_regSt {k c : Nat} (i : Nat) (v : Int) (hd : d < 2) (hc : 0 < c) (h : FrameStatus d k) :
    (s.put (regSt d i + c) v).int k = s.int k := by
  refine int_put_of_default _ ?_ (frameStatus_default hd h)
  unfold FrameStatus at h
  simp only [regSt, dsiSt, Od.key] at h ⊢
  omega

theorem resetRegion_parts (i : Nat) (f : Int) (hd : d < 2) : SameCount (s.disp d) ((s.resetRegion d i f).disp d) ∧
    ∀ k, FrameStatus d k → (s.resetRegion d i f).int k = s.int k := by
  unfold resetRegion
  extract_lets u
  have hu : u = s.regionZeroed d i := rfl
  have hdisp : u.disp d = s.disp d := by
    rw [hu]
    exact disp_of_slices (regionZeroed_slices i) d
  have hint (k : Nat) (hk : FrameStatus d k) : u.int k = s.int k := by
    rw [hu]
    exact int_regionZeroed i hd hk
  clear_value u
  split
  · refine ⟨?_, fun k hk => ?_⟩
    · have hslices : ((u.setRegion d i {}).countLost d).slices = (u.setRegion d i {}).slices := put_slices ..
      rw [disp_of_slices hslices, disp_setRegion, hdisp]
      exact ⟨rfl, rfl⟩
    · rw [int_countLost hd hk, int_setRegion, hint k hk]
  · next v hv =>
    refine ⟨?_, fun k hk => ?_⟩
    · have hslices : ((((u.setRegion d i { tc := f, flight := u.flight }).put (regSt d i + 1) 1).put (regSt d i + 6)
          (u.int (streamSt v + 2))).countLost d).slices = (u.setRegion d i { tc := f, flight := u.flight }).slices := by
        rw [countLost, put_slices, put_slices, put_slices]
      rw [disp_of_slices hslices, disp_setRegion, hdisp]
      exact ⟨rfl, rfl⟩
    · rw [int_countLost hd hk, int_put_regSt i _ hd (by decide) hk, int_put_regSt i _ hd (by decide) hk, int_setRegion, hint k hk]

theorem layOut_parts (hd : d < 2) : SameCount (s.disp d) ((s.layOut d).disp d) ∧
    ∀ k, FrameStatus d k → (s.layOut d).int k = s.int k := by
  have hfold : ∀ (l : List Nat) (f : Int) (u : State),
      SameCount (u.disp d) ((l.foldl (fun s i => s.resetRegion d i f) u).disp d) ∧
        ∀ k, FrameStatus d k → (l.foldl (fun s i => s.resetRegion d i f) u).int k = u.int k := by
    intro l f
    induction l with
    | nil => exact fun u => ⟨⟨rfl, rfl⟩, fun _ _ => rfl⟩
    | cons i l ih =>
      intro u
      obtain ⟨hcount, hint⟩ := resetRegion_parts (s := u) i f hd
      obtain ⟨gcount, gint⟩ := ih (u.resetRegion d i f)
      exact ⟨hcount.trans gcount, fun k hk => (gint k hk).trans (hint k hk)⟩
  unfold layOut
  extract_lets x
  split
  · exact ⟨⟨rfl, rfl⟩, fun _ _ => rfl⟩
  · obtain ⟨hcount, hint⟩ := hfold x.changed x.since (s.setDisp d { x with keep := none, changed := [] })
    rw [disp_setDisp_self] at hcount
    exact ⟨SameCount.trans ⟨rfl, rfl⟩ hcount, fun k hk => (hint k hk).trans (int_setDisp ..)⟩

/-! ### Messages of the display link (R80, R99) -/

/-- Messages go out, and nothing else happens. -/
def OnlySent (s t : State) : Prop := t.slices = s.slices ∧ t.od = s.od ∧ ∀ k, t.int k = s.int k

theorem OnlySent.refl (s : State) : OnlySent s s := ⟨rfl, rfl, fun _ => rfl⟩

theorem OnlySent.trans {t u : State} (h : OnlySent s t) (g : OnlySent t u) : OnlySent s u := by
  obtain ⟨hs, ho, hi⟩ := h
  obtain ⟨gs, go, gi⟩ := g
  exact ⟨gs.trans hs, go.trans ho, fun k => (gi k).trans (hi k)⟩

theorem onlySent_emit (o : Out) : OnlySent s (s.emit o) := ⟨rfl, rfl, fun _ => int_emit ..⟩

theorem onlySent_foldl {α : Type} (f : State → α → State) (h : ∀ u x, OnlySent u (f u x)) : ∀ (l : List α) (u : State), OnlySent u (l.foldl f u)
  | [], u => .refl u
  | x :: l, u => (h u x).trans (onlySent_foldl f h l (f u x))

theorem onlySent_sendPixels (y x n : Nat) : OnlySent s (s.sendPixels d y x n) := onlySent_emit _

theorem onlySent_sendOutside : OnlySent s (s.sendOutside d) :=
  onlySent_foldl _ (fun u _ => onlySent_foldl _ (fun _ _ => onlySent_sendPixels _ _ _) _ u) _ s

theorem onlySent_linkSetup : OnlySent s (s.linkSetup d) := by
  unfold linkSetup
  dsimp only
  split
  · exact (onlySent_emit _).trans (onlySent_emit _)
  · exact .refl s

/-! ### The start of a display frame (R101 to R103) -/

/-- The display frame that an instant belongs to, and how far the instant lies from it. -/
def frameNumberAt (s : State) (d : Nat) (t : Int) : Nat :=
  ((2 * (t - s.dispPhase d) + max 1 (s.dispPeriod d)) / (2 * max 1 (s.dispPeriod d))).toNat

/-- The frames aligned to, with the one that starts (R103). -/
def alignedNow (s : State) (d : Nat) (err : Int) : Nat := if -655360 ≤ err ∧ err ≤ 655360 then (s.disp d).aligned + 1 else 0

/-- The status of a display frame that starts: its number, its phase error and the trim of its clock (R103). -/
structure FrameStarted (s t : State) (d m n : Nat) (err : Int) : Prop where
  counts : SameCount { s.disp d with m := m, aligned := n } (t.disp d)
  state : t.dispState d = s.dispState d
  number : t.int (dsiSt d + 2) = (m % 2 ^ 32 : Nat)
  error : t.int (dsiSt d + 3) = Int.tdiv err 65536
  trim : -2000 ≤ t.int (dsiSt d + 4) ∧ t.int (dsiSt d + 4) ≤ 2000

theorem FrameStarted.keeps {t u : State} {m n : Nat} {err : Int} (h : FrameStarted s t d m n err)
    (hcount : SameCount (t.disp d) (u.disp d)) (hint : ∀ k, FrameStatus d k → u.int k = t.int k) : FrameStarted s u d m n err := by
  refine ⟨h.counts.trans hcount, (hint _ (.inl rfl)).trans h.state, (hint _ (.inr (.inl rfl))).trans h.number,
    (hint _ (.inr (.inr (.inl rfl)))).trans h.error, ?_⟩
  rw [hint _ (.inr (.inr (.inr rfl)))]
  exact h.trim

theorem FrameStarted.sends {t u : State} {m n : Nat} {err : Int} (h : FrameStarted s t d m n err) (hs : OnlySent t u) :
    FrameStarted s u d m n err := by
  obtain ⟨hslices, -, hint⟩ := hs
  refine h.keeps ?_ fun k _ => hint k
  rw [disp_of_slices hslices]
  exact ⟨rfl, rfl⟩

/-- The frame numbered, its error shown and its clock trimmed (R103). -/
def numbered (s : State) (d m n : Nat) (err : Int) : State :=
  let u := (s.put (dsiSt d + 2) ((m % 2 ^ 32 : Nat) : Int)).put (dsiSt d + 3) (Int.tdiv err 65536)
  (u.setDisp d { u.disp d with m := m, aligned := n, lengthen := false }).trim d

theorem trim_slices : (s.trim d).slices = s.slices := by
  unfold trim
  exact (tookFree_slices ..).trans (put_slices ..)

theorem numbered_started (hd : d < 2) (m n : Nat) (err : Int) : FrameStarted s (s.numbered d m n err) d m n err := by
  have hst (c : Nat) (hc : c < 256) : ¬ Feeds (dsiSt d + c) := not_feeds_dsiSt hd hc
  unfold numbered
  extract_lets u src
  have hslices : u.slices = s.slices := rfl
  have hint (k : Nat) : ((u.setDisp d { u.disp d with m := m, aligned := n, lengthen := false }).trim d).int k =
      (u.put (dsiSt d + 4) ((u.freeNat % 4001 : Nat) - 2000)).int k := by
    unfold trim
    rw [int_tookFree]
    by_cases hk : k = dsiSt d + 4
    · subst hk
      rw [int_put_self, int_put_self]
      rfl
    · rw [int_put_ne _ _ (Ne.symm hk) (hst 4 (by decide)), int_put_ne _ _ (Ne.symm hk) (hst 4 (by decide)), int_setDisp]
  refine ⟨?_, ?_, ?_, ?_, ?_⟩
  · have hdisp : ((u.setDisp d { u.disp d with m := m, aligned := n, lengthen := false }).trim d).disp d =
        { u.disp d with m := m, aligned := n, lengthen := false } :=
      (disp_of_slices (s := u.setDisp d { u.disp d with m := m, aligned := n, lengthen := false }) trim_slices d).trans (disp_setDisp_self _)
    rw [show ((u.setDisp d { src with m := m, aligned := n, lengthen := false }).trim d).disp d = _ from hdisp]
    exact ⟨rfl, rfl⟩
  · refine Eq.trans (hint (dsiSt d + 1)) ?_
    rw [int_put_ne _ _ (by omega) (hst 4 (by decide)), int_put_ne _ _ (by omega) (hst 3 (by decide)), int_put_ne _ _ (by omega) (hst 2 (by decide))]
    rfl
  · refine (hint _).trans ?_
    rw [int_put_ne _ _ (by omega) (hst 4 (by decide)), int_put_ne _ _ (by omega) (hst 3 (by decide)), int_put_self]
  · refine (hint _).trans ?_
    rw [int_put_ne _ _ (by omega) (hst 4 (by decide)), int_put_self]
  · have htrim := (hint (dsiSt d + 4)).trans (int_put_self ..)
    rw [show ((u.setDisp d { src with m := m, aligned := n, lengthen := false }).trim d).int (dsiSt d + 4) = _ from htrim]
    omega

/-- The frame that starts while its display aligns: the display runs from the fourth in a row (R103). -/
theorem displayFrameStart_align {fine m : Nat} {err : Int} (hd : d < 2) (h2 : s.dispState d = 2)
    (hm : m = s.frameNumberAt d (s.ctAt s.clock.counter fine)) (he : err = s.ctAt s.clock.counter fine - s.frameInstant d m) :
    ∃ u, FrameStarted s u d m (s.alignedNow d err) err ∧
      s.displayFrameStart d fine = if 4 ≤ s.alignedNow d err then u.put (dsiSt d + 1) 3 else u := by
  have hnear : (if decide (-(10 * 65536) ≤ err ∧ err ≤ 10 * 65536) = true then (s.disp d).aligned + 1 else 0) = s.alignedNow d err := by
    unfold alignedNow
    simp only [decide_eq_true_eq]
    rfl
  have hstart := numbered_started (s := s) hd m (s.alignedNow d err) err
  have hlaid : FrameStarted s (if ((s.numbered d m (s.alignedNow d err) err).disp d).since ≤
      (s.numbered d m (s.alignedNow d err) err).frameInstant d m then (s.numbered d m (s.alignedNow d err) err).layOut d
      else s.numbered d m (s.alignedNow d err) err) d m (s.alignedNow d err) err := by
    split
    · obtain ⟨hcount, hint⟩ := layOut_parts (s := s.numbered d m (s.alignedNow d err) err) hd
      exact hstart.keeps hcount hint
    · exact hstart
  unfold displayFrameStart
  rw [if_neg (by omega)]
  extract_lets t p m' err' near n porch u0 src u1 u2 u3
  have hm' : m' = m := hm.symm
  have herr' : err' = err := by
    unfold err'
    rw [hm', he]
  have hn : n = s.alignedNow d err := by
    unfold n near
    rw [herr']
    exact hnear
  have hu1 : u1 = s.numbered d m (s.alignedNow d err) err := by
    unfold u1 src u0
    rw [hm', herr', hn]
    rfl
  have hu2 : FrameStarted s u2 d m (s.alignedNow d err) err := by
    unfold u2
    rw [hu1, hm']
    exact hlaid
  have hu3 : FrameStarted s u3 d m (s.alignedNow d err) err := by
    unfold u3
    split
    · exact hu2
    · exact hu2.sends ((onlySent_linkSetup.trans (onlySent_emit _)).trans onlySent_sendOutside)
  refine ⟨u3, hu3, ?_⟩
  rw [if_pos (hu3.state.trans h2), hn]

/-- A display that has aligned to four frames in a row runs (R103). -/
def runsFrom (s : State) (d n : Nat) : State := if 4 ≤ n then s.put (dsiSt d + 1) 3 else s

theorem runsFrom_state (n : Nat) : (s.runsFrom d n).dispState d = if 4 ≤ n then 3 else s.dispState d := by
  unfold runsFrom
  split
  · exact int_put_self ..
  · rfl

theorem runsFrom_parts {n : Nat} (hd : d < 2) : (s.runsFrom d n).disp d = s.disp d ∧
    ∀ c, c < 256 → c ≠ 1 → (s.runsFrom d n).int (dsiSt d + c) = s.int (dsiSt d + c) := by
  unfold runsFrom
  split
  · exact ⟨disp_of_slices (put_slices ..) d, fun c hc h1 => int_put_ne _ _ (by omega) (not_feeds_dsiSt hd (by decide))⟩
  · exact ⟨rfl, fun _ _ _ => rfl⟩

theorem displayFrameStart_off {fine : Nat} (h : s.dispState d < 2) : s.displayFrameStart d fine = s := if_pos h

/-! ### Cut-offs (R107, R109) -/

theorem not_feeds_regSt {i c : Nat} (hd : d < 2) (hi : i < 7) (hc : c < 256) : ¬ Feeds (regSt d i + c) := by
  rw [regSt, key_add]
  exact not_feeds_key (by omega) hc

/-- The slice that is expected and has come in time is promoted (R107). -/
def promoted (s : State) (d i m j : Nat) (c : Cell) : State :=
  (s.put (regSt d i + 2) (c.h.frame.toNat : Int)).markSlice d i m j true true
    { s.region d i with held := Tab.insert (s.region d i).held j c } none

theorem decideExpected_promotes {i v m j k : Nat} {c : Cell} (hinc : Tab.find? (s.region d i).incoming j = some c)
    (hheld : Tab.find? (s.region d i).held j = none) (hk : c.h.frame.toNat = k % 2 ^ 32)
    (hstored : c.stored ≤ (s.laid d).cutOff d i v m j) (hdamaged : c.h.damaged = false) (hcheck : (s.region d i).checkFailed = [])
    (hfresh : (s.laid d).sliceLast d i v m j - c.exposed ≤ s.int (streamSt v + 2) * 65536)
    (hlocal : (s.put (regSt d i + 2) (c.h.frame.toNat : Int)).isLocal v = false) :
    s.decideExpected d i v m j k = s.promoted d i m j c := by
  unfold decideExpected
  dsimp only
  rw [hinc]
  dsimp only
  rw [if_neg (by omega), if_neg (by simp [hdamaged, hcheck]), hheld]
  dsimp only
  rw [if_neg (by simp), decide_eq_true hfresh, if_neg (by simp), hlocal, if_neg Bool.noConfusion]
  rfl

theorem promoted_region (i m j : Nat) (c : Cell) :
    ((s.promoted d i m j c).region d i).held = Tab.insert (s.region d i).held j c ∧
    ((s.promoted d i m j c).region d i).marks =
      (s.region d i).marks ++ [{ m := m, j := j, current := true, first := true, frame := some c.h.frame.toNat }] ∧
    ((s.promoted d i m j c).region d i).lost = (s.region d i).lost := by
  unfold promoted markSlice
  rw [region_setRegion_self, Tab.find?_insert_self]
  exact ⟨rfl, rfl, rfl⟩

theorem int_promoted (i m j : Nat) (c : Cell) (k : Nat) :
    (s.promoted d i m j c).int k = (s.put (regSt d i + 2) (c.h.frame.toNat : Int)).int k := int_setRegion ..

theorem dropIncomplete_parts (stream inst j k e : Nat) : (s.dropIncomplete stream inst j k).disp e = s.disp e ∧
    ∀ n, n ≠ 0x2C0004 → n ≠ 0x2C0005 → (s.dropIncomplete stream inst j k).int n = s.int n := by
  unfold dropIncomplete
  dsimp only
  split
  · exact ⟨rfl, fun n h4 h5 => (int_flightCount_ne h4 h5).trans (int_with_slices ..)⟩
  · exact ⟨rfl, fun _ _ _ => rfl⟩

theorem judgeHold_lost {i v : Nat} (h : (s.region d i).lost = true) : s.judgeHold d i v =
    s.put (regSt d i + 0xD) (max 0 (min 65535 ((s.ctNow - (s.region d i).tc) / 65536000000))) := by
  unfold judgeHold
  dsimp only
  exact if_neg (by rw [h]; simp)

/-- A stream is local by the names of views and slots, and by the position. -/
theorem isLocal_put_regSt {i v : Nat} (x : Int) (hd : d < 2) (hi : i < 7) : (s.put (regSt d i + 2) x).isLocal v = s.isLocal v := by
  have hget (k : Nat) (hk : regSt d i + 2 ≠ k) : (s.put (regSt d i + 2) x).get k = s.get k :=
    get_put_ne _ _ hk (not_feeds_regSt hd hi (by decide))
  have hview : (s.put (regSt d i + 2) x).viewSelector v = s.viewSelector v := by
    unfold viewSelector bytes
    rw [hget _ (by simp only [regSt, viewRec, Od.key]; omega)]
  have hinst : (s.put (regSt d i + 2) x).inst 0x220003 = s.inst 0x220003 := by
    unfold inst int
    rw [hget _ (by simp only [regSt, Od.key]; omega)]
    rfl
  have hslot (name : List Byte) : (s.put (regSt d i + 2) x).slotNamed name = s.slotNamed name := by
    unfold slotNamed
    refine List.find?_congr fun n hn => ?_
    have hlt := List.mem_range.mp hn
    unfold flag int bytes
    rw [hget _ (by simp only [regSt, camDef, Od.key]; omega), hget _ (by simp only [regSt, camDef, Od.key]; omega)]
  unfold isLocal
  rw [hview]
  simp only [hinst, hslot]

theorem sliceCutOff_unbound {i j m : Nat} (h : (s.laid d).regionView d i = none) : s.sliceCutOff d i j m = s := by
  unfold sliceCutOff
  rw [h]

/-- A cut-off at which the expected slice has come, in a region whose view was lost (R107, R109). -/
theorem sliceCutOff_promotes {i v m j k : Nat} {c : Cell} (hd : d < 2) (hi : i < 7) (hv : (s.laid d).regionView d i = some v)
    (hst : 2 ≤ s.dispState d) (hj : j < (s.laid d).viewSlices v) (hp : s.pairing = false) (hmarks : (s.region d i).marks = [])
    (hhold : (s.disp d).hold = 0) (hlocal : s.isLocal v = false) (hinc : Tab.find? (s.region d i).incoming j = some c)
    (hheld : Tab.find? (s.region d i).held j = none) (hk : s.expected v j ((s.laid d).cutOff d i v m j) = some k)
    (hframe : c.h.frame.toNat = k % 2 ^ 32) (hstored : c.stored ≤ (s.laid d).cutOff d i v m j) (hdamaged : c.h.damaged = false)
    (hcheck : (s.region d i).checkFailed = [])
    (hfresh : (s.laid d).sliceLast d i v m j - c.exposed ≤ s.int (streamSt v + 2) * 65536) (hlost : (s.region d i).lost = true) :
    Tab.find? ((s.sliceCutOff d i j m).region d i).held j = some c ∧
    ((s.sliceCutOff d i j m).region d i).marks = [{ m := m, j := j, current := true, first := true, frame := some c.h.frame.toNat }] ∧
    (s.sliceCutOff d i j m).int (regSt d i + 2) = (c.h.frame.toNat : Int) := by
  have hdecide : s.decideSlice d i v m j = (s.promoted d i m j c).dropIncomplete (s.streamNumber v) ((s.laid d).regionInst d i) j k := by
    unfold decideSlice
    dsimp only
    rw [if_neg (by omega), hk]
    dsimp only
    rw [decideExpected_promotes hinc hheld hframe hstored hdamaged hcheck hfresh ((isLocal_put_regSt _ hd hi).trans hlocal)]
  obtain ⟨hdisp, hint⟩ := dropIncomplete_parts (s := s.promoted d i m j c) (s.streamNumber v) ((s.laid d).regionInst d i) j k d
  obtain ⟨hheld', hmarks', hlost'⟩ := promoted_region (s := s) (d := d) i m j c
  have hpairing : (s.decideSlice d i v m j).pairing = false := by
    have hkeep : Keep [.od, .slices] s (s.decideSlice d i v m j) := by
      rw [hdecide]
      exact State.dropIncomplete_keep rfl (State.markSlice_keep rfl (State.put_keep rfl (Keep.refl _ s)))
    exact (hkeep.same .pairing (by decide)).trans hp
  have hregion : (s.decideSlice d i v m j).region d i = (s.promoted d i m j c).region d i := by
    rw [hdecide]
    unfold region
    rw [hdisp]
  have htell : (s.decideSlice d i v m j).tellDecision d i m j = s.decideSlice d i v m j := by
    unfold tellDecision toPartner
    split
    · exact if_neg (by rw [hpairing]; simp)
    · rfl
  have hcut : s.sliceCutOff d i j m = (s.decideSlice d i v m j).put (regSt d i + 0xD)
      (max 0 (min 65535 (((s.decideSlice d i v m j).ctNow - ((s.decideSlice d i v m j).region d i).tc) / 65536000000))) := by
    unfold sliceCutOff decided isButty
    rw [hv]
    dsimp only
    rw [if_neg (by rw [hmarks]; simp; omega), hp, if_neg (by simp), htell, judgeHold_lost (by rw [hregion, hlost', hlost])]
  have hslices : (s.sliceCutOff d i j m).slices = (s.decideSlice d i v m j).slices := by
    rw [hcut]
    exact put_slices ..
  rw [region_of_slices hslices, hregion, hheld', hmarks', hmarks, Tab.find?_insert_self]
  refine ⟨rfl, rfl, ?_⟩
  rw [hcut, int_put_ne _ _ (by omega) (not_feeds_regSt hd hi (by decide)), hdecide,
    hint _ (by simp only [regSt, Od.key]; omega) (by simp only [regSt, Od.key]; omega), int_promoted, int_put_self]

/-! ### Emission (R80, R113) -/

theorem sendRows_out (f : State → Nat → State) (hf : ∀ u r, ∃ o, (f u r).out = u.out ++ [o]) :
    ∀ (l : List Nat) (u : State), (l.foldl f u).out.length = u.out.length + l.length
  | [], _ => rfl
  | r :: l, u => by
    obtain ⟨o, ho⟩ := hf u r
    rw [List.foldl_cons, sendRows_out f hf l, ho, List.length_append, List.length_singleton, List.length_cons]
    omega

theorem sendSlice_parts {i v j : Nat} (h : s.parked = false) : OnlySent s (s.sendSlice d i v j) ∧
    (s.sendSlice d i v j).out.length = s.out.length + sliceRows ((s.laid d).viewH v) ((s.laid d).sliceH v) j := by
  unfold sendSlice
  dsimp only
  rw [if_neg (by rw [h]; simp)]
  refine ⟨onlySent_foldl _ (fun _ _ => onlySent_sendPixels _ _ _) _ s, ?_⟩
  rw [sendRows_out _ (fun _ _ => ⟨_, rfl⟩), List.length_range]

/-- What composes a display does not hang on a region's record. -/
theorem nat_laid_setRegion (i : Nat) (x : Region) (k : Nat) : ((s.setRegion d i x).laid d).nat k = (s.laid d).nat k := by
  unfold laid
  rw [disp_setRegion]
  dsimp only
  cases (s.disp d).keep with
  | none => rfl
  | some st => rfl

/-- A slice shown for the first time takes its latency, and its rows go out. -/
theorem sliceEmitted_first {i j fine v : Nat} {c : Cell} (hv : (s.laid d).regionView d i = some v) (hst : 2 ≤ s.dispState d)
    (hp : s.parked = false) (hheld : Tab.find? (s.region d i).held j = some c)
    (hmark : (s.region d i).marks.any (fun x => decide (x.m = (s.disp d).m ∧ x.j = j) && x.first) = true) :
    (s.sliceEmitted d i j fine).od = s.od ∧
    (s.sliceEmitted d i j fine).out.length = s.out.length + sliceRows ((s.laid d).viewH v) ((s.laid d).sliceH v) j ∧
    ((s.sliceEmitted d i j fine).region d i).latency =
      some (max ((s.ctAt s.clock.counter fine - c.exposed) / 65536).toNat ((s.region d i).latency.getD 0)) := by
  have hlatency : s.sliceLatency d i j fine = s.setRegion d i { s.region d i with
      latency := some (max ((s.ctAt s.clock.counter fine - c.exposed) / 65536).toNat ((s.region d i).latency.getD 0)) } := by
    unfold sliceLatency
    dsimp only
    rw [hheld]
    exact if_pos hmark
  have heq : s.sliceEmitted d i j fine = (s.sliceLatency d i j fine).sendSlice d i v j := by
    unfold sliceEmitted
    rw [hv]
    exact if_neg (by omega)
  obtain ⟨⟨hslices, hod, -⟩, hout⟩ := sendSlice_parts (s := s.sliceLatency d i j fine) (d := d) (i := i) (v := v) (j := j)
    (by rw [hlatency]; exact hp)
  rw [heq, hod, hout, region_of_slices hslices]
  refine ⟨by rw [hlatency]; rfl, ?_, ?_⟩
  · unfold viewH sliceH
    rw [hlatency, nat_laid_setRegion, nat_laid_setRegion]
    rfl
  · rw [hlatency, region_setRegion_self]

theorem sliceEmitted_hidden {i j fine : Nat} (h : (s.laid d).regionView d i = none ∨ s.dispState d < 2) : s.sliceEmitted d i j fine = s := by
  unfold sliceEmitted
  obtain h | h := h
  · rw [h]
  · split
    · exact if_pos h
    · rfl

/-! ### The end of a display frame (R108) -/

theorem displayFrameEnd_empty (h2 : 2 ≤ s.dispState d) (h : ∀ i : Fin 7, (s.laid d).regionView d i = none) :
    s.displayFrameEnd d = s.setDisp d { s.disp d with hold := (s.disp d).hold - 1 } := by
  have hfold : ∀ l : List Nat, (∀ i ∈ l, i < 7) →
      l.foldl (fun s i => match (s.laid d).regionView d i with | some v => s.regionEnd d i v | none => s) s = s := by
    intro l
    induction l with
    | nil => exact fun _ => rfl
    | cons i l ih =>
      intro hl
      rw [List.foldl_cons, h ⟨i, hl i List.mem_cons_self⟩]
      exact ih fun k hk => hl k (List.mem_cons_of_mem _ hk)
  have hsix : ∀ i ∈ (List.range 6).map (· + 1), i < 7 := by decide
  unfold displayFrameEnd
  rw [if_neg (by omega)]
  dsimp only
  exact congrArg (fun u => u.setDisp d { u.disp d with hold := (u.disp d).hold - 1 }) (hfold _ hsix)

theorem panelScriptEnd_parts (h : s.dispState d = 1) : (s.panelScriptEnd d).dispState d = 2 ∧
    ((s.panelScriptEnd d).disp d).aligned = 0 ∧ ((s.panelScriptEnd d).disp d).lengthen = true ∧ (s.panelScriptEnd d).out = s.out := by
  have heq : s.panelScriptEnd d = (s.put (dsiSt d + 1) 2).setDisp d { s.disp d with aligned := 0, lengthen := true } := if_pos h
  rw [heq, disp_setDisp_self]
  exact ⟨(int_setDisp ..).trans (int_put_self ..), rfl, rfl, rfl⟩

end State

/-- Settles O46, by the record of the display each command works on, its status, and the drivers' entries apart from it. -/
theorem displaysShowSlices : Obligations.DisplaysShowSlices := by
  refine ⟨?_, ?_, ?_, ?_, ?_, ?_, ?_, ?_, ?_⟩
  · exact fun s d hready h => ⟨_, congrArg Host.Outcome.next (served_of_ready hready), panelScriptEnd_parts h⟩
  · exact fun s d fine h => congrArg Host.Outcome.next (served_eq_self (displayFrameStart_off h))
  · intro s d fine m err hready h2 hm herr
    obtain ⟨u, hu, heq⟩ := displayFrameStart_align d.isLt h2 hm herr
    obtain ⟨hcount, hstate, hnumber, herror, htrim⟩ := hu
    obtain ⟨hm', hal⟩ := hcount
    refine ⟨_, congrArg Host.Outcome.next ((served_of_ready hready).trans heq), ?_⟩
    obtain ⟨hdisp, hint⟩ := runsFrom_parts (s := u) (d := d) (n := s.alignedNow d err) d.isLt
    have hrun : (u.runsFrom d (s.alignedNow d err)).dispState d = if 4 ≤ s.alignedNow d err then 3 else 2 := by
      rw [runsFrom_state, hstate, h2]
    refine ⟨(congrArg Display.m hdisp).trans hm', (hint 2 (by decide) (by decide)).trans hnumber, (hint 3 (by decide) (by decide)).trans herror,
      fun hlo hhi => ?_, fun hfar => ?_, ?_⟩
    · have hnow : s.alignedNow d err = (s.disp d).aligned + 1 := if_pos ⟨hlo, hhi⟩
      refine ⟨(congrArg Display.aligned hdisp).trans (hal.trans hnow), ?_⟩
      rw [show State.dispState (if 4 ≤ s.alignedNow d err then u.put (dsiSt d + 1) 3 else u) d = _ from hrun, hnow]
      split <;> omega
    · have hnow : s.alignedNow d err = 0 := if_neg (by omega)
      refine ⟨(congrArg Display.aligned hdisp).trans (hal.trans hnow), hrun.trans ?_⟩
      rw [hnow, if_neg (by decide)]
    · rw [show State.int (if 4 ≤ s.alignedNow d err then u.put (dsiSt d + 1) 3 else u) (dsiSt d + 4) = _ from hint 4 (by decide) (by decide)]
      exact htrim
  · intro s d i j m v k c hready hv _ hst hj hp hmarks hhold hlocal hinc hheld hk hframe hstored hdamaged hcheck hfresh hlost
    obtain ⟨hheld', hmarks', hint⟩ := sliceCutOff_promotes d.isLt (by omega) hv hst hj hp hmarks hhold hlocal hinc hheld hk hframe hstored
      hdamaged hcheck hfresh hlost
    refine ⟨_, congrArg Host.Outcome.next (served_of_ready hready), ?_, ?_, ?_⟩
    · rw [region_of_slices (settle_slices _)]
      exact hheld'
    · rw [region_of_slices (settle_slices _)]
      exact hmarks'
    · rw [int_settle (by simp only [regSt, Od.key]; omega) (by simp only [regSt, Od.key]; omega)]
      exact hint
  · intro s d i j m hready h
    refine congrArg Host.Outcome.next ((served_of_ready hready).trans ?_)
    rw [sliceCutOff_unbound h]
  · exact fun s d i j fine v c hready hv hst hp hheld hmark => ⟨_, congrArg Host.Outcome.next (served_of_ready hready),
      sliceEmitted_first hv hst hp hheld hmark⟩
  · exact fun s d i j fine h => congrArg Host.Outcome.next (served_eq_self (sliceEmitted_hidden h))
  · intro s d hready h
    exact congrArg Host.Outcome.next ((served_of_ready hready).trans (congrArg settle (if_pos h)))
  · intro s d hready h2 h
    have heq := displayFrameEnd_empty h2 h
    refine ⟨_, congrArg Host.Outcome.next (served_of_ready hready), ?_, ?_, ?_⟩
    · rw [disp_of_slices (settle_slices _), heq, disp_setDisp_self]
    · rw [disp_of_slices (settle_slices _), heq, disp_setDisp_self]
    · rw [settle_clock, heq]
      rfl

end Sys2Proof.Machine

/-!
SUPPORT. CAN controllers (R440 to R447): where their records lie, what queueing, arbitration and EMCY change of a port, and
the errors that a frame takes off the counters.
-/

namespace Sys2Proof.Machine

/-! ### The records of a controller -/

theorem canSt_eq (c : Nat) : canSt c = 0x331400 + 256 * c := by
  simp only [canSt, Od.key]
  omega

theorem canCnt_eq (c : Nat) : canCnt c = 0x331800 + 256 * c := by
  simp only [canCnt, Od.key]
  omega

theorem canDet_eq (c : Nat) : canDet c = 0x331C00 + 256 * c := by
  simp only [canDet, Od.key]
  omega

theorem bufRec_eq (c b : Nat) : bufRec c b = 0x332000 + 256 * (3 * c + b) := by
  simp only [bufRec, Od.key]
  omega

theorem objRec_eq (c o : Nat) : objRec c o = 0x334000 + 256 * (24 * c + o) := by
  simp only [objRec, Od.key]
  omega

theorem routeRec_eq (t : Nat) : routeRec t = 0x33A000 + 256 * t := by
  simp only [routeRec, Od.key]
  omega

namespace State

open Host

variable {s : State}

theorem int_put_past {k j : Nat} (v : Int) (hk : 0x314007 ≤ k) (h : k ≠ j) : (s.put k v).int j = s.int j :=
  int_put_ne _ _ h (not_feeds_of_ge hk)

theorem int_bump_past {k j : Nat} (hk : 0x314007 ≤ k) (h : k ≠ j) : (s.bump k).int j = s.int j :=
  int_bump_ne _ h (not_feeds_of_ge hk)

/-! ### The record of a port -/

theorem canPort_of_canopen {t : State} (h : t.canopen = s.canopen) (c : Nat) : t.canPort c = s.canPort c := by
  unfold canPort
  rw [h]

theorem canPort_of_ports {t : State} (h : t.canopen.ports = s.canopen.ports) (c : Nat) : t.canPort c = s.canPort c := by
  unfold canPort
  rw [h]

@[simp] theorem canPort_setCan_self (c : Nat) (x : CanPort) : (s.setCan c x).canPort c = x := Tab.get_set_self ..

theorem canPort_setCan_ne {c d : Nat} (x : CanPort) (h : c ≠ d) : (s.setCan c x).canPort d = s.canPort d := Tab.get_set_ne _ _ _ h

@[simp] theorem canPort_put (k : Nat) (v : Int) (c : Nat) : (s.put k v).canPort c = s.canPort c := canPort_of_canopen (put_canopen ..) c

@[simp] theorem canPort_bump (k c : Nat) : (s.bump k).canPort c = s.canPort c := canPort_of_canopen (bump_canopen ..) c

@[simp] theorem canPort_raise (src d i v c : Nat) : (s.raise src d i v).canPort c = s.canPort c :=
  canPort_of_canopen (raise_canopen ..) c

@[simp] theorem canPort_respond (w : Writer) (st : Nat) (data : List Byte) (c : Nat) : (s.respond w st data).canPort c = s.canPort c :=
  canPort_of_canopen (respond_canopen ..) c

/-! ### Arbitration and the service queue (R441) -/

/-- Two records of a port that differ in what is queued and what is on the bus at most. -/
def SamePortSetup (x y : CanPort) : Prop := y = { x with service := y.service, onBus := y.onBus }

theorem SamePortSetup.refl (x : CanPort) : SamePortSetup x x := rfl

theorem SamePortSetup.trans {x y z : CanPort} (h : SamePortSetup x y) (g : SamePortSetup y z) : SamePortSetup x z := by
  unfold SamePortSetup at *
  rw [g, h]

/-- What the services of CAN0 leave of the controllers: the setup of each, and port c entirely where c is not CAN0. -/
def PortsServed (s t : State) : Prop :=
  (∀ c, SamePortSetup (s.canPort c) (t.canPort c)) ∧ ∀ c, c ≠ 0 → t.canPort c = s.canPort c

theorem PortsServed.refl (s : State) : PortsServed s s := ⟨fun _ => .refl _, fun _ _ => rfl⟩

theorem PortsServed.trans {t u : State} (h : PortsServed s t) (g : PortsServed t u) : PortsServed s u := by
  obtain ⟨hsame, hother⟩ := h
  obtain ⟨gsame, gother⟩ := g
  exact ⟨fun c => (hsame c).trans (gsame c), fun c hc => (gother c hc).trans (hother c hc)⟩

theorem PortsServed.of_ports {t : State} (h : ∀ c, t.canPort c = s.canPort c) : PortsServed s t :=
  ⟨fun c => (h c).symm ▸ .refl _, fun c _ => h c⟩

theorem canPump_parked {c : Nat} (h : s.maySend c = false) : s.canPump c = s := if_neg (by simp [h])

theorem canPump_port (c : Nat) : ∃ b, (s.canPump c).canPort c = { s.canPort c with onBus := b } := by
  unfold canPump
  dsimp only
  split
  · exact ⟨_, canPort_setCan_self ..⟩
  · exact ⟨_, rfl⟩

theorem canPump_port_ne {c d : Nat} (h : c ≠ d) : (s.canPump c).canPort d = s.canPort d := by
  unfold canPump
  dsimp only
  split
  · exact canPort_setCan_ne _ h
  · rfl

theorem canPump_samePort (c d : Nat) : SamePortSetup (s.canPort d) ((s.canPump c).canPort d) ∧
    ((s.canPump c).canPort d).service = (s.canPort d).service := by
  by_cases h : c = d
  · subst h
    obtain ⟨b, hb⟩ := canPump_port (s := s) c
    rw [hb]
    exact ⟨rfl, rfl⟩
  · rw [canPump_port_ne h]
    exact ⟨rfl, rfl⟩

theorem canPump_canopen (c : Nat) : ∃ p, (s.canPump c).canopen = { s.canopen with ports := p } := by
  unfold canPump
  dsimp only
  split
  · exact ⟨_, rfl⟩
  · exact ⟨_, rfl⟩

theorem canPump_od (c : Nat) : (s.canPump c).od = s.od := by
  unfold canPump
  dsimp only
  split <;> rfl

/-- A frame with room in the queue is appended, and the arbitration that follows takes nothing else (R441). -/
def frameQueued (s : State) (c : Nat) (f : Sys2Proof.CanFrame) : State :=
  ((s.canAct c f).setCan c { s.canPort c with service := (s.canPort c).service ++ [f] }).canPump c

theorem queueFrame_of_room {c : Nat} (f : Sys2Proof.CanFrame) (h : (s.canPort c).service.length < 16) :
    s.queueFrame c f = (s.frameQueued c f, false) := if_pos h

theorem canAct_canopen (c : Nat) (f : Sys2Proof.CanFrame) : (s.canAct c f).canopen = s.canopen := act_canopen ..

theorem canPort_frameQueued (c : Nat) (f : Sys2Proof.CanFrame) :
    SamePortSetup (s.canPort c) ((s.frameQueued c f).canPort c) ∧ ((s.frameQueued c f).canPort c).service = (s.canPort c).service ++ [f] := by
  obtain ⟨hsame, hserv⟩ := canPump_samePort
    (s := (s.canAct c f).setCan c { s.canPort c with service := (s.canPort c).service ++ [f] }) c c
  rw [canPort_setCan_self] at hsame hserv
  have hput : SamePortSetup (s.canPort c) { s.canPort c with service := (s.canPort c).service ++ [f] } := rfl
  exact ⟨hput.trans hsame, hserv⟩

theorem canPort_frameQueued_ne {c d : Nat} (f : Sys2Proof.CanFrame) (h : c ≠ d) : (s.frameQueued c f).canPort d = s.canPort d := by
  unfold frameQueued
  rw [canPump_port_ne h, canPort_setCan_ne _ h, canPort_of_canopen (canAct_canopen c f)]

theorem frameQueued_od (c : Nat) (f : Sys2Proof.CanFrame) : (s.frameQueued c f).od = s.od := by
  unfold frameQueued
  rw [canPump_od]
  exact act_od ..

theorem int_frameQueued (c : Nat) (f : Sys2Proof.CanFrame) (k : Nat) : (s.frameQueued c f).int k = s.int k := by
  unfold frameQueued
  rw [int_canPump, int_setCan, int_canAct]

theorem frameQueued_canopen (c : Nat) (f : Sys2Proof.CanFrame) : ∃ p, (s.frameQueued c f).canopen = { s.canopen with ports := p } := by
  obtain ⟨p, hp⟩ := canPump_canopen (s := (s.canAct c f).setCan c { s.canPort c with service := (s.canPort c).service ++ [f] }) c
  refine ⟨p, hp.trans ?_⟩
  unfold setCan
  dsimp only
  rw [canAct_canopen]

theorem queueFrame_served (f : Sys2Proof.CanFrame) : PortsServed s (s.queueFrame 0 f).1 := by
  by_cases h : (s.canPort 0).service.length < 16
  · rw [queueFrame_of_room f h]
    refine ⟨fun c => ?_, fun c hc => canPort_frameQueued_ne f hc.symm⟩
    by_cases hc : c = 0
    · subst hc
      exact (canPort_frameQueued 0 f).1
    · rw [canPort_frameQueued_ne f (Ne.symm hc)]
      exact .refl _
  · rw [show s.queueFrame 0 f = _ from if_neg h]
    exact .of_ports fun c => canPort_bump ..

/-! ### EMCY (R453) -/

theorem errorField_canopen (v : Int) : (s.errorField v).canopen = s.canopen := by
  unfold errorField
  exact (put_canopen ..).trans ((put_canopen ..).trans (foldl_proj State.canopen _ (fun _ _ => put_canopen ..) s))

theorem emcyOut_served (f : Sys2Proof.CanFrame) : PortsServed s (s.emcyOut f) := by
  unfold emcyOut
  extract_lets u
  have hu : ∀ c, u.canPort c = s.canPort c := fun c => (canPort_put ..).trans (canPort_of_canopen (errorField_canopen _) c)
  refine PortsServed.trans (.of_ports hu) ((queueFrame_served f).trans (.of_ports fun c => ?_))
  exact canPort_of_ports rfl c

theorem emcy_served (code src : Nat) : PortsServed s (s.emcy code src) := by
  unfold emcy
  split
  · dsimp only
    split
    · split
      · exact .of_ports fun c => canPort_of_ports rfl c
      · exact .of_ports fun c => canPort_put ..
    · exact emcyOut_served _
  · exact .refl s

theorem portsServed_foldl {α : Type} (f : State → α → State) (h : ∀ u x, PortsServed u (f u x)) :
    ∀ (l : List α) (u : State), PortsServed u (l.foldl f u)
  | [], u => .refl u
  | x :: l, u => (h u x).trans (portsServed_foldl f h l (f u x))

theorem emcyScan_served : PortsServed s s.emcyScan := by
  unfold emcyScan
  extract_lets old new begun ended src u v
  have hu : PortsServed s u := .of_ports fun c => canPort_of_ports rfl c
  have hv : PortsServed u v := portsServed_foldl _ (fun _ _ => emcy_served ..) begun u
  clear_value v u
  exact (hu.trans hv).trans (portsServed_foldl _ (fun _ _ => emcy_served ..) ended v)

/-! ### The bus idle, and a buffer that ends (R442, R457) -/

theorem canPort_canIdle (c : Nat) : (s.canIdle c).canPort c =
    { s.canPort c with onBus := none, timing := (s.canPort c).timingNext.getD (s.canPort c).timing, timingNext := none } :=
  canPort_setCan_self ..

theorem int_canIdle (c k : Nat) : (s.canIdle c).int k = s.int k := int_setCan ..

theorem int_bufEnds (c b : Nat) (v : Int) (k : Nat) : (s.bufEnds c b v).int k = (s.put (bufRec c b + 6) v).int k := int_setCan ..

theorem int_bufEnds_ne {c b k : Nat} (v : Int) (h : bufRec c b + 6 ≠ k) : (s.bufEnds c b v).int k = s.int k := by
  rw [int_bufEnds, int_put_past _ (by have := bufRec_eq c b; omega) h]

theorem canPort_bufEnds (c b : Nat) (v : Int) : (s.bufEnds c b v).canPort c = { s.canPort c with
    abort := (s.canPort c).abort &&& ~~~ BitVec.ofNat 3 (2 ^ b), onBus := if (s.canPort c).onBus = some b then none else (s.canPort c).onBus } :=
  canPort_setCan_self ..

theorem int_fallActive {c k : Nat} (h : canSt c + 1 ≠ k) : (s.fallActive c).int k = s.int k := by
  unfold fallActive
  split
  · exact int_put_past _ (by have := canSt_eq c; omega) h
  · rfl

theorem int_measureDelay {c k : Nat} (f : Sys2Proof.CanFrame) (h : canSt c + 7 ≠ k) : (s.measureDelay c f).int k = s.int k := by
  unfold measureDelay
  dsimp only
  split
  · rw [int_tookFree]
    exact int_put_past _ (by have := canSt_eq c; omega) h
  · rfl

/-- Whether a port may send is read from its state, the pairing and the mooring. -/
theorem maySend_of_reads {t : State} {c : Nat} (hpair : t.pair = s.pair) (hpairing : t.pairing = s.pairing) (hmoor : t.mooring = s.mooring)
    (hint : t.int 0x300101 = s.int 0x300101) (hstate : t.canState c = s.canState c) : t.maySend c = s.maySend c := by
  have hkey : Od.key (0x3314 + c) 1 = canSt c + 1 := by rw [canSt, key_add]
  have hst : t.int (Od.key (0x3314 + c) 1) = s.int (Od.key (0x3314 + c) 1) := by
    rw [hkey]
    exact hstate
  unfold maySend parked silenced canAsleep
  rw [hst, hpair, hpairing, hmoor, hint]

end State

end Sys2Proof.Machine

/-!
SUPPORT. Transmit buffers (R441, R442): what a frame sent, a frame lost and an abort change of their buffer.
-/

namespace Sys2Proof.Machine

open State

namespace State

variable {s : State} {c n : Nat}

/-! ### A frame sent (R442) -/

/-- The counters after a frame went out, and the transmit error counter lowered (R441, R447). -/
def sentCounted (s : State) (c : Nat) (f : Sys2Proof.CanFrame) : State :=
  let u := (((s.emit (.can c f)).bump (canCnt c + 2)).bump 0x330003).measureDelay c f
  (u.put (canSt c + 2) (max 0 (u.int (canSt c + 2) - 1))).fallActive c

theorem int_measured (f : Sys2Proof.CanFrame) {k : Nat} (h : canSt c + 7 ≠ k) :
    ((((s.emit (.can c f)).bump (canCnt c + 2)).bump 0x330003).measureDelay c f).int k =
      ((s.bump (canCnt c + 2)).bump 0x330003).int k := by
  rw [int_measureDelay f h]
  rfl

theorem int_sentCounted (f : Sys2Proof.CanFrame) : (s.sentCounted c f).int (canCnt c + 2) = min (s.int (canCnt c + 2) + 1) 0xFFFFFFFF ∧
    (s.sentCounted c f).int (canSt c + 2) = max 0 (s.int (canSt c + 2) - 1) ∧ (s.sentCounted c f).int 0x260001 = s.int 0x260001 := by
  have hst := canSt_eq c
  have hcnt := canCnt_eq c
  have hmeasured {k : Nat} (h7 : canSt c + 7 ≠ k) (h3 : 0x330003 ≠ k) :=
    (int_measured (s := s) f h7).trans (int_bump_past (s := s.bump (canCnt c + 2)) (by decide) h3)
  unfold sentCounted
  dsimp only
  refine ⟨?_, ?_, ?_⟩
  · rw [int_fallActive (by omega), int_put_past _ (by omega) (by omega), hmeasured (by omega) (by omega), int_bump_self]
  · rw [int_fallActive (by omega), int_put_self, hmeasured (by omega) (by omega), int_bump_past (by omega) (by omega)]
  · rw [int_fallActive (by omega), int_put_past _ (by omega) (by omega), hmeasured (by omega) (by omega),
      int_bump_past (by omega) (by omega)]

theorem sentCounted_keep (f : Sys2Proof.CanFrame) : Keep [.od] (s.emit (.can c f)) (s.sentCounted c f) := by
  have hmeasured : Keep [.od] (s.emit (.can c f)) ((((s.emit (.can c f)).bump (canCnt c + 2)).bump 0x330003).measureDelay c f) :=
    State.measureDelay_keep rfl (State.bump_keep rfl (State.bump_keep rfl (Keep.refl _ _)))
  exact State.fallActive_keep rfl (State.put_keep rfl hmeasured)

theorem ct32At_of_reads {t : State} {x : Nat} (hclock : t.clock = s.clock) (hint : t.int 0x260001 = s.int 0x260001) :
    t.ct32At x 0 = s.ct32At x 0 := by
  unfold ct32At ctValid timeState ctAt
  rw [hclock, hint]

/-- A buffer's frame sent: its stamp, its end, and its event (R442). -/
def bufferSent (s : State) (c n ago : Nat) (f : Sys2Proof.CanFrame) : State :=
  ((s.put (bufRec c n + 7) (s.ct32At (s.clock.counter - ago) 0)).bufEnds c n 2).raise (172 + c) n c f.ident.toNat

theorem txComplete_buffer {ago : Nat} (hbus : (s.canPort c).onBus = some n) (hn : n < 3) :
    s.txComplete c ago = ((((s.sentCounted c (s.bufFrame c n)).bufferSent c n ago (s.bufFrame c n)).canIdle c).canPump c).emcyScan := by
  unfold txComplete busFrame
  dsimp only
  rw [hbus]
  dsimp only
  rw [if_pos hn]
  dsimp only
  rw [if_pos hn]
  rfl

theorem bufferSent_keep {ago : Nat} (f : Sys2Proof.CanFrame) : Keep [.od, .gate, .log, .canopen, .acts] s (s.bufferSent c n ago f) :=
  State.raise_keep rfl (State.bufEnds_keep rfl (State.put_keep rfl (Keep.refl _ s)))

theorem int_bufferSent {ago k : Nat} (f : Sys2Proof.CanFrame) (hk : k < 0x350000) :
    (s.bufferSent c n ago f).int k = ((s.put (bufRec c n + 7) (s.ct32At (s.clock.counter - ago) 0)).put (bufRec c n + 6) 2).int k := by
  unfold bufferSent
  rw [int_raise _ _ _ _ _ hk, int_bufEnds]

theorem txComplete_parts {ago : Nat} (hc : c < 4) (hbus : (s.canPort c).onBus = some n) (hn : n < 3) :
    .can c (s.bufFrame c n) ∈ (s.txComplete c ago).out ∧ (s.txComplete c ago).int (bufRec c n + 6) = 2 ∧
    (s.txComplete c ago).int (bufRec c n + 7) = s.ct32At (s.clock.counter - ago) 0 ∧
    (s.txComplete c ago).int (canCnt c + 2) = min (s.int (canCnt c + 2) + 1) 0xFFFFFFFF ∧
    (s.txComplete c ago).int (canSt c + 2) = max 0 (s.int (canSt c + 2) - 1) := by
  have hst := canSt_eq c
  have hcnt := canCnt_eq c
  have hbuf := bufRec_eq c n
  obtain ⟨hsent, herr, htime⟩ := int_sentCounted (s := s) (c := c) (s.bufFrame c n)
  have hkeep := sentCounted_keep (s := s) (c := c) (s.bufFrame c n)
  rw [txComplete_buffer hbus hn]
  generalize hu : s.sentCounted c (s.bufFrame c n) = u at hsent herr htime hkeep ⊢
  have hclock : u.clock = s.clock := hkeep.same .clock (by decide)
  have hint {k : Nat} (hk : k < 0x350000) (he : ¬ emcyEntry k) :
      (((u.bufferSent c n ago (s.bufFrame c n)).canIdle c).canPump c).emcyScan.int k =
        ((u.put (bufRec c n + 7) (u.ct32At (u.clock.counter - ago) 0)).put (bufRec c n + 6) 2).int k := by
    rw [int_emcyScan _ he, int_canPump, int_canIdle, int_bufferSent _ hk]
  refine ⟨?_, ?_, ?_, ?_, ?_⟩
  · have hall : Keep [.od, .gate, .log, .canopen, .acts] u (((u.bufferSent c n ago (s.bufFrame c n)).canIdle c).canPump c).emcyScan :=
      State.emcyScan_keep rfl (State.canPump_keep rfl (State.canIdle_keep rfl (bufferSent_keep _)))
    exact hall.out.subset (hkeep.out.subset (by simp [emit]))
  · rw [hint (by omega) (by omega), int_put_self]
  · rw [hint (by omega) (by omega), int_put_past _ (by omega) (by omega), int_put_self, hclock, ct32At_of_reads hclock htime]
  · rw [hint (by omega) (by omega), int_put_past _ (by omega) (by omega), int_put_past _ (by omega) (by omega), hsent]
  · rw [hint (by omega) (by omega), int_put_past _ (by omega) (by omega), int_put_past _ (by omega) (by omega), herr]

theorem txComplete_idle {ago : Nat} (h : (s.canPort c).onBus = none) : s.txComplete c ago = s := by
  unfold txComplete
  dsimp only
  rw [h]

/-! ### A frame lost (R441, R442) -/

/-- The end of a buffer whose frame was lost: aborted where marked, failed where it had one attempt, else requested still. -/
def lostEnds (s : State) (c n : Nat) (marked : Bool) : State :=
  if marked then s.bufEnds c n 3 else if s.flag (bufRec c n + 8) then s.bufEnds c n 4 else s

theorem txLost_buffer (hbus : (s.canPort c).onBus = some n) (hn : n < 3) :
    s.txLost c = ((s.canIdle c).lostEnds c n ((s.canPort c).abort.getLsbD n)).canPump c := by
  unfold txLost
  dsimp only
  rw [hbus]
  dsimp only
  rw [if_pos hn]
  rfl

theorem int_lostEnds {marked : Bool} {k : Nat} (h : bufRec c n + 6 ≠ k) : (s.lostEnds c n marked).int k = s.int k := by
  unfold lostEnds
  split
  · exact int_bufEnds_ne _ h
  · split
    · exact int_bufEnds_ne _ h
    · rfl

theorem int_lostEnds_self (marked : Bool) : (s.lostEnds c n marked).int (bufRec c n + 6) =
    if marked = true then 3 else if s.int (bufRec c n + 8) ≠ 0 then 4 else s.int (bufRec c n + 6) := by
  have hend (v : Int) : (s.bufEnds c n v).int (bufRec c n + 6) = v := by rw [int_bufEnds, int_put_self]
  unfold lostEnds flag
  split
  · exact hend 3
  · simp only [decide_eq_true_eq]
    split
    · exact hend 4
    · rfl

theorem onBus_lostEnds (marked : Bool) (h : (s.canPort c).onBus = none) : ((s.lostEnds c n marked).canPort c).onBus = none := by
  have hend (v : Int) : ((s.bufEnds c n v).canPort c).onBus = none := by
    rw [canPort_bufEnds, h]
    rfl
  unfold lostEnds
  split
  · exact hend 3
  · split
    · exact hend 4
    · exact h

theorem lostEnds_keep (marked : Bool) : Keep [.od, .canopen] s (s.lostEnds c n marked) := by
  have hend (v : Int) : Keep [.od, .canopen] s (s.bufEnds c n v) := State.bufEnds_keep rfl (Keep.refl _ s)
  unfold lostEnds
  split
  · exact hend 3
  · split
    · exact hend 4
    · exact Keep.refl _ s

/-- A port that may not send leaves the bus idle after a loss. -/
theorem onBus_txLost (hbus : (s.canPort c).onBus = some n) (hn : n < 3) (hmay : s.maySend c = false) :
    ((s.txLost c).canPort c).onBus = none := by
  have hst := canSt_eq c
  have hbuf := bufRec_eq c n
  have hkeep : Keep [.od, .canopen] s ((s.canIdle c).lostEnds c n ((s.canPort c).abort.getLsbD n)) :=
    (State.canIdle_keep rfl (Keep.refl _ s)).trans (lostEnds_keep _)
  have hsend : ((s.canIdle c).lostEnds c n ((s.canPort c).abort.getLsbD n)).maySend c = s.maySend c :=
    maySend_of_reads (hkeep.same .pair (by decide)) (hkeep.same .pairing (by decide)) (hkeep.same .mooring (by decide))
      (by rw [int_lostEnds (by omega), int_canIdle]) ((int_lostEnds (by omega)).trans (int_canIdle ..))
  rw [txLost_buffer hbus hn, canPump_parked (hsend.trans hmay)]
  exact onBus_lostEnds _ (by rw [canPort_canIdle])

theorem int_txLost_self (hbus : (s.canPort c).onBus = some n) (hn : n < 3) : (s.txLost c).int (bufRec c n + 6) =
    if (s.canPort c).abort.getLsbD n = true then 3 else if s.int (bufRec c n + 8) ≠ 0 then 4 else s.int (bufRec c n + 6) := by
  rw [txLost_buffer hbus hn, int_canPump, int_lostEnds_self, int_canIdle, int_canIdle]

theorem int_txLost {k : Nat} (hk : k < 0x332000) : (s.txLost c).int k = s.int k := by
  unfold txLost
  dsimp only
  split
  · rfl
  · next n _ =>
    have hbuf := bufRec_eq c n
    rw [int_canPump, int_ite]
    split
    · exact (int_lostEnds (by omega)).trans (int_canIdle ..)
    · exact int_canIdle ..

theorem txLost_idle (h : (s.canPort c).onBus = none) : s.arbitrationLost c = s := by
  unfold arbitrationLost
  rw [h]
  rfl

theorem arbitrationLost_parts (hc : c < 4) (hbus : (s.canPort c).onBus = some n) (hn : n < 3) :
    (s.arbitrationLost c).int (canCnt c + 6) = min (s.int (canCnt c + 6) + 1) 0xFFFFFFFF ∧
    (s.maySend c = false → ((s.arbitrationLost c).canPort c).onBus = none) ∧
    (s.arbitrationLost c).int (bufRec c n + 6) =
      if (s.canPort c).abort.getLsbD n = true then 3 else if s.int (bufRec c n + 8) ≠ 0 then 4 else s.int (bufRec c n + 6) := by
  have hst := canSt_eq c
  have hcnt := canCnt_eq c
  have hbuf := bufRec_eq c n
  have heq : s.arbitrationLost c = (s.bump (canCnt c + 6)).txLost c := by
    unfold arbitrationLost
    rw [hbus]
    rfl
  have hbus' : ((s.bump (canCnt c + 6)).canPort c).onBus = some n := by rw [canPort_bump, hbus]
  rw [heq]
  refine ⟨?_, fun hmay => onBus_txLost hbus' hn ?_, ?_⟩
  · rw [int_txLost (by omega), int_bump_self]
  · refine (maySend_of_reads (bump_pair ..) (bump_pairing ..) (bump_mooring ..) ?_ ?_).trans hmay
    · exact int_bump_past (by omega) (by omega)
    · exact int_bump_past (by omega) (by omega)
  · rw [int_txLost_self hbus' hn, canPort_bump, int_bump_past (by omega) (by omega), int_bump_past (by omega) (by omega)]

/-! ### A request and an abort (R442) -/

theorem requested_iff {b : Nat} : s.requested c b = true ↔ s.int (bufRec c b + 6) = 1 := by
  rw [bufRec, key_add]
  exact decide_eq_true_iff

theorem txRequest_pending {b : Nat} (h : s.int (bufRec c b + 6) = 1) : s.txRequest c b = (s, 0x0C) := if_pos (requested_iff.mpr h)

theorem txRequest_taken {b : Nat} (h : s.int (bufRec c b + 6) ≠ 1) :
    s.txRequest c b = (((s.canAct c (s.bufFrame c b)).put (bufRec c b + 6) 1).canPump c, 0) :=
  if_neg (mt requested_iff.mp h)

theorem txAbort_none {b : Nat} (h : s.int (bufRec c b + 6) ≠ 1) : s.txAbort c b = s :=
  if_pos (Bool.eq_false_iff.mpr (mt requested_iff.mp h))

theorem txAbort_onBus {b : Nat} (h : s.int (bufRec c b + 6) = 1) (hbus : (s.canPort c).onBus = some b) :
    s.txAbort c b = s.setCan c { s.canPort c with abort := (s.canPort c).abort ||| BitVec.ofNat 3 (2 ^ b) } := by
  unfold txAbort
  rw [requested_iff.mpr h]
  exact (if_neg Bool.noConfusion).trans (if_pos hbus)

theorem txAbort_waiting {b : Nat} (h : s.int (bufRec c b + 6) = 1) (hbus : (s.canPort c).onBus ≠ some b) :
    s.txAbort c b = s.bufEnds c b 3 := by
  unfold txAbort
  rw [requested_iff.mpr h]
  exact (if_neg Bool.noConfusion).trans (if_neg hbus)

theorem int_respond_can {k : Nat} (w : Writer) (st : Nat) (data : List Byte) (h : 0x330000 ≤ k) (hk : k < 0x350000) :
    (s.respond w st data).int k = s.int k := int_respond _ _ _ _ hk (by simp only [respondEntry]; omega)

end State

/-- Settles O47, by the record of the buffer each command works on, and the entries that arbitration and EMCY leave. -/
theorem buffersAreSent : Obligations.BuffersAreSent := by
  refine ⟨?_, ?_, ?_, ?_, ?_, ?_⟩
  · intro s w c b hw
    refine ⟨fun h => congrArg Host.Outcome.next ((served_accessAct hw).trans ?_), fun h => congrArg Host.Outcome.next ((served_accessAct hw).trans ?_)⟩
    · rw [txRequest_pending h]
    · rw [txRequest_taken h]
  · intro s w c b hw
    have hbuf := bufRec_eq c b
    refine ⟨fun h => congrArg Host.Outcome.next ((served_accessAct hw).trans ?_),
      fun h hbus => ⟨_, congrArg Host.Outcome.next (served_accessAct hw), ?_, ?_⟩,
      fun h hbus => ⟨_, congrArg Host.Outcome.next (served_accessAct hw), ?_, ?_, ?_⟩⟩
    · rw [txAbort_none h]
    · rw [int_respond_can _ _ _ (by omega) (by omega), txAbort_waiting h hbus, int_bufEnds, int_put_self]
    · rw [canPort_respond, txAbort_waiting h hbus, canPort_bufEnds]
      exact if_neg hbus
    · rw [int_respond_can _ _ _ (by omega) (by omega), txAbort_onBus h hbus, int_setCan, h]
    · rw [canPort_respond, txAbort_onBus h hbus, canPort_setCan_self]
    · rw [canPort_respond, txAbort_onBus h hbus, canPort_setCan_self]
  · exact fun s c ago n hready hbus hn => ⟨_, congrArg Host.Outcome.next (served_of_ready hready), txComplete_parts c.isLt hbus hn⟩
  · exact fun s c ago h => congrArg Host.Outcome.next (served_eq_self (txComplete_idle h))
  · exact fun s c n hready hbus => ⟨_, congrArg Host.Outcome.next (served_of_ready hready), arbitrationLost_parts c.isLt hbus n.isLt⟩
  · exact fun s c h => congrArg Host.Outcome.next (served_eq_self (txLost_idle h))

end Sys2Proof.Machine

/-!
SUPPORT. Bus errors and bit-rate detection (R446, R447): what the error counters lead to, what bus-off leaves of a port, and how
the candidates of a detection narrow.
-/

namespace Sys2Proof.Machine

open State

namespace State

variable {s : State} {c : Nat}

/-! ### A port that may not send (R440, R447) -/

theorem maySend_of_busOff (h : s.canState c = 3) : s.maySend c = false := by
  have hkey : s.int (Od.key (0x3314 + c) 1) = 3 := by
    rw [← key_add]
    exact h
  unfold maySend
  dsimp only
  rw [hkey]
  rfl

theorem maySend_of_keep {L : List Part} {t : State} (hkeep : Keep L s t) (hl : .pair ∉ L ∧ .pairing ∉ L ∧ .mooring ∉ L)
    (hint : t.int 0x300101 = s.int 0x300101) (hstate : t.canState c = s.canState c) : t.maySend c = s.maySend c := by
  obtain ⟨hpair, hpairing, hmoor⟩ := hl
  exact maySend_of_reads (hkeep.same .pair hpair) (hkeep.same .pairing hpairing) (hkeep.same .mooring hmoor) hint hstate

/-- While CAN0 may not send, it still may not and the bus holds what it held. -/
def BusQuiet (s t : State) : Prop := s.maySend 0 = false → t.maySend 0 = false ∧ (t.canPort 0).onBus = (s.canPort 0).onBus

theorem BusQuiet.refl (s : State) : BusQuiet s s := fun h => ⟨h, rfl⟩

theorem BusQuiet.trans {t u : State} (h : BusQuiet s t) (g : BusQuiet t u) : BusQuiet s u := by
  intro hmay
  obtain ⟨hsend, hbus⟩ := h hmay
  obtain ⟨gsend, gbus⟩ := g hsend
  exact ⟨gsend, gbus.trans hbus⟩

theorem busQuiet_foldl {α : Type} (f : State → α → State) (h : ∀ u x, BusQuiet u (f u x)) : ∀ (l : List α) (u : State), BusQuiet u (l.foldl f u)
  | [], u => .refl u
  | x :: l, u => (h u x).trans (busQuiet_foldl f h l (f u x))

theorem maySend_setCan_canAct (f : Sys2Proof.CanFrame) (x : CanPort) : ((s.canAct 0 f).setCan 0 x).maySend 0 = s.maySend 0 := by
  have hint (k : Nat) : ((s.canAct 0 f).setCan 0 x).int k = s.int k := (int_setCan ..).trans (int_canAct ..)
  exact maySend_of_keep (L := [.canopen, .acts]) (State.setCan_keep rfl (State.canAct_keep rfl (Keep.refl _ s))) (by decide) (hint _) (hint _)

theorem frameQueued_quiet (f : Sys2Proof.CanFrame) : BusQuiet s (s.frameQueued 0 f) := by
  intro hmay
  unfold frameQueued
  have hsend := (maySend_setCan_canAct (s := s) f { s.canPort 0 with service := (s.canPort 0).service ++ [f] }).trans hmay
  rw [canPump_parked hsend, canPort_setCan_self]
  exact ⟨hsend, rfl⟩

theorem queueFrame_quiet (f : Sys2Proof.CanFrame) : BusQuiet s (s.queueFrame 0 f).1 := by
  by_cases h : (s.canPort 0).service.length < 16
  · rw [queueFrame_of_room f h]
    exact frameQueued_quiet f
  · rw [show s.queueFrame 0 f = _ from if_neg h]
    intro hmay
    refine ⟨(maySend_of_keep (L := [.od]) (State.bump_keep rfl (Keep.refl _ s)) (by decide) ?_ ?_).trans hmay, by rw [canPort_bump]⟩
    · exact int_bump_past (by decide) (by decide)
    · exact int_bump_past (by decide) (by decide)

theorem emcyOut_quiet (f : Sys2Proof.CanFrame) : BusQuiet s (s.emcyOut f) := by
  unfold emcyOut
  extract_lets u
  have hu : BusQuiet s u := by
    intro hmay
    refine ⟨(maySend_of_keep (L := [.od]) (State.put_keep rfl (State.errorField_keep rfl (Keep.refl _ s))) (by decide) ?_ ?_).trans hmay, ?_⟩
    · exact (int_put_past _ (by decide) (by decide)).trans (int_errorField _ _ (by decide))
    · exact (int_put_past _ (by decide) (by decide)).trans (int_errorField _ _ (by decide))
    · rw [show u.canPort 0 = _ from (canPort_put ..).trans (canPort_of_canopen (errorField_canopen _) 0)]
  exact (hu.trans (queueFrame_quiet f)).trans fun h => ⟨h, rfl⟩

theorem emcy_quiet (code src : Nat) : BusQuiet s (s.emcy code src) := by
  unfold emcy
  split
  · dsimp only
    split
    · split
      · exact fun h => ⟨h, rfl⟩
      · intro hmay
        refine ⟨(maySend_of_keep (L := [.od]) (State.put_keep rfl (Keep.refl _ s)) (by decide) ?_ ?_).trans hmay, by rw [canPort_put]⟩
        · exact int_put_past _ (by decide) (by decide)
        · exact int_put_past _ (by decide) (by decide)
    · exact emcyOut_quiet _
  · exact .refl s

theorem emcyScan_quiet : BusQuiet s s.emcyScan := by
  unfold emcyScan
  extract_lets old new begun ended src u v
  have hu : BusQuiet s u := fun h => ⟨h, rfl⟩
  have hv : BusQuiet u v := busQuiet_foldl _ (fun _ _ => emcy_quiet _ _) begun u
  clear_value v u
  exact (hu.trans hv).trans (busQuiet_foldl _ (fun _ _ => emcy_quiet _ _) ended v)

theorem onBus_emcyScan (hbus : (s.canPort c).onBus = none) (hmay : s.maySend c = false) : (s.emcyScan.canPort c).onBus = none := by
  by_cases hc : c = 0
  · subst hc
    exact (emcyScan_quiet hmay).2.trans hbus
  · rw [emcyScan_served.2 c hc, hbus]

theorem onBus_txLost_parked (hmay : s.maySend c = false) : ((s.txLost c).canPort c).onBus = none := by
  cases hbus : (s.canPort c).onBus with
  | none =>
    have heq : s.txLost c = s := by
      unfold txLost
      dsimp only
      rw [hbus]
    rw [heq, hbus]
  | some n =>
    by_cases hn : n < 3
    · exact onBus_txLost hbus hn hmay
    · have hidle : (s.canIdle c).maySend c = false := hmay
      have heq : s.txLost c = (s.canIdle c).canPump c := by
        unfold txLost
        dsimp only
        rw [hbus]
        dsimp only
        rw [if_neg hn]
      rw [heq, canPump_parked hidle, canPort_canIdle]

/-! ### NMT after an error (R449) -/

theorem int_sdoAbort {k : Nat} (code : Nat) (h : k ≠ 0x331809) : (s.sdoAbort code).int k = s.int k := by
  unfold sdoAbort
  extract_lets mux other t
  split
  · exact int_queueFrame _ _ (Ne.symm h)
  · rfl

theorem int_nmtTo {k : Nat} (v : Int) (h : k ≠ 0x330103) (h9 : k ≠ 0x331809) (hk : k < 0x350000) : (s.nmtTo v).int k = s.int k := by
  unfold nmtTo
  split
  · rfl
  · dsimp only
    rw [int_raise _ _ _ _ _ hk, int_put_past _ (by decide) (Ne.symm h), int_ite]
    split
    · exact int_sdoAbort _ h9
    · rfl

theorem int_commError {k : Nat} (h : k ≠ 0x330103) (h9 : k ≠ 0x331809) (hk : k < 0x350000) : s.commError.int k = s.int k := by
  unfold commError
  dsimp only
  split
  · split
    · exact int_nmtTo _ h h9 hk
    · rfl
  · split
    · exact int_nmtTo _ h h9 hk
    · rfl

/-! ### The error counters (R447) -/

/-- The counters raised: by 8 for a transmit error, by 1 for a receive error, kept to 255. -/
def errorsCounted (s : State) (c : Nat) (tx : Bool) : State :=
  (s.put (canSt c + 2) (min (s.int (canSt c + 2) + (if tx then 8 else 0)) 255)).put (canSt c + 3)
    (min (s.int (canSt c + 3) + (if tx then 0 else 1)) 255)

/-- A port that turns error passive. -/
def turnedPassive (s : State) (c : Nat) : State := ((s.put (canSt c + 1) 2).bump (canCnt c + 4)).raise (160 + c) 2 c 0

/-- A port that goes bus-off. -/
def turnedOff (s : State) (c : Nat) : State := ((s.put (canSt c + 1) 3).bump (canCnt c + 5)).raise (164 + c) 3 c 0

theorem canState_errorsCounted (tx : Bool) : (s.errorsCounted c tx).canState c = s.canState c := by
  have hst := canSt_eq c
  exact (int_put_past _ (by omega) (by omega)).trans (int_put_past _ (by omega) (by omega))

theorem raiseErrors_passive {tx : Bool} (hoff : s.int (canSt c + 2) + (if tx then 8 else 0) ≤ 255) (h1 : s.canState c = 1)
    (h : 127 < s.int (canSt c + 2) + (if tx then 8 else 0) ∨ 127 < s.int (canSt c + 3) + (if tx then 0 else 1)) :
    s.raiseErrors c tx = (s.errorsCounted c tx).turnedPassive c :=
  (if_neg (by omega)).trans (if_pos ⟨(canState_errorsCounted tx).trans h1, h⟩)

theorem raiseErrors_active {tx : Bool} (hoff : s.int (canSt c + 2) + (if tx then 8 else 0) ≤ 255)
    (h : s.canState c ≠ 1 ∨ (s.int (canSt c + 2) + (if tx then 8 else 0) ≤ 127 ∧ s.int (canSt c + 3) + (if tx then 0 else 1) ≤ 127)) :
    s.raiseErrors c tx = s.errorsCounted c tx := by
  refine (if_neg (by omega)).trans (if_neg ?_)
  rintro ⟨hstate, hcount⟩
  have hstate' : s.canState c = 1 := (canState_errorsCounted tx).symm.trans hstate
  omega

theorem raiseErrors_off (h : 247 < s.int (canSt c + 2)) : s.raiseErrors c true =
    if c = 0 then ((s.errorsCounted c true).turnedOff c).commError else (s.errorsCounted c true).turnedOff c :=
  if_pos (by rw [if_pos rfl]; omega)

theorem int_errorsCounted {tx : Bool} {k : Nat} (h2 : canSt c + 2 ≠ k) (h3 : canSt c + 3 ≠ k) : (s.errorsCounted c tx).int k = s.int k := by
  have hst := canSt_eq c
  exact (int_put_past _ (by omega) h3).trans (int_put_past _ (by omega) h2)

theorem errorsCounted_counters (tx : Bool) :
    (s.errorsCounted c tx).int (canSt c + 2) = min (s.int (canSt c + 2) + (if tx then 8 else 0)) 255 ∧
    (s.errorsCounted c tx).int (canSt c + 3) = min (s.int (canSt c + 3) + (if tx then 0 else 1)) 255 := by
  have hst := canSt_eq c
  exact ⟨(int_put_past _ (by omega) (by omega)).trans (int_put_self ..), int_put_self ..⟩

theorem int_turnedPassive {k : Nat} (h1 : canSt c + 1 ≠ k) (h4 : canCnt c + 4 ≠ k) (hk : k < 0x350000) :
    (s.turnedPassive c).int k = s.int k := by
  have hst := canSt_eq c
  have hcnt := canCnt_eq c
  unfold turnedPassive
  rw [int_raise _ _ _ _ _ hk, int_bump_past (by omega) h4, int_put_past _ (by omega) h1]

theorem turnedPassive_parts (hc : c < 4) : (s.turnedPassive c).canState c = 2 ∧
    (s.turnedPassive c).int (canCnt c + 4) = min (s.int (canCnt c + 4) + 1) 0xFFFFFFFF := by
  have hst := canSt_eq c
  have hcnt := canCnt_eq c
  unfold turnedPassive canState
  rw [int_raise _ _ _ _ _ (by omega), int_raise _ _ _ _ _ (by omega), int_bump_past (by omega) (by omega), int_put_self, int_bump_self,
    int_put_past _ (by omega) (by omega)]
  exact ⟨rfl, rfl⟩

theorem turnedOff_parts (hc : c < 4) : (s.turnedOff c).canState c = 3 ∧
    (s.turnedOff c).int (canCnt c + 5) = min (s.int (canCnt c + 5) + 1) 0xFFFFFFFF := by
  have hst := canSt_eq c
  have hcnt := canCnt_eq c
  unfold turnedOff canState
  rw [int_raise _ _ _ _ _ (by omega), int_raise _ _ _ _ _ (by omega), int_bump_past (by omega) (by omega), int_put_self, int_bump_self,
    int_put_past _ (by omega) (by omega)]
  exact ⟨rfl, rfl⟩

/-- What raising the counters leaves, of a port that stays on the bus. -/
theorem int_raiseErrors {tx : Bool} {k : Nat} (hoff : s.int (canSt c + 2) + (if tx then 8 else 0) ≤ 255) (h1 : canSt c + 1 ≠ k)
    (h4 : canCnt c + 4 ≠ k) (hk : k < 0x350000) : (s.raiseErrors c tx).int k = (s.errorsCounted c tx).int k := by
  by_cases h : s.canState c ≠ 1 ∨ (s.int (canSt c + 2) + (if tx then 8 else 0) ≤ 127 ∧ s.int (canSt c + 3) + (if tx then 0 else 1) ≤ 127)
  · rw [raiseErrors_active hoff h]
  · rw [raiseErrors_passive hoff (by omega) (by omega), int_turnedPassive h1 h4 hk]

/-! ### A bus error (R446, R447) -/

/-- The error code kept by phase, and the error counted. -/
def errorNoted (s : State) (c kind : Nat) (dataPhase : Bool) : State :=
  (s.put (canSt c + (if dataPhase then 5 else 4)) kind).bump (canCnt c + 3)

/-- The phase's entry of the error code. -/
theorem phase_cases (dataPhase : Bool) : (if dataPhase = true then 5 else 4) = 5 ∨ (if dataPhase = true then 5 else 4) = 4 := by
  cases dataPhase
  · exact .inr rfl
  · exact .inl rfl

theorem int_errorNoted {kind : Nat} {dataPhase : Bool} {k : Nat} (h4 : canSt c + 4 ≠ k) (h5 : canSt c + 5 ≠ k) (h3 : canCnt c + 3 ≠ k) :
    (s.errorNoted c kind dataPhase).int k = s.int k := by
  have hst := canSt_eq c
  have hcnt := canCnt_eq c
  have hphase := phase_cases dataPhase
  exact (int_bump_past (by omega) h3).trans (int_put_past _ (by omega) (by omega))

theorem busError_active {tx dataPhase : Bool} {kind : Nat} (h : s.canState c = 1 ∨ s.canState c = 2) :
    s.busError c tx kind dataPhase = (if tx then ((s.errorNoted c kind dataPhase).raiseErrors c tx).txLost c
      else (s.errorNoted c kind dataPhase).raiseErrors c tx).emcyScan := by
  unfold busError
  dsimp only
  rw [if_neg (by omega), if_neg (by omega), if_neg (by omega)]
  rfl

theorem busError_listening {tx dataPhase : Bool} {kind : Nat}
    (h : s.canState c = 4 ∨ (s.canState c = 5 ∧ s.int (canDet c + 3) ≠ 2)) :
    s.busError c tx kind dataPhase = s.put (canSt c + (if dataPhase then 5 else 4)) kind := by
  have hst := canSt_eq c
  have hdet := canDet_eq c
  have hphase := phase_cases dataPhase
  unfold busError
  dsimp only
  rw [if_neg (by omega)]
  split
  · refine if_neg ?_
    rw [int_put_past _ (by omega) (by omega)]
    omega
  · exact if_pos (by omega)

theorem busError_trial {tx dataPhase : Bool} {kind i : Nat} (h : s.canState c = 5) (hdet2 : s.int (canDet c + 3) = 2)
    (htrial : (s.canPort c).detect.trial = some i) : s.busError c tx kind dataPhase =
      (s.put (canSt c + (if dataPhase then 5 else 4)) kind).measureFrom c ((s.canPort c).detect.alive.filter (fun j => j ≠ i)) := by
  have hst := canSt_eq c
  have hdet := canDet_eq c
  have hphase := phase_cases dataPhase
  unfold busError trialBad
  dsimp only
  rw [if_neg (by omega), if_pos h, if_pos (by rw [int_put_past _ (by omega) (by omega), hdet2]), canPort_put, htrial]

theorem busError_off {tx dataPhase : Bool} {kind : Nat} (h : s.canState c = 0 ∨ s.canState c = 3) : s.busError c tx kind dataPhase = s :=
  if_pos h

/-- A bus error on a port that stays on the bus, entry by entry. -/
theorem int_busError {tx dataPhase : Bool} {kind k : Nat} (h : s.canState c = 1 ∨ s.canState c = 2) (hk : k < 0x332000) (he : ¬ emcyEntry k) :
    (s.busError c tx kind dataPhase).int k = ((s.errorNoted c kind dataPhase).raiseErrors c tx).int k := by
  rw [busError_active h, int_emcyScan _ he, int_ite]
  split
  · exact int_txLost hk
  · rfl

/-- Bus-off: the state, the count and the idle bus (R447). -/
theorem busError_busOff {dataPhase : Bool} {kind : Nat} (hc : c < 4) (h : s.canState c = 1 ∨ s.canState c = 2) (htec : 247 < s.int (canSt c + 2)) :
    (s.busError c true kind dataPhase).canState c = 3 ∧
    (s.busError c true kind dataPhase).int (canCnt c + 5) = min (s.int (canCnt c + 5) + 1) 0xFFFFFFFF ∧
    ((s.busError c true kind dataPhase).canPort c).onBus = none := by
  have hst := canSt_eq c
  have hcnt := canCnt_eq c
  have hraised := raiseErrors_off (s := s.errorNoted c kind dataPhase) (c := c) (by rw [int_errorNoted (by omega) (by omega) (by omega)]; exact htec)
  obtain ⟨hstate, hcount⟩ := turnedOff_parts (s := (s.errorNoted c kind dataPhase).errorsCounted c true) hc
  have hint {k : Nat} (h103 : k ≠ 0x330103) (h9 : k ≠ 0x331809) (hk : k < 0x350000) :
      ((s.errorNoted c kind dataPhase).raiseErrors c true).int k =
        (((s.errorNoted c kind dataPhase).errorsCounted c true).turnedOff c).int k := by
    rw [hraised, int_ite]
    split
    · exact int_commError h103 h9 hk
    · rfl
  have hoff : ((s.errorNoted c kind dataPhase).raiseErrors c true).canState c = 3 := (hint (by omega) (by omega) (by omega)).trans hstate
  refine ⟨?_, ?_, ?_⟩
  · exact (int_busError h (by omega) (by omega)).trans hoff
  · rw [int_busError h (by omega) (by omega), hint (by omega) (by omega) (by omega), hcount, int_errorsCounted (by omega) (by omega),
      int_errorNoted (by omega) (by omega) (by omega)]
  · rw [busError_active h, if_pos rfl]
    refine onBus_emcyScan (onBus_txLost_parked (maySend_of_busOff hoff)) (maySend_of_busOff ?_)
    exact (int_txLost (by omega)).trans hoff

/-! ### Recovery (R447, R457) -/

theorem recoveryRequest_off (h : s.canState c = 3) : s.recoveryRequest c = s.setCan c { s.canPort c with recovering := true } := if_pos h

theorem recoveryRequest_on (h : s.canState c ≠ 3) : s.recoveryRequest c = s := if_neg h

theorem busOffRecovered_waits (h : s.canState c ≠ 3 ∨ (s.int (canCfg c + 0x0D) = 0 ∧ (s.canPort c).recovering = false)) :
    s.busOffRecovered c = s := by
  refine if_neg ?_
  rintro ⟨h3, hflag | hrec⟩
  · obtain h | ⟨h0, -⟩ := h
    · exact h h3
    · exact absurd h0 (of_decide_eq_true hflag)
  · obtain h | ⟨-, h0⟩ := h
    · exact h h3
    · rw [h0] at hrec
      exact Bool.noConfusion hrec

/-- A port back on the bus with clear counters. -/
def backOnBus (s : State) (c : Nat) : State :=
  let u := ((s.put (canSt c + 1) 1).put (canSt c + 2) 0).put (canSt c + 3) 0
  u.setCan c { u.canPort c with recovering := false, onBus := none }

theorem busOffRecovered_back (h3 : s.canState c = 3) (h : s.int (canCfg c + 0x0D) ≠ 0 ∨ (s.canPort c).recovering = true) :
    s.busOffRecovered c = (if c = 0 then (s.backOnBus c).emcyScan.emcy 0x8140 164 else s.backOnBus c).canPump c :=
  if_pos ⟨h3, h.imp_left fun h0 => decide_eq_true h0⟩

theorem busOffRecovered_parts (hc : c < 4) (h3 : s.canState c = 3) (h : s.int (canCfg c + 0x0D) ≠ 0 ∨ (s.canPort c).recovering = true) :
    (s.busOffRecovered c).canState c = 1 ∧ (s.busOffRecovered c).int (canSt c + 2) = 0 ∧ (s.busOffRecovered c).int (canSt c + 3) = 0 ∧
    ((s.busOffRecovered c).canPort c).recovering = false := by
  have hst := canSt_eq c
  have hback : (s.backOnBus c).canState c = 1 ∧ (s.backOnBus c).int (canSt c + 2) = 0 ∧ (s.backOnBus c).int (canSt c + 3) = 0 := by
    unfold backOnBus canState
    dsimp only
    rw [int_setCan, int_setCan, int_setCan, int_put_past _ (by omega) (by omega), int_put_past _ (by omega) (by omega), int_put_self,
      int_put_past _ (by omega) (by omega), int_put_self, int_put_self]
    exact ⟨rfl, rfl, rfl⟩
  have hrec : ((s.backOnBus c).canPort c).recovering = false := congrArg CanPort.recovering (canPort_setCan_self ..)
  have hint {k : Nat} (he : ¬ emcyEntry k) : (s.busOffRecovered c).int k = (s.backOnBus c).int k := by
    rw [busOffRecovered_back h3 h, int_canPump, int_ite]
    split
    · exact (int_emcy _ _ _ he).trans (int_emcyScan _ he)
    · rfl
  have hport : SamePortSetup ((s.backOnBus c).canPort c) ((s.busOffRecovered c).canPort c) := by
    rw [busOffRecovered_back h3 h]
    refine SamePortSetup.trans ?_ (canPump_samePort c c).1
    split
    · exact (emcyScan_served.trans (emcy_served 0x8140 164)).1 c
    · exact .refl _
  obtain ⟨h1, h2, h0⟩ := hback
  refine ⟨(hint (by omega)).trans h1, (hint (by omega)).trans h2, (hint (by omega)).trans h0, ?_⟩
  rw [hport]
  exact hrec

/-! ### Bit-rate detection (R446) -/

theorem int_detectFails_self : (s.detectFails c).int (canDet c + 3) = 4 ∧ (s.detectFails c).canState c = 4 := by
  have hst := canSt_eq c
  have hdet := canDet_eq c
  unfold detectFails canState
  rw [int_setCan, int_setCan, int_put_self]
  by_cases h : canSt c + 1 = canDet c + 3
  · omega
  · rw [int_put_past _ (by omega) h, int_put_self]
    exact ⟨rfl, rfl⟩

theorem int_detectFails {k : Nat} (h1 : canSt c + 1 ≠ k) (h3 : canDet c + 3 ≠ k) : (s.detectFails c).int k = s.int k := by
  have hst := canSt_eq c
  have hdet := canDet_eq c
  unfold detectFails
  rw [int_setCan, int_put_past _ (by omega) h1, int_put_past _ (by omega) h3]

theorem canPort_detectFails : (s.detectFails c).canPort c = { s.canPort c with detect := {} } := canPort_setCan_self ..

/-- Step 1 with candidates left. -/
theorem measureFrom_parts {l : List Nat} (hl : l ≠ []) : (s.measureFrom c l).int (canDet c + 3) = 1 ∧ (s.measureFrom c l).canState c = 5 ∧
    (s.measureFrom c l).canPort c = { s.canPort c with detect := { alive := l } } ∧
    ∀ k, canSt c + 1 ≠ k → canDet c + 3 ≠ k → (s.measureFrom c l).int k = s.int k := by
  have hst := canSt_eq c
  have hdet := canDet_eq c
  have heq : s.measureFrom c l = ((s.put (canDet c + 3) 1).put (canSt c + 1) 5).setCan c { s.canPort c with detect := { alive := l } } := if_neg hl
  rw [heq, canPort_setCan_self]
  unfold canState
  refine ⟨?_, (int_setCan ..).trans (int_put_self ..), rfl, fun k h1 h3 => ?_⟩
  · rw [int_setCan, int_put_past _ (by omega) (by omega), int_put_self]
  · rw [int_setCan, int_put_past _ (by omega) h1, int_put_past _ (by omega) h3]

/-- The state of a port at the start of its detection: no rate, nothing locked. -/
def detectionCleared (s : State) (c : Nat) : State :=
  let u := ((s.put (canDet c + 4) 0xFF).put (canDet c + 5) 0).put (canDet c + 6) 0
  u.setCan c { u.canPort c with rates := none }

theorem int_detectionCleared : (s.detectionCleared c).int (canDet c + 4) = 0xFF := by
  have hdet := canDet_eq c
  refine (int_setCan ..).trans ?_
  rw [int_put_past _ (by omega) (by omega), int_put_past _ (by omega) (by omega), int_put_self]

theorem get_congr {t : State} (k : Nat) (ho : t.od = s.od) (hf : t.fuses = s.fuses) (hn : t.canopen.nodeId = s.canopen.nodeId)
    (hs : t.power.hostSel = s.power.hostSel) (hi : t.power.islands = s.power.islands) : t.get k = s.get k := by
  simp only [get, ho, derived_congr s k ho hf hn hs hi]

theorem get_setCan (x : CanPort) (k : Nat) : (s.setCan c x).get k = s.get k := get_congr k rfl rfl rfl rfl rfl

theorem bitRates_detectionCleared : (s.detectionCleared c).bitRates c = s.bitRates c := by
  have hdet := canDet_eq c
  have hput (u : State) {k : Nat} (v : Int) (hk : 0x314007 ≤ k) (h : k ≠ canDet c + 1) : (u.put k v).get (canDet c + 1) = u.get (canDet c + 1) :=
    get_put_ne _ _ h (not_feeds_of_ge hk)
  have hget : (s.detectionCleared c).get (canDet c + 1) = s.get (canDet c + 1) := by
    unfold detectionCleared
    dsimp only
    rw [get_setCan]
    rw [hput _ _ (by omega) (by omega), hput _ _ (by omega) (by omega), hput _ _ (by omega) (by omega)]
  unfold bitRates bytes
  rw [hget]

theorem startDetection_eq : s.startDetection c = (s.detectionCleared c).measureFrom c (List.range (s.bitRates c).length) := by
  rw [← bitRates_detectionCleared]
  rfl

theorem canPort_detectionCleared : ((s.detectionCleared c).canPort c).rates = none := by
  unfold detectionCleared
  dsimp only
  rw [canPort_setCan_self]

theorem bitRates_length : (s.bitRates c).length = (s.bytes (canDet c + 1)).length / 8 := by
  unfold bitRates
  rw [List.length_map, List.length_range]

theorem startDetection_runs (h : 8 ≤ (s.bytes (canDet c + 1)).length) : (s.startDetection c).int (canDet c + 3) = 1 ∧
    (s.startDetection c).canState c = 5 ∧ (s.startDetection c).int (canDet c + 4) = 0xFF ∧
    ((s.startDetection c).canPort c).rates = none ∧
    ((s.startDetection c).canPort c).detect = { alive := List.range (s.bitRates c).length } := by
  have hst := canSt_eq c
  have hdet := canDet_eq c
  have hsome : List.range (s.bitRates c).length ≠ [] := by
    rw [Ne, List.range_eq_nil, bitRates_length]
    omega
  obtain ⟨h3, h5, hport, hint⟩ := measureFrom_parts (s := s.detectionCleared c) (c := c) hsome
  rw [startDetection_eq, hport]
  refine ⟨h3, h5, ?_, canPort_detectionCleared, rfl⟩
  by_cases hne : canSt c + 1 = canDet c + 4
  · omega
  · rw [hint _ hne (by omega), int_detectionCleared]

theorem startDetection_fails (h : (s.bytes (canDet c + 1)).length < 8) : (s.startDetection c).int (canDet c + 3) = 4 ∧
    (s.startDetection c).canState c = 4 ∧ (s.startDetection c).int (canDet c + 4) = 0xFF ∧
    ((s.startDetection c).canPort c).rates = none ∧ ((s.startDetection c).canPort c).detect = {} := by
  have hst := canSt_eq c
  have hdet := canDet_eq c
  have hnone : (s.bitRates c).length = 0 := by
    rw [bitRates_length]
    omega
  have heq : s.startDetection c = (s.detectionCleared c).detectFails c := by
    rw [startDetection_eq, hnone]
    exact if_pos rfl
  obtain ⟨h3, h4⟩ := int_detectFails_self (s := s.detectionCleared c) (c := c)
  rw [heq, canPort_detectFails]
  refine ⟨h3, h4, ?_, canPort_detectionCleared, rfl⟩
  by_cases hne : canSt c + 1 = canDet c + 4
  · omega
  · rw [int_detectFails hne (by omega), int_detectionCleared]

theorem detectionEdge_other {cycles : Nat} (h : s.int (canDet c + 3) ≠ 1) : s.detectionEdge c cycles = s := if_pos h

theorem detectionEdge_none {cycles : Nat} (h : s.int (canDet c + 3) = 1)
    (hnone : ∀ i ∈ (s.canPort c).detect.alive, edgeFits ((s.bitRates c).getD i (0, 0)).1 cycles = false) :
    s.detectionEdge c cycles = s.detectFails c := by
  have halive : (s.canPort c).detect.alive.filter (fun i => edgeFits ((s.bitRates c).getD i (0, 0)).1 cycles) = [] :=
    List.filter_eq_nil_iff.mpr fun i hi => Bool.eq_false_iff.mp (hnone i hi)
  unfold detectionEdge
  rw [if_neg (by omega)]
  dsimp only
  rw [halive]

theorem canPort_takeTiming (x : CanTiming) : ((s.takeTiming c x).canPort c).detect = (s.canPort c).detect := by
  unfold takeTiming
  dsimp only
  rw [canPort_setCan_self]
  split <;> rfl

theorem detectionEdge_parts {cycles : Nat} (h : s.int (canDet c + 3) = 1)
    (hsome : ∃ i ∈ (s.canPort c).detect.alive, edgeFits ((s.bitRates c).getD i (0, 0)).1 cycles = true) :
    ((s.detectionEdge c cycles).canPort c).detect.alive =
      (s.canPort c).detect.alive.filter (fun i => edgeFits ((s.bitRates c).getD i (0, 0)).1 cycles) ∧
    (s.detectionEdge c cycles).int (canDet c + 3) = if 31 ≤ (s.canPort c).detect.edges then 2 else 1 := by
  obtain ⟨i, hi, hfits⟩ := hsome
  have hmem : i ∈ (s.canPort c).detect.alive.filter (fun i => edgeFits ((s.bitRates c).getD i (0, 0)).1 cycles) :=
    List.mem_filter.mpr ⟨hi, hfits⟩
  unfold detectionEdge
  rw [if_neg (by omega)]
  dsimp only
  cases halive : (s.canPort c).detect.alive.filter (fun i => edgeFits ((s.bitRates c).getD i (0, 0)).1 cycles) with
  | nil =>
    rw [halive] at hmem
    exact absurd hmem List.not_mem_nil
  | cons j l =>
    dsimp only
    split
    · refine ⟨?_, ?_⟩
      · rw [canPort_takeTiming, canPort_setCan_self]
      · exact (int_setCan ..).trans ((int_setCan ..).trans (int_put_self ..))
    · refine ⟨?_, (int_setCan ..).trans h⟩
      rw [canPort_setCan_self]

end State

/-- Settles O49, by the counters and the state of the port, and the candidates that a detection leaves. -/
theorem canErrorsAndDetection : Obligations.CanErrorsAndDetection := by
  refine ⟨?_, ?_, ?_, ?_, ?_, ?_, ?_, ?_, ?_, ?_, ?_, ?_, ?_, ?_, ?_⟩
  · intro s c tx dataPhase kind hready h htec
    have hc := c.isLt
    have hst := canSt_eq c
    have hcnt := canCnt_eq c
    have hphase := phase_cases dataPhase
    have hnoted {k : Nat} (h4 : canSt c + 4 ≠ k) (h5 : canSt c + 5 ≠ k) (h3 : canCnt c + 3 ≠ k) :=
      int_errorNoted (s := s) (c := c) (kind := kind) (dataPhase := dataPhase) h4 h5 h3
    have h2 := hnoted (k := canSt c + 2) (by omega) (by omega) (by omega)
    have h3 := hnoted (k := canSt c + 3) (by omega) (by omega) (by omega)
    have h1 : (s.errorNoted c kind dataPhase).canState c = s.canState c := hnoted (by omega) (by omega) (by omega)
    have hoff : (s.errorNoted c kind dataPhase).int (canSt c + 2) + (if tx then 8 else 0) ≤ 255 := by rw [h2]; exact htec
    have hint {k : Nat} (hk : k < 0x332000) (he : ¬ emcyEntry k) := int_busError (tx := tx) (dataPhase := dataPhase) (kind := kind) h hk he
    obtain ⟨htx, hrx⟩ := errorsCounted_counters (s := s.errorNoted c kind dataPhase) (c := c) tx
    refine ⟨_, congrArg Host.Outcome.next (served_of_ready hready), ?_, ?_, ?_, ?_, fun hs1 hpassive => ?_, fun hs1 ht hr => ?_, fun hs2 => ?_⟩
    · rw [hint (by omega) (by omega), int_raiseErrors hoff (by omega) (by omega) (by omega), htx, h2]
      omega
    · rw [hint (by omega) (by omega), int_raiseErrors hoff (by omega) (by omega) (by omega), hrx, h3]
    · rw [hint (by omega) (by omega), int_raiseErrors hoff (by omega) (by omega) (by omega), int_errorsCounted (by omega) (by omega)]
      exact (int_bump_past (by omega) (by omega)).trans (int_put_self ..)
    · rw [hint (by omega) (by omega), int_raiseErrors hoff (by omega) (by omega) (by omega), int_errorsCounted (by omega) (by omega)]
      refine (int_bump_self ..).trans ?_
      rw [int_put_past _ (by omega) (by omega)]
    · have heq := raiseErrors_passive hoff (h1.trans hs1) (by rw [h2, h3]; exact hpassive)
      obtain ⟨hstate, hcount⟩ := turnedPassive_parts (s := (s.errorNoted c kind dataPhase).errorsCounted c tx) hc
      refine ⟨(hint (by omega) (by omega)).trans (heq ▸ hstate), ?_⟩
      rw [hint (by omega) (by omega), heq, hcount, int_errorsCounted (by omega) (by omega), hnoted (by omega) (by omega) (by omega)]
    · have heq := raiseErrors_active hoff (.inr ⟨by rw [h2]; exact ht, by rw [h3]; exact hr⟩)
      exact (hint (by omega) (by omega)).trans (heq ▸ (canState_errorsCounted tx).trans (h1.trans hs1))
    · have heq := raiseErrors_active hoff (.inl (by rw [h1, hs2]; decide))
      exact (hint (by omega) (by omega)).trans (heq ▸ (canState_errorsCounted tx).trans (h1.trans hs2))
  · exact fun s c dataPhase kind hready h htec => ⟨_, congrArg Host.Outcome.next (served_of_ready hready), busError_busOff c.isLt h htec⟩
  · exact fun s c tx dataPhase kind hready h => congrArg Host.Outcome.next ((served_of_ready hready).trans (busError_listening h))
  · intro s c tx dataPhase kind i hready h5 hdet2 htrial hne
    obtain ⟨h3, hstate, hport, -⟩ := measureFrom_parts (s := s.put (canSt c + (if dataPhase then 5 else 4)) kind) (c := c) hne
    refine ⟨_, congrArg Host.Outcome.next ((served_of_ready hready).trans (busError_trial h5 hdet2 htrial)), h3, hstate, ?_⟩
    rw [hport]
  · exact fun s c tx d kind h => congrArg Host.Outcome.next (served_eq_self (busError_off h))
  · intro s w c v hw
    refine ⟨fun h => congrArg Host.Outcome.next ((served_accessAct hw).trans ?_), fun h => congrArg Host.Outcome.next ((served_accessAct hw).trans ?_)⟩
    · rw [recoveryRequest_off h]
    · rw [recoveryRequest_on h]
  · exact fun s c hready h3 h => ⟨_, congrArg Host.Outcome.next (served_of_ready hready), busOffRecovered_parts c.isLt h3 h⟩
  · exact fun s c h => congrArg Host.Outcome.next (served_eq_self (busOffRecovered_waits h))
  · intro s w c v hw h
    have hst := canSt_eq c
    have hdet := canDet_eq c
    obtain ⟨h3, h5, h4, hrates, hdetect⟩ := startDetection_runs h
    refine ⟨_, congrArg Host.Outcome.next (served_accessAct hw), ?_, ?_, ?_, ?_, ?_⟩
    · exact (int_respond_can _ _ _ (by omega) (by omega)).trans h3
    · exact (int_respond_can _ _ _ (by omega) (by omega)).trans h5
    · exact (int_respond_can _ _ _ (by omega) (by omega)).trans h4
    · rw [canPort_respond, hrates]
    · rw [canPort_respond, hdetect]
  · intro s w c v hw h
    have hst := canSt_eq c
    have hdet := canDet_eq c
    obtain ⟨h3, h5, h4, hrates, hdetect⟩ := startDetection_fails h
    refine ⟨_, congrArg Host.Outcome.next (served_accessAct hw), ?_, ?_, ?_, ?_, ?_⟩
    · exact (int_respond_can _ _ _ (by omega) (by omega)).trans h3
    · exact (int_respond_can _ _ _ (by omega) (by omega)).trans h5
    · exact (int_respond_can _ _ _ (by omega) (by omega)).trans h4
    · rw [canPort_respond, hrates]
    · rw [canPort_respond, hdetect]
  · exact fun s c cycles h => congrArg Host.Outcome.next (served_eq_self (detectionEdge_other h))
  · exact fun s c cycles hready h hnone => congrArg Host.Outcome.next ((served_of_ready hready).trans (detectionEdge_none h hnone))
  · exact fun s c cycles hready h hsome => ⟨_, congrArg Host.Outcome.next (served_of_ready hready), detectionEdge_parts h hsome⟩
  · exact fun s c hready h => congrArg Host.Outcome.next ((served_of_ready hready).trans (if_pos h))
  · exact fun s c h1 h2 => congrArg Host.Outcome.next (served_eq_self (if_neg (by omega)))

end Sys2Proof.Machine

/-!
SUPPORT. Frames received and tunnelled (R443 to R445, R454 to R456): what an object that takes a frame holds, and what offering a
frame to the objects and readers of a port leaves.
-/

namespace Sys2Proof.Machine

open State

namespace State

variable {s : State} {c o : Nat}

/-! ### An object takes a frame (R444) -/

/-- The entries of an object that a frame fills. -/
def objFilled (s : State) (c o : Nat) (x : RxFrame) (flags state : Int) : State :=
  (((((s.put (objRec c o + 5) state).put (objRec c o + 6) x.frame.ident.toNat).put (objRec c o + 7) flags).put (objRec c o + 8) x.frame.dlc.val).putBytes
    (objRec c o + 9) (x.frame.data.take 64 ++ List.replicate (64 - (x.frame.data.take 64).length) 0)).put (objRec c o + 0x0A) x.stamp

theorem fillObject_filled (x : RxFrame) (state : Int) : ∃ flags, s.fillObject c o x state =
    if (s.objFilled c o x flags state).flag (objRec c o + 4) then (s.objFilled c o x flags state).raise (168 + c) 0 c o
    else s.objFilled c o x flags state := ⟨_, rfl⟩

theorem int_objFilled {k : Nat} (x : RxFrame) (flags state : Int) (h : k < objRec c o + 5 ∨ objRec c o + 0x0A < k) :
    (s.objFilled c o x flags state).int k = s.int k := by
  have hobj := objRec_eq c o
  unfold objFilled
  rw [int_put_past _ (by omega) (by omega), int_putBytes_ne _ _ (by omega) (not_feeds_of_ge (by omega)), int_put_past _ (by omega) (by omega),
    int_put_past _ (by omega) (by omega), int_put_past _ (by omega) (by omega), int_put_past _ (by omega) (by omega)]

theorem objFilled_parts (x : RxFrame) (flags state : Int) : (s.objFilled c o x flags state).int (objRec c o + 5) = state ∧
    (s.objFilled c o x flags state).int (objRec c o + 6) = x.frame.ident.toNat ∧
    (s.objFilled c o x flags state).int (objRec c o + 8) = x.frame.dlc.val ∧ (s.objFilled c o x flags state).int (objRec c o + 0x0A) = x.stamp := by
  have hobj := objRec_eq c o
  unfold objFilled
  refine ⟨?_, ?_, ?_, int_put_self ..⟩
  · rw [int_put_past _ (by omega) (by omega), int_putBytes_ne _ _ (by omega) (not_feeds_of_ge (by omega)), int_put_past _ (by omega) (by omega),
      int_put_past _ (by omega) (by omega), int_put_past _ (by omega) (by omega), int_put_self]
  · rw [int_put_past _ (by omega) (by omega), int_putBytes_ne _ _ (by omega) (not_feeds_of_ge (by omega)), int_put_past _ (by omega) (by omega),
      int_put_past _ (by omega) (by omega), int_put_self]
  · rw [int_put_past _ (by omega) (by omega), int_putBytes_ne _ _ (by omega) (not_feeds_of_ge (by omega)), int_put_self]

/-- What a frame that fills an object leaves, and what the object then reads. -/
theorem fillObject_int (x : RxFrame) (state : Int) : ∃ flags, ∀ k, k < 0x350000 →
    (s.fillObject c o x state).int k = (s.objFilled c o x flags state).int k := by
  obtain ⟨flags, heq⟩ := fillObject_filled (s := s) (c := c) (o := o) x state
  refine ⟨flags, fun k hk => ?_⟩
  rw [heq, int_ite]
  split
  · exact int_raise _ _ _ _ _ hk
  · rfl

theorem fillObject_canopen (x : RxFrame) (state : Int) : (s.fillObject c o x state).canopen = s.canopen := by
  obtain ⟨flags, heq⟩ := fillObject_filled (s := s) (c := c) (o := o) x state
  have hfilled : (s.objFilled c o x flags state).canopen = s.canopen := by simp [objFilled]
  rw [heq]
  split
  · exact (raise_canopen ..).trans hfilled
  · exact hfilled

/-! ### A frame offered (R443, R445) -/

/-- What a port sends, and what waits to leave a tunnel, are as before. -/
def SameSending (s t : State) : Prop := t.canopen.egress = s.canopen.egress ∧ ∀ d, (t.canPort d).service = (s.canPort d).service

theorem SameSending.trans {t u : State} (h : SameSending s t) (g : SameSending t u) : SameSending s u := by
  obtain ⟨hegress, hserv⟩ := h
  obtain ⟨gegress, gserv⟩ := g
  exact ⟨gegress.trans hegress, fun d => (gserv d).trans (hserv d)⟩

theorem SameSending.of_canopen {t : State} (h : t.canopen = s.canopen) : SameSending s t := by
  refine ⟨by rw [h], fun d => ?_⟩
  rw [canPort_of_canopen h]

theorem sameSending_setCan {x : CanPort} (h : x.service = (s.canPort c).service) : SameSending s (s.setCan c x) := by
  refine ⟨rfl, fun d => ?_⟩
  by_cases hd : c = d
  · subst hd
    rw [canPort_setCan_self, h]
  · rw [canPort_setCan_ne _ hd]

/-- An object that is full keeps the frame as its shadow, and a frame already there is lost (R444). -/
def shadowed (s : State) (c o : Nat) (x : RxFrame) : State :=
  let u := if s.int (objRec c o + 5) = 2 then (s.bump (objRec c o + 0x0C)).bump (canCnt c + 7) else s
  (u.put (objRec c o + 5) 2).setCan c { u.canPort c with shadow := Tab.insert (u.canPort c).shadow o x }

theorem int_shadowed {k : Nat} (x : RxFrame) (h : k < objRec c o + 5 ∨ objRec c o + 0x0C < k) (h7 : canCnt c + 7 ≠ k) :
    (s.shadowed c o x).int k = s.int k := by
  have hobj := objRec_eq c o
  have hcnt := canCnt_eq c
  unfold shadowed
  dsimp only
  rw [int_setCan, int_put_past _ (by omega) (by omega), int_ite]
  split
  · exact (int_bump_past (by omega) h7).trans (int_bump_past (by omega) (by omega))
  · rfl

theorem shadowed_sending (x : RxFrame) : SameSending s (s.shadowed c o x) := by
  unfold shadowed
  extract_lets u
  have hu : SameSending s u := by
    refine .of_canopen ?_
    unfold u
    split
    · exact (bump_canopen ..).trans (bump_canopen ..)
    · rfl
  refine hu.trans (SameSending.trans (.of_canopen (put_canopen ..)) (sameSending_setCan ?_))
  rw [canPort_put]

/-- A frame offered to the objects: counted as taken by none, filling an empty one, or shadowing a full one. -/
theorem offerObjects_cases (x : RxFrame) : s.offerObjects c x = s.bump (canCnt c + 8) ∨
    ∃ o, o < 24 ∧ (s.offerObjects c x = s.fillObject c o x 1 ∨ s.offerObjects c x = s.shadowed c o x) := by
  unfold offerObjects
  cases hfind : (List.range 24).find? (s.objMatches c x.frame) with
  | none => exact .inl rfl
  | some o =>
    refine .inr ⟨o, List.mem_range.mp (List.mem_of_find?_eq_some hfind), ?_⟩
    dsimp only
    by_cases h : s.int (objRec c o + 5) = 0
    · exact .inl (if_pos h)
    · exact .inr (if_neg h)

/-- The entries below the logbook that no object of a port, and no counter of offered frames, holds. -/
def UnofferedEntry (c k : Nat) : Prop := (k < 0x334000 ∨ 0x33A000 ≤ k ∧ k < 0x340000) ∧ canCnt c + 7 ≠ k ∧ canCnt c + 8 ≠ k

theorem int_offerObjects {k : Nat} (x : RxFrame) (hc : c < 4) (h : UnofferedEntry c k) : (s.offerObjects c x).int k = s.int k := by
  obtain ⟨hrange, h7, h8⟩ := h
  have hcnt := canCnt_eq c
  obtain heq | ⟨o, ho, heq | heq⟩ := offerObjects_cases (s := s) (c := c) x
  · rw [heq, int_bump_past (by omega) h8]
  · have hobj := objRec_eq c o
    obtain ⟨flags, hint⟩ := fillObject_int (s := s) (c := c) (o := o) x 1
    rw [heq, hint k (by omega), int_objFilled _ _ _ (by omega)]
  · have hobj := objRec_eq c o
    rw [heq, int_shadowed _ (by omega) h7]

theorem offerObjects_sending (x : RxFrame) : SameSending s (s.offerObjects c x) := by
  obtain heq | ⟨o, -, heq | heq⟩ := offerObjects_cases (s := s) (c := c) x
  · rw [heq]
    exact .of_canopen (bump_canopen ..)
  · rw [heq]
    exact .of_canopen (fillObject_canopen ..)
  · rw [heq]
    exact shadowed_sending x

theorem int_judgeVotes {k : Nat} (h : k < 0x340000) : s.judgeVotes.int k = s.int k := by
  unfold judgeVotes
  extract_lets v told src m t u
  have ht : t.int k = s.int k := (int_with_mooring ..).trans (int_put_ne _ _ (by omega) (not_feeds_of_ge (by decide)))
  have hu : u.int k = s.int k := by
    unfold u
    rw [int_ite, int_toPartner, ite_self, ht]
  clear_value u
  split
  · exact hu
  · exact (int_put_ne _ _ (by omega) (not_feeds_of_ge (by decide))).trans hu

theorem int_sourceActive {k : Nat} (bit detail : Nat) (h : k < 0x340000) : (s.sourceActive bit detail).int k = s.int k := by
  unfold sourceActive
  dsimp only
  split
  · exact int_judgeVotes h
  · split
    · exact ((int_with_wake ..).trans (int_bump_past (by decide) (by omega))).trans (int_judgeVotes h)
    · split
      · exact (int_with_mooring ..).trans (int_judgeVotes h)
      · exact int_judgeVotes h

theorem int_ingressRoute {k : Nat} (f : Sys2Proof.CanFrame) (stamp : Int) (t : Nat) (h : k < 0x33A000) :
    (s.ingressRoute c f stamp t).int k = s.int k := by
  have hroute := routeRec_eq t
  have hpast : 0x314007 ≤ routeRec t + 0x0B := by omega
  have hne : routeRec t + 0x0B ≠ k := by omega
  unfold ingressRoute
  extract_lets b bits
  split
  · split
    · exact int_bump_past hpast hne
    · exact int_with_canopen _ _ _ rfl
  · rfl

/-- What an object reads of a frame and its instant. -/
def rxOf (s : State) (f : Sys2Proof.CanFrame) (stamp : Int) (tunnelled : Bool) : RxFrame :=
  { frame := f, stamp := (if s.ctValid then stamp / 65536 % 2 ^ 32 else 0).toNat, tunnelled := tunnelled }

/-- A frame offered to the objects and the pan signals of a port. -/
def offeredLocally (s : State) (c : Nat) (f : Sys2Proof.CanFrame) (stamp : Int) (tunnelled : Bool) : State :=
  let u := s.offerObjects c (s.rxOf f stamp tunnelled)
  u.panFrame c f.ident.toNat f.data (s.inputInstant stamp)

/-- The activity vote of a port that takes part in it. -/
def voted (s : State) (c : Nat) : State :=
  if s.flag (Od.key (0x3410 + c) 6) then ({ s with mooring := { s.mooring with held := s.mooring.held ||| 16 } } : State).sourceActive 2 c else s

theorem int_voted {k : Nat} (h : k < 0x340000) : (s.voted c).int k = s.int k := by
  unfold voted
  split
  · exact (int_sourceActive _ _ h).trans (int_with_mooring ..)
  · rfl

theorem voted_canopen : (s.voted c).canopen = s.canopen := by
  unfold voted
  split
  · exact ((State.sourceActive_keep (L := [.od, .wake, .mooring]) rfl (Keep.refl _ _)).same .canopen (by decide))
  · rfl

theorem int_offeredLocally {k : Nat} (f : Sys2Proof.CanFrame) (stamp : Int) (tunnelled : Bool) (hc : c < 4) (h : UnofferedEntry c k) :
    (s.offeredLocally c f stamp tunnelled).int k = s.int k := (int_with_slices ..).trans (int_offerObjects _ hc h)

theorem offeredLocally_sending (f : Sys2Proof.CanFrame) (stamp : Int) (tunnelled : Bool) : SameSending s (s.offeredLocally c f stamp tunnelled) :=
  (offerObjects_sending _).trans (.of_canopen rfl)

/-- A frame offered with its tunnels. -/
theorem int_offerFrame {k : Nat} (f : Sys2Proof.CanFrame) (stamp : Int) (tunnelled ingress : Bool) (hc : c < 4) (h : UnofferedEntry c k)
    (hk : k < 0x33A000) : (s.offerFrame c f stamp tunnelled ingress).int k = s.int k := by
  obtain ⟨u, hu, heq⟩ : ∃ u : State, u.int k = s.int k ∧ s.offerFrame c f stamp tunnelled ingress = u.voted c := by
    unfold offerFrame
    dsimp only
    refine ⟨_, ?_, rfl⟩
    rw [int_ite]
    split
    · exact (int_foldl _ _ fun t _ w => int_ingressRoute f stamp t hk).trans (int_offeredLocally f stamp tunnelled hc h)
    · exact int_offeredLocally f stamp tunnelled hc h
  rw [heq, int_voted (by omega), hu]

/-- A frame that came out of a tunnel is offered to no other. -/
theorem offerFrame_tunnelled (f : Sys2Proof.CanFrame) (stamp : Int) :
    s.offerFrame c f stamp true false = (s.offeredLocally c f stamp true).voted c := rfl

/-! ### A frame received (R444 to R447) -/

theorem int_seenOnBus {k : Nat} (f : Sys2Proof.CanFrame) (h : k < 0x332000) : (s.seenOnBus c f).int k = s.int k := by
  unfold seenOnBus
  dsimp only
  split
  · rfl
  · split
    · exact int_setCan ..
    · split
      · next b _ =>
        have hbuf := bufRec_eq c b
        exact (int_bufEnds_ne _ (by omega)).trans (int_put_past _ (by omega) (by omega))
      · rfl

/-- A frame counted, and the receive error counter lowered (R447). -/
def receptionCounted (s : State) (c : Nat) : State :=
  let u := (s.bump (canCnt c + 1)).bump 0x330002
  if u.int (canSt c + 3) ≤ 127 then u.put (canSt c + 3) (max 0 (u.int (canSt c + 3) - 1))
  else (u.put (canSt c + 3) (119 + u.freeNat % 9 : Nat)).tookFree

theorem receptionCounted_parts : (s.receptionCounted c).int (canCnt c + 1) = min (s.int (canCnt c + 1) + 1) 0xFFFFFFFF ∧
    (s.receptionCounted c).int 0x330002 = min (s.int 0x330002 + 1) 0xFFFFFFFF ∧
    (s.int (canSt c + 3) ≤ 127 → (s.receptionCounted c).int (canSt c + 3) = max 0 (s.int (canSt c + 3) - 1)) ∧
    (127 < s.int (canSt c + 3) → 119 ≤ (s.receptionCounted c).int (canSt c + 3) ∧ (s.receptionCounted c).int (canSt c + 3) ≤ 127) := by
  have hst := canSt_eq c
  have hcnt := canCnt_eq c
  have hrx : ((s.bump (canCnt c + 1)).bump 0x330002).int (canSt c + 3) = s.int (canSt c + 3) :=
    (int_bump_past (by decide) (by omega)).trans (int_bump_past (by omega) (by omega))
  have hother {k : Nat} (h3 : canSt c + 3 ≠ k) : (s.receptionCounted c).int k = ((s.bump (canCnt c + 1)).bump 0x330002).int k := by
    unfold receptionCounted
    dsimp only
    split
    · exact int_put_past _ (by omega) h3
    · exact (int_tookFree ..).trans (int_put_past _ (by omega) h3)
  refine ⟨?_, ?_, fun h => ?_, fun h => ?_⟩
  · rw [hother (by omega), int_bump_past (by decide) (by omega), int_bump_self]
  · rw [hother (by omega), int_bump_self, int_bump_past (by omega) (by omega)]
  · unfold receptionCounted
    dsimp only
    rw [if_pos (by rw [hrx]; exact h), int_put_self, hrx]
  · unfold receptionCounted
    dsimp only
    rw [if_neg (by rw [hrx]; omega), int_tookFree, int_put_self]
    omega

theorem canIn_deaf {f : Sys2Proof.CanFrame} {stamp : Int} (h : s.canHears c = false) : s.canIn c f stamp = s := if_neg (by simp [h])

theorem canHears_off (h : s.canState c = 0 ∨ s.canState c = 3) : s.canHears c = false := by
  unfold canHears
  dsimp only
  rw [decide_eq_true h]
  rfl

theorem canHears_asleep (h : s.canAsleep = true) : s.canHears c = false := by
  unfold canHears
  dsimp only
  rw [h, Bool.or_true]
  rfl

theorem canIn_heard {f : Sys2Proof.CanFrame} {stamp : Int} (h : s.canHears c = true) (hc0 : c ≠ 0) (h5 : s.canState c ≠ 5) :
    s.canIn c f stamp = ((((s.receptionCounted c).fallActive c).seenOnBus c f).offerFrame c f stamp false true).emcyScan := by
  have hon : ¬ (s.canState c = 0 ∨ s.canState c = 3 ∨ s.canAsleep = true ∨ (s.canState c = 5 ∧ s.int (canDet c + 3) ≠ 2)) := by
    rintro (h0 | h0 | h0 | ⟨h0, -⟩)
    · exact Bool.noConfusion ((canHears_off (.inl h0)).symm.trans h)
    · exact Bool.noConfusion ((canHears_off (.inr h0)).symm.trans h)
    · exact Bool.noConfusion ((canHears_asleep h0).symm.trans h)
    · exact h5 h0
  unfold canIn canReceived
  dsimp only
  rw [if_pos h, if_neg hc0, if_neg hon, if_neg h5]
  rfl

theorem int_canIn {f : Sys2Proof.CanFrame} {stamp : Int} {k : Nat} (hc : c < 4) (h : s.canHears c = true) (hc0 : c ≠ 0) (h5 : s.canState c ≠ 5)
    (hk : k < 0x332000) (hun : UnofferedEntry c k) (he : ¬ emcyEntry k) (h1 : canSt c + 1 ≠ k) :
    (s.canIn c f stamp).int k = (s.receptionCounted c).int k := by
  rw [canIn_heard h hc0 h5, int_emcyScan _ he, int_offerFrame _ _ _ _ hc hun (by omega), int_seenOnBus _ hk, int_fallActive h1]

theorem replicateShared_alone {stamp : Int} {x : PairInput} {act : State → State} (h : s.inStep = false) :
    s.replicateShared stamp x act = act s := by
  unfold replicateShared replicate
  rw [h]
  rfl

/-! ### An object released (R444) -/

theorem rxRelease_empty (h : Tab.find? (s.canPort c).shadow o = none) : s.rxRelease c o = s.put (objRec c o + 5) 0 := by
  unfold rxRelease
  rw [h]

theorem rxRelease_shadow {x : RxFrame} (h : Tab.find? (s.canPort c).shadow o = some x) :
    s.rxRelease c o = (s.setCan c { s.canPort c with shadow := Tab.erase (s.canPort c).shadow o }).fillObject c o x 1 := by
  unfold rxRelease
  rw [h]

/-! ### A record leaves a tunnel (R456) -/

theorem tunnelRelease_none (h : s.canopen.egress = []) : s.tunnelRelease = s := by
  unfold tunnelRelease
  rw [h]

theorem tunnelRelease_early {e : Egress} {q : List Egress} (h : s.canopen.egress = e :: q) (hat : s.ctNow < e.at_) : s.tunnelRelease = s := by
  unfold tunnelRelease
  rw [h]
  exact if_neg (by omega)

/-- The record that leaves is taken from those that wait. -/
def egressTaken (s : State) (q : List Egress) : State := { s with canopen := { s.canopen with egress := q } }

theorem int_egressTaken (q : List Egress) (k : Nat) : (s.egressTaken q).int k = s.int k := int_with_canopen _ _ _ rfl

theorem tunnelRelease_sent {e : Egress} {q : List Egress} {n : Nat} (h : s.canopen.egress = e :: q) (hat : e.at_ ≤ s.ctNow)
    (hn : n = s.nat (routeRec e.route + 3)) (h8 : s.int (routeRec e.route + 8) = 0) (hroom : (s.canPort n).service.length < 16) :
    ∃ now, s.tunnelRelease = (((((s.egressTaken q).frameQueued n e.what.frame).bump (routeRec e.route + 0x0A)).offeredLocally n
      e.what.frame now true).voted n) := by
  have hnat : (s.egressTaken q).nat (routeRec e.route + 3) = n := hn.symm
  have htaken : s.tunnelRelease = (s.egressTaken q).releaseRecord e := by
    unfold tunnelRelease
    rw [h]
    exact if_pos hat
  have hroom' : ((s.egressTaken q).canPort n).service.length < 16 := by
    rw [canPort_of_ports (s := s) (t := s.egressTaken q) rfl]
    exact hroom
  rw [htaken]
  unfold releaseRecord
  dsimp only
  rw [if_pos ((int_egressTaken ..).trans h8), hnat, queueFrame_of_room _ hroom', if_neg Bool.noConfusion]
  exact ⟨_, offerFrame_tunnelled _ _⟩

theorem tunnelRelease_parts {e : Egress} {q : List Egress} {n : Nat} (h : s.canopen.egress = e :: q) (hat : e.at_ ≤ s.ctNow)
    (hroute : e.route < 64) (hn : n = s.nat (routeRec e.route + 3)) (hn3 : n ≤ 3) (h8 : s.int (routeRec e.route + 8) = 0)
    (hroom : (s.canPort n).service.length < 16) : s.tunnelRelease.canopen.egress = q ∧
      (s.tunnelRelease.canPort n).service = (s.canPort n).service ++ [e.what.frame] ∧
      s.tunnelRelease.int (routeRec e.route + 0x0A) = min (s.int (routeRec e.route + 0x0A) + 1) 0xFFFFFFFF := by
  have hrec := routeRec_eq e.route
  have hcnt := canCnt_eq n
  obtain ⟨now, heq⟩ := tunnelRelease_sent h hat hn h8 hroom
  obtain ⟨p, hp⟩ := frameQueued_canopen (s := s.egressTaken q) n e.what.frame
  obtain ⟨-, hserv⟩ := canPort_frameQueued (s := s.egressTaken q) n e.what.frame
  have hsend := (SameSending.of_canopen (s := (s.egressTaken q).frameQueued n e.what.frame) (bump_canopen _ (routeRec e.route + 0x0A))).trans
    ((offeredLocally_sending (c := n) e.what.frame now true).trans (.of_canopen (voted_canopen (c := n))))
  obtain ⟨hegress, hsame⟩ := hsend
  rw [heq]
  refine ⟨hegress.trans (by rw [hp]; rfl), (hsame n).trans (hserv.trans ?_), ?_⟩
  · rw [canPort_of_ports (s := s) (t := s.egressTaken q) rfl]
  · rw [int_voted (by omega), int_offeredLocally _ _ _ (by omega) ⟨by omega, by omega, by omega⟩, int_bump_self, int_frameQueued, int_egressTaken]

end State

/-- Settles O48, by the entries of the object, the counters that offering a frame leaves, and the record that leaves its tunnel. -/
theorem framesAreReceived : Obligations.FramesAreReceived := by
  refine ⟨?_, ?_, ?_, ?_, ?_, ?_⟩
  · intro s w c o v hw h
    refine congrArg Host.Outcome.next ((served_accessAct hw).trans ?_)
    rw [rxRelease_empty h]
  · intro s w c o v x hw h
    have hc := c.isLt
    have ho := o.isLt
    have hobj := objRec_eq c o
    obtain ⟨flags, hint⟩ := fillObject_int (s := s.setCan c { s.canPort c with shadow := Tab.erase (s.canPort c).shadow o }) (c := c) (o := o) x 1
    obtain ⟨hstate, hident, hdlc, hstamp⟩ := objFilled_parts (c := c) (o := o)
      (s := s.setCan c { s.canPort c with shadow := Tab.erase (s.canPort c).shadow o }) x flags 1
    have hread {k : Nat} (hlo : 0x330000 ≤ k) (hk : k < 0x350000) : ((s.rxRelease c o).respond w 0 []).int k = _ :=
      (int_respond_can _ _ _ hlo hk).trans (((congrArg (fun u => State.int u k) (rxRelease_shadow h))).trans (hint k hk))
    refine ⟨_, congrArg Host.Outcome.next (served_accessAct hw), (hread (by omega) (by omega)).trans hstate,
      (hread (by omega) (by omega)).trans hident, (hread (by omega) (by omega)).trans hdlc, (hread (by omega) (by omega)).trans hstamp, ?_⟩
    rw [canPort_respond, rxRelease_shadow h, canPort_of_canopen (fillObject_canopen ..), canPort_setCan_self, Tab.find?_erase_self]
  · intro s c f ago hready hstep h
    exact congrArg Host.Outcome.next ((served_of_ready hready).trans ((replicateShared_alone hstep).trans (canIn_deaf h)))
  · intro s c f ago hready hstep h hc0 h5
    have hc := c.isLt
    have hst := canSt_eq c
    have hcnt := canCnt_eq c
    have hc0' : c.val ≠ 0 := fun h0 => hc0 (Fin.ext h0)
    obtain ⟨hone, htotal, hlow, hhigh⟩ := receptionCounted_parts (s := s) (c := c)
    have hint {k : Nat} (hk : k < 0x332000) (hun : UnofferedEntry c k) (he : ¬ emcyEntry k) (h1 : canSt c + 1 ≠ k) :=
      int_canIn (f := f) (stamp := s.ctAt (s.clock.counter - ago) 0) hc h hc0' h5 hk hun he h1
    have hrx := hint (k := canSt c + 3) (by omega) ⟨by omega, by omega, by omega⟩ (by omega) (by omega)
    refine ⟨_, congrArg Host.Outcome.next ((served_of_ready hready).trans (replicateShared_alone hstep)), ?_, ?_, fun hle => hrx.trans (hlow hle),
      fun hgt => ?_⟩
    · exact (hint (by omega) ⟨by omega, by omega, by omega⟩ (by omega) (by omega)).trans hone
    · exact (hint (by omega) ⟨by omega, by omega, by omega⟩ (by omega) (by omega)).trans htotal
    · rw [hrx]
      exact hhigh hgt
  · intro s e q hready h
    exact ⟨fun hat => congrArg Host.Outcome.next ((served_of_ready hready).trans (tunnelRelease_early h hat)),
      fun hat hroute hn3 h8 hroom => ⟨_, congrArg Host.Outcome.next (served_of_ready hready), tunnelRelease_parts h hat hroute rfl hn3 h8 hroom⟩⟩
  · exact fun s h => congrArg Host.Outcome.next (served_eq_self (tunnelRelease_none h))

end Sys2Proof.Machine

/-!
SUPPORT. The CANopen node on CAN0 (R448 to R451, R453): what a change of the NMT state, a boot-up, a heartbeat and an EMCY frame
leave.
-/

namespace Sys2Proof.Machine

open State

namespace State

variable {s : State}

/-! ### Only the ports change -/

/-- Of what the node keeps, the records of the ports alone differ. -/
def OnlyPorts (s t : State) : Prop := ∃ p, t.canopen = { s.canopen with ports := p }

theorem OnlyPorts.refl (s : State) : OnlyPorts s s := ⟨_, rfl⟩

theorem OnlyPorts.trans {t u : State} (h : OnlyPorts s t) (g : OnlyPorts t u) : OnlyPorts s u := by
  obtain ⟨p, hp⟩ := h
  obtain ⟨q, hq⟩ := g
  exact ⟨q, by rw [hq, hp]⟩

theorem OnlyPorts.of_canopen {t : State} (h : t.canopen = s.canopen) : OnlyPorts s t := ⟨_, h⟩

theorem queueFrame_onlyPorts (f : Sys2Proof.CanFrame) : OnlyPorts s (s.queueFrame 0 f).1 := by
  by_cases h : (s.canPort 0).service.length < 16
  · rw [queueFrame_of_room f h]
    exact frameQueued_canopen 0 f
  · rw [show s.queueFrame 0 f = _ from if_neg h]
    exact .of_canopen (bump_canopen ..)

theorem sdoAbort_onlyPorts (code : Nat) : OnlyPorts s (s.sdoAbort code) := by
  unfold sdoAbort
  extract_lets mux other src src' t
  have ht : OnlyPorts s t := .of_canopen rfl
  clear_value t
  split
  · exact ht.trans (queueFrame_onlyPorts _)
  · exact ht

theorem nmtTo_onlyPorts (v : Int) : OnlyPorts s (s.nmtTo v) := by
  unfold nmtTo
  split
  · exact .refl s
  · dsimp only
    refine OnlyPorts.trans ?_ (.of_canopen ((raise_canopen ..).trans (put_canopen ..)))
    split
    · exact sdoAbort_onlyPorts _
    · exact .refl s

/-! ### NMT (R449) -/

theorem int_nmtTo_self (v : Int) : (s.nmtTo v).int 0x330103 = v := by
  unfold nmtTo
  split
  · assumption
  · exact (int_raise _ _ _ _ _ (by decide)).trans (int_put_self ..)

theorem nmt_other {cmd node : Nat} (h0 : node ≠ 0) (h : node ≠ s.canopen.nodeId) : s.nmt cmd node = s := if_pos ⟨h0, h⟩

/-- An NMT command that this node takes. -/
theorem nmt_taken {cmd node : Nat} (h : node = 0 ∨ node = s.canopen.nodeId) (h0 : s.int 0x330103 ≠ 0) : s.nmt cmd node =
    if cmd = 1 then s.nmtTo 5 else if cmd = 2 then s.nmtTo 4 else if cmd = 0x80 then s.nmtTo 127 else if cmd = 0x81 then s.resetNode
      else if cmd = 0x82 then s.resetCommunication else s :=
  (if_neg (by omega)).trans (if_neg h0)

/-! ### The boot-up (R448) -/

theorem startConsumers_canopen : s.startConsumers.canopen = s.canopen := foldl_proj State.canopen _ (fun _ _ => put_canopen ..) s

theorem int_startConsumers {k : Nat} (h : k < 0x330201 ∨ 0x330204 < k) : s.startConsumers.int k = s.int k :=
  int_foldl _ _ fun i hi u => by
    have hi4 := List.mem_range.mp hi
    exact int_put_past _ (by simp only [Od.key]; omega) (by simp only [Od.key]; omega)

/-- A node that boots anew: its consumers started, nothing of its PDOs kept. -/
def bootCleared (s : State) : State :=
  let u := s.startConsumers
  { u with canopen := { u.canopen with rpdo := [], timing := 0, tpdo := [], syncCounter := 0 } }

/-- The boot-up message. -/
def bootTold (s : State) : State :=
  if s.canOpenSends then ((s.queueFrame 0 (profileFrame (0x700 + s.canopen.nodeId) [0])).1).bump 0x330104 else s

theorem bootUp_eq : s.bootUp = (s.bootCleared.bootTold).nmtTo (if s.bootCleared.bootTold.int 0x330102 = 1 then 5 else 127) := rfl

theorem bootTold_onlyPorts : OnlyPorts s s.bootTold := by
  unfold bootTold
  split
  · exact (queueFrame_onlyPorts _).trans (.of_canopen (bump_canopen ..))
  · exact .refl s

theorem int_bootTold {k : Nat} (h4 : k ≠ 0x330104) (h9 : k ≠ 0x331809) : s.bootTold.int k = s.int k := by
  unfold bootTold
  split
  · exact (int_bump_past (by decide) (Ne.symm h4)).trans (int_queueFrame _ _ (Ne.symm h9))
  · rfl

theorem int_bootCleared {k : Nat} (h : k < 0x330201 ∨ 0x330204 < k) : s.bootCleared.int k = s.int k :=
  (int_with_canopen _ _ _ rfl).trans (int_startConsumers h)

theorem bootUp_parts : s.bootUp.canopen.nodeId = s.canopen.nodeId ∧ s.bootUp.canopen.waiting = s.canopen.waiting ∧
    s.bootUp.canopen.rpdo = [] ∧ s.bootUp.canopen.tpdo = [] ∧
    s.bootUp.int 0x330103 = if s.int 0x330102 = 1 then 5 else 127 := by
  have hcleared : s.bootCleared.canopen = { s.canopen with rpdo := [], timing := 0, tpdo := [], syncCounter := 0 } := by
    unfold bootCleared
    dsimp only
    rw [startConsumers_canopen]
  obtain ⟨p, hp⟩ := bootTold_onlyPorts (s := s.bootCleared) |>.trans
    (nmtTo_onlyPorts (if s.bootCleared.bootTold.int 0x330102 = 1 then 5 else 127))
  rw [← bootUp_eq] at hp
  rw [hp, hcleared]
  refine ⟨rfl, rfl, rfl, rfl, ?_⟩
  rw [bootUp_eq, int_nmtTo_self, int_bootTold (by decide) (by decide), int_bootCleared (by decide)]

theorem int_bootUp {k : Nat} (h : k < 0x330103) : s.bootUp.int k = s.int k := by
  rw [bootUp_eq, int_nmtTo _ (by omega) (by omega) (by omega), int_bootTold (by omega) (by omega), int_bootCleared (by omega)]

/-- The node takes its configured number, and nothing waits (R449). -/
def renumbered (s : State) : State := { s with canopen := { s.canopen with nodeId := s.nat 0x330101, waiting := [], inhibited := false } }

theorem resetCommunication_eq : s.resetCommunication = (s.nmtTo 0).renumbered.bootUp := rfl

theorem int_renumbered {k : Nat} (h : Od.default? k ≠ none) : s.renumbered.int k = s.int k := int_of_od s rfl h

theorem resetCommunication_parts : s.resetCommunication.canopen.nodeId = s.nat 0x330101 ∧ s.resetCommunication.canopen.waiting = [] ∧
    s.resetCommunication.canopen.rpdo = [] ∧ s.resetCommunication.canopen.tpdo = [] ∧
    s.resetCommunication.int 0x330103 = if s.int 0x330102 = 1 then 5 else 127 := by
  obtain ⟨hnode, hwait, hrpdo, htpdo, hstate⟩ := bootUp_parts (s := (s.nmtTo 0).renumbered)
  have hread (k : Nat) (h : k < 0x330103) : (s.nmtTo 0).int k = s.int k := int_nmtTo _ (by omega) (by omega) (by omega)
  rw [resetCommunication_eq]
  refine ⟨hnode.trans (congrArg Int.toNat (hread _ (by decide))), hwait, hrpdo, htpdo, ?_⟩
  rw [hstate, int_renumbered (by decide +kernel), hread _ (by decide)]

theorem int_resetCommunication {k : Nat} (h : k < 0x330103) (hd : Od.default? k ≠ none) : s.resetCommunication.int k = s.int k := by
  rw [resetCommunication_eq, int_bootUp h, int_renumbered hd, int_nmtTo _ (by omega) (by omega) (by omega)]

/-- The error field emptied. -/
def errorsEmptied (s : State) : State := (List.range 9).foldl (fun s i => s.put (Od.key 0x1003 i) 0) s

theorem resetNode_eq : s.resetNode = s.errorsEmptied.resetCommunication := rfl

theorem int_errorsEmptied {k : Nat} (h : k < 0x100300 ∨ 0x100308 < k) : s.errorsEmptied.int k = s.int k :=
  int_foldl _ _ fun i hi u => by
    have hi9 := List.mem_range.mp hi
    exact int_put_ne _ _ (by simp only [Od.key]; omega) (not_feeds_key (.inl (by decide)) (by omega))

theorem errorsEmptied_zero : s.errorsEmptied.int 0x100300 = 0 ∧ s.errorsEmptied.int 0x100301 = 0 := by
  have hput {u : State} {k j : Nat} (v : Int) (hj : j < 9) (h : 0x100300 + j ≠ k) : (u.put (Od.key 0x1003 j) v).int k = u.int k :=
    int_put_ne _ _ (by simp only [Od.key]; omega) (not_feeds_key (.inl (by decide)) (by omega))
  have heq : s.errorsEmptied = ((((((((s.put (Od.key 0x1003 0) 0).put (Od.key 0x1003 1) 0).put (Od.key 0x1003 2) 0).put (Od.key 0x1003 3) 0).put
    (Od.key 0x1003 4) 0).put (Od.key 0x1003 5) 0).put (Od.key 0x1003 6) 0).put (Od.key 0x1003 7) 0).put (Od.key 0x1003 8) 0 := rfl
  rw [heq]
  refine ⟨?_, ?_⟩
  · rw [hput 0 (by decide) (by decide), hput 0 (by decide) (by decide), hput 0 (by decide) (by decide), hput 0 (by decide) (by decide),
      hput 0 (by decide) (by decide), hput 0 (by decide) (by decide), hput 0 (by decide) (by decide), hput 0 (by decide) (by decide)]
    exact int_put_self ..
  · rw [hput 0 (by decide) (by decide), hput 0 (by decide) (by decide), hput 0 (by decide) (by decide), hput 0 (by decide) (by decide),
      hput 0 (by decide) (by decide), hput 0 (by decide) (by decide), hput 0 (by decide) (by decide)]
    exact int_put_self ..

theorem resetNode_parts : s.resetNode.canopen.nodeId = s.nat 0x330101 ∧ s.resetNode.canopen.waiting = [] ∧ s.resetNode.canopen.rpdo = [] ∧
    s.resetNode.canopen.tpdo = [] ∧ s.resetNode.int 0x330103 = (if s.int 0x330102 = 1 then 5 else 127) ∧ s.resetNode.int 0x100300 = 0 ∧
    s.resetNode.int 0x100301 = 0 := by
  obtain ⟨hnode, hwait, hrpdo, htpdo, hstate⟩ := resetCommunication_parts (s := s.errorsEmptied)
  obtain ⟨hzero, hone⟩ := errorsEmptied_zero (s := s)
  rw [resetNode_eq]
  refine ⟨hnode.trans (congrArg Int.toNat (int_errorsEmptied (by decide))), hwait, hrpdo, htpdo, ?_, ?_, ?_⟩
  · rw [hstate, int_errorsEmptied (by decide)]
  · rw [int_resetCommunication (by decide) (by decide +kernel), hzero]
  · rw [int_resetCommunication (by decide) (by decide +kernel), hone]

/-! ### Heartbeats (R451) -/

/-- A frame queued on CAN0 with room appends it and writes no entry. -/
theorem queueFrame_parts (f : Sys2Proof.CanFrame) (h : (s.canPort 0).service.length < 16) :
    ((s.queueFrame 0 f).1.canPort 0).service = (s.canPort 0).service ++ [f] ∧ (s.queueFrame 0 f).1.od = s.od := by
  rw [queueFrame_of_room f h]
  exact ⟨(canPort_frameQueued 0 f).2, frameQueued_od 0 f⟩

theorem produceHeartbeat_sent (h17 : s.int 0x101700 ≠ 0) (h3 : s.int 0x330103 ≠ 0) (hsends : s.canOpenSends = true) :
    s.produceHeartbeat = (s.queueFrame 0 (profileFrame (0x700 + s.canopen.nodeId) (le 1 (s.int 0x330103)))).1 :=
  if_neg (by simp [h17, h3, hsends])

/-- A heartbeat of a node as one consumer entry hears it. -/
def beat (node : Nat) (s : State) (i : Nat) : State :=
  let e := s.nat (Od.key 0x1016 (i + 1))
  if e / 65536 % 256 = node ∧ node ≠ 0 ∧ e % 65536 ≠ 0 then s.put (Od.key 0x3302 (i + 1)) 2 else s

theorem heartbeat_eq (node : Nat) : s.heartbeat node = ((List.range 4).foldl (beat node) s).emcyScan := rfl

theorem int_beat_ne {node i k : Nat} (h : Od.key 0x3302 (i + 1) ≠ k) : (beat node s i).int k = s.int k := by
  unfold beat
  dsimp only
  split
  · exact int_put_past _ (by simp only [Od.key]; omega) h
  · rfl

theorem int_beat_self (node i : Nat) (hnode : node ≠ 0) : (beat node s i).int (Od.key 0x3302 (i + 1)) =
    if s.nat (Od.key 0x1016 (i + 1)) / 65536 % 256 = node ∧ s.nat (Od.key 0x1016 (i + 1)) % 65536 ≠ 0 then 2
      else s.int (Od.key 0x3302 (i + 1)) := by
  unfold beat
  dsimp only
  split
  · next h =>
    obtain ⟨hname, -, htime⟩ := h
    rw [if_pos ⟨hname, htime⟩, int_put_self]
  · next h => rw [if_neg fun hc => h ⟨hc.1, hnode, hc.2⟩]

theorem int_beats (node i : Nat) (hnode : node ≠ 0) (hi : i < 4) : ((List.range 4).foldl (beat node) s).int (Od.key 0x3302 (i + 1)) =
    if s.nat (Od.key 0x1016 (i + 1)) / 65536 % 256 = node ∧ s.nat (Od.key 0x1016 (i + 1)) % 65536 ≠ 0 then 2
      else s.int (Od.key 0x3302 (i + 1)) := by
  have hkey {j : Nat} (h : j ≠ i) : Od.key 0x3302 (j + 1) ≠ Od.key 0x3302 (i + 1) := by
    simp only [Od.key]
    omega
  have hpast {u : State} {l : List Nat} (hl : i ∉ l) : (l.foldl (beat node) u).int (Od.key 0x3302 (i + 1)) = u.int (Od.key 0x3302 (i + 1)) :=
    int_foldl _ _ fun j hj w => int_beat_ne (hkey fun h => hl (h ▸ hj))
  have hconf {u : State} {l : List Nat} : (l.foldl (beat node) u).nat (Od.key 0x1016 (i + 1)) = u.nat (Od.key 0x1016 (i + 1)) :=
    congrArg Int.toNat (int_foldl _ _ fun j _ w => int_beat_ne (by simp only [Od.key]; omega))
  have hsplit : List.range 4 = List.range i ++ i :: (List.range (3 - i)).map (· + (i + 1)) := by
    interval_cases i <;> rfl
  rw [hsplit, List.foldl_append, List.foldl_cons, hpast (by simp; omega), int_beat_self node i hnode, hconf, hpast (by simp)]

theorem heartbeatLost_other {i : Nat} (h : s.int (Od.key 0x3302 (i + 1)) ≠ 2) : s.heartbeatLost i = s := if_pos h

/-- A consumed heartbeat lost, counted and reported. -/
def lossNoted (s : State) (i : Nat) : State :=
  ((s.put (Od.key 0x3302 (i + 1)) 3).bump 0x330205).raise 180 0 (i + 1) (s.nat (Od.key 0x1016 (i + 1)) / 65536 % 256)

theorem heartbeatLost_eq {i : Nat} (h : s.int (Od.key 0x3302 (i + 1)) = 2) : s.heartbeatLost i =
    (if s.heartLost then (s.lossNoted i).emcy 0x8130 180 else s.lossNoted i).emcyScan.commError := if_neg (by omega)

theorem int_lossNoted {i k : Nat} (hk : k < 0x350000) :
    (s.lossNoted i).int k = ((s.put (Od.key 0x3302 (i + 1)) 3).bump 0x330205).int k := int_raise _ _ _ _ _ hk

theorem commError_none (h : s.int 0x102901 = 1) : s.commError = s := by
  unfold commError
  dsimp only
  rw [if_neg (by omega), if_neg (by omega)]

theorem heartbeatLost_parts {i : Nat} (hi : i < 4) (h : s.int (Od.key 0x3302 (i + 1)) = 2) (h1 : s.int 0x102901 = 1) :
    (s.heartbeatLost i).int (Od.key 0x3302 (i + 1)) = 3 ∧
    (s.heartbeatLost i).int 0x330205 = min (s.int 0x330205 + 1) 0xFFFFFFFF ∧ (s.heartbeatLost i).int 0x330103 = s.int 0x330103 := by
  have hkey : Od.key 0x3302 (i + 1) = 0x330201 + i := by
    simp only [Od.key]
    omega
  have hjudged {k : Nat} (hk : k < 0x350000) (he : ¬ emcyEntry k) :
      (if s.heartLost then (s.lossNoted i).emcy 0x8130 180 else s.lossNoted i).emcyScan.int k =
        ((s.put (Od.key 0x3302 (i + 1)) 3).bump 0x330205).int k := by
    rw [int_emcyScan _ he, int_ite, int_emcy _ _ _ he, ite_self, int_lossNoted hk]
  have hnone : s.heartbeatLost i = (if s.heartLost then (s.lossNoted i).emcy 0x8130 180 else s.lossNoted i).emcyScan := by
    rw [heartbeatLost_eq h, commError_none]
    rw [hjudged (by decide) (by decide), int_bump_past (by decide) (by decide), int_put_past _ (by omega) (by omega), h1]
  rw [hnone, hjudged (by omega) (by omega), hjudged (by decide) (by decide), hjudged (by decide) (by decide)]
  refine ⟨?_, ?_, ?_⟩
  · rw [int_bump_past (by decide) (by omega), int_put_self]
  · rw [int_bump_self, int_put_past _ (by omega) (by omega)]
  · rw [int_bump_past (by decide) (by decide), int_put_past _ (by omega) (by omega)]

/-! ### EMCY and TIME (R378, R453) -/

theorem emcyOut_parts (f : Sys2Proof.CanFrame) (hroom : (s.canPort 0).service.length < 16) :
    (s.emcyOut f).canopen.waiting = s.canopen.waiting ∧ ((s.emcyOut f).canPort 0).service = (s.canPort 0).service ++ [f] ∧
    (s.emcyOut f).int 0x330105 = halfBump (s.int 0x330105) false ∧ (s.emcyOut f).canopen.inhibited = decide (s.int 0x101500 ≠ 0) := by
  unfold emcyOut
  extract_lets u w src
  have hu : u.canopen = s.canopen := (put_canopen ..).trans (errorField_canopen _)
  have hroom' : (u.canPort 0).service.length < 16 := by
    rw [canPort_of_canopen hu]
    exact hroom
  have h105 : u.int 0x330105 = halfBump (s.int 0x330105) false := int_put_self ..
  have h15 : u.int 0x101500 = s.int 0x101500 := (int_put_past _ (by decide) (by decide)).trans (int_errorField _ _ (by decide))
  have hw : w = u.frameQueued 0 f := congrArg Prod.fst (queueFrame_of_room f hroom')
  obtain ⟨p, hp⟩ := frameQueued_canopen (s := u) 0 f
  have hint (k : Nat) : w.int k = u.int k := by rw [hw, int_frameQueued]
  have hport : (w.canPort 0).service = (u.canPort 0).service ++ [f] := by
    rw [hw]
    exact (canPort_frameQueued 0 f).2
  have hcanopen : w.canopen = { u.canopen with ports := p } := by rw [hw, hp]
  clear_value w
  refine ⟨?_, ?_, ?_, ?_⟩
  · change w.canopen.waiting = _
    rw [hcanopen, hu]
  · change (w.canPort 0).service = _
    rw [hport, canPort_of_canopen hu]
  · refine (int_with_canopen _ _ _ rfl).trans ?_
    rw [hint, h105]
  · change decide (w.int 0x101500 ≠ 0) = _
    rw [hint, h15]

theorem emcyNext_none (h : s.canopen.waiting = []) : s.emcyNext = { s with canopen := { s.canopen with inhibited := false } } := by
  unfold emcyNext
  dsimp only
  rw [h]

/-- The next waiting EMCY taken from the queue. -/
def emcyTaken (s : State) (q : List Sys2Proof.CanFrame) : State :=
  { s with canopen := { s.canopen with inhibited := false, waiting := q } }

theorem emcyNext_some {f : Sys2Proof.CanFrame} {q : List Sys2Proof.CanFrame} (h : s.canopen.waiting = f :: q) :
    s.emcyNext = (s.emcyTaken q).emcyOut f := by
  unfold emcyNext
  dsimp only
  rw [h]
  rfl

theorem int_emcyTaken (q : List Sys2Proof.CanFrame) (k : Nat) : (s.emcyTaken q).int k = s.int k := int_with_canopen _ _ _ rfl

theorem produceTime_silent (h : (s.nat 0x101200).testBit 30 = false) : s.produceTime = s := by
  refine if_neg ?_
  rintro ⟨hbit, -⟩
  exact Bool.noConfusion (h.symm.trans hbit)

theorem produceTime_sent (hbit : (s.nat 0x101200).testBit 30 = true) (hvalid : s.ntValid = true) (h5 : s.int 0x330103 = 5)
    (hsends : s.canOpenSends = true) (hlo : 5113 ≤ s.ntNow / 65536 / 1000000000 / 86400)
    (hhi : s.ntNow / 65536 / 1000000000 / 86400 ≤ 70648) :
    s.produceTime = (s.queueFrame 0 (profileFrame (s.nat 0x101200 % 2 ^ 30)
      (le 4 (s.ntNow / 65536 / 1000000000 % 86400 * 1000) ++ le 2 (s.ntNow / 65536 / 1000000000 / 86400 - 5113)))).1 :=
  if_pos ⟨hbit, hvalid, by omega, by omega, .inl h5, hsends⟩

end State

/-- Settles O50, by the NMT state set last, the entries a boot-up leaves, and the frames queued on CAN0. -/
theorem canopenNodeStates : Obligations.CanopenNodeStates := by
  refine ⟨?_, ?_, ?_, ?_, ?_, ?_, ?_, ?_, ?_, ?_, ?_, ?_⟩
  · intro s node h0 h
    have hother (cmd : Nat) : s.served (·.nmt cmd node) = s := served_eq_self (nmt_other h0 h)
    exact ⟨congrArg _ (hother 1), congrArg _ (hother 2), congrArg _ (hother 0x80), congrArg _ (hother 0x81), congrArg _ (hother 0x82)⟩
  · intro s node hready h h0
    have hto {cmd : Nat} {v : Int} (heq : s.nmt cmd node = s.nmtTo v) : (s.nmt cmd node).int 0x330103 = v := by rw [heq, int_nmtTo_self]
    exact ⟨⟨_, congrArg Host.Outcome.next (served_of_ready hready), hto (nmt_taken h h0)⟩,
      ⟨_, congrArg Host.Outcome.next (served_of_ready hready), hto (nmt_taken h h0)⟩,
      ⟨_, congrArg Host.Outcome.next (served_of_ready hready), hto (nmt_taken h h0)⟩⟩
  · intro s node hready h h0
    exact ⟨⟨_, congrArg Host.Outcome.next ((served_of_ready hready).trans (nmt_taken h h0)), resetCommunication_parts⟩,
      ⟨_, congrArg Host.Outcome.next ((served_of_ready hready).trans (nmt_taken h h0)), resetNode_parts⟩⟩
  · exact fun s hready h17 h3 hsends hroom => ⟨_, congrArg Host.Outcome.next ((served_of_ready hready).trans (produceHeartbeat_sent h17 h3 hsends)),
      queueFrame_parts _ hroom⟩
  · exact fun s h => congrArg Host.Outcome.next (served_eq_self (if_pos h))
  · intro s node hready hnode
    refine ⟨_, congrArg Host.Outcome.next (served_of_ready hready), fun i => ?_⟩
    have hi := i.isLt
    rw [heartbeat_eq, int_emcyScan _ (by simp only [Od.key]; omega)]
    exact int_beats node i hnode i.isLt
  · exact fun s i hready h h1 => ⟨_, congrArg Host.Outcome.next (served_of_ready hready), heartbeatLost_parts i.isLt h h1⟩
  · exact fun s i h => congrArg Host.Outcome.next (served_eq_self (heartbeatLost_other h))
  · exact fun s hready h => congrArg Host.Outcome.next ((served_of_ready hready).trans (emcyNext_none h))
  · intro s f q hready h hroom
    have hport : (s.emcyTaken q).canPort 0 = s.canPort 0 := canPort_of_ports (s := s) (t := s.emcyTaken q) rfl 0
    obtain ⟨hwait, hserv, h105, hinhibit⟩ := emcyOut_parts (s := s.emcyTaken q) f (by rw [hport]; exact hroom)
    rw [int_emcyTaken] at h105 hinhibit
    exact ⟨_, congrArg Host.Outcome.next ((served_of_ready hready).trans (emcyNext_some h)), hwait, by rw [hserv, hport], h105, hinhibit⟩
  · exact fun s hready h => congrArg Host.Outcome.next ((served_of_ready hready).trans (produceTime_silent h))
  · intro s hready hbit hvalid h5 hsends hroom hlo hhi
    obtain ⟨hserv, hod⟩ := queueFrame_parts (s := s) (profileFrame (s.nat 0x101200 % 2 ^ 30)
      (le 4 (s.ntNow / 65536 / 1000000000 % 86400 * 1000) ++ le 2 (s.ntNow / 65536 / 1000000000 / 86400 - 5113))) hroom
    exact ⟨_, congrArg Host.Outcome.next ((served_of_ready hready).trans (produceTime_sent hbit hvalid h5 hsends hlo hhi)), hod, hserv⟩

end Sys2Proof.Machine

/-!
SUPPORT. PDOs and SYNC (R374, R452): what a TPDO that is sent, an EMCY and the synchronous TPDOs of a SYNC leave.
-/

namespace Sys2Proof.Machine

open State

namespace State

variable {s : State} {k : Nat}

/-- A walk over a list that changes nothing at any of its elements. -/
theorem foldl_unchanged {α : Type} (f : State → α → State) : ∀ l : List α, (∀ x ∈ l, f s x = s) → l.foldl f s = s
  | [], _ => rfl
  | x :: l, h => by
    rw [List.foldl_cons, h x List.mem_cons_self]
    exact foldl_unchanged f l fun y hy => h y (List.mem_cons_of_mem _ hy)

/-! ### EMCY leaves the PDOs -/

/-- What waits of RPDOs and which of their deadlines run are as before. -/
def SameRpdos (s t : State) : Prop := t.canopen.rpdo = s.canopen.rpdo ∧ t.canopen.timing = s.canopen.timing

theorem OnlyPorts.sameRpdos {t : State} (h : OnlyPorts s t) : SameRpdos s t := by
  obtain ⟨p, hp⟩ := h
  unfold SameRpdos
  rw [hp]
  exact ⟨rfl, rfl⟩

theorem emcyOut_sameRpdos (f : Sys2Proof.CanFrame) : SameRpdos s (s.emcyOut f) := by
  unfold emcyOut
  extract_lets u w src
  have hu : u.canopen = s.canopen := (put_canopen ..).trans (errorField_canopen _)
  obtain ⟨hrpdo, htiming⟩ := (queueFrame_onlyPorts (s := u) f).sameRpdos
  rw [hu] at hrpdo htiming
  exact ⟨hrpdo, htiming⟩

theorem emcy_sameRpdos (code src : Nat) : SameRpdos s (s.emcy code src) := by
  unfold emcy
  split
  · dsimp only
    split
    · split
      · exact ⟨rfl, rfl⟩
      · exact (OnlyPorts.of_canopen (put_canopen ..)).sameRpdos
    · exact emcyOut_sameRpdos _
  · exact ⟨rfl, rfl⟩

/-! ### A TPDO is sent (R374) -/

@[simp] theorem tpdo_setTpdo_self (x : Tpdo) : (s.setTpdo k x).tpdo k = x := Tab.get_set_self ..

theorem tpdo_setTpdo_ne {j : Nat} (x : Tpdo) (h : k ≠ j) : (s.setTpdo k x).tpdo j = s.tpdo j := Tab.get_set_ne _ _ _ h

theorem int_setTpdo (x : Tpdo) (j : Nat) : (s.setTpdo k x).int j = s.int j := int_with_canopen _ _ _ rfl

theorem OnlyPorts.tpdo {t : State} (h : OnlyPorts s t) (j : Nat) : t.tpdo j = s.tpdo j := by
  obtain ⟨p, hp⟩ := h
  unfold State.tpdo
  rw [hp]

/-- The record of a TPDO that goes out now. -/
def tpdoSent (s : State) (k : Nat) : Tpdo :=
  { s.tpdo k with sent := (s.tpdo k).sample, changed := false, sentAt := some s.clock.counter, syncs := 0, started := true }

theorem canOpenSends_setTpdo (x : Tpdo) : (s.setTpdo k x).canOpenSends = s.canOpenSends := by
  unfold canOpenSends
  rw [int_setTpdo]

/-- The frame of a TPDO. -/
def tpdoFrame (s : State) (k : Nat) : Sys2Proof.CanFrame := profileFrame (s.nat (tpdoCom k + 1)) (s.tpdo k).sample

theorem sendTpdo_eq : s.sendTpdo k = if s.canOpenSends then ((s.setTpdo k (s.tpdoSent k)).queueFrame 0 (s.tpdoFrame k)).1
    else s.setTpdo k (s.tpdoSent k) := by
  have hnat : (s.setTpdo k (s.tpdoSent k)).nat (tpdoCom k + 1) = s.nat (tpdoCom k + 1) := congrArg Int.toNat (int_setTpdo ..)
  unfold tpdoFrame
  rw [← canOpenSends_setTpdo (k := k) (s.tpdoSent k), ← hnat]
  rfl

theorem sendTpdo_onlyPorts : OnlyPorts (s.setTpdo k (s.tpdoSent k)) (s.sendTpdo k) := by
  rw [sendTpdo_eq]
  split
  · exact queueFrame_onlyPorts _
  · exact .refl _

theorem tpdo_sendTpdo_self : (s.sendTpdo k).tpdo k = s.tpdoSent k := by
  rw [sendTpdo_onlyPorts.tpdo, tpdo_setTpdo_self]

theorem int_sendTpdo {j : Nat} (h : j ≠ 0x331809) : (s.sendTpdo k).int j = s.int j := by
  rw [sendTpdo_eq, int_ite, int_queueFrame _ _ (Ne.symm h), ite_self, int_setTpdo]

theorem sendTpdo_clock : (s.sendTpdo k).clock = s.clock :=
  (State.sendTpdo_keep (L := [.od, .canopen, .acts]) rfl (Keep.refl _ s)).same .clock (by decide)

/-! ### A SYNC and the synchronous TPDOs (R374) -/

/-- What the TPDOs of a SYNC read and leave: the entries below CAN's, the counters but that of dropped frames, the clock, what waits
of RPDOs, and the TPDOs other than k. -/
structure SyncKept (k : Nat) (s t : State) : Prop where
  entry : ∀ j, j ≠ 0x331809 → t.int j = s.int j
  clock : t.clock = s.clock
  counter : t.canopen.syncCounter = s.canopen.syncCounter
  rpdo : t.canopen.rpdo = s.canopen.rpdo
  others : ∀ j, j ≠ k → t.tpdo j = s.tpdo j

theorem SyncKept.refl (k : Nat) (s : State) : SyncKept k s s := ⟨fun _ _ => rfl, rfl, rfl, rfl, fun _ _ => rfl⟩

theorem setTpdo_kept (x : Tpdo) : SyncKept k s (s.setTpdo k x) :=
  ⟨fun _ _ => int_setTpdo .., rfl, rfl, rfl, fun _ hj => tpdo_setTpdo_ne x hj.symm⟩

theorem sendTpdo_kept : SyncKept k s (s.sendTpdo k) := by
  have hports := sendTpdo_onlyPorts (s := s) (k := k)
  obtain ⟨p, hp⟩ := id hports
  refine ⟨fun j hj => int_sendTpdo hj, sendTpdo_clock, ?_, ?_, fun j hj => ?_⟩
  · rw [hp]
    rfl
  · rw [hp]
    rfl
  · rw [hports.tpdo, tpdo_setTpdo_ne _ hj.symm]

theorem syncTpdo_kept : SyncKept k s (s.syncTpdo k) := by
  unfold syncTpdo
  dsimp only
  split
  · exact .refl k s
  · split
    · split
      · exact sendTpdo_kept
      · exact .refl k s
    · split
      · split
        · exact sendTpdo_kept
        · exact .refl k s
      · split
        · exact sendTpdo_kept
        · exact setTpdo_kept _

/-- A TPDO sent every so many SYNCs, whose start value is met. -/
structure Cyclic (s : State) (k : Nat) : Prop where
  on : s.pdoOn (tpdoCom k) (tpdoMap k) = true
  sampled : (s.tpdo k).sample ≠ []
  least : 1 ≤ s.nat (tpdoCom k + 2)
  most : s.nat (tpdoCom k + 2) ≤ 240
  started : s.int 0x101900 = 0 ∨ s.nat (tpdoCom k + 6) = 0 ∨ (s.tpdo k).started = true

theorem syncTpdo_due (h : Cyclic s k) (hdue : s.nat (tpdoCom k + 2) ≤ (s.tpdo k).syncs + 1) : s.syncTpdo k = s.sendTpdo k := by
  obtain ⟨hon, hsample, hlo, hhi, hstart⟩ := h
  unfold syncTpdo
  dsimp only
  rw [if_neg (by simp [hon, hsample, hhi]), if_neg (by omega),
    if_neg (fun hc => hstart.elim hc.1 fun hs => hs.elim hc.2.1 fun ht => Bool.noConfusion (ht.symm.trans hc.2.2)), if_pos hdue]

theorem syncTpdo_early (h : Cyclic s k) (hearly : (s.tpdo k).syncs + 1 < s.nat (tpdoCom k + 2)) :
    s.syncTpdo k = s.setTpdo k { s.tpdo k with syncs := (s.tpdo k).syncs + 1 } := by
  obtain ⟨hon, hsample, hlo, hhi, hstart⟩ := h
  unfold syncTpdo
  dsimp only
  rw [if_neg (by simp [hon, hsample, hhi]), if_neg (by omega),
    if_neg (fun hc => hstart.elim hc.1 fun hs => hs.elim hc.2.1 fun ht => Bool.noConfusion (ht.symm.trans hc.2.2)), if_neg (by omega)]

theorem syncTpdo_off (h : s.pdoOn (tpdoCom k) (tpdoMap k) = false) : s.syncTpdo k = s := if_pos (.inl h)

/-- The entries of a TPDO lie below CAN's. -/
theorem tpdoCom_lt {c : Nat} (hk : k < 8) (hc : c < 256) : tpdoCom k + c < 0x330000 := by
  simp only [tpdoCom, Od.key]
  omega

theorem tpdoMap_lt (hk : k < 8) : tpdoMap k < 0x330000 := by
  simp only [tpdoMap, Od.key]
  omega

theorem pdoOn_of_entries {t : State} (hk : k < 8) (h : ∀ j, j < 0x330000 → t.int j = s.int j) :
    t.pdoOn (tpdoCom k) (tpdoMap k) = s.pdoOn (tpdoCom k) (tpdoMap k) := by
  unfold pdoOn nat
  rw [h _ (tpdoCom_lt hk (by decide)), h _ (tpdoMap_lt hk)]

theorem nat_of_entries {t : State} {j : Nat} (h : ∀ j, j < 0x330000 → t.int j = s.int j) (hj : j < 0x330000) : t.nat j = s.nat j :=
  congrArg Int.toNat (h j hj)

theorem Cyclic.of_entries {t : State} (h : Cyclic s k) (hk : k < 8) (hint : ∀ j, j < 0x330000 → t.int j = s.int j)
    (htpdo : t.tpdo k = s.tpdo k) : Cyclic t k := by
  obtain ⟨hon, hsample, hlo, hhi, hstart⟩ := h
  refine ⟨(pdoOn_of_entries hk hint).trans hon, htpdo.symm ▸ hsample, ?_, ?_, ?_⟩
  · rw [nat_of_entries hint (tpdoCom_lt hk (by decide))]
    exact hlo
  · rw [nat_of_entries hint (tpdoCom_lt hk (by decide))]
    exact hhi
  · rw [nat_of_entries hint (tpdoCom_lt hk (by decide)), hint _ (by decide), htpdo]
    exact hstart

theorem syncTpdos_kept (l : List Nat) (hk : k ∉ l) : ∀ u : State, (∀ j, j ≠ 0x331809 → (l.foldl syncTpdo u).int j = u.int j) ∧
    (l.foldl syncTpdo u).clock = u.clock ∧ (l.foldl syncTpdo u).canopen.syncCounter = u.canopen.syncCounter ∧
    (l.foldl syncTpdo u).tpdo k = u.tpdo k := by
  induction l with
  | nil => exact fun _ => ⟨fun _ _ => rfl, rfl, rfl, rfl⟩
  | cons i l ih =>
    intro u
    have hne : k ≠ i := fun h => hk (h ▸ List.mem_cons_self)
    have hl : k ∉ l := fun h => hk (List.mem_cons_of_mem _ h)
    obtain ⟨hint, hclock, hcounter, -, hothers⟩ := syncTpdo_kept (s := u) (k := i)
    obtain ⟨gint, gclock, gcounter, gtpdo⟩ := ih hl (u.syncTpdo i)
    exact ⟨fun j hj => (gint j hj).trans (hint j hj), gclock.trans hclock, gcounter.trans hcounter, gtpdo.trans (hothers k hne)⟩

/-- What a SYNC does to a cyclic TPDO, whatever the others do. -/
theorem syncTpdos_cyclic {u : State} (hk : k < 8) (h : Cyclic s k) (hint : ∀ j, j < 0x330000 → u.int j = s.int j)
    (hclock : u.clock = s.clock) (htpdo : u.tpdo k = s.tpdo k) :
    (s.nat (tpdoCom k + 2) ≤ (s.tpdo k).syncs + 1 → ((List.range 8).foldl syncTpdo u).tpdo k = s.tpdoSent k) ∧
    ((s.tpdo k).syncs + 1 < s.nat (tpdoCom k + 2) →
      ((List.range 8).foldl syncTpdo u).tpdo k = { s.tpdo k with syncs := (s.tpdo k).syncs + 1 }) := by
  have hsplit : List.range 8 = List.range k ++ k :: (List.range (7 - k)).map (· + (k + 1)) := by
    interval_cases k <;> rfl
  obtain ⟨gint, gclock, -, gtpdo⟩ := syncTpdos_kept (List.range k) (k := k) (by simp) u
  obtain ⟨-, -, -, etpdo⟩ := syncTpdos_kept ((List.range (7 - k)).map (· + (k + 1))) (k := k) (by simp; omega)
    (((List.range k).foldl syncTpdo u).syncTpdo k)
  rw [hsplit, List.foldl_append, List.foldl_cons, etpdo]
  generalize (List.range k).foldl syncTpdo u = v at gint gclock gtpdo
  have hvint (j : Nat) (hj : j < 0x330000) : v.int j = s.int j := (gint j (by omega)).trans (hint j hj)
  have hvtpdo : v.tpdo k = s.tpdo k := gtpdo.trans htpdo
  have hcyclic : Cyclic v k := h.of_entries hk hvint hvtpdo
  have hn : v.nat (tpdoCom k + 2) = s.nat (tpdoCom k + 2) := nat_of_entries hvint (tpdoCom_lt hk (by decide))
  refine ⟨fun hdue => ?_, fun hearly => ?_⟩
  · rw [syncTpdo_due hcyclic (by rw [hn, hvtpdo]; exact hdue), tpdo_sendTpdo_self]
    unfold tpdoSent
    rw [hvtpdo, gclock, hclock]
  · rw [syncTpdo_early hcyclic (by rw [hn, hvtpdo]; exact hearly), tpdo_setTpdo_self, hvtpdo]

/-- A SYNC counted. -/
def syncCounted (s : State) (data : List Byte) : State :=
  { s.bump 0x330108 with canopen := { s.canopen with syncCounter := leNat data } }

theorem int_syncCounted (data : List Byte) (j : Nat) : (s.syncCounted data).int j = (s.bump 0x330108).int j :=
  int_with_canopen _ _ _ rfl

theorem int_syncCounted_low (data : List Byte) (j : Nat) (hj : j < 0x330000) : (s.syncCounted data).int j = s.int j :=
  (int_syncCounted data j).trans (int_bump_past (by decide) (by omega))

theorem syncFrame_malformed {data : List Byte} (h : s.int 0x330103 = 127 ∨ s.int 0x330103 = 5)
    (hdata : data.length ≠ if s.int 0x101900 = 0 then 0 else 1) : s.syncFrame data = s.emcy 0x8240 0 := by
  unfold syncFrame
  dsimp only
  rw [if_neg (by simp; omega)]
  exact if_pos hdata

theorem syncFrame_ignored {data : List Byte} (h : s.int 0x330103 = 4) : s.syncFrame data = s := by
  unfold syncFrame
  dsimp only
  exact if_pos (by simp [h])

theorem pdosRun_syncCounted (data : List Byte) : (s.syncCounted data).pdosRun = s.pdosRun := by
  unfold pdosRun
  rw [int_syncCounted, int_bump_past (by decide) (by decide)]

/-- What a well-formed SYNC does: counted, and in operational the TPDOs and then the waiting RPDOs. -/
theorem syncFrame_counted {data : List Byte} (h : s.int 0x330103 = 127 ∨ s.int 0x330103 = 5)
    (hdata : data.length = if s.int 0x101900 = 0 then 0 else 1) : s.syncFrame data =
      if (s.syncCounted data).pdosRun then
        ((List.range 8).foldl syncTpdo (s.syncCounted data)).canopen.rpdo.foldl (fun s e => s.applyRpdo e.1 e.2)
          { (List.range 8).foldl syncTpdo (s.syncCounted data) with
            canopen := { ((List.range 8).foldl syncTpdo (s.syncCounted data)).canopen with rpdo := [] } }
      else s.syncCounted data := by
  unfold syncFrame
  dsimp only
  rw [if_neg (by simp; omega), if_neg (fun hne => hne hdata)]
  rfl

theorem syncFrame_preoperational {data : List Byte} (h : s.int 0x330103 = 127)
    (hdata : data.length = if s.int 0x101900 = 0 then 0 else 1) : s.syncFrame data = s.syncCounted data := by
  rw [syncFrame_counted (.inl h) hdata, pdosRun_syncCounted]
  exact if_neg (by simp [pdosRun, h])

theorem syncTpdos_rpdo (l : List Nat) : ∀ u : State, (l.foldl syncTpdo u).canopen.rpdo = u.canopen.rpdo := by
  induction l with
  | nil => exact fun _ => rfl
  | cons i l ih => exact fun u => (ih _).trans syncTpdo_kept.rpdo

/-- The waiting RPDOs taken. -/
def rpdosTaken (s : State) : State := { s with canopen := { s.canopen with rpdo := [] } }

theorem syncFrame_operational {data : List Byte} (h : s.int 0x330103 = 5)
    (hdata : data.length = if s.int 0x101900 = 0 then 0 else 1) : s.syncFrame data =
      s.canopen.rpdo.foldl (fun s e => s.applyRpdo e.1 e.2) ((List.range 8).foldl syncTpdo (s.syncCounted data)).rpdosTaken := by
  rw [syncFrame_counted (.inr h) hdata, pdosRun_syncCounted, if_pos (by simp [pdosRun, h]), syncTpdos_rpdo]
  rfl

theorem syncFrame_cyclic {data : List Byte} (h : s.int 0x330103 = 5) (hdata : data.length = if s.int 0x101900 = 0 then 0 else 1)
    (hrpdo : s.canopen.rpdo = []) : (s.syncFrame data).int 0x330108 = min (s.int 0x330108 + 1) 0xFFFFFFFF ∧
      (s.syncFrame data).canopen.syncCounter = leNat data ∧ (s.syncFrame data).canopen.rpdo = [] ∧
      ∀ k < 8, Cyclic s k → (s.nat (tpdoCom k + 2) ≤ (s.tpdo k).syncs + 1 → (s.syncFrame data).tpdo k = s.tpdoSent k) ∧
        ((s.tpdo k).syncs + 1 < s.nat (tpdoCom k + 2) → (s.syncFrame data).tpdo k = { s.tpdo k with syncs := (s.tpdo k).syncs + 1 }) := by
  obtain ⟨hint, -, hcounter, -⟩ := syncTpdos_kept (List.range 8) (k := 8) (by simp) (s.syncCounted data)
  have heq : s.syncFrame data = ((List.range 8).foldl syncTpdo (s.syncCounted data)).rpdosTaken := by
    rw [syncFrame_operational h hdata, hrpdo]
    rfl
  rw [heq]
  refine ⟨?_, hcounter, rfl, fun k hk hcyclic => ?_⟩
  · refine (int_with_canopen _ _ _ rfl).trans ?_
    rw [hint _ (by decide), int_syncCounted, int_bump_self]
  · exact syncTpdos_cyclic (u := s.syncCounted data) hk hcyclic (int_syncCounted_low data) rfl rfl

/-! ### RPDOs (R374, R452) -/

/-- The deadline of an RPDO starts where it has one (R452). -/
def deadlineStarted (s : State) (k : Nat) : State :=
  if s.int (rpdoCom k + 5) = 0 then s else { s with canopen := { s.canopen with timing := s.canopen.timing ||| BitVec.ofNat 8 (2 ^ k) } }

theorem int_deadlineStarted (j : Nat) : (s.deadlineStarted k).int j = s.int j := by
  unfold deadlineStarted
  split
  · rfl
  · exact int_with_canopen _ _ _ rfl

theorem deadlineStarted_rpdo : (s.deadlineStarted k).canopen.rpdo = s.canopen.rpdo := by
  unfold deadlineStarted
  split <;> rfl

theorem rpdoReceived_ignored {data : List Byte} (h : s.int 0x330103 ≠ 5 ∨ s.pdoOn (rpdoCom k) (rpdoMap k) = false) :
    s.rpdoReceived k data = s :=
  if_pos (h.imp_left fun hne => by simp [pdosRun, hne])

/-- An RPDO of the right length or longer, kept for the next SYNC or written at once by its type. -/
def rpdoTaken (s u : State) (k : Nat) (data : List Byte) : State :=
  if u.int (rpdoCom k + 2) ≤ 240 then { u with canopen := { u.canopen with rpdo := Tab.insert s.canopen.rpdo k data } } else u.applyRpdo k data

theorem rpdoReceived_eq {data : List Byte} (h5 : s.int 0x330103 = 5) (hon : s.pdoOn (rpdoCom k) (rpdoMap k) = true) :
    s.rpdoReceived k data =
      if data.length < (mappedBits (s.mapping (rpdoMap k)) + 7) / 8 then ((s.deadlineStarted k).bump 0x330106).emcy 0x8210 0
      else if (mappedBits (s.mapping (rpdoMap k)) + 7) / 8 < data.length then
        rpdoTaken ((s.deadlineStarted k).emcy 0x8220 0) ((s.deadlineStarted k).emcy 0x8220 0) k data
      else rpdoTaken (s.deadlineStarted k) (s.deadlineStarted k) k data := by
  unfold rpdoReceived
  rw [if_neg (by simp [pdosRun, h5, hon])]
  dsimp only
  rw [show (if s.int (rpdoCom k + 5) = 0 then s else { s with canopen := { s.canopen with timing := s.canopen.timing ||| BitVec.ofNat 8 (2 ^ k) } })
    = s.deadlineStarted k from rfl]
  split
  · rfl
  · split
    · rfl
    · rfl

theorem rpdoCom_plain (hk : k < 8) : ¬ emcyEntry (rpdoCom k + 2) := by
  simp only [emcyEntry, rpdoCom, Od.key]
  omega

theorem rpdoTimeout_due (h : s.canopen.timing.getLsbD k = true) (h5 : s.int 0x330103 = 5) : s.rpdoTimeout k =
    (({ s with canopen := { s.canopen with timing := s.canopen.timing &&& ~~~ BitVec.ofNat 8 (2 ^ k) } } : State).bump 0x330107).emcy 0x8250 0 :=
  if_pos ⟨h, decide_eq_true h5⟩

theorem rpdoTimeout_none (h : s.canopen.timing.getLsbD k = false ∨ s.int 0x330103 ≠ 5) : s.rpdoTimeout k = s := by
  refine if_neg ?_
  rintro ⟨hbit, hrun⟩
  exact h.elim (fun h0 => Bool.noConfusion (h0.symm.trans hbit)) fun hne => hne (of_decide_eq_true hrun)

/-! ### The event timer of a TPDO (R374) -/

theorem tpdoTimer_sent (h5 : s.int 0x330103 = 5) (hon : s.pdoOn (tpdoCom k) (tpdoMap k) = true) (h254 : 254 ≤ s.int (tpdoCom k + 2))
    (htime : s.int (tpdoCom k + 5) ≠ 0) (hsample : (s.tpdo k).sample ≠ []) : s.tpdoTimer k = s.sendTpdo k :=
  if_pos ⟨decide_eq_true h5, hon, h254, htime, hsample⟩

theorem tpdoTimer_none (h : s.int 0x330103 ≠ 5 ∨ s.pdoOn (tpdoCom k) (tpdoMap k) = false ∨ s.int (tpdoCom k + 2) < 254 ∨
    s.int (tpdoCom k + 5) = 0 ∨ (s.tpdo k).sample = []) : s.tpdoTimer k = s := by
  refine if_neg ?_
  rintro ⟨hrun, hon, h254, htime, hsample⟩
  obtain h | h | h | h | h := h
  · exact h (of_decide_eq_true hrun)
  · exact Bool.noConfusion (h.symm.trans hon)
  · omega
  · exact htime h
  · exact hsample h

theorem sendTpdo_queued (hsends : s.canOpenSends = true) (hroom : (s.canPort 0).service.length < 16) : (s.sendTpdo k).od = s.od ∧
    ((s.sendTpdo k).canPort 0).service = (s.canPort 0).service ++ [s.tpdoFrame k] := by
  have hport : (s.setTpdo k (s.tpdoSent k)).canPort 0 = s.canPort 0 := canPort_of_ports (s := s) (t := s.setTpdo k (s.tpdoSent k)) rfl 0
  obtain ⟨hserv, hod⟩ := queueFrame_parts (s := s.setTpdo k (s.tpdoSent k)) (s.tpdoFrame k) (by rw [hport]; exact hroom)
  rw [sendTpdo_eq, if_pos hsends]
  exact ⟨hod, by rw [hserv, hport]⟩

theorem sendTpdo_silent (hsends : s.canOpenSends = false) : ((s.sendTpdo k).canPort 0).service = (s.canPort 0).service := by
  rw [sendTpdo_eq, if_neg (by simp [hsends])]
  exact congrArg CanPort.service (canPort_of_ports (s := s) (t := s.setTpdo k (s.tpdoSent k)) rfl 0)

end State

/-- Settles O51, by the record of the TPDO that goes out, the entries a SYNC reads, and what an RPDO leaves for the next SYNC. -/
theorem pdosAndSync : Obligations.PdosAndSync := by
  refine ⟨?_, ?_, ?_, ?_, ?_, ?_, ?_, ?_⟩
  · intro s data hready hstep h
    have hexec : s.served (fun s => s.replicateShared s.ctNow (.can 0 (State.profileFrame (s.nat 0x100500) data) s.ctNow) (·.syncFrame data)) =
        s.syncFrame data := (served_of_ready hready).trans (replicateShared_alone hstep)
    refine ⟨fun hbad => congrArg Host.Outcome.next (hexec.trans (syncFrame_malformed h hbad)),
      fun hdata h127 => congrArg Host.Outcome.next (hexec.trans (syncFrame_preoperational h127 hdata)), fun hdata h5 hrpdo => ?_⟩
    obtain ⟨hcount, hcounter, hempty, hcyclic⟩ := syncFrame_cyclic h5 hdata hrpdo
    refine ⟨_, congrArg Host.Outcome.next hexec, hcount, hcounter, hempty, fun k hon hsample hlo hhi hstart => ?_⟩
    obtain ⟨hdue, hearly⟩ := hcyclic k k.isLt ⟨hon, hsample, hlo, hhi, hstart⟩
    refine ⟨fun hle => ?_, hearly⟩
    rw [hdue hle]
    exact ⟨rfl, rfl, rfl⟩
  · intro s data k d hready hstep h5 hdata hrpdo hoff
    refine congrArg Host.Outcome.next ((served_of_ready hready).trans ((replicateShared_alone hstep).trans ?_))
    have hsame : (List.range 8).foldl syncTpdo (s.syncCounted data) = s.syncCounted data := by
      refine foldl_unchanged _ _ fun i hi => syncTpdo_off ?_
      have hi8 := List.mem_range.mp hi
      rw [pdoOn_of_entries hi8 (int_syncCounted_low data)]
      exact hoff ⟨i, hi8⟩
    rw [syncFrame_operational h5 hdata, hrpdo, hsame]
    rfl
  · intro s data hready hstep h4
    exact congrArg Host.Outcome.next ((served_of_ready hready).trans ((replicateShared_alone hstep).trans (syncFrame_ignored h4)))
  · intro s k data hready hstep
    have hexec : s.served (fun s => s.replicateShared s.ctNow (.can 0 (State.profileFrame (s.nat (State.rpdoCom k + 1)) data) s.ctNow)
        (·.rpdoReceived k data)) = s.rpdoReceived k data := (served_of_ready hready).trans (replicateShared_alone hstep)
    refine ⟨fun h => congrArg Host.Outcome.next (hexec.trans (rpdoReceived_ignored h)), fun h5 hon => ?_⟩
    have hcase := hexec.trans (rpdoReceived_eq (data := data) h5 hon)
    have htype : (s.deadlineStarted k).int (rpdoCom k + 2) = s.int (rpdoCom k + 2) := int_deadlineStarted _
    have htype' : ((s.deadlineStarted k).emcy 0x8220 0).int (rpdoCom k + 2) = s.int (rpdoCom k + 2) :=
      (int_emcy _ _ _ (rpdoCom_plain k.isLt)).trans htype
    refine ⟨fun hlt => ?_, fun heq h240 => ?_, fun heq h240 => ?_, fun hgt h240 => ?_, fun hgt h240 => ?_⟩
    · rw [if_pos hlt] at hcase
      exact congrArg Host.Outcome.next hcase
    · rw [if_neg (by omega), if_neg (by omega), rpdoTaken, if_pos (by rw [htype]; exact h240), deadlineStarted_rpdo] at hcase
      exact congrArg Host.Outcome.next hcase
    · rw [if_neg (by omega), if_neg (by omega), rpdoTaken, if_neg (by rw [htype]; omega)] at hcase
      exact congrArg Host.Outcome.next hcase
    · rw [if_neg (by omega), if_pos hgt, rpdoTaken, if_pos (by rw [htype']; exact h240)] at hcase
      exact ⟨_, congrArg Host.Outcome.next hcase, Tab.find?_insert_self .., (emcy_sameRpdos (s := s.deadlineStarted k) 0x8220 0).2⟩
    · rw [if_neg (by omega), if_pos hgt, rpdoTaken, if_neg (by rw [htype']; omega)] at hcase
      exact congrArg Host.Outcome.next hcase
  · exact fun s k hready h h5 => congrArg Host.Outcome.next ((served_of_ready hready).trans (rpdoTimeout_due h h5))
  · exact fun s k h => congrArg Host.Outcome.next (served_eq_self (rpdoTimeout_none h))
  · intro s k hready h5 hon h254 htime hsample
    have hport : (s.sendTpdo k).tpdo k = s.tpdoSent k := tpdo_sendTpdo_self
    refine ⟨_, congrArg Host.Outcome.next ((served_of_ready hready).trans (tpdoTimer_sent h5 hon h254 htime hsample)), ?_, ?_, ?_, ?_,
      fun hsends hroom => sendTpdo_queued hsends hroom, fun hsends => sendTpdo_silent hsends⟩
    · exact congrArg Tpdo.sentAt hport
    · exact congrArg Tpdo.changed hport
    · exact (congrArg Tpdo.sample hport).trans rfl
    · exact (congrArg Tpdo.sent hport).trans rfl
  · exact fun s k h => congrArg Host.Outcome.next (served_eq_self (tpdoTimer_none h))

end Sys2Proof.Machine

/-!
SUPPORT. The field die's drivers (R462, R463, R470 to R472): which outputs are applied, and what driving all the outputs anew leaves
of the channels, the supplies and the entries.
-/

namespace Sys2Proof.Machine

open State

/-- Adding a power of two whose bit is clear changes that bit alone. -/
theorem testBit_add_two_pow_ne : ∀ (b l i : Nat), l.testBit b = false → i ≠ b → (l + 2 ^ b).testBit i = l.testBit i
  | 0, l, i, h, hne => by
    have heven : l % 2 = 0 := by
      rw [Nat.testBit_zero] at h
      have := of_decide_eq_false h
      omega
    cases i with
    | zero => exact absurd rfl hne
    | succ i =>
      rw [Nat.testBit_succ, Nat.testBit_succ]
      congr 1
      omega
  | b + 1, l, i, h, hne => by
    cases i with
    | zero =>
      rw [Nat.testBit_zero, Nat.testBit_zero, pow_succ]
      congr 2
      omega
    | succ i =>
      rw [Nat.testBit_succ] at h
      rw [Nat.testBit_succ, Nat.testBit_succ, show (l + 2 ^ (b + 1)) / 2 = l / 2 + 2 ^ b by rw [pow_succ]; omega]
      exact testBit_add_two_pow_ne b (l / 2) i h (by omega)

theorem fioCfg_eq (k : Nat) : fioCfg k = 0x321000 + 256 * k := by
  simp only [fioCfg, Od.key]
  omega

theorem fioSt_eq (k : Nat) : fioSt k = 0x323000 + 256 * k := by
  simp only [fioSt, Od.key]
  omega

theorem fioDiag_eq (k : Nat) : fioDiag k = 0x324000 + 256 * k := by
  simp only [fioDiag, Od.key]
  omega

theorem fioCount_eq (k n : Nat) : Od.key (0x3250 + k) n = 0x325000 + 256 * k + n := by
  simp only [Od.key]
  omega

namespace State

variable {s : State} {k : Nat}

/-! ### The channels -/

@[simp] theorem chan_setChan_self (x : Channel) : (s.setChan k x).chan k = x := Tab.get_set_self ..

theorem chan_setChan_ne {j : Nat} (x : Channel) (h : k ≠ j) : (s.setChan k x).chan j = s.chan j := Tab.get_set_ne _ _ _ h

theorem chan_of_fio {t : State} (h : t.fio = s.fio) (j : Nat) : t.chan j = s.chan j := by
  unfold chan
  rw [h]

theorem latchFlag_fio (bit : Nat) : (s.latchFlag k bit).fio = s.fio := by
  unfold latchFlag
  extract_lets u l v
  have hu : u.fio = s.fio := by
    unfold u
    split
    · rfl
    · exact bump_fio ..
  split
  · exact hu
  · have hv : v.fio = s.fio := (put_fio ..).trans hu
    split
    · exact hv
    · exact (raise_fio ..).trans hv

/-! ### Which outputs are applied (R462, R475) -/

/-- An output is let drive: its supply, its heat and its trip apart. -/
def Enabled (s : State) (k : Nat) : Prop :=
  if s.power.phase = .moored then s.fio.moored.getLsbD k = true
  else s.fio.link = true ∧ s.fioMode k = 2 ∧ (s.silenced || (s.parked && !s.pair.overlap)) = false ∧ s.commanded k = true

/-- The driver's state by its supply, its command, its heat, its trip and its limit is on in two cases alone. -/
theorem driver_on_iff (off on thermal limit : Bool) (trip : Nat) :
    ((if off then 5 else if !on then 0 else if thermal then 4 else if trip ≠ 0 then 3 else if limit then 2 else 1) = 1 ∨
      (if off then 5 else if !on then 0 else if thermal then 4 else if trip ≠ 0 then 3 else if limit then 2 else 1) = 2) ↔
    on = true ∧ off = false ∧ thermal = false ∧ trip = 0 := by
  split_ifs <;> simp_all

theorem applied_iff : s.applied k = true ↔
    s.Enabled k ∧ (s.supplyOf k).off = false ∧ (s.chan k).thermal = false ∧ (s.chan k).trip = 0 := by
  unfold applied driverState Enabled
  dsimp only
  rw [decide_eq_true_iff]
  by_cases hphase : s.power.phase = .moored
  · rw [if_pos hphase, if_pos hphase]
    by_cases hmoored : s.fio.moored.getLsbD k = true
    · rw [if_pos hmoored, driver_on_iff, hmoored]
    · rw [if_neg hmoored]
      exact ⟨fun h => absurd h (by decide), fun h => absurd h.1 hmoored⟩
  · rw [if_neg hphase, if_neg hphase]
    by_cases hlink : (!s.fio.link || decide (s.fioMode k ≠ 2)) = true
    · rw [if_pos hlink]
      refine ⟨fun h => absurd h (by decide), fun h => ?_⟩
      obtain ⟨⟨hl, hm, -⟩, -⟩ := h
      simp [hl, hm] at hlink
    · have hon : s.fio.link = true ∧ s.fioMode k = 2 := by simpa using hlink
      obtain ⟨hl, hm⟩ := hon
      rw [if_neg hlink]
      by_cases hquiet : (s.silenced || (s.parked && !s.pair.overlap)) = true
      · rw [if_pos hquiet]
        exact ⟨fun h => absurd h (by decide), fun h => Bool.noConfusion (hquiet.symm.trans h.1.2.2.1)⟩
      · rw [if_neg hquiet, driver_on_iff]
        simp [hl, hm, hquiet]

/-! ### What driving anew leaves (R462, R472) -/

/-- A channel after outputs were driven anew: `on` where it was commanded, `applied` where its output was. -/
structure ChanSteady (on applied : Bool) (x y : Channel) : Prop where
  thermal : y.thermal = x.thermal
  trip : (y.trip = x.trip ∧ y.retries = x.retries) ∨ (on = false ∧ y.trip = 0 ∧ y.retries = 0)
  limit : applied = true → y.limit = x.limit
  limited : y.limit = true → x.limit = true
  reverse : y.reverse = true → x.reverse = true
  flags : ∀ b, b ≠ 3 → b ≠ 4 → b ≠ 5 → y.flags.getLsbD b = x.flags.getLsbD b

theorem ChanSteady.refl (on applied : Bool) (x : Channel) : ChanSteady on applied x x :=
  ⟨rfl, .inl ⟨rfl, rfl⟩, fun _ => rfl, id, id, fun _ _ _ _ => rfl⟩

theorem ChanSteady.trans {on a b : Bool} {x y z : Channel} (h : ChanSteady on a x y) (g : ChanSteady on b y z) (hab : a = true → b = true) :
    ChanSteady on a x z := by
  refine ⟨g.thermal.trans h.thermal, ?_, fun ha => (g.limit (hab ha)).trans (h.limit ha), fun hz => h.limited (g.limited hz),
    fun hz => h.reverse (g.reverse hz), fun b h3 h4 h5 => (g.flags b h3 h4 h5).trans (h.flags b h3 h4 h5)⟩
  obtain ⟨gt, gr⟩ | g0 := g.trip
  · obtain ⟨ht, hr⟩ | ⟨hon, ht, hr⟩ := h.trip
    · exact .inl ⟨gt.trans ht, gr.trans hr⟩
    · exact .inr ⟨hon, gt.trans ht, gr.trans hr⟩
  · exact .inr g0

/-- Flags of a channel that differ in the bits driving may change at most. -/
theorem ChanSteady.of_flags {on applied : Bool} {x : Channel} {f : BitVec 16}
    (h : ∀ b, b ≠ 3 → b ≠ 4 → b ≠ 5 → f.getLsbD b = x.flags.getLsbD b) : ChanSteady on applied x { x with flags := f } :=
  ⟨rfl, .inl ⟨rfl, rfl⟩, fun _ => rfl, id, id, h⟩

/-- The parts that driving may change. -/
abbrev driveParts : List Part := [.od, .gate, .log, .canopen, .fio, .acts]

/-- The entries that neither the drivers' flags, nor EMCY, nor an event writes. -/
def SteadyEntry (j : Nat) : Prop :=
  j < 0x350000 ∧ ¬ emcyEntry j ∧ ∀ a < 16, j ≠ fioDiag a + 2 ∧ j ≠ fioDiag a + 3 ∧ j ≠ Od.key (0x3250 + a) 6

theorem steadyEntry_low {j : Nat} (h : j < 0x324000) (he : ¬ emcyEntry j) : SteadyEntry j := by
  refine ⟨by omega, he, fun a _ => ?_⟩
  have hdiag := fioDiag_eq a
  have hcount := fioCount_eq a 6
  omega

theorem steadyEntry_count {a n : Nat} (ha : a < 16) (hn : n < 256) (h6 : n ≠ 6) : SteadyEntry (Od.key (0x3250 + a) n) := by
  have hself := fioCount_eq a n
  refine ⟨by omega, by unfold emcyEntry; omega, fun b _ => ?_⟩
  have hdiag := fioDiag_eq b
  have hcount := fioCount_eq b 6
  omega

/-- What driving the outputs anew leaves. -/
structure Steady (s t : State) : Prop where
  keep : Keep driveParts s t
  supplies : t.fio.vf1 = s.fio.vf1 ∧ t.fio.vf2 = s.fio.vf2
  die : t.fio.link = s.fio.link ∧ t.fio.preparing = s.fio.preparing ∧ t.fio.moored = s.fio.moored
  entry : ∀ j, SteadyEntry j → t.int j = s.int j
  latched : ∀ a < 16, ∀ b, (s.nat (fioDiag a + 2)).testBit b = true → (t.nat (fioDiag a + 2)).testBit b = true
  chan : ∀ a < 16, ChanSteady (s.commanded a) (s.applied a) (s.chan a) (t.chan a)

theorem Steady.supplyOf {t : State} (h : Steady s t) (a : Nat) : t.supplyOf a = s.supplyOf a := by
  obtain ⟨hvf1, hvf2⟩ := h.supplies
  unfold State.supplyOf supply
  rw [hvf1, hvf2]

theorem fioMode_of_low {t : State} (h : ∀ j, 0x321000 ≤ j → j < 0x324000 → j % 256 ≠ 6 → t.int j = s.int j) (hk : k < 16) : t.fioMode k = s.fioMode k :=
  congrArg Int.toNat (h _ (by simp only [Od.key]; omega) (by simp only [Od.key]; omega) (by simp only [Od.key]; omega))

theorem fioRole_of_low {t : State} (h : ∀ j, 0x321000 ≤ j → j < 0x324000 → j % 256 ≠ 6 → t.int j = s.int j) (hk : k < 16) : t.fioRole k = s.fioRole k :=
  congrArg Int.toNat (h _ (by simp only [Od.key]; omega) (by simp only [Od.key]; omega) (by simp only [Od.key]; omega))

theorem commanded_of_low {t : State} (h : ∀ j, 0x321000 ≤ j → j < 0x324000 → j % 256 ≠ 6 → t.int j = s.int j) (hk : k < 16)
    (hprep : t.fio.preparing = s.fio.preparing) (hslices : t.slices = s.slices) : t.commanded k = s.commanded k := by
  have hint (x n : Nat) (hx : 0x3210 ≤ x) (hx' : x < 0x3240) (hn : n < 256) (h6 : n ≠ 6) : t.int (Od.key x n) = s.int (Od.key x n) :=
    h _ (by simp only [Od.key]; omega) (by simp only [Od.key]; omega) (by simp only [Od.key]; omega)
  unfold commanded regionLost flag
  rw [hprep, hslices, fioRole_of_low h hk, hint _ _ (by omega) (by omega) (by decide) (by decide),
    hint _ _ (by omega) (by omega) (by decide) (by decide)]

theorem Steady.low {t : State} (h : Steady s t) (j : Nat) (hlo : 0x321000 ≤ j) (hj : j < 0x324000) (_ : j % 256 ≠ 6) : t.int j = s.int j :=
  h.entry j (steadyEntry_low hj (by unfold emcyEntry; omega))

theorem Steady.commanded {t : State} (h : Steady s t) (hk : k < 16) : t.commanded k = s.commanded k :=
  commanded_of_low h.low hk h.die.2.1 (h.keep.same .slices (by decide))

theorem parked_of_reads {t : State} (hpair : t.pair = s.pair) (hpairing : t.pairing = s.pairing) (hint : t.int 0x300101 = s.int 0x300101) :
    t.parked = s.parked ∧ t.silenced = s.silenced := by
  unfold parked silenced
  rw [hpair, hpairing, hint]
  exact ⟨rfl, rfl⟩

theorem enabled_of_reads {t : State} (hpower : t.power = s.power) (hpair : t.pair = s.pair) (hpairing : t.pairing = s.pairing)
    (hlink : t.fio.link = s.fio.link) (hmoored : t.fio.moored = s.fio.moored) (hstate : t.int 0x300101 = s.int 0x300101)
    (hmode : t.fioMode k = s.fioMode k) (hcommanded : t.commanded k = s.commanded k) : t.Enabled k ↔ s.Enabled k := by
  obtain ⟨hparked, hsilenced⟩ := parked_of_reads hpair hpairing hstate
  unfold Enabled
  rw [hlink, hmoored, hpair, hpower, hparked, hsilenced, hmode, hcommanded]

theorem Steady.enabled {t : State} (h : Steady s t) (hk : k < 16) : t.Enabled k ↔ s.Enabled k :=
  enabled_of_reads (h.keep.same .power (by decide)) (h.keep.same .pair (by decide)) (h.keep.same .pairing (by decide)) h.die.1 h.die.2.2
    (h.entry _ (steadyEntry_low (by decide) (by decide))) (fioMode_of_low h.low hk) (h.commanded hk)

/-- An output that was applied still is. -/
theorem Steady.applied {t : State} (h : Steady s t) (hk : k < 16) (ha : s.applied k = true) : t.applied k = true := by
  obtain ⟨hen, hoff, hcool, htrip⟩ := applied_iff.mp ha
  have hchan := h.chan k hk
  refine applied_iff.mpr ⟨(h.enabled hk).mpr hen, by rw [h.supplyOf, hoff], hchan.thermal.trans hcool, ?_⟩
  obtain ⟨heq, -⟩ | ⟨-, h0, -⟩ := hchan.trip
  · exact heq.trans htrip
  · exact h0

/-- An output is applied as before where its trip is as before. -/
theorem Steady.applied_eq {t : State} (h : Steady s t) (hk : k < 16) (htrip : (t.chan k).trip = (s.chan k).trip) : t.applied k = s.applied k := by
  rw [Bool.eq_iff_iff, applied_iff, applied_iff, h.enabled hk, h.supplyOf, (h.chan k hk).thermal, htrip]

theorem Steady.refl (s : State) : Steady s s :=
  ⟨.refl _ s, ⟨rfl, rfl⟩, ⟨rfl, rfl, rfl⟩, fun _ _ => rfl, fun _ _ _ h => h, fun _ _ => .refl ..⟩

theorem Steady.trans {t u : State} (h : Steady s t) (g : Steady t u) : Steady s u := by
  obtain ⟨hvf1, hvf2⟩ := h.supplies
  obtain ⟨gvf1, gvf2⟩ := g.supplies
  obtain ⟨hlink, hprep, hmoored⟩ := h.die
  obtain ⟨glink, gprep, gmoored⟩ := g.die
  refine ⟨h.keep.trans g.keep, ⟨gvf1.trans hvf1, gvf2.trans hvf2⟩, ⟨glink.trans hlink, gprep.trans hprep, gmoored.trans hmoored⟩,
    fun j hj => (g.entry j hj).trans (h.entry j hj), fun a ha b hb => g.latched a ha b (h.latched a ha b hb), fun a ha => ?_⟩
  exact (h.chan a ha).trans (h.commanded ha ▸ g.chan a ha) (h.applied ha)

/-- Driving that finds no output in reverse writes no entry but EMCY's. -/
def Calm (s t : State) : Prop := (∀ a < 16, (s.chan a).reverse = false) → ∀ j, ¬ emcyEntry j → t.int j = s.int j

/-- What driving the outputs anew leaves, and what it leaves besides where no output is in reverse. -/
def Driven (s t : State) : Prop := Steady s t ∧ Calm s t

theorem Driven.refl (s : State) : Driven s s := ⟨.refl s, fun _ _ _ => rfl⟩

theorem Steady.noReverse {t : State} (h : Steady s t) (hno : ∀ a < 16, (s.chan a).reverse = false) :
    ∀ a < 16, (t.chan a).reverse = false := fun a ha =>
  Bool.eq_false_iff.mpr fun hrev => Bool.noConfusion (((h.chan a ha).reverse hrev).symm.trans (hno a ha))

theorem Driven.trans {t u : State} (h : Driven s t) (g : Driven t u) : Driven s u :=
  ⟨h.1.trans g.1, fun hno j hj => (g.2 (h.1.noReverse hno) j hj).trans (h.2 hno j hj)⟩

theorem driven_foldl (f : State → Nat → State) (h : ∀ u a, a < 16 → Driven u (f u a)) : ∀ (l : List Nat) (u : State), (∀ a ∈ l, a < 16) →
    Driven u (l.foldl f u)
  | [], u, _ => .refl u
  | a :: l, u, hl => (h u a (hl a List.mem_cons_self)).trans (driven_foldl f h l _ fun b hb => hl b (List.mem_cons_of_mem _ hb))

/-! ### The steps of driving -/

/-- A change that leaves the channels, the supplies and the die, and writes EMCY's entries at most. -/
theorem driven_of_same {t : State} (hkeep : Keep driveParts s t) (hfio : t.fio = { s.fio with ordered := t.fio.ordered, drive := t.fio.drive })
    (hint : ∀ j, ¬ emcyEntry j → t.int j = s.int j) : Driven s t := by
  have hchan (a : Nat) : t.chan a = s.chan a := by
    unfold State.chan
    rw [hfio]
  refine ⟨⟨hkeep, by rw [hfio]; exact ⟨rfl, rfl⟩, by rw [hfio]; exact ⟨rfl, rfl, rfl⟩, fun j hj => hint j hj.2.1, fun a ha b hb => ?_,
    fun a ha => by rw [hchan]; exact .refl ..⟩, fun _ j hj => hint j hj⟩
  have hdiag := fioDiag_eq a
  unfold nat at hb ⊢
  rwa [hint _ (by unfold emcyEntry; omega)]

theorem driven_setChan {x : Channel} (h : ChanSteady (s.commanded k) (s.applied k) (s.chan k) x) : Driven s (s.setChan k x) := by
  refine ⟨⟨State.setChan_keep rfl (.refl _ s), ⟨rfl, rfl⟩, ⟨rfl, rfl, rfl⟩, fun j _ => int_setChan .., fun a ha b hb => hb, fun a ha => ?_⟩,
    fun _ j _ => int_setChan ..⟩
  by_cases hne : k = a
  · subst hne
    rw [chan_setChan_self]
    exact h
  · rw [chan_setChan_ne _ hne]
    exact .refl ..

theorem driven_clearFlag {b : Nat} (hb : b = 3 ∨ b = 4) : Driven s (s.setFlag k b false) := by
  unfold setFlag
  dsimp only
  split
  · exact .refl s
  · rw [if_neg Bool.noConfusion]
    refine driven_setChan (.of_flags fun i h3 h4 h5 => ?_)
    rw [BitVec.getLsbD_and, BitVec.getLsbD_not, BitVec.getLsbD_ofNat, Nat.testBit_two_pow_of_ne (by omega)]
    by_cases hi : i < 16
    · simp [hi]
    · simp [hi, BitVec.getLsbD_of_ge _ _ (Nat.le_of_not_lt hi)]

/-- A flag latched: what its record then reads, its count, and the entries left. -/
theorem int_latchFlag_ne {bit j : Nat} (h2 : fioDiag k + 2 ≠ j) (hc : Od.key (0x3250 + k) (flagCounter bit) ≠ j) (hj : j < 0x350000) :
    (s.latchFlag k bit).int j = s.int j := by
  have hle := flagCounter_le bit
  have hcount := fioCount_eq k (flagCounter bit)
  have hdiag : Od.key (0x3240 + k) 2 = fioDiag k + 2 := by rw [fioDiag, key_add]
  have hdiag' := fioDiag_eq k
  unfold latchFlag
  extract_lets u l v
  have hu : u.int j = s.int j := by
    unfold u
    split
    · rfl
    · exact int_bump_past (by omega) hc
  have hv : v.int j = s.int j := (int_put_past _ (by omega) (by omega)).trans hu
  split
  · exact hu
  · split
    · exact hv
    · exact (int_raise _ _ _ _ _ hj).trans hv

theorem nat_latchFlag_self (bit : Nat) (hk : k < 16) : (s.latchFlag k bit).nat (fioDiag k + 2) =
    if (s.nat (fioDiag k + 2)).testBit bit = true then s.nat (fioDiag k + 2) else s.nat (fioDiag k + 2) + 2 ^ bit := by
  have hle := flagCounter_le bit
  have hcount := fioCount_eq k (flagCounter bit)
  have hdiag : Od.key (0x3240 + k) 2 = fioDiag k + 2 := by rw [fioDiag, key_add]
  have hdiag' := fioDiag_eq k
  unfold latchFlag
  rw [hdiag]
  extract_lets u l v
  have hl : l = s.nat (fioDiag k + 2) := by
    refine congrArg Int.toNat ?_
    unfold u
    split
    · rfl
    · exact int_bump_past (by omega) (by omega)
  have hv : v.nat (fioDiag k + 2) = l + 2 ^ bit := by
    unfold nat v
    rw [int_put_self, Int.toNat_natCast]
  rw [← hl]
  by_cases hbit : l.testBit bit = true
  · rw [if_pos hbit, if_pos hbit]
  · rw [if_neg hbit, if_neg hbit]
    split
    · exact hv
    · unfold nat at hv ⊢
      rw [int_raise _ _ _ _ _ (by omega), hv]

theorem testBit_latchFlag {bit b : Nat} (hk : k < 16) : ((s.latchFlag k bit).nat (fioDiag k + 2)).testBit b =
    if b = bit then true else (s.nat (fioDiag k + 2)).testBit b := by
  rw [nat_latchFlag_self bit hk]
  by_cases hbit : (s.nat (fioDiag k + 2)).testBit bit = true
  · rw [if_pos hbit]
    split
    · next h => rw [h, hbit]
    · rfl
  · rw [if_neg hbit]
    split
    · next h => rw [h, Nat.add_comm, Nat.testBit_two_pow_add_eq, Bool.eq_false_iff.mpr hbit, Bool.not_false]
    · next h => exact testBit_add_two_pow_ne _ _ _ (Bool.eq_false_iff.mpr hbit) h

/-- A flag latched keeps the bits latched before. -/
theorem latched_latchFlag {bit a b : Nat} (hk : k < 16) (ha : a < 16) (h : (s.nat (fioDiag a + 2)).testBit b = true) :
    ((s.latchFlag k bit).nat (fioDiag a + 2)).testBit b = true := by
  by_cases hne : k = a
  · subst hne
    rw [testBit_latchFlag hk, h, ite_self]
  · have hle := flagCounter_le bit
    have hcount := fioCount_eq k (flagCounter bit)
    have hdiag := fioDiag_eq k
    have hdiag' := fioDiag_eq a
    unfold nat at h ⊢
    rwa [int_latchFlag_ne (by omega) (by omega) (by omega)]

theorem steady_latchFlag (hk : k < 16) : Steady s (s.latchFlag k 5) := by
  have hfio := latchFlag_fio (s := s) (k := k) 5
  refine ⟨State.latchFlag_keep rfl (.refl _ s), by rw [hfio]; exact ⟨rfl, rfl⟩, by rw [hfio]; exact ⟨rfl, rfl, rfl⟩, fun j hj => ?_,
    fun a ha b hb => latched_latchFlag hk ha hb, fun a _ => by rw [chan_of_fio hfio]; exact .refl ..⟩
  obtain ⟨hlt, -, hne⟩ := hj
  obtain ⟨h2, -, h6⟩ := hne k hk
  exact int_latchFlag_ne (Ne.symm h2) (Ne.symm h6) hlt

theorem steady_setCrossFlag (hk : k < 16) : Steady s (s.setFlag k 5 true) := by
  unfold setFlag
  dsimp only
  split
  · exact .refl s
  · rw [if_pos rfl]
    refine Steady.trans (driven_setChan (.of_flags fun i h3 h4 h5 => ?_)).1 (steady_latchFlag hk)
    rw [BitVec.getLsbD_or, BitVec.getLsbD_ofNat, Nat.testBit_two_pow_of_ne (Ne.symm h5), Bool.and_false, Bool.or_false]

theorem steady_crossNumber (v : Int) (hk : k < 16) : Steady s (s.put (fioDiag k + 3) v) := by
  have hdiag := fioDiag_eq k
  refine ⟨State.put_keep rfl (.refl _ s), ⟨rfl, rfl⟩, ⟨rfl, rfl, rfl⟩, fun j hj => ?_, fun a ha b hb => ?_, fun _ _ => .refl ..⟩
  · obtain ⟨-, -, hne⟩ := hj
    exact int_put_past _ (by omega) (Ne.symm (hne k hk).2.1)
  · have hdiag' := fioDiag_eq a
    unfold nat at hb ⊢
    rwa [int_put_past _ (by omega) (by omega)]

theorem steady_crossOne {a b : Nat} (ha : a < 16) : Steady s (s.crossOne a b) := by
  unfold crossOne
  split
  · exact .refl s
  · rw [show Od.key (0x3240 + a) 3 = fioDiag a + 3 by rw [fioDiag, key_add]]
    exact (steady_crossNumber _ ha).trans (steady_setCrossFlag ha)

theorem driven_reverseMate (hk : k < 16) : Driven s (s.reverseMate k) := by
  unfold reverseMate
  extract_lets g
  cases hfind : ((List.range 8).map (fun i => 8 * g + i)).find? (fun j => (s.chan j).reverse) with
  | none => exact .refl s
  | some m =>
    obtain ⟨i, hi, hm⟩ := List.mem_map.mp (List.mem_of_find?_eq_some hfind)
    have hi8 := List.mem_range.mp hi
    have hm16 : m < 16 := by
      unfold g at hm
      omega
    have hrev : (s.chan m).reverse = true := List.find?_some (p := fun j => (s.chan j).reverse) hfind
    refine ⟨?_, fun hno => Bool.noConfusion (hrev.symm.trans (hno m hm16))⟩
    dsimp only
    split
    · exact .refl s
    · rw [crossFeed_eq]
      exact (steady_crossOne hm16).trans (steady_crossOne hk)

/-- An output that comes on, and one that goes off. -/
def cameOn (s : State) (k : Nat) : State :=
  ((s.setChan k { s.chan k with onAt := some s.clock.counter }).setFlag k 4 false).reverseMate k
def wentOff (s : State) (k : Nat) : State :=
  (s.setChan k { s.chan k with offAt := some s.clock.counter, limit := false, reverse := false }).setFlag k 3 false

/-- The bit of an output as it is applied now. -/
def driveBit (s : State) (k : Nat) (on : Bool) : State :=
  { s with fio := { s.fio with drive := if on then s.fio.drive ||| BitVec.ofNat 16 (2 ^ k) else s.fio.drive &&& ~~~ BitVec.ofNat 16 (2 ^ k) } }

theorem driveEdge_same (h : s.fio.drive.getLsbD k = s.applied k) : s.driveEdge k = s := if_pos h

theorem driveEdge_on (h : s.fio.drive.getLsbD k ≠ s.applied k) (ha : s.applied k = true) :
    s.driveEdge k = ((s.driveBit k true).cameOn k).emit (.field (k + 1) true) := by
  unfold driveEdge
  dsimp only
  rw [if_neg h, ha]
  rfl

theorem driveEdge_off (h : s.fio.drive.getLsbD k ≠ s.applied k) (ha : s.applied k = false) :
    s.driveEdge k = ((s.driveBit k false).wentOff k).emit (.field (k + 1) false) := by
  unfold driveEdge
  dsimp only
  rw [if_neg h, ha]
  rfl

theorem driven_emit (o : Out) : Driven s (s.emit o) := driven_of_same (State.emit_keep rfl (.refl _ s)) rfl fun _ _ => int_emit ..

theorem driven_driveBit (on : Bool) : Driven s (s.driveBit k on) :=
  driven_of_same (Keep.upd_fio rfl (.refl _ s)) rfl fun _ _ => int_with_fio ..

theorem driven_cameOn (hk : k < 16) : Driven s (s.cameOn k) := by
  unfold cameOn
  refine Driven.trans (Driven.trans (driven_setChan ?_) (driven_clearFlag (.inr rfl))) (driven_reverseMate hk)
  exact ⟨rfl, .inl ⟨rfl, rfl⟩, fun _ => rfl, id, id, fun _ _ _ _ => rfl⟩

theorem driven_wentOff (ha : s.applied k = false) : Driven s (s.wentOff k) := by
  unfold wentOff
  refine Driven.trans (driven_setChan ?_) (driven_clearFlag (.inl rfl))
  rw [ha]
  exact ⟨rfl, .inl ⟨rfl, rfl⟩, fun h => Bool.noConfusion h, fun h => Bool.noConfusion h, fun h => Bool.noConfusion h, fun _ _ _ _ => rfl⟩

theorem driven_driveEdge (hk : k < 16) : Driven s (s.driveEdge k) := by
  by_cases h : s.fio.drive.getLsbD k = s.applied k
  · rw [driveEdge_same h]
    exact .refl s
  · cases ha : s.applied k with
    | true =>
      rw [driveEdge_on h ha]
      exact ((driven_driveBit true).trans (driven_cameOn hk)).trans (driven_emit _)
    | false =>
      rw [driveEdge_off h ha]
      exact ((driven_driveBit false).trans (driven_wentOff ha)).trans (driven_emit _)

theorem driven_releaseTrip : Driven s (s.releaseTrip k) := by
  unfold releaseTrip
  dsimp only
  split
  · next h =>
    simp only [Bool.and_eq_true, Bool.not_eq_true'] at h
    obtain ⟨⟨⟨hoff, -⟩, -⟩, -⟩ := h
    exact driven_setChan ⟨rfl, .inr ⟨hoff, rfl, rfl⟩, fun _ => rfl, id, id, fun _ _ _ _ => rfl⟩
  · exact .refl s

theorem driven_orderAct : Driven s (s.orderAct k) := by
  have hkeep : Keep driveParts s (s.orderAct k) := State.orderAct_keep rfl (.refl _ s)
  refine driven_of_same hkeep ?_ fun _ _ => int_orderAct ..
  unfold orderAct
  dsimp only
  split
  · rfl
  · rw [act_fio]

theorem driven_tellCommands (was : BitVec 16) : Driven s (s.tellCommands was) := by
  refine driven_of_same (State.tellCommands_keep rfl (.refl _ s)) ?_ fun _ _ => int_tellCommands ..
  unfold tellCommands toPartner
  split
  · split <;> rfl
  · rfl

/-- One output judged: its order, its trip, its edge. -/
def driveOne (s : State) (k : Nat) : State := ((s.orderAct k).releaseTrip k).driveEdge k

theorem driven_driveOne (hk : k < 16) : Driven s (s.driveOne k) := (driven_orderAct.trans driven_releaseTrip).trans (driven_driveEdge hk)

theorem driveField_eq : s.driveField = ((List.range 16).foldl driveOne s).tellCommands s.fio.ordered := rfl

theorem driven_driveField : Driven s s.driveField := by
  rw [driveField_eq]
  exact (driven_foldl driveOne (fun u a ha => driven_driveOne ha) _ s fun a ha => List.mem_range.mp ha).trans (driven_tellCommands _)

theorem driven_emcyScan : Driven s s.emcyScan :=
  driven_of_same (State.emcyScan_keep rfl (.refl _ s)) (by rw [emcyScan_fio]) fun _ hj => int_emcyScan _ hj

theorem driven_settle : Driven s s.settle := driven_driveField.trans driven_emcyScan

end State

end Sys2Proof.Machine

/-!
SUPPORT. Commands of the outputs (R462, R463, R467): the driver bits follow the outputs applied, and what a command, a retry, a
cleared flag and a lost die link leave.
-/

namespace Sys2Proof.Machine

open State

namespace State

variable {s : State} {k : Nat}

/-! ### The driver bits follow the outputs applied (R462) -/

/-- The trips and the driver bits are as before. -/
def SameDrive (s t : State) : Prop := (∀ j, (t.chan j).trip = (s.chan j).trip) ∧ t.fio.drive = s.fio.drive

theorem SameDrive.trans {t u : State} (h : SameDrive s t) (g : SameDrive t u) : SameDrive s u :=
  ⟨fun j => (g.1 j).trans (h.1 j), g.2.trans h.2⟩

theorem SameDrive.of_fio {t : State} (h : t.fio = s.fio) : SameDrive s t := ⟨fun j => by rw [chan_of_fio h], by rw [h]⟩

theorem sameDrive_setChan {x : Channel} (h : x.trip = (s.chan k).trip) : SameDrive s (s.setChan k x) := by
  refine ⟨fun j => ?_, rfl⟩
  by_cases hj : k = j
  · subst hj
    rw [chan_setChan_self, h]
  · rw [chan_setChan_ne _ hj]

theorem sameDrive_setFlag (b : Nat) (on : Bool) : SameDrive s (s.setFlag k b on) := by
  unfold setFlag
  dsimp only
  split
  · exact .of_fio rfl
  · split
    · exact (sameDrive_setChan (s := s) (k := k) (x := { s.chan k with flags := (s.chan k).flags ||| BitVec.ofNat 16 (2 ^ b) }) rfl).trans
        (.of_fio (latchFlag_fio b))
    · exact sameDrive_setChan rfl

theorem sameDrive_crossOne (a b : Nat) : SameDrive s (s.crossOne a b) := by
  unfold crossOne
  split
  · exact .of_fio rfl
  · exact (SameDrive.of_fio (put_fio ..)).trans (sameDrive_setFlag 5 true)

theorem sameDrive_reverseMate : SameDrive s (s.reverseMate k) := by
  unfold reverseMate
  extract_lets g
  split
  · split
    · exact .of_fio rfl
    · rw [crossFeed_eq]
      exact (sameDrive_crossOne ..).trans (sameDrive_crossOne ..)
  · exact .of_fio rfl

theorem sameDrive_cameOn : SameDrive s (s.cameOn k) := by
  unfold cameOn
  have hset : SameDrive s (s.setChan k { s.chan k with onAt := some s.clock.counter }) := sameDrive_setChan rfl
  exact (hset.trans (sameDrive_setFlag 4 false)).trans sameDrive_reverseMate

theorem sameDrive_wentOff : SameDrive s (s.wentOff k) := by
  unfold wentOff
  have hset : SameDrive s (s.setChan k { s.chan k with offAt := some s.clock.counter, limit := false, reverse := false }) := sameDrive_setChan rfl
  exact hset.trans (sameDrive_setFlag 3 false)

theorem getLsbD_driveBit {j : Nat} (on : Bool) (hj : j < 16) :
    (s.driveBit k on).fio.drive.getLsbD j = if j = k then on else s.fio.drive.getLsbD j := by
  have hpow : (BitVec.ofNat 16 (2 ^ k)).getLsbD j = decide (k = j) := by
    rw [BitVec.getLsbD_ofNat, Nat.testBit_two_pow, decide_eq_true hj, Bool.true_and]
  unfold driveBit
  dsimp only
  by_cases h : j = k
  · subst h
    rw [if_pos rfl]
    cases on
    · rw [if_neg Bool.noConfusion, BitVec.getLsbD_and, BitVec.getLsbD_not, hpow]
      simp
    · rw [if_pos rfl, BitVec.getLsbD_or, hpow]
      simp
  · rw [if_neg h]
    cases on
    · rw [if_neg Bool.noConfusion, BitVec.getLsbD_and, BitVec.getLsbD_not, hpow, decide_eq_false (Ne.symm h), decide_eq_true hj]
      simp
    · rw [if_pos rfl, BitVec.getLsbD_or, hpow, decide_eq_false (Ne.symm h), Bool.or_false]

/-- An edge sets the bit of its output as applied, and leaves the trips and the other bits. -/
theorem driveEdge_bits : (∀ j, ((s.driveEdge k).chan j).trip = (s.chan j).trip) ∧
    ∀ j < 16, (s.driveEdge k).fio.drive.getLsbD j = if j = k then s.applied k else s.fio.drive.getLsbD j := by
  by_cases h : s.fio.drive.getLsbD k = s.applied k
  · rw [driveEdge_same h]
    refine ⟨fun _ => rfl, fun j _ => ?_⟩
    split
    · next hj => rw [hj, h]
    · rfl
  · cases ha : s.applied k with
    | true =>
      obtain ⟨htrip, hdrive⟩ := sameDrive_cameOn (s := s.driveBit k true) (k := k)
      rw [driveEdge_on h ha]
      refine ⟨fun j => htrip j, fun j hj => ?_⟩
      exact (congrArg (BitVec.getLsbD · j) hdrive).trans (getLsbD_driveBit true hj)
    | false =>
      obtain ⟨htrip, hdrive⟩ := sameDrive_wentOff (s := s.driveBit k false) (k := k)
      rw [driveEdge_off h ha]
      refine ⟨fun j => htrip j, fun j hj => ?_⟩
      exact (congrArg (BitVec.getLsbD · j) hdrive).trans (getLsbD_driveBit false hj)

/-- The bit of an output is as it is applied. -/
def BitFollows (s : State) (k : Nat) : Prop := s.fio.drive.getLsbD k = s.applied k

theorem bitFollows_driveEdge (hk : k < 16) : (s.driveEdge k).BitFollows k := by
  obtain ⟨htrip, hbits⟩ := driveEdge_bits (s := s) (k := k)
  unfold BitFollows
  rw [hbits k hk, if_pos rfl, (driven_driveEdge hk).1.applied_eq hk (htrip k)]

theorem BitFollows.of_same {t : State} (h : s.BitFollows k) (hk : k < 16) (hst : Steady s t) (htrip : (t.chan k).trip = (s.chan k).trip)
    (hbit : t.fio.drive.getLsbD k = s.fio.drive.getLsbD k) : t.BitFollows k := by
  unfold BitFollows at *
  rw [hbit, h, hst.applied_eq hk htrip]

theorem orderAct_fio : ∃ o, (s.orderAct k).fio = { s.fio with ordered := o } := by
  unfold orderAct
  dsimp only
  split
  · exact ⟨_, rfl⟩
  · exact ⟨_, act_fio ..⟩

theorem releaseTrip_ne {j : Nat} (h : k ≠ j) : (s.releaseTrip k).chan j = s.chan j := by
  unfold releaseTrip
  dsimp only
  split
  · exact chan_setChan_ne _ h
  · rfl

theorem releaseTrip_drive : (s.releaseTrip k).fio.drive = s.fio.drive := by
  unfold releaseTrip
  dsimp only
  split <;> rfl

theorem orderAct_chan (j : Nat) : (s.orderAct k).chan j = s.chan j := by
  obtain ⟨o, ho⟩ := orderAct_fio (s := s) (k := k)
  unfold State.chan
  rw [ho]

/-- Judging one output leaves the bits and the trips of the others. -/
theorem driveOne_ne {j : Nat} (hj : j < 16) (h : k ≠ j) : ((s.driveOne k).chan j).trip = (s.chan j).trip ∧
    (s.driveOne k).fio.drive.getLsbD j = s.fio.drive.getLsbD j := by
  obtain ⟨o, ho⟩ := orderAct_fio (s := s) (k := k)
  obtain ⟨htrip, hbits⟩ := driveEdge_bits (s := (s.orderAct k).releaseTrip k) (k := k)
  unfold driveOne
  refine ⟨?_, ?_⟩
  · rw [htrip, releaseTrip_ne h, orderAct_chan]
  · rw [hbits j hj, if_neg (Ne.symm h), releaseTrip_drive, ho]

theorem bitFollows_driveField (hk : k < 16) : s.driveField.BitFollows k := by
  have hsplit : List.range 16 = List.range k ++ k :: (List.range (15 - k)).map (· + (k + 1)) := by
    interval_cases k <;> rfl
  have hrest : ∀ (l : List Nat) (u : State), (∀ a ∈ l, a < 16 ∧ a ≠ k) → u.BitFollows k → (l.foldl driveOne u).BitFollows k := by
    intro l
    induction l with
    | nil => exact fun _ _ h => h
    | cons a l ih =>
      intro u hl h
      obtain ⟨ha, hne⟩ := hl a List.mem_cons_self
      obtain ⟨htrip, hbit⟩ := driveOne_ne (s := u) hk hne
      exact ih _ (fun b hb => hl b (List.mem_cons_of_mem _ hb)) (h.of_same hk (driven_driveOne ha).1 htrip hbit)
  rw [driveField_eq, hsplit, List.foldl_append, List.foldl_cons]
  have hlast := hrest ((List.range (15 - k)).map (· + (k + 1))) (((List.range k).foldl driveOne s).driveOne k) (fun a ha => by
    obtain ⟨i, hi, rfl⟩ := List.mem_map.mp ha
    have hi' := List.mem_range.mp hi
    omega) (bitFollows_driveEdge hk)
  have hfio (u : State) (was : BitVec 16) : (u.tellCommands was).fio = u.fio := by
    unfold tellCommands toPartner
    split
    · split <;> rfl
    · rfl
  exact hlast.of_same hk (driven_tellCommands _).1 (by rw [chan_of_fio (hfio _ _)]) (by rw [hfio])

theorem bitFollows_settle (hk : k < 16) : s.settle.BitFollows k :=
  (bitFollows_driveField hk).of_same hk driven_emcyScan.1 (congrArg Channel.trip (chan_of_fio (emcyScan_fio ..) k))
    (congrArg (fun f => f.drive.getLsbD k) (emcyScan_fio ..))

/-! ### Where a channel was commanded, or its trip is none -/

theorem Steady.trip_kept {t : State} (h : Steady s t) (hk : k < 16) (hon : s.commanded k = true) :
    (t.chan k).trip = (s.chan k).trip ∧ (t.chan k).retries = (s.chan k).retries := by
  obtain heq | ⟨hoff, -⟩ := (h.chan k hk).trip
  · exact heq
  · exact Bool.noConfusion (hoff.symm.trans hon)

theorem Steady.trip_none {t : State} (h : Steady s t) (hk : k < 16) (h0 : (s.chan k).trip = 0) : (t.chan k).trip = 0 := by
  obtain ⟨heq, -⟩ | ⟨-, hzero, -⟩ := (h.chan k hk).trip
  · exact heq.trans h0
  · exact hzero

theorem Steady.retries_none {t : State} (h : Steady s t) (hk : k < 16) (h0 : (s.chan k).retries = 0) : (t.chan k).retries = 0 := by
  obtain ⟨-, heq⟩ | ⟨-, -, hzero⟩ := (h.chan k hk).trip
  · exact heq.trans h0
  · exact hzero

/-- A response leaves the field unit, and what the outputs read. -/
theorem applied_respond (w : Writer) (st : Nat) (data : List Byte) (hk : k < 16) : (s.respond w st data).applied k = s.applied k := by
  have hkeep : Keep [.od, .host, .gate, .log, .acts] s (s.respond w st data) := State.respond_keep rfl (.refl _ s)
  have hfio : (s.respond w st data).fio = s.fio := respond_fio ..
  have hint (j : Nat) (hlo : 0x321000 ≤ j) (hj : j < 0x324000) (_ : j % 256 ≠ 6) : (s.respond w st data).int j = s.int j :=
    int_respond _ _ _ _ (by omega) (by simp only [respondEntry]; omega)
  have hen := enabled_of_reads (s := s) (hkeep.same .power (by decide)) (hkeep.same .pair (by decide)) (hkeep.same .pairing (by decide))
    (by rw [hfio]) (by rw [hfio]) (int_respond _ _ _ _ (by decide) (by decide)) (fioMode_of_low hint hk)
    (commanded_of_low hint hk (by rw [hfio]) (hkeep.same .slices (by decide)))
  rw [Bool.eq_iff_iff, applied_iff, applied_iff, hen, chan_of_fio hfio, show (s.respond w st data).supplyOf k = s.supplyOf k by
    unfold supplyOf supply; rw [hfio]]

/-! ### A command (R462) -/

theorem command_refused {v : Int} (h : s.fioRole k = 5) : s.command k v = (s, 9) := if_pos h

theorem command_taken {v : Int} (h : s.fioRole k ≠ 5) : s.command k v = ((s.put (fioSt k + 1) v).settle, 0) := if_neg h

/-- What a command does to an output that nothing holds off. -/
theorem settled_command {v : Nat} (hk : k < 16) (hready : s.isReady = true) (hrole : s.fioRole k ≠ 5) (hmode : s.fioMode k = 2)
    (hlink : s.fio.link = true) (hprep : s.fio.preparing = false) (hparked : s.parked = false) (hoff : (s.supplyOf k).off = false)
    (hcool : (s.chan k).thermal = false) (htrip : (s.chan k).trip = 0) :
    (s.put (fioSt k + 1) v).settle.applied k = decide (v ≠ 0) := by
  have hst := fioSt_eq k
  have hput {j : Nat} (hne : fioSt k + 1 ≠ j) : (s.put (fioSt k + 1) v).int j = s.int j := int_put_past _ (by omega) hne
  have hphase : s.power.phase ≠ .moored := by
    have hr : s.power.phase = .ready := of_decide_eq_true hready
    rw [hr]
    decide
  have hmode' : (s.put (fioSt k + 1) v).fioMode k = 2 := (congrArg Int.toNat (hput (by simp only [Od.key]; omega))).trans hmode
  have hrole' : (s.put (fioSt k + 1) v).fioRole k ≠ 5 := by
    rw [show (s.put (fioSt k + 1) v).fioRole k = s.fioRole k from congrArg Int.toNat (hput (by simp only [Od.key]; omega))]
    exact hrole
  obtain ⟨hparked', hsilenced'⟩ := parked_of_reads (s := s) (t := s.put (fioSt k + 1) v) rfl rfl (hput (by omega))
  have hsilenced : s.silenced = false := by
    unfold parked at hparked
    unfold silenced at hparked ⊢
    cases hp : s.pairing
    · rfl
    · rw [hp] at hparked
      simp at hparked
      simp [hparked]
  have hflag : (s.put (fioSt k + 1) v).commanded k = decide (v ≠ 0) := by
    unfold commanded flag
    rw [if_neg (by rw [put_fio, hprep]; exact Bool.noConfusion), if_neg hrole', ← key_add (0x3230 + k), ← fioSt, int_put_self]
    simp
  have hen : (s.put (fioSt k + 1) v).Enabled k ↔ v ≠ 0 := by
    unfold Enabled
    rw [if_neg (show ¬ (s.put (fioSt k + 1) v).power.phase = .moored from hphase), hparked', hsilenced', hparked, hsilenced, hmode', hflag]
    simp [hlink]
  have hsteady := (driven_settle (s := s.put (fioSt k + 1) v)).1
  rw [Bool.eq_iff_iff, applied_iff, hsteady.enabled hk, hen, hsteady.supplyOf, (hsteady.chan k hk).thermal, hsteady.trip_none hk htrip,
    decide_eq_true_iff]
  exact ⟨fun h => h.1, fun h => ⟨h, hoff, hcool, rfl⟩⟩

/-! ### A retry and a cleared flag (R463, R472) -/

theorem tripRetry_none (h : (s.chan k).trip ≠ 2) : s.tripRetry k = s := if_neg h

theorem tripRetry_due (h : (s.chan k).trip = 2) : s.tripRetry k =
    ((s.setChan k { s.chan k with trip := 0, retries := (s.chan k).retries + 1 }).bump (Od.key (0x3250 + k) 8)).settle := if_pos h

theorem commanded_setChan (x : Channel) (j : Nat) : (s.setChan k x).commanded j = s.commanded j := rfl

theorem commanded_bump {j c : Nat} (hj : j < 16) (hc : 0x324000 ≤ c) : (s.bump c).commanded j = s.commanded j :=
  commanded_of_low (fun i _ hi _ => int_bump_past (by omega) (by omega)) hj rfl rfl

theorem tripRetry_parts (hk : k < 16) (h : (s.chan k).trip = 2) : ((s.tripRetry k).chan k).trip = 0 ∧
    (s.commanded k = true → ((s.tripRetry k).chan k).retries = (s.chan k).retries + 1) ∧
    (s.tripRetry k).int (Od.key (0x3250 + k) 8) = min (s.int (Od.key (0x3250 + k) 8) + 1) 0xFFFFFFFF := by
  have hcount := fioCount_eq k 8
  rw [tripRetry_due h]
  have hchan : ((s.setChan k { s.chan k with trip := 0, retries := (s.chan k).retries + 1 }).bump (Od.key (0x3250 + k) 8)).chan k =
      { s.chan k with trip := 0, retries := (s.chan k).retries + 1 } := (chan_of_fio (bump_fio ..) k).trans (chan_setChan_self _)
  have hcom : ((s.setChan k { s.chan k with trip := 0, retries := (s.chan k).retries + 1 }).bump (Od.key (0x3250 + k) 8)).commanded k =
      s.commanded k := (commanded_bump hk (by omega)).trans (commanded_setChan _ k)
  have hint : ((s.setChan k { s.chan k with trip := 0, retries := (s.chan k).retries + 1 }).bump (Od.key (0x3250 + k) 8)).int
      (Od.key (0x3250 + k) 8) = min (s.int (Od.key (0x3250 + k) 8) + 1) 0xFFFFFFFF := (int_bump_self ..).trans (by rw [int_setChan])
  generalize (s.setChan k { s.chan k with trip := 0, retries := (s.chan k).retries + 1 }).bump (Od.key (0x3250 + k) 8) = u at hchan hcom hint
  have hsteady := (driven_settle (s := u)).1
  refine ⟨hsteady.trip_none hk (by rw [hchan]), fun hon => ?_, ?_⟩
  · rw [(hsteady.trip_kept hk (hcom.trans hon)).2, hchan]
  · rw [hsteady.entry _ (steadyEntry_count hk (by decide) (by decide)), hint]

/-- The latched flags named are cleared, and with bit 0 a latched trip is let go. -/
def latchesCleared (s : State) (k mask : Nat) : State :=
  let u := s.put (fioDiag k + 2) ((s.nat (fioDiag k + 2) - Nat.land (s.nat (fioDiag k + 2)) mask : Nat) : Int)
  if mask.testBit 0 ∧ (u.chan k).trip = 1 then u.setChan k { u.chan k with trip := 0, retries := 0 } else u

theorem clearLatched_eq (mask : Nat) : s.clearLatched k mask = (s.latchesCleared k mask).settle := rfl

theorem int_latchesCleared (mask : Nat) : (s.latchesCleared k mask).int (fioDiag k + 2) =
    (s.nat (fioDiag k + 2) - Nat.land (s.nat (fioDiag k + 2)) mask : Nat) := by
  unfold latchesCleared
  dsimp only
  rw [int_ite, int_setChan, ite_self, int_put_self]

theorem chan_put (j : Nat) (v : Int) (a : Nat) : (s.put j v).chan a = s.chan a := chan_of_fio (put_fio ..) a

theorem chan_latchesCleared (mask j : Nat) : (s.latchesCleared k mask).chan j =
    if j = k ∧ mask.testBit 0 = true ∧ (s.chan k).trip = 1 then { s.chan k with trip := 0, retries := 0 } else s.chan j := by
  unfold latchesCleared
  dsimp only
  rw [chan_put]
  by_cases h : mask.testBit 0 = true ∧ (s.chan k).trip = 1
  · rw [if_pos h]
    by_cases hj : j = k
    · rw [if_pos ⟨hj, h⟩, hj, chan_setChan_self]
    · rw [if_neg fun hc => hj hc.1, chan_setChan_ne _ (Ne.symm hj), chan_put]
  · rw [if_neg h, if_neg fun hc => h hc.2, chan_put]

theorem commanded_latchesCleared (mask : Nat) (hk : k < 16) : (s.latchesCleared k mask).commanded k = s.commanded k := by
  have hdiag := fioDiag_eq k
  have hput : (s.put (fioDiag k + 2) ((s.nat (fioDiag k + 2) - Nat.land (s.nat (fioDiag k + 2)) mask : Nat) : Int)).commanded k = s.commanded k :=
    commanded_of_low (fun i _ hi _ => int_put_past _ (by omega) (by omega)) hk rfl rfl
  unfold latchesCleared
  dsimp only
  split
  · exact hput
  · exact hput

theorem clearLatched_parts (mask : BitVec 16) (hk : k < 16) :
    ((∀ j < 16, (s.chan j).reverse = false) →
      (s.clearLatched k mask.toNat).int (fioDiag k + 2) = (s.nat (fioDiag k + 2) - Nat.land (s.nat (fioDiag k + 2)) mask.toNat : Nat)) ∧
    (mask.getLsbD 0 = true → (s.chan k).trip = 1 →
      ((s.clearLatched k mask.toNat).chan k).trip = 0 ∧ ((s.clearLatched k mask.toNat).chan k).retries = 0) ∧
    (mask.getLsbD 0 = false → s.commanded k = true → ((s.clearLatched k mask.toNat).chan k).trip = (s.chan k).trip ∧
      ((s.clearLatched k mask.toNat).chan k).retries = (s.chan k).retries) := by
  have hdiag := fioDiag_eq k
  obtain ⟨hsteady, hcalm⟩ := driven_settle (s := s.latchesCleared k mask.toNat)
  rw [clearLatched_eq]
  refine ⟨fun hno => ?_, fun hbit htrip => ?_, fun hbit hon => ?_⟩
  · rw [hcalm (fun a ha => ?_) _ (by unfold emcyEntry; omega), int_latchesCleared]
    rw [chan_latchesCleared]
    split
    · exact hno k hk
    · exact hno a ha
  · have hchan : (s.latchesCleared k mask.toNat).chan k = { s.chan k with trip := 0, retries := 0 } :=
      (chan_latchesCleared ..).trans (if_pos ⟨rfl, hbit, htrip⟩)
    exact ⟨hsteady.trip_none hk (by rw [hchan]), hsteady.retries_none hk (by rw [hchan])⟩
  · have hchan : (s.latchesCleared k mask.toNat).chan k = s.chan k :=
      (chan_latchesCleared ..).trans (if_neg fun hc => Bool.noConfusion (hbit.symm.trans hc.2.1))
    rw [← hchan]
    exact hsteady.trip_kept hk ((commanded_latchesCleared _ hk).trans hon)

/-! ### The die link (R467) -/

/-- The die link as it was found. -/
def linkSet (s : State) (up : Bool) : State := { s with fio := { s.fio with link := up } }

theorem dieLink_eq (up : Bool) : s.dieLink up = (s.linkSet up).settle := rfl

theorem dieLink_parts (up : Bool) : (s.dieLink up).fio.link = up ∧ (s.dieLink up).fio.vf1 = s.fio.vf1 := by
  have hsteady := (driven_settle (s := s.linkSet up)).1
  rw [dieLink_eq]
  exact ⟨hsteady.die.1, hsteady.supplies.1⟩

theorem dieLink_dark (hready : s.isReady = true) : (s.dieLink false).fio.drive = 0 := by
  have hphase : s.power.phase ≠ .moored := by
    have hr : s.power.phase = .ready := of_decide_eq_true hready
    rw [hr]
    decide
  refine BitVec.eq_of_getLsbD_eq fun k hk => ?_
  have hsteady := (driven_settle (s := s.linkSet false)).1
  have hfollow : (s.linkSet false).settle.fio.drive.getLsbD k = (s.linkSet false).settle.applied k := bitFollows_settle hk
  have hnot : ¬ (s.linkSet false).Enabled k := by
    unfold Enabled
    rw [if_neg (show ¬ (s.linkSet false).power.phase = .moored from hphase)]
    exact fun h => Bool.noConfusion h.1
  rw [dieLink_eq, hfollow, show BitVec.getLsbD 0 k = false from BitVec.getLsbD_zero]
  exact Bool.eq_false_iff.mpr fun ha => hnot ((hsteady.enabled hk).mp (applied_iff.mp ha).1)

end State

/-- Settles O52, by what driving the outputs anew leaves of the channels, and the driver bits that follow the outputs applied. -/
theorem outputsAreCommanded : Obligations.OutputsAreCommanded := by
  refine ⟨?_, ?_, ?_, ?_, ?_, ?_⟩
  · intro s w k v hw
    have hk := k.isLt
    have hst := fioSt_eq k
    refine ⟨fun hrole => congrArg Host.Outcome.next ((served_accessAct hw).trans ?_),
      fun hrole => ⟨_, congrArg Host.Outcome.next (served_accessAct hw), ?_⟩⟩
    · rw [command_refused hrole]
    · rw [command_taken hrole]
      have hsteady := (driven_settle (s := s.put (fioSt k + 1) v.toNat)).1
      refine ⟨?_, ?_, ?_, fun hmode hlink hprep hparked hoff hcool htrip => ?_⟩
      · rw [int_respond _ _ _ _ (by omega) (by simp only [respondEntry]; omega), hsteady.low _ (by omega) (by omega) (by omega), int_put_self]
      · rw [respond_fio]
        exact hsteady.supplies.1
      · rw [respond_fio]
        exact hsteady.supplies.2
      · have happlied := settled_command (v := v.toNat) hk hw.1 hrole hmode hlink hprep hparked hoff hcool htrip
        refine ⟨(applied_respond _ _ _ hk).trans happlied, ?_⟩
        rw [respond_fio]
        exact (bitFollows_settle hk).trans happlied
  · exact fun s k hready h => ⟨_, congrArg Host.Outcome.next (served_of_ready hready), tripRetry_parts k.isLt h⟩
  · exact fun s k h => congrArg Host.Outcome.next (served_eq_self (tripRetry_none h))
  · intro s w k m hw
    have hdiag := fioDiag_eq k
    have hk := k.isLt
    obtain ⟨hclear, hgone, hkept⟩ := clearLatched_parts (s := s) m k.isLt
    refine ⟨_, congrArg Host.Outcome.next (served_accessAct hw), fun hno => ?_, ?_⟩
    · rw [int_respond _ _ _ _ (by omega) (by simp only [respondEntry]; omega)]
      exact hclear fun j hj => hno ⟨j, hj⟩
    · rw [chan_of_fio (respond_fio ..)]
      exact ⟨hgone, hkept⟩
  · intro s hready
    have hnot : ¬ s.isReady = true := by simp [hready]
    exact ⟨congrArg Host.Outcome.next (if_neg hnot), congrArg Host.Outcome.next (if_neg hnot)⟩
  · intro s hready
    obtain ⟨hdown, hvf⟩ := dieLink_parts (s := s) false
    obtain ⟨hup, hvf'⟩ := dieLink_parts (s := s) true
    exact ⟨_, _, congrArg Host.Outcome.next (if_pos hready), congrArg Host.Outcome.next (if_pos hready), hdown, hup, dieLink_dark hready, hvf, hvf'⟩

end Sys2Proof.Machine

/-!
SUPPORT. Trips, group overload and heat of the outputs (R463 to R465): what a trip, a limit, a group's mean and a hot switch leave.
-/

namespace Sys2Proof.Machine

open State

/-- A walk over a list whose elements all leave the value. -/
theorem foldl_skip {α β : Type} (f : β → α → β) (b : β) : ∀ l : List α, (∀ x ∈ l, f b x = b) → l.foldl f b = b
  | [], _ => rfl
  | x :: l, h => by
    rw [List.foldl_cons, h x List.mem_cons_self]
    exact foldl_skip f b l fun y hy => h y (List.mem_cons_of_mem _ hy)

theorem getD_le_sum : ∀ (l : List Nat) (i : Nat), l.getD i 0 ≤ l.sum
  | [], i => by simp
  | x :: l, 0 => by simp
  | x :: l, i + 1 => by
    rw [List.sum_cons, List.getD_cons_succ]
    exact (getD_le_sum l i).trans (Nat.le_add_left ..)

namespace State

variable {s : State} {k : Nat}

/-! ### A flag latched (R472) -/

theorem int_latchFlag_count {bit : Nat} (h : flagCounter bit ≠ 0) (hk : k < 16) :
    (s.latchFlag k bit).int (Od.key (0x3250 + k) (flagCounter bit)) =
      min (s.int (Od.key (0x3250 + k) (flagCounter bit)) + 1) 0xFFFFFFFF := by
  have hle := flagCounter_le bit
  have hcount := fioCount_eq k (flagCounter bit)
  have hdiag : Od.key (0x3240 + k) 2 = 0x324000 + 256 * k + 2 := by
    simp only [Od.key]
    omega
  unfold latchFlag
  extract_lets u l v
  have hu : u.int (Od.key (0x3250 + k) (flagCounter bit)) = min (s.int (Od.key (0x3250 + k) (flagCounter bit)) + 1) 0xFFFFFFFF := by
    unfold u
    rw [if_neg h, int_bump_self]
  have hv : v.int (Od.key (0x3250 + k) (flagCounter bit)) = u.int (Od.key (0x3250 + k) (flagCounter bit)) :=
    int_put_past _ (by omega) (by omega)
  split
  · exact hu
  · split
    · exact hv.trans hu
    · exact (int_raise _ _ _ _ _ (by omega)).trans (hv.trans hu)

theorem int_latchFlag_new {bit : Nat} (hk : k < 16) (h : (s.nat (fioDiag k + 2)).testBit bit = false) :
    (s.latchFlag k bit).int (fioDiag k + 2) = (s.nat (fioDiag k + 2) + 2 ^ bit : Nat) := by
  have hle := flagCounter_le bit
  have hcount := fioCount_eq k (flagCounter bit)
  have hdiag : Od.key (0x3240 + k) 2 = fioDiag k + 2 := by rw [fioDiag, key_add]
  have hdiag' := fioDiag_eq k
  unfold latchFlag
  rw [hdiag]
  extract_lets u l v
  have hl : l = s.nat (fioDiag k + 2) := by
    refine congrArg Int.toNat ?_
    unfold u
    split
    · rfl
    · exact int_bump_past (by omega) (by omega)
  have hv : v.int (fioDiag k + 2) = (s.nat (fioDiag k + 2) + 2 ^ bit : Nat) := by
    unfold v
    rw [int_put_self, hl]
  rw [if_neg (by rw [hl, h]; exact Bool.noConfusion)]
  split
  · exact hv
  · exact (int_raise _ _ _ _ _ (by omega)).trans hv

/-! ### A channel changed and its flag latched -/

/-- A channel changed, and a flag latched for it. -/
def chanLatched (s : State) (k : Nat) (x : Channel) (bit : Nat) : State := (s.setChan k x).latchFlag k bit

theorem chan_chanLatched (x : Channel) (bit j : Nat) : (s.chanLatched k x bit).chan j = (s.setChan k x).chan j := chan_of_fio (latchFlag_fio bit) j

theorem int_chanLatched {j : Nat} (x : Channel) (bit : Nat) (hk : k < 16) (hj : j < 0x324000) : (s.chanLatched k x bit).int j = s.int j :=
  (int_latchFlag hk hj).trans (int_setChan ..)

theorem chanLatched_fio (x : Channel) (bit : Nat) : (s.chanLatched k x bit).fio = (s.setChan k x).fio := latchFlag_fio bit

theorem chanLatched_keep (x : Channel) (bit : Nat) : Keep driveParts s (s.chanLatched k x bit) :=
  State.latchFlag_keep rfl (State.setChan_keep rfl (.refl _ s))

theorem commanded_chanLatched (x : Channel) (bit : Nat) {j : Nat} (hk : k < 16) (hj : j < 16) :
    (s.chanLatched k x bit).commanded j = s.commanded j :=
  commanded_of_low (fun i _ hi _ => int_chanLatched x bit hk hi) hj (by rw [chanLatched_fio]; rfl)
    ((chanLatched_keep x bit).same .slices (by decide))

theorem enabled_chanLatched (x : Channel) (bit : Nat) {j : Nat} (hk : k < 16) (hj : j < 16) :
    (s.chanLatched k x bit).Enabled j ↔ s.Enabled j := by
  have hkeep := chanLatched_keep (s := s) (k := k) x bit
  exact enabled_of_reads (hkeep.same .power (by decide)) (hkeep.same .pair (by decide)) (hkeep.same .pairing (by decide))
    (by rw [chanLatched_fio]; rfl) (by rw [chanLatched_fio]; rfl) (int_chanLatched x bit hk (by decide))
    (fioMode_of_low (fun i _ hi _ => int_chanLatched x bit hk hi) hj) (commanded_chanLatched x bit hk hj)

theorem supplyOf_chanLatched (x : Channel) (bit j : Nat) : (s.chanLatched k x bit).supplyOf j = s.supplyOf j := by
  unfold supplyOf supply
  rw [chanLatched_fio]
  rfl

/-- An output applied in a ready device is commanded on. -/
theorem commanded_of_applied (hready : s.isReady = true) (h : s.applied k = true) : s.commanded k = true := by
  have hphase : s.power.phase ≠ .moored := by
    have hr : s.power.phase = .ready := of_decide_eq_true hready
    rw [hr]
    decide
  obtain ⟨hen, -⟩ := applied_iff.mp h
  unfold Enabled at hen
  rw [if_neg hphase] at hen
  exact hen.2.2.2

/-! ### Trips and limits (R463) -/

/-- A trip of a channel that does not retry. -/
theorem tripChannel_latched (h : s.int (fioCfg k + 8) = 0) :
    ∃ n, s.tripChannel k = s.chanLatched k { s.chan k with limit := false, trip := 1, retries := n } 0 := by
  unfold tripChannel
  extract_lets c held n again src
  have hagain : again = false := by
    unfold again
    rw [h]
    rfl
  refine ⟨n, ?_⟩
  unfold src
  rw [hagain]
  rfl

theorem currentLimit_off {phase : Nat} (h : s.applied k = false) : s.currentLimit k phase = s := if_pos h

theorem currentLimit_begins (ha : s.applied k = true) (hl : (s.chan k).limit = false) :
    s.currentLimit k 0 = (s.chanLatched k { s.chan k with limit := true } 1).settle := by
  unfold currentLimit
  rw [if_neg (by simp [ha]), if_pos rfl, if_neg (by simp [hl])]
  rfl

theorem currentLimit_trips (ha : s.applied k = true) (hl : (s.chan k).limit = true) : s.currentLimit k 1 = (s.tripChannel k).settle := by
  unfold currentLimit
  dsimp only
  rw [if_neg (by simp [ha]), if_neg (by decide), if_pos rfl, if_pos hl]

theorem currentLimit_limited (hk : k < 16) (ha : s.applied k = true) (hl : (s.chan k).limit = false) :
    ((s.currentLimit k 0).chan k).limit = true ∧ (s.currentLimit k 0).applied k = true ∧
    ((s.currentLimit k 0).nat (fioDiag k + 2)).testBit 1 = true := by
  obtain ⟨hen, hoff, hcool, htrip⟩ := applied_iff.mp ha
  rw [currentLimit_begins ha hl]
  have hchan : (s.chanLatched k { s.chan k with limit := true } 1).chan k = { s.chan k with limit := true } :=
    (chan_chanLatched ..).trans (chan_setChan_self _)
  have happlied : (s.chanLatched k { s.chan k with limit := true } 1).applied k = true :=
    applied_iff.mpr ⟨(enabled_chanLatched _ _ hk hk).mpr hen, by rw [supplyOf_chanLatched, hoff], by rw [hchan, hcool], by rw [hchan, htrip]⟩
  have hbit : ((s.chanLatched k { s.chan k with limit := true } 1).nat (fioDiag k + 2)).testBit 1 = true := by
    unfold chanLatched
    rw [testBit_latchFlag hk, if_pos rfl]
  generalize s.chanLatched k { s.chan k with limit := true } 1 = u at hchan happlied hbit
  have hsteady := (driven_settle (s := u)).1
  exact ⟨by rw [(hsteady.chan k hk).limit happlied, hchan], hsteady.applied hk happlied, hsteady.latched k hk 1 hbit⟩

theorem currentLimit_tripped (hk : k < 16) (hready : s.isReady = true) (ha : s.applied k = true) (hl : (s.chan k).limit = true)
    (hpolicy : s.int (fioCfg k + 8) = 0) (hbit : (s.nat (fioDiag k + 2)).testBit 0 = false) (hno : ∀ j < 16, (s.chan j).reverse = false) :
    ((s.currentLimit k 1).chan k).trip = 1 ∧ ((s.currentLimit k 1).chan k).limit = false ∧ (s.currentLimit k 1).applied k = false ∧
    (s.currentLimit k 1).int (fioDiag k + 2) = (s.nat (fioDiag k + 2) + 1 : Nat) ∧
    (s.currentLimit k 1).int (Od.key (0x3250 + k) 2) = min (s.int (Od.key (0x3250 + k) 2) + 1) 0xFFFFFFFF := by
  have hdiag := fioDiag_eq k
  obtain ⟨n, heq⟩ := tripChannel_latched hpolicy
  rw [currentLimit_trips ha hl, heq]
  have hchan (j : Nat) : (s.chanLatched k { s.chan k with limit := false, trip := 1, retries := n } 0).chan j =
      (s.setChan k { s.chan k with limit := false, trip := 1, retries := n }).chan j := chan_chanLatched ..
  have hcom := commanded_chanLatched (s := s) { s.chan k with limit := false, trip := 1, retries := n } 0 hk hk
  have hlatch : (s.chanLatched k { s.chan k with limit := false, trip := 1, retries := n } 0).int (fioDiag k + 2) =
      (s.nat (fioDiag k + 2) + 1 : Nat) := int_latchFlag_new hk hbit
  have hcount : (s.chanLatched k { s.chan k with limit := false, trip := 1, retries := n } 0).int (Od.key (0x3250 + k) 2) =
      min (s.int (Od.key (0x3250 + k) 2) + 1) 0xFFFFFFFF := (int_latchFlag_count (bit := 0) (by decide) hk).trans (by rw [show flagCounter 0 = 2 from rfl, int_setChan])
  generalize s.chanLatched k { s.chan k with limit := false, trip := 1, retries := n } 0 = u at hchan hcom hlatch hcount
  have hself : u.chan k = { s.chan k with limit := false, trip := 1, retries := n } := (hchan k).trans (chan_setChan_self _)
  obtain ⟨hsteady, hcalm⟩ := driven_settle (s := u)
  have htrip : (u.settle.chan k).trip = 1 := by
    rw [(hsteady.trip_kept hk (hcom.trans (commanded_of_applied hready ha))).1, hself]
  have hquiet (a : Nat) (ha : a < 16) : (u.chan a).reverse = false := by
    rw [hchan]
    by_cases hka : k = a
    · subst hka
      rw [chan_setChan_self]
      exact hno k hk
    · rw [chan_setChan_ne _ hka]
      exact hno a ha
  refine ⟨htrip, Bool.eq_false_iff.mpr fun hlim => ?_, Bool.eq_false_iff.mpr fun happ => ?_, ?_, ?_⟩
  · have hbefore := (hsteady.chan k hk).limited hlim
    rw [hself] at hbefore
    exact Bool.noConfusion hbefore
  · have hzero := (applied_iff.mp happ).2.2.2
    omega
  · rw [hcalm hquiet _ (by unfold emcyEntry; omega), hlatch]
  · rw [hsteady.entry _ (steadyEntry_count hk (by decide) (by decide)), hcount]

/-! ### Heat (R465) -/

theorem thermalShutdown_same : s.thermalShutdown k (s.chan k).thermal = s := if_pos rfl

theorem thermalShutdown_hot (hk : k < 16) (h : (s.chan k).thermal = false) : ((s.thermalShutdown k true).chan k).thermal = true ∧
    ((s.thermalShutdown k true).nat (fioDiag k + 2)).testBit 2 = true ∧
    (s.thermalShutdown k true).int (Od.key (0x3250 + k) 3) = min (s.int (Od.key (0x3250 + k) 3) + 1) 0xFFFFFFFF := by
  have heq : s.thermalShutdown k true = (s.chanLatched k { s.chan k with thermal := true } 2).settle :=
    (if_neg (by rw [h]; exact Bool.noConfusion)).trans (if_pos rfl)
  have hchan : (s.chanLatched k { s.chan k with thermal := true } 2).chan k = { s.chan k with thermal := true } :=
    (chan_chanLatched ..).trans (chan_setChan_self _)
  have hbit : ((s.chanLatched k { s.chan k with thermal := true } 2).nat (fioDiag k + 2)).testBit 2 = true := by
    unfold chanLatched
    rw [testBit_latchFlag hk, if_pos rfl]
  have hcount : (s.chanLatched k { s.chan k with thermal := true } 2).int (Od.key (0x3250 + k) 3) =
      min (s.int (Od.key (0x3250 + k) 3) + 1) 0xFFFFFFFF := (int_latchFlag_count (bit := 2) (by decide) hk).trans (by rw [show flagCounter 2 = 3 from rfl, int_setChan])
  rw [heq]
  generalize s.chanLatched k { s.chan k with thermal := true } 2 = u at hchan hbit hcount
  have hsteady := (driven_settle (s := u)).1
  refine ⟨by rw [(hsteady.chan k hk).thermal, hchan], hsteady.latched k hk 2 hbit, ?_⟩
  rw [hsteady.entry _ (steadyEntry_count hk (by decide) (by decide)), hcount]

theorem thermalShutdown_cool (hk : k < 16) (h : (s.chan k).thermal = true) : ((s.thermalShutdown k false).chan k).thermal = false := by
  have heq : s.thermalShutdown k false = (s.setChan k { s.chan k with thermal := false }).settle :=
    (if_neg (by rw [h]; exact Bool.noConfusion)).trans (if_neg Bool.noConfusion)
  have hchan : (s.setChan k { s.chan k with thermal := false }).chan k = { s.chan k with thermal := false } := chan_setChan_self _
  rw [heq]
  generalize s.setChan k { s.chan k with thermal := false } = u at hchan
  rw [((driven_settle (s := u)).1.chan k hk).thermal, hchan]

/-! ### The mean of a group (R464) -/

@[simp] theorem supply_setSupply_self (g : Nat) (x : Supply) : (s.setSupply g x).supply g = x := by
  unfold setSupply supply
  split <;> rfl

theorem int_setSupply (g : Nat) (x : Supply) (j : Nat) : (s.setSupply g x).int j = s.int j := by
  unfold setSupply
  split
  · exact int_with_fio ..
  · exact int_with_fio ..

theorem setSupply_fio (g : Nat) (x : Supply) : ∃ a b, (s.setSupply g x).fio = { s.fio with vf1 := a, vf2 := b } := by
  unfold setSupply
  split
  · exact ⟨_, _, rfl⟩
  · exact ⟨_, _, rfl⟩

theorem supply_of_fio {t : State} (h : t.fio.vf1 = s.fio.vf1 ∧ t.fio.vf2 = s.fio.vf2) (g : Nat) : t.supply g = s.supply g := by
  unfold supply
  rw [h.1, h.2]

/-- Entries written one after the other, each under its own key. -/
theorem int_foldl_put (f : Nat → Nat) (v : Nat → Int) (hpast : ∀ i, 0x314007 ≤ f i) (hinj : ∀ i j, i ≠ j → f i ≠ f j) :
    ∀ (n : Nat) (u : State), (∀ i < n, ((List.range n).foldl (fun s i => s.put (f i) (v i)) u).int (f i) = v i) ∧
      ∀ j, (∀ i < n, f i ≠ j) → ((List.range n).foldl (fun s i => s.put (f i) (v i)) u).int j = u.int j
  | 0, u => ⟨fun i hi => absurd hi (Nat.not_lt_zero i), fun _ _ => rfl⟩
  | n + 1, u => by
    obtain ⟨hself, hother⟩ := int_foldl_put f v hpast hinj n u
    rw [List.range_succ, List.foldl_append, List.foldl_cons, List.foldl_nil]
    refine ⟨fun i hi => ?_, fun j hj => ?_⟩
    · by_cases h : i = n
      · rw [h, int_put_self]
      · rw [int_put_past _ (hpast n) (hinj _ _ (Ne.symm h)), hself i (by omega)]
    · rw [int_put_past _ (hpast n) (hj n (by omega)), hother j fun i hi => hj i (by omega)]

/-- The currents of a group, shown. -/
def currentsShown (s : State) (g : Nat) (l : List Nat) : State :=
  (List.range 8).foldl (fun s i => s.put (fioSt (8 * g + i) + 6) (min (l.getD i 0 : Int) 65535)) (s.put (0x320005 + g) (min (l.sum : Int) 65535))

theorem currentsShown_reads {g : Nat} (l : List Nat) (hg : g < 2) : (s.currentsShown g l).int (0x320005 + g) = (min (l.sum : Int) 65535) ∧
    (∀ i < 8, (s.currentsShown g l).int (fioSt (8 * g + i) + 6) = (min (l.getD i 0 : Int) 65535)) ∧
    ∀ j, j ≠ 0x320005 + g → j % 256 ≠ 6 → (s.currentsShown g l).int j = s.int j := by
  obtain ⟨hself, hother⟩ := int_foldl_put (fun i => fioSt (8 * g + i) + 6) (fun i => (min (l.getD i 0 : Int) 65535))
    (fun i => by have := fioSt_eq (8 * g + i); omega)
    (fun i j hij => by have := fioSt_eq (8 * g + i); have := fioSt_eq (8 * g + j); omega) 8 (s.put (0x320005 + g) (min (l.sum : Int) 65535))
  refine ⟨?_, hself, fun j hj h6 => ?_⟩
  · refine (hother _ fun i _ => ?_).trans (int_put_self ..)
    have := fioSt_eq (8 * g + i)
    omega
  · refine (hother _ fun i _ => ?_).trans (int_put_past _ (by omega) (Ne.symm hj))
    have := fioSt_eq (8 * g + i)
    omega

theorem currentsShown_fio (g : Nat) (l : List Nat) : (s.currentsShown g l).fio = s.fio :=
  (foldl_proj State.fio _ (fun _ _ => put_fio ..) _).trans (put_fio ..)

theorem currentsShown_keep (g : Nat) (l : List Nat) : Keep driveParts s (s.currentsShown g l) :=
  Keep.foldl (fun _ _ h => State.put_keep rfl h) (State.put_keep rfl (.refl _ s))

/-- The flag of the group's overload taken off its channels. -/
def overloadCleared (s : State) (g : Nat) : State := (List.range 8).foldl (fun s i => s.setFlag (8 * g + i) 9 false) s

theorem setFlag_off (b : Nat) : ∃ c, s.setFlag k b false = { s with fio := { s.fio with chans := c } } := by
  unfold setFlag
  dsimp only
  split
  · exact ⟨_, rfl⟩
  · rw [if_neg Bool.noConfusion]
    exact ⟨_, rfl⟩

theorem overloadCleared_eq (g : Nat) : ∃ c, s.overloadCleared g = { s with fio := { s.fio with chans := c } } := by
  have hfold : ∀ (l : List Nat) (u : State), ∃ c, l.foldl (fun s i => s.setFlag (8 * g + i) 9 false) u =
      { u with fio := { u.fio with chans := c } } := by
    intro l
    induction l with
    | nil => exact fun u => ⟨_, rfl⟩
    | cons i l ih =>
      intro u
      obtain ⟨c, hc⟩ := setFlag_off (s := u) (k := 8 * g + i) 9
      obtain ⟨d, hd⟩ := ih (u.setFlag (8 * g + i) 9 false)
      refine ⟨d, ?_⟩
      rw [List.foldl_cons, hd, hc]
  exact hfold _ s

theorem groupOverload_within {g : Nat} {l : List Nat} (h : l.sum ≤ 4000) : s.groupOverload g l =
    ((s.currentsShown g l).setSupply g { (s.currentsShown g l).supply g with overload := false }).overloadCleared g := by
  unfold groupOverload
  dsimp only
  rw [if_neg (by omega)]
  rfl

theorem groupOverload_cleared {g : Nat} {l : List Nat} (hg : g < 2) (h : l.sum ≤ 4000) :
    (s.groupOverload g l).int (0x320005 + g) = l.sum ∧ ((s.groupOverload g l).supply g).overload = false ∧
    (s.groupOverload g l).fio.drive = s.fio.drive ∧ ∀ i < 8, (s.groupOverload g l).int (fioSt (8 * g + i) + 6) = (l.getD i 0 : Nat) := by
  obtain ⟨hsum, hmeans, -⟩ := currentsShown_reads (s := s) l hg
  have hfio := currentsShown_fio (s := s) g l
  rw [groupOverload_within h]
  generalize s.currentsShown g l = u at hsum hmeans hfio
  obtain ⟨c, hc⟩ := overloadCleared_eq (s := u.setSupply g { u.supply g with overload := false }) g
  obtain ⟨a, b, hab⟩ := setSupply_fio (s := u) g { u.supply g with overload := false }
  have hself : (u.setSupply g { u.supply g with overload := false }).supply g = { u.supply g with overload := false } := supply_setSupply_self ..
  have hint (j : Nat) : (u.setSupply g { u.supply g with overload := false }).int j = u.int j := int_setSupply ..
  rw [hc]
  generalize u.setSupply g { u.supply g with overload := false } = w at hab hself hint
  refine ⟨?_, ?_, ?_, fun i hi => ?_⟩
  · refine (int_with_fio ..).trans ((hint _).trans (hsum.trans ?_))
    rw [min_eq_left (by omega)]
  · refine (congrArg Supply.overload (supply_of_fio (s := w) ⟨rfl, rfl⟩ g)).trans ?_
    rw [hself]
  · change w.fio.drive = _
    rw [hab, hfio]
  · have hle := getD_le_sum l i
    refine (int_with_fio ..).trans ((hint _).trans ((hmeans i hi).trans ?_))
    rw [min_eq_left (by omega)]

/-- The channel of a group with the highest current, of those whose outputs are on. -/
def topCurrent (s : State) (g : Nat) (l : List Nat) : Option Nat :=
  (List.range 8).foldl (fun (o : Option Nat) i =>
    if s.applied (8 * g + i) then
      match o with
      | some j => if l.getD j 0 ≤ l.getD i 0 then some i else some j
      | none => some i
    else o) none

theorem topCurrent_only {g i : Nat} (l : List Nat) (hi : i < 8) (ha : s.applied (8 * g + i) = true)
    (hothers : ∀ j < 8, j ≠ i → s.applied (8 * g + j) = false) : s.topCurrent g l = some i := by
  have hsplit : List.range 8 = List.range i ++ i :: (List.range (7 - i)).map (· + (i + 1)) := by
    interval_cases i <;> rfl
  unfold topCurrent
  rw [hsplit, List.foldl_append, List.foldl_cons, foldl_skip _ none _ fun j hj => ?_, if_pos ha, foldl_skip _ (some i) _ fun j hj => ?_]
  · obtain ⟨m, hm, rfl⟩ := List.mem_map.mp hj
    have hm' := List.mem_range.mp hm
    exact if_neg (by rw [hothers _ (by omega) (by omega)]; exact Bool.noConfusion)
  · have hj' := List.mem_range.mp hj
    exact if_neg (by rw [hothers _ (by omega) (by omega)]; exact Bool.noConfusion)

theorem groupOverload_past {g i : Nat} {l : List Nat} (h : 4000 < l.sum) (htop : (s.currentsShown g l).topCurrent g l = some i) :
    s.groupOverload g l = (((((s.currentsShown g l).setSupply g { (s.currentsShown g l).supply g with overload := true }).tripChannel
      (8 * g + i)).setFlag (8 * g + i) 9 true)).settle := by
  have hshown : s.groupOverload g l =
      match (s.currentsShown g l).topCurrent g l with
      | some i => (((((s.currentsShown g l).setSupply g { (s.currentsShown g l).supply g with overload := true }).tripChannel
          (8 * g + i)).setFlag (8 * g + i) 9 true)).settle
      | none => (s.currentsShown g l).setSupply g { (s.currentsShown g l).supply g with overload := true } := by
    unfold groupOverload
    dsimp only
    rw [if_pos h]
    rfl
  rw [hshown, htop]

/-- A flag set on a channel: the bit, the other channels, and the entries of the commands. -/
theorem setFlag_set (b : Nat) (hb : b < 16) : ((s.setFlag k b true).chan k).flags.getLsbD b = true := by
  unfold setFlag
  dsimp only
  split
  · assumption
  · rw [if_pos rfl, chan_of_fio (latchFlag_fio b), chan_setChan_self, BitVec.getLsbD_or, BitVec.getLsbD_ofNat, Nat.testBit_two_pow_self]
    simp [hb]

theorem commanded_setFlag (b : Nat) {j : Nat} (hk : k < 16) (hj : j < 16) : (s.setFlag k b true).commanded j = s.commanded j := by
  unfold setFlag
  dsimp only
  split
  · rfl
  · rw [if_pos rfl]
    exact commanded_chanLatched _ b hk hj

theorem setFlag_supplies (b : Nat) : (s.setFlag k b true).fio.vf1 = s.fio.vf1 ∧ (s.setFlag k b true).fio.vf2 = s.fio.vf2 := by
  unfold setFlag
  dsimp only
  split
  · exact ⟨rfl, rfl⟩
  · rw [if_pos rfl, latchFlag_fio]
    exact ⟨rfl, rfl⟩

/-- The one output that is on trips when its group draws too much. -/
theorem groupOverload_trips {g i : Nat} {l : List Nat} (hg : g < 2) (hi : i < 8) (hready : s.isReady = true) (h : 4000 < l.sum)
    (ha : s.applied (8 * g + i) = true) (hothers : ∀ j < 8, j ≠ i → s.applied (8 * g + j) = false)
    (hpolicy : s.int (fioCfg (8 * g + i) + 8) = 0) : ((s.groupOverload g l).supply g).overload = true ∧
      ((s.groupOverload g l).chan (8 * g + i)).trip = 1 ∧ ((s.groupOverload g l).chan (8 * g + i)).flags.getLsbD 9 = true := by
  have hk : 8 * g + i < 16 := by omega
  have hcfg := fioCfg_eq (8 * g + i)
  obtain ⟨-, -, hother⟩ := currentsShown_reads (s := s) l hg
  have hfio := currentsShown_fio (s := s) g l
  have hkeep := currentsShown_keep (s := s) g l
  have hlow (j : Nat) (hlo : 0x321000 ≤ j) (_ : j < 0x324000) (h6 : j % 256 ≠ 6) : (s.currentsShown g l).int j = s.int j := hother j (by omega) h6
  have hcom {j : Nat} (hj : j < 16) : (s.currentsShown g l).commanded j = s.commanded j :=
    commanded_of_low hlow hj (by rw [hfio]) (hkeep.same .slices (by decide))
  have happlied {j : Nat} (hj : j < 16) : (s.currentsShown g l).applied j = s.applied j := by
    have hen := enabled_of_reads (s := s) (k := j) (hkeep.same .power (by decide)) (hkeep.same .pair (by decide))
      (hkeep.same .pairing (by decide)) (by rw [hfio]) (by rw [hfio]) (hother _ (by omega) (by decide)) (fioMode_of_low hlow hj) (hcom hj)
    rw [Bool.eq_iff_iff, applied_iff, applied_iff, hen, chan_of_fio hfio,
      show (s.currentsShown g l).supplyOf j = s.supplyOf j from supply_of_fio ⟨by rw [hfio], by rw [hfio]⟩ _]
  have htop : (s.currentsShown g l).topCurrent g l = some i :=
    topCurrent_only l hi ((happlied hk).trans ha) fun j hj hne => (happlied (by omega)).trans (hothers j hj hne)
  rw [groupOverload_past h htop]
  have hpolicy' := (hother _ (by omega) (by omega)).trans hpolicy
  have hon : (s.currentsShown g l).commanded (8 * g + i) = true := (hcom hk).trans (commanded_of_applied hready ha)
  generalize s.currentsShown g l = u at hpolicy' hon
  obtain ⟨n, htrip⟩ := tripChannel_latched (s := u.setSupply g { u.supply g with overload := true }) (k := 8 * g + i)
    ((int_setSupply ..).trans hpolicy')
  have hself : (u.setSupply g { u.supply g with overload := true }).supply g = { u.supply g with overload := true } := supply_setSupply_self ..
  have hcom' : (u.setSupply g { u.supply g with overload := true }).commanded (8 * g + i) = u.commanded (8 * g + i) := by
    obtain ⟨a, b, hab⟩ := setSupply_fio (s := u) g { u.supply g with overload := true }
    have hk' : Keep driveParts u (u.setSupply g { u.supply g with overload := true }) := State.setSupply_keep rfl (.refl _ u)
    exact commanded_of_low (fun j _ _ _ => int_setSupply ..) hk (by rw [hab]) (hk'.same .slices (by decide))
  rw [htrip]
  generalize u.setSupply g { u.supply g with overload := true } = w at hself hcom'
  have hv : ((w.chanLatched (8 * g + i) { w.chan (8 * g + i) with limit := false, trip := 1, retries := n } 0).chan (8 * g + i)).trip = 1 := by
    rw [chan_chanLatched, chan_setChan_self]
  have hvcom := commanded_chanLatched (s := w) { w.chan (8 * g + i) with limit := false, trip := 1, retries := n } 0 hk hk
  have hvsup : (w.chanLatched (8 * g + i) { w.chan (8 * g + i) with limit := false, trip := 1, retries := n } 0).supply g = w.supply g :=
    supply_of_fio (by rw [chanLatched_fio]; exact ⟨rfl, rfl⟩) g
  generalize w.chanLatched (8 * g + i) { w.chan (8 * g + i) with limit := false, trip := 1, retries := n } 0 = v at hv hvcom hvsup
  have hsteady := (driven_settle (s := v.setFlag (8 * g + i) 9 true)).1
  have hcommanded : (v.setFlag (8 * g + i) 9 true).commanded (8 * g + i) = true :=
    (commanded_setFlag 9 hk hk).trans (hvcom.trans (hcom'.trans hon))
  refine ⟨?_, ?_, ?_⟩
  · rw [supply_of_fio hsteady.supplies, supply_of_fio (setFlag_supplies 9), hvsup, hself]
  · rw [(hsteady.trip_kept hk hcommanded).1, (sameDrive_setFlag 9 true).1, hv]
  · rw [(hsteady.chan _ hk).flags 9 (by decide) (by decide) (by decide)]
    exact setFlag_set 9 (by decide)

end State

/-- Settles O53, by the channel that a trip, a limit or heat changes, and what driving the outputs anew leaves of it. -/
theorem protectionsTrip : Obligations.ProtectionsTrip := by
  refine ⟨?_, ?_, ?_, ?_, ?_, ?_, ?_⟩
  · exact fun s k phase h => congrArg Host.Outcome.next (served_eq_self (currentLimit_off h))
  · intro s k hready ha hl hpolicy hbit hno
    exact ⟨_, congrArg Host.Outcome.next (served_of_ready hready), currentLimit_tripped k.isLt hready ha hl hpolicy hbit fun j hj => hno ⟨j, hj⟩⟩
  · exact fun s k hready ha hl => ⟨_, congrArg Host.Outcome.next (served_of_ready hready), currentLimit_limited k.isLt ha hl⟩
  · intro s g l hready h
    obtain ⟨hsum, hover, hdrive, hmeans⟩ := groupOverload_cleared (s := s) g.isLt h
    exact ⟨_, congrArg Host.Outcome.next (served_of_ready hready), hsum, hover, hdrive, fun i => hmeans i i.isLt⟩
  · intro s g l i hready h ha hothers hpolicy
    exact ⟨_, congrArg Host.Outcome.next (served_of_ready hready), groupOverload_trips g.isLt i.isLt hready h ha
      (fun j hj hne => hothers ⟨j, hj⟩ fun heq => hne (congrArg Fin.val heq)) hpolicy⟩
  · exact fun s k hready => ⟨fun h => ⟨_, congrArg Host.Outcome.next (served_of_ready hready), thermalShutdown_hot k.isLt h⟩,
      fun h => ⟨_, congrArg Host.Outcome.next (served_of_ready hready), thermalShutdown_cool k.isLt h⟩⟩
  · exact fun s k => congrArg Host.Outcome.next (served_eq_self thermalShutdown_same)

end Sys2Proof.Machine

/-!
SUPPORT. Supplies of the field groups (R467, R474, R475): a sag and its end, a supply that goes off, and its restore.
-/

namespace Sys2Proof.Machine

open State

namespace State

variable {s : State} {g : Nat}

/-! ### A flag latched on a group -/

/-- A flag latched on each channel of a group. -/
def groupLatched (s : State) (g bit : Nat) : State := s.onGroup g (fun s k => s.latchFlag k bit)

theorem groupLatched_fio (bit : Nat) : (s.groupLatched g bit).fio = s.fio :=
  foldl_proj State.fio _ (fun _ _ => latchFlag_fio bit) s

theorem int_groupLatched {j : Nat} (bit : Nat) (hg : g < 2) (hj : j < 0x324000) : (s.groupLatched g bit).int j = s.int j :=
  int_foldl _ _ fun i hi u => int_latchFlag (by have := List.mem_range.mp hi; omega) hj

theorem groupLatched_bit (bit : Nat) (hg : g < 2) {i : Nat} (hi : i < 8) :
    ((s.groupLatched g bit).nat (fioDiag (8 * g + i) + 2)).testBit bit = true := by
  have hsplit : List.range 8 = List.range i ++ i :: (List.range (7 - i)).map (· + (i + 1)) := by
    interval_cases i <;> rfl
  have hrest : ∀ (l : List Nat) (u : State), (∀ a ∈ l, a < 8) → (u.nat (fioDiag (8 * g + i) + 2)).testBit bit = true →
      ((l.foldl (fun s a => s.latchFlag (8 * g + a) bit) u).nat (fioDiag (8 * g + i) + 2)).testBit bit = true := by
    intro l
    induction l with
    | nil => exact fun _ _ h => h
    | cons a l ih =>
      intro u hl h
      have ha := hl a List.mem_cons_self
      exact ih _ (fun b hb => hl b (List.mem_cons_of_mem _ hb)) (latched_latchFlag (by omega) (by omega) h)
  unfold groupLatched onGroup
  rw [hsplit, List.foldl_append, List.foldl_cons]
  refine hrest _ _ (fun a ha => ?_) ?_
  · obtain ⟨m, hm, rfl⟩ := List.mem_map.mp ha
    have hm' := List.mem_range.mp hm
    omega
  · rw [testBit_latchFlag (by omega), if_pos rfl]

/-! ### A supply set -/

theorem supply_setSupply_ne {h : Nat} (x : Supply) (hg : g < 2) (hh : h < 2) (hne : g ≠ h) : (s.setSupply g x).supply h = s.supply h := by
  unfold setSupply supply
  by_cases h0 : g = 0
  · rw [if_pos h0, if_neg (by omega), if_neg (by omega)]
  · rw [if_neg h0, if_pos (by omega), if_pos (by omega)]

theorem Steady.supply {t : State} (h : Steady s t) (g : Nat) : t.supply g = s.supply g := supply_of_fio h.supplies g

theorem supply_settle : s.settle.supply g = s.supply g := driven_settle.1.supply g

theorem supply_with_od {t : State} (h : t.fio = s.fio) : t.supply g = s.supply g := supply_of_fio ⟨by rw [h], by rw [h]⟩ g

/-! ### A sag (R474) -/

/-- A sag marked, counted and flagged. -/
def sagMarked (s : State) (g : Nat) : State :=
  ((s.setSupply g { s.supply g with sag := true }).bump (0x320203 + g)).groupLatched g 10

theorem sagBegins_marked (h : (s.supply g).sag = false) : s.sagBegins g = s.sagMarked g := if_neg (by simp [h])

theorem supply_sagMarked : (s.sagMarked g).supply g = { s.supply g with sag := true } := by
  unfold sagMarked
  rw [supply_with_od (groupLatched_fio 10), supply_with_od (bump_fio ..), supply_setSupply_self]

theorem int_sagMarked {j : Nat} (hg : g < 2) (hj : j < 0x324000) :
    (s.sagMarked g).int j = ((s.setSupply g { s.supply g with sag := true }).bump (0x320203 + g)).int j := int_groupLatched 10 hg hj

theorem supplySag_parts {mv : Int} (hg : g < 2) (hsag : (s.supply g).sag = false) (hoff : (s.supply g).off = false) :
    ((s.supplySag g mv).supply g).sag = true ∧ ((s.supplySag g mv).supply g).off = false ∧ (s.supplySag g mv).int (0x320201 + g) = mv ∧
    (s.supplySag g mv).int (0x320203 + g) = min (s.int (0x320203 + g) + 1) 0xFFFFFFFF ∧
    ∀ i < 8, ((s.supplySag g mv).nat (fioDiag (8 * g + i) + 2)).testBit 10 = true := by
  have hput : (s.put (0x320201 + g) mv).supply g = s.supply g := supply_with_od (put_fio ..)
  have heq : s.supplySag g mv = ((s.put (0x320201 + g) mv).sagMarked g).settle :=
    congrArg settle (sagBegins_marked (by rw [hput]; exact hsag))
  have hsup := supply_sagMarked (s := s.put (0x320201 + g) mv) (g := g)
  have hread {j : Nat} (hlo : 0x320000 ≤ j) (hj : j < 0x324000) : ((s.put (0x320201 + g) mv).sagMarked g).settle.int j =
      (((s.put (0x320201 + g) mv).setSupply g { (s.put (0x320201 + g) mv).supply g with sag := true }).bump (0x320203 + g)).int j := by
    rw [int_settle hj (by unfold emcyEntry; omega), int_sagMarked hg hj]
  rw [heq, supply_settle, hsup, hput]
  refine ⟨rfl, hoff, ?_, ?_, fun i hi => ?_⟩
  · rw [hread (by omega) (by omega), int_bump_past (by omega) (by omega), int_setSupply, int_put_self]
  · rw [hread (by omega) (by omega), int_bump_self, int_setSupply, int_put_past _ (by omega) (by omega)]
  · exact driven_settle.1.latched _ (by omega) 10 (groupLatched_bit 10 hg hi)

/-- A supply whose sag ends, and whose restore begins under policy 0. -/
def sagEnded (s : State) (g : Nat) : Supply :=
  { s.supply g with sag := false, restoring := (s.supply g).off && decide (s.int 0x320102 = 0) }

theorem supplySagEnd_ends {mv : Int} (h : (s.supply g).sag = true) : s.supplySagEnd g mv =
    ((s.put (0x320201 + g) mv).setSupply g ((s.put (0x320201 + g) mv).sagEnded g)).settle :=
  if_pos (by rw [supply_with_od (put_fio ..), h])

theorem supplySagEnd_none {mv : Int} (h : (s.supply g).sag = false) : s.supplySagEnd g mv = s.put (0x320201 + g) mv :=
  if_neg (by rw [supply_with_od (put_fio ..), h]; exact Bool.noConfusion)

theorem supplySagEnd_parts {mv : Int} (hg : g < 2) (h : (s.supply g).sag = true) : ((s.supplySagEnd g mv).supply g).sag = false ∧
    ((s.supplySagEnd g mv).supply g).off = (s.supply g).off ∧
    ((s.supplySagEnd g mv).supply g).restoring = ((s.supply g).off && decide (s.int 0x320102 = 0)) ∧ (s.supplySagEnd g mv).int (0x320201 + g) = mv := by
  have hput : (s.put (0x320201 + g) mv).supply g = s.supply g := supply_with_od (put_fio ..)
  have hended : (s.put (0x320201 + g) mv).sagEnded g = s.sagEnded g := by
    unfold sagEnded
    rw [hput, int_put_past _ (by omega) (by omega)]
  rw [supplySagEnd_ends h, supply_settle, supply_setSupply_self, hended]
  refine ⟨rfl, rfl, rfl, ?_⟩
  rw [int_settle (by omega) (by unfold emcyEntry; omega), int_setSupply, int_put_self]

/-! ### A supply off (R475) -/

/-- A supply marked off, counted and flagged. -/
def offMarked (s : State) (g : Nat) : State :=
  ((s.setSupply g { s.supply g with off := true, restoring := false }).bump (0x320205 + g)).groupLatched g 11

theorem supply_offMarked : (s.offMarked g).supply g = { s.supply g with off := true, restoring := false } := by
  unfold offMarked
  rw [supply_with_od (groupLatched_fio 11), supply_with_od (bump_fio ..), supply_setSupply_self]

theorem supplyOff_parts {mv : Int} (hg : g < 2) (hsag : (s.supply g).sag = false) (hoff : (s.supply g).off = false) :
    ((s.supplyOff g mv).supply g).sag = true ∧ ((s.supplyOff g mv).supply g).off = true ∧ ((s.supplyOff g mv).supply g).restoring = false ∧
    (s.supplyOff g mv).int (0x320201 + g) = mv ∧ (s.supplyOff g mv).int (0x320205 + g) = min (s.int (0x320205 + g) + 1) 0xFFFFFFFF ∧
    ∀ i < 8, (s.supplyOff g mv).applied (8 * g + i) = false := by
  have hput : (s.put (0x320201 + g) mv).supply g = s.supply g := supply_with_od (put_fio ..)
  have hmarked := supply_sagMarked (s := s.put (0x320201 + g) mv) (g := g)
  have heq : s.supplyOff g mv = (((s.put (0x320201 + g) mv).sagMarked g).offMarked g).settle := by
    unfold supplyOff
    dsimp only
    rw [sagBegins_marked (by rw [hput]; exact hsag), if_neg (by rw [hmarked, hput, hoff]; exact Bool.noConfusion)]
    rfl
  have hsup := supply_offMarked (s := (s.put (0x320201 + g) mv).sagMarked g) (g := g)
  have hoffset {j : Nat} (hj : j < 0x324000) (h5 : 0x320205 + g ≠ j) : (((s.put (0x320201 + g) mv).sagMarked g).offMarked g).int j =
      (((s.put (0x320201 + g) mv).setSupply g { (s.put (0x320201 + g) mv).supply g with sag := true }).bump (0x320203 + g)).int j := by
    unfold offMarked
    rw [int_groupLatched 11 hg hj, int_bump_past (by omega) h5, int_setSupply, int_sagMarked hg hj]
  have hcount : (((s.put (0x320201 + g) mv).sagMarked g).offMarked g).int (0x320205 + g) = min (s.int (0x320205 + g) + 1) 0xFFFFFFFF := by
    unfold offMarked
    rw [int_groupLatched 11 hg (by omega), int_bump_self, int_setSupply, int_sagMarked hg (by omega), int_bump_past (by omega) (by omega),
      int_setSupply, int_put_past _ (by omega) (by omega)]
  have hsupply : (s.supplyOff g mv).supply g = { { s.supply g with sag := true } with off := true, restoring := false } := by
    rw [heq, supply_settle, hsup, hmarked, hput]
  rw [hsupply]
  refine ⟨rfl, rfl, rfl, ?_, ?_, fun i hi => ?_⟩
  · rw [heq, int_settle (by omega) (by unfold emcyEntry; omega), hoffset (by omega) (by omega), int_bump_past (by omega) (by omega),
      int_setSupply, int_put_self]
  · rw [heq, int_settle (by omega) (by unfold emcyEntry; omega), hcount]
  · refine Bool.eq_false_iff.mpr fun ha => ?_
    have hof : (s.supplyOff g mv).supplyOf (8 * g + i) = (s.supplyOff g mv).supply g := by
      unfold supplyOf
      rw [show (8 * g + i) / 8 = g by omega]
    have hno := (applied_iff.mp ha).2.1
    rw [hof, hsupply] at hno
    exact Bool.noConfusion hno

/-! ### A restore (R475) -/

theorem restoreGroup_supply : (s.restoreGroup g).supply g = { s.supply g with off := false, restoring := false } := by
  unfold restoreGroup
  rw [supply_settle, supply_setSupply_self]

theorem restoreGroup_supply_ne {h : Nat} (hg : g < 2) (hh : h < 2) (hne : g ≠ h) : (s.restoreGroup g).supply h = s.supply h := by
  unfold restoreGroup
  rw [supply_settle, supply_setSupply_ne _ hg hh hne]

theorem supplyRestore_runs (hoff : (s.supply g).off = true) (hsag : (s.supply g).sag = false) (hrun : (s.supply g).restoring = true) :
    s.supplyRestore g = s.restoreGroup g := if_pos ⟨hoff, hsag, hrun⟩

theorem supplyRestore_none (h : (s.supply g).off = false ∨ (s.supply g).restoring = false) : s.supplyRestore g = s := by
  refine if_neg ?_
  rintro ⟨hoff, -, hrun⟩
  exact h.elim (fun h0 => Bool.noConfusion (h0.symm.trans hoff)) fun h0 => Bool.noConfusion (h0.symm.trans hrun)

theorem restoreRequest_refused (h : s.fio.vf1.sag = true ∨ s.fio.vf2.sag = true) : s.restoreRequest 3 = (s, 9) :=
  if_pos (h.imp (fun h1 => ⟨rfl, h1⟩) fun h2 => ⟨rfl, h2⟩)

/-- A group restored where it is off. -/
def restored (s : State) (g : Nat) : State := if (s.supply g).off then s.restoreGroup g else s

theorem restored_off : ((s.restored g).supply g).off = false := by
  unfold restored
  split
  · rw [restoreGroup_supply]
  · next h => exact Bool.eq_false_iff.mpr h

theorem restored_ne {h : Nat} (hg : g < 2) (hh : h < 2) (hne : g ≠ h) : (s.restored g).supply h = s.supply h := by
  unfold restored
  split
  · exact restoreGroup_supply_ne hg hh hne
  · rfl

theorem restoreRequest_both (h1 : s.fio.vf1.sag = false) (h2 : s.fio.vf2.sag = false) :
    s.restoreRequest 3 = ((s.restored 0).restored 1, 0) := by
  unfold restoreRequest
  rw [if_neg (by simp [h1, h2])]
  have hone (u : State) : (if Nat.testBit 3 0 = true ∧ u.fio.vf1.off = true then u.restoreGroup 0 else u) = u.restored 0 := by
    unfold restored
    by_cases h : u.fio.vf1.off = true
    · rw [if_pos ⟨rfl, h⟩]
      exact (if_pos h).symm
    · rw [if_neg fun hc => h hc.2]
      exact (if_neg h).symm
  have htwo (u : State) : (if Nat.testBit 3 1 = true ∧ u.fio.vf2.off = true then u.restoreGroup 1 else u) = u.restored 1 := by
    unfold restored
    by_cases h : u.fio.vf2.off = true
    · rw [if_pos ⟨rfl, h⟩]
      exact (if_pos h).symm
    · rw [if_neg fun hc => h hc.2]
      exact (if_neg h).symm
  dsimp only
  rw [hone, htwo]

end State

/-- Settles O55, by the record of the group's supply, its entries, and what driving the outputs anew leaves of both. -/
theorem suppliesSwitchGroups : Obligations.SuppliesSwitchGroups := by
  refine ⟨?_, ?_, ?_, ?_, ?_, ?_, ?_⟩
  · intro s g mv hready hsag hoff
    obtain ⟨h1, h2, h3, h4, hbits⟩ := supplySag_parts (s := s) (mv := mv) g.isLt hsag hoff
    obtain ⟨k1, k2, k3, k4, k5, hdark⟩ := supplyOff_parts (s := s) (mv := mv) g.isLt hsag hoff
    exact ⟨⟨_, congrArg Host.Outcome.next (served_of_ready hready), h1, h2, h3, h4, fun i => hbits i i.isLt⟩,
      ⟨_, congrArg Host.Outcome.next (served_of_ready hready), k1, k2, k3, k4, k5, fun i => hdark i i.isLt⟩⟩
  · exact fun s g mv hready h => ⟨_, congrArg Host.Outcome.next (served_of_ready hready), supplySagEnd_parts g.isLt h⟩
  · exact fun s g mv hready h => congrArg Host.Outcome.next ((served_of_ready hready).trans (supplySagEnd_none h))
  · intro s g hready hoff hsag hrun
    refine ⟨_, congrArg Host.Outcome.next ((served_of_ready hready).trans (supplyRestore_runs hoff hsag hrun)), ?_⟩
    rw [restoreGroup_supply]
    exact ⟨rfl, rfl, hsag⟩
  · exact fun s g h => congrArg Host.Outcome.next (served_eq_self (supplyRestore_none h))
  · intro s w hw
    refine ⟨fun h => congrArg Host.Outcome.next ((served_accessAct hw).trans ?_),
      fun h1 h2 => ⟨_, congrArg Host.Outcome.next (served_accessAct hw), ?_⟩⟩
    · rw [show s.restoreRequest (3 : Byte).toNat = (s, 9) from restoreRequest_refused h]
    · rw [show s.restoreRequest (3 : Byte).toNat = ((s.restored 0).restored 1, 0) from restoreRequest_both h1 h2, respond_fio]
      have hfirst : (((s.restored 0).restored 1).supply 0).off = false := by
        rw [restored_ne (by decide) (by decide) (by decide)]
        exact restored_off
      exact ⟨hfirst, restored_off (s := s.restored 0) (g := 1)⟩
  · exact fun s g mv hready => congrArg Host.Outcome.next (served_of_ready hready)

end Sys2Proof.Machine

/-!
SUPPORT. The tow line of a pair (R278, R284, R290): its loss, its coming up, and what the partner sends over it.
-/

namespace Sys2Proof.Machine

open State

namespace State

variable {s : State}

/-- The pair with its tow line gone: what was compared of the partner is dropped. -/
def untowed (s : State) : State := s.setPair { s.pair with up := false, missing := 0, theirs := none, arbitrating := false }

/-- The entries of a lost tow line: at most one lane is left, and the loss is counted (R290). -/
def towLossTold (s : State) : State := (s.untowed.put 0x300106 (min 1 (s.int 0x300106))).bump 0x300207

theorem int_untowed (k : Nat) : s.untowed.int k = s.int k := rfl

theorem towLossTold_pair : s.towLossTold.pair = s.untowed.pair := by
  simp only [towLossTold, bump_pair, put_pair]

theorem towLossTold_lanes : s.towLossTold.int 0x300106 = min 1 (s.int 0x300106) :=
  (int_bump_ne _ (by decide) (by decide)).trans (int_put_self ..)

theorem towLossTold_count : s.towLossTold.int 0x300207 = min (s.int 0x300207 + 1) 0xFFFFFFFF := by
  rw [towLossTold, int_bump_self, int_put_ne _ _ (by decide) (by decide), int_untowed]

theorem towLossTold_state : s.towLossTold.pairState = s.pairState :=
  (int_bump_ne _ (by decide) (by decide)).trans
    (int_put_ne _ _ (by decide) (by decide))

/-- A unit in step or in doubt that loses its line is detached, and unheard from then on (R290). -/
def detached (s : State) : State := (s.toPairState 5).setPair { s.pair with unheard := 0 }

theorem towLost_detaches (hup : s.pair.up = true) (h : s.int 0x300101 = 3 ∨ s.int 0x300101 = 4) :
    s.towLost = s.towLossTold.detached.raise 224 0 0 0 :=
  (if_pos hup).trans (if_pos (show s.towLossTold.pairState = 3 ∨ s.towLossTold.pairState = 4 by
    rw [towLossTold_state]; exact h))

theorem int_detached {k : Nat} (h : 0x300101 ≠ k) : s.detached.int k = s.int k :=
  (int_put_ne (k := 0x300101) (s := s) 5 h (by decide))

theorem towLost_of_down (h : s.pair.up = false) : s.towLost = s := if_neg (by simp [h])

theorem towUp_unserved {n : Nat} (h : n < 2 ∨ s.pairing = false) : s.towUp n = s := if_pos h

/-- A line that comes up at a unit in step is noted alone: it neither resynchronises nor forms (R290). -/
theorem towUp_inStep {n : Nat} (hn : 2 ≤ n) (hp : s.pairing = true) (h : s.int 0x300101 = 3) :
    s.towUp n = { s.put 0x300106 n with pair := { s.pair with up := true, missing := 0 } } := by
  have hstate : ∀ x : Pair, ((s.towLanes n).setPair x).pairState = 3 := fun x =>
    (int_put_ne s (n : Int) (by decide) (by decide)).trans h
  unfold towUp
  rw [if_neg (by simp [hp]; omega)]
  dsimp only
  rw [if_neg (by rw [hstate]; omega), if_neg (by rw [hstate]; omega), tryForm, if_neg (by rw [hstate]; omega)]
  rfl

end State

/-- Settles O59, by the entries and the pair record that a lost line leaves, and each message's own update. -/
theorem towLine : Obligations.TowLine := by
  refine ⟨?_, ?_, ?_, ?_, ?_, ?_, ?_⟩
  · exact fun s n hready => congrArg Host.Outcome.next (served_of_ready hready)
  · intro s hready hup h
    have hexec : exec .towLineLost s = .next (s.towLossTold.detached.raise 224 0 0 0) :=
      congrArg Host.Outcome.next ((served_of_ready hready).trans (towLost_detaches hup h))
    have hkeep := exec_keep hexec
    have hpair : (s.towLossTold.detached.raise 224 0 0 0).pair = { s.towLossTold.pair with unheard := 0 } := raise_pair ..
    refine ⟨_, hexec, ?_, ?_, ?_, ?_, ?_, hkeep.same .fio (by decide)⟩
    · exact (int_raise _ _ _ _ _ (by decide)).trans (int_put_self s.towLossTold 0x300101 5)
    · rw [hpair, towLossTold_pair]
      rfl
    · rw [hpair]
    · rw [int_raise _ _ _ _ _ (by decide), int_detached (by decide), towLossTold_lanes]
    · rw [int_raise _ _ _ _ _ (by decide), int_detached (by decide), towLossTold_count]
  · exact fun s h => congrArg Host.Outcome.next (served_eq_self (towLost_of_down h))
  · exact fun s n h => congrArg Host.Outcome.next (served_eq_self (towUp_unserved h))
  · exact fun s n hready hn hp h => congrArg Host.Outcome.next ((served_of_ready hready).trans (towUp_inStep hn hp h))
  · exact fun s x h => congrArg Host.Outcome.next (served_eq_self (if_neg (by rcases h with h | h <;> simp [h])))
  · intro s d c n ts y hready hp hup
    have hserve : ∀ x : TowInput, exec (.towInputReceived x) s = .next (s.towReceived x) := fun x =>
      congrArg Host.Outcome.next ((served_of_ready hready).trans (if_pos (by simp [hp, hup])))
    exact ⟨hserve _, hserve _, hserve _, hserve _⟩

end Sys2Proof.Machine

/-!
SUPPORT. Wake sources in MOORED (R259, R269 to R272): what accepts them, what holds them, and how the wake goes on.
-/

namespace Sys2Proof.Machine

open State

namespace State

variable {s : State} {bit c d : Nat}

/-- A device that is MOORED with INH low, where a wake source can act (R269). -/
def Asleep (s : State) : Prop := s.power.phase = .moored ∧ s.power.inh = false ∧ s.power.powerUp = false

theorem Asleep.not_ready (h : s.Asleep) : s.isReady = false := by simp [isReady, h.1]

theorem wakeSource_accepted (h : s.Asleep) (hon : s.wakeEnabled bit = true) (hdwell : s.wake.dwell = false) :
    s.wakeSource bit c d = s.acceptWake c d := by
  obtain ⟨hphase, hinh, hup⟩ := h
  unfold wakeSource
  rw [if_pos ⟨hphase, hinh, hup, hon⟩, if_neg (by simp [hdwell])]

theorem wakeSource_held (h : s.Asleep) (hon : s.wakeEnabled bit = true) (hdwell : s.wake.dwell = true) :
    s.wakeSource bit c d = { s with wake := { s.wake with waiting := some (s.wake.waiting.getD (c, d)) } } := by
  obtain ⟨hphase, hinh, hup⟩ := h
  unfold wakeSource
  rw [if_pos ⟨hphase, hinh, hup, hon⟩, if_pos hdwell]

/-- With INH high a wake changes nothing (R272). -/
theorem wakeSource_awake (h : s.power.inh = true) : s.wakeSource bit c d = s := if_neg (by simp [h])

/-- WAKE_IN seen active. -/
def wakeSeen (s : State) : State := { s with wake := { s.wake with wakeIn := true } }

theorem Asleep.seen (h : s.Asleep) : s.wakeSeen.Asleep := h

/-- In MOORED the active WAKE_IN is a wake source of cause 1 (R269). -/
theorem wakeIn_asleep (h : s.Asleep) : s.wakeIn = s.wakeSeen.wakeSource 0 1 0 := by
  have hoff : ¬ s.power.phase = .off := by simp [h.1]
  unfold wakeIn
  rw [if_neg hoff]
  exact if_neg (by rw [show ({ s with wake := _ } : State) = s.wakeSeen from rfl, h.seen.not_ready]; decide)

/-- The dwell ended (R269). -/
def dwelt (s : State) : State := { s with wake := { s.wake with dwell := false } }

theorem dwellEnd_late (h : s.wake.dwell = true) (hl : s.wake.late = some d) : s.dwellEnd = s.dwelt.acceptWake 6 d := by
  unfold dwellEnd
  simp only [if_pos h, hl, dwelt]

theorem dwellEnd_waiting (h : s.wake.dwell = true) (hl : s.wake.late = none) (hw : s.wake.waiting = some (c, d)) :
    s.dwellEnd = s.dwelt.acceptWake c d := by
  unfold dwellEnd
  simp only [if_pos h, hl, hw, dwelt]

theorem dwellEnd_quiet (h : s.wake.dwell = true) (hl : s.wake.late = none) (hw : s.wake.waiting = none) : s.dwellEnd = s.dwelt := by
  unfold dwellEnd
  simp only [if_pos h, hl, hw, dwelt]

/-- The late wake comes before the source that waited, and both end the dwell (R269). -/
theorem dwellEnd_parts (h : s.wake.dwell = true) :
    s.dwellEnd.wake.dwell = false ∧
    (∀ d : Nat, s.wake.late = some d →
      s.dwellEnd.wake.accepted = some (6, d) ∧ s.dwellEnd.power.inh = true ∧ s.dwellEnd.power.wakeOut = true) ∧
    (∀ c d : Nat, s.wake.late = none → s.wake.waiting = some (c, d) →
      s.dwellEnd.wake.accepted = some (c, d) ∧ s.dwellEnd.power.inh = true ∧ s.dwellEnd.power.wakeOut = true) ∧
    (s.wake.late = none → s.wake.waiting = none →
      s.dwellEnd.wake.accepted = s.wake.accepted ∧ s.dwellEnd.power = s.power) := by
  refine ⟨?_, fun d hl => ?_, fun c d hl hw => ?_, fun hl hw => ?_⟩
  · cases hl : s.wake.late with
    | some d =>
      rw [dwellEnd_late h hl]
      rfl
    | none =>
      cases hw : s.wake.waiting with
      | some x =>
        rw [dwellEnd_waiting h hl hw]
        rfl
      | none =>
        rw [dwellEnd_quiet h hl hw]
        rfl
  · rw [dwellEnd_late h hl]
    exact ⟨rfl, rfl, rfl⟩
  · rw [dwellEnd_waiting h hl hw]
    exact ⟨rfl, rfl, rfl⟩
  · rw [dwellEnd_quiet h hl hw]
    exact ⟨rfl, rfl⟩

/-- The wake's record in the dictionary: its cause, its detail and its count (R270). -/
def wakeTold (s : State) (c d : Nat) : State := ((s.put 0x340106 c).put 0x340107 d).bump 0x340109

theorem wakeTold_entries :
    (s.wakeTold c d).int 0x340106 = c ∧ (s.wakeTold c d).int 0x340107 = d ∧
    (s.wakeTold c d).int 0x340109 = min (s.int 0x340109 + 1) 0xFFFFFFFF := by
  refine ⟨?_, ?_, ?_⟩
  · exact (int_bump_past (by decide) (by decide)).trans
      ((int_put_past _ (by decide) (by decide)).trans (int_put_self ..))
  · exact (int_bump_past (by decide) (by decide)).trans (int_put_self ..)
  · rw [wakeTold, int_bump_self, int_put_past _ (by decide) (by decide), int_put_past _ (by decide) (by decide)]

/-- The record is stored and the four wake lines are pulsed (R270). -/
def wakePulsed (s : State) (c d : Nat) : State := (s.wakeTold c d).storeStored.emit (.wakePulse 15)

theorem int_wakePulsed (k : Nat) : (s.wakePulsed c d).int k = (s.wakeTold c d).int k :=
  (int_emit ..).trans (int_storeStored (s.wakeTold c d) k)

theorem wakePulsed_power : (s.wakePulsed c d).power = s.power := by
  simp only [wakePulsed, wakeTold, emit_power, storeStored_power, bump_power, put_power]

theorem storeStored_out : s.storeStored.out = s.out := by
  unfold storeStored
  split <;> rfl

theorem wakePulsed_out : (s.wakePulsed c d).out = s.out ++ [.wakePulse 15] := by
  have h : (s.wakeTold c d).storeStored.out = s.out := by
    simp only [wakeTold, storeStored_out, bump_out, put_out]
  rw [← h]
  rfl

/-- The wake taken up: nothing is accepted any more, and WAKE_OUT is high (R270). -/
def wakeTaken (s : State) (c d : Nat) : State :=
  { s.wakePulsed c d with
    wake := { (s.wakePulsed c d).wake with accepted := none }
    power := { (s.wakePulsed c d).power with wakeOut := true } }

/-- The logic die powered by a wake (R270, R506). -/
def poweredByWake (s : State) : State := { s with power := { s.power with phase := .reset, cause := 8 } }

theorem wakeAccepted_eq (h : s.wake.accepted = some (c, d)) :
    s.wakeAccepted =
      if (s.wakeTaken c d).power.phase = .moored ∧ c ≠ 0 then (s.wakeTaken c d).poweredByWake else s.wakeTaken c d := by
  unfold wakeAccepted
  rw [h]
  rfl

theorem int_wakeTaken (k : Nat) : (s.wakeTaken c d).int k = (s.wakePulsed c d).int k := rfl

theorem int_poweredByWake (k : Nat) : s.poweredByWake.int k = s.int k := rfl

theorem wakeAccepted_parts (h : s.wake.accepted = some (c, d)) :
    s.wakeAccepted.wake.accepted = none ∧ s.wakeAccepted.power.wakeOut = true ∧
    s.wakeAccepted.out = s.out ++ [.wakePulse 15] ∧ (∀ k, s.wakeAccepted.int k = (s.wakeTold c d).int k) := by
  have hint : ∀ k, (s.wakeTaken c d).int k = (s.wakeTold c d).int k := fun k =>
    (int_wakeTaken k).trans (int_wakePulsed k)
  rw [wakeAccepted_eq h]
  split
  · exact ⟨rfl, rfl, wakePulsed_out, fun k => (int_poweredByWake k).trans (hint k)⟩
  · exact ⟨rfl, rfl, wakePulsed_out, hint⟩

/-- A wake leads a MOORED device to the reset of cause 8 (R270). -/
theorem wakeAccepted_power (h : s.wake.accepted = some (c, d)) (hphase : s.power.phase = .moored) (hc : c ≠ 0) :
    s.wakeAccepted.power.phase = .reset ∧ s.wakeAccepted.power.cause = 8 := by
  have hmoored : (s.wakeTaken c d).power.phase = .moored :=
    (congrArg (fun p : Power => p.phase) wakePulsed_power).trans hphase
  rw [wakeAccepted_eq h, if_pos ⟨hmoored, hc⟩]
  exact ⟨rfl, rfl⟩

end State

/-- Settles O57, by the sources that act on a sleeping device, the order of what waits in the dwell, and the wake's record. -/
theorem wakeSources : Obligations.WakeSources := by
  refine ⟨?_, ?_, ?_, ?_, ?_, ?_, ?_, ?_⟩
  · intro s hphase hinh hup hon
    have hasleep : s.Asleep := ⟨hphase, hinh, hup⟩
    exact ⟨fun h => congrArg Host.Outcome.next ((wakeIn_asleep hasleep).trans (wakeSource_accepted hasleep.seen hon h)),
      fun h => congrArg Host.Outcome.next ((wakeIn_asleep hasleep).trans (wakeSource_held hasleep.seen hon h))⟩
  · exact fun s h => congrArg Host.Outcome.next (if_pos h)
  · exact fun s => rfl
  · intro s p c f k hphase hinh hup hdwell
    have hasleep : s.Asleep := ⟨hphase, hinh, hup⟩
    have htaken : ∀ {bit cause detail : Nat}, s.wakeEnabled bit = true →
        s.wakeSource bit cause detail = s.acceptWake cause detail := fun hon => wakeSource_accepted hasleep hon hdwell
    exact ⟨fun hon => congrArg Host.Outcome.next (htaken hon),
      fun hon hmode => congrArg Host.Outcome.next ((if_pos hmode).trans (htaken hon)),
      fun hon hmode hmatch => congrArg Host.Outcome.next ((if_pos ⟨hmode, hmatch⟩).trans (htaken hon)),
      fun hon hrole => congrArg Host.Outcome.next ((if_pos hrole).trans (htaken hon))⟩
  · intro s p c f k hinh
    have hnone : ∀ {P : Prop} [Decidable P] (bit cause detail : Nat),
        (if P then s.wakeSource bit cause detail else s) = s := fun bit cause detail => by
      rw [wakeSource_awake hinh, ite_self]
    exact ⟨congrArg Host.Outcome.next (wakeSource_awake hinh), congrArg Host.Outcome.next (hnone ..),
      congrArg Host.Outcome.next (hnone ..), congrArg Host.Outcome.next (hnone ..)⟩
  · exact fun s h => ⟨_, rfl, dwellEnd_parts h⟩
  · intro s c d h
    obtain ⟨hacc, hwake, hout, hint⟩ := wakeAccepted_parts h
    obtain ⟨hcause, hdetail, hcount⟩ := wakeTold_entries (s := s) (c := c) (d := d)
    exact ⟨_, rfl, hacc, hwake, hout, (hint _).trans hcause, (hint _).trans hdetail, (hint _).trans hcount,
      wakeAccepted_power h⟩
  · intro s p hready hrun hprobe
    have hflag : s.flag 0x340007 = true := by simp [flag, hprobe]
    exact ⟨fun h => congrArg Host.Outcome.next ((served_of_ready hready).trans (if_pos ⟨hrun, h, hflag⟩)),
      fun h => congrArg Host.Outcome.next (served_eq_self (if_neg (by simp [h])))⟩

end Sys2Proof.Machine

/-!
SUPPORT. Votes, the awake limit, returning consent vectors and the PHYs' sleep (R259 to R268).
-/

namespace Sys2Proof.Machine

open State

namespace State

variable {s t : State}

/-! ### The votes (R259) -/

theorem flag_congr {k : Nat} (h : t.int k = s.int k) : t.flag k = s.flag k := by simp only [flag, h]

theorem any_range_congr {n : Nat} {p q : Nat → Bool} (h : ∀ k < n, p k = q k) :
    (List.range n).any p = (List.range n).any q := by
  rw [Bool.eq_iff_iff, List.any_eq_true, List.any_eq_true]
  exact exists_congr fun k => and_congr_right fun hk => by rw [h k (List.mem_range.mp hk)]

/-- The sources of the votes are told by the cab, WAKE_IN and entries outside the record of mooring (0x3401). -/
theorem voteSources_congr (hcab : t.mu.cab = s.mu.cab) (hwake : t.wake = s.wake)
    (hint : ∀ k, k < 0x350000 → k / 256 ≠ 0x3401 → t.int k = s.int k) : t.voteSources = s.voteSources := by
  have hasked : t.wakeAsked = s.wakeAsked := by
    refine any_range_congr fun k hk => ?_
    have hrole : t.fioRole k = s.fioRole k :=
      congrArg Int.toNat (hint (Od.key (0x3220 + k) 1) (by simp only [Od.key]; omega) (by simp only [Od.key]; omega))
    have hon : t.flag (Od.key (0x3230 + k) 4) = s.flag (Od.key (0x3230 + k) 4) :=
      flag_congr (hint _ (by simp only [Od.key]; omega) (by simp only [Od.key]; omega))
    rw [hrole, hon]
  have hmaking : t.muState = s.muState := hint _ (by decide) (by decide)
  have hfield : t.flag 0x340201 = s.flag 0x340201 := flag_congr (hint _ (by decide) (by decide))
  have hallowed : t.flag 0x340001 = s.flag 0x340001 := flag_congr (hint _ (by decide) (by decide))
  unfold voteSources
  rw [hasked, hcab, hwake, hfield, hmaking, hallowed]

theorem voteSources_lt : s.voteSources < 128 := by
  have hthen : ∀ (b : Bool) (n : Nat), (if b then n else 0) ≤ n := fun b n => by cases b <;> simp
  have helse : ∀ (b : Bool) (n : Nat), (if b then 0 else n) ≤ n := fun b n => by cases b <;> simp
  have hmaking : (if s.muState ≠ 0 then 32 else 0) ≤ 32 := by split <;> decide
  have h1 := hthen s.mu.cab 1
  have h2 := hthen s.wakeAsked 2
  have h4 := hthen s.wake.wakeIn 4
  have h8 := hthen (s.flag 0x340201) 8
  have h64 := helse (s.flag 0x340001) 64
  unfold voteSources
  omega

theorem votes_lt : s.votes < 256 :=
  Nat.or_lt_two_pow (n := 8) s.mooring.held.isLt (Nat.lt_trans voteSources_lt (by decide))

/-- The votes kept, reported at 0x3401:02. -/
def votesKept (s : State) : State :=
  { s.put 0x340102 s.votes with mooring := { s.mooring with held := BitVec.ofNat 8 s.votes } }

theorem int_votesKept {k : Nat} (h : k ≠ 0x340102) : s.votesKept.int k = s.int k :=
  (int_with_mooring ..).trans (int_put_past _ (by decide) h.symm)

theorem votes_votesKept : s.votesKept.votes = s.votes := by
  have hsources : s.votesKept.voteSources = s.voteSources :=
    voteSources_congr rfl rfl fun k _ hk => int_votesKept (by omega)
  have hheld : s.votesKept.mooring.held.toNat = s.votes := Nat.mod_eq_of_lt votes_lt
  rw [votes, hheld, hsources]
  exact (Nat.lor_assoc ..).trans (congrArg _ (Nat.or_self _))

/-- AWAKE or CONSENTING as the votes say, unless the device is PREPARING (R267). -/
def consentTold (s : State) : State := if s.mooringState = 2 then s else s.put 0x340101 (if s.consents then 1 else 0)

/-- Judging the votes keeps them, tells the partner of a change, and then tells the state. -/
theorem judgeVotes_cases :
    s.judgeVotes = s.votesKept.consentTold ∨ ∃ x, s.judgeVotes = (s.votesKept.toPartner x).consentTold := by
  unfold judgeVotes
  dsimp only
  split
  · exact .inr ⟨_, rfl⟩
  · exact .inl rfl

theorem int_consentTold {k : Nat} (h : k ≠ 0x340101) : s.consentTold.int k = s.int k := by
  unfold consentTold
  split
  · rfl
  · exact int_put_past _ (by decide) h.symm

theorem consentTold_mooring : s.consentTold.mooring = s.mooring := by
  unfold consentTold
  split
  · rfl
  · exact put_mooring ..

theorem consentTold_wake : s.consentTold.wake = s.wake := by
  unfold consentTold
  split
  · rfl
  · exact put_wake ..

/-- What a message to the partner leaves of what the votes are judged by. -/
theorem votes_toPartner (x : TowInput) : (s.toPartner x).votes = s.votes := by
  have hsources : (s.toPartner x).voteSources = s.voteSources :=
    voteSources_congr (by rw [toPartner_mu]) (by rw [toPartner_wake]) fun k _ _ => int_toPartner x k
  rw [votes, votes, hsources, toPartner_mooring]

theorem consentTold_entry (h : s.mooringState ≠ 2) : s.consentTold.int 0x340101 = if s.consents then 1 else 0 := by
  unfold consentTold
  rw [if_neg h]
  exact int_put_self ..

/-- Alone and without an override, a device consents when no vote is left (R260). -/
theorem consents_alone (hp : s.pairing = false) (ho : s.mooring.override = false) : s.consents = decide (s.votes = 0) := by
  simp [consents, hp, ho]

theorem judgeVotes_kept :
    s.judgeVotes.mooring = { s.mooring with held := BitVec.ofNat 8 s.votes } ∧ s.judgeVotes.wake = s.wake ∧
    (∀ k, k ≠ 0x340101 → k ≠ 0x340102 → s.judgeVotes.int k = s.int k) ∧ s.judgeVotes.int 0x340102 = s.votes := by
  have hvotes : s.votesKept.int 0x340102 = s.votes := (int_with_mooring ..).trans (int_put_self ..)
  obtain h | ⟨x, h⟩ := judgeVotes_cases (s := s)
  · rw [h, consentTold_mooring, consentTold_wake, int_consentTold (by decide), hvotes]
    exact ⟨rfl, rfl, fun k h1 h2 => (int_consentTold h1).trans (int_votesKept h2), rfl⟩
  · rw [h, consentTold_mooring, consentTold_wake, int_consentTold (by decide), int_toPartner, hvotes, toPartner_mooring,
      toPartner_wake]
    exact ⟨rfl, rfl, fun k h1 h2 => (int_consentTold h1).trans ((int_toPartner x k).trans (int_votesKept h2)), rfl⟩

theorem judgeVotes_state (hstate : s.int 0x340101 ≠ 2) (hp : s.pairing = false) (ho : s.mooring.override = false) :
    s.judgeVotes.int 0x340101 = if (s.votes : Int) = 0 then 1 else 0 := by
  have hkept : s.votesKept.mooringState ≠ 2 := by
    rw [mooringState, int_votesKept (by decide)]
    exact hstate
  obtain h | ⟨x, h⟩ := judgeVotes_cases (s := s)
  · rw [h, consentTold_entry hkept, show s.votesKept.consents = decide (s.votesKept.votes = 0) from consents_alone hp ho,
      votes_votesKept]
    simp
  · have hpartner : (s.votesKept.toPartner x).mooringState ≠ 2 := by
      rw [mooringState, int_toPartner]
      exact hkept
    rw [h, consentTold_entry hpartner, consents_alone (by rw [toPartner_pairing]; exact hp) (by rw [toPartner_mooring]; exact ho),
      votes_toPartner, votes_votesKept]
    simp

/-- A held vote dropped. -/
def voteDropped (s : State) (v : Nat) : State :=
  { s with mooring := { s.mooring with held := s.mooring.held &&& ~~~ BitVec.ofNat 8 (2 ^ v) } }

theorem votes_voteDropped (v : Nat) :
    (s.voteDropped v).votes = Nat.lor (s.mooring.held &&& ~~~ BitVec.ofNat 8 (2 ^ v)).toNat s.voteSources := rfl

theorem voteIdle_active {v : Nat} (h : s.voteSources.testBit v = true) : s.voteIdle v = s := if_pos h

theorem voteIdle_drops {v : Nat} (h : s.voteSources.testBit v = false) : s.voteIdle v = (s.voteDropped v).judgeVotes :=
  if_neg (by simp [h])

theorem voteDropped_bit {v : Nat} (hv : v < 8) (h : s.voteSources.testBit v = false) :
    (BitVec.ofNat 8 (s.voteDropped v).votes).getLsbD v = false := by
  have hor : (s.voteDropped v).votes = (s.mooring.held &&& ~~~ BitVec.ofNat 8 (2 ^ v)).toNat ||| s.voteSources := rfl
  rw [BitVec.getLsbD_ofNat, hor, Nat.testBit_or, h, Bool.or_false, BitVec.testBit_toNat, BitVec.getLsbD_and,
    BitVec.getLsbD_not, BitVec.getLsbD_ofNat, Nat.testBit_two_pow_self]
  simp [hv]

/-! ### The awake limit (R261) -/

/-- The limit counted and reported. -/
def awakeTold (s : State) : State := (s.bump 0x34010B).raise 11 0 0 s.votes

/-- The limited votes overridden from then on. -/
def overridden (s : State) : State := { s with mooring := { s.mooring with override := true } }

theorem int_overridden (k : Nat) : s.overridden.int k = s.int k := int_with_mooring ..

theorem votes_overridden : s.overridden.votes = s.votes := by
  have hsources : s.overridden.voteSources = s.voteSources := voteSources_congr rfl rfl fun k _ _ => int_overridden k
  rw [votes, votes, hsources]
  rfl

theorem awakeExpired_overrides (h : Nat.land s.votes s.limited ≠ 0) (ho : s.mooring.override = false) :
    s.awakeExpired = s.awakeTold.overridden.judgeVotes :=
  if_neg fun hlimit => hlimit.elim h (by rw [ho]; decide)

theorem int_awakeTold {k : Nat} (h : k < 0x350000) (hne : 0x34010B ≠ k) : s.awakeTold.int k = s.int k :=
  (int_raise _ _ _ _ _ h).trans (int_bump_past (by decide) hne)

theorem awakeTold_count : s.awakeTold.int 0x34010B = min (s.int 0x34010B + 1) 0xFFFFFFFF :=
  (int_raise _ _ _ _ _ (by decide)).trans (int_bump_self ..)

theorem awakeTold_parts : s.awakeTold.mu = s.mu ∧ s.awakeTold.wake = s.wake ∧ s.awakeTold.mooring = s.mooring := by
  simp only [awakeTold, raise_mu, bump_mu, raise_wake, bump_wake, raise_mooring, bump_mooring, and_self]

theorem votes_awakeTold : s.awakeTold.votes = s.votes := by
  obtain ⟨hmu, hwake, hmooring⟩ := awakeTold_parts (s := s)
  have hsources : s.awakeTold.voteSources = s.voteSources :=
    voteSources_congr (by rw [hmu]) hwake fun k hk hne => int_awakeTold hk (by omega)
  rw [votes, votes, hsources, hmooring]

theorem awakeExpired_parts (h : Nat.land s.votes s.limited ≠ 0) (ho : s.mooring.override = false) :
    s.awakeExpired.mooring.override = true ∧ s.awakeExpired.int 0x34010B = min (s.int 0x34010B + 1) 0xFFFFFFFF ∧
    s.awakeExpired.int 0x340102 = (s.votes : Nat) ∧ s.awakeExpired.wake = s.wake := by
  obtain ⟨hmooring, hwake, hkeep, hvotes⟩ := judgeVotes_kept (s := s.awakeTold.overridden)
  rw [awakeExpired_overrides h ho]
  refine ⟨?_, ?_, ?_, ?_⟩
  · rw [hmooring]
    rfl
  · rw [hkeep _ (by decide) (by decide), int_overridden, awakeTold_count]
  · rw [hvotes, votes_overridden, votes_awakeTold]
  · rw [hwake]
    exact awakeTold_parts.2.1

/-! ### What comes back to the lead (R263, R264) -/

theorem consentReceived_unkeyed {p : Nat} {c : Consent} (h : s.linkUpState p = false ∨ s.keyed p = false) :
    s.consentReceived p c = s := if_pos h

/-- A leadward vector of no agreed token is judged at the lead, and shown elsewhere. -/
theorem consentReceived_leadward {p : Nat} {c : Consent} (hup : s.linkUpState p = true) (hkey : s.keyed p = true)
    (hc : c.agreed = false) (hin : s.rearwardIn p = false) :
    s.consentReceived p c = if s.isLead then s.judgeReturned (chanNo p) c else s.put 0x340103 c.vector.toNat := by
  unfold consentReceived
  simp [hup, hkey, hc, hin]

/-- What came back of a token number, of both channels. -/
def returnNoted (s : State) (n : Nat) (ab : Nat × Nat) : State :=
  { s.put 0x340103 (Nat.lor ab.1 ab.2) with mooring := { s.mooring with returned := (n, ab) } }

theorem int_returnNoted {n : Nat} {ab : Nat × Nat} {k : Nat} (h : 0x340103 ≠ k) : (s.returnNoted n ab).int k = s.int k :=
  (int_with_mooring ..).trans (int_put_past _ (by decide) h)

theorem returnNoted_vector (n : Nat) (ab : Nat × Nat) : (s.returnNoted n ab).int 0x340103 = (Nat.lor ab.1 ab.2 : Nat) :=
  (int_with_mooring ..).trans (int_put_self ..)

/-- The first vector of a token number stands for itself, on either channel. -/
theorem judgeReturned_first {ch : Nat} {c : Consent} (h : s.mooring.returned.1 ≠ c.token.toNat) :
    ∃ ab : Nat × Nat, Nat.lor ab.1 ab.2 = c.vector.toNat ∧ s.judgeReturned ch c =
      let t := s.returnNoted c.token.toNat ab
      if Nat.land (t.nat 0x248101) (Nat.lor ab.1 ab.2) = t.nat 0x248101 ∧ t.muState = 0 ∧ t.int 0x243004 = 0 ∧
          t.mooringState ≠ 2 ∧ t.nat 0x248101 ≠ 0 then
        t.enterPreparing (((if t.passage = 63 then t.flight + 1 else t.flight) + 3) % 2 ^ 32) true
      else t := by
  by_cases hch : ch = 0
  · refine ⟨(Nat.lor 0 c.vector.toNat, 0), (Nat.or_zero _).trans (Nat.zero_or _), ?_⟩
    unfold judgeReturned
    simp only [if_neg h, if_pos hch]
    rfl
  · refine ⟨(0, Nat.lor 0 c.vector.toNat), (Nat.zero_or _).trans (Nat.zero_or _), ?_⟩
    unfold judgeReturned
    simp only [if_neg h, if_neg hch]
    rfl

/-- The mooring agreed: PREPARING with its flight (R267). -/
def preparingTold (s : State) (fm : Nat) : State := ((s.put 0x340101 2).put 0x340105 fm).raise 10 0 0 fm

theorem preparingTold_entries (fm : Nat) :
    (s.preparingTold fm).int 0x340101 = 2 ∧ (s.preparingTold fm).int 0x340105 = fm ∧
    (s.preparingTold fm).int 0x340103 = s.int 0x340103 := by
  refine ⟨?_, ?_, ?_⟩
  · exact (int_raise _ _ _ _ _ (by decide)).trans ((int_put_past _ (by decide) (by decide)).trans (int_put_self ..))
  · exact (int_raise _ _ _ _ _ (by decide)).trans (int_put_self ..)
  · exact (int_raise _ _ _ _ _ (by decide)).trans
      ((int_put_past _ (by decide) (by decide)).trans (int_put_past _ (by decide) (by decide)))

theorem preparingTold_mooring (fm : Nat) : (s.preparingTold fm).mooring = s.mooring := by
  simp only [preparingTold, raise_mooring, put_mooring]

/-- The agreement noted, with nothing late any more. -/
def agreedOn (s : State) (agreed : Bool) : State := { s with mooring := { s.mooring with agreed := agreed, late := none } }

theorem int_agreedOn (b : Bool) (k : Nat) : (s.agreedOn b).int k = s.int k := int_with_mooring ..

theorem enterPreparing_quiet {fm : Nat} {b : Bool} (h : s.mooringState ≠ 2) (hl : s.mooring.late = none) :
    s.enterPreparing fm b = (s.preparingTold fm).agreedOn b := by
  have hlate : (s.preparingTold fm).mooring.late = none := by rw [preparingTold_mooring, hl]
  unfold enterPreparing
  rw [if_neg h]
  change (match (s.preparingTold fm).mooring.late with
    | some d => ((s.preparingTold fm).agreedOn b).latchLate d
    | none => (s.preparingTold fm).agreedOn b) = _
  rw [hlate]

/-! ### The PHYs' sleep (R266, R268) -/

theorem powerDown_parts :
    s.powerDown.power.phase = .moored ∧ s.powerDown.power.inh = false ∧ s.powerDown.power.wakeOut = false ∧
    s.powerDown.wake.dwell = true ∧ s.powerDown.mram = s.mram ∧ s.powerDown.out = s.out := by
  obtain ⟨-, -, -, hout, hmram, -⟩ := logicReset_parts (s := s) 8
  exact ⟨rfl, rfl, rfl, rfl, hmram, hout⟩

/-- A PHY noted as asleep. -/
def sleepNoted (s : State) (p : Nat) : State :=
  { s with mooring := { s.mooring with slept := s.mooring.slept ||| BitVec.ofNat 4 (2 ^ p) } }

/-- While an enabled port has still to report, the sleep is noted alone (R266). -/
theorem phySlept_waits {p q : Nat} (hq : q < 4) (hon : s.int (Od.key (0x2410 + q) 1) ≠ 0)
    (hslept : (s.mooring.slept ||| BitVec.ofNat 4 (2 ^ p)).getLsbD q = false) : s.phySlept p = s.sleepNoted p := by
  refine if_neg fun h => ?_
  have hall := List.all_eq_true.mp h.1 q (List.mem_range.mpr hq)
  have hflag : (s.sleepNoted p).flag (Od.key (0x2410 + q) 1) = true := by
    simp only [flag]
    exact decide_eq_true hon
  change (!(s.sleepNoted p).flag (Od.key (0x2410 + q) 1) || (s.mooring.slept ||| BitVec.ofNat 4 (2 ^ p)).getLsbD q) = true at hall
  rw [hflag, hslept] at hall
  exact absurd hall (by decide)

/-! ### No stores from step 3 (R268) -/

theorem storesRun_of_entered (h : 3 ≤ s.mooring.stage) : s.storesRun = false := by simp only [storesRun, decide_eq_false_iff_not]; omega

theorem reportWrite_shut (h : s.storesRun = false) : s.reportWrite = s := if_pos h

theorem histStore_shut (h : s.storesRun = false) : s.histStore = s := if_pos (.inr h)

theorem commitStored_shut (h : s.storesRun = false) : s.commitStored = s := if_pos (.inr h)

end State

/-- Settles O56, by the judging of the votes, the vector that comes back to the lead, and the stores that no longer run. -/
theorem votesAndConsent : Obligations.VotesAndConsent := by
  refine ⟨?_, ?_, ?_, ?_, ?_, ?_, ?_, ?_, ?_, ?_⟩
  · intro s v hready hsource hstate
    obtain ⟨hmooring, -, -, hvotes⟩ := judgeVotes_kept (s := s.voteDropped v)
    refine ⟨_, congrArg Host.Outcome.next ((served_of_ready hready).trans (voteIdle_drops hsource)), ?_, ?_, ?_⟩
    · rw [hmooring]
      exact voteDropped_bit (by omega) hsource
    · rw [hvotes, votes_voteDropped]
    · intro hp ho
      rw [hvotes]
      exact judgeVotes_state (s := s.voteDropped v) hstate hp ho
  · exact fun s v h => congrArg Host.Outcome.next (served_eq_self (voteIdle_active h))
  · exact fun s hready h ho => ⟨_, congrArg Host.Outcome.next (served_of_ready hready), awakeExpired_parts h ho⟩
  · exact fun s p c h => congrArg Host.Outcome.next (served_eq_self (consentReceived_unkeyed h))
  · intro s p c hready hup hkey hc hin hlead
    refine ⟨_, congrArg Host.Outcome.next ((served_of_ready hready).trans
      ((consentReceived_leadward hup hkey hc hin).trans (if_neg (by rw [hlead]; decide)))), int_put_self .., ?_, put_mooring ..⟩
    exact int_put_past _ (by decide) (by decide)
  · intro s p c hready hup hkey hc hin hlead hall hmembers hmaking hrun hstate hfirst hlate
    obtain ⟨ab, hvector, hjudge⟩ := judgeReturned_first (ch := chanNo p.no) hfirst
    have hnoted : ∀ k, 0x340103 ≠ k → (s.returnNoted c.token.toNat ab).int k = s.int k := fun k => int_returnNoted
    have hmem : (s.returnNoted c.token.toNat ab).nat 0x248101 = s.nat 0x248101 := congrArg Int.toNat (hnoted _ (by decide))
    have hstate' : (s.returnNoted c.token.toNat ab).mooringState ≠ 2 := fun h => hstate ((hnoted _ (by decide)).symm.trans h)
    have hpassage : (s.returnNoted c.token.toNat ab).passage = s.passage := congrArg Int.toNat (hnoted _ (by decide))
    have hflight : (s.returnNoted c.token.toNat ab).flight = s.flight := congrArg Int.toNat (hnoted _ (by decide))
    have hgoes := hjudge.trans (if_pos ⟨by rw [hmem, hvector]; exact hall, (hnoted _ (by decide)).trans hmaking,
      (hnoted _ (by decide)).trans hrun, hstate', by rw [hmem]; exact hmembers⟩)
    have hprep := hgoes.trans (enterPreparing_quiet hstate' hlate)
    refine ⟨_, congrArg Host.Outcome.next ((served_of_ready hready).trans
      ((consentReceived_leadward hup hkey hc hin).trans ((if_pos hlead).trans hprep))), ?_, ?_, rfl, ?_⟩
    · rw [int_agreedOn]
      exact (preparingTold_entries _).1
    · rw [int_agreedOn, (preparingTold_entries _).2.2, returnNoted_vector, hvector]
    · rw [int_agreedOn, (preparingTold_entries _).2.1, hpassage, hflight]
  · intro s hready hstage
    exact ⟨_, congrArg Host.Outcome.next ((served_of_ready hready).trans (if_pos hstage)), powerDown_parts⟩
  · exact fun s _ h => congrArg Host.Outcome.next (served_eq_self (if_neg h))
  · intro s p hready
    refine ⟨_, congrArg Host.Outcome.next (served_of_ready hready), ?_⟩
    rintro ⟨q, hq, hon, hslept⟩
    rw [phySlept_waits hq hon hslept]
    exact ⟨rfl, rfl⟩
  · intro s h
    have hshut := storesRun_of_entered h
    exact ⟨congrArg Host.Outcome.next (served_eq_self (reportWrite_shut hshut)),
      congrArg Host.Outcome.next (served_eq_self (histStore_shut hshut)),
      congrArg Host.Outcome.next (served_eq_self ((ite_congr rfl (fun _ => rfl) fun _ => storeStored_shut s hshut).trans (ite_self s))),
      congrArg Host.Outcome.next (served_eq_self (commitStored_shut hshut))⟩

end Sys2Proof.Machine

/-!
SUPPORT. Frames that cross the line (R146, R155, R184, R246): a frame cut in its slot, a held frame at its egress, the
deviation a SYNC frame gives, and open water from the queue of an egress.
-/

namespace Sys2Proof.Machine

open State

namespace State

variable {s : State} {p idx : Nat}

/-- The held copies of a slot's frame from an ingress, marked as cut (R246). -/
def markCut (l : List Held) (p idx : Nat) : List Held :=
  l.map fun x => if x.inPort = p ∧ x.hdr.slotIndex = idx then { x with fcsGood := false } else x

theorem cutSlot_keyed (hup : s.linkUpState p = true) (hkey : s.keyed p = true) :
    s.cutSlot p idx = { s.bump (Od.key (0x2484 + p) 0x0A) with
      line := { s.line with heldFrames := markCut s.line.heldFrames p idx } } := by
  have hrec : keeperRec p + 0xA = Od.key (0x2484 + p) 0x0A := by simp [keeperRec, Od.key]
  unfold cutSlot
  rw [if_neg (by simp [hup, hkey]), hrec]
  rfl

/-! ### A held frame at its egress (R146, R249) -/

/-- The held frame taken out of the hold. -/
def unheld (s : State) (x : Held) : State := { s with line := { s.line with heldFrames := s.line.heldFrames.erase x } }

theorem releaseSlot_none
    (h : s.line.heldFrames.find? (fun x => decide (x.outPort = p ∧ x.hdr.slotIndex = idx)) = none) :
    s.releaseSlot p idx = s := by
  unfold releaseSlot
  rw [h]

/-- The frame as it leaves. -/
def heldSent (s : State) (p : Nat) (x : Held) : State :=
  ((s.unheld x).tookFree.leaves p x.hdr.length).emit (.slot p x.hdr x.fcsGood)

theorem releaseSlot_of_up {x : Held}
    (h : s.line.heldFrames.find? (fun x => decide (x.outPort = p ∧ x.hdr.slotIndex = idx)) = some x)
    (hup : s.linkUpState p = true) (hmay : s.mayTransmit (isHead x.hdr.ptype.toNat) = true) (hsync : x.sync = none) :
    s.releaseSlot p idx =
      if s.guardUnits / 2 < s.ctAt s.clock.counter (s.freeNat % 32) - x.egress then (s.unheld x).tookFree.gateRefuse
      else s.heldSent p x := by
  have hup' : (s.unheld x).tookFree.linkUpState p = true := hup
  have hmay' : (s.unheld x).tookFree.mayTransmit (isHead x.hdr.ptype.toNat) = true := hmay
  unfold releaseSlot
  rw [h]
  change (if (s.unheld x).tookFree.linkUpState p = false then (s.unheld x).tookFree
    else if (s.unheld x).tookFree.mayTransmit (isHead x.hdr.ptype.toNat) = false ∨
        s.guardUnits / 2 < s.ctAt s.clock.counter (s.freeNat % 32) - x.egress then (s.unheld x).tookFree.gateRefuse
    else match x.sync with
      | some (δ, corr, hops) => _
      | none => s.heldSent p x) = _
  rw [if_neg (by simp [hup']), hsync]
  simp only [hmay', Bool.true_eq_false, false_or]

theorem heldSent_parts (x : Held) :
    (s.heldSent p x).out = s.out ++ [.slot p x.hdr x.fcsGood] ∧
    (s.heldSent p x).line.heldFrames = s.line.heldFrames.erase x := by
  have hout : ((s.unheld x).tookFree.leaves p x.hdr.length).out = s.out := leaves_out ..
  have hline : ((s.unheld x).tookFree.frameLeaves p).line = (s.unheld x).line := frameLeaves_line ..
  refine ⟨congrArg (· ++ [Out.slot p x.hdr x.fcsGood]) hout, ?_⟩
  exact congrArg Line.heldFrames hline

/-! ### SYNC (R184, R186) -/

/-- A deviation kept of its order and channel, in place of an earlier one, and told to the partner (R186). -/
def deviationKept (s : State) (v : DevVal) : State :=
  ({ s with clock := { s.clock with
    vals := s.clock.vals.filter (fun (u : DevVal) => !(decide (u.order = v.order ∧ u.chan = v.chan))) ++ [v] } } : State).toPartner
      (.syncValue v.order v.chan v.d)

theorem deviationKept_parts (v : DevVal) :
    (s.deviationKept v).clock.vals.getLast? = some v ∧ (s.deviationKept v).od = s.od ∧ (s.deviationKept v).mu = s.mu := by
  simp only [deviationKept, toPartner_clock, toPartner_od, toPartner_mu, List.getLast?_append, List.getLast?_singleton,
    Option.some_or, and_self]

/-- What a SYNC frame leaves for its own forwarding (R184). -/
def syncPrepared (s : State) (p : Nat) (f : SyncFrame) (δ : Int) : State :=
  { s with line := { s.line with heldFrames := s.line.heldFrames.map (fun (x : Held) =>
    if x.inPort = p ∧ x.hdr.ptype = 1 ∧ x.hdr.slotIndex = f.slot then { x with sync := some (δ, f.correction, f.hops) } else x) } }

/-- The deviation of a SYNC frame: its stamp from the arrival that lies nearest (R184). -/
def deviation (s : State) (p w fine : Nat) : Int :=
  s.ctAt s.clock.counter fine - s.arrival p w (nearest (s.arrival p w) (s.ctAt s.clock.counter fine))

/-- A SYNC of another slot than 0, within the consist, gives its deviation and is prepared for forwarding. -/
theorem syncReceived_applied {f : SyncFrame} {fine w : Nat} (hup : s.linkUpState p = true) (hct : s.ctValid = true)
    (happ : s.mu.applied = true) (hslot : f.slot ≠ 0) (hok : s.syncOk p f = true)
    (hw : ((s.entry? (s.tableIn p) f.slot).map (·.start)).getD 0 = w) :
    s.syncReceived p f fine = (s.syncPrepared p f (s.deviation p w fine)).deviationKept
      { order := f.slot + 1, chan := f.channel, d := s.deviation p w fine + f.correction * 256 } := by
  subst hw
  have hok' : ∀ δ, (s.syncPrepared p f δ).syncOk p f = true := fun _ => hok
  unfold syncReceived
  simp only [hup, hct, happ, Bool.true_eq_false, or_self, if_false, Bool.not_true, if_neg hslot]
  exact if_pos (hok' _)

/-! ### Open water from the queue of an egress (R155) -/

/-- The egress queue with its first frame taken. -/
def owTaken (s : State) (p : Nat) (q : List OwItem) : State := s.setPl p { s.pl p with owQueue := q }

theorem owTaken_queue (q : List OwItem) : ((s.owTaken p q).pl p).owQueue = q := by rw [owTaken, pl_setPl_self]

/-- A frame that leaves sets the wire time of its port, and leaves its queue. -/
theorem pl_leaves (n : Nat) (hp : p < 4) :
    ((s.leaves p n).pl p).txUntil = s.clock.counter + wireTicks (s.nat (linkRec p + 5)) (90 + n) ∧
    ((s.leaves p n).pl p).owQueue = (s.pl p).owQueue := by
  have hrate : (s.frameLeaves p).nat (Od.key (0x2410 + p) 5) = s.nat (linkRec p + 5) := by
    rw [linkRec_add]
    exact congrArg Int.toNat (int_frameLeaves p (by simp only [Od.key]; omega) (by simp only [Od.key]; omega) hp)
  have hcounter : (s.frameLeaves p).clock = s.clock := by
    unfold frameLeaves
    dsimp only
    split <;> simp only [put_clock, bump_clock]
  have hpl : (s.frameLeaves p).pl p = s.pl p := congrArg (fun l : Line => Tab.get ({} : PortLine) l.ports p) (frameLeaves_line s p)
  simp only [leaves, pl_setPl_self, hrate, hcounter, hpl, and_self]

theorem pl_sendFrame (h : Header) (stamp : Int) (payload : List Byte) :
    (s.sendFrame p h stamp payload).pl p = ((s.slotAct h payload).leaves p payload.length).pl p := by
  unfold sendFrame
  dsimp only
  generalize (s.slotAct h payload).leaves p payload.length = t
  rfl

theorem slotAct_openWater {h : Header} (payload : List Byte) (ho : h.openWater = true) : s.slotAct h payload = s :=
  if_pos (.inl ho)

theorem owSend_fits {x : OwItem} {q : List OwItem} (hq : (s.pl p).owQueue = x :: q) (hup : s.linkUpState p = true)
    (hkey : s.keyed p = true) (hfits : s.owFits p (wireTicks (s.nat (linkRec p + 5)) (90 + x.bytes)) = true)
    (hs : s.silenced = false) :
    s.owSend p = match x.own with
      | some b => (s.owTaken p q).sendFrame p ((s.owTaken p q).headerOf p (owPayload x.otype) none b.length) s.ctNow b
      | none => ((s.owTaken p q).leaves p x.bytes).emit (.openWater p x.otype x.bytes x.header) := by
  unfold owSend
  rw [hq]
  exact if_pos ⟨hup, hkey, hfits, hs⟩

/-- A forwarded frame leaves as it came. -/
theorem owSend_forwarded {x : OwItem} {q : List OwItem} (hp : p < 4)
    (h : s.owSend p = ((s.owTaken p q).leaves p x.bytes).emit (.openWater p x.otype x.bytes x.header)) :
    ((s.owSend p).pl p).owQueue = q ∧ (s.owSend p).out = s.out ++ [.openWater p x.otype x.bytes x.header] ∧
    ((s.owSend p).pl p).txUntil = s.clock.counter + wireTicks (s.nat (linkRec p + 5)) (90 + x.bytes) := by
  have hout : ((s.owTaken p q).leaves p x.bytes).out = s.out := leaves_out ..
  obtain ⟨htx, hqueue⟩ := pl_leaves (s := s.owTaken p q) x.bytes hp
  rw [h]
  exact ⟨hqueue.trans (owTaken_queue q), congrArg (· ++ [Out.openWater p x.otype x.bytes x.header]) hout, htx⟩

/-- An own frame leaves under its header and the CT of its start (R159). -/
theorem owSend_own {x : OwItem} {q : List OwItem} {b : List Byte} (hp : p < 4)
    (h : s.owSend p =
      (s.owTaken p q).sendFrame p ((s.owTaken p q).headerOf p (owPayload x.otype) none b.length) s.ctNow b) :
    ((s.owSend p).pl p).owQueue = q ∧
    ((s.owSend p).pl p).txUntil = s.clock.counter + wireTicks (s.nat (linkRec p + 5)) (90 + b.length) ∧
    ∃ frame, (s.owSend p).out = s.out ++ [.own p (s.headerOf p (owPayload x.otype) none b.length) s.fuses.identity
      (s.sequenceOf p (owPayload x.otype)) (s.ctNow / 65536 % 2 ^ 32) frame] := by
  have hheader : (s.owTaken p q).headerOf p (owPayload x.otype) none b.length =
      s.headerOf p (owPayload x.otype) none b.length := rfl
  have htype : (s.headerOf p (owPayload x.otype) none b.length).ptype.toNat = owPayload x.otype := by
    cases x.otype <;> rfl
  have hpl := pl_sendFrame (s := s.owTaken p q) (p := p) (s.headerOf p (owPayload x.otype) none b.length) s.ctNow b
  rw [slotAct_openWater b rfl] at hpl
  obtain ⟨htx, hqueue⟩ := pl_leaves (s := s.owTaken p q) b.length hp
  rw [h, hheader, hpl, sendFrame_out, htype]
  exact ⟨hqueue.trans (owTaken_queue q), htx, _, rfl⟩

/-- The one clause that turns on a free value: a held frame that is in time at the start of its tick leaves (R146, R249). -/
def ReleasedInTime : Prop :=
  ∀ (s : State) (p : Cpl) (idx : Fin 256) (x : Held), s.isReady = true →
    s.line.heldFrames.find? (fun x => decide (x.outPort = p.no ∧ x.hdr.slotIndex = idx.val)) = some x →
    s.linkUpState p.no = true → s.mayTransmit (isHead x.hdr.ptype.toNat) = true →
    s.ctNow - x.egress ≤ s.guardUnits / 2 → x.sync = none →
    ∃ t, exec (.slotForwardRelease p idx) s = .next t ∧ t.out = s.out ++ [.slot p.no x.hdr x.fcsGood] ∧
      t.line.heldFrames = s.line.heldFrames.erase x

/-! ### A frame in time at the start of its tick alone -/

/-- The held frame of the state below. -/
def tickFrame : Held :=
  { inPort := 2, outPort := 0, egress := 0
    hdr := { ptype := 6, channel := .a, dir := .rearward, berth := 1, mode := 0, flight := 0, passage := 0, slotIndex := 0,
             length := 0, hash := 0 } }

/-- READY in step on a link that is up, CT at 0, no guard band, and a frame held for CT 0. -/
def tickState (n : Nat) : State :=
  { fuses := { identity := 5 }, free := n, power := { phase := .ready }
    od := [(0x240006, .num 0), (0x241004, .num 2), (0x260001, .num 2)]
    line := { heldFrames := [tickFrame], gateRefusedIn := some 0 } }

/-- What the state meets: the clause's hypotheses, with CT just at the egress instant. -/
def TickMet (s : State) : Prop :=
  s.isReady = true ∧
  s.line.heldFrames.find? (fun x => decide (x.outPort = 0 ∧ x.hdr.slotIndex = 0)) = some tickFrame ∧
  s.linkUpState 0 = true ∧ s.mayTransmit (isHead tickFrame.hdr.ptype.toNat) = true ∧
  s.ctNow - tickFrame.egress = 0 ∧ s.guardUnits / 2 = 0 ∧ (s.unheld tickFrame).tookFree.flight = 0

theorem tickState_zero : (tickState 0).TickMet := by
  unfold TickMet
  decide +kernel

/-- None of it reads the counter of free values. -/
theorem tickState_meets (n : Nat) : (tickState n).TickMet := tickState_zero

theorem read_past_tick : ∀ f < 32, f ≠ 0 → 0 < ({} : View).read 0 f := by decide

/-- Past the start of its tick the frame is late, and the own gate refuses it. -/
theorem tickState_late {n : Nat} (h : Config.freeNat n % 32 ≠ 0) : ((tickState n).releaseSlot 0 0).out = [] := by
  obtain ⟨-, hheld, hup, hmay, -, hguard, hflight⟩ := tickState_meets n
  have hlate : (tickState n).guardUnits / 2 <
      (tickState n).ctAt (tickState n).clock.counter ((tickState n).freeNat % 32) - tickFrame.egress := by
    rw [hguard]
    exact read_past_tick _ (Nat.mod_lt _ (by decide)) h
  rw [releaseSlot_of_up hheld hup hmay rfl, if_pos hlate,
    gateRefuse_again (show ((tickState n).unheld tickFrame).tookFree.line.gateRefusedIn = some _ by rw [hflight]; rfl)]
  exact bump_out ..

/-- The clause holds exactly where every free fine part is the start of its tick. -/
theorem releasedInTime_iff : ReleasedInTime ↔ ∀ n, Config.freeNat n % 32 = 0 := by
  constructor
  · intro h n
    by_contra hn
    obtain ⟨hready, hheld, hup, hmay, hin, hguard, -⟩ := tickState_meets n
    obtain ⟨t, hexec, hout, -⟩ := h (tickState n) .fa 0 tickFrame hready hheld hup hmay (by rw [hin, hguard]) rfl
    have ht : t = (tickState n).releaseSlot 0 0 := by
      have hserved : exec (.slotForwardRelease .fa 0) (tickState n) = .next ((tickState n).releaseSlot 0 0) :=
        congrArg Host.Outcome.next (served_of_ready hready)
      rw [hserved] at hexec
      injection hexec with heq
      exact heq.symm
    rw [ht, tickState_late hn] at hout
    exact absurd hout (by simp)
  · intro h s p idx x hready hheld hup hmay hin hsync
    have hfine : s.freeNat % 32 = 0 := h _
    refine ⟨_, congrArg Host.Outcome.next ((served_of_ready hready).trans ?_), heldSent_parts x⟩
    rw [releaseSlot_of_up hheld hup hmay hsync, hfine]
    exact if_neg (Int.not_lt.mpr hin)

end State

/-- What O14 hangs on. Every clause but the forwarding one holds; that one compares the egress instant with CT at the start
of the tick, where the hardware stamp has a fine part of its own, a free value (log 3) that no proof can know. -/
theorem framesCrossTheLine_iff : Obligations.FramesCrossTheLine ↔ ∀ n, Config.freeNat n % 32 = 0 := by
  refine ⟨fun h => releasedInTime_iff.mp h.2.1, fun h => ⟨?_, releasedInTime_iff.mpr h, ?_, ?_, ?_, ?_⟩⟩
  · exact fun s p idx hready hup hkey => congrArg Host.Outcome.next ((served_of_ready hready).trans (cutSlot_keyed hup hkey))
  · exact fun s p idx _ h => congrArg Host.Outcome.next (served_eq_self (releaseSlot_none h))
  · intro s p f fine w hready hup hct happ hslot hok hw
    obtain ⟨hlast, hod, hmu⟩ := deviationKept_parts (s := s.syncPrepared p.no f (s.deviation p.no w fine))
      { order := f.slot + 1, chan := f.channel, d := s.deviation p.no w fine + f.correction * 256 }
    exact ⟨_, _, congrArg Host.Outcome.next ((served_of_ready hready).trans
      (syncReceived_applied hup hct happ hslot hok hw)), hlast, rfl, rfl, rfl, rfl, hod, hmu⟩
  · intro s p x q hready hq hup hkey hfits hs
    have hp : p.no < 4 := by cases p <;> decide
    have hexec : exec (.openWaterSend p) s = .next (s.owSend p.no) := congrArg Host.Outcome.next (served_of_ready hready)
    have hsend := owSend_fits hq hup hkey hfits hs
    cases hown : x.own with
    | none =>
      rw [hown] at hsend
      obtain ⟨hqueue, hout, htx⟩ := owSend_forwarded hp hsend
      exact ⟨_, [], hexec, hqueue, fun _ => ⟨hout, htx⟩, fun _ h => absurd h (by simp)⟩
    | some b =>
      rw [hown] at hsend
      obtain ⟨hqueue, htx, frame, hout⟩ := owSend_own hp hsend
      refine ⟨_, frame, hexec, hqueue, fun h => absurd h (by simp), fun b' h => ?_⟩
      cases h
      exact ⟨hout, htx⟩
  · intro s u p f fine hready hup hu hkey hkeeper hjudge hhash hfcs hicv
    exact congrArg Host.Outcome.next ((served_of_ready hready).trans
      (owReceived_of_accepted hup hu hkey (by rw [hkeeper]; decide) hjudge hhash hfcs hicv))

end Sys2Proof.Machine
